-- ==== Sys2Proof/Word.lean ====
section
/-! DEFINITION. The word types of the module and their plainest arithmetic (R6, R7, *Event tables, state tables and
pseudocode*: `x[h:l]` and `sat(v, lo, hi)`). -/

namespace Sys2Proof

/-- A 32-bit word: a register, a Dervos register or a word of a window (R8). -/
abbrev Word := BitVec 32

/-- A byte of a memory. -/
abbrev Byte := BitVec 8

/-- A value as two's complement in `w` bits. -/
def ofSigned (w : Nat) (i : Int) : Nat := (i % (2 ^ w : Nat)).toNat

/-- The signed value of the low `w` bits of `n`. -/
def toSigned (w n : Nat) : Int :=
  let m := n % 2 ^ w
  if 2 ^ (w - 1) ≤ m then (m : Int) - (2 ^ w : Nat) else m

/-- `sat(v, lo, hi)` of the pseudocode: v limited to lo to hi. -/
def satInt (v lo hi : Int) : Int := if v < lo then lo else if hi < v then hi else v

/-- The nearest value of lo to hi (R429: clamped to the nearest legal value). -/
def clampNat (v lo hi : Nat) : Nat := if v < lo then lo else if hi < v then hi else v

/-- `x[hi:lo]` of the pseudocode. -/
def bits (x hi lo : Nat) : Nat := (x / 2 ^ lo) % 2 ^ (hi + 1 - lo)

/-- A Boolean as a one-bit field. -/
def bit (b : Bool) : Nat := if b then 1 else 0

/-- `m` with bit `n` set. -/
def maskSet (m n : Nat) : Nat := m ||| 2 ^ n

/-- `m` with bit `n` cleared. -/
def maskClr (m n : Nat) : Nat := if m.testBit n then m - 2 ^ n else m

/-- `a / b` rounded up (0 where b is 0). -/
def ceilDiv (a b : Nat) : Nat := if b = 0 then 0 else (a + b - 1) / b

/-- One more, saturating at the largest value of `w` bits. -/
def satSucc (w n : Nat) : Nat := if n + 1 < 2 ^ w then n + 1 else 2 ^ w - 1

/-- The sum, saturating at the largest value of `w` bits. -/
def satAdd (w n k : Nat) : Nat := if n + k < 2 ^ w then n + k else 2 ^ w - 1

/-- Is `t` in the half-open window [lo, hi) (R39)? -/
def inWindow (lo hi t : Nat) : Bool := decide (lo ≤ t) && decide (t < hi)

end Sys2Proof
end

