-- ==== Sys2Proof/Config.lean ====
section
/-! DEFINITION. What the spec leaves open, as constants with no body: nothing in Lean can evaluate one or prove a
value of one, so a claim that holds, holds whatever the hardware gives. Each is named in the assumption log. -/

namespace Sys2Proof.Config

/-- A fresh open value, indexed by the draw counter `State.freeCtr` (log entry 4): random numbers, nonces, keys and
every other value the spec does not state. A use takes it modulo the size of what it fills. -/
opaque freeValue : Nat → Nat

/-- The factory calibration of a port's RX_LAT in 0.25 ns units (R284: the factory calibrates both per port). -/
opaque rxLat : Nat → Nat

/-- The factory calibration of a port's TX_LAT in 0.25 ns units (R284). -/
opaque txLat : Nat → Nat

/-- The factory baseline of a channel's Rds(on) at 25 °C in µΩ (R70). -/
opaque rdsBaseline : Nat → Nat

/-- The device public-key and secret functions the spec names by algorithm and does not restate: a tag or wrap of
`data` under the key material `key` (AES-256 key wrap, HMAC-SHA-256, AES-256-GCM), as a byte sequence. -/
opaque keyedBytes : Nat → Nat → List Nat → List Nat

/-- SHA-256 of a byte sequence as one big-endian number (R473): the spec names the algorithm and does not restate it. -/
opaque sha256 : List Nat → Nat

/-- The pairing digest: SHA-256 over the values R138 names, whose layout the spec does not state. -/
opaque pairDigest : List Nat → Nat

/-- Do SIG_EC and SIG_PQ verify under a pin of the PUBKEY_PIN layout (R133, R200, R349, R359, R367)? The arguments are the 64
bytes of the pin, the signed bytes and the bytes of the signatures; the spec names the algorithms and does not restate them. -/
opaque sigsOk : List Nat → List Nat → List Nat → Bool

/-- The published test root (R361), whose value the spec does not give. -/
opaque testRoot : Nat

/-- The Ethernet address of the module of an MID, which pair frames and network-management frames carry; the spec gives
none. -/
opaque moduleMac : Nat → Nat

/-- The bucket of the forwarding database that a VLAN and an address fall into (HALL_FDB_CMD names buckets and gives neither
their number nor the hash). -/
opaque fdbBucket : Nat → Nat → Nat

/-- How many entries a bucket of the forwarding database holds. -/
opaque fdbWays : Nat

end Sys2Proof.Config
end

