-- ==== Sys2Proof/Syntax.lean ====
section
/-! DEFINITION. The commands of the module, one constructor of `Instr` for each row of the table of operations and
events, with the operands each carries. Every command but a Dervos instruction carries `t`, the FRC instant in ns at
which its event was captured (R40, R41); an access to a register carries the attributes of its transaction (R29). -/

namespace Sys2Proof

/-- The domain tag of a transaction (*Table: Attribute sources*, R341). -/
inductive Dom where | hub | lane | engine
  deriving DecidableEq, Repr

/-- The attributes every bus transaction carries (R29, R341): the world bit (true = Attic), the 6-bit instance and the
domain tag. -/
structure Attr where
  attic : Bool
  inst  : Nat
  dom   : Dom
  deriving DecidableEq, Repr
/-- The three lanes (R71), in the order of R38. -/
inductive LaneId where | a | b | c
  deriving DecidableEq, Repr

/-- An agreed input image as PAIR_IMG carries it (R146). -/
structure Agreed0 where
  din   : Nat
  ain   : List Int
  tiles : List Nat
  vin   : List (Nat × Nat)
  deriving DecidableEq, Repr

/-- What a lane's own front-ends read at its boundary (R79): the voltages of U0 to U15 in mV, their values in the unit of the
pin mode, their faults (R164) as masks of OVER, UNDER, OPEN, SHORT and SUPPLY from bit 0 up, tile status words in the order of
the image, the VIN words that reached it altered on their way from LANEIF, and the partner's image where that reached it
altered (R25). -/
structure Sensed where
  volt     : List Int
  ain      : List Int
  diag     : List Nat
  tiles    : List Nat
  vinRead  : List (Nat × Nat)
  pairRead : Option Agreed0
  deriving DecidableEq, Repr

/-- The frames of the inter-lane links (R73). -/
inductive FrameKind where | marker | input | output | precopy | finalCopy | abort
  deriving DecidableEq, Repr

/-- A function-block scan (R123, R124) or a write that a task's native code performs. Identifiers are variable IDs. -/
inductive ProgOp where
  | set (var value : Nat)
  | ton (inst : Nat) (in' : Bool) (pt : Nat) (q et : Nat)
  | tof (inst : Nat) (in' : Bool) (pt : Nat) (q et : Nat)
  | tp (inst : Nat) (in' : Bool) (pt : Nat) (q et : Nat)
  | ctu (inst : Nat) (cu r : Bool) (pv : Nat) (q cv : Nat)
  | ctd (inst : Nat) (cd ld : Bool) (pv : Nat) (q cv : Nat)
  | ctud (inst : Nat) (cu cd r ld : Bool) (pv : Nat) (qu qd cv : Nat)
  | rTrig (inst : Nat) (clk : Bool) (q : Nat)
  | fTrig (inst : Nat) (clk : Bool) (q : Nat)
  deriving DecidableEq, Repr

/-- The run of one task: its number, its measured time in µs and what its code does. -/
structure TaskRun where
  task : Nat
  us   : Nat
  ops  : List ProgOp
  deriving DecidableEq, Repr

/-- A cause of *Table: Exclusion causes* that a lane finds in itself. -/
inductive SelfFault where | lockstep | memEcc | supply
  deriving DecidableEq, Repr

/-- A line of a lane at the tiles: the command line of a channel, the permissive line of a tile, or AUTH_REQ. -/
inductive LineKind where | cmd (n : Nat) | permit (tile : Nat) | authReq
  deriving DecidableEq, Repr
/-- A variable of a program's VARTAB (R105), with its declared initial value. -/
structure VarDecl where
  id       : Nat
  typ      : Nat
  size     : Nat
  offset   : Nat
  cls      : Nat          -- 0 input, 1 output, 2 internal
  carried  : Bool
  retained : Bool
  vital    : Bool
  init     : Nat
  deriving DecidableEq, Repr

/-- A task of TASKTAB (R110). -/
structure TaskDecl where
  num   : Nat
  mult  : Nat             -- log2 of the multiple
  phase : Nat
  wcet  : Nat
  deriving DecidableEq, Repr

/-- A binding of IOMAP: a variable to a place; `q` is the variable that takes the input's quality bit (R474), 0 for none. -/
inductive IoBind where
  | din (u var q : Nat) | ain (u var q : Nat) | vin (w var q : Nat)
  | cmd (n var : Nat) | permit (tile var : Nat) | vout (w var : Nat)
  deriving DecidableEq, Repr

/-- A program image (R105) as the loader finds it. -/
structure Program where
  hash        : Nat
  codeLen     : Nat
  dataLen     : Nat
  carriedSize : Nat
  retainedLen : Nat
  units       : Nat
  vars        : List VarDecl
  tasks       : List TaskDecl
  io          : List IoBind
  deriving DecidableEq, Repr

/-- A voted output image as PAIR_OUT carries it (R146). -/
structure Output0 where
  cmd    : Nat
  permit : Nat
  vout   : List (Nat × Nat)
  sign   : Nat
  deriving DecidableEq, Repr

/-- What a PAIR_COPY frame carries (R151): blocks of 256 bytes of the carried region by their number, and whether it is the
final copy. -/
structure PairCopy where
  blocks : List (Nat × List Nat)
  final  : Bool
  deriving DecidableEq, Repr
/-- A frame from a station (R168): whether its FCS passes, its EtherType, and its bytes (*Table: RESP frame*) without the
padding that a short Ethernet frame carries. -/
structure StnResp where
  fcsOk : Bool
  etype : Nat
  bytes : List Nat
  deriving DecidableEq, Repr
/-- An entry of a queue or port (R182): the fields of its header and its payload words. -/
structure Entry where
  inst    : Nat
  status  : Nat
  payload : List Nat
  deriving DecidableEq, Repr

/-- A Dervos image (R199) with the verdicts of the checks of R200 on its bytes: `formatOk` is check 1, `pins` the firmware key pins
0 to 3 under which both signatures verify (check 4, R359), `hashOk` check 5. -/
structure EngLoad where
  formatOk : Bool
  cls      : Nat
  cl       : Nat
  pins     : List Nat
  hashOk   : Bool
  hash     : Nat
  entry    : Nat
  code     : List Nat        -- words
  data     : List Nat        -- bytes
  deriving DecidableEq, Repr
/-- A source frame offered to the classifier (R202): its captured instant (R40), its source code, frame ID, format and data. -/
structure SrcFrame where
  cap  : Nat
  src  : Nat
  id   : Nat
  xtd  : Bool
  fd   : Bool
  xl   : Bool
  data : List Nat
  deriving DecidableEq, Repr
/-- A PTP message in a frame (R286 to R290). `corr` is correctionField in 2^-16 ns. -/
structure PtpMsg where
  msgType : Nat
  domain  : Nat
  seq     : Nat
  udp     : Bool
  twoStep : Bool
  seconds : Nat
  nanos   : Nat
  corr    : Int
  udpSum  : Nat
  deriving DecidableEq, Repr

/-- The MACsec protection of a frame (R249): its secure channel (0 transmit, 1 to 8 receive), its association number, its
packet number and whether its integrity check value is right. -/
structure Protection where
  chan  : Nat
  an    : Nat
  pn    : Nat
  icvOk : Bool
  deriving DecidableEq, Repr

/-- An Ethernet frame. `len` runs from the destination address through the FCS; `tag` is PCP, DEI and VID; `ttdp` says
that it is a train-topology frame (R251); `send` holds PORT and FLAGS of the send tag (R287). -/
structure EthFrame where
  da    : Nat
  sa    : Nat
  etype : Nat
  len   : Nat
  tag   : Option (Nat × Nat × Nat)
  fcsOk : Bool
  ttdp  : Bool
  ptp   : Option PtpMsg
  rtag  : Option Nat
  msec  : Option Protection
  send  : Option (Nat × Nat)
  data  : List Nat
  deriving DecidableEq, Repr
/-- A CAN frame as it was valid on the bus (*Table: CAN element*). -/
structure CanFrame where
  xtd  : Bool
  rtr  : Bool
  id   : Nat
  fdf  : Bool
  brs  : Bool
  esi  : Bool
  xlf  : Bool
  sec  : Bool
  af   : Nat
  vcid : Nat
  sdt  : Nat
  data : List Nat
  deriving DecidableEq, Repr

/-- A bus error as ISO 11898-1 counts it: CODE and PHASE of CAN_ERR_LAST, its direction, and what it adds to TEC or REC. -/
structure CanErr where
  code    : Nat
  sending : Bool
  phase   : Nat
  inc     : Nat
  deriving DecidableEq, Repr
/-- The NM messages (R302). -/
inductive NmType where | keepalive | token | ready | need
  deriving DecidableEq, Repr
/-- A section of a migration blob (*Table: Section types*). -/
inductive MigSection where
  | inst (cfg qshare flt cir pir burst : Nat) (pids : List Nat)
  | hwq (q cfg : Nat) (words : List Nat)
  | ring (r : Nat) (words : List Nat) (done : Nat) (elements : List (List Nat))
  | filter (base cnt : Nat) (words : List Nat)
  | gwCheck (hash : Nat) (routes : List Nat)
  | stair (pwe orph : List (List Nat)) (wseq : Nat × Nat)
  | unknown (typ : Nat) (critical : Bool)
  deriving DecidableEq, Repr

/-- A migration blob (R337): its header fields and its sections, in order. -/
structure MigBlob where
  cl       : Nat
  flags    : Nat
  srcMid   : Nat
  srcInst  : Nat
  world    : Nat
  freezeT  : Nat
  nonce    : Nat
  sections : List MigSection
  deriving DecidableEq, Repr
/-- The debug token presented on the debug pairs of J3 (R360): the firmware key pins 0 to 3 under which both signatures verify, MID
and DBG_CNT. -/
structure DebugToken where
  pins   : List Nat
  mid    : Nat
  dbgCnt : Nat
  deriving DecidableEq, Repr
/-- A copy of the Attic firmware (R359): the pins under which both its signatures verify, and its security version. -/
structure FwCopy where
  pins    : List Nat
  version : Nat
  deriving DecidableEq, Repr
/-- A start-up stage that completes (*Table: Start-up stages*), with the facts its work has found: at S2 the debug token
presented (R360) and the two firmware copies (R359); at S5 the channel program image (R178); at S6 the
lanes that are synchronised and the program hash that each lane computed; at S7 the cell voltage in mV. -/
inductive StageEnd where
  | s1
  | s2 (debug : Option DebugToken) (fwA fwB : FwCopy)
  | s3
  | s4
  | s5 (prog : EngLoad)
  | s6 (synced : List LaneId) (hA hB hC : Nat)
  | s7 (vHold : Nat)
  deriving DecidableEq, Repr
/-- What a cartridge returns when it is authenticated (R390, R404): the verdict of the checks, and the serial number, life
counters and measured values of its identity element; `ours` says that its log continues the chain the Cellar holds. -/
structure CartId where
  ok       : Bool
  serial   : Nat
  ageDays  : Nat
  events   : Nat
  cMeas    : Nat
  esr      : Nat
  wear     : Nat
  ours     : Bool
  deriving DecidableEq, Repr
/-- A record of a setup image (R423, *Table: Data keys*). -/
inductive SetupRec where
  | field (lsb width addr value : Nat)
  | station (seg stn inLen outLen wd : Nat) (subst : List Nat)
  | chanImage (hash : Nat)
  | vinSafe (words : List (Nat × Nat))
  deriving DecidableEq, Repr

/-- A setup image (R422) as the loader finds it, with its verdicts on what lies outside the decoded fields: `formatOk` for
MAGIC, FORMAT, lengths and the form of every record, `pins` for the pins under which both signatures verify (R425, R359), `hashOk` for
BODY_HASH. -/
structure SetupImage where
  formatOk : Bool
  cl       : Nat
  mid      : Nat
  version  : Nat
  floor    : Nat
  bodyHash : Nat
  pins     : List Nat
  hashOk   : Bool
  records  : List SetupRec
  deriving DecidableEq, Repr

/-- The rows of the table of operations and events (spec/opcode_table.json). -/
inductive Instr where
  /-- `REGISTER_WRITE` (R9). -/
  | registerWrite (t : Nat) (a : Attr) (core : Option Nat) (addr size : Nat) (value : Word)
  /-- `INPUT_BUS_FALL_14V` (R31). -/
  | inputBusFall14v (t : Nat)
  /-- `INPUT_BUS_RISE_14V` (R31). -/
  | inputBusRise14v (t : Nat) (vBus : Nat)
  /-- `POWER_FAIL_DECLARED` (R31). -/
  | powerFailDeclared (t : Nat)
  /-- `PF_STEP_COMPLETE` (R32). -/
  | pfStepComplete (t : Nat) (step : Nat)
  /-- `PF_STEP_BOUND_EXPIRY` (R384). -/
  | pfStepBoundExpiry (t : Nat) (step : Nat)
  /-- `PF_GRACE_EXPIRY` (R385). -/
  | pfGraceExpiry (t : Nat)
  /-- `PF_DONE` (R385). -/
  | pfDone (t : Nat) (a : Attr) (value : Word)
  /-- `HOLDUP_CUT` (R386). -/
  | holdupCut (t : Nat)
  /-- `BUS_LOW_CHANGE` (R372). -/
  | busLowChange (t : Nat) (vBus : Nat)
  /-- `BUS_BELOW_9V` (R372). -/
  | busBelow9v (t : Nat)
  /-- `UNDERVOLT_DETECT` (R369). -/
  | undervoltDetect (t : Nat) (vBus : Nat)
  /-- `OVERVOLT_DETECT` (R373). -/
  | overvoltDetect (t : Nat) (vBus : Nat)
  /-- `FEED_CURRENT_WINDOW` (R368). -/
  | feedCurrentWindow (t : Nat) (feed : Nat) (mean : Nat) (v : Int) (active : Bool)
  /-- `CELLAR_FLOOR` (R369). -/
  | cellarFloor (t : Nat)
  /-- `START_QUALIFIED` (R369). -/
  | startQualified (t : Nat) (vBus : Nat)
  /-- `STARTUP_STAGE_COMPLETE` (R377). -/
  | startupStageComplete (t : Nat) (e : StageEnd)
  /-- `HOLDUP_WAIT_TIMEOUT` (R378). -/
  | holdupWaitTimeout (t : Nat)
  /-- `HALTED_TIMEOUT` (R375). -/
  | haltedTimeout (t : Nat)
  /-- `SCRUB_PASS` (R381). -/
  | scrubPass (t : Nat) (corr : Nat) (recSeqs : List Nat) (lanes : List LaneId) (restoreUe tokenUe : Bool)
  /-- `DRAM_SUPPLY_FAIL` (R382). -/
  | dramSupplyFail (t : Nat)
  /-- `CLOCK_ON` (R388). -/
  | clockOn (t : Nat) (a : Attr) (gate : Nat)
  /-- `CLOCK_OFF` (R388). -/
  | clockOff (t : Nat) (a : Attr) (gate : Nat) (idle : Bool)
  /-- `POWER_ON` (R388). -/
  | powerOn (t : Nat) (a : Attr) (gate : Nat)
  /-- `POWER_OFF` (R388). -/
  | powerOff (t : Nat) (a : Attr) (gate : Nat) (idle : Bool)
  /-- `CURVE_APPLY` (R49). -/
  | curveApply (t : Nat) (a : Attr) (n : Nat)
  /-- `FAULT_CLR` (R69). -/
  | faultClr (t : Nat) (a : Attr) (n : Nat)
  /-- `HUB_CMD_WRITE` (R26). -/
  | hubCmdWrite (t : Nat) (a : Attr) (n : Nat) (on : Bool)
  /-- `CH_CONFIG_WRITE` (R55). -/
  | chConfigWrite (t : Nat) (a : Attr) (n : Nat) (pwm : Bool) (value : Word)
  /-- `CH_PROFILE_WRITE` (R43). -/
  | chProfileWrite (t : Nat) (a : Attr) (n : Nat) (value : Word)
  /-- `CH_FUSE_WRITE` (R49). -/
  | chFuseWrite (t : Nat) (a : Attr) (n k : Nat) (value : Word)
  /-- `BUDGET_WRITE` (R63). -/
  | budgetWrite (t : Nat) (a : Attr) (value : Word)
  /-- `FAULT_NEXT_READ` (R10). -/
  | faultNextRead (t : Nat) (a : Attr) (peek : Bool)
  /-- `COMMAND_ON` (R60). -/
  | commandOn (t : Nat) (n vOut vBus : Nat)
  /-- `COMMAND_OFF` (R44). -/
  | commandOff (t : Nat) (n : Nat)
  /-- `BUDGET_TICK` (R59). -/
  | budgetTick (t : Nat)
  /-- `RAMP_WINDOW_CLOSE` (R58). -/
  | rampWindowClose (t : Nat) (n : Nat)
  /-- `INRUSH_WINDOW_CLOSE` (R58). -/
  | inrushWindowClose (t : Nat) (n : Nat)
  /-- `START_WAIT_EXPIRY` (R61). -/
  | startWaitExpiry (t : Nat) (n : Nat)
  /-- `WAKE_SLOT_END` (R317). -/
  | wakeSlotEnd (t : Nat)
  /-- `SHORT_CIRCUIT_CUT` (R47). -/
  | shortCircuitCut (t : Nat) (n : Nat) (i10mA : Int)
  /-- `FUSE_EVAL_TICK` (R48). -/
  | fuseEvalTick (t : Nat) (n : Nat) (i10mA fast : Int)
  /-- `OVER_TEMP_DETECTED` (R68). -/
  | overTempDetected (t : Nat) (n : Nat) (tj : Int)
  /-- `REV_CURRENT_DETECTED` (R68). -/
  | revCurrentDetected (t : Nat) (n : Nat) (i10mA : Int)
  /-- `OPEN_LOAD_DETECTED` (R68). -/
  | openLoadDetected (t : Nat) (n : Nat) (i10mA : Int)
  /-- `RETRY_DELAY_EXPIRY` (R51). -/
  | retryDelayExpiry (t : Nat) (n : Nat) (tj : Int) (vOut vBus : Nat)
  /-- `RETRY_COUNT_RESET` (R52). -/
  | retryCountReset (t : Nat) (n : Nat)
  /-- `OFFDIAG_CYCLE` (R476). -/
  | offdiagCycle (t : Nat) (n : Nat) (vUp vDown bus : Nat)
  /-- `REGULATOR_STEP` (R53). -/
  | regulatorStep (t : Nat) (n : Nat)
  /-- `AGE_MEASURE` (R70). -/
  | ageMeasure (t : Nat) (n : Nat) (rds : Nat)
  /-- `AGG_WINDOW` (R67). -/
  | aggWindow (t : Nat) (mean last : Nat)
  /-- `LANE_BOUNDARY` (R75). -/
  | laneBoundary (t : Nat) (l : LaneId) (heard : List (LaneId × Nat)) (img : Sensed)
  /-- `BOUNDARY_MARKER_RX` (R84). -/
  | boundaryMarkerRx (t : Nat) (l : LaneId) (cyc : Nat)
  /-- `LANE_FRAME_RX` (R73). -/
  | laneFrameRx (t : Nat) (rx tx : LaneId) (kind : FrameKind) (cyc : Nat) (crcOk : Bool)
  /-- `AGREEMENT_PHASE` (R80). -/
  | agreementPhase (t : Nat) (l : LaneId)
  /-- `EXECUTE_PHASE` (R111). -/
  | executePhase (t : Nat) (l : LaneId) (work : List TaskRun)
  /-- `EXECUTE_COMPLETE` (R112). -/
  | executeComplete (t : Nat) (l : LaneId) (next : List TaskRun)
  /-- `OUTPUT_DEADLINE` (R78). -/
  | outputDeadline (t : Nat) (l : LaneId)
  /-- `OUTPUT_COMPARE` (R85). -/
  | outputCompare (t : Nat) (readback : List LaneId)
  /-- `COMMAND_UPDATE` (R86). -/
  | commandUpdate (t : Nat) (l : LaneId)
  /-- `FINAL_COPY_RX` (R101). -/
  | finalCopyRx (t : Nat) (l : LaneId) (diff : List (Nat × Nat))
  /-- `REINT_RELEASE` (R103). -/
  | reintRelease (t : Nat) (l : LaneId)
  /-- `THRESHOLD_LINE_CHANGE` (R87). -/
  | thresholdLineChange (t : Nat) (l : LaneId) (line : LineKind)
  /-- `EXCLUSION_LINE_ASSERTED` (R94). -/
  | exclusionLineAsserted (t : Nat) (src dst : LaneId)
  /-- `JOINT_RELEASE` (R94). -/
  | jointRelease (t : Nat) (l : LaneId)
  /-- `LANE_OK_LOST` (R72). -/
  | laneOkLost (t : Nat) (l : LaneId) (tile : Nat)
  /-- `LANE_FAULT` (R93). -/
  | laneFault (t : Nat) (l : LaneId) (f : SelfFault)
  /-- `ADC_REF_CHECK` (R93). -/
  | adcRefCheck (t : Nat) (l : LaneId) (inTol : Bool)
  /-- `BIST_COMPLETE` (R96). -/
  | bistComplete (t : Nat) (l : LaneId) (pass : Bool)
  /-- `BIST_RETRY_TIMER` (R96). -/
  | bistRetryTimer (t : Nat) (l : LaneId)
  /-- `PROGRAM_LOAD_COMPLETE` (R106). -/
  | programLoadComplete (t : Nat) (p : Program) (pins : List Nat) (hashA hashB hashC : Nat)
  /-- `RUN` (R117). -/
  | cycRun (t : Nat) (a : Attr)
  /-- `RUN_COLD` (R117). -/
  | cycRunCold (t : Nat) (a : Attr)
  /-- `STOP` (R117). -/
  | cycStop (t : Nat) (a : Attr)
  /-- `HOLD` (R117). -/
  | cycHold (t : Nat) (a : Attr)
  /-- `STEP` (R117). -/
  | cycStep (t : Nat) (a : Attr)
  /-- `RESUME` (R117). -/
  | cycResume (t : Nat) (a : Attr)
  /-- `OC_ARM` (R125). -/
  | ocArm (t : Nat) (a : Attr)
  /-- `OC_CANCEL` (R126). -/
  | ocCancel (t : Nat) (a : Attr)
  /-- `TOKEN_LOAD` (R133). -/
  | tokenLoad (t : Nat) (a : Attr)
  /-- `TOKEN_REVOKE` (R134). -/
  | tokenRevoke (t : Nat) (a : Attr)
  /-- `FORCE_COMMIT` (R129). -/
  | forceCommit (t : Nat) (a : Attr)
  /-- `TOKEN_EXPIRY` (R134). -/
  | tokenExpiry (t : Nat)
  /-- `RESTART_COMPLETE` (R122). -/
  | restartComplete (t : Nat)
  /-- `OC_REP_READ` (R128). -/
  | ocRepRead (t : Nat) (a : Attr) (peek : Bool)
  /-- `TRANSFER` (R156). -/
  | pairTransfer (t : Nat) (a : Attr)
  /-- `RESYNC` (R151). -/
  | pairResync (t : Nat) (a : Attr)
  /-- `PAIR_IMG_RX` (R147). -/
  | pairImgRx (t : Nat) (crcOk : Bool) (cyc : Nat) (img : Agreed0) (boundaryT : Nat)
  /-- `PAIR_OUT_RX` (R149). -/
  | pairOutRx (t : Nat) (crcOk : Bool) (cyc : Nat) (out : Output0)
  /-- `PAIR_STAT_RX` (R138). -/
  | pairStatRx (t : Nat) (crcOk : Bool) (cyc : Nat) (pst vote : Nat) (hash digest : Nat) (inStep : Bool)
  /-- `PAIR_XFER_RX` (R156). -/
  | pairXferRx (t : Nat) (crcOk : Bool) (cyc : Nat) (ack : Option (Option Nat))
  /-- `PAIR_COPY_RX` (R151). -/
  | pairCopyRx (t : Nat) (crcOk : Bool) (cyc : Nat) (c : PairCopy)
  /-- `AUTH_HELD_GRANTED` (R141). -/
  | authHeldGranted (t : Nat) (vmV : Nat) (cur : Int)
  /-- `AUTH_HELD_LOST` (R141). -/
  | authHeldLost (t : Nat) (vmV : Nat) (cur : Int)
  /-- `LOOP_FAULT` (R141). -/
  | loopFault (t : Nat) (vmV : Nat) (cur : Int)
  /-- `CLAIM_QUIET_EXPIRY` (R142). -/
  | claimQuietExpiry (t : Nat)
  /-- `CLAIM_CONFLICT` (R143). -/
  | claimConflict (t : Nat)
  /-- `BACKOFF_EXPIRY` (R143). -/
  | backoffExpiry (t : Nat)
  /-- `PARTNER_WAIT_EXPIRY` (R136). -/
  | partnerWaitExpiry (t : Nat)
  /-- `RESYNC_TIMER` (R151). -/
  | resyncTimer (t : Nat)
  /-- `NO_HOLDER_TIMEOUT` (R155). -/
  | noHolderTimeout (t : Nat)
  /-- `REVERT_HOLD_EXPIRY` (R157). -/
  | revertHoldExpiry (t : Nat)
  /-- `PIN_SAMPLE` (R161). -/
  | pinSample (t u : Nat) (mv value : Int)
  /-- `FREQ_GATE_CLOSE` (R163). -/
  | freqGateClose (t u edges cycles span : Nat)
  /-- `SUPPLY_LIMIT_TRIP` (R165). -/
  | supplyLimitTrip (t k : Nat)
  /-- `SUPPLY_RETRY` (R165). -/
  | supplyRetry (t k : Nat)
  /-- `POLL_SEND` (R169). -/
  | pollSend (t seg : Nat)
  /-- `RESP_RX` (R171). -/
  | respRx (t seg : Nat) (r : StnResp)
  /-- `RESP_WINDOW_CLOSE` (R172). -/
  | respWindowClose (t seg stn : Nat)
  /-- `RELEASE` (R174). -/
  | stnRelease (t : Nat) (a : Attr) (seg stn : Nat)
  /-- `STN_IRQ_READ` (R224). -/
  | stnIrqRead (t : Nat) (a : Attr) (seg stn : Nat) (peek : Bool)
  /-- `SEG_DISABLE` (R167). -/
  | segDisable (t : Nat) (a : Attr) (seg : Nat)
  /-- `WINDOW_READ` (R217). -/
  | windowRead (t : Nat) (a : Attr) (port addr size : Nat)
  /-- `WINDOW_WRITE` (R221). -/
  | windowWrite (t : Nat) (a : Attr) (addr size value : Nat)
  /-- `SLOT_ORPHAN_TIMEOUT` (R220). -/
  | slotOrphanTimeout (t k : Nat)
  /-- `PWE_READ` (R223). -/
  | pweRead (t : Nat) (a : Attr) (peek : Bool)
  /-- `ORPH_READ` (R223). -/
  | orphRead (t : Nat) (a : Attr) (peek : Bool)
  /-- `STAIR_FENCE` (R225). -/
  | stairFence (t i : Nat)
  /-- `ADD` (R193). -/
  | dAdd (e rd ra rb : Nat)
  /-- `SUB` (R193). -/
  | dSub (e rd ra rb : Nat)
  /-- `AND` (R193). -/
  | dAnd (e rd ra rb : Nat)
  /-- `OR` (R193). -/
  | dOr (e rd ra rb : Nat)
  /-- `XOR` (R193). -/
  | dXor (e rd ra rb : Nat)
  /-- `SHL` (R193). -/
  | dShl (e rd ra rb : Nat)
  /-- `SHR` (R193). -/
  | dShr (e rd ra rb : Nat)
  /-- `SRA` (R193). -/
  | dSra (e rd ra rb : Nat)
  /-- `SLT` (R193). -/
  | dSlt (e rd ra rb : Nat)
  /-- `SLTU` (R193). -/
  | dSltu (e rd ra rb : Nat)
  /-- `MUL` (R193). -/
  | dMul (e rd ra rb : Nat)
  /-- `MIN` (R193). -/
  | dMin (e rd ra rb : Nat)
  /-- `MAX` (R193). -/
  | dMax (e rd ra rb : Nat)
  /-- `ADDS` (R195). -/
  | dAdds (e rd ra rb : Nat)
  /-- `SUBS` (R195). -/
  | dSubs (e rd ra rb : Nat)
  /-- `ADDI` (R193). -/
  | dAddi (e rd ra imm : Nat)
  /-- `ANDI` (R193). -/
  | dAndi (e rd ra imm : Nat)
  /-- `ORI` (R193). -/
  | dOri (e rd ra imm : Nat)
  /-- `XORI` (R193). -/
  | dXori (e rd ra imm : Nat)
  /-- `SHLI` (R193). -/
  | dShli (e rd ra imm : Nat)
  /-- `SHRI` (R193). -/
  | dShri (e rd ra imm : Nat)
  /-- `SRAI` (R193). -/
  | dSrai (e rd ra imm : Nat)
  /-- `SLTI` (R193). -/
  | dSlti (e rd ra imm : Nat)
  /-- `LUI` (R193). -/
  | dLui (e rd imm : Nat)
  /-- `LDW` (R179). -/
  | dLdw (e rd ra imm : Nat)
  /-- `LDH` (R179). -/
  | dLdh (e rd ra imm : Nat)
  /-- `LDHU` (R179). -/
  | dLdhu (e rd ra imm : Nat)
  /-- `LDB` (R179). -/
  | dLdb (e rd ra imm : Nat)
  /-- `LDBU` (R179). -/
  | dLdbu (e rd ra imm : Nat)
  /-- `STW` (R179). -/
  | dStw (e rs ra imm : Nat)
  /-- `STH` (R179). -/
  | dSth (e rs ra imm : Nat)
  /-- `STB` (R179). -/
  | dStb (e rs ra imm : Nat)
  /-- `CSTW` (R191). -/
  | dCstw (e rs ra imm : Nat)
  /-- `MULQ` (R193). -/
  | dMulq (e rd ra rb sh : Nat)
  /-- `SATQ` (R193). -/
  | dSatq (e rd ra : Nat) (u : Bool) (n : Nat)
  /-- `EXT` (R193). -/
  | dExt (e rd ra pos len : Nat) (sx w : Bool)
  /-- `INS` (R193). -/
  | dIns (e rd ra pos len : Nat) (w : Bool)
  /-- `BEQ` (R193). -/
  | dBeq (e ra rb off : Nat)
  /-- `BNE` (R193). -/
  | dBne (e ra rb off : Nat)
  /-- `BLT` (R193). -/
  | dBlt (e ra rb off : Nat)
  /-- `BGE` (R193). -/
  | dBge (e ra rb off : Nat)
  /-- `BLTU` (R193). -/
  | dBltu (e ra rb off : Nat)
  /-- `BGEU` (R193). -/
  | dBgeu (e ra rb off : Nat)
  /-- `JAL` (R193). -/
  | dJal (e rd off : Nat)
  /-- `JALR` (R193). -/
  | dJalr (e rd ra imm : Nat)
  /-- `POP` (R183). -/
  | dPop (e rd rs q : Nat)
  /-- `PUSH` (R184). -/
  | dPush (e rd rs q : Nat)
  /-- `PEEKQ` (R193). -/
  | dPeekq (e rd rs q : Nat)
  /-- `WAIT` (R188). -/
  | dWait (e rd ra : Nat)
  /-- `WAIT_WAKE` (R188). -/
  | waitWake (t e : Nat)
  /-- `TSET` (R190). -/
  | dTset (e ra mode k : Nat)
  /-- `TCLR` (R190). -/
  | dTclr (e k : Nat)
  /-- `MOVS` (R180). -/
  | dMovs (e rd sel : Nat)
  /-- `SETS` (R180). -/
  | dSets (e ra sel : Nat)
  /-- `ENGINE_TIMER_FIRE` (R190). -/
  | engineTimerFire (t e k : Nat)
  /-- `BURST_LIMIT_EXPIRY` (R189). -/
  | burstLimitExpiry (t e : Nat)
  /-- `DOORBELL` (R187). -/
  | doorbell (t : Nat) (a : Attr) (e ring : Nat)
  /-- `DVE_START` (R198). -/
  | dveStart (t : Nat) (a : Attr) (e : Nat)
  /-- `DVE_STOP` (R198). -/
  | dveStop (t : Nat) (a : Attr) (e : Nat)
  /-- `DVE_LOAD` (R200). -/
  | dveLoad (t : Nat) (a : Attr) (e : Nat)
  /-- `LOAD_COMPLETE` (R200). -/
  | loadComplete (t e : Nat)
  /-- `QMAP_WRITE` (R186). -/
  | qmapWrite (t : Nat) (a : Attr) (e q : Nat) (value : Word)
  /-- `INST_ALLOW_WRITE` (R181). -/
  | instAllowWrite (t : Nat) (a : Attr) (e : Nat) (hi : Bool) (value : Word)
  /-- `DMEM_WRITE` (R179). -/
  | dmemWrite (t : Nat) (a : Attr) (e off : Nat) (value : Word)
  /-- `ENGINE_FENCE_ARRIVE` (R201). -/
  | engineFenceArrive (t e i : Nat)
  /-- `CLASSIFY_FRAME` (R203). -/
  | classifyFrame (t : Nat)
  /-- `KEY_WRITE` (R207). -/
  | keyWrite (t : Nat) (a : Attr) (k w : Nat) (value : Word)
  /-- `ROUTE_TABLE_WRITE` (R208). -/
  | routeTableWrite (t : Nat) (a : Attr) (desc : Bool) (k w : Nat) (value : Word)
  /-- `SEAL` (R208). -/
  | gwSeal (t : Nat) (a : Attr)
  /-- `SEAL_COMPLETE` (R208). -/
  | gwSealComplete (t : Nat)
  /-- `CLASSIFIER_FENCE` (R213). -/
  | classifierFence (t i : Nat)
  /-- `FRAME_RX` (R229). -/
  | frameRx (t port : Nat) (f : EthFrame)
  /-- `EGRESS_DEQUEUE` (R240). -/
  | egressDequeue (t port : Nat)
  /-- `GATE_ENTRY_CHANGE` (R242). -/
  | gateEntryChange (t port : Nat)
  /-- `CHANGE` (R243). -/
  | gclChange (t : Nat) (a : Attr) (port : Nat) (value : Word)
  /-- `GCL_CHANGE_INSTANT` (R243). -/
  | gclChangeInstant (t port : Nat)
  /-- `LINK_LOST` (R247). -/
  | linkLost (t port : Nat)
  /-- `LINK_UP` (R247). -/
  | linkUp (t port : Nat)
  /-- `LINK_HOLD_EXPIRY` (R247). -/
  | linkHoldExpiry (t port : Nat)
  /-- `FDB_INSERT` (R230). -/
  | fdbInsert (t : Nat) (a : Attr)
  /-- `FDB_DELETE` (R230). -/
  | fdbDelete (t : Nat) (a : Attr)
  /-- `FDB_LOOK_UP` (R230). -/
  | fdbLookUp (t : Nat) (a : Attr)
  /-- `FDB_AGE_OUT` (R229). -/
  | fdbAgeOut (t vid mac : Nat)
  /-- `CNT_CLR` (R231). -/
  | cntClr (t : Nat) (a : Attr) (value : Word)
  /-- `PREEMPT_VERIFY` (R245). -/
  | preemptVerify (t port : Nat) (ok : Bool)
  /-- `FRER_RECOV_RESET` (R248). -/
  | frerRecovReset (t stream : Nat)
  /-- `CAN_START` (R268). -/
  | canStart (t : Nat) (a : Attr) (c : Nat)
  /-- `CAN_STOP` (R268). -/
  | canStop (t : Nat) (a : Attr) (c : Nat)
  /-- `RECOVER` (R268). -/
  | canRecover (t : Nat) (a : Attr) (c : Nat)
  /-- `ABORT` (R267). -/
  | canAbort (t : Nat) (a : Attr) (c r : Nat)
  /-- `CAN_FRAME_RX` (R261). -/
  | canFrameRx (t c : Nat) (f : CanFrame)
  /-- `TX_OPPORTUNITY` (R264). -/
  | txOpportunity (t c : Nat)
  /-- `TX_COMPLETE` (R259). -/
  | txComplete (t c : Nat)
  /-- `TX_ATTEMPT_ERROR` (R265). -/
  | txAttemptError (t c : Nat)
  /-- `ARBITRATION_LOST` (R264). -/
  | arbitrationLost (t c : Nat) (toRef : Bool)
  /-- `CAN_ERROR_DETECTED` (R268). -/
  | canErrorDetected (t c : Nat) (err : CanErr)
  /-- `RECESSIVE_SEQUENCE` (R268). -/
  | recessiveSequence (t c : Nat)
  /-- `RING_DESC_WRITE` (R257). -/
  | ringDescWrite (t : Nat) (a : Attr) (r w : Nat) (value : Word)
  /-- `RX_GET_WRITE` (R258). -/
  | rxGetWrite (t : Nat) (a : Attr) (r k : Nat)
  /-- `TX_PUT_WRITE` (R259). -/
  | txPutWrite (t : Nat) (a : Attr) (r k : Nat)
  /-- `RECLAIM_WRITE` (R259). -/
  | reclaimWrite (t : Nat) (a : Attr) (r k : Nat)
  /-- `FILTER_WRITE` (R263). -/
  | filterWrite (t : Nat) (a : Attr) (e w : Nat) (value : Word)
  /-- `ERR_LAST_READ` (R10). -/
  | errLastRead (t : Nat) (a : Attr) (c : Nat) (peek : Bool)
  /-- `REF_DUE` (R272). -/
  | refDue (t c : Nat)
  /-- `REF_LOST_TIMEOUT` (R272). -/
  | refLostTimeout (t c : Nat)
  /-- `CAN_FENCE` (R276). -/
  | canFence (t i : Nat)
  /-- `FRC_LO_READ` (R282). -/
  | frcLoRead (t : Nat) (a : Attr) (peek : Bool)
  /-- `T_LO_READ` (R282). -/
  | tLoRead (t : Nat) (a : Attr) (peek : Bool)
  /-- `APPLY` (R294). -/
  | timeApply (t : Nat) (a : Attr)
  /-- `SERVO_INPUT` (R292). -/
  | servoInput (t : Nat) (a : Attr) (o : Word)
  /-- `TIME_CFG_WRITE` (R293). -/
  | timeCfgWrite (t : Nat) (a : Attr) (value : Word)
  /-- `HOLDOVER_TIMEOUT` (R293). -/
  | holdoverTimeout (t : Nat)
  /-- `HOLDOVER_MAX_EXPIRY` (R293). -/
  | holdoverMaxExpiry (t : Nat)
  /-- `CONV_START` (R295). -/
  | convStart (t : Nat) (a : Attr) (hi : Word)
  /-- `CONV_COMPLETE` (R295). -/
  | convComplete (t : Nat)
  /-- `PPS_OUT_EDGE` (R296). -/
  | ppsOutEdge (t : Nat)
  /-- `PPS_IN_EDGE` (R297). -/
  | ppsInEdge (t : Nat)
  /-- `PPS_IN_TS_READ` (R282). -/
  | ppsInTsRead (t : Nat) (a : Attr) (peek : Bool)
  /-- `TXTS_READ` (R290). -/
  | txtsRead (t : Nat) (a : Attr) (port : Nat) (peek : Bool)
  /-- `NETMGT_NEED_WRITE` (R301). -/
  | netmgtNeedWrite (t : Nat) (a : Attr) (value : Word)
  /-- `NETMGT_JUST_WRITE` (R300). -/
  | netmgtJustWrite (t : Nat) (a : Attr) (hi : Bool) (value : Word)
  /-- `KEEPALIVE_TIMER` (R303). -/
  | keepaliveTimer (t : Nat)
  /-- `NM_KEEPALIVE_RX` (R304). -/
  | nmKeepaliveRx (t : Nat) (seg node : Nat) (just : Bool)
  /-- `NM_TOKEN_RX` (R305). -/
  | nmTokenRx (t : Nat) (seg node succ run : Nat) (just : Bool)
  /-- `NM_READY_RX` (R305). -/
  | nmReadyRx (t : Nat) (seg node : Nat) (just : Bool)
  /-- `NM_NEED_RX` (R305). -/
  | nmNeedRx (t : Nat) (seg node : Nat) (just : Bool)
  /-- `READY_SLEEP_EXPIRY` (R304). -/
  | readySleepExpiry (t : Nat) (seg : Nat)
  /-- `RING_HOLD_EXPIRY` (R305). -/
  | ringHoldExpiry (t : Nat) (seg : Nat)
  /-- `RING_TMO_EXPIRY` (R306). -/
  | ringTmoExpiry (t : Nat) (seg : Nat)
  /-- `RING_LOST_TIMEOUT` (R306). -/
  | ringLostTimeout (t : Nat) (seg : Nat)
  /-- `MAX_AWAKE_EXPIRY` (R308). -/
  | maxAwakeExpiry (t : Nat) (n : Nat)
  /-- `SLEEP_COMMIT` (R309). -/
  | sleepCommit (t : Nat)
  /-- `SLEEP_ENTRY_COMPLETE` (R311). -/
  | sleepEntryComplete (t : Nat)
  /-- `WAKE_REQUEST` (R315). -/
  | wakeRequest (t : Nat) (cause source : Nat)
  /-- `WAKE_RECOGNISED` (R313). -/
  | wakeRecognised (t : Nat) (cause source : Nat)
  /-- `WAKE_TIMER` (R313). -/
  | wakeTimer (t : Nat)
  /-- `WARM_MAX_EXPIRY` (R312). -/
  | warmMaxExpiry (t : Nat)
  /-- `HART_PID_WRITE` (R321). -/
  | hartPidWrite (t : Nat) (a : Attr) (h pid : Nat)
  /-- `MAP_ENTRY_WRITE` (R320). -/
  | mapEntryWrite (t : Nat) (a : Attr) (e : Nat) (value : Word)
  /-- `INST_CFG_WRITE` (R318). -/
  | instCfgWrite (t : Nat) (a : Attr) (i : Nat) (value : Word)
  /-- `QSHARE_WRITE` (R326). -/
  | qshareWrite (t : Nat) (a : Attr) (i : Nat) (value : Word)
  /-- `INST_FLT_WRITE` (R327). -/
  | instFltWrite (t : Nat) (a : Attr) (i : Nat) (value : Word)
  /-- `HWQ_CFG_WRITE` (R324). -/
  | hwqCfgWrite (t : Nat) (a : Attr) (q : Nat) (value : Word)
  /-- `HWQ_PUSH` (R324). -/
  | hwqPush (t : Nat) (a : Attr) (q : Nat) (value : Word)
  /-- `HWQ_POP` (R324). -/
  | hwqPop (t : Nat) (a : Attr) (q : Nat) (peek : Bool)
  /-- `DISPATCH_ROUND_START` (R330). -/
  | dispatchRoundStart (t : Nat)
  /-- `DISPATCH_ENTRY` (R329). -/
  | dispatchEntry (t : Nat)
  /-- `RESET` (R331). -/
  | vimReset (t : Nat) (a : Attr) (i : Nat)
  /-- `RESET_ACK` (R333). -/
  | resetAck (t : Nat) (i p : Nat)
  /-- `RESET_TIMEOUT` (R333). -/
  | resetTimeout (t : Nat) (i : Nat)
  /-- `FREEZE` (R335). -/
  | vimFreeze (t : Nat) (a : Attr) (i : Nat)
  /-- `FREEZE_QUIESCENT` (R335). -/
  | freezeQuiescent (t : Nat) (i : Nat)
  /-- `FREEZE_TIMEOUT` (R335). -/
  | freezeTimeout (t : Nat) (i : Nat)
  /-- `THAW` (R335). -/
  | vimThaw (t : Nat) (a : Attr) (i : Nat)
  /-- `SAVE` (R336). -/
  | migSave (t : Nat) (a : Attr) (i slot : Nat)
  /-- `SAVE_COMPLETE` (R336). -/
  | migSaveComplete (t : Nat)
  /-- `RESTORE` (R339). -/
  | migRestore (t : Nat) (a : Attr) (i slot : Nat)
  /-- `RESTORE_COMPLETE` (R340). -/
  | migRestoreComplete (t : Nat)
  /-- `MACHINE_TRAP` (R342). -/
  | machineTrap (t h : Nat)
  /-- `MRET` (R342). -/
  | mret (t h : Nat)
  /-- `REGION_WRITE` (R346). -/
  | regionWrite (t : Nat) (a : Attr) (k r word : Nat) (value : Word)
  /-- `L2_PART_WRITE` (R347). -/
  | l2PartWrite (t : Nat) (a : Attr) (value : Word)
  /-- `L2_REPART_COMPLETE` (R347). -/
  | l2RepartComplete (t : Nat)
  /-- `CLAIM_WRITE` (R348). -/
  | claimWrite (t : Nat) (a : Attr) (value : Word)
  /-- `VIOL_READ` (R345). -/
  | violRead (t : Nat) (a : Attr) (peek : Bool)
  /-- `WRITE` (R352). -/
  | pantryWrite (t : Nat) (a : Attr) (slot : Nat)
  /-- `GENERATE` (R354). -/
  | pantryGenerate (t : Nat) (a : Attr) (slot : Nat)
  /-- `ERASE` (R353). -/
  | pantryErase (t : Nat) (a : Attr) (slot : Nat)
  /-- `WRAP_OUT` (R355). -/
  | pantryWrapOut (t : Nat) (a : Attr) (slot aux : Nat)
  /-- `IMPORT` (R355). -/
  | pantryImport (t : Nat) (a : Attr) (slot aux : Nat)
  /-- `PUB_OUT` (R354). -/
  | pantryPubOut (t : Nat) (a : Attr) (slot : Nat)
  /-- `ATTEST` (R364). -/
  | pantryAttest (t : Nat) (a : Attr) (slot : Nat)
  /-- `CACHE_FLUSH` (R356). -/
  | pantryCacheFlush (t : Nat) (a : Attr)
  /-- `TAMPER_CLEAR` (R367). -/
  | tamperClear (t : Nat) (a : Attr)
  /-- `PANTRY_COMMIT_COMPLETE` (R352). -/
  | pantryCommitComplete (t : Nat)
  /-- `TAMPER_ARM_WRITE` (R365). -/
  | tamperArmWrite (t : Nat) (a : Attr) (value : Word)
  /-- `TAMPER_RECOGNISED` (R366). -/
  | tamperRecognised (t : Nat) (src active : Nat)
  /-- `CART_INSERT` (R450). -/
  | cartInsert (t : Nat)
  /-- `CART_REMOVE` (R450). -/
  | cartRemove (t : Nat)
  /-- `CART_AUTHENTICATE` (R390). -/
  | cartAuthenticate (t : Nat) (c : CartId)
  /-- `SERVICE_FLUSH` (R403). -/
  | serviceFlush (t : Nat) (a : Attr)
  /-- `MEASURE` (R392). -/
  | measure (t : Nat) (a : Attr) (vBus vHold : Nat)
  /-- `TEST_DISCHARGE_COMPLETE` (R392). -/
  | testDischargeComplete (t : Nat) (stepUv fallUv : Nat)
  /-- `REPLAN` (R394). -/
  | replan (t : Nat) (a : Attr)
  /-- `PLAN_TIMER` (R394). -/
  | planTimer (t : Nat) (vBus vHold : Nat)
  /-- `HOLDUP_RETEST` (R396). -/
  | holdupRetest (t : Nat) (vHold : Nat)
  /-- `MARGIN_MEASURE` (R397). -/
  | marginMeasure (t : Nat) (dHub dA dB dC : Nat) (stud1 stud2 : Option Nat) (pNow : Nat)
  /-- `FLASH_REFRESH` (R401). -/
  | flashRefresh (t : Nat) (wear : Nat) (regions : List (Nat × Nat))
  /-- `RECORD_COMMIT` (R409). -/
  | recordCommit (t : Nat)
  /-- `COMMIT` (R410). -/
  | recCommit (t : Nat) (a : Attr) (sev kind lenW : Nat)
  /-- `FLUSH_WINDOW_TIMER` (R411). -/
  | flushWindowTimer (t : Nat)
  /-- `FLUSH_START` (R412). -/
  | flushStart (t : Nat)
  /-- `FLUSH_COMPLETE` (R412). -/
  | flushComplete (t : Nat)
  /-- `SEGMENT_ERASE_COMPLETE` (R416). -/
  | segmentEraseComplete (t : Nat) (sev : Nat)
  /-- `FLUSH` (R411). -/
  | recFlush (t : Nat) (a : Attr)
  /-- `READ` (R421). -/
  | recRead (t : Nat) (a : Attr)
  /-- `STORE` (R427). -/
  | setupStore (t : Nat) (a : Attr)
  /-- `STORE_COMPLETE` (R427). -/
  | storeComplete (t : Nat)
  /-- `SETUP_APPLY` (R432). -/
  | setupApply (t : Nat) (a : Attr)
  /-- `REPORT_READ` (R429). -/
  | reportRead (t : Nat) (a : Attr) (peek : Bool)
  /-- `WAKE_INPUT_INACTIVE` (R300). -/
  | wakeInputInactive (t : Nat) (k : Nat)
  /-- `NODE_RUN_END` (R308). -/
  | nodeRunEnd (t : Nat) (n : Nat)
  /-- `LOOP_QUIET_CHANGE` (R142). -/
  | loopQuietChange (t : Nat) (cur : Int)
  /-- `CHARGE_COMPLETE` (R371). -/
  | chargeComplete (t : Nat) (vHold : Nat)
  /-- `TEST_DISCHARGE_START` (R392). -/
  | testDischargeStart (t : Nat) (vBus vHold : Nat)
  /-- `PANTRY_COMMAND_COMPLETE` (R354). -/
  | pantryCommandComplete (t : Nat)
  /-- `SETUP_APPLY_COMPLETE` (R432). -/
  | setupApplyComplete (t : Nat)
  /-- `FRAME_TX_END` (R232). -/
  | frameTxEnd (t port : Nat)
  deriving DecidableEq, Repr

end Sys2Proof
end

