-- ==== Sys2Proof/Decode.lean ====
section
/-! DEFINITION. The decoders. No row of the table of operations and events has bits of its own, so no word spells a command
(`decodeTableWord`). The words of a Dervos program are decoded by *Table: Dervos encoding* and *Table: Instruction formats*
(R193) when an engine runs its program; the encoder is written from the same tables. -/

namespace Sys2Proof

/-- The command that a word spells by the table's bits: the table gives bits to no row. -/
def decodeTableWord (_nbits _w : Nat) : Option Instr := none

/-- The instruction of engine `e` that a program word spells, none where it is illegal. Bits that an instruction does not use
are ignored (R193). -/
def decodeDervos (e w : Nat) : Option Instr :=
  match bits w 31 26 with
  | 0x01 => some (.dAdd e (bits w 25 22) (bits w 21 18) (bits w 17 14))
  | 0x02 => some (.dSub e (bits w 25 22) (bits w 21 18) (bits w 17 14))
  | 0x03 => some (.dAnd e (bits w 25 22) (bits w 21 18) (bits w 17 14))
  | 0x04 => some (.dOr e (bits w 25 22) (bits w 21 18) (bits w 17 14))
  | 0x05 => some (.dXor e (bits w 25 22) (bits w 21 18) (bits w 17 14))
  | 0x06 => some (.dShl e (bits w 25 22) (bits w 21 18) (bits w 17 14))
  | 0x07 => some (.dShr e (bits w 25 22) (bits w 21 18) (bits w 17 14))
  | 0x08 => some (.dSra e (bits w 25 22) (bits w 21 18) (bits w 17 14))
  | 0x09 => some (.dSlt e (bits w 25 22) (bits w 21 18) (bits w 17 14))
  | 0x0A => some (.dSltu e (bits w 25 22) (bits w 21 18) (bits w 17 14))
  | 0x0B => some (.dMul e (bits w 25 22) (bits w 21 18) (bits w 17 14))
  | 0x0C => some (.dMin e (bits w 25 22) (bits w 21 18) (bits w 17 14))
  | 0x0D => some (.dMax e (bits w 25 22) (bits w 21 18) (bits w 17 14))
  | 0x0E => some (.dAdds e (bits w 25 22) (bits w 21 18) (bits w 17 14))
  | 0x0F => some (.dSubs e (bits w 25 22) (bits w 21 18) (bits w 17 14))
  | 0x10 => some (.dAddi e (bits w 25 22) (bits w 21 18) (bits w 17 0))
  | 0x11 => some (.dAndi e (bits w 25 22) (bits w 21 18) (bits w 17 0))
  | 0x12 => some (.dOri e (bits w 25 22) (bits w 21 18) (bits w 17 0))
  | 0x13 => some (.dXori e (bits w 25 22) (bits w 21 18) (bits w 17 0))
  | 0x14 => some (.dShli e (bits w 25 22) (bits w 21 18) (bits w 17 0))
  | 0x15 => some (.dShri e (bits w 25 22) (bits w 21 18) (bits w 17 0))
  | 0x16 => some (.dSrai e (bits w 25 22) (bits w 21 18) (bits w 17 0))
  | 0x17 => some (.dSlti e (bits w 25 22) (bits w 21 18) (bits w 17 0))
  | 0x18 => some (.dLui e (bits w 25 22) (bits w 21 0))
  | 0x20 => some (.dLdw e (bits w 25 22) (bits w 21 18) (bits w 17 0))
  | 0x21 => some (.dLdh e (bits w 25 22) (bits w 21 18) (bits w 17 0))
  | 0x22 => some (.dLdhu e (bits w 25 22) (bits w 21 18) (bits w 17 0))
  | 0x23 => some (.dLdb e (bits w 25 22) (bits w 21 18) (bits w 17 0))
  | 0x24 => some (.dLdbu e (bits w 25 22) (bits w 21 18) (bits w 17 0))
  | 0x25 => some (.dStw e (bits w 25 22) (bits w 21 18) (bits w 17 0))
  | 0x26 => some (.dSth e (bits w 25 22) (bits w 21 18) (bits w 17 0))
  | 0x27 => some (.dStb e (bits w 25 22) (bits w 21 18) (bits w 17 0))
  | 0x28 => some (.dCstw e (bits w 25 22) (bits w 21 18) (bits w 17 0))
  | 0x2C => some (.dMulq e (bits w 25 22) (bits w 21 18) (bits w 17 14) (bits w 4 0))
  | 0x2D => some (.dSatq e (bits w 25 22) (bits w 21 18) (w.testBit 5) (bits w 4 0 + 1))
  | 0x2E => some (.dExt e (bits w 25 22) (bits w 21 18) (bits w 13 9) (bits w 8 4 + 1) (w.testBit 3) (w.testBit 2))
  | 0x2F => some (.dIns e (bits w 25 22) (bits w 21 18) (bits w 13 9) (bits w 8 4 + 1) (w.testBit 2))
  | 0x30 => some (.dBeq e (bits w 25 22) (bits w 21 18) (bits w 17 0))
  | 0x31 => some (.dBne e (bits w 25 22) (bits w 21 18) (bits w 17 0))
  | 0x32 => some (.dBlt e (bits w 25 22) (bits w 21 18) (bits w 17 0))
  | 0x33 => some (.dBge e (bits w 25 22) (bits w 21 18) (bits w 17 0))
  | 0x34 => some (.dBltu e (bits w 25 22) (bits w 21 18) (bits w 17 0))
  | 0x35 => some (.dBgeu e (bits w 25 22) (bits w 21 18) (bits w 17 0))
  | 0x36 => some (.dJal e (bits w 25 22) (bits w 21 0))
  | 0x37 => some (.dJalr e (bits w 25 22) (bits w 21 18) (bits w 17 0))
  | 0x38 => some (.dPop e (bits w 25 22) (bits w 21 18) (bits w 3 0))
  | 0x39 => some (.dPush e (bits w 25 22) (bits w 21 18) (bits w 3 0))
  | 0x3A => some (.dPeekq e (bits w 25 22) (bits w 21 18) (bits w 3 0))
  | 0x3B => some (.dWait e (bits w 25 22) (bits w 21 18))
  | 0x3C => some (.dTset e (bits w 21 18) (bits w 5 4) (bits w 2 0))
  | 0x3D => some (.dTclr e (bits w 2 0))
  | 0x3E => some (.dMovs e (bits w 25 22) (bits w 3 0))
  | 0x3F => some (.dSets e (bits w 21 18) (bits w 3 0))
  | _ => none

/-- A word of format R. -/
def encR (op rd ra rb fn : Nat) : Nat := 2 ^ 26 * op + 2 ^ 22 * rd + 2 ^ 18 * ra + 2 ^ 14 * rb + fn

/-- A word of format I, S, B or Q. -/
def encI (op r1 r2 imm : Nat) : Nat := 2 ^ 26 * op + 2 ^ 22 * r1 + 2 ^ 18 * r2 + imm

/-- A word of format U. -/
def encU (op rd imm : Nat) : Nat := 2 ^ 26 * op + 2 ^ 22 * rd + imm

/-- The engine of a Dervos instruction and the word that spells it, none for the other commands. -/
def encodeDervos (i : Instr) : Option (Nat × Nat) :=
  match i with
  | .dAdd e rd ra rb => some (e, encR 0x01 rd ra rb 0)
  | .dSub e rd ra rb => some (e, encR 0x02 rd ra rb 0)
  | .dAnd e rd ra rb => some (e, encR 0x03 rd ra rb 0)
  | .dOr e rd ra rb => some (e, encR 0x04 rd ra rb 0)
  | .dXor e rd ra rb => some (e, encR 0x05 rd ra rb 0)
  | .dShl e rd ra rb => some (e, encR 0x06 rd ra rb 0)
  | .dShr e rd ra rb => some (e, encR 0x07 rd ra rb 0)
  | .dSra e rd ra rb => some (e, encR 0x08 rd ra rb 0)
  | .dSlt e rd ra rb => some (e, encR 0x09 rd ra rb 0)
  | .dSltu e rd ra rb => some (e, encR 0x0A rd ra rb 0)
  | .dMul e rd ra rb => some (e, encR 0x0B rd ra rb 0)
  | .dMin e rd ra rb => some (e, encR 0x0C rd ra rb 0)
  | .dMax e rd ra rb => some (e, encR 0x0D rd ra rb 0)
  | .dAdds e rd ra rb => some (e, encR 0x0E rd ra rb 0)
  | .dSubs e rd ra rb => some (e, encR 0x0F rd ra rb 0)
  | .dAddi e rd ra imm => some (e, encI 0x10 rd ra imm)
  | .dAndi e rd ra imm => some (e, encI 0x11 rd ra imm)
  | .dOri e rd ra imm => some (e, encI 0x12 rd ra imm)
  | .dXori e rd ra imm => some (e, encI 0x13 rd ra imm)
  | .dShli e rd ra imm => some (e, encI 0x14 rd ra imm)
  | .dShri e rd ra imm => some (e, encI 0x15 rd ra imm)
  | .dSrai e rd ra imm => some (e, encI 0x16 rd ra imm)
  | .dSlti e rd ra imm => some (e, encI 0x17 rd ra imm)
  | .dLui e rd imm => some (e, encU 0x18 rd imm)
  | .dLdw e rd ra imm => some (e, encI 0x20 rd ra imm)
  | .dLdh e rd ra imm => some (e, encI 0x21 rd ra imm)
  | .dLdhu e rd ra imm => some (e, encI 0x22 rd ra imm)
  | .dLdb e rd ra imm => some (e, encI 0x23 rd ra imm)
  | .dLdbu e rd ra imm => some (e, encI 0x24 rd ra imm)
  | .dStw e rs ra imm => some (e, encI 0x25 rs ra imm)
  | .dSth e rs ra imm => some (e, encI 0x26 rs ra imm)
  | .dStb e rs ra imm => some (e, encI 0x27 rs ra imm)
  | .dCstw e rs ra imm => some (e, encI 0x28 rs ra imm)
  | .dMulq e rd ra rb sh => some (e, encR 0x2C rd ra rb sh)
  | .dSatq e rd ra u n => some (e, encR 0x2D rd ra 0 (32 * bit u + (n - 1)))
  | .dExt e rd ra pos len sx w => some (e, encR 0x2E rd ra 0 (512 * pos + 16 * (len - 1) + 8 * bit sx + 4 * bit w))
  | .dIns e rd ra pos len w => some (e, encR 0x2F rd ra 0 (512 * pos + 16 * (len - 1) + 4 * bit w))
  | .dBeq e ra rb off => some (e, encI 0x30 ra rb off)
  | .dBne e ra rb off => some (e, encI 0x31 ra rb off)
  | .dBlt e ra rb off => some (e, encI 0x32 ra rb off)
  | .dBge e ra rb off => some (e, encI 0x33 ra rb off)
  | .dBltu e ra rb off => some (e, encI 0x34 ra rb off)
  | .dBgeu e ra rb off => some (e, encI 0x35 ra rb off)
  | .dJal e rd off => some (e, encU 0x36 rd off)
  | .dJalr e rd ra imm => some (e, encI 0x37 rd ra imm)
  | .dPop e rd rs q => some (e, encI 0x38 rd rs q)
  | .dPush e rd rs q => some (e, encI 0x39 rd rs q)
  | .dPeekq e rd rs q => some (e, encI 0x3A rd rs q)
  | .dWait e rd ra => some (e, encR 0x3B rd ra 0 0)
  | .dTset e ra mode k => some (e, encR 0x3C 0 ra 0 (16 * mode + k))
  | .dTclr e k => some (e, encR 0x3D 0 0 0 k)
  | .dMovs e rd sel => some (e, encR 0x3E rd 0 0 sel)
  | .dSets e ra sel => some (e, encR 0x3F 0 ra 0 sel)
  | _ => none

end Sys2Proof
end

