-- ==== Sys2Proof/Machine/Regs.lean ====
section
/-! DEFINITION. Every register field of the module's map, one definition a field (its byte address, place, width and
reset value), and the table of the register blocks with each field's access code and own range, written from the
register maps of the spec's chapters. `F.<REGISTER>_<FIELD> i j` is the field of the i-th (and j-th) copy. -/

namespace Sys2Proof.Machine

/-- A register field: the word's byte address (R433), its lowest bit, its width, and its reset value (R15). -/
structure Fld where
  addr  : Nat
  lo    : Nat
  width : Nat
  reset : Nat
  deriving DecidableEq, Repr

/-- The key under which the register file holds a field. -/
def Fld.key (f : Fld) : Nat := f.addr * 32 + f.lo

/-- The access codes of R9. `rwOwn` is an RW field whose write is a row of the table of its own; `su` is an RO field that
the setup image loads (R424); `live` is a field whose value the model keeps in a structure of its own. -/
inductive Access where | rw | rwOwn | ro | su | wo | w1c | rs | live
  deriving DecidableEq, Repr

/-- Who may write a register, where its chapter restricts it. -/
inductive Writer where | any | attic | attic0 | attic0hub | vim | hart
  deriving DecidableEq, Repr

/-- One field of a register block: the field of copy (i, j), its access code and its own range (R428). -/
structure FieldDesc where
  fld : Nat → Nat → Fld
  acc : Access
  min : Nat
  max : Nat

/-- A register and its copies: copy (i, j) is at base + i × si + j × sj, for i from i0 up to ci and j below cj. -/
structure RegBlock where
  base : Nat
  i0 : Nat
  ci : Nat
  si : Nat
  cj : Nat
  sj : Nat
  who : Writer
  fields : List FieldDesc

/-- Reset values of CH_FUSE0 to CH_FUSE7 (*Table: Default fuse curves*): I_THR in 10 mA, T_MS in ms. -/
def fuseDefault (n k : Nat) (current : Bool) : Nat :=
  if current then
    let amps10mA := if n < 4 then [5500, 7500, 10000, 15000, 20000, 25000, 30000, 32000]
      else if n < 16 then [1700, 2200, 3000, 4500, 6000, 7500, 9000, 10000]
      else [450, 600, 800, 1200, 1600, 2000, 2400, 2800]
    amps10mA.getD k 0
  else [60000, 10000, 2000, 500, 100, 40, 12, 2].getD k 0

/-- Reset values of the drop profiles (HALL_RED_k): profile 0 green 0x00C0_0C00, yellow 0x0060_0600, red 0. -/
def redDefault (k c hi lo : Nat) : Nat :=
  if k = 0 then bits ([0x00C00C00, 0x00600600, 0].getD c 0) hi lo else 0

namespace F

def SYSCTL_ID_CL : Fld := ⟨0x40000000, 24, 8, 1⟩
def SYSCTL_ID_ISSUE : Fld := ⟨0x40000000, 16, 8, 67⟩
def SYSCTL_ID_HUB_STEP : Fld := ⟨0x40000000, 8, 8, 177⟩
def SYSCTL_ID_FAMILY_CODE : Fld := ⟨0x40000000, 0, 8, 8⟩
def CH_CTL_HUB_CMD (i : Nat) : Fld := ⟨0x40100000 + i * 256, 29, 1, 0⟩
def CH_CTL_OUT_MODE (i : Nat) : Fld := ⟨0x40100000 + i * 256, 27, 2, 0⟩
def CH_CTL_DITHER_AMP (i : Nat) : Fld := ⟨0x40100000 + i * 256, 16, 11, 0⟩
def CH_CTL_SETPOINT (i : Nat) : Fld := ⟨0x40100000 + i * 256, 0, 16, 0⟩
def CH_STAT_START_LATE (i : Nat) : Fld := ⟨0x40100004 + i * 256, 26, 1, 0⟩
def CH_STAT_CFG_REFUSED (i : Nat) : Fld := ⟨0x40100004 + i * 256, 25, 1, 0⟩
def CH_STAT_OPEN_LOAD (i : Nat) : Fld := ⟨0x40100004 + i * 256, 24, 1, 0⟩
def CH_STAT_SHORT_GND (i : Nat) : Fld := ⟨0x40100004 + i * 256, 23, 1, 0⟩
def CH_STAT_SHORT_SUP (i : Nat) : Fld := ⟨0x40100004 + i * 256, 22, 1, 0⟩
def CH_STAT_REV_CURRENT (i : Nat) : Fld := ⟨0x40100004 + i * 256, 21, 1, 0⟩
def CH_STAT_OVER_TEMP (i : Nat) : Fld := ⟨0x40100004 + i * 256, 20, 1, 0⟩
def CH_STAT_FUSE_TRIP (i : Nat) : Fld := ⟨0x40100004 + i * 256, 19, 1, 0⟩
def CH_STAT_RETRY_CNT (i : Nat) : Fld := ⟨0x40100004 + i * 256, 16, 3, 0⟩
def CH_STAT_I_MEAS (i : Nat) : Fld := ⟨0x40100004 + i * 256, 0, 16, 0⟩
def CH_DIAG_OFFDIAG_EN (i : Nat) : Fld := ⟨0x40100008 + i * 256, 31, 1, 1⟩
def CH_DIAG_TJ (i : Nat) : Fld := ⟨0x40100008 + i * 256, 23, 8, 0⟩
def CH_DIAG_OL_THRESH (i : Nat) : Fld := ⟨0x40100008 + i * 256, 16, 7, 4⟩
def CH_DIAG_V_OUT (i : Nat) : Fld := ⟨0x40100008 + i * 256, 0, 16, 0⟩
def CH_PROFILE_CH_MODE (i : Nat) : Fld := ⟨0x4010000C + i * 256, 31, 1, 0⟩
def CH_PROFILE_SAFE_ON (i : Nat) : Fld := ⟨0x4010000C + i * 256, 30, 1, 0⟩
def CH_PROFILE_PAIRED (i : Nat) : Fld := ⟨0x4010000C + i * 256, 29, 1, 0⟩
def CH_PROFILE_PRIO (i : Nat) : Fld := ⟨0x4010000C + i * 256, 27, 2, 0⟩
def CH_PROFILE_RETRY_MAX (i : Nat) : Fld := ⟨0x4010000C + i * 256, 24, 3, 0⟩
def CH_PROFILE_SOFT_MS (i : Nat) : Fld := ⟨0x4010000C + i * 256, 16, 8, 0⟩
def CH_PROFILE_INRUSH_MS (i : Nat) : Fld := ⟨0x4010000C + i * 256, 8, 8, 0⟩
def CH_PROFILE_INRUSH_2A (i : Nat) : Fld := ⟨0x4010000C + i * 256, 0, 8, 0⟩
def CH_FUSE_I_THR (i : Nat) (j : Nat) : Fld := ⟨0x40100010 + i * 256 + j * 4, 16, 16, fuseDefault i j true⟩
def CH_FUSE_T_MS (i : Nat) (j : Nat) : Fld := ⟨0x40100010 + i * 256 + j * 4, 0, 16, fuseDefault i j false⟩
def CH_AGE_RDS_MEAS (i : Nat) : Fld := ⟨0x40100030 + i * 256, 16, 16, 0⟩
def CH_AGE_DRIFT (i : Nat) : Fld := ⟨0x40100030 + i * 256, 8, 8, 0⟩
def CH_AGE_AGE_VALID (i : Nat) : Fld := ⟨0x40100030 + i * 256, 7, 1, 0⟩
def CH_TIMING_COOL_MS (i : Nat) : Fld := ⟨0x40100034 + i * 256, 16, 16, 10000⟩
def CH_TIMING_RETRY_DELAY_MS (i : Nat) : Fld := ⟨0x40100034 + i * 256, 0, 16, 1000⟩
def CH_PWM_PWM_KHZ (i : Nat) : Fld := ⟨0x40100038 + i * 256, 16, 5, if i < 16 then 0 else 1⟩
def CH_PWM_DITHER_HZ (i : Nat) : Fld := ⟨0x40100038 + i * 256, 0, 9, 0⟩
def CH_DIAG2_SG_THRESH (i : Nat) : Fld := ⟨0x4010003C + i * 256, 0, 10, 0⟩
def FB_BUDGET_INRUSH_CAP : Fld := ⟨0x40103000, 16, 9, 400⟩
def FB_BUDGET_SUPPLY_SLEW : Fld := ⟨0x40103000, 0, 9, 50⟩
def FB_START_WAIT_START_WAIT_MAX : Fld := ⟨0x40103004, 0, 16, 500⟩
def FB_AGG_AGG_HIGH : Fld := ⟨0x4010300C, 31, 1, 0⟩
def FB_AGG_AGG_I : Fld := ⟨0x4010300C, 0, 16, 0⟩
def FB_TIE_CNT_TIES : Fld := ⟨0x40103010, 0, 32, 0⟩
def LANEIF_CFG_PERIOD : Fld := ⟨0x40200008, 12, 10, 100⟩
def LANEIF_CFG_ARM_2OO2 : Fld := ⟨0x40200008, 9, 1, 0⟩
def LANEIF_CFG_REINT_EN : Fld := ⟨0x40200008, 8, 1, 1⟩
def LANEIF_CFG_PRECOPY_SHARE : Fld := ⟨0x40200008, 6, 2, 1⟩
def LANEIF_CFG_DISAGREE_CYCLES : Fld := ⟨0x40200008, 0, 6, 8⟩
def LANEIF_CYCLE_CNT_CYCLE : Fld := ⟨0x4020000C, 0, 32, 0⟩
def LANEIF_LANE_CAUSE (i : Nat) : Fld := ⟨0x40200010 + i * 4, 28, 4, 0⟩
def LANEIF_LANE_DISAGREE_CNT (i : Nat) : Fld := ⟨0x40200010 + i * 4, 16, 8, 0⟩
def LANEIF_LANE_EXCL_CNT (i : Nat) : Fld := ⟨0x40200010 + i * 4, 8, 8, 0⟩
def LANEIF_LANE_BIST_FAIL_CNT (i : Nat) : Fld := ⟨0x40200010 + i * 4, 0, 8, 0⟩
def LANEIF_REINT_LANE : Fld := ⟨0x4020001C, 30, 2, 0⟩
def LANEIF_REINT_IN_PROGRESS : Fld := ⟨0x4020001C, 29, 1, 0⟩
def LANEIF_REINT_PRECOPY_DONE : Fld := ⟨0x4020001C, 28, 1, 0⟩
def LANEIF_REINT_ABORT_CAUSE : Fld := ⟨0x4020001C, 24, 4, 0⟩
def LANEIF_REINT_CYCLES : Fld := ⟨0x4020001C, 16, 8, 0⟩
def LANEIF_REINT_DIRTY_BLK : Fld := ⟨0x4020001C, 7, 9, 0⟩
def LANEIF_REINT_SHADOW_CNT : Fld := ⟨0x4020001C, 0, 5, 0⟩
def LANEIF_DIN_AGREED_DIN : Fld := ⟨0x40200030, 0, 16, 0⟩
def LANEIF_DIN_DISAGREE_DIN_FLAG : Fld := ⟨0x40200034, 0, 16, 0⟩
def LANEIF_AIN_DISAGREE_AIN_FLAG : Fld := ⟨0x40200038, 0, 16, 0⟩
def LANEIF_LINK_LINK_FAULT : Fld := ⟨0x40200040, 24, 3, 0⟩
def LANEIF_LINK_CRC_AB : Fld := ⟨0x40200040, 16, 8, 0⟩
def LANEIF_LINK_CRC_BC : Fld := ⟨0x40200040, 8, 8, 0⟩
def LANEIF_LINK_CRC_CA : Fld := ⟨0x40200040, 0, 8, 0⟩
def LANEIF_SKEW_SKEW_B : Fld := ⟨0x40200044, 16, 16, 0⟩
def LANEIF_SKEW_SKEW_C : Fld := ⟨0x40200044, 0, 16, 0⟩
def LANEIF_TIE_CNT_TIES : Fld := ⟨0x40200048, 0, 32, 0⟩
def LANEIF_IMG_SEQ_VOUT_SEQ : Fld := ⟨0x4020004C, 16, 16, 0⟩
def LANEIF_IMG_SEQ_VIN_SEQ : Fld := ⟨0x4020004C, 0, 16, 0⟩
def LANEIF_VOUT_NOAGREE_VALID : Fld := ⟨0x40200050, 31, 1, 0⟩
def LANEIF_VOUT_NOAGREE_WORD : Fld := ⟨0x40200050, 16, 9, 0⟩
def LANEIF_VOUT_NOAGREE_SEQ : Fld := ⟨0x40200050, 0, 16, 0⟩
def LANEIF_AIN_VAL_VALUE (i : Nat) : Fld := ⟨0x40200100 + i * 4, 0, 32, 0⟩
def LANEIF_IN_CFG_DIN_SAFE (i : Nat) : Fld := ⟨0x40200140 + i * 4, 31, 1, 0⟩
def LANEIF_IN_CFG_TOL (i : Nat) : Fld := ⟨0x40200140 + i * 4, 0, 24, 0⟩
def LANEIF_VIN_DATA (i : Nat) : Fld := ⟨0x40201000 + i * 4, 0, 32, 0⟩
def LANEIF_VOUT_DATA (i : Nat) : Fld := ⟨0x40202000 + i * 4, 0, 32, 0⟩
def CYCMGR_STAT_LAST_RESTART : Fld := ⟨0x40300000, 27, 2, 0⟩
def CYCMGR_STAT_COLD_REASON : Fld := ⟨0x40300000, 24, 3, 0⟩
def CYCMGR_STAT_HOLD_ARMED : Fld := ⟨0x40300000, 19, 1, 0⟩
def CYCMGR_STAT_CMD_RESULT : Fld := ⟨0x40300000, 16, 3, 0⟩
def CYCMGR_STAT_LAST_CMD : Fld := ⟨0x40300000, 12, 4, 0⟩
def CYCMGR_STAT_ACT_BANK : Fld := ⟨0x40300000, 8, 1, 0⟩
def CYCMGR_CFG_RESTART_MODE : Fld := ⟨0x40300008, 8, 2, 0⟩
def CYCMGR_CFG_AUTOSTART : Fld := ⟨0x40300008, 7, 1, 0⟩
def CYCMGR_CFG_OVERRUN_LIMIT : Fld := ⟨0x40300008, 0, 4, 3⟩
def CYCMGR_CYC_STAT_OVERRUN_CNT : Fld := ⟨0x4030000C, 16, 16, 0⟩
def CYCMGR_CYC_STAT_OVERRUN_RUN : Fld := ⟨0x4030000C, 12, 4, 0⟩
def CYCMGR_CYC_STAT_LAST_LANE : Fld := ⟨0x4030000C, 10, 2, 3⟩
def CYCMGR_CYC_STAT_BACKLOG_MAX : Fld := ⟨0x4030000C, 0, 4, 0⟩
def CYCMGR_OC_CYCLE_CYCLE : Fld := ⟨0x40300010, 0, 32, 0⟩
def CYCMGR_CMD_LOG_ENTRY3 : Fld := ⟨0x40300014, 24, 8, 0⟩
def CYCMGR_CMD_LOG_ENTRY2 : Fld := ⟨0x40300014, 16, 8, 0⟩
def CYCMGR_CMD_LOG_ENTRY1 : Fld := ⟨0x40300014, 8, 8, 0⟩
def CYCMGR_CMD_LOG_ENTRY0 : Fld := ⟨0x40300014, 0, 8, 0⟩
def CYCMGR_OC_REP_ID_VAR_ID : Fld := ⟨0x40300018, 0, 32, 0⟩
def CYCMGR_ACT_HASH_HASH (i : Nat) : Fld := ⟨0x40300040 + i * 4, 0, 32, 0⟩
def CYCMGR_INACT_HASH_HASH (i : Nat) : Fld := ⟨0x40300060 + i * 4, 0, 32, 0⟩
def CYCMGR_TOKEN_STAT_RIGHTS : Fld := ⟨0x40300080, 29, 2, 0⟩
def CYCMGR_TOKEN_STAT_LAST_REFUSE : Fld := ⟨0x40300080, 16, 8, 0⟩
def CYCMGR_TOKEN_EXP_NOT_AFTER (i : Nat) : Fld := ⟨0x40300084 + i * 4, 0, 32, 0⟩
def CYCMGR_FORCE_STAT_APPLIED : Fld := ⟨0x40300090, 23, 9, 0⟩
def CYCMGR_FORCE_STAT_VITAL : Fld := ⟨0x40300090, 14, 9, 0⟩
def CYCMGR_TASK_CFG_PRESENT (i : Nat) : Fld := ⟨0x40300100 + i * 8, 31, 1, 0⟩
def CYCMGR_TASK_CFG_MULT_LOG2 (i : Nat) : Fld := ⟨0x40300100 + i * 8, 28, 3, 0⟩
def CYCMGR_TASK_CFG_PHASE (i : Nat) : Fld := ⟨0x40300100 + i * 8, 22, 6, 0⟩
def CYCMGR_TASK_CFG_WCET_US (i : Nat) : Fld := ⟨0x40300100 + i * 8, 0, 16, 0⟩
def CYCMGR_TASK_TIME_MAX_US (i : Nat) : Fld := ⟨0x40300104 + i * 8, 16, 16, 0⟩
def CYCMGR_TASK_TIME_LAST_US (i : Nat) : Fld := ⟨0x40300104 + i * 8, 0, 16, 0⟩
def CYCMGR_TOKEN_DATA (i : Nat) : Fld := ⟨0x40302000 + i * 4, 0, 32, 0⟩
def PAIR_STAT_IN_STEP : Fld := ⟨0x40380000, 26, 1, 0⟩
def PAIR_STAT_IMG_SRC : Fld := ⟨0x40380000, 25, 1, 0⟩
def PAIR_STAT_PARTNER_SEEN : Fld := ⟨0x40380000, 24, 1, 0⟩
def PAIR_STAT_DETACH_CAUSE : Fld := ⟨0x40380000, 20, 4, 0⟩
def PAIR_STAT_OFFSET_ERR : Fld := ⟨0x40380000, 0, 16, 0⟩
def PAIR_CFG_PAIR_EN : Fld := ⟨0x40380008, 31, 1, 0⟩
def PAIR_CFG_PREFERRED : Fld := ⟨0x40380008, 30, 1, 0⟩
def PAIR_CFG_PARTNER_MID : Fld := ⟨0x40380008, 16, 14, 0⟩
def PAIR_CFG_PAIR_OFFSET : Fld := ⟨0x40380008, 8, 8, 40⟩
def PAIR_CFG_CLAIM_QUIET : Fld := ⟨0x40380008, 4, 4, 4⟩
def PAIR_CFG2_REVERT_HOLD : Fld := ⟨0x4038000C, 20, 12, 60⟩
def PAIR_CFG2_PARTNER_WAIT : Fld := ⟨0x4038000C, 10, 10, 50⟩
def PAIR_CFG2_TRANSFER_QUIET : Fld := ⟨0x4038000C, 0, 10, 100⟩
def PAIR_LOOP_OPEN : Fld := ⟨0x40380010, 31, 1, 0⟩
def PAIR_LOOP_SHORT : Fld := ⟨0x40380010, 30, 1, 0⟩
def PAIR_LOOP_CONFLICT : Fld := ⟨0x40380010, 29, 1, 0⟩
def PAIR_LOOP_INBOUND : Fld := ⟨0x40380010, 28, 1, 0⟩
def PAIR_LOOP_DEGRADED : Fld := ⟨0x40380010, 26, 1, 0⟩
def PAIR_LOOP_LOOP_V : Fld := ⟨0x40380010, 12, 12, 0⟩
def PAIR_LOOP_LOOP_I : Fld := ⟨0x40380010, 0, 12, 0⟩
def PAIR_CNT_TAKEOVERS : Fld := ⟨0x40380014, 24, 8, 0⟩
def PAIR_CNT_TRANSFERS : Fld := ⟨0x40380014, 16, 8, 0⟩
def PAIR_CNT_DISAGREE : Fld := ⟨0x40380014, 8, 8, 0⟩
def PAIR_CNT_IMG_MISSING : Fld := ⟨0x40380014, 0, 8, 0⟩
def PAIR_GAIN_T (i : Nat) : Fld := ⟨0x40380018 + i * 4, 0, 32, 0⟩
def PAIR_LOSS_T (i : Nat) : Fld := ⟨0x40380020 + i * 4, 0, 32, 0⟩
def PAIR_TIE_CNT_TIES : Fld := ⟨0x40380028, 0, 32, 0⟩
def UIO_PIN_CFG_MODE (i : Nat) : Fld := ⟨0x40600000 + i * 16, 28, 4, 0⟩
def UIO_PIN_CFG_SP_REF (i : Nat) : Fld := ⟨0x40600000 + i * 16, 25, 3, 0⟩
def UIO_PIN_CFG_SP_CHK (i : Nat) : Fld := ⟨0x40600000 + i * 16, 24, 1, 0⟩
def UIO_PIN_CFG_DEB (i : Nat) : Fld := ⟨0x40600000 + i * 16, 16, 8, 0⟩
def UIO_PIN_CFG_FGATE (i : Nat) : Fld := ⟨0x40600000 + i * 16, 0, 10, 100⟩
def UIO_PIN_VAL_VALUE (i : Nat) : Fld := ⟨0x40600004 + i * 16, 0, 32, 0⟩
def UIO_PIN_DIAG_SUPPLY (i : Nat) : Fld := ⟨0x40600008 + i * 16, 27, 1, 0⟩
def UIO_PIN_DIAG_SHORT (i : Nat) : Fld := ⟨0x40600008 + i * 16, 26, 1, 0⟩
def UIO_PIN_DIAG_OPEN (i : Nat) : Fld := ⟨0x40600008 + i * 16, 25, 1, 0⟩
def UIO_PIN_DIAG_UNDER (i : Nat) : Fld := ⟨0x40600008 + i * 16, 24, 1, 0⟩
def UIO_PIN_DIAG_OVER (i : Nat) : Fld := ⟨0x40600008 + i * 16, 23, 1, 0⟩
def UIO_PIN_DIAG_LEVEL (i : Nat) : Fld := ⟨0x40600008 + i * 16, 0, 1, 0⟩
def UIO_PIN_THR_TH_HI (i : Nat) : Fld := ⟨0x4060000C + i * 16, 16, 9, 70⟩
def UIO_PIN_THR_TH_LO (i : Nat) : Fld := ⟨0x4060000C + i * 16, 0, 9, 40⟩
def UIO_SP_CTL_EN (i : Nat) : Fld := ⟨0x40600400 + i * 4, 31, 1, 0⟩
def UIO_SP_CTL_VSEL (i : Nat) : Fld := ⟨0x40600400 + i * 4, 29, 2, 0⟩
def UIO_SP_CTL_SP_LOCK (i : Nat) : Fld := ⟨0x40600400 + i * 4, 28, 1, 0⟩
def UIO_SP_CTL_TRIP (i : Nat) : Fld := ⟨0x40600400 + i * 4, 27, 1, 0⟩
def UIO_SP_CTL_IN_REG (i : Nat) : Fld := ⟨0x40600400 + i * 4, 26, 1, 0⟩
def UIO_SP_CTL_I_OUT (i : Nat) : Fld := ⟨0x40600400 + i * 4, 0, 10, 0⟩
def UIO_SEG_CFG_SEG_EN (i : Nat) : Fld := ⟨0x40601000 + i * 4096, 31, 1, 0⟩
def UIO_SEG_CFG_AUTO_RELEASE (i : Nat) : Fld := ⟨0x40601000 + i * 4096, 30, 1, 0⟩
def UIO_SEG_CFG_STALE_CYCLES (i : Nat) : Fld := ⟨0x40601000 + i * 4096, 26, 4, 3⟩
def UIO_SEG_CFG_POLL_PERIOD (i : Nat) : Fld := ⟨0x40601000 + i * 4096, 0, 16, 250⟩
def UIO_SEG_CNT_CYCLE (i : Nat) : Fld := ⟨0x40601008 + i * 4096, 16, 16, 0⟩
def UIO_SEG_CNT_FOREIGN (i : Nat) : Fld := ⟨0x40601008 + i * 4096, 0, 16, 0⟩
def UIO_STN_STAT_STALE (i : Nat) (j : Nat) : Fld := ⟨0x40601100 + i * 4096 + j * 16, 28, 1, 0⟩
def UIO_STN_STAT_SUBST (i : Nat) (j : Nat) : Fld := ⟨0x40601100 + i * 4096 + j * 16, 27, 1, 0⟩
def UIO_STN_STAT_REJOINED (i : Nat) (j : Nat) : Fld := ⟨0x40601100 + i * 4096 + j * 16, 26, 1, 0⟩
def UIO_STN_STAT_STATUS (i : Nat) (j : Nat) : Fld := ⟨0x40601100 + i * 4096 + j * 16, 16, 8, 0⟩
def UIO_STN_STAT_RUN (i : Nat) (j : Nat) : Fld := ⟨0x40601100 + i * 4096 + j * 16, 12, 4, 0⟩
def UIO_STN_CNT_UNDELIVERED (i : Nat) (j : Nat) : Fld := ⟨0x40601104 + i * 4096 + j * 16, 16, 16, 0⟩
def UIO_STN_CNT_LATE (i : Nat) (j : Nat) : Fld := ⟨0x40601104 + i * 4096 + j * 16, 0, 16, 0⟩
def UIO_STN_CTL_IN_LEN (i : Nat) (j : Nat) : Fld := ⟨0x40601108 + i * 4096 + j * 16, 16, 6, 0⟩
def UIO_STN_CTL_OUT_LEN (i : Nat) (j : Nat) : Fld := ⟨0x40601108 + i * 4096 + j * 16, 8, 6, 0⟩
def DVE_STAT_FAULT_CAUSE (i : Nat) : Fld := ⟨0x40400004 + i * 65536, 25, 4, 0⟩
def DVE_STAT_CLASS (i : Nat) : Fld := ⟨0x40400004 + i * 65536, 23, 2, 0⟩
def DVE_STAT_SAT (i : Nat) : Fld := ⟨0x40400004 + i * 65536, 22, 1, 0⟩
def DVE_STAT_CMD_REFUSED (i : Nat) : Fld := ⟨0x40400004 + i * 65536, 21, 1, 0⟩
def DVE_FAULT_PC_PC (i : Nat) : Fld := ⟨0x40400008 + i * 65536, 0, 16, 0⟩
def DVE_LOAD_ADDR_ADDR (i : Nat) (j : Nat) : Fld := ⟨0x40400010 + i * 65536 + j * 4, 0, 32, 0⟩
def DVE_LOAD_RESULT_RESULT (i : Nat) : Fld := ⟨0x40400018 + i * 65536, 24, 8, 0⟩
def DVE_IMG_HASH_HASH (i : Nat) (j : Nat) : Fld := ⟨0x40400020 + i * 65536 + j * 4, 0, 32, 0⟩
def DVE_BURST_BURST_MAX (i : Nat) : Fld := ⟨0x40400048 + i * 65536, 16, 16, 5000⟩
def DVE_BURST_BURST_PEAK (i : Nat) : Fld := ⟨0x40400048 + i * 65536, 0, 16, 0⟩
def DVE_UTIL_BUSY (i : Nat) : Fld := ⟨0x4040004C + i * 65536, 0, 14, 0⟩
def DVE_CANCEL_INST (i : Nat) : Fld := ⟨0x40400050 + i * 65536, 25, 6, 0⟩
def DVE_CANCEL_CANCELLED (i : Nat) : Fld := ⟨0x40400050 + i * 65536, 0, 16, 0⟩
def DVE_TIE_CNT_TIES (i : Nat) : Fld := ⟨0x40400054 + i * 65536, 0, 32, 0⟩
def DVE_INST_ALLOW_ALLOW (i : Nat) (j : Nat) : Fld := ⟨0x40400058 + i * 65536 + j * 4, 0, 32, if j = 0 then 1 else 0⟩
def DVE_QMAP_EN (i : Nat) (j : Nat) : Fld := ⟨0x40400100 + i * 65536 + j * 4, 31, 1, 0⟩
def DVE_QMAP_DIR (i : Nat) (j : Nat) : Fld := ⟨0x40400100 + i * 65536 + j * 4, 30, 1, 0⟩
def DVE_QMAP_HWQ (i : Nat) (j : Nat) : Fld := ⟨0x40400100 + i * 65536 + j * 4, 0, 9, 0⟩
def DVE_PORT_REFUSED (i : Nat) (j : Nat) : Fld := ⟨0x40400140 + i * 65536 + j * 4, 16, 16, 0⟩
def GWTAB_CTL_CLASSIFY_EN : Fld := ⟨0x40500000, 31, 1, 0⟩
def GWTAB_STAT_SEAL_BUSY : Fld := ⟨0x40500004, 31, 1, 0⟩
def GWTAB_STAT_CFG_REFUSED : Fld := ⟨0x40500004, 30, 1, 0⟩
def GWTAB_CNT_NOMATCH : Fld := ⟨0x40500008, 16, 16, 0⟩
def GWTAB_CNT_DROPPED : Fld := ⟨0x40500008, 0, 16, 0⟩
def GWTAB_TIE_CNT_TIES : Fld := ⟨0x4050000C, 0, 32, 0⟩
def GWTAB_DESC_HASH_HASH (i : Nat) : Fld := ⟨0x40500020 + i * 4, 0, 32, 0⟩
def GW_ROUTE0_VALID (i : Nat) : Fld := ⟨0x40510000 + i * 16, 31, 1, 0⟩
def GW_ROUTE0_INST (i : Nat) : Fld := ⟨0x40510000 + i * 16, 25, 6, 0⟩
def GW_ROUTE0_IN_HWQ (i : Nat) : Fld := ⟨0x40510000 + i * 16, 16, 9, 0⟩
def GW_ROUTE0_TRIGGER (i : Nat) : Fld := ⟨0x40510000 + i * 16, 14, 2, 0⟩
def GW_ROUTE1_DESC_FIRST (i : Nat) : Fld := ⟨0x40510004 + i * 16, 16, 13, 0⟩
def GW_ROUTE1_DESC_CNT (i : Nat) : Fld := ⟨0x40510004 + i * 16, 0, 7, 0⟩
def GW_ROUTE2_PERIOD_MS (i : Nat) : Fld := ⟨0x40510008 + i * 16, 16, 16, 0⟩
def GW_ROUTE2_TIMEOUT_MS (i : Nat) : Fld := ⟨0x40510008 + i * 16, 0, 16, 0⟩
def GW_ROUTE3_DST (i : Nat) : Fld := ⟨0x4051000C + i * 16, 29, 3, 0⟩
def GW_ROUTE3_PDU_ID (i : Nat) : Fld := ⟨0x4051000C + i * 16, 0, 29, 0⟩
def GW_KEY0_VALID (i : Nat) : Fld := ⟨0x40520000 + i * 32, 31, 1, 0⟩
def GW_KEY0_SRC (i : Nat) : Fld := ⟨0x40520000 + i * 32, 24, 5, 0⟩
def GW_KEY0_XTD (i : Nat) : Fld := ⟨0x40520000 + i * 32, 23, 1, 0⟩
def GW_KEY1_ID (i : Nat) : Fld := ⟨0x40520004 + i * 32, 0, 29, 0⟩
def GW_KEY2_MASK (i : Nat) : Fld := ⟨0x40520008 + i * 32, 0, 29, 0⟩
def GW_KEY3_HITS (i : Nat) : Fld := ⟨0x4052000C + i * 32, 0, 32, 0⟩
def GW_DESC0_KEY (i : Nat) : Fld := ⟨0x40540000 + i * 32, 19, 13, 0⟩
def GW_DESC0_SRC_START (i : Nat) : Fld := ⟨0x40540000 + i * 32, 5, 14, 0⟩
def GW_DESC0_SRC_LEN (i : Nat) : Fld := ⟨0x40540000 + i * 32, 0, 5, 0⟩
def GW_DESC1_SRC_BE (i : Nat) : Fld := ⟨0x40540004 + i * 32, 31, 1, 0⟩
def GW_DESC1_SRC_SIGNED (i : Nat) : Fld := ⟨0x40540004 + i * 32, 30, 1, 0⟩
def GW_DESC1_DST_BE (i : Nat) : Fld := ⟨0x40540004 + i * 32, 29, 1, 0⟩
def GW_DESC1_DST_SIGNED (i : Nat) : Fld := ⟨0x40540004 + i * 32, 28, 1, 0⟩
def GW_DESC1_DST_LEN (i : Nat) : Fld := ⟨0x40540004 + i * 32, 23, 5, 0⟩
def GW_DESC1_DST_START (i : Nat) : Fld := ⟨0x40540004 + i * 32, 9, 14, 0⟩
def GW_DESC1_SH (i : Nat) : Fld := ⟨0x40540004 + i * 32, 4, 5, 0⟩
def GW_DESC2_FACTOR (i : Nat) : Fld := ⟨0x40540008 + i * 32, 0, 32, 0⟩
def GW_DESC3_OFFSET (i : Nat) : Fld := ⟨0x4054000C + i * 32, 0, 32, 0⟩
def GW_DESC4_SUBST (i : Nat) : Fld := ⟨0x40540010 + i * 32, 0, 32, 0⟩
def STAIR_PWE_DET_ADDR (i : Nat) : Fld := ⟨0x40580024 + i * 4, 0, 32, 0⟩
def STAIR_PWE_DET_DATA (i : Nat) : Fld := ⟨0x40580024 + i * 4, 0, 32, 0⟩
def STAIR_ORPH_DET_VALUE (i : Nat) : Fld := ⟨0x40580034 + i * 4, 0, 32, 0⟩
def STAIR_TIE_CNT_TIES : Fld := ⟨0x40580048, 0, 32, 0⟩
def STAIR_IRQ_ROUTE_EN (i : Nat) : Fld := ⟨0x40580100 + i * 4, 31, 1, 0⟩
def STAIR_IRQ_ROUTE_INST (i : Nat) : Fld := ⟨0x40580100 + i * 4, 0, 6, 0⟩
def HALL_CTL_FWD_EN : Fld := ⟨0x40E00000, 31, 1, 0⟩
def HALL_CTL_AGE_S : Fld := ⟨0x40E00000, 0, 12, 300⟩
def HALL_BUF_MIN_MIN : Fld := ⟨0x40E00008, 0, 17, 98304⟩
def HALL_BUF_CFG_INT_XOFF : Fld := ⟨0x40E0000C, 16, 11, 128⟩
def HALL_BUF_CFG_INT_XON : Fld := ⟨0x40E0000C, 0, 11, 192⟩
def HALL_INT_HOLD_HELD : Fld := ⟨0x40E00010, 8, 8, 0⟩
def HALL_INT_HOLD_INT_HOLD_MASK : Fld := ⟨0x40E00010, 0, 8, 111⟩
def HALL_TIE_CNT_TIES : Fld := ⟨0x40E00014, 0, 32, 0⟩
def HALL_PARTIAL_CNT_PARTIAL : Fld := ⟨0x40E0001C, 0, 32, 0⟩
def HALL_FDB_MAC_LO_MAC_LO : Fld := ⟨0x40E00100, 0, 32, 0⟩
def HALL_FDB_KEY_VID : Fld := ⟨0x40E00104, 16, 12, 0⟩
def HALL_FDB_KEY_MAC_HI : Fld := ⟨0x40E00104, 0, 16, 0⟩
def HALL_FDB_DATA_STATIC : Fld := ⟨0x40E00108, 31, 1, 0⟩
def HALL_FDB_DATA_PORT_MASK : Fld := ⟨0x40E00108, 0, 24, 0⟩
def HALL_FDB_CMD_BUSY : Fld := ⟨0x40E0010C, 29, 1, 0⟩
def HALL_FDB_CMD_RESULT : Fld := ⟨0x40E0010C, 24, 5, 0⟩
def HALL_PORT_CFG_CUT_EN (i : Nat) : Fld := ⟨0x40E10000 + i * 4096, 31, 1, 0⟩
def HALL_PORT_CFG_LEARN_EN (i : Nat) : Fld := ⟨0x40E10000 + i * 4096, 30, 1, 1⟩
def HALL_PORT_CFG_FWD_STATE (i : Nat) : Fld := ⟨0x40E10000 + i * 4096, 28, 2, 2⟩
def HALL_PORT_CFG_PREEMPT_EN (i : Nat) : Fld := ⟨0x40E10000 + i * 4096, 27, 1, 0⟩
def HALL_PORT_CFG_VERIFY_EN (i : Nat) : Fld := ⟨0x40E10000 + i * 4096, 26, 1, 1⟩
def HALL_PORT_CFG_ADD_FRAG (i : Nat) : Fld := ⟨0x40E10000 + i * 4096, 24, 2, 0⟩
def HALL_PORT_CFG_EXPRESS (i : Nat) : Fld := ⟨0x40E10000 + i * 4096, 16, 8, 255⟩
def HALL_PORT_CFG_DEI_REMARK (i : Nat) : Fld := ⟨0x40E10000 + i * 4096, 15, 1, 0⟩
def HALL_PORT_CFG_PVID (i : Nat) : Fld := ⟨0x40E10000 + i * 4096, 0, 12, 1⟩
def HALL_PORT_STAT_LINK_STATE (i : Nat) : Fld := ⟨0x40E10004 + i * 4096, 30, 2, if i < 8 then 0 else 2⟩
def HALL_PORT_STAT_PREEMPT_ACTIVE (i : Nat) : Fld := ⟨0x40E10004 + i * 4096, 29, 1, 0⟩
def HALL_PORT_STAT_VERIFY (i : Nat) : Fld := ⟨0x40E10004 + i * 4096, 26, 3, 0⟩
def HALL_PORT_HOLD_LINK_HOLD (i : Nat) : Fld := ⟨0x40E10008 + i * 4096, 0, 10, 10⟩
def HALL_PORT_PCP_MAP (i : Nat) : Fld := ⟨0x40E1000C + i * 4096, 0, 24, 16434824⟩
def HALL_Q_CFG_PROFILE (i : Nat) (j : Nat) : Fld := ⟨0x40E10200 + i * 4096 + j * 32, 28, 4, 0⟩
def HALL_Q_CFG_MAX_RES (i : Nat) (j : Nat) : Fld := ⟨0x40E10200 + i * 4096 + j * 32, 16, 10, 4⟩
def HALL_Q_CFG_Q_LIMIT (i : Nat) (j : Nat) : Fld := ⟨0x40E10200 + i * 4096 + j * 32, 0, 13, 256⟩
def HALL_Q_SHAPE_SH_EN (i : Nat) (j : Nat) : Fld := ⟨0x40E10208 + i * 4096 + j * 32, 31, 1, 0⟩
def HALL_Q_SHAPE_RATE (i : Nat) (j : Nat) : Fld := ⟨0x40E10208 + i * 4096 + j * 32, 16, 14, 0⟩
def HALL_Q_SHAPE_BURST (i : Nat) (j : Nat) : Fld := ⟨0x40E10208 + i * 4096 + j * 32, 0, 16, 16⟩
def HALL_RED_PMAX (i : Nat) (j : Nat) : Fld := ⟨0x40E80000 + i * 32 + j * 4, 24, 8, redDefault i j 31 24⟩
def HALL_RED_MIN (i : Nat) (j : Nat) : Fld := ⟨0x40E80000 + i * 32 + j * 4, 12, 12, redDefault i j 23 12⟩
def HALL_RED_MAX (i : Nat) (j : Nat) : Fld := ⟨0x40E80000 + i * 32 + j * 4, 0, 12, redDefault i j 11 0⟩
def HALL_MTR0_EN (i : Nat) : Fld := ⟨0x40E90000 + i * 16, 31, 1, 0⟩
def HALL_MTR0_COLOUR_AWARE (i : Nat) : Fld := ⟨0x40E90000 + i * 16, 30, 1, 0⟩
def HALL_MTR0_DROP_RED (i : Nat) : Fld := ⟨0x40E90000 + i * 16, 29, 1, 0⟩
def HALL_MTR0_CIR (i : Nat) : Fld := ⟨0x40E90000 + i * 16, 0, 24, 0⟩
def HALL_MTR1_CBS (i : Nat) : Fld := ⟨0x40E90004 + i * 16, 0, 24, 0⟩
def HALL_MTR2_PIR (i : Nat) : Fld := ⟨0x40E90008 + i * 16, 0, 24, 0⟩
def HALL_MTR3_PBS (i : Nat) : Fld := ⟨0x40E9000C + i * 16, 0, 24, 0⟩
def HALL_STREAM0_VALID (i : Nat) : Fld := ⟨0x40EA0000 + i * 32, 31, 1, 0⟩
def HALL_STREAM0_INGRESS (i : Nat) : Fld := ⟨0x40EA0000 + i * 32, 24, 5, 0⟩
def HALL_STREAM0_USE_PCP (i : Nat) : Fld := ⟨0x40EA0000 + i * 32, 23, 1, 0⟩
def HALL_STREAM0_PCP (i : Nat) : Fld := ⟨0x40EA0000 + i * 32, 20, 3, 0⟩
def HALL_STREAM0_VID (i : Nat) : Fld := ⟨0x40EA0000 + i * 32, 0, 12, 0⟩
def HALL_STREAM1_DA_LO (i : Nat) : Fld := ⟨0x40EA0004 + i * 32, 0, 32, 0⟩
def HALL_STREAM2_DA_HI (i : Nat) : Fld := ⟨0x40EA0008 + i * 32, 0, 16, 0⟩
def HALL_STREAM3_METER (i : Nat) : Fld := ⟨0x40EA000C + i * 32, 22, 10, 1023⟩
def HALL_STREAM3_TC_OVR_EN (i : Nat) : Fld := ⟨0x40EA000C + i * 32, 21, 1, 0⟩
def HALL_STREAM3_TC_OVR (i : Nat) : Fld := ⟨0x40EA000C + i * 32, 18, 3, 0⟩
def HALL_STREAM3_ATOMIC (i : Nat) : Fld := ⟨0x40EA000C + i * 32, 17, 1, 0⟩
def HALL_STREAM3_FRER_GEN (i : Nat) : Fld := ⟨0x40EA000C + i * 32, 16, 1, 0⟩
def HALL_STREAM3_FRER_REC (i : Nat) : Fld := ⟨0x40EA000C + i * 32, 15, 1, 0⟩
def HALL_STREAM3_RECOV_RESET (i : Nat) : Fld := ⟨0x40EA000C + i * 32, 5, 10, 100⟩
def HALL_STREAM3_HIST (i : Nat) : Fld := ⟨0x40EA000C + i * 32, 0, 5, 0⟩
def HALL_STREAM4_PARTIAL (i : Nat) : Fld := ⟨0x40EA0010 + i * 32, 0, 32, 0⟩
def HALL_STREAM5_ATOMIC_DROP (i : Nat) : Fld := ⟨0x40EA0014 + i * 32, 0, 32, 0⟩
def HALL_STREAM6_FRER_DISC (i : Nat) : Fld := ⟨0x40EA0018 + i * 32, 0, 32, 0⟩
def HALL_STREAM7_FRAMES (i : Nat) : Fld := ⟨0x40EA001C + i * 32, 0, 32, 0⟩
def HALL_VLAN0_MEMBER (i : Nat) : Fld := ⟨0x40FC0000 + i * 8, 0, 24, if i = 1 then 0xFFFFFF else 0⟩
def HALL_VLAN1_UNTAG (i : Nat) : Fld := ⟨0x40FC0004 + i * 8, 0, 24, if i = 1 then 0xFFFFFF else 0⟩
def HALL_GCL_CTL_GATE_EN (i : Nat) : Fld := ⟨0x40F00000 + i * 8192, 31, 1, 0⟩
def HALL_GCL_CTL_ADMIN_LEN (i : Nat) : Fld := ⟨0x40F00000 + i * 8192, 16, 9, 1⟩
def HALL_GCL_CTL_OPER_LEN (i : Nat) : Fld := ⟨0x40F00000 + i * 8192, 0, 9, 1⟩
def HALL_MSEC_CFG_EN (i : Nat) : Fld := ⟨0x40E18800 + i * 4096, 31, 1, 0⟩
def HALL_MSEC_CFG_SUITE (i : Nat) : Fld := ⟨0x40E18800 + i * 4096, 29, 2, 0⟩
def HALL_MSEC_CFG_CONF_OFFSET (i : Nat) : Fld := ⟨0x40E18800 + i * 4096, 27, 2, 0⟩
def HALL_MSEC_CFG_TX_AN (i : Nat) : Fld := ⟨0x40E18800 + i * 4096, 25, 2, 0⟩
def HALL_MSEC_SA0_VALID (i : Nat) (j : Nat) : Fld := ⟨0x40E18840 + i * 4096 + j * 16, 31, 1, 0⟩
def HALL_MSEC_SA0_KEY_SLOT (i : Nat) (j : Nat) : Fld := ⟨0x40E18840 + i * 4096 + j * 16, 0, 6, 0⟩
def HALL_MSEC_SA1_PN (i : Nat) (j : Nat) : Fld := ⟨0x40E18844 + i * 4096 + j * 16, 0, 32, 0⟩
def HALL_MSEC_SA3_REPLAY_WIN (i : Nat) (j : Nat) : Fld := ⟨0x40E1884C + i * 4096 + j * 16, 0, 32, 0⟩
def CAN_CTL_FD_EN (i : Nat) : Fld := ⟨0x40700000 + i * 65536, 31, 1, 0⟩
def CAN_CTL_XL_EN (i : Nat) : Fld := ⟨0x40700000 + i * 65536, 30, 1, 0⟩
def CAN_CTL_PEX (i : Nat) : Fld := ⟨0x40700000 + i * 65536, 29, 1, 1⟩
def CAN_CTL_LISTEN (i : Nat) : Fld := ⟨0x40700000 + i * 65536, 28, 1, 0⟩
def CAN_CTL_TERM (i : Nat) : Fld := ⟨0x40700000 + i * 65536, 27, 1, 0⟩
def CAN_CTL_XL_FAST (i : Nat) : Fld := ⟨0x40700000 + i * 65536, 26, 1, 0⟩
def CAN_STAT_CMD_REFUSED (i : Nat) : Fld := ⟨0x40700004 + i * 65536, 27, 1, 0⟩
def CAN_STAT_CFG_REFUSED (i : Nat) : Fld := ⟨0x40700004 + i * 65536, 26, 1, 0⟩
def CAN_STAT_REC (i : Nat) : Fld := ⟨0x40700004 + i * 65536, 17, 8, 0⟩
def CAN_STAT_TEC (i : Nat) : Fld := ⟨0x40700004 + i * 65536, 8, 9, 0⟩
def CAN_STAT_RECOV_CNT (i : Nat) : Fld := ⟨0x40700004 + i * 65536, 0, 8, 0⟩
def CAN_NBT_BRP (i : Nat) : Fld := ⟨0x4070000C + i * 65536, 23, 9, 1⟩
def CAN_NBT_TSEG1 (i : Nat) : Fld := ⟨0x4070000C + i * 65536, 15, 8, 62⟩
def CAN_NBT_TSEG2 (i : Nat) : Fld := ⟨0x4070000C + i * 65536, 8, 7, 15⟩
def CAN_NBT_SJW (i : Nat) : Fld := ⟨0x4070000C + i * 65536, 1, 7, 15⟩
def CAN_TDC_TDC_EN (i : Nat) : Fld := ⟨0x40700018 + i * 65536, 31, 1, 1⟩
def CAN_TDC_SSP_OFFSET (i : Nat) : Fld := ⟨0x40700018 + i * 65536, 16, 8, 20⟩
def CAN_TDC_TDC_MEAS (i : Nat) : Fld := ⟨0x40700018 + i * 65536, 0, 8, 0⟩
def CAN_XPWM_PWMS (i : Nat) : Fld := ⟨0x4070001C + i * 65536, 12, 6, 1⟩
def CAN_XPWM_PWML (i : Nat) : Fld := ⟨0x4070001C + i * 65536, 6, 6, 3⟩
def CAN_XPWM_PWMO (i : Nat) : Fld := ⟨0x4070001C + i * 65536, 0, 6, 0⟩
def CAN_TIE_CNT_TIES (i : Nat) : Fld := ⟨0x40700040 + i * 65536, 0, 32, 0⟩
def CAN_DBT_BRP (i : Nat) : Fld := ⟨0x40700010 + i * 65536, 27, 5, 0⟩
def CAN_DBT_TSEG1 (i : Nat) : Fld := ⟨0x40700010 + i * 65536, 21, 6, 30⟩
def CAN_DBT_TSEG2 (i : Nat) : Fld := ⟨0x40700010 + i * 65536, 17, 4, 7⟩
def CAN_DBT_SJW (i : Nat) : Fld := ⟨0x40700010 + i * 65536, 13, 4, 7⟩
def CAN_XBT_BRP (i : Nat) : Fld := ⟨0x40700014 + i * 65536, 27, 5, 0⟩
def CAN_XBT_TSEG1 (i : Nat) : Fld := ⟨0x40700014 + i * 65536, 21, 6, 4⟩
def CAN_XBT_TSEG2 (i : Nat) : Fld := ⟨0x40700014 + i * 65536, 17, 4, 1⟩
def CAN_XBT_SJW (i : Nat) : Fld := ⟨0x40700014 + i * 65536, 13, 4, 1⟩
def CAN_FLT_FLT_BASE (i : Nat) : Fld := ⟨0x40700020 + i * 65536, 18, 14, 0⟩
def CAN_FLT_FLT_LEN (i : Nat) : Fld := ⟨0x40700020 + i * 65536, 3, 15, 0⟩
def CAN_FLT_DEF_DEF_ACTION (i : Nat) : Fld := ⟨0x40700024 + i * 65536, 7, 2, 0⟩
def CAN_FLT_DEF_DEF_RING (i : Nat) : Fld := ⟨0x40700024 + i * 65536, 0, 7, 0⟩
def CAN_IRQ_BUS_OFF (i : Nat) : Fld := ⟨0x40700028 + i * 65536, 31, 1, 0⟩
def CAN_IRQ_ERR_PASSIVE (i : Nat) : Fld := ⟨0x40700028 + i * 65536, 30, 1, 0⟩
def CAN_IRQ_ERR_WARN (i : Nat) : Fld := ⟨0x40700028 + i * 65536, 29, 1, 0⟩
def CAN_IRQ_ERR_ACTIVE (i : Nat) : Fld := ⟨0x40700028 + i * 65536, 28, 1, 0⟩
def CAN_IRQ_TX_FAIL (i : Nat) : Fld := ⟨0x40700028 + i * 65536, 27, 1, 0⟩
def CAN_IRQ_RING_FULL (i : Nat) : Fld := ⟨0x40700028 + i * 65536, 26, 1, 0⟩
def CAN_IRQ_REF (i : Nat) : Fld := ⟨0x40700028 + i * 65536, 25, 1, 0⟩
def CAN_IRQ_REF_LOST (i : Nat) : Fld := ⟨0x40700028 + i * 65536, 24, 1, 0⟩
def CAN_IRQ_PEX (i : Nat) : Fld := ⟨0x40700028 + i * 65536, 23, 1, 0⟩
def CAN_IRQ_EN_BUS_OFF (i : Nat) : Fld := ⟨0x4070002C + i * 65536, 31, 1, 0⟩
def CAN_IRQ_EN_ERR_PASSIVE (i : Nat) : Fld := ⟨0x4070002C + i * 65536, 30, 1, 0⟩
def CAN_IRQ_EN_ERR_WARN (i : Nat) : Fld := ⟨0x4070002C + i * 65536, 29, 1, 0⟩
def CAN_IRQ_EN_ERR_ACTIVE (i : Nat) : Fld := ⟨0x4070002C + i * 65536, 28, 1, 0⟩
def CAN_IRQ_EN_TX_FAIL (i : Nat) : Fld := ⟨0x4070002C + i * 65536, 27, 1, 0⟩
def CAN_IRQ_EN_RING_FULL (i : Nat) : Fld := ⟨0x4070002C + i * 65536, 26, 1, 0⟩
def CAN_IRQ_EN_REF (i : Nat) : Fld := ⟨0x4070002C + i * 65536, 25, 1, 0⟩
def CAN_IRQ_EN_REF_LOST (i : Nat) : Fld := ⟨0x4070002C + i * 65536, 24, 1, 0⟩
def CAN_IRQ_EN_PEX (i : Nat) : Fld := ⟨0x4070002C + i * 65536, 23, 1, 0⟩
def CAN_TT_CFG_ROLE (i : Nat) : Fld := ⟨0x40700050 + i * 65536, 30, 2, 0⟩
def CAN_TT_CFG_CNT_MAX (i : Nat) : Fld := ⟨0x40700050 + i * 65536, 11, 6, 0⟩
def CAN_TT_CFG_REF_ID (i : Nat) : Fld := ⟨0x40700050 + i * 65536, 0, 11, 0⟩
def CAN_TT_CYCLE_TT_CYCLE (i : Nat) : Fld := ⟨0x40700054 + i * 65536, 0, 32, 10000000⟩
def CAN_TT_BASE_TT_BASE (i : Nat) (j : Nat) : Fld := ⟨0x40700058 + i * 65536 + j * 4, 0, 32, 0⟩
def CAN_TT_STAT_BACKUP (i : Nat) : Fld := ⟨0x40700060 + i * 65536, 31, 1, 0⟩
def CAN_TT_STAT_MASTER (i : Nat) : Fld := ⟨0x40700060 + i * 65536, 30, 1, 0⟩
def CAN_TT_STAT_CYCLE_CNT (i : Nat) : Fld := ⟨0x40700060 + i * 65536, 0, 6, 0⟩
def CAN_TT_REF_REF_TS (i : Nat) (j : Nat) : Fld := ⟨0x40700064 + i * 65536 + j * 4, 0, 32, 0⟩
def CANRAM_FLT0_VALID (i : Nat) : Fld := ⟨0x40C00000 + i * 16, 31, 1, 0⟩
def CANRAM_FLT0_TYPE (i : Nat) : Fld := ⟨0x40C00000 + i * 16, 29, 2, 0⟩
def CANRAM_FLT0_ACTION (i : Nat) : Fld := ⟨0x40C00000 + i * 16, 27, 2, 0⟩
def CANRAM_FLT0_XTD (i : Nat) : Fld := ⟨0x40C00000 + i * 16, 26, 1, 0⟩
def CANRAM_FLT0_FMT (i : Nat) : Fld := ⟨0x40C00000 + i * 16, 24, 2, 0⟩
def CANRAM_FLT0_RING (i : Nat) : Fld := ⟨0x40C00000 + i * 16, 0, 7, 0⟩
def CANRAM_FLT1_ID1 (i : Nat) : Fld := ⟨0x40C00004 + i * 16, 0, 29, 0⟩
def CANRAM_FLT2_ID2 (i : Nat) : Fld := ⟨0x40C00008 + i * 16, 0, 29, 0⟩
def CANRAM_FLT3_HITS (i : Nat) : Fld := ⟨0x40C0000C + i * 16, 0, 32, 0⟩
def CANRAM_RING0_VALID (i : Nat) : Fld := ⟨0x40C40000 + i * 32, 31, 1, 0⟩
def CANRAM_RING0_DIR (i : Nat) : Fld := ⟨0x40C40000 + i * 32, 30, 1, 0⟩
def CANRAM_RING0_CTRL (i : Nat) : Fld := ⟨0x40C40000 + i * 32, 26, 4, 0⟩
def CANRAM_RING0_INST (i : Nat) : Fld := ⟨0x40C40000 + i * 32, 20, 6, 0⟩
def CANRAM_RING0_SLOT (i : Nat) : Fld := ⟨0x40C40000 + i * 32, 16, 4, 0⟩
def CANRAM_RING0_COUNT (i : Nat) : Fld := ⟨0x40C40000 + i * 32, 0, 16, 0⟩
def CANRAM_RING1_RETRY (i : Nat) : Fld := ⟨0x40C40004 + i * 32, 24, 8, 0⟩
def CANRAM_RING1_IRQ_EN (i : Nat) : Fld := ⟨0x40C40004 + i * 32, 23, 1, 0⟩
def CANRAM_RING1_BASE (i : Nat) : Fld := ⟨0x40C40004 + i * 32, 0, 20, 0⟩
def CANRAM_RING2_PUT (i : Nat) : Fld := ⟨0x40C40008 + i * 32, 16, 16, 0⟩
def CANRAM_RING2_GET_RECLAIM (i : Nat) : Fld := ⟨0x40C40008 + i * 32, 0, 16, 0⟩
def CANRAM_RING3_DONE (i : Nat) : Fld := ⟨0x40C4000C + i * 32, 16, 16, 0⟩
def CANRAM_RING3_STATUS (i : Nat) : Fld := ⟨0x40C4000C + i * 32, 8, 8, 0⟩
def CANRAM_RING4_DROPPED_CANCELLED (i : Nat) : Fld := ⟨0x40C40010 + i * 32, 0, 32, 0⟩
def TIME_FRC_FRC (i : Nat) : Fld := ⟨0x41000000 + i * 4, 0, 32, 0⟩
def TIME_T_T (i : Nat) : Fld := ⟨0x41000008 + i * 4, 0, 32, 0⟩
def TIME_ADJ_STEP_STEP (i : Nat) : Fld := ⟨0x41000030 + i * 4, 0, 32, 0⟩
def TIME_ADJ_RATE_ADJ_RATE : Fld := ⟨0x41000038, 0, 32, 0⟩
def TIME_ADJ_CTL_ADJ_REFUSED : Fld := ⟨0x4100003C, 30, 1, 0⟩
def TIME_CFG_SRC : Fld := ⟨0x41000040, 30, 2, 0⟩
def TIME_CFG_STEP_EN : Fld := ⟨0x41000040, 29, 1, 1⟩
def TIME_CFG_GM_VALID : Fld := ⟨0x41000040, 28, 1, 0⟩
def TIME_SERVO_GAIN_KP : Fld := ⟨0x41000044, 16, 16, 64⟩
def TIME_SERVO_GAIN_KI : Fld := ⟨0x41000044, 0, 16, 4⟩
def TIME_SERVO_LIM_RATE_MAX : Fld := ⟨0x41000048, 23, 9, 200⟩
def TIME_SERVO_LIM_LOCK_CNT : Fld := ⟨0x41000048, 16, 7, 8⟩
def TIME_SERVO_LIM_LOCK_THRESH : Fld := ⟨0x41000048, 0, 16, 100⟩
def TIME_SERVO_TMO_HOLDOVER_MAX : Fld := ⟨0x4100004C, 16, 16, 60⟩
def TIME_SERVO_TMO_HOLDOVER_TMO : Fld := ⟨0x4100004C, 0, 16, 3000⟩
def TIME_STEP_THRESH_STEP_THRESH : Fld := ⟨0x41000050, 0, 32, 1000000⟩
def TIME_STAT_EPOCH_VALID : Fld := ⟨0x41000058, 27, 1, 0⟩
def TIME_STAT_LOCK_RUN : Fld := ⟨0x41000058, 0, 7, 0⟩
def TIME_LAST_O_O : Fld := ⟨0x4100005C, 0, 32, 0⟩
def TIME_CNT_STEPS : Fld := ⟨0x41000060, 16, 16, 0⟩
def TIME_CNT_IN_REFUSED : Fld := ⟨0x41000060, 0, 16, 0⟩
def TIME_CONV_IN_FRC (i : Nat) : Fld := ⟨0x41000070 + i * 4, 0, 32, 0⟩
def TIME_CONV_OUT_T (i : Nat) : Fld := ⟨0x41000078 + i * 4, 0, 32, 0⟩
def TIME_CONV_STAT_VALID : Fld := ⟨0x41000080, 31, 1, 0⟩
def TIME_PPS_OUT_EN : Fld := ⟨0x41000090, 31, 1, 0⟩
def TIME_PPS_OUT_PPS_WIDTH : Fld := ⟨0x41000090, 20, 11, 100⟩
def TIME_PPS_OUT_PPS_PERIOD : Fld := ⟨0x41000090, 0, 10, 1000⟩
def TIME_PPS_PHASE_PPS_PHASE : Fld := ⟨0x41000094, 0, 32, 0⟩
def TIME_PPS_IN_EN : Fld := ⟨0x41000098, 31, 1, 0⟩
def TIME_PPS_IN_NEW : Fld := ⟨0x41000098, 30, 1, 0⟩
def TIME_PPS_IN_TS_FRC (i : Nat) : Fld := ⟨0x4100009C + i * 4, 0, 32, 0⟩
def TIME_PORT_CFG_PTP_MODE (i : Nat) : Fld := ⟨0x41000100 + i * 16, 30, 2, if i < 22 then 1 else 0⟩
def TIME_PORT_CFG_ONESTEP_EN (i : Nat) : Fld := ⟨0x41000100 + i * 16, 29, 1, 1⟩
def TIME_PORT_CFG_TRAP_COPY (i : Nat) : Fld := ⟨0x41000100 + i * 16, 28, 1, 0⟩
def TIME_PORT_CFG_RX_LAT (i : Nat) : Fld := ⟨0x41000100 + i * 16, 12, 12, Config.rxLat i % 4096⟩
def TIME_PORT_CFG_TX_LAT (i : Nat) : Fld := ⟨0x41000100 + i * 16, 0, 12, Config.txLat i % 4096⟩
def TIME_TXTS_T_T (i : Nat) (j : Nat) : Fld := ⟨0x41000108 + i * 16 + j * 4, 0, 32, 0⟩
def NETMGT_STAT_PREPARE_EVT : Fld := ⟨0x41080000, 25, 1, 0⟩
def NETMGT_STAT_CANCEL_EVT : Fld := ⟨0x41080000, 24, 1, 0⟩
def NETMGT_STAT_SELF_QUAR : Fld := ⟨0x41080000, 23, 1, 0⟩
def NETMGT_CFG_NM_EN : Fld := ⟨0x41080004, 31, 1, 0⟩
def NETMGT_CFG_SLEEP_KIND : Fld := ⟨0x41080004, 30, 1, 0⟩
def NETMGT_CFG_READY_SLEEP : Fld := ⟨0x41080004, 16, 14, 1500⟩
def NETMGT_CFG_MAX_AWAKE : Fld := ⟨0x41080004, 5, 11, 30⟩
def NETMGT_CFG2_WARM_MAX : Fld := ⟨0x41080008, 24, 8, 0⟩
def NETMGT_CFG2_RING_HOLD : Fld := ⟨0x41080008, 16, 8, 20⟩
def NETMGT_CFG2_RING_TMO : Fld := ⟨0x41080008, 8, 8, 100⟩
def NETMGT_NEED_SUM_NEED (i : Nat) : Fld := ⟨0x41080014 + i * 4, 0, 32, 0⟩
def NETMGT_JUST_JUST (i : Nat) : Fld := ⟨0x41080024 + i * 4, 0, 32, 0⟩
def NETMGT_KA_CAN_BASE : Fld := ⟨0x41080020, 16, 13, 6384⟩
def NETMGT_KA_NM_VID : Fld := ⟨0x41080020, 0, 12, 1⟩
def NETMGT_WAKE_CAUSE_CAUSE : Fld := ⟨0x41080030, 28, 4, 0⟩
def NETMGT_WAKE_CAUSE_SOURCE : Fld := ⟨0x41080030, 24, 4, 0⟩
def NETMGT_WAKE_CAUSE_DEEP_FROM_WARM : Fld := ⟨0x41080030, 23, 1, 0⟩
def NETMGT_WAKE_T_T (i : Nat) : Fld := ⟨0x41080034 + i * 4, 0, 32, 0⟩
def NETMGT_WAKE_AT_WAKE_AT (i : Nat) : Fld := ⟨0x4108003C + i * 4, 0, 32, 0⟩
def NETMGT_ARM_W_ARM : Fld := ⟨0x41080044, 10, 4, 15⟩
def NETMGT_ARM_ETH_ARM : Fld := ⟨0x41080044, 4, 6, 0⟩
def NETMGT_ARM_CAN_ARM : Fld := ⟨0x41080044, 0, 4, 0⟩
def NETMGT_FWD_ETH_FWD : Fld := ⟨0x41080048, 16, 10, 0⟩
def NETMGT_FWD_ETH_ARM_F : Fld := ⟨0x41080048, 12, 4, 0⟩
def NETMGT_FWD_CAN_FWD : Fld := ⟨0x41080048, 0, 12, 0⟩
def NETMGT_WIN_CFG_LEVEL (i : Nat) : Fld := ⟨0x41080050 + i * 4, 31, 1, 0⟩
def NETMGT_WIN_CFG_POL (i : Nat) : Fld := ⟨0x41080050 + i * 4, 30, 1, 1⟩
def NETMGT_WIN_CFG_DEB (i : Nat) : Fld := ⟨0x41080050 + i * 4, 16, 8, 10⟩
def NETMGT_WIN_CFG_STATE (i : Nat) : Fld := ⟨0x41080050 + i * 4, 0, 1, 0⟩
def NETMGT_CNT_CANCELS_QUARANTINED (i : Nat) : Fld := ⟨0x41080060 + i * 4, 16, 16, 0⟩
def NETMGT_CNT_LATCHED_NODE_OVF (i : Nat) : Fld := ⟨0x41080060 + i * 4, 0, 16, 0⟩
def NETMGT_WSLOT_ACTIVE : Fld := ⟨0x41080068, 31, 1, 1⟩
def NETMGT_WSLOT_SLOT_MS : Fld := ⟨0x41080068, 0, 6, 0⟩
def NETMGT_SEG0_EN (i : Nat) : Fld := ⟨0x41080100 + i * 16, 31, 1, 0⟩
def NETMGT_SEG0_MODE (i : Nat) : Fld := ⟨0x41080100 + i * 16, 30, 1, 0⟩
def NETMGT_SEG0_MEMBERS (i : Nat) : Fld := ⟨0x41080100 + i * 16, 24, 6, 0⟩
def NETMGT_SEG0_KA_RING (i : Nat) : Fld := ⟨0x41080100 + i * 16, 0, 7, 0⟩
def NETMGT_SEG1_READY (i : Nat) : Fld := ⟨0x41080104 + i * 16, 31, 1, 0⟩
def NETMGT_SEG1_MISCONFIG (i : Nat) : Fld := ⟨0x41080104 + i * 16, 30, 1, 0⟩
def NETMGT_SEG1_PRESENT (i : Nat) : Fld := ⟨0x41080104 + i * 16, 24, 6, 0⟩
def NETMGT_SEG1_RUN (i : Nat) : Fld := ⟨0x41080104 + i * 16, 16, 8, 0⟩
def NETMGT_SEG1_TOKEN_LOST (i : Nat) : Fld := ⟨0x41080104 + i * 16, 0, 16, 0⟩
def NETMGT_SEG2_KA_SEEN (i : Nat) : Fld := ⟨0x41080108 + i * 16, 0, 32, 0⟩
def NETMGT_RING_PRESENT (i : Nat) (j : Nat) : Fld := ⟨0x41081000 + i * 128 + j * 4, 31, 1, 0⟩
def NETMGT_RING_NODE (i : Nat) (j : Nat) : Fld := ⟨0x41081000 + i * 128 + j * 4, 0, 16, 0⟩
def NETMGT_NODE0_VALID (i : Nat) : Fld := ⟨0x41082000 + i * 8, 31, 1, 0⟩
def NETMGT_NODE0_QUAR (i : Nat) : Fld := ⟨0x41082000 + i * 8, 30, 1, 0⟩
def NETMGT_NODE0_JUST (i : Nat) : Fld := ⟨0x41082000 + i * 8, 29, 1, 0⟩
def NETMGT_NODE0_SEG (i : Nat) : Fld := ⟨0x41082000 + i * 8, 25, 4, 0⟩
def NETMGT_NODE0_NODE (i : Nat) : Fld := ⟨0x41082000 + i * 8, 0, 16, 0⟩
def NETMGT_PORCH0_MODE (i : Nat) : Fld := ⟨0x41080200 + i * 32, 31, 1, 0⟩
def NETMGT_PORCH0_XTD (i : Nat) : Fld := ⟨0x41080200 + i * 32, 30, 1, 0⟩
def NETMGT_PORCH0_RATE (i : Nat) : Fld := ⟨0x41080200 + i * 32, 28, 2, 2⟩
def NETMGT_PORCH0_FEC_WAKE (i : Nat) : Fld := ⟨0x41080200 + i * 32, 27, 1, 1⟩
def NETMGT_PORCH0_DLC (i : Nat) : Fld := ⟨0x41080200 + i * 32, 0, 4, 8⟩
def NETMGT_PORCH1_ID (i : Nat) : Fld := ⟨0x41080204 + i * 32, 0, 29, 0⟩
def NETMGT_PORCH2_ID_MASK (i : Nat) : Fld := ⟨0x41080208 + i * 32, 0, 29, 0⟩
def NETMGT_PORCH_DATA_DATA (i : Nat) (j : Nat) : Fld := ⟨0x4108020C + i * 32 + j * 4, 0, 32, 0⟩
def NETMGT_PORCH_DMASK_DMASK (i : Nat) (j : Nat) : Fld := ⟨0x41080214 + i * 32 + j * 4, 0, 32, 0⟩
def VIM_CFG_SUP_INST : Fld := ⟨0x41100000, 26, 6, 1⟩
def VIM_CFG_FREEZE_TMO : Fld := ⟨0x41100000, 0, 10, 10⟩
def VIM_STAT_MAP_DUP : Fld := ⟨0x41100004, 31, 1, 0⟩
def VIM_STAT_SHARE_REFUSED : Fld := ⟨0x41100004, 30, 1, 0⟩
def VIM_TIE_CNT_TIES : Fld := ⟨0x41100008, 0, 32, 0⟩
def VIM_CNT_DENIED : Fld := ⟨0x4110000C, 16, 16, 0⟩
def VIM_CNT_MAP_MISS : Fld := ⟨0x4110000C, 0, 16, 0⟩
def VIM_HART_PID_MAPPED (i : Nat) : Fld := ⟨0x41100040 + i * 4, 31, 1, 0⟩
def VIM_HART_PID_INST (i : Nat) : Fld := ⟨0x41100040 + i * 4, 25, 6, 0⟩
def VIM_HART_PID_PID (i : Nat) : Fld := ⟨0x41100040 + i * 4, 0, 20, 0⟩
def VIM_MIG_CTL_INST : Fld := ⟨0x41100100, 8, 6, 0⟩
def VIM_MIG_CTL_KEY_SLOT : Fld := ⟨0x41100100, 0, 6, 0⟩
def VIM_MIG_STAT_BUSY : Fld := ⟨0x41100104, 31, 1, 0⟩
def VIM_MIG_STAT_RESULT : Fld := ⟨0x41100104, 16, 8, 0⟩
def VIM_MIG_ADDR_ADDR (i : Nat) : Fld := ⟨0x41100108 + i * 4, 0, 32, 0⟩
def VIM_MIG_LEN_MIG_LEN : Fld := ⟨0x41100110, 0, 32, 0⟩
def VIM_MIG_USED_USED : Fld := ⟨0x41100114, 0, 32, 0⟩
def VIM_INST_CFG_VALID (i : Nat) : Fld := ⟨0x41101000 + i * 64, 31, 1, if i = 0 then 1 else 0⟩
def VIM_INST_CFG_WORLD (i : Nat) : Fld := ⟨0x41101000 + i * 64, 30, 1, if i = 0 then 1 else 0⟩
def VIM_INST_CFG_CPL_HWQ (i : Nat) : Fld := ⟨0x41101000 + i * 64, 15, 9, 0⟩
def VIM_INST_CFG_WEIGHT (i : Nat) : Fld := ⟨0x41101000 + i * 64, 0, 8, 1⟩
def VIM_INST_STAT_OVERSHARE (i : Nat) : Fld := ⟨0x41101008 + i * 64, 28, 1, 0⟩
def VIM_INST_STAT_LAST_RESULT (i : Nat) : Fld := ⟨0x41101008 + i * 64, 24, 4, 0⟩
def VIM_INST_QSHARE_QSHARE_EFF (i : Nat) : Fld := ⟨0x4110100C + i * 64, 16, 10, 0⟩
def VIM_INST_QSHARE_QSHARE (i : Nat) : Fld := ⟨0x4110100C + i * 64, 0, 10, 0⟩
def VIM_INST_FLT_FLT_BASE (i : Nat) : Fld := ⟨0x41101014 + i * 64, 16, 14, 0⟩
def VIM_INST_FLT_FLT_CNT (i : Nat) : Fld := ⟨0x41101014 + i * 64, 0, 15, 0⟩
def VIM_INST_CIR_LIM_EN (i : Nat) : Fld := ⟨0x41101018 + i * 64, 31, 1, 0⟩
def VIM_INST_CIR_CIR (i : Nat) : Fld := ⟨0x41101018 + i * 64, 0, 18, 0⟩
def VIM_INST_PIR_PIR (i : Nat) : Fld := ⟨0x4110101C + i * 64, 0, 18, 0⟩
def VIM_INST_BURST_CBS (i : Nat) : Fld := ⟨0x41101020 + i * 64, 16, 16, 64⟩
def VIM_INST_BURST_PBS (i : Nat) : Fld := ⟨0x41101020 + i * 64, 0, 16, 64⟩
def VIM_INST_CNT_OVERSHARE_REF (i : Nat) : Fld := ⟨0x41101024 + i * 64, 16, 16, 0⟩
def VIM_INST_CNT_FLT_DENIED (i : Nat) : Fld := ⟨0x41101024 + i * 64, 0, 16, 0⟩
def VIM_INST_CNT2_FROZEN_DROP (i : Nat) : Fld := ⟨0x41101028 + i * 64, 16, 16, 0⟩
def VIM_INST_CNT2_CPL_LOST (i : Nat) : Fld := ⟨0x41101028 + i * 64, 0, 16, 0⟩
def VIM_INST_RESET_PEND_PEND (i : Nat) : Fld := ⟨0x4110102C + i * 64, 0, 20, 0⟩
def VIM_INST_RESET_CNT_CANCELLED (i : Nat) : Fld := ⟨0x41101030 + i * 64, 16, 16, 0⟩
def VIM_INST_RESET_CNT_LAST_US (i : Nat) : Fld := ⟨0x41101030 + i * 64, 0, 16, 0⟩
def VIM_MAP_VALID (i : Nat) : Fld := ⟨0x41110000 + i * 4, 31, 1, 0⟩
def VIM_MAP_INST (i : Nat) : Fld := ⟨0x41110000 + i * 4, 24, 6, 0⟩
def VIM_MAP_PID (i : Nat) : Fld := ⟨0x41110000 + i * 4, 0, 20, 0⟩
def VIM_HWQ_CFG_VALID (i : Nat) : Fld := ⟨0x41120000 + i * 16, 31, 1, 0⟩
def VIM_HWQ_CFG_END (i : Nat) : Fld := ⟨0x41120000 + i * 16, 29, 2, 0⟩
def VIM_HWQ_CFG_OWNER (i : Nat) : Fld := ⟨0x41120000 + i * 16, 23, 6, 0⟩
def VIM_HWQ_CFG_CAP (i : Nat) : Fld := ⟨0x41120000 + i * 16, 0, 18, 1024⟩
def VIM_HWQ_STAT_LAST_RES (i : Nat) : Fld := ⟨0x41120004 + i * 16, 24, 8, 0⟩
def WORLD_STAT_ROOT : Fld := ⟨0x41200000, 30, 2, 0⟩
def WORLD_STAT_DEBUG : Fld := ⟨0x41200000, 29, 1, 0⟩
def WORLD_STAT_L2_BUSY : Fld := ⟨0x41200000, 28, 1, 0⟩
def WORLD_STAT_ATTIC_WAYS : Fld := ⟨0x41200000, 24, 4, 2⟩
def WORLD_L2_PART_ATTIC_WAYS : Fld := ⟨0x41200004, 0, 4, 2⟩
def WORLD_CLAIM_CLAIM : Fld := ⟨0x41200008, 0, 17, 12288⟩
def WORLD_VIOL_ADDR_LO_ADDR : Fld := ⟨0x41200014, 0, 32, 0⟩
def WORLD_VIOL_ADDR_HI_ADDR : Fld := ⟨0x41200018, 0, 8, 0⟩
def WORLD_VIOL_CNT_DENIED : Fld := ⟨0x4120001C, 16, 16, 0⟩
def WORLD_VIOL_CNT_VETOED : Fld := ⟨0x4120001C, 8, 8, 0⟩
def WORLD_VIOL_CNT_LOST : Fld := ⟨0x4120001C, 0, 8, 0⟩
def WORLD_HART_CUR (i : Nat) : Fld := ⟨0x41200020 + i * 4, 31, 1, 1⟩
def WORLD_HART_NEXT (i : Nat) : Fld := ⟨0x41200020 + i * 4, 30, 1, 1⟩
def WORLD_HART_SWITCHES (i : Nat) : Fld := ⟨0x41200020 + i * 4, 0, 30, 0⟩
def WORLD_TAMPER_ARM_ARM : Fld := ⟨0x41200040, 0, 5, 31⟩
def WORLD_TAMPER_STAT_LATCH : Fld := ⟨0x41200044, 31, 1, 0⟩
def WORLD_TAMPER_STAT_ACTIVE : Fld := ⟨0x41200044, 26, 5, 0⟩
def WORLD_TAMPER_STAT_LATCHED : Fld := ⟨0x41200044, 21, 5, 0⟩
def WORLD_TAMPER_STAT_WHEN : Fld := ⟨0x41200044, 18, 3, 0⟩
def WORLD_TAMPER_STAT_TAMPER_CNT : Fld := ⟨0x41200044, 0, 16, 0⟩
def WORLD_TAMPER_T_T (i : Nat) : Fld := ⟨0x41200048 + i * 4, 0, 32, 0⟩
def WORLD_RGN0_BASE (i : Nat) (j : Nat) : Fld := ⟨0x41201000 + i * 1024 + j * 16, 0, 28, 0⟩
def WORLD_RGN1_LIMIT (i : Nat) (j : Nat) : Fld := ⟨0x41201004 + i * 1024 + j * 16, 0, 28, 0⟩
def WORLD_RGN2_EN (i : Nat) (j : Nat) : Fld := ⟨0x41201008 + i * 1024 + j * 16, 31, 1, 0⟩
def WORLD_RGN2_LOCK (i : Nat) (j : Nat) : Fld := ⟨0x41201008 + i * 1024 + j * 16, 30, 1, 0⟩
def WORLD_RGN2_A_R (i : Nat) (j : Nat) : Fld := ⟨0x41201008 + i * 1024 + j * 16, 29, 1, 0⟩
def WORLD_RGN2_A_W (i : Nat) (j : Nat) : Fld := ⟨0x41201008 + i * 1024 + j * 16, 28, 1, 0⟩
def WORLD_RGN2_P_R (i : Nat) (j : Nat) : Fld := ⟨0x41201008 + i * 1024 + j * 16, 27, 1, 0⟩
def WORLD_RGN2_P_W (i : Nat) (j : Nat) : Fld := ⟨0x41201008 + i * 1024 + j * 16, 26, 1, 0⟩
def WORLD_RGN2_DOM (i : Nat) (j : Nat) : Fld := ⟨0x41201008 + i * 1024 + j * 16, 23, 3, 0⟩
def WORLD_RGN2_INST_EN (i : Nat) (j : Nat) : Fld := ⟨0x41201008 + i * 1024 + j * 16, 22, 1, 0⟩
def WORLD_RGN2_INST (i : Nat) (j : Nat) : Fld := ⟨0x41201008 + i * 1024 + j * 16, 16, 6, 0⟩
def PANTRY_STAT_RESULT : Fld := ⟨0x41300004, 0, 8, 0⟩
def PANTRY_ATTR_TYPE : Fld := ⟨0x41300008, 28, 4, 0⟩
def PANTRY_ATTR_USAGE : Fld := ⟨0x41300008, 20, 8, 0⟩
def PANTRY_ATTR_EXPORTABLE : Fld := ⟨0x41300008, 19, 1, 0⟩
def PANTRY_ATTR_LOCK : Fld := ⟨0x41300008, 18, 1, 0⟩
def PANTRY_ATTR_KEY_LEN : Fld := ⟨0x41300008, 0, 7, 0⟩
def PANTRY_ADDR_ADDR (i : Nat) : Fld := ⟨0x4130000C + i * 4, 0, 32, 0⟩
def PANTRY_CACHE_HITS : Fld := ⟨0x41300014, 16, 16, 0⟩
def PANTRY_CACHE_MISSES : Fld := ⟨0x41300014, 0, 16, 0⟩
def CELLAR_STAT_LAST : Fld := ⟨0x40010000, 29, 3, 0⟩
def CELLAR_STAT_PF_CUT : Fld := ⟨0x40010000, 28, 1, 0⟩
def CELLAR_STAT_PF_STEP : Fld := ⟨0x40010000, 24, 4, 0⟩
def CELLAR_STAT_STEP1_LATE : Fld := ⟨0x40010000, 23, 1, 0⟩
def CELLAR_STAT_GRACE_ELAPSED : Fld := ⟨0x40010000, 22, 1, 0⟩
def CELLAR_STAT_SLEEP_S : Fld := ⟨0x40010000, 0, 22, 0⟩
def CELLAR_PF_CNT_WINDOWS : Fld := ⟨0x40010004, 16, 16, 0⟩
def CELLAR_PF_CNT_DECLARED : Fld := ⟨0x40010004, 4, 12, 0⟩
def CELLAR_PF_CNT_CUTS : Fld := ⟨0x40010004, 0, 4, 0⟩
def CELLAR_PF_T_T (i : Nat) : Fld := ⟨0x40010008 + i * 4, 0, 32, 0⟩
def CELLAR_SCRUB_CORR : Fld := ⟨0x40010010, 16, 16, 0⟩
def CELLAR_SCRUB_UNCORR : Fld := ⟨0x40010010, 8, 8, 0⟩
def CELLAR_SCRUB_UE_MAP : Fld := ⟨0x40010010, 0, 5, 0⟩
def CELLAR_DBG_CNT_DBG_CNT : Fld := ⟨0x40010014, 0, 32, 0⟩
def PWRMGR_STAT_HOLDUP_READY : Fld := ⟨0x40020000, 25, 1, 0⟩
def PWRMGR_STAT_UNDERVOLT : Fld := ⟨0x40020000, 23, 1, 0⟩
def PWRMGR_STAT_BUS_LOW : Fld := ⟨0x40020000, 22, 1, 0⟩
def PWRMGR_STAT_OVERVOLT : Fld := ⟨0x40020000, 21, 1, 0⟩
def PWRMGR_STAT_CHARGING : Fld := ⟨0x40020000, 20, 1, 0⟩
def PWRMGR_STAT_START_MS : Fld := ⟨0x40020000, 0, 20, 0⟩
def PWRMGR_BUS_V_BUS : Fld := ⟨0x40020004, 16, 16, 0⟩
def PWRMGR_BUS_V_HOLD : Fld := ⟨0x40020004, 0, 16, 0⟩
def PWRMGR_FEED_V (i : Nat) : Fld := ⟨0x40020008 + i * 4, 16, 16, 0⟩
def PWRMGR_FEED_I (i : Nat) : Fld := ⟨0x40020008 + i * 4, 4, 12, 0⟩
def PWRMGR_FEED_REV (i : Nat) : Fld := ⟨0x40020008 + i * 4, 3, 1, 0⟩
def PWRMGR_FEED_OVERCUR (i : Nat) : Fld := ⟨0x40020008 + i * 4, 2, 1, 0⟩
def PWRMGR_FEED_ACTIVE (i : Nat) : Fld := ⟨0x40020008 + i * 4, 1, 1, 0⟩
def PWRMGR_PF_CFG_GRACE_MS : Fld := ⟨0x40020010, 0, 13, 0⟩
def PWRMGR_PF_NOTIFY_NOTIFY (i : Nat) : Fld := ⟨0x40020014 + i * 4, 0, 32, 0⟩
def PWRMGR_GATE_RES_RESULT : Fld := ⟨0x40020034, 24, 8, 0⟩
def PWRMGR_GATE_RES_GATE : Fld := ⟨0x40020034, 0, 5, 0⟩
def PWRMGR_CNT_DIPS : Fld := ⟨0x40020040, 16, 16, 0⟩
def PWRMGR_CNT_OVERVOLT_CNT : Fld := ⟨0x40020040, 0, 16, 0⟩
def PWRMGR_CLK_ON_ON : Fld := ⟨0x40020038, 0, 17, 0x1FFFF⟩
def PWRMGR_PWR_ON_ON : Fld := ⟨0x4002003C, 0, 17, 0x1FFFF⟩
def HEARTH_STAT_AUTH : Fld := ⟨0x40030000, 30, 2, 0⟩
def HEARTH_STAT_EOL : Fld := ⟨0x40030000, 29, 1, 0⟩
def HEARTH_STAT_REMOVE_OK : Fld := ⟨0x40030000, 28, 1, 0⟩
def HEARTH_STAT_TESTING : Fld := ⟨0x40030000, 27, 1, 0⟩
def HEARTH_STAT_REFRESHING : Fld := ⟨0x40030000, 26, 1, 0⟩
def HEARTH_SERIAL_SERIAL (i : Nat) : Fld := ⟨0x40030008 + i * 4, 0, 32, 0⟩
def HEARTH_MEAS_C_MEAS : Fld := ⟨0x40030010, 16, 16, 0⟩
def HEARTH_MEAS_ESR_MEAS : Fld := ⟨0x40030010, 0, 16, 0⟩
def HEARTH_LIFE_AGE_DAYS : Fld := ⟨0x40030014, 19, 13, 0⟩
def HEARTH_LIFE_EVENTS : Fld := ⟨0x40030014, 0, 19, 0⟩
def HEARTH_FLASH_WEAR : Fld := ⟨0x40030018, 24, 8, 0⟩
def HEARTH_FLASH_MARGIN_MIN : Fld := ⟨0x40030018, 16, 8, 0⟩
def HEARTH_FLASH_REFRESHED : Fld := ⟨0x40030018, 0, 16, 0⟩
def MARGIN_STAT_DEFICIT : Fld := ⟨0x40040000, 31, 1, 0⟩
def MARGIN_STAT_PLANNING : Fld := ⟨0x40040000, 30, 1, 0⟩
def MARGIN_STAT_SINCE_H : Fld := ⟨0x40040000, 0, 20, 0⟩
def MARGIN_REQ_GRACE_REQ : Fld := ⟨0x40040008, 19, 13, 0⟩
def MARGIN_REQ_DIRTY_REQ : Fld := ⟨0x40040008, 9, 10, 16⟩
def MARGIN_PLAN_GRACE_MS : Fld := ⟨0x4004000C, 19, 13, 0⟩
def MARGIN_PLAN_DIRTY_KB : Fld := ⟨0x4004000C, 9, 10, 16⟩
def MARGIN_PLAN_F_APP : Fld := ⟨0x4004000C, 0, 9, 16⟩
def MARGIN_ENERGY_E_USE : Fld := ⟨0x40040010, 16, 16, 0⟩
def MARGIN_ENERGY_E_PLAN : Fld := ⟨0x40040010, 0, 16, 0⟩
def MARGIN_PWR_P_RUN : Fld := ⟨0x40040014, 16, 16, 460⟩
def MARGIN_PWR_P_NOW : Fld := ⟨0x40040014, 0, 16, 0⟩
def MARGIN_DELAY_D_HUB : Fld := ⟨0x40040018, 0, 16, 0⟩
def MARGIN_LANE_LOW : Fld := ⟨0x4004001C, 31, 1, 0⟩
def MARGIN_LANE_SLACK_A : Fld := ⟨0x4004001C, 20, 10, 0⟩
def MARGIN_LANE_SLACK_B : Fld := ⟨0x4004001C, 10, 10, 0⟩
def MARGIN_LANE_SLACK_C : Fld := ⟨0x4004001C, 0, 10, 0⟩
def MARGIN_STUD_HIGH : Fld := ⟨0x40040020, 31, 1, 0⟩
def MARGIN_STUD_R_STUD2 : Fld := ⟨0x40040020, 16, 15, 0⟩
def MARGIN_STUD_R_STUD1 : Fld := ⟨0x40040020, 0, 15, 0⟩
def MARGIN_DERATE_DERATE3 (i : Nat) : Fld := ⟨0x40040040 + i * 4, 24, 8, 0⟩
def MARGIN_DERATE_DERATE2 (i : Nat) : Fld := ⟨0x40040040 + i * 4, 16, 8, 0⟩
def MARGIN_DERATE_DERATE1 (i : Nat) : Fld := ⟨0x40040040 + i * 4, 8, 8, 0⟩
def MARGIN_DERATE_DERATE0 (i : Nat) : Fld := ⟨0x40040040 + i * 4, 0, 8, 0⟩
def REC_STAT_FLUSHING : Fld := ⟨0x41400000, 31, 1, 0⟩
def REC_STAT_MOUNTED : Fld := ⟨0x41400000, 30, 1, 0⟩
def REC_STAT_BUF_FULL : Fld := ⟨0x41400000, 28, 1, 0⟩
def REC_STAT_DIRTY_KB : Fld := ⟨0x41400000, 0, 10, 0⟩
def REC_CFG_FLUSH_SEV : Fld := ⟨0x41400004, 29, 3, 6⟩
def REC_CFG_PARLOUR_MAX : Fld := ⟨0x41400004, 26, 3, 3⟩
def REC_CFG_REC_KEK_SLOT : Fld := ⟨0x41400004, 12, 6, 0⟩
def REC_CFG_REC_SIGN_EC_SLOT : Fld := ⟨0x41400004, 6, 6, 0⟩
def REC_CFG_REC_SIGN_PQ_SLOT : Fld := ⟨0x41400004, 0, 6, 0⟩
def REC_SEQ_SEQ (i : Nat) : Fld := ⟨0x4140000C + i * 4, 0, 32, 0⟩
def REC_CNT_DROPPED : Fld := ⟨0x41400014, 16, 16, 0⟩
def REC_CNT_DISPLACED : Fld := ⟨0x41400014, 0, 16, 0⟩
def REC_CNT2_RECLAIMED : Fld := ⟨0x41400018, 16, 16, 0⟩
def REC_CNT2_CHECKPOINTS : Fld := ⟨0x41400018, 0, 16, 0⟩
def REC_TIE_CNT_TIES : Fld := ⟨0x4140001C, 0, 32, 0⟩
def REC_RD_ADDR_ADDR (i : Nat) : Fld := ⟨0x41400030 + i * 4, 0, 32, 0⟩
def REC_RD_LEN_RD_LEN : Fld := ⟨0x41400038, 0, 32, 0⟩
def REC_RD_FROM_FROM (i : Nat) : Fld := ⟨0x4140003C + i * 4, 0, 32, 0⟩
def REC_RD_FILT_MIN_SEV : Fld := ⟨0x41400044, 0, 3, 0⟩
def REC_RD_STAT_BUSY : Fld := ⟨0x41400048, 31, 1, 0⟩
def REC_RD_STAT_COUNT : Fld := ⟨0x41400048, 0, 20, 0⟩
def SYSCTL_MID_MID : Fld := ⟨0x40000004, 0, 14, 0⟩
def SYSCTL_IPEND_PEND (i : Nat) (j : Nat) : Fld := ⟨0x40000100 + i * 8 + j * 4, 0, 32, 0⟩
def SETUP_STAT_BUSY : Fld := ⟨0x41500000, 31, 1, 0⟩
def SETUP_STAT_DONE : Fld := ⟨0x41500000, 30, 1, 0⟩
def SETUP_STAT_SRC : Fld := ⟨0x41500000, 28, 2, 0⟩
def SETUP_STAT_RESULT : Fld := ⟨0x41500000, 24, 4, 0⟩
def SETUP_STAT_VITAL_REFUSED : Fld := ⟨0x41500000, 14, 1, 0⟩
def SETUP_STAT_LOST : Fld := ⟨0x41500000, 6, 8, 0⟩
def SETUP_ADDR_LO_ADDR : Fld := ⟨0x41500008, 0, 32, 0⟩
def SETUP_ADDR_HI_ADDR : Fld := ⟨0x4150000C, 0, 8, 0⟩
def SETUP_LEN_LEN : Fld := ⟨0x41500010, 0, 32, 0⟩
def SETUP_VER_VERSION_FLOOR : Fld := ⟨0x41500014, 0, 32, 0⟩
def SETUP_FLOOR_VERSION_FLOOR : Fld := ⟨0x41500018, 0, 32, 0⟩
def SETUP_REPORT_ADDR_ADDR : Fld := ⟨0x41500024, 0, 28, 0⟩
def SETUP_REPORT_REQ_VALUE : Fld := ⟨0x41500028, 0, 32, 0⟩
def SETUP_REPORT_LOADED_VALUE : Fld := ⟨0x4150002C, 0, 32, 0⟩
def SETUP_ARM_BLOCK_BLOCK (i : Nat) : Fld := ⟨0x41500030 + i * 4, 0, 32, 0⟩
def SETUP_HASH_HASH (i : Nat) : Fld := ⟨0x41500040 + i * 4, 0, 32, 0⟩
def CYCMGR_FORCE_BACK_WORD (i : Nat) (j : Nat) : Fld := ⟨0x40301000 + i * 16 + j * 4, 0, 32, 0⟩
def CYCMGR_FORCE_BACK3_EN (i : Nat) : Fld := ⟨0x4030100C + i * 16, 31, 1, 0⟩
def CYCMGR_FORCE_ACT_WORD (i : Nat) (j : Nat) : Fld := ⟨0x40303000 + i * 16 + j * 4, 0, 32, 0⟩
def CYCMGR_FORCE_ACT3_EN (i : Nat) : Fld := ⟨0x4030300C + i * 16, 31, 1, 0⟩
def CYCMGR_FORCE_ACT3_POINT (i : Nat) : Fld := ⟨0x4030300C + i * 16, 29, 2, 0⟩
def CYCMGR_FORCE_ACT3_VITAL (i : Nat) : Fld := ⟨0x4030300C + i * 16, 28, 1, 0⟩
def CYCMGR_FORCE_ACT3_STATUS (i : Nat) : Fld := ⟨0x4030300C + i * 16, 24, 4, 0⟩
def GW_KEY_ROUTE_ROUTE_HI (i : Nat) (j : Nat) : Fld := ⟨0x40520010 + i * 32 + j * 4, 16, 16, 0⟩
def GW_KEY_ROUTE_ROUTE_LO (i : Nat) (j : Nat) : Fld := ⟨0x40520010 + i * 32 + j * 4, 0, 16, 0⟩
def STAIR_CNT_SLOT_FULL : Fld := ⟨0x40580040, 16, 16, 0⟩
def STAIR_CNT_ORPHANED : Fld := ⟨0x40580040, 0, 16, 0⟩
def STAIR_CNT2_PWE_LOST : Fld := ⟨0x40580044, 16, 16, 0⟩
def STAIR_CNT2_CANCELLED : Fld := ⟨0x40580044, 0, 16, 0⟩
def HALL_MSEC_SA2_PN (i : Nat) (j : Nat) : Fld := ⟨0x40E18848 + i * 4096 + j * 16, 0, 32, 0⟩
def HALL_PORT_CNT_COUNT (i : Nat) (j : Nat) : Fld := ⟨0x40E10100 + i * 4096 + j * 4, 0, 32, 0⟩
def HALL_GCL_ADMIN_BASE_ADMIN_BASE (i : Nat) (j : Nat) : Fld := ⟨0x40F00008 + i * 8192 + j * 4, 0, 32, 0⟩
def HALL_GCL_ADMIN_CYCLE_ADMIN_CYCLE (i : Nat) : Fld := ⟨0x40F00010 + i * 8192, 0, 32, 1000000⟩
def HALL_GCL_CYCLE_EXT_CYCLE_EXT (i : Nat) : Fld := ⟨0x40F00014 + i * 8192, 0, 32, 0⟩
def HALL_GCL_OPER_BASE_OPER_BASE (i : Nat) (j : Nat) : Fld := ⟨0x40F00018 + i * 8192 + j * 4, 0, 32, 0⟩
def HALL_GCL_OPER_CYCLE_OPER_CYCLE (i : Nat) : Fld := ⟨0x40F00020 + i * 8192, 0, 32, 1000000⟩
def HALL_GCL_ADM0_GATES (i : Nat) (j : Nat) : Fld := ⟨0x40F01000 + i * 8192 + j * 8, 0, 8, 255⟩
def HALL_GCL_ADM1_INTERVAL (i : Nat) (j : Nat) : Fld := ⟨0x40F01004 + i * 8192 + j * 8, 0, 32, 1000000⟩
def HALL_GCL_OPR0_GATES (i : Nat) (j : Nat) : Fld := ⟨0x40F01800 + i * 8192 + j * 8, 0, 8, 255⟩
def HALL_GCL_OPR1_INTERVAL (i : Nat) (j : Nat) : Fld := ⟨0x40F01804 + i * 8192 + j * 8, 0, 32, 1000000⟩
def UIO_STN_IN_REG_HI (i : Nat) (j : Nat) : Fld := ⟨0x40601800 + i * 4096 + j * 4, 16, 16, 0⟩
def UIO_STN_IN_REG_LO (i : Nat) (j : Nat) : Fld := ⟨0x40601800 + i * 4096 + j * 4, 0, 16, 0⟩
def UIO_STN_OUT_REG_HI (i : Nat) (j : Nat) : Fld := ⟨0x40601C00 + i * 4096 + j * 4, 16, 16, 0⟩
def UIO_STN_OUT_REG_LO (i : Nat) (j : Nat) : Fld := ⟨0x40601C00 + i * 4096 + j * 4, 0, 16, 0⟩
def CAN_CNT_RX_VALID (i : Nat) : Fld := ⟨0x40700030 + i * 65536, 16, 16, 0⟩
def CAN_CNT_RX_OFFERED (i : Nat) : Fld := ⟨0x40700030 + i * 65536, 0, 16, 0⟩
def CAN_CNT_TX_SENT (i : Nat) : Fld := ⟨0x40700034 + i * 65536, 16, 16, 0⟩
def CAN_CNT_TX_ARB_LOST (i : Nat) : Fld := ⟨0x40700034 + i * 65536, 0, 16, 0⟩
def CAN_CNT_ERR_ERR_FRAMES (i : Nat) : Fld := ⟨0x40700038 + i * 65536, 16, 16, 0⟩
def CAN_CNT_ERR_BUS_OFFS (i : Nat) : Fld := ⟨0x40700038 + i * 65536, 0, 16, 0⟩
def CAN_CNT_DROP_RING_FULL (i : Nat) : Fld := ⟨0x4070003C + i * 65536, 16, 16, 0⟩
def CAN_CNT_DROP_REJECTED (i : Nat) : Fld := ⟨0x4070003C + i * 65536, 0, 16, 0⟩

end F

/-- The register blocks at 0x4000_xxxx, part 0. -/
def regBlocks400_0 : List RegBlock := [
  -- SYSCTL_ID
  ⟨0x40000000, 0, 1, 0, 1, 0, .any, [⟨fun _ _ => F.SYSCTL_ID_CL, .ro, 0, 255⟩, ⟨fun _ _ => F.SYSCTL_ID_ISSUE, .ro, 0, 255⟩, ⟨fun _ _ => F.SYSCTL_ID_HUB_STEP, .ro, 0, 255⟩, ⟨fun _ _ => F.SYSCTL_ID_FAMILY_CODE, .ro, 0, 255⟩]⟩,
  -- CELLAR_STAT
  ⟨0x40010000, 0, 1, 0, 1, 0, .attic0, [⟨fun _ _ => F.CELLAR_STAT_LAST, .ro, 0, 7⟩, ⟨fun _ _ => F.CELLAR_STAT_PF_CUT, .w1c, 0, 1⟩, ⟨fun _ _ => F.CELLAR_STAT_PF_STEP, .ro, 0, 15⟩, ⟨fun _ _ => F.CELLAR_STAT_STEP1_LATE, .w1c, 0, 1⟩, ⟨fun _ _ => F.CELLAR_STAT_GRACE_ELAPSED, .ro, 0, 1⟩, ⟨fun _ _ => F.CELLAR_STAT_SLEEP_S, .ro, 0, 4194303⟩]⟩,
  -- CELLAR_PF_CNT
  ⟨0x40010004, 0, 1, 0, 1, 0, .attic0, [⟨fun _ _ => F.CELLAR_PF_CNT_WINDOWS, .ro, 0, 65535⟩, ⟨fun _ _ => F.CELLAR_PF_CNT_DECLARED, .ro, 0, 4095⟩, ⟨fun _ _ => F.CELLAR_PF_CNT_CUTS, .ro, 0, 15⟩]⟩,
  -- CELLAR_PF_T
  ⟨0x40010008, 0, 2, 4, 1, 0, .attic0, [⟨fun i _ => F.CELLAR_PF_T_T i, .ro, 0, 4294967295⟩]⟩,
  -- CELLAR_SCRUB
  ⟨0x40010010, 0, 1, 0, 1, 0, .attic0, [⟨fun _ _ => F.CELLAR_SCRUB_CORR, .ro, 0, 65535⟩, ⟨fun _ _ => F.CELLAR_SCRUB_UNCORR, .ro, 0, 255⟩, ⟨fun _ _ => F.CELLAR_SCRUB_UE_MAP, .w1c, 0, 31⟩]⟩,
  -- CELLAR_DBG_CNT
  ⟨0x40010014, 0, 1, 0, 1, 0, .attic0, [⟨fun _ _ => F.CELLAR_DBG_CNT_DBG_CNT, .ro, 0, 4294967295⟩]⟩,
  -- PWRMGR_STAT
  ⟨0x40020000, 0, 1, 0, 1, 0, .any, [⟨fun _ _ => ⟨0x40020000, 29, 3, 0⟩, .live, 0, 7⟩, ⟨fun _ _ => ⟨0x40020000, 26, 3, 0⟩, .live, 0, 7⟩, ⟨fun _ _ => F.PWRMGR_STAT_HOLDUP_READY, .ro, 0, 1⟩, ⟨fun _ _ => ⟨0x40020000, 24, 1, 0⟩, .live, 0, 1⟩, ⟨fun _ _ => F.PWRMGR_STAT_UNDERVOLT, .ro, 0, 1⟩, ⟨fun _ _ => F.PWRMGR_STAT_BUS_LOW, .ro, 0, 1⟩, ⟨fun _ _ => F.PWRMGR_STAT_OVERVOLT, .ro, 0, 1⟩, ⟨fun _ _ => F.PWRMGR_STAT_CHARGING, .ro, 0, 1⟩, ⟨fun _ _ => F.PWRMGR_STAT_START_MS, .ro, 0, 1048575⟩]⟩,
  -- PWRMGR_BUS
  ⟨0x40020004, 0, 1, 0, 1, 0, .any, [⟨fun _ _ => F.PWRMGR_BUS_V_BUS, .ro, 0, 65535⟩, ⟨fun _ _ => F.PWRMGR_BUS_V_HOLD, .ro, 0, 65535⟩]⟩,
  -- PWRMGR_FEED
  ⟨0x40020008, 0, 2, 4, 1, 0, .any, [⟨fun i _ => F.PWRMGR_FEED_V i, .ro, 0, 65535⟩, ⟨fun i _ => F.PWRMGR_FEED_I i, .ro, 0, 4095⟩, ⟨fun i _ => F.PWRMGR_FEED_REV i, .ro, 0, 1⟩, ⟨fun i _ => F.PWRMGR_FEED_OVERCUR i, .w1c, 0, 1⟩, ⟨fun i _ => F.PWRMGR_FEED_ACTIVE i, .ro, 0, 1⟩]⟩,
  -- PWRMGR_PF_CFG
  ⟨0x40020010, 0, 1, 0, 1, 0, .any, [⟨fun _ _ => F.PWRMGR_PF_CFG_GRACE_MS, .ro, 0, 8191⟩]⟩,
  -- PWRMGR_PF_NOTIFY
  ⟨0x40020014, 0, 2, 4, 1, 0, .attic, [⟨fun i _ => F.PWRMGR_PF_NOTIFY_NOTIFY i, .rw, 0, 4294967295⟩]⟩,
  -- PWRMGR_PF_DONE
  ⟨0x4002001c, 0, 1, 0, 1, 0, .any, [⟨fun _ _ => ⟨0x4002001C, 31, 1, 0⟩, .wo, 0, 1⟩]⟩,
  -- PWRMGR_GATE_REQ
  ⟨0x40020030, 0, 1, 0, 1, 0, .any, [⟨fun _ _ => ⟨0x40020030, 30, 2, 0⟩, .wo, 0, 3⟩, ⟨fun _ _ => ⟨0x40020030, 0, 5, 0⟩, .wo, 0, 31⟩]⟩,
  -- PWRMGR_GATE_RES
  ⟨0x40020034, 0, 1, 0, 1, 0, .any, [⟨fun _ _ => F.PWRMGR_GATE_RES_RESULT, .ro, 0, 255⟩, ⟨fun _ _ => F.PWRMGR_GATE_RES_GATE, .ro, 0, 31⟩]⟩,
  -- PWRMGR_CNT
  ⟨0x40020040, 0, 1, 0, 1, 0, .any, [⟨fun _ _ => F.PWRMGR_CNT_DIPS, .ro, 0, 65535⟩, ⟨fun _ _ => F.PWRMGR_CNT_OVERVOLT_CNT, .ro, 0, 65535⟩]⟩,
  -- PWRMGR_CLK_ON
  ⟨0x40020038, 0, 1, 0, 1, 0, .any, [⟨fun _ _ => F.PWRMGR_CLK_ON_ON, .su, 0, 131071⟩]⟩,
  -- PWRMGR_PWR_ON
  ⟨0x4002003c, 0, 1, 0, 1, 0, .any, [⟨fun _ _ => F.PWRMGR_PWR_ON_ON, .su, 0, 131071⟩]⟩,
  -- HEARTH_STAT
  ⟨0x40030000, 0, 1, 0, 1, 0, .attic0, [⟨fun _ _ => F.HEARTH_STAT_AUTH, .ro, 0, 3⟩, ⟨fun _ _ => F.HEARTH_STAT_EOL, .ro, 0, 1⟩, ⟨fun _ _ => F.HEARTH_STAT_REMOVE_OK, .ro, 0, 1⟩, ⟨fun _ _ => F.HEARTH_STAT_TESTING, .ro, 0, 1⟩, ⟨fun _ _ => F.HEARTH_STAT_REFRESHING, .ro, 0, 1⟩]⟩,
  -- HEARTH_CMD
  ⟨0x40030004, 0, 1, 0, 1, 0, .attic0, [⟨fun _ _ => ⟨0x40030004, 28, 4, 0⟩, .wo, 0, 15⟩]⟩,
  -- HEARTH_SERIAL
  ⟨0x40030008, 0, 2, 4, 1, 0, .attic0, [⟨fun i _ => F.HEARTH_SERIAL_SERIAL i, .ro, 0, 4294967295⟩]⟩,
  -- HEARTH_MEAS
  ⟨0x40030010, 0, 1, 0, 1, 0, .attic0, [⟨fun _ _ => F.HEARTH_MEAS_C_MEAS, .ro, 0, 65535⟩, ⟨fun _ _ => F.HEARTH_MEAS_ESR_MEAS, .ro, 0, 65535⟩]⟩,
  -- HEARTH_LIFE
  ⟨0x40030014, 0, 1, 0, 1, 0, .attic0, [⟨fun _ _ => F.HEARTH_LIFE_AGE_DAYS, .ro, 0, 8191⟩, ⟨fun _ _ => F.HEARTH_LIFE_EVENTS, .ro, 0, 524287⟩]⟩,
  -- HEARTH_FLASH
  ⟨0x40030018, 0, 1, 0, 1, 0, .attic0, [⟨fun _ _ => F.HEARTH_FLASH_WEAR, .ro, 0, 255⟩, ⟨fun _ _ => F.HEARTH_FLASH_MARGIN_MIN, .ro, 0, 255⟩, ⟨fun _ _ => F.HEARTH_FLASH_REFRESHED, .ro, 0, 65535⟩]⟩,
  -- MARGIN_STAT
  ⟨0x40040000, 0, 1, 0, 1, 0, .attic0, [⟨fun _ _ => F.MARGIN_STAT_DEFICIT, .ro, 0, 1⟩, ⟨fun _ _ => F.MARGIN_STAT_PLANNING, .ro, 0, 1⟩, ⟨fun _ _ => F.MARGIN_STAT_SINCE_H, .ro, 0, 1048575⟩]⟩]

/-- The register blocks at 0x4000_xxxx, part 1. -/
def regBlocks400_1 : List RegBlock := [
  -- MARGIN_CMD
  ⟨0x40040004, 0, 1, 0, 1, 0, .attic0, [⟨fun _ _ => ⟨0x40040004, 28, 4, 0⟩, .wo, 0, 15⟩]⟩,
  -- MARGIN_REQ
  ⟨0x40040008, 0, 1, 0, 1, 0, .attic0, [⟨fun _ _ => F.MARGIN_REQ_GRACE_REQ, .su, 0, 8000⟩, ⟨fun _ _ => F.MARGIN_REQ_DIRTY_REQ, .su, 16, 512⟩]⟩,
  -- MARGIN_PLAN
  ⟨0x4004000c, 0, 1, 0, 1, 0, .attic0, [⟨fun _ _ => F.MARGIN_PLAN_GRACE_MS, .ro, 0, 8191⟩, ⟨fun _ _ => F.MARGIN_PLAN_DIRTY_KB, .ro, 0, 1023⟩, ⟨fun _ _ => F.MARGIN_PLAN_F_APP, .ro, 0, 511⟩]⟩,
  -- MARGIN_ENERGY
  ⟨0x40040010, 0, 1, 0, 1, 0, .attic0, [⟨fun _ _ => F.MARGIN_ENERGY_E_USE, .ro, 0, 65535⟩, ⟨fun _ _ => F.MARGIN_ENERGY_E_PLAN, .ro, 0, 65535⟩]⟩,
  -- MARGIN_PWR
  ⟨0x40040014, 0, 1, 0, 1, 0, .attic0, [⟨fun _ _ => F.MARGIN_PWR_P_RUN, .ro, 0, 65535⟩, ⟨fun _ _ => F.MARGIN_PWR_P_NOW, .ro, 0, 65535⟩]⟩,
  -- MARGIN_DELAY
  ⟨0x40040018, 0, 1, 0, 1, 0, .attic0, [⟨fun _ _ => F.MARGIN_DELAY_D_HUB, .ro, 0, 65535⟩]⟩,
  -- MARGIN_LANE
  ⟨0x4004001c, 0, 1, 0, 1, 0, .attic0, [⟨fun _ _ => F.MARGIN_LANE_LOW, .w1c, 0, 1⟩, ⟨fun _ _ => F.MARGIN_LANE_SLACK_A, .ro, 0, 1023⟩, ⟨fun _ _ => F.MARGIN_LANE_SLACK_B, .ro, 0, 1023⟩, ⟨fun _ _ => F.MARGIN_LANE_SLACK_C, .ro, 0, 1023⟩]⟩,
  -- MARGIN_STUD
  ⟨0x40040020, 0, 1, 0, 1, 0, .attic0, [⟨fun _ _ => F.MARGIN_STUD_HIGH, .w1c, 0, 1⟩, ⟨fun _ _ => F.MARGIN_STUD_R_STUD2, .ro, 0, 32767⟩, ⟨fun _ _ => F.MARGIN_STUD_R_STUD1, .ro, 0, 32767⟩]⟩,
  -- MARGIN_DERATE
  ⟨0x40040040, 0, 12, 4, 1, 0, .attic0, [⟨fun i _ => F.MARGIN_DERATE_DERATE3 i, .ro, 0, 255⟩, ⟨fun i _ => F.MARGIN_DERATE_DERATE2 i, .ro, 0, 255⟩, ⟨fun i _ => F.MARGIN_DERATE_DERATE1 i, .ro, 0, 255⟩, ⟨fun i _ => F.MARGIN_DERATE_DERATE0 i, .ro, 0, 255⟩]⟩,
  -- SYSCTL_MID
  ⟨0x40000004, 0, 1, 0, 1, 0, .any, [⟨fun _ _ => F.SYSCTL_MID_MID, .ro, 0, 16383⟩]⟩,
  -- SYSCTL_IPEND
  ⟨0x40000100, 0, 5, 8, 2, 4, .any, [⟨fun i j => F.SYSCTL_IPEND_PEND i j, .ro, 0, 4294967295⟩]⟩]

/-- The register blocks at 0x4010_xxxx, part 0. -/
def regBlocks401_0 : List RegBlock := [
  -- CH_CTL
  ⟨0x40100000, 0, 48, 256, 1, 0, .any, [⟨fun i _ => ⟨0x40100000 + i * 256, 31, 1, 0⟩, .wo, 0, 1⟩, ⟨fun i _ => ⟨0x40100000 + i * 256, 30, 1, 0⟩, .wo, 0, 1⟩, ⟨fun i _ => F.CH_CTL_HUB_CMD i, .rwOwn, 0, 1⟩, ⟨fun i _ => F.CH_CTL_OUT_MODE i, .rwOwn, 0, 2⟩, ⟨fun i _ => F.CH_CTL_DITHER_AMP i, .rwOwn, 0, 1000⟩, ⟨fun i _ => F.CH_CTL_SETPOINT i, .rwOwn, 0, 65535⟩]⟩,
  -- CH_STAT
  ⟨0x40100004, 0, 48, 256, 1, 0, .any, [⟨fun i _ => ⟨0x40100004 + i * 256, 29, 3, 0⟩, .live, 0, 7⟩, ⟨fun i _ => ⟨0x40100004 + i * 256, 28, 1, 0⟩, .live, 0, 1⟩, ⟨fun i _ => ⟨0x40100004 + i * 256, 27, 1, 0⟩, .live, 0, 1⟩, ⟨fun i _ => F.CH_STAT_START_LATE i, .w1c, 0, 1⟩, ⟨fun i _ => F.CH_STAT_CFG_REFUSED i, .w1c, 0, 1⟩, ⟨fun i _ => F.CH_STAT_OPEN_LOAD i, .w1c, 0, 1⟩, ⟨fun i _ => F.CH_STAT_SHORT_GND i, .w1c, 0, 1⟩, ⟨fun i _ => F.CH_STAT_SHORT_SUP i, .w1c, 0, 1⟩, ⟨fun i _ => F.CH_STAT_REV_CURRENT i, .w1c, 0, 1⟩, ⟨fun i _ => F.CH_STAT_OVER_TEMP i, .w1c, 0, 1⟩, ⟨fun i _ => F.CH_STAT_FUSE_TRIP i, .w1c, 0, 1⟩, ⟨fun i _ => F.CH_STAT_RETRY_CNT i, .ro, 0, 7⟩, ⟨fun i _ => F.CH_STAT_I_MEAS i, .ro, 0, 65535⟩]⟩,
  -- CH_DIAG
  ⟨0x40100008, 0, 48, 256, 1, 0, .any, [⟨fun i _ => F.CH_DIAG_OFFDIAG_EN i, .rw, 0, 1⟩, ⟨fun i _ => F.CH_DIAG_TJ i, .ro, 0, 255⟩, ⟨fun i _ => F.CH_DIAG_OL_THRESH i, .rw, 0, 127⟩, ⟨fun i _ => F.CH_DIAG_V_OUT i, .ro, 0, 65535⟩]⟩,
  -- CH_PROFILE
  ⟨0x4010000c, 0, 48, 256, 1, 0, .any, [⟨fun i _ => F.CH_PROFILE_CH_MODE i, .su, 0, 1⟩, ⟨fun i _ => F.CH_PROFILE_SAFE_ON i, .su, 0, 1⟩, ⟨fun i _ => F.CH_PROFILE_PAIRED i, .su, 0, 1⟩, ⟨fun i _ => F.CH_PROFILE_PRIO i, .rwOwn, 0, 1⟩, ⟨fun i _ => F.CH_PROFILE_RETRY_MAX i, .rwOwn, 0, 7⟩, ⟨fun i _ => F.CH_PROFILE_SOFT_MS i, .rwOwn, 0, 255⟩, ⟨fun i _ => F.CH_PROFILE_INRUSH_MS i, .rwOwn, 0, 255⟩, ⟨fun i _ => F.CH_PROFILE_INRUSH_2A i, .rwOwn, 0, 255⟩]⟩,
  -- CH_FUSE
  ⟨0x40100010, 0, 48, 256, 8, 4, .any, [⟨fun i j => F.CH_FUSE_I_THR i j, .rwOwn, 0, 65535⟩, ⟨fun i j => F.CH_FUSE_T_MS i j, .rwOwn, 0, 65535⟩]⟩,
  -- CH_AGE
  ⟨0x40100030, 0, 48, 256, 1, 0, .any, [⟨fun i _ => F.CH_AGE_RDS_MEAS i, .ro, 0, 65535⟩, ⟨fun i _ => F.CH_AGE_DRIFT i, .ro, 0, 255⟩, ⟨fun i _ => F.CH_AGE_AGE_VALID i, .ro, 0, 1⟩]⟩,
  -- CH_TIMING
  ⟨0x40100034, 0, 48, 256, 1, 0, .any, [⟨fun i _ => F.CH_TIMING_COOL_MS i, .rw, 1, 65535⟩, ⟨fun i _ => F.CH_TIMING_RETRY_DELAY_MS i, .rw, 10, 65535⟩]⟩,
  -- CH_PWM
  ⟨0x40100038, 0, 48, 256, 1, 0, .any, [⟨fun i _ => F.CH_PWM_PWM_KHZ i, .rwOwn, 1, 25⟩, ⟨fun i _ => F.CH_PWM_DITHER_HZ i, .rwOwn, 0, 400⟩]⟩,
  -- CH_DIAG2
  ⟨0x4010003c, 0, 48, 256, 1, 0, .any, [⟨fun i _ => F.CH_DIAG2_SG_THRESH i, .rw, 0, 1000⟩]⟩,
  -- FB_BUDGET
  ⟨0x40103000, 0, 1, 0, 1, 0, .any, [⟨fun _ _ => F.FB_BUDGET_INRUSH_CAP, .rwOwn, 20, 400⟩, ⟨fun _ _ => F.FB_BUDGET_SUPPLY_SLEW, .rwOwn, 5, 400⟩]⟩,
  -- FB_START_WAIT
  ⟨0x40103004, 0, 1, 0, 1, 0, .any, [⟨fun _ _ => F.FB_START_WAIT_START_WAIT_MAX, .rw, 10, 5000⟩]⟩,
  -- FB_QSTAT
  ⟨0x40103008, 0, 1, 0, 1, 0, .any, [⟨fun _ _ => ⟨0x40103008, 26, 6, 0⟩, .live, 0, 63⟩, ⟨fun _ _ => ⟨0x40103008, 20, 6, 0⟩, .live, 0, 63⟩, ⟨fun _ _ => ⟨0x40103008, 9, 9, 0⟩, .live, 0, 511⟩, ⟨fun _ _ => ⟨0x40103008, 0, 9, 0⟩, .live, 0, 511⟩]⟩,
  -- FB_AGG
  ⟨0x4010300c, 0, 1, 0, 1, 0, .any, [⟨fun _ _ => F.FB_AGG_AGG_HIGH, .w1c, 0, 1⟩, ⟨fun _ _ => F.FB_AGG_AGG_I, .ro, 0, 65535⟩]⟩,
  -- FB_TIE_CNT
  ⟨0x40103010, 0, 1, 0, 1, 0, .any, [⟨fun _ _ => F.FB_TIE_CNT_TIES, .ro, 0, 4294967295⟩]⟩,
  -- FB_FAULT_NEXT
  ⟨0x40103014, 0, 1, 0, 1, 0, .any, [⟨fun _ _ => ⟨0x40103014, 31, 1, 0⟩, .rs, 0, 1⟩, ⟨fun _ _ => ⟨0x40103014, 16, 6, 0⟩, .rs, 0, 63⟩, ⟨fun _ _ => ⟨0x40103014, 0, 8, 0⟩, .rs, 0, 255⟩]⟩,
  -- FB_PERMIT
  ⟨0x40103018, 0, 1, 0, 1, 0, .any, [⟨fun _ _ => ⟨0x40103018, 16, 1, 0⟩, .live, 0, 1⟩, ⟨fun _ _ => ⟨0x40103018, 0, 6, 0⟩, .live, 0, 63⟩]⟩]

/-- The register blocks at 0x4020_xxxx, part 0. -/
def regBlocks402_0 : List RegBlock := [
  -- LANEIF_STAT
  ⟨0x40200000, 0, 1, 0, 1, 0, .any, [⟨fun _ _ => ⟨0x40200000, 30, 2, 0⟩, .live, 0, 3⟩, ⟨fun _ _ => ⟨0x40200000, 27, 3, 0⟩, .live, 0, 7⟩, ⟨fun _ _ => ⟨0x40200000, 24, 3, 0⟩, .live, 0, 7⟩, ⟨fun _ _ => ⟨0x40200000, 21, 3, 0⟩, .live, 0, 7⟩, ⟨fun _ _ => ⟨0x40200000, 20, 1, 0⟩, .live, 0, 1⟩]⟩,
  -- LANEIF_CFG
  ⟨0x40200008, 0, 1, 0, 1, 0, .any, [⟨fun _ _ => F.LANEIF_CFG_PERIOD, .su, 20, 1000⟩, ⟨fun _ _ => F.LANEIF_CFG_ARM_2OO2, .su, 0, 1⟩, ⟨fun _ _ => F.LANEIF_CFG_REINT_EN, .su, 0, 1⟩, ⟨fun _ _ => F.LANEIF_CFG_PRECOPY_SHARE, .su, 0, 2⟩, ⟨fun _ _ => F.LANEIF_CFG_DISAGREE_CYCLES, .su, 1, 63⟩]⟩,
  -- LANEIF_CYCLE_CNT
  ⟨0x4020000c, 0, 1, 0, 1, 0, .any, [⟨fun _ _ => F.LANEIF_CYCLE_CNT_CYCLE, .ro, 0, 4294967295⟩]⟩,
  -- LANEIF_LANE
  ⟨0x40200010, 0, 3, 4, 1, 0, .any, [⟨fun i _ => F.LANEIF_LANE_CAUSE i, .ro, 0, 15⟩, ⟨fun i _ => ⟨0x40200010 + i * 4, 26, 2, 0⟩, .live, 0, 3⟩, ⟨fun i _ => F.LANEIF_LANE_DISAGREE_CNT i, .ro, 0, 255⟩, ⟨fun i _ => F.LANEIF_LANE_EXCL_CNT i, .ro, 0, 255⟩, ⟨fun i _ => F.LANEIF_LANE_BIST_FAIL_CNT i, .ro, 0, 255⟩]⟩,
  -- LANEIF_REINT
  ⟨0x4020001c, 0, 1, 0, 1, 0, .any, [⟨fun _ _ => F.LANEIF_REINT_LANE, .ro, 0, 3⟩, ⟨fun _ _ => F.LANEIF_REINT_IN_PROGRESS, .ro, 0, 1⟩, ⟨fun _ _ => F.LANEIF_REINT_PRECOPY_DONE, .ro, 0, 1⟩, ⟨fun _ _ => F.LANEIF_REINT_ABORT_CAUSE, .ro, 0, 15⟩, ⟨fun _ _ => F.LANEIF_REINT_CYCLES, .ro, 0, 255⟩, ⟨fun _ _ => F.LANEIF_REINT_DIRTY_BLK, .ro, 0, 511⟩, ⟨fun _ _ => F.LANEIF_REINT_SHADOW_CNT, .ro, 0, 31⟩]⟩,
  -- LANEIF_DIN_AGREED
  ⟨0x40200030, 0, 1, 0, 1, 0, .any, [⟨fun _ _ => F.LANEIF_DIN_AGREED_DIN, .ro, 0, 65535⟩]⟩,
  -- LANEIF_DIN_DISAGREE
  ⟨0x40200034, 0, 1, 0, 1, 0, .any, [⟨fun _ _ => F.LANEIF_DIN_DISAGREE_DIN_FLAG, .w1c, 0, 65535⟩]⟩,
  -- LANEIF_AIN_DISAGREE
  ⟨0x40200038, 0, 1, 0, 1, 0, .any, [⟨fun _ _ => F.LANEIF_AIN_DISAGREE_AIN_FLAG, .w1c, 0, 65535⟩]⟩,
  -- LANEIF_LINK
  ⟨0x40200040, 0, 1, 0, 1, 0, .any, [⟨fun _ _ => F.LANEIF_LINK_LINK_FAULT, .w1c, 0, 7⟩, ⟨fun _ _ => F.LANEIF_LINK_CRC_AB, .ro, 0, 255⟩, ⟨fun _ _ => F.LANEIF_LINK_CRC_BC, .ro, 0, 255⟩, ⟨fun _ _ => F.LANEIF_LINK_CRC_CA, .ro, 0, 255⟩]⟩,
  -- LANEIF_SKEW
  ⟨0x40200044, 0, 1, 0, 1, 0, .any, [⟨fun _ _ => F.LANEIF_SKEW_SKEW_B, .ro, 0, 65535⟩, ⟨fun _ _ => F.LANEIF_SKEW_SKEW_C, .ro, 0, 65535⟩]⟩,
  -- LANEIF_TIE_CNT
  ⟨0x40200048, 0, 1, 0, 1, 0, .any, [⟨fun _ _ => F.LANEIF_TIE_CNT_TIES, .ro, 0, 4294967295⟩]⟩,
  -- LANEIF_IMG_SEQ
  ⟨0x4020004c, 0, 1, 0, 1, 0, .any, [⟨fun _ _ => F.LANEIF_IMG_SEQ_VOUT_SEQ, .ro, 0, 65535⟩, ⟨fun _ _ => F.LANEIF_IMG_SEQ_VIN_SEQ, .ro, 0, 65535⟩]⟩,
  -- LANEIF_VOUT_NOAGREE
  ⟨0x40200050, 0, 1, 0, 1, 0, .any, [⟨fun _ _ => F.LANEIF_VOUT_NOAGREE_VALID, .w1c, 0, 1⟩, ⟨fun _ _ => F.LANEIF_VOUT_NOAGREE_WORD, .ro, 0, 511⟩, ⟨fun _ _ => F.LANEIF_VOUT_NOAGREE_SEQ, .ro, 0, 65535⟩]⟩,
  -- LANEIF_AIN_VAL
  ⟨0x40200100, 0, 16, 4, 1, 0, .any, [⟨fun i _ => F.LANEIF_AIN_VAL_VALUE i, .ro, 0, 4294967295⟩]⟩,
  -- LANEIF_IN_CFG
  ⟨0x40200140, 0, 16, 4, 1, 0, .any, [⟨fun i _ => F.LANEIF_IN_CFG_DIN_SAFE i, .su, 0, 1⟩, ⟨fun i _ => F.LANEIF_IN_CFG_TOL i, .su, 0, 16777215⟩]⟩,
  -- LANEIF_VIN
  ⟨0x40201000, 0, 512, 4, 1, 0, .any, [⟨fun i _ => F.LANEIF_VIN_DATA i, .rw, 0, 4294967295⟩]⟩,
  -- LANEIF_VOUT
  ⟨0x40202000, 0, 512, 4, 1, 0, .any, [⟨fun i _ => F.LANEIF_VOUT_DATA i, .ro, 0, 4294967295⟩]⟩]

/-- The register blocks at 0x4030_xxxx, part 0. -/
def regBlocks403_0 : List RegBlock := [
  -- CYCMGR_STAT
  ⟨0x40300000, 0, 1, 0, 1, 0, .any, [⟨fun _ _ => ⟨0x40300000, 29, 3, 0⟩, .live, 0, 7⟩, ⟨fun _ _ => F.CYCMGR_STAT_LAST_RESTART, .ro, 0, 3⟩, ⟨fun _ _ => F.CYCMGR_STAT_COLD_REASON, .ro, 0, 7⟩, ⟨fun _ _ => ⟨0x40300000, 21, 3, 0⟩, .live, 0, 7⟩, ⟨fun _ _ => ⟨0x40300000, 20, 1, 0⟩, .live, 0, 1⟩, ⟨fun _ _ => F.CYCMGR_STAT_HOLD_ARMED, .ro, 0, 1⟩, ⟨fun _ _ => F.CYCMGR_STAT_CMD_RESULT, .ro, 0, 7⟩, ⟨fun _ _ => F.CYCMGR_STAT_LAST_CMD, .ro, 0, 15⟩, ⟨fun _ _ => ⟨0x40300000, 9, 3, 0⟩, .live, 0, 7⟩, ⟨fun _ _ => F.CYCMGR_STAT_ACT_BANK, .ro, 0, 1⟩, ⟨fun _ _ => ⟨0x40300000, 0, 8, 0⟩, .live, 0, 255⟩]⟩,
  -- CYCMGR_CMD
  ⟨0x40300004, 0, 1, 0, 1, 0, .any, [⟨fun _ _ => ⟨0x40300004, 28, 4, 0⟩, .wo, 0, 15⟩]⟩,
  -- CYCMGR_CFG
  ⟨0x40300008, 0, 1, 0, 1, 0, .any, [⟨fun _ _ => F.CYCMGR_CFG_RESTART_MODE, .su, 0, 1⟩, ⟨fun _ _ => F.CYCMGR_CFG_AUTOSTART, .su, 0, 1⟩, ⟨fun _ _ => F.CYCMGR_CFG_OVERRUN_LIMIT, .su, 1, 8⟩]⟩,
  -- CYCMGR_CYC_STAT
  ⟨0x4030000c, 0, 1, 0, 1, 0, .any, [⟨fun _ _ => F.CYCMGR_CYC_STAT_OVERRUN_CNT, .ro, 0, 65535⟩, ⟨fun _ _ => F.CYCMGR_CYC_STAT_OVERRUN_RUN, .ro, 0, 15⟩, ⟨fun _ _ => F.CYCMGR_CYC_STAT_LAST_LANE, .ro, 0, 3⟩, ⟨fun _ _ => F.CYCMGR_CYC_STAT_BACKLOG_MAX, .ro, 0, 15⟩]⟩,
  -- CYCMGR_OC_CYCLE
  ⟨0x40300010, 0, 1, 0, 1, 0, .any, [⟨fun _ _ => F.CYCMGR_OC_CYCLE_CYCLE, .rw, 0, 4294967295⟩]⟩,
  -- CYCMGR_CMD_LOG
  ⟨0x40300014, 0, 1, 0, 1, 0, .any, [⟨fun _ _ => F.CYCMGR_CMD_LOG_ENTRY3, .ro, 0, 255⟩, ⟨fun _ _ => F.CYCMGR_CMD_LOG_ENTRY2, .ro, 0, 255⟩, ⟨fun _ _ => F.CYCMGR_CMD_LOG_ENTRY1, .ro, 0, 255⟩, ⟨fun _ _ => F.CYCMGR_CMD_LOG_ENTRY0, .ro, 0, 255⟩]⟩,
  -- CYCMGR_OC_REP_ID
  ⟨0x40300018, 0, 1, 0, 1, 0, .any, [⟨fun _ _ => F.CYCMGR_OC_REP_ID_VAR_ID, .ro, 0, 4294967295⟩]⟩,
  -- CYCMGR_OC_REP
  ⟨0x4030001c, 0, 1, 0, 1, 0, .any, [⟨fun _ _ => ⟨0x4030001C, 30, 2, 0⟩, .rs, 0, 3⟩, ⟨fun _ _ => ⟨0x4030001C, 0, 13, 0⟩, .rs, 0, 8191⟩]⟩,
  -- CYCMGR_ACT_HASH
  ⟨0x40300040, 0, 8, 4, 1, 0, .any, [⟨fun i _ => F.CYCMGR_ACT_HASH_HASH i, .ro, 0, 4294967295⟩]⟩,
  -- CYCMGR_INACT_HASH
  ⟨0x40300060, 0, 8, 4, 1, 0, .any, [⟨fun i _ => F.CYCMGR_INACT_HASH_HASH i, .ro, 0, 4294967295⟩]⟩,
  -- CYCMGR_TOKEN_STAT
  ⟨0x40300080, 0, 1, 0, 1, 0, .any, [⟨fun _ _ => ⟨0x40300080, 31, 1, 0⟩, .live, 0, 1⟩, ⟨fun _ _ => F.CYCMGR_TOKEN_STAT_RIGHTS, .ro, 0, 3⟩, ⟨fun _ _ => F.CYCMGR_TOKEN_STAT_LAST_REFUSE, .ro, 0, 255⟩]⟩,
  -- CYCMGR_TOKEN_EXP
  ⟨0x40300084, 0, 2, 4, 1, 0, .any, [⟨fun i _ => F.CYCMGR_TOKEN_EXP_NOT_AFTER i, .ro, 0, 4294967295⟩]⟩,
  -- CYCMGR_FORCE_STAT
  ⟨0x40300090, 0, 1, 0, 1, 0, .any, [⟨fun _ _ => F.CYCMGR_FORCE_STAT_APPLIED, .ro, 0, 511⟩, ⟨fun _ _ => F.CYCMGR_FORCE_STAT_VITAL, .ro, 0, 511⟩]⟩,
  -- CYCMGR_TASK_CFG
  ⟨0x40300100, 0, 8, 8, 1, 0, .any, [⟨fun i _ => F.CYCMGR_TASK_CFG_PRESENT i, .ro, 0, 1⟩, ⟨fun i _ => F.CYCMGR_TASK_CFG_MULT_LOG2 i, .ro, 0, 7⟩, ⟨fun i _ => F.CYCMGR_TASK_CFG_PHASE i, .ro, 0, 63⟩, ⟨fun i _ => F.CYCMGR_TASK_CFG_WCET_US i, .ro, 0, 65535⟩]⟩,
  -- CYCMGR_TASK_TIME
  ⟨0x40300104, 0, 8, 8, 1, 0, .any, [⟨fun i _ => F.CYCMGR_TASK_TIME_MAX_US i, .ro, 0, 65535⟩, ⟨fun i _ => F.CYCMGR_TASK_TIME_LAST_US i, .ro, 0, 65535⟩]⟩,
  -- CYCMGR_TOKEN
  ⟨0x40302000, 0, 1024, 4, 1, 0, .any, [⟨fun i _ => F.CYCMGR_TOKEN_DATA i, .rw, 0, 4294967295⟩]⟩,
  -- PAIR_STAT
  ⟨0x40380000, 0, 1, 0, 1, 0, .any, [⟨fun _ _ => ⟨0x40380000, 29, 3, 0⟩, .live, 0, 7⟩, ⟨fun _ _ => ⟨0x40380000, 28, 1, 0⟩, .live, 0, 1⟩, ⟨fun _ _ => ⟨0x40380000, 27, 1, 0⟩, .live, 0, 1⟩, ⟨fun _ _ => F.PAIR_STAT_IN_STEP, .ro, 0, 1⟩, ⟨fun _ _ => F.PAIR_STAT_IMG_SRC, .ro, 0, 1⟩, ⟨fun _ _ => F.PAIR_STAT_PARTNER_SEEN, .ro, 0, 1⟩, ⟨fun _ _ => F.PAIR_STAT_DETACH_CAUSE, .ro, 0, 15⟩, ⟨fun _ _ => F.PAIR_STAT_OFFSET_ERR, .ro, 0, 65535⟩]⟩,
  -- PAIR_CMD
  ⟨0x40380004, 0, 1, 0, 1, 0, .any, [⟨fun _ _ => ⟨0x40380004, 28, 4, 0⟩, .wo, 0, 15⟩]⟩,
  -- PAIR_CFG
  ⟨0x40380008, 0, 1, 0, 1, 0, .any, [⟨fun _ _ => F.PAIR_CFG_PAIR_EN, .su, 0, 1⟩, ⟨fun _ _ => F.PAIR_CFG_PREFERRED, .su, 0, 1⟩, ⟨fun _ _ => F.PAIR_CFG_PARTNER_MID, .su, 0, 16383⟩, ⟨fun _ _ => F.PAIR_CFG_PAIR_OFFSET, .su, 35, 100⟩, ⟨fun _ _ => F.PAIR_CFG_CLAIM_QUIET, .su, 2, 8⟩]⟩,
  -- PAIR_CFG2
  ⟨0x4038000c, 0, 1, 0, 1, 0, .any, [⟨fun _ _ => F.PAIR_CFG2_REVERT_HOLD, .su, 0, 3600⟩, ⟨fun _ _ => F.PAIR_CFG2_PARTNER_WAIT, .su, 5, 600⟩, ⟨fun _ _ => F.PAIR_CFG2_TRANSFER_QUIET, .su, 50, 500⟩]⟩,
  -- PAIR_LOOP
  ⟨0x40380010, 0, 1, 0, 1, 0, .any, [⟨fun _ _ => F.PAIR_LOOP_OPEN, .w1c, 0, 1⟩, ⟨fun _ _ => F.PAIR_LOOP_SHORT, .w1c, 0, 1⟩, ⟨fun _ _ => F.PAIR_LOOP_CONFLICT, .w1c, 0, 1⟩, ⟨fun _ _ => F.PAIR_LOOP_INBOUND, .ro, 0, 1⟩, ⟨fun _ _ => ⟨0x40380010, 27, 1, 0⟩, .live, 0, 1⟩, ⟨fun _ _ => F.PAIR_LOOP_DEGRADED, .w1c, 0, 1⟩, ⟨fun _ _ => F.PAIR_LOOP_LOOP_V, .ro, 0, 4095⟩, ⟨fun _ _ => F.PAIR_LOOP_LOOP_I, .ro, 0, 4095⟩]⟩,
  -- PAIR_CNT
  ⟨0x40380014, 0, 1, 0, 1, 0, .any, [⟨fun _ _ => F.PAIR_CNT_TAKEOVERS, .ro, 0, 255⟩, ⟨fun _ _ => F.PAIR_CNT_TRANSFERS, .ro, 0, 255⟩, ⟨fun _ _ => F.PAIR_CNT_DISAGREE, .ro, 0, 255⟩, ⟨fun _ _ => F.PAIR_CNT_IMG_MISSING, .ro, 0, 255⟩]⟩,
  -- PAIR_GAIN
  ⟨0x40380018, 0, 2, 4, 1, 0, .any, [⟨fun i _ => F.PAIR_GAIN_T i, .ro, 0, 4294967295⟩]⟩,
  -- PAIR_LOSS
  ⟨0x40380020, 0, 2, 4, 1, 0, .any, [⟨fun i _ => F.PAIR_LOSS_T i, .ro, 0, 4294967295⟩]⟩]

/-- The register blocks at 0x4030_xxxx, part 1. -/
def regBlocks403_1 : List RegBlock := [
  -- PAIR_TIE_CNT
  ⟨0x40380028, 0, 1, 0, 1, 0, .any, [⟨fun _ _ => F.PAIR_TIE_CNT_TIES, .ro, 0, 4294967295⟩]⟩,
  -- CYCMGR_FORCE_BACK
  ⟨0x40301000, 0, 256, 16, 3, 4, .any, [⟨fun i j => F.CYCMGR_FORCE_BACK_WORD i j, .rw, 0, 4294967295⟩]⟩,
  -- CYCMGR_FORCE_BACK3
  ⟨0x4030100c, 0, 256, 16, 1, 0, .any, [⟨fun i _ => F.CYCMGR_FORCE_BACK3_EN i, .rw, 0, 1⟩]⟩,
  -- CYCMGR_FORCE_ACT
  ⟨0x40303000, 0, 256, 16, 3, 4, .any, [⟨fun i j => F.CYCMGR_FORCE_ACT_WORD i j, .ro, 0, 4294967295⟩]⟩,
  -- CYCMGR_FORCE_ACT3
  ⟨0x4030300c, 0, 256, 16, 1, 0, .any, [⟨fun i _ => F.CYCMGR_FORCE_ACT3_EN i, .ro, 0, 1⟩, ⟨fun i _ => F.CYCMGR_FORCE_ACT3_POINT i, .ro, 0, 3⟩, ⟨fun i _ => F.CYCMGR_FORCE_ACT3_VITAL i, .ro, 0, 1⟩, ⟨fun i _ => F.CYCMGR_FORCE_ACT3_STATUS i, .ro, 0, 15⟩]⟩]

/-- The register blocks at 0x4040_xxxx, part 0. -/
def regBlocks404_0 : List RegBlock := [
  -- DVE_CTL
  ⟨0x40400000, 0, 16, 65536, 1, 0, .any, [⟨fun i _ => ⟨0x40400000 + i * 65536, 28, 4, 0⟩, .wo, 0, 15⟩]⟩,
  -- DVE_STAT
  ⟨0x40400004, 0, 16, 65536, 1, 0, .any, [⟨fun i _ => ⟨0x40400004 + i * 65536, 29, 3, 0⟩, .live, 0, 7⟩, ⟨fun i _ => F.DVE_STAT_FAULT_CAUSE i, .ro, 0, 15⟩, ⟨fun i _ => F.DVE_STAT_CLASS i, .ro, 0, 3⟩, ⟨fun i _ => F.DVE_STAT_SAT i, .ro, 0, 1⟩, ⟨fun i _ => F.DVE_STAT_CMD_REFUSED i, .w1c, 0, 1⟩]⟩,
  -- DVE_FAULT_PC
  ⟨0x40400008, 0, 16, 65536, 1, 0, .any, [⟨fun i _ => F.DVE_FAULT_PC_PC i, .ro, 0, 65535⟩]⟩,
  -- DVE_LOAD_ADDR
  ⟨0x40400010, 0, 16, 65536, 2, 4, .any, [⟨fun i j => F.DVE_LOAD_ADDR_ADDR i j, .rw, 0, 4294967295⟩]⟩,
  -- DVE_LOAD_RESULT
  ⟨0x40400018, 0, 16, 65536, 1, 0, .any, [⟨fun i _ => F.DVE_LOAD_RESULT_RESULT i, .ro, 0, 255⟩]⟩,
  -- DVE_IMG_HASH
  ⟨0x40400020, 0, 16, 65536, 8, 4, .any, [⟨fun i j => F.DVE_IMG_HASH_HASH i j, .ro, 0, 4294967295⟩]⟩,
  -- DVE_DOORBELL
  ⟨0x40400040, 0, 16, 65536, 1, 0, .any, [⟨fun i _ => ⟨0x40400040 + i * 65536, 0, 4, 0⟩, .wo, 0, 15⟩]⟩,
  -- DVE_EVT_PEND
  ⟨0x40400044, 0, 16, 65536, 1, 0, .any, [⟨fun i _ => ⟨0x40400044 + i * 65536, 0, 32, 0⟩, .live, 0, 4294967295⟩]⟩,
  -- DVE_BURST
  ⟨0x40400048, 0, 16, 65536, 1, 0, .any, [⟨fun i _ => F.DVE_BURST_BURST_MAX i, .rw, 125, 10000⟩, ⟨fun i _ => F.DVE_BURST_BURST_PEAK i, .ro, 0, 65535⟩]⟩,
  -- DVE_UTIL
  ⟨0x4040004c, 0, 16, 65536, 1, 0, .any, [⟨fun i _ => F.DVE_UTIL_BUSY i, .ro, 0, 16383⟩]⟩,
  -- DVE_CANCEL
  ⟨0x40400050, 0, 16, 65536, 1, 0, .any, [⟨fun i _ => ⟨0x40400050 + i * 65536, 31, 1, 0⟩, .live, 0, 1⟩, ⟨fun i _ => F.DVE_CANCEL_INST i, .ro, 0, 63⟩, ⟨fun i _ => F.DVE_CANCEL_CANCELLED i, .ro, 0, 65535⟩]⟩,
  -- DVE_TIE_CNT
  ⟨0x40400054, 0, 16, 65536, 1, 0, .any, [⟨fun i _ => F.DVE_TIE_CNT_TIES i, .ro, 0, 4294967295⟩]⟩,
  -- DVE_INST_ALLOW
  ⟨0x40400058, 0, 16, 65536, 2, 4, .any, [⟨fun i j => F.DVE_INST_ALLOW_ALLOW i j, .rwOwn, 0, 4294967295⟩]⟩,
  -- DVE_QMAP
  ⟨0x40400100, 0, 16, 65536, 16, 4, .any, [⟨fun i j => F.DVE_QMAP_EN i j, .rwOwn, 0, 1⟩, ⟨fun i j => F.DVE_QMAP_DIR i j, .rwOwn, 0, 1⟩, ⟨fun i j => F.DVE_QMAP_HWQ i j, .rwOwn, 0, 511⟩]⟩,
  -- DVE_PORT
  ⟨0x40400140, 0, 16, 65536, 16, 4, .any, [⟨fun i j => F.DVE_PORT_REFUSED i j, .ro, 0, 65535⟩, ⟨fun i j => ⟨0x40400140 + i * 65536 + j * 4, 0, 11, 0⟩, .live, 0, 2047⟩]⟩]

/-- The register blocks at 0x4050_xxxx, part 0. -/
def regBlocks405_0 : List RegBlock := [
  -- GWTAB_CTL
  ⟨0x40500000, 0, 1, 0, 1, 0, .any, [⟨fun _ _ => F.GWTAB_CTL_CLASSIFY_EN, .rw, 0, 1⟩, ⟨fun _ _ => ⟨0x40500000, 30, 1, 0⟩, .wo, 0, 1⟩]⟩,
  -- GWTAB_STAT
  ⟨0x40500004, 0, 1, 0, 1, 0, .any, [⟨fun _ _ => F.GWTAB_STAT_SEAL_BUSY, .ro, 0, 1⟩, ⟨fun _ _ => F.GWTAB_STAT_CFG_REFUSED, .w1c, 0, 1⟩]⟩,
  -- GWTAB_CNT
  ⟨0x40500008, 0, 1, 0, 1, 0, .any, [⟨fun _ _ => F.GWTAB_CNT_NOMATCH, .ro, 0, 65535⟩, ⟨fun _ _ => F.GWTAB_CNT_DROPPED, .ro, 0, 65535⟩]⟩,
  -- GWTAB_TIE_CNT
  ⟨0x4050000c, 0, 1, 0, 1, 0, .any, [⟨fun _ _ => F.GWTAB_TIE_CNT_TIES, .ro, 0, 4294967295⟩]⟩,
  -- GWTAB_DESC_HASH
  ⟨0x40500020, 0, 8, 4, 1, 0, .any, [⟨fun i _ => F.GWTAB_DESC_HASH_HASH i, .ro, 0, 4294967295⟩]⟩,
  -- GW_ROUTE0
  ⟨0x40510000, 0, 2048, 16, 1, 0, .any, [⟨fun i _ => F.GW_ROUTE0_VALID i, .rwOwn, 0, 1⟩, ⟨fun i _ => F.GW_ROUTE0_INST i, .rwOwn, 0, 63⟩, ⟨fun i _ => F.GW_ROUTE0_IN_HWQ i, .rwOwn, 0, 511⟩, ⟨fun i _ => F.GW_ROUTE0_TRIGGER i, .rwOwn, 0, 2⟩]⟩,
  -- GW_ROUTE1
  ⟨0x40510004, 0, 2048, 16, 1, 0, .any, [⟨fun i _ => F.GW_ROUTE1_DESC_FIRST i, .rwOwn, 0, 8191⟩, ⟨fun i _ => F.GW_ROUTE1_DESC_CNT i, .rwOwn, 0, 127⟩]⟩,
  -- GW_ROUTE2
  ⟨0x40510008, 0, 2048, 16, 1, 0, .any, [⟨fun i _ => F.GW_ROUTE2_PERIOD_MS i, .rwOwn, 0, 65535⟩, ⟨fun i _ => F.GW_ROUTE2_TIMEOUT_MS i, .rwOwn, 0, 65535⟩]⟩,
  -- GW_ROUTE3
  ⟨0x4051000c, 0, 2048, 16, 1, 0, .any, [⟨fun i _ => F.GW_ROUTE3_DST i, .rwOwn, 0, 3⟩, ⟨fun i _ => F.GW_ROUTE3_PDU_ID i, .rwOwn, 0, 536870911⟩]⟩,
  -- GW_KEY0
  ⟨0x40520000, 0, 4096, 32, 1, 0, .any, [⟨fun i _ => F.GW_KEY0_VALID i, .rwOwn, 0, 1⟩, ⟨fun i _ => F.GW_KEY0_SRC i, .rwOwn, 0, 31⟩, ⟨fun i _ => F.GW_KEY0_XTD i, .rwOwn, 0, 1⟩]⟩,
  -- GW_KEY1
  ⟨0x40520004, 0, 4096, 32, 1, 0, .any, [⟨fun i _ => F.GW_KEY1_ID i, .rwOwn, 0, 536870911⟩]⟩,
  -- GW_KEY2
  ⟨0x40520008, 0, 4096, 32, 1, 0, .any, [⟨fun i _ => F.GW_KEY2_MASK i, .rwOwn, 0, 536870911⟩]⟩,
  -- GW_KEY3
  ⟨0x4052000c, 0, 4096, 32, 1, 0, .any, [⟨fun i _ => F.GW_KEY3_HITS i, .ro, 0, 4294967295⟩]⟩,
  -- GW_DESC0
  ⟨0x40540000, 0, 8192, 32, 1, 0, .any, [⟨fun i _ => F.GW_DESC0_KEY i, .rwOwn, 0, 8191⟩, ⟨fun i _ => F.GW_DESC0_SRC_START i, .rwOwn, 0, 16383⟩, ⟨fun i _ => F.GW_DESC0_SRC_LEN i, .rwOwn, 0, 31⟩]⟩,
  -- GW_DESC1
  ⟨0x40540004, 0, 8192, 32, 1, 0, .any, [⟨fun i _ => F.GW_DESC1_SRC_BE i, .rwOwn, 0, 1⟩, ⟨fun i _ => F.GW_DESC1_SRC_SIGNED i, .rwOwn, 0, 1⟩, ⟨fun i _ => F.GW_DESC1_DST_BE i, .rwOwn, 0, 1⟩, ⟨fun i _ => F.GW_DESC1_DST_SIGNED i, .rwOwn, 0, 1⟩, ⟨fun i _ => F.GW_DESC1_DST_LEN i, .rwOwn, 0, 31⟩, ⟨fun i _ => F.GW_DESC1_DST_START i, .rwOwn, 0, 16383⟩, ⟨fun i _ => F.GW_DESC1_SH i, .rwOwn, 0, 31⟩]⟩,
  -- GW_DESC2
  ⟨0x40540008, 0, 8192, 32, 1, 0, .any, [⟨fun i _ => F.GW_DESC2_FACTOR i, .rwOwn, 0, 4294967295⟩]⟩,
  -- GW_DESC3
  ⟨0x4054000c, 0, 8192, 32, 1, 0, .any, [⟨fun i _ => F.GW_DESC3_OFFSET i, .rwOwn, 0, 4294967295⟩]⟩,
  -- GW_DESC4
  ⟨0x40540010, 0, 8192, 32, 1, 0, .any, [⟨fun i _ => F.GW_DESC4_SUBST i, .rwOwn, 0, 4294967295⟩]⟩,
  -- STAIR_PARK
  ⟨0x40580004, 0, 2, 4, 1, 0, .any, [⟨fun i _ => ⟨0x40580004 + i * 4, 0, 32, 0⟩, .live, 0, 4294967295⟩]⟩,
  -- STAIR_WSEQ
  ⟨0x40580010, 0, 1, 0, 1, 0, .any, [⟨fun _ _ => ⟨0x40580010, 16, 1, 0⟩, .live, 0, 1⟩, ⟨fun _ _ => ⟨0x40580010, 0, 16, 0⟩, .live, 0, 65535⟩]⟩,
  -- STAIR_WDONE
  ⟨0x40580014, 0, 1, 0, 1, 0, .any, [⟨fun _ _ => ⟨0x40580014, 16, 16, 0⟩, .live, 0, 65535⟩, ⟨fun _ _ => ⟨0x40580014, 0, 16, 0⟩, .live, 0, 65535⟩]⟩,
  -- STAIR_PWE
  ⟨0x40580020, 0, 1, 0, 1, 0, .any, [⟨fun _ _ => ⟨0x40580020, 31, 1, 0⟩, .rs, 0, 1⟩, ⟨fun _ _ => ⟨0x40580020, 25, 6, 0⟩, .rs, 0, 63⟩, ⟨fun _ _ => ⟨0x40580020, 22, 3, 0⟩, .rs, 0, 7⟩, ⟨fun _ _ => ⟨0x40580020, 19, 3, 0⟩, .rs, 0, 7⟩, ⟨fun _ _ => ⟨0x40580020, 0, 16, 0⟩, .rs, 0, 65535⟩]⟩,
  -- STAIR_PWE_DET
  ⟨0x40580024, 0, 2, 4, 1, 0, .any, [⟨fun i _ => F.STAIR_PWE_DET_ADDR i, .ro, 0, 4294967295⟩, ⟨fun i _ => F.STAIR_PWE_DET_DATA i, .ro, 0, 4294967295⟩]⟩,
  -- STAIR_ORPH
  ⟨0x40580030, 0, 1, 0, 1, 0, .any, [⟨fun _ _ => ⟨0x40580030, 31, 1, 0⟩, .rs, 0, 1⟩, ⟨fun _ _ => ⟨0x40580030, 25, 6, 0⟩, .rs, 0, 63⟩, ⟨fun _ _ => ⟨0x40580030, 24, 1, 0⟩, .rs, 0, 1⟩, ⟨fun _ _ => ⟨0x40580030, 16, 8, 0⟩, .rs, 0, 255⟩]⟩]

/-- The register blocks at 0x4050_xxxx, part 1. -/
def regBlocks405_1 : List RegBlock := [
  -- STAIR_ORPH_DET
  ⟨0x40580034, 0, 3, 4, 1, 0, .any, [⟨fun i _ => F.STAIR_ORPH_DET_VALUE i, .ro, 0, 4294967295⟩]⟩,
  -- STAIR_TIE_CNT
  ⟨0x40580048, 0, 1, 0, 1, 0, .any, [⟨fun _ _ => F.STAIR_TIE_CNT_TIES, .ro, 0, 4294967295⟩]⟩,
  -- STAIR_IRQ_ROUTE
  ⟨0x40580100, 0, 32, 4, 1, 0, .any, [⟨fun i _ => F.STAIR_IRQ_ROUTE_EN i, .rw, 0, 1⟩, ⟨fun i _ => F.STAIR_IRQ_ROUTE_INST i, .rw, 0, 63⟩]⟩,
  -- GW_KEY_ROUTE
  ⟨0x40520010, 0, 4096, 32, 4, 4, .any, [⟨fun i j => F.GW_KEY_ROUTE_ROUTE_HI i j, .rwOwn, 0, 65535⟩, ⟨fun i j => F.GW_KEY_ROUTE_ROUTE_LO i j, .rwOwn, 0, 65535⟩]⟩,
  -- STAIR_CNT
  ⟨0x40580040, 0, 1, 0, 1, 0, .any, [⟨fun _ _ => F.STAIR_CNT_SLOT_FULL, .ro, 0, 65535⟩, ⟨fun _ _ => F.STAIR_CNT_ORPHANED, .ro, 0, 65535⟩]⟩,
  -- STAIR_CNT2
  ⟨0x40580044, 0, 1, 0, 1, 0, .any, [⟨fun _ _ => F.STAIR_CNT2_PWE_LOST, .ro, 0, 65535⟩, ⟨fun _ _ => F.STAIR_CNT2_CANCELLED, .ro, 0, 65535⟩]⟩]

/-- The register blocks at 0x4060_xxxx, part 0. -/
def regBlocks406_0 : List RegBlock := [
  -- UIO_PIN_CFG
  ⟨0x40600000, 0, 48, 16, 1, 0, .any, [⟨fun i _ => F.UIO_PIN_CFG_MODE i, .rw, 0, 8⟩, ⟨fun i _ => F.UIO_PIN_CFG_SP_REF i, .rw, 0, 7⟩, ⟨fun i _ => F.UIO_PIN_CFG_SP_CHK i, .rw, 0, 1⟩, ⟨fun i _ => F.UIO_PIN_CFG_DEB i, .rw, 0, 255⟩, ⟨fun i _ => F.UIO_PIN_CFG_FGATE i, .rw, 1, 1000⟩]⟩,
  -- UIO_PIN_VAL
  ⟨0x40600004, 0, 48, 16, 1, 0, .any, [⟨fun i _ => F.UIO_PIN_VAL_VALUE i, .ro, 0, 4294967295⟩]⟩,
  -- UIO_PIN_DIAG
  ⟨0x40600008, 0, 48, 16, 1, 0, .any, [⟨fun i _ => F.UIO_PIN_DIAG_SUPPLY i, .w1c, 0, 1⟩, ⟨fun i _ => F.UIO_PIN_DIAG_SHORT i, .w1c, 0, 1⟩, ⟨fun i _ => F.UIO_PIN_DIAG_OPEN i, .w1c, 0, 1⟩, ⟨fun i _ => F.UIO_PIN_DIAG_UNDER i, .w1c, 0, 1⟩, ⟨fun i _ => F.UIO_PIN_DIAG_OVER i, .w1c, 0, 1⟩, ⟨fun i _ => F.UIO_PIN_DIAG_LEVEL i, .ro, 0, 1⟩]⟩,
  -- UIO_PIN_THR
  ⟨0x4060000c, 0, 48, 16, 1, 0, .any, [⟨fun i _ => F.UIO_PIN_THR_TH_HI i, .rw, 5, 300⟩, ⟨fun i _ => F.UIO_PIN_THR_TH_LO i, .rw, 5, 298⟩]⟩,
  -- UIO_SP_CTL
  ⟨0x40600400, 0, 8, 4, 1, 0, .any, [⟨fun i _ => F.UIO_SP_CTL_EN i, .rw, 0, 1⟩, ⟨fun i _ => F.UIO_SP_CTL_VSEL i, .rw, 0, 2⟩, ⟨fun i _ => F.UIO_SP_CTL_SP_LOCK i, .su, 0, 1⟩, ⟨fun i _ => F.UIO_SP_CTL_TRIP i, .w1c, 0, 1⟩, ⟨fun i _ => F.UIO_SP_CTL_IN_REG i, .ro, 0, 1⟩, ⟨fun i _ => F.UIO_SP_CTL_I_OUT i, .ro, 0, 1023⟩]⟩,
  -- UIO_SEG_CFG
  ⟨0x40601000, 0, 2, 4096, 1, 0, .any, [⟨fun i _ => F.UIO_SEG_CFG_SEG_EN i, .rw, 0, 1⟩, ⟨fun i _ => F.UIO_SEG_CFG_AUTO_RELEASE i, .su, 0, 1⟩, ⟨fun i _ => F.UIO_SEG_CFG_STALE_CYCLES i, .su, 1, 15⟩, ⟨fun i _ => F.UIO_SEG_CFG_POLL_PERIOD i, .su, 0, 65535⟩]⟩,
  -- UIO_SEG_STAT
  ⟨0x40601004, 0, 2, 4096, 1, 0, .any, [⟨fun i _ => ⟨0x40601004 + i * 4096, 16, 16, 0⟩, .live, 0, 65535⟩, ⟨fun i _ => ⟨0x40601004 + i * 4096, 0, 16, 0⟩, .live, 0, 65535⟩]⟩,
  -- UIO_SEG_CNT
  ⟨0x40601008, 0, 2, 4096, 1, 0, .any, [⟨fun i _ => F.UIO_SEG_CNT_CYCLE i, .ro, 0, 65535⟩, ⟨fun i _ => F.UIO_SEG_CNT_FOREIGN i, .ro, 0, 65535⟩]⟩,
  -- UIO_STN_STAT
  ⟨0x40601100, 0, 2, 4096, 16, 16, .any, [⟨fun i j => ⟨0x40601100 + i * 4096 + j * 16, 29, 3, 0⟩, .live, 0, 7⟩, ⟨fun i j => F.UIO_STN_STAT_STALE i j, .ro, 0, 1⟩, ⟨fun i j => F.UIO_STN_STAT_SUBST i j, .ro, 0, 1⟩, ⟨fun i j => F.UIO_STN_STAT_REJOINED i j, .w1c, 0, 1⟩, ⟨fun i j => F.UIO_STN_STAT_STATUS i j, .ro, 0, 255⟩, ⟨fun i j => F.UIO_STN_STAT_RUN i j, .ro, 0, 15⟩]⟩,
  -- UIO_STN_CNT
  ⟨0x40601104, 0, 2, 4096, 16, 16, .any, [⟨fun i j => F.UIO_STN_CNT_UNDELIVERED i j, .ro, 0, 65535⟩, ⟨fun i j => F.UIO_STN_CNT_LATE i j, .ro, 0, 65535⟩]⟩,
  -- UIO_STN_CTL
  ⟨0x40601108, 0, 2, 4096, 16, 16, .any, [⟨fun i j => ⟨0x40601108 + i * 4096 + j * 16, 31, 1, 0⟩, .wo, 0, 1⟩, ⟨fun i j => F.UIO_STN_CTL_IN_LEN i j, .su, 0, 32⟩, ⟨fun i j => F.UIO_STN_CTL_OUT_LEN i j, .su, 0, 32⟩]⟩,
  -- UIO_STN_IRQ
  ⟨0x4060110c, 0, 2, 4096, 16, 16, .any, [⟨fun i j => ⟨0x4060110C + i * 4096 + j * 16, 0, 8, 0⟩, .rs, 0, 255⟩]⟩,
  -- UIO_STN_IN
  ⟨0x40601800, 0, 2, 4096, 256, 4, .any, [⟨fun i j => F.UIO_STN_IN_REG_HI i j, .ro, 0, 65535⟩, ⟨fun i j => F.UIO_STN_IN_REG_LO i j, .ro, 0, 65535⟩]⟩,
  -- UIO_STN_OUT
  ⟨0x40601c00, 0, 2, 4096, 256, 4, .any, [⟨fun i j => F.UIO_STN_OUT_REG_HI i j, .rw, 0, 65535⟩, ⟨fun i j => F.UIO_STN_OUT_REG_LO i j, .rw, 0, 65535⟩]⟩]

/-- The register blocks at 0x4070_xxxx, part 0. -/
def regBlocks407_0 : List RegBlock := [
  -- CAN_CTL
  ⟨0x40700000, 0, 12, 65536, 1, 0, .any, [⟨fun i _ => F.CAN_CTL_FD_EN i, .rw, 0, 1⟩, ⟨fun i _ => F.CAN_CTL_XL_EN i, .rw, 0, 1⟩, ⟨fun i _ => F.CAN_CTL_PEX i, .rw, 0, 1⟩, ⟨fun i _ => F.CAN_CTL_LISTEN i, .rw, 0, 1⟩, ⟨fun i _ => F.CAN_CTL_TERM i, .rw, 0, 1⟩, ⟨fun i _ => F.CAN_CTL_XL_FAST i, .rw, 0, 1⟩]⟩,
  -- CAN_STAT
  ⟨0x40700004, 0, 12, 65536, 1, 0, .any, [⟨fun i _ => ⟨0x40700004 + i * 65536, 29, 3, 0⟩, .live, 0, 7⟩, ⟨fun i _ => ⟨0x40700004 + i * 65536, 28, 1, 0⟩, .live, 0, 1⟩, ⟨fun i _ => F.CAN_STAT_CMD_REFUSED i, .w1c, 0, 1⟩, ⟨fun i _ => F.CAN_STAT_CFG_REFUSED i, .w1c, 0, 1⟩, ⟨fun i _ => F.CAN_STAT_REC i, .ro, 0, 255⟩, ⟨fun i _ => F.CAN_STAT_TEC i, .ro, 0, 511⟩, ⟨fun i _ => F.CAN_STAT_RECOV_CNT i, .ro, 0, 255⟩]⟩,
  -- CAN_CMD
  ⟨0x40700008, 0, 12, 65536, 1, 0, .any, [⟨fun i _ => ⟨0x40700008 + i * 65536, 28, 4, 0⟩, .wo, 0, 15⟩, ⟨fun i _ => ⟨0x40700008 + i * 65536, 0, 7, 0⟩, .wo, 0, 127⟩]⟩,
  -- CAN_NBT
  ⟨0x4070000c, 0, 12, 65536, 1, 0, .any, [⟨fun i _ => F.CAN_NBT_BRP i, .rw, 0, 511⟩, ⟨fun i _ => F.CAN_NBT_TSEG1 i, .rw, 0, 255⟩, ⟨fun i _ => F.CAN_NBT_TSEG2 i, .rw, 0, 127⟩, ⟨fun i _ => F.CAN_NBT_SJW i, .rw, 0, 127⟩]⟩,
  -- CAN_TDC
  ⟨0x40700018, 0, 12, 65536, 1, 0, .any, [⟨fun i _ => F.CAN_TDC_TDC_EN i, .rw, 0, 1⟩, ⟨fun i _ => F.CAN_TDC_SSP_OFFSET i, .rw, 0, 255⟩, ⟨fun i _ => F.CAN_TDC_TDC_MEAS i, .ro, 0, 255⟩]⟩,
  -- CAN_XPWM
  ⟨0x4070001c, 0, 12, 65536, 1, 0, .any, [⟨fun i _ => F.CAN_XPWM_PWMS i, .rw, 1, 63⟩, ⟨fun i _ => F.CAN_XPWM_PWML i, .rw, 1, 63⟩, ⟨fun i _ => F.CAN_XPWM_PWMO i, .rw, 0, 63⟩]⟩,
  -- CAN_TIE_CNT
  ⟨0x40700040, 0, 12, 65536, 1, 0, .any, [⟨fun i _ => F.CAN_TIE_CNT_TIES i, .ro, 0, 4294967295⟩]⟩,
  -- CAN_ERR_LAST
  ⟨0x40700044, 0, 12, 65536, 1, 0, .any, [⟨fun i _ => ⟨0x40700044 + i * 65536, 29, 3, 0⟩, .rs, 0, 7⟩, ⟨fun i _ => ⟨0x40700044 + i * 65536, 28, 1, 0⟩, .rs, 0, 1⟩, ⟨fun i _ => ⟨0x40700044 + i * 65536, 26, 2, 0⟩, .rs, 0, 3⟩]⟩,
  -- CAN_DBT
  ⟨0x40700010, 0, 12, 65536, 1, 0, .any, [⟨fun i _ => F.CAN_DBT_BRP i, .rw, 0, 31⟩, ⟨fun i _ => F.CAN_DBT_TSEG1 i, .rw, 0, 63⟩, ⟨fun i _ => F.CAN_DBT_TSEG2 i, .rw, 0, 15⟩, ⟨fun i _ => F.CAN_DBT_SJW i, .rw, 0, 15⟩]⟩,
  -- CAN_XBT
  ⟨0x40700014, 0, 12, 65536, 1, 0, .any, [⟨fun i _ => F.CAN_XBT_BRP i, .rw, 0, 31⟩, ⟨fun i _ => F.CAN_XBT_TSEG1 i, .rw, 0, 63⟩, ⟨fun i _ => F.CAN_XBT_TSEG2 i, .rw, 0, 15⟩, ⟨fun i _ => F.CAN_XBT_SJW i, .rw, 0, 15⟩]⟩,
  -- CAN_FLT
  ⟨0x40700020, 0, 12, 65536, 1, 0, .any, [⟨fun i _ => F.CAN_FLT_FLT_BASE i, .rw, 0, 16383⟩, ⟨fun i _ => F.CAN_FLT_FLT_LEN i, .rw, 0, 16384⟩]⟩,
  -- CAN_FLT_DEF
  ⟨0x40700024, 0, 12, 65536, 1, 0, .any, [⟨fun i _ => F.CAN_FLT_DEF_DEF_ACTION i, .rw, 0, 3⟩, ⟨fun i _ => F.CAN_FLT_DEF_DEF_RING i, .rw, 0, 127⟩]⟩,
  -- CAN_IRQ
  ⟨0x40700028, 0, 12, 65536, 1, 0, .any, [⟨fun i _ => F.CAN_IRQ_BUS_OFF i, .w1c, 0, 1⟩, ⟨fun i _ => F.CAN_IRQ_ERR_PASSIVE i, .w1c, 0, 1⟩, ⟨fun i _ => F.CAN_IRQ_ERR_WARN i, .w1c, 0, 1⟩, ⟨fun i _ => F.CAN_IRQ_ERR_ACTIVE i, .w1c, 0, 1⟩, ⟨fun i _ => F.CAN_IRQ_TX_FAIL i, .w1c, 0, 1⟩, ⟨fun i _ => F.CAN_IRQ_RING_FULL i, .w1c, 0, 1⟩, ⟨fun i _ => F.CAN_IRQ_REF i, .w1c, 0, 1⟩, ⟨fun i _ => F.CAN_IRQ_REF_LOST i, .w1c, 0, 1⟩, ⟨fun i _ => F.CAN_IRQ_PEX i, .w1c, 0, 1⟩]⟩,
  -- CAN_IRQ_EN
  ⟨0x4070002c, 0, 12, 65536, 1, 0, .any, [⟨fun i _ => F.CAN_IRQ_EN_BUS_OFF i, .rw, 0, 1⟩, ⟨fun i _ => F.CAN_IRQ_EN_ERR_PASSIVE i, .rw, 0, 1⟩, ⟨fun i _ => F.CAN_IRQ_EN_ERR_WARN i, .rw, 0, 1⟩, ⟨fun i _ => F.CAN_IRQ_EN_ERR_ACTIVE i, .rw, 0, 1⟩, ⟨fun i _ => F.CAN_IRQ_EN_TX_FAIL i, .rw, 0, 1⟩, ⟨fun i _ => F.CAN_IRQ_EN_RING_FULL i, .rw, 0, 1⟩, ⟨fun i _ => F.CAN_IRQ_EN_REF i, .rw, 0, 1⟩, ⟨fun i _ => F.CAN_IRQ_EN_REF_LOST i, .rw, 0, 1⟩, ⟨fun i _ => F.CAN_IRQ_EN_PEX i, .rw, 0, 1⟩]⟩,
  -- CAN_TT_CFG
  ⟨0x40700050, 0, 12, 65536, 1, 0, .any, [⟨fun i _ => F.CAN_TT_CFG_ROLE i, .rw, 0, 2⟩, ⟨fun i _ => F.CAN_TT_CFG_CNT_MAX i, .rw, 0, 63⟩, ⟨fun i _ => F.CAN_TT_CFG_REF_ID i, .rw, 0, 2047⟩]⟩,
  -- CAN_TT_CYCLE
  ⟨0x40700054, 0, 12, 65536, 1, 0, .any, [⟨fun i _ => F.CAN_TT_CYCLE_TT_CYCLE i, .rw, 100000, 4294967295⟩]⟩,
  -- CAN_TT_BASE
  ⟨0x40700058, 0, 12, 65536, 2, 4, .any, [⟨fun i j => F.CAN_TT_BASE_TT_BASE i j, .rw, 0, 4294967295⟩]⟩,
  -- CAN_TT_STAT
  ⟨0x40700060, 0, 12, 65536, 1, 0, .any, [⟨fun i _ => F.CAN_TT_STAT_BACKUP i, .ro, 0, 1⟩, ⟨fun i _ => F.CAN_TT_STAT_MASTER i, .ro, 0, 1⟩, ⟨fun i _ => F.CAN_TT_STAT_CYCLE_CNT i, .ro, 0, 63⟩]⟩,
  -- CAN_TT_REF
  ⟨0x40700064, 0, 12, 65536, 2, 4, .any, [⟨fun i j => F.CAN_TT_REF_REF_TS i j, .ro, 0, 4294967295⟩]⟩,
  -- CAN_CNT_RX
  ⟨0x40700030, 0, 12, 65536, 1, 0, .any, [⟨fun i _ => F.CAN_CNT_RX_VALID i, .ro, 0, 65535⟩, ⟨fun i _ => F.CAN_CNT_RX_OFFERED i, .ro, 0, 65535⟩]⟩,
  -- CAN_CNT_TX
  ⟨0x40700034, 0, 12, 65536, 1, 0, .any, [⟨fun i _ => F.CAN_CNT_TX_SENT i, .ro, 0, 65535⟩, ⟨fun i _ => F.CAN_CNT_TX_ARB_LOST i, .ro, 0, 65535⟩]⟩,
  -- CAN_CNT_ERR
  ⟨0x40700038, 0, 12, 65536, 1, 0, .any, [⟨fun i _ => F.CAN_CNT_ERR_ERR_FRAMES i, .ro, 0, 65535⟩, ⟨fun i _ => F.CAN_CNT_ERR_BUS_OFFS i, .ro, 0, 65535⟩]⟩,
  -- CAN_CNT_DROP
  ⟨0x4070003c, 0, 12, 65536, 1, 0, .any, [⟨fun i _ => F.CAN_CNT_DROP_RING_FULL i, .ro, 0, 65535⟩, ⟨fun i _ => F.CAN_CNT_DROP_REJECTED i, .ro, 0, 65535⟩]⟩]

/-- The register blocks at 0x40C0_xxxx, part 0. -/
def regBlocks40C_0 : List RegBlock := [
  -- CANRAM_FLT0
  ⟨0x40c00000, 0, 16384, 16, 1, 0, .any, [⟨fun i _ => F.CANRAM_FLT0_VALID i, .rwOwn, 0, 1⟩, ⟨fun i _ => F.CANRAM_FLT0_TYPE i, .rwOwn, 0, 3⟩, ⟨fun i _ => F.CANRAM_FLT0_ACTION i, .rwOwn, 0, 3⟩, ⟨fun i _ => F.CANRAM_FLT0_XTD i, .rwOwn, 0, 1⟩, ⟨fun i _ => F.CANRAM_FLT0_FMT i, .rwOwn, 0, 3⟩, ⟨fun i _ => F.CANRAM_FLT0_RING i, .rwOwn, 0, 127⟩]⟩,
  -- CANRAM_FLT1
  ⟨0x40c00004, 0, 16384, 16, 1, 0, .any, [⟨fun i _ => F.CANRAM_FLT1_ID1 i, .rwOwn, 0, 536870911⟩]⟩,
  -- CANRAM_FLT2
  ⟨0x40c00008, 0, 16384, 16, 1, 0, .any, [⟨fun i _ => F.CANRAM_FLT2_ID2 i, .rwOwn, 0, 536870911⟩]⟩,
  -- CANRAM_FLT3
  ⟨0x40c0000c, 0, 16384, 16, 1, 0, .any, [⟨fun i _ => F.CANRAM_FLT3_HITS i, .ro, 0, 4294967295⟩]⟩,
  -- CANRAM_RING0
  ⟨0x40c40000, 0, 128, 32, 1, 0, .any, [⟨fun i _ => F.CANRAM_RING0_VALID i, .rwOwn, 0, 1⟩, ⟨fun i _ => F.CANRAM_RING0_DIR i, .rwOwn, 0, 1⟩, ⟨fun i _ => F.CANRAM_RING0_CTRL i, .rwOwn, 0, 15⟩, ⟨fun i _ => F.CANRAM_RING0_INST i, .rwOwn, 0, 63⟩, ⟨fun i _ => F.CANRAM_RING0_SLOT i, .rwOwn, 0, 12⟩, ⟨fun i _ => F.CANRAM_RING0_COUNT i, .rwOwn, 0, 65535⟩]⟩,
  -- CANRAM_RING1
  ⟨0x40c40004, 0, 128, 32, 1, 0, .any, [⟨fun i _ => F.CANRAM_RING1_RETRY i, .rwOwn, 0, 255⟩, ⟨fun i _ => F.CANRAM_RING1_IRQ_EN i, .rwOwn, 0, 1⟩, ⟨fun i _ => F.CANRAM_RING1_BASE i, .rwOwn, 0, 1048575⟩]⟩,
  -- CANRAM_RING2
  ⟨0x40c40008, 0, 128, 32, 1, 0, .any, [⟨fun i _ => F.CANRAM_RING2_PUT i, .rwOwn, 0, 65535⟩, ⟨fun i _ => F.CANRAM_RING2_GET_RECLAIM i, .rwOwn, 0, 65535⟩]⟩,
  -- CANRAM_RING3
  ⟨0x40c4000c, 0, 128, 32, 1, 0, .any, [⟨fun i _ => F.CANRAM_RING3_DONE i, .ro, 0, 65535⟩, ⟨fun i _ => F.CANRAM_RING3_STATUS i, .ro, 0, 255⟩]⟩,
  -- CANRAM_RING4
  ⟨0x40c40010, 0, 128, 32, 1, 0, .any, [⟨fun i _ => F.CANRAM_RING4_DROPPED_CANCELLED i, .ro, 0, 4294967295⟩]⟩]

/-- The register blocks at 0x40E0_xxxx, part 0. -/
def regBlocks40E_0 : List RegBlock := [
  -- HALL_CTL
  ⟨0x40e00000, 0, 1, 0, 1, 0, .any, [⟨fun _ _ => F.HALL_CTL_FWD_EN, .rw, 0, 1⟩, ⟨fun _ _ => ⟨0x40E00000, 30, 1, 0⟩, .wo, 0, 1⟩, ⟨fun _ _ => F.HALL_CTL_AGE_S, .rw, 10, 4095⟩]⟩,
  -- HALL_BUF_FREE
  ⟨0x40e00004, 0, 1, 0, 1, 0, .any, [⟨fun _ _ => ⟨0x40E00004, 0, 17, 0⟩, .live, 0, 131071⟩]⟩,
  -- HALL_BUF_MIN
  ⟨0x40e00008, 0, 1, 0, 1, 0, .any, [⟨fun _ _ => F.HALL_BUF_MIN_MIN, .ro, 0, 131071⟩]⟩,
  -- HALL_BUF_CFG
  ⟨0x40e0000c, 0, 1, 0, 1, 0, .any, [⟨fun _ _ => F.HALL_BUF_CFG_INT_XOFF, .rw, 0, 2047⟩, ⟨fun _ _ => F.HALL_BUF_CFG_INT_XON, .rw, 0, 2047⟩]⟩,
  -- HALL_INT_HOLD
  ⟨0x40e00010, 0, 1, 0, 1, 0, .any, [⟨fun _ _ => F.HALL_INT_HOLD_HELD, .ro, 0, 255⟩, ⟨fun _ _ => F.HALL_INT_HOLD_INT_HOLD_MASK, .rw, 0, 255⟩]⟩,
  -- HALL_TIE_CNT
  ⟨0x40e00014, 0, 1, 0, 1, 0, .any, [⟨fun _ _ => F.HALL_TIE_CNT_TIES, .ro, 0, 4294967295⟩]⟩,
  -- HALL_DESC_FREE
  ⟨0x40e00018, 0, 1, 0, 1, 0, .any, [⟨fun _ _ => ⟨0x40E00018, 0, 17, 0⟩, .live, 0, 131071⟩]⟩,
  -- HALL_PARTIAL_CNT
  ⟨0x40e0001c, 0, 1, 0, 1, 0, .any, [⟨fun _ _ => F.HALL_PARTIAL_CNT_PARTIAL, .ro, 0, 4294967295⟩]⟩,
  -- HALL_FDB_MAC_LO
  ⟨0x40e00100, 0, 1, 0, 1, 0, .any, [⟨fun _ _ => F.HALL_FDB_MAC_LO_MAC_LO, .rw, 0, 4294967295⟩]⟩,
  -- HALL_FDB_KEY
  ⟨0x40e00104, 0, 1, 0, 1, 0, .any, [⟨fun _ _ => F.HALL_FDB_KEY_VID, .rw, 0, 4095⟩, ⟨fun _ _ => F.HALL_FDB_KEY_MAC_HI, .rw, 0, 65535⟩]⟩,
  -- HALL_FDB_DATA
  ⟨0x40e00108, 0, 1, 0, 1, 0, .any, [⟨fun _ _ => F.HALL_FDB_DATA_STATIC, .rw, 0, 1⟩, ⟨fun _ _ => F.HALL_FDB_DATA_PORT_MASK, .rw, 0, 16777215⟩]⟩,
  -- HALL_FDB_CMD
  ⟨0x40e0010c, 0, 1, 0, 1, 0, .any, [⟨fun _ _ => ⟨0x40E0010C, 30, 2, 0⟩, .wo, 0, 3⟩, ⟨fun _ _ => F.HALL_FDB_CMD_BUSY, .ro, 0, 1⟩, ⟨fun _ _ => F.HALL_FDB_CMD_RESULT, .ro, 0, 31⟩]⟩,
  -- HALL_PORT_CFG
  ⟨0x40e10000, 0, 24, 4096, 1, 0, .any, [⟨fun i _ => F.HALL_PORT_CFG_CUT_EN i, .rw, 0, 1⟩, ⟨fun i _ => F.HALL_PORT_CFG_LEARN_EN i, .rw, 0, 1⟩, ⟨fun i _ => F.HALL_PORT_CFG_FWD_STATE i, .rw, 0, 2⟩, ⟨fun i _ => F.HALL_PORT_CFG_PREEMPT_EN i, .rw, 0, 1⟩, ⟨fun i _ => F.HALL_PORT_CFG_VERIFY_EN i, .rw, 0, 1⟩, ⟨fun i _ => F.HALL_PORT_CFG_ADD_FRAG i, .rw, 0, 3⟩, ⟨fun i _ => F.HALL_PORT_CFG_EXPRESS i, .rw, 0, 255⟩, ⟨fun i _ => F.HALL_PORT_CFG_DEI_REMARK i, .rw, 0, 1⟩, ⟨fun i _ => F.HALL_PORT_CFG_PVID i, .rw, 0, 4095⟩]⟩,
  -- HALL_PORT_STAT
  ⟨0x40e10004, 0, 24, 4096, 1, 0, .any, [⟨fun i _ => F.HALL_PORT_STAT_LINK_STATE i, .ro, 0, 3⟩, ⟨fun i _ => F.HALL_PORT_STAT_PREEMPT_ACTIVE i, .ro, 0, 1⟩, ⟨fun i _ => F.HALL_PORT_STAT_VERIFY i, .ro, 0, 7⟩]⟩,
  -- HALL_PORT_HOLD
  ⟨0x40e10008, 0, 24, 4096, 1, 0, .any, [⟨fun i _ => F.HALL_PORT_HOLD_LINK_HOLD i, .rw, 0, 1000⟩]⟩,
  -- HALL_PORT_PCP
  ⟨0x40e1000c, 0, 24, 4096, 1, 0, .any, [⟨fun i _ => F.HALL_PORT_PCP_MAP i, .rw, 0, 16777215⟩]⟩,
  -- HALL_Q_CFG
  ⟨0x40e10200, 0, 24, 4096, 8, 32, .any, [⟨fun i j => F.HALL_Q_CFG_PROFILE i j, .rw, 0, 15⟩, ⟨fun i j => F.HALL_Q_CFG_MAX_RES i j, .rw, 0, 1000⟩, ⟨fun i j => F.HALL_Q_CFG_Q_LIMIT i j, .rw, 0, 8191⟩]⟩,
  -- HALL_Q_OCC
  ⟨0x40e10204, 0, 24, 4096, 8, 32, .any, [⟨fun i j => ⟨0x40E10204 + i * 4096 + j * 32, 17, 15, 0⟩, .live, 0, 32767⟩, ⟨fun i j => ⟨0x40E10204 + i * 4096 + j * 32, 0, 17, 0⟩, .live, 0, 131071⟩]⟩,
  -- HALL_Q_SHAPE
  ⟨0x40e10208, 0, 24, 4096, 8, 32, .any, [⟨fun i j => F.HALL_Q_SHAPE_SH_EN i j, .rw, 0, 1⟩, ⟨fun i j => F.HALL_Q_SHAPE_RATE i j, .rw, 0, 16383⟩, ⟨fun i j => F.HALL_Q_SHAPE_BURST i j, .rw, 2, 65535⟩]⟩,
  -- HALL_RED
  ⟨0x40e80000, 0, 16, 32, 3, 4, .any, [⟨fun i j => F.HALL_RED_PMAX i j, .rw, 0, 255⟩, ⟨fun i j => F.HALL_RED_MIN i j, .rw, 0, 4095⟩, ⟨fun i j => F.HALL_RED_MAX i j, .rw, 0, 4095⟩]⟩,
  -- HALL_MTR0
  ⟨0x40e90000, 0, 512, 16, 1, 0, .any, [⟨fun i _ => F.HALL_MTR0_EN i, .rw, 0, 1⟩, ⟨fun i _ => F.HALL_MTR0_COLOUR_AWARE i, .rw, 0, 1⟩, ⟨fun i _ => F.HALL_MTR0_DROP_RED i, .rw, 0, 1⟩, ⟨fun i _ => F.HALL_MTR0_CIR i, .rw, 0, 16777215⟩]⟩,
  -- HALL_MTR1
  ⟨0x40e90004, 0, 512, 16, 1, 0, .any, [⟨fun i _ => F.HALL_MTR1_CBS i, .rw, 0, 16777215⟩]⟩,
  -- HALL_MTR2
  ⟨0x40e90008, 0, 512, 16, 1, 0, .any, [⟨fun i _ => F.HALL_MTR2_PIR i, .rw, 0, 16777215⟩]⟩,
  -- HALL_MTR3
  ⟨0x40e9000c, 0, 512, 16, 1, 0, .any, [⟨fun i _ => F.HALL_MTR3_PBS i, .rw, 0, 16777215⟩]⟩]

/-- The register blocks at 0x40E0_xxxx, part 1. -/
def regBlocks40E_1 : List RegBlock := [
  -- HALL_STREAM0
  ⟨0x40ea0000, 0, 1024, 32, 1, 0, .any, [⟨fun i _ => F.HALL_STREAM0_VALID i, .rw, 0, 1⟩, ⟨fun i _ => F.HALL_STREAM0_INGRESS i, .rw, 0, 31⟩, ⟨fun i _ => F.HALL_STREAM0_USE_PCP i, .rw, 0, 1⟩, ⟨fun i _ => F.HALL_STREAM0_PCP i, .rw, 0, 7⟩, ⟨fun i _ => F.HALL_STREAM0_VID i, .rw, 0, 4095⟩]⟩,
  -- HALL_STREAM1
  ⟨0x40ea0004, 0, 1024, 32, 1, 0, .any, [⟨fun i _ => F.HALL_STREAM1_DA_LO i, .rw, 0, 4294967295⟩]⟩,
  -- HALL_STREAM2
  ⟨0x40ea0008, 0, 1024, 32, 1, 0, .any, [⟨fun i _ => F.HALL_STREAM2_DA_HI i, .rw, 0, 65535⟩]⟩,
  -- HALL_STREAM3
  ⟨0x40ea000c, 0, 1024, 32, 1, 0, .any, [⟨fun i _ => F.HALL_STREAM3_METER i, .rw, 0, 1023⟩, ⟨fun i _ => F.HALL_STREAM3_TC_OVR_EN i, .rw, 0, 1⟩, ⟨fun i _ => F.HALL_STREAM3_TC_OVR i, .rw, 0, 7⟩, ⟨fun i _ => F.HALL_STREAM3_ATOMIC i, .rw, 0, 1⟩, ⟨fun i _ => F.HALL_STREAM3_FRER_GEN i, .rw, 0, 1⟩, ⟨fun i _ => F.HALL_STREAM3_FRER_REC i, .rw, 0, 1⟩, ⟨fun i _ => F.HALL_STREAM3_RECOV_RESET i, .rw, 1, 1023⟩, ⟨fun i _ => F.HALL_STREAM3_HIST i, .rw, 0, 31⟩]⟩,
  -- HALL_STREAM4
  ⟨0x40ea0010, 0, 1024, 32, 1, 0, .any, [⟨fun i _ => F.HALL_STREAM4_PARTIAL i, .ro, 0, 4294967295⟩]⟩,
  -- HALL_STREAM5
  ⟨0x40ea0014, 0, 1024, 32, 1, 0, .any, [⟨fun i _ => F.HALL_STREAM5_ATOMIC_DROP i, .ro, 0, 4294967295⟩]⟩,
  -- HALL_STREAM6
  ⟨0x40ea0018, 0, 1024, 32, 1, 0, .any, [⟨fun i _ => F.HALL_STREAM6_FRER_DISC i, .ro, 0, 4294967295⟩]⟩,
  -- HALL_STREAM7
  ⟨0x40ea001c, 0, 1024, 32, 1, 0, .any, [⟨fun i _ => F.HALL_STREAM7_FRAMES i, .ro, 0, 4294967295⟩]⟩,
  -- HALL_MSEC_CFG
  ⟨0x40e18800, 0, 4, 4096, 1, 0, .attic, [⟨fun i _ => F.HALL_MSEC_CFG_EN i, .rw, 0, 1⟩, ⟨fun i _ => F.HALL_MSEC_CFG_SUITE i, .rw, 0, 3⟩, ⟨fun i _ => F.HALL_MSEC_CFG_CONF_OFFSET i, .rw, 0, 3⟩, ⟨fun i _ => F.HALL_MSEC_CFG_TX_AN i, .rw, 0, 3⟩]⟩,
  -- HALL_MSEC_SA0
  ⟨0x40e18840, 0, 4, 4096, 36, 16, .attic, [⟨fun i j => F.HALL_MSEC_SA0_VALID i j, .rw, 0, 1⟩, ⟨fun i j => F.HALL_MSEC_SA0_KEY_SLOT i j, .rw, 0, 63⟩]⟩,
  -- HALL_MSEC_SA1
  ⟨0x40e18844, 0, 4, 4096, 36, 16, .attic, [⟨fun i j => F.HALL_MSEC_SA1_PN i j, .rw, 0, 4294967295⟩]⟩,
  -- HALL_MSEC_SA3
  ⟨0x40e1884c, 0, 4, 4096, 36, 16, .attic, [⟨fun i j => F.HALL_MSEC_SA3_REPLAY_WIN i j, .rw, 0, 4294967295⟩]⟩,
  -- HALL_MSEC_SA2
  ⟨0x40e18848, 0, 4, 4096, 36, 16, .attic, [⟨fun i j => F.HALL_MSEC_SA2_PN i j, .rw, 0, 4294967295⟩]⟩,
  -- HALL_PORT_CNT
  ⟨0x40e10100, 0, 24, 4096, 16, 4, .any, [⟨fun i j => F.HALL_PORT_CNT_COUNT i j, .ro, 0, 4294967295⟩]⟩]

/-- The register blocks at 0x40F0_xxxx, part 0. -/
def regBlocks40F_0 : List RegBlock := [
  -- HALL_VLAN0
  ⟨0x40fc0000, 0, 4096, 8, 1, 0, .any, [⟨fun i _ => F.HALL_VLAN0_MEMBER i, .rw, 0, 16777215⟩]⟩,
  -- HALL_VLAN1
  ⟨0x40fc0004, 0, 4096, 8, 1, 0, .any, [⟨fun i _ => F.HALL_VLAN1_UNTAG i, .rw, 0, 16777215⟩]⟩,
  -- HALL_GCL_CTL
  ⟨0x40f00000, 0, 22, 8192, 1, 0, .any, [⟨fun i _ => F.HALL_GCL_CTL_GATE_EN i, .rw, 0, 1⟩, ⟨fun i _ => ⟨0x40F00000 + i * 8192, 30, 1, 0⟩, .wo, 0, 1⟩, ⟨fun i _ => ⟨0x40F00000 + i * 8192, 29, 1, 0⟩, .live, 0, 1⟩, ⟨fun i _ => F.HALL_GCL_CTL_ADMIN_LEN i, .rw, 1, 256⟩, ⟨fun i _ => F.HALL_GCL_CTL_OPER_LEN i, .ro, 0, 511⟩]⟩,
  -- HALL_GCL_ADMIN_BASE
  ⟨0x40f00008, 0, 22, 8192, 2, 4, .any, [⟨fun i j => F.HALL_GCL_ADMIN_BASE_ADMIN_BASE i j, .rw, 0, 4294967295⟩]⟩,
  -- HALL_GCL_ADMIN_CYCLE
  ⟨0x40f00010, 0, 22, 8192, 1, 0, .any, [⟨fun i _ => F.HALL_GCL_ADMIN_CYCLE_ADMIN_CYCLE i, .rw, 1, 4294967295⟩]⟩,
  -- HALL_GCL_CYCLE_EXT
  ⟨0x40f00014, 0, 22, 8192, 1, 0, .any, [⟨fun i _ => F.HALL_GCL_CYCLE_EXT_CYCLE_EXT i, .rw, 0, 4294967295⟩]⟩,
  -- HALL_GCL_OPER_BASE
  ⟨0x40f00018, 0, 22, 8192, 2, 4, .any, [⟨fun i j => F.HALL_GCL_OPER_BASE_OPER_BASE i j, .ro, 0, 4294967295⟩]⟩,
  -- HALL_GCL_OPER_CYCLE
  ⟨0x40f00020, 0, 22, 8192, 1, 0, .any, [⟨fun i _ => F.HALL_GCL_OPER_CYCLE_OPER_CYCLE i, .ro, 0, 4294967295⟩]⟩,
  -- HALL_GCL_ADM0
  ⟨0x40f01000, 0, 22, 8192, 256, 8, .any, [⟨fun i j => F.HALL_GCL_ADM0_GATES i j, .rw, 0, 255⟩]⟩,
  -- HALL_GCL_ADM1
  ⟨0x40f01004, 0, 22, 8192, 256, 8, .any, [⟨fun i j => F.HALL_GCL_ADM1_INTERVAL i j, .rw, 1, 4294967295⟩]⟩,
  -- HALL_GCL_OPR0
  ⟨0x40f01800, 0, 22, 8192, 256, 8, .any, [⟨fun i j => F.HALL_GCL_OPR0_GATES i j, .ro, 0, 255⟩]⟩,
  -- HALL_GCL_OPR1
  ⟨0x40f01804, 0, 22, 8192, 256, 8, .any, [⟨fun i j => F.HALL_GCL_OPR1_INTERVAL i j, .ro, 0, 4294967295⟩]⟩]

/-- The register blocks at 0x4100_xxxx, part 0. -/
def regBlocks410_0 : List RegBlock := [
  -- TIME_FRC
  ⟨0x41000000, 0, 2, 4, 1, 0, .any, [⟨fun i _ => F.TIME_FRC_FRC i, .ro, 0, 4294967295⟩]⟩,
  -- TIME_T
  ⟨0x41000008, 0, 2, 4, 1, 0, .any, [⟨fun i _ => F.TIME_T_T i, .ro, 0, 4294967295⟩]⟩,
  -- TIME_OFFSET
  ⟨0x41000010, 0, 2, 4, 1, 0, .any, [⟨fun i _ => ⟨0x41000010 + i * 4, 0, 32, 0⟩, .live, 0, 4294967295⟩]⟩,
  -- TIME_RATE
  ⟨0x41000018, 0, 1, 0, 1, 0, .any, [⟨fun _ _ => ⟨0x41000018, 0, 32, 0⟩, .live, 0, 4294967295⟩]⟩,
  -- TIME_REF
  ⟨0x4100001c, 0, 2, 4, 1, 0, .any, [⟨fun i _ => ⟨0x4100001C + i * 4, 0, 32, 0⟩, .live, 0, 4294967295⟩]⟩,
  -- TIME_ADJ_STEP
  ⟨0x41000030, 0, 2, 4, 1, 0, .any, [⟨fun i _ => F.TIME_ADJ_STEP_STEP i, .rw, 0, 4294967295⟩]⟩,
  -- TIME_ADJ_RATE
  ⟨0x41000038, 0, 1, 0, 1, 0, .any, [⟨fun _ _ => F.TIME_ADJ_RATE_ADJ_RATE, .rw, 0, 4294967295⟩]⟩,
  -- TIME_ADJ_CTL
  ⟨0x4100003c, 0, 1, 0, 1, 0, .any, [⟨fun _ _ => ⟨0x4100003C, 31, 1, 0⟩, .wo, 0, 1⟩, ⟨fun _ _ => F.TIME_ADJ_CTL_ADJ_REFUSED, .w1c, 0, 1⟩]⟩,
  -- TIME_CFG
  ⟨0x41000040, 0, 1, 0, 1, 0, .any, [⟨fun _ _ => F.TIME_CFG_SRC, .rwOwn, 0, 2⟩, ⟨fun _ _ => F.TIME_CFG_STEP_EN, .rwOwn, 0, 1⟩, ⟨fun _ _ => F.TIME_CFG_GM_VALID, .rwOwn, 0, 1⟩]⟩,
  -- TIME_SERVO_GAIN
  ⟨0x41000044, 0, 1, 0, 1, 0, .any, [⟨fun _ _ => F.TIME_SERVO_GAIN_KP, .rw, 0, 65535⟩, ⟨fun _ _ => F.TIME_SERVO_GAIN_KI, .rw, 0, 65535⟩]⟩,
  -- TIME_SERVO_LIM
  ⟨0x41000048, 0, 1, 0, 1, 0, .any, [⟨fun _ _ => F.TIME_SERVO_LIM_RATE_MAX, .rw, 1, 500⟩, ⟨fun _ _ => F.TIME_SERVO_LIM_LOCK_CNT, .rw, 1, 127⟩, ⟨fun _ _ => F.TIME_SERVO_LIM_LOCK_THRESH, .rw, 1, 65535⟩]⟩,
  -- TIME_SERVO_TMO
  ⟨0x4100004c, 0, 1, 0, 1, 0, .any, [⟨fun _ _ => F.TIME_SERVO_TMO_HOLDOVER_MAX, .rw, 1, 65535⟩, ⟨fun _ _ => F.TIME_SERVO_TMO_HOLDOVER_TMO, .rw, 10, 65535⟩]⟩,
  -- TIME_STEP_THRESH
  ⟨0x41000050, 0, 1, 0, 1, 0, .any, [⟨fun _ _ => F.TIME_STEP_THRESH_STEP_THRESH, .rw, 1, 4294967295⟩]⟩,
  -- TIME_SERVO_IN
  ⟨0x41000054, 0, 1, 0, 1, 0, .any, [⟨fun _ _ => ⟨0x41000054, 0, 32, 0⟩, .wo, 0, 4294967295⟩]⟩,
  -- TIME_STAT
  ⟨0x41000058, 0, 1, 0, 1, 0, .any, [⟨fun _ _ => ⟨0x41000058, 29, 3, 0⟩, .live, 0, 7⟩, ⟨fun _ _ => ⟨0x41000058, 28, 1, 0⟩, .live, 0, 1⟩, ⟨fun _ _ => F.TIME_STAT_EPOCH_VALID, .ro, 0, 1⟩, ⟨fun _ _ => ⟨0x41000058, 26, 1, 0⟩, .live, 0, 1⟩, ⟨fun _ _ => F.TIME_STAT_LOCK_RUN, .ro, 0, 127⟩]⟩,
  -- TIME_LAST_O
  ⟨0x4100005c, 0, 1, 0, 1, 0, .any, [⟨fun _ _ => F.TIME_LAST_O_O, .ro, 0, 4294967295⟩]⟩,
  -- TIME_CNT
  ⟨0x41000060, 0, 1, 0, 1, 0, .any, [⟨fun _ _ => F.TIME_CNT_STEPS, .ro, 0, 65535⟩, ⟨fun _ _ => F.TIME_CNT_IN_REFUSED, .ro, 0, 65535⟩]⟩,
  -- TIME_CONV_IN
  ⟨0x41000070, 0, 2, 4, 1, 0, .any, [⟨fun i _ => F.TIME_CONV_IN_FRC i, .rw, 0, 4294967295⟩]⟩,
  -- TIME_CONV_OUT
  ⟨0x41000078, 0, 2, 4, 1, 0, .any, [⟨fun i _ => F.TIME_CONV_OUT_T i, .ro, 0, 4294967295⟩]⟩,
  -- TIME_CONV_STAT
  ⟨0x41000080, 0, 1, 0, 1, 0, .any, [⟨fun _ _ => F.TIME_CONV_STAT_VALID, .ro, 0, 1⟩]⟩,
  -- TIME_PPS_OUT
  ⟨0x41000090, 0, 1, 0, 1, 0, .any, [⟨fun _ _ => F.TIME_PPS_OUT_EN, .rw, 0, 1⟩, ⟨fun _ _ => F.TIME_PPS_OUT_PPS_WIDTH, .rw, 1, 1000⟩, ⟨fun _ _ => F.TIME_PPS_OUT_PPS_PERIOD, .rw, 1, 1000⟩]⟩,
  -- TIME_PPS_PHASE
  ⟨0x41000094, 0, 1, 0, 1, 0, .any, [⟨fun _ _ => F.TIME_PPS_PHASE_PPS_PHASE, .rw, 0, 4294967295⟩]⟩,
  -- TIME_PPS_IN
  ⟨0x41000098, 0, 1, 0, 1, 0, .any, [⟨fun _ _ => F.TIME_PPS_IN_EN, .rw, 0, 1⟩, ⟨fun _ _ => F.TIME_PPS_IN_NEW, .w1c, 0, 1⟩]⟩,
  -- TIME_PPS_IN_TS
  ⟨0x4100009c, 0, 2, 4, 1, 0, .any, [⟨fun i _ => F.TIME_PPS_IN_TS_FRC i, .ro, 0, 4294967295⟩]⟩]

/-- The register blocks at 0x4100_xxxx, part 1. -/
def regBlocks410_1 : List RegBlock := [
  -- TIME_PORT_CFG
  ⟨0x41000100, 8, 24, 16, 1, 0, .any, [⟨fun i _ => F.TIME_PORT_CFG_PTP_MODE i, .rw, 0, 2⟩, ⟨fun i _ => F.TIME_PORT_CFG_ONESTEP_EN i, .rw, 0, 1⟩, ⟨fun i _ => F.TIME_PORT_CFG_TRAP_COPY i, .rw, 0, 1⟩, ⟨fun i _ => F.TIME_PORT_CFG_RX_LAT i, .rw, 0, 4095⟩, ⟨fun i _ => F.TIME_PORT_CFG_TX_LAT i, .rw, 0, 4095⟩]⟩,
  -- TIME_TXTS
  ⟨0x41000104, 8, 24, 16, 1, 0, .any, [⟨fun i _ => ⟨0x41000104 + i * 16, 31, 1, 0⟩, .rs, 0, 1⟩, ⟨fun i _ => ⟨0x41000104 + i * 16, 28, 3, 0⟩, .rs, 0, 7⟩, ⟨fun i _ => ⟨0x41000104 + i * 16, 24, 4, 0⟩, .rs, 0, 15⟩, ⟨fun i _ => ⟨0x41000104 + i * 16, 16, 8, 0⟩, .rs, 0, 255⟩, ⟨fun i _ => ⟨0x41000104 + i * 16, 0, 16, 0⟩, .rs, 0, 65535⟩]⟩,
  -- TIME_TXTS_T
  ⟨0x41000108, 8, 24, 16, 2, 4, .any, [⟨fun i j => F.TIME_TXTS_T_T i j, .ro, 0, 4294967295⟩]⟩,
  -- NETMGT_STAT
  ⟨0x41080000, 0, 1, 0, 1, 0, .any, [⟨fun _ _ => ⟨0x41080000, 29, 3, 0⟩, .live, 0, 7⟩, ⟨fun _ _ => ⟨0x41080000, 28, 1, 0⟩, .live, 0, 1⟩, ⟨fun _ _ => ⟨0x41080000, 27, 1, 0⟩, .live, 0, 1⟩, ⟨fun _ _ => ⟨0x41080000, 26, 1, 0⟩, .live, 0, 1⟩, ⟨fun _ _ => F.NETMGT_STAT_PREPARE_EVT, .w1c, 0, 1⟩, ⟨fun _ _ => F.NETMGT_STAT_CANCEL_EVT, .w1c, 0, 1⟩, ⟨fun _ _ => F.NETMGT_STAT_SELF_QUAR, .ro, 0, 1⟩, ⟨fun _ _ => ⟨0x41080000, 0, 10, 0⟩, .live, 0, 1023⟩]⟩,
  -- NETMGT_CFG
  ⟨0x41080004, 0, 1, 0, 1, 0, .any, [⟨fun _ _ => F.NETMGT_CFG_NM_EN, .su, 0, 1⟩, ⟨fun _ _ => F.NETMGT_CFG_SLEEP_KIND, .su, 0, 1⟩, ⟨fun _ _ => F.NETMGT_CFG_READY_SLEEP, .su, 200, 10000⟩, ⟨fun _ _ => F.NETMGT_CFG_MAX_AWAKE, .su, 1, 1440⟩]⟩,
  -- NETMGT_CFG2
  ⟨0x41080008, 0, 1, 0, 1, 0, .any, [⟨fun _ _ => F.NETMGT_CFG2_WARM_MAX, .su, 0, 255⟩, ⟨fun _ _ => F.NETMGT_CFG2_RING_HOLD, .su, 5, 255⟩, ⟨fun _ _ => F.NETMGT_CFG2_RING_TMO, .su, 10, 255⟩]⟩,
  -- NETMGT_NEED
  ⟨0x41080010, 0, 1, 0, 1, 0, .any, [⟨fun _ _ => ⟨0x41080010, 31, 1, 0⟩, .live, 0, 1⟩, ⟨fun _ _ => ⟨0x41080010, 30, 1, 0⟩, .live, 0, 1⟩, ⟨fun _ _ => ⟨0x41080010, 29, 1, 0⟩, .live, 0, 1⟩]⟩,
  -- NETMGT_NEED_SUM
  ⟨0x41080014, 0, 2, 4, 1, 0, .any, [⟨fun i _ => F.NETMGT_NEED_SUM_NEED i, .ro, 0, 4294967295⟩]⟩,
  -- NETMGT_JUST
  ⟨0x41080024, 0, 2, 4, 1, 0, .any, [⟨fun i _ => F.NETMGT_JUST_JUST i, .rwOwn, 0, 4294967295⟩]⟩,
  -- NETMGT_SRC
  ⟨0x4108001c, 0, 1, 0, 1, 0, .any, [⟨fun _ _ => ⟨0x4108001C, 31, 1, 0⟩, .live, 0, 1⟩, ⟨fun _ _ => ⟨0x4108001C, 30, 1, 0⟩, .live, 0, 1⟩, ⟨fun _ _ => ⟨0x4108001C, 29, 1, 0⟩, .live, 0, 1⟩, ⟨fun _ _ => ⟨0x4108001C, 25, 4, 0⟩, .live, 0, 15⟩]⟩,
  -- NETMGT_KA
  ⟨0x41080020, 0, 1, 0, 1, 0, .any, [⟨fun _ _ => F.NETMGT_KA_CAN_BASE, .su, 0, 8191⟩, ⟨fun _ _ => F.NETMGT_KA_NM_VID, .su, 0, 4095⟩]⟩,
  -- NETMGT_WAKE_CAUSE
  ⟨0x41080030, 0, 1, 0, 1, 0, .any, [⟨fun _ _ => F.NETMGT_WAKE_CAUSE_CAUSE, .ro, 0, 15⟩, ⟨fun _ _ => F.NETMGT_WAKE_CAUSE_SOURCE, .ro, 0, 15⟩, ⟨fun _ _ => F.NETMGT_WAKE_CAUSE_DEEP_FROM_WARM, .ro, 0, 1⟩]⟩,
  -- NETMGT_WAKE_T
  ⟨0x41080034, 0, 2, 4, 1, 0, .any, [⟨fun i _ => F.NETMGT_WAKE_T_T i, .ro, 0, 4294967295⟩]⟩,
  -- NETMGT_WAKE_AT
  ⟨0x4108003c, 0, 2, 4, 1, 0, .any, [⟨fun i _ => F.NETMGT_WAKE_AT_WAKE_AT i, .rw, 0, 4294967295⟩]⟩,
  -- NETMGT_ARM
  ⟨0x41080044, 0, 1, 0, 1, 0, .any, [⟨fun _ _ => F.NETMGT_ARM_W_ARM, .rw, 0, 15⟩, ⟨fun _ _ => F.NETMGT_ARM_ETH_ARM, .rw, 0, 63⟩, ⟨fun _ _ => F.NETMGT_ARM_CAN_ARM, .rw, 0, 15⟩]⟩,
  -- NETMGT_FWD
  ⟨0x41080048, 0, 1, 0, 1, 0, .any, [⟨fun _ _ => F.NETMGT_FWD_ETH_FWD, .su, 0, 1023⟩, ⟨fun _ _ => F.NETMGT_FWD_ETH_ARM_F, .rw, 0, 15⟩, ⟨fun _ _ => F.NETMGT_FWD_CAN_FWD, .su, 0, 4095⟩]⟩,
  -- NETMGT_WIN_CFG
  ⟨0x41080050, 0, 4, 4, 1, 0, .any, [⟨fun i _ => F.NETMGT_WIN_CFG_LEVEL i, .su, 0, 1⟩, ⟨fun i _ => F.NETMGT_WIN_CFG_POL i, .su, 0, 1⟩, ⟨fun i _ => F.NETMGT_WIN_CFG_DEB i, .su, 0, 255⟩, ⟨fun i _ => F.NETMGT_WIN_CFG_STATE i, .su, 0, 1⟩]⟩,
  -- NETMGT_CNT
  ⟨0x41080060, 0, 2, 4, 1, 0, .any, [⟨fun i _ => F.NETMGT_CNT_CANCELS_QUARANTINED i, .ro, 0, 65535⟩, ⟨fun i _ => F.NETMGT_CNT_LATCHED_NODE_OVF i, .ro, 0, 65535⟩]⟩,
  -- NETMGT_WSLOT
  ⟨0x41080068, 0, 1, 0, 1, 0, .any, [⟨fun _ _ => F.NETMGT_WSLOT_ACTIVE, .ro, 0, 1⟩, ⟨fun _ _ => F.NETMGT_WSLOT_SLOT_MS, .ro, 0, 63⟩]⟩,
  -- NETMGT_SEG0
  ⟨0x41080100, 0, 13, 16, 1, 0, .any, [⟨fun i _ => F.NETMGT_SEG0_EN i, .su, 0, 1⟩, ⟨fun i _ => F.NETMGT_SEG0_MODE i, .su, 0, 1⟩, ⟨fun i _ => F.NETMGT_SEG0_MEMBERS i, .su, 0, 32⟩, ⟨fun i _ => F.NETMGT_SEG0_KA_RING i, .su, 0, 127⟩]⟩,
  -- NETMGT_SEG1
  ⟨0x41080104, 0, 13, 16, 1, 0, .any, [⟨fun i _ => F.NETMGT_SEG1_READY i, .ro, 0, 1⟩, ⟨fun i _ => F.NETMGT_SEG1_MISCONFIG i, .ro, 0, 1⟩, ⟨fun i _ => F.NETMGT_SEG1_PRESENT i, .ro, 0, 63⟩, ⟨fun i _ => F.NETMGT_SEG1_RUN i, .ro, 0, 255⟩, ⟨fun i _ => F.NETMGT_SEG1_TOKEN_LOST i, .ro, 0, 65535⟩]⟩,
  -- NETMGT_SEG2
  ⟨0x41080108, 0, 13, 16, 1, 0, .any, [⟨fun i _ => F.NETMGT_SEG2_KA_SEEN i, .ro, 0, 4294967295⟩]⟩,
  -- NETMGT_RING
  ⟨0x41081000, 0, 13, 128, 32, 4, .any, [⟨fun i j => F.NETMGT_RING_PRESENT i j, .su, 0, 1⟩, ⟨fun i j => F.NETMGT_RING_NODE i j, .su, 0, 65535⟩]⟩,
  -- NETMGT_NODE0
  ⟨0x41082000, 0, 256, 8, 1, 0, .any, [⟨fun i _ => F.NETMGT_NODE0_VALID i, .ro, 0, 1⟩, ⟨fun i _ => F.NETMGT_NODE0_QUAR i, .ro, 0, 1⟩, ⟨fun i _ => F.NETMGT_NODE0_JUST i, .ro, 0, 1⟩, ⟨fun i _ => F.NETMGT_NODE0_SEG i, .ro, 0, 15⟩, ⟨fun i _ => F.NETMGT_NODE0_NODE i, .ro, 0, 65535⟩]⟩]

/-- The register blocks at 0x4100_xxxx, part 2. -/
def regBlocks410_2 : List RegBlock := [
  -- NETMGT_NODE1
  ⟨0x41082004, 0, 256, 8, 1, 0, .any, [⟨fun i _ => ⟨0x41082004 + i * 8, 0, 32, 0⟩, .live, 0, 4294967295⟩]⟩,
  -- NETMGT_PORCH0
  ⟨0x41080200, 0, 4, 32, 1, 0, .any, [⟨fun i _ => F.NETMGT_PORCH0_MODE i, .su, 0, 1⟩, ⟨fun i _ => F.NETMGT_PORCH0_XTD i, .su, 0, 1⟩, ⟨fun i _ => F.NETMGT_PORCH0_RATE i, .su, 0, 3⟩, ⟨fun i _ => F.NETMGT_PORCH0_FEC_WAKE i, .su, 0, 1⟩, ⟨fun i _ => F.NETMGT_PORCH0_DLC i, .su, 0, 15⟩]⟩,
  -- NETMGT_PORCH1
  ⟨0x41080204, 0, 4, 32, 1, 0, .any, [⟨fun i _ => F.NETMGT_PORCH1_ID i, .su, 0, 536870911⟩]⟩,
  -- NETMGT_PORCH2
  ⟨0x41080208, 0, 4, 32, 1, 0, .any, [⟨fun i _ => F.NETMGT_PORCH2_ID_MASK i, .su, 0, 536870911⟩]⟩,
  -- NETMGT_PORCH_DATA
  ⟨0x4108020c, 0, 4, 32, 2, 4, .any, [⟨fun i j => F.NETMGT_PORCH_DATA_DATA i j, .su, 0, 4294967295⟩]⟩,
  -- NETMGT_PORCH_DMASK
  ⟨0x41080214, 0, 4, 32, 2, 4, .any, [⟨fun i j => F.NETMGT_PORCH_DMASK_DMASK i j, .su, 0, 4294967295⟩]⟩]

/-- The register blocks at 0x4110_xxxx, part 0. -/
def regBlocks411_0 : List RegBlock := [
  -- VIM_CFG
  ⟨0x41100000, 0, 1, 0, 1, 0, .attic, [⟨fun _ _ => F.VIM_CFG_SUP_INST, .rw, 0, 63⟩, ⟨fun _ _ => F.VIM_CFG_FREEZE_TMO, .rw, 1, 1000⟩]⟩,
  -- VIM_STAT
  ⟨0x41100004, 0, 1, 0, 1, 0, .any, [⟨fun _ _ => F.VIM_STAT_MAP_DUP, .w1c, 0, 1⟩, ⟨fun _ _ => F.VIM_STAT_SHARE_REFUSED, .w1c, 0, 1⟩, ⟨fun _ _ => ⟨0x41100004, 0, 10, 0⟩, .live, 0, 1023⟩]⟩,
  -- VIM_TIE_CNT
  ⟨0x41100008, 0, 1, 0, 1, 0, .any, [⟨fun _ _ => F.VIM_TIE_CNT_TIES, .ro, 0, 4294967295⟩]⟩,
  -- VIM_CNT
  ⟨0x4110000c, 0, 1, 0, 1, 0, .any, [⟨fun _ _ => F.VIM_CNT_DENIED, .ro, 0, 65535⟩, ⟨fun _ _ => F.VIM_CNT_MAP_MISS, .ro, 0, 65535⟩]⟩,
  -- VIM_HART_PID
  ⟨0x41100040, 0, 8, 4, 1, 0, .any, [⟨fun i _ => F.VIM_HART_PID_MAPPED i, .ro, 0, 1⟩, ⟨fun i _ => F.VIM_HART_PID_INST i, .ro, 0, 63⟩, ⟨fun i _ => F.VIM_HART_PID_PID i, .rwOwn, 0, 1048575⟩]⟩,
  -- VIM_MIG_CTL
  ⟨0x41100100, 0, 1, 0, 1, 0, .attic, [⟨fun _ _ => ⟨0x41100100, 28, 4, 0⟩, .wo, 0, 15⟩, ⟨fun _ _ => F.VIM_MIG_CTL_INST, .rw, 0, 63⟩, ⟨fun _ _ => F.VIM_MIG_CTL_KEY_SLOT, .rw, 0, 63⟩]⟩,
  -- VIM_MIG_STAT
  ⟨0x41100104, 0, 1, 0, 1, 0, .attic, [⟨fun _ _ => F.VIM_MIG_STAT_BUSY, .ro, 0, 1⟩, ⟨fun _ _ => F.VIM_MIG_STAT_RESULT, .ro, 0, 255⟩]⟩,
  -- VIM_MIG_ADDR
  ⟨0x41100108, 0, 2, 4, 1, 0, .attic, [⟨fun i _ => F.VIM_MIG_ADDR_ADDR i, .rw, 0, 4294967295⟩]⟩,
  -- VIM_MIG_LEN
  ⟨0x41100110, 0, 1, 0, 1, 0, .attic, [⟨fun _ _ => F.VIM_MIG_LEN_MIG_LEN, .rw, 0, 4294967295⟩]⟩,
  -- VIM_MIG_USED
  ⟨0x41100114, 0, 1, 0, 1, 0, .attic, [⟨fun _ _ => F.VIM_MIG_USED_USED, .ro, 0, 4294967295⟩]⟩,
  -- VIM_INST_CFG
  ⟨0x41101000, 0, 64, 64, 1, 0, .vim, [⟨fun i _ => F.VIM_INST_CFG_VALID i, .rwOwn, 0, 1⟩, ⟨fun i _ => F.VIM_INST_CFG_WORLD i, .rwOwn, 0, 1⟩, ⟨fun i _ => F.VIM_INST_CFG_CPL_HWQ i, .rwOwn, 0, 511⟩, ⟨fun i _ => F.VIM_INST_CFG_WEIGHT i, .rwOwn, 1, 255⟩]⟩,
  -- VIM_INST_CMD
  ⟨0x41101004, 0, 64, 64, 1, 0, .vim, [⟨fun i _ => ⟨0x41101004 + i * 64, 28, 4, 0⟩, .wo, 0, 15⟩]⟩,
  -- VIM_INST_STAT
  ⟨0x41101008, 0, 64, 64, 1, 0, .vim, [⟨fun i _ => ⟨0x41101008 + i * 64, 29, 3, 0⟩, .live, 0, 7⟩, ⟨fun i _ => F.VIM_INST_STAT_OVERSHARE i, .ro, 0, 1⟩, ⟨fun i _ => F.VIM_INST_STAT_LAST_RESULT i, .ro, 0, 15⟩]⟩,
  -- VIM_INST_QSHARE
  ⟨0x4110100c, 0, 64, 64, 1, 0, .vim, [⟨fun i _ => F.VIM_INST_QSHARE_QSHARE_EFF i, .ro, 0, 1023⟩, ⟨fun i _ => F.VIM_INST_QSHARE_QSHARE i, .rwOwn, 0, 512⟩]⟩,
  -- VIM_INST_OCC
  ⟨0x41101010, 0, 64, 64, 1, 0, .vim, [⟨fun i _ => ⟨0x41101010 + i * 64, 0, 20, 0⟩, .live, 0, 1048575⟩]⟩,
  -- VIM_INST_FLT
  ⟨0x41101014, 0, 64, 64, 1, 0, .vim, [⟨fun i _ => F.VIM_INST_FLT_FLT_BASE i, .rwOwn, 0, 16383⟩, ⟨fun i _ => F.VIM_INST_FLT_FLT_CNT i, .rwOwn, 0, 16384⟩]⟩,
  -- VIM_INST_CIR
  ⟨0x41101018, 0, 64, 64, 1, 0, .vim, [⟨fun i _ => F.VIM_INST_CIR_LIM_EN i, .rw, 0, 1⟩, ⟨fun i _ => F.VIM_INST_CIR_CIR i, .rw, 0, 204800⟩]⟩,
  -- VIM_INST_PIR
  ⟨0x4110101c, 0, 64, 64, 1, 0, .vim, [⟨fun i _ => F.VIM_INST_PIR_PIR i, .rw, 0, 262143⟩]⟩,
  -- VIM_INST_BURST
  ⟨0x41101020, 0, 64, 64, 1, 0, .vim, [⟨fun i _ => F.VIM_INST_BURST_CBS i, .rw, 4, 65535⟩, ⟨fun i _ => F.VIM_INST_BURST_PBS i, .rw, 4, 65535⟩]⟩,
  -- VIM_INST_CNT
  ⟨0x41101024, 0, 64, 64, 1, 0, .vim, [⟨fun i _ => F.VIM_INST_CNT_OVERSHARE_REF i, .ro, 0, 65535⟩, ⟨fun i _ => F.VIM_INST_CNT_FLT_DENIED i, .ro, 0, 65535⟩]⟩,
  -- VIM_INST_CNT2
  ⟨0x41101028, 0, 64, 64, 1, 0, .vim, [⟨fun i _ => F.VIM_INST_CNT2_FROZEN_DROP i, .ro, 0, 65535⟩, ⟨fun i _ => F.VIM_INST_CNT2_CPL_LOST i, .ro, 0, 65535⟩]⟩,
  -- VIM_INST_RESET_PEND
  ⟨0x4110102c, 0, 64, 64, 1, 0, .vim, [⟨fun i _ => F.VIM_INST_RESET_PEND_PEND i, .ro, 0, 1048575⟩]⟩,
  -- VIM_INST_RESET_CNT
  ⟨0x41101030, 0, 64, 64, 1, 0, .vim, [⟨fun i _ => F.VIM_INST_RESET_CNT_CANCELLED i, .ro, 0, 65535⟩, ⟨fun i _ => F.VIM_INST_RESET_CNT_LAST_US i, .ro, 0, 65535⟩]⟩,
  -- VIM_MAP
  ⟨0x41110000, 0, 4096, 4, 1, 0, .any, [⟨fun i _ => F.VIM_MAP_VALID i, .rwOwn, 0, 1⟩, ⟨fun i _ => F.VIM_MAP_INST i, .rwOwn, 0, 63⟩, ⟨fun i _ => F.VIM_MAP_PID i, .rwOwn, 0, 1048575⟩]⟩]

/-- The register blocks at 0x4110_xxxx, part 1. -/
def regBlocks411_1 : List RegBlock := [
  -- VIM_HWQ_CFG
  ⟨0x41120000, 0, 512, 16, 1, 0, .any, [⟨fun i _ => F.VIM_HWQ_CFG_VALID i, .rwOwn, 0, 1⟩, ⟨fun i _ => F.VIM_HWQ_CFG_END i, .rwOwn, 0, 1⟩, ⟨fun i _ => F.VIM_HWQ_CFG_OWNER i, .rwOwn, 0, 63⟩, ⟨fun i _ => F.VIM_HWQ_CFG_CAP i, .rwOwn, 2, 16383⟩]⟩,
  -- VIM_HWQ_STAT
  ⟨0x41120004, 0, 512, 16, 1, 0, .any, [⟨fun i _ => F.VIM_HWQ_STAT_LAST_RES i, .ro, 0, 255⟩, ⟨fun i _ => ⟨0x41120004 + i * 16, 0, 14, 0⟩, .live, 0, 16383⟩]⟩,
  -- VIM_HWQ_PUSH
  ⟨0x41120008, 0, 512, 16, 1, 0, .any, [⟨fun i _ => ⟨0x41120008 + i * 16, 0, 32, 0⟩, .wo, 0, 4294967295⟩]⟩,
  -- VIM_HWQ_POP
  ⟨0x4112000c, 0, 512, 16, 1, 0, .any, [⟨fun i _ => ⟨0x4112000C + i * 16, 0, 32, 0⟩, .rs, 0, 4294967295⟩]⟩]

/-- The register blocks at 0x4120_xxxx, part 0. -/
def regBlocks412_0 : List RegBlock := [
  -- WORLD_STAT
  ⟨0x41200000, 0, 1, 0, 1, 0, .any, [⟨fun _ _ => F.WORLD_STAT_ROOT, .ro, 0, 3⟩, ⟨fun _ _ => F.WORLD_STAT_DEBUG, .ro, 0, 1⟩, ⟨fun _ _ => F.WORLD_STAT_L2_BUSY, .ro, 0, 1⟩, ⟨fun _ _ => F.WORLD_STAT_ATTIC_WAYS, .ro, 0, 15⟩]⟩,
  -- WORLD_L2_PART
  ⟨0x41200004, 0, 1, 0, 1, 0, .any, [⟨fun _ _ => F.WORLD_L2_PART_ATTIC_WAYS, .rwOwn, 2, 8⟩]⟩,
  -- WORLD_CLAIM
  ⟨0x41200008, 0, 1, 0, 1, 0, .any, [⟨fun _ _ => F.WORLD_CLAIM_CLAIM, .rwOwn, 0, 131071⟩]⟩,
  -- WORLD_VIOL
  ⟨0x41200010, 0, 1, 0, 1, 0, .any, [⟨fun _ _ => ⟨0x41200010, 31, 1, 0⟩, .rs, 0, 1⟩, ⟨fun _ _ => ⟨0x41200010, 23, 8, 0⟩, .rs, 0, 255⟩, ⟨fun _ _ => ⟨0x41200010, 22, 1, 0⟩, .rs, 0, 1⟩, ⟨fun _ _ => ⟨0x41200010, 20, 2, 0⟩, .rs, 0, 3⟩, ⟨fun _ _ => ⟨0x41200010, 14, 6, 0⟩, .rs, 0, 63⟩, ⟨fun _ _ => ⟨0x41200010, 12, 2, 0⟩, .rs, 0, 3⟩, ⟨fun _ _ => ⟨0x41200010, 11, 1, 0⟩, .rs, 0, 1⟩]⟩,
  -- WORLD_VIOL_ADDR_LO
  ⟨0x41200014, 0, 1, 0, 1, 0, .any, [⟨fun _ _ => F.WORLD_VIOL_ADDR_LO_ADDR, .ro, 0, 4294967295⟩]⟩,
  -- WORLD_VIOL_ADDR_HI
  ⟨0x41200018, 0, 1, 0, 1, 0, .any, [⟨fun _ _ => F.WORLD_VIOL_ADDR_HI_ADDR, .ro, 0, 255⟩]⟩,
  -- WORLD_VIOL_CNT
  ⟨0x4120001c, 0, 1, 0, 1, 0, .any, [⟨fun _ _ => F.WORLD_VIOL_CNT_DENIED, .ro, 0, 65535⟩, ⟨fun _ _ => F.WORLD_VIOL_CNT_VETOED, .ro, 0, 255⟩, ⟨fun _ _ => F.WORLD_VIOL_CNT_LOST, .ro, 0, 255⟩]⟩,
  -- WORLD_HART
  ⟨0x41200020, 0, 8, 4, 1, 0, .hart, [⟨fun i _ => F.WORLD_HART_CUR i, .ro, 0, 1⟩, ⟨fun i _ => F.WORLD_HART_NEXT i, .rw, 0, 1⟩, ⟨fun i _ => F.WORLD_HART_SWITCHES i, .ro, 0, 1073741823⟩]⟩,
  -- WORLD_TAMPER_ARM
  ⟨0x41200040, 0, 1, 0, 1, 0, .any, [⟨fun _ _ => F.WORLD_TAMPER_ARM_ARM, .rwOwn, 0, 31⟩]⟩,
  -- WORLD_TAMPER_STAT
  ⟨0x41200044, 0, 1, 0, 1, 0, .any, [⟨fun _ _ => F.WORLD_TAMPER_STAT_LATCH, .ro, 0, 1⟩, ⟨fun _ _ => F.WORLD_TAMPER_STAT_ACTIVE, .ro, 0, 31⟩, ⟨fun _ _ => F.WORLD_TAMPER_STAT_LATCHED, .ro, 0, 31⟩, ⟨fun _ _ => F.WORLD_TAMPER_STAT_WHEN, .ro, 0, 7⟩, ⟨fun _ _ => F.WORLD_TAMPER_STAT_TAMPER_CNT, .ro, 0, 65535⟩]⟩,
  -- WORLD_TAMPER_T
  ⟨0x41200048, 0, 2, 4, 1, 0, .any, [⟨fun i _ => F.WORLD_TAMPER_T_T i, .ro, 0, 4294967295⟩]⟩,
  -- WORLD_RGN0
  ⟨0x41201000, 0, 4, 1024, 32, 16, .any, [⟨fun i j => F.WORLD_RGN0_BASE i j, .rwOwn, 0, 268435455⟩]⟩,
  -- WORLD_RGN1
  ⟨0x41201004, 0, 4, 1024, 32, 16, .any, [⟨fun i j => F.WORLD_RGN1_LIMIT i j, .rwOwn, 0, 268435455⟩]⟩,
  -- WORLD_RGN2
  ⟨0x41201008, 0, 4, 1024, 32, 16, .any, [⟨fun i j => F.WORLD_RGN2_EN i j, .rwOwn, 0, 1⟩, ⟨fun i j => F.WORLD_RGN2_LOCK i j, .rwOwn, 0, 1⟩, ⟨fun i j => F.WORLD_RGN2_A_R i j, .rwOwn, 0, 1⟩, ⟨fun i j => F.WORLD_RGN2_A_W i j, .rwOwn, 0, 1⟩, ⟨fun i j => F.WORLD_RGN2_P_R i j, .rwOwn, 0, 1⟩, ⟨fun i j => F.WORLD_RGN2_P_W i j, .rwOwn, 0, 1⟩, ⟨fun i j => F.WORLD_RGN2_DOM i j, .rwOwn, 0, 7⟩, ⟨fun i j => F.WORLD_RGN2_INST_EN i j, .rwOwn, 0, 1⟩, ⟨fun i j => F.WORLD_RGN2_INST i j, .rwOwn, 0, 63⟩]⟩]

/-- The register blocks at 0x4130_xxxx, part 0. -/
def regBlocks413_0 : List RegBlock := [
  -- PANTRY_CMD
  ⟨0x41300000, 0, 1, 0, 1, 0, .attic0hub, [⟨fun _ _ => ⟨0x41300000, 28, 4, 0⟩, .wo, 0, 15⟩, ⟨fun _ _ => ⟨0x41300000, 16, 6, 0⟩, .wo, 0, 63⟩, ⟨fun _ _ => ⟨0x41300000, 0, 6, 0⟩, .wo, 0, 63⟩]⟩,
  -- PANTRY_STAT
  ⟨0x41300004, 0, 1, 0, 1, 0, .attic0hub, [⟨fun _ _ => ⟨0x41300004, 31, 1, 0⟩, .live, 0, 1⟩, ⟨fun _ _ => ⟨0x41300004, 29, 2, 0⟩, .live, 0, 3⟩, ⟨fun _ _ => ⟨0x41300004, 24, 5, 0⟩, .live, 0, 31⟩, ⟨fun _ _ => F.PANTRY_STAT_RESULT, .ro, 0, 255⟩]⟩,
  -- PANTRY_ATTR
  ⟨0x41300008, 0, 1, 0, 1, 0, .attic0hub, [⟨fun _ _ => F.PANTRY_ATTR_TYPE, .rw, 0, 15⟩, ⟨fun _ _ => F.PANTRY_ATTR_USAGE, .rw, 0, 255⟩, ⟨fun _ _ => F.PANTRY_ATTR_EXPORTABLE, .rw, 0, 1⟩, ⟨fun _ _ => F.PANTRY_ATTR_LOCK, .rw, 0, 1⟩, ⟨fun _ _ => F.PANTRY_ATTR_KEY_LEN, .rw, 0, 127⟩]⟩,
  -- PANTRY_ADDR
  ⟨0x4130000c, 0, 2, 4, 1, 0, .attic0hub, [⟨fun i _ => F.PANTRY_ADDR_ADDR i, .rw, 0, 4294967295⟩]⟩,
  -- PANTRY_CACHE
  ⟨0x41300014, 0, 1, 0, 1, 0, .attic0hub, [⟨fun _ _ => F.PANTRY_CACHE_HITS, .ro, 0, 65535⟩, ⟨fun _ _ => F.PANTRY_CACHE_MISSES, .ro, 0, 65535⟩]⟩,
  -- PANTRY_DATA
  ⟨0x41300100, 0, 16, 4, 1, 0, .attic0hub, [⟨fun i _ => ⟨0x41300100 + i * 4, 0, 32, 0⟩, .wo, 0, 4294967295⟩]⟩,
  -- PANTRY_SLOT_INFO
  ⟨0x41300400, 0, 64, 4, 1, 0, .attic0hub, [⟨fun i _ => ⟨0x41300400 + i * 4, 30, 2, 0⟩, .live, 0, 3⟩, ⟨fun i _ => ⟨0x41300400 + i * 4, 22, 8, 0⟩, .live, 0, 255⟩, ⟨fun i _ => ⟨0x41300400 + i * 4, 18, 4, 0⟩, .live, 0, 15⟩, ⟨fun i _ => ⟨0x41300400 + i * 4, 10, 8, 0⟩, .live, 0, 255⟩, ⟨fun i _ => ⟨0x41300400 + i * 4, 9, 1, 0⟩, .live, 0, 1⟩, ⟨fun i _ => ⟨0x41300400 + i * 4, 8, 1, 0⟩, .live, 0, 1⟩, ⟨fun i _ => ⟨0x41300400 + i * 4, 7, 1, 0⟩, .live, 0, 1⟩, ⟨fun i _ => ⟨0x41300400 + i * 4, 6, 1, 0⟩, .live, 0, 1⟩]⟩,
  -- PANTRY_GEN_A
  ⟨0x41300600, 0, 64, 8, 1, 0, .attic0hub, [⟨fun i _ => ⟨0x41300600 + i * 8, 0, 32, 0⟩, .live, 0, 4294967295⟩]⟩,
  -- PANTRY_GEN_B
  ⟨0x41300604, 0, 64, 8, 1, 0, .attic0hub, [⟨fun i _ => ⟨0x41300604 + i * 8, 0, 32, 0⟩, .live, 0, 4294967295⟩]⟩]

/-- The register blocks at 0x4140_xxxx, part 0. -/
def regBlocks414_0 : List RegBlock := [
  -- REC_STAT
  ⟨0x41400000, 0, 1, 0, 1, 0, .any, [⟨fun _ _ => F.REC_STAT_FLUSHING, .ro, 0, 1⟩, ⟨fun _ _ => F.REC_STAT_MOUNTED, .ro, 0, 1⟩, ⟨fun _ _ => ⟨0x41400000, 29, 1, 0⟩, .live, 0, 1⟩, ⟨fun _ _ => F.REC_STAT_BUF_FULL, .ro, 0, 1⟩, ⟨fun _ _ => F.REC_STAT_DIRTY_KB, .ro, 0, 1023⟩]⟩,
  -- REC_CFG
  ⟨0x41400004, 0, 1, 0, 1, 0, .any, [⟨fun _ _ => F.REC_CFG_FLUSH_SEV, .su, 0, 7⟩, ⟨fun _ _ => F.REC_CFG_PARLOUR_MAX, .su, 0, 7⟩, ⟨fun _ _ => F.REC_CFG_REC_KEK_SLOT, .su, 0, 63⟩, ⟨fun _ _ => F.REC_CFG_REC_SIGN_EC_SLOT, .su, 0, 63⟩, ⟨fun _ _ => F.REC_CFG_REC_SIGN_PQ_SLOT, .su, 0, 63⟩]⟩,
  -- REC_CMD
  ⟨0x41400008, 0, 1, 0, 1, 0, .any, [⟨fun _ _ => ⟨0x41400008, 28, 4, 0⟩, .wo, 0, 15⟩]⟩,
  -- REC_SEQ
  ⟨0x4140000c, 0, 2, 4, 1, 0, .any, [⟨fun i _ => F.REC_SEQ_SEQ i, .ro, 0, 4294967295⟩]⟩,
  -- REC_CNT
  ⟨0x41400014, 0, 1, 0, 1, 0, .any, [⟨fun _ _ => F.REC_CNT_DROPPED, .ro, 0, 65535⟩, ⟨fun _ _ => F.REC_CNT_DISPLACED, .ro, 0, 65535⟩]⟩,
  -- REC_CNT2
  ⟨0x41400018, 0, 1, 0, 1, 0, .any, [⟨fun _ _ => F.REC_CNT2_RECLAIMED, .ro, 0, 65535⟩, ⟨fun _ _ => F.REC_CNT2_CHECKPOINTS, .ro, 0, 65535⟩]⟩,
  -- REC_TIE_CNT
  ⟨0x4140001c, 0, 1, 0, 1, 0, .any, [⟨fun _ _ => F.REC_TIE_CNT_TIES, .ro, 0, 4294967295⟩]⟩,
  -- REC_WR_ADDR
  ⟨0x41400020, 0, 2, 4, 1, 0, .any, [⟨fun i _ => ⟨0x41400020 + i * 4, 0, 32, 0⟩, .live, 0, 4294967295⟩]⟩,
  -- REC_WR_CMD
  ⟨0x41400028, 0, 1, 0, 1, 0, .any, [⟨fun _ _ => ⟨0x41400028, 31, 1, 0⟩, .wo, 0, 1⟩, ⟨fun _ _ => ⟨0x41400028, 28, 3, 0⟩, .wo, 0, 7⟩, ⟨fun _ _ => ⟨0x41400028, 20, 8, 0⟩, .wo, 0, 255⟩, ⟨fun _ _ => ⟨0x41400028, 0, 11, 0⟩, .wo, 0, 2047⟩]⟩,
  -- REC_WR_STAT
  ⟨0x4140002c, 0, 1, 0, 1, 0, .any, [⟨fun _ _ => ⟨0x4140002C, 24, 8, 0⟩, .live, 0, 255⟩]⟩,
  -- REC_RD_ADDR
  ⟨0x41400030, 0, 2, 4, 1, 0, .any, [⟨fun i _ => F.REC_RD_ADDR_ADDR i, .rw, 0, 4294967295⟩]⟩,
  -- REC_RD_LEN
  ⟨0x41400038, 0, 1, 0, 1, 0, .any, [⟨fun _ _ => F.REC_RD_LEN_RD_LEN, .rw, 0, 4294967295⟩]⟩,
  -- REC_RD_FROM
  ⟨0x4140003c, 0, 2, 4, 1, 0, .any, [⟨fun i _ => F.REC_RD_FROM_FROM i, .rw, 0, 4294967295⟩]⟩,
  -- REC_RD_FILT
  ⟨0x41400044, 0, 1, 0, 1, 0, .any, [⟨fun _ _ => F.REC_RD_FILT_MIN_SEV, .rw, 0, 7⟩]⟩,
  -- REC_RD_STAT
  ⟨0x41400048, 0, 1, 0, 1, 0, .any, [⟨fun _ _ => F.REC_RD_STAT_BUSY, .ro, 0, 1⟩, ⟨fun _ _ => F.REC_RD_STAT_COUNT, .ro, 0, 1048575⟩]⟩]

/-- The register blocks at 0x4150_xxxx, part 0. -/
def regBlocks415_0 : List RegBlock := [
  -- SETUP_STAT
  ⟨0x41500000, 0, 1, 0, 1, 0, .attic0, [⟨fun _ _ => F.SETUP_STAT_BUSY, .ro, 0, 1⟩, ⟨fun _ _ => F.SETUP_STAT_DONE, .w1c, 0, 1⟩, ⟨fun _ _ => F.SETUP_STAT_SRC, .ro, 0, 3⟩, ⟨fun _ _ => F.SETUP_STAT_RESULT, .ro, 0, 15⟩, ⟨fun _ _ => ⟨0x41500000, 15, 9, 0⟩, .live, 0, 511⟩, ⟨fun _ _ => F.SETUP_STAT_VITAL_REFUSED, .ro, 0, 1⟩, ⟨fun _ _ => F.SETUP_STAT_LOST, .ro, 0, 255⟩]⟩,
  -- SETUP_CMD
  ⟨0x41500004, 0, 1, 0, 1, 0, .attic0, [⟨fun _ _ => ⟨0x41500004, 28, 4, 0⟩, .wo, 0, 15⟩]⟩,
  -- SETUP_ADDR_LO
  ⟨0x41500008, 0, 1, 0, 1, 0, .attic0, [⟨fun _ _ => F.SETUP_ADDR_LO_ADDR, .rw, 0, 4294967295⟩]⟩,
  -- SETUP_ADDR_HI
  ⟨0x4150000c, 0, 1, 0, 1, 0, .attic0, [⟨fun _ _ => F.SETUP_ADDR_HI_ADDR, .rw, 0, 255⟩]⟩,
  -- SETUP_LEN
  ⟨0x41500010, 0, 1, 0, 1, 0, .attic0, [⟨fun _ _ => F.SETUP_LEN_LEN, .rw, 0, 4294967295⟩]⟩,
  -- SETUP_VER
  ⟨0x41500014, 0, 1, 0, 1, 0, .attic0, [⟨fun _ _ => F.SETUP_VER_VERSION_FLOOR, .ro, 0, 4294967295⟩]⟩,
  -- SETUP_FLOOR
  ⟨0x41500018, 0, 1, 0, 1, 0, .attic0, [⟨fun _ _ => F.SETUP_FLOOR_VERSION_FLOOR, .ro, 0, 4294967295⟩]⟩,
  -- SETUP_REPORT
  ⟨0x41500020, 0, 1, 0, 1, 0, .attic0, [⟨fun _ _ => ⟨0x41500020, 31, 1, 0⟩, .rs, 0, 1⟩, ⟨fun _ _ => ⟨0x41500020, 29, 2, 0⟩, .rs, 0, 3⟩, ⟨fun _ _ => ⟨0x41500020, 28, 1, 0⟩, .rs, 0, 1⟩, ⟨fun _ _ => ⟨0x41500020, 23, 5, 0⟩, .rs, 0, 31⟩, ⟨fun _ _ => ⟨0x41500020, 0, 16, 0⟩, .rs, 0, 65535⟩]⟩,
  -- SETUP_REPORT_ADDR
  ⟨0x41500024, 0, 1, 0, 1, 0, .attic0, [⟨fun _ _ => F.SETUP_REPORT_ADDR_ADDR, .ro, 0, 268435455⟩]⟩,
  -- SETUP_REPORT_REQ
  ⟨0x41500028, 0, 1, 0, 1, 0, .attic0, [⟨fun _ _ => F.SETUP_REPORT_REQ_VALUE, .ro, 0, 4294967295⟩]⟩,
  -- SETUP_REPORT_LOADED
  ⟨0x4150002c, 0, 1, 0, 1, 0, .attic0, [⟨fun _ _ => F.SETUP_REPORT_LOADED_VALUE, .ro, 0, 4294967295⟩]⟩,
  -- SETUP_ARM_BLOCK
  ⟨0x41500030, 0, 2, 4, 1, 0, .attic0, [⟨fun i _ => F.SETUP_ARM_BLOCK_BLOCK i, .ro, 0, 4294967295⟩]⟩,
  -- SETUP_HASH
  ⟨0x41500040, 0, 8, 4, 1, 0, .attic0, [⟨fun i _ => F.SETUP_HASH_HASH i, .ro, 0, 4294967295⟩]⟩]

/-- Every register block of the hub (*Table: Hub address map*). -/
def regBlocks : List RegBlock :=
  regBlocks400_0 ++ regBlocks400_1 ++ regBlocks401_0 ++ regBlocks402_0 ++ regBlocks403_0 ++ regBlocks403_1 ++ regBlocks404_0 ++ regBlocks405_0 ++ regBlocks405_1 ++ regBlocks406_0 ++ regBlocks407_0 ++ regBlocks40C_0 ++ regBlocks40E_0 ++ regBlocks40E_1 ++ regBlocks40F_0 ++ regBlocks410_0 ++ regBlocks410_1 ++ regBlocks410_2 ++ regBlocks411_0 ++ regBlocks411_1 ++ regBlocks412_0 ++ regBlocks413_0 ++ regBlocks414_0 ++ regBlocks415_0

end Sys2Proof.Machine
end

