-- ==== Sys2Proof/Machine/State.lean ====
section
/-! DEFINITION. The state of the module as plain data: the queue of waiting commands, the register file, memory, and for
each block the state that its registers do not hold. -/

namespace Sys2Proof.Machine

/-- A table by number, in one canonical form: numbers strictly rising, and no entry equal to the default of its use. -/
abbrev Tbl (α : Type) := List (Nat × α)

/-- The bus response to the last command that is an access (R8, R345): the status code of R434 and the data read. -/
structure Resp where
  status : Nat
  data   : Nat
  deriving DecidableEq, Repr

/-- A record (R405, R406). `body` holds the bytes of a software record's own body (CLASS 0x1F), which has no STATUS,
FLAGS, SUBJ or VAL words; `at` is the FRC instant at which it reached its writer port or was committed. -/
structure Record where
  seq    : Nat
  sev    : Nat
  cls    : Nat
  kind   : Nat
  time   : Nat
  source : Nat
  status : Nat
  flags  : Nat
  subj   : Nat
  vals   : List Nat
  body   : List Nat
  stamp  : Nat
  dirty  : Bool
  deriving DecidableEq, Repr

/-- Why the machine stops with a fault. -/
inductive Fault where
  /-- Raised by a meaning whose command names a unit the module does not have (channel 48, engine 16, port 24 ...).
  Safe: no command from outside can name one, and nothing is claimed of it. -/
  | noSuchUnit
  deriving DecidableEq, Repr

/-- Why a command is refused. -/
inductive Refusal where
  /-- Raised by an arm of `exec` whose row has no meaning yet. Safe: nothing is claimed of it. -/
  | notModelled (mnemonic : String)
  deriving DecidableEq, Repr
/-- The states of a channel (*Table: Channel states*). -/
inductive ChState where | off | queued | starting | on | retryWait | latched
  deriving DecidableEq, Repr

/-- What a channel holds beside its registers. Instants are FRC ns; `inr` and `slew` are the reservations of R58. -/
structure Channel where
  state     : ChState
  heat      : Nat          -- 40-bit accumulator (R48)
  shadow    : Tbl Nat      -- the shadow fuse curve's written words, by point (R49)
  reqTick   : Nat          -- the tick in which the queued request was captured (R60)
  hand      : Bool         -- the request is a handover start (R46)
  late      : Bool         -- its start wait has closed (R61)
  inr       : Nat          -- inrush reserved, A
  slew      : Nat          -- slew reserved, A/ms
  rampEnd   : Nat          -- close of the ramp window
  inrushEnd : Nat          -- close of the inrush window
  tr        : Nat          -- t_r of the last grant, in budget ticks (R57)
  tripAt    : Nat          -- instant of the last trip (R51)
  onAt      : Nat          -- instant of ON entry (R52)
  duty      : Nat          -- duty in force, 1/65,536
  phase     : Option Nat   -- dither phase, in 1/25,000 of its period, from the first 40 µs step (R54)
  target    : Nat          -- the dithered setpoint of the last step, in 1/6,250 mA
  iFast     : Int          -- mean current of the last 10 µs sample, mA (the mirror's I_FAST)
  ilim      : Nat          -- the current limit that the tile enforces, 10 mA (R192)
  fell      : Bool         -- its effective command has fallen since the last budget tick (R44)
  wheel     : Bool         -- its freewheel path returns the load current in each off phase (R466)
  clamp     : Bool         -- when it last stopped conducting, the load's energy went into the clamp (R466)
  deriving DecidableEq, Repr

/-- A channel at reset of the Fusebox control domain. -/
def Channel.init : Channel :=
  ⟨.off, 0, [], 0, false, false, 0, 0, 0, 0, 0, 0, 0, 0, none, 0, 0, 0, false, false, false⟩

/-- The Fusebox: channels, the start queue (oldest first within a class), the requests captured since the last tick, the
queue's rotating pointer, the search position of FAULT_NEXT, the end of the wake slot, the open state of the budget, and
the ageing values that the Cellar holds through sleep (RDS_MEAS, DRIFT, AGE_VALID by channel). -/
structure FuseSt where
  chans     : Tbl Channel
  queue     : List Nat
  fresh     : List Nat
  pointer   : Nat
  searchPos : Nat
  slotEnd   : Option Nat     -- none before start-up completes (R62, R377)
  savedAge  : Tbl (Nat × Nat × Nat)
  deriving DecidableEq, Repr
/-- Lane states (*Table: Lane states*). -/
inductive LaneState where | active | excluded | returning | shadow | lockedOut | starting
  deriving DecidableEq, Repr

/-- Vote modes (R91, R477). -/
inductive VoteMode where | notArmed | v2oo3 | v2oo2 | safe
  deriving DecidableEq, Repr

/-- A lane's input image for a cycle (R79). -/
structure InImage where
  din   : Nat
  ain   : List Int
  diag  : List Nat
  tiles : List Nat
  vin   : Tbl Nat
  pair  : Option Agreed0
  deriving DecidableEq, Repr

/-- An agreed input image with its disagreement flags (R80 to R82, R474); `tilesQ` has those of each tile status word. -/
structure Agreed where
  img    : InImage
  dinQ   : Nat
  ainQ   : Nat
  tilesQ : List Nat
  vinQ   : List Nat
  deriving DecidableEq, Repr

/-- A lane's output image (R85). -/
structure OutImage where
  cmd    : Nat
  permit : Nat
  vout   : Tbl Nat
  sign   : Nat
  deriving DecidableEq, Repr

/-- What a lane sent at its output-phase deadline (R78). -/
inductive Sent where | image (o : OutImage) | overrun
  deriving DecidableEq, Repr

/-- A function-block's own state (R123, R124). -/
structure FbState where
  et   : Nat
  on   : Bool       -- timing, or the previous input
  prev2 : Bool      -- the previous CD of a CTUD
  q    : Bool
  cv   : Nat
  deriving DecidableEq, Repr

/-- A seal (R120): program hash, cycle number and CRC of the retained region. -/
structure Seal where
  hash : Nat
  cyc  : Nat
  crc  : Nat
  deriving DecidableEq, Repr

/-- A force as it stands in a cycle (R129, R130): variable ID, value and POINT. -/
structure ForceUse where
  id    : Nat
  value : Nat
  point : Nat
  deriving DecidableEq, Repr

/-- A boundary marker: the lane's boundary, and the BIST result and program hash it carries (R98). -/
structure Marker where
  sentAt : Nat
  bist   : Bool
  hash   : Option Nat
  deriving DecidableEq, Repr

/-- A lane. Lines are masks: bits 0 to 47 commands, 48 to 53 permissives, 54 AUTH_REQ. -/
structure Lane where
  state    : LaneState
  laneOk   : Nat                  -- tiles that see its LANE_OK present (R72, R94)
  driven   : Nat                  -- lines as the lane drives them
  lineAt   : Tbl Nat              -- since when each line has its level (R87)
  counted  : Nat                  -- lines as the gates have counted them (R87)
  exclFor  : List LaneId          -- lanes whose exclusion line this lane asserts
  hold     : Nat                  -- tiles whose hold latch for this lane is set (R94)
  bistOk   : Bool
  bistStart : Option Nat          -- start of the run in progress or of the failed run
  attempts : List Nat             -- instants of the attempts begun (R98)
  boundary : Nat                  -- its last boundary
  period   : Nat                  -- its corrected period, ns
  skewRun  : Nat
  disRun   : Nat                  -- consecutive compared cycles outvoted
  readRun  : Nat                  -- consecutive cycles of readback difference
  img      : Option InImage
  got      : List LaneId          -- lanes whose input image of this cycle it holds
  gotOut   : List LaneId          -- lanes whose output image or overrun frame of this cycle it holds (R73)
  levels   : Nat                  -- levels of U0 to U15 by the two thresholds, as its own front-ends hold them (R160)
  agreed   : Option Agreed
  queue    : List (Nat × Agreed × List ForceUse)  -- cycles awaiting execute, oldest first (R112), with their forces (R129)
  running  : Option Nat           -- the cycle in execute
  forces   : List ForceUse        -- the forces of that cycle
  oldProg  : Option Program       -- the program it still runs, until its own switch, after another lane has switched (R127)
  vars     : Tbl Nat              -- variables by ID
  fbs      : Tbl FbState          -- function-block states by variable ID
  out      : Option OutImage      -- output image of the last finished cycle
  outCyc   : Nat
  outAt    : Nat                  -- the instant at which its execute ended
  sent     : Option Sent
  sealed   : Option Seal
  bankHash : Option Nat           -- hash of the active bank, as this lane computed it
  updated  : Bool                 -- has driven its lines this cycle
  updAt    : Nat                  -- the instant of its last command update (R103)
  marker   : Option Marker        -- its last boundary marker, and the one before it (R98)
  markerOld : Option Marker
  deriving DecidableEq, Repr

/-- A lane at power-up of the lane domain. -/
def Lane.init : Lane where
  state := .starting
  laneOk := 0
  driven := 0
  lineAt := []
  counted := 0
  exclFor := []
  hold := 0
  bistOk := false
  bistStart := none
  attempts := []
  boundary := 0
  period := 0
  skewRun := 0
  disRun := 0
  readRun := 0
  img := none
  got := []
  gotOut := []
  levels := 0
  agreed := none
  queue := []
  running := none
  forces := []
  oldProg := none
  vars := []
  fbs := []
  out := none
  outCyc := 0
  outAt := 0
  sent := none
  sealed := none
  bankHash := none
  updated := false
  updAt := 0
  marker := none
  markerOld := none

/-- The lanes and LANEIF beside their registers. -/
structure LaneSt where
  lanes    : Tbl Lane
  vote     : VoteMode
  armed    : Bool
  opened   : Bool                 -- a VIN swap has opened cycle 0 (R84)
  vinFront : Tbl Nat              -- the frozen VIN image
  swapAt   : Nat                  -- the instant of the last VIN swap
  tied     : Bool                 -- a tie of markers at that swap is counted (R38)
  linkNow  : List (LaneId × LaneId)   -- links with a fault in this cycle (R73)
  linkPrev : List (LaneId × LaneId)
  disRuns  : Tbl Nat              -- consecutive flagged cycles by input (R83), as Agreed.flagged numbers them
  overrun  : Bool                 -- this cycle is an overrun cycle
  compared : Bool
  marked   : Nat                  -- mask of the blocks marked since sent (R100)
  taskCyc  : Tbl Nat              -- the cycle of each task's last measured run
  frozen   : Bool                 -- the marked set is frozen for the final copy (R101)
  copied   : Nat                  -- bytes the pre-copy had sent by the close of the last execute window counted
  copyShut : Option Nat           -- the boundary whose execute window that is
  copyWin  : Nat × Nat            -- the window of the final copy (R101)
  abortAt  : Option Nat           -- the cycle in which the last attempt was aborted (R104)
  counted  : Nat                  -- counted cycles of the attempt (R104)
  copySig  : List Nat             -- state signatures the ACTIVE lanes sent with the frozen set
  vinSafe  : Tbl Nat              -- safe values of VIN words (setup KEY 0x0003, R80, R424)
  deriving DecidableEq, Repr
/-- Program modes (*Table: Program modes*). -/
inductive ProgMode where | stop | run | hold | safe | starting
  deriving DecidableEq, Repr

/-- A maintenance token (R133) with the Attic's verdict on its two signatures. -/
structure Token where
  mid       : Nat
  rights    : Nat
  keySlot   : Nat
  progHash  : Nat
  notBefore : Nat
  notAfter  : Nat
  nonce     : Nat
  sigOk     : Bool
  deriving DecidableEq, Repr

/-- The commands of CYCMGR_CMD; TOKEN_LOAD takes what the token window holds when it is written, none where that is no token
of VERSION 0x0001. -/
inductive CycCmd where
  | run | runCold | stop | hold | step | resume | ocArm | ocCancel | tokenLoad (tok : Option Token) | tokenRevoke | forceCommit
  deriving DecidableEq, Repr

/-- Online-change states (CYCMGR_STAT.OC_STATE). -/
inductive OcState where | idle | loaded | armed | cancelled | failed
  deriving DecidableEq, Repr

/-- The cycle manager beside its registers. -/
structure CycSt where
  mode      : ProgMode
  oc        : OcState
  ocCyc     : Nat                     -- the armed switch cycle
  act       : Option Program          -- the active bank's image
  inact     : Option Program
  boot      : Option Program          -- the image to load at start-up (R106, R128)
  cmds      : List (Nat × CycCmd)     -- queued commands with their captured instants (R115)
  token     : Option Token
  tokenEnd  : Nat                     -- close of its lifetime on FRC (R134)
  nonces    : List Nat                -- the last 64 accepted nonces (Cellar)
  noncesLost : Bool                   -- the list has been lost or cleared
  refInst   : Option Nat              -- the reference instant of R134
  report    : List (Nat × Nat)        -- OC_REP queue: KIND and variable ID
  stepDue   : Bool                    -- this cycle is a STEP cycle
  expected  : Bool                    -- output images are expected in this cycle (R113)
  restart   : Option (Bool × Nat)     -- a restart in progress: warm, acting cycle
  fromSafe  : Bool                    -- the restart left SAFE: the safe pattern is held (R117)
  tokenOff  : Bool                    -- the end of the token awaits the next VIN swap (R134)
  deriving DecidableEq, Repr
/-- Pair states (*Table: Pair states*). -/
inductive PairState where | alone | seek | primary | syncing | standby | detached
  deriving DecidableEq, Repr

/-- Causes of DETACHED (PAIR_STAT.DETACH_CAUSE). -/
inductive DetachCause where | none | cfg | link | sync | disagree | hash | abort
  deriving DecidableEq, Repr

/-- A frame of the pair link (R146). -/
inductive PairFrame where
  | img (cyc : Nat) (i : Agreed0) (boundaryT : Nat)
  | out (cyc : Nat) (o : OutImage)
  | stat (cyc : Nat) (state : PairState) (vote : VoteMode) (hash digest : Nat) (inStep : Bool)
  | xfer (cyc : Nat) (ack : Option (Option Nat))
  | copy (cyc : Nat) (c : PairCopy)
  deriving DecidableEq, Repr

/-- The pair unit beside its registers. `sends` are the frames the module has sent since its last swap, oldest first;
`region` is what a resync has assembled of the carried region, by block; `preSent`, `preMark` and `preFixed` are the
primary's pre-copy: the bytes sent, the mask of the blocks marked since, and whether the marked set is frozen. -/
structure PairSt where
  state      : PairState
  held       : Bool                 -- AUTH_HELD
  source     : Bool                 -- the 10 mA source is on
  sourceAt   : Nat
  claim      : Bool                 -- claim armed: the lanes drive AUTH_REQ in RUN (R140)
  loopQuiet  : Bool                 -- the last reading with the own source off was quiet
  quiet      : Option Nat           -- start of the quiet spell
  quietX     : Bool                 -- TRANSFER_QUIET applies to this spell (R156)
  backoff    : Option Nat           -- end of the back-off
  img        : Option (Nat × Agreed0)
  targetT    : Option Nat           -- the primary's median boundary in T, of the last PAIR_IMG (R145)
  out        : Option (Nat × Output0)         -- cycle and image of the last PAIR_OUT
  outSign    : Option (Nat × Nat)   -- its cycle and state signature, kept for a final copy (R151)
  sends      : List PairFrame
  region     : Tbl (List Nat)
  preSent    : Nat
  preMark    : Nat
  preFixed   : Bool
  missRun    : Nat
  disRun     : Nat
  syncRun    : Nat
  partner    : Option PairState     -- the partner's state as last heard
  partnerInStep : Bool
  partnerHash   : Nat
  partnerDigest : Nat
  partnerCyc    : Nat
  heard      : Bool                 -- a PAIR_STAT frame was received in this cycle
  heardEver  : Bool                 -- one was received since SEEK was entered
  seekAt     : Nat
  detachedAt : Nat
  copyFinal  : Bool                 -- the final copy has been accepted
  agreeRun   : Nat                  -- agreeing cycles after it (R151)
  syncCyc    : Nat                  -- cycles since the resync began
  xfer       : Option Nat           -- the switch cycle of an accepted transfer
  xferUntil  : Option Nat           -- TRANSFER_QUIET applies up to the boundary of this cycle
  inStepAt   : Option Nat           -- t0 of R157
  xferAsked  : Option Nat           -- when a transfer request was sent to the partner
  noHolder   : Bool                 -- the NO_HOLDER record of this quiet spell is written
  gained     : Option Bool          -- authority gained, not yet complete; true in a planned transfer (R153)
  deriving DecidableEq, Repr
/-- A universal pin U16 to U47 beside its registers (R160 to R164). -/
structure Pin where
  raw        : Bool           -- level by the two thresholds
  level      : Bool           -- accepted level
  stable     : Nat            -- consecutive samples of a level not yet accepted
  count      : Nat            -- QUAD count, 32 bits
  gateCount  : Nat            -- QUAD count at the start of the gate window
  quiet      : Nat            -- consecutive gate windows without a rising edge
  overSince  : Option Nat
  underSince : Option Nat
  burdenOpen : Bool           -- the burden is opened above 30 mA
  gateAt     : Option Nat     -- when the present gate window opened (R162, R163)
  deriving DecidableEq, Repr

/-- A pin at hub power-up. -/
def Pin.init : Pin := ⟨false, false, 0, 0, 0, 0, none, none, false, none⟩

/-- A sensor supply (R165). -/
structure Supply where
  on      : Bool
  tripped : Bool
  tripAt  : Nat
  deriving DecidableEq, Repr

/-- The states of a station (*Table: Station states*). -/
inductive StnState where | absent | up | stale | down
  deriving DecidableEq, Repr

/-- What the Stairwell still owes a station that came UP (R174). -/
inductive Joining where | none | writeWd | waitAck | waitRelease | release
  deriving DecidableEq, Repr

/-- A station block of the last POLL (*Table: Station block in POLL*). -/
structure PollBlock where
  release : Bool
  acc     : Nat
  reg     : Nat
  wdata   : Nat
  out     : List Nat
  deriving DecidableEq, Repr

/-- A remote station beside its registers. `configured`, `wd` and `subst` come from its setup record (KEY 0x0001). -/
structure Station where
  configured : Bool
  wd         : Nat
  subst      : List Nat
  state      : StnState
  succ       : Nat            -- consecutive captured responses
  awaiting   : Bool           -- the response to the last POLL is outstanding
  wdSent     : Bool           -- that POLL carries the write of WD_TIMEOUT
  joining    : Joining
  askRelease : Bool           -- STN_CTL.RELEASE was written
  irq        : Nat
  block      : PollBlock
  quality    : Tbl Nat        -- the status of each word of the input image, 0 or STALE_INPUT (R172)
  wrote      : Bool           -- the hub has written the output image since the last POLL (R175)
  carries    : Bool           -- the last POLL carried such a write
  deriving DecidableEq, Repr

/-- A station that no setup record configures. -/
def Station.init : Station :=
  ⟨false, 0, [], .absent, 0, false, false, .none, false, 0, ⟨false, 0, 0, 0, []⟩, [], false, false⟩

/-- UIO beside its registers; `polled` is the start-of-frame instant of a segment's last POLL and `polls` are the bytes of that
POLL (*Table: POLL frame*). -/
structure UioSt where
  pins   : Tbl Pin
  sups   : Tbl Supply
  stns   : Tbl Station
  polled : Tbl Nat
  polls  : Tbl (List Nat)
  deriving DecidableEq, Repr
/-- The states of an engine (*Table: Engine states*, R198). -/
inductive EngState where | stopped | loading | running | waiting | fault
  deriving DecidableEq, Repr

/-- A queue port (R183, R184). An input port holds whole entries, of which the first may be partly popped: `body` is the
unpopped payload of an entry of `bodyInst` whose header, with LEN `bodyLen`, has been popped. An output port holds the
entries its queue has not yet admitted and at most one open entry: its INST, its STATUS, the LEN of its header and the
payload pushed so far. -/
structure Port where
  body     : List Nat
  bodyInst : Nat
  bodyLen  : Nat
  entries  : List Entry
  opened   : Option (Nat × Nat × Nat × List Nat)
  deriving DecidableEq, Repr

/-- An empty port. -/
def Port.init : Port := ⟨[], 0, 0, [], none⟩

/-- A timer (R190): its next firing instant, its period where periodic, and its absolute target where absolute. -/
structure EngTimer where
  due    : Nat
  period : Nat               -- 0 where one-shot or absolute
  target : Option Nat        -- FRC[31:0] value of mode 2
  deriving DecidableEq, Repr

/-- The image loaded in an engine: entry address and DATA bytes (R199). -/
structure EngImage where
  entry : Nat
  data  : List Nat
  deriving DecidableEq, Repr

/-- An engine (R177 to R201). -/
structure Engine where
  state    : EngState
  regs     : Tbl Word        -- g1 to g15; g0 is not stored
  pc       : Nat
  pmem     : Tbl Word        -- program memory by word number
  dmem     : List Host.Cell  -- data memory by byte address
  image    : Option EngImage
  loading  : Option Nat      -- the address of the image that the Attic verifies
  frcHi    : Nat
  cycles   : Nat
  curInst  : Nat
  edges    : Nat             -- pending edge events (R187)
  waitMask : Word            -- mask and destination of a WAIT that sleeps (R188)
  waitRd   : Nat
  burst    : Nat             -- cycles since the burst began (R189)
  timers   : Tbl EngTimer
  ports    : Tbl Port
  drains   : List Nat        -- instances whose fence awaits the next burst boundary (R201)
  page     : Tbl Nat         -- channel-page words by address, those a CSTW has written (R191)
  std      : Bool            -- it runs Yetchamal's standard channel program (R178)
  order    : List Nat        -- the output ports of its waiting entries, in the order in which they were completed (R185)
  eccP     : List Nat        -- program words that hold an uncorrectable error (R179)
  eccD     : List Nat        -- data words that hold one
  routing  : Bool            -- it runs a route program that Skembe built on the standard route runtime (R208, R211)
  deriving DecidableEq, Repr

/-- An engine at hub power-up. -/
def Engine.init : Engine :=
  ⟨.stopped, [], 0, [], [], none, none, 0, 0, 0, 0, 0, 0, 0, [], [], [], [], false, [], [], [], false⟩

/-- The sixteen engines and the pointer of the commit arbiter of R185. -/
structure DveSt where
  engines : Tbl Engine
  pointer : Nat
  deriving DecidableEq, Repr
/-- The states of a parking slot that is not FREE (*Table: Parking slot states*). -/
inductive SlotState where | fetching | ready | failed
  deriving DecidableEq, Repr

/-- A parking slot (R217 to R220): its key, the value collected so far and, once READY or FAILED, t_ready and status. -/
structure Slot where
  addr   : Nat
  size   : Nat
  attr   : Attr
  state  : SlotState
  value  : Nat
  ready  : Nat
  status : Nat
  deriving DecidableEq, Repr

/-- Whose a station access is: the read of a slot, or a posted write by segment and number. -/
inductive AccSrc where | slot (k : Nat) | write (seg seq : Nat)
  deriving DecidableEq, Repr

/-- A station access (R215, R216): `idx` is its half, `last` marks the last one of its window access. -/
structure StnAcc where
  src   : AccSrc
  inst  : Nat
  reg   : Nat
  data  : Nat
  idx   : Nat
  last  : Bool
  deriving DecidableEq, Repr

/-- A posted write that is not settled (R221): `done` halves of `halves` have been delivered. -/
structure PostedWrite where
  seg    : Nat
  seq    : Nat
  inst   : Nat
  addr   : Nat
  size   : Nat
  halves : List Nat
  done   : Nat
  silent : Bool              -- its instance was reset while the last half was in a POLL: the result is discarded (R225)
  deriving DecidableEq, Repr

/-- An entry of the posted-write error queue (R222, STAIR_PWE). -/
structure PweEntry where
  inst   : Nat
  reason : Nat
  done   : Nat
  seq    : Nat
  addr   : Nat
  size   : Nat
  accRes : Nat
  half   : Nat
  deriving DecidableEq, Repr

/-- An entry of the orphan log (R220, STAIR_ORPH). -/
structure OrphEntry where
  inst   : Nat
  attic  : Bool
  status : Nat
  addr   : Nat
  size   : Nat
  value  : Nat
  deriving DecidableEq, Repr

/-- A signal of a route as the runtime holds it (R211): its destination value, whether that was limited, when the last route
entry of its source arrived, and whether the value is SUBST. -/
structure SigVal where
  value : Nat
  sat   : Bool
  entry : Option Nat
  subst : Bool
  deriving DecidableEq, Repr

/-- A route at the standard route runtime (R211): its signals by their place in the route, the sequence number of its next PDU,
the signal area it emitted last, the instant at which the present window of PERIOD_MS opened, and the capture of the newest
source frame used. -/
structure RouteRun where
  sigs   : Tbl SigVal
  seq    : Nat
  last   : Option (List Nat)
  window : Option Nat
  newest : Nat
  deriving DecidableEq, Repr

/-- A route before its first entry. -/
def RouteRun.init : RouteRun := ⟨[], 0, none, none, 0⟩

/-- The Stairwell and the gateway's classifier. Stations are numbered 16 × segment + station − 1; `fifos` are their
accesses (R216), `carried` the access in the last POLL, none once its result is to be discarded; `nextSeq` and `writes`
are the posted writes of the two segments; `readPtr` is the rotating pointer over the hub's initiator ports and `reads` the
ports whose re-reads reached the Stairwell at the instant of its first part (R218). `offered` are the source frames that await
the classifier, `srcPtr` its rotating pointer (R206) and `routes` what the route runtime holds (R211). -/
structure StairSt where
  slots   : Tbl Slot
  fifos   : Tbl (List StnAcc)
  carried : Tbl StnAcc
  nextSeq : Nat × Nat
  writes  : List PostedWrite
  pwe     : List PweEntry
  orph    : List OrphEntry
  srcPtr  : Nat
  readPtr : Nat
  reads   : Nat × List Nat
  offered : List SrcFrame
  routes  : Tbl RouteRun
  deriving DecidableEq, Repr
/-- A frame in the shared buffer (R232): it is stored once. `stamp` is its receive stamp (R283), `tIn` the stamp in T,
`corrects` that its ingress port is in TRANSPARENT mode (R289); `vid`, `pcp` and `dei` are its tag as forwarded;
`yellow` that it is yellow or red (R234). -/
structure Stored where
  frame    : EthFrame
  ingress  : Nat
  stamp    : Nat
  tIn      : Nat
  synced   : Bool
  corrects : Bool
  vid      : Nat
  pcp      : Nat
  dei      : Nat
  yellow   : Bool
  cells    : Nat
  copies   : Nat
  deriving DecidableEq, Repr

/-- A queued copy (R232): the frame it is of, its enqueue instant, whether it is trapped (R286), and its ingress port. -/
structure QCopy where
  id      : Nat
  at_     : Nat
  trapped : Bool
  ingress : Nat
  deriving DecidableEq, Repr

/-- The receive time tag (R286): FRC, T, PORT and FLAGS. -/
structure TimeTag where
  frc   : Nat
  t     : Nat
  port  : Nat
  flags : Nat
  deriving DecidableEq, Repr

/-- A frame that a port is sending, or the rest of a preempted one: the frame as it leaves, its class, the start of this
part, the bytes that earlier parts have sent, and whether it is stomped (R246). -/
structure Sending where
  id     : Nat
  frame  : EthFrame
  timeTag : Option TimeTag
  tc     : Nat
  start  : Nat
  before : Nat
  stomp  : Bool
  deriving DecidableEq, Repr

/-- An entry of the forwarding database (R229, R230). -/
structure FdbEntry where
  vid    : Nat
  mac    : Nat
  static : Bool
  mask   : Nat
  hit    : Nat
  deriving DecidableEq, Repr

/-- The vector recovery state of a stream (R248): the highest sequence number accepted, the history (bit k: that number
less k was seen) and the instant of the last frame. -/
structure Recov where
  num     : Nat
  history : Nat
  last    : Nat
  deriving DecidableEq, Repr

/-- The Hallway beside its registers. Queue t of port p has number 8p + t. `lastIn` is the instant
of a queue's last copy, and its rotating pointer before that instant and now (R236); `meters` and `shapers` hold what is missing from full buckets and the instant up to which
they are filled, in 10^-6 byte and 1/8,000 byte. -/
structure HallSt where
  frames  : Tbl Stored
  nextId  : Nat
  queues  : Tbl (List QCopy)
  lastIn  : Tbl (Nat × Nat × Nat)
  tx      : Tbl Sending
  rest    : Tbl Sending
  down    : Tbl Nat               -- t_down of R247, by port
  fdb     : List FdbEntry
  meters  : Tbl (Nat × Nat × Nat)
  shapers : Tbl (Nat × Nat)
  seqs    : Tbl Nat               -- next R-TAG sequence number, by stream
  recov   : Tbl Recov
  change  : Tbl Nat               -- change instant in T, by port (R243)
  tries   : Tbl Nat               -- verify attempts that have failed (R245)
  deriving DecidableEq, Repr
/-- The states of a controller (*Table: Controller states*). -/
inductive CanState where | config | syncing | active | passive | busOff | recovering
  deriving DecidableEq, Repr

/-- What a controller has on its bus: the element of a ring, or a reference message with its cycle count (R264, R272). -/
inductive CanTx where | elem (ring : Nat) | ref (count : Nat)
  deriving DecidableEq, Repr

/-- A CAN controller beside its registers. -/
structure CanCtl where
  state    : CanState
  onBus    : Option CanTx
  sof      : Nat              -- FRC at the start of that frame (R271)
  discard  : Bool             -- its result is discarded (R276)
  stopping : Bool             -- STOP awaits its end (R268)
  ptr      : Nat              -- rotating pointer of R264
  refDue   : Option Nat       -- the due reference message's cycle count (R272)
  refNext  : Nat              -- the next cycle count
  refT     : Option Nat       -- T of the last instant at which one became due
  lastRef  : Nat              -- FRC of the last reference message
  errLast  : Nat              -- the word of CAN_ERR_LAST
  refused  : Option (Nat × Nat)  -- the instant of the last refused RECOVER, and CMD_REFUSED before it (R268)
  suspend  : Nat              -- the end of the last suspend-transmission delay (R270)
  deriving DecidableEq, Repr

/-- A controller at hub power-up. -/
def CanCtl.init : CanCtl := ⟨.config, none, 0, false, false, 0, none, 0, none, 0, 0, none, 0⟩

/-- The controllers; `errs` counts the attempts of each ring's element at DONE that ended in error (R265), `aborts` is the
index up to which an ABORT completes a ring behind the frame on the bus (R267); `skips` the elements of a ring that a SAVE has
completed behind pending ones (R336). -/
structure CanSt where
  ctls   : Tbl CanCtl
  errs   : Tbl Nat
  aborts : Tbl Nat
  skips  : Tbl (List Nat)
  deriving DecidableEq, Repr
/-- A parameter set of the time unit (R278) with the apply instant from which it is in force (R279). -/
structure TimeParams where
  frcRef  : Nat
  offset  : Nat
  rate    : Int
  applied : Nat
  deriving DecidableEq, Repr

/-- The servo states of *Table: Servo states* (R293). -/
inductive ServoState where | free | acquire | locked | holdover | grandmaster
  deriving DecidableEq, Repr

/-- An entry of a port's transmit-stamp queue (R290). -/
structure TxStamp where
  t       : Nat
  msgType : Nat
  domain  : Nat
  seq     : Nat
  deriving DecidableEq, Repr

/-- The time unit's state that no register of TIME holds as a stored field. -/
structure TimeSt where
  par        : TimeParams
  prev       : TimeParams          -- the set before the current one (R295)
  servo      : ServoState
  fromLocked : Bool                -- HOLDOVER was entered from LOCKED (R293)
  integ      : Int
  lastInput  : Nat                 -- FRC of the last accepted input
  holdEntry  : Nat                 -- FRC of HOLDOVER entry
  left       : Option (Nat × ServoState) -- when a window last closed, and the state it closed in (R17, R292)
  busyEnd    : Nat                 -- the input in process ends here (R292: within 50 ns)
  convPend   : Option Nat          -- the FRC value whose conversion runs (R295)
  ppsNext    : Option Nat          -- T of the next PPS-out edge not yet acted on (R281, R296)
  ppsLow     : Option Nat          -- T at which the running PPS-out pulse ends
  ppsTs      : Nat                 -- FRC of the last PPS-in edge (R297)
  txts       : Tbl (List TxStamp)  -- transmit-stamp queues by port (R290)
  txtsLost   : Tbl Nat             -- entries lost since the last read, by port
  deriving DecidableEq, Repr
/-- The states of NETMGT (R309); ASLEEP is the Cellar's. -/
inductive NetState where | awake | prepare | entry
  deriving DecidableEq, Repr

/-- An NM message the module has sent (R302). -/
structure NmMsg where
  typ  : NmType
  just : Bool
  succ : Nat
  run  : Nat
  sentAt : Nat
  deriving DecidableEq, Repr

/-- A segment beside its registers (R304 to R306). -/
structure NetSeg where
  lastSeen : Nat
  hold     : Option Nat               -- the module holds the TOKEN since
  tokRun   : Nat                      -- RUN of the TOKEN it holds
  waiting  : Option (Nat × Nat × Nat) -- sent a TOKEN: instant, member position of the successor, RUN
  lastTok  : Nat
  restart  : Bool                     -- the next TOKEN carries RUN 0
  sent     : Option NmMsg             -- the last message sent on the segment
  deriving DecidableEq, Repr

/-- A node's run (R308). -/
structure NodeRun where
  start : Nat
  last  : Nat
  deriving DecidableEq, Repr

/-- NETMGT beside its registers; `arm` to `wakeAt` are what the Cellar took at the last sleep entry (R311, R313). -/
structure NetSt where
  state    : NetState
  prepAt   : Nat
  needFrom : Option Nat               -- the instant from which the need is active (R303)
  lastKa   : Nat                      -- close of the last 100 ms window
  warm     : Nat                      -- WARM bits by instance
  segs     : Tbl NetSeg
  runs     : Tbl NodeRun              -- runs by node-table entry
  latched  : Option (Nat × Nat × Nat) -- wake latched in the Cellar: cause, source, T
  arm      : Option (Nat × Nat)       -- NETMGT_ARM and ETH_ARM_F; none: W0 to W3 alone (R375)
  wakeAt   : Nat
  warmSleep : Bool                    -- the sleep being entered, or under way, began as WARM SLEEP (R312)
  fwd      : List (Nat × Nat)         -- sent last: 0 and a TC10 port woken (R316), 1 and a CAN segment, 2 and a TC10 port sent to sleep (R311)
  deriving DecidableEq, Repr
/-- The states of an instance (*Table: Instance states*). -/
inductive InstState where | free | active | resetting | freezing | frozen | saving
  deriving DecidableEq, Repr

/-- An instance beside its registers: the values in force (R330), the limiter's buckets in 1/8,000 byte (R328) and the
progress of a reset (R331). -/
structure Inst where
  state   : InstState
  since   : Nat            -- instant of the fence or of FREEZE
  freezeT : Nat            -- T at which it became FROZEN (R337)
  drained : Nat            -- participants that have drained, as in RESET_PEND
  txDone  : Nat            -- TX elements that the fence completed (R276)
  weight  : Nat
  limited : Bool
  cir     : Nat
  pir     : Nat
  cbs     : Nat
  pbs     : Nat
  deficit : Nat
  committed : Nat
  peak    : Nat
  filled  : Nat            -- instant up to which the buckets are filled
  wseq    : Nat × Nat      -- segment and number of its last accepted window write (R221)
  wlast   : Nat × Nat      -- the number of its last accepted window write of each segment (R337)
  deriving DecidableEq, Repr

/-- An instance at hub power-up. -/
def Inst.init : Inst := ⟨.free, 0, 0, 0, 0, 1, false, 0, 0, 64, 64, 0, 0, 0, 0, (0, 0), (0, 0)⟩

/-- A pool queue (R323, R324): the unpopped payload of an entry whose header has been popped, whole entries, and the
entry being pushed through the software window: INST, STATUS, LEN and the payload so far. -/
structure Pool where
  body     : List Nat
  bodyInst : Nat
  entries  : List Entry
  pushing  : Option (Nat × Nat × Nat × List Nat)
  deriving DecidableEq, Repr

/-- An empty pool queue. -/
def Pool.init : Pool := ⟨[], 0, [], none⟩

/-- A migration job that runs (R336, R339). -/
inductive MigJob where | save (inst slot : Nat) | restore (inst : Nat) (b : MigBlob)
  deriving DecidableEq, Repr

/-- The VIM beside its registers. `turns` are the instances that the round has yet to serve, `turn` the one being served
(R329, R330); `nonces` are the last 64 restored, kept in the Cellar (R339); `hold` is
the instant from which RESTORE has been refused after their loss (R381). -/
structure VimSt where
  insts  : Tbl Inst
  pools  : Tbl Pool
  ptrs   : Tbl Nat
  start  : Nat
  turns  : List Nat
  turn   : Option Nat
  mig    : Option MigJob
  nonces : List Nat
  hold   : Option Nat
  deriving DecidableEq, Repr
/-- An entry of the violation log (WORLD_VIOL, R345, R348). -/
structure Viol where
  status : Nat
  attr   : Attr
  set    : Nat
  write  : Bool
  addr   : Nat
  deriving DecidableEq, Repr

/-- The worlds beside their registers: the violation log, and the start of the 1 s window of each pair of initiator and
region set (R345). -/
structure WorldSt where
  viols : List Viol
  violWin : Tbl Nat
  deriving DecidableEq, Repr

/-- What a slot holds (R349, R350): its attributes and its key material, byte 0 first. -/
structure KeyBody where
  typ      : Nat
  usage    : Nat
  export_  : Bool
  internal : Bool
  lock     : Bool
  material : List Nat
  deriving DecidableEq, Repr

/-- An EMPTY slot's content. -/
def KeyBody.empty : KeyBody := ⟨0, 0, false, false, false, []⟩

/-- A physical copy of a slot (R351): its body, its stored generation, and whether its tag verifies. -/
structure KeyCopy where
  body   : KeyBody
  gen    : Nat
  passes : Bool
  deriving DecidableEq, Repr

/-- A slot: copies A and B. -/
structure Slot2 where
  a : KeyCopy
  b : KeyCopy
  deriving DecidableEq, Repr

/-- A slot that nothing has written: copy A is EMPTY under generation 0 and copy B is zeroed (log entry 25). -/
def Slot2.init : Slot2 := ⟨⟨KeyBody.empty, 0, true⟩, ⟨KeyBody.empty, 0, false⟩⟩

/-- The Pantry command that runs (R352 to R355, R364, R367). A change of a slot has its body, the new generation and the
instant of its commit point; `toB` says that copy B is the target. A tamper during a TAMPER_CLEAR makes it lost (R367). -/
inductive PantryOp where
  | commit (slot : Nat) (toB : Bool) (body : KeyBody) (gen commitAt : Nat) (erase : Bool)
  | output (bytes : List Nat) (addr : Nat)
  | attest (slot : Nat) (nonce : List Nat) (addr : Nat)
  | cacheFlush
  | clear (addr : Nat) (lost : Bool)
  deriving DecidableEq, Repr

/-- The factory fuses (*Table: Fuses*, R358): the device root, firmware key pins 0 to 3, the tamper-clear pin, the revoked pins (bit
k for pin k, bit 4 for the tamper-clear pin), the security version in thermometer code, and DEBUG_OFF. -/
structure Fuses where
  root     : Nat
  pins     : Tbl Nat
  clearPin : Nat
  revoked  : Nat
  security : Nat
  debugOff : Bool
  deriving DecidableEq, Repr

/-- A key cache entry (R356): the BLOB_REF slot, the KEK slot and the unwrapped key. -/
structure CacheEntry where
  slot : Nat
  kek  : Nat
  body : KeyBody
  deriving DecidableEq, Repr

/-- The Pantry beside its registers: the store and the debug bank by slot (R361), the staging window, the command that
runs, the key cache, most recently used first, and the last commit: its instant and slot, with the slot and the cache before it
(R356). -/
structure PantrySt where
  store : Tbl Slot2
  debug : Tbl Slot2
  stage : Tbl Nat
  op    : Option PantryOp
  cache : List CacheEntry
  prior : Option (Nat × Nat × Slot2 × List CacheEntry)
  deriving DecidableEq, Repr
/-- The power states (R375). -/
inductive PowerState where | off | startup | run | safe | sleepEntry | deepSleep | warmSleep | powerFail | halted
  deriving DecidableEq, Repr

/-- What started the module (PWRMGR_STAT.START_CAUSE). -/
inductive StartCause where | fromOff | wake | supplyReturn | warmWake
  deriving DecidableEq, Repr

/-- The power-fail sequence (R384): the step in progress, its start, the KB dirty at the start of step 2, the VITAL channels to
confirm, the instances still awaited in step 4. -/
structure PfSeq where
  step      : Nat
  stepStart : Nat
  dirtyKb   : Nat
  flushBy   : Option Nat        -- the close of the step-2 bound (R412)
  atDecl    : List Nat          -- channels STARTING or ON at the declaration (R478)
  await     : List Nat
  deriving DecidableEq, Repr

/-- The supply and the Cellar's sequencer. -/
structure PowerSt where
  state       : PowerState
  afterPf     : Bool            -- DEEP SLEEP that ended a power-fail sequence
  cause       : StartCause
  lastCode    : Nat             -- CELLAR_STAT.LAST of the next start
  pfOpen      : Option Nat      -- t_fall of the open window (R31)
  below9      : Bool            -- the bus is below 9 V
  qualified   : Bool            -- start qualification met during a sequence (R387)
  seq         : Option PfSeq
  stagesDone  : List Nat        -- S1 to S7 completed
  stagesBegun : List Nat
  startAt     : Nat             -- t = 0 of the start-up (R377)
  s7Start     : Nat
  haltedAt    : Nat
  parlourOut  : Bool            -- Parlour cores released
  parlourHeld : Bool            -- held by a power-fail declaration (R32)
  deepFromWarm : Bool
  cutRecord   : Option Nat      -- step of a cut whose record is owed (R386)
  hubUp       : Bool            -- hub domain powered
  laneUp      : Bool            -- lane domain powered
  fuseUp      : Bool            -- Fusebox control domain powered
  sleepAt     : Nat             -- start of the sleep
  pfInEntry   : Bool            -- power-fail declared in SLEEP ENTRY
  scrubAt     : Nat             -- from here ten minutes run to the next scrub pass (R381)
  busLow14    : Bool            -- the bus has fallen below 14 V and not yet returned to 14.5 V
  deriving DecidableEq, Repr
/-- The Hearth and the margin planner beside their registers. Voltages are in mV; energies of the plan in units of
1 / 9·10¹⁵ J (R393 to R395). -/
structure HearthSt where
  fitted    : Bool
  swFrom    : Nat          -- the hold-up switch stays open before this instant (R450)
  swReq     : Option Nat   -- since when R370 asks the switch to be closed
  vFull     : Nat          -- cell voltage at the last completed charge
  firstTest : Bool         -- the test after a start from OFF is due (R392)
  testAt    : Option Nat   -- start of the test discharge that runs
  testPlan  : Bool         -- a 24 h plan follows it
  peak      : Nat          -- highest 1 s mean of electronics power since the last plan, 0.1 W
  acc       : Nat          -- RUN and SAFE time since the last plan, ns, up to `accAt`
  accAt     : Nat
  ePlan     : Nat
  want      : Nat × Nat    -- planned GRACE_MS and DIRTY_KB, some of which may wait for R378 (R394)
  fWant     : Nat          -- the frequency limit last found
  seen      : Nat          -- mask of the margin reports whose condition holds
  saved     : List (Nat × Nat)   -- the plan's registers as the Cellar holds them through sleep
  deriving DecidableEq, Repr

/-- The planner before any plan; no cartridge is fitted (log entry 28). -/
def HearthSt.init : HearthSt := ⟨false, 0, none, 0, false, none, false, 0, 0, 0, 0, (0, 16), 16, 0, []⟩
/-- Why a flush was triggered (R411); a 60 s window and a SERVICE_FLUSH carry a checkpoint (R419). -/
inductive FlushCause where | severity | dirtyLimit | window | powerFail | sleepFail | command | service
  deriving DecidableEq, Repr

/-- A flush that has been triggered (R411, R412): its cause and its start instant s on FRC. -/
structure FlushReq where
  cause : FlushCause
  start : Nat
  deriving DecidableEq, Repr

/-- A segment of the recorder partition (R415): its number and the CHAIN_INDEX range and bytes of its blocks. -/
structure Segment where
  num   : Nat
  first : Nat
  last  : Nat
  used  : Nat
  deriving DecidableEq, Repr

/-- A block of the log (R417), with the header fields that vary, its HASH_PREV and its TAG. -/
structure Block where
  sev         : Nat
  flags       : Nat
  chainIndex  : Nat
  streamIndex : Nat
  firstSeq    : Nat
  count       : Nat
  len         : Nat
  segment     : Nat
  eraseSeg    : Nat
  eraseFirst  : Nat
  eraseLast   : Nat
  mid         : Nat
  hashPrev    : Nat
  records     : List Record
  tag         : List Nat
  deriving DecidableEq, Repr

/-- One stream of the log (R415): its open segment, the earlier ones (oldest first), its erased reserve, the replacement whose erase
is running, and its blocks so far. -/
structure LogStream where
  opened  : Option Segment
  closed  : List Segment
  reserve : Option Nat
  erasing : Option Nat
  blocks  : Nat
  hash    : Nat               -- SHA-256 of its newest block; 0 before the first
  deriving DecidableEq, Repr

/-- A checkpoint (R419): T, MID, the highest CHAIN_INDEX, each stream's newest block with its SHA-256, K_0 wrapped under the KEK slot,
the digests of the signing public keys, and both signatures. -/
structure Checkpoint where
  t          : Nat
  mid        : Nat
  chainIndex : Nat
  newest     : List (Nat × Nat × Nat)
  wrapped    : List Nat
  kekSlot    : Nat
  digests    : List (List Nat)
  sigs       : List (List Nat)
  deriving DecidableEq, Repr

/-- The recorder's state (R405 to R421) that no register of REC holds. -/
structure LogSt where
  ports      : Tbl (List Record)      -- records waiting at the 32 writer ports, by CLASS
  pointer    : Nat                    -- rotating pointer over the ports (R409)
  buf        : List Record            -- the Cellar's ring, oldest first
  flushing   : Option FlushReq
  pendFlush  : Option FlushCause
  lastEnd    : Option Nat             -- where the 60 s window opens; none before the end of S4 (R411)
  summary    : Bool                   -- a DROP_SUMMARY is owed (R413)
  streams    : Tbl LogStream          -- by severity
  nextSeg    : Nat                    -- first segment never used
  blocks     : List Block             -- the mounted log, oldest first
  pendErase  : List Segment           -- erased segments the next block reports (R416)
  chainIndex : Nat                    -- CHAIN_INDEX of the next block
  chainKey   : Option Nat             -- K_n (R418); none when the Cellar holds no key
  chainStart : Option Nat             -- K_0, which checkpoints wrap (R419)
  ring       : List Checkpoint        -- the checkpoint ring, newest first, 1,024 entries
  chainHead  : Option (List (List Nat)) -- the chain head: both public keys, and an attestation statement of each (R419)
  readEnd    : Nat                    -- sequence number after the last READ
  wrAddr     : Tbl Nat                -- REC_WR_ADDR by instance (R410)
  wrResult   : Tbl Nat                -- REC_WR_STAT.RESULT by instance
  ueSeqs     : List Nat               -- records with an uncorrectable word (R381)
  deriving DecidableEq, Repr
/-- A report of the loader (R429, R430, SETUP_REPORT). -/
structure SetupReport where
  refused : Bool             -- KIND VITAL_REFUSED
  pass2   : Bool
  lsb     : Nat
  index   : Nat              -- field index, 0xFFFF for a field not named
  addr    : Nat
  req     : Nat
  loaded  : Nat
  deriving DecidableEq, Repr

/-- The settings of a pin of U0 to U15 that only the setup image sets while the pin is bound (R159). -/
structure PinSetup where
  mode  : Nat
  deb   : Nat
  fgate : Nat
  thHi  : Nat
  thLo  : Nat
  deriving DecidableEq, Repr

/-- The setup loader: the two stored copies (R427), the job that runs (a STORE's image, an APPLY), the report queue
(R429). -/
structure SetupSt where
  pins     : Tbl PinSetup    -- the settings of pins U0 to U15 as loaded (R159)
  copyA    : Option SetupImage
  copyB    : Option SetupImage
  storing  : Option SetupImage
  applying : Bool
  reports  : List SetupReport
  chanHash : Nat             -- KEY 0x0002; 0 names the standard channel program
  deriving DecidableEq, Repr

/-- What hardware has done at the present FRC instant, by which a software access of the same clock is decided (R13, R14):
`sets` are the W1C bits it set there and `news` those of them that stood at 0 before, by field; `pushes` counts the entries
it added to an RS queue, `olds` holds what an RS register, or a region word (R346), read before, by address, `gates` the gate
requests carried out there, with the bit each found (R348, R388), and `learns` the learning updates of the Hallway's
database, with the entry that stood before each (R230; log entry 1). -/
structure ClockSt where
  sets   : Tbl Nat
  news   : Tbl Nat
  pushes : Tbl Nat
  olds   : Tbl Nat
  gates  : List (Attr × Nat × Fld × Bool)
  learns : List (Nat × Nat × Nat × Option FdbEntry)
  deriving DecidableEq, Repr

/-- An instant at which nothing has happened. -/
def ClockSt.none : ClockSt := ⟨[], [], [], [], [], []⟩

/-- The state of the module. `now` is the FRC instant captured with the command in hand (R40), `frc` the latest of those
captured so far, which is what FRC reads, and `clk` what hardware has done at `now`; `freeCtr` is the model's own draw counter of open
values (log entry 4); `regs` holds every stored register field under `Fld.key`, reset values not listed; `mem` is DRAM
and on-chip SRAM. -/
structure State where
  pending : List Instr
  now     : Nat
  frc     : Nat
  clk     : ClockSt
  freeCtr : Nat
  resp    : Resp
  regs    : Tbl Nat
  mem     : List Host.Cell
  fuse : FuseSt
  lane : LaneSt
  cyc : CycSt
  pair : PairSt
  uio : UioSt
  dve : DveSt
  stair : StairSt
  hall : HallSt
  can : CanSt
  time : TimeSt
  net : NetSt
  vim : VimSt
  world : WorldSt
  pantry : PantrySt
  efuse : Fuses
  pwr : PowerSt
  hearth : HearthSt
  log : LogSt
  setup : SetupSt
  deriving DecidableEq, Repr

/-- The module at reset: OFF, before anything has been powered (R15, R369). -/
def State.reset : State where
  pending := []
  now := 0
  frc := 0
  clk := ClockSt.none
  freeCtr := 0
  resp := ⟨0, 0⟩
  regs := []
  mem := []
  fuse := {
    chans := [], queue := [], fresh := [], pointer := 0, searchPos := 47, slotEnd := none, savedAge := [] }
  lane := {
    lanes := [], vote := .notArmed, armed := false, opened := false, vinFront := [], swapAt := 0,
    tied := false, linkNow := [], linkPrev := [],
    disRuns := [], overrun := false, compared := false, marked := 0, taskCyc := [], frozen := false, copied := 0,
    copyShut := none, copyWin := (0, 0), abortAt := none, counted := 0, copySig := [], vinSafe := [] }
  cyc := {
    mode := .stop, oc := .idle, ocCyc := 0, act := none, inact := none, boot := none, cmds := [], token := none,
    tokenEnd := 0, nonces := [], noncesLost := true, refInst := none, report := [], stepDue := false,
    expected := false, restart := none, fromSafe := false, tokenOff := false }
  pair := {
    state := .alone, held := false, source := false, sourceAt := 0, claim := false, loopQuiet := false, quiet := none,
    quietX := false, backoff := none, img := none, targetT := none, out := none, outSign := none, sends := [], region := [],
    preSent := 0, preMark := 0, preFixed := false, missRun := 0, disRun := 0, syncRun := 0,
    partner := none, partnerInStep := false, partnerHash := 0, partnerDigest := 0, partnerCyc := 0, heard := false,
    heardEver := false, seekAt := 0, detachedAt := 0, copyFinal := false, agreeRun := 0, syncCyc := 0, xfer := none,
    xferUntil := none, inStepAt := none, xferAsked := none, noHolder := false, gained := none }
  uio := {
    pins := [], sups := [], stns := [], polled := [], polls := [] }
  dve := {
    engines := [], pointer := 0 }
  stair := {
    slots := [], fifos := [], carried := [], nextSeq := (0, 0), writes := [], pwe := [], orph := [], srcPtr := 0,
    readPtr := 0, reads := (0, []), offered := [], routes := [] }
  hall := {
    frames := [], nextId := 0, queues := [], lastIn := [], tx := [], rest := [], down := [], fdb := [], meters := [],
    shapers := [], seqs := [], recov := [], change := [], tries := [] }
  can := {
    ctls := [], errs := [], aborts := [], skips := [] }
  time := {
    par := ⟨0, 0, 0, 0⟩, prev := ⟨0, 0, 0, 0⟩, servo := .free, fromLocked := false, integ := 0, lastInput := 0,
    holdEntry := 0, left := none, busyEnd := 0, convPend := none, ppsNext := none, ppsLow := none, ppsTs := 0, txts := [],
    txtsLost := [] }
  net := {
    state := .awake, prepAt := 0, needFrom := none, lastKa := 0, warm := 0, segs := [], runs := [], latched := none,
    arm := none, wakeAt := 0, warmSleep := false, fwd := [] }
  vim := {
    insts := [(0, { Inst.init with state := .active })], pools := [], ptrs := [], start := 0, turns := [],
    turn := none, mig := none, nonces := [], hold := none }
  world := {
    viols := [], violWin := [] }
  pantry := {
    store := [], debug := [], stage := [], op := none, cache := [], prior := none }
  efuse := {
    root := 0, pins := [], clearPin := 0, revoked := 0, security := 0, debugOff := false }
  pwr := {
    state := .off, afterPf := false, cause := .fromOff, lastCode := 0, pfOpen := none, below9 := true,
    qualified := false, seq := none, stagesDone := [], stagesBegun := [], startAt := 0, s7Start := 0, haltedAt := 0,
    parlourOut := false, parlourHeld := false, deepFromWarm := false, cutRecord := none, hubUp := false,
    laneUp := false, fuseUp := false, sleepAt := 0, pfInEntry := false, scrubAt := 0, busLow14 := false }
  hearth := HearthSt.init
  log := {
    ports := [], pointer := 0, buf := [], flushing := none, pendFlush := none, lastEnd := none, summary := false,
    streams := [], nextSeg := 0, blocks := [], pendErase := [], chainIndex := 0, chainKey := none, chainStart := none,
    ring := [], chainHead := none, readEnd := 0, wrAddr := [], wrResult := [], ueSeqs := [] }
  setup := {
    pins := [], copyA := none, copyB := none, storing := none, applying := false, reports := [], chanHash := 0 }

end Sys2Proof.Machine
end

