-- ==== Sys2Proof/Machine/Ops.lean ====
section
/-! DEFINITION. The named operations every meaning is written with: tables, the register file, memory, bus responses,
the tie and rotating-pointer rules (R35 to R37), time (R39 to R41, R278), records (R405 to R408), open values and the
region checks (R344, R345). -/

namespace Sys2Proof

/-- The bit of a domain tag in a region's DOM field. -/
def Dom.regionBit : Dom → Nat
  | .hub => 2 | .lane => 1 | .engine => 0

/-- The code of a domain tag (R341). -/
def Dom.code : Dom → Nat
  | .hub => 0 | .lane => 1 | .engine => 2

/-- The restriction "Attic transactions of instance 0". -/
def Attr.attic0 (a : Attr) : Bool := a.attic && a.inst == 0

/-- The restriction "Attic transactions of instance 0 with domain tag hub". -/
def Attr.attic0hub (a : Attr) : Bool := a.attic && a.inst == 0 && a.dom == .hub

/-- The attributes of the hub's own blocks (R341): world Attic, instance 0, domain tag hub. -/
def Attr.hubBlock : Attr := ⟨true, 0, .hub⟩

end Sys2Proof

namespace Sys2Proof.Machine

/-! ### Tables -/

/-- The entry of number `k`. -/
def Tbl.find? {α : Type} : Tbl α → Nat → Option α
  | [], _ => none
  | (j, v) :: rest, k => if j = k then some v else Tbl.find? rest k

/-- The table without number `k`. -/
def Tbl.erase {α : Type} : Tbl α → Nat → Tbl α
  | [], _ => []
  | (j, v) :: rest, k => if j = k then Tbl.erase rest k else (j, v) :: Tbl.erase rest k

/-- The table with `v` at number `k`, in rising order. -/
def Tbl.insert {α : Type} : Tbl α → Nat → α → Tbl α
  | [], k, v => [(k, v)]
  | (j, w) :: rest, k, v =>
    if k < j then (k, v) :: (j, w) :: rest
    else if j = k then (k, v) :: rest
    else (j, w) :: Tbl.insert rest k v

/-- The value at number `k`, `d` where none is listed. -/
def Tbl.getD {α : Type} (m : Tbl α) (d : α) (k : Nat) : α := (m.find? k).getD d

/-- The table with `v` at number `k`; the default `d` is never listed. -/
def Tbl.put {α : Type} [DecidableEq α] (m : Tbl α) (d : α) (k : Nat) (v : α) : Tbl α :=
  if v = d then m.erase k else m.insert k v

/-- The canonical form of a table with default `d`: numbers strictly rising, no entry equal to `d`. -/
def Tbl.wf {α : Type} [DecidableEq α] (d : α) : Tbl α → Bool
  | [] => true
  | [(_, v)] => decide (v ≠ d)
  | (j, v) :: (k, w) :: rest => decide (v ≠ d) && decide (j < k) && Tbl.wf d ((k, w) :: rest)

/-! ### The register file -/

/-- A register field's value. -/
def State.rd (s : State) (f : Fld) : Nat := (s.regs.find? f.key).getD f.reset

/-- The state with a register field at `v`, cut to the field's width. -/
def State.wr (s : State) (f : Fld) (v : Nat) : State :=
  { s with regs := s.regs.put f.reset f.key (v % 2 ^ f.width) }

/-- Is a one-bit field 1? -/
def State.flag (s : State) (f : Fld) : Bool := s.rd f != 0

/-- Sets a one-bit field. -/
def State.setF (s : State) (f : Fld) : State := s.wr f 1

/-- Clears a field. -/
def State.clrF (s : State) (f : Fld) : State := s.wr f 0

/-- Hardware sets bits of a W1C field, and the present clock remembers which (R13). -/
def State.raiseBits (s : State) (f : Fld) (m : Nat) : State :=
  { s.wr f (s.rd f ||| m) with clk := { s.clk with
      sets := s.clk.sets.put 0 f.key (s.clk.sets.getD 0 f.key ||| m)
      news := s.clk.news.put 0 f.key (s.clk.news.getD 0 f.key ||| (m - (m &&& s.rd f))) } }

/-- Hardware sets a one-bit W1C field. -/
def State.raise (s : State) (f : Fld) : State := s.raiseBits f 1

/-- Software writes `v` to a W1C field: its 1 bits are cleared, but for those that hardware sets in the same clock (R13). -/
def State.ack (s : State) (f : Fld) (v : Nat) : State :=
  let c := s.rd f &&& v
  s.wr f (s.rd f - (c - (c &&& s.clk.sets.getD 0 f.key)))

/-- What a W1C field held before the present clock's updates (R14). -/
def State.before (s : State) (f : Fld) : Nat := s.rd f - (s.rd f &&& s.clk.news.getD 0 f.key)

/-- Hardware adds an entry to the queue behind the RS register at `addr` (R14). -/
def State.pushed (s : State) (addr : Nat) : State :=
  { s with clk := { s.clk with pushes := s.clk.pushes.put 0 addr (s.clk.pushes.getD 0 addr + 1) } }

/-- How many of the `n` entries behind the RS register at `addr` stood there before the present clock. -/
def State.settled (s : State) (addr n : Nat) : Nat := n - s.clk.pushes.getD 0 addr

/-- Hardware updates the RS register at `addr`, which read `v` until now (R14). -/
def State.updates (s : State) (addr v : Nat) : State :=
  match s.clk.olds.find? addr with
  | some _ => s
  | none => { s with clk := { s.clk with olds := s.clk.olds.insert addr v } }

/-- Hardware sets bits of the RS register at `addr`, which read `v` until now (R14). -/
def State.latches (s : State) (addr v m : Nat) : State :=
  let s := s.updates addr v
  { s with clk := { s.clk with sets := s.clk.sets.put 0 addr (s.clk.sets.getD 0 addr ||| m) } }

/-- What the RS register at `addr`, which now holds `v`, read before the present clock's updates, and what it holds once a
side-effect read has cleared the bits it returned (R14). -/
def State.rsTake (s : State) (addr v : Nat) : Nat × Nat :=
  let old := (s.clk.olds.find? addr).getD v
  (old, (v - (v &&& old)) ||| (v &&& s.clk.sets.getD 0 addr))

/-- Adds one to a counter that saturates at its field's width (R37). -/
def State.inc (s : State) (f : Fld) : State := s.wr f (satSucc f.width (s.rd f))

/-- Adds `k` to a saturating counter. -/
def State.incBy (s : State) (f : Fld) (k : Nat) : State := s.wr f (satAdd f.width (s.rd f) k)

/-- Adds one to a counter that wraps. -/
def State.incWrap (s : State) (f : Fld) : State := s.wr f (s.rd f + 1)

/-- A 64-bit value held in a low and a high register. -/
def State.rd64 (s : State) (f : Nat → Fld) : Nat := s.rd (f 0) + 2 ^ 32 * s.rd (f 1)

/-- Writes a 64-bit value to a low and a high register. -/
def State.wr64 (s : State) (f : Nat → Fld) (v : Nat) : State :=
  (s.wr (f 0) (v % 2 ^ 32)).wr (f 1) (v / 2 ^ 32 % 2 ^ 32)

/-- A 64-bit mask of instances held in a low and a high register: the bit of instance `i`. -/
def State.rdMask (s : State) (f : Nat → Fld) (i : Nat) : Bool := (s.rd (f (i / 32))).testBit (i % 32)

/-- Sets or clears the bit of instance `i` in such a mask. -/
def State.wrMask (s : State) (f : Nat → Fld) (i : Nat) (b : Bool) : State :=
  let m := s.rd (f (i / 32))
  s.wr (f (i / 32)) (if b then maskSet m (i % 32) else maskClr m (i % 32))

/-- Writes a 256-bit digest to HASH0 to HASH7 (R473: byte 0 in bits 31:24 of HASH7). -/
def State.wrHash (s : State) (f : Nat → Fld) (h : Nat) : State :=
  (List.range 8).foldl (fun s k => s.wr (f k) (h / 2 ^ (32 * k) % 2 ^ 32)) s

/-- The 256-bit digest in HASH0 to HASH7. -/
def State.rdHash (s : State) (f : Nat → Fld) : Nat :=
  (List.range 8).foldl (fun h k => h + 2 ^ (32 * k) * s.rd (f k)) 0

/-- The copy of a register block that has a word at offset `off`. -/
def RegBlock.copyAt (b : RegBlock) (off : Nat) : Option (Nat × Nat) :=
  let i := if b.si = 0 then 0 else off / b.si
  let r := if b.si = 0 then off else off % b.si
  let j := if b.sj = 0 then 0 else r / b.sj
  let q := if b.sj = 0 then r else r % b.sj
  if q = 0 ∧ b.i0 ≤ i ∧ i < b.ci ∧ j < b.cj then some (i, j) else none

/-- The register at a byte address, with the numbers of its copy. -/
def regAt (addr : Nat) : Option (RegBlock × Nat × Nat) :=
  regBlocks.findSome? fun b =>
    if b.base ≤ addr then (b.copyAt (addr - b.base)).map fun (i, j) => (b, i, j) else none

/-- The word of the stored fields of the register at `addr`: what a record's VAL word takes as its snapshot. -/
def State.word (s : State) (addr : Nat) : Nat :=
  match regAt addr with
  | none => 0
  | some (b, i, j) =>
    b.fields.foldl (fun w d => match d.acc with
      | .live | .wo | .rs => w
      | _ => w + 2 ^ (d.fld i j).lo * s.rd (d.fld i j)) 0

/-- The state with every stored field of the register at `addr` at its bits of `w`. -/
def State.wrWord (s : State) (addr w : Nat) : State :=
  match regAt addr with
  | none => s
  | some (b, i, j) =>
    b.fields.foldl (fun s d => match d.acc with
      | .live | .wo | .rs => s
      | _ => s.wr (d.fld i j) (w / 2 ^ (d.fld i j).lo)) s

/-! ### Memory -/

/-- What a byte of memory that nothing has written reads as (log entry 5). -/
def memDefault : Byte := 0

/-- One byte of memory. -/
def Memory.read (m : List Host.Cell) (a : Nat) : Byte := Tbl.getD m memDefault a

/-- Memory with one byte written. -/
def Memory.write (m : List Host.Cell) (a : Nat) (v : Byte) : List Host.Cell := Tbl.put m memDefault a v

/-- Memory with a run of bytes written. -/
def Memory.writeRun (m : List Host.Cell) (a : Nat) : List Nat → List Host.Cell
  | [] => m
  | b :: rest => Memory.writeRun (Memory.write m a (BitVec.ofNat 8 b)) (a + 1) rest

/-- The memory's canonical form. -/
def Memory.wf (m : List Host.Cell) : Bool := Tbl.wf memDefault m

/-- Writes a run of bytes to memory. -/
def State.store (s : State) (a : Nat) (bs : List Nat) : State := { s with mem := Memory.writeRun s.mem a bs }

/-- The bytes of a 32-bit word, little-endian (R8). -/
def wordBytes (w : Nat) : List Nat := [w % 256, w / 256 % 256, w / 65536 % 256, w / 16777216 % 256]

/-- `n` bytes of a number, little-endian. -/
def leBytes : Nat → Nat → List Nat
  | 0, _ => []
  | n + 1, v => v % 256 :: leBytes n (v / 256)

/-! ### Time -/

/-- The command's captured FRC instant becomes the one that decides (R40); FRC itself never decreases (R277). -/
def State.tick (s : State) (t : Nat) : State :=
  { s with now := t, frc := max s.frc t, clk := if t = s.now then s.clk else ClockSt.none }

/-- The latest captured instant becomes the present one: what has no captured instant of its own happens then. -/
def State.onward (s : State) : State := s.tick s.frc

/-- T of the FRC value `f` under a parameter set (R278). -/
def TimeParams.toT (p : TimeParams) (f : Nat) : Nat :=
  let d : Int := (f : Int) - p.frcRef
  ofSigned 64 ((f : Int) + p.offset + p.rate * d / (2 ^ 32 : Nat))

/-- T of the FRC value `f`, with the set in force at `f` (R279). -/
def State.tOf (s : State) (f : Nat) : Nat :=
  if s.time.par.applied ≤ f then s.time.par.toT f else s.time.prev.toT f

/-- T now. -/
def State.tNow (s : State) : Nat := s.tOf s.now

/-- TIME_STAT.SYNCED (R293). -/
def State.synced (s : State) : Bool :=
  match s.time.servo with
  | .locked => true
  | .holdover => s.time.fromLocked
  | .free | .grandmaster => s.flag F.TIME_CFG_GM_VALID
  | .acquire => false

/-- Nanoseconds of a number of milliseconds. -/
def ms (n : Nat) : Nat := n * 1000000

/-- Nanoseconds of a number of seconds. -/
def secs (n : Nat) : Nat := n * 1000000000

/-- Has the window [open, open + d) closed at the present instant (R39)? -/
def State.closed (s : State) (opened d : Nat) : Bool := decide (opened + d ≤ s.now)

/-! ### Outcomes and responses -/

/-- The outcome of a command on a unit: the next state, or a fault where the module has no such unit. -/
def onUnit (ok : Bool) (s : State) : Host.Outcome State Fault Refusal :=
  if ok then .next s else .fault .noSuchUnit

/-- The bus response of the access. -/
def State.answer (s : State) (status data : Nat) : State := { s with resp := ⟨status, data⟩ }

/-- A completed access. -/
def State.okay (s : State) : State := s.answer 0 0

/-- The address of an RS register or of its peek alias (R10). -/
def rsAddr (addr : Nat) (peek : Bool) : Nat := if peek then addr + 0x8000 else addr

/-! ### Ties and open values -/

/-- The first requester at or after the pointer, counting upward modulo n (R36). -/
def rotFirst (n ptr : Nat) (req : Nat → Bool) : Option Nat :=
  ((List.range n).map fun k => (ptr + k) % n).find? req

/-- A fresh open value below `n`, and the state with the draw counter advanced (log entry 4). -/
def State.draw (s : State) (n : Nat) : Nat × State :=
  (Config.freeValue s.freeCtr % n, { s with freeCtr := s.freeCtr + 1 })

/-! ### Interrupts -/

/-- Sets or clears an instance's pending bit of source k in SYSCTL_IPENDk (R435). -/
def State.ipend (s : State) (k inst : Nat) (b : Bool) : State := s.wrMask (F.SYSCTL_IPEND_PEND k) inst b

/-- Sources of SYSCTL_IPENDk (*Table: Interrupt sources*). -/
def ipCanRing : Nat := 0
def ipPwe : Nat := 1
def ipStation : Nat := 2
def ipNetmgt : Nat := 3
def ipPowerFail : Nat := 4

/-! ### Records -/

/-- Places `r` in a port's queue: in the order in which records reach it, those of one instant by increasing SOURCE
(R409). -/
def portInsert (r : Record) : List Record → List Record
  | [] => [r]
  | q :: rest => if q.stamp = r.stamp ∧ r.source < q.source then r :: q :: rest else q :: portInsert r rest

/-- SOURCE (R405): domain (0 hub, 1 lane, 2 engine, 3 Cellar), instance and unit. -/
def sourceWord (dom inst unit : Nat) : Nat := dom % 4 * 16384 + inst % 64 * 256 + unit % 256

/-- FLAGS of a record at the present instant (R406): bit 0 UNSYNC, bit 1 NOT_TAI. -/
def State.recFlags (s : State) : Nat := bit (!s.synced) + 2 * bit (!s.flag F.TIME_STAT_EPOCH_VALID)

/-- Places a record at its writer port (R409). -/
def State.toPort (s : State) (r : Record) : State :=
  { s with log := { s.log with ports := s.log.ports.put [] r.cls (portInsert r (s.log.ports.getD [] r.cls)) } }

/-- "Writes one record": it reaches the writer port of its CLASS with T at the captured instant (R405 to R409). -/
def State.record (s : State) (cls kind sev subj status : Nat) (vals : List Nat) (src : Nat := 0) : State :=
  s.toPort ⟨0, sev, cls, kind, s.tNow, src, status, s.recFlags, subj % 65536, vals, [], s.now, true⟩

/-! ### Source frames -/

/-- A source frame is offered to the gateway (R202). -/
def State.offerSrc (s : State) (f : SrcFrame) : State :=
  if s.flag F.GWTAB_CTL_CLASSIFY_EN then { s with stair := { s.stair with offered := s.stair.offered ++ [f] } } else s

/-! ### Region checks -/

/-- The region set that covers an address (R344), none where no set does. -/
def regionSet (addr : Nat) : Option Nat :=
  if 0x10000000 ≤ addr ∧ addr < 0x10400000 then some 0
  else if 0x0800000000 ≤ addr ∧ addr < 0x0A00000000 then some 1
  else if 0x40000000 ≤ addr ∧ addr < 0x60000000 then some 3
  else none

/-- A field of a region word as it stood before a write of the present clock (R346). -/
def State.rgn (s : State) (f : Fld) : Nat :=
  match s.clk.olds.find? f.addr with
  | some w => w / 2 ^ f.lo % 2 ^ f.width
  | none => s.rd f

/-- Does region r of set k contain the address? -/
def State.inRegion (s : State) (k r addr : Nat) : Bool :=
  s.rgn (F.WORLD_RGN2_EN k r) != 0 && decide (s.rgn (F.WORLD_RGN0_BASE k r) ≤ addr / 4096) &&
    decide (addr / 4096 ≤ s.rgn (F.WORLD_RGN1_LIMIT k r))

/-- Does region r of set k let the transaction pass (R344)? -/
def State.regionAllows (s : State) (k r : Nat) (a : Attr) (write : Bool) : Bool :=
  (s.rgn (F.WORLD_RGN2_DOM k r)).testBit a.dom.regionBit &&
  (s.rgn (F.WORLD_RGN2_INST_EN k r) == 0 || s.rgn (F.WORLD_RGN2_INST k r) == a.inst) &&
  (match a.attic, write with
    | true, false => s.rgn (F.WORLD_RGN2_A_R k r) != 0
    | true, true => s.rgn (F.WORLD_RGN2_A_W k r) != 0
    | false, false => s.rgn (F.WORLD_RGN2_P_R k r) != 0
    | false, true => s.rgn (F.WORLD_RGN2_P_W k r) != 0)

/-- The check of a transaction against region set k (R344): the enabled region of lowest index that contains the
address decides; with none, the Attic passes and the Parlour fails. -/
def State.setPasses (s : State) (k addr : Nat) (a : Attr) (write : Bool) : Bool :=
  match (List.range 32).find? (fun r => s.inRegion k r addr) with
  | some r => s.regionAllows k r a write
  | none => a.attic

/-- The check of a transaction at its target. -/
def State.passes (s : State) (addr : Nat) (a : Attr) (write : Bool) : Bool :=
  match regionSet addr with
  | some k => s.setPasses k addr a write
  | none => true

/-- The number under which the 1 s window of an initiator and a region set is kept (R345). -/
def violKey (a : Attr) (set : Nat) : Nat := (a.inst * 4 + a.dom.code) * 8 + bit a.attic * 4 + set

/-- Enters an entry in the violation log of 16, or counts it in LOST (R345). -/
def State.logViol (s : State) (v : Viol) : State :=
  if s.world.viols.length < 16 then
    ({ s with world := { s.world with viols := s.world.viols ++ [v] } }).pushed 0x41200010
  else s.inc F.WORLD_VIOL_CNT_LOST

/-- A transaction refused with DENIED_WORLD (R345): logged, counted, answered, and recorded once a second for each pair
of initiator and set. -/
def State.deny (s : State) (a : Attr) (set addr : Nat) (write : Bool) : State :=
  let s := (s.logViol ⟨0x0E, a, set, write, addr⟩).inc F.WORLD_VIOL_CNT_DENIED
  let k := violKey a set
  let due := match s.world.violWin.find? k with
    | none => true
    | some t0 => s.closed t0 (secs 1)
  let s := if due then
      ({ s with world := { s.world with violWin := s.world.violWin.insert k s.now } }).record 0x0F 0x01 4 set 0x0E
        [s.word F.WORLD_STAT_ROOT.addr] (sourceWord a.dom.code a.inst 0)
    else s
  s.answer 0x0E 0

/-- A checked access to a register: `eff` where the region check and the register's own restriction pass, DENIED_WORLD
where not (R344, R345). -/
def State.guarded (s : State) (a : Attr) (addr : Nat) (write own : Bool) (eff : State → State) : State :=
  if s.passes addr a write && own then eff s.okay
  else s.deny a ((regionSet addr).getD 3) addr write

/-- The 4 KB pages of the `n` bytes from `addr`, each by the first of those bytes in it. -/
def pagesOf (addr n : Nat) : List Nat :=
  (List.range ((addr + n - 1) / 4096 - addr / 4096 + 1)).map fun k => if k = 0 then addr else (addr / 4096 + k) * 4096

/-- A block of the hub reads or writes the `n` bytes from `addr` of a memory: `eff` where every page passes its region check, and
`bad` after the first refused one has been handled as a failed transaction of that block (R29, R344, R345). -/
def State.buffer (s : State) (addr n : Nat) (write : Bool) (eff bad : State → State) : State :=
  match (pagesOf addr n).find? fun p => !s.passes p Attr.hubBlock write with
  | none => eff s
  | some p => bad { s.deny Attr.hubBlock ((regionSet p).getD 3) p write with resp := s.resp }

/-- Does a block of the hub reach those bytes? -/
def State.reaches (s : State) (addr n : Nat) (write : Bool) : Bool :=
  (pagesOf addr n).all fun p => s.passes p Attr.hubBlock write

end Sys2Proof.Machine
end

