-- ==== Sys2Proof/Machine/Vital.lean ====
section
/-! DEFINITION. The operations that the vital domain and the Fusebox share: lanes and their lines (R86 to R88), the
effective command of a channel (R26), a channel's way off, program values, seals (R120), exclusion (R93), the vote mode's
SAFE (R91), the abort of a reintegration attempt (R104) and the cancelling of an online change (R126). -/

namespace Sys2Proof

/-- The lanes in the order of R38. -/
def laneIds : List LaneId := [.a, .b, .c]

/-- The number of a lane: 0, 1, 2 for A, B, C. -/
def LaneId.idx : LaneId → Nat
  | .a => 0 | .b => 1 | .c => 2

/-- The two other lanes. -/
def LaneId.others (l : LaneId) : List LaneId := laneIds.filter fun m => m ≠ l

/-- The link between two lanes, lower letter first (R73). -/
def linkOf (l m : LaneId) : LaneId × LaneId := if l.idx < m.idx then (l, m) else (m, l)

/-- The bit of a line in a lane's line masks. -/
def LineKind.bit : LineKind → Nat
  | .cmd n => n | .permit t => 48 + t | .authReq => 54

/-- The tile whose hold latch holds a line: AUTH_REQ acts in tile 0 (*The AUTH loop*). -/
def LineKind.tile : LineKind → Nat
  | .cmd n => n / 8 | .permit t => t | .authReq => 0

/-- The declaration of a variable ID. -/
def Program.decl (p : Program) (id : Nat) : Option VarDecl := p.vars.find? fun d => d.id = id

end Sys2Proof

namespace Sys2Proof.Machine

/-! ### CRC-32 -/

/-- `k` steps of the CRC-32 of IEEE 802.3, reflected. -/
def crcStep (c : Nat) : Nat → Nat
  | 0 => c
  | k + 1 => crcStep (if c % 2 = 1 then (c / 2) ^^^ 0xEDB88320 else c / 2) k

/-- The CRC-32 of a byte string. -/
def crc32 (bs : List Nat) : Nat :=
  bs.foldl (fun c b => crcStep (c ^^^ (b % 256)) 8) 0xFFFFFFFF ^^^ 0xFFFFFFFF

/-! ### Lanes and their lines -/

/-- A lane. -/
def State.ln (s : State) (l : LaneId) : Lane := s.lane.lanes.getD Lane.init l.idx

/-- The state with a lane changed. -/
def State.modLn (s : State) (l : LaneId) (f : Lane → Lane) : State :=
  { s with lane := { s.lane with lanes := s.lane.lanes.put Lane.init l.idx (f (s.ln l)) } }

/-- The state with each of some lanes changed. -/
def State.modLanes (s : State) (ls : List LaneId) (f : Lane → Lane) : State := ls.foldl (fun s l => s.modLn l f) s

/-- A lane drives its lines: a line that changes has its level from now on (R87). -/
def Lane.drive (x : Lane) (lines now : Nat) : Lane :=
  { x with driven := lines
           lineAt := ((List.range 55).filter fun b => (x.driven ^^^ lines).testBit b).foldl (fun m b => m.insert b now) x.lineAt }

/-- Does the lane execute programs? -/
def Lane.executes (l : Lane) : Bool := l.state == .active || l.state == .shadow

/-- A lane's output-phase deadline: the close of its execute window (R41, R77), P being its own corrected period. -/
def Lane.deadline (x : Lane) : Nat := x.boundary + x.period - 300000

/-- The ACTIVE lanes. -/
def State.actives (s : State) : List LaneId := laneIds.filter fun l => (s.ln l).state = .active

/-- Is lane `l` the ACTIVE lane of the lowest letter? -/
def State.isLowest (s : State) (l : LaneId) : Bool := s.actives.head? == some l

/-- The cycle number (R84). -/
def State.cycleNo (s : State) : Nat := s.rd F.LANEIF_CYCLE_CNT_CYCLE

/-- P in ns (R77). -/
def State.period (s : State) : Nat := s.rd F.LANEIF_CFG_PERIOD * 100000

/-- A tile counts a lane's line as ON: the counted line is ON and its hold latch for the lane is clear (R87, R94). -/
def State.lineCounts (s : State) (bit tile : Nat) (l : LaneId) : Bool :=
  (s.ln l).counted.testBit bit && !(s.ln l).hold.testBit tile

/-- A Threshold gate: ON when at least two of the three counted lines are ON (R87). -/
def State.gate (s : State) (bit tile : Nat) : Bool :=
  decide (2 ≤ (laneIds.filter fun l => s.lineCounts bit tile l).length)

/-- The group permissive of a tile (R88). -/
def State.tilePermit (s : State) (tile : Nat) : Bool := s.gate (48 + tile) tile

/-- The AUTH_REQ gate (*The AUTH loop*). -/
def State.authGate (s : State) : Bool := s.gate 54 0

/-- Authority (R26): no pair is configured, or AUTH_HELD is granted. -/
def State.authority (s : State) : Bool := !s.flag F.PAIR_CFG_PAIR_EN || s.pair.held

/-- Is channel `n` a VITAL channel (R43)? -/
def State.vital (s : State) (n : Nat) : Bool := s.flag (F.CH_PROFILE_CH_MODE n)

/-- The effective command of a channel: R26 with the protection layers left out. -/
def State.effCmd (s : State) (n : Nat) : Bool :=
  if s.vital n then s.gate n (n / 8) && s.authority
  else s.flag (F.CH_CTL_HUB_CMD n) && s.tilePermit (n / 8) && (!s.flag (F.CH_PROFILE_PAIRED n) || s.authority)

/-- The safe pattern's command lines (R91): ON exactly where SAFE_ON is 1, permissives and AUTH_REQ OFF. -/
def State.safeMask (s : State) : Nat :=
  (List.range 48).foldl (fun m n => if s.flag (F.CH_PROFILE_SAFE_ON n) then maskSet m n else m) 0

/-! ### Channels -/

/-- The power engine of a channel (*Table: Channel classes*). -/
def engineOf (n : Nat) : Nat := if n < 12 then 12 else if n < 24 then 13 else if n < 36 then 14 else 15

/-- The channels of a power engine. -/
def channelsOf (e : Nat) : List Nat := (List.range 48).filter fun n => engineOf n = e

/-- An engine. -/
def State.eng (s : State) (e : Nat) : Engine := s.dve.engines.getD Engine.init e

/-- The state with an engine changed. -/
def State.modEng (s : State) (e : Nat) (f : Engine → Engine) : State :=
  { s with dve := { s.dve with engines := s.dve.engines.put Engine.init e (f (s.eng e)) } }

/-- Sets an edge event of an engine (R187). -/
def State.raiseEdge (s : State) (e k : Nat) : State := s.modEng e fun x => { x with edges := maskSet x.edges k }

/-- A channel. -/
def State.chan (s : State) (n : Nat) : Channel := s.fuse.chans.getD Channel.init n

/-- A word of a channel's page: what a CSTW has left there, or what the standard channel program has it at (R191, R178). -/
def State.pageWord (s : State) (n off std : Nat) : Nat :=
  let x := s.eng (engineOf n)
  (x.page.find? (0x10000 + 0x20 * n + off)).getD (if x.std then std else 0)

/-- Layer 3: bit 0 of GATE lets the channel conduct (R191); the standard channel program leaves it at 1. -/
def State.layer3 (s : State) (n : Nat) : Bool := (s.pageWord n 0 1).testBit 0

/-- The state with a channel changed. -/
def State.modChan (s : State) (n : Nat) (f : Channel → Channel) : State :=
  { s with fuse := { s.fuse with chans := s.fuse.chans.put Channel.init n (f (s.chan n)) } }

/-- A change of a channel's state or grant, which its power engine sees as CH_EVT (R187). -/
def State.setCh (s : State) (n : Nat) (f : Channel → Channel) : State := (s.modChan n f).raiseEdge (engineOf n) 30

/-- The code of a channel state (CH_STAT.STATE). -/
def ChState.code : ChState → Nat
  | .off => 0 | .queued => 1 | .starting => 2 | .on => 3 | .retryWait => 4 | .latched => 5

/-- The word of CH_STAT. -/
def State.chStat (s : State) (n : Nat) : Nat :=
  (s.chan n).state.code * 2 ^ 29 + bit (s.effCmd n) * 2 ^ 28 + bit s.authority * 2 ^ 27 +
    s.word (F.CH_STAT_RETRY_CNT n).addr

/-- A record of the Fusebox about a channel (R407). -/
def State.fuseRecord (s : State) (kind sev n status : Nat) (vals : List Nat) : State :=
  s.record 0x02 kind sev n status (s.chStat n :: vals) n

/-- A channel leaves the start queue. -/
def State.dequeue (s : State) (n : Nat) : State :=
  { s with fuse := { s.fuse with
      queue := s.fuse.queue.filter (fun m => m ≠ n), fresh := s.fuse.fresh.filter (fun m => m ≠ n) } }

/-- STARTING or ON. -/
def ChState.live (c : ChState) : Bool := c == .starting || c == .on

/-- Does a channel conduct (R26): STARTING or ON, its effective command ON, no protection layer holding it off, and not while
the input bus is below 9 V (R66)? -/
def State.conducts (s : State) (n : Nat) : Bool :=
  (s.chan n).state.live && s.effCmd n && s.layer3 n && !s.pwr.below9

/-- A channel stops conducting or leaves the queue for state `next`: its reservations are released at once (R58), its dither
ends (R54), and its freewheel path opens, so that what energy the load still holds goes into the clamp (R466). The present
clock remembers what CH_STAT read before an entry to LATCHED (R69). -/
def State.chanTo (s : State) (n : Nat) (next : ChState) : State :=
  let s := if next = .latched then s.updates (F.CH_STAT_RETRY_CNT n).addr (s.chStat n) else s
  (s.dequeue n).setCh n fun c =>
    { c with state := next, hand := false, late := false, inr := 0, slew := 0, duty := 0, phase := none, wheel := false,
             clamp := c.state.live || c.clamp }

/-- Sets a fault bit of CH_STAT and writes its record unless the bit is set already; a VITAL channel's record is at
severity 6 (R68). -/
def State.chFault (s : State) (n : Nat) (f : Fld) (kind sev : Nat) : State :=
  if s.flag f then s.raise f
  else
    let s := s.raise f
    s.fuseRecord kind (if s.vital n then 6 else sev) n 0 [s.word (F.CH_DIAG_TJ n).addr]

/-- A short-circuit cut, a fuse trip or an over-temperature trip of a STARTING or ON channel (*Table: Channel states*). -/
def State.chTrip (s : State) (n : Nat) : State :=
  let k := s.rd (F.CH_STAT_RETRY_CNT n)
  if k < s.rd (F.CH_PROFILE_RETRY_MAX n) then
    ((s.chanTo n .retryWait).modChan n fun c => { c with tripAt := s.now }).wr (F.CH_STAT_RETRY_CNT n) (k + 1)
  else s.chanTo n .latched

/-- Does the power engine of a channel run (RUNNING or WAITING, R197)? -/
def State.powerRuns (s : State) (n : Nat) : Bool :=
  (s.eng (engineOf n)).state == .running || (s.eng (engineOf n)).state == .waiting

/-- From a power-fail declaration to the end of the sequence (R65): also one that sleep entry completes before (R311). -/
def State.inPowerFail (s : State) : Bool := s.pwr.state == .powerFail || s.pwr.pfInEntry

/-- The lanes cycle: powered, and neither in the power-fail order (R32) nor in sleep entry (R311). -/
def State.lanesRun (s : State) : Bool := s.pwr.laneUp && !s.inPowerFail && s.pwr.state != .sleepEntry

/-- A channel's energise request (R27, R60); in the place of an engine that does not run the channel latches (R197). -/
def State.enqueue (s : State) (n : Nat) (hand : Bool) : State :=
  if s.inPowerFail ∨ s.pwr.state = .sleepEntry then s
  else if !s.powerRuns n then s.chanTo n .latched
  else
    let s := s.setCh n fun c => { c with state := .queued, hand := hand, late := false, reqTick := s.now }
    { s with fuse := { s.fuse with fresh := s.fuse.fresh ++ [n] } }

/-- The tile reads the output and the input bus, in 10 mV units, as a request is made. -/
def State.senseOut (s : State) (n vOut vBus : Nat) : State :=
  (s.wr (F.CH_DIAG_V_OUT n) (min vOut 65535)).wr F.PWRMGR_BUS_V_BUS (min vBus 65535)

/-- R46: a request of a paired channel whose V_OUT is at or above 80 % of the input bus is a handover start. -/
def State.isHandover (s : State) (n : Nat) : Bool :=
  s.flag F.PAIR_CFG_PAIR_EN && s.flag (F.CH_PROFILE_PAIRED n) &&
    decide (80 * s.rd F.PWRMGR_BUS_V_BUS ≤ 100 * s.rd (F.CH_DIAG_V_OUT n))

/-! ### Words of LANEIF_STAT, CYCMGR_STAT and PAIR_STAT -/

/-- The code of a vote mode. -/
def VoteMode.code : VoteMode → Nat
  | .notArmed => 0 | .v2oo3 => 1 | .v2oo2 => 2 | .safe => 3

/-- The code of a lane state. -/
def LaneState.code : LaneState → Nat
  | .active => 0 | .excluded => 1 | .returning => 2 | .shadow => 3 | .lockedOut => 4 | .starting => 5

/-- The word of LANEIF_STAT. -/
def State.laneifStat (s : State) : Nat :=
  s.lane.vote.code * 2 ^ 30 + (s.ln .a).state.code * 2 ^ 27 + (s.ln .b).state.code * 2 ^ 24 +
    (s.ln .c).state.code * 2 ^ 21 + bit s.lane.armed * 2 ^ 20

/-- The attempts of a lane begun within the last 3,600 s (R98, LANEIF_LANEx.ATTEMPTS). -/
def State.recentAttempts (s : State) (l : LaneId) : List Nat :=
  (s.ln l).attempts.filter fun t0 => decide (s.now ≤ t0 + secs 3600)

/-- The word of LANEIF_LANEx. -/
def State.laneWord (s : State) (l : LaneId) : Nat :=
  s.word (F.LANEIF_LANE_CAUSE l.idx).addr + min 3 (s.recentAttempts l).length * 2 ^ 26

/-- A record of class LANES from a lane (R407). -/
def State.laneRecord (s : State) (kind sev subj unit : Nat) (vals : List Nat) : State :=
  s.record 0x03 kind sev subj 0 (s.laneifStat :: vals) (sourceWord 1 0 unit)

/-- The code of a program mode. -/
def ProgMode.code : ProgMode → Nat
  | .stop => 0 | .run => 1 | .hold => 2 | .safe => 3 | .starting => 4

/-- The code of an online-change state. -/
def OcState.code : OcState → Nat
  | .idle => 0 | .loaded => 1 | .armed => 2 | .cancelled => 3 | .failed => 4

/-- Is a maintenance token active, as the lanes see it (R134)? -/
def State.tokenActive (s : State) : Bool := s.cyc.token.isSome

/-- The backlog of a lane in cycles (R112). -/
def Lane.backlog (l : Lane) : Nat := l.queue.length + (if l.running.isSome then 1 else 0)

/-- CYCMGR_STAT.BACKLOG. -/
def State.backlog (s : State) : Nat := (laneIds.map fun l => (s.ln l).backlog).foldl max 0

/-- The word of CYCMGR_STAT. -/
def State.cycStat (s : State) : Nat :=
  s.word F.CYCMGR_STAT_LAST_RESTART.addr + s.cyc.mode.code * 2 ^ 29 + s.cyc.oc.code * 2 ^ 21 +
    bit s.tokenActive * 2 ^ 20 + s.cyc.cmds.length * 2 ^ 9 + min 8 s.backlog

/-- A record of class PROGRAM (R407). -/
def State.progRecord (s : State) (kind sev subj : Nat) (vals : List Nat) : State :=
  s.record 0x04 kind sev subj 0 (s.cycStat :: vals) (sourceWord 1 0 0)

/-- The program that a lane runs: that of its active bank (R127). -/
def State.progOf (s : State) (l : LaneId) : Option Program :=
  match (s.ln l).oldProg with
  | some p => some p
  | none => s.cyc.act

/-! ### Program values and seals -/

/-- The state of a function block as one number, the value its variable holds (log entry 12). -/
def FbState.toNat (f : FbState) : Nat := f.et + 2 ^ 32 * (bit f.on + 2 * bit f.prev2 + 4 * bit f.q) + 2 ^ 35 * f.cv

/-- The value of a declared variable in a lane: a function block's state, a written value or the initial value. -/
def Lane.valueOf (l : Lane) (d : VarDecl) : Nat :=
  match l.fbs.find? d.id with
  | some f => f.toNat
  | none => (l.vars.find? d.id).getD d.init

/-- The value of a variable ID in a lane. -/
def Lane.var (l : Lane) (p : Program) (id : Nat) : Nat := ((p.decl id).map l.valueOf).getD 0

/-- A block's state from its number. -/
def FbState.ofNat (v : Nat) : FbState :=
  let f := v / 2 ^ 32
  ⟨v % 2 ^ 32, f.testBit 0, f.testBit 1, f.testBit 2, v / 2 ^ 35⟩

/-- A lane's variables as the bytes of the carried region bring them: carried ones taken, the others at their initial values
(R98, R101). These are writes to the retained ones among them (R120). -/
def Lane.takeRegion (l : Lane) (p : Program) (bytes : List Nat) : Lane :=
  let taken := p.vars.filter fun d => d.carried
  { l with
    fbs := []
    vars := taken.foldl (fun m d => m.insert d.id
      ((List.range d.size).foldl (fun n k => n + bytes.getD (d.offset + k) 0 * 256 ^ k) 0)) []
    sealed := if p.vars.any fun d => d.retained then none else l.sealed }

/-- The bytes of a region: every byte of a variable of the region in its place, 0 elsewhere (R107). -/
def regionBytes (p : Program) (l : Lane) (inRegion : VarDecl → Bool) (size : Nat) : List Nat :=
  (List.range size).map fun o =>
    match p.vars.find? (fun d => inRegion d && decide (d.offset ≤ o) && decide (o < d.offset + d.size)) with
    | some d => l.valueOf d / 256 ^ (o - d.offset) % 256
    | none => 0

/-- The state signature: CRC-32 over the carried region (R85). -/
def Lane.signature (l : Lane) (p : Program) : Nat := crc32 (regionBytes p l (fun d => d.carried) p.carriedSize)

/-- The CRC of a seal: over the retained region, the program hash and the cycle number (R120). DESIGN CHOICE (log entry 78): a
retained variable lies in the retained region at its offset of VARTAB, and the region is its first `retainedLen` bytes; the
spec gives a variable one offset. -/
def Lane.sealCrc (l : Lane) (p : Program) (cyc : Nat) : Nat :=
  crc32 (regionBytes p l (fun d => d.retained) p.retainedLen ++ leBytes 32 p.hash ++ leBytes 4 cyc)

/-- The lanes seal the retained region (R120). -/
def State.sealAll (s : State) : State :=
  match s.cyc.act with
  | none => s
  | some p => s.modLanes laneIds fun l =>
      { l with sealed := some ⟨p.hash, s.cycleNo, l.sealCrc p s.cycleNo⟩ }

/-! ### Pins (R160, R162) -/

/-- The other pin of a quadrature pair (R162). -/
def pairPin (u : Nat) : Nat := if u % 2 = 0 then u + 1 else u - 1

/-- The mode a pin works in: QUAD set on one pin of a pair alone reads OFF (R162). -/
def State.pinMode (s : State) (u : Nat) : Nat :=
  let m := s.rd (F.UIO_PIN_CFG_MODE u)
  if m = 8 ∧ s.rd (F.UIO_PIN_CFG_MODE (pairPin u)) ≠ 8 then 0 else m

/-- Is U0 to U15 bound in IOMAP of the active program (R159)? -/
def State.pinBound (s : State) (u : Nat) : Bool :=
  decide (u < 16) && match s.cyc.act with
    | none => false
    | some p => p.io.any fun b => match b with
      | .din k _ _ | .ain k _ _ => k == u
      | .vin _ _ _ | .cmd _ _ | .permit _ _ | .vout _ _ => false

/-- A bound pin's mode, thresholds and filter are those of the setup image (R159). -/
def State.fixPin (s : State) (u : Nat) : State :=
  match s.pinBound u, s.setup.pins.find? u with
  | true, some x =>
    ((((s.wr (F.UIO_PIN_CFG_MODE u) x.mode).wr (F.UIO_PIN_CFG_DEB u) x.deb).wr (F.UIO_PIN_CFG_FGATE u) x.fgate).wr
      (F.UIO_PIN_THR_TH_HI u) x.thHi).wr (F.UIO_PIN_THR_TH_LO u) x.thLo
  | _, _ => s

/-- What STOP lets take effect on U0 to U15: a pin that the active program binds works under the setup image (R159). -/
def State.fixPins (s : State) : State := (List.range 16).foldl State.fixPin s

/-- The settings of U0 to U15 that a load of the setup image has given are kept for the pins that come to be bound (R159). -/
def State.keepPins (s : State) : State :=
  { s with setup := { s.setup with pins := (List.range 16).map fun u => (u,
      ⟨s.rd (F.UIO_PIN_CFG_MODE u), s.rd (F.UIO_PIN_CFG_DEB u), s.rd (F.UIO_PIN_CFG_FGATE u), s.rd (F.UIO_PIN_THR_TH_HI u),
        s.rd (F.UIO_PIN_THR_TH_LO u)⟩) } }

/-- The level by the two thresholds (R160): 1 at TH_HI or above, 0 below TH_LO, else unchanged. -/
def State.levelOf (s : State) (u : Nat) (old : Bool) (mv : Int) : Bool :=
  if (100 * s.rd (F.UIO_PIN_THR_TH_HI u) : Nat) ≤ mv then true
  else if mv < (100 * s.rd (F.UIO_PIN_THR_TH_LO u) : Nat) then false else old

/-! ### Reintegration aborts, online-change cancel, SAFE, exclusion -/

/-- The lane in RETURNING or SHADOW, if any. -/
def State.attempting (s : State) : Option LaneId :=
  laneIds.find? fun l => (s.ln l).state == .returning || (s.ln l).state == .shadow

/-- A lane that returns to EXCLUDED with BIST (R96, R104): its lines OFF, its work dropped. -/
def Lane.toBist (l : Lane) (now : Nat) : Lane :=
  { l.drive 0 now with
    state := .excluded, laneOk := 0, bistOk := false, bistStart := some now, exclFor := [], disRun := 0, readRun := 0,
    skewRun := 0, queue := [], running := none, forces := [], oldProg := none, out := none, sent := none, agreed := none }

/-- The attempt in progress is aborted with a cause of LANEIF_REINT.ABORT_CAUSE; of several causes in one cycle the lowest
code stands (R104). -/
def State.abortAttempt (s : State) (cause : Nat) : State :=
  match s.attempting with
  | none =>
    if s.lane.abortAt = some s.cycleNo ∧ cause < s.rd F.LANEIF_REINT_ABORT_CAUSE then s.wr F.LANEIF_REINT_ABORT_CAUSE cause
    else s
  | some l =>
    let s := s.modLn l fun x => x.toBist s.now
    let s := { s with lane := { s.lane with abortAt := some s.cycleNo } }
    let s := (s.wr F.LANEIF_REINT_ABORT_CAUSE cause).clrF F.LANEIF_REINT_IN_PROGRESS
    s.laneRecord 0x05 5 l.idx l.idx [s.word F.LANEIF_REINT_LANE.addr]

/-- An ARMED online change is cancelled (R126). -/
def State.cancelOc (s : State) : State :=
  if s.cyc.oc = .armed then ({ s with cyc := { s.cyc with oc := .cancelled } }).progRecord 0x04 4 0 [] else s

/-- The bytes of a SHA-256 digest as a record or an image holds it: byte 0 first (R473). -/
def digestBytes (h : Nat) : List Nat := (leBytes 32 h).reverse

/-- The words of a digest in a record (R405, R473). -/
def digestWords (h : Nat) : List Nat :=
  (List.range 8).map fun k => ((List.range 4).map fun j => (digestBytes h).getD (4 * k + j) 0 * 256 ^ j).sum

/-- The lanes discard the queued images and the backlog (R112). -/
def State.dropWork (s : State) : State := s.modLanes laneIds fun l => { l with queue := [], running := none }

/-- Every ACTIVE lane drives the safe pattern at once (R91). -/
def State.driveSafe (s : State) : State := s.modLanes s.actives fun l => l.drive s.safeMask s.now

/-- The program mode leaves RUN for SAFE (*Table: Program modes*). -/
def State.modeSafe (s : State) : State :=
  if s.cyc.mode = .run then { (s.sealAll) with cyc := { s.cyc with mode := .safe } } else s

/-- The vote mode becomes SAFE (R91): the safe pattern at once, one record at severity 7, arming withdrawn; with it the
program mode becomes SAFE, an attempt is aborted with cause 0x7 and an online change cancelled, and the power state
follows (R375). DESIGN CHOICE (log entry 77): the record concerns no lane or input; its SUBJ is 0 and its unit lane A's. -/
def State.voteSafe (s : State) : State :=
  if s.lane.vote = .safe then s else
  let s := { s with lane := { s.lane with vote := .safe, armed := false } }
  let s := (s.driveSafe.laneRecord 0x03 7 0 0 []).modeSafe.dropWork.cancelOc.abortAttempt 7
  if s.pwr.state = .run then { s with pwr := { s.pwr with state := .safe } } else s

/-- The vote mode after a lane has left ACTIVE (*Table: Vote mode*); not armed it stays (R477). -/
def State.voteAfterLoss (s : State) : State :=
  match s.lane.vote with
  | .v2oo3 => if s.actives.length < 2 then s.voteSafe else { s with lane := { s.lane with vote := .v2oo2 } }
  | .v2oo2 => if s.actives.length < 2 then s.voteSafe else s
  | .notArmed | .safe => s

/-- An ACTIVE lane is excluded with a cause of *Table: Exclusion causes* (R93, R96). -/
def State.excludeLane (s : State) (l : LaneId) (cause : Nat) : State :=
  if (s.ln l).state = .active then
    let s := s.modLn l fun x => x.toBist s.now
    let s := s.modLanes s.actives fun x => { x with exclFor := l :: x.exclFor.filter (fun m => m ≠ l) }
    let s := (s.wr (F.LANEIF_LANE_CAUSE l.idx) cause).inc (F.LANEIF_LANE_EXCL_CNT l.idx)
    let s := (s.laneRecord 0x01 6 l.idx l.idx [s.laneWord l]).cancelOc
    let s := if s.actives.length < 2 then s.abortAttempt 6 else s
    s.voteAfterLoss
  else s

/-- A cause of *Table: Exclusion causes* that arises in lane `l`: an ACTIVE lane is excluded, a returning one aborts its
attempt with cause 0x5, any other only stops LANE_OK (R93, R104). -/
def State.laneCause (s : State) (l : LaneId) (cause : Nat) : State :=
  match (s.ln l).state with
  | .active => s.excludeLane l cause
  | .returning | .shadow => (s.wr (F.LANEIF_LANE_CAUSE l.idx) cause).abortAttempt 5
  | .excluded | .lockedOut | .starting =>
    let s := s.modLn l fun x => { x with laneOk := 0 }
    if s.lane.abortAt = some s.cycleNo ∧ s.rd F.LANEIF_REINT_LANE = l.idx then
      (s.wr (F.LANEIF_LANE_CAUSE l.idx) cause).abortAttempt 5
    else s

end Sys2Proof.Machine
end

