-- ==== Sys2Proof/Machine/Queue.lean ====
section
/-! DEFINITION. Instances and queues, as every block uses them: entries (R182), pool queues and occupancy (R323), the
CAN rings' geometry (R256, R257), admission (R325, R326), completions (R332) and the fence's bookkeeping (R331). -/

namespace Sys2Proof

/-- The words of an entry: its header and its payload. -/
def Entry.size (e : Entry) : Nat := e.payload.length + 1

/-- The header word of an entry of LEN `len` (R182). -/
def headerWord (inst status len : Nat) : Nat := inst % 64 * 2 ^ 26 + status % 256 * 2 ^ 18 + len % 4096

end Sys2Proof

namespace Sys2Proof.Machine

/-! ### Instances -/

/-- An instance. -/
def State.inst (s : State) (i : Nat) : Inst := s.vim.insts.getD Inst.init i

/-- The state with an instance changed. -/
def State.modInst (s : State) (i : Nat) (f : Inst → Inst) : State :=
  { s with vim := { s.vim with insts := s.vim.insts.put Inst.init i (f (s.inst i)) } }

/-- The code of an instance state. -/
def InstState.code : InstState → Nat
  | .free => 0 | .active => 1 | .resetting => 2 | .freezing => 3 | .frozen => 4 | .saving => 5

/-- Is the instance held by a freeze (R335)? -/
def InstState.held : InstState → Bool
  | .freezing | .frozen | .saving => true
  | .free | .active | .resetting => false

/-- The word of VIM_INST_STAT, which VIM records carry as VAL0 (R407). -/
def State.instStat (s : State) (i : Nat) : Nat :=
  s.word (F.VIM_INST_STAT_OVERSHARE i).addr + (s.inst i).state.code * 2 ^ 29

/-- Sets LAST_RESULT of an instance. -/
def State.lastResult (s : State) (i v : Nat) : State := s.wr (F.VIM_INST_STAT_LAST_RESULT i) v

/-- A Parlour transaction of a core without a mapping carries instance 0; where it fails an instance check it counts in MAP_MISS
(R318, R321). -/
def State.noteMiss (s : State) (a : Attr) : State := if !a.attic ∧ a.inst = 0 then s.inc F.VIM_CNT_MAP_MISS else s

/-! ### Rings -/

/-- Data bytes per element of a SLOT code, 0 where reserved. -/
def slotBytes (code : Nat) : Nat := [8, 12, 16, 20, 24, 32, 48, 64, 128, 256, 512, 1024, 2048].getD code 0

/-- Data bytes per element of ring r. -/
def State.ringSlot (s : State) (r : Nat) : Nat := slotBytes (s.rd (F.CANRAM_RING0_SLOT r))

/-- The words that an element of ring r counts for (R323). -/
def State.ringWords (s : State) (r : Nat) : Nat := 8 + s.ringSlot r / 4

/-- The element indices of ring r, and the elements from index `a` up to `b` of it, counted forward. -/
def State.ringPut (s : State) (r : Nat) : Nat := s.rd (F.CANRAM_RING2_PUT r)
def State.ringGet (s : State) (r : Nat) : Nat := s.rd (F.CANRAM_RING2_GET_RECLAIM r)
def State.ringDone (s : State) (r : Nat) : Nat := s.rd (F.CANRAM_RING3_DONE r)
def State.ringDist (s : State) (r a b : Nat) : Nat :=
  let n := max 1 (s.rd (F.CANRAM_RING0_COUNT r))
  (b + n - a % n) % n

/-- The element index after `k`. -/
def State.ringNext (s : State) (r k : Nat) : Nat := (k + 1) % max 1 (s.rd (F.CANRAM_RING0_COUNT r))

/-- Is ring r VALID, and is it a transmit ring? -/
def State.ringValid (s : State) (r : Nat) : Bool := s.flag (F.CANRAM_RING0_VALID r)
def State.ringTx (s : State) (r : Nat) : Bool := s.flag (F.CANRAM_RING0_DIR r)

/-- The instance of ring r. -/
def State.ringInst (s : State) (r : Nat) : Nat := s.rd (F.CANRAM_RING0_INST r)

/-- The elements that ring r holds: GET to PUT of an RX ring, RECLAIM to PUT of a TX ring. -/
def State.ringHeld (s : State) (r : Nat) : Nat :=
  if s.ringValid r then s.ringDist r (s.ringGet r) (s.ringPut r) else 0

/-- The byte address of element k of ring r. -/
def State.elemAddr (s : State) (r k : Nat) : Nat :=
  0x40C00000 + s.rd (F.CANRAM_RING1_BASE r) + k * (32 + s.ringSlot r)

/-- A little-endian word of memory. -/
def State.memWord (s : State) (a : Nat) : Nat :=
  (List.range 4).foldl (fun w k => w + 256 ^ k * (Memory.read s.mem (a + k)).toNat) 0

/-- The state with a word of memory written. -/
def State.putWord (s : State) (a w : Nat) : State := s.store a (wordBytes w)

/-! ### Pool queues -/

/-- A pool queue. -/
def State.pool (s : State) (q : Nat) : Pool := s.vim.pools.getD Pool.init q

/-- The state with a pool queue changed. -/
def State.modPool (s : State) (q : Nat) (f : Pool → Pool) : State :=
  { s with vim := { s.vim with pools := s.vim.pools.put Pool.init q (f (s.pool q)) } }

/-- The words a pool queue holds. -/
def Pool.fill (p : Pool) : Nat := p.body.length + (p.entries.map Entry.size).foldl (· + ·) 0

/-- FILL of queue q. -/
def State.queueFill (s : State) (q : Nat) : Nat :=
  if q < 384 then (s.pool q).fill else s.ringHeld (q - 384) * s.ringWords (q - 384)

/-- The owner of queue q: OWNER, or INST of the ring. -/
def State.queueOwner (s : State) (q : Nat) : Nat :=
  if q < 384 then s.rd (F.VIM_HWQ_CFG_OWNER q) else s.ringInst (q - 384)

/-- OCC of instance i (R323). -/
def State.occ (s : State) (i : Nat) : Nat :=
  (s.vim.pools.map fun x => if s.queueOwner x.1 = i then x.2.fill else 0).foldl (· + ·) 0 +
  ((List.range 128).map fun r => if s.ringInst r = i then s.ringHeld r * s.ringWords r else 0).foldl (· + ·) 0

/-- The words of an instance's share in force. -/
def State.shareWords (s : State) (i : Nat) : Nat := s.rd (F.VIM_INST_QSHARE_QSHARE_EFF i) * 1024

/-- OVERSHARE of every instance whose occupancy has fallen strictly below its share clears (R326). -/
def State.settleShares (s : State) : State :=
  (List.range 64).foldl (fun s i =>
    if s.flag (F.VIM_INST_STAT_OVERSHARE i) ∧ s.occ i < s.shareWords i then s.clrF (F.VIM_INST_STAT_OVERSHARE i)
    else s) s

/-- The outcome of the admission tests of R325, in their order. -/
inductive Admit where | ok | invalid | full | held | resetting | share
  deriving DecidableEq, Repr

/-- The tests of R325 that concern the owner, for `n` more words. -/
def State.admitOwner (s : State) (i n : Nat) : Admit :=
  match (s.inst i).state with
  | .free => .invalid
  | .resetting => .resetting
  | .freezing | .frozen | .saving => .held
  | .active =>
    if s.flag (F.VIM_INST_STAT_OVERSHARE i) then .share
    else if s.shareWords i < s.occ i + n then .share else .ok

/-- The admission tests of pool queue q for an entry of n words. -/
def State.admission (s : State) (q n : Nat) : Admit :=
  if !s.flag (F.VIM_HWQ_CFG_VALID q) then .invalid
  else if s.rd (F.VIM_HWQ_CFG_CAP q) < s.queueFill q + n then .full
  else s.admitOwner (s.queueOwner q) n

/-- A refusal on share grounds counts in OVERSHARE_REF (R325). -/
def State.countRefusal (s : State) (i : Nat) : Admit → State
  | .share => s.inc (F.VIM_INST_CNT_OVERSHARE_REF i)
  | .ok | .invalid | .full | .held | .resetting => s

/-- The address of VIM_HWQ_POPq. -/
def popAddr (q : Nat) : Nat := 0x4112000C + 0x10 * q

/-- An entry joins a pool queue. -/
def State.poolPut (s : State) (q : Nat) (e : Entry) : State :=
  (s.modPool q fun p => { p with entries := p.entries ++ [e] }).pushed (popAddr q)

/-- An entry that an engine offers to a TX ring becomes the element at PUT: its payload words are the element's words
(log entry 21). -/
def State.ringPutEntry (s : State) (r : Nat) (e : Entry) : State :=
  let a := s.elemAddr r (s.ringPut r)
  let s := (List.range (s.ringWords r)).foldl (fun s k => s.putWord (a + 4 * k) (e.payload.getD k 0)) s
  s.wr (F.CANRAM_RING2_PUT r) (s.ringNext r (s.ringPut r))

/-- An entry offered to queue q (R325): the outcome and the state after it. Of the CAN rings a VALID TX ring with room
takes an element (R259). -/
def State.offer (s : State) (q : Nat) (e : Entry) : Admit × State :=
  if q < 384 then
    match s.admission q e.size with
    | .ok => (.ok, s.poolPut q e)
    | v => (v, s.countRefusal (s.queueOwner q) v)
  else
    let r := q - 384
    if !(s.ringValid r && s.ringTx r) then (.invalid, s)
    else if s.ringNext r (s.ringPut r) = s.ringGet r then (.full, s)
    else match s.admitOwner (s.ringInst r) (s.ringWords r) with
      | .ok => (.ok, s.ringPutEntry r e)
      | v => (v, s.countRefusal (s.ringInst r) v)

/-- A completion to the queue CPL_HWQ of instance i: header INST = i and LEN 1, admitted against CAP alone (R332). -/
def State.complete (s : State) (i status word : Nat) : State :=
  let q := s.rd (F.VIM_INST_CFG_CPL_HWQ i)
  if q < 384 ∧ s.flag (F.VIM_HWQ_CFG_VALID q) ∧ s.queueFill q + 2 ≤ s.rd (F.VIM_HWQ_CFG_CAP q) then
    s.poolPut q ⟨i, status, [word]⟩
  else s.inc (F.VIM_INST_CNT2_CPL_LOST i)

/-! ### Resets -/

/-- Counts items cancelled by the reset of instance i (R332). -/
def State.countCancelled (s : State) (i k : Nat) : State := s.incBy (F.VIM_INST_RESET_CNT_CANCELLED i) k

/-- A participant has done its work in the reset of instance i: its acknowledgement is on its way (R331). -/
def State.markDrained (s : State) (i p : Nat) : State := s.modInst i fun x => { x with drained := maskSet x.drained p }

/-- Is instance i fenced and participant p yet to drain? -/
def State.awaits (s : State) (i p : Nat) : Bool :=
  (s.inst i).state == .resetting && (s.rd (F.VIM_INST_RESET_PEND_PEND i)).testBit p && !(s.inst i).drained.testBit p

end Sys2Proof.Machine
end

