-- ==== Sys2Proof/Machine/Can.lean ====
section
/-! DEFINITION. The CAN controllers (*CAN controllers*, R252 to R276). -/

namespace Sys2Proof

/-- Is a frame classical, FD, XL (R260)? -/
def CanFrame.fmt (f : CanFrame) : Nat := if f.xlf then 3 else if f.fdf then 2 else 1

end Sys2Proof

namespace Sys2Proof.Machine

/-! ### Controllers -/

/-- A controller. -/
def State.ctl (s : State) (c : Nat) : CanCtl := s.can.ctls.getD CanCtl.init c

/-- The state with a controller changed. -/
def State.modCtl (s : State) (c : Nat) (f : CanCtl → CanCtl) : State :=
  { s with can := { s.can with ctls := s.can.ctls.put CanCtl.init c (f (s.ctl c)) } }

/-- The state with the controller in state `v`. -/
def State.setCan (s : State) (c : Nat) (v : CanState) : State := s.modCtl c fun x => { x with state := v }

/-- The code of a controller state. -/
def CanState.code : CanState → Nat
  | .config => 0 | .syncing => 1 | .active => 2 | .passive => 3 | .busOff => 4 | .recovering => 5

/-- Is the controller on the bus? -/
def CanState.onLine : CanState → Bool
  | .active | .passive => true
  | .config | .syncing | .busOff | .recovering => false

/-- Is transmission held (R269)? -/
def CanState.holding : CanState → Bool
  | .busOff | .recovering => true
  | .config | .syncing | .active | .passive => false

/-- The word of CAN_STAT, which CAN records carry as VAL0 (R407). -/
def State.canStat (s : State) (c : Nat) : Nat :=
  s.word (F.CAN_STAT_TEC c).addr + (s.ctl c).state.code * 2 ^ 29 + bit (s.ctl c).state.holding * 2 ^ 28

/-- A command or write is refused (CAN_STAT.CMD_REFUSED). -/
def State.canRefuse (s : State) (c : Nat) : State := s.raise (F.CAN_STAT_CMD_REFUSED c)

/-- Quanta of a bit with TSEG1 and TSEG2 held as their value − 1 (R254). -/
def bitQuanta (tseg1 tseg2 : Nat) : Nat := 1 + (tseg1 + 1) + (tseg2 + 1)

/-- Does a bit timing meet R254: at least `least` quanta, at most `mbit` Mbit/s at 80 MHz, SJW no more than TSEG2? -/
def timingOk (brp tseg1 tseg2 sjw least mbit : Nat) : Bool :=
  decide (least ≤ bitQuanta tseg1 tseg2) && decide (80 ≤ mbit * (brp + 1) * bitQuanta tseg1 tseg2) && decide (sjw ≤ tseg2)

/-- The nominal bit timing of a controller, in quanta, and its bit time in half ns. -/
def State.nominalQuanta (s : State) (c : Nat) : Nat := bitQuanta (s.rd (F.CAN_NBT_TSEG1 c)) (s.rd (F.CAN_NBT_TSEG2 c))
def State.nominalBit (s : State) (c : Nat) : Nat := 25 * (s.rd (F.CAN_NBT_BRP c) + 1) * s.nominalQuanta c

/-- XL_EN, which reads 0 on CAN8 to CAN11. -/
def State.xlEn (s : State) (c : Nat) : Bool := decide (c < 8) && s.flag (F.CAN_CTL_XL_EN c)

/-- The settings that START needs (R254). The data phases are those of the formats enabled (DEDUCED, log entry 98). -/
def State.canValid (s : State) (c : Nat) : Bool :=
  timingOk (s.rd (F.CAN_NBT_BRP c)) (s.rd (F.CAN_NBT_TSEG1 c)) (s.rd (F.CAN_NBT_TSEG2 c)) (s.rd (F.CAN_NBT_SJW c)) 8 1 &&
  (!s.flag (F.CAN_CTL_FD_EN c) ||
    timingOk (s.rd (F.CAN_DBT_BRP c)) (s.rd (F.CAN_DBT_TSEG1 c)) (s.rd (F.CAN_DBT_TSEG2 c)) (s.rd (F.CAN_DBT_SJW c)) 4 8) &&
  (!s.xlEn c ||
    timingOk (s.rd (F.CAN_XBT_BRP c)) (s.rd (F.CAN_XBT_TSEG1 c)) (s.rd (F.CAN_XBT_TSEG2 c)) (s.rd (F.CAN_XBT_SJW c)) 4 20) &&
  (!s.flag (F.CAN_CTL_XL_FAST c) ||
    s.rd (F.CAN_XPWM_PWMS c) + s.rd (F.CAN_XPWM_PWML c) ==
      bitQuanta (s.rd (F.CAN_XBT_TSEG1 c)) (s.rd (F.CAN_XBT_TSEG2 c))) &&
  decide (s.rd (F.CAN_FLT_FLT_BASE c) + s.rd (F.CAN_FLT_FLT_LEN c) ≤ 16384)

/-- The address of a controller's CAN_CMD. -/
def canCmdAddr (c : Nat) : Nat := 0x40700008 + c * 0x10000

/-- A command of CAN_CMD. -/
def canCmd (t : Nat) (a : Attr) (c : Nat) (f : State → State) (s : State) : Host.Outcome State Fault Refusal :=
  let s := s.tick t
  onUnit (decide (c < 12)) <| s.guarded a (canCmdAddr c) true true f

/-- CAN_START (R254, R268). -/
def execCanStart (t : Nat) (a : Attr) (c : Nat) (s : State) : Host.Outcome State Fault Refusal :=
  canCmd t a c (fun s =>
    if (s.ctl c).state ≠ .config then s.canRefuse c
    else if s.canValid c then s.setCan c .syncing
    else s.raise (F.CAN_STAT_CFG_REFUSED c)) s

/-- A controller stops: a frame on the bus finishes first (R268). -/
def State.canStop (s : State) (c : Nat) : State :=
  if (s.ctl c).state = .config then s
  else if (s.ctl c).onBus.isSome then s.modCtl c fun x => { x with stopping := true }
  else s.setCan c .config

/-- CAN_STOP (R268). -/
def execCanStop (t : Nat) (a : Attr) (c : Nat) (s : State) : Host.Outcome State Fault Refusal :=
  canCmd t a c (fun s => s.canStop c) s

/-- Every controller stops (R274). -/
def State.canStopAll (s : State) : State := (List.range 12).foldl State.canStop s

/-- Recovery begins (R268). -/
def State.canRecover (s : State) (c : Nat) : State := (s.setCan c .recovering).wr (F.CAN_STAT_RECOV_CNT c) 0

/-- RECOVER (R268). One written in the clock in which BUS_OFF is entered is taken after the entry, so a refusal is
remembered. -/
def execCanRecover (t : Nat) (a : Attr) (c : Nat) (s : State) : Host.Outcome State Fault Refusal :=
  canCmd t a c (fun s =>
    if (s.ctl c).state = .busOff then s.canRecover c
    else (s.canRefuse c).modCtl c fun x => { x with refused := some (s.now, s.rd (F.CAN_STAT_CMD_REFUSED c)) }) s

/-! ### Ring interrupts and completion of elements -/

/-- Does ring r raise the ring interrupt of its instance (R259)? -/
def State.ringRaises (s : State) (r : Nat) : Bool :=
  s.ringValid r && s.flag (F.CANRAM_RING1_IRQ_EN r) &&
    (if s.ringTx r then s.ringGet r != s.ringDone r else s.ringGet r != s.ringPut r)

/-- The CAN ring interrupt of instance i (R259, R435). -/
def State.canIrq (s : State) (i : Nat) : State :=
  s.ipend ipCanRing i ((List.range 128).any fun r => s.ringInst r == i && s.ringRaises r)

/-- Does the controller serve ring r as a TX ring? -/
def State.servesTx (s : State) (c r : Nat) : Bool :=
  s.ringValid r && s.ringTx r && s.rd (F.CANRAM_RING0_CTRL r) == c

/-- STATUS and ERRORS of element k of ring r are written (*Table: CAN element*). -/
def State.markElem (s : State) (r k status errs : Nat) : State :=
  let a := s.elemAddr r k
  (s.putWord (a + 12) (s.memWord (a + 12) / 65536 * 65536 + status % 256 * 256)).putWord (a + 24) (min 255 errs)

/-- The transmit stamp of element k. -/
def State.stampElem (s : State) (r k stamp : Nat) : State :=
  let a := s.elemAddr r k
  (s.putWord (a + 16) stamp).putWord (a + 20) (stamp / 2 ^ 32)

/-- DONE passes the elements that a SAVE has completed (R336). -/
def State.passSkips (s : State) (r : Nat) : State :=
  (s.can.skips.getD [] r).foldl (fun s _ =>
    let l := s.can.skips.getD [] r
    let k := s.ringDone r
    if l.contains k then
      ({ s with can := { s.can with skips := s.can.skips.put [] r (l.filter fun j => j ≠ k) } }).wr
        (F.CANRAM_RING3_DONE r) (s.ringNext r k)
    else s) s

/-- The element at DONE of ring r completes with a status, and DONE advances (R259). -/
def State.completeElem (s : State) (r status stamp : Nat) : State :=
  let k := s.ringDone r
  let s := (s.markElem r k status (s.can.errs.getD 0 r)).stampElem r k stamp
  let s := s.wr (F.CANRAM_RING3_DONE r) (s.ringNext r k)
  let s := { s with can := { s.can with errs := s.can.errs.erase r } }
  (s.passSkips r).canIrq (s.ringInst r)

/-- The elements of ring r from DONE up to index `k` complete with a status. -/
def State.completeTo (s : State) (r k status : Nat) : State :=
  (List.range (s.ringDist r (s.ringDone r) k)).foldl (fun s _ =>
    if s.ringDone r = k then s else s.completeElem r status 0) s

/-- The elements behind a frame that has left the bus complete as a pending ABORT of their ring says (R267). -/
def State.settleAbort (s : State) (r : Nat) : State :=
  match s.can.aborts.find? r with
  | none => s
  | some k => { (s.completeTo r k 0x81) with can := { (s.completeTo r k 0x81).can with aborts := s.can.aborts.erase r } }

/-- ABORT (R267). -/
def execCanAbort (t : Nat) (a : Attr) (c r : Nat) (s : State) : Host.Outcome State Fault Refusal :=
  canCmd t a c (fun s =>
    if r < 128 ∧ s.servesTx c r then
      if (s.ctl c).onBus = some (.elem r) then
        { s with can := { s.can with aborts := s.can.aborts.insert r (s.ringPut r) } }
      else s.completeTo r (s.ringPut r) 0x81
    else s.canRefuse c) s

/-! ### Reception -/

/-- Is a frame of a format enabled on the controller (R253)? -/
def State.fmtEnabled (s : State) (c : Nat) (fdf xlf : Bool) : Bool :=
  if xlf then s.xlEn c else if fdf then s.flag (F.CAN_CTL_FD_EN c) else true

/-- Word 0 of filter entry e as a scan sees it: in the clock of a write to it the value before (R263). -/
def fltAddr (e : Nat) : Nat := 0x40C00000 + 16 * e
def State.fltWord (s : State) (e : Nat) : Nat := (s.clk.olds.find? (fltAddr e)).getD (s.word (fltAddr e))

/-- Does filter entry e match the frame (R260)? -/
def State.filterMatches (s : State) (e : Nat) (f : CanFrame) : Bool :=
  let w := s.fltWord e
  let id1 := s.rd (F.CANRAM_FLT1_ID1 e)
  let id2 := s.rd (F.CANRAM_FLT2_ID2 e)
  w.testBit 31 && w.testBit 26 == (f.xtd && !f.xlf) && (bits w 25 24 == 0 || bits w 25 24 == f.fmt) &&
    (match bits w 30 29 with
      | 0 => decide (id1 ≤ f.id) && decide (f.id ≤ id2)
      | 1 => f.id == id1 || f.id == id2
      | 2 => f.id &&& id2 == id1 &&& id2
      | _ => false)

/-- The first matching entry of the controller's list (R261). -/
def State.filterHit (s : State) (c : Nat) (f : CanFrame) : Option Nat :=
  (List.range (s.rd (F.CAN_FLT_FLT_LEN c))).findSome? fun k =>
    let e := s.rd (F.CAN_FLT_FLT_BASE c) + k
    if s.filterMatches e f then some e else none

/-- The eight header words of a received element (*Table: CAN element*). -/
def rxHeader (f : CanFrame) (c slot filter stamp : Nat) : List Nat :=
  [bit f.xtd * 2 ^ 31 + bit f.rtr * 2 ^ 30 + f.id % 2 ^ 29,
   bit f.fdf * 2 ^ 31 + bit f.brs * 2 ^ 30 + bit f.esi * 2 ^ 29 + bit f.xlf * 2 ^ 28 + bit f.sec * 2 ^ 27 +
     c % 16 * 2 ^ 23 + bit (decide (slot < f.data.length)) * 2 ^ 22 + f.data.length % 4096,
   if f.xlf then f.af % 2 ^ 32 else 0,
   f.vcid % 256 * 2 ^ 24 + f.sdt % 256 * 2 ^ 16,
   stamp % 2 ^ 32, stamp / 2 ^ 32 % 2 ^ 32, filter % 2 ^ 15, 0]

/-- The frame goes to RX ring r (R258, R325). -/
def State.storeRx (s : State) (c r filter : Nat) (f : CanFrame) : State :=
  if !(s.ringValid r && !s.ringTx r) then s.inc (F.CAN_CNT_DROP_REJECTED c)
  else if s.ringNext r (s.ringPut r) = s.ringGet r then
    ((s.inc (F.CANRAM_RING4_DROPPED_CANCELLED r)).inc (F.CAN_CNT_DROP_RING_FULL c)).raise (F.CAN_IRQ_RING_FULL c)
  else
    let i := s.ringInst r
    match s.admitOwner i (s.ringWords r) with
    | .ok =>
      let a := s.elemAddr r (s.ringPut r)
      let slot := s.ringSlot r
      let s := s.store a ((rxHeader f c slot filter s.now).map wordBytes).flatten
      let s := s.store (a + 32) (f.data.take slot)
      (s.wr (F.CANRAM_RING2_PUT r) (s.ringNext r (s.ringPut r))).canIrq i
    | .held => s.inc (F.VIM_INST_CNT2_FROZEN_DROP i)
    | .share => (s.inc (F.CANRAM_RING4_DROPPED_CANCELLED r)).inc (F.VIM_INST_CNT_OVERSHARE_REF i)
    | .resetting | .invalid | .full => s.inc (F.CANRAM_RING4_DROPPED_CANCELLED r)

/-- A received frame as the gateway takes it (R202): the whole identifier, of CAN XL the priority identifier. -/
def CanFrame.source (f : CanFrame) (c cap : Nat) : SrcFrame := ⟨cap, c, f.id, f.xtd, f.fdf, f.xlf, f.data⟩

/-- The action of the matching entry, or of the default, on the frame (R261). -/
def State.filterAct (s : State) (c : Nat) (f : CanFrame) : State :=
  let (s, action, ring, idx) := match s.filterHit c f with
    | some e => (s.inc (F.CANRAM_FLT3_HITS e), bits (s.fltWord e) 28 27, bits (s.fltWord e) 6 0, e)
    | none => (s, s.rd (F.CAN_FLT_DEF_DEF_ACTION c), s.rd (F.CAN_FLT_DEF_DEF_RING c), 0x7FFF)
  let s := if action = 1 ∨ action = 3 then s.storeRx c ring idx f else s
  let s := if action = 2 ∨ action = 3 then (s.inc (F.CAN_CNT_RX_OFFERED c)).offerSrc (CanFrame.source f c s.now) else s
  if action = 0 then s.inc (F.CAN_CNT_DROP_REJECTED c) else s

/-- A received reference message (R272). -/
def State.refRx (s : State) (c : Nat) (f : CanFrame) : State :=
  let role := s.rd (F.CAN_TT_CFG_ROLE c)
  let own := s.rd (F.CAN_TT_CFG_REF_ID c)
  if (role = 1 ∨ role = 2) ∧ !f.xtd ∧ f.id / 8 % 256 = own / 8 % 256 then
    let cnt := f.data.getD 0 0 % 64
    let s := (((s.wr64 (F.CAN_TT_REF_REF_TS c) s.now).wr (F.CAN_TT_STAT_CYCLE_CNT c) cnt).clrF (F.CAN_TT_STAT_MASTER c)).raise
      (F.CAN_IRQ_REF c)
    let s := s.modCtl c fun x =>
      { x with lastRef := s.now, refNext := (cnt + 1) % (s.rd (F.CAN_TT_CFG_CNT_MAX c) + 1) }
    if role = 2 ∧ f.id < own then (s.setF (F.CAN_TT_STAT_BACKUP c)).modCtl c fun x => { x with refDue := none } else s
  else s

/-- ERROR_ACTIVE again once TEC and REC are both below 128 (*Table: Controller states*). -/
def State.backToActive (s : State) (c : Nat) : State :=
  if (s.ctl c).state = .passive ∧ s.rd (F.CAN_STAT_TEC c) < 128 ∧ s.rd (F.CAN_STAT_REC c) < 128 then
    (s.setCan c .active).raise (F.CAN_IRQ_ERR_ACTIVE c)
  else s

/-- REC after a valid reception, as ISO 11898-1 has it: one less, and from above 127 a value of 119 to 127 that it leaves
open (R268, log entries 4 and 22). -/
def State.recDown (s : State) (c : Nat) : State :=
  let v := s.rd (F.CAN_STAT_REC c)
  if 127 < v then
    let (r, s) := s.draw 9
    (s.wr (F.CAN_STAT_REC c) (119 + r)).backToActive c
  else (s.wr (F.CAN_STAT_REC c) (v - 1)).backToActive c

/-! ### Errors -/

/-- The STATUS of every TX ring of the controller (R268). -/
def State.ringStatus (s : State) (c v : Nat) : State :=
  (List.range 128).foldl (fun s r => if s.servesTx c r then s.wr (F.CANRAM_RING3_STATUS r) v else s) s

/-- BUS_OFF is entered (R268, R269); a RECOVER of the same clock follows (R17). -/
def State.enterBusOff (s : State) (c : Nat) : State :=
  let s := ((s.setCan c .busOff).ringStatus c 3).raise (F.CAN_IRQ_BUS_OFF c)
  let s := (s.inc (F.CAN_CNT_ERR_BUS_OFFS c)).record 0x0B 0x01 4 c 0 [s.canStat c] (sourceWord 2 0 0)
  match (s.ctl c).refused with
  | some (t, v) => if t = s.now then (s.canRecover c).wr (F.CAN_STAT_CMD_REFUSED c) v else s
  | none => s

/-- The word of CAN_ERR_LAST. -/
def CanErr.word (e : CanErr) : Nat := e.code % 8 * 2 ^ 29 + bit e.sending * 2 ^ 28 + e.phase % 4 * 2 ^ 26

/-- The address of CAN_ERR_LAST. -/
def errLastAddr (c : Nat) : Nat := 0x40700044 + c * 0x10000

/-- A bus error of a controller (R268, R269). -/
def State.canError (s : State) (c : Nat) (err : CanErr) : State :=
  let s := ((s.updates (errLastAddr c) (s.ctl c).errLast).modCtl c fun x => { x with errLast := CanErr.word err }).inc
    (F.CAN_CNT_ERR_ERR_FRAMES c)
  let tec := s.rd (F.CAN_STAT_TEC c) + (if err.sending then err.inc else 0)
  let rec' := s.rd (F.CAN_STAT_REC c) + (if err.sending then 0 else err.inc)
  let warn := (s.rd (F.CAN_STAT_TEC c) < 96 ∧ 96 ≤ tec) ∨ (s.rd (F.CAN_STAT_REC c) < 96 ∧ 96 ≤ rec')
  let s := (s.wr (F.CAN_STAT_TEC c) (min 256 tec)).wr (F.CAN_STAT_REC c) (min 255 rec')
  let s := if warn then s.raise (F.CAN_IRQ_ERR_WARN c) else s
  let s := if (s.ctl c).state = .active ∧ (128 ≤ tec ∨ 128 ≤ rec') then
      (s.setCan c .passive).raise (F.CAN_IRQ_ERR_PASSIVE c)
    else s
  if 255 < tec then s.enterBusOff c else s

/-- CAN_ERROR_DETECTED (R268, R269). -/
def execCanErrorDetected (t c : Nat) (err : CanErr) (s : State) : Host.Outcome State Fault Refusal :=
  let s := s.tick t
  onUnit (decide (c < 12)) (if (s.ctl c).state.onLine then s.canError c err else s)

/-- ERR_LAST_READ (R10, R14): the last error; the read clears CODE, but for an error of the same clock. -/
def execErrLastRead (t : Nat) (a : Attr) (c : Nat) (peek : Bool) (s : State) : Host.Outcome State Fault Refusal :=
  let s := s.tick t
  onUnit (decide (c < 12)) <| s.guarded a (rsAddr (errLastAddr c) peek) false true fun s =>
    match s.clk.olds.find? (errLastAddr c) with
    | some v => s.answer 0 v
    | none => (if peek then s else s.modCtl c fun x => { x with errLast := x.errLast % 2 ^ 29 }).answer 0 (s.ctl c).errLast

/-- CAN_FRAME_RX (R258 to R262, R271, R272, R275). A format that is not enabled is not received: with PEX the controller
enters the protocol exception, without it signals a form error, which adds 1 to REC as in ISO 11898-1 (R253, log entry 98). -/
def execCanFrameRx (t c : Nat) (f : CanFrame) (s : State) : Host.Outcome State Fault Refusal :=
  let s := s.tick t
  onUnit (decide (c < 12)) <|
    if !(s.ctl c).state.onLine then s
    else if !s.fmtEnabled c f.fdf f.xlf then
      if s.flag (F.CAN_CTL_PEX c) then s.raise (F.CAN_IRQ_PEX c) else s.canError c ⟨2, false, 0, 1⟩
    else (((s.inc (F.CAN_CNT_RX_VALID c)).recDown c).refRx c f).filterAct c f

/-! ### Transmission -/

/-- The header fields of element k of ring r that transmission reads: XTD, RTR, ID, FDF, XLF, LEN. -/
def State.txHead (s : State) (r k : Nat) : Bool × Bool × Nat × Bool × Bool × Nat :=
  let w0 := s.memWord (s.elemAddr r k)
  let w1 := s.memWord (s.elemAddr r k + 4)
  (w0.testBit 31, w0.testBit 30, w0 % 2 ^ 29, w1.testBit 31, w1.testBit 28, w1 % 4096)

/-- Is an element completed with BAD_FORMAT (R266)? -/
def State.badFormat (s : State) (c r k : Nat) : Bool :=
  let (_, rtr, _, fdf, xlf, len) := s.txHead r k
  let lenOk := if xlf then decide (1 ≤ len) && decide (len ≤ 2048)
    else if fdf then [0, 1, 2, 3, 4, 5, 6, 7, 8, 12, 16, 20, 24, 32, 48, 64].contains len
    else decide (len ≤ 8)
  !lenOk || decide (s.ringSlot r < len) || !s.fmtEnabled c fdf xlf || (rtr && (fdf || xlf))

/-- The arbitration field of an identifier as a number: the lower wins (ISO 11898-1). -/
def arbKey (xtd rtr : Bool) (id : Nat) : Nat :=
  if xtd then id / 2 ^ 18 % 2048 * 2 ^ 21 + 2 ^ 20 + 2 ^ 19 + id % 2 ^ 18 * 2 + bit rtr
  else id % 2048 * 2 ^ 21 + bit rtr * 2 ^ 20

/-- BAD_FORMAT elements at DONE of ring r complete without an attempt. -/
def State.purgeBad (s : State) (c r : Nat) : Nat → State
  | 0 => s
  | n + 1 =>
    if s.ringDone r ≠ s.ringPut r ∧ s.badFormat c r (s.ringDone r) then (s.completeElem r 0x82 0).purgeBad c r n else s

/-- May ring r offer its element at DONE: is it of the controller, not complete, and its instance neither frozen nor
fenced (R264, R276, R335)? -/
def State.txReady (s : State) (c r : Nat) : Bool :=
  s.servesTx c r && s.ringDone r != s.ringPut r && !(s.inst (s.ringInst r)).state.held &&
    (s.inst (s.ringInst r)).state != .resetting

/-- The candidates of the controller, by requester number, with their arbitration keys (R264). -/
def State.candidates (s : State) (c : Nat) : List (Nat × Nat) :=
  ((List.range 128).filter fun r => s.txReady c r).map (fun r =>
    let (xtd, rtr, id, _, xlf, _) := s.txHead r (s.ringDone r)
    (r, arbKey (xtd && !xlf) rtr id)) ++
  (if (s.ctl c).refDue.isSome then [(128, arbKey false false (s.rd (F.CAN_TT_CFG_REF_ID c)))] else [])

/-- TX_OPPORTUNITY (R264, R266). In ERROR_PASSIVE none comes in the suspend-transmission delay after an own frame (R270). -/
def execTxOpportunity (t c : Nat) (s : State) : Host.Outcome State Fault Refusal :=
  let s := s.tick t
  onUnit (decide (c < 12)) <|
    let x := s.ctl c
    if !x.state.onLine ∨ x.onBus.isSome ∨ x.stopping ∨ s.flag (F.CAN_CTL_LISTEN c) ∨
        (x.state = .passive ∧ s.now < x.suspend) then s
    else
      let s := (List.range 128).foldl (fun s r =>
        if s.txReady c r then s.purgeBad c r (s.rd (F.CANRAM_RING0_COUNT r)) else s) s
      let cs := s.candidates c
      let best := (cs.map (·.2)).foldl min (2 ^ 32)
      let tied := (cs.filter fun x => x.2 = best).map (·.1)
      match rotFirst 129 x.ptr fun k => tied.contains k with
      | none => s
      | some k =>
        let s := if 2 ≤ tied.length then s.inc (F.CAN_TIE_CNT_TIES c) else s
        let tx := if k = 128 then CanTx.ref (x.refDue.getD 0) else CanTx.elem k
        s.modCtl c fun x => { x with onBus := some tx, sof := s.now, discard := false, ptr := (k + 1) % 129 }

/-- The frame leaves the bus; a STOP that waited for it takes effect (R268). -/
def State.offBus (s : State) (c : Nat) : State :=
  let s := s.modCtl c fun x => { x with onBus := none, discard := false, stopping := false }
  s

/-- The end of the frame on the bus: the controller is off it and enters CONFIG where a STOP waited. -/
def State.endFrame (s : State) (c : Nat) : State :=
  if (s.ctl c).stopping then (s.offBus c).setCan c .config else s.offBus c

/-- The suspend-transmission delay after an own frame, `n` nominal bits from now (R270). -/
def State.suspendTx (s : State) (c n : Nat) : State :=
  s.modCtl c fun x => { x with suspend := s.now + ceilDiv (n * s.nominalBit c) 2 }

/-- TX_COMPLETE (R259, R271, R272, R276): TEC falls by one as in ISO 11898-1 (log entry 22). -/
def execTxComplete (t c : Nat) (s : State) : Host.Outcome State Fault Refusal :=
  let s := s.tick t
  onUnit (decide (c < 12)) <|
    let x := s.ctl c
    match x.onBus with
    | none => s
    | some tx =>
      let s := ((s.inc (F.CAN_CNT_TX_SENT c)).wr (F.CAN_STAT_TEC c) (s.rd (F.CAN_STAT_TEC c) - 1)).backToActive c
      let s := match tx with
        | .elem r => if x.discard then s else (s.completeElem r 0 x.sof).settleAbort r
        | .ref n =>
          let s := (((s.wr64 (F.CAN_TT_REF_REF_TS c) x.sof).wr (F.CAN_TT_STAT_CYCLE_CNT c) n).setF
            (F.CAN_TT_STAT_MASTER c)).raise (F.CAN_IRQ_REF c)
          s.modCtl c fun y => { y with lastRef := x.sof, refDue := if y.refDue = some n then none else y.refDue }
      (s.suspendTx c 11).endFrame c

/-- An element fails its retry budget (R265). -/
def State.exhaust (s : State) (c r : Nat) : State :=
  let s := (s.completeElem r 0x80 0).settleAbort r
  if s.rd (F.CANRAM_RING1_RETRY r) = 0 then
    (s.raise (F.CAN_IRQ_TX_FAIL c)).record 0x0B 0x02 3 c 0 [s.canStat c] (sourceWord 2 (s.ringInst r) 0)
  else s

/-- The attempt of ring r's element has ended in error: the budget of R265. -/
def State.spendRetry (s : State) (c r : Nat) : State :=
  let n := s.can.errs.getD 0 r + 1
  let s := { s with can := { s.can with errs := s.can.errs.insert r n } }
  let budget := s.rd (F.CANRAM_RING1_RETRY r)
  if budget ≠ 255 ∧ budget ≤ n then s.exhaust c r else s.settleAbort r

/-- TX_ATTEMPT_ERROR (R265). The error flag, its delimiter and the intermission precede the suspend delay (R270). -/
def execTxAttemptError (t c : Nat) (s : State) : Host.Outcome State Fault Refusal :=
  let s := s.tick t
  onUnit (decide (c < 12)) <|
    let x := s.ctl c
    match x.onBus with
    | none => s
    | some (.elem r) => ((if x.discard then s else s.spendRetry c r).suspendTx c 25).endFrame c
    | some (.ref _) => (s.suspendTx c 25).endFrame c

/-- ARBITRATION_LOST (R264, R273): a reference message that loses to another reference message does not compete again. -/
def execArbitrationLost (t c : Nat) (toRef : Bool) (s : State) : Host.Outcome State Fault Refusal :=
  let s := s.tick t
  onUnit (decide (c < 12)) <|
    let s' := s.inc (F.CAN_CNT_TX_ARB_LOST c)
    match (s.ctl c).onBus with
    | none => s
    | some (.elem r) => (if (s.ctl c).discard then s' else s'.settleAbort r).endFrame c
    | some (.ref _) => (if toRef then s'.modCtl c fun x => { x with refDue := none } else s').endFrame c

/-! ### Recovery -/

/-- RECESSIVE_SEQUENCE (R268). -/
def execRecessiveSequence (t c : Nat) (s : State) : Host.Outcome State Fault Refusal :=
  let s := s.tick t
  onUnit (decide (c < 12)) <|
    match (s.ctl c).state with
    | .syncing => (s.setCan c .active).ringStatus c 0
    | .recovering =>
      let s := s.wr (F.CAN_STAT_RECOV_CNT c) (s.rd (F.CAN_STAT_RECOV_CNT c) + 1)
      if 128 ≤ s.rd (F.CAN_STAT_RECOV_CNT c) then
        (((s.wr (F.CAN_STAT_TEC c) 0).wr (F.CAN_STAT_REC c) 0).setCan c .active).ringStatus c 0
      else s
    | .config | .active | .passive | .busOff => s

/-! ### Writes to CANRAM -/

/-- May a ring with these words become VALID (R257)? -/
def State.ringOk (s : State) (r : Nat) : Bool :=
  decide (s.ringSlot r ≠ 0) && decide (2 ≤ s.rd (F.CANRAM_RING0_COUNT r)) &&
    decide (0x41000 ≤ s.rd (F.CANRAM_RING1_BASE r)) && s.rd (F.CANRAM_RING1_BASE r) % 32 == 0 &&
    decide (s.rd (F.CANRAM_RING1_BASE r) + s.rd (F.CANRAM_RING0_COUNT r) * (32 + s.ringSlot r) ≤ 0x100000)

/-- The ring's indices at VALID (R257). -/
def State.ringReset (s : State) (r : Nat) : State :=
  let s := { s with can := { s.can with errs := s.can.errs.erase r, aborts := s.can.aborts.erase r, skips := s.can.skips.erase r } }
  ((s.wr (F.CANRAM_RING2_PUT r) 0).wr (F.CANRAM_RING2_GET_RECLAIM r) 0).wr (F.CANRAM_RING3_DONE r) 0

/-- Word 0 of a descriptor whose VALID is 0: its fields, and VALID where R257 admits it. -/
def State.writeRing0 (s : State) (r v : Nat) : State :=
  let s := ((((s.wr (F.CANRAM_RING0_DIR r) (bits v 30 30)).wr (F.CANRAM_RING0_CTRL r) (bits v 29 26)).wr
    (F.CANRAM_RING0_INST r) (bits v 25 20)).wr (F.CANRAM_RING0_SLOT r) (bits v 19 16)).wr (F.CANRAM_RING0_COUNT r) (bits v 15 0)
  if v.testBit 31 ∧ s.ringOk r then (s.setF (F.CANRAM_RING0_VALID r)).ringReset r else s

/-- RING_DESC_WRITE (R257): words 0 and 1 are written only while VALID is 0; a write of word 0 with VALID = 0 clears it
(log entry 23). -/
def execRingDescWrite (t : Nat) (a : Attr) (r w : Nat) (value : Word) (s : State) : Host.Outcome State Fault Refusal :=
  let s := s.tick t
  let v := value.toNat
  onUnit (decide (r < 128 ∧ w < 2)) <| s.guarded a (0x40C40000 + 32 * r + 4 * w) true true fun s =>
    if s.ringValid r then
      if w = 0 ∧ !v.testBit 31 then ((s.clrF (F.CANRAM_RING0_VALID r)).canIrq (s.ringInst r)).settleShares else s
    else if w = 0 then s.writeRing0 r v
    else ((s.wr (F.CANRAM_RING1_RETRY r) (bits v 31 24)).wr (F.CANRAM_RING1_IRQ_EN r) (bits v 23 23)).wr
      (F.CANRAM_RING1_BASE r) (bits v 19 0)

/-- A write of word 2 of a descriptor. -/
def ringWord2 (t : Nat) (a : Attr) (r : Nat) (f : State → State) (s : State) : Host.Outcome State Fault Refusal :=
  let s := s.tick t
  onUnit (decide (r < 128)) <| s.guarded a (0x40C40008 + 32 * r) true true f

/-- Is index `k` from the acknowledge index up to `last`, counted forward (R258)? -/
def State.ackOk (s : State) (r k last : Nat) : Bool :=
  decide (k < s.rd (F.CANRAM_RING0_COUNT r)) && decide (s.ringDist r (s.ringGet r) k ≤ s.ringDist r (s.ringGet r) last)

/-- The acknowledge index moves to `k`. -/
def State.ringAck (s : State) (r k : Nat) : State :=
  ((s.wr (F.CANRAM_RING2_GET_RECLAIM r) k).canIrq (s.ringInst r)).settleShares

/-- RX_GET_WRITE (R258). -/
def execRxGetWrite (t : Nat) (a : Attr) (r k : Nat) (s : State) : Host.Outcome State Fault Refusal :=
  ringWord2 t a r (fun s =>
    if s.ringValid r ∧ !s.ringTx r ∧ s.ackOk r k (s.ringPut r) then s.ringAck r k else s) s

/-- RECLAIM_WRITE (R259). -/
def execReclaimWrite (t : Nat) (a : Attr) (r k : Nat) (s : State) : Host.Outcome State Fault Refusal :=
  ringWord2 t a r (fun s =>
    if s.ringValid r ∧ s.ringTx r ∧ s.ackOk r k (s.ringDone r) then s.ringAck r k else s) s

/-- TX_PUT_WRITE (R259, R325). -/
def execTxPutWrite (t : Nat) (a : Attr) (r k : Nat) (s : State) : Host.Outcome State Fault Refusal :=
  ringWord2 t a r (fun s =>
    let n := s.ringDist r (s.ringPut r) k
    let room := s.rd (F.CANRAM_RING0_COUNT r) - 1 - s.ringHeld r
    if s.ringValid r ∧ s.ringTx r ∧ k < s.rd (F.CANRAM_RING0_COUNT r) ∧ n ≤ room then
      match s.admitOwner (s.ringInst r) (n * s.ringWords r) with
      | .ok => s.wr (F.CANRAM_RING2_PUT r) k
      | v => s.countRefusal (s.ringInst r) v
    else s) s

/-- May the transaction write filter entry e (R318, R327)? A fenced instance may not (R331). -/
def State.mayFilter (s : State) (a : Attr) (e : Nat) : Bool :=
  a.attic || (s.flag (F.VIM_INST_CFG_VALID a.inst) && !s.flag (F.VIM_INST_CFG_WORLD a.inst) &&
    decide (s.rd (F.VIM_INST_FLT_FLT_BASE a.inst) ≤ e) &&
    decide (e < s.rd (F.VIM_INST_FLT_FLT_BASE a.inst) + s.rd (F.VIM_INST_FLT_FLT_CNT a.inst)))

/-- A filter entry's word is written (R263). -/
def State.writeFilter (s : State) (e w v : Nat) : State :=
  match w with
  | 0 =>
    ((((((s.updates (fltAddr e) (s.word (fltAddr e))).wr (F.CANRAM_FLT0_VALID e) (bits v 31 31)).wr (F.CANRAM_FLT0_TYPE e) (bits v 30 29)).wr (F.CANRAM_FLT0_ACTION e)
      (bits v 28 27)).wr (F.CANRAM_FLT0_XTD e) (bits v 26 26)).wr (F.CANRAM_FLT0_FMT e) (bits v 25 24)).wr
      (F.CANRAM_FLT0_RING e) (bits v 6 0)
  | 1 => if s.flag (F.CANRAM_FLT0_VALID e) then s else s.wr (F.CANRAM_FLT1_ID1 e) (bits v 28 0)
  | 2 => if s.flag (F.CANRAM_FLT0_VALID e) then s else s.wr (F.CANRAM_FLT2_ID2 e) (bits v 28 0)
  | _ => s

/-- FILTER_WRITE (R263, R327, R331). -/
def execFilterWrite (t : Nat) (a : Attr) (e w : Nat) (value : Word) (s : State) : Host.Outcome State Fault Refusal :=
  let s := s.tick t
  onUnit (decide (e < 16384 ∧ w < 4)) <| s.guarded a (0x40C00000 + 16 * e + 4 * w) true true fun s =>
    if !s.mayFilter a e then (s.inc (F.VIM_INST_CNT_FLT_DENIED a.inst)).noteMiss a
    else if !a.attic ∧ (s.inst a.inst).state = .resetting then s
    else s.writeFilter e w value.toNat

/-! ### Time master and fence -/

/-- REF_DUE (R272, R273): a due message replaces one still unsent. -/
def execRefDue (t c : Nat) (s : State) : Host.Outcome State Fault Refusal :=
  let s := s.tick t
  onUnit (decide (c < 12)) <|
    let base := s.rd64 (F.CAN_TT_BASE_TT_BASE c)
    let per := max 100000 (s.rd (F.CAN_TT_CYCLE_TT_CYCLE c))
    let at' := base + (s.tNow - base) / per * per
    if s.rd (F.CAN_TT_CFG_ROLE c) = 2 ∧ (s.ctl c).state ≠ .config ∧ (s.ctl c).state ≠ .syncing ∧
        !s.flag (F.CAN_TT_STAT_BACKUP c) ∧ base ≤ s.tNow ∧ (s.ctl c).refT ≠ some at' then
      s.modCtl c fun x =>
        { x with refDue := some x.refNext, refT := some at', refNext := (x.refNext + 1) % (s.rd (F.CAN_TT_CFG_CNT_MAX c) + 1) }
    else s

/-- The backup's window of R272, in ns. -/
def State.backupWindow (s : State) (c : Nat) : Nat :=
  s.rd (F.CAN_TT_CYCLE_TT_CYCLE c) + (s.rd (F.CAN_TT_CFG_REF_ID c) % 8 + 1) * 16 * s.nominalBit c / 2

/-- REF_LOST_TIMEOUT (R272). -/
def execRefLostTimeout (t c : Nat) (s : State) : Host.Outcome State Fault Refusal :=
  let s := s.tick t
  onUnit (decide (c < 12)) <|
    if s.flag (F.CAN_TT_STAT_BACKUP c) ∧ s.closed (s.ctl c).lastRef (s.backupWindow c) then
      (s.raise (F.CAN_IRQ_REF_LOST c)).clrF (F.CAN_TT_STAT_BACKUP c)
    else s

/-- One TX ring of a fenced instance (R276): a frame of it on the bus has its result discarded. -/
def State.fenceRing (s : State) (i r : Nat) : State :=
  if s.ringValid r ∧ s.ringTx r ∧ s.ringInst r = i then
    let n := s.ringDist r (s.ringDone r) (s.ringPut r)
    let c := s.rd (F.CANRAM_RING0_CTRL r)
    let s := if (s.ctl c).onBus = some (.elem r) then s.modCtl c fun x => { x with discard := true } else s
    let s := (s.completeTo r (s.ringPut r) 0x02).incBy (F.CANRAM_RING4_DROPPED_CANCELLED r) n
    let s := { s with can := { s.can with aborts := s.can.aborts.erase r } }
    (s.countCancelled i n).modInst i fun x => { x with txDone := x.txDone + n }
  else s

/-- CAN_FENCE (R276). -/
def execCanFence (t i : Nat) (s : State) : Host.Outcome State Fault Refusal :=
  let s := s.tick t
  onUnit (decide (i < 64)) <|
    if s.awaits i 0 then ((List.range 128).foldl (fun s r => s.fenceRing i r) s).markDrained i 0 else s

end Sys2Proof.Machine
end

