-- ==== Sys2Proof/Machine/Keys.lean ====
section
/-! DEFINITION. The Pantry's slots and their uses: copies and winners (R351), the fits of a use (R350), the key cache
(R356), and the root (R361, R362). -/

namespace Sys2Proof.Machine

/-- ROOT is blocked (R362). -/
def State.blocked (s : State) : Bool := s.rd F.WORLD_STAT_ROOT == 2

/-- The bank that the Pantry serves: the store, or the debug bank while debug is enabled (R361). -/
def State.bank (s : State) : Tbl Slot2 := if s.rd F.WORLD_STAT_ROOT = 1 then s.pantry.debug else s.pantry.store

/-- A slot of that bank. -/
def State.slotAt (s : State) (k : Nat) : Slot2 := s.bank.getD Slot2.init k

/-- The state with a slot of that bank at `x`. -/
def State.setSlot (s : State) (k : Nat) (x : Slot2) : State :=
  if s.rd F.WORLD_STAT_ROOT = 1 then
    { s with pantry := { s.pantry with debug := (s.pantry.debug).put Slot2.init k x } }
  else { s with pantry := { s.pantry with store := s.pantry.store.put Slot2.init k x } }

/-- The winner of a slot (R351): the passing copy of the greater generation, A on equal ones; true for B. -/
def Slot2.winner (x : Slot2) : Option Bool :=
  match x.a.passes, x.b.passes with
  | true, true => some (decide (x.a.gen < x.b.gen))
  | true, false => some false
  | false, true => some true
  | false, false => none

/-- A copy of a slot. -/
def Slot2.copy (x : Slot2) (b : Bool) : KeyCopy := if b then x.b else x.a

/-- A slot with one copy replaced. -/
def Slot2.setCopy (x : Slot2) (b : Bool) (c : KeyCopy) : Slot2 := if b then { x with b := c } else { x with a := c }

/-- The commit of the present clock, where it concerns slot k (R356). -/
def State.priorOf (s : State) (k : Nat) : Option (Slot2 × List CacheEntry) :=
  match s.pantry.prior with
  | some (t, j, x, c) => if t = s.now ∧ j = k then some (x, c) else none
  | none => none

/-- The content of a slot's winner; none where the slot is unusable or the root is blocked (R351, R362). In the clock of a commit it
is the content before it (R356). -/
def State.winning (s : State) (k : Nat) : Option KeyBody :=
  let x := ((s.priorOf k).map Prod.fst).getD (s.slotAt k)
  if s.blocked then none else x.winner.map fun b => (x.copy b).body

/-- The key cache as a use of slot k sees it: an entry that a commit of the present clock invalidates still serves (R356). -/
def State.cacheOf (s : State) (k : Nat) : Option CacheEntry :=
  match s.pantry.prior with
  | some (t, _, _, c) =>
    List.find? (fun e : CacheEntry => e.slot == k) (if t = s.now then c ++ s.pantry.cache else s.pantry.cache)
  | none => List.find? (fun e : CacheEntry => e.slot == k) s.pantry.cache

/-- Does an entry concern a slot that commits in the present clock, so that it is invalidated (R356)? -/
def State.dying (s : State) (e : CacheEntry) : Bool := (s.priorOf e.slot).isSome || (s.priorOf e.kek).isSome

/-- The kind of use of a key: the types that fit and the USAGE bit it needs (R350). -/
structure Fit where
  types : List Nat
  usage : Nat
  deriving DecidableEq, Repr

/-- A maintenance token's authority key (R133, R350). -/
def tokenFit : Fit := ⟨[7], 6⟩

/-- A migration key (R338, R350). -/
def migrationFit : Fit := ⟨[3], 5⟩

/-- A KEK (R350). -/
def kekFit : Fit := ⟨[2], 2⟩

/-- The key of a MACsec SA under a cipher suite (R249, R350). -/
def macsecFit (suite : Nat) : Fit := ⟨[if suite % 2 = 0 then 1 else 2], 4⟩

/-- Does a key's type and usage fit? -/
def KeyBody.fits (b : KeyBody) (f : Fit) : Bool := f.types.contains b.typ && b.usage.testBit f.usage

/-- A byte list as one number, byte 0 first in significance, as the key of a keyed function. -/
def byteNum (l : List Nat) : Nat := l.foldl (fun n b => 256 * n + b % 256) 1

/-- Exactly `n` bytes of an opaque keyed function's result. -/
def keyedN (alg key n : Nat) (data : List Nat) : List Nat :=
  let r := Config.keyedBytes alg key data
  (List.range n).map fun i => r.getD i 0 % 256

/-- `n` bytes of memory from an address. -/
def State.load (s : State) (a n : Nat) : List Nat := (List.range n).map fun i => (Memory.read s.mem (a + i)).toNat

/-- The little-endian number of a byte list. -/
def leNum : List Nat → Nat
  | [] => 0
  | b :: rest => b + 256 * leNum rest

/-- The bytes of each slot type's content (*Table: Slot types*). -/
def typeBytes (typ : Nat) : Nat := [0, 16, 32, 32, 48, 32, 64, 64, 40].getD typ 0

/-- Bytes `lo` to `lo + n − 1` of a list. -/
def slice (l : List Nat) (lo n : Nat) : List Nat := (l.drop lo).take n

/-- The key in a wrapped blob (R355): none where the blob is malformed or its integrity check fails. -/
def unwrapBlob (kek : KeyBody) (blob : List Nat) : Option KeyBody :=
  let kwLen := blob.getD 7 0
  if slice blob 0 6 ≠ [0x50, 0x57, 0x42, 0x31, 0x01, 0x00] ∨ kwLen < 32 ∨ 80 < kwLen ∨ kwLen % 8 ≠ 0 then none else
  let plain := Config.keyedBytes 2 (byteNum kek.material) (slice blob 16 kwLen)
  if plain.length ≠ kwLen - 8 then none else
  let typ := plain.getD 0 0
  let len := plain.getD 3 0
  if typ = 0 ∨ 8 < typ ∨ len ≠ typeBytes typ ∨ 1 < plain.getD 2 0 ∨ slice plain 4 4 ≠ [0, 0, 0, 0] ∨ len + 16 ≠ kwLen then none
  else some ⟨typ, plain.getD 1 0 % 256, plain.getD 2 0 == 1, false, false, (plain.drop 8).take len⟩

/-- What a BLOB_REF slot refers to (R349): address, KEK slot and digest of the blob. -/
def KeyBody.blobRef (b : KeyBody) : Nat × Nat × Nat :=
  (leNum (slice b.material 0 5), b.material.getD 5 0 % 64, byteNum (slice b.material 8 32) % 2 ^ 256)

/-- A key cache miss (R356): the blob is fetched, its digest checked, and it is unwrapped under the KEK slot. A fetch that is refused
reads zeros (R345). -/
def State.loadBlob (s : State) (slot : Nat) (b : KeyBody) : Option CacheEntry × State :=
  let (addr, kek, digest) := b.blobRef
  let n := 16 + (Memory.read s.mem (addr + 7)).toNat
  (match s.winning kek with
    | none => none
    | some k =>
      if s.reaches addr n false ∧ k.fits kekFit ∧ Config.sha256 (s.load addr n) = digest then
        (unwrapBlob k (s.load addr n)).map fun x => ⟨slot, kek, x⟩
      else none,
   s.buffer addr n false id id)

/-- The state with an entry entered in, or moved to, the front of the key cache. -/
def State.cacheFront (s : State) (e : CacheEntry) : State :=
  if s.dying e then s
  else { s with pantry := { s.pantry with cache := e :: (s.pantry.cache.filter fun x => x.slot ≠ e.slot).take 15 } }

/-- The key that a use of a slot is served with (R350, R356), with the key cache after it. -/
def State.useSlot (s : State) (k : Nat) : Option KeyBody × State :=
  match s.winning k with
  | none => (none, s)
  | some b =>
    if b.typ ≠ 8 then (some b, s) else
    match s.cacheOf k with
    | some e => (some e.body, (s.inc F.PANTRY_CACHE_HITS).cacheFront e)
    | none =>
      let r := (s.inc F.PANTRY_CACHE_MISSES).loadBlob k b
      match r.1 with
      | some e => (some e.body, r.2.cacheFront e)
      | none => (none, r.2)

/-- The key that a use of a slot would be served with, without the cache's bookkeeping. -/
def State.keyOf (s : State) (k : Nat) : Option KeyBody := (s.useSlot k).1

/-- Does a slot fit a use (R350)? -/
def State.slotFits (s : State) (k : Nat) (f : Fit) : Bool :=
  match s.keyOf k with
  | some b => b.fits f
  | none => false

/-- Does a firmware key pin 0 to 3 under which both signatures verify stand unrevoked (R359)? -/
def State.pinsOk (s : State) (pins : List Nat) : Bool := pins.any fun k => decide (k < 4) && !s.efuse.revoked.testBit k

/-- The firmware key pins under which both signatures of an image verify (R359). -/
def State.pinsFor (s : State) (msg sigs : List Nat) : List Nat :=
  (List.range 4).filter fun k => Config.sigsOk (leBytes 64 (s.efuse.pins.getD 0 k)) msg sigs

/-- The active root (R361, R362): the device root, or the published test root. -/
def State.activeRoot (s : State) : Nat := if s.rd F.WORLD_STAT_ROOT = 1 then Config.testRoot else s.efuse.root

/-- The key cache is emptied (R356). -/
def State.emptyCache (s : State) : State := { s with pantry := { s.pantry with cache := [] } }

end Sys2Proof.Machine
end

