-- ==== Sys2Proof/Machine/Time.lean ====
section
/-! DEFINITION. The time unit (*Time base and synchronisation*, R277 to R299). -/

namespace Sys2Proof.Machine

/-- The code of a servo state (TIME_STAT.STATE). -/
def ServoState.code : ServoState → Nat
  | .free => 0 | .acquire => 1 | .locked => 2 | .holdover => 3 | .grandmaster => 4

/-- The word of TIME_STAT, which TIME records carry as VAL0 (R407). -/
def State.timeStat (s : State) : Nat :=
  s.time.servo.code * 2 ^ 29 + bit s.synced * 2 ^ 28 + s.rd F.TIME_STAT_EPOCH_VALID * 2 ^ 27 +
    bit (decide (s.now < s.time.busyEnd)) * 2 ^ 26 + s.rd F.TIME_STAT_LOCK_RUN

/-- The state with the servo in state `v`. -/
def State.setServo (s : State) (v : ServoState) : State := { s with time := { s.time with servo := v } }

/-- A record of the time unit. -/
def State.timeRecord (s : State) (kind sev : Nat) (vals : List Nat) : State :=
  s.record 0x0C kind sev 0 0 (s.timeStat :: vals)

/-- The set rebased at instant `a` with a new RATE (R279): T is continuous at `a`. -/
def TimeParams.rebase (p : TimeParams) (a : Nat) (rate : Int) : TimeParams :=
  { frcRef := a
    offset := ofSigned 64 ((p.offset : Int) + p.rate * ((a : Int) - p.frcRef) / (2 ^ 32 : Nat))
    rate := rate, applied := a }

/-- A new parameter set takes effect at one apply instant, and the time unit keeps the one before it (R279, R295). -/
def State.setParams (s : State) (p : TimeParams) : State :=
  { s with time := { s.time with prev := s.time.par, par := { p with applied := s.now } } }

/-- The next PPS-out instant after `t`: PPS_PHASE + k × PPS_PERIOD (R296). -/
def State.ppsAfter (s : State) (t : Nat) : Nat :=
  let per := max 1 (ms (s.rd F.TIME_PPS_OUT_PPS_PERIOD))
  let ph := s.rd F.TIME_PPS_PHASE_PPS_PHASE % per
  if t < ph then ph else ph + ((t - ph) / per + 1) * per

/-- PPS out rises now and stays high for PPS_WIDTH (R296). -/
def State.ppsRise (s : State) : State :=
  { s with time := { s.time with
      ppsNext := some (s.ppsAfter s.tNow), ppsLow := some (s.tNow + ms (s.rd F.TIME_PPS_OUT_PPS_WIDTH)) } }

/-- A PPS instant that a step skips forward over is acted on once, at the apply instant (R281). -/
def State.ppsAfterStep (s : State) : State :=
  match s.time.ppsNext with
  | some n => if s.flag F.TIME_PPS_OUT_EN ∧ n ≤ s.tNow then s.ppsRise else s
  | none => s

/-- The reference instant of R134: T at the first instant after the loss of the token nonces at which SYNCED and EPOCH_VALID
are both 1. -/
def State.noteSync (s : State) : State :=
  if s.cyc.noncesLost ∧ s.cyc.refInst = none ∧ s.synced ∧ s.flag F.TIME_STAT_EPOCH_VALID then
    { s with cyc := { s.cyc with refInst := some s.tNow } }
  else s

/-- What a step of `v` ns, already in OFFSET, does beside (R281, R293, R299): a step of 0 is no step. -/
def State.afterStep (s : State) (v : Int) : State :=
  if v = 0 then s else
  let s := (s.inc F.TIME_CNT_STEPS).setF F.TIME_STAT_EPOCH_VALID
  let s := s.timeRecord 0x01 5 [ofSigned 64 v % 2 ^ 32, ofSigned 64 v / 2 ^ 32]
  let s := if s.time.servo = .locked then (s.setServo .acquire).wr F.TIME_STAT_LOCK_RUN 0 else s
  s.ppsAfterStep

/-- A parameter set stepped by `v` ns (R279). -/
def TimeParams.step (p : TimeParams) (v : Int) : TimeParams := { p with offset := ofSigned 64 ((p.offset : Int) + v) }

/-- The servo input that TIME_CFG.SRC selects. -/
def State.timeSrc (s : State) : Nat := s.rd F.TIME_CFG_SRC

/-- R292 for the input o: the step or the PI update, before the servo state changes. The pair tells whether T stepped. -/
def State.servoUpdate (s : State) (o : Int) : State × Bool :=
  let rmax : Int := (s.rd F.TIME_SERVO_LIM_RATE_MAX * 2 ^ 32 / 1000000 : Nat)
  let par := s.time.par
  if s.flag F.TIME_CFG_STEP_EN ∧
      (s.time.servo = .free ∨ (max 1 (s.rd F.TIME_STEP_THRESH_STEP_THRESH)) ≤ o.natAbs) then
    let s' := if o = 0 then s else s.setParams (par.step (-o))
    let s' := { s' with time := { s'.time with integ := par.rate } }
    ((s'.wr F.TIME_STAT_LOCK_RUN 0).afterStep (-o), decide (o ≠ 0))
  else
    let integ := satInt (s.time.integ - (s.rd F.TIME_SERVO_GAIN_KI * o) / 16) (-rmax) rmax
    let rate := satInt (integ - (s.rd F.TIME_SERVO_GAIN_KP * o) / 16) (-rmax) rmax
    let s' := s.setParams (par.rebase s.now rate)
    let s' := { s' with time := { s'.time with integ := integ } }
    (if o.natAbs < s.rd F.TIME_SERVO_LIM_LOCK_THRESH then s'.inc F.TIME_STAT_LOCK_RUN
      else s'.wr F.TIME_STAT_LOCK_RUN 0, false)

/-- ACQUIRE becomes LOCKED when lock_run reaches LOCK_CNT (R293). -/
def State.tryLock (s : State) : State :=
  if s.time.servo = .acquire ∧ s.rd F.TIME_SERVO_LIM_LOCK_CNT ≤ s.rd F.TIME_STAT_LOCK_RUN then
    (s.setServo .locked).timeRecord 0x02 3 []
  else s

/-- The servo state after an accepted input o (*Table: Servo states*). -/
def State.servoNext (s : State) (before : ServoState) (o : Int) (stepped : Bool) : State :=
  match before with
  | .free | .holdover => (s.setServo .acquire).tryLock
  | .acquire => s.tryLock
  | .locked =>
    if stepped ∨ 4 * s.rd F.TIME_SERVO_LIM_LOCK_THRESH ≤ o.natAbs then
      (s.setServo .acquire).wr F.TIME_STAT_LOCK_RUN 0
    else s
  | .grandmaster => s

/-- A servo window closes (R293): the state it leads to and its record, with the state it closed in kept for an input of the
same clock. -/
def State.servoClose (s : State) (next : ServoState) (kind : Nat) : State :=
  ({ s with time := { s.time with servo := next, left := some (s.now, s.time.servo) } }).timeRecord kind 4 []

/-- An input written in the clock in which a servo window closes is taken first (R17, R292): where the close has been handled
before it, the state stands again in which the window closed, and the record of the close is not written. -/
def State.inputFirst (s : State) : State :=
  match s.time.left with
  | some (t, v) =>
    if t = s.now then
      { s with
        time := { s.time with servo := v, left := none }
        log := { s.log with ports := s.log.ports.put [] 0x0C <| (s.log.ports.getD [] 0x0C).filter fun r : Record =>
          !(r.stamp == s.now && (r.kind == 0x03 || r.kind == 0x04)) } }
    else s
  | none => s

/-- An input offered to the servo: refused while the one before is in process, accepted and processed otherwise (R292,
R293, R299). -/
def State.servoInput (s : State) (o : Int) : State :=
  if s.now < s.time.busyEnd then s.inc F.TIME_CNT_IN_REFUSED else
  let s := s.inputFirst
  let s := { s with time := { s.time with busyEnd := s.now + 50, lastInput := s.now } }
  let s := (s.wr F.TIME_LAST_O_O (ofSigned 32 o)).setF F.TIME_STAT_EPOCH_VALID
  let r := s.servoUpdate o
  (r.1.servoNext s.time.servo o r.2).noteSync

/-- A read of a latching pair (R282, R10): the low word of `v`, the high word latched into `hi` unless the peek alias is
read. -/
def State.latchRead (s : State) (v : Nat) (hi : Fld) (peek : Bool) : State :=
  (if peek then s else s.wr hi (v / 2 ^ 32)).answer 0 (v % 2 ^ 32)

/-- FRC_LO_READ (R282). -/
def execFrcLoRead (t : Nat) (a : Attr) (peek : Bool) (s : State) : Host.Outcome State Fault Refusal :=
  let s := s.tick t
  .next (s.guarded a (rsAddr (F.TIME_FRC_FRC 0).addr peek) false true fun s => s.latchRead s.now (F.TIME_FRC_FRC 1) peek)

/-- T_LO_READ (R282): T taken at the same FRC instant. -/
def execTLoRead (t : Nat) (a : Attr) (peek : Bool) (s : State) : Host.Outcome State Fault Refusal :=
  let s := s.tick t
  .next (s.guarded a (rsAddr (F.TIME_T_T 0).addr peek) false true fun s => s.latchRead s.tNow (F.TIME_T_T 1) peek)

/-- The rebase and the step of APPLY at one apply instant (R294). -/
def State.applyAdj (s : State) : State :=
  let v := toSigned 64 (s.rd64 F.TIME_ADJ_STEP_STEP)
  let p := s.time.par.rebase s.now (toSigned 32 (s.rd F.TIME_ADJ_RATE_ADJ_RATE))
  ((s.setParams (p.step v)).afterStep v).noteSync

/-- APPLY (R294). -/
def execTimeApply (t : Nat) (a : Attr) (s : State) : Host.Outcome State Fault Refusal :=
  let s := s.tick t
  .next (s.guarded a F.TIME_ADJ_CTL_ADJ_REFUSED.addr true true fun s =>
    if s.timeSrc = 0 then s.applyAdj else s.raise F.TIME_ADJ_CTL_ADJ_REFUSED)

/-- SERVO_INPUT (R292): accepted only with SRC = 1. -/
def execServoInput (t : Nat) (a : Attr) (o : Word) (s : State) : Host.Outcome State Fault Refusal :=
  let s := s.tick t
  .next (s.guarded a 0x41000054 true true fun s => if s.timeSrc = 1 then s.servoInput o.toInt else s)

/-- A write of TIME_CFG (R293): a change of SRC resets the servo to FREE; a write that leaves SRC changes STEP_EN and
GM_VALID. SRC 0b11 is taken as manual. -/
def State.writeTimeCfg (s : State) (v : Nat) : State :=
  let src := if bits v 31 30 = 3 then 0 else bits v 31 30
  let gm := bits v 28 28
  let changed := decide (src ≠ s.timeSrc)
  let s := ((s.wr F.TIME_CFG_SRC src).wr F.TIME_CFG_STEP_EN (bits v 29 29)).wr F.TIME_CFG_GM_VALID gm
  State.noteSync <|
    if changed then
      let s := s.wr F.TIME_STAT_LOCK_RUN 0
      { s with time := { s.time with servo := .free, integ := s.time.par.rate } }
    else match s.time.servo, gm with
      | .free, 1 => s.setServo .grandmaster
      | .grandmaster, 0 => s.setServo .free
      | _, _ => s

/-- TIME_CFG_WRITE (R293). -/
def execTimeCfgWrite (t : Nat) (a : Attr) (value : Word) (s : State) : Host.Outcome State Fault Refusal :=
  let s := s.tick t
  .next (s.guarded a F.TIME_CFG_SRC.addr true true fun s => s.writeTimeCfg value.toNat)

/-- HOLDOVER_TIMEOUT (R293): the window [last input, last input + HOLDOVER_TMO) has closed in ACQUIRE or LOCKED. -/
def execHoldoverTimeout (t : Nat) (s : State) : Host.Outcome State Fault Refusal :=
  let s := s.tick t
  .next <|
    if (s.time.servo = .acquire ∨ s.time.servo = .locked) ∧
        s.closed s.time.lastInput (ms (s.rd F.TIME_SERVO_TMO_HOLDOVER_TMO)) then
      ({ s with time := { s.time with fromLocked := decide (s.time.servo = ServoState.locked), holdEntry := s.now } }).servoClose
        .holdover 0x03
    else s

/-- HOLDOVER_MAX_EXPIRY (R293). -/
def execHoldoverMaxExpiry (t : Nat) (s : State) : Host.Outcome State Fault Refusal :=
  let s := s.tick t
  .next <|
    if s.time.servo = .holdover ∧ s.closed s.time.holdEntry (secs (s.rd F.TIME_SERVO_TMO_HOLDOVER_MAX)) then
      s.servoClose .free 0x04
    else s

/-- CONV_START (R295): the write of IN_HI starts the conversion. -/
def execConvStart (t : Nat) (a : Attr) (hi : Word) (s : State) : Host.Outcome State Fault Refusal :=
  let s := s.tick t
  .next (s.guarded a (F.TIME_CONV_IN_FRC 1).addr true true fun s =>
    let s := (s.wr (F.TIME_CONV_IN_FRC 1) hi.toNat).clrF F.TIME_CONV_STAT_VALID
    { s with time := { s.time with convPend := some (s.rd64 F.TIME_CONV_IN_FRC) } })

/-- The parameter set in force at an FRC value, where the time unit still keeps it (R295). -/
def State.setAt (s : State) (f : Nat) : Option TimeParams :=
  if s.time.par.applied ≤ f then some s.time.par
  else if s.time.prev.frcRef ≤ f then some s.time.prev else none

/-- CONV_COMPLETE (R295). -/
def execConvComplete (t : Nat) (s : State) : Host.Outcome State Fault Refusal :=
  let s := s.tick t
  .next <| match s.time.convPend with
    | none => s
    | some f =>
      let s := { s with time := { s.time with convPend := none } }
      match s.setAt f with
      | some p => (s.wr64 F.TIME_CONV_OUT_T (p.toT f)).setF F.TIME_CONV_STAT_VALID
      | none => s.clrF F.TIME_CONV_STAT_VALID

/-- Is a PPS-out instant due and not yet acted on (R281, R296)? -/
def State.ppsDue (s : State) : Bool :=
  s.flag F.TIME_PPS_OUT_EN && match s.time.ppsNext with
    | some n => decide (n ≤ s.tNow)
    | none =>
      let per := max 1 (ms (s.rd F.TIME_PPS_OUT_PPS_PERIOD))
      s.tNow % per == s.rd F.TIME_PPS_PHASE_PPS_PHASE % per

/-- PPS_OUT_EDGE (R296). -/
def execPpsOutEdge (t : Nat) (s : State) : Host.Outcome State Fault Refusal :=
  let s := s.tick t
  .next (if s.ppsDue then s.ppsRise else s)

/-- The signed distance of an edge from the nearest whole second of T (R297). -/
def ppsOffset (tCap : Nat) : Int := ((tCap + 500000000) % 1000000000 : Nat) - (500000000 : Int)

/-- PPS_IN_EDGE (R297). -/
def execPpsInEdge (t : Nat) (s : State) : Host.Outcome State Fault Refusal :=
  let s := s.tick t
  .next <| if s.flag F.TIME_PPS_IN_EN then
      let s := s.updates (F.TIME_PPS_IN_TS_FRC 0).addr s.time.ppsTs
      let s := ({ s with time := { s.time with ppsTs := s.now } }).raise F.TIME_PPS_IN_NEW
      let s := s.wr (F.TIME_PPS_IN_TS_FRC 0) s.now
      if s.timeSrc = 2 then s.servoInput (ppsOffset s.tNow) else s
    else s

/-- FRC of the last PPS-in edge, as it stood before the present clock's updates (R14). -/
def State.ppsTsRead (s : State) : Nat := (s.clk.olds.find? (F.TIME_PPS_IN_TS_FRC 0).addr).getD s.time.ppsTs

/-- PPS_IN_TS_READ (R282). -/
def execPpsInTsRead (t : Nat) (a : Attr) (peek : Bool) (s : State) : Host.Outcome State Fault Refusal :=
  let s := s.tick t
  .next (s.guarded a (rsAddr (F.TIME_PPS_IN_TS_FRC 0).addr peek) false true fun s =>
    s.latchRead s.ppsTsRead (F.TIME_PPS_IN_TS_FRC 1) peek)

/-- The address of TIME_TXTSp. -/
def txtsAddr (p : Nat) : Nat := 0x41000104 + 0x10 * p

/-- Enters a transmit stamp in a port's queue of 16, or counts it as lost (R290). -/
def State.pushTxts (s : State) (p : Nat) (e : TxStamp) : State :=
  let q := s.time.txts.getD [] p
  if q.length < 16 then ({ s with time := { s.time with txts := s.time.txts.put [] p (q ++ [e]) } }).pushed (txtsAddr p)
  else
    let lost := s.time.txtsLost.getD 0 p
    let s := (s.updates (txtsAddr p) lost).pushed (txtsAddr p + 4)
    { s with time := { s.time with txtsLost := s.time.txtsLost.put 0 p (satSucc 3 lost) } }

/-- The entries of a port's queue that stood there before the present clock (R14). -/
def State.txtsSettled (s : State) (p : Nat) : List TxStamp :=
  let q := s.time.txts.getD [] p
  q.take (s.settled (txtsAddr p) q.length)

/-- The word a read of TIME_TXTSp returns: the values before the present clock's updates (R14). -/
def State.txtsWord (s : State) (p : Nat) : Nat :=
  let lost := (s.clk.olds.find? (txtsAddr p)).getD (s.time.txtsLost.getD 0 p) * 2 ^ 28
  match s.txtsSettled p with
  | [] => lost
  | e :: _ => 2 ^ 31 + lost + e.msgType % 16 * 2 ^ 24 + e.domain % 256 * 2 ^ 16 + e.seq % 65536

/-- The side effect of that read: the oldest entry is removed and its stamp loaded; entries lost in the present clock are counted
after it. -/
def State.popTxts (s : State) (p : Nat) : State :=
  let s' := { s with time := { s.time with
    txtsLost := s.time.txtsLost.put 0 p (min 7 (s.clk.pushes.getD 0 (txtsAddr p + 4))) } }
  match s.txtsSettled p with
  | [] => s'
  | e :: _ =>
    ({ s' with time := { s'.time with txts := s'.time.txts.put [] p ((s.time.txts.getD [] p).drop 1) } }).wr64
      (F.TIME_TXTS_T_T p) e.t

/-- TXTS_READ (R290, R10). -/
def execTxtsRead (t : Nat) (a : Attr) (port : Nat) (peek : Bool) (s : State) : Host.Outcome State Fault Refusal :=
  let s := s.tick t
  onUnit (decide (8 ≤ port ∧ port < 24)) <|
    s.guarded a (rsAddr (txtsAddr port) peek) false true fun s =>
      (if peek then s else s.popTxts port).answer 0 (s.txtsWord port)

/-- The time unit hands FRC and T to the Cellar (R298): until the next hub power-up T runs on from them, at rate 0. -/
def State.timeToCellar (s : State) : State :=
  let p : TimeParams := ⟨s.now, ofSigned 64 ((s.tNow : Int) - s.now), 0, s.now⟩
  { s with time := { s.time with
      par := p, prev := p, servo := .free, fromLocked := false, integ := 0, busyEnd := 0, convPend := none,
      left := none, ppsNext := none, ppsLow := none, ppsTs := 0, txts := [], txtsLost := [] } }

/-- The parameter set at a hub power-up (R298, R299): FRC_REF is the start value, OFFSET stands and RATE is 0. -/
def State.timeStart (s : State) : State :=
  let p : TimeParams := ⟨s.now, s.time.par.offset, 0, s.now⟩
  ({ s with time := { s.time with
      par := p, prev := p, servo := .free, integ := 0, lastInput := 0, holdEntry := 0 } }).wr F.TIME_STAT_LOCK_RUN 0

end Sys2Proof.Machine
end

