-- ==== Sys2Proof/Machine/Hallway.lean ====
section
/-! DEFINITION. The Hallway switch (*Hallway switch*, R226 to R251) and the PTP frames that pass it (R283 to R291). -/

namespace Sys2Proof

/-- A PTP event message: messageType 0x0 to 0x3. -/
def PtpMsg.event (m : PtpMsg) : Bool := decide (m.msgType < 4)

/-- A frame outside the SecY: a PTP event frame of EtherType 0x88F7 (R250), or key agreement (R249). -/
def EthFrame.bypass (f : EthFrame) : Bool :=
  f.etype == 0x888E || (match f.ptp with | some m => m.event && !m.udp | none => false)

end Sys2Proof

namespace Sys2Proof.Machine

/-- The speed of a port in Mb/s (*Table: Hallway port numbers*). -/
def hallSpeed (p : Nat) : Nat :=
  if p < 4 then 10000 else if p = 4 then 1000 else if p < 7 then 10000 else if p = 7 then 1000
  else if p < 10 then 10000 else if p < 12 then 2500 else if p < 18 then 1000 else if p < 22 then 100 else 10

/-- The largest frame of a port in bytes (*Table: Hallway port numbers*). -/
def hallMax (p : Nat) : Nat := if p < 18 then 9216 else 1522

/-- The cells of a frame of `n` bytes (R232). -/
def cellsOf (n : Nat) : Nat := ceilDiv n 64

/-! ### Link-local and group addresses -/

/-- The 16 link-local addresses 01-80-C2-00-00-00 to 01-80-C2-00-00-0F (R229). -/
def linkLocal (da : Nat) : Bool := da / 16 == 0x0180C200000

/-- The address 01-80-C2-00-00-0E of R286. -/
def daPeer : Nat := 0x0180C200000E

/-- Is an address a group address? -/
def groupAddr (mac : Nat) : Bool := mac.testBit 40

/-! ### Counters, links and the buffer -/

/-- Adds one to HALL_PORT_CNTk of a port. -/
def State.hallInc (s : State) (p k : Nat) : State := s.inc (F.HALL_PORT_CNT_COUNT p k)

/-- The link state of a port: 0 UP, 1 HOLD, 2 DOWN (R247); internal ports are always UP. -/
def State.link (s : State) (p : Nat) : Nat := if p < 8 then 0 else s.rd (F.HALL_PORT_STAT_LINK_STATE p)

/-- Free cells of the shared buffer (R232). -/
def State.cellsFree (s : State) : Nat := 98304 - s.hall.frames.foldl (fun n x => n + x.2.cells) 0

/-- Free descriptors (R232). -/
def State.descFree (s : State) : Nat := 65536 - s.hall.queues.foldl (fun n x => n + x.2.length) 0

/-- The copies in queue t of port p, oldest first. -/
def State.hallQ (s : State) (p t : Nat) : List QCopy := s.hall.queues.getD [] (8 * p + t)

/-- The occupancy of a queue in cells (R235). -/
def State.hallOcc (s : State) (p t : Nat) : Nat :=
  (s.hallQ p t).foldl (fun n c => n + ((s.hall.frames.find? c.id).map (·.cells)).getD 0) 0

/-- The lowest number of free cells follows (HALL_BUF_MIN). -/
def State.noteFree (s : State) (free : Nat) : State :=
  if free < s.rd F.HALL_BUF_MIN_MIN then s.wr F.HALL_BUF_MIN_MIN free else s

/-- Internal hold follows the free cells (R239). -/
def State.holdTick (s : State) : State :=
  let free := s.cellsFree
  let xoff := s.rd F.HALL_BUF_CFG_INT_XOFF
  let xon := max (s.rd F.HALL_BUF_CFG_INT_XON) (xoff + 1)
  if free < 64 * xoff then
    s.wr F.HALL_INT_HOLD_HELD (s.rd F.HALL_INT_HOLD_INT_HOLD_MASK &&& 0x6F)
  else if 64 * xon ≤ free then s.clrF F.HALL_INT_HOLD_HELD
  else s

/-- One copy of a frame goes: with its last copy the frame's cells are freed (R232). -/
def State.hallDrop (s : State) (id : Nat) : State :=
  match s.hall.frames.find? id with
  | none => s
  | some x =>
    let fr := if x.copies ≤ 1 then s.hall.frames.erase id
      else s.hall.frames.insert id { x with copies := x.copies - 1 }
    ({ s with hall := { s.hall with frames := fr } }).holdTick

/-- A queue without its first copy. -/
def State.popQ (s : State) (p t : Nat) : State :=
  { s with hall := { s.hall with queues := s.hall.queues.put [] (8 * p + t) (s.hallQ p t).tail } }

/-! ### Gate lists -/

/-- A list cut at the end of its cycle, or with its last entry lasting to that end (R242). -/
def cutGates : List (Nat × Nat) → Nat → List (Nat × Nat)
  | [], _ => []
  | [(g, _)], left => [(g, left)]
  | (g, i) :: rest, left => if left ≤ i then [(g, left)] else (g, i) :: cutGates rest (left - i)

/-- The operational list of a port: GATES and duration of each entry of a cycle (R242). -/
def State.operList (s : State) (p : Nat) : List (Nat × Nat) :=
  cutGates ((List.range (s.rd (F.HALL_GCL_CTL_OPER_LEN p))).map fun e =>
      (s.rd (F.HALL_GCL_OPR0_GATES p e), max 1 (s.rd (F.HALL_GCL_OPR1_INTERVAL p e))))
    (s.rd (F.HALL_GCL_OPER_CYCLE_OPER_CYCLE p))

/-- Where T stands in the operational cycle of a port, in ns from the start of the cycle; a cycle that would begin in
[change instant − CYCLE_EXT, change instant) does not begin (R243). -/
def State.gatePos (s : State) (p : Nat) : Nat :=
  let cyc := max 1 (s.rd (F.HALL_GCL_OPER_CYCLE_OPER_CYCLE p))
  let base : Int := s.rd64 (F.HALL_GCL_OPER_BASE_OPER_BASE p)
  let tn : Int := s.tNow
  let from_ : Int := match s.hall.change.find? p with
    | some c =>
      let open_ : Int := (c : Int) - s.rd (F.HALL_GCL_CYCLE_EXT_CYCLE_EXT p)
      if open_ ≤ tn ∧ tn < c then open_ - 1 else tn
    | none => tn
  ((from_ - base) % cyc + (tn - from_)).toNat

/-- The entries from a position on: the rest of the entry in force, then the ones after it. Past the end the last entry
stays in force. -/
def gatesFrom : List (Nat × Nat) → Nat → List (Nat × Nat)
  | [], _ => []
  | [(g, i)], pos => [(g, i - pos)]
  | (g, i) :: rest, pos => if pos < i then (g, i - pos) :: rest else gatesFrom rest (pos - i)

/-- The open gates of a port, as a mask (R242). -/
def State.gates (s : State) (p : Nat) : Nat :=
  if p < 22 ∧ s.flag (F.HALL_GCL_CTL_GATE_EN p) then
    match gatesFrom (s.operList p) (s.gatePos p) with
    | (g, _) :: _ => g
    | [] => 0xFF
  else 0xFF

/-- The time for which a class stays open along a list, from its first entry on. -/
def openRun (tc : Nat) : List (Nat × Nat) → Nat
  | [] => 0
  | (g, i) :: rest => if g.testBit tc then i + openRun tc rest else 0

/-- The longest open time of a class over a list, unbroken. -/
def longestRun (tc : Nat) : List (Nat × Nat) → Nat
  | [] => 0
  | x :: rest => max (openRun tc (x :: rest)) (longestRun tc rest)

/-- How long a class stays open from now (R244); none: its gate never closes. -/
def State.openFor (s : State) (p tc : Nat) : Option Nat :=
  if p < 22 ∧ s.flag (F.HALL_GCL_CTL_GATE_EN p) then
    let l := s.operList p
    if l.all fun x => x.1.testBit tc then none else some (openRun tc (gatesFrom (s.operList p) (s.gatePos p) ++ l))
  else none

/-- The longest continuous open time of a class (R244); none: its gate never closes. -/
def State.longestOpen (s : State) (p tc : Nat) : Option Nat :=
  if p < 22 ∧ s.flag (F.HALL_GCL_CTL_GATE_EN p) then
    let l := s.operList p
    if l.all fun x => x.1.testBit tc then none else some (longestRun tc (l ++ l))
  else none

/-- The time of a frame on the wire in ns, with preamble and inter-frame gap. -/
def wireTime (p len : Nat) : Nat := ceilDiv (8000 * (len + 20)) (hallSpeed p)

/-- Is a class preemptable on a port (R245)? -/
def State.preemptable (s : State) (p tc : Nat) : Bool :=
  s.flag (F.HALL_PORT_STAT_PREEMPT_ACTIVE p) && !(s.rd (F.HALL_PORT_CFG_EXPRESS p)).testBit tc

/-- May a frame of a class start now under R244? -/
def State.fits (s : State) (p tc len : Nat) : Bool :=
  s.preemptable p tc || (match s.openFor p tc with
    | none => true
    | some d => decide (wireTime p len ≤ d))

/-- A frame that could never meet R244: it is longer than the longest continuous open time. -/
def State.oversize (s : State) (p tc len : Nat) : Bool :=
  !s.preemptable p tc && (match s.longestOpen p tc with
    | none => false
    | some d => decide (d < wireTime p len))

/-! ### Shapers and meters -/

/-- The shaper of a queue filled up to now, at RATE up to the port speed: what is missing from a full bucket, in 1/8,000 byte
(R240). -/
def State.shaperMissing (s : State) (p t : Nat) : Nat :=
  let x := s.hall.shapers.getD (0, 0) (8 * p + t)
  x.1 - (s.now - x.2) * min (hallSpeed p) (s.rd (F.HALL_Q_SHAPE_RATE p t))

/-- Does the shaper of a queue hold no token debt (R240)? -/
def State.shaperOk (s : State) (p t : Nat) : Bool :=
  !s.flag (F.HALL_Q_SHAPE_SH_EN p t) ||
    decide (s.shaperMissing p t ≤ 8000 * 1024 * s.rd (F.HALL_Q_SHAPE_BURST p t))

/-- A departing frame subtracts L from the shaper of its queue (R240). -/
def State.shaperTake (s : State) (p t len : Nat) : State :=
  if s.flag (F.HALL_Q_SHAPE_SH_EN p t) then
    { s with hall := { s.hall with
        shapers := s.hall.shapers.put (0, 0) (8 * p + t) (s.shaperMissing p t + 8000 * len, s.now) } }
  else s

/-- A colour: green, yellow, red. -/
inductive Colour where | green | yellow | red
  deriving DecidableEq, Repr

/-- The word of a drop profile that a colour uses. -/
def Colour.word : Colour → Nat
  | .green => 0 | .yellow => 1 | .red => 2

/-- The colour by meter m (R234): RFC 2698 over L, with buckets that start full. -/
def State.meter (s : State) (m len : Nat) (dei : Bool) : Colour × State :=
  let x := s.hall.meters.getD (0, 0, 0) m
  let cir := s.rd (F.HALL_MTR0_CIR m)
  let pir := max cir (s.rd (F.HALL_MTR2_PIR m))
  let missC := x.1 - (s.now - x.2.2) * cir
  let missP := x.2.1 - (s.now - x.2.2) * pir
  let need := 1000000 * len
  let fitsC := decide (missC + need ≤ 1000000 * s.rd (F.HALL_MTR1_CBS m))
  let fitsP := decide (missP + need ≤ 1000000 * s.rd (F.HALL_MTR3_PBS m))
  let pre := s.flag (F.HALL_MTR0_COLOUR_AWARE m) && dei
  let c : Colour := if !fitsP then .red else if pre || !fitsC then .yellow else .green
  let y := match c with
    | .red => (missC, missP, s.now)
    | .yellow => (missC, missP + need, s.now)
    | .green => (missC + need, missP + need, s.now)
  (c, { s with hall := { s.hall with meters := s.hall.meters.put (0, 0, 0) m y } })

/-! ### Streams and FRER -/

/-- Does stream entry k match a frame (R233)? -/
def State.streamHit (s : State) (p da vid pcp k : Nat) : Bool :=
  s.flag (F.HALL_STREAM0_VALID k) &&
  (s.rd (F.HALL_STREAM0_INGRESS k) == p || s.rd (F.HALL_STREAM0_INGRESS k) == 0x1F) &&
  s.rd (F.HALL_STREAM0_VID k) == vid &&
  s.rd (F.HALL_STREAM1_DA_LO k) + 2 ^ 32 * s.rd (F.HALL_STREAM2_DA_HI k) == da &&
  (!s.flag (F.HALL_STREAM0_USE_PCP k) || s.rd (F.HALL_STREAM0_PCP k) == pcp)

/-- The stream of a frame: the valid entry of lowest index whose key it matches (R233). -/
def State.streamOf (s : State) (p da vid pcp : Nat) : Option Nat :=
  List.find? (s.streamHit p da vid pcp) (List.range 1024)

/-- The vector recovery algorithm of IEEE 802.1CB over a history of HIST + 1 (R248): is the frame accepted? -/
def Recov.accept (x : Recov) (hist seq now : Nat) : Bool × Recov :=
  let d := toSigned 16 (seq + 65536 - x.num % 65536)
  if (hist : Int) < d ∨ d < -(hist : Int) then (false, { x with last := now })
  else if d ≤ 0 then
    if x.history.testBit d.natAbs then (false, { x with last := now })
    else (true, { x with history := maskSet x.history d.natAbs, last := now })
  else (true, ⟨seq % 65536, maskSet (x.history * 2 ^ d.natAbs % 2 ^ (hist + 1)) 0, now⟩)

/-- Recovery of a stream with FRER_REC for a frame with an R-TAG on B1 or B2 (R248): a duplicate is discarded and
counted. -/
def State.frerRecover (s : State) (k seq : Nat) : Bool × State :=
  let r := match s.hall.recov.find? k with
    | some x => x.accept (s.rd (F.HALL_STREAM3_HIST k)) seq s.now
    | none => (true, ⟨seq % 65536, 1, s.now⟩)
  let s := { s with hall := { s.hall with recov := s.hall.recov.insert k r.2 } }
  (r.1, if r.1 then s else s.inc (F.HALL_STREAM6_FRER_DISC k))

/-- The next sequence number of a stream with FRER_GEN (R248). -/
def State.frerNext (s : State) (k : Nat) : Nat × State :=
  let n := s.hall.seqs.getD 0 k
  (n, { s with hall := { s.hall with seqs := s.hall.seqs.put 0 k ((n + 1) % 65536) } })

/-! ### The forwarding database -/

/-- Is this the entry of a VLAN and an address? -/
def FdbEntry.is (e : FdbEntry) (vid mac : Nat) : Bool := e.vid == vid && e.mac == mac

/-- The entry of a VLAN and an address. -/
def State.fdbFind (s : State) (vid mac : Nat) : Option FdbEntry := List.find? (·.is vid mac) s.hall.fdb

/-- The state with another database. -/
def State.setFdb (s : State) (l : List FdbEntry) : State := { s with hall := { s.hall with fdb := l } }

/-- Is there room for a new entry: in the 16,384 entries, and in its bucket? -/
def State.fdbRoom (s : State) (vid mac : Nat) : Bool :=
  decide (s.hall.fdb.length < 16384) &&
  decide ((s.hall.fdb.filter fun e => Config.fdbBucket e.vid e.mac == Config.fdbBucket vid mac).length < Config.fdbWays)

/-- Places an entry, over the one of the same key. -/
def State.fdbPut (s : State) (e : FdbEntry) : State :=
  s.setFdb (s.hall.fdb.filter (fun x => !x.is e.vid e.mac) ++ [e])

/-- An address is learned on a port: never over a static entry (R230), and where the database has room. -/
def State.relearn (s : State) (vid mac p : Nat) : State :=
  match s.fdbFind vid mac with
  | some e => if e.static then s else s.fdbPut ⟨vid, mac, false, 2 ^ p, s.now⟩
  | none => if s.fdbRoom vid mac then s.fdbPut ⟨vid, mac, false, 2 ^ p, s.now⟩ else s

/-- A learning update (R229), which the present clock remembers (R230). -/
def State.learn (s : State) (vid mac p : Nat) : State :=
  if groupAddr mac || !s.flag (F.HALL_PORT_CFG_LEARN_EN p) then s
  else ({ s with clk := { s.clk with learns := s.clk.learns ++ [(vid, mac, p, s.fdbFind vid mac)] } }).relearn vid mac p

/-- Marks a hit of a learned entry (R229). -/
def State.fdbHit (s : State) (vid mac : Nat) : State :=
  match s.fdbFind vid mac with
  | some e => if e.static then s else s.fdbPut { e with hit := s.now }
  | none => s

/-- The destination ports of a frame by the database, before VLAN and port state: a hit's ports, or a flood (R229). -/
def State.fdbPorts (s : State) (vid da : Nat) : Nat :=
  match s.fdbFind vid da with
  | some e => e.mask
  | none => 2 ^ 24 - 1

/-- Is a port in FORWARDING (R229)? -/
def State.forwarding (s : State) (p : Nat) : Bool := s.rd (F.HALL_PORT_CFG_FWD_STATE p) == 2

/-! ### Admission -/

/-- Drop decision of R235 for one destination queue: the counter of the cause where it refuses. The spec gives the port's
LFSR no polynomial and no seed; a maximal-length one of 16 bits never holds 0 (log entry 4). -/
def State.admitQ (s : State) (p tc : Nat) (c : Colour) (cells : Nat) : Option Nat × State :=
  let q := s.hallOcc p tc
  let k := s.rd (F.HALL_Q_CFG_PROFILE p tc)
  let mn := 32 * s.rd (F.HALL_RED_MIN k c.word)
  let mx := max mn (32 * s.rd (F.HALL_RED_MAX k c.word))
  if s.link p = 2 then (some 5, s)
  else if 16 * s.rd (F.HALL_Q_CFG_Q_LIMIT p tc) < q + cells then (some 3, s)
  else if mx ≤ q then (some 2, s)
  else if mn ≤ q then
    let r := s.draw 65535
    (if r.1 + 1 < s.rd (F.HALL_RED_PMAX k c.word) * 256 * (q - mn) / (mx - mn) then some 2 else none, r.2)
  else (none, s)

/-- A destination of a frame: port and whether the copy is trapped. -/
abbrev Dest := Nat × Bool

/-- The admission of a frame at all its destinations (R232, R235): each with the cause of its refusal. -/
def State.admitAll (s : State) (tc : Nat) (c : Colour) (cells : Nat) : Nat → List Dest → List (Dest × Option Nat) × State
  | _, [] => ([], s)
  | desc, d :: rest =>
    let r : Option Nat × State := if desc = 0 then (some 4, s) else s.admitQ d.1 tc c cells
    let q := r.2.admitAll tc c cells (if r.1.isNone then desc - 1 else desc) rest
    ((d, r.1) :: q.1, q.2)

/-- Copies of one clock in the rotating-pointer order over their ingress ports, those of one port in their order of arrival,
with the tie events and the pointer after them (R36, R37, R236). The first argument counts the copies. -/
def rotCopies : Nat → Nat → List QCopy → List QCopy × Nat × Nat
  | 0, ptr, _ => ([], 0, ptr)
  | n + 1, ptr, l =>
    match rotFirst 24 ptr fun p => l.any fun c => c.ingress == p with
    | none => ([], 0, ptr)
    | some p =>
      let r := rotCopies n ((p + 1) % 24) (l.eraseP fun c => c.ingress == p)
      (((l.find? fun c => c.ingress == p).toList ++ r.1), r.2.1 + bit (l.any fun c => c.ingress != p), r.2.2)

/-- A copy enters a queue, in its turn among those of the same clock (R236). -/
def State.enqCopy (s : State) (id ingress tc : Nat) (d : Dest) : State :=
  let n := 8 * d.1 + tc
  let last := s.hall.lastIn.getD (0, 0, 0) n
  let base := if last.1 = s.now then last.2.1 else last.2.2
  let before := (s.hallQ d.1 tc).filter fun c => c.at_ ≠ s.now
  let same := (s.hallQ d.1 tc).filter fun c => c.at_ = s.now
  let was := rotCopies same.length base same
  let all := rotCopies (same.length + 1) base (same ++ [⟨id, s.now, d.2, ingress⟩])
  (({ s with hall := { s.hall with
      lastIn := s.hall.lastIn.insert n (s.now, base, all.2.2)
      queues := s.hall.queues.put [] n (before ++ all.1) } }).incBy F.HALL_TIE_CNT_TIES (all.2.1 - was.2.1))

/-- Multicast delivery (R237, R238): the copies are enqueued, every refusal counted. -/
def State.deliver (s : State) (x : Stored) (tc : Nat) (stream : Option Nat) (v : List (Dest × Option Nat)) : State :=
  let s := v.foldl (fun s y => match y.2 with | some k => s.hallInc y.1.1 k | none => s) s
  let refused := v.any fun y => y.2.isSome
  let atomic : Bool := match stream with | some k => s.flag (F.HALL_STREAM3_ATOMIC k) | none => false
  if atomic ∧ refused then
    match stream with | some k => s.inc (F.HALL_STREAM5_ATOMIC_DROP k) | none => s
  else
    let into := (v.filter fun y => y.2.isNone).map (·.1)
    if into.isEmpty then s else
    let s := if refused then
        match stream with
        | some k => s.inc (F.HALL_STREAM4_PARTIAL k)
        | none => s.inc F.HALL_PARTIAL_CNT_PARTIAL
      else s
    let id := s.hall.nextId
    let s := { s with hall := { s.hall with
      nextId := id + 1, frames := s.hall.frames.insert id { x with copies := into.length } } }
    (into.foldl (fun s d => s.enqCopy id x.ingress tc d) s).holdTick

/-! ### Departure -/

/-- The transmit stamp of a port (R284): TX_LAT, in 0.25 ns units, is added. -/
def State.txStamp (s : State) (p : Nat) : Nat := s.now + s.rd (F.TIME_PORT_CFG_TX_LAT p) / 4

/-- The receive stamp of a port (R284): RX_LAT is subtracted. -/
def State.rxStamp (s : State) (p : Nat) : Nat := s.now - s.rd (F.TIME_PORT_CFG_RX_LAT p) / 4

/-- PTP_MODE of a port: 0 OFF, 1 TRAP, 2 TRANSPARENT (R286). -/
def State.ptpMode (s : State) (p : Nat) : Nat := if 8 ≤ p ∧ p < 22 then s.rd (F.TIME_PORT_CFG_PTP_MODE p) else 0

/-- The transmit instant written into a Sync message, or its residence time added (R288, R289). -/
def State.stampPtp (s : State) (p : Nat) (x : Stored) (m : PtpMsg) : PtpMsg :=
  let tOut := s.tOf (s.txStamp p)
  let oneStep : Bool := match x.frame.send with | some (_, fl) => fl.testBit 0 | none => false
  if oneStep ∧ m.msgType = 0 ∧ s.flag (F.TIME_PORT_CFG_ONESTEP_EN p) then
    { m with seconds := tOut / 1000000000 % 2 ^ 48, nanos := tOut % 1000000000, twoStep := false
             udpSum := if m.udp then 0 else m.udpSum }
  else if m.event ∧ x.corrects ∧ x.frame.send.isNone ∧ s.ptpMode p = 2 then
    { m with corr := m.corr + ((tOut : Int) - x.tIn) * 65536, udpSum := if m.udp then 0 else m.udpSum }
  else m

/-- Is the transmit stamp of a message kept (R290): TS_REQ, or ONE_STEP where ONESTEP_EN is 0? -/
def State.wantsStamp (s : State) (p : Nat) (x : Stored) : Bool :=
  match x.frame.send with
  | some (_, fl) => fl.testBit 1 || (fl.testBit 0 && !s.flag (F.TIME_PORT_CFG_ONESTEP_EN p) &&
      (match x.frame.ptp with | some m => m.msgType == 0 | none => false))
  | none => false

/-- The frame as it leaves a port: tagging, DEI, R-TAG, PTP fields and MACsec (R229, R234, R248, R249, R288, R289). -/
def State.leaving (s : State) (p : Nat) (x : Stored) (trapped : Bool) : EthFrame :=
  let f := { x.frame with ptp := x.frame.ptp.map (s.stampPtp p x), send := none
                          rtag := if p = 8 ∨ p = 9 then x.frame.rtag else none }
  let marked := decide (x.yellow ∧ s.flag (F.HALL_PORT_CFG_DEI_REMARK p))
  let dei := if marked then 1 else x.dei
  let f := if trapped ∨ x.frame.send.isSome then
      { f with tag := f.tag.map fun g => (g.1, if marked then 1 else g.2.1, g.2.2) }
    else { f with tag := if (s.rd (F.HALL_VLAN1_UNTAG x.vid)).testBit p then none else some (x.pcp, dei, x.vid) }
  if 8 ≤ p ∧ p < 12 then
    if s.flag (F.HALL_MSEC_CFG_EN (p - 8)) ∧ !f.bypass then
      let an := s.rd (F.HALL_MSEC_CFG_TX_AN (p - 8))
      { f with msec := some ⟨0, an, s.rd (F.HALL_MSEC_SA1_PN (p - 8) an) + 2 ^ 32 * s.rd (F.HALL_MSEC_SA2_PN (p - 8) an), true⟩ }
    else { f with msec := none }
  else { f with msec := none }

/-- Writes the packet number of an association. -/
def State.setPn (s : State) (k j v : Nat) : State :=
  (s.wr (F.HALL_MSEC_SA1_PN k j) (v % 2 ^ 32)).wr (F.HALL_MSEC_SA2_PN k j) (v / 2 ^ 32)

/-- The receive time tag of a frame trapped to I7 (R286). A frame from an internal port has no stamp: its FRC and T are
open (log entry 4). -/
def State.timeTag (s : State) (x : Stored) : TimeTag × State :=
  let ev := match x.frame.ptp with | some m => m.event | none => false
  if 8 ≤ x.ingress then (⟨x.stamp, x.tIn, x.ingress, bit ev + 2 * bit x.synced⟩, s)
  else
    let r := s.draw (2 ^ 64)
    let q := r.2.draw (2 ^ 64)
    (⟨r.1, q.1, x.ingress, bit ev + 2 * bit x.synced⟩, q.2)

/-- A frame starts on a port (R240, R283 to R290). -/
def State.startTx (s : State) (p tc id : Nat) (x : Stored) (trapped stomp : Bool) : State :=
  let g := s.leaving p x trapped
  let tt : Option TimeTag × State := if trapped ∧ p = 7 then let r := s.timeTag x; (some r.1, r.2) else (none, s)
  let s := (tt.2.shaperTake p tc x.frame.len)
  let s := match g.msec with
    | some m => s.setPn (p - 8) m.an (m.pn + 1)
    | none => s
  let s := if s.wantsStamp p x then
      match x.frame.ptp with
      | some m => s.pushTxts p ⟨s.tOf (s.txStamp p), m.msgType, m.domain, m.seq⟩
      | none => s
    else s
  { s with hall := { s.hall with tx := s.hall.tx.insert p ⟨id, g, tt.1, tc, s.now, 0, stomp⟩ } }

/-- Is an association in use: VALID, and its slot fits the suite, with MACSEC (R249, R350)? -/
def State.saUsable (s : State) (k j : Nat) : Bool :=
  s.flag (F.HALL_MSEC_SA0_VALID k j) &&
    s.slotFits (s.rd (F.HALL_MSEC_SA0_KEY_SLOT k j)) (macsecFit (s.rd (F.HALL_MSEC_CFG_SUITE k)))

/-- A frame that the SecY of the port cannot protect: its transmit association is not usable (R249, R362). -/
def State.unsendable (s : State) (p : Nat) (f : EthFrame) : Bool :=
  decide (8 ≤ p ∧ p < 12) && s.flag (F.HALL_MSEC_CFG_EN (p - 8)) && !f.bypass &&
    !s.saUsable (p - 8) (s.rd (F.HALL_MSEC_CFG_TX_AN (p - 8)))

/-- Does a queued copy wait for its port to be FORWARDING (R229): a data frame, neither trapped nor with a send tag? -/
def State.heldBack (s : State) (p : Nat) (c : QCopy) (x : Stored) : Bool :=
  !s.forwarding p && !c.trapped && x.frame.send.isNone

/-- What the head of a queue comes to at a hallServe (R241, R244). -/
inductive Head where | start (c : QCopy) (x : Stored) | wait
  deriving DecidableEq, Repr

/-- Serves one queue: frames that are gate-oversize or aged are discarded at the head and counted, up to the first that
may start or must wait (R240, R241, R244); one that MACsec cannot protect is dropped (R249). DESIGN CHOICE (log entry 91): a
data frame at the head of a queue of a port that is not FORWARDING waits there, and ages. -/
def State.serveQ (p tc : Nat) : List QCopy → State → Head × State
  | [], s => (.wait, s)
  | c :: rest, s =>
    match s.hall.frames.find? c.id with
    | none => State.serveQ p tc rest (s.popQ p tc)
    | some x =>
      let life := ms (s.rd (F.HALL_Q_CFG_MAX_RES p tc))
      if s.oversize p tc x.frame.len then
        State.serveQ p tc rest (((s.popQ p tc).hallDrop c.id).hallInc p 12)
      else if !((s.gates p).testBit tc) || !s.shaperOk p tc then (.wait, s)
      else if life ≠ 0 ∧ c.at_ + life ≤ s.now then
        State.serveQ p tc rest (((s.popQ p tc).hallDrop c.id).hallInc p 6)
      else if s.heldBack p c x then (.wait, s)
      else if s.unsendable p x.frame then
        State.serveQ p tc rest (((s.popQ p tc).hallDrop c.id).hallInc p 15)
      else if s.fits p tc x.frame.len then (.start c x, s)
      else (.wait, s)

/-- The highest of the classes listed that has a frame to start, started (R240). -/
def State.serve (p : Nat) : List Nat → State → Option State × State
  | [], s => (none, s)
  | tc :: rest, s =>
    match State.serveQ p tc (s.hallQ p tc) s with
    | (.start c x, s') => (some ((s'.popQ p tc).startTx p tc c.id x c.trapped false), s')
    | (.wait, s') => State.serve p rest s'

/-- The state after a service of some classes, and whether a frame was started. -/
def State.serveClasses (s : State) (p : Nat) (l : List Nat) : Bool × State :=
  match State.serve p l s with
  | (some s', _) => (true, s')
  | (none, s') => (false, s')

/-- The classes of a port from 7 down. -/
def classes : List Nat := [7, 6, 5, 4, 3, 2, 1, 0]

/-- The smallest part of a preempted frame (R245). -/
def State.fragMin (s : State) (p : Nat) : Nat := 64 * (1 + s.rd (F.HALL_PORT_CFG_ADD_FRAG p))

/-- Where a frame in transmission can be cut now (R245): the bytes sent when both parts are long enough. -/
def State.cutAt (s : State) (p : Nat) (x : Sending) : Option Nat :=
  let sent := x.before + (s.now - x.start) * hallSpeed p / 8000
  let cut := max sent (x.before + s.fragMin p)
  if s.preemptable p x.tc ∧ cut + s.fragMin p ≤ x.frame.len then some cut else none

/-- The frame in transmission is preempted: its rest waits (R245). -/
def State.preempt (s : State) (p : Nat) (x : Sending) (cut : Nat) : State :=
  { s with hall := { s.hall with
      tx := s.hall.tx.erase p, rest := s.hall.rest.insert p { x with before := cut } } }

/-- The rest of a preempted frame goes on once a gate entry opens its class (R245). -/
def State.resumeRest (s : State) (p : Nat) (x : Sending) : State :=
  if (s.gates p).testBit x.tc then
    { s with hall := { s.hall with
        rest := s.hall.rest.erase p, tx := s.hall.tx.insert p { x with start := s.now } } }
  else s

/-- EGRESS_DEQUEUE on a port (R240, R241, R244, R245). -/
def State.hallServe (s : State) (p : Nat) : State :=
  if s.link p ≠ 0 then s else
  let express := classes.filter fun tc => !s.preemptable p tc
  match s.hall.tx.find? p with
  | some x =>
    match s.cutAt p x with
    | some cut =>
      let r := (s.preempt p x cut).serveClasses p express
      if r.1 then r.2 else s
    | none => s
  | none =>
    match s.hall.rest.find? p with
    | some x =>
      let r := s.serveClasses p express
      if r.1 then r.2 else r.2.resumeRest p x
    | none => (s.serveClasses p classes).2

/-- EGRESS_DEQUEUE (R240). -/
def execEgressDequeue (t port : Nat) (s : State) : Host.Outcome State Fault Refusal :=
  let s := s.tick t
  onUnit (decide (port < 24)) (s.hallServe port)

/-- EtherType of gateway PDUs (R211). -/
def pduEtype : Nat := 0x88B7

/-- A frame that has reached the signal gateway on I5: a gateway PDU is offered to the classifier (R202, R211). -/
def State.pduIn (s : State) (f : EthFrame) : State :=
  if f.etype = pduEtype ∧ f.data.getD 0 0 = 1 ∧ 16 ≤ f.data.length then
    let id := (List.range 4).foldl (fun n k => n + f.data.getD (4 + k) 0 % 256 * 256 ^ k) 0
    s.offerSrc ⟨s.now, 0x10, id % 2 ^ 29, false, false, false, f.data.drop 16⟩
  else s

/-- FRAME_TX_END (R232): the port is free and the copy is released. -/
def execFrameTxEnd (t port : Nat) (s : State) : Host.Outcome State Fault Refusal :=
  let s := s.tick t
  onUnit (decide (port < 24)) <| match s.hall.tx.find? port with
    | none => s
    | some x =>
      let s := match s.hall.frames.find? x.id with
        | some y => if port = 5 ∧ y.frame.fcsOk then s.pduIn y.frame else s
        | none => s
      (({ s with hall := { s.hall with tx := s.hall.tx.erase port } }).hallInc port 1).hallDrop x.id

/-- GATE_ENTRY_CHANGE (R242, R245): where the entry closes every preemptable class, a preemptable frame in transmission is
preempted. -/
def execGateEntryChange (t port : Nat) (s : State) : Host.Outcome State Fault Refusal :=
  let s := s.tick t
  onUnit (decide (port < 24)) <| match s.hall.tx.find? port with
    | none => s
    | some x =>
      let closed := classes.all fun tc => !s.preemptable port tc || !(s.gates port).testBit tc
      match s.cutAt port x with
      | some cut => if closed then s.preempt port x cut else s
      | none => s

/-! ### Reception -/

/-- Where a received frame goes before the database (R229, R249, R251, R285 to R287). -/
inductive Trap where
  | none                       -- forwarded
  | only (port : Nat)          -- trapped, not forwarded
  | also (port : Nat)          -- forwarded, and a copy trapped
  | send (port : Nat)          -- sent to the port of its send tag
  | badTag                     -- its send tag names no PTP port
  | foreign                    -- a PTP frame on S1-T or S2-T
  deriving DecidableEq, Repr

/-- The trap rules, in the order MAC control of time, key agreement, train topology, link-local. -/
def State.trapOf (s : State) (p : Nat) (f : EthFrame) : Trap :=
  let mode := s.ptpMode p
  match f.send with
  | some (q, _) => if p = 7 then (if 8 ≤ q ∧ q < 22 then .send q else .badTag) else .none
  | none =>
    if f.ptp.isSome ∧ 22 ≤ p then .foreign
    else if mode = 1 ∧ (f.ptp.isSome ∨ f.da = daPeer) then .only 7
    else if mode = 2 ∧ f.da = daPeer then .only 7
    else if f.etype = 0x888E then .only 6
    else if f.ttdp ∧ (p = 8 ∨ p = 9) then .only 7
    else if linkLocal f.da then .only 7
    else if mode = 2 ∧ f.ptp.isSome ∧ s.flag (F.TIME_PORT_CFG_TRAP_COPY p) then .also 7
    else .none

/-- The SecY of the ingress port accepts a frame (R249, R250). -/
def State.secyOk (s : State) (p : Nat) (f : EthFrame) : Bool :=
  if 8 ≤ p ∧ p < 12 ∧ s.flag (F.HALL_MSEC_CFG_EN (p - 8)) ∧ !f.bypass then
    match f.msec with
    | none => false
    | some m =>
      let j := 4 * m.chan + m.an
      decide (1 ≤ m.chan ∧ m.chan ≤ 8 ∧ m.an < 4) && s.saUsable (p - 8) j && m.icvOk &&
        decide (s.rd (F.HALL_MSEC_SA1_PN (p - 8) j) + 2 ^ 32 * s.rd (F.HALL_MSEC_SA2_PN (p - 8) j) ≤ m.pn)
  else true

/-- The lowest acceptable packet number after an accepted frame (R249). -/
def State.secyNote (s : State) (p : Nat) (f : EthFrame) : State :=
  if 8 ≤ p ∧ p < 12 ∧ s.flag (F.HALL_MSEC_CFG_EN (p - 8)) ∧ !f.bypass then
    match f.msec with
    | none => s
    | some m =>
      let j := 4 * m.chan + m.an
      let low := s.rd (F.HALL_MSEC_SA1_PN (p - 8) j) + 2 ^ 32 * s.rd (F.HALL_MSEC_SA2_PN (p - 8) j)
      s.setPn (p - 8) j (max low (m.pn + 1 - s.rd (F.HALL_MSEC_SA3_REPLAY_WIN (p - 8) j)))
  else s

/-- VID, PCP and DEI of a frame (R229). -/
def State.tagOf (s : State) (p : Nat) (f : EthFrame) : Nat × Nat × Nat :=
  match f.tag with
  | some (pcp, dei, vid) => (if vid = 0 then s.rd (F.HALL_PORT_CFG_PVID p) else vid, pcp, dei)
  | none => (s.rd (F.HALL_PORT_CFG_PVID p), 0, 0)

/-- The ports a data frame would go to (R229, R248): database, FRER_GEN, VLAN members in FORWARDING, not the ingress. -/
def State.destsOf (s : State) (p da vid : Nat) (stream : Option Nat) : List Nat :=
  let m := s.fdbPorts vid da
  let gen := match stream with | some k => s.flag (F.HALL_STREAM3_FRER_GEN k) | none => false
  let m := if gen then m ||| 0x300 else m
  (List.range 24).filter fun q =>
    decide (q ≠ p) && m.testBit q && (s.rd (F.HALL_VLAN0_MEMBER vid)).testBit q && s.forwarding q

/-- Destinations on a station segment are dropped and counted as foreign, SEG_EN or not: the Stairwell alone sends there
(R167, R229). -/
def State.dropForeign (s : State) (l : List Nat) : List Nat × State :=
  (l.filter fun q => decide (q < 22), (l.filter fun q => decide (22 ≤ q)).foldl (fun s q => s.inc (F.UIO_SEG_CNT_FOREIGN (q - 22))) s)

/-- May the frame be forwarded cut-through to its one destination (R246), admission apart? -/
def State.cutThrough (s : State) (p tc : Nat) (f : EthFrame) : List Dest → Option Nat
  | [(q, false)] =>
    let idle := (s.hall.tx.find? q).isNone && (s.hall.rest.find? q).isNone && classes.all fun t => (s.hallQ q t).isEmpty
    if s.flag (F.HALL_PORT_CFG_CUT_EN q) && !groupAddr f.da && s.link q == 0 && idle &&
        decide (hallSpeed q ≤ hallSpeed p) && decide (p < 22) &&
        !(decide (8 ≤ p ∧ p < 12) && s.flag (F.HALL_MSEC_CFG_EN (p - 8))) &&
        (s.longestOpen q tc).isNone && !s.unsendable q f then some q
    else none
  | _ => none

/-- A frame that could be stored: its cells, and whether it may leave in transit. -/
def State.forward (s : State) (p : Nat) (x : Stored) (tc : Nat) (c : Colour) (stream : Option Nat) (bad : Bool)
    (l : List Dest) : State :=
  let cut : Option Nat × State := match s.cutThrough p tc x.frame l with
    | none => (none, s)
    | some q =>
      if s.cellsFree < cellsOf (hallMax p) then (none, s) else
      let r := s.admitQ q tc c (cellsOf (hallMax p))
      (if r.1.isNone then some q else none, r.2)
  match cut with
  | (some q, s) =>
    let id := s.hall.nextId
    let s := { s with hall := { s.hall with
      nextId := id + 1, frames := s.hall.frames.insert id { x with copies := 1 } } }
    let s := ((s.startTx q tc id { x with copies := 1 } false bad).hallInc q 9).holdTick
    if bad then (s.hallInc p 8).hallInc q 8 else s
  | (none, s) =>
    if bad then s.hallInc p 14
    else if s.cellsFree < x.cells then
      s.deliver x tc stream (l.map fun d => (d, some 4))
    else
      let r := s.admitAll tc c x.cells s.descFree l
      r.2.deliver x tc stream r.1

/-- The traffic class of a frame: the map of its ingress port, or the override of its stream. -/
def State.classOf (s : State) (p pcp : Nat) (stream : Option Nat) : Nat :=
  let mapped := s.rd (F.HALL_PORT_PCP_MAP p) / 2 ^ (3 * pcp) % 8
  match stream with
  | some k => if s.flag (F.HALL_STREAM3_TC_OVR_EN k) then s.rd (F.HALL_STREAM3_TC_OVR k) else mapped
  | none => mapped

/-- The stream of a frame and its colour: it counts in its stream and meets the meter of its stream (R233, R234). -/
def State.classify (s : State) (stream : Option Nat) (len dei : Nat) : Colour × State :=
  let s := match stream with | some k => s.inc (F.HALL_STREAM7_FRAMES k) | none => s
  let m := match stream with | some k => s.rd (F.HALL_STREAM3_METER k) | none => 0x3FF
  if m < 512 ∧ s.flag (F.HALL_MTR0_EN m) then s.meter m len (dei != 0)
  else (if dei = 0 then Colour.green else Colour.yellow, s)

/-- Is a red frame of a stream dropped at ingress (R234)? -/
def State.dropsRed (s : State) (stream : Option Nat) (c : Colour) : Bool :=
  let m := match stream with | some k => s.rd (F.HALL_STREAM3_METER k) | none => 0x3FF
  decide (c = Colour.red ∧ m < 512) && s.flag (F.HALL_MTR0_EN m) && s.flag (F.HALL_MTR0_DROP_RED m)

/-- May a data frame come in on a port (R229): forwarding enabled, the port FORWARDING and a member of the VLAN? -/
def State.admitsData (s : State) (p vid : Nat) : Bool :=
  s.flag F.HALL_CTL_FWD_EN && s.forwarding p && (s.rd (F.HALL_VLAN0_MEMBER vid)).testBit p

/-- Classification and forwarding of a data frame (R227, R229, R231, R233, R234, R248). A bad frame goes on only where it leaves
cut-through. DESIGN CHOICE (log entry 90): one lost because FWD_EN is 0 or the ingress port is not FORWARDING counts in
VLAN_DROP. -/
def State.dataFrame (s : State) (p : Nat) (f : EthFrame) (bad : Bool) (copy : Option Nat) : State :=
  let (vid, pcp, dei) := s.tagOf p f
  let stream := s.streamOf p f.da vid pcp
  let r := s.dropForeign (s.destsOf p f.da vid stream)
  let dests := r.1
  let tc := s.classOf p pcp stream
  if bad ∧ (!s.admitsData p vid ∨ (s.cutThrough p tc f (dests.map fun q => (q, false))).isNone) then s.hallInc p 14
  else if !s.admitsData p vid then s.hallInc p 11
  else
    let s := r.2
    let small := dests.filter fun q => decide (f.len ≤ hallMax q)
    let lost := decide (small.length < dests.length)
    if lost ∧ small.isEmpty ∧ copy.isNone then s.hallInc p 14
    else
      let s := if lost then s.hallInc p 14 else s
      let col := s.classify stream f.len dei
      let s := (col.2.learn vid f.sa p).fdbHit vid f.da
      if s.dropsRed stream col.1 then s.hallInc p 13
      else
        let rec_ : Bool × State := match stream, f.rtag with
          | some k, some n =>
            if s.flag (F.HALL_STREAM3_FRER_REC k) ∧ (p = 8 ∨ p = 9) then s.frerRecover k n else (true, s)
          | _, _ => (true, s)
        let s := rec_.2
        if !rec_.1 then s
        else
          let gen : Option Nat × State := match stream with
            | some k => if s.flag (F.HALL_STREAM3_FRER_GEN k) then let r := s.frerNext k; (some r.1, r.2) else (f.rtag, s)
            | none => (f.rtag, s)
          let s := gen.2
          let l : List Dest := small.map (fun q => (q, false)) ++ (copy.map fun q => (q, true)).toList
          let st := s.rxStamp p
          let x : Stored := ⟨{ f with rtag := gen.1 }, p, st, s.tOf st, s.synced, s.ptpMode p == 2, vid, pcp, dei,
            decide (col.1 ≠ Colour.green), cellsOf f.len, 0⟩
          if l.isEmpty then s else s.forward p x tc col.1 stream bad l

/-- A frame stored for one port and admitted to a queue there (R232, R235). -/
def State.toPortQ (s : State) (x : Stored) (tc : Nat) (c : Colour) (stream : Option Nat) (d : Dest) : State :=
  if s.cellsFree < x.cells then s.deliver x tc stream [(d, some 4)]
  else
    let r := s.admitAll tc c x.cells s.descFree [d]
    r.2.deliver x tc stream r.1

/-- A frame sent to one port outside the database: a trapped frame or one with a send tag (R227, R229, R233, R234, R286,
R287). -/
def State.direct (s : State) (p : Nat) (f : EthFrame) (q : Nat) (trapped : Bool) : State :=
  if q = p then s
  else if hallMax q < f.len then s.hallInc p 14
  else
    let (vid, pcp, dei) := s.tagOf p f
    let stream := s.streamOf p f.da vid pcp
    let col := s.classify stream f.len dei
    let s := col.2
    if s.dropsRed stream col.1 then s.hallInc p 13
    else
      let st := s.rxStamp p
      let x : Stored := ⟨f, p, st, s.tOf st, s.synced, false, vid, pcp, dei, decide (col.1 ≠ Colour.green), cellsOf f.len, 0⟩
      s.toPortQ x (s.classOf p pcp stream) col.1 stream (q, trapped)

/-- A frame of one of the module's own protocols passes the Hallway from port `p` to port `q` in class `tc` (R28): it is counted,
needs FWD_EN and both ports FORWARDING, and meets the admission of its queue. The pair tells whether it has passed. -/
def State.hallPass (s : State) (p q tc : Nat) (f : EthFrame) : Bool × State :=
  if s.link p ≠ 0 then (false, s)
  else
    let s := s.hallInc p 0
    if !s.flag F.HALL_CTL_FWD_EN ∨ !s.forwarding p ∨ !s.forwarding q then (false, s.hallInc p 11)
    else
      let st := s.rxStamp p
      let x : Stored := ⟨f, p, st, s.tOf st, s.synced, false, s.rd (F.HALL_PORT_CFG_PVID p), tc, 0, false, cellsOf f.len, 0⟩
      let id := s.hall.nextId
      let s := s.toPortQ x tc .green none (q, false)
      (decide (s.hall.nextId ≠ id), s)

/-- A frame received on a port (R227 to R229). -/
def State.frameIn (s : State) (p : Nat) (f : EthFrame) : State :=
  if p < 8 ∧ (s.rd F.HALL_INT_HOLD_HELD).testBit p then s else
  let s := (s.hallInc p 0).noteFree (s.cellsFree - cellsOf f.len)
  let bad := !f.fcsOk || decide (hallMax p < f.len)
  if f.len < 64 then s.hallInc p 14
  else if f.etype = 0x8808 ∧ !bad then s.hallInc p 10
  else if !s.secyOk p f ∧ !bad then s.hallInc p 15
  else
    let s := if bad then s else s.secyNote p f
    match s.trapOf p f, bad with
    | .none, _ => s.dataFrame p f bad none
    | .also q, _ => s.dataFrame p f bad (some q)
    | .only q, false => s.direct p f q true
    | .send q, false => s.direct p f q false
    | .badTag, false => s.hallInc 7 14
    | .foreign, false => s.inc (F.UIO_SEG_CNT_FOREIGN (p - 22))
    | _, true => s.hallInc p 14

/-- FRAME_RX (R229). -/
def execFrameRx (t port : Nat) (f : EthFrame) (s : State) : Host.Outcome State Fault Refusal :=
  let s := s.tick t
  onUnit (decide (port < 24)) (s.frameIn port f)

/-! ### Gate-list changes -/

/-- The change instant (R243): the first ADMIN_BASE + k × ADMIN_CYCLE at or after T. -/
def changeInstant (base cyc t : Nat) : Nat := if t ≤ base then base else base + ceilDiv (t - base) cyc * cyc

/-- CHANGE (R243): a second one replaces the pending one. -/
def execGclChange (t : Nat) (a : Attr) (port : Nat) (value : Word) (s : State) : Host.Outcome State Fault Refusal :=
  let s := s.tick t
  onUnit (decide (port < 22)) <| s.guarded a (F.HALL_GCL_CTL_GATE_EN port).addr true true fun s =>
    let s := (s.wr (F.HALL_GCL_CTL_GATE_EN port) (bits value.toNat 31 31)).wr (F.HALL_GCL_CTL_ADMIN_LEN port)
      (clampNat (bits value.toNat 24 16) 1 256)
    let c := changeInstant (s.rd64 (F.HALL_GCL_ADMIN_BASE_ADMIN_BASE port))
      (max 1 (s.rd (F.HALL_GCL_ADMIN_CYCLE_ADMIN_CYCLE port))) s.tNow
    { s with hall := { s.hall with change := s.hall.change.insert port c } }

/-- GCL_CHANGE_INSTANT (R243): the administrative list becomes the operational list. -/
def execGclChangeInstant (t port : Nat) (s : State) : Host.Outcome State Fault Refusal :=
  let s := s.tick t
  onUnit (decide (port < 22)) <| match s.hall.change.find? port with
    | none => s
    | some c =>
      if s.tNow < c then s else
      let n := s.rd (F.HALL_GCL_CTL_ADMIN_LEN port)
      let s := (s.wr (F.HALL_GCL_CTL_OPER_LEN port) n).wr64 (F.HALL_GCL_OPER_BASE_OPER_BASE port) c
      let s := s.wr (F.HALL_GCL_OPER_CYCLE_OPER_CYCLE port) (s.rd (F.HALL_GCL_ADMIN_CYCLE_ADMIN_CYCLE port))
      let s := (List.range n).foldl (fun s e =>
        (s.wr (F.HALL_GCL_OPR0_GATES port e) (s.rd (F.HALL_GCL_ADM0_GATES port e))).wr (F.HALL_GCL_OPR1_INTERVAL port e)
          (max 1 (s.rd (F.HALL_GCL_ADM1_INTERVAL port e)))) s
      { s with hall := { s.hall with change := s.hall.change.erase port } }

/-! ### Link states -/

/-- Flushes every queue of a port, and the rest of a preempted frame, and counts FLUSHED (R247). -/
def State.flushPort (s : State) (p : Nat) : State :=
  let s := match s.hall.rest.find? p with
    | some x => (({ s with hall := { s.hall with rest := s.hall.rest.erase p } }).hallDrop x.id).hallInc p 7
    | none => s
  classes.foldl (fun s tc =>
    (s.hallQ p tc).foldl (fun s c => ((s.popQ p tc).hallDrop c.id).hallInc p 7) s) s

/-- The hold window of a port has closed: its queues are flushed and it is DOWN (R247). -/
def State.linkDown (s : State) (p : Nat) : State :=
  let s := (s.flushPort p).wr (F.HALL_PORT_STAT_LINK_STATE p) 2
  { s with hall := { s.hall with down := s.hall.down.erase p } }

/-- Has the hold window [t_down, t_down + LINK_HOLD) of a port closed (R247)? -/
def State.holdOver (s : State) (p : Nat) : Bool :=
  s.closed (s.hall.down.getD 0 p) (ms (s.rd (F.HALL_PORT_HOLD_LINK_HOLD p)))

/-- LINK_LOST (R247). -/
def execLinkLost (t port : Nat) (s : State) : Host.Outcome State Fault Refusal :=
  let s := s.tick t
  onUnit (decide (8 ≤ port ∧ port < 24)) <|
    if s.link port = 0 then
      if s.rd (F.HALL_PORT_HOLD_LINK_HOLD port) = 0 then s.linkDown port
      else
        let s := s.wr (F.HALL_PORT_STAT_LINK_STATE port) 1
        { s with hall := { s.hall with down := s.hall.down.insert port s.now } }
    else s

/-- LINK_UP (R247): captured at the close of the window, it comes after the flush. -/
def execLinkUp (t port : Nat) (s : State) : Host.Outcome State Fault Refusal :=
  let s := s.tick t
  onUnit (decide (8 ≤ port ∧ port < 24)) <|
    let s := if s.link port = 1 ∧ s.holdOver port then s.linkDown port else s
    let s := s.wr (F.HALL_PORT_STAT_LINK_STATE port) 0
    { s with hall := { s.hall with down := s.hall.down.erase port } }

/-- LINK_HOLD_EXPIRY (R247). -/
def execLinkHoldExpiry (t port : Nat) (s : State) : Host.Outcome State Fault Refusal :=
  let s := s.tick t
  onUnit (decide (8 ≤ port ∧ port < 24)) <|
    if s.link port = 1 ∧ s.holdOver port then s.linkDown port else s

/-! ### Database commands, counters and preemption -/

/-- The address and VLAN in the database registers. -/
def State.fdbKey (s : State) : Nat × Nat :=
  (s.rd F.HALL_FDB_KEY_VID, s.rd F.HALL_FDB_MAC_LO_MAC_LO + 2 ^ 32 * s.rd F.HALL_FDB_KEY_MAC_HI)

/-- A database command with its RESULT (R230). Learning updates of the same clock to the same entry are applied after it,
whichever came first. -/
def State.fdbCmd (s : State) (a : Attr) (eff : State → Nat × State) : State :=
  s.guarded a F.HALL_FDB_CMD_RESULT.addr true true fun s =>
    let (vid, mac) := s.fdbKey
    let same := s.clk.learns.filter fun x => x.1 == vid && x.2.1 == mac
    let s := match same with
      | [] => s
      | x :: _ => s.setFdb (s.hall.fdb.filter (fun y => !y.is vid mac) ++ x.2.2.2.toList)
    let r := eff s
    (same.foldl (fun s x => s.relearn vid mac x.2.2.1) r.2).wr F.HALL_FDB_CMD_RESULT r.1

/-- FDB_INSERT (R230). -/
def execFdbInsert (t : Nat) (a : Attr) (s : State) : Host.Outcome State Fault Refusal :=
  let s := s.tick t
  .next <| s.fdbCmd a fun s =>
    let (vid, mac) := s.fdbKey
    if (s.fdbFind vid mac).isSome ∨ s.fdbRoom vid mac then
      (0, s.fdbPut ⟨vid, mac, s.flag F.HALL_FDB_DATA_STATIC, s.rd F.HALL_FDB_DATA_PORT_MASK, s.now⟩)
    else (2, s)

/-- FDB_DELETE (R230). -/
def execFdbDelete (t : Nat) (a : Attr) (s : State) : Host.Outcome State Fault Refusal :=
  let s := s.tick t
  .next <| s.fdbCmd a fun s =>
    let (vid, mac) := s.fdbKey
    if (s.fdbFind vid mac).isSome then (0, s.setFdb (s.hall.fdb.filter fun e => !e.is vid mac)) else (1, s)

/-- FDB_LOOK_UP (R230): the entry appears in HALL_FDB_DATA. -/
def execFdbLookUp (t : Nat) (a : Attr) (s : State) : Host.Outcome State Fault Refusal :=
  let s := s.tick t
  .next <| s.fdbCmd a fun s =>
    let (vid, mac) := s.fdbKey
    match s.fdbFind vid mac with
    | some e => (0, (s.wr F.HALL_FDB_DATA_STATIC (bit e.static)).wr F.HALL_FDB_DATA_PORT_MASK e.mask)
    | none => (1, s)

/-- FDB_AGE_OUT (R229): a learned entry goes AGE_S seconds after its last hit. -/
def execFdbAgeOut (t vid mac : Nat) (s : State) : Host.Outcome State Fault Refusal :=
  let s := s.tick t
  .next <| match s.fdbFind vid mac with
    | some e =>
      if !e.static ∧ s.closed e.hit (secs (s.rd F.HALL_CTL_AGE_S)) then s.setFdb (s.hall.fdb.filter fun x => !x.is vid mac)
      else s
    | none => s

/-- Is this the key of a Hallway counter that CNT_CLR clears (R231): a port counter, a stream counter, or the count of
partial deliveries? -/
def hallCounterKey (key : Nat) : Bool :=
  let addr := key / 32
  let off := addr - 0x40E00000
  decide (0x40E00000 ≤ addr) && decide (addr < 0x41000000) &&
  (off == 0x1C ||
    (decide (0x10000 ≤ off) && decide (off < 0x28000) && decide (0x100 ≤ off % 0x1000) && decide (off % 0x1000 < 0x140)) ||
    (decide (0xA0000 ≤ off) && decide (off < 0xA8000) && decide (0x10 ≤ off % 0x20)))

/-- CNT_CLR (R231): clears every counter of the block but the tie counts; the fields of its word are written. -/
def execCntClr (t : Nat) (a : Attr) (value : Word) (s : State) : Host.Outcome State Fault Refusal :=
  let s := s.tick t
  .next <| s.guarded a F.HALL_CTL_FWD_EN.addr true true fun s =>
    let s := { s with regs := s.regs.filter fun x : Nat × Nat => !hallCounterKey x.1 }
    let s := s.wr F.HALL_BUF_MIN_MIN s.cellsFree
    (s.wr F.HALL_CTL_FWD_EN (bits value.toNat 31 31)).wr F.HALL_CTL_AGE_S (clampNat (bits value.toNat 11 0) 10 4095)

/-- The preemption state that PREEMPT_EN and VERIFY_EN ask for (R245): verifying from the start, or active at once. -/
def State.preemptSetup (s : State) (p : Nat) : State :=
  let set := fun (s : State) (v act : Nat) => (s.wr (F.HALL_PORT_STAT_VERIFY p) v).wr (F.HALL_PORT_STAT_PREEMPT_ACTIVE p) act
  let s := { s with hall := { s.hall with tries := s.hall.tries.erase p } }
  if !s.flag (F.HALL_PORT_CFG_PREEMPT_EN p) then set s 0 0
  else if s.flag (F.HALL_PORT_CFG_VERIFY_EN p) then set s 1 0
  else set s 4 1

/-- PREEMPT_VERIFY (R245): the exchange succeeds, or one of its 3 attempts ends without an answer. -/
def execPreemptVerify (t port : Nat) (ok : Bool) (s : State) : Host.Outcome State Fault Refusal :=
  let s := s.tick t
  onUnit (decide (8 ≤ port ∧ port < 18)) <|
    if s.rd (F.HALL_PORT_STAT_VERIFY port) ≠ 1 then s
    else if ok then (s.wr (F.HALL_PORT_STAT_VERIFY port) 2).setF (F.HALL_PORT_STAT_PREEMPT_ACTIVE port)
    else
      let n := s.hall.tries.getD 0 port + 1
      let s := { s with hall := { s.hall with tries := s.hall.tries.put 0 port n } }
      if n < 3 then s else (s.wr (F.HALL_PORT_STAT_VERIFY port) 3).clrF (F.HALL_PORT_STAT_PREEMPT_ACTIVE port)

/-- FRER_RECOV_RESET (R248): RECOV_RESET ms without a frame of the stream. -/
def execFrerRecovReset (t stream : Nat) (s : State) : Host.Outcome State Fault Refusal :=
  let s := s.tick t
  onUnit (decide (stream < 1024)) <| match s.hall.recov.find? stream with
    | some x =>
      if s.closed x.last (ms (s.rd (F.HALL_STREAM3_RECOV_RESET stream))) then
        { s with hall := { s.hall with recov := s.hall.recov.erase stream } }
      else s
    | none => s

end Sys2Proof.Machine
end

