-- ==== Sys2Proof/Machine/NetMgt.lean ====
section
/-! DEFINITION. Network management while the hub is powered (*Network sleep and wake*, R300 to R310, R315, R472). The sleep
entry, the wakes from sleep and the forwarding of a wake are with the power states. -/

namespace Sys2Proof.Machine

/-! ### Need -/

/-- The instances of a 64-bit mask held in two words. -/
def instances : List Nat := List.range 64

/-- The lane need: bit 0 of VOUT word 511, taken as 0 while the program mode is not RUN (R300). -/
def State.laneNeed (s : State) : Bool :=
  s.cyc.mode == .run && (s.rd (F.LANEIF_VOUT_DATA 511)).testBit 0

/-- W_k in LEVEL mode is active (R300). -/
def State.winNeed (s : State) (k : Nat) : Bool :=
  s.flag (F.NETMGT_WIN_CFG_LEVEL k) && s.rd (F.NETMGT_WIN_CFG_STATE k) == s.rd (F.NETMGT_WIN_CFG_POL k)

/-- The module needs the network (R300). -/
def State.needs (s : State) : Bool :=
  instances.any (fun i => s.rdMask F.NETMGT_NEED_SUM_NEED i) || s.laneNeed || (List.range 4).any fun k => s.winNeed k

/-- An active need is justified (R300). -/
def State.needJust (s : State) : Bool :=
  s.laneNeed || instances.any fun i => s.rdMask F.NETMGT_NEED_SUM_NEED i && s.rdMask F.NETMGT_JUST_JUST i

/-! ### Segments and nodes -/

/-- A segment at the start of the hub domain. -/
def NetSeg.init : NetSeg := ⟨0, none, 0, none, 0, false, none⟩

/-- Segment k beside its registers. -/
def State.seg (s : State) (k : Nat) : NetSeg := s.net.segs.getD NetSeg.init k

/-- The state with a segment changed. -/
def State.modSeg (s : State) (k : Nat) (f : NetSeg → NetSeg) : State :=
  { s with net := { s.net with segs := s.net.segs.put NetSeg.init k (f (s.seg k)) } }

/-- The enabled segments. -/
def State.netSegs (s : State) : List Nat := (List.range 13).filter fun k => s.flag (F.NETMGT_SEG0_EN k)

/-- Is segment k a ring of consent? -/
def State.isRing (s : State) (k : Nat) : Bool := s.flag (F.NETMGT_SEG0_MODE k)

/-- Every enabled segment is ready (NETMGT_STAT.SEGS_READY). -/
def State.segsReady (s : State) : Bool := s.netSegs.all fun k => s.flag (F.NETMGT_SEG1_READY k)

/-- The entry of a node in the node table. -/
def State.nodeEntry (s : State) (node : Nat) : Option Nat :=
  (List.range 256).find? fun n => s.flag (F.NETMGT_NODE0_VALID n) && s.rd (F.NETMGT_NODE0_NODE n) == node

/-- Is a node quarantined (R308)? -/
def State.quarantined (s : State) (node : Nat) : Bool :=
  match s.nodeEntry node with
  | some n => s.flag (F.NETMGT_NODE0_QUAR n)
  | none => false

/-- Lifts the quarantine of an entry. -/
def State.liftQuar (s : State) (n : Nat) : State :=
  let s := s.clrF (F.NETMGT_NODE0_QUAR n)
  if s.rd (F.NETMGT_NODE0_NODE n) = s.rd F.SYSCTL_MID_MID then s.clrF F.NETMGT_STAT_SELF_QUAR else s

/-- A node is heard on a segment: it is entered in the node table or counted in NODE_OVF; `runs` where the message begins
or continues its run; JUSTIFIED lifts its quarantine (R308). -/
def State.noteNode (s : State) (node k : Nat) (just runs : Bool) : State :=
  let slot := match s.nodeEntry node with
    | some n => some n
    | none => (List.range 256).find? fun n => !s.flag (F.NETMGT_NODE0_VALID n)
  match slot with
  | none => s.inc (F.NETMGT_CNT_LATCHED_NODE_OVF 1)
  | some n =>
    let s := (((s.setF (F.NETMGT_NODE0_VALID n)).wr (F.NETMGT_NODE0_NODE n) node).wr (F.NETMGT_NODE0_JUST n)
      (bit just)).wr (F.NETMGT_NODE0_SEG n) k
    let s := if just then s.liftQuar n else s
    if runs then
      let r : NodeRun := match s.net.runs.find? n with
        | some r => { r with last := s.now }
        | none => ⟨s.now, s.now⟩
      { s with net := { s.net with runs := s.net.runs.insert n r } }
    else s

/-- TYPE of an NM message (*Table: NM message*). -/
def nmCode : NmType → Nat
  | .keepalive => 1 | .token => 2 | .ready => 3 | .need => 4

/-- The eight bytes of an NM message of node `node` (*Table: NM message*). -/
def NmMsg.bytes (m : NmMsg) (node : Nat) : List Nat :=
  [nmCode m.typ, bit m.just] ++ leBytes 2 node ++ leBytes 2 m.succ ++ [m.run % 256, 0]

/-- A classical frame of NETMGT's goes to a controller by its KA_RING: the element at PUT is written and PUT advances (R259,
R303). DESIGN CHOICE (log entry 99): NETMGT acknowledges the completed elements of the ring itself, and a frame that finds no
room, or no TX ring of the controller, is not sent. -/
def State.kaRingPut (s : State) (c : Nat) (xtd : Bool) (id len : Nat) (data : List Nat) : State :=
  let r := s.rd (F.NETMGT_SEG0_KA_RING c)
  if !(s.ringValid r && s.ringTx r && s.rd (F.CANRAM_RING0_CTRL r) == c) then s else
  let s := s.wr (F.CANRAM_RING2_GET_RECLAIM r) (s.ringDone r)
  if s.ringNext r (s.ringPut r) = s.ringGet r then s else
  let a := s.elemAddr r (s.ringPut r)
  let s := s.store a (([bit xtd * 2 ^ 31 + id % 2 ^ 29, len, 0, 0, 0, 0, 0, 0].map wordBytes).flatten ++ data)
  s.wr (F.CANRAM_RING2_PUT r) (s.ringNext r (s.ringPut r))

/-- The frame of an NM message on Ethernet (R302): VER and the message, padded to the minimum frame. -/
def State.nmFrame (s : State) (m : NmMsg) : EthFrame :=
  let mid := s.rd F.SYSCTL_MID_MID
  ⟨0x014A59000002, Config.moduleMac mid, 0x88B8, 64, some (0, 0, s.rd F.NETMGT_KA_NM_VID), true, false, none, none, none, none,
    1 :: m.bytes mid⟩

/-- An NM message leaves on its medium (R302, R303): on CAN through KA_RING, on Ethernet through the Hallway, which every frame
passes (R28). DESIGN CHOICE (log entry 99): there it comes from I7 with PCP 0. -/
def State.emitNm (s : State) (k : Nat) (m : NmMsg) : State :=
  let mid := s.rd F.SYSCTL_MID_MID
  if k < 12 then s.kaRingPut k true (s.rd F.NETMGT_KA_CAN_BASE * 65536 + mid) 8 (m.bytes mid) else s.frameIn 7 (s.nmFrame m)

/-- The module sends an NM message on a segment (R302). -/
def State.sendNm (s : State) (k : Nat) (typ : NmType) (succ run : Nat) : State :=
  let m : NmMsg := ⟨typ, s.needJust, succ, run, s.now⟩
  (s.modSeg k fun g => { g with sent := some m }).emitNm k m

/-- A KEEPALIVE on every enabled keep-alive segment (R303); it counts at its transmit instant, except while the module is
quarantined (R304, R308). DESIGN CHOICE (log entry 99): that is the instant at which NETMGT sends it. -/
def State.sendKeepalives (s : State) : State :=
  let mid := s.rd F.SYSCTL_MID_MID
  s.netSegs.foldl (fun s k =>
    if s.isRing k then s else
    let s := (s.sendNm k .keepalive 0 0).noteNode mid k s.needJust true
    if s.quarantined mid then s
    else (s.modSeg k fun g => { g with lastSeen := s.now }).clrF (F.NETMGT_SEG1_READY k)) s

/-! ### Rings -/

/-- The positions of a ring's members. -/
def State.ringOrder (s : State) (k : Nat) : List Nat := List.range (s.rd (F.NETMGT_SEG0_MEMBERS k))

/-- The position of a node in a ring. -/
def State.ringPos (s : State) (k node : Nat) : Option Nat :=
  (s.ringOrder k).find? fun j => s.rd (F.NETMGT_RING_NODE k j) == node

/-- The module takes part in the ring of a segment (R307). -/
def State.inRing (s : State) (k : Nat) : Bool :=
  s.isRing k && s.flag (F.NETMGT_SEG0_EN k) && (s.ringPos k (s.rd F.SYSCTL_MID_MID)).isSome

/-- The number of present members. -/
def State.ringPresent (s : State) (k : Nat) : Nat :=
  ((s.ringOrder k).filter fun j => s.flag (F.NETMGT_RING_PRESENT k j)).length

/-- SEGk.PRESENT follows the members. -/
def State.showPresent (s : State) (k : Nat) : State := s.wr (F.NETMGT_SEG1_PRESENT k) (s.ringPresent k)

/-- The ring segments as the setup image leaves them (R306, R307): the module is a present member of its own rings (log
entry 32), and a ring without its MID is marked MISCONFIG. -/
def State.loadRings (s : State) : State :=
  (List.range 13).foldl (fun s k =>
    if s.flag (F.NETMGT_SEG0_EN k) ∧ s.isRing k then
      match s.ringPos k (s.rd F.SYSCTL_MID_MID) with
      | some j => (s.setF (F.NETMGT_RING_PRESENT k j)).showPresent k
      | none => s.setF (F.NETMGT_SEG1_MISCONFIG k)
    else s) s

/-- The next present member after position j, in ring order. -/
def State.nmRingNext (s : State) (k j : Nat) : Option Nat :=
  let m := s.rd (F.NETMGT_SEG0_MEMBERS k)
  rotFirst m (j + 1) fun i => s.flag (F.NETMGT_RING_PRESENT k i) && i != j

/-- The module consents on a ring: it does not need the network, or it is quarantined (R305, R308). -/
def State.consents (s : State) : Bool := !s.needs || s.quarantined (s.rd F.SYSCTL_MID_MID)

/-- Sends the TOKEN to the member at position j (R305, R306). -/
def State.sendToken (s : State) (k j run : Nat) : State :=
  (s.sendNm k .token (s.rd (F.NETMGT_RING_NODE k j)) run).modSeg k fun g =>
    { g with hold := none, restart := false, waiting := some (s.now, j, run) }

/-- A ring whose one present member is the module is ready whenever it consents (R306). -/
def State.loneRing (s : State) (k : Nat) : State :=
  if s.inRing k ∧ s.ringPresent k ≤ 1 then s.wr (F.NETMGT_SEG1_READY k) (bit s.consents) else s

/-! ### The states of NETMGT -/

/-- Raises the NETMGT interrupt of every instance (R309, R435). -/
def State.netInterrupt (s : State) : State := instances.foldl (fun s i => s.ipend ipNetmgt i true) s

/-- The sleep commit has passed (R30, R309): the state is ENTRY, or the PREPARE window has closed at the captured instant. -/
def State.committed (s : State) : Bool :=
  match s.net.state with
  | .entry => true
  | .prepare => s.closed s.net.prepAt (ms 500)
  | .awake => false

/-- PREPARE is cancelled (R309). -/
def State.cancelPrepare (s : State) : State :=
  let s := { s with net := { s.net with state := .awake } }
  let s := ((s.inc (F.NETMGT_CNT_CANCELS_QUARANTINED 0)).raise F.NETMGT_STAT_CANCEL_EVT).netInterrupt
  if s.needs then s.sendKeepalives else s

/-- PREPARE begins (R309). -/
def State.enterPrepare (s : State) : State :=
  ({ s with net := { s.net with state := .prepare, prepAt := s.now } }.raise F.NETMGT_STAT_PREPARE_EVT).netInterrupt

/-- A need source has become active: a KEEPALIVE at once and a new 100 ms window (R303); on a ring segment that is ready,
NEED (R305). -/
def State.needBegins (s : State) : State :=
  let s := { s with net := { s.net with needFrom := some s.now, lastKa := s.now } }
  let s := if s.net.state = .prepare then s else s.sendKeepalives
  s.netSegs.foldl (fun s k =>
    if s.inRing k ∧ s.flag (F.NETMGT_SEG1_READY k) then
      ((s.sendNm k .need 0 0).clrF (F.NETMGT_SEG1_READY k)).modSeg k fun g => { g with restart := true }
    else s) s

/-- NETMGT acts on the present needs and segments (R303, R305, R309). -/
def State.netUpdate (s : State) : State :=
  if !s.pwr.hubUp ∨ s.committed then s else
  let s := match s.needs, s.net.needFrom with
    | true, none => s.needBegins
    | false, some _ => { s with net := { s.net with needFrom := none } }
    | _, _ => s
  let s := s.netSegs.foldl State.loneRing s
  let quiet := s.segsReady && !s.needs
  match s.net.state with
  | .prepare => if quiet then s else s.cancelPrepare
  | .awake => if quiet && s.flag F.NETMGT_CFG_NM_EN && (s.pwr.state == .run || s.pwr.state == .safe) then s.enterPrepare else s
  | .entry => s

/-! ### The commands -/

/-- NETMGT_NEED_WRITE (R301): the writing instance's NEED and WARM bits. -/
def execNetmgtNeedWrite (t : Nat) (a : Attr) (value : Word) (s : State) : Host.Outcome State Fault Refusal :=
  let s := s.tick t
  onUnit (decide (a.inst < 64)) <| s.guarded a 0x41080010 true true fun s =>
    let s := s.wrMask F.NETMGT_NEED_SUM_NEED a.inst (value.toNat.testBit 31)
    let m := s.net.warm
    let s := { s with net := { s.net with
        warm := if value.toNat.testBit 29 then maskSet m a.inst else maskClr m a.inst } }
    s.netUpdate

/-- NETMGT_JUST_WRITE (R300): an Attic write; a Parlour write leaves the registers unchanged. -/
def execNetmgtJustWrite (t : Nat) (a : Attr) (hi : Bool) (value : Word) (s : State) :
    Host.Outcome State Fault Refusal :=
  let s := s.tick t
  .next (s.guarded a (F.NETMGT_JUST_JUST (bit hi)).addr true true fun s =>
    if a.attic then s.wr (F.NETMGT_JUST_JUST (bit hi)) value.toNat else s)

/-- KEEPALIVE_TIMER (R303): the close of a 100 ms window while the need is active. -/
def execKeepaliveTimer (t : Nat) (s : State) : Host.Outcome State Fault Refusal :=
  let s := s.tick t
  .next <| match s.net.needFrom with
    | some _ =>
      if s.needs ∧ !s.committed ∧ s.closed s.net.lastKa (ms 100) then
        ({ s with net := { s.net with lastKa := s.net.lastKa + ms 100 } }).sendKeepalives
      else s
    | none => s

/-- A ring member is heard: an absent one becomes present, and the next TOKEN carries RUN 0 (R306). DEDUCED (log entry 32): a
member heard for the first time is taken the same. -/
def State.hearMember (s : State) (k node : Nat) : State :=
  match s.ringPos k node with
  | some j =>
    if s.flag (F.NETMGT_RING_PRESENT k j) then s
    else ((s.setF (F.NETMGT_RING_PRESENT k j)).showPresent k).modSeg k fun g => { g with restart := true }
  | none => s

/-- NM_KEEPALIVE_RX (R304, R307, R308). -/
def execNmKeepaliveRx (t : Nat) (seg node : Nat) (just : Bool) (s : State) : Host.Outcome State Fault Refusal :=
  let s := s.tick t
  onUnit (decide (seg < 13)) <|
    if s.pwr.hubUp ∧ s.flag (F.NETMGT_SEG0_EN seg) ∧ !s.committed then
      let s := (if s.isRing seg then s.hearMember seg node else s).noteNode node seg just true
      if s.quarantined node then s.netUpdate
      else
        let s := s.inc (F.NETMGT_SEG2_KA_SEEN seg)
        if s.isRing seg then s.netUpdate
        else ((s.modSeg seg fun g => { g with lastSeen := s.now }).clrF (F.NETMGT_SEG1_READY seg)).netUpdate
    else s

/-- A TOKEN from a member (R305): its withheld consent counts as consent while the member is quarantined (R308). -/
def State.takeToken (s : State) (k node succ run : Nat) : State :=
  let prev := s.rd (F.NETMGT_SEG1_RUN k)
  let run := if run = 0 ∧ s.quarantined node then prev + 1 else run
  let s := (s.inc (F.NETMGT_SEG2_KA_SEEN k)).wr (F.NETMGT_SEG1_RUN k) (min 255 run)
  let fromSucc := match (s.seg k).waiting with
    | some (_, j, _) => s.rd (F.NETMGT_RING_NODE k j) == node
    | none => false
  let s := s.modSeg k fun g => { g with lastTok := s.now, waiting := if fromSucc then none else g.waiting }
  if succ = s.rd F.SYSCTL_MID_MID then
    if s.ringPresent k ≤ run + bit s.consents ∧ !(s.seg k).restart then
      (s.sendNm k .ready 0 0).setF (F.NETMGT_SEG1_READY k)
    else s.modSeg k fun g => { g with hold := some s.now, tokRun := run }
  else s

/-- NM_TOKEN_RX (R305, R306, R472). -/
def execNmTokenRx (t : Nat) (seg node succ run : Nat) (just : Bool) (s : State) : Host.Outcome State Fault Refusal :=
  let s := s.tick t
  onUnit (decide (seg < 13)) <|
    if s.pwr.hubUp ∧ s.inRing seg ∧ !s.committed ∧ (s.ringPos seg node).isSome then
      (((s.hearMember seg node).noteNode node seg just (run == 0)).takeToken seg node succ run).netUpdate
    else s

/-- NM_READY_RX (R305, R472). -/
def execNmReadyRx (t : Nat) (seg node : Nat) (just : Bool) (s : State) : Host.Outcome State Fault Refusal :=
  let s := s.tick t
  onUnit (decide (seg < 13)) <|
    if s.pwr.hubUp ∧ s.inRing seg ∧ !s.committed ∧ (s.ringPos seg node).isSome then
      let s := ((s.hearMember seg node).noteNode node seg just false).inc (F.NETMGT_SEG2_KA_SEEN seg)
      let s := s.setF (F.NETMGT_SEG1_READY seg)
      (if s.needs then
        ((s.sendNm seg .need 0 0).clrF (F.NETMGT_SEG1_READY seg)).modSeg seg fun g => { g with restart := true }
      else s).netUpdate
    else s

/-- NM_NEED_RX (R305, R472): honoured from any node. DEDUCED (log entry 32): for its run, a NEED withholds consent (R308). -/
def execNmNeedRx (t : Nat) (seg node : Nat) (just : Bool) (s : State) : Host.Outcome State Fault Refusal :=
  let s := s.tick t
  onUnit (decide (seg < 13)) <|
    if s.pwr.hubUp ∧ s.isRing seg ∧ s.flag (F.NETMGT_SEG0_EN seg) ∧ !s.committed then
      let s := ((s.hearMember seg node).noteNode node seg just true).inc (F.NETMGT_SEG2_KA_SEEN seg)
      ((s.clrF (F.NETMGT_SEG1_READY seg)).modSeg seg fun g => { g with restart := true }).netUpdate
    else s

/-- READY_SLEEP_EXPIRY (R304). -/
def execReadySleepExpiry (t : Nat) (seg : Nat) (s : State) : Host.Outcome State Fault Refusal :=
  let s := s.tick t
  onUnit (decide (seg < 13)) <|
    if s.pwr.hubUp ∧ s.flag (F.NETMGT_SEG0_EN seg) ∧ !s.isRing seg ∧
        s.closed (s.seg seg).lastSeen (ms (s.rd F.NETMGT_CFG_READY_SLEEP)) then
      (s.setF (F.NETMGT_SEG1_READY seg)).netUpdate
    else s

/-- RING_HOLD_EXPIRY (R305). -/
def execRingHoldExpiry (t : Nat) (seg : Nat) (s : State) : Host.Outcome State Fault Refusal :=
  let s := s.tick t
  onUnit (decide (seg < 13)) <| match (s.seg seg).hold, s.ringPos seg (s.rd F.SYSCTL_MID_MID) with
    | some h, some me =>
      if s.closed h (ms (s.rd F.NETMGT_CFG2_RING_HOLD)) ∧ !s.committed then
        let run := if s.consents ∧ !(s.seg seg).restart then min 255 ((s.seg seg).tokRun + 1) else 0
        let s := if s.needs then s.noteNode (s.rd F.SYSCTL_MID_MID) seg s.needJust true else s
        match s.nmRingNext seg me with
        | some j => s.sendToken seg j run
        | none => s.modSeg seg fun g => { g with hold := none }
      else s
    | _, _ => s

/-- RING_TMO_EXPIRY (R306). -/
def execRingTmoExpiry (t : Nat) (seg : Nat) (s : State) : Host.Outcome State Fault Refusal :=
  let s := s.tick t
  onUnit (decide (seg < 13)) <| match (s.seg seg).waiting, s.ringPos seg (s.rd F.SYSCTL_MID_MID) with
    | some (t0, j, run), some me =>
      if s.closed t0 (ms (s.rd F.NETMGT_CFG2_RING_TMO)) ∧ !s.committed then
        let s := ((s.clrF (F.NETMGT_RING_PRESENT seg j)).showPresent seg).inc (F.NETMGT_SEG1_TOKEN_LOST seg)
        (match s.nmRingNext seg j with
          | some i => if i = me then s.modSeg seg fun g => { g with waiting := none } else s.sendToken seg i run
          | none => s.modSeg seg fun g => { g with waiting := none }).netUpdate
      else s
    | _, _ => s

/-- RING_LOST_TIMEOUT (R306). -/
def execRingLostTimeout (t : Nat) (seg : Nat) (s : State) : Host.Outcome State Fault Refusal :=
  let s := s.tick t
  onUnit (decide (seg < 13)) <| match s.ringPos seg (s.rd F.SYSCTL_MID_MID) with
    | some me =>
      if s.inRing seg ∧ s.closed (s.seg seg).lastTok (32 * ms (s.rd F.NETMGT_CFG2_RING_TMO)) ∧ !s.committed ∧
          (s.ringOrder seg).find? (fun j => s.flag (F.NETMGT_RING_PRESENT seg j)) = some me then
        match s.nmRingNext seg me with
        | some j => (s.sendToken seg j 0).modSeg seg fun g => { g with lastTok := s.now }
        | none => s
      else s
    | none => s

/-- The word 0 of a node-table entry. -/
def State.nodeWord (s : State) (n : Nat) : Nat := s.word (F.NETMGT_NODE0_VALID n).addr

/-- MAX_AWAKE_EXPIRY (R308). -/
def execMaxAwakeExpiry (t : Nat) (n : Nat) (s : State) : Host.Outcome State Fault Refusal :=
  let s := s.tick t
  onUnit (decide (n < 256)) <| match s.net.runs.find? n with
    | some r =>
      if s.closed r.start (secs (60 * s.rd F.NETMGT_CFG_MAX_AWAKE)) ∧ !s.closed r.last (ms (s.rd F.NETMGT_CFG_READY_SLEEP)) ∧
          !s.flag (F.NETMGT_NODE0_JUST n) ∧ !s.flag (F.NETMGT_NODE0_QUAR n) then
        let node := s.rd (F.NETMGT_NODE0_NODE n)
        let s := (s.setF (F.NETMGT_NODE0_QUAR n)).inc (F.NETMGT_CNT_CANCELS_QUARANTINED 1)
        let s := if node = s.rd F.SYSCTL_MID_MID then s.setF F.NETMGT_STAT_SELF_QUAR else s
        (s.record 0x0D 0x01 4 node 0 [s.nodeWord n]).netUpdate
      else s
    | none => s

/-- NODE_RUN_END (R308). -/
def execNodeRunEnd (t : Nat) (n : Nat) (s : State) : Host.Outcome State Fault Refusal :=
  let s := s.tick t
  onUnit (decide (n < 256)) <| match s.net.runs.find? n with
    | some r =>
      if s.closed r.last (ms (s.rd F.NETMGT_CFG_READY_SLEEP)) then
        (({ s with net := { s.net with runs := s.net.runs.erase n } }).liftQuar n).netUpdate
      else s
    | none => s

/-- Is a wake source armed: as NETMGT_ARM says, or as the Cellar took it at sleep entry (R311, R313, R375)? -/
def State.armedSource (s : State) (cause source : Nat) : Bool :=
  let live := (s.rd F.NETMGT_ARM_CAN_ARM + 2 ^ 4 * s.rd F.NETMGT_ARM_ETH_ARM + 2 ^ 10 * s.rd F.NETMGT_ARM_W_ARM,
    s.rd F.NETMGT_FWD_ETH_ARM_F)
  let (arm, armF) := if s.pwr.hubUp then live else s.net.arm.getD (0xF * 2 ^ 10, 0)
  match cause with
  | 1 => decide (source < 4) && arm.testBit source
  | 2 => if source < 6 then arm.testBit (4 + source) else decide (source < 10) && armF.testBit (source - 6)
  | 3 => decide (source < 4) && arm.testBit (10 + source)
  | 4 | 5 => true
  | _ => false

/-- The level of a wake input, as a wake of cause 0x3 shows it: its active level (R313). -/
def State.winActive (s : State) (cause source : Nat) : State :=
  if cause = 3 ∧ source < 4 then s.wr (F.NETMGT_WIN_CFG_STATE source) (s.rd (F.NETMGT_WIN_CFG_POL source)) else s

/-- WAKE_REQUEST (R30, R309, R310, R315): in AWAKE and PREPARE every keep-alive segment's last-seen instant becomes the
captured one, and PREPARE is cancelled; at or after the sleep commit the wake is latched in the Cellar. -/
def execWakeRequest (t : Nat) (cause source : Nat) (s : State) : Host.Outcome State Fault Refusal :=
  let s := s.tick t
  .next <|
    if !s.pwr.hubUp ∨ !s.armedSource cause source then s.winActive cause source else
    let s := s.winActive cause source
    if s.committed then
      if s.net.latched.isSome then s else { s with net := { s.net with latched := some (cause, source, s.tNow) } }
    else
      let s := s.netSegs.foldl (fun s k =>
        if s.isRing k then s
        else (s.modSeg k fun g => { g with lastSeen := s.now }).clrF (F.NETMGT_SEG1_READY k)) s
      let s := if s.net.state = .prepare then s.cancelPrepare else s
      s.netUpdate

/-- WAKE_INPUT_INACTIVE (R300): a wake input returns to its inactive level. -/
def execWakeInputInactive (t : Nat) (k : Nat) (s : State) : Host.Outcome State Fault Refusal :=
  let s := s.tick t
  onUnit (decide (k < 4)) <|
    (s.wr (F.NETMGT_WIN_CFG_STATE k) (1 - s.rd (F.NETMGT_WIN_CFG_POL k))).netUpdate

end Sys2Proof.Machine
end

