-- ==== Sys2Proof/Machine/Program.lean ====
section
/-! DEFINITION. What the lanes' programs do: variables and blocks (R123, R124), inputs and outputs (R85, R111, R130), the
force table (R129 to R132), the bank switch of an online change (R127, R128), restarts (R121, R122) and the end of a
maintenance token (R131, R134). -/

namespace Sys2Proof

/-- The class of the output variables and of the internal ones (VARTAB). -/
def classOutput : Nat := 1
def classInternal : Nat := 2

/-- The position of a variable in VARTAB: SUBJ of a record about it (R407). -/
def Program.index (p : Program) (id : Nat) : Nat := (p.vars.findIdx? fun d => d.id = id).getD 0

/-- Does a value fit the size of a declared variable (R129)? -/
def VarDecl.fits (d : VarDecl) (v : Nat) : Bool := decide (v < 256 ^ d.size)

/-- Is the task due in cycle n (R110)? -/
def TaskDecl.due (k : TaskDecl) (n : Nat) : Bool := n % 2 ^ k.mult == k.phase

/-- Same type: type code and size both equal (R108). -/
def VarDecl.sameType (d e : VarDecl) : Bool := d.typ == e.typ && d.size == e.size

/-- The limits of R105 that an image states of itself. -/
def Program.inLimits (p : Program) : Bool :=
  decide (p.codeLen ≤ 768 * 1024) && decide (p.dataLen ≤ 384 * 1024) && decide (p.carriedSize ≤ 64 * 1024) &&
    decide (p.retainedLen ≤ 64 * 1024) && decide (p.tasks.length ≤ 8) && decide (p.vars.length ≤ 4096) &&
    decide (p.units ≤ 512) && p.vars.all fun d => !d.retained || d.carried

end Sys2Proof

namespace Sys2Proof.Machine

/-! ### Function blocks (R123, R124) -/

/-- A block at its declared initial value. -/
def FbState.init : FbState := ⟨0, false, false, false, 0⟩

/-- A TON scan with task period `p`; times in µs. -/
def FbState.ton (f : FbState) (in' : Bool) (pt p : Nat) : FbState :=
  if !in' then { f with on := false, et := 0, q := false }
  else
    let et := if f.on then min pt (f.et + p) else 0
    { f with on := true, et := et, q := decide (pt ≤ et) }

/-- A TOF scan. -/
def FbState.tof (f : FbState) (in' : Bool) (pt p : Nat) : FbState :=
  if in' then { f with on := false, et := 0, q := true }
  else if f.q then
    let et := if f.on then min pt (f.et + p) else 0
    { f with on := true, et := et, q := decide (et < pt) }
  else f

/-- A TP scan: `on` while the pulse is timed, `prev2` the previous IN. -/
def FbState.tp (f : FbState) (in' : Bool) (pt p : Nat) : FbState :=
  if f.on then
    let et := min pt (f.et + p)
    if et < pt then { f with et := et, prev2 := in' }
    else { f with on := false, q := false, et := if in' then et else 0, prev2 := in' }
  else if in' && !f.prev2 then { f with on := decide (0 < pt), q := decide (0 < pt), et := 0, prev2 := true }
  else { f with et := if in' then f.et else 0, prev2 := in' }

/-- CV as the signed 16-bit value of an INT. -/
def FbState.cvInt (f : FbState) : Int := toSigned 16 f.cv

/-- The block with CV set, limited to the range of an INT. -/
def FbState.setCv (f : FbState) (v : Int) : FbState := { f with cv := ofSigned 16 (satInt v (-32768) 32767) }

/-- A CTU scan. -/
def FbState.ctu (f : FbState) (cu r : Bool) (pv : Int) : FbState :=
  let g := if r then f.setCv 0 else if cu && !f.on then f.setCv (f.cvInt + 1) else f
  { g with on := cu, q := decide (pv ≤ g.cvInt) }

/-- A CTD scan. -/
def FbState.ctd (f : FbState) (cd ld : Bool) (pv : Int) : FbState :=
  let g := if ld then f.setCv pv else if cd && !f.on then f.setCv (f.cvInt - 1) else f
  { g with on := cd, q := decide (g.cvInt ≤ 0) }

/-- A CTUD scan: `on` the previous CU, `prev2` the previous CD, `q` QU. -/
def FbState.ctud (f : FbState) (cu cd r ld : Bool) (pv : Int) : FbState :=
  let up := cu && !f.on
  let dn := cd && !f.prev2
  let g := if r then f.setCv 0 else if ld then f.setCv pv
    else if up && !dn then f.setCv (f.cvInt + 1) else if dn && !up then f.setCv (f.cvInt - 1) else f
  { g with on := cu, prev2 := cd, q := decide (pv ≤ g.cvInt) }

/-- An R_TRIG scan. -/
def FbState.rTrig (f : FbState) (clk : Bool) : FbState := { f with on := clk, q := clk && !f.on }

/-- An F_TRIG scan. -/
def FbState.fTrig (f : FbState) (clk : Bool) : FbState := { f with on := clk, q := !clk && f.on }

/-! ### Writes to variables -/

/-- The 256-byte blocks of the carried region that a variable lies in. -/
def blocksOf (d : VarDecl) : List Nat :=
  let first := d.offset / 256
  (List.range ((d.offset + d.size - 1) / 256 + 1 - first)).map fun k => first + k

/-- Bytes of pre-copy a µs (R100). -/
def State.copyRate (s : State) : Nat :=
  match s.rd F.LANEIF_CFG_PRECOPY_SHARE with
  | 0 => 5 | 2 => 20 | _ => 10

/-- Bytes the pre-copy of lane `l` has sent by now: those of the closed execute windows and those of the one under way. -/
def State.copiedBy (s : State) (l : LaneId) : Nat :=
  let x := s.ln l
  if s.lane.copyShut = some x.boundary then s.lane.copied
  else s.lane.copied + s.copyRate * ((min s.now x.deadline - (x.boundary + 250000)) / 1000)

/-- Bytes of a resync's pre-copy that the primary has sent by now, at 25 MB/s in its execute windows (R151). -/
def State.pairCopied (s : State) (l : LaneId) : Nat :=
  let x := s.ln l
  if s.lane.copyShut = some x.boundary then s.pair.preSent
  else s.pair.preSent + 25 * ((min s.now x.deadline - (x.boundary + 250000)) / 1000)

/-- Does the module mirror its carried region to a partner that resyncs (R151)? -/
def State.mirrors (s : State) : Bool := s.pair.state == .primary && s.pair.partner == some .syncing

/-- Marks the blocks of a carried variable that a pre-copy has sent already: to a returning lane (R100), to the standby
(R151). -/
def State.markWrite (s : State) (l : LaneId) (d : VarDecl) : State :=
  if !d.carried ∨ !s.isLowest l then s else
  let sent (n : Nat) : List Nat := (blocksOf d).filter fun b => decide (256 * b < n)
  let s := if s.attempting.isSome then
      { s with lane := { s.lane with marked := (sent (s.copiedBy l)).foldl maskSet s.lane.marked } }
    else s
  if s.mirrors then { s with pair := { s.pair with preMark := (sent (s.pairCopied l)).foldl maskSet s.pair.preMark } } else s

/-- A write to a variable: the first write to a retained one after a seal invalidates the seal (R120). -/
def State.setVar (s : State) (l : LaneId) (p : Program) (id v : Nat) : State :=
  match p.decl id with
  | none => s
  | some d =>
    (s.modLn l fun x =>
      { x with vars := x.vars.insert id (v % 256 ^ d.size), sealed := if d.retained then none else x.sealed }).markWrite l d

/-- A block's state in a lane: its own, or the value that its variable has taken. -/
def Lane.fbState (x : Lane) (id : Nat) : FbState :=
  match x.fbs.find? id with
  | some f => f
  | none => ((x.vars.find? id).map FbState.ofNat).getD FbState.init

/-- A scan of a function block. -/
def State.setFb (s : State) (l : LaneId) (p : Program) (id : Nat) (scan : FbState → FbState) : State :=
  match p.decl id with
  | none => s
  | some d =>
    (s.modLn l fun x =>
      { x with fbs := x.fbs.insert id (scan (x.fbState id)),
               sealed := if d.retained then none else x.sealed }).markWrite l d

/-- A block's state after its scan. -/
def State.fb (s : State) (l : LaneId) (id : Nat) : FbState := (s.ln l).fbState id

/-- One operation of a task's code, `per` being the task period in µs. -/
def State.progOp (s : State) (l : LaneId) (p : Program) (per : Nat) : ProgOp → State
  | .set v x => s.setVar l p v x
  | .ton i b pt q et =>
    let s := s.setFb l p i fun f => f.ton b pt per
    (s.setVar l p q (bit (s.fb l i).q)).setVar l p et (s.fb l i).et
  | .tof i b pt q et =>
    let s := s.setFb l p i fun f => f.tof b pt per
    (s.setVar l p q (bit (s.fb l i).q)).setVar l p et (s.fb l i).et
  | .tp i b pt q et =>
    let s := s.setFb l p i fun f => f.tp b pt per
    (s.setVar l p q (bit (s.fb l i).q)).setVar l p et (s.fb l i).et
  | .ctu i cu r pv q cv =>
    let s := s.setFb l p i fun f => f.ctu cu r (toSigned 16 pv)
    (s.setVar l p q (bit (s.fb l i).q)).setVar l p cv (s.fb l i).cv
  | .ctd i cd ld pv q cv =>
    let s := s.setFb l p i fun f => f.ctd cd ld (toSigned 16 pv)
    (s.setVar l p q (bit (s.fb l i).q)).setVar l p cv (s.fb l i).cv
  | .ctud i cu cd r ld pv qu qd cv =>
    let s := s.setFb l p i fun f => f.ctud cu cd r ld (toSigned 16 pv)
    ((s.setVar l p qu (bit (s.fb l i).q)).setVar l p qd (bit (decide ((s.fb l i).cvInt ≤ 0)))).setVar l p cv (s.fb l i).cv
  | .rTrig i b q =>
    let s := s.setFb l p i fun f => f.rTrig b
    s.setVar l p q (bit (s.fb l i).q)
  | .fTrig i b q =>
    let s := s.setFb l p i fun f => f.fTrig b
    s.setVar l p q (bit (s.fb l i).q)

/-! ### Forces -/

/-- The ID of an entry of the active force table. -/
def State.forceId (s : State) (e : Nat) : Nat := s.rd (F.CYCMGR_FORCE_ACT_WORD e 0)

/-- The value of an entry of the active force table. -/
def State.forceValue (s : State) (e : Nat) : Nat :=
  s.rd (F.CYCMGR_FORCE_ACT_WORD e 1) + 2 ^ 32 * s.rd (F.CYCMGR_FORCE_ACT_WORD e 2)

/-- Is an entry applied: in use, with STATUS 0x0? -/
def State.forceApplied (s : State) (e : Nat) : Bool :=
  s.flag (F.CYCMGR_FORCE_ACT3_EN e) && s.rd (F.CYCMGR_FORCE_ACT3_STATUS e) == 0

/-- The entries of the force table. -/
def forceEntries : List Nat := List.range 256

/-- The forces of the active table as a cycle takes them (R129). -/
def State.forcesNow (s : State) : List ForceUse :=
  (forceEntries.filter fun e => s.forceApplied e).map fun e =>
    ⟨s.forceId e, s.forceValue e, s.rd (F.CYCMGR_FORCE_ACT3_POINT e)⟩

/-- CYCMGR_FORCE_STAT follows the table. -/
def State.countForces (s : State) : State :=
  let on := forceEntries.filter fun e => s.forceApplied e
  (s.wr F.CYCMGR_FORCE_STAT_APPLIED on.length).wr F.CYCMGR_FORCE_STAT_VITAL
    (on.filter fun e => s.flag (F.CYCMGR_FORCE_ACT3_VITAL e)).length

/-- A lane applies the forces of the cycle it executes at a point (R130): 0 after agreement, 1 at the end of execute. -/
def State.applyForces (s : State) (l : LaneId) (p : Program) (point : Nat) : State :=
  (s.ln l).forces.foldl (fun s f => if f.point = point ∨ f.point = 2 then s.setVar l p f.id f.value else s) s

/-- The right FORCE_VITAL of the active token (R131). -/
def State.mayForceVital (s : State) : Bool :=
  match s.cyc.token with
  | some k => k.rights.testBit 1
  | none => false

/-- The record of a vital force that is applied (R131). -/
def State.forceRecord (s : State) (p : Program) (e : Nat) : State :=
  let nonce := match s.cyc.token with
    | some k => k.nonce
    | none => 0
  s.progRecord 0x05 6 (p.index (s.forceId e))
    [s.forceId e, s.forceValue e % 2 ^ 32, s.forceValue e / 2 ^ 32, nonce % 2 ^ 32, nonce / 2 ^ 32 % 2 ^ 32,
     nonce / 2 ^ 64 % 2 ^ 32, nonce / 2 ^ 96 % 2 ^ 32]

/-- POINT of a variable's class (R130). -/
def forcePoint (d : VarDecl) : Nat := if d.cls = classOutput then 1 else if d.cls = classInternal then 2 else 0

/-- STATUS, POINT and VITAL of an entry of the active table under a program (R129, R131); an entry that comes to be
applied on a vital variable writes a record. Without a program no ID is in VARTAB. -/
def State.judgeForce (s : State) (p : Option Program) (e : Nat) : State :=
  if !s.flag (F.CYCMGR_FORCE_ACT3_EN e) then s else
  match p, p.bind fun p => p.decl (s.forceId e) with
  | none, _ | _, none => s.wr (F.CYCMGR_FORCE_ACT3_STATUS e) 1
  | some p, some d =>
    let was := s.forceApplied e && s.flag (F.CYCMGR_FORCE_ACT3_VITAL e)
    let s := (s.wr (F.CYCMGR_FORCE_ACT3_POINT e) (forcePoint d)).wr (F.CYCMGR_FORCE_ACT3_VITAL e) (bit d.vital)
    if !d.fits (s.forceValue e) then s.wr (F.CYCMGR_FORCE_ACT3_STATUS e) 3
    else if d.vital ∧ !s.mayForceVital then s.wr (F.CYCMGR_FORCE_ACT3_STATUS e) 2
    else
      let s := s.wr (F.CYCMGR_FORCE_ACT3_STATUS e) 0
      if d.vital ∧ !was then s.forceRecord p e else s

/-- One entry of the back buffer becomes active (R129). -/
def State.copyForce (s : State) (e : Nat) : State :=
  let s := [0, 1, 2].foldl (fun s j => s.wr (F.CYCMGR_FORCE_ACT_WORD e j) (s.rd (F.CYCMGR_FORCE_BACK_WORD e j))) s
  (((s.wr (F.CYCMGR_FORCE_ACT3_EN e) (s.rd (F.CYCMGR_FORCE_BACK3_EN e))).clrF (F.CYCMGR_FORCE_ACT3_POINT e)).clrF
    (F.CYCMGR_FORCE_ACT3_VITAL e)).clrF (F.CYCMGR_FORCE_ACT3_STATUS e)

/-- FORCE_COMMIT makes the back buffer active (R129). -/
def State.commitForces (s : State) : State :=
  let s := forceEntries.foldl State.copyForce s
  (forceEntries.foldl (fun s e => s.judgeForce s.cyc.act e) s).countForces

/-- Vital entries that waited for a token are judged afresh when one becomes active (R131). -/
def State.tokenForces (s : State) : State :=
  (forceEntries.foldl (fun s e =>
    if s.rd (F.CYCMGR_FORCE_ACT3_STATUS e) = 2 then s.judgeForce s.cyc.act e else s) s).countForces

/-- Every vital entry ceases to apply at the end of the token, each with a record (R131). -/
def State.endVitalForces (s : State) : State :=
  (forceEntries.foldl (fun s e =>
    if s.forceApplied e ∧ s.flag (F.CYCMGR_FORCE_ACT3_VITAL e) then
      (s.wr (F.CYCMGR_FORCE_ACT3_STATUS e) 2).progRecord 0x06 6
        ((s.cyc.act.map fun p => p.index (s.forceId e)).getD 0) []
    else s) s).countForces

/-- The token ceases to be active (R134). -/
def State.endToken (s : State) : State :=
  if s.cyc.token.isSome then
    ({ s with cyc := { s.cyc with token := none, tokenOff := false } }.clrF F.CYCMGR_TOKEN_STAT_RIGHTS).endVitalForces
  else s

/-- The force table is cleared (R122). -/
def State.clearForces (s : State) : State :=
  (forceEntries.foldl (fun s e =>
    let s := [0, 1, 2].foldl (fun s j => s.clrF (F.CYCMGR_FORCE_ACT_WORD e j)) s
    (((s.clrF (F.CYCMGR_FORCE_ACT3_EN e)).clrF (F.CYCMGR_FORCE_ACT3_POINT e)).clrF
      (F.CYCMGR_FORCE_ACT3_VITAL e)).clrF (F.CYCMGR_FORCE_ACT3_STATUS e)) s).countForces

/-! ### Banks and online change -/

/-- CYCMGR_TASK_CFG, CYCMGR_ACT_HASH and CYCMGR_INACT_HASH follow the banks. -/
def State.showBanks (s : State) : State :=
  let s := (s.wrHash F.CYCMGR_ACT_HASH_HASH ((s.cyc.act.map Program.hash).getD 0)).wrHash F.CYCMGR_INACT_HASH_HASH
    ((s.cyc.inact.map Program.hash).getD 0)
  let tasks := (s.cyc.act.map Program.tasks).getD []
  (List.range 8).foldl (fun s j =>
    match tasks.find? fun k => k.num = j with
    | some k => (((s.setF (F.CYCMGR_TASK_CFG_PRESENT j)).wr (F.CYCMGR_TASK_CFG_MULT_LOG2 j) k.mult).wr
        (F.CYCMGR_TASK_CFG_PHASE j) k.phase).wr (F.CYCMGR_TASK_CFG_WCET_US j) (min 65535 k.wcet)
    | none => (((s.clrF (F.CYCMGR_TASK_CFG_PRESENT j)).clrF (F.CYCMGR_TASK_CFG_MULT_LOG2 j)).clrF
        (F.CYCMGR_TASK_CFG_PHASE j)).clrF (F.CYCMGR_TASK_CFG_WCET_US j)) s

/-- Case of *Table: Carry-over at online change* for a variable of the new program: its value is carried over. -/
def carries (old : Program) (d : VarDecl) : Bool :=
  d.carried && match old.decl d.id with
    | some e => e.carried && e.sameType d
    | none => false

/-- Does a force stay in force over an online change, and at which point (R132)? DESIGN CHOICE (log entry 79): one on an ID that
both programs declare with the same type stays, carried or not. -/
def ForceUse.over (old next : Program) (vital : Bool) (f : ForceUse) : Option ForceUse :=
  match old.decl f.id, next.decl f.id with
  | some o, some d =>
    if o.sameType d && d.fits f.value && (!d.vital || vital) then some { f with point := forcePoint d } else none
  | _, _ => none

/-- The lane carries its variables over to the new layout (R127), which are writes to the retained ones among them (R120),
and its forces of the switch cycle are filtered (R132). `vital` tells whether vital forces may be applied. -/
def Lane.carryOver (l : Lane) (old next : Program) (vital : Bool) : Lane :=
  let keep := next.vars.filter fun d => carries old d
  { l with
    oldProg := none
    forces := l.forces.filterMap (ForceUse.over old next vital)
    sealed := if next.vars.any fun d => d.retained then none else l.sealed
    vars := keep.foldl (fun m d => match old.decl d.id with
      | some e => if (l.fbs.find? d.id).isSome then m else m.insert d.id (l.valueOf e)
      | none => m) []
    fbs := l.fbs.filter fun x => keep.any fun d => d.id = x.1
    bankHash := some next.hash }

/-- The report entries of *Table: Carry-over at online change*: KIND and variable ID. -/
def ocReport (old next : Program) : List (Nat × Nat) :=
  (old.vars.filterMap fun e => match next.decl e.id with
    | none => some (1, e.id)
    | some d => if d.sameType e then none else some (2, e.id))

/-- A report entry goes to the queue of 4,352 and to the recorder (R128). -/
def State.reportOc (s : State) (p : Program) (r : Nat × Nat) : State :=
  let s := if s.cyc.report.length < 4352 then ({ s with cyc := { s.cyc with report := s.cyc.report ++ [r] } }).pushed 0x4030001C else s
  s.progRecord 0x03 4 (p.index r.2) [r.2]

/-- The force table is filtered at the switch (R132): an entry on a removed or retyped ID is dropped; every other one that no
earlier change has dropped is judged under the new VARTAB. -/
def State.filterForces (s : State) (old next : Program) : State :=
  (forceEntries.foldl (fun s e =>
    if !s.flag (F.CYCMGR_FORCE_ACT3_EN e) ∨ s.rd (F.CYCMGR_FORCE_ACT3_STATUS e) = 4 then s else
    let gone := match old.decl (s.forceId e), next.decl (s.forceId e) with
      | some o, some d => !o.sameType d
      | some _, none => true
      | none, _ => false
    if gone then (s.wr (F.CYCMGR_FORCE_ACT3_STATUS e) 4).reportOc next (3, s.forceId e)
    else s.judgeForce (some next) e) s).countForces

/-- The banks change over at the switch, once for the three lanes (R128): the record with both hashes and the switch cycle
(log entry 35), the report, the filtered forces, and the token, whose end the lanes see from the next VIN swap (R134). -/
def State.switchBanks (s : State) (old next : Program) : State :=
  let s := (s.wr F.CYCMGR_STAT_ACT_BANK (1 - s.rd F.CYCMGR_STAT_ACT_BANK))
  let s := { s with cyc := { s.cyc with act := some next, inact := some old, boot := some next, oc := .idle, report := [] } }
  let s := (List.range 8).foldl (fun s j => s.clrF (F.CYCMGR_TASK_TIME_MAX_US j)) s.showBanks
  let s := s.progRecord 0x02 4 0 (digestWords old.hash ++ digestWords next.hash ++ [s.cyc.ocCyc])
  let s := (ocReport old next).foldl (fun s r => s.reportOc next r) s
  let s := s.filterForces old next
  if s.cyc.token.isSome then { s with cyc := { s.cyc with tokenOff := true } } else s

/-- At the start of the execute of the switch cycle a lane carries its variables over. The first lane to reach it changes
the banks; another that executes runs on under the old tables until it reaches the cycle (R127). -/
def State.ocSwitch (s : State) (l : LaneId) (n : Nat) : State :=
  if n ≠ s.cyc.ocCyc then s else
  match (s.ln l).oldProg, s.cyc.oc, s.cyc.act, s.cyc.inact with
  | some old, _, some next, _ => s.modLn l fun x => x.carryOver old next s.mayForceVital
  | none, .armed, some old, some next =>
    let s := s.modLanes (laneIds.filter fun m => (s.ln m).executes) fun x => { x with oldProg := some old }
    (s.switchBanks old next).modLn l fun x => x.carryOver old next s.mayForceVital
  | _, _, _, _ => s

/-! ### One cycle's work -/

/-- A lane's variables take the agreed inputs and their quality bits (R111, R474). -/
def State.bindInputs (s : State) (l : LaneId) (p : Program) (g : Agreed) : State :=
  p.io.foldl (fun s b => match b with
    | .din u v q => (s.setVar l p v (bit (g.img.din.testBit u))).setVar l p q (bit (g.dinQ.testBit u))
    | .ain u v q => (s.setVar l p v (ofSigned 64 (g.img.ain.getD u 0))).setVar l p q (bit (g.ainQ.testBit u))
    | .vin w v q => (s.setVar l p v (g.img.vin.getD 0 w)).setVar l p q (bit (g.vinQ.contains w))
    | _ => s) s

/-- The measured time of a task's run (CYCMGR_TASK_TIMEj). -/
def State.taskTime (s : State) (l : LaneId) (n j us : Nat) : State :=
  if (s.ln l).state ≠ .active then s else
  let us := min 65535 us
  let last := if s.lane.taskCyc.find? j = some n then max us (s.rd (F.CYCMGR_TASK_TIME_LAST_US j)) else us
  let s := { s with lane := { s.lane with taskCyc := s.lane.taskCyc.insert j n } }
  (s.wr (F.CYCMGR_TASK_TIME_LAST_US j) last).wr (F.CYCMGR_TASK_TIME_MAX_US j)
    (max us (s.rd (F.CYCMGR_TASK_TIME_MAX_US j)))

/-- The due tasks of cycle n run one after another in increasing task number (R111). DESIGN CHOICE (log entry 80): what a task
writes counts as written at the end of its run, where the pre-copy marks blocks by it (R100). -/
def State.runTasks (s : State) (l : LaneId) (p : Program) (n : Nat) (work : List TaskRun) : State :=
  let r := (List.range 8).foldl (fun s j =>
    match p.tasks.find? (fun k => k.num = j && k.due n), work.find? (fun r => r.task = j) with
    | some k, some r =>
      let s := { s with now := s.now + 1000 * r.us }
      (r.ops.foldl (fun s o => s.progOp l p (2 ^ k.mult * s.period / 1000) o) s).taskTime l n j r.us
    | _, _ => s) s
  { r with now := s.now }

/-- A lane begins the execute of the oldest cycle of its queue (R111, R112, R127, R130). -/
def State.beginExecute (s : State) (l : LaneId) (work : List TaskRun) : State :=
  match (s.ln l).queue with
  | [] => s
  | (n, g, fs) :: rest =>
    let s := (s.modLn l fun x => { x with queue := rest, running := some n, forces := fs }).ocSwitch l n
    match s.progOf l with
    | none => s
    | some p => ((s.bindInputs l p g).applyForces l p 0).runTasks l p n work

/-- The output image of a lane (R85): command bits of VITAL channels, permissives, VOUT words and the signature. -/
def State.outImage (s : State) (l : LaneId) (p : Program) : OutImage :=
  let x := s.ln l
  let on (v : Nat) : Bool := x.var p v != 0
  { cmd := p.io.foldl (fun m b => match b with
      | .cmd n v => if s.vital n && on v then maskSet m n else m
      | _ => m) 0
    permit := p.io.foldl (fun m b => match b with
      | .permit t v => if on v then maskSet m t else m
      | _ => m) 0
    vout := p.io.foldl (fun m b => match b with
      | .vout w v => m.put 0 w (x.var p v % 2 ^ 32)
      | _ => m) []
    sign := x.signature p }

/-! ### Restarts -/

/-- Do the lanes' seals allow a warm restart (R121)? The pair gives COLD_REASON, or the CRC that two lanes' seals share. -/
def State.warmTest (s : State) (cold : Bool) (p : Program) : Except Nat Nat :=
  let seals := laneIds.filterMap fun l => (s.ln l).sealed
  let mine := seals.filter fun x => x.hash = p.hash
  if s.rd F.CYCMGR_CFG_RESTART_MODE ≠ 0 then .error 1
  else if cold then .error 5
  else if seals.length < 2 then .error 2
  else if mine.length < 2 then .error 3
  else match mine.find? fun x => decide (2 ≤ (mine.filter fun y => y.crc = x.crc).length) with
    | some x => .ok x.crc
    | none => .error 4

/-- A lane's variables at a warm restart: retained ones kept, every other one at its initial value (R122). -/
def Lane.keepRetained (l : Lane) (p : Program) : Lane :=
  let kept (id : Nat) : Bool := ((p.decl id).map fun d => d.retained) == some true
  { l with vars := l.vars.filter (fun x => kept x.1), fbs := l.fbs.filter (fun x => kept x.1), queue := [],
           running := none, oldProg := none, out := none }

/-- A lane's variables at a cold restart. -/
def Lane.coldStart (l : Lane) : Lane :=
  { l with vars := [], fbs := [], sealed := none, queue := [], running := none, oldProg := none, out := none }

/-- A restart begins (R121, R122); out of SAFE the vote mode is not armed again (R477). -/
def State.restart (s : State) (cold : Bool) (p : Program) : State :=
  let fromSafe := decide (s.lane.vote = VoteMode.safe)
  let s := if fromSafe then { s with lane := { s.lane with vote := .notArmed } } else s
  let s := { s with
    lane := { s.lane with armed := false }
    cyc := { s.cyc with mode := .starting, fromSafe := fromSafe, restart := some (!cold, s.cycleNo) } }
  match s.warmTest cold p with
  | .ok crc =>
    let donor := (laneIds.find? fun l => ((s.ln l).sealed.map fun x => x.crc == crc && x.hash == p.hash) == some true).getD .a
    let from' := s.ln donor
    let s := s.modLanes laneIds fun x =>
      if (x.sealed.map fun y => y.crc == crc && y.hash == p.hash) = some true then x.keepRetained p
      else { (Lane.keepRetained { x with vars := from'.vars, fbs := from'.fbs } p) with sealed := none }
    (s.wr F.CYCMGR_STAT_LAST_RESTART 1).wr F.CYCMGR_STAT_COLD_REASON 0
  | .error r =>
    (((s.modLanes laneIds Lane.coldStart).clearForces).wr F.CYCMGR_STAT_LAST_RESTART 2).wr F.CYCMGR_STAT_COLD_REASON r

end Sys2Proof.Machine
end

