-- ==== Sys2Proof/Machine/Pair.lean ====
section
/-! DEFINITION. Module pairs and authority (*Module pairs and authority*, R136 to R157). -/

namespace Sys2Proof.Machine

/-- The code of a pair state (PAIR_STAT.STATE). -/
def PairState.code : PairState → Nat
  | .alone => 0 | .seek => 1 | .primary => 2 | .syncing => 3 | .standby => 4 | .detached => 5

/-- The pair state of a code, as a PAIR_STAT frame carries it. -/
def PairState.ofCode : Nat → Option PairState
  | 0 => some .alone | 1 => some .seek | 2 => some .primary | 3 => some .syncing | 4 => some .standby | 5 => some .detached
  | _ => none

/-- The code of a detach cause (PAIR_STAT.DETACH_CAUSE). -/
def DetachCause.code : DetachCause → Nat
  | .none => 0 | .link => 1 | .disagree => 2 | .hash => 3 | .cfg => 4 | .sync => 5 | .abort => 6

/-- The word of PAIR_STAT. -/
def State.pairStat (s : State) : Nat :=
  s.pair.state.code * 2 ^ 29 + bit s.pair.held * 2 ^ 28 + bit s.authGate * 2 ^ 27 + s.word F.PAIR_STAT_IN_STEP.addr

/-- A record of class PAIR (R407). -/
def State.pairRecord (s : State) (kind sev : Nat) : State :=
  s.record 0x05 kind sev (s.rd F.PAIR_CFG_PARTNER_MID) 0 [s.pairStat]

/-- The module's own program hash. -/
def State.ownHash (s : State) : Nat := (s.cyc.act.map Program.hash).getD 0

/-- The module's own pairing digest (R138). -/
def State.ownDigest (s : State) : Nat :=
  Config.pairDigest ((List.range 48).map (fun n => 4 * s.rd (F.CH_PROFILE_CH_MODE n) + 2 * s.rd (F.CH_PROFILE_SAFE_ON n) +
    s.rd (F.CH_PROFILE_PAIRED n)) ++ [s.rd F.LANEIF_CFG_PERIOD, s.rd F.PAIR_CFG_PAIR_OFFSET])

/-! ### Frames -/

/-- The port of the pair link, P6, and the lane domain's port, I4 (R25, R226). -/
def pairPort : Nat := 17
def lanePort : Nat := 4

/-- A pair frame as the Hallway sees it (R146): EtherType 0x88B5, class 7. Its length is that of its payload, for which the
spec gives 4 KB at most. -/
def pairEth (da sa len : Nat) : EthFrame :=
  ⟨da, sa, 0x88B5, max 64 len, some (7, 0, 1), true, false, none, none, none, none, []⟩

/-- Bytes of an agreed or output image, of what a pair frame carries, with header and FCS. -/
def PairFrame.len : PairFrame → Nat
  | .img _ i _ => 34 + 2 + 4 * i.ain.length + 4 * i.tiles.length + 2048
  | .out _ _ => 34 + 7 + 2048
  | .stat .. => 34 + 66
  | .xfer .. => 64
  | .copy _ c => 34 + 258 * c.blocks.length

/-- The module sends a pair frame: it passes the Hallway to P6 in class 7 (R28, R146). -/
def State.sendPair (s : State) (f : PairFrame) : State :=
  let s := { s with pair := { s.pair with sends := s.pair.sends ++ [f] } }
  (s.hallPass lanePort pairPort 7
    (pairEth (Config.moduleMac (s.rd F.PAIR_CFG_PARTNER_MID)) (Config.moduleMac (s.rd F.SYSCTL_MID_MID)) f.len)).2

/-- A frame of the partner has come in on P6 (R28, R146): it takes effect where it passes the Hallway and its CRC is right. -/
def State.pairTakes (s : State) (crcOk : Bool) (len : Nat) (eff : State → State) : State :=
  if !s.flag F.PAIR_CFG_PAIR_EN then s else
  let r := s.hallPass pairPort lanePort 7
    (pairEth (Config.moduleMac (s.rd F.SYSCTL_MID_MID)) (Config.moduleMac (s.rd F.PAIR_CFG_PARTNER_MID)) len)
  if r.1 && crcOk then eff r.2 else r.2

/-- The primary sends its agreed input image and its median boundary in T (R146). -/
def State.sendImg (s : State) (agreed : Option Agreed) (boundary : Nat) : State :=
  match agreed with
  | some g =>
    if s.flag F.PAIR_CFG_PAIR_EN ∧ s.pair.state = .primary then
      s.sendPair (.img s.cycleNo ⟨g.img.din, g.img.ain, g.img.tiles, g.img.vin⟩ (s.tOf boundary))
    else s
  | none => s

/-- The PAIR_STAT frame of a cycle (R138, R146). -/
def State.sendStat (s : State) : State :=
  s.sendPair (.stat s.cycleNo s.pair.state s.lane.vote s.ownHash s.ownDigest (s.flag F.PAIR_STAT_IN_STEP))

/-! ### Pair states -/

/-- The module enters DETACHED with a cause (*Table: Pair states*). -/
def State.detach (s : State) (cause : DetachCause) : State :=
  let s := { s with pair := { s.pair with
      state := .detached, claim := false, detachedAt := s.now, missRun := 0, disRun := 0, syncRun := 0, inStepAt := none,
      xferUntil := none, xferAsked := none, copyFinal := false } }
  ((s.wr F.PAIR_STAT_DETACH_CAUSE cause.code).clrF F.PAIR_STAT_IN_STEP).pairRecord 0x03 5

/-- A detach cause in the states it acts on: STANDBY takes the cause, SYNCING ends as a resync aborted. -/
def State.detachFor (s : State) (cause : DetachCause) : State :=
  match s.pair.state with
  | .standby => s.detach cause
  | .syncing => s.detach .abort
  | .alone | .seek | .primary | .detached => s

/-- A resync begins (R145, R151): the standby takes the primary's cycle number. -/
def State.beginResync (s : State) : State :=
  let s := { s with pair := { s.pair with
      state := .syncing, claim := false, copyFinal := false, agreeRun := 0, syncCyc := 0, missRun := 0, disRun := 0,
      syncRun := 0, img := none, targetT := none, out := none, outSign := none, region := [] } }
  s.wr F.LANEIF_CYCLE_CNT_CYCLE s.pair.partnerCyc

/-- The conditions of R151 for a resync out of DETACHED. -/
def State.mayResync (s : State) : Bool :=
  s.pair.state == .detached && s.pair.partner == some .primary && s.pair.partnerHash == s.ownHash &&
    s.pair.partnerDigest == s.ownDigest

/-- The preferred module arms its claim in SEEK once in RUN and vital-armed (*Table: Pair states*). -/
def State.pairClaims (s : State) : State :=
  if s.pair.state = .seek ∧ s.flag F.PAIR_CFG_PREFERRED ∧ s.cyc.mode = .run ∧ s.lane.armed then
    { s with pair := { s.pair with claim := true } }
  else s

/-- The module enters SEEK. -/
def State.toSeek (s : State) : State :=
  { s with pair := { s.pair with state := .seek, claim := false, seekAt := s.now, heardEver := false, inStepAt := none } }

/-! ### The loop -/

/-- The rows of *Table: AUTH loop conditions* (R141). -/
inductive LoopCond where | held | short | opened | degraded | quiet | inbound
  deriving DecidableEq, Repr

/-- The classification of a reading: voltage in mV, current in µA, outbound positive (R141). -/
def loopCond (on : Bool) (v : Nat) (i : Int) : LoopCond :=
  if on then
    if v < 1500 then .short
    else if 12000 ≤ v then .opened
    else if 2400 ≤ v ∧ v < 6000 ∧ 6000 ≤ i then .held
    else .degraded
  else if i.natAbs < 1000 then .quiet
  else if i ≤ -6000 then .inbound
  else .degraded

/-- LOOP_V and LOOP_I show a reading. -/
def State.showLoop (s : State) (v : Nat) (i : Int) : State :=
  (s.wr F.PAIR_LOOP_LOOP_V (min 4095 (v / 10))).wr F.PAIR_LOOP_LOOP_I (min 4095 (i.natAbs / 10))

/-- Can the module claim (R155): neither DETACHED nor SYNCING? -/
def State.mayClaim (s : State) : Bool := s.pair.state != .detached && s.pair.state != .syncing

/-- AUTH_HELD_GRANTED (R141, R154, R155): the held condition has held for 10 µs. -/
def execAuthHeldGranted (t : Nat) (vmV : Nat) (cur : Int) (s : State) : Host.Outcome State Fault Refusal :=
  let s := s.tick t
  .next <|
    if s.flag F.PAIR_CFG_PAIR_EN ∧ s.mayClaim ∧ loopCond s.pair.source vmV cur = .held ∧ !s.pair.held then
      let s := (s.showLoop vmV cur).wr64 F.PAIR_GAIN_T s.tNow
      let s := { s with pair := { s.pair with
          held := true, state := .primary, gained := some s.pair.quietX, xferUntil := none, xferAsked := none,
          inStepAt := none, missRun := 0, disRun := 0, syncRun := 0, preSent := 0, preMark := 0, preFixed := false } }
      s.pairRecord 0x01 6
    else s

/-- AUTH_HELD_LOST (R141, *Table: Pair states*): any part of the held condition has failed. -/
def execAuthHeldLost (t : Nat) (vmV : Nat) (cur : Int) (s : State) : Host.Outcome State Fault Refusal :=
  let s := s.tick t
  .next <|
    if s.pair.held ∧ loopCond s.pair.source vmV cur ≠ .held then
      let s := ((s.showLoop vmV cur).wr64 F.PAIR_LOSS_T s.tNow)
      let s := { s with pair := { s.pair with held := false, gained := none } }
      if s.pair.state = .primary then (s.pairRecord 0x02 6).toSeek.pairClaims else s
    else s

/-- LOOP_FAULT (R141): SHORT and OPEN at once, DEGRADED where the reading has held for 10 µs. -/
def execLoopFault (t : Nat) (vmV : Nat) (cur : Int) (s : State) : Host.Outcome State Fault Refusal :=
  let s := s.tick t
  .next <|
    let c := loopCond s.pair.source vmV cur
    let s := s.showLoop vmV cur
    match c with
    | .short => s.raise F.PAIR_LOOP_SHORT
    | .opened => s.raise F.PAIR_LOOP_OPEN
    | .degraded => s.raise F.PAIR_LOOP_DEGRADED
    | .held | .quiet | .inbound => s

/-- A quiet spell opens now (R142); TRANSFER_QUIET applies to it during a planned transfer (R156). -/
def State.openQuiet (s : State) : State :=
  { s with pair := { s.pair with quiet := some s.now, quietX := s.pair.xferUntil.isSome, noHolder := false } }

/-- LOOP_QUIET_CHANGE (R142, R143). -/
def execLoopQuietChange (t : Nat) (cur : Int) (s : State) : Host.Outcome State Fault Refusal :=
  let s := s.tick t
  .next <| if s.pair.source then s else
    let c := loopCond false 0 cur
    let s := s.wr F.PAIR_LOOP_INBOUND (bit (c = LoopCond.inbound))
    if c = .quiet then
      let s := { s with pair := { s.pair with loopQuiet := true } }
      if s.pair.quiet.isNone ∧ s.pair.backoff.isNone then s.openQuiet else s
    else { s with pair := { s.pair with loopQuiet := false, quiet := none, noHolder := false } }

/-- The length of quiet that lets the source turn on (R142, R156). -/
def State.quietLen (s : State) : Nat :=
  if s.pair.quietX then s.rd F.PAIR_CFG2_TRANSFER_QUIET * 1000 else s.rd F.PAIR_CFG_CLAIM_QUIET * 500000

/-- CLAIM_QUIET_EXPIRY (R142). -/
def execClaimQuietExpiry (t : Nat) (s : State) : Host.Outcome State Fault Refusal :=
  let s := s.tick t
  .next <| match s.pair.quiet with
    | some q =>
      if s.mayClaim ∧ s.authGate ∧ !s.pair.source ∧ s.closed q s.quietLen then
        { s with pair := { s.pair with source := true, sourceAt := s.now, quiet := none, loopQuiet := false } }
      else s
    | none => s

/-- CLAIM_CONFLICT (R143). -/
def execClaimConflict (t : Nat) (s : State) : Host.Outcome State Fault Refusal :=
  let s := s.tick t
  .next <|
    if s.pair.source ∧ !s.pair.held ∧ s.closed s.pair.sourceAt (ms 1) then
      let wait := if s.flag F.PAIR_CFG_PREFERRED then ms 5 else ms 50
      let s := { s with pair := { s.pair with source := false, quiet := none, backoff := some (s.now + wait) } }
      (s.raise F.PAIR_LOOP_CONFLICT).inc F.PAIR_TIE_CNT_TIES
    else s

/-- BACKOFF_EXPIRY (R143). -/
def execBackoffExpiry (t : Nat) (s : State) : Host.Outcome State Fault Refusal :=
  let s := s.tick t
  .next <| match s.pair.backoff with
    | some e =>
      if e ≤ s.now then
        let s := { s with pair := { s.pair with backoff := none } }
        if s.pair.loopQuiet ∧ !s.pair.source then s.openQuiet else s
      else s
    | none => s

/-- PARTNER_WAIT_EXPIRY (*Table: Pair states*). -/
def execPartnerWaitExpiry (t : Nat) (s : State) : Host.Outcome State Fault Refusal :=
  let s := s.tick t
  .next <|
    if s.pair.state = .seek ∧ !s.flag F.PAIR_CFG_PREFERRED ∧ !s.pair.heardEver ∧ !s.pair.claim ∧
        s.closed s.pair.seekAt (ms (100 * s.rd F.PAIR_CFG2_PARTNER_WAIT)) then
      ({ s with pair := { s.pair with claim := true } }).pairRecord 0x06 5
    else s

/-- RESYNC_TIMER (R151). -/
def execResyncTimer (t : Nat) (s : State) : Host.Outcome State Fault Refusal :=
  let s := s.tick t
  .next (if s.mayResync ∧ s.closed s.pair.detachedAt (secs 10) then s.beginResync else s)

/-- RESYNC (R151). -/
def execPairResync (t : Nat) (a : Attr) (s : State) : Host.Outcome State Fault Refusal :=
  let s := s.tick t
  .next (s.guarded a 0x40380004 true true fun s => if s.mayResync then s.beginResync else s)

/-- NO_HOLDER_TIMEOUT (R155). -/
def execNoHolderTimeout (t : Nat) (s : State) : Host.Outcome State Fault Refusal :=
  let s := s.tick t
  .next <| match s.pair.quiet with
    | some q =>
      if s.flag F.PAIR_CFG_PAIR_EN ∧ s.pair.partner ≠ some .primary ∧ s.pair.state ≠ .primary ∧ !s.pair.noHolder ∧
          s.closed q (secs 1) then
        ({ s with pair := { s.pair with noHolder := true } }).pairRecord 0x05 6
      else s
    | none => s

/-! ### Transfers -/

/-- The primary's conditions for a planned transfer (R156). -/
def State.mayTransfer (s : State) : Bool :=
  s.pair.state == .primary && s.pair.partner == some .standby && s.pair.partnerInStep && s.cyc.mode == .run &&
    s.cyc.oc != .loaded && s.cyc.oc != .armed

/-- A transfer asked of the primary (R156): accepted for a switch cycle 8 cycles ahead, or refused with a record. The answer
goes to the partner where the partner asked. -/
def State.answerTransfer (s : State) (asked : Bool) : State :=
  if s.mayTransfer then
    let n := (s.cycleNo + 8) % 2 ^ 32
    ({ s with pair := { s.pair with xfer := some n } }).sendPair (.xfer s.cycleNo (some (some n)))
  else
    let s := s.pairRecord 0x04 4
    if asked then s.sendPair (.xfer s.cycleNo (some none)) else s

/-- The standby asks the primary for authority (R156, R157). -/
def State.askTransfer (s : State) : State :=
  ({ s with pair := { s.pair with xferAsked := some s.now } }).sendPair (.xfer s.cycleNo none)

/-- TRANSFER (R156). -/
def execPairTransfer (t : Nat) (a : Attr) (s : State) : Host.Outcome State Fault Refusal :=
  let s := s.tick t
  .next (s.guarded a 0x40380004 true true fun s =>
    if s.pair.state = .standby then s.askTransfer else s.answerTransfer false)

/-- PAIR_XFER_RX (R156, R157): a request; an acknowledgement that names the switch cycle; or a refusal, which sets t0 of R157.
DESIGN CHOICE (log entry 86): a refusal is an acknowledgement that names no cycle; the spec gives it no frame of its own. -/
def execPairXferRx (t : Nat) (crcOk : Bool) (cyc : Nat) (ack : Option (Option Nat)) (s : State) :
    Host.Outcome State Fault Refusal :=
  let s := s.tick t
  .next <| s.pairTakes crcOk 64 fun s =>
    let s := { s with pair := { s.pair with partnerCyc := cyc } }
    match ack with
    | none => if s.pair.state = .primary then s.answerTransfer true else s
    | some (some n) =>
      if s.pair.state = .standby then
        { s with pair := { s.pair with xferUntil := some ((n + 2) % 2 ^ 32), xferAsked := none } }
      else s
    | some none =>
      if s.pair.xferAsked.isNone then s
      else { s with pair := { s.pair with xferAsked := none, inStepAt := s.pair.inStepAt.map fun _ => s.now } }

/-- REVERT_HOLD_EXPIRY (R157): the preferred standby requests a transfer, once until it is answered. -/
def execRevertHoldExpiry (t : Nat) (s : State) : Host.Outcome State Fault Refusal :=
  let s := s.tick t
  .next <| match s.pair.inStepAt with
    | some t0 =>
      if s.pair.state = .standby ∧ s.flag F.PAIR_CFG_PREFERRED ∧ s.rd F.PAIR_CFG2_REVERT_HOLD ≠ 0 ∧
          s.pair.xferAsked.isNone ∧ s.closed t0 (secs (s.rd F.PAIR_CFG2_REVERT_HOLD)) then s.askTransfer
      else s
    | none => s

/-! ### Frames received -/

/-- PAIR_IMG_RX (R145, R147): the image is held for the own swap of its cycle, and the primary's median boundary is the target
that the standby's lanes steer towards. -/
def execPairImgRx (t : Nat) (crcOk : Bool) (cyc : Nat) (img : Agreed0) (boundaryT : Nat) (s : State) :
    Host.Outcome State Fault Refusal :=
  let s := s.tick t
  .next <| s.pairTakes crcOk (PairFrame.img cyc img boundaryT).len fun s =>
    if s.pair.state = .standby ∨ s.pair.state = .syncing then
      { s with pair := { s.pair with img := some (cyc, img), targetT := some boundaryT, partnerCyc := cyc } }
    else s

/-- The images of two modules agree bit for bit (R149). -/
def sameOutput (o : OutImage) (p : Output0) : Bool :=
  o.cmd == p.cmd && o.permit == p.permit && o.sign == p.sign && o.vout == p.vout

/-- The module's own voted output image of the present cycle, once the lanes have compared theirs: the one that two ACTIVE lanes
sent, or that of the only one (R149). -/
def State.ownOutput (s : State) : Option OutImage :=
  let os := s.actives.filterMap fun l => match (s.ln l).sent with
    | some (.image o) => some o
    | _ => none
  if !s.lane.compared then none
  else match os with
    | [o] => some o
    | _ => os.find? fun o => decide (2 ≤ (os.filter fun q => q == o).length)

/-- The standby compares its output image with the PAIR_OUT of the same cycle (R149, R151, R152); a cycle without PAIR_IMG
is not compared (R148). The primary's program hash is that of its last PAIR_STAT. -/
def State.pairCompare (s : State) : State :=
  match s.pair.out, s.ownOutput with
  | some (cyc, out), some o =>
    if cyc ≠ s.cycleNo ∨ !s.flag F.PAIR_STAT_IMG_SRC then s else
    let s := { s with pair := { s.pair with out := none } }
    if s.pair.heardEver ∧ s.pair.partnerHash ≠ s.ownHash then s.detachFor .hash
    else if sameOutput o out then
      let s := { s with pair := { s.pair with disRun := 0 } }
      if s.pair.state = .syncing ∧ s.pair.copyFinal then
        if s.pair.agreeRun + 1 = 16 then
          { s with pair := { s.pair with agreeRun := 16, state := .standby, claim := true } }
        else { s with pair := { s.pair with agreeRun := s.pair.agreeRun + 1 } }
      else s
    else
      let s := s.inc F.PAIR_CNT_DISAGREE
      if s.pair.state = .syncing then (if s.pair.copyFinal then s.detach .abort else s)
      else if s.pair.disRun + 1 = 2 then s.detachFor .disagree
      else { s with pair := { s.pair with disRun := s.pair.disRun + 1 } }
  | _, _ => s

/-- PAIR_OUT_RX (R149): it also brings the primary's state signature (R146). -/
def execPairOutRx (t : Nat) (crcOk : Bool) (cyc : Nat) (out : Output0) (s : State) : Host.Outcome State Fault Refusal :=
  let s := s.tick t
  .next <| s.pairTakes crcOk (34 + 7 + 2048) fun s =>
    if s.pair.state = .standby ∨ s.pair.state = .syncing then
      ({ s with pair := { s.pair with out := some (cyc, out), outSign := some (cyc, out.sign) } }).pairCompare
    else s

/-- A new resync of the partner starts the primary's pre-copy afresh (R151). -/
def State.partnerIs (s : State) (p : Option PairState) : State :=
  if p = some .syncing ∧ s.pair.partner ≠ some .syncing then
    { s with pair := { s.pair with partner := p, preSent := 0, preMark := 0, preFixed := false } }
  else { s with pair := { s.pair with partner := p } }

/-- PAIR_STAT_RX (R138, R146, *Table: Pair states*). -/
def execPairStatRx (t : Nat) (crcOk : Bool) (cyc : Nat) (pst vote : Nat) (hash digest : Nat) (inStep : Bool) (s : State) :
    Host.Outcome State Fault Refusal :=
  let s := s.tick t
  .next <| s.pairTakes (crcOk && decide (vote < 4)) 100 fun s =>
    let s := s.partnerIs (PairState.ofCode pst)
    let s := { s with pair := { s.pair with
        partnerHash := hash, partnerDigest := digest, partnerInStep := inStep,
        partnerCyc := cyc, heard := true, heardEver := true } }
    if s.pair.state = .seek then
      if digest ≠ s.ownDigest then (if s.flag F.PAIR_CFG_PREFERRED then s else s.detach .cfg)
      else if s.pair.partner = some .primary ∧ hash = s.ownHash then s.beginResync
      else s
    else s

/-- The bytes of the carried region that a resync has assembled. -/
def State.regionSoFar (s : State) (size : Nat) : List Nat :=
  (List.range size).map fun o => (s.pair.region.getD [] (o / 256)).getD (o % 256) 0

/-- PAIR_COPY_RX (R151): blocks of the carried region. With the final copy the standby's lanes compute the state signature over
what is assembled, and it must equal the one that the primary sent for the same cycle. -/
def execPairCopyRx (t : Nat) (crcOk : Bool) (cyc : Nat) (c : PairCopy) (s : State) : Host.Outcome State Fault Refusal :=
  let s := s.tick t
  .next <| s.pairTakes crcOk (PairFrame.copy cyc c).len fun s =>
    if s.pair.state ≠ .syncing then s else
    let s := { s with pair := { s.pair with
        partnerCyc := cyc, region := c.blocks.foldl (fun (m : Tbl (List Nat)) (b : Nat × List Nat) => m.insert b.1 b.2) s.pair.region } }
    match c.final, s.cyc.act with
    | true, some p =>
      let bytes := s.regionSoFar p.carriedSize
      if s.pair.outSign = some (cyc, crc32 bytes) then
        let s := s.modLanes laneIds fun x => x.takeRegion p bytes
        { s with pair := { s.pair with copyFinal := true, agreeRun := 0, region := [] } }
      else s.detach .abort
    | _, _ => s

/-! ### The primary's side of a resync (R151) -/

/-- A block of the carried region in lane `l`. -/
def State.carriedBlock (s : State) (l : LaneId) (p : Program) (b : Nat) : Nat × List Nat :=
  (b, slice (regionBytes p (s.ln l) (fun d => d.carried) p.carriedSize) (256 * b) 256)

/-- The number of blocks of the carried region. -/
def blocksIn (p : Program) : Nat := ceilDiv p.carriedSize 256

/-- At the close of the execute window the primary has sent the next blocks of the pre-copy, at up to 25 MB/s. DEDUCED (log entry
88): a block is sent once its last byte is due, with what it holds at that close; a later write marks it. -/
def State.pairSendBlocks (s : State) (l : LaneId) (p : Program) : State :=
  if !s.mirrors then s else
  let n := min p.carriedSize (s.pairCopied l)
  let done (k : Nat) : Nat := if k = p.carriedSize then blocksIn p else k / 256
  let new' := (List.range (done n - done s.pair.preSent)).map fun k => done s.pair.preSent + k
  let s := { s with pair := { s.pair with preSent := n } }
  if new'.isEmpty then s else s.sendPair (.copy s.cycleNo ⟨new'.map (s.carriedBlock l p), false⟩)

/-- At the end of the execute at which all has been sent and at most 32 blocks are marked, the marked set is frozen. -/
def State.pairFreeze (s : State) (l : LaneId) (p : Program) : State :=
  if s.mirrors ∧ p.carriedSize ≤ s.pairCopied l ∧ ((List.range 256).filter fun k => s.pair.preMark.testBit k).length ≤ 32 then
    { s with pair := { s.pair with preFixed := true } }
  else s

/-- At the command update of the cycle whose marked set was frozen the final copy is sent. -/
def State.pairFinal (s : State) (l : LaneId) : State :=
  match s.cyc.act with
  | some p =>
    if s.mirrors ∧ s.pair.preFixed ∧ s.lane.compared then
      let bs := (List.range (blocksIn p)).filter fun k => s.pair.preMark.testBit k
      let s := { s with pair := { s.pair with preFixed := false, preMark := 0 } }
      s.sendPair (.copy s.cycleNo ⟨bs.map (s.carriedBlock l p), true⟩)
    else s
  | none => s

/-! ### The pair at the cycle's instants -/

/-- At the own swap of cycle n: the partner's image is taken, or missed (R147, R148); the bounds of a resync (R151) and
of a transfer (R156); and the PAIR_STAT of the cycle is sent (R146). A partner from which no PAIR_STAT came in the last cycle is
not known to be in any state. In HOLD a resync goes on uncounted (R104). -/
def State.pairSwap (s : State) : State :=
  if !s.flag F.PAIR_CFG_PAIR_EN then s else
  let n := s.cycleNo
  let s : State := s.wr F.PAIR_STAT_PARTNER_SEEN (bit s.pair.heard)
  let s : State := if s.pair.heard then s else s.partnerIs none
  let s : State := { s with pair := { s.pair with heard := false, sends := [] } }
  let s : State := if s.pair.xferUntil = some n then { s with pair := { s.pair with xferUntil := none } } else s
  let s : State := match s.pair.xfer with
    | some m =>
      if s.pair.state = .standby ∧ m ≠ n then { s with pair := { s.pair with xfer := none, claim := true } }
      else if s.pair.state = .primary ∧ s.cyc.mode ≠ .run then { s with pair := { s.pair with xfer := none } }
      else s
    | none => s
  let s : State := match s.pair.state with
    | .standby | .syncing =>
      let have' := match s.pair.img with
        | some (c, _) => c == n
        | none => false
      let s : State := s.wr F.PAIR_STAT_IMG_SRC (bit have')
      let s : State := if have' then { s with pair := { s.pair with missRun := 0 } }
        else { (s.inc F.PAIR_CNT_IMG_MISSING) with pair := { s.pair with missRun := s.pair.missRun + 1 } }
      let s : State := if 2 ≤ s.pair.missRun then s.detachFor .link else s
      if s.pair.state = .syncing then
        let s : State := if s.cyc.mode = .run then { s with pair := { s.pair with syncCyc := s.pair.syncCyc + 1 } } else s
        if (64 < s.pair.syncCyc ∧ !s.pair.copyFinal) ∨ s.actives.length < 2 ∨ (s.cyc.mode ≠ .run ∧ s.cyc.mode ≠ .hold) then
          s.detach .abort
        else s
      else s
    | .alone | .seek | .primary | .detached => s.clrF F.PAIR_STAT_IMG_SRC
  s.sendStat

/-- The standby's boundary error at its reference boundary `r`, in ns (R145): from the primary's median boundary + PAIR_OFFSET,
in T, to the nearest of the instants a whole number of periods from it; none before a PAIR_IMG. -/
def State.pairError (s : State) (r : Int) : Option Int :=
  if s.pair.state = .standby ∨ s.pair.state = .syncing then
    s.pair.targetT.map fun b =>
      let p : Int := max 1 s.period
      let e : Int := (s.tOf r.toNat : Int) - (b + 10000 * s.rd F.PAIR_CFG_PAIR_OFFSET)
      (e + p / 2) % p - p / 2
  else none

/-- The standby at its reference boundary: OFFSET_ERR, in step or not, and the detaching of R145. -/
def State.pairSteer (s : State) (err : Option Int) : State :=
  match err with
  | none => s
  | some err =>
    let inStep := decide (err.natAbs ≤ 20000)
    let s := (s.wr F.PAIR_STAT_OFFSET_ERR (ofSigned 16 (satInt (err / 100) (-32768) 32767))).wr F.PAIR_STAT_IN_STEP
      (bit inStep)
    let run := if 50000 < err.natAbs then s.pair.syncRun + 1 else 0
    let t0 := if s.pair.state = .standby ∧ inStep ∧ s.lane.vote = .v2oo3 then some (s.pair.inStepAt.getD s.now) else none
    let s := { s with pair := { s.pair with syncRun := run, inStepAt := t0 } }
    if 8 ≤ run then s.detachFor .sync else s

/-- Has cycle n been reached (both numbers wrap)? -/
def reached (cyc n : Nat) : Bool := decide ((cyc + 2 ^ 32 - n) % 2 ^ 32 < 2 ^ 31)

/-- The primary's voted output image goes to the partner (R146). -/
def State.sendOut (s : State) : State :=
  match s.ownOutput with
  | some o => if s.pair.state = .primary then s.sendPair (.out s.cycleNo o) else s
  | none => s

/-- At the first command update of a cycle: a takeover is complete (R153), a planned transfer too; the primary sends PAIR_OUT and
a resync's final copy; and at the update of the switch cycle it drops AUTH_REQ and becomes STANDBY (R156). DESIGN CHOICE (log
entry 85): where no line may change at that update (an overrun cycle), the transfer waits for the next one, and it lapses where the
mode leaves RUN. -/
def State.pairUpdate (s : State) : State :=
  let s := match s.pair.gained with
    | some planned =>
      (if planned then s.inc F.PAIR_CNT_TRANSFERS else s.inc F.PAIR_CNT_TAKEOVERS)
    | none => s
  let s := { s with pair := { s.pair with gained := none } }
  let s := s.sendOut
  let s := match s.actives with
    | l :: _ => s.pairFinal l
    | [] => s
  let due : Bool := match s.pair.xfer with
    | some n => reached s.cycleNo n
    | none => false
  if s.pair.state = .primary ∧ due ∧ s.cyc.mode = .run ∧ s.cyc.expected ∧ !s.lane.overrun then
    ({ s with pair := { s.pair with state := .standby, claim := false, xfer := some s.cycleNo } }.setF
      F.PAIR_STAT_IN_STEP).inc F.PAIR_CNT_TRANSFERS
  else s.pairClaims

/-- PAIR_EN has changed at a setup APPLY (R136, R432): without a pair the module is ALONE, with one it begins in SEEK. -/
def State.pairReload (s : State) (was : Bool) : State :=
  let on := s.flag F.PAIR_CFG_PAIR_EN
  if was = on then s
  else if on then s.toSeek
  else { s with pair := { s.pair with state := .alone, claim := false, xfer := none, xferAsked := none, inStepAt := none } }

end Sys2Proof.Machine
end

