-- ==== Sys2Proof/Machine/Cyclic.lean ====
section
/-! DEFINITION. The program modes, the commands of CYCMGR and the maintenance tokens (*Cyclic programs on the lanes*, R105,
R106, R114, R115, R117 to R122, R125, R126, R133 to R135). -/

namespace Sys2Proof.Machine

/-- The code of a command (CYCMGR_CMD.CMD). -/
def CycCmd.code : CycCmd → Nat
  | .run => 1 | .runCold => 2 | .stop => 3 | .hold => 4 | .step => 5 | .resume => 6
  | .ocArm => 7 | .ocCancel => 8 | .tokenLoad _ => 9 | .tokenRevoke => 10 | .forceCommit => 11

/-- A command and its result: the state it leaves and its CMD_RESULT. -/
abbrev CmdDone := State × Nat

/-- The three lanes report equal hashes of a loaded program (R117). -/
def State.hashesEqual (s : State) : Bool :=
  match s.cyc.act with
  | none => false
  | some p => laneIds.all fun l => (s.ln l).bankHash == some p.hash

/-- RUN and RUN_COLD (*Table: Program modes*). -/
def State.doRun (s : State) (cold : Bool) : CmdDone :=
  match s.cyc.mode, s.cyc.act with
  | .stop, some p => if s.hashesEqual then (s.restart cold p, 0) else (s, 4)
  | .stop, none => (s, 4)
  | .safe, some p => (s.restart cold p, 0)
  | .safe, none => (s, 4)
  | .run, _ | .hold, _ | .starting, _ => (s, 1)

/-- The program mode becomes STOP: the cancelled online change (R126) and the aborted attempt (R104). DESIGN CHOICE (log entry
81): the lanes discard queued images and backlog, as R112 says for SAFE alone. -/
def State.toStop (s : State) : State :=
  let s := { s with
    lane := { s.lane with armed := false }
    cyc := { s.cyc with mode := .stop, restart := none } }
  (((s.dropWork.cancelOc).abortAttempt 7).clrF F.CYCMGR_STAT_HOLD_ARMED).fixPins

/-- STOP: the lanes seal on entry (R120). -/
def State.doStop (s : State) : CmdDone :=
  match s.cyc.mode with
  | .run | .hold | .safe => (s.sealAll.toStop, 0)
  | .stop | .starting => (s, 1)

/-- The right HOLD_ARMED of the active token. -/
def State.mayHoldArmed (s : State) : Bool :=
  match s.cyc.token with
  | some k => k.rights.testBit 0
  | none => false

/-- HOLD. -/
def State.doHold (s : State) : CmdDone :=
  match s.cyc.mode with
  | .run =>
    if s.lane.armed ∧ !s.mayHoldArmed then (s, 2)
    else
      let armed := s.lane.armed
      let s := { s with
        lane := { s.lane with armed := false }
        cyc := { s.cyc with mode := .hold } }
      let s := s.cancelOc.wr F.CYCMGR_STAT_HOLD_ARMED (bit armed)
      (if armed then s.progRecord 0x01 6 0 [] else s, 0)
  | .stop | .hold | .safe | .starting => (s, 1)

/-- STEP. -/
def State.doStep (s : State) : CmdDone :=
  if s.cyc.mode = .hold then ({ s with cyc := { s.cyc with stepDue := true } }, 0) else (s, 1)

/-- RESUME. -/
def State.doResume (s : State) : CmdDone :=
  if s.cyc.mode = .hold then
    (({ s with cyc := { s.cyc with mode := .run } }).clrF F.CYCMGR_STAT_HOLD_ARMED, 0)
  else (s, 1)

/-- OC_ARM (R125). DESIGN CHOICE (log entry 82): with no image that waits to be armed the result is 0x4, and an ARMED change is
armed anew for the cycle now named; the spec names neither case. -/
def State.doOcArm (s : State) : CmdDone :=
  let ahead := (s.rd F.CYCMGR_OC_CYCLE_CYCLE + 2 ^ 32 - s.cycleNo) % 2 ^ 32
  if laneIds.any (fun l => (s.ln l).state != .active && (s.ln l).state != .starting) then (s, 3)
  else if ahead < 4 ∨ 1048576 < ahead then (s, 5)
  else if s.cyc.mode ≠ .run then (s, 1)
  else match s.cyc.oc, s.cyc.inact with
    | .loaded, some _ | .cancelled, some _ | .armed, some _ =>
      ({ s with cyc := { s.cyc with oc := .armed, ocCyc := s.rd F.CYCMGR_OC_CYCLE_CYCLE } }, 0)
    | _, _ => (s, 4)

/-- OC_CANCEL (R126). -/
def State.doOcCancel (s : State) : CmdDone := (s.cancelOc, 0)

/-- The byte of the token window at offset `i`. -/
def State.tokenByte (s : State) (i : Nat) : Nat := s.rd (F.CYCMGR_TOKEN_DATA (i / 4)) / 256 ^ (i % 4) % 256

/-- Bytes `lo` to `lo + n − 1` of the token window. -/
def State.tokenBytes (s : State) (lo n : Nat) : List Nat := (List.range n).map fun i => s.tokenByte (lo + i)

/-- The token in the window (*Table: Maintenance token*), with the Attic's verdict on its signatures under the key of its slot;
none where VERSION is not 0x0001. -/
def State.tokenInWindow (s : State) : Option Token :=
  let num (lo n : Nat) : Nat := leNum (s.tokenBytes lo n)
  if num 0 2 ≠ 1 then none
  else
    let slot := s.tokenByte 5
    some { mid := num 2 2 % 2 ^ 14, rights := s.tokenByte 4, keySlot := slot
           progHash := leNum (s.tokenBytes 8 32).reverse, notBefore := num 40 8, notAfter := num 48 8, nonce := num 56 16
           sigOk := match s.keyOf slot with
             | some k => Config.sigsOk k.material (s.tokenBytes 0 72) (s.tokenBytes 72 3405)
             | none => false }

/-- LAST_REFUSE of a token at the present instant, 0 where it is accepted (R133, R134). -/
def State.tokenRefuse (s : State) (k : Token) : Nat :=
  if !k.sigOk || !s.slotFits k.keySlot tokenFit then 1
  else if k.mid ≠ s.rd F.SYSCTL_MID_MID then 2
  else if k.progHash ≠ s.ownHash then 3
  else if k.notBefore + 8 * 3600 * 1000000000 < k.notAfter then 6
  else if !s.synced then 5
  else if !inWindow k.notBefore k.notAfter s.tNow then 4
  else if s.cyc.nonces.contains k.nonce then 7
  else if s.cyc.noncesLost && (match s.cyc.refInst with
      | some r => decide (k.notBefore < r)
      | none => true) then 7
  else 0

/-- TOKEN_LOAD (R133, R134): an accepted token replaces the one before it; its lifetime is fixed on FRC. A vital force that
the token before it let apply goes on where the new one has the right too, and ends where it has not (R131, log entry 31).
DESIGN CHOICE (log entry 92): what is no token of VERSION 0x0001 is refused with the reason of a bad signature. -/
def State.doTokenLoad (s : State) : Option Token → CmdDone
  | none => (s.wr F.CYCMGR_TOKEN_STAT_LAST_REFUSE 1, 7)
  | some k =>
  let why := s.tokenRefuse k
  let s := s.wr F.CYCMGR_TOKEN_STAT_LAST_REFUSE why
  if why = 0 then
    let s := { s with cyc := { s.cyc with
        token := some k, tokenOff := false, tokenEnd := s.now + (k.notAfter - s.tNow),
        nonces := k.nonce :: s.cyc.nonces.take 63 } }
    let s := (s.wr F.CYCMGR_TOKEN_STAT_RIGHTS (k.rights % 4)).wr64 F.CYCMGR_TOKEN_EXP_NOT_AFTER k.notAfter
    (if k.rights.testBit 1 then s.tokenForces else s.endVitalForces, 0)
  else (s, 7)

/-- One queued command acts (R115). RUN and RUN_COLD are refused while a SETUP APPLY runs, whenever they were captured
(R432). -/
def State.cycAct (s : State) : CycCmd → CmdDone
  | .run => if s.setup.applying then (s, 1) else s.doRun false
  | .runCold => if s.setup.applying then (s, 1) else s.doRun true
  | .stop => s.doStop
  | .hold => s.doHold
  | .step => s.doStep
  | .resume => s.doResume
  | .ocArm => s.doOcArm
  | .ocCancel => s.doOcCancel
  | .tokenLoad k => s.doTokenLoad k
  | .tokenRevoke => (s.endToken, 0)
  | .forceCommit => (s.commitForces, 0)

/-- CMD_RESULT and LAST_CMD (R115). -/
def State.cycResult (s : State) (code result : Nat) : State :=
  (s.wr F.CYCMGR_STAT_CMD_RESULT result).wr F.CYCMGR_STAT_LAST_CMD code

/-- The log byte at place k (CYCMGR_CMD_LOG). -/
def cmdLogFld (k : Nat) : Fld := { F.CYCMGR_CMD_LOG_ENTRY0 with lo := 8 * k }

/-- The commands of one acting cycle, in the order of capture, with the log from place k on (R115). -/
def State.cycRun (s : State) (k : Nat) : List CycCmd → State
  | [] => s
  | c :: rest =>
    let r := s.cycAct c
    let s := r.1.cycResult c.code r.2
    let s := if k < 4 then s.wr (cmdLogFld k) (0x80 + 8 * c.code + r.2) else s
    s.cycRun (k + 1) rest

/-- At the swap that opens a cycle: the token's end as the lanes see it (R134), then the commands captured before the
swap (R114, R115), a RUN of AUTOSTART before them at the first swap (R117). DESIGN CHOICE (log entry 83): the RUN of AUTOSTART
takes no place of the queue, so with four commands queued five act, and the fifth has no byte of the log. -/
def State.cycSwap (s : State) (first : Bool) : State :=
  let s := match s.cyc.token with
    | some _ => if s.cyc.tokenOff ∨ s.cyc.tokenEnd ≤ s.now then s.endToken else s
    | none => s
  let due := s.cyc.cmds.filter fun c => decide (c.1 < s.now)
  let cmds := (if first ∧ s.flag F.CYCMGR_CFG_AUTOSTART then [CycCmd.run] else []) ++ due.map (·.2)
  let s := { s with cyc := { s.cyc with
      cmds := s.cyc.cmds.filter (fun c => !decide (c.1 < s.now)), stepDue := false } }
  let s := if cmds.isEmpty then s
    else ([0, 1, 2, 3].foldl (fun s k => s.wr (cmdLogFld k) 0) s).cycRun 0 cmds
  { s with cyc := { s.cyc with expected := s.cyc.mode == .run || s.cyc.stepDue } }

/-- A command written to CYCMGR_CMD (R114, R115): queued, or refused at once with 0x6 while four are queued; RUN and
RUN_COLD are refused while a SETUP APPLY runs (R432). -/
def State.cycWrite (s : State) (a : Attr) (c : CycCmd) : State :=
  s.guarded a 0x40300004 true true fun s =>
    if 4 ≤ s.cyc.cmds.length then s.cycResult c.code 6
    else if (c = .run ∨ c = .runCold) ∧ s.flag F.SETUP_STAT_BUSY ∧ s.setup.applying then s.cycResult c.code 1
    else { s with cyc := { s.cyc with cmds := s.cyc.cmds ++ [(s.now, c)] } }

/-- RUN (R117). -/
def execCycRun (t : Nat) (a : Attr) (s : State) : Host.Outcome State Fault Refusal := .next ((s.tick t).cycWrite a .run)

/-- RUN_COLD (R117). -/
def execCycRunCold (t : Nat) (a : Attr) (s : State) : Host.Outcome State Fault Refusal :=
  .next ((s.tick t).cycWrite a .runCold)

/-- STOP (R117). -/
def execCycStop (t : Nat) (a : Attr) (s : State) : Host.Outcome State Fault Refusal := .next ((s.tick t).cycWrite a .stop)

/-- HOLD (R117). -/
def execCycHold (t : Nat) (a : Attr) (s : State) : Host.Outcome State Fault Refusal := .next ((s.tick t).cycWrite a .hold)

/-- STEP (R117). -/
def execCycStep (t : Nat) (a : Attr) (s : State) : Host.Outcome State Fault Refusal := .next ((s.tick t).cycWrite a .step)

/-- RESUME (R117). -/
def execCycResume (t : Nat) (a : Attr) (s : State) : Host.Outcome State Fault Refusal :=
  .next ((s.tick t).cycWrite a .resume)

/-- OC_ARM (R125). -/
def execOcArm (t : Nat) (a : Attr) (s : State) : Host.Outcome State Fault Refusal := .next ((s.tick t).cycWrite a .ocArm)

/-- OC_CANCEL (R126). -/
def execOcCancel (t : Nat) (a : Attr) (s : State) : Host.Outcome State Fault Refusal :=
  .next ((s.tick t).cycWrite a .ocCancel)

/-- TOKEN_LOAD (R133): with what the token window holds as it is written. -/
def execTokenLoad (t : Nat) (a : Attr) (s : State) : Host.Outcome State Fault Refusal :=
  let s := s.tick t
  .next (s.cycWrite a (.tokenLoad s.tokenInWindow))

/-- TOKEN_REVOKE (R134). -/
def execTokenRevoke (t : Nat) (a : Attr) (s : State) : Host.Outcome State Fault Refusal :=
  .next ((s.tick t).cycWrite a .tokenRevoke)

/-- FORCE_COMMIT (R129). -/
def execForceCommit (t : Nat) (a : Attr) (s : State) : Host.Outcome State Fault Refusal :=
  .next ((s.tick t).cycWrite a .forceCommit)

/-- TOKEN_EXPIRY (R134, R135): the lifetime has closed; the lanes see the end from the next VIN swap. -/
def execTokenExpiry (t : Nat) (s : State) : Host.Outcome State Fault Refusal :=
  let s := s.tick t
  .next <|
    if s.cyc.token.isSome ∧ s.cyc.tokenEnd ≤ s.now then { s with cyc := { s.cyc with tokenOff := true } } else s

/-- RESTART_COMPLETE (R117, R122, R375). -/
def execRestartComplete (t : Nat) (s : State) : Host.Outcome State Fault Refusal :=
  let s := s.tick t
  .next <|
    if s.cyc.mode = .starting then
      let s := { s with cyc := { s.cyc with mode := .run, restart := none } }
      (if s.pwr.state = .safe then { s with pwr := { s.pwr with state := .run } } else s).netUpdate
    else s

/-- A loaded image in the inactive bank (R106, R125); while the mode is STOP and no online change can run, the image that
was downloaded becomes the active one (log entry 14); the lanes' variables stay, as the retained ones must (R122). DESIGN CHOICE
(log entry 93): a load that completes while a change is ARMED leaves OC_STATE LOADED, or FAILED, and writes no CANCELLED record. -/
def State.acceptLoad (s : State) (p : Program) : State :=
  if s.cyc.mode = .stop then
    let s := s.wr F.CYCMGR_STAT_ACT_BANK (1 - s.rd F.CYCMGR_STAT_ACT_BANK)
    let s := { s with cyc := { s.cyc with act := some p, inact := s.cyc.act, boot := some p, oc := .idle } }
    (s.modLanes laneIds fun x => { x with queue := [], running := none, oldProg := none, out := none, bankHash := some p.hash }).showBanks.fixPins
  else
    ({ s with cyc := { s.cyc with inact := some p, oc := .loaded } }).showBanks

/-- PROGRAM_LOAD_COMPLETE (R105, R106): an image beyond the limits, or whose signatures verify under no
non-revoked pin (R359), is refused whole; a hash that
differs in any lane marks the inactive bank empty. -/
def execProgramLoadComplete (t : Nat) (p : Program) (pins : List Nat) (hashA hashB hashC : Nat) (s : State) :
    Host.Outcome State Fault Refusal :=
  let s := s.tick t
  .next <|
    if !p.inLimits ∨ !s.pinsOk pins ∨ !s.pwr.laneUp then s
    else if hashA = p.hash ∧ hashB = p.hash ∧ hashC = p.hash then s.acceptLoad p
    else ({ s with cyc := { s.cyc with inact := none, oc := .failed } }).showBanks

/-- OC_REP_READ (*CYCMGR_OC_REP*, R10). -/
def execOcRepRead (t : Nat) (a : Attr) (peek : Bool) (s : State) : Host.Outcome State Fault Refusal :=
  let s := s.tick t
  .next (s.guarded a (rsAddr 0x4030001C peek) false true fun s =>
    match s.cyc.report with
    | [] => s.answer 0 0
    | (k, v) :: rest =>
      let n := s.settled 0x4030001C (rest.length + 1)
      if n = 0 then s.answer 0 0 else
      (if peek then s
        else ({ s with cyc := { s.cyc with report := rest } }).wr F.CYCMGR_OC_REP_ID_VAR_ID v).answer 0
        (k * 2 ^ 30 + (n - 1)))

end Sys2Proof.Machine
end

