-- ==== Sys2Proof/Machine/Fusebox.lean ====
section
/-! DEFINITION. The commands of the Fusebox (*Fusebox power channels*, R42 to R70, R475, R476). -/

namespace Sys2Proof.Machine

/-- Continuous rating of a channel's class, in 10 mA (*Table: Channel classes*). -/
def contRating (n : Nat) : Nat := if n < 4 then 5000 else if n < 16 then 1500 else 400

/-- Short-circuit threshold of a channel's class, in 10 mA. -/
def scThreshold (n : Nat) : Nat := if n < 4 then 40000 else if n < 16 then 12000 else 3200

/-- The channel numbers (R42). -/
def allChannels : List Nat := List.range 48

/-! ### Configuration -/

/-- The shadow point k of a channel: the written words over the active curve (R49). DESIGN CHOICE (log entry 74): a point that
nothing has written is the active curve's; the spec is silent. -/
def State.shadowPoint (s : State) (n k : Nat) : Nat × Nat :=
  match (s.chan n).shadow.find? k with
  | some w => (bits w 31 16, bits w 15 0)
  | none => (s.rd (F.CH_FUSE_I_THR n k), s.rd (F.CH_FUSE_T_MS n k))

/-- The tests of R49 on the shadow curve of a channel. -/
def State.curveValid (s : State) (n : Nat) : Bool :=
  (List.range 7).all (fun k => decide ((s.shadowPoint n k).1 < (s.shadowPoint n (k + 1)).1)) &&
  (List.range 7).all (fun k => decide ((s.shadowPoint n (k + 1)).2 ≤ (s.shadowPoint n k).2)) &&
  decide ((s.shadowPoint n 7).1 < scThreshold n) &&
  (List.range 8).all (fun k => decide (1 ≤ (s.shadowPoint n k).2))

/-- The shadow curve becomes the active one. -/
def State.copyCurve (s : State) (n : Nat) : State :=
  (List.range 8).foldl (fun s k =>
    (s.wr (F.CH_FUSE_I_THR n k) (s.shadowPoint n k).1).wr (F.CH_FUSE_T_MS n k) (s.shadowPoint n k).2) s

/-- CURVE_APPLY (R49). -/
def execCurveApply (t : Nat) (a : Attr) (n : Nat) (s : State) : Host.Outcome State Fault Refusal :=
  let s := s.tick t
  onUnit (decide (n < 48)) <| s.guarded a (F.CH_CTL_HUB_CMD n).addr true true fun s =>
    if (s.chan n).state = .off ∧ s.curveValid n then s.copyCurve n else s.raise (F.CH_STAT_CFG_REFUSED n)

/-- Has a channel entered LATCHED in the present clock? A FAULT_CLR of that clock is taken first (R69). -/
def State.latchesNow (s : State) (n : Nat) : Bool := (s.clk.olds.find? (F.CH_STAT_RETRY_CNT n).addr).isSome

/-- FAULT_CLR (R69, R197). -/
def execFaultClr (t : Nat) (a : Attr) (n : Nat) (s : State) : Host.Outcome State Fault Refusal :=
  let s := s.tick t
  onUnit (decide (n < 48)) <| s.guarded a (F.CH_CTL_HUB_CMD n).addr true true fun s =>
    if (s.chan n).state = .latched ∧ !s.vital n ∧ !s.latchesNow n then
      if s.powerRuns n then (s.chanTo n .off).wr (F.CH_STAT_RETRY_CNT n) 0
      else s.raise (F.CH_STAT_CFG_REFUSED n)
    else s

/-- HUB_CMD_WRITE (R26): ignored on a VITAL channel. -/
def execHubCmdWrite (t : Nat) (a : Attr) (n : Nat) (on : Bool) (s : State) : Host.Outcome State Fault Refusal :=
  let s := s.tick t
  onUnit (decide (n < 48)) <| s.guarded a (F.CH_CTL_HUB_CMD n).addr true true fun s =>
    if s.vital n then s else s.wr (F.CH_CTL_HUB_CMD n) (bit on)

/-- A write of the configuration fields of CH_CTL (R53, R55, R56). -/
def State.writeChCtl (s : State) (n v : Nat) : State :=
  let asked := if bits v 28 27 = 3 then 0 else bits v 28 27
  let cur := s.rd (F.CH_CTL_OUT_MODE n)
  let s := if n < 16 ∨ asked = cur then s
    else if (s.chan n).state = .off then s.wr (F.CH_CTL_OUT_MODE n) asked
    else s.raise (F.CH_STAT_CFG_REFUSED n)
  let top := if s.rd (F.CH_CTL_OUT_MODE n) = 2 then 4000 else 65535
  (s.wr (F.CH_CTL_DITHER_AMP n) (min 1000 (bits v 26 16))).wr (F.CH_CTL_SETPOINT n) (min top (bits v 15 0))

/-- A write of CH_PWM (R54 to R56). DESIGN CHOICE (log entry 75): whether a write carries a different OUT_MODE or PWM_KHZ is
judged on the value it would set, after clamping and after 0b11 is read as STATIC; the spec does not say. -/
def State.writeChPwm (s : State) (n v : Nat) : State :=
  if n < 16 then s else
  let asked := clampNat (bits v 20 16) 1 (if 44 ≤ n then 5 else 25)
  let s := if asked = s.rd (F.CH_PWM_PWM_KHZ n) then s
    else if (s.chan n).state = .off then s.wr (F.CH_PWM_PWM_KHZ n) asked
    else s.raise (F.CH_STAT_CFG_REFUSED n)
  s.wr (F.CH_PWM_DITHER_HZ n) (min 400 (bits v 8 0))

/-- CH_CONFIG_WRITE (R53 to R56). -/
def execChConfigWrite (t : Nat) (a : Attr) (n : Nat) (pwm : Bool) (value : Word) (s : State) :
    Host.Outcome State Fault Refusal :=
  let s := s.tick t
  onUnit (decide (n < 48)) <|
    s.guarded a (if pwm then (F.CH_PWM_PWM_KHZ n).addr else (F.CH_CTL_HUB_CMD n).addr) true true fun s =>
      if pwm then s.writeChPwm n value.toNat else s.writeChCtl n value.toNat

/-- PRIO as CH_PROFILE reads it: 0b10 on a VITAL channel. -/
def State.prio (s : State) (n : Nat) : Nat := if s.vital n then 2 else s.rd (F.CH_PROFILE_PRIO n)

/-- The word of CH_PROFILE. -/
def State.chProfile (s : State) (n : Nat) : Nat :=
  s.word (F.CH_PROFILE_CH_MODE n).addr + s.prio n * 2 ^ 27 - s.rd (F.CH_PROFILE_PRIO n) * 2 ^ 27

/-- A write of CH_PROFILE (*FUSEBOX_CH_PROFILE*, R43): all its RW fields in OFF; outside OFF refused where any differs. -/
def State.writeChProfile (s : State) (n v : Nat) : State :=
  let same := decide (bits v 28 0 = bits (s.chProfile n) 28 0)
  if (s.chan n).state = .off then
    let s := if s.vital n then s else s.wr (F.CH_PROFILE_PRIO n) (min 1 (bits v 28 27))
    let s := (s.wr (F.CH_PROFILE_RETRY_MAX n) (bits v 26 24)).wr (F.CH_PROFILE_SOFT_MS n) (bits v 23 16)
    (s.wr (F.CH_PROFILE_INRUSH_MS n) (bits v 15 8)).wr (F.CH_PROFILE_INRUSH_2A n)
      (min (s.rd F.FB_BUDGET_INRUSH_CAP / 2) (bits v 7 0))
  else if same then s
  else s.raise (F.CH_STAT_CFG_REFUSED n)

/-- CH_PROFILE_WRITE (R43). -/
def execChProfileWrite (t : Nat) (a : Attr) (n : Nat) (value : Word) (s : State) : Host.Outcome State Fault Refusal :=
  let s := s.tick t
  onUnit (decide (n < 48)) <| s.guarded a (F.CH_PROFILE_CH_MODE n).addr true true fun s =>
    s.writeChProfile n value.toNat

/-- CH_FUSE_WRITE (R49). -/
def execChFuseWrite (t : Nat) (a : Attr) (n k : Nat) (value : Word) (s : State) : Host.Outcome State Fault Refusal :=
  let s := s.tick t
  onUnit (decide (n < 48 ∧ k < 8)) <| s.guarded a (F.CH_FUSE_I_THR n k).addr true true fun s =>
    s.modChan n fun c => { c with shadow := c.shadow.insert k value.toNat }

/-- A lowered INRUSH_CAP clamps a channel's INRUSH_2A and writes a record (R64). -/
def State.inrushClamp (s : State) (n : Nat) : State :=
  let cap := s.rd F.FB_BUDGET_INRUSH_CAP / 2
  if cap < s.rd (F.CH_PROFILE_INRUSH_2A n) then
    let s := s.wr (F.CH_PROFILE_INRUSH_2A n) cap
    s.fuseRecord 0x09 3 n 0x09 [s.chProfile n]
  else s

/-- BUDGET_WRITE (R63, R64). -/
def execBudgetWrite (t : Nat) (a : Attr) (value : Word) (s : State) : Host.Outcome State Fault Refusal :=
  let s := s.tick t
  .next (s.guarded a F.FB_BUDGET_INRUSH_CAP.addr true true fun s =>
    let s := (s.wr F.FB_BUDGET_INRUSH_CAP (clampNat (bits value.toNat 24 16) 20 400)).wr F.FB_BUDGET_SUPPLY_SLEW
      (clampNat (bits value.toNat 8 0) 5 400)
    allChannels.foldl State.inrushClamp s)

/-- The W1C bits 26 to 19 of CH_STAT, lowest first. -/
def chFlagFlds (n : Nat) : List Fld := [F.CH_STAT_FUSE_TRIP n, F.CH_STAT_OVER_TEMP n, F.CH_STAT_REV_CURRENT n,
  F.CH_STAT_SHORT_SUP n, F.CH_STAT_SHORT_GND n, F.CH_STAT_OPEN_LOAD n, F.CH_STAT_CFG_REFUSED n, F.CH_STAT_START_LATE n]

/-- FLAGS of FUSEBOX_FAULT_NEXT: those bits as they stood before the present clock's updates (R14). -/
def State.chFlags (s : State) (n : Nat) : Nat := (chFlagFlds n).foldr (fun f m => s.before f + 2 * m) 0

/-- FAULT_NEXT_READ (*FUSEBOX_FAULT_NEXT*, R10): the next faulted channel above the one last returned. -/
def execFaultNextRead (t : Nat) (a : Attr) (peek : Bool) (s : State) : Host.Outcome State Fault Refusal :=
  let s := s.tick t
  .next (s.guarded a (rsAddr 0x40103014 peek) false true fun s =>
    match rotFirst 48 ((s.fuse.searchPos + 1) % 48) (fun n => s.chFlags n ≠ 0) with
    | some n =>
      (if peek then s else { s with fuse := { s.fuse with searchPos := n } }).answer 0
        (2 ^ 31 + n * 2 ^ 16 + s.chFlags n)
    | none => s.answer 0 0)

/-! ### Commands and the start budget -/

/-- COMMAND_ON (R60, R46): the effective command of an OFF channel is ON. Until start-up is complete the budget accepts no
request (R377). `vOut` and `vBus` are the output and the input bus as the tile reads them, in 10 mV units. -/
def execCommandOn (t : Nat) (n vOut vBus : Nat) (s : State) : Host.Outcome State Fault Refusal :=
  let s := s.tick t
  onUnit (decide (n < 48)) <|
    let s := s.senseOut n vOut vBus
    if (s.chan n).state = .off ∧ s.pwr.fuseUp ∧ s.fuse.slotEnd.isSome ∧ s.effCmd n then s.enqueue n (s.isHandover n) else s

/-- The effective command of a channel has gone OFF (R44, R52, *Table: Channel states*), which the next budget tick sees. A
VITAL channel leaves LATCHED only while its power engine runs (R197). -/
def State.commandOff (s : State) (n : Nat) : State :=
  let s := (s.wr (F.CH_STAT_RETRY_CNT n) 0).modChan n fun c => { c with fell := true }
  match (s.chan n).state with
  | .off => s
  | .latched => if s.vital n ∧ s.powerRuns n then s.chanTo n .off else s
  | .queued | .starting | .on | .retryWait => s.chanTo n .off

/-- COMMAND_OFF (R44). -/
def execCommandOff (t : Nat) (n : Nat) (s : State) : Host.Outcome State Fault Refusal :=
  let s := s.tick t
  onUnit (decide (n < 48)) <| if s.effCmd n then s else s.commandOff n

/-- Release of the slew where the ramp window has closed; the channel enters ON (R58). -/
def State.closeRamp (s : State) (n : Nat) : State :=
  let c := s.chan n
  if c.state = .starting ∧ c.rampEnd ≤ s.now then s.setCh n fun c => { c with state := .on, slew := 0, onAt := s.now }
  else s

/-- Release of the inrush where its window has closed (R58). -/
def State.closeInrush (s : State) (n : Nat) : State :=
  let c := s.chan n
  if c.inr ≠ 0 ∧ c.inrushEnd ≤ s.now then s.setCh n fun c => { c with inr := 0 } else s

/-- The class of a request: vital, high, normal (R60). -/
def State.queueClass (s : State) (n : Nat) : Nat :=
  if s.vital n then 0 else if s.rd (F.CH_PROFILE_PRIO n) = 1 then 1 else 2

/-- A request enters the queue at the tail of its class (R60). -/
def State.queueIn (s : State) (n : Nat) : State :=
  let k := s.queueClass n
  let q := s.fuse.queue
  { s with fuse := { s.fuse with
      queue := q.filter (fun m => s.queueClass m ≤ k) ++ n :: q.filter (fun m => !decide (s.queueClass m ≤ k))
      fresh := s.fuse.fresh.filter (fun m => m ≠ n) } }

/-- Requests of one class captured in the same tick enter the queue by the rotating pointer; each ordering among two or
more counts (R36, R37, R60). `fuel` is their number. DESIGN CHOICE (log entry 76): a handover start (R46) is ordered and
counted with the others of its tick. -/
def State.orderClass (s : State) (k : Nat) : Nat → State
  | 0 => s
  | fuel + 1 =>
    let mine := s.fuse.fresh.filter fun n => s.queueClass n = k
    match rotFirst 48 s.fuse.pointer (fun n => mine.contains n) with
    | none => s
    | some n =>
      let s := if 2 ≤ mine.length then s.inc F.FB_TIE_CNT_TIES else s
      let s := (s.queueIn n).modChan n fun c => { c with reqTick := s.now }
      State.orderClass { s with fuse := { s.fuse with pointer := (n + 1) % 48 } } k fuel

/-- The inrush a request declares, in A (R57). -/
def State.inrushOf (s : State) (n : Nat) : Nat := 2 * s.rd (F.CH_PROFILE_INRUSH_2A n)

/-- t_r of a request, in budget ticks (R57). -/
def State.rampTicks (s : State) (n : Nat) : Nat :=
  let soft := 100 * s.rd (F.CH_PROFILE_SOFT_MS n)
  if s.inrushOf n = 0 then soft else max soft (ceilDiv (100 * s.inrushOf n) (s.rd F.FB_BUDGET_SUPPLY_SLEW))

/-- The slew of a request, in A/ms (R57). -/
def State.slewOf (s : State) (n : Nat) : Nat := ceilDiv (100 * s.inrushOf n) (s.rampTicks n)

/-- Inrush reserved, A (FUSEBOX_QSTAT.RESV_INRUSH). -/
def State.resvInrush (s : State) : Nat := (allChannels.map fun n => (s.chan n).inr).sum

/-- Slew reserved, A/ms (FUSEBOX_QSTAT.RESV_SLEW). -/
def State.resvSlew (s : State) : Nat := (allChannels.map fun n => (s.chan n).slew).sum

/-- A granted request becomes STARTING with its two reservations (R58); with an empty ramp window it passes to ON in the
tick of its grant (R57). -/
def State.grant (s : State) (n inr slew tr : Nat) : State :=
  let fin := s.now + tr * 10000
  let s := (s.dequeue n).setCh n fun c =>
    { c with state := .starting, hand := false, late := false, inr := inr, slew := slew, tr := tr, rampEnd := fin,
             inrushEnd := fin + ms (s.rd (F.CH_PROFILE_INRUSH_MS n)), phase := none, ilim := 0, clamp := false,
             wheel := decide (16 ≤ n) && (s.rd (F.CH_CTL_OUT_MODE n) == 1 || s.rd (F.CH_CTL_OUT_MODE n) == 2) }
  (s.closeRamp n).closeInrush n

/-- The grant loop of R59 over requests in queue order. -/
def State.grantLoop (s : State) : List Nat → State
  | [] => s
  | n :: rest =>
    if s.resvInrush + s.inrushOf n ≤ s.rd F.FB_BUDGET_INRUSH_CAP ∧
        s.resvSlew + s.slewOf n ≤ s.rd F.FB_BUDGET_SUPPLY_SLEW then
      (s.grant n (s.inrushOf n) (s.slewOf n) (s.rampTicks n)).grantLoop rest
    else s

/-- May the budget grant: after the wake slot (R62), not from a power-fail declaration (R65), not while BUS_LOW is set
(R372) or the bus is below 9 V (R66)? -/
def State.mayGrant (s : State) : Bool :=
  s.pwr.fuseUp && !s.inPowerFail && s.pwr.state != .sleepEntry && !s.flag F.PWRMGR_STAT_BUS_LOW && !s.pwr.below9 &&
    (match s.fuse.slotEnd with
      | some e => decide (e ≤ s.now)
      | none => false)

/-- A handover start is granted ahead of every queued request and reserves nothing (R46). -/
def State.handovers (s : State) : State :=
  (allChannels.filter fun n => (s.chan n).state == .queued && (s.chan n).hand).foldl (fun s n => s.grant n 0 0 0) s

/-- The current limit that the channel program asks for: ILIM of the channel page, in 10 mA (R191). The standard channel program
asks for all that the tile allows, which is the ramp of R57. -/
def State.ilimAsked (s : State) (n : Nat) : Nat := s.pageWord n 4 (scThreshold n)

/-- One tick of the tile's bound on ILIM (R192): in STARTING the rise by the slew granted to the request (R63), up to its
inrush, or without either up to the continuous rating; in ON up to the short-circuit threshold. -/
def State.ilimTick (s : State) (n : Nat) : State :=
  match (s.chan n).state with
  | .starting =>
    let v := if s.inrushOf n = 0 then min (s.ilimAsked n) (contRating n)
      else min (min (s.ilimAsked n) (100 * s.inrushOf n)) ((s.chan n).ilim + (s.chan n).slew)
    s.modChan n fun c => { c with ilim := v }
  | .on => s.modChan n fun c => { c with ilim := min (s.ilimAsked n) (scThreshold n) }
  | .off | .queued | .retryWait | .latched => s.modChan n fun c => { c with ilim := 0 }

/-- The fall that a budget tick takes (R44): a queued channel whose effective command is OFF, or has fallen since the last tick
although it has risen again, leaves the queue without a grant; a VITAL channel leaves LATCHED on a command that is OFF. -/
def State.takeFall (s : State) (n : Nat) : State :=
  let c := s.chan n
  let s := if c.state = .queued ∧ (c.fell ∨ !s.effCmd n) ∨ c.state = .latched ∧ s.vital n ∧ !s.effCmd n then s.commandOff n
    else s
  if (s.chan n).fell then s.modChan n fun c => { c with fell := false } else s

/-- BUDGET_TICK (R59): falls first (R44), then the closed windows, then the order of the new requests (R60), then
handover starts and grants. -/
def execBudgetTick (t : Nat) (s : State) : Host.Outcome State Fault Refusal :=
  let s := s.tick t
  .next <|
    let s := allChannels.foldl (fun s n => s.takeFall n) s
    let s := allChannels.foldl (fun s n => (s.closeRamp n).closeInrush n) s
    let s := [0, 1, 2].foldl (fun s k => s.orderClass k s.fuse.fresh.length) s
    let s := if s.mayGrant then
      let s := s.handovers
      s.grantLoop s.fuse.queue
    else s
    allChannels.foldl (fun s n => s.ilimTick n) s

/-- RAMP_WINDOW_CLOSE (R58). -/
def execRampWindowClose (t : Nat) (n : Nat) (s : State) : Host.Outcome State Fault Refusal :=
  let s := s.tick t
  onUnit (decide (n < 48)) (s.closeRamp n)

/-- INRUSH_WINDOW_CLOSE (R58). -/
def execInrushWindowClose (t : Nat) (n : Nat) (s : State) : Host.Outcome State Fault Refusal :=
  let s := s.tick t
  onUnit (decide (n < 48)) (s.closeInrush n)

/-- START_WAIT_EXPIRY (R61). -/
def execStartWaitExpiry (t : Nat) (n : Nat) (s : State) : Host.Outcome State Fault Refusal :=
  let s := s.tick t
  onUnit (decide (n < 48)) <| match s.fuse.slotEnd with
    | none => s
    | some e =>
      let c := s.chan n
      if c.state = .queued ∧ !c.late ∧
          s.closed (max c.reqTick e) (ms (s.rd F.FB_START_WAIT_START_WAIT_MAX)) then
        let s := (s.modChan n fun c => { c with late := true }).raise (F.CH_STAT_START_LATE n)
        s.fuseRecord 0x07 (if s.vital n then 5 else 3) n 0x0F []
      else s

/-- The word of FUSEBOX_PERMIT (*FUSEBOX_PERMIT*). -/
def State.fbPermit (s : State) : Nat :=
  bit s.pair.held * 2 ^ 16 + ((List.range 6).map fun k => bit (s.tilePermit k) * 2 ^ k).sum

/-- WAKE_SLOT_END (R62, R317). -/
def execWakeSlotEnd (t : Nat) (s : State) : Host.Outcome State Fault Refusal :=
  let s := s.tick t
  .next <| match s.fuse.slotEnd with
    | some e => if e ≤ s.now then s.clrF F.NETMGT_WSLOT_ACTIVE else s
    | none => s

/-! ### Protection -/

/-- I_MEAS of a channel (R475), saturating at ±327.67 A. -/
def State.setIMeas (s : State) (n : Nat) (i : Int) : State :=
  s.wr (F.CH_STAT_I_MEAS n) (ofSigned 16 (satInt i (-32767) 32767))

/-- SHORT_CIRCUIT_CUT (R47). -/
def execShortCircuitCut (t : Nat) (n : Nat) (i10mA : Int) (s : State) : Host.Outcome State Fault Refusal :=
  let s := s.tick t
  onUnit (decide (n < 48)) <|
    if (s.chan n).state.live ∧ scThreshold n ≤ i10mA.natAbs then
      (s.chFault n (F.CH_STAT_SHORT_GND n) 0x02 4).chTrip n
    else s

/-- DERATE of a channel (R399). -/
def derateFld (n : Nat) : Fld := { F.MARGIN_DERATE_DERATE0 (n / 4) with lo := 8 * (n % 4) }

/-- i_thr[k] as the evaluator takes it (R48, R399). -/
def State.iThr (s : State) (n k : Nat) : Nat := s.rd (F.CH_FUSE_I_THR n k) * (100 - s.rd (derateFld n)) / 100

/-- The highest point of the curve that a current reaches (R48). -/
def State.fusePoint (s : State) (n i : Nat) : Option Nat :=
  ((List.range 8).filter fun k => decide (s.iThr n k ≤ i)).getLast?

/-- heat after one evaluation at the current `i` (R48). The accumulator has 40 bits; what exceeds them is lost (log
entry 33). -/
def State.heatNext (s : State) (n i : Nat) : Nat :=
  let h := (s.chan n).heat
  match s.fusePoint n i with
  | some k => (h + 2 ^ 32 / (100 * s.rd (F.CH_FUSE_T_MS n k))) % 2 ^ 40
  | none => h - min h (2 ^ 32 / (100 * s.rd (F.CH_TIMING_COOL_MS n)))

/-- FUSE_EVAL_TICK (R48, R475): the evaluation, the trip, and the TICK event of the power engine (R187). FUSE_TRIP is set in
every state; only a STARTING or ON channel trips (*Table: Channel states*). -/
def execFuseEvalTick (t : Nat) (n : Nat) (i10mA fast : Int) (s : State) : Host.Outcome State Fault Refusal :=
  let s := s.tick t
  onUnit (decide (n < 48)) <|
    let s := (s.setIMeas n i10mA).raiseEdge (engineOf n) 28
    let h := s.heatNext n i10mA.natAbs
    let s := s.modChan n fun c => { c with heat := h, iFast := fast }
    if 2 ^ 32 ≤ h then
      let s := s.chFault n (F.CH_STAT_FUSE_TRIP n) 0x06 4
      if (s.chan n).state.live then s.chTrip n else s
    else s

/-- TJ as CH_DIAG holds it: °C + 55. -/
def State.setTj (s : State) (n : Nat) (tj : Int) : State := s.wr (F.CH_DIAG_TJ n) (satInt (tj + 55) 0 255).toNat

/-- OVER_TEMP_DETECTED (R68): a trip in STARTING and ON, a report in every other state. -/
def execOverTempDetected (t : Nat) (n : Nat) (tj : Int) (s : State) : Host.Outcome State Fault Refusal :=
  let s := s.tick t
  onUnit (decide (n < 48)) <|
    if 175 ≤ tj ∧ s.pwr.fuseUp then
      let s := (s.setTj n tj).chFault n (F.CH_STAT_OVER_TEMP n) 0x05 4
      if (s.chan n).state.live then s.chTrip n else s
    else s.setTj n tj

/-- REV_CURRENT_DETECTED (R68): the window of 20 µs has closed below −10 % of the continuous rating. -/
def execRevCurrentDetected (t : Nat) (n : Nat) (i10mA : Int) (s : State) : Host.Outcome State Fault Refusal :=
  let s := s.tick t
  onUnit (decide (n < 48)) <|
    if (s.chan n).state.live ∧ 10 * i10mA < -(contRating n : Int) then
      ((s.setIMeas n i10mA).chFault n (F.CH_STAT_REV_CURRENT n) 0x04 5).chanTo n .latched
    else s

/-- OPEN_LOAD_DETECTED (R68): ON, and below OL_THRESH throughout 50 ms. -/
def execOpenLoadDetected (t : Nat) (n : Nat) (i10mA : Int) (s : State) : Host.Outcome State Fault Refusal :=
  let s := s.tick t
  onUnit (decide (n < 48)) <|
    if (s.chan n).state = .on ∧ 200 * i10mA.natAbs < s.rd (F.CH_DIAG_OL_THRESH n) * contRating n then
      s.chFault n (F.CH_STAT_OPEN_LOAD n) 0x01 3
    else s

/-- RETRY_DELAY_EXPIRY (R51), with TJ and what COMMAND_ON reads. -/
def execRetryDelayExpiry (t : Nat) (n : Nat) (tj : Int) (vOut vBus : Nat) (s : State) :
    Host.Outcome State Fault Refusal :=
  let s := s.tick t
  onUnit (decide (n < 48)) <|
    let s := (s.setTj n tj).senseOut n vOut vBus
    let c := s.chan n
    if c.state = .retryWait ∧ s.closed c.tripAt (ms (s.rd (F.CH_TIMING_RETRY_DELAY_MS n))) ∧ c.heat < 2 ^ 31 ∧
        tj ≤ 150 ∧ s.effCmd n then
      s.enqueue n (s.isHandover n)
    else s

/-- RETRY_COUNT_RESET (R52): the window [ON entry, ON entry + 60 s) has closed without a trip. -/
def execRetryCountReset (t : Nat) (n : Nat) (s : State) : Host.Outcome State Fault Refusal :=
  let s := s.tick t
  onUnit (decide (n < 48)) <|
    if (s.chan n).state = .on ∧ s.closed (s.chan n).onAt (secs 60) then s.wr (F.CH_STAT_RETRY_CNT n) 0 else s

/-- Do off-state diagnostics run on a channel (R476, R45)? -/
def State.offdiagRuns (s : State) (n : Nat) : Bool :=
  s.pwr.fuseUp && s.flag (F.CH_DIAG_OFFDIAG_EN n) && ((s.chan n).state == .off || (s.chan n).state == .latched) &&
    !(s.flag (F.CH_PROFILE_PAIRED n) && !s.authority)

/-- OFFDIAG_CYCLE (R476, R68): V_OUT in mV at the end of the pull-up and of the pull-down, and the input bus in mV. -/
def execOffdiagCycle (t : Nat) (n : Nat) (vUp vDown bus : Nat) (s : State) : Host.Outcome State Fault Refusal :=
  let s := s.tick t
  onUnit (decide (n < 48)) <|
    if s.offdiagRuns n then
      let thr := s.rd (F.CH_DIAG2_SG_THRESH n)
      let s := s.wr (F.CH_DIAG_V_OUT n) (min 65535 (vUp / 10))
      let s := if 60 * bus ≤ 100 * vUp then s.chFault n (F.CH_STAT_OPEN_LOAD n) 0x01 3 else s
      let s := if thr ≠ 0 ∧ vUp < thr then s.chFault n (F.CH_STAT_SHORT_GND n) 0x02 4 else s
      let s := s.wr (F.CH_DIAG_V_OUT n) (min 65535 (vDown / 10))
      if 50 * bus ≤ 100 * vDown then s.chFault n (F.CH_STAT_SHORT_SUP n) 0x03 4 else s
    else s

/-! ### Regulation, ageing, aggregate current -/

/-- The dither triangle at phase p of 25,000, in 1/6,250 of its amplitude (R54). -/
def triangle (p : Nat) : Int :=
  if p < 6250 then p else if p < 18750 then 12500 - (p : Int) else (p : Int) - 25000

/-- REGULATOR_STEP (R53, R54, R191): one 40 µs step of a STARTING or ON light channel. The duty in force is the page's DUTY where
the channel program has written it; the standard program has it at SETPOINT in PWM mode, and in CURRENT mode at what its
regulator sets, an open value (log entry 4). -/
def execRegulatorStep (t : Nat) (n : Nat) (s : State) : Host.Outcome State Fault Refusal :=
  let s := s.tick t
  onUnit (decide (16 ≤ n ∧ n < 48)) <|
    if (s.chan n).state.live then
      let sp := s.rd (F.CH_CTL_SETPOINT n)
      match s.rd (F.CH_CTL_OUT_MODE n) with
      | 1 => s.modChan n fun c => { c with duty := s.pageWord n 8 sp % 65536 }
      | 2 =>
        let p := match (s.chan n).phase with
          | none => 0
          | some p => (p + s.rd (F.CH_PWM_DITHER_HZ n)) % 25000
        let d : Int := if s.rd (F.CH_PWM_DITHER_HZ n) = 0 then 0 else s.rd (F.CH_CTL_DITHER_AMP n) * triangle p
        let r := s.draw 65536
        r.2.modChan n fun c =>
          { c with phase := some p, target := (satInt (6250 * sp + d) 0 (4000 * 6250)).toNat, duty := s.pageWord n 8 r.1 % 65536 }
      | _ => s
    else s

/-- DRIFT against the factory baseline, in 0.25 % (R70, log entry 13). -/
def driftOf (n rds : Nat) : Int :=
  satInt ((400 * ((rds : Int) - Config.rdsBaseline n)) / (Config.rdsBaseline n : Int)) (-128) 127

/-- AGE_MEASURE (R70, R26): Rds(on) at 25 °C in µΩ of a channel that conducts at least 2 A. -/
def execAgeMeasure (t : Nat) (n : Nat) (rds : Nat) (s : State) : Host.Outcome State Fault Refusal :=
  let s := s.tick t
  onUnit (decide (n < 48)) <|
    if s.conducts n ∧ 200 ≤ (toSigned 16 (s.rd (F.CH_STAT_I_MEAS n))).natAbs then
      ((s.wr (F.CH_AGE_RDS_MEAS n) (min 65535 rds)).wr (F.CH_AGE_DRIFT n) (ofSigned 8 (driftOf n rds))).setF
        (F.CH_AGE_AGE_VALID n)
    else s

/-- AGG_WINDOW (R67): the 1 s mean and the last 1 ms mean of the aggregate current, in 0.1 A. The record names no channel
(log entry 13). -/
def execAggWindow (t : Nat) (mean last : Nat) (s : State) : Host.Outcome State Fault Refusal :=
  let s := s.tick t
  .next <|
    let s := s.wr F.FB_AGG_AGG_I (min 65535 last)
    if 2500 < mean then (s.raise F.FB_AGG_AGG_HIGH).fuseRecord 0x08 5 0 0 [] else s

end Sys2Proof.Machine
end

