-- ==== Sys2Proof/Machine/Dervos.lean ====
section
/-! DEFINITION. The Dervos engines (*Dervos engines and their instruction set*, R177 to R201): the instructions, the
ports, the timers, faults, loading and the drain of an instance reset. An instruction row is the execution of that
instruction by engine `e` at its pc; it takes effect while the engine is RUNNING. -/

namespace Sys2Proof.Machine

/-! ### Registers, memories and status -/

/-- The value of g-register `k`; g0 reads as zero. -/
def Engine.g (x : Engine) (k : Nat) : Word := if k % 16 = 0 then 0 else x.regs.getD 0 (k % 16)

/-- The engine with g-register `k` written; writes to g0 are discarded. -/
def Engine.setG (x : Engine) (k : Nat) (v : Word) : Engine :=
  if k % 16 = 0 then x else { x with regs := x.regs.put 0 (k % 16) v }

/-- The signed value of a word. -/
abbrev sgn (v : Word) : Int := v.toInt

/-- A word of a signed number, wrapping. -/
def word (i : Int) : Word := BitVec.ofInt 32 i

/-- imm18 and off18, sign-extended. -/
def sext18 (n : Nat) : Word := word (toSigned 18 n)

/-- off22, sign-extended. -/
def sext22 (n : Nat) : Word := word (toSigned 22 n)

/-- zext(imm18). -/
def zext18 (n : Nat) : Word := BitVec.ofNat 32 (n % 2 ^ 18)

/-- Little-endian bytes of data memory as a number. -/
def Engine.load (x : Engine) (a : Nat) : Nat → Nat
  | 0 => 0
  | n + 1 => (Memory.read x.dmem a).toNat + 256 * x.load (a + 1) n

/-- The engine with `n` bytes stored at data address `a`; a whole word is stored with check bits of its own (log entry 97). -/
def Engine.storeBytes (x : Engine) (a n v : Nat) : Engine :=
  { x with dmem := Memory.writeRun x.dmem a (leBytes n v)
           eccD := if n = 4 then x.eccD.filter fun w => w ≠ a / 4 else x.eccD }

/-- Does the data word of address `a` hold an uncorrectable error (R179)? -/
def Engine.badData (x : Engine) (a : Nat) : Bool := x.eccD.contains (a / 4)

/-- The number of engines. -/
def engineIds : List Nat := List.range 16

/-- Is engine `e` a power engine (R177)? -/
def isPower (e : Nat) : Bool := decide (12 ≤ e)

/-- Does engine `e` own channel `n`? -/
def owns (e n : Nat) : Bool := decide (n < 48) && engineOf n == e

/-- The code of an engine state. -/
def EngState.code : EngState → Nat
  | .stopped => 0 | .loading => 1 | .running => 2 | .waiting => 3 | .fault => 4

/-- The word of DVE_STAT, which ENGINE records carry as VAL0 (R407). -/
def State.dveStat (s : State) (e : Nat) : Nat :=
  (s.eng e).state.code * 2 ^ 29 + s.word (F.DVE_STAT_SAT e).addr

/-! ### Faults and stops -/

/-- The causes of a fault (DVE_STAT.FAULT_CAUSE). -/
inductive EngCause where | illegal | align | addr | pcRange | channel | burst | ecc | port | inst
  deriving DecidableEq, Repr

/-- The code of a cause. -/
def EngCause.code : EngCause → Nat
  | .illegal => 1 | .align => 2 | .addr => 3 | .pcRange => 4 | .channel => 5 | .burst => 6 | .ecc => 7 | .port => 8
  | .inst => 9

/-- A port. -/
def Engine.port (x : Engine) (q : Nat) : Port := x.ports.getD Port.init q

/-- The engine with a port changed. -/
def Engine.modPort (x : Engine) (q : Nat) (f : Port → Port) : Engine :=
  { x with ports := x.ports.put Port.init q (f (x.port q)) }

/-- Is port q of engine e bound as an input, as an output? A port not enabled is bound to neither direction. -/
def State.boundIn (s : State) (e q : Nat) : Bool := s.flag (F.DVE_QMAP_EN e q) && !s.flag (F.DVE_QMAP_DIR e q)
def State.boundOut (s : State) (e q : Nat) : Bool := s.flag (F.DVE_QMAP_EN e q) && s.flag (F.DVE_QMAP_DIR e q)

/-- The open output entries are discarded. -/
def Engine.dropOpen (x : Engine) : Engine :=
  { x with ports := x.ports.foldl (fun m p => m.put Port.init p.1 { p.2 with opened := none }) [] }

/-- The channels of a power engine that has stopped or faulted: STARTING, ON, RETRY_WAIT and QUEUED enter LATCHED
(R197). -/
def State.latchChannels (s : State) (e : Nat) : State :=
  if isPower e then
    (channelsOf e).foldl (fun s n => match (s.chan n).state with
      | .starting | .on | .retryWait | .queued => s.chanTo n .latched
      | .off | .latched => s) s
  else s

/-- The longest burst since START, in 8-cycle units (DVE_BURST.BURST_PEAK). -/
def State.notePeak (s : State) (e : Nat) : State :=
  let k := min 65535 ((s.eng e).burst / 8)
  if s.rd (F.DVE_BURST_BURST_PEAK e) < k then s.wr (F.DVE_BURST_BURST_PEAK e) k else s

/-- The part of engine e in the reset of instance i, at a burst boundary (R201). -/
def State.drainEngine (s : State) (e i : Nat) : State :=
  let x := s.eng e
  let take (p : Port) : List Nat × Port :=
    let lens := (if !p.body.isEmpty ∧ p.bodyInst = i then [p.bodyLen] else []) ++
      (p.entries.filter fun en => en.inst = i).map fun en => en.payload.length
    (lens, { p with
      body := if p.bodyInst = i then [] else p.body
      entries := p.entries.filter fun en => en.inst ≠ i })
  let ins := (List.range 16).filter fun q => s.boundIn e q
  let lens := (ins.map fun q => (take (x.port q)).1).foldl (· ++ ·) []
  let x := ins.foldl (fun x q => x.modPort q fun p => (take p).2) x
  let x := (List.range 16).foldl (fun x q => x.modPort q fun p => match p.opened with
    | some (j, _) => if j = i then { p with opened := none } else p
    | none => p) x
  let s := s.modEng e fun _ => { x with edges := maskSet x.edges 29, drains := x.drains.filter fun j => j ≠ i }
  let s := lens.foldl (fun s len => s.complete i 0x02 (e * 2 ^ 24 + len % 4096)) s
  let s := ((s.incBy (F.DVE_CANCEL_CANCELLED e) lens.length).wr (F.DVE_CANCEL_INST e) i).countCancelled i lens.length
  s.markDrained i (4 + e)

/-- The drains that a fence has left for the burst boundary. -/
def State.drainAll (s : State) (e : Nat) : State := (s.eng e).drains.foldl (fun s i => s.drainEngine e i) s

/-- A fault at the instruction at pc, which has no effect (R196, R197). What a fence has left for the burst boundary is drained
(R201). -/
def State.engFault (s : State) (e : Nat) (c : EngCause) : State :=
  let s := (s.notePeak e).modEng e fun x => { x.dropOpen with state := .fault }
  let s := (s.wr (F.DVE_FAULT_PC_PC e) (s.eng e).pc).wr (F.DVE_STAT_FAULT_CAUSE e) c.code
  let s := s.record 0x07 0x01 (if isPower e then 6 else 5) e 0 [s.dveStat e, s.rd (F.DVE_FAULT_PC_PC e)]
    (sourceWord 2 (s.eng e).curInst e)
  (s.latchChannels e).drainAll e

/-- The engine stops (R198): open output entries are discarded and the timers disarmed, and a drain waits no longer (R201). -/
def State.engStop (s : State) (e : Nat) : State :=
  ((s.modEng e fun x => { x.dropOpen with state := .stopped, timers := [] }).latchChannels e).drainAll e

/-! ### The frame of an instruction -/

/-- What an instruction does beside advancing: the engine and the state after it with pc not yet moved, the next pc, the
cycles it takes and those of them that the present burst counts; or a fault. -/
inductive Eff where
  | ok (s : State) (pc : Nat) (cycles : Nat) (burst : Nat := cycles)
  | fault (c : EngCause)

/-- The effect of an instruction on a RUNNING engine: pc moves, with PC_RANGE checked on every change, and the cycles are
counted; a fault leaves nothing of the effect (R193, R196). -/
def State.retire (s : State) (e : Nat) : Eff → State
  | .fault c => s.engFault e c
  | .ok s' pc n b =>
    if 0xFFFC < pc then s.engFault e .pcRange
    else s'.modEng e fun x => { x with pc := pc, cycles := x.cycles + n, burst := x.burst + b }

/-- Does the program word at pc hold an uncorrectable error (R179; log entry 97)? -/
def Engine.badFetch (x : Engine) : Bool := x.eccP.contains (x.pc / 4)

/-- An instruction of engine `e`, at the latest instant. -/
def runDv (e : Nat) (f : State → Engine → Eff) (s : State) : Host.Outcome State Fault Refusal :=
  onUnit (decide (e < 16)) <|
    if (s.eng e).state = .running then
      let s := s.onward
      s.retire e (if (s.eng e).badFetch then .fault .ecc else f s (s.eng e))
    else s

/-- An effect on the engine alone, at the next pc. -/
def plain (s : State) (e : Nat) (x : Engine) (cycles : Nat) : Eff := .ok (s.modEng e fun _ => x) (x.pc + 4) cycles

/-- An instruction that writes `v` to gd. -/
def writeG (s : State) (e rd : Nat) (x : Engine) (v : Word) (cycles : Nat := 1) : Eff :=
  plain s e (x.setG rd v) cycles

/-- A saturating result: gd and, where it was limited, SAT (R195). -/
def writeSat (s : State) (e rd : Nat) (x : Engine) (v lo hi : Int) (cycles : Nat := 1) : Eff :=
  let r := satInt v lo hi
  writeG (if r = v then s else s.setF (F.DVE_STAT_SAT e)) e rd x (word r) cycles

/-- The range of a signed word. -/
def minWord : Int := -2147483648
def maxWord : Int := 2147483647

/-! ### Arithmetic -/

/-- ADD (R193). -/
def execDAdd (e rd ra rb : Nat) (s : State) : Host.Outcome State Fault Refusal :=
  runDv e (fun s x => writeG s e rd x (x.g ra + x.g rb)) s

/-- SUB (R193). -/
def execDSub (e rd ra rb : Nat) (s : State) : Host.Outcome State Fault Refusal :=
  runDv e (fun s x => writeG s e rd x (x.g ra - x.g rb)) s

/-- AND (R193). -/
def execDAnd (e rd ra rb : Nat) (s : State) : Host.Outcome State Fault Refusal :=
  runDv e (fun s x => writeG s e rd x (x.g ra &&& x.g rb)) s

/-- OR (R193). -/
def execDOr (e rd ra rb : Nat) (s : State) : Host.Outcome State Fault Refusal :=
  runDv e (fun s x => writeG s e rd x (x.g ra ||| x.g rb)) s

/-- XOR (R193). -/
def execDXor (e rd ra rb : Nat) (s : State) : Host.Outcome State Fault Refusal :=
  runDv e (fun s x => writeG s e rd x (x.g ra ^^^ x.g rb)) s

/-- SHL (R193). -/
def execDShl (e rd ra rb : Nat) (s : State) : Host.Outcome State Fault Refusal :=
  runDv e (fun s x => writeG s e rd x (x.g ra <<< ((x.g rb).toNat % 32))) s

/-- SHR (R193). -/
def execDShr (e rd ra rb : Nat) (s : State) : Host.Outcome State Fault Refusal :=
  runDv e (fun s x => writeG s e rd x (x.g ra >>> ((x.g rb).toNat % 32))) s

/-- SRA (R193). -/
def execDSra (e rd ra rb : Nat) (s : State) : Host.Outcome State Fault Refusal :=
  runDv e (fun s x => writeG s e rd x ((x.g ra).sshiftRight ((x.g rb).toNat % 32))) s

/-- SLT (R193). -/
def execDSlt (e rd ra rb : Nat) (s : State) : Host.Outcome State Fault Refusal :=
  runDv e (fun s x => writeG s e rd x (if sgn (x.g ra) < sgn (x.g rb) then 1 else 0)) s

/-- SLTU (R193). -/
def execDSltu (e rd ra rb : Nat) (s : State) : Host.Outcome State Fault Refusal :=
  runDv e (fun s x => writeG s e rd x (if (x.g ra).toNat < (x.g rb).toNat then 1 else 0)) s

/-- MUL (R193). -/
def execDMul (e rd ra rb : Nat) (s : State) : Host.Outcome State Fault Refusal :=
  runDv e (fun s x => writeG s e rd x (x.g ra * x.g rb)) s

/-- MIN (R193). -/
def execDMin (e rd ra rb : Nat) (s : State) : Host.Outcome State Fault Refusal :=
  runDv e (fun s x => writeG s e rd x (if sgn (x.g ra) < sgn (x.g rb) then x.g ra else x.g rb)) s

/-- MAX (R193). -/
def execDMax (e rd ra rb : Nat) (s : State) : Host.Outcome State Fault Refusal :=
  runDv e (fun s x => writeG s e rd x (if sgn (x.g ra) < sgn (x.g rb) then x.g rb else x.g ra)) s

/-- ADDS (R193, R195): signed saturation. -/
def execDAdds (e rd ra rb : Nat) (s : State) : Host.Outcome State Fault Refusal :=
  runDv e (fun s x => writeSat s e rd x (sgn (x.g ra) + sgn (x.g rb)) minWord maxWord) s

/-- SUBS (R193, R195): signed saturation. -/
def execDSubs (e rd ra rb : Nat) (s : State) : Host.Outcome State Fault Refusal :=
  runDv e (fun s x => writeSat s e rd x (sgn (x.g ra) - sgn (x.g rb)) minWord maxWord) s

/-- ADDI (R193). -/
def execDAddi (e rd ra imm : Nat) (s : State) : Host.Outcome State Fault Refusal :=
  runDv e (fun s x => writeG s e rd x (x.g ra + sext18 imm)) s

/-- ANDI (R193). -/
def execDAndi (e rd ra imm : Nat) (s : State) : Host.Outcome State Fault Refusal :=
  runDv e (fun s x => writeG s e rd x (x.g ra &&& zext18 imm)) s

/-- ORI (R193). -/
def execDOri (e rd ra imm : Nat) (s : State) : Host.Outcome State Fault Refusal :=
  runDv e (fun s x => writeG s e rd x (x.g ra ||| zext18 imm)) s

/-- XORI (R193). -/
def execDXori (e rd ra imm : Nat) (s : State) : Host.Outcome State Fault Refusal :=
  runDv e (fun s x => writeG s e rd x (x.g ra ^^^ zext18 imm)) s

/-- SHLI (R193). -/
def execDShli (e rd ra imm : Nat) (s : State) : Host.Outcome State Fault Refusal :=
  runDv e (fun s x => writeG s e rd x (x.g ra <<< (imm % 32))) s

/-- SHRI (R193). -/
def execDShri (e rd ra imm : Nat) (s : State) : Host.Outcome State Fault Refusal :=
  runDv e (fun s x => writeG s e rd x (x.g ra >>> (imm % 32))) s

/-- SRAI (R193). -/
def execDSrai (e rd ra imm : Nat) (s : State) : Host.Outcome State Fault Refusal :=
  runDv e (fun s x => writeG s e rd x ((x.g ra).sshiftRight (imm % 32))) s

/-- SLTI (R193). -/
def execDSlti (e rd ra imm : Nat) (s : State) : Host.Outcome State Fault Refusal :=
  runDv e (fun s x => writeG s e rd x (if sgn (x.g ra) < sgn (sext18 imm) then 1 else 0)) s

/-- LUI (R193). -/
def execDLui (e rd imm : Nat) (s : State) : Host.Outcome State Fault Refusal :=
  runDv e (fun s x => writeG s e rd x (BitVec.ofNat 32 (imm % 2 ^ 22 * 1024))) s

/-! ### Loads and stores -/

/-- The channel whose 32 bytes hold a page or mirror address, and the offset within them. -/
def pageChan (base a : Nat) : Nat × Nat := ((a - base) / 32, (a - base) % 32)

/-- The mirror word of a channel (R191): 0 for a channel the engine does not own. -/
def State.mirror (s : State) (e a : Nat) : Nat :=
  let (n, o) := pageChan 0x20000 a
  let c := s.chan n
  if !owns e n then 0
  else if o = 0x00 then s.chStat n
  else if o = 0x04 then s.word (F.CH_DIAG_TJ n).addr
  else if o = 0x08 then s.word (F.CH_CTL_HUB_CMD n).addr
  else if o = 0x0C then s.chProfile n
  else if o = 0x10 then ofSigned 32 c.iFast
  else if o = 0x14 then bit c.state.live + c.tr % 65536 * 65536
  else 0

/-- Is `a` an address of data memory, of the channel page, of the status mirror (R179)? -/
def inData (a : Nat) : Bool := decide (a < 0x8000)
def inPage (e a : Nat) : Bool := isPower e && decide (0x10000 ≤ a) && decide (a < 0x10600)
def inMirror (e a : Nat) : Bool := isPower e && decide (0x20000 ≤ a) && decide (a < 0x20600)

/-- The address of a load or store. -/
def ea (x : Engine) (ra imm : Nat) : Nat := (x.g ra + sext18 imm).toNat

/-- LDW (R179, R191). -/
def execDLdw (e rd ra imm : Nat) (s : State) : Host.Outcome State Fault Refusal :=
  runDv e (fun s x =>
    let a := ea x ra imm
    if a % 4 ≠ 0 then .fault .align
    else if inData a then
      if x.badData a then .fault .ecc else writeG s e rd x (BitVec.ofNat 32 (x.load a 4)) 2
    else if inMirror e a then writeG s e rd x (BitVec.ofNat 32 (s.mirror e a)) 2
    else .fault .addr) s

/-- A load of `n` bytes from data memory. -/
def loadNarrow (n : Nat) (ext : Nat → Word) (e rd ra imm : Nat) (s : State) : Host.Outcome State Fault Refusal :=
  runDv e (fun s x =>
    let a := ea x ra imm
    if a % n ≠ 0 then .fault .align
    else if inData a then
      if x.badData a then .fault .ecc else writeG s e rd x (ext (x.load a n)) 2
    else .fault .addr) s

/-- LDH (R179). -/
def execDLdh (e rd ra imm : Nat) (s : State) : Host.Outcome State Fault Refusal :=
  loadNarrow 2 (fun v => word (toSigned 16 v)) e rd ra imm s

/-- LDHU (R179). -/
def execDLdhu (e rd ra imm : Nat) (s : State) : Host.Outcome State Fault Refusal :=
  loadNarrow 2 (BitVec.ofNat 32) e rd ra imm s

/-- LDB (R179). -/
def execDLdb (e rd ra imm : Nat) (s : State) : Host.Outcome State Fault Refusal :=
  loadNarrow 1 (fun v => word (toSigned 8 v)) e rd ra imm s

/-- LDBU (R179). -/
def execDLdbu (e rd ra imm : Nat) (s : State) : Host.Outcome State Fault Refusal :=
  loadNarrow 1 (BitVec.ofNat 32) e rd ra imm s

/-- A store of `n` bytes to data memory. -/
def storeData (n e rs ra imm : Nat) (s : State) : Host.Outcome State Fault Refusal :=
  runDv e (fun s x =>
    let a := ea x ra imm
    if a % n ≠ 0 then .fault .align
    else if inData a then
      if n ≠ 4 ∧ x.badData a then .fault .ecc else plain s e (x.storeBytes a n (x.g rs).toNat) 1
    else .fault .addr) s

/-- STW (R179). -/
def execDStw (e rs ra imm : Nat) (s : State) : Host.Outcome State Fault Refusal := storeData 4 e rs ra imm s

/-- STH (R179). -/
def execDSth (e rs ra imm : Nat) (s : State) : Host.Outcome State Fault Refusal := storeData 2 e rs ra imm s

/-- STB (R179). -/
def execDStb (e rs ra imm : Nat) (s : State) : Host.Outcome State Fault Refusal := storeData 1 e rs ra imm s

/-- CSTW (R191, R192): offsets other than GATE, ILIM and DUTY have no effect. -/
def execDCstw (e rs ra imm : Nat) (s : State) : Host.Outcome State Fault Refusal :=
  runDv e (fun s x =>
    let a := ea x ra imm
    if a % 4 ≠ 0 then .fault .align
    else if !inPage e a then .fault .addr
    else if !owns e (pageChan 0x10000 a).1 then .fault .channel
    else if (pageChan 0x10000 a).2 ≤ 0x08 then
      plain s e { x with page := x.page.insert a (x.g rs).toNat } 1
    else plain s e x 1) s

/-! ### Fixed point and bit fields -/

/-- The rounded arithmetic shift of MULQ. -/
def roundShift (p : Int) (sh : Nat) : Int := if sh = 0 then p else (p + 2 ^ (sh - 1)) / (2 ^ sh : Nat)

/-- MULQ (R193, R195). -/
def execDMulq (e rd ra rb sh : Nat) (s : State) : Host.Outcome State Fault Refusal :=
  runDv e (fun s x =>
    writeSat s e rd x (sgn (x.g rd) + roundShift (sgn (x.g ra) * sgn (x.g rb)) (sh % 32)) minWord maxWord 2) s

/-- SATQ (R193, R195); `n` is fn[4:0] + 1. -/
def execDSatq (e rd ra : Nat) (u : Bool) (n : Nat) (s : State) : Host.Outcome State Fault Refusal :=
  runDv e (fun s x =>
    if u then writeSat s e rd x (sgn (x.g ra)) 0 (min (2 ^ n - 1) maxWord)
    else writeSat s e rd x (sgn (x.g ra)) (-2 ^ (n - 1)) (2 ^ (n - 1) - 1)) s

/-- The bytes of a field of `len` bits in the reverse order. -/
def byteswap (f len : Nat) : Nat := (leBytes (len / 8) f).foldl (fun v b => v * 256 + b) 0

/-- May W be 1 for a field of `len` bits? -/
def swappable (len : Nat) : Bool := len == 16 || len == 24 || len == 32

/-- EXT (R193). -/
def execDExt (e rd ra pos len : Nat) (sx w : Bool) (s : State) : Host.Outcome State Fault Refusal :=
  runDv e (fun s x =>
    if 32 < pos + len ∨ (w && !swappable len) then .fault .illegal
    else
      let f := (x.g ra).toNat / 2 ^ pos % 2 ^ len
      let f := if w then byteswap f len else f
      writeG s e rd x (if sx then word (toSigned len f) else BitVec.ofNat 32 f)) s

/-- INS (R193). -/
def execDIns (e rd ra pos len : Nat) (w : Bool) (s : State) : Host.Outcome State Fault Refusal :=
  runDv e (fun s x =>
    if 32 < pos + len ∨ (w && !swappable len) then .fault .illegal
    else
      let f := (x.g ra).toNat % 2 ^ len
      let f := if w then byteswap f len else f
      let m : Word := BitVec.ofNat 32 ((2 ^ len - 1) * 2 ^ pos)
      writeG s e rd x ((x.g rd &&& ~~~m) ||| BitVec.ofNat 32 (f * 2 ^ pos))) s

/-! ### Branches -/

/-- The target of a branch or of JAL from `pc`. -/
def target (pc : Nat) (off : Word) : Nat := (BitVec.ofNat 32 pc + 4 * off).toNat

/-- A branch with its condition. -/
def branch (cond : Word → Word → Bool) (e ra rb off : Nat) (s : State) : Host.Outcome State Fault Refusal :=
  runDv e (fun s x =>
    .ok s (if cond (x.g ra) (x.g rb) then target x.pc (sext18 off) else x.pc + 4) 1) s

/-- BEQ (R193). -/
def execDBeq (e ra rb off : Nat) (s : State) : Host.Outcome State Fault Refusal :=
  branch (fun a b => a == b) e ra rb off s

/-- BNE (R193). -/
def execDBne (e ra rb off : Nat) (s : State) : Host.Outcome State Fault Refusal :=
  branch (fun a b => a != b) e ra rb off s

/-- BLT (R193). -/
def execDBlt (e ra rb off : Nat) (s : State) : Host.Outcome State Fault Refusal :=
  branch (fun a b => decide (sgn a < sgn b)) e ra rb off s

/-- BGE (R193). -/
def execDBge (e ra rb off : Nat) (s : State) : Host.Outcome State Fault Refusal :=
  branch (fun a b => decide (sgn b ≤ sgn a)) e ra rb off s

/-- BLTU (R193). -/
def execDBltu (e ra rb off : Nat) (s : State) : Host.Outcome State Fault Refusal :=
  branch (fun a b => decide (a.toNat < b.toNat)) e ra rb off s

/-- BGEU (R193). -/
def execDBgeu (e ra rb off : Nat) (s : State) : Host.Outcome State Fault Refusal :=
  branch (fun a b => decide (b.toNat ≤ a.toNat)) e ra rb off s

/-- JAL (R193). -/
def execDJal (e rd off : Nat) (s : State) : Host.Outcome State Fault Refusal :=
  runDv e (fun s x =>
    .ok (s.modEng e fun _ => x.setG rd (BitVec.ofNat 32 (x.pc + 4))) (target x.pc (sext22 off)) 1) s

/-- JALR (R193). -/
def execDJalr (e rd ra imm : Nat) (s : State) : Host.Outcome State Fault Refusal :=
  runDv e (fun s x =>
    .ok (s.modEng e fun _ => x.setG rd (BitVec.ofNat 32 (x.pc + 4))) ((x.g ra + sext18 imm).toNat / 4 * 4) 1) s

/-! ### Ports -/

/-- The words a port holds (DVE_PORTq.FILL). -/
def Port.fill (p : Port) : Nat :=
  p.body.length + (p.entries.map Entry.size).foldl (· + ·) 0 + (match p.opened with
    | some (_, _, _, ws) => 1 + ws.length
    | none => 0)

/-- The room of a port of 1,024 words; room for the payload of an open entry is reserved (R184). -/
def Port.room (p : Port) : Nat :=
  1024 - (p.body.length + (p.entries.map Entry.size).foldl (· + ·) 0 + (match p.opened with
    | some (_, _, len, _) => 1 + len
    | none => 0))

/-- The head word of an input port. -/
def Port.head (p : Port) : Option Nat :=
  match p.body, p.entries with
  | v :: _, _ => some v
  | [], en :: _ => some (headerWord en.inst en.status en.payload.length)
  | [], [] => none

/-- Is the head word a header? -/
def Port.atHeader (p : Port) : Bool := p.body.isEmpty && !p.entries.isEmpty

/-- The port with its head word removed. -/
def Port.pop (p : Port) : Port :=
  match p.body, p.entries with
  | _ :: rest, _ => { p with body := rest }
  | [], en :: rest => { p with body := en.payload, bodyInst := en.inst, bodyLen := en.payload.length, entries := rest }
  | [], [] => p

/-- POP and PEEKQ (R183, R193): `-1` in gs where the port is empty. -/
def popPeek (pop : Bool) (e rd rs q : Nat) (s : State) : Host.Outcome State Fault Refusal :=
  runDv e (fun s x =>
    if !s.boundIn e (q % 16) then .fault .port
    else
      let p := x.port (q % 16)
      match p.head with
      | none => writeG s e rs x (word (-1))
      | some v =>
        let p' := if pop then p.pop else p
        let x := x.modPort (q % 16) fun _ => p'
        let x := if pop && p.atHeader then { x with curInst := v / 2 ^ 26 } else x
        writeG s e rs (x.setG rd (BitVec.ofNat 32 v)) (BitVec.ofNat 32 p'.fill)) s

/-- POP (R181, R183, R194). -/
def execDPop (e rd rs q : Nat) (s : State) : Host.Outcome State Fault Refusal := popPeek true e rd rs q s

/-- PEEKQ (R193). -/
def execDPeekq (e rd rs q : Nat) (s : State) : Host.Outcome State Fault Refusal := popPeek false e rd rs q s

/-- The port with a word appended: a header opens an entry, whose last payload word completes it (R184). The port
replaces INST with CUR_INST. -/
def Port.push (p : Port) (cur : Nat) (v : Nat) : Port :=
  let (i, st, len, ws) := match p.opened with
    | none => (cur, bits v 25 18, v % 4096, [])
    | some (i, st, len, ws) => (i, st, len, ws ++ [v])
  if ws.length = len then { p with opened := none, entries := p.entries ++ [⟨i, st, ws⟩] }
  else { p with opened := some (i, st, len, ws) }

/-- The output port whose entry engine e offers to hardware queue h: of its entries for that queue the one completed first
(R185). -/
def State.offerOf (s : State) (e h : Nat) : Option Nat :=
  (s.eng e).order.find? fun q =>
    s.boundOut e q && s.rd (F.DVE_QMAP_HWQ e q) == h && !((s.eng e).port q).entries.isEmpty

/-- Engine e offers to queue h the entry that stands first (R184, R325). -/
def State.offerPort (s : State) (e h : Nat) : State :=
  match s.offerOf e h with
  | none => s
  | some q => match ((s.eng e).port q).entries with
    | [] => s
    | en :: rest => match s.offer h en with
      | (.ok, s') => s'.modEng e fun x => { (x.modPort q fun p => { p with entries := rest }) with order := x.order.erase q }
      | (_, s') => s'

/-- Has engine e an entry that waits for hardware queue h? -/
def State.offersTo (s : State) (e h : Nat) : Bool := (s.offerOf e h).isSome

/-- The commit arbiter of queue h (R185): of the engines of `left` that offer to it the rotating pointer takes one after the
other; a grant among several is a tie. -/
def State.offerQ (s : State) (h : Nat) : Nat → List Nat → State
  | 0, _ => s
  | n + 1, left =>
    match rotFirst 16 s.dve.pointer (fun e => left.contains e && s.offersTo e h) with
    | none => s
    | some e =>
      let s := if left.any fun e' => e' ≠ e && s.offersTo e' h then s.inc (F.DVE_TIE_CNT_TIES 0) else s
      let s := { s with dve := { s.dve with pointer := (e + 1) % 16 } }
      (s.offerPort e h).offerQ h n (left.erase e)

/-- The entries waiting in output ports are offered again (R184). -/
def State.offerAll (s : State) : State := (List.range 512).foldl (fun s h => s.offerQ h 16 engineIds) s

/-- PUSH (R184, R193); gd is the source. -/
def execDPush (e rd rs q : Nat) (s : State) : Host.Outcome State Fault Refusal :=
  runDv e (fun s x =>
    let q := q % 16
    if !s.boundOut e q then .fault .port
    else
      let p := x.port q
      let v := (x.g rd).toNat
      if p.opened.isNone ∧ p.room < v % 4096 + 1 then
        writeG (s.inc (F.DVE_PORT_REFUSED e q)) e rs x (word (-1))
      else
        let s := (s.modEng e fun _ => x.modPort q fun p => p.push x.curInst v)
        let s := if ((s.eng e).port q).opened.isNone then
            (s.modEng e fun x => { x with order := x.order ++ [q] }).offerQ (s.rd (F.DVE_QMAP_HWQ e q)) 16 engineIds
          else s
        let x := s.eng e
        writeG s e rs x (BitVec.ofNat 32 (x.port q).room)) s

/-! ### Events and WAIT -/

/-- PORTq ready (R187). -/
def State.portReady (s : State) (e q : Nat) : Bool :=
  let p := (s.eng e).port q
  (s.boundIn e q && decide (0 < p.fill)) || (s.boundOut e q && p.opened.isNone && decide (64 ≤ p.room))

/-- The pending events of engine e (DVE_EVT_PEND). -/
def State.pendingEvents (s : State) (e : Nat) : Nat :=
  (List.range 16).foldl (fun m q => if s.portReady e q then maskSet m q else m) 0 ||| (s.eng e).edges

/-- The engine takes the events of a mask: they go to rd, the edge events among them are cleared, and the burst closes
(R188). -/
def State.takeEvents (s : State) (e rd ev : Nat) : State :=
  (s.notePeak e).modEng e fun x =>
    { (x.setG rd (BitVec.ofNat 32 ev)) with edges := x.edges &&& (x.edges ^^^ ev), burst := 0 }

/-- WAIT (R188, R201): the boundary's drains come before events are evaluated. WAIT is the last instruction of its burst. -/
def execDWait (e rd ra : Nat) (s : State) : Host.Outcome State Fault Refusal :=
  runDv e (fun s _ =>
    let s := (s.drainAll e).modEng e fun x => { x with burst := x.burst + 1 }
    let x := s.eng e
    let mask := x.g ra
    let ev := s.pendingEvents e &&& mask.toNat
    if ev ≠ 0 then .ok (s.takeEvents e rd ev) (x.pc + 4) 1 0
    else if 0xFFFC < x.pc + 4 then .fault .pcRange
    else .ok ((s.notePeak e).modEng e fun x => { x with state := .waiting, waitMask := mask, waitRd := rd, burst := 0 }) x.pc 0) s

/-- WAIT_WAKE (R188): the sleeping WAIT returns, 3 cycles after the event. -/
def execWaitWake (t e : Nat) (s : State) : Host.Outcome State Fault Refusal :=
  let s := s.tick t
  onUnit (decide (e < 16)) <|
    let x := s.eng e
    let ev := s.pendingEvents e &&& x.waitMask.toNat
    if x.state = .waiting ∧ ev ≠ 0 then
      (s.takeEvents e x.waitRd ev).modEng e fun x =>
        { x with state := .running, pc := if x.routing then x.pc else x.pc + 4, cycles := x.cycles + 3 }
    else s

/-! ### Timers and special registers -/

/-- TSET (R190). Mode 3, which the spec does not give, fires at an open instant (log entry 4). -/
def execDTset (e ra mode k : Nat) (s : State) : Host.Outcome State Fault Refusal :=
  runDv e (fun s x =>
    let v := (x.g ra).toNat
    let arm (tm : EngTimer) (s : State) : Eff := plain s e { x with timers := x.timers.insert (k % 8) tm } 1
    match mode % 4 with
    | 0 => arm ⟨s.now + v, 0, none⟩ s
    | 1 => arm ⟨s.now + max 100 v, max 100 v, none⟩ s
    | 2 =>
      let d := (BitVec.ofNat 32 s.now - BitVec.ofNat 32 v).toInt
      arm ⟨if d < 0 then s.now + d.natAbs else s.now, 0, some v⟩ s
    | _ =>
      let (r, s) := s.draw (2 ^ 32)
      arm ⟨s.now + r, 0, none⟩ s) s

/-- TCLR (R190). -/
def execDTclr (e k : Nat) (s : State) : Host.Outcome State Fault Refusal :=
  runDv e (fun s x => plain s e { x with timers := x.timers.erase (k % 8) } 1) s

/-- ENGINE_TIMER_FIRE (R187, R190). -/
def execEngineTimerFire (t e k : Nat) (s : State) : Host.Outcome State Fault Refusal :=
  let s := s.tick t
  onUnit (decide (e < 16 ∧ k < 8)) <|
    match (s.eng e).timers.find? k with
    | none => s
    | some tm =>
      if tm.due ≤ s.now then
        (s.raiseEdge e (16 + k)).modEng e fun x =>
          { x with timers := if tm.period = 0 then x.timers.erase k else x.timers.insert k { tm with due := tm.due + tm.period } }
      else s

/-- MOVS (R180): reading FRC_LO latches FRC_HI. -/
def execDMovs (e rd sel : Nat) (s : State) : Host.Outcome State Fault Refusal :=
  runDv e (fun s x =>
    let out (x : Engine) (v : Nat) : Eff := writeG s e rd x (BitVec.ofNat 32 v)
    match sel % 16 with
    | 0 => out { x with frcHi := s.now / 2 ^ 32 % 2 ^ 32 } s.now
    | 1 => out x x.frcHi
    | 2 => out x x.cycles
    | 3 => out x e
    | 4 => out x x.curInst
    | 5 => out x (s.rd (F.DVE_STAT_SAT e))
    | _ => out x 0) s

/-- Is instance i granted to engine e (DVE_INST_ALLOW)? -/
def State.granted (s : State) (e i : Nat) : Bool := s.rdMask (F.DVE_INST_ALLOW_ALLOW e) i

/-- SETS (R180, R181, R195). -/
def execDSets (e ra sel : Nat) (s : State) : Host.Outcome State Fault Refusal :=
  runDv e (fun s x =>
    let v := (x.g ra).toNat
    match sel % 16 with
    | 4 => if s.granted e (v % 64) then plain s e { x with curInst := v % 64 } 1 else .fault .inst
    | 5 => plain (s.wr (F.DVE_STAT_SAT e) (v % 2)) e x 1
    | _ => plain s e x 1) s

/-- BURST_LIMIT_EXPIRY (R189, R196). -/
def execBurstLimitExpiry (t e : Nat) (s : State) : Host.Outcome State Fault Refusal :=
  let s := s.tick t
  onUnit (decide (e < 16)) <|
    if (s.eng e).state = .running ∧ s.rd (F.DVE_BURST_BURST_MAX e) * 8 ≤ (s.eng e).burst then s.engFault e .burst else s

/-! ### Control from the hub -/

/-- A write to engine e's block: the blocks of engines 12 to 15 take Attic writes only (R198). -/
def dveAccess (t : Nat) (a : Attr) (e off : Nat) (f : State → State) (s : State) : Host.Outcome State Fault Refusal :=
  let s := s.tick t
  onUnit (decide (e < 16)) <| s.guarded a (0x40400000 + e * 0x10000 + off) true (!isPower e || a.attic) f

/-- DOORBELL (R187). -/
def execDoorbell (t : Nat) (a : Attr) (e ring : Nat) (s : State) : Host.Outcome State Fault Refusal :=
  dveAccess t a e 0x40 (fun s =>
    s.modEng e fun x => { x with edges := x.edges ||| (ring % 16 * 2 ^ 24) }) s

/-- A command or write is refused (DVE_STAT.CMD_REFUSED). -/
def State.dveRefuse (s : State) (e : Nat) : State := s.raise (F.DVE_STAT_CMD_REFUSED e)

/-- May STOP and LOAD act on a power engine: is every channel of it OFF or LATCHED (R198)? -/
def State.powerIdle (s : State) (e : Nat) : Bool :=
  !isPower e || (channelsOf e).all fun n => (s.chan n).state == .off || (s.chan n).state == .latched

/-- The routes that engine e serves: those VALID whose IN_HWQ is bound to one of its input ports. -/
def State.routesOf (s : State) (e : Nat) : List Nat :=
  (List.range 2048).filter fun r => s.flag (F.GW_ROUTE0_VALID r) && (List.range 16).any fun q =>
    s.boundIn e q && s.rd (F.GW_ROUTE0_IN_HWQ r) == s.rd (F.DVE_QMAP_HWQ e q)

/-- Does engine e serve a route? -/
def State.servesRoute (s : State) (e : Nat) : Bool := !(s.routesOf e).isEmpty

/-- The hash of the tables that a route program holds at data addresses 0x0000 to 0x001F (R208), byte 0 first. -/
def EngImage.tableHash (im : EngImage) : Nat := (List.range 32).foldl (fun h k => h * 256 + im.data.getD k 0) 0

/-- May START act (R208): a route program of engines 0 to 11 holds the hash of the tables. -/
def State.hashFits (s : State) (e : Nat) (im : EngImage) : Bool :=
  isPower e || !s.servesRoute e || im.tableHash == s.rdHash F.GWTAB_DESC_HASH_HASH

/-- The engine starts at ENTRY with a fresh state (R181, R198). One of engines 0 to 11 that serves a route runs a route program
(R208, R211). -/
def State.engStart (s : State) (e : Nat) (im : EngImage) : State :=
  let cur := ((List.range 64).find? fun i => s.granted e i).getD 0
  let s := (s.wr (F.DVE_STAT_SAT e) 0).wr (F.DVE_BURST_BURST_PEAK e) 0
  let routing := !isPower e && s.servesRoute e
  let s := if routing then { s with stair := { s.stair with
      routes := s.stair.routes.filter fun x : Nat × RouteRun => !(s.routesOf e).contains x.1 } } else s
  s.modEng e fun x =>
    { x with state := .running, pc := im.entry, regs := [], dmem := Memory.writeRun [] 0 im.data, timers := [],
             curInst := cur, burst := 0, eccD := [], routing := routing }

/-- DVE_START (R198). -/
def execDveStart (t : Nat) (a : Attr) (e : Nat) (s : State) : Host.Outcome State Fault Refusal :=
  dveAccess t a e 0 (fun s =>
    match (s.eng e).state, (s.eng e).image with
    | .stopped, some im | .fault, some im => if s.hashFits e im then s.engStart e im else s.dveRefuse e
    | .stopped, none | .fault, none => s.dveRefuse e
    | _, _ => s) s

/-- DVE_STOP (R198). -/
def execDveStop (t : Nat) (a : Attr) (e : Nat) (s : State) : Host.Outcome State Fault Refusal :=
  dveAccess t a e 0 (fun s =>
    if !s.powerIdle e then s.dveRefuse e
    else match (s.eng e).state with
      | .running | .waiting | .fault => s.engStop e
      | .stopped | .loading => s) s

/-- DVE_LOAD (R198, R200): the Attic takes up the image at DVE_LOAD_ADDR. -/
def execDveLoad (t : Nat) (a : Attr) (e : Nat) (s : State) : Host.Outcome State Fault Refusal :=
  dveAccess t a e 0 (fun s =>
    if !s.powerIdle e then s.dveRefuse e
    else if (s.eng e).state = .stopped then
      let addr := s.rd (F.DVE_LOAD_ADDR_ADDR e 0) / 4 * 4 + s.rd (F.DVE_LOAD_ADDR_ADDR e 1) % 256 * 2 ^ 32
      (s.modEng e fun x => { x with state := .loading, loading := some addr }).latchChannels e
    else s.wr (F.DVE_LOAD_RESULT_RESULT e) 1) s

/-- `n` bytes of memory. -/
def State.bytesAt (s : State) (a n : Nat) : List Nat := (List.range n).map fun k => (Memory.read s.mem (a + k)).toNat

/-- Bytes as a number, first byte least significant (R199), and first byte most significant, as digests are written (R473). -/
def leNat (bs : List Nat) : Nat := bs.foldr (fun b n => b + 256 * n) 0
def beNat (bs : List Nat) : Nat := bs.foldl (fun n b => 256 * n + b) 0

/-- The image of *Table: Dervos image* at an address, with the verdicts of checks 1, 4 and 5 (R199, R200); none where its MAGIC,
FORMAT or lengths are not those of the table. -/
def State.imageAt (s : State) (a : Nat) : Option EngLoad :=
  let h := s.bytesAt a 64
  let field (k n : Nat) : Nat := leNat ((h.drop k).take n)
  let codeLen := field 12 4
  let dataLen := field 16 4
  if h.take 4 ≠ [0x44, 0x56, 0x58, 0x31] ∨ field 4 2 ≠ 1 ∨ codeLen % 4 ≠ 0 ∨ codeLen < 4 ∨ 65536 < codeLen ∨
      dataLen % 4 ≠ 0 ∨ 32768 < dataLen then none
  else
    let body := s.bytesAt (a + 64) (codeLen + dataLen)
    let hash := beNat ((h.drop 20).take 32)
    some {
      formatOk := true, cls := field 7 1, cl := field 6 1
      pins := s.pinsFor (h ++ body) (s.bytesAt (a + 64 + codeLen + dataLen) 3405)
      hashOk := Config.sha256 body == hash, hash := hash, entry := field 8 4
      code := (List.range (codeLen / 4)).map fun k => leNat ((body.drop (4 * k)).take 4)
      data := body.drop codeLen }

/-- The checks of R200 in their order: LOAD_RESULT, the signatures under any non-revoked pin (R359). Image verification goes on while
ROOT is blocked (R362). -/
def State.loadResult (s : State) (e : Nat) (m : EngLoad) : Nat :=
  if !(m.formatOk && m.entry % 4 == 0 && decide (m.entry < 4 * m.code.length) && decide (1 ≤ m.code.length) &&
      decide (m.code.length ≤ 16384) && decide (m.data.length ≤ 32768) && m.data.length % 4 == 0) then 2
  else if m.cls ≠ (if isPower e then 2 else 1) then 3
  else if s.rd F.SYSCTL_ID_CL < m.cl then 4
  else if !s.pinsOk m.pins then 5
  else if !m.hashOk then 6
  else 0

/-- A verified image is copied into the engine's memories (R200). -/
def State.engLoad (s : State) (e : Nat) (m : EngLoad) : State :=
  let s := s.modEng e fun x => { x with
    image := some ⟨m.entry, m.data⟩
    pmem := (List.range m.code.length).foldl (fun p k => p.put 0 k (BitVec.ofNat 32 (m.code.getD k 0))) []
    dmem := Memory.writeRun [] 0 m.data
    eccP := []
    eccD := []
    std := false }
  (s.wr (F.DVE_STAT_CLASS e) m.cls).wrHash (F.DVE_IMG_HASH_HASH e) m.hash

/-- A refused image leaves the memories marked empty (R198). -/
def State.engEmpty (s : State) (e : Nat) : State :=
  ((s.modEng e fun x => { x with image := none, pmem := [], dmem := [], eccP := [], eccD := [], std := false }).wr (F.DVE_STAT_CLASS e) 0).wrHash
    (F.DVE_IMG_HASH_HASH e) 0

/-- LOAD_COMPLETE (R200). An image that the Attic's check may not read is read as zeros (R345), which are no image. -/
def execLoadComplete (t e : Nat) (s : State) : Host.Outcome State Fault Refusal :=
  let s := s.tick t
  onUnit (decide (e < 16)) <|
    match (s.eng e).loading with
    | none => s
    | some addr =>
      let m := if s.reaches addr 64 false then s.imageAt addr else none
      let n := (m.map fun m => 64 + 4 * m.code.length + m.data.length + 3405).getD 64
      let m := m.filter fun _ => s.reaches addr n false
      let s := s.buffer addr n false id id
      let r := match m with | some m => s.loadResult e m | none => 2
      let s := (s.modEng e fun x => { x with state := .stopped, loading := none }).wr (F.DVE_LOAD_RESULT_RESULT e) r
      match m with
      | some m => if r = 0 then s.engLoad e m else s.engEmpty e
      | none => s.engEmpty e

/-- Is hardware queue h bound as an input by a port other than port q of engine e? -/
def State.inputTaken (s : State) (e q h : Nat) : Bool :=
  engineIds.any fun e' => (List.range 16).any fun q' =>
    !(e' == e && q' == q) && s.boundIn e' q' && s.rd (F.DVE_QMAP_HWQ e' q') == h

/-- QMAP_WRITE (R186, R198). -/
def execQmapWrite (t : Nat) (a : Attr) (e q : Nat) (value : Word) (s : State) : Host.Outcome State Fault Refusal :=
  let v := value.toNat
  let h := bits v 8 0
  dveAccess t a e (0x100 + 4 * (q % 16)) (fun s =>
    let q := q % 16
    let input := bits v 31 31 = 1 ∧ bits v 30 30 = 0
    if (s.eng e).state ≠ .stopped then s.dveRefuse e
    else if input ∧ (384 ≤ h ∨ s.rd (F.VIM_HWQ_CFG_END h) ≠ 1 ∨ s.inputTaken e q h) then s.dveRefuse e
    else ((s.wr (F.DVE_QMAP_EN e q) (bits v 31 31)).wr (F.DVE_QMAP_DIR e q) (bits v 30 30)).wr (F.DVE_QMAP_HWQ e q) h) s

/-- INST_ALLOW_WRITE (R181): other than from the Attic and in STOPPED it is ignored with CMD_REFUSED. -/
def execInstAllowWrite (t : Nat) (a : Attr) (e : Nat) (hi : Bool) (value : Word) (s : State) :
    Host.Outcome State Fault Refusal :=
  dveAccess t a e (if hi then 0x5C else 0x58) (fun s =>
    if a.attic ∧ (s.eng e).state = .stopped then s.wr (F.DVE_INST_ALLOW_ALLOW e (bit hi)) value.toNat
    else s.dveRefuse e) s

/-- DMEM_WRITE (DVE_DMEM): only in STOPPED. -/
def execDmemWrite (t : Nat) (a : Attr) (e off : Nat) (value : Word) (s : State) : Host.Outcome State Fault Refusal :=
  let off := off % 0x8000 / 4 * 4
  dveAccess t a e (0x8000 + off) (fun s =>
    if (s.eng e).state = .stopped then s.modEng e fun x => x.storeBytes off 4 value.toNat else s) s

/-- ENGINE_FENCE_ARRIVE (R201): an engine that is not RUNNING drains at once, a RUNNING one at its next WAIT. -/
def execEngineFenceArrive (t e i : Nat) (s : State) : Host.Outcome State Fault Refusal :=
  let s := s.tick t
  onUnit (decide (e < 16 ∧ i < 64)) <|
    if s.awaits i (4 + e) && !(s.eng e).drains.contains i then
      if (s.eng e).state = .running then s.modEng e fun x => { x with drains := x.drains ++ [i] }
      else s.drainEngine e i
    else s

end Sys2Proof.Machine
end

