-- ==== Sys2Proof/Machine/Gateway.lean ====
section
/-! DEFINITION. The signal gateway's classifier and tables (*Signal gateway and the Stairwell bridge*, R202 to R213). -/

namespace Sys2Proof.Machine

/-! ### The classifier -/

/-- The address of word 0 of key k. -/
def keyAddr (k : Nat) : Nat := 0x40520000 + 32 * k

/-- VALID, XTD and SRC of key k as a lookup sees them: in the clock of a write to word 0 the value before it (R207). -/
def State.keyHead (s : State) (k : Nat) : Bool × Bool × Nat :=
  match s.clk.olds.find? (keyAddr k) with
  | some w => (w.testBit 31, w.testBit 23, bits w 28 24)
  | none => (s.flag (F.GW_KEY0_VALID k), s.flag (F.GW_KEY0_XTD k), s.rd (F.GW_KEY0_SRC k))

/-- Does key k match the frame (R203)? -/
def State.keyMatches (s : State) (k : Nat) (f : SrcFrame) : Bool :=
  let m := s.rd (F.GW_KEY2_MASK k)
  let h := s.keyHead k
  h.1 && h.2.2 == f.src && (!h.2.1 || f.xtd) && f.id &&& m == s.rd (F.GW_KEY1_ID k) &&& m

/-- The first matching key, in increasing index. -/
def State.keyHit (s : State) (f : SrcFrame) : Option Nat := (List.range 4096).find? fun k => s.keyMatches k f

/-- Is a source code one of a CAN controller? -/
def SrcFrame.fromCan (f : SrcFrame) : Bool := decide (f.src < 12)

/-- The bytes of a list from its start as little-endian words, the last one padded with 0. -/
def packWords : List Nat → List Nat
  | [] => []
  | [a] => [a % 256]
  | [a, b] => [a % 256 + b % 256 * 256]
  | [a, b, c] => [a % 256 + b % 256 * 256 + c % 256 * 65536]
  | a :: b :: c :: d :: rest => (a % 256 + b % 256 * 256 + c % 256 * 65536 + d % 256 * 16777216) :: packWords rest

/-- The route entry for route r (R204). -/
def routeEntry (f : SrcFrame) (r inst : Nat) : Entry :=
  let data := f.data.take 2048
  let flags := if SrcFrame.fromCan f then bit f.xtd * 2 ^ 31 + bit f.fd * 2 ^ 30 + bit f.xl * 2 ^ 29 else 0
  ⟨inst, 0, (r % 2048 * 2 ^ 21 + f.src % 32 * 2 ^ 16 + data.length % 2 ^ 16) :: (flags + f.id % 2 ^ 29) ::
    (f.cap % 2 ^ 32) :: packWords data⟩

/-- A copy is dropped (R205). -/
def State.dropCopy (s : State) : State := s.inc F.GWTAB_CNT_DROPPED

/-- Is route r one of an instance in reset, so that no entry of it is delivered (R213)? -/
def State.routeFenced (s : State) (r : Nat) : Bool :=
  s.flag (F.GW_ROUTE0_VALID r) && (s.inst (s.rd (F.GW_ROUTE0_INST r))).state == .resetting

/-- The copy of a frame for route r (R203, R205, R335). -/
def State.deliverRoute (s : State) (f : SrcFrame) (r : Nat) : State :=
  let i := s.rd (F.GW_ROUTE0_INST r)
  if !s.flag (F.GW_ROUTE0_VALID r) then s
  else if (s.inst i).state.held then s.inc (F.VIM_INST_CNT2_FROZEN_DROP i)
  else if s.routeFenced r then s
  else match s.offer (s.rd (F.GW_ROUTE0_IN_HWQ r)) (routeEntry f r i) with
    | (.ok, s') => s'
    | (_, s') => s'.dropCopy

/-- The routes named in key k, ROUTE0 first. -/
def State.keyRoutes (s : State) (k : Nat) : List Nat :=
  ((List.range 4).map fun j => [s.rd (F.GW_KEY_ROUTE_ROUTE_LO k j), s.rd (F.GW_KEY_ROUTE_ROUTE_HI k j)]).flatten.filterMap
    fun h => if h.testBit 15 then some (h % 2048) else none

/-- One source frame at the classifier (R203); one that a fenced route does not get counts once in DROPPED (R213). -/
def State.classifyOne (s : State) (f : SrcFrame) : State :=
  match s.keyHit f with
  | none => s.inc F.GWTAB_CNT_NOMATCH
  | some k =>
    let routes := s.keyRoutes k
    let s := if routes.any s.routeFenced then s.dropCopy else s
    routes.foldl (fun s r => s.deliverRoute f r) (s.inc (F.GW_KEY3_HITS k))

/-- The earliest captured instant of a list of source frames. -/
def firstCap : List SrcFrame → Nat
  | [] => 0
  | [f] => f.cap
  | f :: fs => min f.cap (firstCap fs)

/-- Source frames in the order in which they reached the classifier; those of one clock in rotating-pointer order over the 32
source codes (R206). Frames of one source keep their order. -/
def State.classifyAll (s : State) : Nat → List SrcFrame → State
  | 0, _ => s
  | n + 1, fs =>
    let now := firstCap fs
    match rotFirst 32 s.stair.srcPtr fun c => fs.any fun f => f.src == c && f.cap == now with
    | none => s
    | some c =>
      match fs.find? fun f => f.src == c && f.cap == now with
      | none => s
      | some f =>
        let s := if fs.any fun g => g.src != c && g.cap == now then s.inc F.GWTAB_TIE_CNT_TIES else s
        let s := { s with stair := { s.stair with srcPtr := (c + 1) % 32 } }
        (s.classifyOne f).classifyAll n (fs.erase f)

/-- CLASSIFY_FRAME (R202 to R206): the frames offered to the gateway. -/
def execClassifyFrame (t : Nat) (s : State) : Host.Outcome State Fault Refusal :=
  let s := s.tick t
  let fs := s.stair.offered
  let s := { s with stair := { s.stair with offered := [] } }
  .next (if s.flag F.GWTAB_CTL_CLASSIFY_EN then s.classifyAll fs.length fs else s)

/-- CLASSIFIER_FENCE (R213): while the reset lasts no entry of the instance is delivered. -/
def execClassifierFence (t i : Nat) (s : State) : Host.Outcome State Fault Refusal :=
  let s := s.tick t
  onUnit (decide (i < 64)) (if s.awaits i 2 then s.markDrained i 2 else s)

/-! ### The tables -/

/-- A table write is refused. -/
def State.gwRefuse (s : State) : State := s.raise F.GWTAB_STAT_CFG_REFUSED

/-- Word w of key k is written. -/
def State.writeKey (s : State) (k w v : Nat) : State :=
  match w with
  | 0 => (((s.updates (keyAddr k) (s.word (keyAddr k))).wr (F.GW_KEY0_VALID k) (bits v 31 31)).wr (F.GW_KEY0_SRC k)
      (bits v 28 24)).wr (F.GW_KEY0_XTD k) (bits v 23 23)
  | 1 => s.wr (F.GW_KEY1_ID k) (bits v 28 0)
  | 2 => s.wr (F.GW_KEY2_MASK k) (bits v 28 0)
  | 3 => s
  | _ => (s.wr (F.GW_KEY_ROUTE_ROUTE_HI k (w - 4)) (bits v 31 16)).wr (F.GW_KEY_ROUTE_ROUTE_LO k (w - 4)) (bits v 15 0)

/-- KEY_WRITE (R207). -/
def execKeyWrite (t : Nat) (a : Attr) (k w : Nat) (value : Word) (s : State) : Host.Outcome State Fault Refusal :=
  let s := s.tick t
  onUnit (decide (k < 4096 ∧ w < 8)) <| s.guarded a (keyAddr k + 4 * w) true true fun s =>
    if w ≠ 0 ∧ w ≠ 3 ∧ s.flag (F.GW_KEY0_VALID k) then s.gwRefuse else s.writeKey k w value.toNat

/-- Word w of route entry k is written. -/
def State.writeRoute (s : State) (k w v : Nat) : State :=
  match w with
  | 0 => (((s.wr (F.GW_ROUTE0_VALID k) (bits v 31 31)).wr (F.GW_ROUTE0_INST k) (bits v 30 25)).wr
      (F.GW_ROUTE0_IN_HWQ k) (bits v 24 16)).wr (F.GW_ROUTE0_TRIGGER k) (bits v 15 14)
  | 1 => (s.wr (F.GW_ROUTE1_DESC_FIRST k) (bits v 28 16)).wr (F.GW_ROUTE1_DESC_CNT k) (bits v 6 0)
  | 2 => (s.wr (F.GW_ROUTE2_PERIOD_MS k) (bits v 31 16)).wr (F.GW_ROUTE2_TIMEOUT_MS k) (bits v 15 0)
  | _ => (s.wr (F.GW_ROUTE3_DST k) (bits v 31 29)).wr (F.GW_ROUTE3_PDU_ID k) (bits v 28 0)

/-- Word w of descriptor k is written. -/
def State.writeDesc (s : State) (k w v : Nat) : State :=
  match w with
  | 0 => ((s.wr (F.GW_DESC0_KEY k) (bits v 31 19)).wr (F.GW_DESC0_SRC_START k) (bits v 18 5)).wr
      (F.GW_DESC0_SRC_LEN k) (bits v 4 0)
  | 1 => ((((((s.wr (F.GW_DESC1_SRC_BE k) (bits v 31 31)).wr (F.GW_DESC1_SRC_SIGNED k) (bits v 30 30)).wr
      (F.GW_DESC1_DST_BE k) (bits v 29 29)).wr (F.GW_DESC1_DST_SIGNED k) (bits v 28 28)).wr
      (F.GW_DESC1_DST_LEN k) (bits v 27 23)).wr (F.GW_DESC1_DST_START k) (bits v 22 9)).wr (F.GW_DESC1_SH k) (bits v 8 4)
  | 2 => s.wr (F.GW_DESC2_FACTOR k) v
  | 3 => s.wr (F.GW_DESC3_OFFSET k) v
  | 4 => s.wr (F.GW_DESC4_SUBST k) v
  | _ => s

/-- ROUTE_TABLE_WRITE (R208). -/
def execRouteTableWrite (t : Nat) (a : Attr) (desc : Bool) (k w : Nat) (value : Word) (s : State) :
    Host.Outcome State Fault Refusal :=
  let s := s.tick t
  onUnit (decide (k < (if desc then 8192 else 2048) ∧ w < (if desc then 8 else 4))) <|
    s.guarded a (if desc then 0x40540000 + 32 * k + 4 * w else 0x40510000 + 16 * k + 4 * w) true true fun s =>
      if s.flag F.GWTAB_CTL_CLASSIFY_EN then s.gwRefuse
      else if desc then s.writeDesc k w value.toNat else s.writeRoute k w value.toNat

/-- SEAL (R208). -/
def execGwSeal (t : Nat) (a : Attr) (s : State) : Host.Outcome State Fault Refusal :=
  let s := s.tick t
  .next (s.guarded a F.GWTAB_CTL_CLASSIFY_EN.addr true true fun s =>
    if s.flag F.GWTAB_CTL_CLASSIFY_EN then s.gwRefuse else s.setF F.GWTAB_STAT_SEAL_BUSY)

/-- The bytes of both tables, the route table first (R208). -/
def State.tableBytes (s : State) : List Nat :=
  ((List.range 2048).map fun r => ((List.range 4).map fun w => wordBytes (s.word (0x40510000 + 16 * r + 4 * w))).flatten).flatten ++
  ((List.range 8192).map fun d => ((List.range 8).map fun w => wordBytes (s.word (0x40540000 + 32 * d + 4 * w))).flatten).flatten

/-- SEAL_COMPLETE (R208). -/
def execGwSealComplete (t : Nat) (s : State) : Host.Outcome State Fault Refusal :=
  let s := s.tick t
  .next (if s.flag F.GWTAB_STAT_SEAL_BUSY then
      (s.clrF F.GWTAB_STAT_SEAL_BUSY).wrHash F.GWTAB_DESC_HASH_HASH (Config.sha256 s.tableBytes)
    else s)

/-! ### Signal descriptors (R209, R210): what a compiled route program computes -/

/-- The place of the next less significant bit of a big-endian signal (R209). -/
def nextBe (b : Nat) : Nat := if b % 8 = 0 then b + 15 else b - 1

/-- The bits of a big-endian signal, from its most significant one on. -/
def runBe (start : Nat) : Nat → List Nat
  | 0 => []
  | n + 1 => start :: runBe (nextBe start) n

/-- The bits that a signal occupies, least significant first (R209). -/
def sigBits (be : Bool) (start len : Nat) : List Nat :=
  if be then (runBe start len).reverse else (List.range len).map fun k => start + k

/-- Bit b of a frame's data (R209). -/
def dataBit (data : List Nat) (b : Nat) : Nat := data.getD (b / 8) 0 / 2 ^ (b % 8) % 2

/-- The value of the bits of a list, least significant first. -/
def bitsValue (data : List Nat) : List Nat → Nat
  | [] => 0
  | b :: rest => dataBit data b + 2 * bitsValue data rest

/-- A signal of the data delivered; one that runs past them is missing (R209). -/
def field? (data : List Nat) (be : Bool) (start len : Nat) : Option Nat :=
  let l := sigBits be start len
  if l.all fun b => decide (b < 8 * data.length) then some (bitsValue data l) else none

/-- One bit of a signal area set to `v`. -/
def setAreaBit (area : List Nat) (b v : Nat) : List Nat :=
  let w := area.getD (b / 8) 0
  area.set (b / 8) (w - w / 2 ^ (b % 8) % 2 * 2 ^ (b % 8) + v % 2 * 2 ^ (b % 8))

/-- A value placed in the signal area at its bits, least significant first (R209). -/
def placeBits (area : List Nat) (v : Nat) : List Nat → List Nat
  | [] => area
  | b :: rest => placeBits (setAreaBit area b v) (v / 2) rest

/-- A signal descriptor (*Table: GWTAB descriptor*). -/
structure SigDesc where
  key       : Nat
  srcStart  : Nat
  srcLen    : Nat
  srcBe     : Bool
  srcSigned : Bool
  dstBe     : Bool
  dstStart  : Nat
  dstLen    : Nat
  dstSigned : Bool
  sh        : Nat
  factor    : Int
  offset    : Int
  subst     : Nat
  deriving DecidableEq, Repr

/-- The rounded shift of the transform. -/
def sigRound (p : Int) (sh : Nat) : Int := if sh = 0 then p else (p + 2 ^ (sh - 1)) / (2 ^ sh : Nat)

/-- The destination value of a raw signal and whether it was limited (R210). -/
def SigDesc.scale (d : SigDesc) (raw : Nat) : Int × Bool :=
  let raw : Int := if d.srcSigned then toSigned d.srcLen raw else raw
  let v := d.offset + sigRound (raw * d.factor) d.sh
  let r := if d.dstSigned then satInt v (-2 ^ (d.dstLen - 1)) (2 ^ (d.dstLen - 1) - 1) else satInt v 0 (2 ^ d.dstLen - 1)
  (r, decide (r ≠ v))

/-- The destination value of a signal of a frame's data, none where it is missing (R209, R210). -/
def SigDesc.transform (d : SigDesc) (data : List Nat) : Option (Int × Bool) :=
  (field? data d.srcBe d.srcStart d.srcLen).map d.scale

/-- Descriptor k of the table. -/
def State.sigDesc (s : State) (k : Nat) : SigDesc where
  key := s.rd (F.GW_DESC0_KEY k)
  srcStart := s.rd (F.GW_DESC0_SRC_START k)
  srcLen := s.rd (F.GW_DESC0_SRC_LEN k) + 1
  srcBe := s.flag (F.GW_DESC1_SRC_BE k)
  srcSigned := s.flag (F.GW_DESC1_SRC_SIGNED k)
  dstBe := s.flag (F.GW_DESC1_DST_BE k)
  dstStart := s.rd (F.GW_DESC1_DST_START k)
  dstLen := s.rd (F.GW_DESC1_DST_LEN k) + 1
  dstSigned := s.flag (F.GW_DESC1_DST_SIGNED k)
  sh := s.rd (F.GW_DESC1_SH k)
  factor := toSigned 32 (s.rd (F.GW_DESC2_FACTOR k))
  offset := toSigned 32 (s.rd (F.GW_DESC3_OFFSET k))
  subst := s.rd (F.GW_DESC4_SUBST k)

end Sys2Proof.Machine
end

