-- ==== Sys2Proof/Machine/Pantry.lean ====
section
/-! DEFINITION. The worlds of the cores, the region words, the L2 partition, the claims, the Pantry's commands and the
tamper latch (*Attic and Parlour, the Pantry, and tamper*, R341 to R367). -/

namespace Sys2Proof.Machine

/-! ### Worlds, regions, the L2 and claims -/

/-- A core takes a world, counting the switch (R342, R343). -/
def State.switchWorld (s : State) (h world : Nat) : State :=
  if s.rd (F.WORLD_HART_CUR h) = world then s
  else (s.wr (F.WORLD_HART_CUR h) world).inc (F.WORLD_HART_SWITCHES h)

/-- MACHINE_TRAP (R342). -/
def execMachineTrap (t h : Nat) (s : State) : Host.Outcome State Fault Refusal :=
  let s := s.tick t
  onUnit (decide (h < 8)) (s.switchWorld h 1)

/-- MRET (R342): the core leaves the Attic only when its NEXT is 0. -/
def execMret (t h : Nat) (s : State) : Host.Outcome State Fault Refusal :=
  let s := s.tick t
  onUnit (decide (h < 8)) (if s.flag (F.WORLD_HART_NEXT h) then s else s.switchWorld h 0)

/-- Writes word `w` of region r of set k (R346); a check of the present clock still takes the value before. -/
def State.writeRegion (s : State) (k r w v : Nat) : State :=
  let addr := (F.WORLD_RGN0_BASE k r).addr + 4 * w
  let s := s.updates addr (s.word addr)
  match w with
  | 0 => s.wr (F.WORLD_RGN0_BASE k r) v
  | 1 => s.wr (F.WORLD_RGN1_LIMIT k r) v
  | _ =>
    let s := ((s.wr (F.WORLD_RGN2_EN k r) (bits v 31 31)).wr (F.WORLD_RGN2_LOCK k r) (bits v 30 30)).wr
      (F.WORLD_RGN2_A_R k r) (bits v 29 29)
    let s := ((s.wr (F.WORLD_RGN2_A_W k r) (bits v 28 28)).wr (F.WORLD_RGN2_P_R k r) (bits v 27 27)).wr
      (F.WORLD_RGN2_P_W k r) (bits v 26 26)
    ((s.wr (F.WORLD_RGN2_DOM k r) (bits v 25 23)).wr (F.WORLD_RGN2_INST_EN k r) (bits v 22 22)).wr
      (F.WORLD_RGN2_INST k r) (bits v 21 16)

/-- REGION_WRITE (R346): by Attic transactions of instance 0 with domain tag hub; a locked region ignores writes. -/
def execRegionWrite (t : Nat) (a : Attr) (k r word : Nat) (value : Word) (s : State) : Host.Outcome State Fault Refusal :=
  let s := s.tick t
  onUnit (decide (k < 4 ∧ r < 32 ∧ word < 3)) <|
    s.guarded a ((F.WORLD_RGN0_BASE k r).addr + 4 * word) true a.attic0hub fun s =>
      if s.flag (F.WORLD_RGN2_LOCK k r) then s else s.writeRegion k r word value.toNat

/-- L2_PART_WRITE (R347): ignored while a partition change runs. -/
def execL2PartWrite (t : Nat) (a : Attr) (value : Word) (s : State) : Host.Outcome State Fault Refusal :=
  let s := s.tick t
  .next <| s.guarded a F.WORLD_L2_PART_ATTIC_WAYS.addr true a.attic0 fun s =>
    if s.flag F.WORLD_STAT_L2_BUSY then s
    else (s.wr F.WORLD_L2_PART_ATTIC_WAYS (clampNat (bits value.toNat 3 0) 2 8)).setF F.WORLD_STAT_L2_BUSY

/-- L2_REPART_COMPLETE (R347): the new partition applies and the Parlour cores resume. -/
def execL2RepartComplete (t : Nat) (s : State) : Host.Outcome State Fault Refusal :=
  let s := s.tick t
  .next <| if s.flag F.WORLD_STAT_L2_BUSY then
      (s.clrF F.WORLD_STAT_L2_BUSY).wr F.WORLD_STAT_ATTIC_WAYS (s.rd F.WORLD_L2_PART_ATTIC_WAYS)
    else s

/-- A Parlour request against a claimed gate (R348): answered, entered, counted and recorded. -/
def State.veto (s : State) (a : Attr) (gate : Nat) : State :=
  let s := ((s.logViol ⟨0x08, a, 0, true, gate⟩).inc F.WORLD_VIOL_CNT_VETOED).record 0x0F 0x02 4 gate 0x08
    [s.word F.WORLD_STAT_ROOT.addr] (sourceWord a.dom.code a.inst 0)
  s.answer 0x08 0

/-- PWRMGR_GATE_RES shows the last request of a clock, whose requests are handled in increasing gate ID (R388). -/
def State.gateResult (s : State) (r gate : Nat) : State :=
  match s.clk.olds.find? F.PWRMGR_GATE_RES_GATE.addr with
  | some g => if gate < g then s else
      { ((s.wr F.PWRMGR_GATE_RES_RESULT r).wr F.PWRMGR_GATE_RES_GATE gate) with
        clk := { s.clk with olds := s.clk.olds.insert F.PWRMGR_GATE_RES_GATE.addr gate } }
  | none => ((s.wr F.PWRMGR_GATE_RES_RESULT r).wr F.PWRMGR_GATE_RES_GATE gate).updates F.PWRMGR_GATE_RES_GATE.addr gate

/-- The Parlour gate requests of the present clock that a claim vetoes (R348). -/
def State.lateGates (s : State) (claim : Nat) : List (Attr × Nat × Fld × Bool) :=
  s.clk.gates.filter fun x => !x.1.attic && claim.testBit x.2.1

/-- A claim vetoes them: their gates stay as they were, and each is handled as a refused request (R348). -/
def State.vetoLate (s : State) (claim : Nat) : State :=
  let l := s.lateGates claim
  let s' := l.reverse.foldl (fun s (x : Attr × Nat × Fld × Bool) =>
    s.wr x.2.2.1 (if x.2.2.2 then maskSet (s.rd x.2.2.1) x.2.1 else maskClr (s.rd x.2.2.1) x.2.1)) s
  let s' := l.foldl (fun s (x : Attr × Nat × Fld × Bool) => (s.veto x.1 x.2.1).gateResult 0x08 x.2.1) s'
  { s' with resp := s.resp, clk := { s'.clk with gates := s'.clk.gates.filter fun x => x.1.attic || !claim.testBit x.2.1 } }

/-- CLAIM_WRITE (R348): gates 12 and 13 are always claimed. A Parlour request of the same clock is vetoed. -/
def execClaimWrite (t : Nat) (a : Attr) (value : Word) (s : State) : Host.Outcome State Fault Refusal :=
  let s := s.tick t
  .next <| s.guarded a F.WORLD_CLAIM_CLAIM.addr true a.attic0 fun s =>
    let claim := bits value.toNat 16 0 ||| 0x3000
    (s.wr F.WORLD_CLAIM_CLAIM claim).vetoLate claim

/-- The word a read of WORLD_VIOL returns for an entry. -/
def Viol.word (v : Viol) : Nat :=
  2 ^ 31 + v.status % 256 * 2 ^ 23 + bit v.attr.attic * 2 ^ 22 + v.attr.dom.code * 2 ^ 20 + v.attr.inst % 64 * 2 ^ 14 +
    v.set % 4 * 2 ^ 12 + bit v.write * 2 ^ 11

/-- VIOL_READ (R14, R345, R10): the oldest entry, removed unless the peek alias is read. -/
def execViolRead (t : Nat) (a : Attr) (peek : Bool) (s : State) : Host.Outcome State Fault Refusal :=
  let s := s.tick t
  .next <| s.guarded a (rsAddr 0x41200010 peek) false true fun s =>
    match s.world.viols with
    | [] => s.answer 0 0
    | v :: rest =>
      if s.settled 0x41200010 (rest.length + 1) = 0 then s.answer 0 0
      else if peek then s.answer 0 v.word
      else ((({ s with world := { s.world with viols := rest } }).wr F.WORLD_VIOL_ADDR_LO_ADDR (v.addr % 2 ^ 32)).wr
        F.WORLD_VIOL_ADDR_HI_ADDR (v.addr / 2 ^ 32 % 256)).answer 0 v.word

/-! ### Pantry commands -/

/-- RESULT codes of PANTRY_STAT. -/
inductive PantryResult where
  | ok | busy | lockedSlot | usage | notExportable | genExhausted | lockedTamper | abandoned | blob | token | slotIntegrity
  deriving DecidableEq, Repr

/-- The code of a RESULT. -/
def PantryResult.code : PantryResult → Nat
  | .ok => 0 | .busy => 1 | .lockedSlot => 2 | .usage => 3 | .notExportable => 4 | .genExhausted => 5
  | .lockedTamper => 6 | .abandoned => 7 | .blob => 8 | .token => 9 | .slotIntegrity => 10

/-- The state with another running command. -/
def State.setOp (s : State) (o : Option PantryOp) : State := { s with pantry := { s.pantry with op := o } }

/-- A command ends: RESULT, BUSY 0, and PANTRY_DATA is zeroed. -/
def State.pantryEnd (s : State) (r : PantryResult) : State :=
  ({ s with pantry := { s.pantry with op := none, stage := [] } }).wr F.PANTRY_STAT_RESULT r.code

/-- A write of PANTRY_CMD (R354): by Attic transactions of instance 0 with domain tag hub, and ignored with RESULT BUSY
while a command runs. -/
def State.pantryCmd (s : State) (a : Attr) (eff : State → State) : State :=
  s.guarded a 0x41300000 true a.attic0hub fun s =>
    if s.pantry.op.isSome then s.wr F.PANTRY_STAT_RESULT PantryResult.busy.code else eff s

/-- The bytes of PANTRY_DATA. -/
def State.stageBytes (s : State) (n : Nat) : List Nat :=
  (List.range n).map fun i => s.pantry.stage.getD 0 (i / 4) / 2 ^ (8 * (i % 4)) % 256

/-- PANTRY_ADDR. -/
def State.pantryAddr (s : State) : Nat := s.rd (F.PANTRY_ADDR_ADDR 0) + 2 ^ 32 * (s.rd (F.PANTRY_ADDR_ADDR 1) % 256)

/-- A change of a slot begins (R352): the target copy, which fails from here to the commit point. The instant of that
point, within the command's bound, is open (log entry 4). -/
def State.beginChange (s : State) (k : Nat) (body : KeyBody) (bound : Nat) (erase : Bool) : State :=
  let x := s.slotAt k
  let toB := match x.winner with
    | some b => !b
    | none => decide (x.b.gen < x.a.gen)
  let g := max x.a.gen x.b.gen + 1
  if 2 ^ 32 ≤ g then s.pantryEnd .genExhausted
  else
    let r := s.draw (bound - 4000)
    let s := r.2.setSlot k (x.setCopy toB ⟨body, (x.copy toB).gen, false⟩)
    s.setOp (some (.commit k toB body g (s.now + r.1) erase))

/-- Is a slot locked against WRITE, IMPORT and GENERATE (R350)? -/
def State.slotLocked (s : State) (k : Nat) : Bool :=
  match s.winning k with
  | some b => b.lock
  | none => false

/-- A command that changes a slot: refused while ROOT is blocked (R362; for WRITE and ERASE by inference, log entry 55) or the slot
locked (R350). -/
def State.changeCmd (s : State) (k : Nat) (eff : State → State) : State :=
  if s.blocked then s.pantryEnd .lockedTamper
  else if s.slotLocked k then s.pantryEnd .lockedSlot
  else eff s

/-- Material padded with zeros to 512 bits (R349). -/
def padMaterial (l : List Nat) : List Nat := l ++ List.replicate (64 - l.length) 0

/-- WRITE (R352, R354). -/
def execPantryWrite (t : Nat) (a : Attr) (slot : Nat) (s : State) : Host.Outcome State Fault Refusal :=
  let s := s.tick t
  onUnit (decide (slot < 64)) <| s.pantryCmd a fun s => s.changeCmd slot fun s =>
    let n := clampNat (s.rd F.PANTRY_ATTR_KEY_LEN) 16 64
    s.beginChange slot ⟨s.rd F.PANTRY_ATTR_TYPE, s.rd F.PANTRY_ATTR_USAGE, s.flag F.PANTRY_ATTR_EXPORTABLE, false,
      s.flag F.PANTRY_ATTR_LOCK, padMaterial (s.stageBytes n)⟩ 60000 false

/-- GENERATE (R354): material of TYPE 0x1 to 0x6 from the random source, whose value is open (log entry 4). -/
def execPantryGenerate (t : Nat) (a : Attr) (slot : Nat) (s : State) : Host.Outcome State Fault Refusal :=
  let s := s.tick t
  onUnit (decide (slot < 64)) <| s.pantryCmd a fun s => s.changeCmd slot fun s =>
    let typ := s.rd F.PANTRY_ATTR_TYPE
    if typ = 0 ∨ 6 < typ then s.pantryEnd .usage
    else
      let r := s.draw (2 ^ (8 * typeBytes typ))
      r.2.beginChange slot ⟨typ, s.rd F.PANTRY_ATTR_USAGE, s.flag F.PANTRY_ATTR_EXPORTABLE, true, s.flag F.PANTRY_ATTR_LOCK,
        padMaterial (leBytes (typeBytes typ) r.1)⟩ (if typ = 4 then 2000000 else 60000) false

/-- ERASE (R353): a locked slot can be erased. -/
def execPantryErase (t : Nat) (a : Attr) (slot : Nat) (s : State) : Host.Outcome State Fault Refusal :=
  let s := s.tick t
  onUnit (decide (slot < 64)) <| s.pantryCmd a fun s =>
    if s.blocked then s.pantryEnd .lockedTamper else s.beginChange slot KeyBody.empty 120000 true

/-- The blob of a slot under a KEK (R355). -/
def wrapBlob (kekSlot : Nat) (kek b : KeyBody) : List Nat :=
  let len := typeBytes b.typ
  let plain := [b.typ, b.usage, bit b.export_, len, 0, 0, 0, 0] ++ (padMaterial b.material).take len
  [0x50, 0x57, 0x42, 0x31, 0x01, 0x00, kekSlot, len + 16, 0, 0, 0, 0, 0, 0, 0, 0] ++
    keyedN 1 (byteNum kek.material) (len + 16) plain

/-- WRAP_OUT (R355, R357). -/
def execPantryWrapOut (t : Nat) (a : Attr) (slot aux : Nat) (s : State) : Host.Outcome State Fault Refusal :=
  let s := s.tick t
  onUnit (decide (slot < 64 ∧ aux < 64)) <| s.pantryCmd a fun s =>
    if s.blocked then s.pantryEnd .lockedTamper else
    let u := s.useSlot slot
    match u.1 with
    | none => u.2.pantryEnd .slotIntegrity
    | some b =>
      if !b.export_ then u.2.pantryEnd .notExportable else
      let r := u.2.useSlot aux
      match r.1 with
      | none => r.2.pantryEnd .slotIntegrity
      | some kek =>
        if kek.fits kekFit then r.2.setOp (some (.output (wrapBlob aux kek b) s.pantryAddr))
        else r.2.pantryEnd .slotIntegrity

/-- IMPORT (R355). A blob that the Pantry may not read is read as zeros (R345), which are no blob. -/
def execPantryImport (t : Nat) (a : Attr) (slot aux : Nat) (s : State) : Host.Outcome State Fault Refusal :=
  let s := s.tick t
  onUnit (decide (slot < 64 ∧ aux < 64)) <| s.pantryCmd a fun s => s.changeCmd slot fun s =>
    let r := s.useSlot aux
    match r.1 with
    | none => r.2.pantryEnd .slotIntegrity
    | some kek =>
      if !kek.fits kekFit then r.2.pantryEnd .slotIntegrity
      else
        let n := 16 + (Memory.read s.mem (s.pantryAddr + 7)).toNat
        r.2.buffer s.pantryAddr n false
          (fun s' => match unwrapBlob kek (s.load s.pantryAddr n) with
            | none => s'.pantryEnd .blob
            | some b => s'.beginChange slot { b with material := padMaterial b.material } 80000 false)
          fun s' => s'.pantryEnd .blob

/-- PUB_OUT (R354): the public key of TYPE 0x4 or 0x5. -/
def execPantryPubOut (t : Nat) (a : Attr) (slot : Nat) (s : State) : Host.Outcome State Fault Refusal :=
  let s := s.tick t
  onUnit (decide (slot < 64)) <| s.pantryCmd a fun s =>
    if s.blocked then s.pantryEnd .lockedTamper else
    let r := s.useSlot slot
    match r.1 with
    | none => r.2.pantryEnd .slotIntegrity
    | some b =>
      if b.typ = 4 then r.2.setOp (some (.output (keyedN 3 (byteNum b.material) 97 []) s.pantryAddr))
      else if b.typ = 5 then r.2.setOp (some (.output (keyedN 4 (byteNum b.material) 1952 []) s.pantryAddr))
      else r.2.pantryEnd .usage

/-- ATTEST (R364): the nonce is taken at the command. -/
def execPantryAttest (t : Nat) (a : Attr) (slot : Nat) (s : State) : Host.Outcome State Fault Refusal :=
  let s := s.tick t
  onUnit (decide (slot < 64)) <| s.pantryCmd a fun s =>
    if s.blocked then s.pantryEnd .lockedTamper
    else match s.winning slot with
      | none => s.pantryEnd .slotIntegrity
      | some _ => s.setOp (some (.attest slot (s.stageBytes 32) s.pantryAddr))

/-- CACHE_FLUSH (R356). -/
def execPantryCacheFlush (t : Nat) (a : Attr) (s : State) : Host.Outcome State Fault Refusal :=
  let s := s.tick t
  .next <| s.pantryCmd a fun s => s.emptyCache.setOp (some .cacheFlush)

/-- TAMPER_CLEAR (R367): the token is judged when the command ends. -/
def execTamperClear (t : Nat) (a : Attr) (s : State) : Host.Outcome State Fault Refusal :=
  let s := s.tick t
  .next <| s.pantryCmd a fun s => s.setOp (some (.clear s.pantryAddr false))

/-- A slot's change takes effect (R352, R353, R356): the new copy wins, an ERASE zeroes the other, and the cache entries
of the slot go; a use in the same clock takes what stood before. -/
def State.commitSlot (s : State) (k : Nat) (toB : Bool) (body : KeyBody) (g : Nat) (erase : Bool) : State :=
  let x := (s.slotAt k).setCopy toB ⟨body, g, true⟩
  let x := if erase then x.setCopy (!toB) ⟨KeyBody.empty, 0, false⟩ else x
  let old := s.slotAt k
  let s := s.setSlot k x
  { s with pantry := { s.pantry with prior := some (s.now, k, old, s.pantry.cache), cache := s.pantry.cache.filter fun e => e.slot ≠ k ∧ e.kek ≠ k } }

/-- PANTRY_COMMIT_COMPLETE (R352). -/
def execPantryCommitComplete (t : Nat) (s : State) : Host.Outcome State Fault Refusal :=
  let s := s.tick t
  .next <| match s.pantry.op with
    | some (.commit k toB body g at_ erase) =>
      if at_ ≤ s.now then (s.commitSlot k toB body g erase).pantryEnd .ok else s
    | _ => s

/-- The attestation statement (R364), signed with the keys that the active root gives (R363). -/
def State.attestation (s : State) (k : Nat) (nonce : List Nat) : List Nat :=
  let x := s.slotAt k
  let w := x.copy (x.winner.getD false)
  let b := w.body
  let pub := if b.typ = 4 ∨ b.typ = 5 then keyedN 6 (byteNum b.material) 48 [] else List.replicate 48 0
  let body := [1, 0] ++ leBytes 2 (s.rd F.SYSCTL_MID_MID) ++ leBytes 4 (s.word F.SYSCTL_ID_CL.addr) ++
    [s.rd F.WORLD_STAT_ROOT, k, b.typ % 16 + 16 * bit b.internal + 32 * bit b.export_, b.usage] ++ leBytes 4 w.gen ++
    leBytes 2 (s.rd F.WORLD_TAMPER_STAT_TAMPER_CNT) ++ List.replicate 6 0 ++
    leBytes 8 (if s.flag F.TIME_STAT_EPOCH_VALID then s.tNow else 0) ++ pub ++ nonce ++ keyedN 7 0 32 []
  body ++ keyedN 8 s.activeRoot 96 body ++ keyedN 9 s.activeRoot 3309 body

/-- Does a clear token pass (R367)? -/
def State.clearOk (s : State) (tok : List Nat) : Bool :=
  leNum (slice tok 2 2) % 2 ^ 14 == s.rd F.SYSCTL_MID_MID &&
  leNum (slice tok 4 2) == s.rd F.WORLD_TAMPER_STAT_TAMPER_CNT &&
  s.rd F.WORLD_TAMPER_ARM_ARM &&& s.rd F.WORLD_TAMPER_STAT_ACTIVE == 0 && !s.efuse.revoked.testBit 4 &&
  Config.sigsOk (leBytes 64 s.efuse.clearPin) (slice tok 0 24) (tok.drop 24)

/-- The latch is released and the device root is back, or the test root while debug is enabled (R362, R367). -/
def State.clearTamper (s : State) : State :=
  let s := (s.clrF F.WORLD_TAMPER_STAT_LATCH).clrF F.WORLD_TAMPER_STAT_LATCHED
  let s := s.wr F.WORLD_STAT_ROOT (if s.flag F.WORLD_STAT_DEBUG then 1 else 0)
  s.record 0x0F 0x05 7 0 0 [s.word F.WORLD_STAT_ROOT.addr]

/-- An output of the Pantry goes to its buffer; a refused write has no effect, and the command ends ABANDONED (R345, log entry 55). -/
def State.pantryOut (s : State) (addr : Nat) (bytes : List Nat) : State :=
  s.buffer addr bytes.length true (fun s => (s.store addr bytes).pantryEnd .ok) fun s => s.pantryEnd .abandoned

/-- PANTRY_COMMAND_COMPLETE (R354). A clear token that the Pantry may not read is read as zeros (R345), which are no token. -/
def execPantryCommandComplete (t : Nat) (s : State) : Host.Outcome State Fault Refusal :=
  let s := s.tick t
  .next <| match s.pantry.op with
    | some (.output bytes addr) => s.pantryOut addr bytes
    | some (.attest k nonce addr) => s.pantryOut addr (s.attestation k nonce)
    | some .cacheFlush => s.pantryEnd .ok
    | some (.clear addr lost) =>
      s.buffer addr 3429 false
        (fun s => if !lost ∧ s.clearOk (s.load addr 3429) then s.clearTamper.pantryEnd .ok else s.pantryEnd .token)
        fun s => s.pantryEnd .token
    | _ => s

/-- The Pantry at a power-fail declaration, at sleep entry and at tamper (R353): an operation before its commit point is
abandoned, one past it goes on. -/
def State.pantryAbandon (s : State) : State :=
  match s.pantry.op with
  | none => s
  | some (.commit _ _ _ _ at_ _) => if at_ ≤ s.now then s else s.pantryEnd .abandoned
  | some _ => s.pantryEnd .abandoned

/-- The Pantry at a recognised tamper (R366): as R353 says; a TAMPER_CLEAR that runs ends with RESULT TOKEN (R367). -/
def State.pantryTamper (s : State) : State :=
  match s.pantry.op with
  | some (.clear addr _) => s.setOp (some (.clear addr true))
  | _ => s.pantryAbandon

/-- An operation past its commit point completes (R353). -/
def State.pantryFinish (s : State) : State :=
  match s.pantry.op with
  | some (.commit k toB body g _ erase) => (s.commitSlot k toB body g erase).pantryEnd .ok
  | _ => s

/-- Is the Pantry idle (step 3 of R32)? -/
def State.pantryIdle (s : State) : Bool := s.pantry.op.isNone

/-- The Pantry at a hub power-up (R351, R353, R361, R362): the root is chosen, a losing copy whose winner is EMPTY is
zeroed, the debug bank and the cache are empty, and each unusable slot writes a record. -/
def State.pantryStart (s : State) (debug : Bool) : State :=
  let root := if debug then 1 else if s.flag F.WORLD_TAMPER_STAT_LATCH then 2 else 0
  let s := (s.wr F.WORLD_STAT_ROOT root).wr F.WORLD_STAT_DEBUG (bit debug)
  let zero := fun (x : Slot2) => match x.winner with
    | some b => if (x.copy b).body.typ = 0 then x.setCopy (!b) ⟨KeyBody.empty, 0, false⟩ else x
    | none => x
  let s := { s with pantry := ⟨if root = 0 then s.pantry.store.map fun x => (x.1, zero x.2) else s.pantry.store, [], [], none, [], none⟩ }
  if root = 0 then
    (s.pantry.store.filter fun x => x.2.winner.isNone).foldl (fun s x =>
      s.record 0x0F 0x03 6 x.1 0x0A [s.word F.WORLD_STAT_ROOT.addr]) s
  else s

/-- The word of PANTRY_SLOT_INFOs (R351): WIN, STATUS and the winner's attributes. -/
def State.slotInfo (s : State) (k : Nat) : Nat :=
  let cached := bit (s.pantry.cache.any fun e => e.slot == k) * 2 ^ 6
  if s.blocked then 0x06 * 2 ^ 22 + cached else
  match (s.slotAt k).winner with
  | none => 0x0A * 2 ^ 22 + cached
  | some b =>
    let x := ((s.slotAt k).copy b).body
    (if b then 2 else 1) * 2 ^ 30 + x.typ % 16 * 2 ^ 18 + x.usage % 256 * 2 ^ 10 + bit x.export_ * 2 ^ 9 +
      bit x.internal * 2 ^ 8 + bit x.lock * 2 ^ 7 + cached

/-! ### Tamper -/

/-- TAMPER_ARM_WRITE (R365): by Attic writes of instance 0. -/
def execTamperArmWrite (t : Nat) (a : Attr) (value : Word) (s : State) : Host.Outcome State Fault Refusal :=
  let s := s.tick t
  .next <| s.guarded a F.WORLD_TAMPER_ARM_ARM.addr true a.attic0 fun s => s.wr F.WORLD_TAMPER_ARM_ARM (bits value.toNat 4 0)

/-- What the Cellar does at once when it recognises source `src` (R366). -/
def State.tamperLatch (s : State) (src active when_ : Nat) : State :=
  let s := (s.setF F.WORLD_TAMPER_STAT_LATCH).wr F.WORLD_TAMPER_STAT_LATCHED
    (maskSet (s.rd F.WORLD_TAMPER_STAT_LATCHED) src)
  let s := (s.wr F.WORLD_TAMPER_STAT_ACTIVE active).wr F.WORLD_TAMPER_STAT_WHEN when_
  let s := (s.inc F.WORLD_TAMPER_STAT_TAMPER_CNT).wr64 F.WORLD_TAMPER_T_T s.tNow
  let s := s.record 0x0F 0x04 7 src 0 [s.word F.WORLD_STAT_ROOT.addr, s.word F.WORLD_TAMPER_STAT_LATCH.addr]
    (sourceWord 3 0 0)
  s.emptyCache.wr F.WORLD_STAT_ROOT 2

end Sys2Proof.Machine
end

