-- ==== Sys2Proof/Machine/Recorder.lean ====
section
/-! DEFINITION. The event recorder (*Event recorder*, R405 to R421): committing, flushing, the log on the cartridge,
checkpoints, and reading. -/

namespace Sys2Proof.Machine

/-! ### Records as bytes -/

/-- The bytes of a record (R405): header and body. -/
def Record.size (r : Record) : Nat := if r.cls = 0x1F then 16 + r.body.length else 20 + 4 * r.vals.length

/-- The record as it is laid out (R405, R406). -/
def Record.bytes (r : Record) : List Nat :=
  leBytes 2 r.size ++ [r.sev * 32 + r.cls, r.kind] ++ leBytes 8 r.time ++ leBytes 2 r.source ++ leBytes 2 r.seq ++
    (if r.cls = 0x1F then r.body
     else [r.status, r.flags] ++ leBytes 2 r.subj ++ r.vals.flatMap (leBytes 4))

/-- The bytes of the ring in retention SRAM. -/
def bufBytes : Nat := 524288

/-- The bytes of a list of records. -/
def recsSize (l : List Record) : Nat := l.foldl (fun n r => n + r.size) 0

/-- The dirty amount in bytes (R411). -/
def State.dirtyBytes (s : State) : Nat := recsSize (s.log.buf.filter fun r => r.dirty)

/-- REC_STAT follows the buffer. -/
def State.recStat (s : State) : State :=
  (s.wr F.REC_STAT_DIRTY_KB (ceilDiv s.dirtyBytes 1024)).wr F.REC_STAT_BUF_FULL (bit (decide (bufBytes ≤ s.dirtyBytes)))

/-- The dirty limit in bytes (R396, R411). -/
def State.dirtyLimit (s : State) : Nat :=
  1024 * (if s.flag F.PWRMGR_STAT_HOLDUP_READY then s.rd F.MARGIN_PLAN_DIRTY_KB else 16)

/-- The last sequence number (REC_SEQ). -/
def State.lastSeq (s : State) : Nat := s.rd64 F.REC_SEQ_SEQ

/-! ### Flush triggers -/

/-- Does a flush of this cause carry a checkpoint (R419)? -/
def FlushCause.checkpoint : FlushCause → Bool
  | .window | .service => true
  | .severity | .dirtyLimit | .powerFail | .sleepFail | .command => false

/-- Of two causes the one that does more: a SERVICE_FLUSH (R403), then one that carries a checkpoint. -/
def FlushCause.join (a b : FlushCause) : FlushCause :=
  if a = .service ∨ b = .service then .service else if a.checkpoint then a else b

/-- Would a flush of the next clock start at or after the close of the step-2 bound, so that it writes nothing (R412)? -/
def State.flushShut (s : State) : Bool :=
  match s.pwr.seq with
  | some q => q.flushBy.any fun b => decide (b ≤ s.now + 1)
  | none => false

/-- A flush is triggered (R411, R412): at the next clock where none is under way, else one further flush is pending.
Nothing is flushed while no authenticated cartridge is mounted (R413). -/
def State.triggerFlush (s : State) (c : FlushCause) : State :=
  if !s.flag F.REC_STAT_MOUNTED ∨ s.flushShut then s else
  match s.log.flushing with
  | none => { s with log := { s.log with flushing := some ⟨c, s.now + 1⟩ } }
  | some f =>
    if s.now < f.start then { s with log := { s.log with flushing := some { f with cause := f.cause.join c } } }
    else { s with log := { s.log with pendFlush := some (match s.log.pendFlush with | some d => d.join c | none => c) } }

/-! ### Commit -/

/-- Flushed records give up their space, oldest first, until `need` more bytes fit (R413). -/
def reuse (need : Nat) : List Record → Nat → List Record
  | [], _ => []
  | r :: rest, total =>
    if total + need ≤ bufBytes then r :: rest
    else if r.dirty then r :: reuse need rest total
    else reuse need rest (total - r.size)

/-- The records of severity `k` that make room for `need` bytes, oldest first: what is left, the new total, and how many
went. -/
def displaceSev (k need : Nat) : List Record → Nat → List Record × Nat × Nat
  | [], total => ([], total, 0)
  | r :: rest, total =>
    if total + need ≤ bufBytes then (r :: rest, total, 0)
    else if r.sev = k then
      let q := displaceSev k need rest (total - r.size)
      (q.1, q.2.1, q.2.2 + 1)
    else
      let q := displaceSev k need rest total
      (r :: q.1, q.2.1, q.2.2)

/-- Displacement of dirty records of the severities listed (R413). -/
def displace (need : Nat) : List Nat → List Record → Nat → List Record × Nat × Nat
  | [], l, total => (l, total, 0)
  | k :: ks, l, total =>
    let q := displaceSev k need l total
    let r := displace need ks q.1 q.2.1
    (r.1, r.2.1, q.2.2 + r.2.2)

/-- The severities that a record of severity `v` may displace: at or below its own, never 7 (R413). -/
def displaceable (v : Nat) : List Nat := (List.range 7).filter fun k => decide (k ≤ v)

/-- A record is dropped (R413). -/
def State.dropRecord (s : State) (r : Record) : State :=
  let s := { s.inc F.REC_CNT_DROPPED with log := { s.log with summary := true } }
  if r.cls = 0x1F then
    { s with log := { s.log with wrResult := s.log.wrResult.put 0 (r.source / 256 % 64) 0x04 } }
  else s

/-- A record enters the buffer with the next sequence number, or is dropped (R409, R411, R413). -/
def State.commitRecord (s : State) (r : Record) : State :=
  let l := reuse r.size s.log.buf (recsSize s.log.buf)
  let total := recsSize l
  let d := displace r.size (displaceable r.sev) l total
  if bufBytes < d.2.1 + r.size then s.dropRecord r
  else
    let n := s.lastSeq + 1
    let s := if d.2.2 = 0 then s
      else { s.incBy F.REC_CNT_DISPLACED d.2.2 with log := { s.log with summary := true } }
    let s := { s with log := { s.log with buf := d.1 ++ [{ r with seq := n, stamp := s.now, dirty := true }] } }
    let s := (s.wr64 F.REC_SEQ_SEQ n).recStat
    let s := if s.rd F.REC_CFG_FLUSH_SEV ≤ r.sev then s.triggerFlush .severity else s
    if s.dirtyLimit ≤ s.dirtyBytes then s.triggerFlush .dirtyLimit else s

/-- The ports that hold a record, from the rotating pointer upward (R409). -/
def State.portsReady (s : State) : List Nat :=
  ((List.range 32).map fun k => (s.log.pointer + k) % 32).filter fun c => !(s.log.ports.getD [] c).isEmpty

/-- RECORD_COMMIT (R409): one record of each port that holds one, in rotating order; k grants count k − 1 ties. -/
def execRecordCommit (t : Nat) (s : State) : Host.Outcome State Fault Refusal :=
  let s := s.tick t
  let l := s.portsReady
  let s := l.foldl (fun s c =>
    match s.log.ports.getD [] c with
    | [] => s
    | r :: rest =>
      let s := { s with log := { s.log with ports := s.log.ports.put [] c rest, pointer := (c + 1) % 32 } }
      s.commitRecord r) s
  .next (s.incBy F.REC_TIE_CNT_TIES (l.length - 1))

/-- Every record that waits at a port is committed. -/
def State.commitAll (s : State) : State :=
  (List.range 32).foldl (fun s c =>
    (s.log.ports.getD [] c).foldl (fun s r => s.commitRecord r)
      { s with log := { s.log with ports := s.log.ports.erase c } }) s

/-- COMMIT (R410): the body is fetched with the writer's attributes. A Parlour writer's severity is limited. -/
def execRecCommit (t : Nat) (a : Attr) (sev kind lenW : Nat) (s : State) : Host.Outcome State Fault Refusal :=
  let s := s.tick t
  .next <| s.guarded a 0x41400028 true true fun s =>
    let n := clampNat lenW 5 1024
    let addr := s.log.wrAddr.getD 0 (2 * a.inst) + 2 ^ 32 * (s.log.wrAddr.getD 0 (2 * a.inst + 1) % 256)
    let res := fun (s : State) (v : Nat) => { s with log := { s.log with wrResult := s.log.wrResult.put 0 a.inst v } }
    let last := addr + 4 * n - 17
    if !s.passes addr a false then res (s.deny a ((regionSet addr).getD 3) addr false) 0x0E
    else if !s.passes last a false then res (s.deny a ((regionSet last).getD 3) last false) 0x0E
    else
      let limit := s.rd F.REC_CFG_PARLOUR_MAX
      let v := if a.attic then sev % 8 else min (sev % 8) limit
      let r : Record := ⟨0, v, 0x1F, kind % 256, s.tNow, sourceWord a.dom.code a.inst 0, 0, 0, 0, [],
        s.load addr (4 * n - 16), s.now, true⟩
      res (s.toPort r) (if v < sev % 8 then 0x09 else 0)

/-! ### The log on the cartridge -/

/-- A stream that has never been written. -/
def LogStream.init : LogStream := ⟨none, [], none, none, 0, 0⟩

/-- The stream of a severity. -/
def State.stream (s : State) (v : Nat) : LogStream := (s.log.streams.find? v).getD LogStream.init

/-- The state with the stream of a severity changed. -/
def State.modStream (s : State) (v : Nat) (f : LogStream → LogStream) : State :=
  { s with log := { s.log with streams := s.log.streams.insert v (f (s.stream v)) } }

/-- The bytes of a segment. -/
def segBytes : Nat := 1048576

/-- The replacement for severity v (R416): the oldest segment of the lowest severity present at or below v, never 7. -/
def State.victim (s : State) (v : Nat) : Option (Nat × Segment) :=
  (List.range (v + 1)).findSome? fun k =>
    if k = 7 then none else ((s.stream k).closed.head?).map fun g => (k, g)

/-- A replacement for severity v begins to be erased (R415, R416). A segment never used needs no erase (log entry 27). -/
def State.eraseReplacement (s : State) (v : Nat) : State :=
  if (s.stream v).reserve.isSome ∨ (s.stream v).erasing.isSome then s
  else if s.log.nextSeg < 16384 then
    let n := s.log.nextSeg
    ({ s with log := { s.log with nextSeg := n + 1 } }).modStream v fun x => { x with reserve := some n }
  else match s.victim v with
    | none => s
    | some (k, g) =>
      let s := (s.modStream k fun x => { x with closed := x.closed.tail }).inc F.REC_CNT2_RECLAIMED
      let s := s.modStream v fun x => { x with erasing := some g.num }
      { s with log := { s.log with
          pendErase := s.log.pendErase ++ [g], blocks := s.log.blocks.filter fun b => b.segment ≠ g.num } }

/-- SEGMENT_ERASE_COMPLETE (R416). -/
def execSegmentEraseComplete (t : Nat) (sev : Nat) (s : State) : Host.Outcome State Fault Refusal :=
  let s := s.tick t
  onUnit (decide (sev < 8)) <| match (s.stream sev).erasing with
    | some n => s.modStream sev fun x => { x with reserve := some n, erasing := none }
    | none => s

/-- The stream of severity v opens its reserve (R415); erases wait while power-fail step 2 runs. -/
def State.takeReserve (s : State) (v : Nat) (erase : Bool) : State :=
  match (s.stream v).reserve with
  | none => s
  | some n =>
    let s := s.modStream v fun x => { x with
      closed := x.closed ++ x.opened.toList, opened := some ⟨n, s.log.chainIndex, s.log.chainIndex, 0⟩, reserve := none }
    if erase then s.eraseReplacement v else s

/-- The records of a list that fit in `room` bytes, in order, and the rest. -/
def takeFit : List Record → Nat → List Record × List Record
  | [], _ => ([], [])
  | r :: rest, room =>
    if r.size ≤ room then let q := takeFit rest (room - r.size); (r :: q.1, q.2) else ([], r :: rest)

/-- The bytes free in the open segment of severity v. -/
def State.segFree (s : State) (v : Nat) : Nat :=
  match (s.stream v).opened with
  | some g => segBytes - g.used
  | none => 0

/-- FLAGS of a block (R417). -/
def State.blockFlags (s : State) (c : FlushCause) : Nat :=
  bit (c == .powerFail) + 2 * bit (c == .sleepFail) + 4 * s.rd F.WORLD_STAT_DEBUG

/-- The bytes of a block up to its tag (*Table: Log block*, R417). -/
def Block.head (b : Block) : List Nat :=
  let recs := b.records.flatMap Record.bytes
  [0x52, 0x4C, 0x42, 0x31, 1, 0, b.sev, b.flags] ++ leBytes 8 b.chainIndex ++ leBytes 8 b.streamIndex ++ leBytes 8 b.firstSeq ++
    leBytes 2 b.count ++ leBytes 2 b.mid ++ leBytes 4 b.len ++ leBytes 4 b.segment ++ leBytes 4 b.eraseSeg ++
    leBytes 8 b.eraseFirst ++ leBytes 8 b.eraseLast ++ (leBytes 32 b.hashPrev).reverse ++ List.replicate 32 0 ++ recs ++
    List.replicate (b.len - 160 - recs.length) 0

/-- One block of severity v is written (R417), linked to the block before it in its stream and tagged under K_n, and the chain key
moves on (R418). -/
def State.writeBlock (s : State) (v : Nat) (c : FlushCause) (l : List Record) : State :=
  let len := ceilDiv (160 + recsSize l) 4096 * 4096
  let n := s.log.chainIndex
  let g := match (s.stream v).opened with | some g => g.num | none => 0
  let e : Nat × Nat × Nat := match s.log.pendErase with
    | x :: _ => (x.num, x.first, x.last)
    | [] => (0xFFFFFFFF, 0, 0)
  let b : Block := ⟨v, s.blockFlags c, n, (s.stream v).blocks, (l.head?.map (·.seq)).getD 0, l.length, len, g, e.1, e.2.1,
    e.2.2, s.rd F.SYSCTL_MID_MID, (s.stream v).hash, l, []⟩
  let b := { b with tag := keyedN 11 (s.log.chainKey.getD 0) 32 b.head }
  let s := s.modStream v fun x => { x with
    hash := Config.sha256 (b.head ++ b.tag)
    blocks := x.blocks + 1, opened := x.opened.map fun y => { y with last := n, used := y.used + len } }
  { s with log := { s.log with
      blocks := s.log.blocks ++ [b], chainIndex := n + 1, pendErase := s.log.pendErase.tail
      chainKey := s.log.chainKey.map fun k => Config.sha256 (leBytes 32 k) } }

/-- The records of severity v are written in blocks (R415, R417); the fuel is the number of records and segments. -/
def State.writeStream (v : Nat) (c : FlushCause) : Nat → List Record → State → State
  | 0, _, s => s
  | _, [], s => s
  | n + 1, l, s =>
    let room := min 65536 (s.segFree v)
    let q := takeFit l (room - 160)
    match q.1 with
    | [] =>
      if (s.stream v).reserve.isSome then State.writeStream v c n l (s.takeReserve v (c != .powerFail))
      else { s.incBy F.REC_CNT_DROPPED l.length with log := { s.log with summary := true } }
    | _ => State.writeStream v c n q.2 (s.writeBlock v c q.1)

/-- Writes the dirty records committed before instant `start` (R412); they are dirty no longer. -/
def State.writeOut (s : State) (c : FlushCause) (start : Nat) : State :=
  let mine := fun (r : Record) => r.dirty && decide (r.stamp < start)
  let s := (List.range 8).foldl (fun s v =>
    let l := s.log.buf.filter fun r => mine r && r.sev == v
    State.writeStream v c (2 * l.length + 2) l s) s
  ({ s with log := { s.log with buf := s.log.buf.map fun r => if mine r then { r with dirty := false } else r } }).recStat

/-! ### Checkpoints and chains -/

/-- Can checkpoints be written (R419, R420): a root, no debug, and slots that hold fitting keys of the module's own? -/
def State.signOk (s : State) : Bool :=
  let own := fun (k typ : Nat) => match s.winning k with
    | some b => b.internal && !b.export_ && b.typ == typ
    | none => false
  !s.blocked && !s.flag F.WORLD_STAT_DEBUG && own (s.rd F.REC_CFG_REC_SIGN_EC_SLOT) 4 &&
    own (s.rd F.REC_CFG_REC_SIGN_PQ_SLOT) 5 && s.slotFits (s.rd F.REC_CFG_REC_KEK_SLOT) kekFit

/-- A signing public key: of ECDSA P-384 or of ML-DSA-65. -/
def State.signPub (s : State) (ec : Bool) : List Nat :=
  let k := s.winning (if ec then s.rd F.REC_CFG_REC_SIGN_EC_SLOT else s.rd F.REC_CFG_REC_SIGN_PQ_SLOT)
  let m := byteNum ((k.map KeyBody.material).getD [])
  if ec then keyedN 3 m 97 [] else keyedN 4 m 1952 []

/-- A signature with a signing key. -/
def State.signWith (s : State) (ec : Bool) (data : List Nat) : List Nat :=
  let k := s.winning (if ec then s.rd F.REC_CFG_REC_SIGN_EC_SLOT else s.rd F.REC_CFG_REC_SIGN_PQ_SLOT)
  let m := byteNum ((k.map KeyBody.material).getD [])
  if ec then keyedN 8 m 96 data else keyedN 9 m 3309 data

/-- The signed bytes of a checkpoint. DESIGN CHOICE (log entry 103): R419 lists what it holds and gives no layout; the model takes the
order of the list. -/
def Checkpoint.body (c : Checkpoint) : List Nat :=
  leBytes 8 c.t ++ leBytes 2 c.mid ++ leBytes 8 c.chainIndex ++
    (c.newest.flatMap fun x => [x.1] ++ leBytes 8 x.2.1 ++ (leBytes 32 x.2.2).reverse) ++ c.wrapped ++ [c.kekSlot] ++ c.digests.flatten

/-- A checkpoint is written where it can be (R419). -/
def State.checkpoint (s : State) : State :=
  if s.flag F.REC_STAT_MOUNTED ∧ s.signOk then
    let newest := (List.range 8).filterMap fun v =>
      ((s.log.blocks.filter fun b => b.sev == v).getLast?).map fun b => (v, b.chainIndex, (s.stream v).hash)
    let kek := (s.keyOf (s.rd F.REC_CFG_REC_KEK_SLOT)).map KeyBody.material
    let wrapped := keyedN 1 (byteNum (kek.getD [])) 40 (leBytes 32 (s.log.chainStart.getD 0))
    let digests := [true, false].map fun ec => keyedN 12 0 48 (s.signPub ec)
    let c : Checkpoint := ⟨s.tNow, s.rd F.SYSCTL_MID_MID, s.log.chainIndex - 1, newest, wrapped, s.rd F.REC_CFG_REC_KEK_SLOT, digests, []⟩
    let c := { c with sigs := [true, false].map fun ec => s.signWith ec c.body }
    { s.inc F.REC_CNT2_CHECKPOINTS with log := { s.log with ring := c :: s.log.ring.take 1023 } }
  else s

/-- The chain head (R419): both public keys, and an attestation statement of each. DESIGN CHOICE (log entry 103): the statements' nonce,
which the spec does not give, is an open value. -/
def State.writeHead (s : State) : State :=
  if !s.signOk then { s with log := { s.log with chainHead := none } } else
  let n := s.draw (2 ^ 256)
  let att (k : Nat) : List Nat := n.2.attestation k (leBytes 32 n.1)
  { n.2 with log := { n.2.log with chainHead := some [s.signPub true, s.signPub false,
      att (s.rd F.REC_CFG_REC_SIGN_EC_SLOT), att (s.rd F.REC_CFG_REC_SIGN_PQ_SLOT)] } }

/-- A chain starts (R420): K_0 is random (log entry 4). -/
def State.startChain (s : State) : State :=
  let k := s.draw (2 ^ 256)
  let s := State.writeHead { k.2 with log := { k.2.log with
    chainKey := some k.1, chainStart := some k.1, chainIndex := 0 } }
  s.record 0x00 0x03 4 0 0 [s.word F.REC_CNT_DROPPED.addr]

/-- An authenticated cartridge is mounted (R415, R420): `ours` says that it holds a chain of this module. -/
def State.mountLog (s : State) (ours : Bool) : State :=
  let s := s.setF F.REC_STAT_MOUNTED
  let s := if ours then s
    else { s with log := { s.log with
      streams := (List.range 8).map fun v => (v, { LogStream.init with reserve := some v }), nextSeg := 8, blocks := [],
      pendErase := [], ring := [] } }
  if ours ∧ s.log.chainKey.isSome then s else s.startChain

/-- The cartridge is gone: a flush in progress ends incomplete, and its records stay dirty (R413, R414). -/
def State.unmountLog (s : State) : State :=
  let s := (s.clrF F.REC_STAT_MOUNTED).clrF F.REC_STAT_FLUSHING
  { s with log := { s.log with flushing := none, pendFlush := none } }

/-! ### Flushes -/

/-- FLUSH_START (R412). -/
def execFlushStart (t : Nat) (s : State) : Host.Outcome State Fault Refusal :=
  let s := s.tick t
  .next <| match s.log.flushing with
    | some f => if f.start ≤ s.now then s.setF F.REC_STAT_FLUSHING else s
    | none => s

/-- The records that a scrub pass found uncorrectable are discarded and counted as dropped (R381). -/
def State.discardUe (s : State) : State :=
  let bad (r : Record) : Bool := s.log.ueSeqs.contains r.seq
  let n := (s.log.buf.filter bad).length
  let s := if n = 0 then s else s.incBy F.REC_CNT_DROPPED n
  { s with log := { s.log with
      summary := s.log.summary || decide (0 < n), buf := s.log.buf.filter fun r => !bad r, ueSeqs := [] } }

/-- What a flush does by its end (R412, R413, R419). -/
def State.flushBody (s : State) (f : FlushReq) : State :=
  let s := s.discardUe
  let s := s.writeOut f.cause f.start
  let s := if f.cause = .powerFail then s else (List.range 8).foldl (fun s v =>
    if (s.stream v).opened.isSome then s.eraseReplacement v else s) s
  let s := if s.log.summary then
      ({ s with log := { s.log with summary := false } }).record 0x00 0x02 5 0 0
        [s.word F.REC_CNT_DROPPED.addr, s.word F.REC_CNT2_RECLAIMED.addr]
    else s
  if f.cause.checkpoint then s.checkpoint else s

/-- A flush ends; a pending one starts (R412). The flush of a power-fail met asleep ends its steps (R34). After a SERVICE_FLUSH the cartridge may be removed, and the log is no longer
mounted (R403). -/
def State.flushEnd (s : State) (f : FlushReq) : State :=
  let s := s.flushBody f
  let s := { s with log := { s.log with
    lastEnd := some s.now, pendFlush := none
    flushing := if s.flushShut then none else s.log.pendFlush.map fun c => ⟨c, s.now + 1⟩ } }
  let s := s.wr F.REC_STAT_FLUSHING (bit s.log.flushing.isSome)
  let s := if f.cause = .sleepFail then s.wr F.CELLAR_STAT_PF_STEP 4 else s
  if f.cause = .service then (s.setF F.HEARTH_STAT_REMOVE_OK).unmountLog else s

/-- FLUSH_COMPLETE (R412). -/
def execFlushComplete (t : Nat) (s : State) : Host.Outcome State Fault Refusal :=
  let s := s.tick t
  .next <| match s.log.flushing with
    | some f => if s.flag F.REC_STAT_FLUSHING ∧ f.start ≤ s.now then s.flushEnd f else s
    | none => s

/-- FLUSH_WINDOW_TIMER (R411): only while the hub domain is powered. -/
def execFlushWindowTimer (t : Nat) (s : State) : Host.Outcome State Fault Refusal :=
  let s := s.tick t
  .next <| match s.log.lastEnd with
    | some t0 =>
      if s.pwr.hubUp ∧ s.closed t0 (secs 60) then ({ s with log := { s.log with lastEnd := some s.now } }).triggerFlush .window
      else s
    | none => s

/-- FLUSH (R411, R421). -/
def execRecFlush (t : Nat) (a : Attr) (s : State) : Host.Outcome State Fault Refusal :=
  let s := s.tick t
  .next <| s.guarded a 0x41400008 true a.attic0 fun s => s.triggerFlush .command

/-- Every dirty record is discarded and counted as dropped (R412, R386). -/
def State.dropDirty (s : State) : State :=
  let n := (s.log.buf.filter fun r => r.dirty).length
  let s := s.incBy F.REC_CNT_DROPPED n
  ({ s with log := { s.log with
    summary := s.log.summary || decide (0 < n), flushing := none, pendFlush := none
    buf := s.log.buf.filter fun r => !r.dirty } }.clrF F.REC_STAT_FLUSHING).recStat

/-! ### Reading -/

/-- A record placed by its sequence number. -/
def insertSeq (r : Record) : List Record → List Record
  | [] => [r]
  | q :: rest => if r.seq < q.seq then r :: q :: rest else if r.seq = q.seq then q :: rest else q :: insertSeq r rest

/-- The records of the buffer and of the mounted log in SEQ order (R421). -/
def State.allRecords (s : State) : List Record :=
  let log := if s.flag F.REC_STAT_MOUNTED then s.log.blocks.flatMap (·.records) else []
  (log ++ s.log.buf).foldl (fun l r => insertSeq r l) []

/-- READ (R421): whole records, up to the first that does not fit; none where the destination is refused (R345). -/
def execRecRead (t : Nat) (a : Attr) (s : State) : Host.Outcome State Fault Refusal :=
  let s := s.tick t
  .next <| s.guarded a 0x41400008 true a.attic0 fun s =>
    let from_ := s.rd64 F.REC_RD_FROM_FROM
    let l := s.allRecords.filter fun r => decide (from_ ≤ r.seq) && decide (s.rd F.REC_RD_FILT_MIN_SEV ≤ r.sev)
    let q := takeFit l (s.rd F.REC_RD_LEN_RD_LEN)
    let addr := s.rd (F.REC_RD_ADDR_ADDR 0) + 2 ^ 32 * (s.rd (F.REC_RD_ADDR_ADDR 1) % 256)
    let bytes := q.1.flatMap Record.bytes
    s.buffer addr bytes.length true
      (fun s => let s := (s.store addr bytes).wr F.REC_RD_STAT_COUNT q.1.length
        { s with log := { s.log with readEnd := (q.1.getLast?.map fun r => r.seq + 1).getD from_ } })
      fun s => { s.wr F.REC_RD_STAT_COUNT 0 with log := { s.log with readEnd := from_ } }

end Sys2Proof.Machine
end

