-- ==== Sys2Proof/Machine/Hearth.lean ====
section
/-! DEFINITION. The Hearth cartridge and the margin planner (R389 to R404, R450): authentication, measurements, plans,
margins and flash refresh. -/

namespace Sys2Proof.Machine

/-! ### The cartridge -/

/-- Changes what the Hearth holds beside its registers. -/
def State.modHearth (s : State) (f : HearthSt → HearthSt) : State := { s with hearth := f s.hearth }

/-- HEARTH_STAT.AUTH reads OK: the cartridge is authenticated (R390). -/
def State.authOk (s : State) : Bool := s.rd F.HEARTH_STAT_AUTH == 2

/-- Has the cartridge reached its end of life (R391)? 15 years are 5,479 days (log entry 28). -/
def State.atEol (s : State) : Bool :=
  decide (5479 ≤ s.rd F.HEARTH_LIFE_AGE_DAYS ∨ 500000 ≤ s.rd F.HEARTH_LIFE_EVENTS ∨ s.rd F.HEARTH_MEAS_C_MEAS < 2920 ∨
    2000 ≤ s.rd F.HEARTH_MEAS_ESR_MEAS ∨ 90 ≤ s.rd F.HEARTH_FLASH_WEAR)

/-- A record of CLASS MARGIN (R407). -/
def State.marginRecord (s : State) (kind sev subj : Nat) : State :=
  s.record 0x10 kind sev subj 0 [s.word F.MARGIN_STAT_DEFICIT.addr]

/-- Sets EOL with one record at severity 5 where the cartridge has reached its end of life (R391). -/
def State.eolCheck (s : State) : State :=
  if s.authOk ∧ s.atEol ∧ !s.flag F.HEARTH_STAT_EOL then (s.setF F.HEARTH_STAT_EOL).marginRecord 1 5 0 else s

/-- The hold-up switch: closed where R370 asks for it, a cartridge is fitted and its 50 ms have passed (R450). -/
def State.holdupOn (s : State) : Bool :=
  s.hearth.fitted && s.hearth.swReq.isSome && decide (s.hearth.swFrom ≤ s.now)

/-- R370 asks for the switch to be closed. -/
def State.switchClose (s : State) : State :=
  if s.hearth.swReq.isSome then s else s.modHearth fun h => { h with swReq := some s.now }

/-- The switch opens. One that stayed closed for 1 ms or longer was a hold-up event (R391). -/
def State.switchCount (s : State) : State :=
  match s.hearth.swReq with
  | none => s
  | some t0 => if s.hearth.fitted ∧ max t0 s.hearth.swFrom + ms 1 ≤ s.now then (s.inc F.HEARTH_LIFE_EVENTS).eolCheck else s

/-- R370 no longer asks for the switch to be closed. -/
def State.switchOpen (s : State) : State := s.switchCount.modHearth fun h => { h with swReq := none }

/-- The charger runs: a cartridge is fitted, the bus is at 18 V, no power-fail is declared and no test runs (R371, R392). -/
def State.chargeOn (s : State) : State :=
  if s.pwr.hubUp ∧ s.hearth.fitted ∧ !s.inPowerFail ∧ s.hearth.testAt.isNone ∧ !s.pwr.busLow14 ∧
      !s.flag F.PWRMGR_STAT_UNDERVOLT then s.setF F.PWRMGR_STAT_CHARGING
  else s

/-- A test discharge is given up, and the plan that was to follow it (R402). -/
def State.hearthAbort (s : State) : State :=
  ((s.clrF F.HEARTH_STAT_TESTING).clrF F.MARGIN_STAT_PLANNING).modHearth fun h =>
    { h with testAt := none, testPlan := false }

/-! ### Planning -/

/-- RUN and SAFE time is counted up to now (R394). -/
def State.accrue (s : State) : State :=
  let on := s.pwr.state == .run || s.pwr.state == .safe
  let acc := if on then s.hearth.acc + (s.now - s.hearth.accAt) else s.hearth.acc
  (s.wr F.MARGIN_STAT_SINCE_H (min (acc / secs 3600) (2 ^ 20 - 1))).modHearth fun h => { h with acc := acc, accAt := s.now }

/-- 0.8 × E_USE (R393, R395) in the planner's unit: C in mF, V in mV, ESR in 0.1 mΩ, P in 0.1 W. -/
def energyBudget (c v esr p : Nat) : Nat := c * (v * v - 36000000) * (3600000 - p * esr)

/-- A plan of R395: GRACE_MS, DIRTY_KB, DEFICIT and E_PLAN. -/
def planEnergy (bud p graceReq dirtyReq : Nat) : Nat × Nat × Bool × Nat :=
  let fix := p * 10301 * 9000000000
  let kb := p * 22500000000
  let gr := p * 900000000000
  let out (grace dirty : Nat) (deficit : Bool) := (grace, dirty, deficit, fix + kb * dirty + gr * grace)
  if fix + kb * dirtyReq + gr * graceReq ≤ bud then out graceReq dirtyReq false
  else if fix + kb * dirtyReq ≤ bud then out ((bud - fix - kb * dirtyReq) / gr) dirtyReq false
  else if fix + kb * 16 ≤ bud then out 0 (max 16 ((bud - fix) / kb)) false
  else out 0 16 true

/-- Is the hold-up ready at the cell voltage `v` (R378)? -/
def State.holdTest (s : State) (v : Nat) : Bool :=
  s.authOk && decide (5 * s.hearth.ePlan ≤ 18000000 * (s.rd F.HEARTH_MEAS_C_MEAS * (v * v - 36000000)))

/-- GRACE_MS in force: none while HOLDUP_READY is 0 (R395, R396). -/
def State.graceInForce (s : State) : State :=
  s.wr F.PWRMGR_PF_CFG_GRACE_MS (if s.flag F.PWRMGR_STAT_HOLDUP_READY then s.rd F.MARGIN_PLAN_GRACE_MS else 0)

/-- The planned grace and dirty limit take effect; a longer grace or a higher limit only where `ready` says that the new
E_PLAN passes R378 (R394). -/
def State.settlePlan (s : State) (ready : Bool) : State :=
  let w := s.hearth.want
  let g := if ready then w.1 else min w.1 (s.rd F.MARGIN_PLAN_GRACE_MS)
  let d := if ready then w.2 else min w.2 (s.rd F.MARGIN_PLAN_DIRTY_KB)
  let s := ((s.wr F.MARGIN_PLAN_GRACE_MS g).wr F.MARGIN_PLAN_DIRTY_KB d).graceInForce
  if s.dirtyLimit ≤ s.dirtyBytes then s.triggerFlush .dirtyLimit else s

/-- HOLDUP_READY (R378, R396). -/
def State.setReady (s : State) (b : Bool) : State :=
  (s.wr F.PWRMGR_STAT_HOLDUP_READY (bit b)).settlePlan b

/-- DERATE for a drift of `d` in 0.25 %: the least x with x ≥ 100 × (1 − 1 / √(1 + d / 400)) (R399). -/
def derateOf (d : Nat) : Nat :=
  (List.find? (fun x => decide ((100 - x) * (100 - x) * (400 + d) ≤ 4000000)) (List.range 101)).getD 100

/-- DERATE of a channel (R399): of a channel without a valid positive drift it is 0. -/
def State.derateChan (s : State) (n : Nat) : State :=
  let d := toSigned 8 (s.rd (F.CH_AGE_DRIFT n))
  s.wr { F.MARGIN_DERATE_DERATE0 (n / 4) with lo := 8 * (n % 4) }
    (if s.flag (F.CH_AGE_AGE_VALID n) ∧ 0 < d then derateOf d.toNat else 0)

/-- F_APP in 100 MHz for a delay in ps (R397); none where even 1,200 MHz fails. -/
def freqFor (dHub : Nat) : Option Nat :=
  List.find? (fun f => decide ((dHub + 40) * (100 * f) ≤ 1000000)) [16, 15, 14, 13, 12]

/-- The frequency limit takes effect: a lower one at once, a higher one at start-up (R394, R397). -/
def State.setFreq (s : State) (f : Nat) : State :=
  let s := s.modHearth fun h => { h with fWant := f }
  if f < s.rd F.MARGIN_PLAN_F_APP ∨ s.pwr.state = .startup then s.wr F.MARGIN_PLAN_F_APP f else s

/-- A full plan (R393 to R395). A cartridge that is not authenticated is credited with no energy (R390). -/
def State.fullPlan (s : State) : State :=
  let s := s.accrue
  let p := if s.hearth.acc < secs 3600 then 460 else min s.hearth.peak 65535
  let c := if s.authOk then s.rd F.HEARTH_MEAS_C_MEAS else 0
  let bud := energyBudget c s.hearth.vFull (s.rd F.HEARTH_MEAS_ESR_MEAS) p
  let r := planEnergy bud p (s.rd F.MARGIN_REQ_GRACE_REQ) (s.rd F.MARGIN_REQ_DIRTY_REQ)
  let s := ((s.wr F.MARGIN_PWR_P_RUN p).wr F.MARGIN_ENERGY_E_USE (min 65535 (bud / 720000000000000))).wr
    F.MARGIN_ENERGY_E_PLAN (min 65535 (r.2.2.2 / 900000000000000))
  let s := ((s.wr F.MARGIN_STAT_DEFICIT (bit r.2.2.1)).clrF F.MARGIN_STAT_PLANNING).clrF F.MARGIN_STAT_SINCE_H
  let s := s.modHearth fun h => { h with acc := 0, peak := 0, ePlan := r.2.2.2, want := (r.1, r.2.1) }
  let s := s.settlePlan (s.holdTest (s.rd F.PWRMGR_BUS_V_HOLD))
  let s := (List.range 48).foldl State.derateChan s
  let s := s.setFreq ((freqFor (s.rd F.MARGIN_DELAY_D_HUB)).getD 12)
  if r.2.2.1 then s.marginRecord 2 6 0 else s

/-- The registers that make up the plan the Cellar holds (R394). -/
def planRegs : List Nat :=
  [F.MARGIN_STAT_DEFICIT.addr, F.MARGIN_PLAN_F_APP.addr, F.MARGIN_ENERGY_E_USE.addr, F.MARGIN_PWR_P_RUN.addr] ++
    (List.range 12).map fun k => (F.MARGIN_DERATE_DERATE0 k).addr

/-- The Cellar takes the plan (R394). -/
def State.planToCellar (s : State) : State :=
  s.modHearth fun h => { h with saved := planRegs.map fun a => (a, s.word a) }

/-- The plan from before the sleep is in force again; a higher frequency limit that waited takes effect (R394). -/
def State.planFromCellar (s : State) : State :=
  let s := s.hearth.saved.foldl (fun s (x : Nat × Nat) => s.wrWord x.1 x.2) s
  (s.wr F.MARGIN_PLAN_F_APP s.hearth.fWant).graceInForce

/-! ### Fitting, authenticating and removing a cartridge -/

/-- CART_INSERT (R450): the switch stays open for 50 ms, and authentication is pending. -/
def execCartInsert (t : Nat) (s : State) : Host.Outcome State Fault Refusal :=
  let s := s.tick t
  .next <| if s.hearth.fitted then s else
    let s := s.modHearth fun h => { h with fitted := true, swFrom := s.now + ms 50 }
    if s.pwr.hubUp then s.wr F.HEARTH_STAT_AUTH 1 else s

/-- The registers that read from the cartridge when none is fitted. -/
def State.noCartridge (s : State) : State :=
  let s := ((s.clrF F.HEARTH_STAT_AUTH).clrF F.HEARTH_STAT_REMOVE_OK).clrF F.HEARTH_STAT_EOL
  let s := ((s.clrF (F.HEARTH_SERIAL_SERIAL 0)).clrF (F.HEARTH_SERIAL_SERIAL 1)).clrF F.HEARTH_MEAS_C_MEAS
  let s := ((s.clrF F.HEARTH_MEAS_ESR_MEAS).clrF F.HEARTH_LIFE_AGE_DAYS).clrF F.HEARTH_LIFE_EVENTS
  (s.clrF F.HEARTH_STAT_REFRESHING).clrF F.PWRMGR_STAT_CHARGING

/-- CART_REMOVE (R402, R404, R450): the switch opens, flash writing stops, a test is aborted, HOLDUP_READY is 0. The
tamper source CART is recognised by TAMPER_RECOGNISED. -/
def execCartRemove (t : Nat) (s : State) : Host.Outcome State Fault Refusal :=
  let s := s.tick t
  .next <| if s.hearth.fitted then
      let s := s.switchCount.unmountLog.hearthAbort.noCartridge
      let s := s.modHearth fun h => { h with fitted := false }
      if s.inPowerFail then s.clrF F.PWRMGR_STAT_HOLDUP_READY else s.setReady false
    else s

/-- CART_AUTHENTICATE (R390, R404): at S4 or after an insertion; the flash of a cartridge that fails is not mounted. A cartridge is then
charged (R371). After start-up a plan follows. -/
def execCartAuthenticate (t : Nat) (c : CartId) (s : State) : Host.Outcome State Fault Refusal :=
  let s := s.tick t
  .next <|
    if s.rd F.HEARTH_STAT_AUTH ≠ 1 then s
    else if !c.ok then
      ((s.unmountLog.wr F.HEARTH_STAT_AUTH 3).record 0x0F 0x06 6 0 0 [s.word F.WORLD_STAT_ROOT.addr]).chargeOn
    else
      let s := ((s.wr F.HEARTH_STAT_AUTH 2).wr (F.HEARTH_SERIAL_SERIAL 0) c.serial).wr (F.HEARTH_SERIAL_SERIAL 1)
        (c.serial / 2 ^ 32)
      let s := ((s.wr F.HEARTH_MEAS_C_MEAS (min c.cMeas 65535)).wr F.HEARTH_MEAS_ESR_MEAS (min c.esr 65535)).wr
        F.HEARTH_LIFE_AGE_DAYS (min c.ageDays 8191)
      let s := ((s.wr F.HEARTH_LIFE_EVENTS (min c.events 524287)).wr F.HEARTH_FLASH_WEAR (min c.wear 255)).clrF
        F.HEARTH_STAT_REMOVE_OK
      let s := (s.mountLog c.ours).eolCheck.chargeOn
      if s.pwr.state = .startup ∧ !s.pwr.stagesDone.contains 4 then s else s.fullPlan

/-- SERVICE_FLUSH (R403). -/
def execServiceFlush (t : Nat) (a : Attr) (s : State) : Host.Outcome State Fault Refusal :=
  let s := s.tick t
  .next <| s.guarded a 0x40030004 true a.attic0 fun s => s.triggerFlush .service

/-! ### Measurements -/

/-- The supply's readings of the two voltages: the bus in 10 mV, the cells in mV. -/
def State.volts (s : State) (vBus vHold : Nat) : State :=
  (s.wr F.PWRMGR_BUS_V_BUS (min vBus 65535)).wr F.PWRMGR_BUS_V_HOLD (min vHold 65535)

/-- May a test discharge begin (R392)? -/
def State.testMay (s : State) (vBus vHold : Nat) : Bool :=
  s.pwr.hubUp && s.hearth.fitted && s.hearth.testAt.isNone && !s.inPowerFail && decide (15500 ≤ vHold) && decide (1800 ≤ vBus)

/-- A test discharge begins: the charger pauses (R392). -/
def State.testBegin (s : State) (plan : Bool) : State :=
  ((s.setF F.HEARTH_STAT_TESTING).clrF F.PWRMGR_STAT_CHARGING).modHearth fun h =>
    { h with testAt := some s.now, testPlan := plan, firstTest := false }

/-- MEASURE (R392). -/
def execMeasure (t : Nat) (a : Attr) (vBus vHold : Nat) (s : State) : Host.Outcome State Fault Refusal :=
  let s := s.tick t
  .next <| s.guarded a 0x40030004 true a.attic0 fun s =>
    if s.testMay vBus vHold then (s.volts vBus vHold).testBegin false else s.volts vBus vHold

/-- TEST_DISCHARGE_START (R392): the first test after a start from OFF. -/
def execTestDischargeStart (t : Nat) (vBus vHold : Nat) (s : State) : Host.Outcome State Fault Refusal :=
  let s := (s.tick t).volts vBus vHold
  .next <| if s.hearth.firstTest ∧ s.testMay vBus vHold then s.testBegin false else s

/-- TEST_DISCHARGE_COMPLETE (R392): the voltage step at 10 µs and the fall from there to 200 ms, in µV. -/
def execTestDischargeComplete (t : Nat) (stepUv fallUv : Nat) (s : State) : Host.Outcome State Fault Refusal :=
  let s := s.tick t
  .next <| match s.hearth.testAt with
    | none => s
    | some t0 =>
      if !s.closed t0 (ms 200) then s else
      let plan := s.hearth.testPlan
      let s := (s.wr F.HEARTH_MEAS_ESR_MEAS (min 65535 (stepUv / 200))).wr F.HEARTH_MEAS_C_MEAS
        (if fallUv = 0 then 65535 else min 65535 (400000000 / fallUv))
      let s := s.hearthAbort.eolCheck
      let s := if 1800 ≤ s.rd F.PWRMGR_BUS_V_BUS then s.setF F.PWRMGR_STAT_CHARGING else s
      if plan then s.fullPlan else s

/-- REPLAN (R394). -/
def execReplan (t : Nat) (a : Attr) (s : State) : Host.Outcome State Fault Refusal :=
  let s := s.tick t
  .next <| s.guarded a 0x40040004 true a.attic0 fun s => if s.inPowerFail then s else s.fullPlan

/-- PLAN_TIMER (R392, R394): a test discharge where its conditions hold, then the plan. -/
def execPlanTimer (t : Nat) (vBus vHold : Nat) (s : State) : Host.Outcome State Fault Refusal :=
  let s := ((s.tick t).volts vBus vHold).accrue
  .next <|
    if s.hearth.acc < secs 86400 ∨ s.hearth.testPlan ∨ !s.pwr.hubUp ∨ s.inPowerFail then s
    else if s.testMay vBus vHold then (s.testBegin true).setF F.MARGIN_STAT_PLANNING
    else s.fullPlan

/-- HOLDUP_RETEST (R396). -/
def execHoldupRetest (t : Nat) (vHold : Nat) (s : State) : Host.Outcome State Fault Refusal :=
  let s := s.tick t
  let s := s.wr F.PWRMGR_BUS_V_HOLD (min vHold 65535)
  .next <|
    if s.flag F.PWRMGR_STAT_HOLDUP_READY ∨ !(s.pwr.state == .run || s.pwr.state == .safe) then s
    else if s.holdTest vHold then s.setReady true else s.setReady false

/-- One margin report, written as its condition begins (R397 to R400): bit `k` of `seen`. -/
def State.marginReport (s : State) (k : Nat) (on : Bool) (kind sev subj : Nat) (eff : State → State) : State :=
  let was := s.hearth.seen.testBit k
  let s := s.modHearth fun h => { h with seen := if on then maskSet h.seen k else maskClr h.seen k }
  if on ∧ !was then (eff s).marginRecord kind sev subj else s

/-- The slack of a lane and its report (R398). -/
def State.laneMargin (s : State) (l : Nat) (f : Fld) (d : Nat) : State :=
  (s.wr f (min (1667 - d) 1023)).marginReport (1 + l) (decide (1667 < d + 100)) 4 5 l fun s => s.raise F.MARGIN_LANE_LOW

/-- The resistance of a stud and its reports (R400); it is measured at 20 A or more. -/
def State.studMargin (s : State) (n : Nat) (f : Fld) (r : Option Nat) : State :=
  match r with
  | none => s
  | some r =>
    let s := (s.wr f (min r 32767)).marginReport (4 + n) (decide (300 < r)) 6 4 (n + 1) id
    s.marginReport (6 + n) (decide (1000 ≤ r)) 6 5 (n + 1) fun s => s.raise F.MARGIN_STUD_HIGH

/-- A drift of 127 recommends replacement (R399). -/
def State.driftMargin (s : State) (n : Nat) : State :=
  s.marginReport (8 + n) (s.flag (F.CH_AGE_AGE_VALID n) && s.rd (F.CH_AGE_DRIFT n) == 127) 5 5 n id

/-- MARGIN_MEASURE (R393, R397 to R400): delays in ps corrected to 125 °C, stud resistances in µΩ, and the 1 s mean of the
electronics power in 0.1 W. -/
def execMarginMeasure (t : Nat) (dHub dA dB dC : Nat) (stud1 stud2 : Option Nat) (pNow : Nat) (s : State) :
    Host.Outcome State Fault Refusal :=
  let s := (s.tick t).accrue
  .next <| if !s.pwr.hubUp then s else
    let s := (s.wr F.MARGIN_PWR_P_NOW (min pNow 65535)).modHearth fun h => { h with peak := max h.peak pNow }
    let s := s.wr F.MARGIN_DELAY_D_HUB (min dHub 65535)
    let s := s.setFreq ((freqFor dHub).getD 12)
    let s := s.marginReport 0 (freqFor dHub).isNone 3 6 0 id
    let s := ((s.laneMargin 0 F.MARGIN_LANE_SLACK_A dA).laneMargin 1 F.MARGIN_LANE_SLACK_B dB).laneMargin 2
      F.MARGIN_LANE_SLACK_C dC
    let s := (s.studMargin 0 F.MARGIN_STUD_R_STUD1 stud1).studMargin 1 F.MARGIN_STUD_R_STUD2 stud2
    let s := (List.range 48).foldl State.driftMargin s
    if s.flag F.PWRMGR_STAT_HOLDUP_READY then s.settlePlan (s.holdTest (s.rd F.PWRMGR_BUS_V_HOLD)) else s

/-! ### Flash refresh -/

/-- REFRESH_MARGIN at its default (R401): no register and no data key of the setup image carries another value (log
entry 28). -/
def refreshMargin : Nat := 25

/-- FLASH_REFRESH (R401): the mean wear, and for each region its retention margin in % and its number of blocks. The
regions of low margin are refreshed. -/
def execFlashRefresh (t : Nat) (wear : Nat) (regions : List (Nat × Nat)) (s : State) : Host.Outcome State Fault Refusal :=
  let s := s.tick t
  .next <| if !s.authOk ∨ !s.pwr.stagesDone.contains 7 then s else
    let low := regions.filter fun r => decide (r.1 < refreshMargin)
    let s := s.wr F.HEARTH_FLASH_WEAR (min wear 255)
    let s := match (regions.map Prod.fst).min? with
      | some m => s.wr F.HEARTH_FLASH_MARGIN_MIN (min m 255)
      | none => s
    (s.incBy F.HEARTH_FLASH_REFRESHED (low.foldl (fun n r => n + r.2) 0)).eolCheck

end Sys2Proof.Machine
end

