-- ==== Sys2Proof/Machine/Lanes.lean ====
section
/-! DEFINITION. The vital lanes: cycle alignment, agreement, execute, compare, command update, exclusion and reintegration
(*Vital lanes and Threshold voting*, R71 to R104, R474, R477). -/

namespace Sys2Proof.Machine

/-! ### Boundaries (R75, R76) -/

/-- The middle one of three numbers. -/
def median3 (a b c : Int) : Int := max (min a b) (min (max a b) c)

/-- The reference of one, two or three boundaries: itself, the midpoint, the median (R75, R76). -/
def refBoundary : List Nat → Option Int
  | [a] => some a
  | [a, b] => some (((a : Int) + b) / 2)
  | [a, b, c] => some (median3 a b c)
  | _ => none

/-- The boundaries a lane forms its reference from: those of the ACTIVE lanes, or with none ACTIVE its own and those it
hears. -/
def State.refSet (s : State) (l : LaneId) (own : Nat) (heard : List (LaneId × Nat)) : List Nat :=
  let of (m : LaneId) : Option Nat := if m = l then some own else (heard.find? fun h => h.1 = m).map (·.2)
  let ls := if s.actives.isEmpty then laneIds else s.actives
  ls.filterMap of

/-- The correction limit (R75), ns. -/
def State.corrLimit (s : State) : Nat := max 4000 (150 * s.period / 1000000)

/-- The skew bound (R75), ns. -/
def State.skewBound (s : State) : Nat := max 10000 (150 * s.period / 1000000)

/-- A skew beyond the bound in two consecutive cycles (R75, R76, R104). -/
def State.skewFault (s : State) (l : LaneId) : State :=
  match (s.ln l).state with
  | .active =>
    match s.actives with
    | [_, hi] => s.excludeLane hi 7
    | _ => s.excludeLane l 7
  | .returning | .shadow => s.abortAttempt 8
  | .excluded | .lockedOut | .starting => s

/-- A lane steers its next cycle towards the reference (R75); a standby's lanes also towards the primary (R145). -/
def State.alignLane (s : State) (l : LaneId) (own : Nat) (heard : List (LaneId × Nat)) : State :=
  let lim : Int := s.corrLimit
  match refBoundary (s.refSet l own heard) with
  | none => s.modLn l fun x => { x with period := s.period }
  | some r =>
    let d : Int := (own : Int) - r
    let run := if s.skewBound < d.natAbs then (s.ln l).skewRun + 1 else 0
    let s := s.modLn l fun x =>
      { x with period := ((s.period : Int) - satInt (d + (s.pairError r).getD 0) (-lim) lim).toNat, skewRun := run }
    if 2 ≤ run then s.skewFault l else s

/-- LANEIF_SKEW shows B minus A and C minus A, in 0.1 µs. -/
def State.showSkew (s : State) (l : LaneId) (own : Nat) (heard : List (LaneId × Nat)) : State :=
  let of (m : LaneId) : Option Int :=
    if m = l then some (own : Int) else (heard.find? fun h => h.1 = m).map fun h => (h.2 : Int)
  let show' (s : State) (f : Fld) (m : LaneId) : State := match of .a, of m with
    | some a, some b => s.wr f (ofSigned 16 (satInt ((b - a) / 100) (-32768) 32767))
    | _, _ => s
  show' (show' s F.LANEIF_SKEW_SKEW_B .b) F.LANEIF_SKEW_SKEW_C .c

/-! ### Reintegration attempts (R98, R99) -/

/-- What the ACTIVE lanes know of a lane at a boundary of cycle n: its marker of cycle n − 1 (R98), which is the last one at
least half a period old. -/
def Lane.lastMarker (x : Lane) (now p : Nat) : Option Marker :=
  match x.marker with
  | some m => if m.sentAt + p / 2 ≤ now then some m else x.markerOld
  | none => none

/-- The conditions of R98 for lane `l` but the count of attempts. -/
def State.mayReturn (s : State) (l : LaneId) : Bool :=
  (s.ln l).state == .excluded && s.flag F.LANEIF_CFG_REINT_EN &&
    (match (s.ln l).lastMarker s.now s.period with
      | some m => m.bist && m.hash == s.cyc.act.map Program.hash
      | none => false) &&
    s.cyc.act.isSome && s.pwr.state == .run && s.cyc.mode == .run &&
    (s.lane.vote == .v2oo2 || (s.lane.vote == .notArmed && s.actives.length == 2)) && s.cyc.oc != .armed

/-- An attempt begins: it is counted, and the lane's variables take their initial values (R98), which are writes to the
retained ones (R120). -/
def State.beginAttempt (s : State) (l : LaneId) : State :=
  let s := s.modLn l fun x => { x with
    state := .returning, attempts := s.now :: s.recentAttempts l, vars := [], fbs := [], queue := [], running := none,
    sealed := if (s.cyc.act.map fun p => p.vars.any fun d => d.retained) = some true then none else x.sealed }
  let s := { s with lane := { s.lane with
      marked := 0, frozen := false, copied := 0, copyShut := none, counted := 0, copySig := [] } }
  let s := ((s.wr F.LANEIF_REINT_LANE l.idx).setF F.LANEIF_REINT_IN_PROGRESS).clrF F.LANEIF_REINT_PRECOPY_DONE
  ((((s.clrF F.LANEIF_REINT_ABORT_CAUSE).clrF F.LANEIF_REINT_CYCLES).clrF F.LANEIF_REINT_DIRTY_BLK).clrF
    F.LANEIF_REINT_SHADOW_CNT)

/-- At the lower-letter ACTIVE lane's boundary an excluded lane begins an attempt, or locks out (R98, R99). -/
def State.tryReturn (s : State) (l : LaneId) : State :=
  if s.mayReturn l then
    if (s.recentAttempts l).length < 3 then s.beginAttempt l
    else (s.modLn l fun x => { x with state := .lockedOut }).laneRecord 0x06 6 l.idx l.idx []
  else s

/-- The levels of U0 to U15 as a lane's front-ends sense them (R160): by the two thresholds in the digital modes, without
debounce; 0 in any other mode. -/
def State.senseLevels (s : State) (old : Nat) (volt : List Int) : Nat :=
  ((List.range 16).filter fun u => [1, 7, 8].contains (s.pinMode u) &&
    s.levelOf u (old.testBit u) (volt.getD u 0)).foldl maskSet 0

/-- A lane's input image from what its front-ends read (R79): in DIN mode the value of a pin is its level, in OFF it is 0
(R158). -/
def State.imageOf (s : State) (levels : Nat) (i : Sensed) : InImage :=
  { din := levels
    ain := (List.range 16).map fun u => match s.pinMode u with
      | 0 => 0
      | 1 => bit (levels.testBit u)
      | _ => i.ain.getD u 0
    diag := (List.range 16).map fun u => if s.pinMode u = 0 then 0 else i.diag.getD u 0 % 32
    tiles := i.tiles
    vin := i.vinRead
    pair := i.pairRead }

/-- LANE_BOUNDARY (R75, R76, R79, R98, R145): the lane sends its marker, which carries its BIST result and hash. -/
def execLaneBoundary (t : Nat) (l : LaneId) (heard : List (LaneId × Nat)) (img : Sensed) (s : State) :
    Host.Outcome State Fault Refusal :=
  let s := s.tick t
  .next <|
    if !s.lanesRun then s else
    let lv := s.senseLevels (s.ln l).levels img.volt
    let s := s.modLn l fun x => { x with
      boundary := s.now, got := [], gotOut := [], sent := none, agreed := none, updated := false, levels := lv,
      markerOld := x.marker, marker := some ⟨s.now, x.bistOk, x.bankHash⟩, img := some (s.imageOf lv img) }
    let s := (s.showSkew l s.now heard).alignLane l s.now heard
    if s.isLowest l then
      let s := if s.attempting.isSome then s.inc F.LANEIF_REINT_CYCLES else s
      laneIds.foldl State.tryReturn (s.pairSteer ((refBoundary (s.refSet l s.now heard)).bind s.pairError))
    else s

/-! ### Markers, frames and links (R73, R74, R84) -/

/-- The VIN image that a swap freezes: the back buffer's words (R84). -/
def State.vinBack (s : State) : Tbl Nat :=
  (List.range 512).foldl (fun m w => m.put 0 w (s.rd (F.LANEIF_VIN_DATA w))) []

/-- UIO_PIN_VALu of U0 to U15 copies the agreed value at each swap (R161), and LEVEL the agreed level. -/
def State.pinCopies (s : State) : State :=
  (List.range 16).foldl (fun s u =>
    let level := bit ((s.rd F.LANEIF_DIN_AGREED_DIN).testBit u)
    (s.wr (F.UIO_PIN_VAL_VALUE u) (match s.pinMode u with
      | 0 => 0
      | 1 => level
      | _ => s.rd (F.LANEIF_AIN_VAL_VALUE u))).wr (F.UIO_PIN_DIAG_LEVEL u) level) s

/-- The buffers of the VIN window change over (R84): what the hub has written is frozen, and it goes on writing to the buffer
that was frozen before. -/
def State.swapVin (s : State) : State :=
  let back := s.vinBack
  let s := (List.range 512).foldl (fun s w => s.wr (F.LANEIF_VIN_DATA w) (s.lane.vinFront.getD 0 w)) s
  { s with lane := { s.lane with vinFront := back, swapAt := s.now, tied := false } }

/-- The VIN swap opens a cycle (R84): the frozen image, the cycle number, and what acts from the cycle (R114). -/
def State.vinSwap (s : State) : State :=
  let first := !s.lane.opened
  let s := if first then s else s.incWrap F.LANEIF_CYCLE_CNT_CYCLE
  let s := (s.wr F.LANEIF_IMG_SEQ_VIN_SEQ (s.cycleNo % 65536)).swapVin
  let s := { s with lane := { s.lane with
      opened := true, linkPrev := s.lane.linkNow, linkNow := [], overrun := false, compared := false } }
  (s.pinCopies.cycSwap first).pairSwap.netUpdate

/-- BOUNDARY_MARKER_RX (R84): the first marker of a cycle swaps the VIN buffers. Markers that reach LANEIF in the clock of the
swap are one tie, which changes nothing else (R38). -/
def execBoundaryMarkerRx (t : Nat) (l : LaneId) (cyc : Nat) (s : State) : Host.Outcome State Fault Refusal :=
  let s := s.tick t
  .next <|
    if !s.lanesRun ∨ s.now < (s.ln l).boundary then s
    else if !s.lane.opened ∨ cyc = (s.cycleNo + 1) % 2 ^ 32 then s.vinSwap
    else if cyc = s.cycleNo ∧ s.lane.swapAt = s.now ∧ !s.lane.tied then
      ({ s with lane := { s.lane with tied := true } }).inc F.LANEIF_TIE_CNT_TIES
    else s

/-- The number of a link: A–B, B–C, C–A (LANEIF_LINK). -/
def linkIdx (k : LaneId × LaneId) : Nat :=
  match k with
  | (.a, .b) => 0 | (.b, .c) => 1 | _ => 2

/-- A link fault in this cycle; on a link of two ACTIVE lanes, in two consecutive cycles, the higher letter of the link is
excluded (R73, R74, R93). -/
def State.linkFault (s : State) (l m : LaneId) : State :=
  let k := linkOf l m
  let s := s.raiseBits F.LANEIF_LINK_LINK_FAULT (2 ^ linkIdx k)
  if (s.ln l).state = .active ∧ (s.ln m).state = .active then
    let s := { s with lane := { s.lane with linkNow := k :: s.lane.linkNow.filter fun j => j ≠ k } }
    if s.lane.linkPrev.contains k then s.excludeLane k.2 8 else s
  else s

/-- The counter of discarded frames of a link (LANEIF_LINK). -/
def linkCrcFld (k : LaneId × LaneId) : Fld := { F.LANEIF_LINK_CRC_AB with lo := 16 - 8 * linkIdx k }

/-- LANE_FRAME_RX (R73): a frame is taken, or discarded and, where it is an image, counted as a link fault. -/
def execLaneFrameRx (t : Nat) (rx tx : LaneId) (kind : FrameKind) (cyc : Nat) (crcOk : Bool) (s : State) :
    Host.Outcome State Fault Refusal :=
  let s := s.tick t
  .next <|
    if rx = tx ∨ !s.lanesRun then s
    else if crcOk ∧ cyc = s.cycleNo then
      match kind with
      | .input => s.modLn rx fun x => { x with got := tx :: x.got.filter fun m => m ≠ tx }
      | .output => s.modLn rx fun x => { x with gotOut := tx :: x.gotOut.filter fun m => m ≠ tx }
      | .marker | .precopy | .finalCopy | .abort => s
    else
      let s := s.inc (linkCrcFld (linkOf rx tx))
      if kind = .input ∨ kind = .output then s.linkFault rx tx else s

/-! ### Agreement (R79 to R83, R474) -/

/-- The level of U_u used where two lanes differ (R82). -/
def State.dinSafe (s : State) : Nat :=
  (List.range 16).foldl (fun m u => if s.flag (F.LANEIF_IN_CFG_DIN_SAFE u) then maskSet m u else m) 0

/-- Bits of two lanes: equal ones stand, differing ones take `safe` (R82). -/
def agree2 (a b safe : Nat) : Nat := (a &&& b) ||| ((a ^^^ b) &&& safe)

/-- Bits of three lanes: the majority (R80). -/
def agree3 (a b c : Nat) : Nat := (a &&& b) ||| (b &&& c) ||| (a &&& c)

/-- The agreement of a set of bits, with the disagreement flags: of three images, two, or one (R73, R80, R82). `all` marks
every bit. -/
def agreeBits (safe all : Nat) : List Nat → Nat × Nat
  | [a] => (a, all)
  | [a, b] => (agree2 a b safe, a ^^^ b)
  | [a, b, c] => (agree3 a b c, (a ^^^ b) ||| (b ^^^ c))
  | _ => (safe, all)

/-- The agreement of one word with its flag (R80, R82). -/
def agreeWord (safe : Nat) : List Nat → Nat × Bool
  | [a] => (a, true)
  | [a, b] => if a = b then (a, false) else (safe, true)
  | [a, b, c] => if a = b ∨ a = c then (a, !(a == b && b == c)) else if b = c then (b, true) else (safe, true)
  | _ => (safe, true)

/-- The agreement of one analogue value with its flag (R81, R82). -/
def agreeAnalogue (tol : Nat) : List Int → Int × Bool
  | [a] => (a, true)
  | [a, b] => ((a + b) / 2, decide (tol < (a - b).natAbs))
  | [a, b, c] => (median3 a b c, decide ((tol : Int) < max a (max b c) - min a (min b c)))
  | _ => (0, true)

/-- The word of an input image's VIN as the lane read it: its own alterations over the frozen image. -/
def State.vinAs (s : State) (i : InImage) (w : Nat) : Nat := (i.vin.find? w).getD (s.lane.vinFront.getD 0 w)

/-- The flagged places of a list. -/
def flagMask (bs : List Bool) : Nat := ((List.range bs.length).filter fun k => bs.getD k false).foldl maskSet 0

/-- The agreed image over a list of images. -/
def State.agreeImages (s : State) (is : List InImage) : Agreed :=
  let d := agreeBits s.dinSafe 65535 (is.map fun i => i.din)
  let an := (List.range 16).map fun u =>
    agreeAnalogue (s.rd (F.LANEIF_IN_CFG_TOL u)) (is.map fun i => i.ain.getD u 0)
  let nt := (is.map fun i => i.tiles.length).foldl max 0
  let tl := (List.range nt).map fun k => agreeBits 0 (2 ^ 32 - 1) (is.map fun i => i.tiles.getD k 0)
  let vw := (List.range 512).map fun w => agreeWord (s.lane.vinSafe.getD 0 w) (is.map fun i => s.vinAs i w)
  { img := { din := d.1, ain := an.map (·.1), tiles := tl.map (·.1), pair := none
             diag := (List.range 16).map fun u => (agreeBits 0 31 (is.map fun i => i.diag.getD u 0)).1
             vin := (List.range 512).foldl (fun m w => m.put 0 w ((vw.getD w (0, false)).1)) [] }
    dinQ := d.2
    ainQ := flagMask (an.map (·.2))
    tilesQ := tl.map (·.2)
    vinQ := (List.range 512).filter fun w => (vw.getD w (0, false)).2 }

/-- The agreement of the lanes' copies of the partner's image (R25, R147), word by word as digital data. DESIGN CHOICE (log
entry 84): DIN is one word, each analogue value and each tile status word is one; and the flags the program sees are those of
this agreement. -/
def State.agreePair (s : State) (is : List Agreed0) : Agreed :=
  let d := agreeWord s.dinSafe (is.map fun i => i.din % 65536)
  let an := (List.range 16).map fun u => agreeWord 0 (is.map fun i => ofSigned 32 (i.ain.getD u 0))
  let nt := (is.map fun i => i.tiles.length).foldl max 0
  let tl := (List.range nt).map fun k => agreeWord 0 (is.map fun i => i.tiles.getD k 0)
  let vw := (List.range 512).map fun w => agreeWord (s.lane.vinSafe.getD 0 w) (is.map fun i => Tbl.getD i.vin 0 w)
  { img := { din := d.1, ain := an.map fun x => toSigned 32 x.1, tiles := tl.map (·.1), pair := none, diag := []
             vin := (List.range 512).foldl (fun m w => m.put 0 w ((vw.getD w (0, false)).1)) [] }
    dinQ := if d.2 then 65535 else 0
    ainQ := flagMask (an.map (·.2))
    tilesQ := tl.map fun x => if x.2 then 2 ^ 32 - 1 else 0
    vinQ := (List.range 512).filter fun w => (vw.getD w (0, false)).2 }

/-- The inputs of R83: a pin's level, a pin's value, a VIN word, a tile status word. Each has a number of its own, by which
its run of flagged cycles is kept. -/
def inputNo (kind k : Nat) : Nat := 0x400 * kind + k

/-- SUBJ of an input (R83): VIN word w is 0x0100 + w, tile status word s 0x0200 + s. -/
def inputSubj (n : Nat) : Nat := [0, 0x10, 0x100, 0x200].getD (n / 0x400) 0 + n % 0x400

/-- The value of an input in an image. -/
def State.inputOf (s : State) (i : InImage) (n : Nat) : Int :=
  let k := n % 0x400
  match n / 0x400 with
  | 0 => bit (i.din.testBit k)
  | 1 => i.ain.getD k 0
  | 2 => s.vinAs i k
  | _ => i.tiles.getD k 0

/-- The inputs whose flag is set in an agreed image. -/
def Agreed.flagged (g : Agreed) : List Nat :=
  ((List.range 16).filter fun u => g.dinQ.testBit u).map (inputNo 0) ++
  ((List.range 16).filter fun u => g.ainQ.testBit u).map (inputNo 1) ++
  g.vinQ.map (inputNo 2) ++
  ((List.range g.img.tiles.length).filter fun k => g.tilesQ.getD k 0 != 0).map (inputNo 3)

/-- The lane whose value of an input lay farthest from the agreed value, the lower letter in a tie (R83). -/
def State.farthest (s : State) (g : Agreed) (k : Nat) : LaneId :=
  let dist (l : LaneId) : Nat := match (s.ln l).img with
    | some i => (s.inputOf i k - s.inputOf g.img k).natAbs
    | none => 0
  match s.actives with
  | [] => .a
  | l :: rest => rest.foldl (fun best m => if dist best < dist m then m else best) l

/-- The runs of consecutive flagged cycles, and the record when one reaches DISAGREE_CYCLES (R83). -/
def State.countDisagree (s : State) (g : Agreed) : State :=
  let now := g.flagged
  let runs : Tbl Nat := now.foldl (fun m k => m.put 0 k (s.lane.disRuns.getD 0 k + 1)) []
  let s := { s with lane := { s.lane with disRuns := runs } }
  now.foldl (fun s k =>
    if runs.getD 0 k = s.rd F.LANEIF_CFG_DISAGREE_CYCLES then
      s.laneRecord 0x04 5 (inputSubj k) (s.farthest g k).idx [(s.farthest g k).idx]
    else s) s

/-- The fault bits of a pin (R164), from bit 0 of its mask up. -/
def pinFaults (u : Nat) : List Fld :=
  [F.UIO_PIN_DIAG_OVER u, F.UIO_PIN_DIAG_UNDER u, F.UIO_PIN_DIAG_OPEN u, F.UIO_PIN_DIAG_SHORT u, F.UIO_PIN_DIAG_SUPPLY u]

/-- The agreed faults of U0 to U15 are reported (R164). -/
def State.showFaults (s : State) (diag : List Nat) : State :=
  (List.range 16).foldl (fun s u => (List.range 5).foldl (fun s k =>
    if (diag.getD u 0).testBit k then s.raise ((pinFaults u).getD k (F.UIO_PIN_DIAG_OVER u)) else s) s) s

/-- LANEIF shows the agreed inputs and their flags. -/
def State.showAgreed (s : State) (g : Agreed) : State :=
  let s := s.wr F.LANEIF_DIN_AGREED_DIN g.img.din
  let s := s.raiseBits F.LANEIF_DIN_DISAGREE_DIN_FLAG g.dinQ
  let s := s.raiseBits F.LANEIF_AIN_DISAGREE_AIN_FLAG g.ainQ
  let s := s.showFaults g.img.diag
  (List.range 16).foldl (fun s u => s.wr (F.LANEIF_AIN_VAL_VALUE u) (ofSigned 32 (g.img.ain.getD u 0))) s

/-- The ACTIVE lanes whose images lane `l` holds, its own included (R73). -/
def State.holds (s : State) (l : LaneId) : List LaneId := s.actives.filter fun m => m = l ∨ (s.ln l).got.contains m

/-- The image lane `l` executes on: the agreement of its own pins, or on a standby that has taken the partner's image that of
the lanes' copies of it, each as it reached the lane through LANEIF (R25, R147). -/
def State.executeImage (s : State) (l : LaneId) (g : Agreed) : Agreed :=
  match s.pair.img with
  | some (c, i) =>
    if c = s.cycleNo ∧ s.flag F.PAIR_STAT_IMG_SRC then
      s.agreePair ((s.holds l).map fun m => ((s.ln m).img.bind InImage.pair).getD i)
    else g
  | none => g

/-- The image of the present cycle waits for execute with the forces in force, where the cycle is executed (R112, R113, R129):
`g` is the agreed image of lane `src`. -/
def State.queueImage (s : State) (l src : LaneId) (g : Agreed) : State :=
  if s.cyc.expected then
    s.modLn l fun x => { x with queue := x.queue ++ [(s.cycleNo, s.executeImage src g, s.forcesNow)] }
  else s

/-- An ACTIVE lane agrees over the images of ACTIVE lanes that it holds; a missing one is a link fault (R73, R80 to R82). -/
def State.agreeLane (s : State) (l : LaneId) : State :=
  let others := s.actives.filter fun m => m ≠ l
  let missing := others.filter fun m => !(s.ln l).got.contains m
  let g := s.agreeImages ((s.holds l).filterMap fun m => (s.ln m).img)
  let low := s.isLowest l
  let s := s.modLn l fun x => { x with agreed := some g }
  let s := if low then (s.showAgreed g).countDisagree g else s
  let s := s.queueImage l l g
  missing.foldl (fun s m => s.linkFault l m) s

/-- The agreed images of two ACTIVE lanes differ (R102). -/
def State.agreedDiffer (s : State) : Bool :=
  match s.actives.filterMap fun m => (s.ln m).agreed with
  | g :: h :: _ => g.img != h.img
  | _ => false

/-- A SHADOW lane takes the agreed image of the lower-letter ACTIVE lane, once that is formed, and checks it against the
other's (R102, R104). -/
def State.agreeShadow (s : State) (l : LaneId) : State :=
  if s.agreedDiffer then s.abortAttempt 4
  else match s.actives with
    | low :: _ =>
      match (s.ln low).agreed with
      | some g => (s.modLn l fun x => { x with agreed := some g }).queueImage l low g
      | none => s
    | [] => s

/-- Is the present instant in the window [a, b) from a lane's boundary? -/
def State.inPhase (s : State) (l : LaneId) (a b : Nat) : Bool :=
  decide ((s.ln l).boundary + a ≤ s.now) && decide (s.now < (s.ln l).boundary + b)

/-- AGREEMENT_PHASE (R73, R77, R80 to R83, R102): in the lane's agreement window; the example fixes the image at its close, so
that instant counts still (DEDUCED, log entry 89). -/
def execAgreementPhase (t : Nat) (l : LaneId) (s : State) : Host.Outcome State Fault Refusal :=
  let s := s.tick t
  .next <| if !s.lanesRun ∨ !s.inPhase l 100000 250001 ∨ (s.ln l).agreed.isSome then s else match (s.ln l).state with
    | .active => s.agreeLane l
    | .shadow => s.agreeShadow l
    | .excluded | .returning | .lockedOut | .starting => s

/-! ### Execute (R110 to R112) -/

/-- EXECUTE_PHASE (R77, R111): in its execute window a lane without a backlog begins the cycle's work. A primary sends its agreed
image to the partner (R146). -/
def execExecutePhase (t : Nat) (l : LaneId) (work : List TaskRun) (s : State) : Host.Outcome State Fault Refusal :=
  let s := s.tick t
  .next <|
    if !s.lanesRun ∨ !(s.ln l).executes ∨ s.now < (s.ln l).boundary + 250000 ∨ (s.ln l).deadline ≤ s.now then s else
    let s := if (s.ln l).state = .shadow ∧ (s.ln l).agreed.isNone then s.agreeShadow l else s
    let s := if s.isLowest l then s.sendImg (s.ln l).agreed (s.ln l).boundary else s
    if (s.ln l).running.isNone then s.beginExecute l work else s

/-- The number of marked blocks (R100). -/
def State.markedBlocks (s : State) : Nat := ((List.range 256).filter fun k => s.lane.marked.testBit k).length

/-- At the end of the lower-letter ACTIVE lane's execute: the state of the pre-copy and the freeze of the marked set
(R100, R101), and the same for a resync (R151). -/
def State.endOfExecute (s : State) (l : LaneId) (p : Program) : State :=
  if !s.isLowest l then s else
  let s : State := match s.attempting with
    | some r =>
      if (s.ln r).state = .returning ∧ !s.lane.frozen then
        let done := decide (p.carriedSize ≤ s.copiedBy l)
        let n := s.markedBlocks
        let s := (s.wr F.LANEIF_REINT_DIRTY_BLK n).wr F.LANEIF_REINT_PRECOPY_DONE
          (bit (done || s.flag F.LANEIF_REINT_PRECOPY_DONE))
        if s.flag F.LANEIF_REINT_PRECOPY_DONE ∧ n ≤ 32 then
          let close := (s.ln l).boundary + (s.ln l).period
          { s with lane := { s.lane with frozen := true, copyWin := (close - 100000, close + 100000) } }
        else s
      else s
    | none => s
  s.pairFreeze l p

/-- EXECUTE_COMPLETE (R85, R101, R112, R130): the output image; a lane with a backlog goes on. -/
def execExecuteComplete (t : Nat) (l : LaneId) (next : List TaskRun) (s : State) : Host.Outcome State Fault Refusal :=
  let s := s.tick t
  .next <| match (s.ln l).running, s.progOf l with
    | some n, some p =>
      let s := s.applyForces l p 1
      let o := s.outImage l p
      let s := (s.modLn l fun x => { x with running := none, out := some o, outCyc := n, outAt := s.now }).endOfExecute l p
      match (s.ln l).queue with
      | (m, _) :: _ =>
        if m ≠ s.cycleNo ∨ (s.ln l).boundary + 250000 ≤ s.now then s.beginExecute l next else s
      | [] => s
    | _, _ => s

/-! ### Output exchange and compare (R78, R85, R91, R113) -/

/-- OVERRUN_RUN reaches OVERRUN_LIMIT (R113): the program mode becomes SAFE, from RUN or in a STEP cycle of HOLD, and R91
applies. While the vote mode is not armed its rows do not (R477): no safe pattern and no record of R91. -/
def State.overrunSafe (s : State) : State :=
  if s.lane.vote ≠ .notArmed then
    let s := s.voteSafe
    if s.cyc.mode = .hold then { (s.sealAll) with cyc := { s.cyc with mode := .safe } } else s
  else
    let s := { (s.sealAll) with cyc := { s.cyc with mode := .safe }, lane := { s.lane with armed := false } }
    let s := s.dropWork.cancelOc.abortAttempt 7
    if s.pwr.state = .run then { s with pwr := { s.pwr with state := .safe } } else s

/-- A counted cycle of an attempt in RETURNING: after 64 without the freeze it is aborted (R104). -/
def State.countAttempt (s : State) : State :=
  match s.attempting with
  | some r =>
    if (s.ln r).state = .returning then
      let n := s.lane.counted + 1
      let s := { s with lane := { s.lane with counted := n } }
      if 64 ≤ n ∧ !s.lane.frozen then s.abortAttempt 1 else s
    else s
  | none => s

/-- A cycle is an overrun cycle (R113): counted once, the freeze lapses (R101), and at the limit the mode becomes SAFE. In RUN
it counts among the cycles of an attempt, and a STEP cycle of HOLD does not (R104). -/
def State.noteOverrun (s : State) (l : LaneId) : State :=
  if s.lane.overrun then
    s.wr F.CYCMGR_CYC_STAT_LAST_LANE (min l.idx (s.rd F.CYCMGR_CYC_STAT_LAST_LANE))
  else
    let s := { s with lane := { s.lane with overrun := true, frozen := false, copySig := [] }
                      pair := { s.pair with preFixed := false } }
    let s := ((s.wr F.CYCMGR_CYC_STAT_LAST_LANE l.idx).inc F.CYCMGR_CYC_STAT_OVERRUN_CNT).inc F.CYCMGR_CYC_STAT_OVERRUN_RUN
    let s := if s.cyc.mode = .run then s.countAttempt else s
    if s.rd F.CYCMGR_CFG_OVERRUN_LIMIT ≤ s.rd F.CYCMGR_CYC_STAT_OVERRUN_RUN then s.overrunSafe else s

/-- The lower-letter ACTIVE lane's execute window closes: what the pre-copies have sent in it (R100, R151). -/
def State.closeCopyWindow (s : State) (l : LaneId) : State :=
  match s.cyc.act with
  | some p =>
    if !s.isLowest l ∨ s.lane.copyShut = some (s.ln l).boundary then s else
    let n := min p.carriedSize (s.copiedBy l)
    let s := s.pairSendBlocks l p
    match s.attempting with
    | some r =>
      if (s.ln r).state = .returning then
        let s := { s with lane := { s.lane with copied := n, copyShut := some (s.ln l).boundary } }
        if p.carriedSize ≤ n then s.setF F.LANEIF_REINT_PRECOPY_DONE else s
      else { s with lane := { s.lane with copyShut := some (s.ln l).boundary } }
    | none => { s with lane := { s.lane with copyShut := some (s.ln l).boundary } }
  | none => s

/-- A lane sends an overrun frame (R78); its backlog counts (R112). -/
def State.sendOverrun (s : State) (l : LaneId) : State :=
  let s := s.modLn l fun x => { x with sent := some .overrun }
  let s := s.wr F.CYCMGR_CYC_STAT_BACKLOG_MAX (max (min 8 (s.ln l).backlog) (s.rd F.CYCMGR_CYC_STAT_BACKLOG_MAX))
  if (s.ln l).state = .active then s.noteOverrun l else s

/-- OUTPUT_DEADLINE (R41, R78, R112, R113): execute finished before the deadline, the lane sends its output image, and where it
is not, an overrun frame. -/
def execOutputDeadline (t : Nat) (l : LaneId) (s : State) : Host.Outcome State Fault Refusal :=
  let s := s.tick t
  .next <|
    if !s.lanesRun ∨ s.now < (s.ln l).deadline then s else
    let s := s.closeCopyWindow l
    if !s.cyc.expected ∨ !(s.ln l).executes ∨ (s.ln l).sent.isSome then s else
    let x := s.ln l
    match x.out with
    | some o =>
      if x.outCyc = s.cycleNo ∧ x.outAt < x.deadline then s.modLn l fun x => { x with sent := some (.image o) }
      else s.sendOverrun l
    | none => s.sendOverrun l

/-- The image a lane sent this cycle. -/
def State.sentImage (s : State) (l : LaneId) : Option OutImage :=
  match (s.ln l).sent with
  | some (.image o) => some o
  | _ => none

/-- A lane is outvoted in a compared cycle; in two consecutive ones it is excluded (R93). -/
def State.outvoted (s : State) (l : LaneId) : State :=
  let s := (s.modLn l fun x => { x with disRun := x.disRun + 1 }).inc (F.LANEIF_LANE_DISAGREE_CNT l.idx)
  if 2 ≤ (s.ln l).disRun then s.excludeLane l 1 else s

/-- A lane that agrees in a compared cycle. -/
def State.agreed (s : State) (l : LaneId) : State := s.modLn l fun x => { x with disRun := 0 }

/-- The compare of the ACTIVE lanes' images (*Table: Vote mode*, R93). While the vote mode is not armed its rows do not
apply (R477). -/
def State.compareActive (s : State) : State :=
  match s.actives with
  | [x, y, z] =>
    let ox := s.sentImage x
    let oy := s.sentImage y
    let oz := s.sentImage z
    if ox = oy ∧ oy = oz then ((s.agreed x).agreed y).agreed z
    else if ox = oy then ((s.agreed x).agreed y).outvoted z
    else if ox = oz then ((s.agreed x).agreed z).outvoted y
    else if oy = oz then ((s.agreed y).agreed z).outvoted x
    else if s.lane.vote = .v2oo3 then s.voteSafe else s
  | [x, y] => if s.sentImage x ≠ s.sentImage y ∧ s.lane.vote = .v2oo2 then s.voteSafe else s
  | _ => s

/-- The shadow cycle of the returning lane (R102, R104), or a compared cycle of its pre-copy. -/
def State.compareShadow (s : State) : State :=
  match s.attempting with
  | some r =>
    if (s.ln r).state = .shadow then
      let same := s.actives.all (fun m => s.sentImage m == s.sentImage r) && (s.sentImage r).isSome
      let s := if same then s.wr F.LANEIF_REINT_SHADOW_CNT (min 16 (s.rd F.LANEIF_REINT_SHADOW_CNT + 1))
        else s.abortAttempt 3
      if s.agreedDiffer then s.abortAttempt 4 else s
    else s.countAttempt
  | none => s

/-- The readback check of the ACTIVE lanes (R93 cause 0x5): `bad` names the lanes whose lines read back differently. -/
def State.checkReadback (s : State) (bad : List LaneId) : State :=
  s.actives.foldl (fun s l =>
    let s := s.modLn l fun x => { x with readRun := if bad.contains l then x.readRun + 1 else 0 }
    if 2 ≤ (s.ln l).readRun then s.excludeLane l 5 else s) s

/-- The output images and overrun frames that an ACTIVE lane has not received from another: each is a link fault (R73). -/
def State.missingOutputs (s : State) : State :=
  (s.actives.flatMap fun l => (s.actives.filter fun m => m ≠ l ∧ !(s.ln l).gotOut.contains m).map fun m => (l, m)).foldl
    (fun s k => s.linkFault k.1 k.2) s

/-- OUTPUT_COMPARE (R73, R85, R91, R93, R101, R102): once every ACTIVE lane's image is in; a skipped cycle is not compared. -/
def execOutputCompare (t : Nat) (readback : List LaneId) (s : State) : Host.Outcome State Fault Refusal :=
  let s := s.tick t
  .next <|
    let s := s.checkReadback readback
    if s.cyc.expected ∧ !s.lane.overrun ∧ !s.lane.compared ∧ !s.actives.isEmpty ∧
        s.actives.all (fun l => (s.sentImage l).isSome) then
      let s := { s with lane := { s.lane with compared := true } }
      let s := s.clrF F.CYCMGR_CYC_STAT_OVERRUN_RUN
      let s := if s.lane.frozen then
          { s with lane := { s.lane with copySig := s.actives.filterMap fun l => (s.sentImage l).map OutImage.sign } }
        else s
      s.compareShadow.compareActive.missingOutputs.pairCompare.netUpdate
    else s

/-! ### Command update (R86, R89, R90, R116, R140) -/

/-- Every VITAL channel is arm-blocked (R431). -/
def State.allBlocked (s : State) : Bool :=
  let vs := (List.range 48).filter s.vital
  !vs.isEmpty && vs.all fun n => (s.rd (F.SETUP_ARM_BLOCK_BLOCK (n / 32))).testBit (n % 32)

/-- Vital arming (R90, R477); never without a setup image (R426). -/
def State.tryArm (s : State) : State :=
  if s.lane.armed ∨ s.cyc.mode ≠ .run ∨ s.lane.vote = .safe ∨ s.allBlocked ∨ s.rd F.SETUP_STAT_SRC = 0 then s
  else
    let as2oo3 := s.lane.vote = .v2oo3 ∨ (s.lane.vote = .notArmed ∧ s.actives.length = 3)
    let as2oo2 := s.lane.vote = .v2oo2 ∨ (s.lane.vote = .notArmed ∧ s.actives.length = 2)
    if as2oo3 then { s with lane := { s.lane with armed := true, vote := .v2oo3 } }
    else if as2oo2 ∧ s.flag F.LANEIF_CFG_ARM_2OO2 then
      { s with lane := { s.lane with armed := true, vote := .v2oo2 } }
    else s

/-- The command lines of arm-blocked channels stay OFF (R431). -/
def State.unblocked (s : State) (m : Nat) : Nat :=
  ((List.range 48).filter fun n =>
    m.testBit n && !(s.rd (F.SETUP_ARM_BLOCK_BLOCK (n / 32))).testBit (n % 32)).foldl maskSet 0

/-- The lines a lane drives at its command update (*Table: Outputs by program mode*). -/
def State.linesOf (s : State) (l : LaneId) : Nat :=
  let x := s.ln l
  let keep := x.driven
  if s.cyc.mode = .stop then 0
  else if s.cyc.mode = .starting then keep
  else if s.lane.vote = .safe then s.safeMask
  else if s.cyc.mode = .safe then 0
  else if s.cyc.mode = .hold then
    (if s.flag F.CYCMGR_STAT_HOLD_ARMED then s.safeMask else 0) + keep / 2 ^ 48 * 2 ^ 48
  else if !s.cyc.expected ∨ s.lane.overrun then keep
  else if !s.lane.armed then 0
  else match s.sentImage l with
    | some o => s.unblocked o.cmd + o.permit % 64 * 2 ^ 48 + bit s.pair.claim * 2 ^ 54
    | none => keep

/-- The VOUT image swaps at the update of the second lane of a compared cycle, word by word where two ACTIVE lanes agree
(R89). -/
def State.voutSwap (s : State) : State :=
  let is := s.actives.filterMap s.sentImage
  let voted (w : Nat) : Option Nat :=
    (is.map fun o => o.vout.getD 0 w).find? fun v => decide (2 ≤ (is.filter fun o => o.vout.getD 0 w == v).length)
  let seq := s.cycleNo % 65536
  let s := (List.range 512).foldl (fun s w => match voted w with
    | some v => s.wr (F.LANEIF_VOUT_DATA w) v
    | none => ((s.raise F.LANEIF_VOUT_NOAGREE_VALID).wr F.LANEIF_VOUT_NOAGREE_WORD w).wr F.LANEIF_VOUT_NOAGREE_SEQ seq) s
  s.wr F.LANEIF_IMG_SEQ_VOUT_SEQ seq

/-- COMMAND_UPDATE (R77, R86, R89, R90, R103, R116, R140, R150, R153, R156): in the lane's command-update window, once a cycle. -/
def execCommandUpdate (t : Nat) (l : LaneId) (s : State) : Host.Outcome State Fault Refusal :=
  let s := s.tick t
  .next <|
    if !s.lanesRun ∨ !(s.ln l).executes ∨ (s.ln l).updated ∨
        !s.inPhase l ((s.ln l).period - 100000) (s.ln l).period then s else
    let s := if s.cyc.expected ∧ !s.lane.overrun then s.tryArm else s
    let first := (s.ln l).state = .active ∧ s.actives.all fun m => !(s.ln m).updated
    let s := if first ∧ s.flag F.PAIR_CFG_PAIR_EN then s.pairUpdate else s
    let v := s.linesOf l
    let s := s.modLn l fun x => { x.drive v s.now with updated := true, updAt := s.now }
    let second := (s.actives.filter fun m => (s.ln m).updated).length = 2 ∧ (s.ln l).state = .active
    (if s.lane.compared ∧ s.cyc.expected ∧ second then s.voutSwap else s).netUpdate

/-! ### Final copy and release (R101, R103) -/

/-- The carried region of lane `src` as it has arrived: its bytes but for those of `diff`. -/
def State.copyOf (s : State) (src : LaneId) (p : Program) (diff : List (Nat × Nat)) : List Nat :=
  let bs := regionBytes p (s.ln src) (fun d => d.carried) p.carriedSize
  (List.range bs.length).map fun o => ((diff.find? fun d => d.1 = o).map fun d => d.2 % 256).getD (bs.getD o 0)

/-- FINAL_COPY_RX (R101): in [P − 100 µs, P + 100 µs) the last blocks arrive, `diff` naming the bytes of the assembled region
that differ from those of the lower-letter ACTIVE lane. The lane computes the state signature over it, and the attempt
continues only where it equals those of the ACTIVE lanes. -/
def execFinalCopyRx (t : Nat) (l : LaneId) (diff : List (Nat × Nat)) (s : State) : Host.Outcome State Fault Refusal :=
  let s := s.tick t
  .next <|
    if (s.ln l).state = .returning ∧ s.lane.frozen ∧ !s.lane.copySig.isEmpty ∧ s.lane.copyWin.1 ≤ s.now ∧
        s.now < s.lane.copyWin.2 then
      match s.actives, s.cyc.act with
      | src :: _, some p =>
        let bytes := s.copyOf src p diff
        if s.lane.copySig.all (fun x => x == crc32 bytes) then
          (s.modLn l fun x => { x.takeRegion p bytes with state := .shadow }).clrF F.LANEIF_REINT_SHADOW_CNT
        else s.abortAttempt 2
      | _, _ => s
    else s

/-- REINT_RELEASE (R103): 2 µs after the later of the ACTIVE lanes' updates, both deassert their exclusion lines for the lane. -/
def execReintRelease (t : Nat) (l : LaneId) (s : State) : Host.Outcome State Fault Refusal :=
  let s := s.tick t
  .next <|
    if (s.ln l).state = .shadow ∧ s.rd F.LANEIF_REINT_SHADOW_CNT = 16 ∧
        s.actives.all (fun m => (s.ln m).updated && decide ((s.ln m).updAt + 2000 ≤ s.now)) then
      s.modLanes s.actives fun x => { x with exclFor := x.exclFor.filter fun m => m ≠ l }
    else s

/-- The lane rejoins (R103, *Table: Vote mode*). -/
def State.rejoin (s : State) (l : LaneId) : State :=
  let s := s.modLn l fun x => { x with state := .active, disRun := 0, readRun := 0, skewRun := 0 }
  let s := s.clrF F.LANEIF_REINT_IN_PROGRESS
  if s.lane.vote = .v2oo2 then
    ({ s with lane := { s.lane with vote := .v2oo3 } }).laneRecord 0x02 6 l.idx l.idx []
  else s

/-- JOINT_RELEASE (R94, R103): the second exclusion line for the lane has fallen; a tile's hold latch clears where the tile sees
LANE_OK present. Where every tile reports it clear the lane rejoins, and where one does not the attempt is aborted. -/
def execJointRelease (t : Nat) (l : LaneId) (s : State) : Host.Outcome State Fault Refusal :=
  let s := s.tick t
  .next <|
    if l.others.any (fun m => (s.ln m).exclFor.contains l) then s
    else
      let s := s.modLn l fun x => { x with hold := x.hold - (x.hold &&& x.laneOk) }
      if (s.ln l).state ≠ .shadow then s
      else if (s.ln l).hold ≠ 0 then
        (s.abortAttempt 5).modLanes s.actives fun x => { x with exclFor := l :: x.exclFor.filter fun m => m ≠ l }
      else if s.rd F.LANEIF_REINT_SHADOW_CNT = 16 then s.rejoin l
      else s

/-! ### Lines, latches and faults -/

/-- THRESHOLD_LINE_CHANGE (R87, R88): a line stable for 400 ns is counted; with the AUTH_REQ gate OFF the source is off
(R142). -/
def execThresholdLineChange (t : Nat) (l : LaneId) (line : LineKind) (s : State) : Host.Outcome State Fault Refusal :=
  let s := s.tick t
  let ok := match line with
    | .cmd n => decide (n < 48)
    | .permit k => decide (k < 6)
    | .authReq => true
  onUnit ok <|
    let b := line.bit
    let steady := s.closed ((s.ln l).lineAt.getD 0 b) 400
    let s := if !steady then s else
      s.modLn l fun x => { x with counted := if x.driven.testBit b then maskSet x.counted b else maskClr x.counted b }
    if s.pair.source ∧ !s.authGate then { s with pair := { s.pair with source := false, quiet := none } } else s

/-- All six tiles. -/
def allTiles : Nat := 63

/-- EXCLUSION_LINE_ASSERTED (R94): with the third lane's line asserted already, the hold latch of the lane is set. -/
def execExclusionLineAsserted (t : Nat) (src dst : LaneId) (s : State) : Host.Outcome State Fault Refusal :=
  let s := s.tick t
  .next <|
    if src ≠ dst ∧ dst.others.all (fun m => (s.ln m).exclFor.contains dst) then
      s.modLn dst fun x => { x with hold := allTiles }
    else s

/-- LANE_OK_LOST (R72, R93, R94): a tile has seen no edge for 4 µs. A lane that is neither ACTIVE nor returning has no more to
lose. -/
def execLaneOkLost (t : Nat) (l : LaneId) (tile : Nat) (s : State) : Host.Outcome State Fault Refusal :=
  let s := s.tick t
  onUnit (decide (tile < 6)) <|
    let s := s.modLn l fun x => { x with hold := maskSet x.hold tile, laneOk := maskClr x.laneOk tile }
    match (s.ln l).state with
    | .active | .returning | .shadow => s.laneCause l 0xB
    | .excluded | .lockedOut | .starting => s

/-- The code of a cause a lane finds in itself (*Table: Exclusion causes*). -/
def selfFaultCode : SelfFault → Nat
  | .lockstep => 2 | .memEcc => 3 | .supply => 6

/-- LANE_FAULT (R72, R93). -/
def execLaneFault (t : Nat) (l : LaneId) (f : SelfFault) (s : State) : Host.Outcome State Fault Refusal :=
  let s := s.tick t
  .next (s.laneCause l (selfFaultCode f))

/-- ADC_REF_CHECK (R93 cause 0x9). -/
def execAdcRefCheck (t : Nat) (l : LaneId) (inTol : Bool) (s : State) : Host.Outcome State Fault Refusal :=
  let s := s.tick t
  .next (if inTol then s else s.laneCause l 9)

/-- BIST_COMPLETE (R96). -/
def execBistComplete (t : Nat) (l : LaneId) (pass : Bool) (s : State) : Host.Outcome State Fault Refusal :=
  let s := s.tick t
  .next <|
    if ((s.ln l).state = .excluded ∨ (s.ln l).state = .starting) ∧ (s.ln l).bistStart.isSome ∧ !(s.ln l).bistOk then
      if pass then s.modLn l fun x => { x with bistOk := true, laneOk := allTiles, bistStart := none }
      else s.inc (F.LANEIF_LANE_BIST_FAIL_CNT l.idx)
    else s

/-- BIST_RETRY_TIMER (R96): 60 s after the failed run started. -/
def execBistRetryTimer (t : Nat) (l : LaneId) (s : State) : Host.Outcome State Fault Refusal :=
  let s := s.tick t
  .next <| match (s.ln l).bistStart with
    | some b =>
      if (s.ln l).state = .excluded ∧ s.closed b (secs 60) then s.modLn l fun x => { x with bistStart := some s.now } else s
    | none => s

end Sys2Proof.Machine
end

