-- ==== Sys2Proof/Machine/Stair.lean ====
section
/-! DEFINITION. The Stairwell bridge (*Signal gateway and the Stairwell bridge*, R214 to R225): the window, parking
slots, posted writes, the error queue and the orphan log. Stations are numbered k = 16 × segment + station − 1. -/

namespace Sys2Proof.Machine

/-- A station. -/
def State.stn (s : State) (k : Nat) : Station := s.uio.stns.getD Station.init k

/-- The state with a station changed. -/
def State.modStn (s : State) (k : Nat) (f : Station → Station) : State :=
  { s with uio := { s.uio with stns := s.uio.stns.put Station.init k (f (s.stn k)) } }

/-- The accesses queued for a station (R216). -/
def State.fifo (s : State) (k : Nat) : List StnAcc := s.stair.fifos.getD [] k

/-- The state with a station's queue changed. -/
def State.modFifo (s : State) (k : Nat) (f : List StnAcc → List StnAcc) : State :=
  { s with stair := { s.stair with fifos := s.stair.fifos.put [] k (f (s.fifo k)) } }

/-- An error response whose code the spec does not name (log entry 4). -/
def State.answerOpen (s : State) : State :=
  let (r, s) := s.draw 16
  s.answer (r + 1) 0

/-! ### Entries and interrupts -/

/-- The window offset and size code of STAIR_PWE_ADDR. -/
def winCode (addr size : Nat) : Nat :=
  addr % 2 ^ 28 + (if size = 8 then 3 else if size = 4 then 2 else if size = 2 then 1 else 0) * 2 ^ 30

/-- The word of STAIR_PWE. -/
def PweEntry.word (e : PweEntry) : Nat :=
  2 ^ 31 + e.inst % 64 * 2 ^ 25 + e.reason % 8 * 2 ^ 22 + e.done % 8 * 2 ^ 19 + e.seq % 2 ^ 16

/-- The word of STAIR_ORPH. -/
def OrphEntry.word (e : OrphEntry) : Nat :=
  2 ^ 31 + e.inst % 64 * 2 ^ 25 + bit e.attic * 2 ^ 24 + e.status % 256 * 2 ^ 16

/-- The posted-write interrupt of instance i (R222, R435). -/
def State.pweIrq (s : State) (i : Nat) : State := s.ipend ipPwe i (s.stair.pwe.any fun e => e.inst = i)

/-- The station interrupt of instance i (R224, R435). -/
def State.stnIrq (s : State) (i : Nat) : State :=
  s.ipend ipStation i ((List.range 32).any fun k =>
    s.flag (F.STAIR_IRQ_ROUTE_EN k) && s.rd (F.STAIR_IRQ_ROUTE_INST k) == i && (s.stn k).irq != 0)

/-- An entry joins the error queue of 64, at most 8 for an instance; beyond either limit it is lost and counted (R223). -/
def State.enterPwe (s : State) (e : PweEntry) : State :=
  if s.stair.pwe.length < 64 ∧ (s.stair.pwe.filter fun x => x.inst = e.inst).length < 8 then
    (({ s with stair := { s.stair with pwe := s.stair.pwe ++ [e] } }).pweIrq e.inst).pushed 0x40580020
  else s.inc F.STAIR_CNT2_PWE_LOST

/-- A failed write's entry joins the error queue. Its record is written in any case (R222). -/
def State.pushPwe (s : State) (e : PweEntry) : State :=
  (s.enterPwe e).record 0x09 0x02 4 e.inst 0x06 [PweEntry.word e] (sourceWord 0 e.inst 0)

/-- A posted write fails (R222): it is settled, and its error entered unless a reset has discarded the result (R225). -/
def State.failWrite (s : State) (w : PostedWrite) (reason accRes : Nat) : State :=
  let s := { s with stair := { s.stair with
    writes := s.stair.writes.filter fun x => !(x.seg == w.seg && x.seq == w.seq) } }
  if w.silent then s else s.pushPwe ⟨w.inst, reason, w.done, w.seq, w.addr, w.size, accRes, w.halves.getD w.done 0⟩

/-- A posted write is delivered whole. -/
def State.settleWrite (s : State) (seg seq : Nat) : State :=
  { s with stair := { s.stair with writes := s.stair.writes.filter fun x => !(x.seg == seg && x.seq == seq) } }

/-- STAIR_WDONE of a segment (R221): the highest number up to which every write is settled. -/
def State.wdone (s : State) (seg : Nat) : Nat :=
  let next := if seg = 0 then s.stair.nextSeq.1 else s.stair.nextSeq.2
  match s.stair.writes.find? fun w => w.seg = seg with
  | some w => (w.seq + 65535) % 65536
  | none => (next + 65535) % 65536

/-! ### Slots -/

/-- The state with a slot changed. -/
def State.modSlot (s : State) (k : Nat) (f : Slot → Slot) : State :=
  match s.stair.slots.find? k with
  | none => s
  | some x => { s with stair := { s.stair with slots := s.stair.slots.insert k (f x) } }

/-- A slot is freed. -/
def State.freeSlot (s : State) (k : Nat) : State :=
  { s with stair := { s.stair with slots := s.stair.slots.erase k } }

/-- The remaining accesses of a source are withdrawn from a station's queue (R219, R222). -/
def State.withdraw (s : State) (k : Nat) (src : AccSrc) : State := s.modFifo k fun q => q.filter fun x => x.src ≠ src

/-- A slot fails with a status at instant `t` (R219). -/
def State.failSlot (s : State) (k status t : Nat) : State :=
  s.modSlot k fun x => { x with state := .failed, status := status, ready := t }

/-- An access of a POLL fails at instant `t`: the response is missing, or carries a non-zero ACC_RES (R219, R222). -/
def State.failAcc (s : State) (k : Nat) (acc : StnAcc) (slotStatus reason accRes t : Nat) : State :=
  let s := s.withdraw k acc.src
  match acc.src with
  | .slot j => s.failSlot j slotStatus t
  | .write seg seq => match s.stair.writes.find? fun w => w.seg = seg ∧ w.seq = seq with
    | some w => s.failWrite w reason accRes
    | none => s

/-- An access of a POLL succeeds, with the data of a read (R219, R221). -/
def State.passAcc (s : State) (acc : StnAcc) (rdata : Nat) : State :=
  match acc.src with
  | .slot j => s.modSlot j fun x =>
      let x := { x with value := x.value + 65536 ^ acc.idx * (rdata % 65536) }
      if acc.last then { x with state := .ready, ready := s.now, status := 0 } else x
  | .write seg seq =>
    if acc.last then s.settleWrite seg seq
    else { s with stair := { s.stair with
      writes := s.stair.writes.map fun w => if w.seg = seg ∧ w.seq = seq then { w with done := w.done + 1 } else w } }

/-- An entry joins the orphan log of 16 (R223). -/
def State.enterOrph (s : State) (e : OrphEntry) : State :=
  if s.stair.orph.length < 16 then ({ s with stair := { s.stair with orph := s.stair.orph ++ [e] } }).pushed 0x40580030 else s

/-- A READY or FAILED slot whose window has closed goes to the orphan log of 16 (R220). -/
def State.orphan (s : State) (k : Nat) (x : Slot) : State :=
  let e : OrphEntry := ⟨x.attr.inst, x.attr.attic, x.status, x.addr, x.size, x.value⟩
  (((s.freeSlot k).inc F.STAIR_CNT_ORPHANED).enterOrph e).record 0x09 0x01 4 e.inst 0x07 [OrphEntry.word e] (sourceWord 0 e.inst 0)

/-- Has the slot's window of R220 closed? -/
def State.slotClosed (s : State) (x : Slot) : Bool := x.state != .fetching && s.closed x.ready 64000

/-- SLOT_ORPHAN_TIMEOUT (R220). -/
def execSlotOrphanTimeout (t k : Nat) (s : State) : Host.Outcome State Fault Refusal :=
  let s := s.tick t
  onUnit (decide (k < 32)) <| match s.stair.slots.find? k with
    | some x => if s.slotClosed x then s.orphan k x else s
    | none => s

/-! ### The window -/

/-- The station number k and the register of a window address (R214). -/
def winStn (addr : Nat) : Nat := 16 * bits addr 27 27 + bits addr 23 20
def winReg (addr : Nat) : Nat := bits addr 16 1

/-- Is the address one of the window that names a configured station, with its zero bits zero (R214)? -/
def State.winAddrOk (s : State) (addr : Nat) : Bool :=
  decide (0x50000000 ≤ addr) && decide (addr < 0x60000000) && bits addr 26 24 == 0 && bits addr 19 17 == 0 &&
    ((List.range 16).any fun n => decide (winStn addr % 16 ≤ n) && (s.stn (winStn addr / 16 * 16 + n)).configured)

/-- Are the size and its alignment those of *Table: Window access sizes*? -/
def winSizeOk (addr size : Nat) : Bool := (size == 1 || size == 2 || size == 4 || size == 8) && addr % size == 0

/-- The number of station accesses of a window access. -/
def winHalves (size : Nat) : Nat := if size = 1 then 1 else size / 2

/-- The checks before a window access is accepted: the hub domain and the region check (R214, R29), then the address, size
and alignment (R8, R214, R215), then the reset fence (R331). -/
def State.windowed (s : State) (a : Attr) (addr size : Nat) (write : Bool) (f : State → State) : State :=
  s.guarded a addr write (a.dom == .hub) fun s =>
    if !s.winAddrOk addr ∨ !winSizeOk addr size then s.answer 0x10 0
    else if (s.inst a.inst).state = .resetting then s.answerOpen
    else f s

/-- The accesses of a window access join a station's queue together. -/
def State.enqAcc (s : State) (k : Nat) (src : AccSrc) (inst reg : Nat) (data : List Nat) : State :=
  s.modFifo k fun q => q ++ (List.range data.length).map fun j =>
    ⟨src, inst, (reg + j) % 65536, data.getD j 0, j, decide (j + 1 = data.length)⟩

/-- The data a READY slot returns: a byte for an 8-bit read. -/
def Slot.result (x : Slot) : Nat := if x.size = 1 then x.value / 256 ^ (x.addr % 2) % 256 else x.value

/-- A read with no slot of its key: a slot and its accesses, or RETRY without (R217, R218, R335). -/
def State.park (s : State) (a : Attr) (addr size : Nat) : State :=
  let k := winStn addr
  let n := winHalves size
  if (s.stn k).state = .absent then s.answerOpen
  else if (s.inst a.inst).state.held then s.answer 1 0
  else match (List.range 32).find? fun j => (s.stair.slots.find? j).isNone with
    | some j =>
      if (s.fifo k).length + n ≤ 8 then
        let s := { s with stair := { s.stair with slots := s.stair.slots.insert j ⟨addr, size, a, .fetching, 0, 0, 0⟩ } }
        (s.enqAcc k (.slot j) a.inst (winReg addr) (List.replicate n 0)).answer 1 0
      else (s.inc F.STAIR_CNT_SLOT_FULL).answer 1 0
    | none => (s.inc F.STAIR_CNT_SLOT_FULL).answer 1 0

/-- The slot that holds a key (R217). -/
def State.slotOf (s : State) (a : Attr) (addr size : Nat) : Option (Nat × Slot) :=
  List.find? (fun x : Nat × Slot => x.2.addr = addr ∧ x.2.size = size ∧ x.2.attr = a) s.stair.slots

/-- A window read (R217 to R220). -/
def State.winRead (s : State) (a : Attr) (addr size : Nat) : State :=
  match s.slotOf a addr size with
  | none => s.park a addr size
  | some (j, x) =>
    if s.slotClosed x then (s.orphan j x).park a addr size
    else match x.state with
      | .fetching => s.answer 1 0
      | .ready => (s.freeSlot j).answer 0 x.result
      | .failed => (s.freeSlot j).answer x.status 0

/-- The arbitration of re-reads (R36, R218): those of one clock are granted one after the other, so each that finds others
there was decided among them, a tie; the pointer moves past the initiator port just served. -/
def State.arbRead (s : State) (port : Nat) : State :=
  let same := if s.stair.reads.1 = s.now then s.stair.reads.2 else []
  let s := if same.any fun p => p ≠ port then s.inc F.STAIR_TIE_CNT_TIES else s
  { s with stair := { s.stair with readPtr := port + 1, reads := (s.now, port :: same) } }

/-- WINDOW_READ (R214 to R219) by an initiator port of the hub. Of the accesses of one clock the commands stand in the order in
which the Stairwell serves them (log entry 50). -/
def execWindowRead (t : Nat) (a : Attr) (port addr size : Nat) (s : State) : Host.Outcome State Fault Refusal :=
  let s := s.tick t
  .next (s.windowed a addr size false fun s =>
    (if (s.slotOf a addr size).isSome then s.arbRead port else s).winRead a addr size)

/-- The next sequence number of a segment, and the state after it is taken (R221). -/
def State.takeSeq (s : State) (seg inst : Nat) : Nat × State :=
  let (n0, n1) := s.stair.nextSeq
  let n := if seg = 0 then n0 else n1
  let next := if seg = 0 then ((n0 + 1) % 65536, n1) else (n0, (n1 + 1) % 65536)
  (n, ({ s with stair := { s.stair with nextSeq := next } }).modInst inst fun x => { x with
    wseq := (seg, n), wlast := if seg = 0 then (n, x.wlast.2) else (x.wlast.1, n) })

/-- A window write (R221, R222): it completes with OK and takes its number, whatever becomes of it. -/
def State.winWrite (s : State) (a : Attr) (addr size value : Nat) : State :=
  if (s.inst a.inst).state.held then s.answerOpen
  else
    let k := winStn addr
    let (n, s) := s.takeSeq (k / 16) a.inst
    let halves := (List.range (winHalves size)).map fun j => value / 65536 ^ j % 65536
    let w : PostedWrite := ⟨k / 16, n, a.inst, addr, size, halves, 0, false⟩
    if size = 1 then s.failWrite w 4 0
    else if (s.stn k).state = .absent then s.failWrite w 3 0
    else if 8 < (s.fifo k).length + halves.length then s.failWrite w 5 0
    else
      let s := { s with stair := { s.stair with writes := s.stair.writes ++ [w] } }
      s.enqAcc k (.write (k / 16) n) a.inst (winReg addr) halves

/-- WINDOW_WRITE (R221). -/
def execWindowWrite (t : Nat) (a : Attr) (addr size value : Nat) (s : State) : Host.Outcome State Fault Refusal :=
  let s := s.tick t
  .next (s.windowed a addr size true fun s => s.winWrite a addr size value)

/-! ### Error queue, orphan log and station interrupts -/

/-- The index of the oldest entry that the transaction may take: of its instance, or with the world bit Attic of any
(R223). -/
def oldestFor (a : Attr) (insts : List Nat) : Option Nat :=
  (List.range insts.length).find? fun j => a.attic || insts.getD j 64 == a.inst

/-- PWE_READ (R223, R10). -/
def execPweRead (t : Nat) (a : Attr) (peek : Bool) (s : State) : Host.Outcome State Fault Refusal :=
  let s := s.tick t
  .next (s.guarded a (rsAddr 0x40580020 peek) false true fun s =>
    match oldestFor a ((s.stair.pwe.take (s.settled 0x40580020 s.stair.pwe.length)).map PweEntry.inst) with
    | none => s.answer 0 0
    | some j => match s.stair.pwe[j]? with
      | none => s.answer 0 0
      | some e =>
        if peek then s.answer 0 (PweEntry.word e)
        else
          let s := { s with stair := { s.stair with pwe := s.stair.pwe.eraseIdx j } }
          let s := (s.wr (F.STAIR_PWE_DET_ADDR 0) (winCode e.addr e.size)).wr (F.STAIR_PWE_DET_ADDR 1)
            (e.accRes % 256 * 65536 + e.half % 65536)
          (s.pweIrq e.inst).answer 0 (PweEntry.word e))

/-- ORPH_READ (R223, R10). -/
def execOrphRead (t : Nat) (a : Attr) (peek : Bool) (s : State) : Host.Outcome State Fault Refusal :=
  let s := s.tick t
  .next (s.guarded a (rsAddr 0x40580030 peek) false true fun s =>
    match oldestFor a ((s.stair.orph.take (s.settled 0x40580030 s.stair.orph.length)).map OrphEntry.inst) with
    | none => s.answer 0 0
    | some j => match s.stair.orph[j]? with
      | none => s.answer 0 0
      | some e =>
        if peek then s.answer 0 (OrphEntry.word e)
        else
          let s := { s with stair := { s.stair with orph := s.stair.orph.eraseIdx j } }
          let s := ((s.wr (F.STAIR_ORPH_DET_VALUE 0) (winCode e.addr e.size)).wr (F.STAIR_ORPH_DET_VALUE 1)
            (e.value % 2 ^ 32)).wr (F.STAIR_ORPH_DET_VALUE 2) (e.value / 2 ^ 32)
          s.answer 0 (OrphEntry.word e))

/-- STN_IRQ_READ (R224, R10): the latched lines are returned and, off the alias, cleared. -/
def execStnIrqRead (t : Nat) (a : Attr) (seg stn : Nat) (peek : Bool) (s : State) : Host.Outcome State Fault Refusal :=
  let s := s.tick t
  let k := 16 * seg + stn - 1
  onUnit (decide (seg < 2 ∧ 1 ≤ stn ∧ stn ≤ 16)) <|
    s.guarded a (rsAddr (0x4060110C + 0x1000 * seg + 0x10 * (stn - 1)) peek) false true fun s =>
      let v := s.rsTake (0x4060110C + 0x1000 * seg + 0x10 * (stn - 1)) (s.stn k).irq
      let s := if peek then s else
        (s.modStn k fun x => { x with irq := v.2 }).stnIrq (s.rd (F.STAIR_IRQ_ROUTE_INST k))
      s.answer 0 v.1

/-! ### Reset fence -/

/-- The numbers of the posted writes of instance i that the fence cancels: those with an access not yet in a POLL (R225). -/
def State.cancelledWrites (s : State) (i : Nat) : List PostedWrite :=
  s.stair.writes.filter fun w => w.inst == i && s.stair.fifos.any fun q => q.2.any fun x => x.src == .write w.seg w.seq

/-- STAIR_FENCE (R225): slots of i are freed, its queued accesses removed with their writes cancelled, its entries
discarded; the result of an access already in a POLL is discarded. -/
def State.fenceStair (s : State) (i : Nat) : State :=
  let gone := s.cancelledWrites i
  let s := { s with stair := { s.stair with
    slots := s.stair.slots.filter fun x : Nat × Slot => x.2.attr.inst ≠ i
    pwe := s.stair.pwe.filter fun e => e.inst ≠ i
    orph := s.stair.orph.filter fun e => e.inst ≠ i
    carried := s.stair.carried.filter fun x : Nat × StnAcc => x.2.inst != i || match x.2.src with
      | .slot _ => false
      | .write g n => gone.all fun w => !(w.seg == g && w.seq == n)
    fifos := s.stair.fifos.foldl (fun (m : Tbl (List StnAcc)) (x : Nat × List StnAcc) =>
      m.put [] x.1 (x.2.filter fun y => y.inst ≠ i)) []
    writes := (s.stair.writes.filter fun w => !gone.contains w).map fun (w : PostedWrite) => if w.inst = i then { w with silent := true } else w } }
  ((s.incBy F.STAIR_CNT2_CANCELLED gone.length).countCancelled i gone.length).pweIrq i

/-- STAIR_FENCE (R225). -/
def execStairFence (t i : Nat) (s : State) : Host.Outcome State Fault Refusal :=
  let s := s.tick t
  onUnit (decide (i < 64)) (if s.awaits i 1 then (s.fenceStair i).markDrained i 1 else s)

end Sys2Proof.Machine
end

