-- ==== Sys2Proof/Machine/Vim.lean ====
section
/-! DEFINITION. The instance manager (*Virtual instances*, R318 to R335): the PID map, shares, windows, pool queues, the
dispatcher, resets and freezes. -/

namespace Sys2Proof.Machine

/-! ### Who may write (R318, R319) -/

/-- Does a transaction carry a VALID instance with its own world (R318)? -/
def State.instCheck (s : State) (a : Attr) : Bool :=
  s.flag (F.VIM_INST_CFG_VALID a.inst) && (s.flag (F.VIM_INST_CFG_WORLD a.inst) == a.attic)

/-- May a transaction write the VIM registers of instance i: from the Attic, or from the supervising instance where i is a
Parlour instance (R319)? -/
def State.vimMay (s : State) (a : Attr) (i : Nat) : Bool :=
  a.attic || (s.instCheck a && s.rd F.VIM_CFG_SUP_INST == a.inst && !s.flag (F.VIM_INST_CFG_WORLD i))

/-- A write of a VIM register: other writes are ignored, counted and logged (R319). -/
def State.vimWrite (s : State) (a : Attr) (addr : Nat) (may : Bool) (eff : State → State) : State :=
  if s.passes addr a true && may then eff s.okay
  else ((s.deny a 3 addr true).inc F.VIM_CNT_DENIED).noteMiss a

/-! ### The PID map -/

/-- The map entry of a PID (R321). -/
def State.pidEntry (s : State) (pid : Nat) : Option Nat :=
  List.find? (fun e => s.flag (F.VIM_MAP_VALID e) && s.rd (F.VIM_MAP_PID e) == pid) (List.range 4096)

/-- The look-up of a core's PID (R321): an entry of the core's own world gives its instance, everything else 0. -/
def State.lookUpPid (s : State) (h : Nat) : State :=
  let i := ((s.pidEntry (s.rd (F.VIM_HART_PID_PID h))).map fun e => s.rd (F.VIM_MAP_INST e)).filter fun i =>
    s.rd (F.VIM_INST_CFG_WORLD i) == s.rd (F.WORLD_HART_CUR h)
  (s.wr (F.VIM_HART_PID_MAPPED h) (bit i.isSome)).wr (F.VIM_HART_PID_INST h) (i.getD 0)

/-- HART_PID_WRITE (R321). -/
def execHartPidWrite (t : Nat) (a : Attr) (h pid : Nat) (s : State) : Host.Outcome State Fault Refusal :=
  let s := s.tick t
  onUnit (decide (h < 8)) <| s.guarded a (F.VIM_HART_PID_PID h).addr true true fun s =>
    (s.wr (F.VIM_HART_PID_PID h) pid).lookUpPid h

/-- MAP_ENTRY_WRITE (R320, R321): the supervising instance writes only entries that name Parlour instances. -/
def execMapEntryWrite (t : Nat) (a : Attr) (e : Nat) (value : Word) (s : State) : Host.Outcome State Fault Refusal :=
  let s := s.tick t
  let v := value.toNat
  onUnit (decide (e < 4096)) <|
    s.vimWrite a (F.VIM_MAP_VALID e).addr
      (s.vimMay a (bits v 29 24) && (!s.flag (F.VIM_MAP_VALID e) || s.vimMay a (s.rd (F.VIM_MAP_INST e)))) fun s =>
      let dup : Bool := match s.pidEntry (bits v 19 0) with
        | some k => v.testBit 31 && k != e
        | none => false
      if dup then s.raise F.VIM_STAT_MAP_DUP
      else
        let old := s.rd (F.VIM_MAP_PID e)
        let s := ((s.wr (F.VIM_MAP_VALID e) (bits v 31 31)).wr (F.VIM_MAP_INST e) (bits v 29 24)).wr (F.VIM_MAP_PID e)
          (bits v 19 0)
        (List.range 8).foldl (fun s h =>
          let p := s.rd (F.VIM_HART_PID_PID h)
          if p = old ∨ p = bits v 19 0 then s.lookUpPid h else s) s

/-! ### Configuration and shares -/

/-- The sum of QSHARE over the VALID instances other than i (R323). -/
def State.otherShares (s : State) (i : Nat) : Nat :=
  (List.range 64).foldl (fun n j =>
    if j ≠ i ∧ s.flag (F.VIM_INST_CFG_VALID j) then n + s.rd (F.VIM_INST_QSHARE_QSHARE j) else n) 0

/-- POOL_FREE (R323). -/
def State.poolFree (s : State) : Nat := 512 - s.otherShares 64

/-- Does a window [base, base + cnt) meet the window of a VALID instance other than i (R327)? -/
def State.windowMeets (s : State) (i base cnt : Nat) : Bool :=
  (List.range 64).any fun j =>
    j != i && s.flag (F.VIM_INST_CFG_VALID j) && decide (0 < cnt) && decide (0 < s.rd (F.VIM_INST_FLT_FLT_CNT j)) &&
      decide (base < s.rd (F.VIM_INST_FLT_FLT_BASE j) + s.rd (F.VIM_INST_FLT_FLT_CNT j)) &&
      decide (s.rd (F.VIM_INST_FLT_FLT_BASE j) < base + cnt)

/-- May queue q be CPL_HWQ of instance i (R332)? -/
def State.cplOk (s : State) (i q : Nat) : Bool :=
  decide (q < 384) && s.flag (F.VIM_HWQ_CFG_VALID q) && s.rd (F.VIM_HWQ_CFG_OWNER q) != i

/-- Does instance i own nothing (*Table: Instance states*)? -/
def State.ownsNothing (s : State) (i : Nat) : Bool :=
  ((List.range 384).all fun q => !(s.flag (F.VIM_HWQ_CFG_VALID q) && s.rd (F.VIM_HWQ_CFG_OWNER q) == i)) &&
  ((List.range 128).all fun r => !(s.ringValid r && s.ringInst r == i)) &&
  ((List.range 4096).all fun e => !(s.flag (F.VIM_MAP_VALID e) && s.rd (F.VIM_MAP_INST e) == i)) &&
  s.rd (F.VIM_INST_FLT_FLT_CNT i) == 0 && s.occ i == 0

/-- The configuration of an instance comes into force (R318, R326, R330). A weight of 0 is held as 1. -/
def State.loadInst (s : State) (i : Nat) : State :=
  let cir := s.rd (F.VIM_INST_CIR_CIR i)
  (s.wr (F.VIM_INST_QSHARE_QSHARE_EFF i) (s.rd (F.VIM_INST_QSHARE_QSHARE i))).modInst i fun x => { x with
    weight := s.rd (F.VIM_INST_CFG_WEIGHT i), limited := i != 0 && s.flag (F.VIM_INST_CIR_LIM_EN i), cir := cir,
    pir := max cir (s.rd (F.VIM_INST_PIR_PIR i)), cbs := s.rd (F.VIM_INST_BURST_CBS i),
    pbs := s.rd (F.VIM_INST_BURST_PBS i) }

/-- The fields of VIM_INST_CFG but VALID; WORLD only from the Attic, and never of instance 0. -/
def State.writeInstCfg (s : State) (a : Attr) (i v : Nat) : State :=
  let s := if a.attic ∧ i ≠ 0 then s.wr (F.VIM_INST_CFG_WORLD i) (bits v 30 30) else s
  (s.wr (F.VIM_INST_CFG_CPL_HWQ i) (bits v 23 15)).wr (F.VIM_INST_CFG_WEIGHT i) (max 1 (bits v 7 0))

/-- INST_CFG_WRITE (R318, R319, R332, *Table: Instance states*). -/
def execInstCfgWrite (t : Nat) (a : Attr) (i : Nat) (value : Word) (s : State) : Host.Outcome State Fault Refusal :=
  let s := s.tick t
  let v := value.toNat
  onUnit (decide (i < 64)) <| s.vimWrite a (F.VIM_INST_CFG_VALID i).addr (s.vimMay a i) fun s =>
    if !s.cplOk i (bits v 23 15) then s.raise F.VIM_STAT_SHARE_REFUSED
    else if i = 0 then s.writeInstCfg a 0 v
    else match (s.inst i).state, v.testBit 31 with
      | .free, true =>
        if 512 < s.otherShares i + s.rd (F.VIM_INST_QSHARE_QSHARE i) ∨
            s.windowMeets i (s.rd (F.VIM_INST_FLT_FLT_BASE i)) (s.rd (F.VIM_INST_FLT_FLT_CNT i)) then
          s.raise F.VIM_STAT_SHARE_REFUSED
        else
          ((((s.writeInstCfg a i v).setF (F.VIM_INST_CFG_VALID i)).loadInst i).modInst i fun x =>
            { x with state := .active, filled := s.now }).lastResult i 0
      | .free, false => s.writeInstCfg a i v
      | .active, false =>
        if s.ownsNothing i then
          (((s.writeInstCfg a i v).clrF (F.VIM_INST_CFG_VALID i)).modInst i fun _ => Inst.init).lastResult i 0
        else s.lastResult i 1
      | _, true => s.writeInstCfg a i v
      | _, false => s.lastResult i 1

/-- QSHARE_WRITE (R323, R326). -/
def execQshareWrite (t : Nat) (a : Attr) (i : Nat) (value : Word) (s : State) : Host.Outcome State Fault Refusal :=
  let s := s.tick t
  let n := clampNat (bits value.toNat 9 0) 0 512
  onUnit (decide (i < 64)) <| s.vimWrite a (F.VIM_INST_QSHARE_QSHARE i).addr (s.vimMay a i) fun s =>
    if s.flag (F.VIM_INST_CFG_VALID i) ∧ 512 < s.otherShares i + n then s.raise F.VIM_STAT_SHARE_REFUSED
    else s.wr (F.VIM_INST_QSHARE_QSHARE i) n

/-- INST_FLT_WRITE (R327). -/
def execInstFltWrite (t : Nat) (a : Attr) (i : Nat) (value : Word) (s : State) : Host.Outcome State Fault Refusal :=
  let s := s.tick t
  let base := bits value.toNat 29 16
  let cnt := clampNat (bits value.toNat 14 0) 0 16384
  onUnit (decide (i < 64)) <| s.vimWrite a (F.VIM_INST_FLT_FLT_BASE i).addr (s.vimMay a i) fun s =>
    let b0 := s.rd (F.VIM_INST_FLT_FLT_BASE i)
    let stranded := (List.range (s.rd (F.VIM_INST_FLT_FLT_CNT i))).any fun k =>
      s.flag (F.CANRAM_FLT0_VALID (b0 + k)) && !(decide (base ≤ b0 + k) && decide (b0 + k < base + cnt))
    if (s.flag (F.VIM_INST_CFG_VALID i) && s.windowMeets i base cnt) || stranded then s.raise F.VIM_STAT_SHARE_REFUSED
    else (s.wr (F.VIM_INST_FLT_FLT_BASE i) base).wr (F.VIM_INST_FLT_FLT_CNT i) cnt

/-! ### Pool queues -/

/-- The port that a hardware queue is bound to as an input: engine and port (R186). -/
def State.boundTo (s : State) (q : Nat) : Option (Nat × Nat) :=
  List.find? (fun x : Nat × Nat => s.boundIn x.1 x.2 && s.rd (F.DVE_QMAP_HWQ x.1 x.2) == q)
    (engineIds.flatMap fun e => (List.range 16).map fun p => (e, p))

/-- HWQ_CFG_WRITE (R324, R186): only while FILL is 0; of a queue bound as an input, a write that changes END or OWNER is ignored
and sets SHARE_REFUSED. -/
def execHwqCfgWrite (t : Nat) (a : Attr) (q : Nat) (value : Word) (s : State) : Host.Outcome State Fault Refusal :=
  let s := s.tick t
  let v := value.toNat
  let own := bits v 28 23
  let cap := clampNat (bits v 17 0) 2 16383
  onUnit (decide (q < 384)) <|
    s.vimWrite a (F.VIM_HWQ_CFG_VALID q).addr (s.vimMay a own && s.vimMay a (s.rd (F.VIM_HWQ_CFG_OWNER q))) fun s =>
      let moves := decide (bits v 30 29 ≠ s.rd (F.VIM_HWQ_CFG_END q)) || decide (own ≠ s.rd (F.VIM_HWQ_CFG_OWNER q))
      if moves ∧ (s.boundTo q).isSome then s.raise F.VIM_STAT_SHARE_REFUSED
      else if s.queueFill q ≠ 0 then s
      else
        let s := ((s.wr (F.VIM_HWQ_CFG_VALID q) (bits v 31 31)).wr (F.VIM_HWQ_CFG_CAP q) cap).wr (F.VIM_HWQ_CFG_OWNER q) own
        if bits v 30 29 < 2 then s.wr (F.VIM_HWQ_CFG_END q) (bits v 30 29) else s

/-- Is a window access of queue q accepted (R324): from the owner, or from the Attic? -/
def State.windowMay (s : State) (a : Attr) (q : Nat) : Bool :=
  s.flag (F.VIM_HWQ_CFG_VALID q) && s.rd (F.VIM_HWQ_CFG_END q) == 0 &&
    (a.attic || (s.instCheck a && s.rd (F.VIM_HWQ_CFG_OWNER q) == a.inst))

/-- A window access that is not accepted: an error response, whose code the spec does not name (log entry 4). An unmapped
Parlour transaction counts in MAP_MISS (R321). -/
def State.windowRefused (s : State) (a : Attr) : State :=
  ((s.inc F.VIM_CNT_DENIED).noteMiss a).answerOpen

/-- LAST_RES of an offer through a software window (*Table: Refusal by producer*). An owner that is FREE has no row of that
table (log entry 26). -/
def Admit.lastRes : Admit → Nat
  | .ok => 0 | .share => 0x0C | .full => 0x04 | .held => 0x01 | .resetting => 0x02 | .invalid => 0x01

/-- A complete entry is offered through the window of queue q. -/
def State.windowOffer (s : State) (q : Nat) (e : Entry) : State :=
  let s := s.modPool q fun p => { p with pushing := none }
  let r := s.offer q e
  r.2.wr (F.VIM_HWQ_STAT_LAST_RES q) r.1.lastRes

/-- HWQ_PUSH (R324, R184): the header's INST is the sender's. -/
def execHwqPush (t : Nat) (a : Attr) (q : Nat) (value : Word) (s : State) : Host.Outcome State Fault Refusal :=
  let s := s.tick t
  let v := value.toNat
  onUnit (decide (q < 512)) <| s.guarded a (0x41120008 + 0x10 * q) true true fun s =>
    if 384 ≤ q then s.answerOpen
    else if !s.windowMay a q then s.windowRefused a
    else
      let p : Nat × Nat × Nat × List Nat := match (s.pool q).pushing with
        | none => (a.inst, bits v 25 18, bits v 11 0, [])
        | some (i, st, len, ws) => (i, st, len, ws ++ [v])
      if p.2.2.2.length = p.2.2.1 then s.windowOffer q ⟨p.1, p.2.1, p.2.2.2⟩
      else s.modPool q fun x => { x with pushing := some p }

/-- The head word of a pool queue, and the queue without it (R194, R324): a header is removed alone. -/
def Pool.pop (p : Pool) : Nat × Pool :=
  match p.body, p.entries with
  | v :: rest, _ => (v, { p with body := rest })
  | [], e :: rest => (headerWord e.inst e.status e.payload.length, { p with body := e.payload, bodyInst := e.inst, entries := rest })
  | [], [] => (0, p)

/-- The head word of queue q as a read returns it, and the queue after it: an entry of the present clock comes after the read
(R14). -/
def State.popWord (s : State) (q : Nat) : Nat × Pool :=
  let p := s.pool q
  if p.body.isEmpty ∧ s.settled (popAddr q) p.entries.length = 0 then (0, p) else p.pop

/-- HWQ_POP (R324, R10). -/
def execHwqPop (t : Nat) (a : Attr) (q : Nat) (peek : Bool) (s : State) : Host.Outcome State Fault Refusal :=
  let s := s.tick t
  onUnit (decide (q < 512)) <| s.guarded a (rsAddr (popAddr q) peek) false true fun s =>
    if 384 ≤ q then s.answerOpen
    else if !s.windowMay a q then s.windowRefused a
    else
      let r := s.popWord q
      (if peek then s else (s.modPool q fun _ => r.2).settleShares).answer 0 r.1

/-! ### The dispatcher -/

/-- The buckets of an instance filled up to `now` (R328). -/
def Inst.fillTo (x : Inst) (now : Nat) : Inst :=
  let d := now - x.filled
  { x with committed := min (x.cbs * 8192000) (x.committed + d * x.cir)
           peak := min (x.pbs * 8192000) (x.peak + d * x.pir), filled := max x.filled now }

/-- How an entry of `b` bytes would be dispatched (R328). -/
inductive Tier where | committed | excess | held
  deriving DecidableEq, Repr

/-- The tier of an entry of `b` bytes of an instance whose buckets are filled. -/
def Inst.tier (x : Inst) (b : Nat) : Tier :=
  if !x.limited then .committed
  else if 8000 * b ≤ x.peak then (if 8000 * b ≤ x.committed then .committed else .excess)
  else .held

/-- What a dispatch takes from the buckets (R328). -/
def Inst.charge (x : Inst) (b : Nat) : Inst :=
  if !x.limited then x
  else { x with peak := x.peak - 8000 * b
                committed := if x.tier b = .committed then x.committed - 8000 * b else x.committed }

/-- The entry at the head of queue q where it may move to its port now: INST, size in words, engine and port (R183). -/
def State.readyHead (s : State) (q : Nat) : Option (Nat × Nat × Nat × Nat) :=
  if !(s.flag (F.VIM_HWQ_CFG_VALID q) && s.rd (F.VIM_HWQ_CFG_END q) == 1) then none else
  match (s.pool q).entries, s.boundTo q with
  | en :: _, some (e, p) =>
    let st := (s.inst en.inst).state
    if st.held || st == .resetting then none
    else if en.size ≤ ((s.eng e).port p).room then some (en.inst, en.size, e, p) else none
  | _, _ => none

/-- Is queue q ready for instance i? -/
def State.readyFor (s : State) (i q : Nat) : Bool :=
  match s.readyHead q with
  | some (j, _) => j == i
  | none => false

/-- The queue that the rotating pointer chooses among the ready queues of instance i, with its entry (R329). -/
def State.nextOf (s : State) (i : Nat) : Option (Nat × Nat × Nat × Nat) :=
  match rotFirst 384 (s.vim.ptrs.getD 0 i) (s.readyFor i) with
  | none => none
  | some q => match s.readyHead q with
    | some (_, n, e, p) => some (q, n, e, p)
    | none => none

/-- The bytes of instance i's next entry where that entry is in tier `t`. -/
def State.nextIn (s : State) (t : Tier) (i : Nat) : Option Nat :=
  match s.nextOf i with
  | some (_, n, _, _) => if ((s.inst i).fillTo s.now).tier (4 * n) = t then some (4 * n) else none
  | none => none

/-- The next entry of instance i moves into its port (R183, R328, R329). -/
def State.moveEntry (s : State) (i : Nat) : State :=
  match s.nextOf i with
  | none => s
  | some (q, n, e, p) =>
    match (s.pool q).entries with
    | [] => s
    | en :: rest =>
      let s := if 2 ≤ ((List.range 384).filter (s.readyFor i)).length then s.inc F.VIM_TIE_CNT_TIES else s
      let s := { s with vim := { s.vim with ptrs := s.vim.ptrs.put 0 i ((q + 1) % 384) } }
      let s := s.modPool q fun x => { x with entries := rest }
      let s := s.modEng e fun x => x.modPort p fun y => { y with entries := y.entries ++ [en] }
      (s.modInst i fun x => (x.fillTo s.now).charge (4 * n)).settleShares

/-- Turns of the deficit-weighted round robin until one can send in tier `t` (R329). -/
def State.takeTurns (t : Tier) : List Nat → State → State
  | [], s => { s with vim := { s.vim with turns := [], turn := none } }
  | i :: rest, s =>
    match s.nextOf i with
    | none => State.takeTurns t rest (s.modInst i fun x => { x with deficit := 0 })
    | some _ =>
      match s.nextIn t i with
      | none => State.takeTurns t rest s
      | some b =>
        let s := s.modInst i fun x => { x with deficit := x.deficit + 256 * x.weight }
        if b ≤ (s.inst i).deficit then
          let s := (s.moveEntry i).modInst i fun x => { x with deficit := x.deficit - b }
          { s with vim := { s.vim with turns := rest, turn := some i } }
        else State.takeTurns t rest s

/-- One entry of tier `t`: the instance whose turn it is goes on while its deficit lasts. -/
def State.serveTier (s : State) (t : Tier) : State :=
  match s.vim.turn with
  | none => State.takeTurns t s.vim.turns s
  | some i =>
    match s.nextIn t i with
    | some b =>
      if b ≤ (s.inst i).deficit then (s.moveEntry i).modInst i fun x => { x with deficit := x.deficit - b }
      else State.takeTurns t s.vim.turns s
    | none =>
      let s := if (s.nextOf i).isNone then s.modInst i fun x => { x with deficit := 0 } else s
      State.takeTurns t s.vim.turns s

/-- DISPATCH_ENTRY (R329). -/
def execDispatchEntry (t : Nat) (s : State) : Host.Outcome State Fault Refusal :=
  let s := s.tick t
  .next <|
    if (s.nextOf 0).isSome then s.moveEntry 0
    else if (List.range 64).any fun i => i != 0 && (s.nextIn .committed i).isSome then s.serveTier .committed
    else if (List.range 64).any fun i => i != 0 && (s.nextIn .excess i).isSome then s.serveTier .excess
    else s

/-- The shadowed values of instance i come into force (R326, R330). -/
def State.roundInst (s : State) (i : Nat) : State :=
  let w0 := (s.inst i).weight
  let s := (s.modInst i fun x => x.fillTo s.now).loadInst i
  let s := s.modInst i fun x => { x with
    deficit := if x.weight ≠ w0 then min x.deficit (256 * x.weight) else x.deficit
    committed := min x.committed (x.cbs * 8192000), peak := min x.peak (x.pbs * 8192000) }
  if s.shareWords i < s.occ i then s.setF (F.VIM_INST_STAT_OVERSHARE i) else s

/-- DISPATCH_ROUND_START (R330). -/
def execDispatchRoundStart (t : Nat) (s : State) : Host.Outcome State Fault Refusal :=
  let s := s.tick t
  let s := ((List.range 64).foldl (fun s i => if s.flag (F.VIM_INST_CFG_VALID i) then s.roundInst i else s) s).settleShares
  let start := s.vim.start % 63
  .next { s with vim := { s.vim with
    start := (start + 1) % 63, turns := (List.range 63).map fun k => (start + k) % 63 + 1, turn := none } }

/-! ### Reset -/

/-- The address of VIM_INST_CMD of instance i. -/
def vimCmdAddr (i : Nat) : Nat := 0x41101004 + 64 * i

/-- A command of VIM_INST_CMD (R319), refused of instance 0 (R318); `fails` where a power-fail declaration stops it (R334). -/
def vimCmd (t : Nat) (a : Attr) (i : Nat) (fails : Bool) (f : State → State) (s : State) : Host.Outcome State Fault Refusal :=
  let s := s.tick t
  onUnit (decide (i < 64)) <| s.vimWrite a (vimCmdAddr i) (s.vimMay a i) fun s =>
    if s.inPowerFail && fails then s else if i = 0 then s.lastResult 0 1 else f s

/-- The queue pool's part of a reset (R331): every entry of i goes, partly pushed and partly popped ones too. -/
def State.drainPool (s : State) (i : Nat) : State :=
  let count := fun (p : Pool) =>
    (if !p.body.isEmpty ∧ p.bodyInst = i then 1 else 0) + (p.entries.filter fun e => e.inst = i).length +
      (match p.pushing with | some (j, _) => if j = i then 1 else 0 | none => 0)
  let n := s.vim.pools.foldl (fun (k : Nat) (x : Nat × Pool) => k + count x.2) 0
  let s := s.vim.pools.foldl (fun (s : State) (x : Nat × Pool) => s.modPool x.1 fun p => { p with
    body := if p.bodyInst = i then [] else p.body
    entries := p.entries.filter fun e => e.inst ≠ i
    pushing := match p.pushing with | some (j, r) => if j = i then none else some (j, r) | none => none }) s
  ((s.countCancelled i n).settleShares).markDrained i 3

/-- A save of instance i that runs is abandoned (R334). -/
def State.abandonSave (s : State) (i : Nat) : State :=
  match s.vim.mig with
  | some (.save j _) =>
    if j = i then
      (({ s with vim := { s.vim with mig := none } }).clrF F.VIM_MIG_STAT_BUSY).wr F.VIM_MIG_STAT_RESULT 0x0B
    else s
  | _ => s

/-- RESET (R331, R334): the fence. -/
def execVimReset (t : Nat) (a : Attr) (i : Nat) (s : State) : Host.Outcome State Fault Refusal :=
  vimCmd t a i true (fun s =>
    match (s.inst i).state with
    | .free | .resetting => s.lastResult i 1
    | .active | .freezing | .frozen | .saving =>
      let s := (s.abandonSave i).modInst i fun x => { x with state := .resetting, since := s.now, drained := 0, txDone := 0 }
      let s := ((s.wr (F.VIM_INST_RESET_PEND_PEND i) 0xFFFFF).wr (F.VIM_INST_RESET_CNT_CANCELLED i) 0).lastResult i 0
      s.drainPool i) s

/-- The rings of instance i at the completion of its reset (R333), the discarded elements counted; those of a TX ring that
the fence completed are counted already (R276). -/
def State.clearRings (s : State) (i : Nat) : State :=
  let mine := (List.range 128).filter fun r => s.ringValid r && s.ringInst r == i
  let n := mine.foldl (fun n r =>
    n + (if s.ringTx r then s.ringDist r (s.ringGet r) (s.ringDone r) else s.ringHeld r)) 0
  let s := s.countCancelled i (n - (s.inst i).txDone)
  let s := mine.foldl (fun s r =>
    s.wr (F.CANRAM_RING2_GET_RECLAIM r) (if s.ringTx r then s.ringDone r else s.ringPut r)) s
  s.canIrq i

/-- The reset of instance i completes (R333). -/
def State.resetDone (s : State) (i status : Nat) : State :=
  let s := s.clearRings i
  let s := s.complete i status (0xFF * 2 ^ 24 + min 0xFFFF (s.rd (F.VIM_INST_RESET_CNT_CANCELLED i)))
  let us := (s.now - (s.inst i).since) / 1000
  let s := (s.wr (F.VIM_INST_RESET_CNT_LAST_US i) (min 0xFFFF us)).clrF (F.VIM_INST_STAT_OVERSHARE i)
  s.modInst i fun x => { x with state := .active, drained := 0, txDone := 0, deficit := 0 }

/-- RESET_ACK (R333): participant p of the reset of instance i has drained and acknowledges before the window closes. -/
def execResetAck (t i p : Nat) (s : State) : Host.Outcome State Fault Refusal :=
  let s := s.tick t
  onUnit (decide (i < 64 ∧ p < 20)) <|
    if (s.inst i).state = .resetting ∧ (s.inst i).drained.testBit p ∧ !s.closed (s.inst i).since 200000 then
      let s := s.wr (F.VIM_INST_RESET_PEND_PEND i) (maskClr (s.rd (F.VIM_INST_RESET_PEND_PEND i)) p)
      if s.rd (F.VIM_INST_RESET_PEND_PEND i) = 0 then s.resetDone i 0 else s
    else s

/-- RESET_TIMEOUT (R333): 200 µs have passed; the silent engines are stopped, and the silent participants keep their bits. -/
def execResetTimeout (t i : Nat) (s : State) : Host.Outcome State Fault Refusal :=
  let s := s.tick t
  onUnit (decide (i < 64)) <|
    if (s.inst i).state = .resetting ∧ s.closed (s.inst i).since 200000 then
      let pend := s.rd (F.VIM_INST_RESET_PEND_PEND i)
      let s := s.record 0x0E 0x01 5 i 0x0D [s.instStat i, pend] (sourceWord 0 i 0)
      let s := (s.resetDone i 0x0D).lastResult i 2
      engineIds.foldl (fun s e => if pend.testBit (4 + e) then s.engStop e else s) s
    else s

/-! ### Freeze -/

/-- FREEZE (R335). -/
def execVimFreeze (t : Nat) (a : Attr) (i : Nat) (s : State) : Host.Outcome State Fault Refusal :=
  vimCmd t a i true (fun s =>
    if (s.inst i).state = .active then
      (s.modInst i fun x => { x with state := .freezing, since := s.now }).lastResult i 0
    else s.lastResult i 1) s

/-- Has the work of instance i drained (R335)? -/
def State.quiescent (s : State) (i : Nat) : Bool :=
  (engineIds.all fun e => (s.eng e).ports.all fun x =>
    let p := x.2
    (p.body.isEmpty || p.bodyInst != i || !s.boundIn e x.1) &&
    (!s.boundIn e x.1 || p.entries.all fun en => en.inst != i) &&
    (match p.opened with | some (j, _) => j != i | none => true)) &&
  (s.stair.slots.all fun x => x.2.attr.inst != i || x.2.state != .fetching) &&
  (s.stair.fifos.all fun x => x.2.all fun y => y.inst != i) && (s.stair.carried.all fun x => x.2.inst != i) &&
  (s.can.ctls.all fun x => match x.2.onBus with | some (.elem r) => s.ringInst r != i | _ => true)

/-- Has the freeze window of instance i closed (R335)? -/
def State.freezeOver (s : State) (i : Nat) : Bool := s.closed (s.inst i).since (ms (s.rd F.VIM_CFG_FREEZE_TMO))

/-- FREEZE_QUIESCENT (R335). -/
def execFreezeQuiescent (t i : Nat) (s : State) : Host.Outcome State Fault Refusal :=
  let s := s.tick t
  onUnit (decide (i < 64)) <|
    if (s.inst i).state = .freezing ∧ s.quiescent i ∧ !s.freezeOver i then
      s.modInst i fun x => { x with state := .frozen, freezeT := s.tNow }
    else s

/-- FREEZE_TIMEOUT (R335). -/
def execFreezeTimeout (t i : Nat) (s : State) : Host.Outcome State Fault Refusal :=
  let s := s.tick t
  onUnit (decide (i < 64)) <|
    if (s.inst i).state = .freezing ∧ s.freezeOver i then
      let s := (s.modInst i fun x => { x with state := .active }).lastResult i 2
      s.record 0x0E 0x02 4 i 0x0D [s.instStat i] (sourceWord 0 i 0)
    else s

/-- THAW (R335). -/
def execVimThaw (t : Nat) (a : Attr) (i : Nat) (s : State) : Host.Outcome State Fault Refusal :=
  vimCmd t a i false (fun s =>
    if (s.inst i).state = .frozen then (s.modInst i fun x => { x with state := .active }).lastResult i 0
    else s.lastResult i 1) s

end Sys2Proof.Machine
end

