-- ==== Sys2Proof/Machine/Migrate.lean ====
section
/-! DEFINITION. Migration of an instance's I/O state (*Virtual instances*, R336 to R340): SAVE writes a blob, RESTORE takes
one. -/

namespace Sys2Proof.Machine

/-- RESULT of VIM_MIG_STAT. -/
inductive MigResult where
  | ok | busy | state | space | format | cl | tag | section_ | gw | conflict | replay | abandoned | key
  deriving DecidableEq, Repr

/-- The code of a RESULT. -/
def MigResult.code : MigResult → Nat
  | .ok => 0 | .busy => 1 | .state => 2 | .space => 3 | .format => 4 | .cl => 5 | .tag => 6 | .section_ => 7
  | .gw => 8 | .conflict => 9 | .replay => 10 | .abandoned => 11 | .key => 12

/-- Writes RESULT. -/
def State.migResult (s : State) (r : MigResult) : State := s.wr F.VIM_MIG_STAT_RESULT r.code

/-- A job starts. -/
def State.migBegin (s : State) (j : MigJob) : State :=
  ({ s with vim := { s.vim with mig := some j } }).setF F.VIM_MIG_STAT_BUSY

/-- The job that runs ends with a RESULT. -/
def State.migEnd (s : State) (r : MigResult) : State :=
  ((({ s with vim := { s.vim with mig := none } }).clrF F.VIM_MIG_STAT_BUSY)).migResult r

/-- A write of VIM_MIG_CTL (R336, R339): from Attic transactions; INST and KEY_SLOT are written. `fails` where a power-fail
declaration stops the command (R334). -/
def migCmd (t : Nat) (a : Attr) (i slot : Nat) (fails : Bool) (f : State → State) (s : State) : Host.Outcome State Fault Refusal :=
  let s := s.tick t
  onUnit (decide (i < 64 ∧ slot < 64)) <| s.vimWrite a F.VIM_MIG_CTL_INST.addr a.attic fun s =>
    let s := (s.wr F.VIM_MIG_CTL_INST i).wr F.VIM_MIG_CTL_KEY_SLOT slot
    if s.inPowerFail && fails then s
    else if s.vim.mig.isSome then s.migResult .busy else f s

/-- SAVE (R336). -/
def execMigSave (t : Nat) (a : Attr) (i slot : Nat) (s : State) : Host.Outcome State Fault Refusal :=
  migCmd t a i slot true (fun s =>
    if (s.inst i).state = .frozen then
      (s.modInst i fun x => { x with state := .saving }).migBegin (.save i slot)
    else s.migResult .state) s

/-! ### The blob -/

/-- The buffer's address (VIM_MIG_ADDR). -/
def State.migAddr (s : State) : Nat := s.rd (F.VIM_MIG_ADDR_ADDR 0) + 2 ^ 32 * (s.rd (F.VIM_MIG_ADDR_ADDR 1) % 256)

/-- The bytes of a list of words. -/
def wordsBytes (l : List Nat) : List Nat := l.flatMap (leBytes 4)

/-- A section: header, body, and zeros to the next 8-byte boundary (R337). -/
def sectionBytes (typ count : Nat) (critical : Bool) (body : List Nat) : List Nat :=
  leBytes 2 typ ++ leBytes 2 (bit critical) ++ leBytes 4 body.length ++ leBytes 4 count ++ leBytes 4 0 ++ body ++
    List.replicate ((8 - body.length % 8) % 8) 0

/-- The map entries of instance i. -/
def State.pidsOf (s : State) (i : Nat) : List Nat :=
  (List.range 4096).filter fun e => s.flag (F.VIM_MAP_VALID e) && s.rd (F.VIM_MAP_INST e) == i

/-- The pool queues of instance i. -/
def State.queuesOf (s : State) (i : Nat) : List Nat :=
  (List.range 384).filter fun q => s.flag (F.VIM_HWQ_CFG_VALID q) && s.rd (F.VIM_HWQ_CFG_OWNER q) == i

/-- The rings of instance i. -/
def State.ringsOf (s : State) (i : Nat) : List Nat := (List.range 128).filter fun r => s.ringValid r && s.ringInst r == i

/-- The words of a pool queue in queue order. -/
def Pool.words (p : Pool) : List Nat :=
  p.body ++ p.entries.flatMap fun e => headerWord e.inst e.status e.payload.length :: e.payload

/-- The element indices of ring r from `k` on. -/
def State.ringSpan (s : State) (r k : Nat) : Nat → List Nat
  | 0 => []
  | n + 1 => k :: s.ringSpan r (s.ringNext r k) n

/-- The data length of element k of ring r. -/
def State.elemLen (s : State) (r k : Nat) : Nat := s.memWord (s.elemAddr r k + 4) % 4096

/-- The pending TX elements of ring r with LEN above 1,024 (R336). -/
def State.largePending (s : State) (r : Nat) : List Nat :=
  if s.ringTx r then
    (s.ringSpan r (s.ringDone r) (s.ringDist r (s.ringDone r) (s.ringPut r))).filter fun k => decide (1024 < s.elemLen r k)
  else []

/-- Those elements complete with CANCELLED_BY_RESET (R336). -/
def State.cancelLarge (s : State) (r : Nat) : State :=
  let l := s.largePending r
  if l.isEmpty then s
  else
    let s := l.foldl (fun s k => s.markElem r k 0x02 0) s
    let s := { s with can := { s.can with skips := s.can.skips.put [] r (s.can.skips.getD [] r ++ l) } }
    (s.passSkips r).canIrq (s.ringInst r)

/-- A ring's item: number, descriptor words 0 to 4, n, m, then the elements, from GET or RECLAIM to PUT, that are not
among those completed by the save. -/
def State.ringItem (s : State) (r : Nat) (left : List Nat) : List Nat :=
  let span := (s.ringSpan r (s.ringGet r) (s.ringHeld r)).filter fun k => !left.contains k
  let done := if s.ringTx r then
      ((s.ringSpan r (s.ringGet r) (s.ringDist r (s.ringGet r) (s.ringDone r))).filter fun k => !left.contains k).length
    else 0
  let d := 0x40C40000 + r * 32
  wordsBytes (r :: (List.range 5).map fun w => s.word (d + 4 * w)) ++ wordsBytes [span.length, done] ++
    span.flatMap fun k => s.load (s.elemAddr r k) (32 + s.ringSlot r)

/-- The sections of instance i's blob (R337); `left` gives for each ring the elements that the save completed. -/
def State.blobSections (s : State) (i : Nat) (left : Nat → List Nat) : List Nat :=
  let b := 0x41101000 + 64 * i
  let pids := s.pidsOf i
  let qs := s.queuesOf i
  let rs := s.ringsOf i
  let routes := (List.range 2048).filter fun r => s.flag (F.GW_ROUTE0_VALID r) && s.rd (F.GW_ROUTE0_INST r) == i
  let fb := s.rd (F.VIM_INST_FLT_FLT_BASE i)
  let fc := s.rd (F.VIM_INST_FLT_FLT_CNT i)
  let pwe := s.stair.pwe.filter fun e => e.inst = i
  let orph := s.stair.orph.filter fun e => e.inst = i
  sectionBytes 1 1 true (wordsBytes ([b, b + 0x0C, b + 0x14, b + 0x18, b + 0x1C, b + 0x20].map s.word) ++
    wordsBytes (pids.map fun e => s.word (F.VIM_MAP_VALID e).addr)) ++
  sectionBytes 2 qs.length true (qs.flatMap fun q =>
    wordsBytes ([q, s.word (F.VIM_HWQ_CFG_VALID q).addr, s.queueFill q] ++ (s.pool q).words)) ++
  sectionBytes 3 rs.length true (rs.flatMap fun r => s.ringItem r (left r)) ++
  sectionBytes 4 1 true (wordsBytes ([fb, fc] ++ (List.range fc).flatMap fun k =>
    (List.range 3).map fun w => s.word (0x40C00000 + 16 * (fb + k) + 4 * w))) ++
  sectionBytes 5 routes.length true ((leBytes 32 (s.rdHash F.GWTAB_DESC_HASH_HASH)).reverse ++ wordsBytes routes) ++
  sectionBytes 6 (pwe.length + orph.length) false
    (wordsBytes (pwe.flatMap fun e => [PweEntry.word e, winCode e.addr e.size, e.accRes % 256 * 65536 + e.half % 65536]) ++
     wordsBytes (orph.flatMap fun e => [OrphEntry.word e, winCode e.addr e.size, e.value % 2 ^ 32, e.value / 2 ^ 32]) ++
     wordsBytes [(s.inst i).wlast.1, (s.inst i).wlast.2])

/-- The blob of instance i (R337, R338) with a nonce and the migration key. -/
def State.blob (s : State) (i flags nonce : Nat) (key : KeyBody) (sections : List Nat) : List Nat :=
  let total := 64 + sections.length + 48
  let body := [0x4D, 0x47, 0x42, 0x31, 1, 0, s.rd F.SYSCTL_ID_CL, flags] ++ leBytes 2 (s.rd F.SYSCTL_MID_MID) ++
    [i, s.rd (F.VIM_INST_CFG_WORLD i)] ++ leBytes 4 6 ++ leBytes 8 (s.inst i).freezeT ++ leBytes 4 total ++ leBytes 4 0 ++
    leBytes 16 nonce ++ List.replicate 16 0 ++ sections
  body ++ keyedN 10 (byteNum key.material) 48 body

/-- The save of instance i ends, and it is FROZEN again (R336). The nonce is open (log entry 4). A blob that may not be written to the
buffer ends it with ABANDONED (R345, log entry 55). -/
def State.saveEnd (s : State) (i slot : Nat) : State :=
  let back := fun (s : State) (r : MigResult) => (s.modInst i fun x => { x with state := .frozen }).migEnd r
  let k := s.useSlot slot
  match k.1.filter fun b => b.fits migrationFit with
  | none => back k.2 .key
  | some key =>
    let s := k.2
    let left := fun r => s.largePending r
    let flags := bit ((s.ringsOf i).any fun r => !(left r).isEmpty)
    let sections := s.blobSections i left
    let need := 64 + sections.length + 48
    let s := (s.ringsOf i).foldl (fun s r => s.cancelLarge r) s
    let s := s.wr F.VIM_MIG_USED_USED need
    if s.rd F.VIM_MIG_LEN_MIG_LEN < need then back s .space
    else
      let n := s.draw (2 ^ 128)
      n.2.buffer s.migAddr need true (fun s' => back (s'.store s.migAddr (s.blob i flags n.1 key sections)) .ok)
        fun s' => back s' .abandoned

/-- SAVE_COMPLETE (R336). -/
def execMigSaveComplete (t : Nat) (s : State) : Host.Outcome State Fault Refusal :=
  let s := s.tick t
  .next <| match s.vim.mig with
    | some (.save i slot) => s.saveEnd i slot
    | _ => s

/-! ### The blob in memory -/

/-- The words of a byte list. -/
def bodyWords (l : List Nat) : List Nat := (List.range (l.length / 4)).map fun k => leNum (slice l (4 * k) 4)

/-- The sections in the bytes between header and tag: TYPE, CRITICAL, COUNT and body of each; none where their bounds do not fit
(R337). -/
def splitSections : Nat → List Nat → Option (List (Nat × Bool × Nat × List Nat))
  | 0, l => if l.isEmpty then some [] else none
  | n + 1, l =>
    let len := leNum (slice l 4 4)
    let all := 16 + len + (8 - len % 8) % 8
    if l.length < all then none
    else (splitSections n (l.drop all)).map fun r =>
      (leNum (slice l 0 2), l.getD 2 0 % 2 == 1, leNum (slice l 8 4), slice l 16 len) :: r

/-- The items of an HWQ section. -/
def parseQueues : Nat → List Nat → Option (List MigSection)
  | 0, w => if w.isEmpty then some [] else none
  | n + 1, w =>
    let fill := w.getD 2 0
    if w.length < 3 + fill then none
    else (parseQueues n (w.drop (3 + fill))).map fun r => .hwq (w.getD 0 0) (w.getD 1 0) (slice w 3 fill) :: r

/-- The items of a CAN_RING section: eight words and the elements of each. -/
def parseRings : Nat → List Nat → Option (List MigSection)
  | 0, l => if l.isEmpty then some [] else none
  | n + 1, l =>
    let w := bodyWords (slice l 0 32)
    let size := 32 + slotBytes (bits (w.getD 1 0) 19 16)
    let els := w.getD 6 0
    if l.length < 32 + els * size then none
    else (parseRings n (l.drop (32 + els * size))).map fun r =>
      .ring (w.getD 0 0) (slice w 1 5) (w.getD 7 0) ((List.range els).map fun k => slice l (32 + k * size) size) :: r

/-- `n` groups of `k` words. -/
def groups (k n : Nat) (w : List Nat) : List (List Nat) := (List.range n).map fun j => slice w (k * j) k

/-- The content of one section (*Table: Section types*); none where its body does not hold its items. -/
def parseSection (x : Nat × Bool × Nat × List Nat) : Option (List MigSection) :=
  let l := x.2.2.2
  let w := bodyWords l
  match x.1 with
  | 1 => if l.length < 24 ∨ l.length % 4 ≠ 0 then none else
      some [.inst (w.getD 0 0) (w.getD 1 0) (w.getD 2 0) (w.getD 3 0) (w.getD 4 0) (w.getD 5 0) (w.drop 6)]
  | 2 => if l.length % 4 ≠ 0 then none else parseQueues x.2.2.1 w
  | 3 => parseRings x.2.2.1 l
  | 4 => if l.length ≠ 8 + 12 * w.getD 1 0 then none else some [.filter (w.getD 0 0) (w.getD 1 0) (w.drop 2)]
  | 5 => if l.length < 32 ∨ l.length % 4 ≠ 0 then none else some [.gwCheck (leNum (l.take 32).reverse) (w.drop 8)]
  | 6 =>
    let orph := (l.length - 8 - 12 * x.2.2.1) / 4
    let pwe := x.2.2.1 - orph
    if l.length ≠ 8 + 12 * pwe + 16 * orph ∨ pwe + orph ≠ x.2.2.1 then none
    else
      let o := w.drop (3 * pwe)
      some [.stair (groups 3 pwe w) (groups 4 orph o) (o.getD (4 * orph) 0, o.getD (4 * orph + 1) 0)]
  | t => some [.unknown t x.2.1]

/-- All sections of a blob. -/
def parseSections : List (Nat × Bool × Nat × List Nat) → Option (List MigSection)
  | [] => some []
  | x :: rest => match parseSection x, parseSections rest with
    | some a, some b => some (a ++ b)
    | _, _ => none

/-- TOTAL_LEN of the blob in the buffer. -/
def State.blobLen (s : State) : Nat := leNum (s.load (s.migAddr + 24) 4)

/-- The blob in the buffer (R337); none where check 2 fails. -/
def State.blobAt (s : State) : Option MigBlob :=
  let h := s.load s.migAddr 64
  if slice h 0 6 ≠ [0x4D, 0x47, 0x42, 0x31, 1, 0] ∨ s.blobLen < 112 ∨ s.rd F.VIM_MIG_LEN_MIG_LEN < s.blobLen then none
  else
    ((splitSections (leNum (slice h 12 4)) (s.load (s.migAddr + 64) (s.blobLen - 112))).bind parseSections).map fun l =>
      ⟨h.getD 6 0, h.getD 7 0, leNum (slice h 8 2) % 16384, h.getD 10 0, h.getD 11 0 % 2, leNum (slice h 16 8),
        leNum (slice h 32 16), l⟩

/-- Is the tag of the blob in the buffer the one its bytes have under the key (R338)? -/
def State.tagOk (s : State) (key : KeyBody) : Bool :=
  keyedN 10 (byteNum key.material) 48 (s.load s.migAddr (s.blobLen - 48)) == s.load (s.migAddr + s.blobLen - 48) 48

/-! ### Restore -/

/-- Is a section of a type that CL 1 does not know critical? -/
def MigSection.blocks : MigSection → Bool
  | .unknown _ c => c
  | _ => false

/-- GWTAB_DESC_HASH and the listed routes fit instance i (check 7). -/
def State.gwFits (s : State) (i : Nat) : MigSection → Bool
  | .gwCheck h routes => h == s.rdHash F.GWTAB_DESC_HASH_HASH &&
      routes.all fun r => s.flag (F.GW_ROUTE0_VALID r) && s.rd (F.GW_ROUTE0_INST r) == i
  | _ => true

/-- Does a section find its resources free (check 8)? -/
def State.sectionFree (s : State) (i : Nat) : MigSection → Bool
  | .inst cfg qshare _ _ _ _ pids =>
    s.cplOk i (bits cfg 23 15) && decide (s.otherShares i + bits qshare 9 0 ≤ 512) &&
      (pids.all fun p => (s.pidEntry (bits p 19 0)).isNone) &&
      decide (pids.length ≤ ((List.range 4096).filter fun e => !s.flag (F.VIM_MAP_VALID e)).length)
  | .hwq q _ _ => decide (q < 384) && !s.flag (F.VIM_HWQ_CFG_VALID q)
  | .ring r _ _ _ => decide (r < 128) && !s.ringValid r
  | .filter base cnt _ => !s.windowMeets i base cnt &&
      (List.range cnt).all fun k => !s.flag (F.CANRAM_FLT0_VALID (base + k))
  | .gwCheck _ _ | .stair _ _ _ | .unknown _ _ => true

/-- The first check of R339 that fails on a blob whose bounds hold. -/
def State.restoreCheck (s : State) (i slot : Nat) (b : MigBlob) : MigResult :=
  if s.rd F.SYSCTL_ID_CL < b.cl then .cl
  else match (s.keyOf slot).filter fun k => k.fits migrationFit with
    | none => .key
    | some key =>
      if !s.tagOk key then .tag
      else if s.vim.nonces.contains b.nonce || (match s.vim.hold with | some t0 => !s.closed t0 (secs 86400) | none => false) then
        .replay
      else if b.sections.any MigSection.blocks then .section_
      else if !b.sections.all (s.gwFits i) then .gw
      else if !b.sections.all (s.sectionFree i) then .conflict
      else .ok

/-- RESTORE (R339): the blob is read from the buffer, and no state is changed until every check has passed. A blob that may not be
read is read as zeros (R345), which are no blob. -/
def execMigRestore (t : Nat) (a : Attr) (i slot : Nat) (s : State) : Host.Outcome State Fault Refusal :=
  migCmd t a i slot false (fun s =>
    if (s.inst i).state ≠ .free then s.migResult .state else
    match (if s.reaches s.migAddr 64 false then s.blobAt else none).filter fun _ => s.reaches s.migAddr s.blobLen false with
    | none => (s.buffer s.migAddr (if s.reaches s.migAddr 64 false then s.blobLen else 64) false id id).migResult .format
    | some b =>
      match s.restoreCheck i slot b with
      | .ok => (s.useSlot slot).2.migBegin (.restore i b)
      | r => s.migResult r) s

/-- Queue words as entries: each header with the payload it announces. -/
def parseEntries : Nat → List Nat → List Entry
  | 0, _ => []
  | _, [] => []
  | n + 1, h :: rest => ⟨h / 2 ^ 26 % 64, bits h 25 18, rest.take (h % 4096)⟩ :: parseEntries n (rest.drop (h % 4096))

/-- The elements of a restored ring go into its storage from element 0 (R340). -/
def State.putElements (s : State) (r k : Nat) : List (List Nat) → State
  | [] => s
  | e :: rest => (s.store (s.elemAddr r k) e).putElements r (k + 1) rest

/-- The logged Stairwell errors of a restored instance. -/
def pweOf (i : Nat) (w : List Nat) : PweEntry :=
  let h := w.getD 0 0
  let a := w.getD 1 0
  let d := w.getD 2 0
  ⟨i, bits h 24 22, bits h 21 19, bits h 15 0, a % 2 ^ 28, 2 ^ (a / 2 ^ 30 % 4), bits d 23 16, bits d 15 0⟩

/-- The logged orphans of a restored instance. -/
def orphOf (i : Nat) (w : List Nat) : OrphEntry :=
  let h := w.getD 0 0
  let a := w.getD 1 0
  ⟨i, h.testBit 24, bits h 23 16, a % 2 ^ 28, 2 ^ (a / 2 ^ 30 % 4), w.getD 2 0 + 2 ^ 32 * w.getD 3 0⟩

/-- A section is put in place for instance i (R340). The Stairwell's entries meet the limits of its logs (R223); STAIR_WSEQ then shows
segment 0's number, segment 1's where that is 0 (DESIGN CHOICE, log entry 100: the blob does not say which was last). -/
def State.restoreSection (i world : Nat) (s : State) : MigSection → State
  | .inst cfg qshare flt cir pir burst pids =>
    let s := ((s.wr (F.VIM_INST_CFG_WORLD i) world).wr (F.VIM_INST_CFG_CPL_HWQ i) (bits cfg 23 15)).wr
      (F.VIM_INST_CFG_WEIGHT i) (max 1 (bits cfg 7 0))
    let s := s.wr (F.VIM_INST_QSHARE_QSHARE i) (bits qshare 9 0)
    let s := (s.wr (F.VIM_INST_FLT_FLT_BASE i) (bits flt 29 16)).wr (F.VIM_INST_FLT_FLT_CNT i) (bits flt 14 0)
    let b := 0x41101000 + 64 * i
    let s := ((s.wrWord (b + 0x18) cir).wrWord (b + 0x1C) pir).wrWord (b + 0x20) burst
    pids.foldl (fun s p =>
      match List.find? (fun e => !s.flag (F.VIM_MAP_VALID e)) (List.range 4096) with
      | some e => ((s.setF (F.VIM_MAP_VALID e)).wr (F.VIM_MAP_INST e) i).wr (F.VIM_MAP_PID e) (bits p 19 0)
      | none => s) s
  | .hwq q cfg words =>
    let s := (s.wrWord (F.VIM_HWQ_CFG_VALID q).addr cfg).wr (F.VIM_HWQ_CFG_OWNER q) i
    s.modPool q fun _ => ⟨[], 0, parseEntries words.length words, none⟩
  | .ring r words done els =>
    let d := 0x40C40000 + r * 32
    let s := (List.range 5).foldl (fun s k => s.wrWord (d + 4 * k) (words.getD k 0)) s
    let s := (s.wr (F.CANRAM_RING0_INST r) i).wr (F.CANRAM_RING2_PUT r) els.length
    let s := (s.wr (F.CANRAM_RING2_GET_RECLAIM r) 0).wr (F.CANRAM_RING3_DONE r) (if s.ringTx r then done else 0)
    (s.putElements r 0 els).canIrq i
  | .filter base cnt words =>
    (List.range cnt).foldl (fun s k => (List.range 3).foldl (fun s w =>
      s.wrWord (0x40C00000 + 16 * (base + k) + 4 * w) (words.getD (3 * k + w) 0)) s) s
  | .stair pwe orph wseq =>
    let s := (pwe.map (pweOf i)).foldl State.enterPwe s
    let s := (orph.map (orphOf i)).foldl State.enterOrph s
    s.modInst i fun x => { x with wseq := if wseq.1 = 0 ∧ wseq.2 ≠ 0 then (1, wseq.2) else (0, wseq.1), wlast := wseq }
  | .gwCheck _ _ | .unknown _ _ => s

/-- RESTORE_COMPLETE (R340): the instance is left FROZEN. -/
def execMigRestoreComplete (t : Nat) (s : State) : Host.Outcome State Fault Refusal :=
  let s := s.tick t
  .next <| match s.vim.mig with
    | some (.restore i b) =>
      let s := b.sections.foldl (State.restoreSection i b.world) s
      let s := ((s.setF (F.VIM_INST_CFG_VALID i)).loadInst i).modInst i fun x =>
        { x with state := .frozen, freezeT := b.freezeT, filled := s.now }
      let s := { s with vim := { s.vim with nonces := b.nonce :: s.vim.nonces.take 63 } }
      ((List.range 8).foldl (fun s h => s.lookUpPid h) s).migEnd .ok
    | _ => s

/-- A SAVE or RESTORE at a power-fail declaration is abandoned (R340). -/
def State.migAbandon (s : State) : State :=
  match s.vim.mig with
  | some (.save i _) => (s.modInst i fun x => { x with state := .frozen }).migEnd .abandoned
  | some (.restore _ _) => s.migEnd .abandoned
  | none => s

end Sys2Proof.Machine
end

