-- ==== Sys2Proof/Machine/Uio.lean ====
section
/-! DEFINITION. Universal inputs, sensor supplies and remote stations (*Universal inputs, sensor supplies and remote
stations*, R158 to R176). -/

namespace Sys2Proof.Machine

/-! ### Pins U16 to U47 -/

/-- A pin. -/
def State.pin (s : State) (u : Nat) : Pin := s.uio.pins.getD Pin.init u

/-- The state with a pin changed. -/
def State.modPin (s : State) (u : Nat) (f : Pin → Pin) : State :=
  { s with uio := { s.uio with pins := s.uio.pins.put Pin.init u (f (s.pin u)) } }

/-- Writes a pin's value, signed (R158). -/
def State.pinValue (s : State) (u : Nat) (v : Int) : State := s.wr (F.UIO_PIN_VAL_VALUE u) (ofSigned 32 v)

/-- The step of a quadrature pair from levels (a, b) to (a', b'): up when A leads B (R162). -/
def quadStep (a b a' b' : Bool) : Int :=
  let pos (x y : Bool) : Int := match x, y with
    | false, false => 0 | true, false => 1 | true, true => 2 | false, true => 3
  match (pos a' b' - pos a b) % 4 with
  | 1 => 1
  | 3 => -1
  | _ => 0

/-- A change of one phase of a quadrature pair moves the even pin's count, which wraps (R162). -/
def State.quadMove (s : State) (u : Nat) (old new' : Bool) : State :=
  let ev := u / 2 * 2
  let other := (s.pin (pairPin u)).level
  let d := if u % 2 = 0 then quadStep old other new' other else quadStep other old other new'
  let v : Int := toSigned 32 (s.pin ev).count + d
  (s.modPin ev fun p => { p with count := ofSigned 32 v }).pinValue ev v

/-- A digital sample: debounce (R160), then the value of the mode. -/
def State.sampleDigital (s : State) (u : Nat) (mv : Int) : State :=
  let p := s.pin u
  let raw := s.levelOf u p.raw mv
  let n := if raw = p.level then 0 else if raw = p.raw then p.stable + 1 else 1
  let accept := raw ≠ p.level ∧ s.rd (F.UIO_PIN_CFG_DEB u) ≤ n
  let s := s.modPin u fun p => { p with raw := raw, stable := if accept then 0 else n, level := if accept then raw else p.level }
  let s := if accept ∧ s.pinMode u = 8 then s.quadMove u p.level raw else s
  let s := s.wr (F.UIO_PIN_DIAG_LEVEL u) (bit (s.pin u).level)
  if s.pinMode u = 1 then s.pinValue u (bit (s.pin u).level)
  else if s.pinMode u = 8 ∧ u % 2 = 0 then s.pinValue u (toSigned 32 (s.pin u).count)
  else s

/-- The limits above and below which a mode's OVER and UNDER diagnostics run, with their times (*Table: Pin
diagnostics*). -/
def overLimit : Nat → Option (Int × Nat)
  | 2 => some (32640, ms 1) | 3 => some (102000, ms 1) | 4 => some (21000, ms 10) | _ => none

/-- Since when a condition holds. -/
def since (now : Nat) (old : Option Nat) (c : Bool) : Option Nat := if c then some (old.getD now) else none

/-- Has it held for `d`? -/
def heldFor (now d : Nat) : Option Nat → Bool
  | some t0 => decide (t0 + d ≤ now)
  | none => false

/-- An analogue sample: the value and the range diagnostics (R161, R164). -/
def State.sampleAnalogue (s : State) (u : Nat) (v : Int) : State :=
  let m := s.pinMode u
  let exceeds := match overLimit m with
    | some (lim, _) => decide (lim < v)
    | none => false
  let s := s.modPin u fun p => { p with
    overSince := since s.now p.overSince exceeds
    underSince := since s.now p.underSince (m == 4 && decide (v < 3600))
    burdenOpen := m == 4 && decide (30000 < v) }
  let s := s.pinValue u v
  let s := match overLimit m with
    | some (_, d) => if heldFor s.now d (s.pin u).overSince then s.raise (F.UIO_PIN_DIAG_OVER u) else s
    | none => s
  let s := if heldFor s.now (ms 10) (s.pin u).underSince then s.raise (F.UIO_PIN_DIAG_UNDER u) else s
  let s := if (m = 5 ∧ 550000 < v) ∨ (m = 6 ∧ 2200000 < v) then s.raise (F.UIO_PIN_DIAG_OPEN u) else s
  if (m = 5 ∧ v < 200) ∨ (m = 6 ∧ v < 20) then s.raise (F.UIO_PIN_DIAG_SHORT u) else s

/-- The SUPPLY diagnostic (R164). -/
def State.supplyDiag (s : State) (u : Nat) : State :=
  if s.pinMode u ≠ 0 ∧ s.flag (F.UIO_PIN_CFG_SP_CHK u) ∧ !s.flag (F.UIO_SP_CTL_IN_REG (s.rd (F.UIO_PIN_CFG_SP_REF u))) then
    s.raise (F.UIO_PIN_DIAG_SUPPLY u)
  else s

/-- PIN_SAMPLE (R158 to R164): `mv` is the pin's voltage in mV, `value` the converted value in the mode's unit. The hub has
no sensing of its own on U0 to U15 (R161). -/
def execPinSample (t u : Nat) (mv value : Int) (s : State) : Host.Outcome State Fault Refusal :=
  let s := s.tick t
  onUnit (decide (u < 48)) <|
    if u < 16 then s
    else
      let m := s.pinMode u
      let s := if m = 0 then s.pinValue u 0
        else if m = 1 ∨ m = 7 ∨ m = 8 then s.sampleDigital u mv
        else s.sampleAnalogue u value
      s.supplyDiag u

/-- The gate window of a pin closes (R162, R163): `edges` rising edges and `cycles` whole cycles of `span` ns together in it. -/
def State.gateClose (s : State) (u edges cycles span : Nat) : State :=
  if s.pinMode u = 7 then
    let s := s.modPin u fun p => { p with quiet := if edges = 0 then p.quiet + 1 else 0 }
    if 2 ≤ (s.pin u).quiet then s.pinValue u 0
    else if cycles ≠ 0 ∧ span ≠ 0 then s.pinValue u (cycles * 1000000000000 / span : Nat) else s
  else if s.pinMode u = 8 ∧ u % 2 = 1 then
    let p := s.pin (u - 1)
    let d := toSigned 32 (p.count + 2 ^ 32 - p.gateCount % 2 ^ 32)
    (s.modPin (u - 1) fun p => { p with gateCount := p.count }).pinValue u
      (d * 1000 / (max 1 (s.rd (F.UIO_PIN_CFG_FGATE u)) : Nat))
  else s

/-- FREQ_GATE_CLOSE (R162, R163): a window of FGATE closes and the next one opens. Before the first one the spec gives no
opening instant, and the first close ends a window (log entry 94). -/
def execFreqGateClose (t u edges cycles span : Nat) (s : State) : Host.Outcome State Fault Refusal :=
  let s := s.tick t
  onUnit (decide (u < 48)) <|
    let due : Bool := match (s.pin u).gateAt with
      | none => true
      | some t0 => s.closed t0 (ms (s.rd (F.UIO_PIN_CFG_FGATE u)))
    if u < 16 ∨ !due then s
    else (s.gateClose u edges cycles span).modPin u fun p => { p with gateAt := some s.now }

/-! ### Sensor supplies -/

/-- A supply. -/
def State.sup (s : State) (k : Nat) : Supply := s.uio.sups.getD ⟨false, false, 0⟩ k

/-- The state with a supply changed; a supply that is on is in regulation (R165). I_OUT is what the sensors draw, a value open
up to the limit of 300 mA, and 0 with the supply off (log entry 95). -/
def State.modSup (s : State) (k : Nat) (f : Supply → Supply) : State :=
  let was := (s.sup k).on
  let x := f (s.sup k)
  let s := ({ s with uio := { s.uio with sups := s.uio.sups.put ⟨false, false, 0⟩ k x } }).wr (F.UIO_SP_CTL_IN_REG k) (bit x.on)
  if !x.on then s.clrF (F.UIO_SP_CTL_I_OUT k)
  else if was then s
  else
    let d := s.draw 301
    d.2.wr (F.UIO_SP_CTL_I_OUT k) d.1

/-- May a sensor supply be on (R166)? In the power states in which the hub domain is on, and up to the end of step 1 of a
power-fail. -/
def State.supplyMay (s : State) : Bool :=
  s.pwr.hubUp && match s.pwr.seq with
    | some q => decide (q.step ≤ 1)
    | none => true

/-- A supply turns on where it may. -/
def State.supplyOn (s : State) (k : Nat) : State :=
  if s.supplyMay then s.modSup k fun _ => ⟨true, false, 0⟩ else s

/-- A hub write of EN and VSEL, ignored under SP_LOCK; a tripped supply starts only on 0 and then 1 (R165). VSEL 0b11 is
taken as 5 V. -/
def State.writeSupply (s : State) (k en vsel : Nat) : State :=
  if s.flag (F.UIO_SP_CTL_SP_LOCK k) then s
  else
    let was := s.flag (F.UIO_SP_CTL_EN k)
    let s := (s.wr (F.UIO_SP_CTL_EN k) en).wr (F.UIO_SP_CTL_VSEL k) (if vsel = 3 then 0 else vsel)
    if en = 0 then s.modSup k fun x => { x with on := false }
    else if was then s
    else s.supplyOn k

/-- Under SP_LOCK the hardware holds EN at 1, so the supply is on unless it has tripped (R165). -/
def State.lockSupplies (s : State) : State :=
  (List.range 8).foldl (fun s k =>
    if s.flag (F.UIO_SP_CTL_SP_LOCK k) then
      let s := s.setF (F.UIO_SP_CTL_EN k)
      if (s.sup k).on || (s.sup k).tripped then s else s.supplyOn k
    else s) s

/-- The supplies as the setup image has them: on where EN is 1 or SP_LOCK holds it there (R165). -/
def State.startSupplies (s : State) : State :=
  (List.range 8).foldl (fun s k => if s.flag (F.UIO_SP_CTL_EN k) then s.supplyOn k else s) s.lockSupplies

/-- The supplies turn off: at sleep, and after step 1 of a power-fail (R166). -/
def State.suppliesOff (s : State) : State :=
  (List.range 8).foldl (fun s k => s.modSup k fun x => { x with on := false }) s

/-- SUPPLY_LIMIT_TRIP (R165): the supply has limited its current for 10 ms. -/
def execSupplyLimitTrip (t k : Nat) (s : State) : Host.Outcome State Fault Refusal :=
  let s := s.tick t
  onUnit (decide (k < 8)) <|
    if (s.sup k).on then
      (s.modSup k fun _ => ⟨false, true, s.now⟩).raise (F.UIO_SP_CTL_TRIP k)
    else s

/-- SUPPLY_RETRY (R165, R166). -/
def execSupplyRetry (t k : Nat) (s : State) : Host.Outcome State Fault Refusal :=
  let s := s.tick t
  onUnit (decide (k < 8)) <|
    if s.flag (F.UIO_SP_CTL_SP_LOCK k) ∧ (s.sup k).tripped ∧ s.closed (s.sup k).tripAt (secs 1) then s.supplyOn k else s

/-! ### Stations -/

/-- The stations of a segment. -/
def segStns (seg : Nat) : List Nat := (List.range 16).map fun n => 16 * seg + n

/-- The configured stations of a segment. -/
def State.configured (s : State) (seg : Nat) : List Nat := (segStns seg).filter fun k => (s.stn k).configured

/-- The code of a station state. -/
def StnState.code : StnState → Nat
  | .absent => 0 | .up => 1 | .stale => 2 | .down => 3

/-- The word of UIO_STN_STATn, which IO records carry as VAL0 (R407). -/
def State.stnStat (s : State) (k : Nat) : Nat :=
  s.word (F.UIO_STN_STAT_STALE (k / 16) (k % 16)).addr + (s.stn k).state.code * 2 ^ 29

/-- A record of class IO about a station. -/
def State.ioRecord (s : State) (kind k : Nat) : State :=
  s.record 0x06 kind 4 (16 * (k / 16) + (k % 16 + 1)) 0 [s.stnStat k] (sourceWord 0 0 k)

/-- Register j of a station's output image. -/
def State.outReg (s : State) (k j : Nat) : Nat :=
  let w := 16 * (k % 16) + j / 2
  if j % 2 = 0 then s.rd (F.UIO_STN_OUT_REG_LO (k / 16) w) else s.rd (F.UIO_STN_OUT_REG_HI (k / 16) w)

/-- Register j of a station's input image is written. -/
def State.putIn (s : State) (k j v : Nat) : State :=
  let w := 16 * (k % 16) + j / 2
  if j % 2 = 0 then s.wr (F.UIO_STN_IN_REG_LO (k / 16) w) v else s.wr (F.UIO_STN_IN_REG_HI (k / 16) w) v

/-- The words of a station's input image take a quality (R172). -/
def State.imageQuality (s : State) (k q : Nat) : State :=
  s.modStn k fun x => { x with
    quality := (List.range ((s.rd (F.UIO_STN_CTL_IN_LEN (k / 16) (k % 16)) + 1) / 2)).foldl (fun m w => m.put 0 w q) [] }

/-- The input image takes these registers. -/
def State.putImage (s : State) (k : Nat) (ins : List Nat) : State :=
  (List.range ins.length).foldl (fun s j => s.putIn k j (ins.getD j 0)) s

/-- The input image is replaced by the SUBST values (R172). -/
def State.substitute (s : State) (k : Nat) : State :=
  (s.putImage k (s.stn k).subst).setF (F.UIO_STN_STAT_SUBST (k / 16) (k % 16))

/-- The response to the last POLL is missing (R172, R175, R176, R219, R222). A write of the output image that the POLL carried
counts as undelivered, and the image itself goes out again with the next POLL. -/
def State.missing (s : State) (k : Nat) : State :=
  let seg := k / 16
  let n := k % 16
  let s := if (s.stn k).carries then s.inc (F.UIO_STN_CNT_UNDELIVERED seg n) else s
  let s := s.modStn k fun x => { x with awaiting := false, succ := 0, wdSent := false, carries := false }
  let s := match s.stair.carried.find? k with
    | none => s
    | some acc => ({ s with stair := { s.stair with carried := s.stair.carried.erase k } }).failAcc k acc 0x0D 1 0
        (min s.now (s.uio.polled.getD 0 seg + 1000 * s.rd (F.UIO_SEG_CFG_POLL_PERIOD seg)))
  let run := min 15 (s.rd (F.UIO_STN_STAT_RUN seg n) + 1)
  let s := s.wr (F.UIO_STN_STAT_RUN seg n) run
  match (s.stn k).state with
  | .absent | .down => s
  | .up | .stale =>
    let s := (s.setF (F.UIO_STN_STAT_STALE seg n)).imageQuality k 0x0B
    if s.rd (F.UIO_SEG_CFG_STALE_CYCLES seg) ≤ run then
      ((s.substitute k).modStn k fun x => { x with state := .down }).ioRecord 0x01 k
    else s.modStn k fun x => { x with state := .stale }

/-- RESP_WINDOW_CLOSE (R171, R172). -/
def execRespWindowClose (t seg stn : Nat) (s : State) : Host.Outcome State Fault Refusal :=
  let s := s.tick t
  onUnit (decide (seg < 2 ∧ 1 ≤ stn ∧ stn ≤ 16)) <|
    let k := 16 * seg + stn - 1
    if (s.stn k).awaiting ∧ s.closed (s.uio.polled.getD 0 seg) (1000 * s.rd (F.UIO_SEG_CFG_POLL_PERIOD seg)) then
      s.missing k
    else s

/-- The step of what a station that came UP is owed, as its POLL carries it (R174). -/
def Joining.polled (asked : Bool) : Joining → Joining
  | .writeWd => .waitAck
  | .release => .none
  | .waitRelease => if asked then .none else .waitRelease
  | .waitAck => .waitAck
  | .none => .none

/-- Station k's block of the POLL is made, and its response is awaited. -/
def State.sendBlock (s : State) (k : Nat) (wd : Bool) (b : PollBlock) : State :=
  s.modStn k fun x => { x with
    awaiting := true, wdSent := wd, joining := x.joining.polled x.askRelease, askRelease := false, block := b,
    carries := x.wrote, wrote := false }

/-- The block of station k in a POLL (R168, R170, R174, R176): the write of WD_TIMEOUT goes before the head of its queue. -/
def State.pollStn (s : State) (k : Nat) : State :=
  let x := s.stn k
  let rel := x.askRelease || x.joining == .release
  let out := (List.range (s.rd (F.UIO_STN_CTL_OUT_LEN (k / 16) (k % 16)))).map fun j => s.outReg k j
  let carry (a : Option StnAcc) (s : State) : State :=
    { s with stair := { s.stair with carried := match a with
        | some acc => s.stair.carried.insert k acc
        | none => s.stair.carried.erase k } }
  if x.joining = .writeWd then (carry none s).sendBlock k true ⟨rel, 2, 2, x.wd, out⟩
  else match s.fifo k with
    | [] => s.sendBlock k false ⟨rel, 0, 0, 0, out⟩
    | acc :: rest =>
      let kind := match acc.src with
        | .slot _ => 1
        | .write _ _ => 2
      ((carry (some acc) s).modFifo k fun _ => rest).sendBlock k false ⟨rel, kind, acc.reg, acc.data, out⟩

/-- EtherType and destination of station frames (R168). -/
def stnEtype : Nat := 0x88B6
def pollDest : Nat := 0x014A59000001

/-- The bytes of a station block (*Table: Station block in POLL*). -/
def PollBlock.bytes (n : Nat) (b : PollBlock) : List Nat :=
  [n, bit b.release, b.acc, b.out.length] ++ leBytes 2 b.reg ++ leBytes 2 b.wdata ++ (b.out.map (leBytes 2)).flatten

/-- The bytes of a segment's POLL (*Table: POLL frame*). -/
def State.pollBytes (s : State) (seg : Nat) : List Nat :=
  [1, 1] ++ leBytes 2 (s.rd (F.UIO_SEG_CNT_CYCLE seg)) ++
    ((s.configured seg).map fun k => (s.stn k).block.bytes (k % 16 + 1)).flatten

/-- POLL_SEND (R169, R170): a response still outstanding is missing, its window having closed. -/
def execPollSend (t seg : Nat) (s : State) : Host.Outcome State Fault Refusal :=
  let s := s.tick t
  onUnit (decide (seg < 2)) <|
    let due : Bool := match s.uio.polled.find? seg with
      | none => true
      | some t0 => s.closed t0 (1000 * s.rd (F.UIO_SEG_CFG_POLL_PERIOD seg))
    if s.flag (F.UIO_SEG_CFG_SEG_EN seg) ∧ due then
      let s := (s.configured seg).foldl (fun s k => if (s.stn k).awaiting then s.missing k else s) s
      let s := s.incWrap (F.UIO_SEG_CNT_CYCLE seg)
      let s := { s with uio := { s.uio with polled := s.uio.polled.insert seg s.now } }
      let s := (s.configured seg).foldl (fun s k => s.pollStn k) s
      { s with uio := { s.uio with polls := s.uio.polls.insert seg (s.pollBytes seg) } }
    else s

/-- Two consecutive responses bring an ABSENT or DOWN station UP, and the Stairwell owes it the write of WD_TIMEOUT
(R174). -/
def State.stnAlive (s : State) (k : Nat) : State :=
  let s := (s.wr (F.UIO_STN_STAT_RUN (k / 16) (k % 16)) 0).modStn k fun x => { x with succ := min 2 (x.succ + 1) }
  let clear (s : State) : State := (s.clrF (F.UIO_STN_STAT_STALE (k / 16) (k % 16))).imageQuality k 0
  match (s.stn k).state with
  | .up => s
  | .stale => (clear s).modStn k fun x => { x with state := .up }
  | .absent | .down =>
    if 2 ≤ (s.stn k).succ then
      ((clear s).clrF (F.UIO_STN_STAT_SUBST (k / 16) (k % 16))).modStn k fun x => { x with state := .up, joining := .writeWd }
    else s

/-- The outcome of the access that the answered POLL carried: the write of WD_TIMEOUT, or a window access. -/
def State.accResult (s : State) (k accRes rdata : Nat) : State :=
  let x := s.stn k
  if x.wdSent then
    let auto := s.flag (F.UIO_SEG_CFG_AUTO_RELEASE (k / 16))
    s.modStn k fun x => { x with wdSent := false, joining := if x.joining ≠ .waitAck then x.joining
      else if accRes = 0 ∧ auto then .release else .waitRelease }
  else match s.stair.carried.find? k with
    | none => s
    | some acc =>
      let s := { s with stair := { s.stair with carried := s.stair.carried.erase k } }
      if accRes = 0 then s.passAcc acc rdata else s.failAcc k acc accRes 2 accRes s.now

/-- The fields of a RESP (*Table: RESP frame*), little-endian. -/
def respByte (r : StnResp) (k : Nat) : Nat := r.bytes.getD k 0 % 256
def respWord (r : StnResp) (k : Nat) : Nat := respByte r k + 256 * respByte r (k + 1)
def respCycle (r : StnResp) : Nat := respWord r 2
def respStn (r : StnResp) : Nat := respByte r 4
def respStatus (r : StnResp) : Nat := respByte r 5
def respIrq (r : StnResp) : Nat := respByte r 6
def respAcc (r : StnResp) : Nat := respByte r 7
def respData (r : StnResp) : Nat := respWord r 10
def respIns (r : StnResp) : List Nat := (List.range ((r.bytes.length - 12) / 2)).map fun j => respWord r (12 + 2 * j)

/-- Is a frame a RESP of a configured station of the segment, of its length (R168)? -/
def State.respOk (s : State) (seg : Nat) (r : StnResp) : Bool :=
  let n := respStn r - 1
  r.fcsOk && r.etype == stnEtype && respByte r 0 == 1 && respByte r 1 == 2 && decide (1 ≤ respStn r ∧ respStn r ≤ 16) &&
    r.bytes.length == 12 + 2 * s.rd (F.UIO_STN_CTL_IN_LEN seg n) && (s.stn (16 * seg + n)).configured

/-- The address of UIO_STN_IRQ of a station. -/
def stnIrqAddr (k : Nat) : Nat := 0x4060110C + 0x1000 * (k / 16) + 0x10 * (k % 16)

/-- A RESP counts for the cycle of its POLL (R171): it replaces the image, STATUS and IRQ, and the image is offered to the
gateway (R202). -/
def State.takeResp (s : State) (k : Nat) (r : StnResp) : State :=
  let seg := k / 16
  let s := s.latches (stnIrqAddr k) (s.stn k).irq (respIrq r)
  let s := s.modStn k fun x => { x with awaiting := false, carries := false, irq := x.irq ||| respIrq r }
  let s := (s.putImage k (respIns r)).wr (F.UIO_STN_STAT_STATUS seg (k % 16)) (respStatus r)
  let s := (s.stnIrq (s.rd (F.STAIR_IRQ_ROUTE_INST k))).stnAlive k
  let s := (s.accResult k (respAcc r) (respData r)).offerSrc
    ⟨s.now, 0x11 + seg, k % 16 + 1, false, false, false, r.bytes.drop 12⟩
  if (respStatus r).testBit 2 then (s.raise (F.UIO_STN_STAT_REJOINED seg (k % 16))).ioRecord 0x02 k else s

/-- RESP_RX (R168, R171, R174, R175, R219, R221, R224). -/
def execRespRx (t seg : Nat) (r : StnResp) (s : State) : Host.Outcome State Fault Refusal :=
  let s := s.tick t
  onUnit (decide (seg < 2)) <|
    let k := 16 * seg + (respStn r - 1)
    if !s.respOk seg r then s
    else if !(s.stn k).awaiting ∨ respCycle r ≠ s.rd (F.UIO_SEG_CNT_CYCLE seg) then
      s.inc (F.UIO_STN_CNT_LATE seg (k % 16))
    else s.takeResp k r

/-- RELEASE (R174). -/
def execStnRelease (t : Nat) (a : Attr) (seg stn : Nat) (s : State) : Host.Outcome State Fault Refusal :=
  let s := s.tick t
  onUnit (decide (seg < 2 ∧ 1 ≤ stn ∧ stn ≤ 16)) <|
    s.guarded a (F.UIO_STN_CTL_IN_LEN seg (stn - 1)).addr true true fun s =>
      s.modStn (16 * seg + stn - 1) fun x => { x with askRelease := true }

/-- A station of a segment that stops polling (*Table: Station states*); what it still owes the Stairwell fails as
NOT_POLLED, reads with TIMEOUT (log entry 24). -/
def State.stnAbsent (s : State) (k : Nat) : State :=
  let accs := (s.stair.carried.find? k).toList ++ s.fifo k
  let s := { s with stair := { s.stair with carried := s.stair.carried.erase k } }
  let s := accs.foldl (fun s acc => s.failAcc k acc 0x0D 3 0 s.now) s
  (s.substitute k).modStn k fun x => { x with
    state := .absent, succ := 0, awaiting := false, wdSent := false, joining := .none, askRelease := false, carries := false }

/-- A segment stops polling: its stations are ABSENT (R167). -/
def State.segOff (s : State) (seg : Nat) : State :=
  let s := s.clrF (F.UIO_SEG_CFG_SEG_EN seg)
  let s := { s with uio := { s.uio with polled := s.uio.polled.erase seg } }
  (s.configured seg).foldl (fun s k => s.stnAbsent k) s

/-- SEG_DISABLE (R167). -/
def execSegDisable (t : Nat) (a : Attr) (seg : Nat) (s : State) : Host.Outcome State Fault Refusal :=
  let s := s.tick t
  onUnit (decide (seg < 2)) <| s.guarded a (F.UIO_SEG_CFG_SEG_EN seg).addr true true fun s => s.segOff seg

end Sys2Proof.Machine
end

