-- ==== Sys2Proof/Machine/Setup.lean ====
section
/-! DEFINITION. The setup image and its loader (*Setup image and register map*, R422 to R432): the image checks, the two
passes of range checks, reports, arm-blocking, STORE, APPLY and the report queue. -/

namespace Sys2Proof.Machine

/-! ### Setup fields -/

/-- The base that FIELD records leave out of ADDR (R423). -/
def regBase : Nat := 0x40000000

/-- The registers that are never setup fields (R424). -/
def setupExcluded (addr : Nat) : Bool :=
  decide ((0x41300000 ≤ addr ∧ addr < 0x41310000) ∨ (0x41100100 ≤ addr ∧ addr < 0x41100118) ∨
    (0x41400020 ≤ addr ∧ addr < 0x4140004C) ∨ (0x41000030 ≤ addr ∧ addr < 0x41000040) ∨ addr = 0x41000054 ∨
    (0x40400000 ≤ addr ∧ addr < 0x40500000 ∧ (addr % 0x10000 = 0x10 ∨ addr % 0x10000 = 0x14)) ∨
    (0x40301000 ≤ addr ∧ addr < 0x40304000) ∨ addr = 0x40300090 ∨ (0x40E00100 ≤ addr ∧ addr < 0x40E00110) ∨
    (0x40201000 ≤ addr ∧ addr < 0x40202800))

/-- The setup field that a FIELD record names: ADDR, LSB and WIDTH are all those of the field (R424). -/
def setupField (lsb width addr : Nat) : Option (Fld × Nat × Nat) :=
  if setupExcluded (regBase + addr) then none else
  match regAt (regBase + addr) with
  | none => none
  | some (b, i, j) =>
    match b.fields.find? (fun d => (d.fld i j).lo == lsb && (d.fld i j).width == width &&
        (match d.acc with | .rw | .rwOwn | .su => true | _ => false)) with
    | some d => some (d.fld i j, d.min, d.max)
    | none => none

/-- A field's own range (R428). PWM_KHZ of L28 to L31 ends at 5 (R55). -/
def ownRange (f : Fld) (r : Nat × Nat) : Nat × Nat :=
  if (List.range 4).any (fun k => f == F.CH_PWM_PWM_KHZ (44 + k)) then (1, 5) else r

/-- The fields of the lane group (R432). -/
def laneGroup (f : Fld) : Bool :=
  let inCh := decide (0x40100000 ≤ f.addr ∧ f.addr < 0x40103000)
  let inPins := decide (0x40600000 ≤ f.addr ∧ f.addr < 0x40600100)
  (inCh && f.addr % 0x100 == 0x0C && decide (29 ≤ f.lo)) ||
    (inPins && (f.addr % 16 == 0 || f.addr % 16 == 12)) ||
    (decide (0x40600400 ≤ f.addr ∧ f.addr < 0x40600420) && f.lo == 28) ||
    f.addr == 0x40200008 || decide (0x40200140 ≤ f.addr ∧ f.addr < 0x40200180) || f.addr == 0x40300008 ||
    f.addr == 0x40380008 || f.addr == 0x4038000C

/-! ### Image checks -/

/-- Is a record well formed, and does a FIELD record match a setup field (R425, check 1)? -/
def SetupRec.wf : SetupRec → Bool
  | .field lsb width addr value =>
    (setupField lsb width addr).isSome && decide (value < 2 ^ width)
  | .station seg stn inLen _ _ subst => decide (seg < 2 ∧ 1 ≤ stn ∧ stn ≤ 16 ∧ subst.length = inLen)
  | .chanImage _ => true
  | .vinSafe words => words.all fun w => decide (w.1 < 512 ∧ w.2 < 2 ^ 32)

/-- The place that a FIELD record names. -/
def SetupRec.place : SetupRec → Option (Nat × Nat)
  | .field lsb _ addr _ => some (addr, lsb)
  | _ => none

/-- Is no element listed twice? -/
def noRepeat : List (Nat × Nat) → Bool
  | [] => true
  | x :: l => !l.contains x && noRepeat l

/-- The body of a DATA record (*Table: Data keys*); none where it does not have the form of its KEY. -/
def dataRec (key : Nat) (l : List Nat) : Option SetupRec :=
  match key with
  | 1 =>
    let n := l.getD 2 0
    let regs := slice l 8 (2 * n)
    if l.length < 8 ∨ l.length ≠ 8 + ceilDiv (2 * n) 4 * 4 ∨ slice l 6 2 ≠ [0, 0] ∨ (l.drop (8 + 2 * n)).any (· ≠ 0) then none
    else some (.station (l.getD 0 0) (l.getD 1 0) n (l.getD 3 0) (leNum (slice l 4 2))
      ((List.range n).map fun k => leNum (slice regs (2 * k) 2)))
  | 2 => if l.length ≠ 32 then none else some (.chanImage (leNum l.reverse))
  | 3 =>
    if l.length % 8 ≠ 0 then none
    else some (.vinSafe ((List.range (l.length / 8)).map fun k => (leNum (slice l (8 * k) 4), leNum (slice l (8 * k + 4) 4))))
  | _ => none

/-- The records of an image (*Table: Setup records*); none where one is not well formed or bytes are left. A KEY that the table does not
list makes its record ill-formed (DEDUCED, log entry 30). -/
def parseRecs : Nat → List Nat → Option (List SetupRec)
  | 0, l => if l.isEmpty then some [] else none
  | n + 1, l =>
    match l.getD 0 0 with
    | 1 =>
      let addr := leNum (slice l 4 4)
      let width := l.getD 2 0
      if l.length < 12 ∨ l.getD 3 0 ≠ 0 ∨ 31 < l.getD 1 0 ∨ width = 0 ∨ 32 < width ∨ 2 ^ 28 ≤ addr then none
      else (parseRecs n (l.drop 12)).map fun r => .field (l.getD 1 0) width addr (leNum (slice l 8 4)) :: r
    | 2 =>
      let len := leNum (slice l 4 4)
      if l.length < 8 + len ∨ l.getD 1 0 ≠ 0 ∨ len % 4 ≠ 0 then none
      else match dataRec (leNum (slice l 2 2)) (slice l 8 len) with
        | some x => (parseRecs n (l.drop (8 + len))).map fun r => x :: r
        | none => none
    | _ => none

/-- SETUP_ADDR. -/
def State.setupAddr (s : State) : Nat := s.rd F.SETUP_ADDR_LO_ADDR + 2 ^ 32 * s.rd F.SETUP_ADDR_HI_ADDR

/-- The image in the buffer (R422), with the verdicts on its signatures and BODY_HASH; none where MAGIC, FORMAT, BODY_LEN or RECORDS do
not agree with the length, or a record is not well formed (R425, check 1). -/
def State.setupImageAt (s : State) : Option SetupImage :=
  let h := s.load s.setupAddr 64
  let len := s.rd F.SETUP_LEN_LEN
  let bodyLen := leNum (slice h 24 4)
  if slice h 0 6 ≠ [0x53, 0x45, 0x54, 0x31, 1, 0] ∨ len ≠ 64 + bodyLen + 3405 ∨ 2097152 < len then none
  else
    let body := s.load (s.setupAddr + 64) bodyLen
    let hash := leNum (slice h 28 32).reverse
    (parseRecs (leNum (slice h 20 4)) body).map fun l =>
      { formatOk := true, cl := h.getD 6 0, mid := leNum (slice h 8 2) % 2 ^ 14, version := leNum (slice h 12 4)
        floor := leNum (slice h 16 4), bodyHash := hash, pins := s.pinsFor (h ++ body) (s.load (s.setupAddr + 64 + bodyLen) 3405)
        hashOk := Config.sha256 body == hash, records := l }

/-- The first check of R425 that an image fails, as a RESULT of SETUP_STAT; 0 where it passes checks 1 to 4. Verification goes on while
ROOT is blocked (R362). -/
def State.imageFault (s : State) (m : SetupImage) : Nat :=
  if !m.formatOk || m.mid == 0 || !m.records.all SetupRec.wf || !noRepeat (m.records.filterMap SetupRec.place) then 2
  else if s.rd F.SYSCTL_ID_CL < m.cl then 3
  else if !s.pinsOk m.pins then 4
  else if !m.hashOk then 5
  else 0

/-- The RESULT of R425, with check 5 against the image in use. -/
def State.imageResult (s : State) (m : SetupImage) : Nat :=
  let r := s.imageFault m
  if r ≠ 0 then r
  else if s.rd F.SETUP_STAT_SRC ≠ 0 ∧ m.version < s.rd F.SETUP_FLOOR_VERSION_FLOOR then 6
  else 0

/-- The copy the loader takes: 1 for A, 2 for B (R426). -/
def State.chooseCopy (s : State) : Option (Nat × SetupImage) :=
  let ok (c : Option SetupImage) : Option SetupImage := c.filter fun m => s.imageFault m == 0
  match ok s.setup.copyA, ok s.setup.copyB with
  | none, none => none
  | some a, none => some (1, a)
  | none, some b => some (2, b)
  | some a, some b =>
    match decide (b.floor ≤ a.version), decide (a.floor ≤ b.version) with
    | true, true => if b.version ≤ a.version then some (1, a) else some (2, b)
    | true, false => some (1, a)
    | false, true => some (2, b)
    | false, false => none

/-- RESULT where no copy is taken: the first check that copy A, else copy B, fails; VERSION where both were set aside; FORMAT
where none is stored (log entry 30). -/
def State.chooseFault (s : State) : Nat :=
  let fault (c : Option SetupImage) : Nat := (c.map s.imageFault).getD 0
  if fault s.setup.copyA ≠ 0 then fault s.setup.copyA
  else if fault s.setup.copyB ≠ 0 then fault s.setup.copyB
  else if s.setup.copyA.isSome ∨ s.setup.copyB.isSome then 6 else 2

/-! ### The two passes -/

/-- What a load has gathered: the state, the reports in order, and whether every VITAL channel is to be arm-blocked. -/
structure Load where
  st      : State
  reports : List SetupReport
  all     : Bool

/-- One report for each field, however many passes changed it (R429). -/
def noteReport (r : SetupReport) : List SetupReport → List SetupReport
  | [] => [r]
  | q :: rest =>
    if q.addr = r.addr ∧ q.lsb = r.lsb ∧ q.index = r.index then { q with pass2 := r.pass2, loaded := r.loaded } :: rest
    else q :: noteReport r rest

/-- The field index of the record that names a field; 0xFFFF where none does (R429). -/
def fieldIndex (f : Fld) (named : List (Nat × Fld)) : Nat :=
  match List.find? (fun x : Nat × Fld => x.2.key == f.key) named with
  | some x => x.1
  | none => 0xFFFF

/-- A field is loaded with another value than the one asked for, and reported (R429, R430). -/
def Load.adjust (d : Load) (named : List (Nat × Fld)) (f : Fld) (refused pass2 : Bool) (req loaded : Nat) : Load :=
  { d with
    st := d.st.wr f loaded
    reports := noteReport ⟨refused, pass2, f.lo, fieldIndex f named, f.addr - regBase, req, loaded⟩ d.reports }

/-- The fields whose failure arm-blocks every VITAL channel (*Table: Vital-bearing fields*). -/
def vitalBearing (f : Fld) (pairEn : Bool) : Bool :=
  ((List.range 16).any fun u => f == F.UIO_PIN_CFG_MODE u) || f == F.LANEIF_CFG_PERIOD ||
    (pairEn && (f == F.PAIR_CFG_PARTNER_MID || f == F.PAIR_CFG_PAIR_OFFSET || f == F.PAIR_CFG_CLAIM_QUIET))

/-- Pass 1 for one named field (R428 to R430). -/
def Load.pass1 (d : Load) (named : List (Nat × Fld)) (pairEn : Bool) (f : Fld) (r : Nat × Nat) (v : Nat) : Load :=
  let r := ownRange f r
  if r.1 ≤ v ∧ v ≤ r.2 then { d with st := d.st.wr f v }
  else if vitalBearing f pairEn then { d.adjust named f true false v f.reset with all := true }
  else d.adjust named f false false v (clampNat v r.1 r.2)

/-- A limit of pass 2: the field is loaded with `loaded` where that is not its value (R428, R429). -/
def Load.limit (d : Load) (named : List (Nat × Fld)) (f : Fld) (loaded : Nat) : Load :=
  if d.st.rd f = loaded then d else d.adjust named f false true (d.st.rd f) loaded

/-- The configured stations of a segment (R423). -/
def State.segStations (s : State) (g : Nat) : List Nat :=
  (List.range 16).filter fun n => ((s.uio.stns.find? (16 * g + n)).getD Station.init).configured

/-- The cycle time t_c of a segment in 0.1 µs (R169). -/
def State.cycleTime (s : State) (g : Nat) : Nat :=
  let ns := s.segStations g
  let w (len : Nat) : Nat := max 64 len + 20
  let poll := w (22 + ns.foldl (fun b n => b + 8 + 2 * s.rd (F.UIO_STN_CTL_OUT_LEN g n)) 0)
  let resp := ns.foldl (fun b n => b + w (30 + 2 * s.rd (F.UIO_STN_CTL_IN_LEN g n))) 0
  8 * (poll + resp) + 32 * ((ns.foldl (fun m n => max m (n + 1)) 0) + 1)

/-- POLL_PERIOD raised to a whole 50 µs and at least to t_c (R169). -/
def State.pollPeriod (s : State) (g : Nat) : Nat :=
  min 65500 (50 * ceilDiv (max (s.rd (F.UIO_SEG_CFG_POLL_PERIOD g)) (ceilDiv (s.cycleTime g) 10)) 50)

/-- The limits of pass 2 on the FUSEBOX fields of channel n: INRUSH_2A against INRUSH_CAP (R64), PAIRED against PAIR_EN. -/
def Load.chanLimits (d : Load) (named : List (Nat × Fld)) (full : Bool) (n : Nat) : Load :=
  let cap := d.st.rd F.FB_BUDGET_INRUSH_CAP / 2
  let d := if full then d.limit named (F.CH_PROFILE_INRUSH_2A n) (min (d.st.rd (F.CH_PROFILE_INRUSH_2A n)) cap) else d
  if d.st.flag (F.CH_PROFILE_PAIRED n) ∧ !d.st.flag F.PAIR_CFG_PAIR_EN then
    d.adjust named (F.CH_PROFILE_PAIRED n) true true 1 1
  else d

/-- PAIR_OFFSET is at most P / 4 (R428, R430): PERIOD is in 100 µs, PAIR_OFFSET in 10 µs. -/
def Load.offsetLimit (d : Load) (named : List (Nat × Fld)) : Load :=
  let v := d.st.rd F.PAIR_CFG_PAIR_OFFSET
  let top := d.st.rd F.LANEIF_CFG_PERIOD * 5 / 2
  if v ≤ top then d
  else if d.st.flag F.PAIR_CFG_PAIR_EN then
    { d.adjust named F.PAIR_CFG_PAIR_OFFSET true true v F.PAIR_CFG_PAIR_OFFSET.reset with all := true }
  else d.limit named F.PAIR_CFG_PAIR_OFFSET top

/-- TH_HI is at least TH_LO + 0.2 V (R160). -/
def Load.threshLimit (d : Load) (named : List (Nat × Fld)) (u : Nat) : Load :=
  d.limit named (F.UIO_PIN_THR_TH_HI u) (max (d.st.rd (F.UIO_PIN_THR_TH_HI u)) (d.st.rd (F.UIO_PIN_THR_TH_LO u) + 2))

/-- A report on a value of a DATA record, where it was changed: ADDR and LSB are 0 (R429). -/
def dataReport (pass2 : Bool) (idx req loaded : Nat) : List SetupReport :=
  if req = loaded then [] else [⟨false, pass2, 0, idx, 0, req, loaded⟩]

/-- WD_TIMEOUT of a setup record is at least 2 × POLL_PERIOD, as that stands after pass 1 (R173, R428); its report, where pass 1 gave one,
shows pass 2 (R429). -/
def Load.stationLimit (d : Load) (poll : Nat → Nat) (idx g n wd : Nat) : Load :=
  let own := clampNat wd 10 65535
  let v := max own (ceilDiv (2 * poll g) 100)
  if v = own then d else
  let k := 16 * g + (n - 1)
  let x := (d.st.uio.stns.find? k).getD Station.init
  let first := dataReport false idx wd own
  let last := dataReport true idx wd v
  { d with
    st := { d.st with uio := { d.st.uio with stns := d.st.uio.stns.insert k { x with wd := v } } }
    reports := if first ≠ [] ∧ first.all d.reports.contains then
        d.reports.map fun r => if first.contains r then { r with pass2 := true, loaded := v } else r
      else d.reports ++ last }

/-- RING_TMO is at least 2 × RING_HOLD; a RING_HOLD above 127 takes both to 127 and 255 (R428). -/
def Load.ringLimit (d : Load) (named : List (Nat × Fld)) : Load :=
  let hold := d.st.rd F.NETMGT_CFG2_RING_HOLD
  let tmo := d.st.rd F.NETMGT_CFG2_RING_TMO
  if 127 < hold then
    (d.adjust named F.NETMGT_CFG2_RING_TMO false true tmo 255).adjust named F.NETMGT_CFG2_RING_HOLD false true hold 127
  else d.limit named F.NETMGT_CFG2_RING_TMO (max tmo (2 * hold))

/-- PPS_WIDTH and PPS_PHASE stay below PPS_PERIOD (R296). -/
def Load.ppsLimit (d : Load) (named : List (Nat × Fld)) : Load :=
  let p := d.st.rd F.TIME_PPS_OUT_PPS_PERIOD
  let d := d.limit named F.TIME_PPS_OUT_PPS_WIDTH (min (d.st.rd F.TIME_PPS_OUT_PPS_WIDTH) (max 1 (p - 1)))
  d.limit named F.TIME_PPS_PHASE_PPS_PHASE (min (d.st.rd F.TIME_PPS_PHASE_PPS_PHASE) (p * 1000000 - 1))

/-- Pass 2 over every limit, in order of increasing ADDR and LSB (R428), the DATA records, whose reports give ADDR 0, first (log entry
30); only the lane group's where `full` is not asked. -/
def Load.pass2 (d : Load) (named : List (Nat × Fld)) (recs : List SetupRec) (full : Bool) : Load :=
  let poll (g : Nat) : Nat := d.st.rd (F.UIO_SEG_CFG_POLL_PERIOD g)
  let d := if full then recs.zipIdx.foldl (fun (d : Load) x => match x.1 with
      | .station g n _ _ wd _ => d.stationLimit poll x.2 g n wd
      | _ => d) d else d
  let d := (List.range 48).foldl (fun (d : Load) n => d.chanLimits named full n) d
  let d := d.offsetLimit named
  let d := (List.range (if full then 48 else 16)).foldl (fun (d : Load) u => d.threshLimit named u) d
  if full then
    let d := (List.range 2).foldl (fun (d : Load) g =>
      d.limit named (F.UIO_SEG_CFG_POLL_PERIOD g) (d.st.pollPeriod g)) d
    (d.ppsLimit named).ringLimit named
  else d

/-! ### Loading -/

/-- The named fields of an image, with their field indexes. -/
def SetupImage.named (m : SetupImage) : List (Nat × Fld) :=
  (m.records.zipIdx).filterMap fun x => match x.1 with
    | .field lsb width addr _ => (setupField lsb width addr).map fun r => (x.2, r.1)
    | _ => none

/-- One record in pass 1: fields, and the data that no register maps (R423), whose own ranges are IN_LEN and OUT_LEN to 32 and
WD_TIMEOUT 1 ms to 6.5 s (R173); only the lane group's where `full` is not asked (R432). -/
def Load.record (d : Load) (named : List (Nat × Fld)) (pairEn full : Bool) (x : SetupRec × Nat) : Load :=
  match x.1 with
  | .field lsb width addr value =>
    match setupField lsb width addr with
    | none => d
    | some (f, lo, hi) => if full ∨ laneGroup f then d.pass1 named pairEn f (lo, hi) value else d
  | .vinSafe words =>
    { d with st := { d.st with lane := { d.st.lane with
        vinSafe := words.foldl (fun t (w : Nat × Nat) => t.put 0 w.1 w.2) d.st.lane.vinSafe } } }
  | .chanImage h => if full then { d with st := { d.st with setup := { d.st.setup with chanHash := h } } } else d
  | .station g n inLen outLen wd subst =>
    if !full then d else
    let s := (d.st.wr (F.UIO_STN_CTL_IN_LEN g (n - 1)) (min inLen 32)).wr (F.UIO_STN_CTL_OUT_LEN g (n - 1)) (min outLen 32)
    let y : Station := { Station.init with configured := true, wd := clampNat wd 10 65535, subst := subst.take 32 }
    { d with
      st := { s with uio := { s.uio with stns := s.uio.stns.insert (16 * g + (n - 1)) y } }
      reports := d.reports ++ dataReport false x.2 inLen (min inLen 32) ++ dataReport false x.2 outLen (min outLen 32) ++
        dataReport false x.2 wd (clampNat wd 10 65535) }

/-- PAIR_EN as the image sets it. -/
def SetupImage.pairEn (m : SetupImage) : Bool :=
  m.records.any fun r => match r with
    | .field lsb width addr value =>
      lsb == F.PAIR_CFG_PAIR_EN.lo && width == 1 && regBase + addr == F.PAIR_CFG_PAIR_EN.addr && value == 1
    | _ => false

/-- Places a report in the queue of 256, or counts it as lost; its record is written either way (R429, R430). -/
def State.report (s : State) (r : SetupReport) : State :=
  let s := if s.setup.reports.length < 256 then
      ({ s with setup := { s.setup with reports := s.setup.reports ++ [r] } }).pushed 0x41500020
    else s.inc F.SETUP_STAT_LOST
  s.record 0x11 0x01 (if r.refused then 6 else 4) r.index (if r.refused then 0 else 9) [0]

/-- Arm-blocks the channels of a list and publishes the blocks (R431). -/
def State.armBlock (s : State) (blocked : List Nat) : State :=
  let s := blocked.foldl (fun s n => (s.setF (F.CH_PROFILE_CH_MODE n)).clrF (F.CH_PROFILE_SAFE_ON n)) s
  let m := blocked.foldl maskSet 0
  (s.wr (F.SETUP_ARM_BLOCK_BLOCK 0) (m % 2 ^ 32)).wr (F.SETUP_ARM_BLOCK_BLOCK 1) (m / 2 ^ 32)

/-- The records of an image are applied (R426, R428 to R432). -/
def State.applyImage (s : State) (m : SetupImage) (full : Bool) : State :=
  let named := SetupImage.named m
  let s := { s with lane := { s.lane with vinSafe := [] } }
  let d : Load := m.records.zipIdx.foldl (fun (d : Load) x => d.record named (SetupImage.pairEn m) full x) ⟨s, [], false⟩
  let d := d.pass2 named m.records full
  let s := d.st
  let blocked := (List.range 48).filter fun n =>
    (d.all && s.flag (F.CH_PROFILE_CH_MODE n)) || (s.flag (F.CH_PROFILE_PAIRED n) && !s.flag F.PAIR_CFG_PAIR_EN)
  let s := (s.armBlock blocked).wr F.SETUP_STAT_VITAL_REFUSED (bit (d.reports.any fun r => r.refused))
  d.reports.foldl State.report s

/-- A fuse curve of the image that fails the tests of R49 is not applied (log entry 30). -/
def State.checkCurves (s : State) : State :=
  (List.range 48).foldl (fun s n => if s.curveValid n then s else
    ((List.range 8).foldl (fun s k => (s.wr (F.CH_FUSE_I_THR n k) (F.CH_FUSE_I_THR n k).reset).wr (F.CH_FUSE_T_MS n k)
      (F.CH_FUSE_T_MS n k).reset) s).raise (F.CH_STAT_CFG_REFUSED n)) s

/-- What follows from loaded initial values: instances loaded VALID are ACTIVE, supplies loaded with EN turn on, a
GRANDMASTER's servo follows GM_VALID (log entry 30), and the rings of consent are as R306 and R307 have them. -/
def State.afterLoad (s : State) : State :=
  let s := s.checkCurves
  let s := (List.range 64).foldl (fun s i =>
    if s.flag (F.VIM_INST_CFG_VALID i) then
      (s.loadInst i).modInst i fun x => { x with state := .active, filled := s.now }
    else s) s
  let s := s.keepPins.startSupplies
  (s.writeTimeCfg (s.word F.TIME_CFG_SRC.addr)).loadRings

/-- A setup command or a start-up load ends with a RESULT (SETUP_STAT). -/
def State.setupEnd (s : State) (r : Nat) : State :=
  let s := ((s.wr F.SETUP_STAT_RESULT r).raise F.SETUP_STAT_DONE).clrF F.SETUP_STAT_BUSY
  { s with setup := { s.setup with storing := none, applying := false } }

/-- The load of S4 (R426). With no copy every field keeps its reset value. -/
def State.setupLoad (s : State) : State :=
  let s := { s with setup := { s.setup with reports := [], chanHash := 0, storing := none, applying := false } }
  match s.chooseCopy with
  | none => s.setupEnd s.chooseFault
  | some (src, m) =>
    let s := ((s.wr F.SETUP_STAT_SRC src).wr F.SETUP_VER_VERSION_FLOOR m.version).wr F.SETUP_FLOOR_VERSION_FLOOR m.floor
    let s := (s.wr F.SYSCTL_MID_MID m.mid).wrHash F.SETUP_HASH_HASH m.bodyHash
    ((s.applyImage m true).afterLoad).setupEnd 0

/-! ### Commands -/

/-- STORE or APPLY, one at a time (R427): a command written while BUSY is ignored with RESULT BUSY. -/
def State.setupCmd (s : State) (eff : State → State) : State :=
  if s.flag F.SETUP_STAT_BUSY then s.wr F.SETUP_STAT_RESULT 1 else eff s

/-- A STORE of the image that the buffer holds (R427). -/
def State.storeImage (s : State) (m : Option SetupImage) : State :=
  match m with
  | none => s.setupEnd 2
  | some img =>
    let r := s.imageResult img
    if r ≠ 0 then s.setupEnd r
    else { s.setF F.SETUP_STAT_BUSY with setup := { s.setup with storing := some img, applying := false } }

/-- STORE (R427): the checks of R425 on the image at SETUP_ADDR, then the write of the copy not in use begins. While ROOT is blocked it
ends with SIGNATURE. An image that the Attic may not read is read as zeros (R345), which are no image. -/
def execSetupStore (t : Nat) (a : Attr) (s : State) : Host.Outcome State Fault Refusal :=
  let s := s.tick t
  .next <| s.guarded a 0x41500004 true a.attic0 fun s => s.setupCmd fun s =>
    if s.blocked then s.setupEnd 4
    else s.buffer s.setupAddr (s.rd F.SETUP_LEN_LEN) false (fun s => s.storeImage s.setupImageAt) fun s => s.storeImage none

/-- The copy not in use takes an image (R427). -/
def State.putCopy (s : State) (m : SetupImage) : State :=
  if s.rd F.SETUP_STAT_SRC = 1 then { s with setup := { s.setup with copyB := some m } }
  else { s with setup := { s.setup with copyA := some m } }

/-- STORE_COMPLETE (R427): the header is written last. -/
def execStoreComplete (t : Nat) (s : State) : Host.Outcome State Fault Refusal :=
  let s := s.tick t
  .next <| match s.setup.storing with
    | some m => (s.putCopy m).setupEnd 0
    | none => s

/-- A STORE in progress at a power-fail declaration, at sleep entry or at tamper ends ABANDONED, and leaves the written copy failing
check 4 (R427). -/
def State.setupAbandon (s : State) : State :=
  match s.setup.storing with
  | some m => (s.putCopy { m with hashOk := false }).setupEnd 8
  | none => s

/-- SETUP_APPLY (R432): accepted only in STOP. -/
def execSetupApply (t : Nat) (a : Attr) (s : State) : Host.Outcome State Fault Refusal :=
  let s := s.tick t
  .next <| s.guarded a 0x41500004 true a.attic0 fun s => s.setupCmd fun s =>
    if s.cyc.mode ≠ .stop then s.setupEnd 7
    else { s.setF F.SETUP_STAT_BUSY with setup := { s.setup with applying := true } }

/-- The lane group at its reset values (R432). -/
def State.resetGroup (s : State) : State :=
  { s with regs := s.regs.filter fun x : Nat × Nat => !laneGroup ⟨x.1 / 32, x.1 % 32, 0, 0⟩ }

/-- SETUP_APPLY_COMPLETE (R432): the lane group is reloaded from the copy of higher VERSION that passes. -/
def execSetupApplyComplete (t : Nat) (s : State) : Host.Outcome State Fault Refusal :=
  let s := s.tick t
  .next <| if !s.setup.applying then s
    else if s.cyc.mode ≠ .stop then s.setupEnd 7
    else match s.chooseCopy with
    | none => s.setupEnd s.chooseFault
    | some (_, m) =>
      let n := (s.resetGroup.applyImage m false).keepPins.lockSupplies
      (n.pairReload (s.flag F.PAIR_CFG_PAIR_EN)).setupEnd 0

/-- The word of SETUP_REPORT for a report. -/
def SetupReport.word (r : SetupReport) : Nat :=
  2 ^ 31 + (if r.refused then 2 else 1) * 2 ^ 29 + bit r.pass2 * 2 ^ 28 + r.lsb % 32 * 2 ^ 23 + r.index % 65536

/-- REPORT_READ (R10, R14, R429): the oldest report, which the read removes. -/
def execReportRead (t : Nat) (a : Attr) (peek : Bool) (s : State) : Host.Outcome State Fault Refusal :=
  let s := s.tick t
  .next <| s.guarded a (rsAddr 0x41500020 peek) false true fun s =>
    match s.setup.reports with
    | [] => s.answer 0 0
    | r :: rest =>
      if s.settled 0x41500020 (rest.length + 1) = 0 then s.answer 0 0
      else if peek then s.answer 0 r.word
      else
        let s := ((s.wr F.SETUP_REPORT_ADDR_ADDR r.addr).wr F.SETUP_REPORT_REQ_VALUE r.req).wr F.SETUP_REPORT_LOADED_VALUE
          r.loaded
        { s with setup := { s.setup with reports := rest } }.answer 0 r.word

end Sys2Proof.Machine
end

