-- ==== Sys2Proof/Machine/Power.lean ====
section
/-! DEFINITION. The supply and the Cellar's sequencer (*Supply, power states and start-up*, R19 to R34, R368 to R388):
thresholds, power states, start-up, sleep entry and wake (R309 to R316), the power-fail order, scrubbing and gates; and
what a recognised tamper does in each state (R366). -/

namespace Sys2Proof.Machine

/-! ### States and words -/

/-- Changes what the supply holds beside its registers. -/
def State.modPwr (s : State) (f : PowerSt → PowerSt) : State := { s with pwr := f s.pwr }

/-- The module enters a power state; the planner's time is counted up to now (R394). -/
def State.toPower (s : State) (p : PowerState) : State := s.accrue.modPwr fun x => { x with state := p }

/-- PWRMGR_STAT.PSTATE. -/
def PowerState.code : PowerState → Nat
  | .startup => 0 | .run => 1 | .safe => 2 | .sleepEntry => 3 | .powerFail => 4
  | .off | .deepSleep | .warmSleep | .halted => 0

/-- PWRMGR_STAT.START_CAUSE. -/
def StartCause.code : StartCause → Nat
  | .fromOff => 0 | .wake => 1 | .supplyReturn => 2 | .warmWake => 3

/-- The word of PWRMGR_STAT. -/
def State.pwrStat (s : State) : Nat :=
  s.word F.PWRMGR_STAT_HOLDUP_READY.addr + s.pwr.state.code * 2 ^ 29 + s.pwr.cause.code * 2 ^ 26 + bit s.holdupOn * 2 ^ 24

/-- A record of CLASS POWER (R407). -/
def State.powerRecord (s : State) (kind sev subj : Nat) (vals : List Nat) : State :=
  s.record 0x01 kind sev subj 0 (s.pwrStat :: vals) (sourceWord 3 0 0)

/-- Is the module asleep? -/
def State.asleep (s : State) : Bool := s.pwr.state == .deepSleep || s.pwr.state == .warmSleep

/-! ### Domains -/

/-- A lane's retained memory: its seal, and the values that its active program declares retained (R19, R23, R122). -/
def Lane.retention (l : Lane) (p : Option Program) : Lane :=
  match l.oldProg <|> p with
  | some p => let k := l.keepRetained p
    { Lane.init with sealed := l.sealed, vars := k.vars, fbs := k.fbs }
  | none => { Lane.init with sealed := l.sealed }

/-- The registers that keep their values when the hub, lane and Fusebox control domains are powered down: those the Cellar
holds (R15, R313, R365, R405), and some of the hub's whose value the Cellar still uses and that reset at the next power-up. -/
def heldAsleep (addr : Nat) : Bool :=
  decide ((0x40010000 ≤ addr ∧ addr < 0x40050000) ∨ (0x41200040 ≤ addr ∧ addr < 0x41200050) ∨ addr = 0x41200000 ∨
    (0x41080030 ≤ addr ∧ addr < 0x4108003C) ∨ addr = 0x41080060 ∨ addr = 0x41080008 ∨ addr = 0x41000058 ∨
    (0x41400000 ≤ addr ∧ addr < 0x41400020))

/-- The hub registers among them, which take their reset values at hub power-up. -/
def resetAtUp (addr : Nat) : Bool :=
  decide ((0x40020000 ≤ addr ∧ addr < 0x40050000) ∨ addr = 0x41200000 ∨ addr = 0x41080008 ∨ addr = 0x41400000 ∨
    addr = 0x41400004)

/-- The register file without the fields at addresses for which `p` holds. -/
def State.dropRegs (s : State) (p : Nat → Bool) : State :=
  { s with regs := s.regs.filter fun x : Nat × Nat => !p (x.1 / 32) }

/-- DRAM alone, in self-refresh (R382), or no memory. -/
def State.keepDram (s : State) (keep : Bool) : State :=
  { s with mem := if keep then s.mem.filter (fun c : Nat × Byte => decide (0x0800000000 ≤ c.1)) else [] }

/-- The hub, lane and Fusebox control domains are powered down (R19, R311). What the Cellar, the cartridge, the UFS and the
Pantry's store hold remains. -/
def State.powerDown (s : State) (keep : Bool) : State :=
  let s := (s.commitAll.setupAbandon.pantryAbandon.pantryFinish.hearthAbort.timeToCellar).keepDram keep
  let s := s.dropRegs fun a => !heldAsleep a
  let lanes := s.lane.lanes.foldl (fun m l => Tbl.put m Lane.init l.1 (l.2.retention s.cyc.act)) []
  let z := State.reset
  { s with
    fuse := { z.fuse with savedAge := s.fuse.savedAge }
    lane := { z.lane with lanes := lanes }
    cyc := { z.cyc with boot := s.cyc.boot, nonces := s.cyc.nonces, noncesLost := s.cyc.noncesLost, refInst := s.cyc.refInst }
    pair := z.pair, uio := z.uio, dve := z.dve, stair := z.stair, hall := z.hall, can := z.can
    net := { z.net with
      latched := s.net.latched, arm := s.net.arm, wakeAt := s.net.wakeAt, warmSleep := s.net.warmSleep, fwd := s.net.fwd }
    vim := { z.vim with nonces := s.vim.nonces, hold := s.vim.hold }
    world := z.world
    pantry := { z.pantry with store := s.pantry.store }
    setup := { s.setup with storing := none, applying := false, reports := [] }
    pwr := { s.pwr with
      hubUp := false, laneUp := false, fuseUp := false, seq := none, stagesDone := [], stagesBegun := [], parlourOut := false,
      parlourHeld := false, pfInEntry := false, sleepAt := s.now } }

/-- The hub domain is powered up (R21, R298, R310): its registers reset, FRC and T start, and every keep-alive segment
counts as just seen. -/
def State.hubPowerUp (s : State) : State :=
  let s := ((s.dropRegs resetAtUp).clrF (F.NETMGT_CNT_CANCELS_QUARANTINED 0)).timeStart
  let s := { s with log := { s.log with wrAddr := [], wrResult := [], readEnd := 0, lastEnd := none }, net := { s.net with fwd := [] } }
  let s := (s.wr F.REC_STAT_FLUSHING (bit s.log.flushing.isSome)).recStat
  let s := (List.range 13).foldl (fun s k => s.modSeg k fun g => { g with lastSeen := s.now }) s
  (s.modPwr fun x => { x with hubUp := true }).chargeOn

/-! ### Start-up -/

/-- The stages named in the "After" column (*Table: Start-up stages*). -/
def stageAfter : Nat → List Nat
  | 2 => [1] | 3 => [2] | 4 => [3] | 5 => [4] | 6 => [1, 4] | 7 => [5, 6] | _ => []

/-- A stage whose predecessors have all completed begins. At S4 the Attic authenticates the cartridge (R390). -/
def State.beginStage (s : State) (k : Nat) : State :=
  if s.pwr.stagesBegun.contains k ∨ !(stageAfter k).all s.pwr.stagesDone.contains then s else
  let s := s.modPwr fun x => { x with stagesBegun := x.stagesBegun ++ [k] }
  match k with
  | 4 => if s.hearth.fitted then s.wr F.HEARTH_STAT_AUTH 1 else s
  | 7 => s.modPwr fun x => { x with s7Start := s.now }
  | _ => s

/-- A stage completes, and the stages that waited for it begin. -/
def State.endStage (s : State) (k : Nat) : State :=
  let s := s.modPwr fun x => { x with stagesDone := x.stagesDone ++ [k] }
  (List.range 8).foldl State.beginStage s

/-- Start-up begins (R375, R377): S1 turns the lane regulators on, and lane BIST begins. The record of a cut is written
(R386). -/
def State.beginStartup (s : State) (cause : StartCause) : State :=
  let slept := if cause = .fromOff then 0 else min ((s.now - s.pwr.sleepAt) / secs 1) (2 ^ 22 - 1)
  let s := (s.toPower .startup).modPwr fun x => { x with
    afterPf := false, cause := cause, stagesDone := [], stagesBegun := [1], startAt := s.now, laneUp := true,
    deepFromWarm := false, qualified := false }
  let s := (s.wr F.CELLAR_STAT_LAST s.pwr.lastCode).wr F.CELLAR_STAT_SLEEP_S slept
  let s := s.modLanes laneIds fun l => { l.retention s.cyc.act with bistStart := some s.now }
  match s.pwr.cutRecord with
  | some k => (s.modPwr fun x => { x with cutRecord := none }).powerRecord 0x02 6 k []
  | none => s

/-- A start by wake source `source` of cause `cause` (R313, R382). -/
def State.wakeStart (s : State) (cause source t : Nat) : State :=
  let s := (s.wr F.NETMGT_WAKE_CAUSE_CAUSE cause).wr F.NETMGT_WAKE_CAUSE_SOURCE source
  let s := (s.wr F.NETMGT_WAKE_CAUSE_DEEP_FROM_WARM (bit s.pwr.deepFromWarm)).wr64 F.NETMGT_WAKE_T_T t
  s.beginStartup (if s.pwr.state = .warmSleep then .warmWake else .wake)

/-- The module starts after a supply return (R33, R375); NETMGT_WAKE_CAUSE reads 0. -/
def State.supplyStart (s : State) (cause : StartCause) : State :=
  (((s.clrF F.NETMGT_WAKE_CAUSE_CAUSE).clrF F.NETMGT_WAKE_CAUSE_SOURCE).clrF
    F.NETMGT_WAKE_CAUSE_DEEP_FROM_WARM).beginStartup cause

/-- START_QUALIFIED (R369, R375, R387): from OFF the Cellar resets, and FRC counts from that reset (R299). -/
def execStartQualified (t : Nat) (vBus : Nat) (s : State) : Host.Outcome State Fault Refusal :=
  .next <|
    if s.pwr.state = .off then
      let s := { s with now := t, frc := t, clk := ClockSt.none }
      let s := (s.modPwr fun x => { x with lastCode := 0, below9 := false, busLow14 := false, scrubAt := t }).modHearth fun h =>
        { h with firstTest := true, accAt := t }
      (s.wr F.PWRMGR_BUS_V_BUS (min vBus 65535)).supplyStart .fromOff
    else
      let s := s.tick t
      if s.pwr.state = .deepSleep ∧ s.pwr.afterPf then
        (s.modPwr fun x => { x with below9 := false }).supplyStart .supplyReturn
      else if s.inPowerFail then s.modPwr fun x => { x with qualified := true }
      else s

/-- Both Attic firmware copies fail: the hub is held in its boot ROM (R375). -/
def State.halt (s : State) : State :=
  ((s.toPower .halted).modPwr fun x => { x with haltedAt := s.now }).powerRecord 0x07 6 0 []

/-- The fused minimum firmware version: the ones of the thermometer code (R358). -/
def Fuses.minVersion (f : Fuses) : Nat := ((List.range 64).filter fun k => f.security.testBit k).length

/-- Does the boot ROM start a copy of the Attic firmware (R359): both signatures verify under one non-revoked pin 0 or 1, at or above
the fused minimum? -/
def State.fwOk (s : State) (c : FwCopy) : Bool :=
  (c.pins.any fun k => decide (k < 2) && !s.efuse.revoked.testBit k) && decide (s.efuse.minVersion ≤ c.version)

/-- Is debug enabled by the token presented (R360)? -/
def State.debugOk (s : State) (x : DebugToken) : Bool :=
  !s.efuse.debugOff && s.pinsOk x.pins && x.mid == s.rd F.SYSCTL_MID_MID && x.dbgCnt == s.rd F.CELLAR_DBG_CNT_DBG_CNT

/-- S2 (R359 to R362): debug and the root; HALTED where neither firmware copy verifies. -/
def State.stageBoot (s : State) (ticket : Option DebugToken) (fwA fwB : FwCopy) : State :=
  let on := ticket.any s.debugOk
  let s := (if on then s.incWrap F.CELLAR_DBG_CNT_DBG_CNT else s).pantryStart on
  if s.fwOk fwA ∨ s.fwOk fwB then s.endStage 2 else s.halt

/-- S4 (R394, R411, R419, R426): the setup image, the plan, and a checkpoint. The Parlour cores may then be released. -/
def State.stageConfig (s : State) : State :=
  let s := s.setupLoad
  let s := match s.pwr.cause with
    | .fromOff | .supplyReturn => s.fullPlan
    | .wake | .warmWake => s.planFromCellar
  let s := s.checkpoint
  let s := { s with log := { s.log with lastEnd := s.log.lastEnd <|> some s.now } }
  (s.modPwr fun x => { x with parlourOut := true }).endStage 4

/-- The ageing values that the Cellar took at sleep entry return; after another start they begin at 0 (R70). -/
def State.restoreAge (s : State) : State :=
  match s.pwr.cause with
  | .fromOff | .supplyReturn => { s with fuse := { s.fuse with savedAge := [] } }
  | .wake | .warmWake => s.fuse.savedAge.foldl (fun s (x : Nat × Nat × Nat × Nat) =>
      ((s.wr (F.CH_AGE_RDS_MEAS x.1) x.2.1).wr (F.CH_AGE_DRIFT x.1) x.2.2.1).wr (F.CH_AGE_AGE_VALID x.1) x.2.2.2) s

/-- S5 (R70, R178): Fusebox control, and engines 12 to 15 loaded with the channel program and started. -/
def State.stagePower (s : State) (prog : EngLoad) : State :=
  let s := (s.modPwr fun x => { x with fuseUp := true }).restoreAge
  let named := s.setup.chanHash == 0 || s.setup.chanHash == prog.hash
  let s := [12, 13, 14, 15].foldl (fun s e =>
    let r := s.loadResult e prog
    let s := s.wr (F.DVE_LOAD_RESULT_RESULT e) r
    if r = 0 ∧ named then
      ((s.engLoad e prog).modEng e fun x => { x with std := s.setup.chanHash == 0 }).engStart e ⟨prog.entry, prog.data⟩
    else s) s
  s.endStage 5

/-- The hash a lane computed, of the three. -/
def hashOf (hA hB hC : Nat) : LaneId → Nat
  | .a => hA | .b => hB | .c => hC

/-- The cause for which a lane leaves STARTING to EXCLUDED (R93, R379): BIST, synchronisation, or a hash that differs from
one that the two other lanes share. -/
def State.startCause (s : State) (synced : List LaneId) (hash : LaneId → Nat) (l : LaneId) : Option Nat :=
  let others := laneIds.filter fun m => m ≠ l
  if !(s.ln l).bistOk then some 4
  else if !synced.contains l then some 7
  else match others.map hash with
    | [x, y] => if x = y ∧ hash l ≠ x then some 0xA else none
    | _ => none

/-- S6 (R93, R96, R106, R136, R379): the boot image in bank A, and every lane ACTIVE, or EXCLUDED and in BIST; a BIST that has failed
is started again 60 s after its start. -/
def State.stageLanes (s : State) (synced : List LaneId) (hash : LaneId → Nat) : State :=
  let s := { s with cyc := { s.cyc with act := s.cyc.boot } }
  let s := ((s.clrF F.CYCMGR_STAT_ACT_BANK).showBanks).fixPins
  let out := laneIds.filterMap fun l => (s.startCause synced hash l).map fun c => (l, c)
  let s := laneIds.foldl (fun s l => s.modLn l fun x => { x with
    bankHash := s.cyc.boot.map fun _ => hash l
    state := .active }) s
  let s := out.foldl (fun s (o : LaneId × Nat) => s.modLn o.1 fun x =>
    let y := x.toBist s.now
    { y with bistStart := if o.2 = 4 then x.bistStart <|> y.bistStart else y.bistStart }) s
  let s := s.modLanes s.actives fun x => { x with exclFor := out.map Prod.fst }
  let s := out.foldl (fun s (o : LaneId × Nat) =>
    ((s.wr (F.LANEIF_LANE_CAUSE o.1.idx) o.2).inc (F.LANEIF_LANE_EXCL_CNT o.1.idx)).laneRecord 0x01 6 o.1.idx o.1.idx
      [s.laneWord o.1]) s
  let s := if s.flag F.PAIR_CFG_PAIR_EN then s.toSeek else s
  s.endStage 6

/-- The wake is forwarded to the network (R316): a TC10 wake-up on each port set in NETMGT_FWD, and a wake frame of PORCH0 through
the KA_RING of each CAN segment set there. -/
def State.forwardWake (s : State) : State :=
  let c := s.rd F.NETMGT_WAKE_CAUSE_CAUSE
  if c = 3 ∨ c = 4 ∨ c = 6 then
    let eth := (List.range 10).filter fun p => (s.rd F.NETMGT_FWD_ETH_FWD).testBit p
    let can := (List.range 12).filter fun k => (s.rd F.NETMGT_FWD_CAN_FWD).testBit k
    let d := (List.range 2).flatMap fun j => wordBytes (s.rd (F.NETMGT_PORCH_DATA_DATA 0 j))
    let len := min 8 (s.rd (F.NETMGT_PORCH0_DLC 0))
    let s := can.foldl (fun s k => s.kaRingPut k (s.flag (F.NETMGT_PORCH0_XTD 0)) (s.rd (F.NETMGT_PORCH1_ID 0)) len (d.take len)) s
    { s with net := { s.net with fwd := eth.map (fun p => (0, p)) ++ can.map fun k => (1, k) } }
  else s

/-- Start-up is complete (R317, R375, R377): the wake slot opens. -/
def State.startComplete (s : State) (ready : Bool) : State :=
  let s := s.endStage 7
  let s := (s.toPower (if s.lane.vote = .safe ∨ s.cyc.mode = .safe then .safe else .run)).setReady ready
  let s := s.wr F.PWRMGR_STAT_START_MS (min ((s.now - s.pwr.startAt) / 1000000) (2 ^ 20 - 1))
  let s := { s with fuse := { s.fuse with slotEnd := some (s.now + ms (2 * (s.rd F.SYSCTL_MID_MID % 32))) } }
  s.forwardWake.netUpdate

/-- S7 (R378): it ends when the hold-up is ready, or at once when no usable cartridge is fitted. -/
def State.stageHoldup (s : State) (vHold : Nat) : State :=
  let s := s.wr F.PWRMGR_BUS_V_HOLD (min vHold 65535)
  if s.holdTest vHold then s.startComplete true
  else if s.rd F.HEARTH_STAT_AUTH = 2 ∨ s.rd F.HEARTH_STAT_AUTH = 1 then s
  else s.startComplete false

/-- The number of a stage. -/
def stageNum : StageEnd → Nat
  | .s1 => 1 | .s2 .. => 2 | .s3 => 3 | .s4 => 4 | .s5 _ => 5 | .s6 .. => 6 | .s7 _ => 7

/-- STARTUP_STAGE_COMPLETE (R377): of a stage that has begun. The clock that the Cellar starts for the hub is stable 3 ms after the
request (R21). -/
def execStartupStageComplete (t : Nat) (e : StageEnd) (s : State) : Host.Outcome State Fault Refusal :=
  let s := s.tick t
  let k := stageNum e
  .next <|
    if s.pwr.state ≠ .startup ∨ !s.pwr.stagesBegun.contains k ∨ s.pwr.stagesDone.contains k then s else
    match e with
    | .s1 => if s.closed s.pwr.startAt (ms 3) then s.hubPowerUp.endStage 1 else s
    | .s2 debug fwA fwB => s.stageBoot debug fwA fwB
    | .s3 => s.endStage 3
    | .s4 => s.stageConfig
    | .s5 prog => s.stagePower prog
    | .s6 synced hA hB hC => s.stageLanes synced (hashOf hA hB hC)
    | .s7 vHold => s.stageHoldup vHold

/-- HOLDUP_WAIT_TIMEOUT (R378): 60 s of S7. -/
def execHoldupWaitTimeout (t : Nat) (s : State) : Host.Outcome State Fault Refusal :=
  let s := s.tick t
  .next <|
    if s.pwr.state = .startup ∧ s.pwr.stagesBegun.contains 7 ∧ !s.pwr.stagesDone.contains 7 ∧
        s.closed s.pwr.s7Start (secs 60) then
      (s.powerRecord 0x08 5 0 []).startComplete false
    else s

/-- HALTED_TIMEOUT (R375). -/
def execHaltedTimeout (t : Nat) (s : State) : Host.Outcome State Fault Refusal :=
  let s := s.tick t
  .next <|
    if s.pwr.state = .halted ∧ s.closed s.pwr.haltedAt (secs 10) then
      ((s.powerDown false).toPower .deepSleep).modPwr fun x => { x with lastCode := 4, afterPf := false }
    else s

/-! ### Sleep entry and wake -/

/-- Every queued channel returns to OFF, and no request is left (R65, R311). -/
def State.emptyQueue (s : State) : State :=
  let s := allChannels.foldl (fun s n => if (s.chan n).state = .queued then s.chanTo n .off else s) s
  { s with fuse := { s.fuse with queue := [], fresh := [] } }

/-- The ports at sleep entry (R311): a TC10 sleep request on P1 to P6 and F1 to F4 where armed, every other port shut down. -/
def State.portsAsleep (s : State) : State :=
  let arm (k : Nat) : Bool :=
    if k < 6 then (s.rd F.NETMGT_ARM_ETH_ARM).testBit k else (s.rd F.NETMGT_FWD_ETH_ARM_F).testBit (k - 6)
  let tc10 := (List.range 10).filter arm
  let s := ((List.range 16).filter fun k => !(decide (4 ≤ k ∧ k < 14) && arm (k - 4))).foldl (fun s k => s.linkDown (8 + k)) s
  { s with net := { s.net with fwd := tc10.map fun k => (2, k) } }

/-- Every quarantine ends at sleep entry (R308). -/
def State.liftAllQuar (s : State) : State :=
  ((List.range 256).filter fun n => s.flag (F.NETMGT_NODE0_QUAR n)).foldl State.liftQuar s

/-- SLEEP_COMMIT (R309, R311, R312, R315): the commit is captured and sleep entry begins. A wake recognised since the commit stays
latched. -/
def execSleepCommit (t : Nat) (s : State) : Host.Outcome State Fault Refusal :=
  let s := s.tick t
  .next <|
    if s.net.state ≠ .prepare ∨ !s.closed s.net.prepAt (ms 500) ∨ !(s.pwr.state == .run || s.pwr.state == .safe) then s
    else
      let wakeAt := s.rd64 F.NETMGT_WAKE_AT_WAKE_AT
      let arm := s.rd F.NETMGT_ARM_CAN_ARM + 2 ^ 4 * s.rd F.NETMGT_ARM_ETH_ARM + 2 ^ 10 * s.rd F.NETMGT_ARM_W_ARM
      let s := { s with net := { s.net with
          state := .entry, warmSleep := s.flag F.NETMGT_CFG_SLEEP_KIND || s.net.warm != 0, wakeAt := wakeAt
          arm := some (arm, s.rd F.NETMGT_FWD_ETH_ARM_F)
          latched := if s.net.latched.isSome then s.net.latched
            else if wakeAt ≠ 0 ∧ wakeAt ≤ s.tNow then some (4, 0, s.tNow) else none } }
      let s := s.toPower .sleepEntry
      let s := s.canStopAll.portsAsleep.liftAllQuar
      let s := (s.sealAll.abortAttempt 7).cancelOc.dropWork
      let s := s.modLanes laneIds fun l => l.drive 0 s.now
      let s := { s with cyc := { s.cyc with mode := .stop }, lane := { s.lane with armed := false } }
      let s := allChannels.foldl (fun s n => s.chanTo n .off) s.emptyQueue
      let s := s.pantryAbandon.emptyCache.setupAbandon.migAbandon.hearthAbort
      s.modPwr fun x => { x with parlourOut := false }

/-- The ageing values of every channel go to the Cellar (R70, R311). -/
def State.saveAge (s : State) : State :=
  { s with fuse := { s.fuse with savedAge := allChannels.map fun n =>
      (n, s.rd (F.CH_AGE_RDS_MEAS n), s.rd (F.CH_AGE_DRIFT n), s.rd (F.CH_AGE_AGE_VALID n)) } }

/-- Power fails asleep (R34): DRAM is lost, the Cellar flushes the recorder buffer, and the module stays in DEEP SLEEP. -/
def State.failAsleep (s : State) : State :=
  let warm := s.pwr.state == .warmSleep
  let s := ((s.toPower .deepSleep).keepDram false).modPwr fun x => { x with
    deepFromWarm := x.deepFromWarm || warm, lastCode := if warm then 1 else x.lastCode }
  if s.flag F.REC_STAT_MOUNTED then (s.wr F.CELLAR_STAT_PF_STEP 1).triggerFlush .sleepFail
  else s.wr F.CELLAR_STAT_PF_STEP 4

/-- SLEEP_ENTRY_COMPLETE (R30, R309, R311): the module sleeps, R34 follows where power has failed, and a latched wake is acted on. -/
def execSleepEntryComplete (t : Nat) (s : State) : Host.Outcome State Fault Refusal :=
  let s := s.tick t
  .next <| if s.pwr.state ≠ .sleepEntry then s else
    let warm := s.net.warmSleep
    let fail := s.pwr.pfInEntry
    let s := (s.saveAge.planToCellar.powerDown warm).toPower (if warm then .warmSleep else .deepSleep)
    let s := s.modPwr fun x => { x with afterPf := false, lastCode := if warm then 2 else 1 }
    let s := if fail then s.failAsleep else s
    match s.net.latched with
      | some (_, src, t0) =>
        ({ s with net := { s.net with latched := none } }.inc (F.NETMGT_CNT_LATCHED_NODE_OVF 0)).wakeStart 6 src t0
      | none => s

/-- WAKE_RECOGNISED (R313): an armed source, asleep. -/
def execWakeRecognised (t : Nat) (cause source : Nat) (s : State) : Host.Outcome State Fault Refusal :=
  let s := s.tick t
  .next <|
    if s.asleep ∧ 1 ≤ cause ∧ cause ≤ 3 ∧ s.armedSource cause source then s.wakeStart cause source s.tNow else s

/-- WAKE_TIMER (R313, R315): T as the Cellar forms it reaches WAKE_AT; from the commit to the end of sleep entry it is latched. -/
def execWakeTimer (t : Nat) (s : State) : Host.Outcome State Fault Refusal :=
  let s := s.tick t
  .next <| if s.pwr.state = .sleepEntry ∧ s.net.wakeAt ≠ 0 ∧ s.net.wakeAt ≤ s.tNow ∧ s.net.latched.isNone then
      { s with net := { s.net with latched := some (4, 0, s.tNow) } }
    else if s.asleep ∧ s.net.wakeAt ≠ 0 ∧ s.net.wakeAt ≤ s.tNow then s.wakeStart 4 0 s.tNow else s

/-- DRAM is released, and WARM SLEEP continues as DEEP SLEEP (R312, R382). -/
def State.warmToDeep (s : State) : State :=
  ((s.toPower .deepSleep).keepDram false).modPwr fun x => { x with deepFromWarm := true, lastCode := 1 }

/-- WARM_MAX_EXPIRY (R312): WARM_MAX hours, 0 for no limit. -/
def execWarmMaxExpiry (t : Nat) (s : State) : Host.Outcome State Fault Refusal :=
  let s := s.tick t
  .next <|
    let h := s.rd F.NETMGT_CFG2_WARM_MAX
    if s.pwr.state = .warmSleep ∧ h ≠ 0 ∧ s.closed s.pwr.sleepAt (secs (3600 * h)) then s.warmToDeep else s

/-- DRAM_SUPPLY_FAIL (R382). -/
def execDramSupplyFail (t : Nat) (s : State) : Host.Outcome State Fault Refusal :=
  let s := s.tick t
  .next <| if s.pwr.state = .warmSleep then s.warmToDeep else s

/-! ### Tamper -/

/-- WORLD_TAMPER_STAT.WHEN (R366). -/
def State.tamperWhen (s : State) : Nat :=
  match s.pwr.state with
  | .run | .safe | .powerFail | .off => 0
  | .startup => if s.pwr.stagesDone.contains 2 then 2 else 1
  | .halted => 1
  | .deepSleep | .warmSleep => 3
  | .sleepEntry => 4

/-- TAMPER_RECOGNISED (R365, R366): `active` are the sources whose condition holds. Armed sources act in every state but
OFF. -/
def execTamperRecognised (t : Nat) (src active : Nat) (s : State) : Host.Outcome State Fault Refusal :=
  let s := s.tick t
  onUnit (decide (src < 5)) <|
    if s.pwr.state = .off ∨ !(s.rd F.WORLD_TAMPER_ARM_ARM).testBit src then s else
    let s := s.tamperLatch src (active % 32) s.tamperWhen
    match s.pwr.state with
    | .deepSleep | .warmSleep => s.wakeStart 5 src s.tNow
    | .sleepEntry => if s.net.latched.isSome then s
        else { s with net := { s.net with latched := some (5, src, s.tNow) } }
    | .run | .safe | .startup | .powerFail | .halted | .off => s.pantryTamper.setupAbandon.migAbandon

/-! ### The bus -/

/-- INPUT_BUS_FALL_14V (R31, R370): the window opens, the hold-up switch closes and the charger stops. -/
def execInputBusFall14v (t : Nat) (s : State) : Host.Outcome State Fault Refusal :=
  let s := s.tick t
  .next <| if s.pwr.state = .off then s else
    let s := (s.switchClose.modPwr fun x => { x with busLow14 := true }).clrF F.PWRMGR_STAT_CHARGING
    if s.inPowerFail ∨ s.pwr.pfOpen.isSome then s else s.modPwr fun x => { x with pfOpen := some s.now }

/-- INPUT_BUS_RISE_14V (R31, R370): a bus of `vBus` (10 mV) at 14 V or more closes the window [t_fall, t_fall + 100 ms)
within it (R39, R40); at or after its close the declaration stands. From 14.5 V the hold-up switch opens, but during a power-fail
sequence. -/
def execInputBusRise14v (t : Nat) (vBus : Nat) (s : State) : Host.Outcome State Fault Refusal :=
  let s := s.tick t
  .next <| if s.pwr.state = .off ∨ vBus < 1400 then s else
    let s := s.modPwr fun x => { x with below9 := false }
    let s := match s.pwr.pfOpen with
      | some t0 =>
        if s.closed t0 (ms 100) then s else (s.modPwr fun x => { x with pfOpen := none }).inc F.CELLAR_PF_CNT_WINDOWS
      | none => s
    if 1450 ≤ vBus then
      let s := s.modPwr fun x => { x with busLow14 := false }
      if s.inPowerFail ∨ s.pwr.pfOpen.isSome then s else s.switchOpen
    else s

/-- BUS_LOW_CHANGE (R372): set below 12.0 V, cleared at 12.5 V. -/
def execBusLowChange (t : Nat) (vBus : Nat) (s : State) : Host.Outcome State Fault Refusal :=
  let s := s.tick t
  .next <| if !s.pwr.hubUp then s else
    let s := s.wr F.PWRMGR_BUS_V_BUS (min vBus 65535)
    if vBus < 1200 then s.setF F.PWRMGR_STAT_BUS_LOW
    else if 1250 ≤ vBus then s.clrF F.PWRMGR_STAT_BUS_LOW else s

/-- A channel that lost its supply releases its reservations and asks again (R372). -/
def State.requeue (s : State) (n : Nat) : State :=
  if (s.chan n).state.live then (s.chanTo n .off).enqueue n false else s

/-- BUS_BELOW_9V (R66, R372): no channel conducts; where no power-fail is declared, it is a dip. -/
def execBusBelow9v (t : Nat) (s : State) : Host.Outcome State Fault Refusal :=
  let s := s.tick t
  .next <| if s.pwr.state = .off ∨ s.pwr.below9 then s else
    let s := s.modPwr fun x => { x with below9 := true }
    if !s.pwr.hubUp then s
    else if s.inPowerFail then (allChannels.filter fun n => (s.chan n).state.live).foldl (fun s n => s.chanTo n .off) s
    else allChannels.foldl State.requeue (s.inc F.PWRMGR_CNT_DIPS)

/-- UNDERVOLT_DETECT (R369): below 18.0 V for 100 ms; clears at 18.5 V. -/
def execUndervoltDetect (t : Nat) (vBus : Nat) (s : State) : Host.Outcome State Fault Refusal :=
  let s := s.tick t
  .next <| if !s.pwr.hubUp then s else
    let s := s.wr F.PWRMGR_BUS_V_BUS (min vBus 65535)
    if vBus < 1800 ∧ !s.flag F.PWRMGR_STAT_UNDERVOLT then
      ((s.setF F.PWRMGR_STAT_UNDERVOLT).clrF F.PWRMGR_STAT_CHARGING).powerRecord 0x04 4 0 []
    else if 1850 ≤ vBus then (s.clrF F.PWRMGR_STAT_UNDERVOLT).chargeOn
    else s

/-- OVERVOLT_DETECT (R369, R373): above 162 V; clears at 160 V. -/
def execOvervoltDetect (t : Nat) (vBus : Nat) (s : State) : Host.Outcome State Fault Refusal :=
  let s := s.tick t
  .next <| if !s.pwr.hubUp then s else
    let s := s.wr F.PWRMGR_BUS_V_BUS (min vBus 65535)
    if 16200 < vBus ∧ !s.flag F.PWRMGR_STAT_OVERVOLT then
      ((s.setF F.PWRMGR_STAT_OVERVOLT).inc F.PWRMGR_CNT_OVERVOLT_CNT).powerRecord 0x05 4 0 []
    else if vBus ≤ 16000 then s.clrF F.PWRMGR_STAT_OVERVOLT
    else s

/-- FEED_CURRENT_WINDOW (R368): the 1 s mean of feed S1 (0) or S2 (1) in 0.1 A, its voltage in 10 mV. -/
def execFeedCurrentWindow (t : Nat) (feed : Nat) (mean : Nat) (v : Int) (active : Bool) (s : State) :
    Host.Outcome State Fault Refusal :=
  let s := s.tick t
  onUnit (decide (feed < 2)) <| if !s.pwr.hubUp then s else
    let s := (s.wr (F.PWRMGR_FEED_V feed) (ofSigned 16 (satInt v (-32768) 32767))).wr (F.PWRMGR_FEED_I feed) (min mean 4095)
    let s := (s.wr (F.PWRMGR_FEED_REV feed) (bit (decide (v < 0)))).wr (F.PWRMGR_FEED_ACTIVE feed) (bit active)
    if 1600 < mean ∧ !s.flag (F.PWRMGR_FEED_OVERCUR feed) then
      (s.raise (F.PWRMGR_FEED_OVERCUR feed)).powerRecord 0x06 5 (feed + 1) []
    else s

/-- CHARGE_COMPLETE (R371, R393): the cells stand at 16.2 V ± 1 %. -/
def execChargeComplete (t : Nat) (vHold : Nat) (s : State) : Host.Outcome State Fault Refusal :=
  let s := s.tick t
  .next <| if s.pwr.state = .off ∨ !s.hearth.fitted then s else
    let s := s.modHearth fun h => { h with vFull := vHold }
    if s.pwr.hubUp then (s.clrF F.PWRMGR_STAT_CHARGING).wr F.PWRMGR_BUS_V_HOLD (min vHold 65535) else s

/-- CELLAR_FLOOR (R15, R369): what the Cellar held is lost, and the module is OFF. The cartridge's flash, the UFS and the
Pantry's store keep what they hold. -/
def execCellarFloor (t : Nat) (s : State) : Host.Outcome State Fault Refusal :=
  let s := s.tick t
  let s := s.setupAbandon.pantryFinish
  let z := State.reset
  .next { z with
    pending := s.pending, now := s.now, frc := s.frc, freeCtr := s.freeCtr, efuse := s.efuse
    cyc := { z.cyc with boot := s.cyc.boot }
    pantry := { z.pantry with store := s.pantry.store }
    log := { z.log with
      streams := s.log.streams, nextSeg := s.log.nextSeg, blocks := s.log.blocks, pendErase := s.log.pendErase
      ring := s.log.ring }
    setup := { z.setup with copyA := s.setup.copyA, copyB := s.setup.copyB }
    hearth := { HearthSt.init with fitted := s.hearth.fitted, vFull := s.hearth.vFull } }

/-! ### The power-fail order -/

/-- The sequence ends (R32, R386, R387): the hub and lanes are powered down into DEEP SLEEP; with the bus back and qualified,
start-up follows at once (R33). -/
def State.pfEnd (s : State) : State :=
  let q := s.pwr.qualified
  let s := ((s.powerDown false).toPower .deepSleep).modPwr fun x => { x with afterPf := true, lastCode := 3 }
  let s := { s with fuse := { s.fuse with savedAge := [] } }
  let s := if s.pwr.busLow14 then s else s.switchOpen
  if q then s.supplyStart .supplyReturn else s

/-- A step of the sequence begins. -/
def State.pfStep (s : State) (k : Nat) : State :=
  (s.wr F.CELLAR_STAT_PF_STEP (k - 1)).modPwr fun x =>
    { x with seq := x.seq.map fun q => { q with step := k, stepStart := s.now } }

/-- The instances that step 4 notifies (R385): VALID Parlour instances whose bit is set in PF_NOTIFY. -/
def State.notified (s : State) : List Nat :=
  (List.range 64).filter fun i =>
    s.flag (F.VIM_INST_CFG_VALID i) && !s.flag (F.VIM_INST_CFG_WORLD i) && s.rdMask F.PWRMGR_PF_NOTIFY_NOTIFY i

/-- Step 4 ends by reports or by the grace (R384, R385). -/
def State.pfStep4End (s : State) (elapsed : Bool) : State :=
  let s := (List.range 64).foldl (fun s i => s.ipend ipPowerFail i false) s
  ((s.wr F.CELLAR_STAT_GRACE_ELAPSED (bit elapsed)).wr F.CELLAR_STAT_PF_STEP 4).pfEnd

/-- Step 4, the Parlour grace (R32, R380, R385). -/
def State.pfStep4 (s : State) : State :=
  let s := (s.pfStep 4).modPwr fun x => { x with parlourHeld := false }
  let l := s.notified
  if !s.pwr.parlourOut ∨ s.rd F.PWRMGR_PF_CFG_GRACE_MS = 0 ∨ l = [] then s.pfStep4End false
  else
    let s := l.foldl (fun s i => s.ipend ipPowerFail i true) s
    s.modPwr fun x => { x with seq := x.seq.map fun q => { q with await := l } }

/-- Step 3, the Pantry (R32, R352, R380). -/
def State.pfStep3 (s : State) : State :=
  let s := (s.pfStep 3).pantryAbandon
  if !s.pwr.stagesBegun.contains 4 ∨ s.pantryIdle then s.pfStep4 else s

/-- Step 2, the recorder flush (R166, R384, R478). -/
def State.pfStep2 (s : State) : State :=
  let s := (s.pfStep 2).suppliesOff
  if s.flag F.REC_STAT_MOUNTED then
    let kb := ceilDiv s.dirtyBytes 1024
    (s.modPwr fun x => { x with seq := x.seq.map fun q => { q with
      dirtyKb := kb, flushBy := some (s.now + 2000000 + 25000 * kb) } }).triggerFlush .powerFail
  else s.pfStep3

/-- The order begins with step 1 (R32, R65, R66, R104, R120, R126): the lanes drive the safe pattern and seal. -/
def State.pfBegin (s : State) : State :=
  let live := allChannels.filter fun n => (s.chan n).state.live
  let s := (s.toPower .powerFail).modPwr fun x => { x with
    parlourHeld := true, seq := some ⟨1, s.now, 0, none, live, []⟩ }
  let s := { s with net := { s.net with state := .awake } }
  let s := s.emptyQueue.setupAbandon.migAbandon
  if s.pwr.laneUp then (s.cancelOc.abortAttempt 7).driveSafe.sealAll.dropWork else s.pfStep2

/-- POWER_FAIL_DECLARED (R31, R32, R34, R375, R384): the window has closed with the bus still below 14 V. -/
def execPowerFailDeclared (t : Nat) (s : State) : Host.Outcome State Fault Refusal :=
  let s := s.tick t
  .next <| match s.pwr.pfOpen with
    | none => s
    | some t0 =>
      if !s.closed t0 (ms 100) then s else
      let s := ((s.modPwr fun x => { x with pfOpen := none }).inc F.CELLAR_PF_CNT_DECLARED).wr64 F.CELLAR_PF_T_T s.tNow
      let s := (s.wr F.CELLAR_STAT_PF_STEP 0).switchClose.hearthAbort
      let s := s.powerRecord 0x01 6 0 [s.word F.PWRMGR_BUS_V_BUS.addr]
      match s.pwr.state with
      | .startup | .run | .safe | .halted => s.pfBegin
      | .sleepEntry => s.emptyQueue.modPwr fun x => { x with pfInEntry := true }
      | .deepSleep | .warmSleep => s.failAsleep
      | .off | .powerFail => s

/-- Is a channel at its safe state (R32, R478)? -/
def State.pfConfirmed (s : State) (q : PfSeq) (n : Nat) : Bool :=
  if s.flag (F.CH_PROFILE_SAFE_ON n) then
    (s.chan n).state == .on || s.pwr.below9 || !q.atDecl.contains n
  else !(s.chan n).state.live || s.pwr.below9

/-- The VITAL channels that are not confirmed. -/
def State.pfLate (s : State) (q : PfSeq) : List Nat := allChannels.filter fun n => s.vital n && !s.pfConfirmed q n

/-- PF_STEP_COMPLETE (R32, R385): the step in progress completes once its condition holds. -/
def execPfStepComplete (t : Nat) (step : Nat) (s : State) : Host.Outcome State Fault Refusal :=
  let s := s.tick t
  .next <| match s.pwr.seq with
    | none => s
    | some q =>
      if q.step ≠ step then s
      else match step with
        | 1 => if s.pfLate q = [] then s.pfStep2 else s
        | 2 => if s.log.flushing.isNone then s.pfStep3 else s
        | 3 => if s.pantryIdle then s.pfStep4 else s
        | _ => if q.await = [] then s.pfStep4End false else s

/-- PF_STEP_BOUND_EXPIRY (R384): 1 ms of step 1, or 2 ms + 25 µs per dirty KB of step 2. -/
def execPfStepBoundExpiry (t : Nat) (step : Nat) (s : State) : Host.Outcome State Fault Refusal :=
  let s := s.tick t
  .next <| match s.pwr.seq with
    | none => s
    | some q =>
      if q.step = 1 ∧ step = 1 ∧ s.closed q.stepStart (ms 1) then
        let s := (s.pfLate q).foldl (fun s n => s.powerRecord 0x03 7 n []) s
        (s.raise F.CELLAR_STAT_STEP1_LATE).pfStep2
      else if q.step = 2 ∧ step = 2 ∧ s.closed q.stepStart (2000000 + 25000 * q.dirtyKb) then s.dropDirty.pfStep3
      else s

/-- PF_GRACE_EXPIRY (R384, R385). -/
def execPfGraceExpiry (t : Nat) (s : State) : Host.Outcome State Fault Refusal :=
  let s := s.tick t
  .next <| match s.pwr.seq with
    | none => s
    | some q =>
      if q.step = 4 ∧ s.closed q.stepStart (ms (s.rd F.PWRMGR_PF_CFG_GRACE_MS)) then s.pfStep4End true else s

/-- PF_DONE (R385): acts for the writing transaction's instance; ignored outside step 4. -/
def execPfDone (t : Nat) (a : Attr) (value : Word) (s : State) : Host.Outcome State Fault Refusal :=
  let s := s.tick t
  onUnit (decide (a.inst < 64)) <| s.guarded a 0x4002001C true true fun s =>
    match s.pwr.seq with
    | none => s
    | some q =>
      if q.step = 4 ∧ value.toNat.testBit 31 ∧ q.await.contains a.inst then
        let rest := q.await.filter fun i => i ≠ a.inst
        let s := (s.ipend ipPowerFail a.inst false).modPwr fun x => { x with seq := some { q with await := rest } }
        if rest = [] then s.pfStep4End false else s
      else s

/-- HOLDUP_CUT (R386): the hold-up rail falls below 7.0 V during the sequence. -/
def execHoldupCut (t : Nat) (s : State) : Host.Outcome State Fault Refusal :=
  let s := s.tick t
  .next <| match s.pwr.seq with
    | none => s
    | some q =>
      if !s.inPowerFail then s else
      let s := (s.raise F.CELLAR_STAT_PF_CUT).inc F.CELLAR_PF_CNT_CUTS
      let s := if q.step = 2 then s.dropDirty else s
      (s.modPwr fun x => { x with cutRecord := some q.step }).pfEnd

/-! ### Scrubbing -/

/-- A lane whose retained memory has an uncorrectable word loses its seal (R381). -/
def State.scrubLane (s : State) (l : LaneId) : State :=
  let s := s.modLn l fun x => { x with sealed := none }
  let s := s.raiseBits F.CELLAR_SCRUB_UE_MAP (2 ^ (1 + l.idx))
  s.record 0x08 0x02 5 l.idx 0 [s.word F.CELLAR_SCRUB_CORR.addr] (sourceWord 3 0 0)

/-- The nonce lists that are cleared (R381, R134). -/
def State.scrubNonces (s : State) (restoreUe tokenUe : Bool) : State :=
  if !restoreUe ∧ !tokenUe then s else
  let s := if restoreUe then { s with vim := { s.vim with nonces := [], hold := some s.now } } else s
  let s := if tokenUe then { s with cyc := { s.cyc with nonces := [], noncesLost := true, refInst := none } }.noteSync else s
  let s := s.raiseBits F.CELLAR_SCRUB_UE_MAP 16
  let one (s : State) : State := s.record 0x08 0x01 5 0 0 [s.word F.CELLAR_SCRUB_CORR.addr] (sourceWord 3 0 0)
  if restoreUe ∧ tokenUe then one (one s) else one s

/-- SCRUB_PASS (R23, R381): one pass every 10 minutes, the first 10 minutes after the Cellar's start (log entry 102). The corrected words, the records and lanes with an uncorrectable word, and the nonce lists with
one. -/
def execScrubPass (t : Nat) (corr : Nat) (recSeqs : List Nat) (lanes : List LaneId) (restoreUe tokenUe : Bool) (s : State) :
    Host.Outcome State Fault Refusal :=
  let s := s.tick t
  .next <| if s.pwr.state = .off ∨ !s.closed s.pwr.scrubAt (secs 600) then s else
    let s := s.modPwr fun x => { x with scrubAt := x.scrubAt + secs 600 }
    let s := (s.incBy F.CELLAR_SCRUB_CORR corr).incBy F.CELLAR_SCRUB_UNCORR
      (recSeqs.length + lanes.length + bit restoreUe + bit tokenUe)
    let s := if recSeqs = [] then s else
      let s := s.raiseBits F.CELLAR_SCRUB_UE_MAP 1
      let s := { s with log := { s.log with ueSeqs := s.log.ueSeqs ++ recSeqs } }
      s.record 0x00 0x01 4 0 0 [s.word F.REC_CNT_DROPPED.addr] (sourceWord 3 0 0)
    (lanes.foldl State.scrubLane s).scrubNonces restoreUe tokenUe

/-! ### Clock and power gates -/

/-- Is the block of a gate idle (R388)? `ext` is the fact about a core or the UFS host. -/
def State.gateIdle (s : State) (gate : Nat) (ext : Bool) : Bool :=
  let engs (l : List Nat) : Bool := l.all fun e => (s.eng e).state == .stopped
  if gate < 8 then ext
  else match gate with
    | 8 => (List.range 4).all fun p => !s.flag (F.HALL_MSEC_CFG_EN p)
    | 9 => engs [0, 1, 2, 3]
    | 10 => engs [4, 5, 6, 7]
    | 11 => engs [8, 9, 10, 11]
    | 12 => engs [12, 13, 14, 15]
    | 13 => s.pantryIdle
    | 14 => (List.range 2).all fun g => !s.flag (F.UIO_SEG_CFG_SEG_EN g)
    | 15 => (List.range 12).all fun c => (s.ctl c).state == .config
    | _ => ext

/-- A gate request (R344, R348, R388): a claim of its block in the same clock may still veto it: `f` is the gate state it changes. -/
def State.gateReq (s : State) (a : Attr) (gate : Nat) (f : Fld) (on ext : Bool) : State :=
  if !s.passes 0x40020030 a true then (s.deny a 3 0x40020030 true).gateResult 0x0E (gate % 32)
  else if 17 ≤ gate then s.okay.gateResult 0x11 (gate % 32)
  else if (s.rd F.WORLD_CLAIM_CLAIM).testBit gate ∧ !a.attic then
    (s.veto a gate).gateResult 0x08 gate
  else
    let idle := on || s.gateIdle gate ext
    let s := { s.okay with clk := { s.clk with gates := s.clk.gates ++ [(a, gate, f, (s.rd f).testBit gate)] } }
    if idle then (s.wr f (if on then maskSet (s.rd f) gate else maskClr (s.rd f) gate)).gateResult 0 gate
    else s.gateResult 0x10 gate

/-- CLOCK_ON (R388). -/
def execClockOn (t : Nat) (a : Attr) (gate : Nat) (s : State) : Host.Outcome State Fault Refusal :=
  .next ((s.tick t).gateReq a gate F.PWRMGR_CLK_ON_ON true true)

/-- CLOCK_OFF (R388). -/
def execClockOff (t : Nat) (a : Attr) (gate : Nat) (idle : Bool) (s : State) : Host.Outcome State Fault Refusal :=
  .next ((s.tick t).gateReq a gate F.PWRMGR_CLK_ON_ON false idle)

/-- POWER_ON (R388). -/
def execPowerOn (t : Nat) (a : Attr) (gate : Nat) (s : State) : Host.Outcome State Fault Refusal :=
  .next ((s.tick t).gateReq a gate F.PWRMGR_PWR_ON_ON true true)

/-- POWER_OFF (R388). -/
def execPowerOff (t : Nat) (a : Attr) (gate : Nat) (idle : Bool) (s : State) : Host.Outcome State Fault Refusal :=
  .next ((s.tick t).gateReq a gate F.PWRMGR_PWR_ON_ON false idle)

end Sys2Proof.Machine
end

