-- ==== Sys2Proof/Machine/Registers.lean ====
section
/-! DEFINITION. The write of a register field that has no row of its own (R8 to R13, R433), and of memory by the hub. -/

namespace Sys2Proof.Machine

/-- The ranges of the hub's address map (*Table: Hub address map*): base and size. -/
def hubRanges : List (Nat × Nat) := [
  (0x0, 0x40000), (0x10000000, 0x400000), (0x40000000, 0x10000), (0x40010000, 0x10000), (0x40020000, 0x10000),
  (0x40030000, 0x10000), (0x40040000, 0x10000), (0x40100000, 0x10000), (0x40200000, 0x10000), (0x40300000, 0x10000),
  (0x40380000, 0x10000), (0x40400000, 0x100000), (0x40500000, 0x80000), (0x40580000, 0x10000), (0x40600000, 0x10000),
  (0x40700000, 0xC0000), (0x40C00000, 0x100000), (0x40E00000, 0x200000), (0x41000000, 0x10000), (0x41080000, 0x10000),
  (0x41100000, 0x100000), (0x41200000, 0x10000), (0x41300000, 0x10000), (0x41400000, 0x10000), (0x41500000, 0x10000),
  (0x50000000, 0x10000000), (0x0800000000, 0x200000000)]

/-- Does an address lie in a range of the map (R433)? -/
def mapped (addr : Nat) : Bool := hubRanges.any fun r => decide (r.1 ≤ addr) && decide (addr < r.1 + r.2)

/-- On-chip SRAM and DRAM, which take accesses of any width. -/
def isMemory (addr : Nat) : Bool := regionSet addr == some 0 || regionSet addr == some 1

/-- The elements of the CAN rings (*Table: CANRAM layout*), which memory holds. -/
def isElement (addr : Nat) : Bool := decide (0x40C41000 ≤ addr) && decide (addr < 0x40D00000)

/-- Is an access accepted for its alignment, size and address (R8, R433)? Which accesses to on-chip SRAM and DRAM are accepted is
the model's choice: 1, 2 and 4 bytes, aligned (DESIGN CHOICE, log entry 16). -/
def accessOk (addr size : Nat) : Bool :=
  mapped addr &&
    if isMemory addr then (size == 1 || size == 2 || size == 4) && addr % size == 0
    else size == 4 && addr % 4 == 0

/-- The restriction a register's own chapter puts on its writes. `core` is the application core that makes the access in
machine mode (R342); engines 12 to 15 belong to the Attic (R198). -/
def mayWrite (a : Attr) (core : Option Nat) (b : RegBlock) (i addr : Nat) : Bool :=
  (match b.who with
    | .any | .vim => true
    | .attic => a.attic
    | .attic0 => a.attic0
    | .attic0hub => a.attic0hub
    | .hart => core == some i) &&
  (a.attic || !(decide (0x404C0000 ≤ addr) && decide (addr < 0x40500000)))

/-- Reserved codes, and settings that a copy of the register does not have, are taken as another value. -/
def takenAs (f : Fld) (i v : Nat) : Option Nat :=
  if f = F.UIO_PIN_CFG_MODE i ∧ 8 < v then some 0
  else if f = F.HALL_PORT_CFG_FWD_STATE i ∧ v = 3 then some 1
  else if f = F.HALL_PORT_CFG_PREEMPT_EN i ∧ (i < 8 ∨ 18 ≤ i) then some 0
  else if f = F.HALL_INT_HOLD_INT_HOLD_MASK then some (v &&& 0x6F)
  else if f = F.CAN_TT_CFG_ROLE i ∧ v = 3 then some 0
  else if f = F.CAN_CTL_XL_EN i ∧ 8 ≤ i then some 0
  else if f = F.TIME_PORT_CFG_PTP_MODE i ∧ 22 ≤ i then some 0
  else if f = F.TIME_PORT_CFG_PTP_MODE i ∧ v = 3 then some 1
  else none

/-- The write of one field under its access code (R9): RW fields are limited to their range, W1C bits written 1 are
cleared, all others stand. -/
def FieldDesc.write (d : FieldDesc) (i j w : Nat) (s : State) : State :=
  let f := d.fld i j
  let v := w / 2 ^ f.lo % 2 ^ f.width
  match d.acc with
  | .rw => s.wr f ((takenAs f i v).getD (clampNat v d.min d.max))
  | .w1c => s.ack f v
  | .rwOwn | .ro | .su | .wo | .rs | .live => s

/-- The write of every field of a register. -/
def RegBlock.write (b : RegBlock) (i j w : Nat) (s : State) : State := b.fields.foldl (fun s d => d.write i j w s) s

/-- The CAN registers that are written only in CONFIG: the controller of such an address. -/
def canConfigOf (addr : Nat) : Option Nat :=
  if 0x40700000 ≤ addr ∧ addr < 0x407C0000 ∧
      addr % 0x10000 ∈ [0, 0xC, 0x10, 0x14, 0x18, 0x1C, 0x20, 0x24, 0x50, 0x54, 0x58, 0x5C] then
    some ((addr - 0x40700000) / 0x10000)
  else none

/-- A write of UIO_PIN_CFG. Of a bound pin only SP_REF and SP_CHK are written, the filter being DEB and FGATE (R159, log
entry 94). A change of MODE or FGATE opens a new gate window (R162, R163). -/
def State.writePinCfg (s : State) (b : RegBlock) (u w : Nat) : State :=
  if s.pinBound u then
    (s.wr (F.UIO_PIN_CFG_SP_REF u) (bits w 27 25)).wr (F.UIO_PIN_CFG_SP_CHK u) (bits w 24 24)
  else
    let n := b.write u 0 w s
    if n.rd (F.UIO_PIN_CFG_MODE u) = s.rd (F.UIO_PIN_CFG_MODE u) ∧ n.rd (F.UIO_PIN_CFG_FGATE u) = s.rd (F.UIO_PIN_CFG_FGATE u)
    then n else n.modPin u fun p => { p with gateAt := some n.now }

/-- A write of a word of a station's output image, which the next POLL carries (R170, R175). -/
def State.wroteOut (s : State) (g w : Nat) : State := s.modStn (16 * g + w / 16) fun x => { x with wrote := true }

/-- A write of HALL_PORT_CFG: a change of PREEMPT_EN or VERIFY_EN starts verification anew (R245). -/
def State.writePortCfg (s : State) (b : RegBlock) (p w : Nat) : State :=
  let n := b.write p 0 w s
  if n.rd (F.HALL_PORT_CFG_PREEMPT_EN p) = s.rd (F.HALL_PORT_CFG_PREEMPT_EN p) ∧
      n.rd (F.HALL_PORT_CFG_VERIFY_EN p) = s.rd (F.HALL_PORT_CFG_VERIFY_EN p) then n
  else n.preemptSetup p

/-- A write to a register: what beyond its access codes the spec ties to it. -/
def State.writeReg (s : State) (a : Attr) (b : RegBlock) (i j w : Nat) : State :=
  let addr := (b.base + i * b.si) + j * b.sj
  let plain := b.write i j w s
  match canConfigOf addr with
  | some c => if (s.ctl c).state = .config then plain else s.raise (F.CAN_STAT_CMD_REFUSED c)
  | none =>
    if b.base = (F.UIO_PIN_CFG_MODE 0).addr then s.writePinCfg b i w
    else if b.base = (F.UIO_PIN_THR_TH_HI 0).addr then
      if s.pinBound i then s else plain
    else if b.base = (F.UIO_STN_OUT_REG_LO 0 0).addr then plain.wroteOut i j
    else if b.base = (F.UIO_SP_CTL_EN 0).addr then
      (s.ack (F.UIO_SP_CTL_TRIP i) (bits w 27 27)).writeSupply i
        (bits w 31 31) (bits w 30 29)
    else if b.base = (F.UIO_SEG_CFG_SEG_EN 0).addr then
      if w.testBit 31 then s.setF (F.UIO_SEG_CFG_SEG_EN i)
      else if s.flag (F.UIO_SEG_CFG_SEG_EN i) then s.segOff i else s
    else if b.base = (F.HALL_PORT_CFG_CUT_EN 0).addr then s.writePortCfg b i w
    else if addr = F.HALL_BUF_CFG_INT_XON.addr ∨ addr = F.HALL_INT_HOLD_HELD.addr then plain.holdTick
    else if b.base = (F.STAIR_IRQ_ROUTE_EN 0).addr then (List.range 64).foldl State.stnIrq plain
    else if addr = F.NETMGT_STAT_PREPARE_EVT.addr then
      if bits w 25 24 = 0 then plain else plain.ipend ipNetmgt a.inst false
    else if addr = F.TIME_PPS_OUT_EN.addr ∨ addr = F.TIME_PPS_PHASE_PPS_PHASE.addr then
      { plain with time := { plain.time with ppsNext := none } }
    else plain

/-- The write of a word of a register block: the register's own fields, the staging windows whose words no register
table lists a field of, and nothing at an offset the map does not list (R12). -/
def State.writeWord (s : State) (a : Attr) (core : Option Nat) (addr w : Nat) : State :=
  if isElement addr then s.guarded a addr true true fun s => s.store addr (wordBytes w)
  else if addr = 0x41400020 ∨ addr = 0x41400024 then
    s.guarded a addr true true fun s =>
      { s with log := { s.log with wrAddr := s.log.wrAddr.put 0 (2 * a.inst + (addr - 0x41400020) / 4) w } }
  else if 0x41300100 ≤ addr ∧ addr < 0x41300140 then
    s.guarded a addr true a.attic0hub fun s =>
      { s with pantry := { s.pantry with stage := s.pantry.stage.put 0 ((addr - 0x41300100) / 4) w } }
  else match regAt addr with
    | none => s.guarded a addr true true id
    | some (b, i, j) =>
      if b.who = .vim then s.vimWrite a addr (s.vimMay a i) fun s => s.writeReg a b i j w
      else s.guarded a addr true (mayWrite a core b i addr) fun s => s.writeReg a b i j w

/-- REGISTER_WRITE (R8, R9, R11, R12, R433): `core` is the application core that makes the access in machine mode. -/
def execRegisterWrite (t : Nat) (a : Attr) (core : Option Nat) (addr size : Nat) (value : Word) (s : State) :
    Host.Outcome State Fault Refusal :=
  let s := s.tick t
  .next <|
    if !accessOk addr size then s.answer 0x10 0
    else if isMemory addr then s.guarded a addr true true fun s => s.store addr (leBytes size value.toNat)
    else if regionSet addr = none ∨ 0x50000000 ≤ addr then s.okay
    else s.writeWord a core addr value.toNat

end Sys2Proof.Machine
end

