-- ==== Sys2Proof/Machine/Dispatch.lean ====
section
/-! DEFINITION. The dispatch: one arm for each row of the table, each a direct call of that command's meaning. -/

namespace Sys2Proof.Machine

/-- The effect of a command on everything but the queue. -/
def exec (i : Instr) (s : State) : Host.Outcome State Fault Refusal :=
  match i with
  | .registerWrite t a core addr size value => Sys2Proof.Machine.execRegisterWrite t a core addr size value s
  | .inputBusFall14v t => Sys2Proof.Machine.execInputBusFall14v t s
  | .inputBusRise14v t vBus => Sys2Proof.Machine.execInputBusRise14v t vBus s
  | .powerFailDeclared t => Sys2Proof.Machine.execPowerFailDeclared t s
  | .pfStepComplete t step => Sys2Proof.Machine.execPfStepComplete t step s
  | .pfStepBoundExpiry t step => Sys2Proof.Machine.execPfStepBoundExpiry t step s
  | .pfGraceExpiry t => Sys2Proof.Machine.execPfGraceExpiry t s
  | .pfDone t a value => Sys2Proof.Machine.execPfDone t a value s
  | .holdupCut t => Sys2Proof.Machine.execHoldupCut t s
  | .busLowChange t vBus => Sys2Proof.Machine.execBusLowChange t vBus s
  | .busBelow9v t => Sys2Proof.Machine.execBusBelow9v t s
  | .undervoltDetect t vBus => Sys2Proof.Machine.execUndervoltDetect t vBus s
  | .overvoltDetect t vBus => Sys2Proof.Machine.execOvervoltDetect t vBus s
  | .feedCurrentWindow t feed mean v active => Sys2Proof.Machine.execFeedCurrentWindow t feed mean v active s
  | .cellarFloor t => Sys2Proof.Machine.execCellarFloor t s
  | .startQualified t vBus => Sys2Proof.Machine.execStartQualified t vBus s
  | .startupStageComplete t e => Sys2Proof.Machine.execStartupStageComplete t e s
  | .holdupWaitTimeout t => Sys2Proof.Machine.execHoldupWaitTimeout t s
  | .haltedTimeout t => Sys2Proof.Machine.execHaltedTimeout t s
  | .scrubPass t corr recSeqs lanes restoreUe tokenUe => Sys2Proof.Machine.execScrubPass t corr recSeqs lanes restoreUe tokenUe s
  | .dramSupplyFail t => Sys2Proof.Machine.execDramSupplyFail t s
  | .clockOn t a gate => Sys2Proof.Machine.execClockOn t a gate s
  | .clockOff t a gate idle => Sys2Proof.Machine.execClockOff t a gate idle s
  | .powerOn t a gate => Sys2Proof.Machine.execPowerOn t a gate s
  | .powerOff t a gate idle => Sys2Proof.Machine.execPowerOff t a gate idle s
  | .curveApply t a n => Sys2Proof.Machine.execCurveApply t a n s
  | .faultClr t a n => Sys2Proof.Machine.execFaultClr t a n s
  | .hubCmdWrite t a n on => Sys2Proof.Machine.execHubCmdWrite t a n on s
  | .chConfigWrite t a n pwm value => Sys2Proof.Machine.execChConfigWrite t a n pwm value s
  | .chProfileWrite t a n value => Sys2Proof.Machine.execChProfileWrite t a n value s
  | .chFuseWrite t a n k value => Sys2Proof.Machine.execChFuseWrite t a n k value s
  | .budgetWrite t a value => Sys2Proof.Machine.execBudgetWrite t a value s
  | .faultNextRead t a peek => Sys2Proof.Machine.execFaultNextRead t a peek s
  | .commandOn t n vOut vBus => Sys2Proof.Machine.execCommandOn t n vOut vBus s
  | .commandOff t n => Sys2Proof.Machine.execCommandOff t n s
  | .budgetTick t => Sys2Proof.Machine.execBudgetTick t s
  | .rampWindowClose t n => Sys2Proof.Machine.execRampWindowClose t n s
  | .inrushWindowClose t n => Sys2Proof.Machine.execInrushWindowClose t n s
  | .startWaitExpiry t n => Sys2Proof.Machine.execStartWaitExpiry t n s
  | .wakeSlotEnd t => Sys2Proof.Machine.execWakeSlotEnd t s
  | .shortCircuitCut t n i10mA => Sys2Proof.Machine.execShortCircuitCut t n i10mA s
  | .fuseEvalTick t n i10mA fast => Sys2Proof.Machine.execFuseEvalTick t n i10mA fast s
  | .overTempDetected t n tj => Sys2Proof.Machine.execOverTempDetected t n tj s
  | .revCurrentDetected t n i10mA => Sys2Proof.Machine.execRevCurrentDetected t n i10mA s
  | .openLoadDetected t n i10mA => Sys2Proof.Machine.execOpenLoadDetected t n i10mA s
  | .retryDelayExpiry t n tj vOut vBus => Sys2Proof.Machine.execRetryDelayExpiry t n tj vOut vBus s
  | .retryCountReset t n => Sys2Proof.Machine.execRetryCountReset t n s
  | .offdiagCycle t n vUp vDown bus => Sys2Proof.Machine.execOffdiagCycle t n vUp vDown bus s
  | .regulatorStep t n => Sys2Proof.Machine.execRegulatorStep t n s
  | .ageMeasure t n rds => Sys2Proof.Machine.execAgeMeasure t n rds s
  | .aggWindow t mean last => Sys2Proof.Machine.execAggWindow t mean last s
  | .laneBoundary t l heard img => Sys2Proof.Machine.execLaneBoundary t l heard img s
  | .boundaryMarkerRx t l cyc => Sys2Proof.Machine.execBoundaryMarkerRx t l cyc s
  | .laneFrameRx t rx tx kind cyc crcOk => Sys2Proof.Machine.execLaneFrameRx t rx tx kind cyc crcOk s
  | .agreementPhase t l => Sys2Proof.Machine.execAgreementPhase t l s
  | .executePhase t l work => Sys2Proof.Machine.execExecutePhase t l work s
  | .executeComplete t l next => Sys2Proof.Machine.execExecuteComplete t l next s
  | .outputDeadline t l => Sys2Proof.Machine.execOutputDeadline t l s
  | .outputCompare t readback => Sys2Proof.Machine.execOutputCompare t readback s
  | .commandUpdate t l => Sys2Proof.Machine.execCommandUpdate t l s
  | .finalCopyRx t l diff => Sys2Proof.Machine.execFinalCopyRx t l diff s
  | .reintRelease t l => Sys2Proof.Machine.execReintRelease t l s
  | .thresholdLineChange t l line => Sys2Proof.Machine.execThresholdLineChange t l line s
  | .exclusionLineAsserted t src dst => Sys2Proof.Machine.execExclusionLineAsserted t src dst s
  | .jointRelease t l => Sys2Proof.Machine.execJointRelease t l s
  | .laneOkLost t l tile => Sys2Proof.Machine.execLaneOkLost t l tile s
  | .laneFault t l f => Sys2Proof.Machine.execLaneFault t l f s
  | .adcRefCheck t l inTol => Sys2Proof.Machine.execAdcRefCheck t l inTol s
  | .bistComplete t l pass => Sys2Proof.Machine.execBistComplete t l pass s
  | .bistRetryTimer t l => Sys2Proof.Machine.execBistRetryTimer t l s
  | .programLoadComplete t p pins hashA hashB hashC => Sys2Proof.Machine.execProgramLoadComplete t p pins hashA hashB hashC s
  | .cycRun t a => Sys2Proof.Machine.execCycRun t a s
  | .cycRunCold t a => Sys2Proof.Machine.execCycRunCold t a s
  | .cycStop t a => Sys2Proof.Machine.execCycStop t a s
  | .cycHold t a => Sys2Proof.Machine.execCycHold t a s
  | .cycStep t a => Sys2Proof.Machine.execCycStep t a s
  | .cycResume t a => Sys2Proof.Machine.execCycResume t a s
  | .ocArm t a => Sys2Proof.Machine.execOcArm t a s
  | .ocCancel t a => Sys2Proof.Machine.execOcCancel t a s
  | .tokenLoad t a => Sys2Proof.Machine.execTokenLoad t a s
  | .tokenRevoke t a => Sys2Proof.Machine.execTokenRevoke t a s
  | .forceCommit t a => Sys2Proof.Machine.execForceCommit t a s
  | .tokenExpiry t => Sys2Proof.Machine.execTokenExpiry t s
  | .restartComplete t => Sys2Proof.Machine.execRestartComplete t s
  | .ocRepRead t a peek => Sys2Proof.Machine.execOcRepRead t a peek s
  | .pairTransfer t a => Sys2Proof.Machine.execPairTransfer t a s
  | .pairResync t a => Sys2Proof.Machine.execPairResync t a s
  | .pairImgRx t crcOk cyc img boundaryT => Sys2Proof.Machine.execPairImgRx t crcOk cyc img boundaryT s
  | .pairOutRx t crcOk cyc out => Sys2Proof.Machine.execPairOutRx t crcOk cyc out s
  | .pairStatRx t crcOk cyc pst vote hash digest inStep => Sys2Proof.Machine.execPairStatRx t crcOk cyc pst vote hash digest inStep s
  | .pairXferRx t crcOk cyc ack => Sys2Proof.Machine.execPairXferRx t crcOk cyc ack s
  | .pairCopyRx t crcOk cyc last => Sys2Proof.Machine.execPairCopyRx t crcOk cyc last s
  | .authHeldGranted t vmV cur => Sys2Proof.Machine.execAuthHeldGranted t vmV cur s
  | .authHeldLost t vmV cur => Sys2Proof.Machine.execAuthHeldLost t vmV cur s
  | .loopFault t vmV cur => Sys2Proof.Machine.execLoopFault t vmV cur s
  | .claimQuietExpiry t => Sys2Proof.Machine.execClaimQuietExpiry t s
  | .claimConflict t => Sys2Proof.Machine.execClaimConflict t s
  | .backoffExpiry t => Sys2Proof.Machine.execBackoffExpiry t s
  | .partnerWaitExpiry t => Sys2Proof.Machine.execPartnerWaitExpiry t s
  | .resyncTimer t => Sys2Proof.Machine.execResyncTimer t s
  | .noHolderTimeout t => Sys2Proof.Machine.execNoHolderTimeout t s
  | .revertHoldExpiry t => Sys2Proof.Machine.execRevertHoldExpiry t s
  | .pinSample t u mv value => Sys2Proof.Machine.execPinSample t u mv value s
  | .freqGateClose t u edges cycles span => Sys2Proof.Machine.execFreqGateClose t u edges cycles span s
  | .supplyLimitTrip t k => Sys2Proof.Machine.execSupplyLimitTrip t k s
  | .supplyRetry t k => Sys2Proof.Machine.execSupplyRetry t k s
  | .pollSend t seg => Sys2Proof.Machine.execPollSend t seg s
  | .respRx t seg r => Sys2Proof.Machine.execRespRx t seg r s
  | .respWindowClose t seg stn => Sys2Proof.Machine.execRespWindowClose t seg stn s
  | .stnRelease t a seg stn => Sys2Proof.Machine.execStnRelease t a seg stn s
  | .stnIrqRead t a seg stn peek => Sys2Proof.Machine.execStnIrqRead t a seg stn peek s
  | .segDisable t a seg => Sys2Proof.Machine.execSegDisable t a seg s
  | .windowRead t a port addr size => Sys2Proof.Machine.execWindowRead t a port addr size s
  | .windowWrite t a addr size value => Sys2Proof.Machine.execWindowWrite t a addr size value s
  | .slotOrphanTimeout t k => Sys2Proof.Machine.execSlotOrphanTimeout t k s
  | .pweRead t a peek => Sys2Proof.Machine.execPweRead t a peek s
  | .orphRead t a peek => Sys2Proof.Machine.execOrphRead t a peek s
  | .stairFence t inst => Sys2Proof.Machine.execStairFence t inst s
  | .dAdd e rd ra rb => Sys2Proof.Machine.execDAdd e rd ra rb s
  | .dSub e rd ra rb => Sys2Proof.Machine.execDSub e rd ra rb s
  | .dAnd e rd ra rb => Sys2Proof.Machine.execDAnd e rd ra rb s
  | .dOr e rd ra rb => Sys2Proof.Machine.execDOr e rd ra rb s
  | .dXor e rd ra rb => Sys2Proof.Machine.execDXor e rd ra rb s
  | .dShl e rd ra rb => Sys2Proof.Machine.execDShl e rd ra rb s
  | .dShr e rd ra rb => Sys2Proof.Machine.execDShr e rd ra rb s
  | .dSra e rd ra rb => Sys2Proof.Machine.execDSra e rd ra rb s
  | .dSlt e rd ra rb => Sys2Proof.Machine.execDSlt e rd ra rb s
  | .dSltu e rd ra rb => Sys2Proof.Machine.execDSltu e rd ra rb s
  | .dMul e rd ra rb => Sys2Proof.Machine.execDMul e rd ra rb s
  | .dMin e rd ra rb => Sys2Proof.Machine.execDMin e rd ra rb s
  | .dMax e rd ra rb => Sys2Proof.Machine.execDMax e rd ra rb s
  | .dAdds e rd ra rb => Sys2Proof.Machine.execDAdds e rd ra rb s
  | .dSubs e rd ra rb => Sys2Proof.Machine.execDSubs e rd ra rb s
  | .dAddi e rd ra imm => Sys2Proof.Machine.execDAddi e rd ra imm s
  | .dAndi e rd ra imm => Sys2Proof.Machine.execDAndi e rd ra imm s
  | .dOri e rd ra imm => Sys2Proof.Machine.execDOri e rd ra imm s
  | .dXori e rd ra imm => Sys2Proof.Machine.execDXori e rd ra imm s
  | .dShli e rd ra imm => Sys2Proof.Machine.execDShli e rd ra imm s
  | .dShri e rd ra imm => Sys2Proof.Machine.execDShri e rd ra imm s
  | .dSrai e rd ra imm => Sys2Proof.Machine.execDSrai e rd ra imm s
  | .dSlti e rd ra imm => Sys2Proof.Machine.execDSlti e rd ra imm s
  | .dLui e rd imm => Sys2Proof.Machine.execDLui e rd imm s
  | .dLdw e rd ra imm => Sys2Proof.Machine.execDLdw e rd ra imm s
  | .dLdh e rd ra imm => Sys2Proof.Machine.execDLdh e rd ra imm s
  | .dLdhu e rd ra imm => Sys2Proof.Machine.execDLdhu e rd ra imm s
  | .dLdb e rd ra imm => Sys2Proof.Machine.execDLdb e rd ra imm s
  | .dLdbu e rd ra imm => Sys2Proof.Machine.execDLdbu e rd ra imm s
  | .dStw e rs ra imm => Sys2Proof.Machine.execDStw e rs ra imm s
  | .dSth e rs ra imm => Sys2Proof.Machine.execDSth e rs ra imm s
  | .dStb e rs ra imm => Sys2Proof.Machine.execDStb e rs ra imm s
  | .dCstw e rs ra imm => Sys2Proof.Machine.execDCstw e rs ra imm s
  | .dMulq e rd ra rb sh => Sys2Proof.Machine.execDMulq e rd ra rb sh s
  | .dSatq e rd ra u n => Sys2Proof.Machine.execDSatq e rd ra u n s
  | .dExt e rd ra pos len sx w => Sys2Proof.Machine.execDExt e rd ra pos len sx w s
  | .dIns e rd ra pos len w => Sys2Proof.Machine.execDIns e rd ra pos len w s
  | .dBeq e ra rb off => Sys2Proof.Machine.execDBeq e ra rb off s
  | .dBne e ra rb off => Sys2Proof.Machine.execDBne e ra rb off s
  | .dBlt e ra rb off => Sys2Proof.Machine.execDBlt e ra rb off s
  | .dBge e ra rb off => Sys2Proof.Machine.execDBge e ra rb off s
  | .dBltu e ra rb off => Sys2Proof.Machine.execDBltu e ra rb off s
  | .dBgeu e ra rb off => Sys2Proof.Machine.execDBgeu e ra rb off s
  | .dJal e rd off => Sys2Proof.Machine.execDJal e rd off s
  | .dJalr e rd ra imm => Sys2Proof.Machine.execDJalr e rd ra imm s
  | .dPop e rd rs q => Sys2Proof.Machine.execDPop e rd rs q s
  | .dPush e rd rs q => Sys2Proof.Machine.execDPush e rd rs q s
  | .dPeekq e rd rs q => Sys2Proof.Machine.execDPeekq e rd rs q s
  | .dWait e rd ra => Sys2Proof.Machine.execDWait e rd ra s
  | .waitWake t e => Sys2Proof.Machine.execWaitWake t e s
  | .dTset e ra mode k => Sys2Proof.Machine.execDTset e ra mode k s
  | .dTclr e k => Sys2Proof.Machine.execDTclr e k s
  | .dMovs e rd sel => Sys2Proof.Machine.execDMovs e rd sel s
  | .dSets e ra sel => Sys2Proof.Machine.execDSets e ra sel s
  | .engineTimerFire t e k => Sys2Proof.Machine.execEngineTimerFire t e k s
  | .burstLimitExpiry t e => Sys2Proof.Machine.execBurstLimitExpiry t e s
  | .doorbell t a e ring => Sys2Proof.Machine.execDoorbell t a e ring s
  | .dveStart t a e => Sys2Proof.Machine.execDveStart t a e s
  | .dveStop t a e => Sys2Proof.Machine.execDveStop t a e s
  | .dveLoad t a e => Sys2Proof.Machine.execDveLoad t a e s
  | .loadComplete t e => Sys2Proof.Machine.execLoadComplete t e s
  | .qmapWrite t a e q value => Sys2Proof.Machine.execQmapWrite t a e q value s
  | .instAllowWrite t a e hi value => Sys2Proof.Machine.execInstAllowWrite t a e hi value s
  | .dmemWrite t a e off value => Sys2Proof.Machine.execDmemWrite t a e off value s
  | .engineFenceArrive t e inst => Sys2Proof.Machine.execEngineFenceArrive t e inst s
  | .classifyFrame t => Sys2Proof.Machine.execClassifyFrame t s
  | .keyWrite t a k w value => Sys2Proof.Machine.execKeyWrite t a k w value s
  | .routeTableWrite t a desc k w value => Sys2Proof.Machine.execRouteTableWrite t a desc k w value s
  | .gwSeal t a => Sys2Proof.Machine.execGwSeal t a s
  | .gwSealComplete t => Sys2Proof.Machine.execGwSealComplete t s
  | .classifierFence t inst => Sys2Proof.Machine.execClassifierFence t inst s
  | .frameRx t port f => Sys2Proof.Machine.execFrameRx t port f s
  | .egressDequeue t port => Sys2Proof.Machine.execEgressDequeue t port s
  | .gateEntryChange t port => Sys2Proof.Machine.execGateEntryChange t port s
  | .gclChange t a port value => Sys2Proof.Machine.execGclChange t a port value s
  | .gclChangeInstant t port => Sys2Proof.Machine.execGclChangeInstant t port s
  | .linkLost t port => Sys2Proof.Machine.execLinkLost t port s
  | .linkUp t port => Sys2Proof.Machine.execLinkUp t port s
  | .linkHoldExpiry t port => Sys2Proof.Machine.execLinkHoldExpiry t port s
  | .fdbInsert t a => Sys2Proof.Machine.execFdbInsert t a s
  | .fdbDelete t a => Sys2Proof.Machine.execFdbDelete t a s
  | .fdbLookUp t a => Sys2Proof.Machine.execFdbLookUp t a s
  | .fdbAgeOut t vid mac => Sys2Proof.Machine.execFdbAgeOut t vid mac s
  | .cntClr t a value => Sys2Proof.Machine.execCntClr t a value s
  | .preemptVerify t port ok => Sys2Proof.Machine.execPreemptVerify t port ok s
  | .frerRecovReset t stream => Sys2Proof.Machine.execFrerRecovReset t stream s
  | .canStart t a c => Sys2Proof.Machine.execCanStart t a c s
  | .canStop t a c => Sys2Proof.Machine.execCanStop t a c s
  | .canRecover t a c => Sys2Proof.Machine.execCanRecover t a c s
  | .canAbort t a c r => Sys2Proof.Machine.execCanAbort t a c r s
  | .canFrameRx t c f => Sys2Proof.Machine.execCanFrameRx t c f s
  | .txOpportunity t c => Sys2Proof.Machine.execTxOpportunity t c s
  | .txComplete t c => Sys2Proof.Machine.execTxComplete t c s
  | .txAttemptError t c => Sys2Proof.Machine.execTxAttemptError t c s
  | .arbitrationLost t c toRef => Sys2Proof.Machine.execArbitrationLost t c toRef s
  | .canErrorDetected t c err => Sys2Proof.Machine.execCanErrorDetected t c err s
  | .recessiveSequence t c => Sys2Proof.Machine.execRecessiveSequence t c s
  | .ringDescWrite t a r w value => Sys2Proof.Machine.execRingDescWrite t a r w value s
  | .rxGetWrite t a r k => Sys2Proof.Machine.execRxGetWrite t a r k s
  | .txPutWrite t a r k => Sys2Proof.Machine.execTxPutWrite t a r k s
  | .reclaimWrite t a r k => Sys2Proof.Machine.execReclaimWrite t a r k s
  | .filterWrite t a e w value => Sys2Proof.Machine.execFilterWrite t a e w value s
  | .errLastRead t a c peek => Sys2Proof.Machine.execErrLastRead t a c peek s
  | .refDue t c => Sys2Proof.Machine.execRefDue t c s
  | .refLostTimeout t c => Sys2Proof.Machine.execRefLostTimeout t c s
  | .canFence t inst => Sys2Proof.Machine.execCanFence t inst s
  | .frcLoRead t a peek => Sys2Proof.Machine.execFrcLoRead t a peek s
  | .tLoRead t a peek => Sys2Proof.Machine.execTLoRead t a peek s
  | .timeApply t a => Sys2Proof.Machine.execTimeApply t a s
  | .servoInput t a o => Sys2Proof.Machine.execServoInput t a o s
  | .timeCfgWrite t a value => Sys2Proof.Machine.execTimeCfgWrite t a value s
  | .holdoverTimeout t => Sys2Proof.Machine.execHoldoverTimeout t s
  | .holdoverMaxExpiry t => Sys2Proof.Machine.execHoldoverMaxExpiry t s
  | .convStart t a hi => Sys2Proof.Machine.execConvStart t a hi s
  | .convComplete t => Sys2Proof.Machine.execConvComplete t s
  | .ppsOutEdge t => Sys2Proof.Machine.execPpsOutEdge t s
  | .ppsInEdge t => Sys2Proof.Machine.execPpsInEdge t s
  | .ppsInTsRead t a peek => Sys2Proof.Machine.execPpsInTsRead t a peek s
  | .txtsRead t a port peek => Sys2Proof.Machine.execTxtsRead t a port peek s
  | .netmgtNeedWrite t a value => Sys2Proof.Machine.execNetmgtNeedWrite t a value s
  | .netmgtJustWrite t a hi value => Sys2Proof.Machine.execNetmgtJustWrite t a hi value s
  | .keepaliveTimer t => Sys2Proof.Machine.execKeepaliveTimer t s
  | .nmKeepaliveRx t seg node just => Sys2Proof.Machine.execNmKeepaliveRx t seg node just s
  | .nmTokenRx t seg node succ run just => Sys2Proof.Machine.execNmTokenRx t seg node succ run just s
  | .nmReadyRx t seg node just => Sys2Proof.Machine.execNmReadyRx t seg node just s
  | .nmNeedRx t seg node just => Sys2Proof.Machine.execNmNeedRx t seg node just s
  | .readySleepExpiry t seg => Sys2Proof.Machine.execReadySleepExpiry t seg s
  | .ringHoldExpiry t seg => Sys2Proof.Machine.execRingHoldExpiry t seg s
  | .ringTmoExpiry t seg => Sys2Proof.Machine.execRingTmoExpiry t seg s
  | .ringLostTimeout t seg => Sys2Proof.Machine.execRingLostTimeout t seg s
  | .maxAwakeExpiry t n => Sys2Proof.Machine.execMaxAwakeExpiry t n s
  | .sleepCommit t => Sys2Proof.Machine.execSleepCommit t s
  | .sleepEntryComplete t => Sys2Proof.Machine.execSleepEntryComplete t s
  | .wakeRequest t cause source => Sys2Proof.Machine.execWakeRequest t cause source s
  | .wakeRecognised t cause source => Sys2Proof.Machine.execWakeRecognised t cause source s
  | .wakeTimer t => Sys2Proof.Machine.execWakeTimer t s
  | .warmMaxExpiry t => Sys2Proof.Machine.execWarmMaxExpiry t s
  | .hartPidWrite t a h pid => Sys2Proof.Machine.execHartPidWrite t a h pid s
  | .mapEntryWrite t a e value => Sys2Proof.Machine.execMapEntryWrite t a e value s
  | .instCfgWrite t a inst value => Sys2Proof.Machine.execInstCfgWrite t a inst value s
  | .qshareWrite t a inst value => Sys2Proof.Machine.execQshareWrite t a inst value s
  | .instFltWrite t a inst value => Sys2Proof.Machine.execInstFltWrite t a inst value s
  | .hwqCfgWrite t a q value => Sys2Proof.Machine.execHwqCfgWrite t a q value s
  | .hwqPush t a q value => Sys2Proof.Machine.execHwqPush t a q value s
  | .hwqPop t a q peek => Sys2Proof.Machine.execHwqPop t a q peek s
  | .dispatchRoundStart t => Sys2Proof.Machine.execDispatchRoundStart t s
  | .dispatchEntry t => Sys2Proof.Machine.execDispatchEntry t s
  | .vimReset t a inst => Sys2Proof.Machine.execVimReset t a inst s
  | .resetAck t inst p => Sys2Proof.Machine.execResetAck t inst p s
  | .resetTimeout t inst => Sys2Proof.Machine.execResetTimeout t inst s
  | .vimFreeze t a inst => Sys2Proof.Machine.execVimFreeze t a inst s
  | .freezeQuiescent t inst => Sys2Proof.Machine.execFreezeQuiescent t inst s
  | .freezeTimeout t inst => Sys2Proof.Machine.execFreezeTimeout t inst s
  | .vimThaw t a inst => Sys2Proof.Machine.execVimThaw t a inst s
  | .migSave t a inst slot => Sys2Proof.Machine.execMigSave t a inst slot s
  | .migSaveComplete t => Sys2Proof.Machine.execMigSaveComplete t s
  | .migRestore t a inst slot => Sys2Proof.Machine.execMigRestore t a inst slot s
  | .migRestoreComplete t => Sys2Proof.Machine.execMigRestoreComplete t s
  | .machineTrap t h => Sys2Proof.Machine.execMachineTrap t h s
  | .mret t h => Sys2Proof.Machine.execMret t h s
  | .regionWrite t a k r word value => Sys2Proof.Machine.execRegionWrite t a k r word value s
  | .l2PartWrite t a value => Sys2Proof.Machine.execL2PartWrite t a value s
  | .l2RepartComplete t => Sys2Proof.Machine.execL2RepartComplete t s
  | .claimWrite t a value => Sys2Proof.Machine.execClaimWrite t a value s
  | .violRead t a peek => Sys2Proof.Machine.execViolRead t a peek s
  | .pantryWrite t a slot => Sys2Proof.Machine.execPantryWrite t a slot s
  | .pantryGenerate t a slot => Sys2Proof.Machine.execPantryGenerate t a slot s
  | .pantryErase t a slot => Sys2Proof.Machine.execPantryErase t a slot s
  | .pantryWrapOut t a slot aux => Sys2Proof.Machine.execPantryWrapOut t a slot aux s
  | .pantryImport t a slot aux => Sys2Proof.Machine.execPantryImport t a slot aux s
  | .pantryPubOut t a slot => Sys2Proof.Machine.execPantryPubOut t a slot s
  | .pantryAttest t a slot => Sys2Proof.Machine.execPantryAttest t a slot s
  | .pantryCacheFlush t a => Sys2Proof.Machine.execPantryCacheFlush t a s
  | .tamperClear t a => Sys2Proof.Machine.execTamperClear t a s
  | .pantryCommitComplete t => Sys2Proof.Machine.execPantryCommitComplete t s
  | .tamperArmWrite t a value => Sys2Proof.Machine.execTamperArmWrite t a value s
  | .tamperRecognised t src active => Sys2Proof.Machine.execTamperRecognised t src active s
  | .cartInsert t => Sys2Proof.Machine.execCartInsert t s
  | .cartRemove t => Sys2Proof.Machine.execCartRemove t s
  | .cartAuthenticate t c => Sys2Proof.Machine.execCartAuthenticate t c s
  | .serviceFlush t a => Sys2Proof.Machine.execServiceFlush t a s
  | .measure t a vBus vHold => Sys2Proof.Machine.execMeasure t a vBus vHold s
  | .testDischargeComplete t stepUv fallUv => Sys2Proof.Machine.execTestDischargeComplete t stepUv fallUv s
  | .replan t a => Sys2Proof.Machine.execReplan t a s
  | .planTimer t vBus vHold => Sys2Proof.Machine.execPlanTimer t vBus vHold s
  | .holdupRetest t vHold => Sys2Proof.Machine.execHoldupRetest t vHold s
  | .marginMeasure t dHub dA dB dC stud1 stud2 pNow => Sys2Proof.Machine.execMarginMeasure t dHub dA dB dC stud1 stud2 pNow s
  | .flashRefresh t wear regions => Sys2Proof.Machine.execFlashRefresh t wear regions s
  | .recordCommit t => Sys2Proof.Machine.execRecordCommit t s
  | .recCommit t a sev kind lenW => Sys2Proof.Machine.execRecCommit t a sev kind lenW s
  | .flushWindowTimer t => Sys2Proof.Machine.execFlushWindowTimer t s
  | .flushStart t => Sys2Proof.Machine.execFlushStart t s
  | .flushComplete t => Sys2Proof.Machine.execFlushComplete t s
  | .segmentEraseComplete t sev => Sys2Proof.Machine.execSegmentEraseComplete t sev s
  | .recFlush t a => Sys2Proof.Machine.execRecFlush t a s
  | .recRead t a => Sys2Proof.Machine.execRecRead t a s
  | .setupStore t a => Sys2Proof.Machine.execSetupStore t a s
  | .storeComplete t => Sys2Proof.Machine.execStoreComplete t s
  | .setupApply t a => Sys2Proof.Machine.execSetupApply t a s
  | .reportRead t a peek => Sys2Proof.Machine.execReportRead t a peek s
  | .wakeInputInactive t k => Sys2Proof.Machine.execWakeInputInactive t k s
  | .nodeRunEnd t n => Sys2Proof.Machine.execNodeRunEnd t n s
  | .loopQuietChange t cur => Sys2Proof.Machine.execLoopQuietChange t cur s
  | .chargeComplete t vHold => Sys2Proof.Machine.execChargeComplete t vHold s
  | .testDischargeStart t vBus vHold => Sys2Proof.Machine.execTestDischargeStart t vBus vHold s
  | .pantryCommandComplete t => Sys2Proof.Machine.execPantryCommandComplete t s
  | .setupApplyComplete t => Sys2Proof.Machine.execSetupApplyComplete t s
  | .frameTxEnd t port => Sys2Proof.Machine.execFrameTxEnd t port s

end Sys2Proof.Machine
end

