-- ==== Sys2Proof/Machine/Route.lean ====
section
/-! DEFINITION. The standard route runtime (*Signal gateway and the Stairwell bridge*, R211): what an engine of engines 0 to 11
does with the routes it serves. A route program of Skembe is its code; the model runs the behaviour that R211 gives it in place
of its words (log entry 96). -/

namespace Sys2Proof.Machine

/-! ### Routes -/

/-- The signals of route r: their places in the route and their descriptors. -/
def State.routeSigs (s : State) (r : Nat) : List (Nat × SigDesc) :=
  (List.range (min 64 (s.rd (F.GW_ROUTE1_DESC_CNT r)))).map fun j => (j, s.sigDesc ((s.rd (F.GW_ROUTE1_DESC_FIRST r) + j) % 8192))

/-- What the runtime holds of route r, and the state with it changed. -/
def State.run (s : State) (r : Nat) : RouteRun := s.stair.routes.getD RouteRun.init r
def State.modRun (s : State) (r : Nat) (f : RouteRun → RouteRun) : State :=
  { s with stair := { s.stair with routes := s.stair.routes.put RouteRun.init r (f (s.run r)) } }

/-- A signal of a route; before its first entry it holds SUBST. -/
def RouteRun.sig (x : RouteRun) (j : Nat) (d : SigDesc) : SigVal := (x.sigs.find? j).getD ⟨d.subst, false, none, true⟩

/-- The FRC instant of a TS_LO, the last one that has these low bits (R204). -/
def State.capOf (s : State) (lo : Nat) : Nat :=
  let n := s.frc / 2 ^ 32 * 2 ^ 32 + lo
  if s.frc < n then n - 2 ^ 32 else n

/-- The bytes of a route entry's data. -/
def entryData (en : Entry) : List Nat :=
  ((en.payload.drop 3).map wordBytes).flatten.take (en.payload.getD 0 0 % 2 ^ 16)

/-- The source frame of a route entry. -/
def State.entryFrame (s : State) (en : Entry) : SrcFrame :=
  let w0 := en.payload.getD 0 0
  let w1 := en.payload.getD 1 0
  ⟨s.capOf (en.payload.getD 2 0), bits w0 20 16, w1 % 2 ^ 29, w1.testBit 31, w1.testBit 30, w1.testBit 29, entryData en⟩

/-- Does the frame come from key k of a descriptor? -/
def State.fromKey (s : State) (k : Nat) (f : SrcFrame) : Bool :=
  let m := s.rd (F.GW_KEY2_MASK k)
  s.rd (F.GW_KEY0_SRC k) == f.src && f.id &&& m == s.rd (F.GW_KEY1_ID k) &&& m

/-- A route entry updates the signals of its source; a signal missing in the frame keeps its value (R209). -/
def State.takeSigs (s : State) (r : Nat) (f : SrcFrame) : State :=
  (s.routeSigs r).foldl (fun s (jd : Nat × SigDesc) =>
    if s.fromKey jd.2.key f then
      s.modRun r fun x =>
        let old := x.sig jd.1 jd.2
        let v : SigVal := match jd.2.transform f.data with
          | some (v, sat) => ⟨ofSigned jd.2.dstLen v, sat, some f.cap, false⟩
          | none => { old with entry := some f.cap }
        { x with sigs := x.sigs.insert jd.1 v, newest := max x.newest f.cap }
    else s) s

/-- Has the window of a signal's source closed with no route entry (R211)? -/
def State.sigLate (s : State) (r : Nat) (v : SigVal) : Bool :=
  let ms' := s.rd (F.GW_ROUTE2_TIMEOUT_MS r)
  ms' != 0 && !v.subst && match v.entry with
    | some t0 => decide (t0 + ms ms' ≤ s.now)
    | none => false

/-- Has a signal of route r to be replaced? -/
def State.routeLate (s : State) (r : Nat) : Bool :=
  (s.routeSigs r).any fun jd => s.sigLate r ((s.run r).sig jd.1 jd.2)

/-- The late signals of route r are replaced by SUBST (R211). -/
def State.substSigs (s : State) (r : Nat) : State :=
  (s.routeSigs r).foldl (fun s (jd : Nat × SigDesc) =>
    if s.sigLate r ((s.run r).sig jd.1 jd.2) then
      s.modRun r fun x => { x with
        sigs := x.sigs.insert jd.1 { x.sig jd.1 jd.2 with value := jd.2.subst, sat := false, subst := true } }
    else s) s

/-! ### Emission -/

/-- The signal area of route r: its signals at their places, in as many bytes as they reach (R209, R211). -/
def State.routeArea (s : State) (r : Nat) : List Nat :=
  let l := s.routeSigs r
  let place (jd : Nat × SigDesc) : List Nat := sigBits jd.2.dstBe jd.2.dstStart jd.2.dstLen
  let n := (l.map fun jd => ((place jd).map fun b => b / 8 + 1).foldl max 0).foldl max 0
  l.foldl (fun a jd => placeBits a ((s.run r).sig jd.1 jd.2).value (place jd)) (List.replicate n 0)

/-- Bit 0 STALE, bit 1 SAT. -/
def State.routeFlags (s : State) (r : Nat) : Nat :=
  let vs := (s.routeSigs r).map fun jd => (s.run r).sig jd.1 jd.2
  bit (vs.any fun v => v.subst) + 2 * bit (vs.any fun v => v.sat)

/-- The gateway PDU of route r (*Table: Gateway PDU*). -/
def State.pduBytes (s : State) (r : Nat) : List Nat :=
  [1, s.routeFlags r] ++ leBytes 2 (s.run r).seq ++ leBytes 4 (s.rd (F.GW_ROUTE3_PDU_ID r) % 2 ^ 29) ++
    leBytes 8 (s.tOf (s.run r).newest) ++ s.routeArea r

/-- What route r emits: the PDU, or to another destination the signal area. -/
def State.routeOut (s : State) (r : Nat) : List Nat := if s.rd (F.GW_ROUTE3_DST r) = 0 then s.pduBytes r else s.routeArea r

/-- An entry of engine e under CUR_INST, at its lowest-numbered output port; without room it is refused (R184). -/
def State.emit (s : State) (e : Nat) (payload : List Nat) : State :=
  match (List.range 16).find? fun q => s.boundOut e q with
  | none => s
  | some q =>
    let p := (s.eng e).port q
    if p.opened.isSome || decide (p.room < payload.length + 1) then s.inc (F.DVE_PORT_REFUSED e q)
    else
      let s := s.modEng e fun x => { (x.modPort q fun p => { p with entries := p.entries ++ [⟨x.curInst, 0, payload⟩] }) with
        order := x.order ++ [q] }
      s.offerQ (s.rd (F.DVE_QMAP_HWQ e q)) 16 engineIds

/-- Route r emits (R211). `own`: no route entry has just caused it, so CUR_INST is set with SETS 4 (R181). -/
def State.emitRoute (s : State) (e r : Nat) (own : Bool) : State :=
  let i := s.rd (F.GW_ROUTE0_INST r)
  if own && !s.granted e i then s.engFault e .inst
  else
    let s := if own then s.modEng e fun x => { x with curInst := i } else s
    let out := packWords (s.routeOut r)
    (s.modRun r fun x => { x with seq := (x.seq + 1) % 65536, last := some (s.routeArea r) }).emit e out

/-- A change is emitted where a signal's value differs from the one last emitted (*ON_CHANGE*). -/
def State.emitChange (s : State) (e r : Nat) (own : Bool) : State :=
  if (s.run r).last = some (s.routeArea r) then s else s.emitRoute e r own

/-- A route entry at the runtime of engine e (R211). -/
def State.routeTake (s : State) (e : Nat) (en : Entry) : State :=
  let r := bits (en.payload.getD 0 0) 31 21
  let s := (s.modEng e fun x => { x with curInst := en.inst }).takeSigs r (s.entryFrame en)
  match s.rd (F.GW_ROUTE0_TRIGGER r) with
  | 0 => s.emitRoute e r false
  | 2 => s.emitChange e r false
  | _ => s

/-! ### The runtime's work -/

/-- The first input port of engine e that holds a whole route entry, with that entry; a rest that a POP has left is skipped. -/
def State.routeWork (s : State) (e : Nat) : Option (Nat × Entry) :=
  (List.range 16).findSome? fun q =>
    if s.boundIn e q then (((s.eng e).port q).entries.head?).map fun en => (q, en) else none

/-- Has the window of a PERIODIC route closed? Its first one opens when the runtime first sees the route. -/
def State.periodDue (s : State) (r : Nat) : Bool :=
  s.rd (F.GW_ROUTE0_TRIGGER r) == 1 && match (s.run r).window with
    | some t0 => decide (t0 + ms (max 1 (s.rd (F.GW_ROUTE2_PERIOD_MS r))) ≤ s.now)
    | none => true

/-- The route of engine e that a closed window concerns. -/
def State.routeDue (s : State) (e : Nat) : Option Nat := (s.routesOf e).find? fun r => s.periodDue r || s.routeLate r

/-- The closed windows of route r: late signals are replaced, a PERIODIC route emits at its close (R211). -/
def State.routeClose (s : State) (e r : Nat) : State :=
  let late := s.routeLate r
  let s := if late then s.substSigs r else s
  if s.periodDue r then
    let period := ms (max 1 (s.rd (F.GW_ROUTE2_PERIOD_MS r)))
    match (s.run r).window with
    | none => s.modRun r fun x => { x with window := some s.now }
    | some t0 => (s.modRun r fun x => { x with window := some (t0 + period) }).emitRoute e r true
  else if late ∧ s.rd (F.GW_ROUTE0_TRIGGER r) = 2 then s.emitChange e r true
  else s

/-- One piece of work of a route program: a closed window, else a route entry; without work the engine sleeps in WAIT for its
ports, a burst boundary (R188, R201). -/
def State.routeStep (s : State) (e : Nat) : State :=
  let s := s.onward
  match s.routeDue e with
  | some r => s.routeClose e r
  | none => match s.routeWork e with
    | some (q, en) =>
      (s.modEng e fun x => x.modPort q fun p => { p with body := [], entries := p.entries.drop 1 }).routeTake e en
    | none =>
      if (s.eng e).state = .running then
        (s.drainAll e).modEng e fun x => { x with state := .waiting, waitMask := 0x00FFFFFF, waitRd := 0, burst := 0 }
      else s

/-- Does engine e run a route program that is not stopped, and is it RUNNING or has work? -/
def State.routeReady (s : State) (e : Nat) : Bool :=
  (s.eng e).routing && match (s.eng e).state with
    | .running => true
    | .waiting => (s.routeWork e).isSome || (s.onward.routeDue e).isSome
    | .stopped | .loading | .fault => false

end Sys2Proof.Machine
end

