-- ==== Sys2Proof/Machine/Idle.lean ====
section
/-! DEFINITION. What the module does on its own while no command waits (log entry 2): entries that wait in an engine's output
ports are offered again (R184), and one engine goes on: a RUNNING one executes the word at its pc, one with a route program does
a piece of its work (R211). -/

namespace Sys2Proof.Machine

/-- Does an output port hold an entry that waits? -/
def State.hasOffers (s : State) : Bool :=
  s.dve.engines.any fun x => x.2.ports.any fun p => !p.2.entries.isEmpty && s.boundOut x.1 p.1

/-- The word of engine `e` at its pc; memory beyond the image holds zeros, which are illegal (R193). -/
def State.fetch (s : State) (e : Nat) : Nat := ((s.eng e).pmem.getD 0 ((s.eng e).pc / 4)).toNat

/-- Engine `e` executes the word at its pc: the burst limit comes first (R189), then a word that spells no instruction faults
with ILLEGAL (R193). -/
def runEngine (e : Nat) (s : State) : Host.Outcome State Fault Refusal :=
  if s.rd (F.DVE_BURST_BURST_MAX e) * 8 ≤ (s.eng e).burst then .next (s.engFault e .burst)
  else if (s.eng e).badFetch then .next (s.engFault e .ecc)
  else match decodeDervos e (s.fetch e) with
    | none => .next (s.engFault e .illegal)
    | some i => exec i s

/-- May engine e go on? -/
def State.engReady (s : State) (e : Nat) : Bool :=
  s.routeReady e || ((s.eng e).state == .running && !(s.eng e).routing)

/-- The module with no command waiting: the lowest-numbered engine that can goes on. -/
def idle (s : State) : Host.Outcome State Fault Refusal :=
  let s := if s.hasOffers then s.onward.offerAll else s
  match engineIds.find? s.engReady with
  | none => .next s
  | some e => if (s.eng e).routing then .next (s.routeStep e) else runEngine e s

end Sys2Proof.Machine
end

