-- ==== Sys2Proof/Safety.lean ====
section
/-! DEFINITION. What counts as a well-formed state and as a safe run of the module. -/

namespace Sys2Proof.Machine

/-- The rising order of a table's numbers. -/
def Tbl.rising {α : Type} : Tbl α → Bool
  | [] => true
  | [_] => true
  | (j, _) :: (k, v) :: rest => decide (j < k) && Tbl.rising ((k, v) :: rest)

/-- An engine whose pc is a word address of program memory (R179) and whose data memory has its canonical form. -/
def Engine.sound (x : Engine) : Bool := x.pc % 4 == 0 && decide (x.pc ≤ 0xFFFC) && Memory.wf x.dmem

/-- Memory, the register file and every engine in their canonical form. -/
def State.sound (s : State) : Bool :=
  Memory.wf s.mem && Tbl.rising s.regs && s.dve.engines.all fun x => x.2.sound

/-- The command completes: exec answers a next state, and it has the property. -/
def Ends (c : Instr) (s : State) (P : State → Prop) : Prop := ∃ s', exec c s = .next s' ∧ P s'

/-- The region check lets the sender's writes to the register block [lo, hi) pass (R344). -/
def MayWrite (s : State) (a : Attr) (lo hi : Nat) : Prop := ∀ x, lo ≤ x → x < hi → s.passes x a true = true

/-- `s'` is `s` at the captured instant, but for the bus response, the register fields `fs` and what the present clock
remembers of its updates (log entry 1). -/
def OnlyRegs (s : State) (t : Nat) (fs : List Fld) (s' : State) : Prop :=
  { s' with regs := s.regs, resp := s.resp, clk := (s.tick t).clk } = s.tick t ∧ ∀ f : Fld, f.key ∉ fs.map Fld.key → s'.rd f = s.rd f

/-- Every register field but those of `fs` reads as before. -/
def RegsBut (fs : List Fld) (s s' : State) : Prop := ∀ f : Fld, f.key ∉ fs.map Fld.key → s'.rd f = s.rd f

/-- One record of a class has reached its writer port, with this KIND, severity, SUBJ and STATUS, and the log is otherwise
as it was. -/
def WroteOne (s s' : State) (cls kind sev subj status : Nat) : Prop :=
  ∃ r : Record, r.cls = cls ∧ r.kind = kind ∧ r.sev = sev ∧ r.subj = subj % 65536 ∧ r.status = status ∧
    s'.log = { s.log with ports := s.log.ports.put [] cls (portInsert r (s.log.ports.getD [] cls)) }

/-- `s'` is `s` but for engine `e`, which is now `x`. -/
def OnlyEngine (s : State) (e : Nat) (x : Engine) (s' : State) : Prop :=
  { s' with dve := s.dve } = s ∧ s'.dve.pointer = s.dve.pointer ∧ s'.eng e = x ∧ ∀ k, k ≠ e → s'.eng k = s.eng k

/-- `s'` is `s` but for engine `e`, which is now `x`, and for its flag SAT, which is set where `sat` holds. -/
def EngineAndSat (s : State) (e : Nat) (x : Engine) (sat : Bool) (s' : State) : Prop :=
  { s' with dve := s.dve, regs := s.regs } = s ∧ s'.dve.pointer = s.dve.pointer ∧ s'.eng e = x ∧
    (∀ k, k ≠ e → s'.eng k = s.eng k) ∧ (∀ f, f.key ≠ (F.DVE_STAT_SAT e).key → s'.rd f = s.rd f) ∧
    s'.rd (F.DVE_STAT_SAT e) = if sat then 1 else s.rd (F.DVE_STAT_SAT e)

/-- Engine `e` is RUNNING, the program word at its pc is sound, and there is room for the next word: the instruction does not run
into ECC or PC_RANGE. -/
def Runs (s : State) (e : Nat) : Prop :=
  e < 16 ∧ (s.eng e).state = .running ∧ (s.eng e).badFetch = false ∧ (s.eng e).pc + 4 ≤ 0xFFFC

/-- The engine after an instruction of `n` cycles that left `x` behind: pc at the next word, the cycles counted (R193). -/
def Engine.next (x : Engine) (n : Nat) : Engine := { x with pc := x.pc + 4, cycles := x.cycles + n, burst := x.burst + n }

end Sys2Proof.Machine
end

