-- ==== Sys2Proof/WellFormed.lean ====
section
/-! DEFINITION. Well-formed commands: the fields of a Dervos instruction lie in the ranges that its format gives them
(*Table: Instruction formats*, *Table: Dervos encoding*). The other commands carry numbers that come from outside; a unit
number that names no unit faults in the meaning (`Machine.onUnit`). -/

namespace Sys2Proof

/-- An engine (R177). -/
def engineOk (e : Nat) : Bool := decide (e < 16)

/-- A register field. -/
def regOk (r : Nat) : Bool := decide (r < 16)

/-- A field of `n` bits. -/
def fieldOk (n v : Nat) : Bool := decide (v < 2 ^ n)

/-- A length of 1 to 32 bits, encoded less one. -/
def lengthOk (n : Nat) : Bool := decide (1 ≤ n) && decide (n ≤ 32)

/-- Is a command well formed? -/
def Instr.wf (i : Instr) : Bool :=
  match i with
  | .dAdd e rd ra rb => engineOk e && regOk rd && regOk ra && regOk rb
  | .dSub e rd ra rb => engineOk e && regOk rd && regOk ra && regOk rb
  | .dAnd e rd ra rb => engineOk e && regOk rd && regOk ra && regOk rb
  | .dOr e rd ra rb => engineOk e && regOk rd && regOk ra && regOk rb
  | .dXor e rd ra rb => engineOk e && regOk rd && regOk ra && regOk rb
  | .dShl e rd ra rb => engineOk e && regOk rd && regOk ra && regOk rb
  | .dShr e rd ra rb => engineOk e && regOk rd && regOk ra && regOk rb
  | .dSra e rd ra rb => engineOk e && regOk rd && regOk ra && regOk rb
  | .dSlt e rd ra rb => engineOk e && regOk rd && regOk ra && regOk rb
  | .dSltu e rd ra rb => engineOk e && regOk rd && regOk ra && regOk rb
  | .dMul e rd ra rb => engineOk e && regOk rd && regOk ra && regOk rb
  | .dMin e rd ra rb => engineOk e && regOk rd && regOk ra && regOk rb
  | .dMax e rd ra rb => engineOk e && regOk rd && regOk ra && regOk rb
  | .dAdds e rd ra rb => engineOk e && regOk rd && regOk ra && regOk rb
  | .dSubs e rd ra rb => engineOk e && regOk rd && regOk ra && regOk rb
  | .dAddi e rd ra imm => engineOk e && regOk rd && regOk ra && fieldOk 18 imm
  | .dAndi e rd ra imm => engineOk e && regOk rd && regOk ra && fieldOk 18 imm
  | .dOri e rd ra imm => engineOk e && regOk rd && regOk ra && fieldOk 18 imm
  | .dXori e rd ra imm => engineOk e && regOk rd && regOk ra && fieldOk 18 imm
  | .dShli e rd ra imm => engineOk e && regOk rd && regOk ra && fieldOk 18 imm
  | .dShri e rd ra imm => engineOk e && regOk rd && regOk ra && fieldOk 18 imm
  | .dSrai e rd ra imm => engineOk e && regOk rd && regOk ra && fieldOk 18 imm
  | .dSlti e rd ra imm => engineOk e && regOk rd && regOk ra && fieldOk 18 imm
  | .dLui e rd imm => engineOk e && regOk rd && fieldOk 22 imm
  | .dLdw e rd ra imm => engineOk e && regOk rd && regOk ra && fieldOk 18 imm
  | .dLdh e rd ra imm => engineOk e && regOk rd && regOk ra && fieldOk 18 imm
  | .dLdhu e rd ra imm => engineOk e && regOk rd && regOk ra && fieldOk 18 imm
  | .dLdb e rd ra imm => engineOk e && regOk rd && regOk ra && fieldOk 18 imm
  | .dLdbu e rd ra imm => engineOk e && regOk rd && regOk ra && fieldOk 18 imm
  | .dStw e rd ra imm => engineOk e && regOk rd && regOk ra && fieldOk 18 imm
  | .dSth e rd ra imm => engineOk e && regOk rd && regOk ra && fieldOk 18 imm
  | .dStb e rd ra imm => engineOk e && regOk rd && regOk ra && fieldOk 18 imm
  | .dCstw e rd ra imm => engineOk e && regOk rd && regOk ra && fieldOk 18 imm
  | .dMulq e rd ra rb sh => engineOk e && regOk rd && regOk ra && regOk rb && fieldOk 5 sh
  | .dSatq e rd ra _ n => engineOk e && regOk rd && regOk ra && lengthOk n
  | .dExt e rd ra pos len _ _ => engineOk e && regOk rd && regOk ra && fieldOk 5 pos && lengthOk len
  | .dIns e rd ra pos len _ => engineOk e && regOk rd && regOk ra && fieldOk 5 pos && lengthOk len
  | .dBeq e ra rb off => engineOk e && regOk ra && regOk rb && fieldOk 18 off
  | .dBne e ra rb off => engineOk e && regOk ra && regOk rb && fieldOk 18 off
  | .dBlt e ra rb off => engineOk e && regOk ra && regOk rb && fieldOk 18 off
  | .dBge e ra rb off => engineOk e && regOk ra && regOk rb && fieldOk 18 off
  | .dBltu e ra rb off => engineOk e && regOk ra && regOk rb && fieldOk 18 off
  | .dBgeu e ra rb off => engineOk e && regOk ra && regOk rb && fieldOk 18 off
  | .dJal e rd off => engineOk e && regOk rd && fieldOk 22 off
  | .dJalr e rd ra imm => engineOk e && regOk rd && regOk ra && fieldOk 18 imm
  | .dPop e rd rs q => engineOk e && regOk rd && regOk rs && fieldOk 4 q
  | .dPush e rd rs q => engineOk e && regOk rd && regOk rs && fieldOk 4 q
  | .dPeekq e rd rs q => engineOk e && regOk rd && regOk rs && fieldOk 4 q
  | .dWait e rd ra => engineOk e && regOk rd && regOk ra
  | .dTset e ra mode k => engineOk e && regOk ra && fieldOk 2 mode && fieldOk 3 k
  | .dTclr e k => engineOk e && fieldOk 3 k
  | .dMovs e rd sel => engineOk e && regOk rd && fieldOk 4 sel
  | .dSets e ra sel => engineOk e && regOk ra && fieldOk 4 sel
  | _ => true

end Sys2Proof
end

