-- ==== Sys2Proof/Certificates/Slice0/Obligations.lean ====
section
/-! DEFINITION. The obligations: what the commands do, area by area of the spec, with their frames and their completion.
`Ends c s P` says that command c completes in state s, in a state that has P; `OnlyRegs`, `OnlyEngine` and `WroteOne` say what
else may have changed (Safety). -/

open Sys2Proof Sys2Proof.Machine

/-! ### Register and memory writes; the queue -/

/-- TIER 2. REGISTER_WRITE (R8, R9, R11, R12, R13, R345, R433): a write of wrong size, alignment or address ends in ACCESS_ERROR; one that
the regions do not pass is DENIED_WORLD; memory takes 1, 2 or 4 bytes, little-endian; RW fields take the value, RO fields stand, W1C
bits written 1 clear unless hardware sets them in the same clock (R13); CAN bit timing is written only in CONFIG; an offset that the map does not list takes nothing. -/
def Obligations.RegisterWrites : Prop :=
  ∀ (s : State) (t addr size c i k : Nat) (a : Attr) (v : Word) (core : Option Nat), c < 12 → i < 2 → k < 16 →
    let w := v.toNat
    let write (x : Nat) : Instr := .registerWrite t a core x 4 v
    let inMem := (0x10000000 ≤ addr ∧ addr < 0x10400000) ∨ (0x0800000000 ≤ addr ∧ addr < 0x0A00000000)
    let fits := (size = 1 ∨ size = 2 ∨ size = 4) ∧ addr % size = 0
    let may (x : Nat) : Prop := (s.tick t).passes x a true = true
    let nbt := (F.CAN_NBT_BRP c).addr
    let clears (f : Fld) (b : Nat) (s' : State) : Prop := s.rd f ≤ 1 →
      s'.rd f = if w.testBit b ∧ ((s.tick t).clk.sets.getD 0 f.key).testBit 0 = false then 0 else s.rd f
    (inMem → fits → may addr → Ends (.registerWrite t a core addr size v) s fun s' => s'.regs = s.regs ∧ s'.resp.status = 0 ∧
      s'.log = s.log ∧ ∀ x, Memory.read s'.mem x =
        if addr ≤ x ∧ x < addr + size then BitVec.ofNat 8 (w / 2 ^ (8 * (x - addr))) else Memory.read s.mem x) ∧
    (inMem → fits → ¬ may addr → Ends (.registerWrite t a core addr size v) s fun s' => s'.mem = s.mem ∧
      s'.resp = ⟨0x0E, 0⟩ ∧ s'.rd F.WORLD_VIOL_CNT_DENIED =
        satSucc F.WORLD_VIOL_CNT_DENIED.width (s.rd F.WORLD_VIOL_CNT_DENIED)) ∧
    (inMem → ¬ fits → Ends (.registerWrite t a core addr size v) s fun s' => s'.resp = ⟨0x10, 0⟩ ∧ OnlyRegs s t [] s') ∧
    (¬ inMem → (size ≠ 4 ∨ addr % 4 ≠ 0 ∨ mapped addr = false) → Ends (.registerWrite t a core addr size v) s fun s' =>
      s'.resp = ⟨0x10, 0⟩ ∧ OnlyRegs s t [] s') ∧
    (may (0x40020014 + 4 * i) →
      (a.attic = true → Ends (write (0x40020014 + 4 * i)) s fun s' =>
        OnlyRegs s t [F.PWRMGR_PF_NOTIFY_NOTIFY i] s' ∧ s'.rd (F.PWRMGR_PF_NOTIFY_NOTIFY i) = w) ∧
      (a.attic = false → Ends (write (0x40020014 + 4 * i)) s fun s' => s'.resp.status = 0x0E ∧
        s'.rd (F.PWRMGR_PF_NOTIFY_NOTIFY i) = s.rd (F.PWRMGR_PF_NOTIFY_NOTIFY i))) ∧
    (a.attic = true → a.inst = 0 → may 0x40010000 → Ends (write 0x40010000) s fun s' =>
      OnlyRegs s t [F.CELLAR_STAT_PF_CUT, F.CELLAR_STAT_STEP1_LATE] s' ∧ clears F.CELLAR_STAT_PF_CUT 28 s' ∧
      clears F.CELLAR_STAT_STEP1_LATE 23 s') ∧
    (may (0x40020008 + 4 * i) → Ends (write (0x40020008 + 4 * i)) s fun s' =>
      OnlyRegs s t [F.PWRMGR_FEED_OVERCUR i] s' ∧ clears (F.PWRMGR_FEED_OVERCUR i) 2 s') ∧
    (may nbt →
      ((s.ctl c).state = .config → Ends (write nbt) s fun s' =>
        OnlyRegs s t [F.CAN_NBT_BRP c, F.CAN_NBT_TSEG1 c, F.CAN_NBT_TSEG2 c, F.CAN_NBT_SJW c] s' ∧
        s'.rd (F.CAN_NBT_BRP c) = w / 2 ^ 23 ∧ s'.rd (F.CAN_NBT_TSEG1 c) = w / 2 ^ 15 % 2 ^ 8 ∧
        s'.rd (F.CAN_NBT_TSEG2 c) = w / 2 ^ 8 % 2 ^ 7 ∧ s'.rd (F.CAN_NBT_SJW c) = w / 2 % 2 ^ 7) ∧
      ((s.ctl c).state ≠ .config → Ends (write nbt) s fun s' => OnlyRegs s t [F.CAN_STAT_CMD_REFUSED c] s' ∧
        s'.rd (F.CAN_STAT_CMD_REFUSED c) = 1)) ∧
    (core = some k → k < 8 → may (0x41200020 + 4 * k) → Ends (write (0x41200020 + 4 * k)) s fun s' =>
      OnlyRegs s t [F.WORLD_HART_NEXT k] s' ∧
      s'.rd (F.WORLD_HART_NEXT k) = w / 2 ^ (F.WORLD_HART_NEXT k).lo % 2 ^ (F.WORLD_HART_NEXT k).width) ∧
    (a.attic = true → a.inst = 0 → a.dom = .hub → may (0x41300100 + 4 * k) → Ends (write (0x41300100 + 4 * k)) s fun s' =>
      s'.pantry = { s.pantry with stage := s.pantry.stage.put 0 k w } ∧ s'.regs = s.regs ∧ s'.mem = s.mem) ∧
    (may 0x40020044 → Ends (write 0x40020044) s fun s' => s'.resp.status = 0 ∧ OnlyRegs s t [] s')

/-- TIER 1. A step takes the command at the front of the queue and runs it on the state with the queue's rest. -/
def Obligations.StepRunsFrontCommand : Prop :=
  ∀ (s : State) (c : Instr) (rest : List Instr),
    step { s with pending := c :: rest } = exec c { s with pending := rest }

/-- TIER 1. After reset the module is OFF, with nothing pending, memory and registers empty of listed values, every channel OFF, every
lane undriven, every engine STOPPED, no record waiting, and the canonical forms hold (R15, R369, R375). What reset leaves where the
spec is silent is the model's choice (log entry 3). -/
def Obligations.ResetIsOffAndSound : Prop :=
  State.reset.pending = [] ∧ State.reset.pwr.state = .off ∧ State.reset.pwr.hubUp = false ∧ State.reset.sound = true ∧
  (∀ n, n < 48 → (State.reset.chan n).state = .off) ∧ (∀ l, (State.reset.ln l).driven = 0) ∧
  (∀ e, e < 16 → (State.reset.eng e).state = .stopped) ∧ (∀ c, c < 12 → (State.reset.ctl c).state = .config) ∧
  (∀ a, Memory.read State.reset.mem a = memDefault) ∧ (∀ f : Fld, State.reset.rd f = f.reset)

/-- TIER 2. An invariant of memory: a step that runs a write of the hub, a READ of the recorder, an output of the Pantry, or a change
of the power state that drops memory keeps memory in its canonical form, its addresses rising and no byte listed that has the value
an unlisted one reads as (the form is the model's own, log entry 5). -/
def Obligations.MemoryStaysCanonical : Prop :=
  ∀ (s s' : State), Memory.wf s.mem = true →
    (match s.pending with
      | [] => False
      | .registerWrite .. :: _ => True
      | .recRead .. :: _ => True
      | .pantryCommandComplete .. :: _ => True
      | .dramSupplyFail .. :: _ => True
      | .warmMaxExpiry .. :: _ => True
      | .cellarFloor .. :: _ => True
      | .sleepEntryComplete .. :: _ => True
      | .haltedTimeout .. :: _ => True
      | _ => False) →
    step s = .next s' → Memory.wf s'.mem = true

/-! ### The Fusebox -/

/-- TIER 2. The hub's writes to a channel (R26, R49, R53 to R56, R69, R197): HUB_CMD acts on a HUB-mode channel and is ignored
on a VITAL one; a fuse point goes to the shadow; CURVE_APPLY makes the shadow active where R49 allows it, and otherwise
sets CFG_REFUSED; CH_CTL, CH_PWM and CH_PROFILE take what their fields allow; FAULT_CLR leads a latched HUB-mode
channel to OFF, unless that clock latches it. -/
def Obligations.FuseboxChannelWrites : Prop :=
  ∀ (s : State) (t n k : Nat) (a : Attr) (on : Bool) (v : Word), n < 48 → k < 8 →
    MayWrite (s.tick t) a 0x40100000 0x40104000 →
    let w := v.toNat
    let mode := if w / 2 ^ 27 % 4 = 3 then 0 else w / 2 ^ 27 % 4
    let khz := max 1 (min (if 44 ≤ n then 5 else 25) (w / 2 ^ 16 % 32))
    let off := (s.chan n).state = .off
    let fresh := (s.tick t).latchesNow n
    let refused (c : Instr) : Prop := Ends c s fun s' =>
      OnlyRegs s t [F.CH_STAT_CFG_REFUSED n] s' ∧ s'.rd (F.CH_STAT_CFG_REFUSED n) = 1
    let valid := (∀ i, i < 7 → (s.shadowPoint n i).1 < (s.shadowPoint n (i + 1)).1 ∧
        (s.shadowPoint n (i + 1)).2 ≤ (s.shadowPoint n i).2) ∧
      (s.shadowPoint n 7).1 < scThreshold n ∧ ∀ i, i < 8 → 1 ≤ (s.shadowPoint n i).2
    (s.vital n = false → Ends (.hubCmdWrite t a n on) s fun s' =>
      OnlyRegs s t [F.CH_CTL_HUB_CMD n] s' ∧ s'.rd (F.CH_CTL_HUB_CMD n) = if on then 1 else 0) ∧
    (s.vital n = true → Ends (.hubCmdWrite t a n on) s (OnlyRegs s t [])) ∧
    Ends (.chFuseWrite t a n k v) s (fun s' => s'.regs = s.regs ∧ (s'.chan n).shadow.find? k = some w ∧
      (∀ j, j ≠ k → (s'.chan n).shadow.find? j = (s.chan n).shadow.find? j) ∧
      { s'.chan n with shadow := (s.chan n).shadow } = s.chan n ∧ ∀ m, m ≠ n → s'.chan m = s.chan m) ∧
    (off → valid → Ends (.curveApply t a n) s fun s' =>
      OnlyRegs s t ((List.range 8).map (F.CH_FUSE_I_THR n) ++ (List.range 8).map (F.CH_FUSE_T_MS n)) s' ∧
      ∀ i, i < 8 → s'.rd (F.CH_FUSE_I_THR n i) = (s.shadowPoint n i).1 % 2 ^ 16 ∧
        s'.rd (F.CH_FUSE_T_MS n i) = (s.shadowPoint n i).2 % 2 ^ 16) ∧
    (¬ (off ∧ valid) → refused (.curveApply t a n)) ∧
    (16 ≤ n → off → Ends (.chConfigWrite t a n false v) s fun s' =>
      OnlyRegs s t [F.CH_CTL_OUT_MODE n, F.CH_CTL_DITHER_AMP n, F.CH_CTL_SETPOINT n] s' ∧
      (mode ≠ s.rd (F.CH_CTL_OUT_MODE n) → s'.rd (F.CH_CTL_OUT_MODE n) = mode) ∧
      s'.rd (F.CH_CTL_DITHER_AMP n) = min 1000 (w / 2 ^ 16 % 2 ^ 11) ∧
      s'.rd (F.CH_CTL_SETPOINT n) = if mode = 2 then min 4000 (w % 2 ^ 16) else w % 2 ^ 16) ∧
    (16 ≤ n → ¬ off → mode ≠ s.rd (F.CH_CTL_OUT_MODE n) → Ends (.chConfigWrite t a n false v) s fun s' =>
      OnlyRegs s t [F.CH_STAT_CFG_REFUSED n, F.CH_CTL_DITHER_AMP n, F.CH_CTL_SETPOINT n] s' ∧
      s'.rd (F.CH_STAT_CFG_REFUSED n) = 1 ∧ s'.rd (F.CH_CTL_DITHER_AMP n) = min 1000 (w / 2 ^ 16 % 2 ^ 11)) ∧
    (16 ≤ n → off → Ends (.chConfigWrite t a n true v) s fun s' =>
      OnlyRegs s t [F.CH_PWM_PWM_KHZ n, F.CH_PWM_DITHER_HZ n] s' ∧
      s'.rd (F.CH_PWM_PWM_KHZ n) = khz ∧ s'.rd (F.CH_PWM_DITHER_HZ n) = min 400 (w % 2 ^ 9)) ∧
    (n < 16 → Ends (.chConfigWrite t a n true v) s (OnlyRegs s t [])) ∧
    (off → s.vital n = false → Ends (.chProfileWrite t a n v) s fun s' =>
      OnlyRegs s t [F.CH_PROFILE_PRIO n, F.CH_PROFILE_RETRY_MAX n, F.CH_PROFILE_SOFT_MS n, F.CH_PROFILE_INRUSH_MS n,
        F.CH_PROFILE_INRUSH_2A n] s' ∧
      s'.rd (F.CH_PROFILE_PRIO n) = min 1 (w / 2 ^ 27 % 4) ∧ s'.rd (F.CH_PROFILE_RETRY_MAX n) = w / 2 ^ 24 % 8 ∧
      s'.rd (F.CH_PROFILE_SOFT_MS n) = w / 2 ^ 16 % 256 ∧ s'.rd (F.CH_PROFILE_INRUSH_MS n) = w / 2 ^ 8 % 256 ∧
      s'.rd (F.CH_PROFILE_INRUSH_2A n) = min (s.rd F.FB_BUDGET_INRUSH_CAP / 2) (w % 256)) ∧
    (¬ off → w % 2 ^ 29 ≠ s.chProfile n % 2 ^ 29 → refused (.chProfileWrite t a n v)) ∧
    ((s.chan n).state = .latched → s.vital n = false → fresh = false → s.powerRuns n = true → Ends (.faultClr t a n) s fun s' =>
      (s'.chan n).state = .off ∧ s'.rd (F.CH_STAT_RETRY_CNT n) = 0 ∧ (∀ m, m ≠ n → s'.chan m = s.chan m) ∧
      RegsBut [F.CH_STAT_RETRY_CNT n] s s') ∧
    ((s.chan n).state = .latched → s.vital n = false → fresh = false → s.powerRuns n = false → refused (.faultClr t a n)) ∧
    ((s.chan n).state ≠ .latched ∨ s.vital n = true ∨ fresh = true → Ends (.faultClr t a n) s (OnlyRegs s t []))

/-- TIER 2. The budget's limits and the search for a faulted channel (R63, R64 and *FUSEBOX_FAULT_NEXT*): a write of BUDGET
is clamped to its ranges and clamps every channel's INRUSH_2A, and reservations and channel states stand; a read of
FAULT_NEXT names the next channel with a W1C bit of CH_STAT set before the present clock's updates (R14), and moves the search position unless it is the peek
alias. -/
def Obligations.FuseboxBudgetWriteAndFaultSearch : Prop :=
  ∀ (s : State) (t k : Nat) (a : Attr) (peek : Bool) (v : Word),
    ((s.tick t).passes 0x40103000 a true = true → Ends (.budgetWrite t a v) s fun s' =>
      let cap := max 20 (min 400 (v.toNat / 2 ^ 16 % 512))
      s'.rd F.FB_BUDGET_INRUSH_CAP = cap ∧ s'.rd F.FB_BUDGET_SUPPLY_SLEW = max 5 (min 400 (v.toNat % 512)) ∧
      (∀ n, n < 48 → s'.rd (F.CH_PROFILE_INRUSH_2A n) = min (s.rd (F.CH_PROFILE_INRUSH_2A n)) (cap / 2)) ∧
      s'.fuse = s.fuse ∧ s'.mem = s.mem) ∧
    ((s.tick t).passes (if peek then 0x4010B014 else 0x40103014) a false = true →
      let flags := (s.tick t).chFlags
      let at' (j : Nat) := (s.fuse.searchPos + 1 + j) % 48
      (k < 48 → flags (at' k) ≠ 0 → (∀ j, j < k → flags (at' j) = 0) →
        Ends (.faultNextRead t a peek) s fun s' => s'.resp = ⟨0, 2 ^ 31 + at' k * 2 ^ 16 + flags (at' k)⟩ ∧
          s'.regs = s.regs ∧ s'.fuse = { s.fuse with searchPos := if peek then s.fuse.searchPos else at' k }) ∧
      ((∀ j, j < 48 → flags (at' j) = 0) → Ends (.faultNextRead t a peek) s fun s' =>
        s'.resp = ⟨0, 0⟩ ∧ s'.regs = s.regs ∧ s'.fuse = s.fuse))

/-- TIER 2. Requests, windows and waits of the start budget (R44, R52, R58, R60 to R62, R197): a command ON of a channel in OFF
is queued at its tick, or latches the channel where its power engine does not run; a command OFF leads to OFF at once,
with both reservations released, the freewheel path open and what a conducting load held in the clamp (R466); the ramp window's close releases the slew and enters ON, the inrush window's close the
inrush; a start wait that closes reports once and leaves the request queued. -/
def Obligations.FuseboxRequestsAndWindows : Prop :=
  ∀ (s : State) (t n e vOut vBus : Nat), n < 48 →
    let c := s.chan n
    let read := [F.CH_DIAG_V_OUT n, F.PWRMGR_BUS_V_BUS]
    (c.state = .off → s.pwr.fuseUp = true → s.fuse.slotEnd.isSome = true → s.effCmd n = true →
      s.inPowerFail = false → s.pwr.state ≠ .sleepEntry →
      (s.powerRuns n = true → Ends (.commandOn t n vOut vBus) s fun s' => (s'.chan n).state = .queued ∧
        (s'.chan n).reqTick = t ∧ s'.fuse.fresh = s.fuse.fresh ++ [n] ∧ s'.fuse.queue = s.fuse.queue ∧
        RegsBut read s s' ∧ s'.mem = s.mem ∧ ∀ m, m ≠ n → s'.chan m = s.chan m) ∧
      (s.powerRuns n = false → Ends (.commandOn t n vOut vBus) s fun s' => (s'.chan n).state = .latched ∧
        RegsBut read s s' ∧ s'.mem = s.mem ∧ ∀ m, m ≠ n → s'.chan m = s.chan m)) ∧
    (s.effCmd n = false → (c.state = .queued ∨ c.state = .starting ∨ c.state = .on ∨ c.state = .retryWait) →
      Ends (.commandOff t n) s fun s' => (s'.chan n).state = .off ∧ (s'.chan n).inr = 0 ∧ (s'.chan n).slew = 0 ∧
        n ∉ s'.fuse.queue ∧ s'.rd (F.CH_STAT_RETRY_CNT n) = 0 ∧ (s'.chan n).heat = c.heat ∧
        (s'.chan n).wheel = false ∧ (c.state.live = true → (s'.chan n).clamp = true) ∧
        (∀ m, m ≠ n → s'.chan m = s.chan m) ∧ RegsBut [F.CH_STAT_RETRY_CNT n] s s') ∧
    (c.state = .starting → c.rampEnd ≤ t → Ends (.rampWindowClose t n) s fun s' =>
      s'.chan n = { c with state := .on, slew := 0, onAt := t } ∧ s'.regs = s.regs ∧ s'.fuse.queue = s.fuse.queue ∧
      ∀ m, m ≠ n → s'.chan m = s.chan m) ∧
    (c.inr ≠ 0 → c.inrushEnd ≤ t → Ends (.inrushWindowClose t n) s fun s' =>
      s'.chan n = { c with inr := 0 } ∧ s'.regs = s.regs ∧ s'.fuse.queue = s.fuse.queue ∧
      ∀ m, m ≠ n → s'.chan m = s.chan m) ∧
    (c.state = .queued → c.late = false → s.fuse.slotEnd = some e →
      max c.reqTick e + s.rd F.FB_START_WAIT_START_WAIT_MAX * 1000000 ≤ t → Ends (.startWaitExpiry t n) s fun s' =>
        s'.rd (F.CH_STAT_START_LATE n) = 1 ∧ s'.chan n = { c with late := true } ∧ s'.fuse.queue = s.fuse.queue ∧
        WroteOne s s' 2 7 (if s.vital n = true then 5 else 3) n 0x0F) ∧
    (s.fuse.slotEnd = some e → e ≤ t → Ends (.wakeSlotEnd t) s fun s' =>
      OnlyRegs s t [F.NETMGT_WSLOT_ACTIVE] s' ∧ s'.rd F.NETMGT_WSLOT_ACTIVE = 0)

/-- TIER 2. A budget tick (R44, R59): a queued channel whose effective command is OFF, or has fallen since the last tick, is OFF after it, and the reservations
do not grow beyond the caps that the tick finds. -/
def Obligations.FuseboxTickKeepsBudget : Prop :=
  ∀ (s : State) (t : Nat), Ends (.budgetTick t) s fun s' =>
    s'.resvInrush ≤ max s.resvInrush (s.rd F.FB_BUDGET_INRUSH_CAP) ∧
    s'.resvSlew ≤ max s.resvSlew (s.rd F.FB_BUDGET_SUPPLY_SLEW) ∧ s'.mem = s.mem ∧
    ∀ n, n < 48 → (s.chan n).state = .queued → (s.chan n).fell = true ∨ s.effCmd n = false → (s'.chan n).state = .off

/-- TIER 2. The electronic fuse (R48): one evaluation adds the share of the highest point that the current reaches, or cools
where it reaches none, in 40 bits; a heat of 2^32 sets FUSE_TRIP and trips a channel in STARTING or ON, which leaves conduction. The points are
the active curve as the margin planner derates it (R399). -/
def Obligations.FuseEvaluation : Prop :=
  ∀ (s : State) (t n k : Nat) (i fast : Int), n < 48 →
    let thr (j : Nat) := s.rd (F.CH_FUSE_I_THR n j) * (100 - s.rd (derateFld n)) / 100
    let h := (s.chan n).heat
    let evaluates (heat : Nat) : Prop := Ends (.fuseEvalTick t n i fast) s fun s' =>
      (s'.chan n).heat = heat ∧ (∀ m, m ≠ n → s'.chan m = s.chan m) ∧ s'.mem = s.mem ∧
      (heat < 2 ^ 32 → (s'.chan n).state = (s.chan n).state ∧ s'.rd (F.CH_STAT_FUSE_TRIP n) = s.rd (F.CH_STAT_FUSE_TRIP n)) ∧
      (2 ^ 32 ≤ heat → s'.rd (F.CH_STAT_FUSE_TRIP n) ≠ 0) ∧
      (2 ^ 32 ≤ heat → (s.chan n).state.live = false → (s'.chan n).state = (s.chan n).state) ∧
      (2 ^ 32 ≤ heat → (s.chan n).state.live = true → (s'.chan n).inr = 0 ∧ (s'.chan n).slew = 0 ∧
        (s'.chan n).state = (if s.rd (F.CH_STAT_RETRY_CNT n) < s.rd (F.CH_PROFILE_RETRY_MAX n) then .retryWait else .latched))
    (k < 8 → thr k ≤ i.natAbs → (∀ j, k < j → j < 8 → i.natAbs < thr j) →
      evaluates ((h + 2 ^ 32 / (100 * s.rd (F.CH_FUSE_T_MS n k))) % 2 ^ 40)) ∧
    ((∀ j, j < 8 → i.natAbs < thr j) → evaluates (h - min h (2 ^ 32 / (100 * s.rd (F.CH_TIMING_COOL_MS n)))))

/-- TIER 2. The other protection layers (R47, R51, R52, R68): the short-circuit cut and over-temperature lead a conducting
channel to RETRY_WAIT or LATCHED with its reservations released, reverse current to LATCHED; over-temperature of a
channel that does not conduct, and an open load, only report; each sets its bit; a retry is a request. -/
def Obligations.FuseboxFaultReactions : Prop :=
  ∀ (s : State) (t n vOut vBus : Nat) (i tj : Int), n < 48 →
    let c := s.chan n
    let retries := s.rd (F.CH_STAT_RETRY_CNT n) < s.rd (F.CH_PROFILE_RETRY_MAX n)
    let trips (cmd : Instr) (f : Fld) (kind : Nat) : Prop := Ends cmd s fun s' =>
      s'.rd f ≠ 0 ∧ (s'.chan n).state = (if retries then .retryWait else .latched) ∧
      (retries → s'.rd (F.CH_STAT_RETRY_CNT n) = (s.rd (F.CH_STAT_RETRY_CNT n) + 1) % 8 ∧ (s'.chan n).tripAt = t) ∧
      (s'.chan n).inr = 0 ∧ (s'.chan n).slew = 0 ∧ (s'.chan n).heat = c.heat ∧ n ∉ s'.fuse.queue ∧
      (∀ m, m ≠ n → s'.chan m = s.chan m) ∧ s'.mem = s.mem ∧
      (s.rd f = 0 → WroteOne s s' 2 kind (if s.vital n = true then 6 else 4) n 0)
    (c.state.live = true → scThreshold n ≤ i.natAbs → trips (.shortCircuitCut t n i) (F.CH_STAT_SHORT_GND n) 2) ∧
    (c.state.live = true → 175 ≤ tj → s.pwr.fuseUp = true → trips (.overTempDetected t n tj) (F.CH_STAT_OVER_TEMP n) 5) ∧
    (c.state.live = false → 175 ≤ tj → s.pwr.fuseUp = true → Ends (.overTempDetected t n tj) s fun s' =>
      s'.rd (F.CH_STAT_OVER_TEMP n) ≠ 0 ∧ s'.fuse = s.fuse) ∧
    (c.state.live = true → 10 * i < -(contRating n : Int) → Ends (.revCurrentDetected t n i) s fun s' =>
      s'.rd (F.CH_STAT_REV_CURRENT n) ≠ 0 ∧ (s'.chan n).state = .latched ∧ (s'.chan n).inr = 0 ∧
      (s'.chan n).slew = 0 ∧ ∀ m, m ≠ n → s'.chan m = s.chan m) ∧
    (c.state = .on → 200 * i.natAbs < s.rd (F.CH_DIAG_OL_THRESH n) * contRating n →
      Ends (.openLoadDetected t n i) s fun s' => s'.rd (F.CH_STAT_OPEN_LOAD n) ≠ 0 ∧ s'.fuse = s.fuse) ∧
    (c.state = .retryWait → c.tripAt + s.rd (F.CH_TIMING_RETRY_DELAY_MS n) * 1000000 ≤ t → c.heat < 2 ^ 31 → tj ≤ 150 →
      s.effCmd n = true → s.inPowerFail = false → s.pwr.state ≠ .sleepEntry → s.powerRuns n = true →
      Ends (.retryDelayExpiry t n tj vOut vBus) s fun s' =>
        (s'.chan n).state = .queued ∧ s'.fuse.fresh = s.fuse.fresh ++ [n] ∧ (∀ m, m ≠ n → s'.chan m = s.chan m)) ∧
    (c.state = .on → c.onAt + 60000000000 ≤ t → Ends (.retryCountReset t n) s fun s' =>
      OnlyRegs s t [F.CH_STAT_RETRY_CNT n] s' ∧ s'.rd (F.CH_STAT_RETRY_CNT n) = 0)

/-- TIER 2. Diagnostics, regulation, ageing and the aggregate (R45, R53, R54, R67, R70, R476): what each measurement leaves in
the registers, with no channel's state changed. The regulator's duty in CURRENT mode is an open value (log entry 4). -/
def Obligations.FuseboxMeasurements : Prop :=
  ∀ (s : State) (t n vUp vDown bus rds mean last : Nat), n < 48 →
    let c := s.chan n
    (s.offdiagRuns n = true → Ends (.offdiagCycle t n vUp vDown bus) s fun s' => s'.fuse = s.fuse ∧
      s'.flag (F.CH_STAT_OPEN_LOAD n) = (s.flag (F.CH_STAT_OPEN_LOAD n) || decide (60 * bus ≤ 100 * vUp)) ∧
      s'.flag (F.CH_STAT_SHORT_GND n) = (s.flag (F.CH_STAT_SHORT_GND n) ||
        decide (s.rd (F.CH_DIAG2_SG_THRESH n) ≠ 0 ∧ vUp < s.rd (F.CH_DIAG2_SG_THRESH n))) ∧
      s'.flag (F.CH_STAT_SHORT_SUP n) = (s.flag (F.CH_STAT_SHORT_SUP n) || decide (50 * bus ≤ 100 * vDown))) ∧
    (16 ≤ n → c.state.live = true → s.rd (F.CH_CTL_OUT_MODE n) = 1 → Ends (.regulatorStep t n) s fun s' =>
      s'.chan n = { c with duty := s.pageWord n 8 (s.rd (F.CH_CTL_SETPOINT n)) % 65536 } ∧ s'.regs = s.regs ∧ ∀ m, m ≠ n → s'.chan m = s.chan m) ∧
    (16 ≤ n → c.state.live = true → s.rd (F.CH_CTL_OUT_MODE n) = 2 → s.rd (F.CH_PWM_DITHER_HZ n) = 0 →
      Ends (.regulatorStep t n) s fun s' => (s'.chan n).target = 6250 * min 4000 (s.rd (F.CH_CTL_SETPOINT n)) ∧
        (s'.chan n).duty < 65536 ∧ (s'.chan n).state = c.state ∧ s'.regs = s.regs ∧ ∀ m, m ≠ n → s'.chan m = s.chan m) ∧
    (s.conducts n = true → 200 ≤ (toSigned 16 (s.rd (F.CH_STAT_I_MEAS n))).natAbs → Ends (.ageMeasure t n rds) s fun s' =>
      OnlyRegs s t [F.CH_AGE_RDS_MEAS n, F.CH_AGE_DRIFT n, F.CH_AGE_AGE_VALID n] s' ∧
      s'.rd (F.CH_AGE_RDS_MEAS n) = min 65535 rds ∧ s'.rd (F.CH_AGE_AGE_VALID n) = 1) ∧
    (2500 < mean → Ends (.aggWindow t mean last) s fun s' => s'.rd F.FB_AGG_AGG_HIGH = 1 ∧
      s'.rd F.FB_AGG_AGG_I = min 65535 last ∧ s'.fuse = s.fuse ∧ WroteOne s s' 2 8 5 0 0) ∧
    (mean ≤ 2500 → Ends (.aggWindow t mean last) s (OnlyRegs s t [F.FB_AGG_AGG_I]))

/-! ### The vital lanes -/

/-- TIER 2. Agreement with three ACTIVE lanes (R80, R81, R474): every digital bit and word takes the value that two lanes hold,
a word on which all differ its safe value, every analogue value the median; the flag is set where the lanes are not
unanimous, for an analogue value where the spread exceeds TOL. -/
def Obligations.LanesAgreementOfThree : Prop :=
  ∀ (s : State) (t : Nat) (l : LaneId) (a b c : InImage), s.lanesRun = true → s.actives = [.a, .b, .c] →
    (s.ln .a).img = some a → (s.ln .b).img = some b → (s.ln .c).img = some c → (∀ m, m ≠ l → m ∈ (s.ln l).got) →
    (s.ln l).agreed = none → (s.ln l).boundary + 100000 ≤ t → t ≤ (s.ln l).boundary + 250000 →
    let maj (x y z : Bool) : Bool := (x && y) || (y && z) || (x && z)
    Ends (.agreementPhase t l) s fun s' => ∃ g, (s'.ln l).agreed = some g ∧
      (∀ u, g.img.din.testBit u = maj (a.din.testBit u) (b.din.testBit u) (c.din.testBit u) ∧
        g.dinQ.testBit u = !(a.din.testBit u == b.din.testBit u && b.din.testBit u == c.din.testBit u)) ∧
      (∀ u, u < 16 →
        let x := a.ain.getD u 0
        let y := b.ain.getD u 0
        let z := c.ain.getD u 0
        g.img.ain.getD u 0 = x + y + z - max x (max y z) - min x (min y z) ∧
        g.ainQ.testBit u = decide ((s.rd (F.LANEIF_IN_CFG_TOL u) : Int) < max x (max y z) - min x (min y z))) ∧
      (∀ w, w < 512 →
        let x := s.vinAs a w
        let y := s.vinAs b w
        let z := s.vinAs c w
        let v := g.img.vin.getD 0 w
        (x = y ∨ x = z → v = x) ∧ (y = z → v = y) ∧ (x ≠ y → y ≠ z → x ≠ z → v = s.lane.vinSafe.getD 0 w) ∧
        (w ∈ g.vinQ ↔ ¬ (x = y ∧ y = z))) ∧
      (∀ k j,
        let x := (a.tiles.getD k 0).testBit j
        let y := (b.tiles.getD k 0).testBit j
        let z := (c.tiles.getD k 0).testBit j
        (g.img.tiles.getD k 0).testBit j = maj x y z ∧ (g.tilesQ.getD k 0).testBit j = !(x == y && y == z))

/-- TIER 2. Agreement with exactly two ACTIVE lanes (R82): a digital bit or word on which the two agree takes that value, one on
which they differ its safe value with its flag set; an analogue value is the mean rounded down, flagged where the two
differ by more than TOL. A third lane's image does not enter. -/
def Obligations.LanesAgreementOfTwo : Prop :=
  ∀ (s : State) (t : Nat) (l m : LaneId) (a b : InImage), s.lanesRun = true → l ≠ m →
    (s.actives = [l, m] ∨ s.actives = [m, l]) → (s.ln l).img = some a → (s.ln m).img = some b → m ∈ (s.ln l).got →
    (s.ln l).agreed = none → (s.ln l).boundary + 100000 ≤ t → t ≤ (s.ln l).boundary + 250000 →
    Ends (.agreementPhase t l) s fun s' => ∃ g, (s'.ln l).agreed = some g ∧
      (∀ u, u < 16 → g.img.din.testBit u =
          (if a.din.testBit u = b.din.testBit u then a.din.testBit u else s.flag (F.LANEIF_IN_CFG_DIN_SAFE u)) ∧
        g.dinQ.testBit u = (a.din.testBit u != b.din.testBit u)) ∧
      (∀ u, u < 16 →
        let x := a.ain.getD u 0
        let y := b.ain.getD u 0
        let v := g.img.ain.getD u 0
        2 * v ≤ x + y ∧ x + y < 2 * v + 2 ∧ g.ainQ.testBit u = decide (s.rd (F.LANEIF_IN_CFG_TOL u) < (x - y).natAbs)) ∧
      (∀ w, w < 512 → (s.vinAs a w = s.vinAs b w → g.img.vin.getD 0 w = s.vinAs a w ∧ w ∉ g.vinQ) ∧
        (s.vinAs a w ≠ s.vinAs b w → g.img.vin.getD 0 w = s.lane.vinSafe.getD 0 w ∧ w ∈ g.vinQ)) ∧
      (∀ k j, (g.img.tiles.getD k 0).testBit j = ((a.tiles.getD k 0).testBit j && (b.tiles.getD k 0).testBit j) ∧
        (g.tilesQ.getD k 0).testBit j = ((a.tiles.getD k 0).testBit j != (b.tiles.getD k 0).testBit j))

/-- TIER 2. Exclusion (R72, R93, R94, R96 and *Table: Vote mode*): a cause of its own in an ACTIVE lane excludes it, which stops
LANE_OK and leaves its lines OFF; the other ACTIVE lanes assert their exclusion lines; 2OO3 becomes 2OO2 with one record,
2OO2 becomes SAFE, and the lane that remains drives the safe pattern. A lane's hold latches are set where the third lane's
line is asserted; BIST decides whether LANE_OK returns. -/
def Obligations.LanesExclusion : Prop :=
  ∀ (s : State) (t tile : Nat) (l m : LaneId) (f : SelfFault), tile < 6 → l ≠ m →
    let code := match f with
      | .lockstep => 2
      | .memEcc => 3
      | .supply => 6
    let out (s' : State) (cause : Nat) : Prop := (s'.ln l).state = .excluded ∧ (s'.ln l).laneOk = 0 ∧
      (s'.ln l).driven = 0 ∧ s'.rd (F.LANEIF_LANE_CAUSE l.idx) = cause
    let from3 (c : Instr) (cause : Nat) : Prop := Ends c s fun s' => out s' cause ∧ s'.lane.vote = .v2oo2 ∧
      (∀ k, k ≠ l → (s'.ln k).state = .active ∧ l ∈ (s'.ln k).exclFor ∧ (s'.ln k).driven = (s.ln k).driven) ∧
      WroteOne s s' 3 1 6 l.idx 0
    let from2 (c : Instr) (cause : Nat) : Prop := Ends c s fun s' => out s' cause ∧ s'.lane.vote = .safe ∧
      s'.lane.armed = false ∧ (s'.ln m).state = .active ∧ (s'.ln m).driven = s.safeMask
    let x := s.ln l
    (s.actives = [.a, .b, .c] → s.lane.vote = .v2oo3 → s.cyc.oc ≠ .armed →
      from3 (.laneFault t l f) code ∧ from3 (.adcRefCheck t l false) 9 ∧ from3 (.laneOkLost t l tile) 11) ∧
    ((s.actives = [l, m] ∨ s.actives = [m, l]) → s.lane.vote = .v2oo2 →
      from2 (.laneFault t l f) code ∧ from2 (.adcRefCheck t l false) 9 ∧ from2 (.laneOkLost t l tile) 11) ∧
    (x.state = .excluded → s.lane.abortAt ≠ some s.cycleNo → Ends (.laneFault t l f) s fun s' => s'.ln l = { x with laneOk := 0 } ∧
      s'.lane.vote = s.lane.vote ∧ s'.regs = s.regs) ∧
    Ends (.adcRefCheck t l true) s (OnlyRegs s t []) ∧
    ((∀ k, k ≠ l → l ∈ (s.ln k).exclFor) → Ends (.exclusionLineAsserted t m l) s fun s' =>
      s'.ln l = { x with hold := 63 } ∧ (∀ k, k ≠ l → s'.ln k = s.ln k) ∧ s'.regs = s.regs) ∧
    (x.state = .excluded → x.bistStart.isSome = true → x.bistOk = false →
      Ends (.bistComplete t l true) s (fun s' => s'.ln l = { x with bistOk := true, laneOk := 63, bistStart := none } ∧
        s'.regs = s.regs) ∧
      Ends (.bistComplete t l false) s (fun s' => OnlyRegs s t [F.LANEIF_LANE_BIST_FAIL_CNT l.idx] s' ∧
        s'.rd (F.LANEIF_LANE_BIST_FAIL_CNT l.idx) = min 255 (s.rd (F.LANEIF_LANE_BIST_FAIL_CNT l.idx) + 1))) ∧
    (∀ b, x.state = .excluded → x.bistStart = some b → b + 60000000000 ≤ t →
      Ends (.bistRetryTimer t l) s fun s' => s'.ln l = { x with bistStart := some t } ∧ s'.regs = s.regs)

/-- TIER 2. Alignment and reintegration (R75, R76, R94, R98, R99, R101, R103): a lane steers its next cycle by its distance
from the median of three boundaries, within the correction limit; at the boundary of the lower-letter ACTIVE lane an
excluded lane begins an attempt, or locks out at the fourth in an hour; the final copy with equal signatures leads to
SHADOW, with the carried variables as the assembled bytes hold them, and with unequal ones aborts; the joint release returns
the lane to the vote where every tile that holds it sees its LANE_OK, and aborts with cause 5 where one does not. -/
def Obligations.LanesReintegration : Prop :=
  ∀ (s : State) (t : Nat) (l m r : LaneId) (h : LaneId → Nat) (heard : List (LaneId × Nat)) (img : Sensed)
    (diff : List (Nat × Nat)) (p : Program), l ≠ m → r ≠ l → r ≠ m → s.lanesRun = true → s.pair.state = .alone → h l = t →
    (∀ k, k ≠ l → heard.find? (fun x => x.1 = k) = some (k, h k)) →
    let median : Int := (h .a : Int) + h .b + h .c - max (h .a : Int) (max (h .b) (h .c)) - min (h .a : Int) (min (h .b) (h .c))
    let half : Int := (h l : Int) - ((h l : Int) + h m) / 2
    (s.actives = [.a, .b, .c] → ((h l : Int) - median).natAbs ≤ s.skewBound → Ends (.laneBoundary t l heard img) s fun s' =>
      (s'.ln l).boundary = h l ∧ (s'.ln l).state = .active ∧
      (s'.ln l).period = ((s.period : Int) - max (-(s.corrLimit : Int)) (min s.corrLimit ((h l : Int) - median))).toNat) ∧
    (s.actives = [l, m] → half.natAbs ≤ s.skewBound → (s.tick t).mayReturn r = true →
      (((s.tick t).recentAttempts r).length < 3 → Ends (.laneBoundary t l heard img) s fun s' =>
        (s'.ln r).state = .returning ∧ (s'.ln r).vars = [] ∧ s'.rd F.LANEIF_REINT_IN_PROGRESS = 1 ∧
        s'.rd F.LANEIF_REINT_LANE = r.idx ∧ s'.rd F.LANEIF_REINT_SHADOW_CNT = 0) ∧
      (3 ≤ ((s.tick t).recentAttempts r).length → Ends (.laneBoundary t l heard img) s fun s' =>
        (s'.ln r).state = .lockedOut)) ∧
    ((s.ln r).state = .returning → s.lane.frozen = true → s.lane.copySig ≠ [] → s.actives = [l, m] →
      s.lane.copyWin.1 ≤ t → t < s.lane.copyWin.2 → s.cyc.act = some p → (∀ d, d ∈ p.vars → p.decl d.id = some d) →
      let bytes := s.copyOf l p diff
      ((∀ x, x ∈ s.lane.copySig → x = crc32 bytes) → Ends (.finalCopyRx t r diff) s fun s' => (s'.ln r).state = .shadow ∧
        s'.rd F.LANEIF_REINT_SHADOW_CNT = 0 ∧ s'.ln l = s.ln l ∧ s'.ln m = s.ln m ∧
        ∀ d, d ∈ p.vars → d.carried = true → (s'.ln r).vars.find? d.id =
          some (((List.range d.size).map fun k => bytes.getD (d.offset + k) 0 * 256 ^ k).sum)) ∧
      ((∃ x, x ∈ s.lane.copySig ∧ x ≠ crc32 bytes) → Ends (.finalCopyRx t r diff) s fun s' => (s'.ln r).state = .excluded ∧
        s'.rd F.LANEIF_REINT_ABORT_CAUSE = 2 ∧ s'.rd F.LANEIF_REINT_IN_PROGRESS = 0)) ∧
    ((s.ln r).state = .shadow → s.rd F.LANEIF_REINT_SHADOW_CNT = 16 → s.actives = [l, m] →
      ((∀ k, k ≠ r → (s.ln k).updated = true ∧ (s.ln k).updAt + 2000 ≤ t) → Ends (.reintRelease t r) s fun s' =>
        r ∉ (s'.ln l).exclFor ∧ r ∉ (s'.ln m).exclFor ∧ s'.regs = s.regs) ∧
      (r ∉ (s.ln l).exclFor → r ∉ (s.ln m).exclFor → s.lane.vote = .v2oo2 →
        ((s.ln r).hold &&& (s.ln r).laneOk = (s.ln r).hold → Ends (.jointRelease t r) s fun s' => (s'.ln r).state = .active ∧
          (s'.ln r).hold = 0 ∧ s'.lane.vote = .v2oo3 ∧ s'.rd F.LANEIF_REINT_IN_PROGRESS = 0 ∧ WroteOne s s' 3 2 6 r.idx 0) ∧
        ((s.ln r).hold &&& (s.ln r).laneOk ≠ (s.ln r).hold → Ends (.jointRelease t r) s fun s' =>
          (s'.ln r).state = .excluded ∧ s'.rd F.LANEIF_REINT_ABORT_CAUSE = 5 ∧ r ∈ (s'.ln l).exclFor ∧
          r ∈ (s'.ln m).exclFor ∧ s'.lane.vote = .v2oo2)))

/-- TIER 2. The cycle (R73, R74, R78, R84 to R87, R89, R90, R112, R113): the first marker swaps the VIN buffers; a frame with a
bad CRC is discarded and counted; execute takes the oldest waiting image and its end leaves the output image; the deadline
sends it, or an overrun frame; compare counts an outvoted lane and leads to SAFE where no two agree; command update arms
and drives the lane's own bits; a gate counts a stable line. -/
def Obligations.LanesCyclePhases : Prop :=
  ∀ (s : State) (t n : Nat) (l m : LaneId) (k : FrameKind) (g : Agreed) (p : Program) (o : OutImage)
    (fs : List ForceUse) (rest : List (Nat × Agreed × List ForceUse)) (work : List TaskRun), s.lanesRun = true →
    let x := s.ln l
    let both := (s.ln l).state = .active ∧ (s.ln m).state = .active
    let phase (a b : Nat) : Prop := x.boundary + a ≤ t ∧ t < x.boundary + b
    (x.boundary ≤ t → s.lane.opened = true → s.cyc.cmds = [] → s.cyc.token = none → s.rd F.PAIR_CFG_PAIR_EN = 0 →
      Ends (.boundaryMarkerRx t l ((s.cycleNo + 1) % 2 ^ 32)) s fun s' =>
        s'.cycleNo = (s.cycleNo + 1) % 2 ^ 32 ∧ s'.rd F.LANEIF_IMG_SEQ_VIN_SEQ = (s.cycleNo + 1) % 2 ^ 16 ∧
        (∀ w, w < 512 → s'.lane.vinFront.getD 0 w = s.rd (F.LANEIF_VIN_DATA w) ∧
          s'.rd (F.LANEIF_VIN_DATA w) = s.lane.vinFront.getD 0 w % 2 ^ 32) ∧ s'.lane.compared = false ∧
        s'.lane.overrun = false ∧ s'.lane.lanes = s.lane.lanes) ∧
    (x.boundary ≤ t → s.lane.opened = false → s.cyc.cmds = [] → s.cyc.token = none → s.rd F.PAIR_CFG_PAIR_EN = 0 →
      s.rd F.CYCMGR_CFG_AUTOSTART = 0 → Ends (.boundaryMarkerRx t l n) s fun s' =>
        s'.cycleNo = s.cycleNo ∧ s'.lane.opened = true ∧ s'.lane.lanes = s.lane.lanes) ∧
    (l ≠ m → Ends (.laneFrameRx t l m .input s.cycleNo true) s fun s' => m ∈ (s'.ln l).got ∧ s'.regs = s.regs ∧
      ∀ j, j ≠ l → s'.ln j = s.ln j) ∧
    (l ≠ m → Ends (.laneFrameRx t l m .output s.cycleNo true) s fun s' => m ∈ (s'.ln l).gotOut ∧ s'.regs = s.regs ∧
      ∀ j, j ≠ l → s'.ln j = s.ln j) ∧
    (l ≠ m → k ≠ .input → k ≠ .output → Ends (.laneFrameRx t l m k n false) s (OnlyRegs s t [linkCrcFld (linkOf l m)])) ∧
    (l ≠ m → ¬ both → (k = .input ∨ k = .output) → Ends (.laneFrameRx t l m k n false) s fun s' =>
      (s'.rd F.LANEIF_LINK_LINK_FAULT).testBit (linkIdx (linkOf l m)) = true ∧ s'.lane = s.lane) ∧
    (l ≠ m → both → (linkOf l m) ∉ s.lane.linkPrev → (k = .input ∨ k = .output) → Ends (.laneFrameRx t l m k n false) s fun s' =>
      (s'.rd F.LANEIF_LINK_LINK_FAULT).testBit (linkIdx (linkOf l m)) = true ∧ linkOf l m ∈ s'.lane.linkNow ∧
      s'.lane.lanes = s.lane.lanes ∧ s'.lane.vote = s.lane.vote) ∧
    (l ≠ m → both → (linkOf l m) ∈ s.lane.linkPrev → (k = .input ∨ k = .output) →
      Ends (.laneFrameRx t l m k n false) s fun s' => (s'.ln (linkOf l m).2).state = .excluded ∧
        s'.rd (F.LANEIF_LANE_CAUSE (linkOf l m).2.idx) = 8) ∧
    (x.executes = true → x.agreed.isSome = true → x.boundary + 250000 ≤ t → t < x.deadline → x.running = none →
      x.queue = (n, g, fs) :: rest → n ≠ s.cyc.ocCyc → s.cyc.act = some p →
      Ends (.executePhase t l work) s fun s' => (s'.ln l).running = some n ∧ (s'.ln l).queue = rest ∧
        (s'.ln l).state = x.state ∧ ∀ j, j ≠ l → s'.ln j = s.ln j) ∧
    (x.running = some n → s.progOf l = some p → x.queue = [] → x.forces = [] →
      Ends (.executeComplete t l work) s fun s' => (s'.ln l).running = none ∧ (s'.ln l).outCyc = n ∧ (s'.ln l).outAt = t ∧
        (s'.ln l).out = some (s.outImage l p) ∧ ∀ j, j ≠ l → s'.ln j = s.ln j) ∧
    (s.cyc.expected = true → x.executes = true → x.deadline ≤ t → x.sent = none → x.out = some o → x.outCyc = s.cycleNo →
      x.outAt < x.deadline →
      Ends (.outputDeadline t l) s fun s' => s'.ln l = { x with sent := some (.image o) } ∧
        s'.lane.overrun = s.lane.overrun ∧ ∀ j, j ≠ l → s'.ln j = s.ln j) ∧
    (s.cyc.expected = true → x.state = .active → x.deadline ≤ t → x.sent = none → (x.outCyc ≠ s.cycleNo ∨ x.deadline ≤ x.outAt) →
      Ends (.outputDeadline t l) s fun s' =>
      (s'.ln l).sent = some .overrun ∧ s'.lane.overrun = true) ∧
    (s.cyc.expected = true → s.lane.overrun = false → s.lane.compared = false → s.lane.frozen = false →
      s.pair.out = none → s.actives = [.a, .b, .c] → s.lane.vote = .v2oo3 → (∀ j, (s.sentImage j).isSome = true) →
      (∀ i j, i ≠ j → i ∈ (s.ln j).gotOut) →
      ((∀ i j, i ≠ l → j ≠ l → s.sentImage i = s.sentImage j) → (∀ j, j ≠ l → s.sentImage l ≠ s.sentImage j) →
        Ends (.outputCompare t []) s fun s' => s'.lane.compared = true ∧
          s'.rd (F.LANEIF_LANE_DISAGREE_CNT l.idx) = min 255 (s.rd (F.LANEIF_LANE_DISAGREE_CNT l.idx) + 1) ∧
          (x.disRun = 0 → (s'.ln l).state = .active ∧ (s'.ln l).disRun = 1 ∧ s'.lane.vote = .v2oo3) ∧
          (1 ≤ x.disRun → (s'.ln l).state = .excluded ∧ s'.rd (F.LANEIF_LANE_CAUSE l.idx) = 1 ∧ s'.lane.vote = .v2oo2)) ∧
      ((∀ i j, i ≠ j → s.sentImage i ≠ s.sentImage j) → Ends (.outputCompare t []) s fun s' =>
        s'.lane.vote = .safe ∧ s'.lane.armed = false ∧ ∀ j, (s'.ln j).driven = s.safeMask)) ∧
    (x.state = .active → x.updated = false → phase (x.period - 100000) x.period → s.cyc.expected = true → s.lane.overrun = false → s.cyc.mode = .run →
      s.lane.armed = true → s.lane.vote ≠ .safe → s.rd F.PAIR_CFG_PAIR_EN = 0 → s.sentImage l = some o →
      Ends (.commandUpdate t l) s fun s' => (s'.ln l).updated = true ∧ (s'.ln l).updAt = t ∧
        (s'.ln l).driven = s.unblocked o.cmd + o.permit % 64 * 2 ^ 48 + bit s.pair.claim * 2 ^ 54 ∧
        ∀ j, j ≠ l → s'.ln j = s.ln j) ∧
    (x.state = .active → x.updated = false → phase (x.period - 100000) x.period → s.cyc.expected = true → s.lane.overrun = false → s.cyc.mode = .run →
      s.lane.armed = false → s.lane.vote = .notArmed → s.rd F.PAIR_CFG_PAIR_EN = 0 → s.actives = [.a, .b, .c] →
      s.allBlocked = false → s.rd F.SETUP_STAT_SRC ≠ 0 → Ends (.commandUpdate t l) s fun s' =>
        s'.lane.armed = true ∧ s'.lane.vote = .v2oo3) ∧
    (n < 48 → x.lineAt.getD 0 n + 400 ≤ t → s.pair.source = false → Ends (.thresholdLineChange t l (.cmd n)) s fun s' =>
      (s'.ln l).counted.testBit n = x.driven.testBit n ∧ (∀ j, j ≠ n → (s'.ln l).counted.testBit j = x.counted.testBit j) ∧
      s'.regs = s.regs ∧ ∀ j, j ≠ l → s'.ln j = s.ln j)

/-! ### Cyclic programs -/

/-- TIER 2. The commands of CYCMGR (R114, R115): a command captured while fewer than four are queued is queued with its instant (a TOKEN_LOAD with what the token window then holds);
one captured while four are queued is refused at once with CMD_RESULT 0x6. (RUN and RUN_COLD are refused while a SETUP
APPLY runs.) -/
def Obligations.CyclicCommandsQueue : Prop :=
  ∀ (s : State) (t : Nat) (a : Attr), (s.tick t).passes 0x40300004 a true = true →
    let queues (c : Instr) (k : CycCmd) (code : Nat) : Prop :=
      (s.cyc.cmds.length < 4 → (s.setup.applying = false ∨ s.rd F.SETUP_STAT_BUSY = 0) → Ends c s fun s' =>
        s'.cyc = { s.cyc with cmds := s.cyc.cmds ++ [(t, k)] } ∧ s'.regs = s.regs ∧ s'.lane = s.lane ∧
        s'.mem = s.mem) ∧
      (4 ≤ s.cyc.cmds.length → Ends c s fun s' => OnlyRegs s t [F.CYCMGR_STAT_CMD_RESULT, F.CYCMGR_STAT_LAST_CMD] s' ∧
        s'.rd F.CYCMGR_STAT_CMD_RESULT = 6 ∧ s'.rd F.CYCMGR_STAT_LAST_CMD = code)
    queues (.cycRun t a) .run 1 ∧ queues (.cycRunCold t a) .runCold 2 ∧ queues (.cycStop t a) .stop 3 ∧
    queues (.cycHold t a) .hold 4 ∧ queues (.cycStep t a) .step 5 ∧ queues (.cycResume t a) .resume 6 ∧
    queues (.ocArm t a) .ocArm 7 ∧ queues (.ocCancel t a) .ocCancel 8 ∧ queues (.tokenLoad t a) (.tokenLoad s.tokenInWindow) 9 ∧
    queues (.tokenRevoke t a) .tokenRevoke 10 ∧ queues (.forceCommit t a) .forceCommit 11

/-- TIER 2. A queued mode command acts at the swap that opens the next cycle as *Table: Program modes* says, and one the table
does not list is refused with CMD_RESULT 0x1 (R117); the result and the code stand in CYCMGR_STAT (R115). -/
def Obligations.ProgramModesFollowTable : Prop :=
  ∀ (s : State) (t t0 : Nat) (l : LaneId) (c : CycCmd) (p : Program), s.lanesRun = true → (s.ln l).boundary ≤ t →
    s.lane.opened = true → t0 < t → s.setup.applying = false → s.cyc.cmds = [(t0, c)] → s.cyc.token = none → s.rd F.PAIR_CFG_PAIR_EN = 0 →
    s.cyc.act = some p →
    let acts (result : Nat) (mode : ProgMode) : Prop := Ends (.boundaryMarkerRx t l ((s.cycleNo + 1) % 2 ^ 32)) s fun s' =>
      s'.cyc.mode = mode ∧ s'.cyc.cmds = [] ∧ s'.rd F.CYCMGR_STAT_CMD_RESULT = result ∧
      s'.rd F.CYCMGR_STAT_LAST_CMD = c.code ∧ s'.rd F.CYCMGR_CMD_LOG_ENTRY0 = 128 + 8 * c.code + result ∧
      s'.cyc.expected = (decide (mode = .run) || decide (c = .step ∧ mode = .hold ∧ result = 0))
    (s.cyc.mode = .stop → (c = .run ∨ c = .runCold) → (∀ j, (s.ln j).bankHash = some p.hash) → acts 0 .starting) ∧
    (s.cyc.mode = .stop → (c = .run ∨ c = .runCold) → (∃ j, (s.ln j).bankHash ≠ some p.hash) → acts 4 .stop) ∧
    (s.cyc.mode = .safe → (c = .run ∨ c = .runCold) → acts 0 .starting) ∧
    ((s.cyc.mode = .run ∨ s.cyc.mode = .hold ∨ s.cyc.mode = .safe) → c = .stop → acts 0 .stop) ∧
    (s.cyc.mode = .run → c = .hold → s.lane.armed = false → acts 0 .hold) ∧
    (s.cyc.mode = .run → c = .hold → s.lane.armed = true → acts 2 .run) ∧
    (s.cyc.mode = .hold → c = .step → acts 0 .hold) ∧
    (s.cyc.mode = .hold → c = .resume → acts 0 .run) ∧
    ((s.cyc.mode = .run ∨ s.cyc.mode = .hold ∨ s.cyc.mode = .starting) → (c = .run ∨ c = .runCold) → acts 1 s.cyc.mode) ∧
    ((s.cyc.mode = .stop ∨ s.cyc.mode = .starting) → c = .stop → acts 1 s.cyc.mode) ∧
    (s.cyc.mode ≠ .run → c = .hold → acts 1 s.cyc.mode) ∧
    (s.cyc.mode ≠ .hold → (c = .step ∨ c = .resume) → acts 1 s.cyc.mode)

/-- TIER 2. Loads, restarts, tokens and the report (R105, R106, R117, R125, R134 and *CYCMGR_OC_REP*, which reads what stood in the queue before the present clock, R14): an image beyond its limits
or whose signatures verify under no pin that counts changes nothing; a hash that differs in a lane marks the inactive bank empty; an accepted image goes to the
inactive bank, in STOP to the active one (the model's choice, log entry 14). -/
def Obligations.ProgramLoadAndRestart : Prop :=
  ∀ (s : State) (t ha hb hc k v : Nat) (a : Attr) (peek : Bool) (p : Program) (rest : List (Nat × Nat))
    (pins : List Nat),
    let fits := p.inLimits = true ∧ s.pinsOk pins = true ∧ s.pwr.laneUp = true
    (¬ fits → Ends (.programLoadComplete t p pins ha hb hc) s (OnlyRegs s t [])) ∧
    (fits → (ha ≠ p.hash ∨ hb ≠ p.hash ∨ hc ≠ p.hash) →
      Ends (.programLoadComplete t p pins ha hb hc) s fun s' => s'.cyc.inact = none ∧ s'.cyc.oc = .failed ∧
        s'.cyc.act = s.cyc.act ∧ s'.lane = s.lane) ∧
    (fits → s.cyc.mode ≠ .stop →
      Ends (.programLoadComplete t p pins p.hash p.hash p.hash) s fun s' => s'.cyc.inact = some p ∧ s'.cyc.oc = .loaded ∧
        s'.cyc.act = s.cyc.act ∧ s'.lane = s.lane ∧ ∀ j, j < 8 → s'.rd (F.CYCMGR_INACT_HASH_HASH j) = p.hash / 2 ^ (32 * j) % 2 ^ 32) ∧
    (fits → s.cyc.mode = .stop →
      Ends (.programLoadComplete t p pins p.hash p.hash p.hash) s fun s' => s'.cyc.act = some p ∧
        s'.cyc.inact = s.cyc.act ∧ s'.cyc.boot = some p ∧ ∀ l, (s'.ln l).bankHash = some p.hash ∧ (s'.ln l).vars = (s.ln l).vars) ∧
    (s.cyc.token.isSome = true → s.cyc.tokenEnd ≤ t → Ends (.tokenExpiry t) s fun s' =>
      s'.cyc = { s.cyc with tokenOff := true } ∧ s'.regs = s.regs) ∧
    (s.cyc.mode = .starting → Ends (.restartComplete t) s fun s' => s'.cyc.mode = .run ∧ s'.cyc.restart = none ∧
      s'.lane = s.lane ∧ (s.pwr.state = .safe → s'.pwr.state = .run)) ∧
    ((s.tick t).passes (if peek then 0x4030801C else 0x4030001C) a false = true →
      let n := (s.tick t).settled 0x4030001C s.cyc.report.length
      (n = 0 → Ends (.ocRepRead t a peek) s fun s' => s'.resp = ⟨0, 0⟩ ∧ s'.regs = s.regs ∧ s'.cyc = s.cyc) ∧
      (s.cyc.report = (k, v) :: rest → n ≠ 0 → Ends (.ocRepRead t a peek) s fun s' =>
        s'.resp = ⟨0, k * 2 ^ 30 + (n - 1)⟩ ∧ (peek = true → s'.cyc = s.cyc ∧ s'.regs = s.regs) ∧
        (peek = false → s'.cyc.report = rest ∧ s'.rd F.CYCMGR_OC_REP_ID_VAR_ID = v % 2 ^ 32)))

/-- TIER 2. Function blocks act once a scan of their instance (R123, R124): a timer counts scans, not time, so that the k-th scan
after the one that starts it has ET = min PT (k × period), and the output follows ET; edges and counts act on what the previous
scan saw, FALSE before the first, and CTU counts the rising edges up to the largest INT. -/
def Obligations.FunctionBlocksFollowScans : Prop :=
  (∀ (f : FbState) (pt p k : Nat),
      let ton (j : Nat) := Nat.iterate (fun x : FbState => x.ton true pt p) j (f.ton false pt p)
      let tof (j : Nat) := Nat.iterate (fun x : FbState => x.tof false pt p) j (f.tof true pt p)
      let tp (j : Nat) := Nat.iterate (fun x : FbState => x.tp true pt p) j ((FbState.init).tp false pt p)
      ((ton (k + 1)).et = min pt (k * p) ∧ (ton (k + 1)).q = decide (pt ≤ k * p)) ∧
      ((tof (k + 1)).q = decide (k * p < pt) ∧ ((tof (k + 1)).q = true → (tof (k + 1)).et = k * p)) ∧
      (tp (k + 1)).q = decide (k * p < pt)) ∧
  (∀ (xs : List Bool) (x : Bool),
      let prev := xs.getLastD false
      let after (scan : FbState → Bool → FbState) : FbState := xs.foldl scan FbState.init
      let rises : Nat := ((List.range xs.length).filter fun j => xs.getD j false && (j == 0 || !xs.getD (j - 1) false)).length
      ((after FbState.rTrig).rTrig x).q = (x && !prev) ∧ ((after FbState.fTrig).fTrig x).q = (!x && prev) ∧
      ∀ pv : Int, (after fun f b => f.ctu b false pv).cvInt = min rises 32767)

/-- TIER 2. FORCE_COMMIT makes the back buffer the active table (R129), and every entry in use gets its STATUS: 0x1 where its ID
is not in VARTAB, 0x3 where its value does not fit, 0x2 where it waits for a token's right (R131), 0x0 where it applies. -/
def Obligations.ForceCommitJudgesEntries : Prop :=
  ∀ (s : State) (p : Program) (e : Nat), e < 256 → s.cyc.act = some p →
    (∀ j, j < 3 → s.rd (F.CYCMGR_FORCE_BACK_WORD e j) < 2 ^ 32) →
    let id := s.rd (F.CYCMGR_FORCE_BACK_WORD e 0)
    let value := s.rd (F.CYCMGR_FORCE_BACK_WORD e 1) + 2 ^ 32 * s.rd (F.CYCMGR_FORCE_BACK_WORD e 2)
    let s' := s.commitForces
    let status := s'.rd (F.CYCMGR_FORCE_ACT3_STATUS e)
    s'.forceId e = id ∧ s'.forceValue e = value ∧ s'.rd (F.CYCMGR_FORCE_ACT3_EN e) = s.rd (F.CYCMGR_FORCE_BACK3_EN e) % 2 ∧
    (s.rd (F.CYCMGR_FORCE_BACK3_EN e) = 1 →
      (p.decl id = none → status = 1) ∧
      ∀ d, p.decl id = some d → (256 ^ d.size ≤ value → status = 3) ∧
        (value < 256 ^ d.size → d.vital = true → s.mayForceVital = false → status = 2) ∧
        (value < 256 ^ d.size → (d.vital = false ∨ s.mayForceVital = true) → status = 0)) ∧
    s'.lane = s.lane ∧ s'.cyc = s.cyc

/-- TIER 2. The switch of an online change (R127, R128, *Table: Carry-over at online change*): at the execute of the switch cycle
the banks change over; a variable carried in both programs with the same type keeps its value, every other one starts at its
initial value. Another lane that executes keeps the old tables until it reaches the switch cycle itself. -/
def Obligations.OnlineChangeCarriesOver : Prop :=
  ∀ (s : State) (t : Nat) (l : LaneId) (old next : Program) (g : Agreed) (fs : List ForceUse)
    (rest : List (Nat × Agreed × List ForceUse)) (work : List TaskRun),
    s.lanesRun = true → (s.ln l).executes = true → (s.ln l).agreed.isSome = true → (s.ln l).boundary + 250000 ≤ t →
    t < (s.ln l).deadline → (s.ln l).running = none → (s.ln l).oldProg = none → (s.ln l).queue = (s.cyc.ocCyc, g, fs) :: rest →
    (∀ f, f ∈ fs → f.over old next s.mayForceVital = none) →
    s.cyc.oc = .armed → s.cyc.act = some old → s.cyc.inact = some next → s.cyc.token = none →
    next.tasks = [] → next.io = [] → (∀ d, d ∈ next.vars → next.decl d.id = some d) →
    (∀ e, e < 256 → s.rd (F.CYCMGR_FORCE_ACT3_EN e) = 0) → (s.ln l).fbs = [] →
    Ends (.executePhase t l work) s fun s' => s'.cyc.act = some next ∧ s'.cyc.inact = some old ∧ s'.cyc.boot = some next ∧
      s'.cyc.oc = .idle ∧ (s'.ln l).running = some s.cyc.ocCyc ∧ (s'.ln l).bankHash = some next.hash ∧
      s'.progOf l = some next ∧ (∀ m, m ≠ l → (s.ln m).executes = true → s'.progOf m = some old) ∧
      (∀ d, d ∈ next.vars →
        (s'.ln l).var next d.id = if carries old d = true then (s.ln l).var old d.id else d.init) ∧
      ∀ j, j < 8 → s'.rd (F.CYCMGR_TASK_TIME_MAX_US j) = 0

/-! ### Module pairs -/

/-- TIER 2. Authority and the AUTH loop (R141 to R143, R153, R155). AUTH_HELD_GRANTED, AUTH_HELD_LOST, LOOP_FAULT,
LOOP_QUIET_CHANGE, CLAIM_QUIET_EXPIRY, CLAIM_CONFLICT, BACKOFF_EXPIRY and NO_HOLDER_TIMEOUT each complete, with their effect:
AUTH_HELD is granted and lost with one record and the pair state that *Table: Pair states* gives; SHORT, OPEN and DEGRADED are
reported; a closed quiet spell turns the source on; a conflict turns it off for the back-off and counts. -/
def Obligations.PairAuthorityLoop : Prop :=
  ∀ (s : State) (t v q e : Nat) (i : Int),
    let p := s.pair
    (s.flag F.PAIR_CFG_PAIR_EN = true → s.mayClaim = true → p.source = true → p.held = false → 2400 ≤ v → v < 6000 → 6000 ≤ i →
      ∃ s', exec (.authHeldGranted t v i) s = .next s' ∧ s'.pair.held = true ∧ s'.pair.state = .primary ∧ s'.fuse = s.fuse ∧
        s'.lane = s.lane ∧ WroteOne s s' 5 1 6 (s.rd F.PAIR_CFG_PARTNER_MID) 0) ∧
    (p.source = true → p.held = true → p.state = .primary → (v < 2400 ∨ 6000 ≤ v ∨ i < 6000) →
      ∃ s', exec (.authHeldLost t v i) s = .next s' ∧ s'.pair.held = false ∧ s'.pair.state = .seek ∧ s'.pair.seekAt = t ∧
        WroteOne s s' 5 2 6 (s.rd F.PAIR_CFG_PARTNER_MID) 0) ∧
    (p.source = true → v < 1500 → ∃ s', exec (.loopFault t v i) s = .next s' ∧ s'.rd F.PAIR_LOOP_SHORT = 1 ∧ s'.pair = p) ∧
    (p.source = true → 12000 ≤ v → ∃ s', exec (.loopFault t v i) s = .next s' ∧ s'.rd F.PAIR_LOOP_OPEN = 1 ∧ s'.pair = p) ∧
    (p.source = true → ((1500 ≤ v ∧ v < 2400) ∨ (6000 ≤ v ∧ v < 12000) ∨ (2400 ≤ v ∧ v < 6000 ∧ i < 6000)) →
      ∃ s', exec (.loopFault t v i) s = .next s' ∧ s'.rd F.PAIR_LOOP_DEGRADED = 1 ∧ s'.pair = p) ∧
    (p.source = false → (1000 ≤ i ∨ (-6000 < i ∧ i ≤ -1000)) →
        ∃ s', exec (.loopFault t v i) s = .next s' ∧ s'.rd F.PAIR_LOOP_DEGRADED = 1 ∧ s'.pair = p) ∧
    (p.source = false → i.natAbs < 1000 → p.quiet = none → p.backoff = none →
        ∃ s', exec (.loopQuietChange t i) s = .next s' ∧
          s'.pair.quiet = some t ∧ s'.pair.loopQuiet = true ∧ s'.rd F.PAIR_LOOP_INBOUND = 0) ∧
    (p.source = false → i ≤ -6000 → ∃ s', exec (.loopQuietChange t i) s = .next s' ∧ s'.pair.quiet = none ∧
      s'.pair.loopQuiet = false ∧ s'.rd F.PAIR_LOOP_INBOUND = 1) ∧
    (p.quiet = some q → s.mayClaim = true → s.authGate = true → p.source = false →
      q + (if p.quietX = true then s.rd F.PAIR_CFG2_TRANSFER_QUIET * 1000 else s.rd F.PAIR_CFG_CLAIM_QUIET * 500000) ≤ t →
      ∃ s', exec (.claimQuietExpiry t) s = .next s' ∧
        s'.pair = { p with source := true, sourceAt := t, quiet := none, loopQuiet := false } ∧ s'.regs = s.regs) ∧
    (p.source = true → p.held = false → p.sourceAt + 1000000 ≤ t → ∃ s', exec (.claimConflict t) s = .next s' ∧
      s'.pair = { p with source := false, quiet := none,
                         backoff := some (t + if s.flag F.PAIR_CFG_PREFERRED = true then 5000000 else 50000000) } ∧
      s'.rd F.PAIR_LOOP_CONFLICT = 1 ∧ s'.rd F.PAIR_TIE_CNT_TIES = min (2 ^ 32 - 1) (s.rd F.PAIR_TIE_CNT_TIES + 1)) ∧
    (p.backoff = some e → e ≤ t → p.loopQuiet = true → p.source = false →
        ∃ s', exec (.backoffExpiry t) s = .next s' ∧ s'.pair.backoff = none ∧ s'.pair.quiet = some t ∧ s'.regs = s.regs) ∧
    (p.quiet = some q → s.flag F.PAIR_CFG_PAIR_EN = true → p.partner ≠ some .primary → p.state ≠ .primary →
      p.noHolder = false → q + 1000000000 ≤ t →
        ∃ s', exec (.noHolderTimeout t) s = .next s' ∧ s'.pair = { p with noHolder := true } ∧
        WroteOne s s' 5 5 6 (s.rd F.PAIR_CFG_PARTNER_MID) 0)

/-- TIER 2. No reading of the loop gives authority but the held one (R141): whatever the loop shows, a module whose source is
off, or whose reading lies outside the window, is not granted AUTH_HELD. -/
def Obligations.PairNoFaultGivesAuthority : Prop :=
  ∀ (s : State) (t v : Nat) (i : Int), s.pair.held = false →
    (s.pair.source = false ∨ v < 2400 ∨ 6000 ≤ v ∨ i < 6000) →
    Ends (.authHeldGranted t v i) s (fun s' => s'.pair.held = false) ∧ Ends (.authHeldLost t v i) s (fun s' => s'.pair.held = false) ∧
    Ends (.loopFault t v i) s (fun s' => s'.pair.held = false) ∧ Ends (.loopQuietChange t i) s (fun s' => s'.pair.held = false) ∧
    Ends (.claimQuietExpiry t) s (fun s' => s'.pair.held = false)

/-- TIER 2. Frames, resync and transfers (R28, R138, R145 to R147, R149, R151, R156, R157). PAIR_IMG_RX, PAIR_OUT_RX, PAIR_STAT_RX,
PAIR_COPY_RX and PAIR_XFER_RX complete, each with what its frame leaves where it passes the Hallway, and with no effect on the pair
where it does not or its CRC is wrong; RESYNC_TIMER, RESYNC, TRANSFER, PARTNER_WAIT_EXPIRY and REVERT_HOLD_EXPIRY complete:
when a resync begins, what a planned transfer asks and answers, and the claim of a module that hears no partner. -/
def Obligations.PairFramesAndTransfers : Prop :=
  ∀ (s : State) (t cyc vote hash digest bt n : Nat) (a : Attr) (img : Agreed0) (out : Output0) (inStep : Bool) (c : PairCopy)
    (prog : Program),
    let p := s.pair
    let mac (f : Fld) : Nat := Config.moduleMac (s.rd f)
    let passes (len : Nat) : Prop := s.flag F.PAIR_CFG_PAIR_EN = true ∧ ((s.tick t).hallPass pairPort lanePort 7
      (pairEth (mac F.SYSCTL_MID_MID) (mac F.PAIR_CFG_PARTNER_MID) len)).1 = true
    let same (s' : State) : Prop := s'.lane = s.lane ∧ s'.cyc = s.cyc ∧ s'.fuse = s.fuse ∧ s'.mem = s.mem
    let copied : Tbl (List Nat) := c.blocks.foldl (fun (m : Tbl (List Nat)) b => m.insert b.1 b.2) p.region
    let bytes := ({ s with pair := { p with region := copied } }).regionSoFar prog.carriedSize
    let imgLen := (PairFrame.img cyc img bt).len
    let copyLen := (PairFrame.copy cyc c).len
    let sent (f : PairFrame) : List PairFrame := p.sends ++ [f]
    let pm := s.rd F.PAIR_CFG_PARTNER_MID
    (passes imgLen → (p.state = .standby ∨ p.state = .syncing) → Ends (.pairImgRx t true cyc img bt) s fun s' =>
      s'.pair = { p with img := some (cyc, img), targetT := some bt, partnerCyc := cyc } ∧ same s') ∧
    (¬ passes imgLen → Ends (.pairImgRx t true cyc img bt) s fun s' => s'.pair = p ∧ same s') ∧
    Ends (.pairImgRx t false cyc img bt) s (fun s' => s'.pair = p ∧ same s') ∧
    (passes 2089 → (p.state = .standby ∨ p.state = .syncing) → s.ownOutput = none → Ends (.pairOutRx t true cyc out) s fun s' =>
      s'.pair = { p with out := some (cyc, out), outSign := some (cyc, out.sign) } ∧ same s') ∧
    (passes 100 → vote < 4 → p.state ≠ .seek → Ends (.pairStatRx t true cyc 2 vote hash digest inStep) s fun s' =>
      s'.pair = { p with partner := some .primary, partnerHash := hash, partnerDigest := digest, partnerInStep := inStep,
                         partnerCyc := cyc, heard := true, heardEver := true } ∧ same s') ∧
    (passes 100 → vote < 4 → p.state = .seek → hash = s.ownHash → digest = s.ownDigest →
      Ends (.pairStatRx t true cyc 2 vote hash digest inStep) s fun s' => s'.pair.state = .syncing ∧ s'.pair.claim = false ∧
        s'.cycleNo = cyc % 2 ^ 32) ∧
    (passes 100 → vote < 4 → p.state = .seek → digest ≠ s.ownDigest → s.flag F.PAIR_CFG_PREFERRED = false →
      Ends (.pairStatRx t true cyc 2 vote hash digest inStep) s fun s' => s'.pair.state = .detached ∧
        s'.rd F.PAIR_STAT_DETACH_CAUSE = 4 ∧ WroteOne s s' 5 3 5 pm 0) ∧
    (passes copyLen → p.state = .syncing → s.cyc.act = some prog →
      (c.final = false → Ends (.pairCopyRx t true cyc c) s fun s' =>
        s'.pair = { p with partnerCyc := cyc, region := copied } ∧ same s') ∧
      (c.final = true → p.outSign = some (cyc, crc32 bytes) → Ends (.pairCopyRx t true cyc c) s fun s' =>
        s'.pair = { p with partnerCyc := cyc, copyFinal := true, agreeRun := 0, region := [] } ∧
        ∀ l, s'.ln l = (s.ln l).takeRegion prog bytes) ∧
      (c.final = true → p.outSign ≠ some (cyc, crc32 bytes) → Ends (.pairCopyRx t true cyc c) s fun s' =>
        s'.pair.state = .detached ∧ s'.rd F.PAIR_STAT_DETACH_CAUSE = 6)) ∧
    (s.mayResync = true →
      (p.detachedAt + 10000000000 ≤ t → ∃ s', exec (.resyncTimer t) s = .next s' ∧ s'.pair.state = .syncing ∧
        s'.cycleNo = p.partnerCyc % 2 ^ 32) ∧
      ((s.tick t).passes 0x40380004 a true = true → Ends (.pairResync t a) s fun s' => s'.pair.state = .syncing ∧
        s'.cycleNo = p.partnerCyc % 2 ^ 32)) ∧
    ((s.tick t).passes 0x40380004 a true = true →
      let m := (s.cycleNo + 8) % 2 ^ 32
      (s.mayTransfer = true → Ends (.pairTransfer t a) s fun s' =>
        s'.pair = { p with xfer := some m, sends := sent (.xfer s.cycleNo (some (some m))) } ∧ same s') ∧
      (p.state ≠ .standby → s.mayTransfer = false → Ends (.pairTransfer t a) s fun s' => s'.pair = p ∧ WroteOne s s' 5 4 4 pm 0) ∧
      (p.state = .standby → Ends (.pairTransfer t a) s fun s' =>
        s'.pair = { p with xferAsked := some t, sends := sent (.xfer s.cycleNo none) } ∧ same s')) ∧
    (passes 64 →
      let m := (s.cycleNo + 8) % 2 ^ 32
      (s.mayTransfer = true → Ends (.pairXferRx t true cyc none) s fun s' =>
        s'.pair = { p with partnerCyc := cyc, xfer := some m, sends := sent (.xfer s.cycleNo (some (some m))) }) ∧
      (p.state = .primary → s.mayTransfer = false → Ends (.pairXferRx t true cyc none) s fun s' =>
        s'.pair = { p with partnerCyc := cyc, sends := sent (.xfer s.cycleNo (some none)) } ∧ WroteOne s s' 5 4 4 pm 0) ∧
      (p.state = .standby → Ends (.pairXferRx t true cyc (some (some n))) s fun s' =>
        s'.pair = { p with partnerCyc := cyc, xferUntil := some ((n + 2) % 2 ^ 32), xferAsked := none }) ∧
      (p.xferAsked.isSome = true → Ends (.pairXferRx t true cyc (some none)) s fun s' =>
        s'.pair = { p with partnerCyc := cyc, xferAsked := none, inStepAt := p.inStepAt.map fun _ => t })) ∧
    (p.state = .seek → s.flag F.PAIR_CFG_PREFERRED = false → p.heardEver = false → p.claim = false →
      p.seekAt + s.rd F.PAIR_CFG2_PARTNER_WAIT * 100000000 ≤ t →
        ∃ s', exec (.partnerWaitExpiry t) s = .next s' ∧ s'.pair = { p with claim := true } ∧ WroteOne s s' 5 6 5 pm 0) ∧
    (p.inStepAt = some n → p.state = .standby → s.flag F.PAIR_CFG_PREFERRED = true → s.rd F.PAIR_CFG2_REVERT_HOLD ≠ 0 →
      p.xferAsked = none → n + s.rd F.PAIR_CFG2_REVERT_HOLD * 1000000000 ≤ t →
        ∃ s', exec (.revertHoldExpiry t) s = .next s' ∧
          s'.pair = { p with xferAsked := some t, sends := sent (.xfer s.cycleNo none) } ∧ same s')

/-! ### Universal inputs, supplies and stations -/

/-- TIER 2. Pins and supplies (R158, R160, R161, R163 to R165): a digital pin without debounce follows its thresholds and keeps
its level between them; an analogue pin shows its value and reports OVER after 1 ms; FREQ is the reciprocal of the mean
period in a window of FGATE, 0 after two windows without an edge; a supply in limit trips, and a locked one retries after 1 s. The hub senses
nothing on U0 to U15. -/
def Obligations.UioPinsAndSupplies : Prop :=
  ∀ (s : State) (t u k t0 edges cycles span : Nat) (mv v : Int), u < 48 → k < 8 →
    let lo : Int := 100 * s.rd (F.UIO_PIN_THR_TH_LO u)
    let hi : Int := 100 * s.rd (F.UIO_PIN_THR_TH_HI u)
    let mode := s.rd (F.UIO_PIN_CFG_MODE u)
    let gate : Prop := ∀ g, (s.pin u).gateAt = some g → g + 1000000 * s.rd (F.UIO_PIN_CFG_FGATE u) ≤ t
    let reads (level : Bool) : Prop := Ends (.pinSample t u mv v) s fun s' => (s'.pin u).level = level ∧
      s'.rd (F.UIO_PIN_VAL_VALUE u) = (if level then 1 else 0) ∧ s'.rd (F.UIO_PIN_DIAG_LEVEL u) = if level then 1 else 0
    (u < 16 → Ends (.pinSample t u mv v) s (OnlyRegs s t [])) ∧
    (16 ≤ u → mode = 0 → Ends (.pinSample t u mv v) s fun s' => s'.rd (F.UIO_PIN_VAL_VALUE u) = 0 ∧ s'.uio = s.uio) ∧
    (16 ≤ u → mode = 1 → s.rd (F.UIO_PIN_CFG_DEB u) = 0 → lo ≤ hi → (s.pin u).raw = (s.pin u).level →
      (hi ≤ mv → reads true) ∧ (mv < lo → reads false) ∧ (lo ≤ mv → mv < hi → reads (s.pin u).level)) ∧
    (16 ≤ u → 2 ≤ mode → mode ≤ 6 → 0 ≤ v → v < 2 ^ 31 → Ends (.pinSample t u mv v) s fun s' =>
      (s'.rd (F.UIO_PIN_VAL_VALUE u) : Int) = v ∧
      (mode = 2 → (s.pin u).overSince = some t0 → t0 + 1000000 ≤ t → 32640 < v → s'.rd (F.UIO_PIN_DIAG_OVER u) = 1) ∧
      (mode = 4 → (s.pin u).underSince = some t0 → t0 + 10000000 ≤ t → v < 3600 → s'.rd (F.UIO_PIN_DIAG_UNDER u) = 1) ∧
      (mode = 5 → 550000 < v → s'.rd (F.UIO_PIN_DIAG_OPEN u) = 1) ∧ (mode = 5 → v < 200 → s'.rd (F.UIO_PIN_DIAG_SHORT u) = 1)) ∧
    (16 ≤ u → mode = 7 → gate → edges ≠ 0 → cycles ≠ 0 → span ≠ 0 → cycles * 1000000000000 / span < 2 ^ 31 →
      Ends (.freqGateClose t u edges cycles span) s fun s' =>
        s'.rd (F.UIO_PIN_VAL_VALUE u) = cycles * 1000000000000 / span ∧ (s'.pin u).quiet = 0 ∧ (s'.pin u).gateAt = some t) ∧
    (16 ≤ u → ¬ gate → Ends (.freqGateClose t u edges cycles span) s (OnlyRegs s t [])) ∧
    (16 ≤ u → mode = 7 → gate → 1 ≤ (s.pin u).quiet → Ends (.freqGateClose t u 0 cycles span) s fun s' =>
      s'.rd (F.UIO_PIN_VAL_VALUE u) = 0) ∧
    ((s.sup k).on = true → Ends (.supplyLimitTrip t k) s fun s' => s'.sup k = ⟨false, true, t⟩ ∧
      s'.rd (F.UIO_SP_CTL_TRIP k) = 1 ∧ s'.rd (F.UIO_SP_CTL_IN_REG k) = 0 ∧ s'.rd (F.UIO_SP_CTL_EN k) = s.rd (F.UIO_SP_CTL_EN k)) ∧
    (s.flag (F.UIO_SP_CTL_SP_LOCK k) = true → (s.sup k).tripped = true → (s.sup k).tripAt + 1000000000 ≤ t → s.supplyMay = true →
      Ends (.supplyRetry t k) s fun s' => (s'.sup k).on = true ∧ s'.rd (F.UIO_SP_CTL_IN_REG k) = 1)

/-- TIER 2. Remote stations (R170 to R172, R174, R175 and *Table: Station states*): a POLL takes the output images at its
start; a response of the present cycle replaces the input image at once and leads a STALE station, or an ABSENT or DOWN one
at its second, to UP; a late one is discarded and counted, and a frame that is no RESP of the station's length is discarded; a
missing one freezes the image with quality STALE_INPUT and counts the write that its POLL carried, and STALE_CYCLES of them
substitute it. A disabled segment's stations are ABSENT. -/
def Obligations.UioStations : Prop :=
  ∀ (s : State) (t seg n : Nat) (a : Attr) (r : StnResp), seg < 2 → n < 16 → respStn r = n + 1 →
    let ins := respIns r
    let status := respStatus r
    let k := 16 * seg + n
    let x := s.stn k
    let run := min 15 (s.rd (F.UIO_STN_STAT_RUN seg n) + 1)
    let reg (s' : State) (j : Nat) : Nat := s'.rd (if j % 2 = 0 then F.UIO_STN_IN_REG_LO seg (16 * n + j / 2)
      else F.UIO_STN_IN_REG_HI seg (16 * n + j / 2))
    (s.flag (F.UIO_SEG_CFG_SEG_EN seg) = true → (∀ j, (s.stn j).awaiting = false) →
      (∀ t0, s.uio.polled.find? seg = some t0 → t0 + 1000 * s.rd (F.UIO_SEG_CFG_POLL_PERIOD seg) ≤ t) → x.configured = true →
      Ends (.pollSend t seg) s fun s' => s'.rd (F.UIO_SEG_CNT_CYCLE seg) = (s.rd (F.UIO_SEG_CNT_CYCLE seg) + 1) % 2 ^ 16 ∧
        s'.uio.polled.find? seg = some t ∧ (s'.stn k).awaiting = true ∧ (s'.stn k).state = x.state ∧
        (s'.stn k).block.out = (List.range (s.rd (F.UIO_STN_CTL_OUT_LEN seg n))).map fun j => s.outReg k j) ∧
    (s.respOk seg r = true → ins.length ≤ 32 → x.awaiting = true → respCycle r = s.rd (F.UIO_SEG_CNT_CYCLE seg) → x.wdSent = false → s.stair.carried.find? k = none →
      Ends (.respRx t seg r) s fun s' => (s'.stn k).awaiting = false ∧ (∀ j, j < ins.length → reg s' j = ins.getD j 0) ∧
        s'.rd (F.UIO_STN_STAT_STATUS seg n) = status ∧ s'.rd (F.UIO_STN_STAT_RUN seg n) = 0 ∧
        ((x.state = .up ∨ x.state = .stale ∨ 1 ≤ x.succ) → (s'.stn k).state = .up) ∧
        ((x.state = .absent ∨ x.state = .down) → x.succ = 0 → (s'.stn k).state = x.state ∧ (s'.stn k).succ = 1) ∧
        (status.testBit 2 = true → s'.rd (F.UIO_STN_STAT_REJOINED seg n) = 1)) ∧
    (s.respOk seg r = true → (x.awaiting = false ∨ respCycle r ≠ s.rd (F.UIO_SEG_CNT_CYCLE seg)) →
      Ends (.respRx t seg r) s fun s' => OnlyRegs s t [F.UIO_STN_CNT_LATE seg n] s' ∧
        s'.rd (F.UIO_STN_CNT_LATE seg n) = min (2 ^ 16 - 1) (s.rd (F.UIO_STN_CNT_LATE seg n) + 1)) ∧
    (s.respOk seg r = false → Ends (.respRx t seg r) s (OnlyRegs s t [])) ∧
    (x.awaiting = true → s.uio.polled.getD 0 seg + 1000 * s.rd (F.UIO_SEG_CFG_POLL_PERIOD seg) ≤ t →
      s.stair.carried.find? k = none → Ends (.respWindowClose t seg (n + 1)) s fun s' =>
        s'.rd (F.UIO_STN_CNT_UNDELIVERED seg n) = (if x.carries = true then
          min (2 ^ 16 - 1) (s.rd (F.UIO_STN_CNT_UNDELIVERED seg n) + 1) else s.rd (F.UIO_STN_CNT_UNDELIVERED seg n)) ∧
        (s'.stn k).awaiting = false ∧ s'.rd (F.UIO_STN_STAT_RUN seg n) = run ∧
        ((x.state = .up ∨ x.state = .stale) → run < s.rd (F.UIO_SEG_CFG_STALE_CYCLES seg) →
          (s'.stn k).state = .stale ∧ s'.rd (F.UIO_STN_STAT_STALE seg n) = 1 ∧
          (∀ w, w < 32 → 2 * w < s.rd (F.UIO_STN_CTL_IN_LEN seg n) → (s'.stn k).quality.getD 0 w = 0x0B) ∧ ∀ j, j < 32 → reg s' j = reg s j) ∧
        ((x.state = .up ∨ x.state = .stale) → s.rd (F.UIO_SEG_CFG_STALE_CYCLES seg) ≤ run → x.subst.length ≤ 32 →
          (s'.stn k).state = .down ∧ s'.rd (F.UIO_STN_STAT_SUBST seg n) = 1 ∧
          (∀ j, j < x.subst.length → reg s' j = x.subst.getD j 0 % 2 ^ 16) ∧ WroteOne s s' 6 1 4 (16 * seg + n + 1) 0)) ∧
    ((s.tick t).passes (F.UIO_STN_CTL_IN_LEN seg n).addr a true = true → Ends (.stnRelease t a seg (n + 1)) s fun s' =>
      s'.stn k = { x with askRelease := true } ∧ s'.regs = s.regs ∧ ∀ j, j ≠ k → s'.stn j = s.stn j) ∧
    ((s.tick t).passes (F.UIO_SEG_CFG_SEG_EN seg).addr a true = true → x.configured = true → Ends (.segDisable t a seg) s fun s' =>
      s'.rd (F.UIO_SEG_CFG_SEG_EN seg) = 0 ∧ (s'.stn k).state = .absent ∧ (s'.stn k).awaiting = false)

/-! ### The engines -/

/-- TIER 2. Register g0 reads as zero and discards writes; every other g-register reads what was written last (R178 and
*Instruction formats*). The statement is about the two accessors through which every Dervos instruction goes. -/
def Obligations.DervosRegisterZeroIsZero : Prop :=
  ∀ (x : Engine) (k j : Nat) (v : Word),
    (k % 16 = 0 → x.g k = 0 ∧ x.setG k v = x) ∧
    (k % 16 ≠ 0 → (x.setG k v).g k = v) ∧
    (k % 16 ≠ j % 16 → (x.setG k v).g j = x.g j)

/-- TIER 2. The one-cycle register instructions of formats R, I, U and E (R193): gd takes the result, pc moves to the next word, one
cycle is counted, and nothing else of the module changes but that the latest captured instant is the present one. EXT takes len bits of ga from bit pos, sign-extended where S is 1; INS
puts the low len bits of ga into gd at bit pos and leaves its other bits; W reverses the bytes of a field of 16, 24 or 32 bits. -/
def Obligations.DervosRegisterInstructions : Prop :=
  (∀ (s : State) (e rd ra rb imm : Nat), Runs s e →
      let x := s.eng e
      let a := x.g ra
      let b := x.g rb
      let si : Word := (BitVec.ofNat 18 imm).signExtend 32
      let zi : Word := (BitVec.ofNat 18 imm).zeroExtend 32
      let gives (c : Instr) (v : Word) : Prop := Ends c s (OnlyEngine s.onward e ((x.setG rd v).next 1))
      gives (.dAdd e rd ra rb) (a + b) ∧
      gives (.dSub e rd ra rb) (a - b) ∧
      gives (.dAnd e rd ra rb) (a &&& b) ∧
      gives (.dOr e rd ra rb) (a ||| b) ∧
      gives (.dXor e rd ra rb) (a ^^^ b) ∧
      gives (.dShl e rd ra rb) (a <<< (b.toNat % 32)) ∧
      gives (.dShr e rd ra rb) (a >>> (b.toNat % 32)) ∧
      gives (.dSra e rd ra rb) (a.sshiftRight (b.toNat % 32)) ∧
      gives (.dSlt e rd ra rb) (if a.toInt < b.toInt then 1 else 0) ∧
      gives (.dSltu e rd ra rb) (if a.toNat < b.toNat then 1 else 0) ∧
      gives (.dMul e rd ra rb) (BitVec.ofNat 32 (a.toNat * b.toNat)) ∧
      gives (.dMin e rd ra rb) (BitVec.ofInt 32 (min a.toInt b.toInt)) ∧
      gives (.dMax e rd ra rb) (BitVec.ofInt 32 (max a.toInt b.toInt)) ∧
      gives (.dAddi e rd ra imm) (a + si) ∧
      gives (.dAndi e rd ra imm) (a &&& zi) ∧
      gives (.dOri e rd ra imm) (a ||| zi) ∧
      gives (.dXori e rd ra imm) (a ^^^ zi) ∧
      gives (.dShli e rd ra imm) (a <<< (imm % 32)) ∧
      gives (.dShri e rd ra imm) (a >>> (imm % 32)) ∧
      gives (.dSrai e rd ra imm) (a.sshiftRight (imm % 32)) ∧
      gives (.dSlti e rd ra imm) (if a.toInt < si.toInt then 1 else 0) ∧
      gives (.dLui e rd imm) ((BitVec.ofNat 22 imm).zeroExtend 32 <<< 10)) ∧
  (∀ (s : State) (e rd ra pos len : Nat), Runs s e → 1 ≤ len → pos + len ≤ 32 →
      let x := s.eng e
      let f := (x.g ra).toNat / 2 ^ pos % 2 ^ len
      Ends (.dExt e rd ra pos len false false) s (OnlyEngine s.onward e ((x.setG rd (BitVec.ofNat 32 f)).next 1)) ∧
      Ends (.dExt e rd ra pos len true false) s
        (OnlyEngine s.onward e ((x.setG rd (BitVec.ofInt 32 (if f < 2 ^ (len - 1) then (f : Int) else (f : Int) - 2 ^ len))).next 1)) ∧
      Ends (.dIns e rd ra pos len false) s (fun s' => ∃ v : Word, OnlyEngine s.onward e ((x.setG rd v).next 1) s' ∧
        ∀ k, k < 32 → v.getLsbD k =
          if pos ≤ k ∧ k < pos + len then (x.g ra).getLsbD (k - pos) else (x.g rd).getLsbD k) ∧
      ((len = 16 ∨ len = 24 ∨ len = 32) →
        (∀ sx : Bool, Ends (.dExt e rd ra pos len sx true) s fun s' => ∃ v : Word,
          OnlyEngine s.onward e ((x.setG rd v).next 1) s' ∧ ∀ k, k < 32 →
            let j := min k (len - 1)
            v.getLsbD k = ((decide (k < len) || sx) && (x.g ra).getLsbD (pos + (len - 8 - j / 8 * 8) + j % 8))) ∧
        Ends (.dIns e rd ra pos len true) s fun s' => ∃ v : Word, OnlyEngine s.onward e ((x.setG rd v).next 1) s' ∧
          ∀ k, k < 32 → v.getLsbD k =
            if pos ≤ k ∧ k < pos + len then (x.g ra).getLsbD (len - 8 - (k - pos) / 8 * 8 + (k - pos) % 8)
            else (x.g rd).getLsbD k))

/-- TIER 2. The saturating instructions (R195): gd takes the result limited to its range, SAT is set where the limit changed
the result and otherwise stands, and nothing else of the module changes. -/
def Obligations.DervosSaturationSetsSat : Prop :=
  ∀ (s : State) (e rd ra rb sh n : Nat), Runs s e →
    let x := s.eng e
    let a := (x.g ra).toInt
    let b := (x.g rb).toInt
    let lo : Int := -(2 ^ 31)
    let hi : Int := 2 ^ 31 - 1
    let gives (c : Instr) (v l h : Int) (cycles : Nat) : Prop :=
      Ends c s (EngineAndSat s.onward e ((x.setG rd (BitVec.ofInt 32 (max l (min v h)))).next cycles) (decide (v < l ∨ h < v)))
    let product : Int := if sh % 32 = 0 then a * b else (a * b + 2 ^ (sh % 32 - 1)) / 2 ^ (sh % 32)
    gives (.dAdds e rd ra rb) (a + b) lo hi 1 ∧
    gives (.dSubs e rd ra rb) (a - b) lo hi 1 ∧
    gives (.dMulq e rd ra rb sh) ((x.g rd).toInt + product) lo hi 2 ∧
    (1 ≤ n → n ≤ 32 → gives (.dSatq e rd ra true n) a 0 (min (2 ^ n - 1) hi) 1) ∧
    (1 ≤ n → n ≤ 32 → gives (.dSatq e rd ra false n) a (-(2 ^ (n - 1))) (2 ^ (n - 1) - 1) 1)

/-- TIER 2. Loads and stores (R179): an aligned access of data memory completes, a load with the little-endian value extended
as the instruction says unless the word read holds an uncorrectable error, a store with exactly its bytes changed, a whole word
with check bits of its own (log entry 97); a word load of the status mirror by a power engine gives the
mirror word (R191); a power engine's CSTW to the page word GATE, ILIM or DUTY of a channel it owns sets that word and no other,
and a store to another offset of that channel has no effect (R191). -/
def Obligations.DervosLoadsAndStores : Prop :=
  (∀ (s : State) (e r ra imm : Nat), Runs s e →
      let x := s.eng e
      let a := (x.g ra + (BitVec.ofNat 18 imm).signExtend 32).toNat
      let byte (k : Nat) : Nat := (Memory.read x.dmem (a + k)).toNat
      let half := byte 0 + 256 * byte 1
      let gives (c : Instr) (v : Word) : Prop := Ends c s (OnlyEngine s.onward e ((x.setG r v).next 2))
      let sound : Prop := x.badData a = false
      let stores (c : Instr) (n : Nat) : Prop := Ends c s fun s' => ∃ m,
        OnlyEngine s.onward e ({ x with dmem := m, eccD := if n = 4 then x.eccD.filter fun w => w ≠ a / 4 else x.eccD }.next 1) s' ∧
        (∀ k, k < n → Memory.read m (a + k) = BitVec.ofNat 8 ((x.g r).toNat / 256 ^ k)) ∧
        ∀ b, (b < a ∨ a + n ≤ b) → Memory.read m b = Memory.read x.dmem b
      (a % 4 = 0 → a < 0x8000 → sound → gives (.dLdw e r ra imm) (BitVec.ofNat 32 (half + 65536 * byte 2 + 16777216 * byte 3))) ∧
      (a % 4 = 0 → 0x20000 ≤ a → a < 0x20600 → 12 ≤ e → gives (.dLdw e r ra imm) (BitVec.ofNat 32 (s.onward.mirror e a))) ∧
      (a % 2 = 0 → a < 0x8000 → sound → gives (.dLdh e r ra imm) ((BitVec.ofNat 16 half).signExtend 32)) ∧
      (a % 2 = 0 → a < 0x8000 → sound → gives (.dLdhu e r ra imm) (BitVec.ofNat 32 half)) ∧
      (a < 0x8000 → sound → gives (.dLdb e r ra imm) ((BitVec.ofNat 8 (byte 0)).signExtend 32)) ∧
      (a < 0x8000 → sound → gives (.dLdbu e r ra imm) (BitVec.ofNat 32 (byte 0))) ∧
      (a % 4 = 0 → a < 0x8000 → stores (.dStw e r ra imm) 4) ∧
      (a % 2 = 0 → a < 0x8000 → sound → stores (.dSth e r ra imm) 2) ∧
      (a < 0x8000 → sound → stores (.dStb e r ra imm) 1)) ∧
  (∀ (s : State) (e rs ra imm : Nat), Runs s e → 12 ≤ e →
      let x := s.eng e
      let a := (x.g ra + (BitVec.ofNat 18 imm).signExtend 32).toNat
      a % 4 = 0 → 0x10000 ≤ a → a < 0x10600 → engineOf ((a - 0x10000) / 32) = e →
      ((a - 0x10000) % 32 ≤ 8 → Ends (.dCstw e rs ra imm) s fun s' => ∃ m, OnlyEngine s.onward e ({ x with page := m }.next 1) s' ∧
        m.getD 0 a = (x.g rs).toNat ∧ ∀ b, b ≠ a → m.getD 0 b = x.page.getD 0 b) ∧
      (8 < (a - 0x10000) % 32 → Ends (.dCstw e rs ra imm) s (OnlyEngine s.onward e (x.next 1))))

/-- TIER 2. A faulting instruction (R196): a misaligned access faults with ALIGN, an access of no mapped address with ADDR, a
channel-page store to a channel of another engine with CHANNEL, a jump beyond program memory with PC_RANGE, a bit field beyond
bit 31 with ILLEGAL, a port not bound in the direction with PORT, an instance not granted with INST, and with ECC every instruction
whose word holds an uncorrectable error and every access that reads such a data word. The engine enters FAULT with the cause and the
pc recorded; its registers, pc and data memory stand, and so does memory unless a drain of an instance reset was due. -/
def Obligations.DervosFaultHasNoEffect : Prop :=
  ∀ (s : State) (e r ra imm pos len q : Nat) (sx w : Bool), e < 16 → (s.eng e).state = .running →
    let x := s.eng e
    let a := (x.g ra + (BitVec.ofNat 18 imm).signExtend 32).toNat
    let faults (c : Instr) (cause : Nat) : Prop := Ends c s fun s' =>
      (s'.eng e).state = .fault ∧ (s'.eng e).regs = x.regs ∧ (s'.eng e).pc = x.pc ∧ (s'.eng e).dmem = x.dmem ∧
      s'.rd (F.DVE_STAT_FAULT_CAUSE e) = cause ∧ s'.rd (F.DVE_FAULT_PC_PC e) = x.pc % 2 ^ 16 ∧
      (x.drains = [] → s'.mem = s.mem)
    (x.badFetch = true → faults (.dAdd e r ra q) 7 ∧ faults (.dLdw e r ra imm) 7 ∧ faults (.dWait e r ra) 7) ∧
    (x.badFetch = false → a < 0x8000 → x.badData a = true →
      (a % 4 = 0 → faults (.dLdw e r ra imm) 7) ∧
      (a % 2 = 0 → faults (.dLdh e r ra imm) 7 ∧ faults (.dLdhu e r ra imm) 7 ∧ faults (.dSth e r ra imm) 7) ∧
      faults (.dLdb e r ra imm) 7 ∧ faults (.dLdbu e r ra imm) 7 ∧ faults (.dStb e r ra imm) 7) ∧
    (x.badFetch = false →
    (a % 4 ≠ 0 → faults (.dLdw e r ra imm) 2 ∧ faults (.dStw e r ra imm) 2 ∧ faults (.dCstw e r ra imm) 2) ∧
    (a % 2 ≠ 0 → faults (.dLdh e r ra imm) 2 ∧ faults (.dLdhu e r ra imm) 2 ∧ faults (.dSth e r ra imm) 2) ∧
    (a % 4 = 0 → 0x8000 ≤ a → (e < 12 ∨ a < 0x20000 ∨ 0x20600 ≤ a) → faults (.dLdw e r ra imm) 3) ∧
    (a % 4 = 0 → 0x8000 ≤ a → faults (.dStw e r ra imm) 3) ∧
    (a % 2 = 0 → 0x8000 ≤ a → faults (.dLdh e r ra imm) 3 ∧ faults (.dLdhu e r ra imm) 3 ∧ faults (.dSth e r ra imm) 3) ∧
    (0x8000 ≤ a → faults (.dLdb e r ra imm) 3 ∧ faults (.dLdbu e r ra imm) 3 ∧ faults (.dStb e r ra imm) 3) ∧
    (a % 4 = 0 → (e < 12 ∨ a < 0x10000 ∨ 0x10600 ≤ a) → faults (.dCstw e r ra imm) 3) ∧
    (a % 4 = 0 → 12 ≤ e → 0x10000 ≤ a → a < 0x10600 → engineOf ((a - 0x10000) / 32) ≠ e → faults (.dCstw e r ra imm) 5) ∧
    (0xFFFC < a / 4 * 4 → faults (.dJalr e r ra imm) 4) ∧
    (32 < pos + len → faults (.dExt e r ra pos len sx w) 1 ∧ faults (.dIns e r ra pos len w) 1) ∧
    (len ≠ 16 → len ≠ 24 → len ≠ 32 → faults (.dExt e r ra pos len sx true) 1 ∧ faults (.dIns e r ra pos len true) 1) ∧
    (q < 16 → s.boundIn e q = false → faults (.dPop e r ra q) 8 ∧ faults (.dPeekq e r ra q) 8) ∧
    (q < 16 → s.boundOut e q = false → faults (.dPush e r ra q) 8) ∧
    (s.granted e ((x.g ra).toNat % 64) = false → faults (.dSets e ra 4) 9))

/-- TIER 2. Branches and jumps (R193): pc takes the target where the condition holds and the next word where it does not; JAL
and JALR leave the address of the next word in gd. Nothing else changes but the cycle counts. -/
def Obligations.DervosBranches : Prop :=
  ∀ (s : State) (e rd ra rb off : Nat), Runs s e →
    let x := s.eng e
    let goal (o : Word) : Nat := (BitVec.ofNat 32 x.pc + 4 * o).toNat
    let o18 : Word := (BitVec.ofNat 18 off).signExtend 32
    let o22 : Word := (BitVec.ofNat 22 off).signExtend 32
    let link : Word := BitVec.ofNat 32 (x.pc + 4)
    let at' (y : Engine) (p : Nat) : Engine := { y with pc := p, cycles := y.cycles + 1, burst := y.burst + 1 }
    let branches (c : Instr) (taken : Prop) : Prop :=
      (taken → goal o18 ≤ 0xFFFC → Ends c s (OnlyEngine s.onward e (at' x (goal o18)))) ∧
      (¬ taken → Ends c s (OnlyEngine s.onward e (at' x (x.pc + 4))))
    branches (.dBeq e ra rb off) (x.g ra = x.g rb) ∧
    branches (.dBne e ra rb off) (x.g ra ≠ x.g rb) ∧
    branches (.dBlt e ra rb off) ((x.g ra).toInt < (x.g rb).toInt) ∧
    branches (.dBge e ra rb off) ((x.g rb).toInt ≤ (x.g ra).toInt) ∧
    branches (.dBltu e ra rb off) ((x.g ra).toNat < (x.g rb).toNat) ∧
    branches (.dBgeu e ra rb off) ((x.g rb).toNat ≤ (x.g ra).toNat) ∧
    (goal o22 ≤ 0xFFFC → Ends (.dJal e rd off) s (OnlyEngine s.onward e (at' (x.setG rd link) (goal o22)))) ∧
    ((x.g ra + o18).toNat / 4 * 4 ≤ 0xFFFC →
      Ends (.dJalr e rd ra off) s (OnlyEngine s.onward e (at' (x.setG rd link) ((x.g ra + o18).toNat / 4 * 4))))

/-- TIER 2. Ports (R183, R184, R194): POP removes the head word of an input port and PEEKQ leaves it; a popped header sets
CUR_INST; an empty port answers -1 in gs. PUSH of the header of an entry with payload opens the entry, and answers the room
left; where the port has no room for the whole entry it answers -1 and counts the refusal. -/
def Obligations.DervosPorts : Prop :=
  ∀ (s : State) (e rd rs q : Nat), Runs s e → q < 16 →
    let x := s.eng e
    let p := x.port q
    (s.boundIn e q = true → p.head = none →
      Ends (.dPop e rd rs q) s (OnlyEngine s.onward e ((x.setG rs (BitVec.ofInt 32 (-1))).next 1)) ∧
      Ends (.dPeekq e rd rs q) s (OnlyEngine s.onward e ((x.setG rs (BitVec.ofInt 32 (-1))).next 1))) ∧
    (∀ v rest, s.boundIn e q = true → p.body = v :: rest →
      Ends (.dPop e rd rs q) s (fun s' => (s'.eng e).port q = { p with body := rest } ∧ (s'.eng e).curInst = x.curInst ∧
        (s'.eng e).pc = x.pc + 4 ∧ s'.regs = s.regs ∧ s'.mem = s.mem) ∧
      Ends (.dPeekq e rd rs q) s (fun s' => (s'.eng e).port q = p ∧ (s'.eng e).pc = x.pc + 4 ∧ s'.regs = s.regs ∧
        s'.mem = s.mem)) ∧
    (∀ en rest, s.boundIn e q = true → p.body = [] → p.entries = en :: rest → en.inst < 64 → en.status < 256 →
      en.payload.length < 4096 → Ends (.dPop e rd rs q) s (fun s' => (s'.eng e).curInst = en.inst ∧
        ((s'.eng e).port q).body = en.payload ∧ ((s'.eng e).port q).entries = rest ∧ s'.regs = s.regs ∧ s'.mem = s.mem)) ∧
    (s.boundOut e q = true → p.opened = none → p.room < (x.g rd).toNat % 4096 + 1 →
      Ends (.dPush e rd rs q) s (fun s' => s'.eng e = (x.setG rs (BitVec.ofInt 32 (-1))).next 1 ∧
        s'.rd (F.DVE_PORT_REFUSED e q) = min (s.rd (F.DVE_PORT_REFUSED e q) + 1) (2 ^ (F.DVE_PORT_REFUSED e q).width - 1) ∧
        s'.mem = s.mem)) ∧
    (s.boundOut e q = true → p.opened = none → (x.g rd).toNat % 4096 + 1 ≤ p.room → 0 < (x.g rd).toNat % 4096 →
      Ends (.dPush e rd rs q) s (fun s' => ((s'.eng e).port q).opened =
          some (x.curInst, (x.g rd).toNat / 2 ^ 18 % 256, (x.g rd).toNat % 4096, []) ∧
        (s'.eng e).pc = x.pc + 4 ∧ s'.regs = s.regs ∧ s'.mem = s.mem))

/-- TIER 2. WAIT, the timers and the special registers (R180, R187, R188, R190): WAIT with a pending event of its mask returns
it and closes the burst, without one the engine sleeps at the same pc; TSET arms, TCLR disarms; MOVS reads and SETS writes the
special registers. The present instant of an instruction is the latest captured one. -/
def Obligations.DervosWaitTimersSpecials : Prop :=
  ∀ (s : State) (e rd ra k : Nat), Runs s e → (s.eng e).drains = [] →
    let x := s.eng e
    let v := x.g ra
    let ev := s.pendingEvents e &&& v.toNat
    let puts (c : Instr) (w : Word) : Prop := Ends c s (OnlyEngine s.onward e ((x.setG rd w).next 1))
    (ev ≠ 0 → Ends (.dWait e rd ra) s fun s' => (s'.eng e).state = .running ∧ (s'.eng e).pc = x.pc + 4 ∧
      (s'.eng e).g rd = (if rd % 16 = 0 then 0 else BitVec.ofNat 32 ev) ∧ (s'.eng e).burst = 0 ∧ s'.mem = s.mem) ∧
    (ev = 0 → Ends (.dWait e rd ra) s fun s' => (s'.eng e).state = .waiting ∧ (s'.eng e).pc = x.pc ∧
      (s'.eng e).waitMask = v ∧ (s'.eng e).regs = x.regs ∧ (s'.eng e).burst = 0 ∧ s'.mem = s.mem) ∧
    (k < 8 → Ends (.dTset e ra 0 k) s fun s' => OnlyEngine s.onward e
      ({ x with timers := x.timers.insert k ⟨s.frc + v.toNat, 0, none⟩ }.next 1) s') ∧
    (k < 8 → Ends (.dTset e ra 1 k) s fun s' => OnlyEngine s.onward e
      ({ x with timers := x.timers.insert k ⟨s.frc + max 100 v.toNat, max 100 v.toNat, none⟩ }.next 1) s') ∧
    (k < 8 → Ends (.dTclr e k) s fun s' => OnlyEngine s.onward e ({ x with timers := x.timers.erase k }.next 1) s') ∧
    Ends (.dMovs e rd 0) s (fun s' => OnlyEngine s.onward e
      (({ x with frcHi := s.frc / 2 ^ 32 % 2 ^ 32 }.setG rd (BitVec.ofNat 32 s.frc)).next 1) s') ∧
    puts (.dMovs e rd 1) (BitVec.ofNat 32 x.frcHi) ∧ puts (.dMovs e rd 2) (BitVec.ofNat 32 x.cycles) ∧
    puts (.dMovs e rd 3) (BitVec.ofNat 32 e) ∧ puts (.dMovs e rd 4) (BitVec.ofNat 32 x.curInst) ∧
    puts (.dMovs e rd 5) (BitVec.ofNat 32 (s.rd (F.DVE_STAT_SAT e))) ∧
    (s.granted e (v.toNat % 64) = true → Ends (.dSets e ra 4) s fun s' =>
      OnlyEngine s.onward e ({ x with curInst := v.toNat % 64 }.next 1) s') ∧
    Ends (.dSets e ra 5) s (fun s' => s'.rd (F.DVE_STAT_SAT e) = v.toNat % 2 ∧ s'.eng e = x.next 1 ∧ s'.mem = s.mem)

/-- TIER 2. The commands and events of an engine that the hub or time brings about (R181, R186 to R190, R196 to R201): an event
wakes WAIT, a due timer sets its event, a full burst faults, a doorbell sets its edges, START begins at the entry with cleared
registers, STOP and LOAD act in their states, a load that the Attic can read ends with the result of the checks of R200 and the image
where they all pass; QMAP, INST_ALLOW and data memory are written while STOPPED, and
an engine with work of a fenced instance drains it. The writes are the Attic's and pass their region check. -/
def Obligations.EngineControlCompletes : Prop :=
  ∀ (s : State) (t e k q off i : Nat) (a : Attr) (v : Word) (im : EngImage), e < 16 →
    (∀ o, (s.tick t).passes (0x40400000 + e * 0x10000 + o) a true = true) → a.attic = true →
    let x := s.eng e
    let n := s.tick t
    (x.state = .waiting → s.pendingEvents e &&& x.waitMask.toNat ≠ 0 → Ends (.waitWake t e) s fun s' =>
      (s'.eng e).state = .running ∧ (s'.eng e).pc = (if x.routing then x.pc else x.pc + 4) ∧
      (s'.eng e).cycles = x.cycles + 3) ∧
    (∀ tm, k < 8 → x.timers.find? k = some tm → tm.due ≤ n.now → tm.period = 0 → Ends (.engineTimerFire t e k) s fun s' =>
      (s'.eng e).edges = maskSet x.edges (16 + k) ∧ (s'.eng e).timers = x.timers.erase k) ∧
    (∀ tm, k < 8 → x.timers.find? k = some tm → tm.due ≤ n.now → tm.period ≠ 0 → Ends (.engineTimerFire t e k) s fun s' =>
      (s'.eng e).edges = maskSet x.edges (16 + k) ∧
      (s'.eng e).timers = x.timers.insert k { tm with due := tm.due + tm.period }) ∧
    (x.state = .running → s.rd (F.DVE_BURST_BURST_MAX e) * 8 ≤ x.burst → Ends (.burstLimitExpiry t e) s fun s' =>
      (s'.eng e).state = .fault ∧ s'.rd (F.DVE_STAT_FAULT_CAUSE e) = 6) ∧
    (Ends (.doorbell t a e q) s fun s' => s'.eng e = { x with edges := x.edges ||| (q % 16 * 2 ^ 24) } ∧ s'.regs = s.regs) ∧
    ((x.state = .stopped ∨ x.state = .fault) → x.image = some im → s.hashFits e im = true → Ends (.dveStart t a e) s fun s' =>
      (s'.eng e).state = .running ∧ (s'.eng e).pc = im.entry ∧ (s'.eng e).regs = [] ∧ (s'.eng e).timers = [] ∧
      s'.rd (F.DVE_STAT_SAT e) = 0) ∧
    (e < 12 → (x.state = .running ∨ x.state = .waiting ∨ x.state = .fault) → Ends (.dveStop t a e) s fun s' =>
      (s'.eng e).state = .stopped ∧ (s'.eng e).timers = [] ∧ (x.drains = [] → s'.regs = s.regs)) ∧
    (e < 12 → x.state = .stopped → Ends (.dveLoad t a e) s fun s' =>
      (s'.eng e).state = .loading ∧ s'.regs = s.regs ∧ (s'.eng e).loading =
        some (s.rd (F.DVE_LOAD_ADDR_ADDR e 0) / 4 * 4 + s.rd (F.DVE_LOAD_ADDR_ADDR e 1) % 256 * 2 ^ 32)) ∧
    (∀ addr, x.loading = some addr → n.reaches addr 64 false = true →
      (∀ m, n.imageAt addr = some m → n.reaches addr (64 + 4 * m.code.length + m.data.length + 3405) false = true) →
      Ends (.loadComplete t e) s fun s' => (s'.eng e).state = .stopped ∧ (s'.eng e).loading = none ∧
        match n.imageAt addr with
        | some m => s'.rd (F.DVE_LOAD_RESULT_RESULT e) = n.loadResult e m ∧
            (s'.eng e).image = if n.loadResult e m = 0 then some ⟨m.entry, m.data⟩ else none
        | none => s'.rd (F.DVE_LOAD_RESULT_RESULT e) = 2 ∧ (s'.eng e).image = none) ∧
    (x.state = .stopped → v.toNat / 2 ^ 30 = 3 → q < 16 → Ends (.qmapWrite t a e q v) s fun s' =>
      s'.rd (F.DVE_QMAP_EN e q) = 1 ∧ s'.rd (F.DVE_QMAP_DIR e q) = 1 ∧ s'.rd (F.DVE_QMAP_HWQ e q) = v.toNat % 512) ∧
    (x.state = .stopped → Ends (.instAllowWrite t a e false v) s fun s' =>
      s'.rd (F.DVE_INST_ALLOW_ALLOW e 0) = v.toNat ∧ s'.mem = s.mem) ∧
    (x.state = .stopped → off % 4 = 0 → off < 0x8000 → Ends (.dmemWrite t a e off v) s fun s' =>
      (∀ j, j < 4 → Memory.read (s'.eng e).dmem (off + j) = BitVec.ofNat 8 (v.toNat / 256 ^ j)) ∧
      ∀ b, (b < off ∨ off + 4 ≤ b) → Memory.read (s'.eng e).dmem b = Memory.read x.dmem b) ∧
    (i < 64 → s.awaits i (4 + e) = true → x.drains.contains i = false → x.state = .running →
      Ends (.engineFenceArrive t e i) s fun s' => (s'.eng e).drains = x.drains ++ [i] ∧ s'.regs = s.regs)

/-- TIER 3. The encoder and the decoder of Dervos words agree (R193): the word of a well-formed instruction of an engine decodes
to that instruction, with every operand at every value that the encoding admits. -/
def Obligations.DervosDecodeOfEncode : Prop :=
  ∀ (i : Instr) (e w : Nat), i.wf = true → encodeDervos i = some (e, w) → w < 2 ^ 32 ∧ decodeDervos e w = some i

/-- TIER 3. An invariant of every Dervos instruction: in a state in which every engine's pc is a word address of program memory
and every data memory has its canonical form, an instruction of any engine leads to such a state again (R179, R193). -/
def Obligations.DervosKeepsEnginesSound : Prop :=
  ∀ (i : Instr) (e w : Nat) (s s' : State), encodeDervos i = some (e, w) →
    (∀ k, (s.eng k).sound = true) → exec i s = .next s' → ∀ k, (s'.eng k).sound = true

/-! ### The signal gateway and the Stairwell -/

/-- TIER 2. The classifier and its tables (R203 to R205, R207, R208, R213): the first valid key that matches commits one route
entry to the IN_HWQ of its route and counts a hit; a frame without a key counts in NOMATCH, a copy that is not admitted in
DROPPED; the copy carries the instant captured with the frame; a key that is VALID and tables under CLASSIFY_EN refuse writes; SEAL computes the hash. -/
def Obligations.GatewayClassifierAndTables : Prop :=
  ∀ (s : State) (t k r i w : Nat) (a : Attr) (f : SrcFrame) (v : Word),
    let n := s.tick t
    let q := s.rd (F.GW_ROUTE0_IN_HWQ r)
    let inst := s.rd (F.GW_ROUTE0_INST r)
    let e := routeEntry f r inst
    let refused (c : Instr) : Prop := Ends c s fun s' => OnlyRegs s t [F.GWTAB_STAT_CFG_REFUSED] s' ∧
      s'.rd F.GWTAB_STAT_CFG_REFUSED = 1
    e.payload.length = 3 + (min 2048 f.data.length + 3) / 4 ∧
    (s.flag F.GWTAB_CTL_CLASSIFY_EN = true → f.src < 32 → s.stair.offered = [f] →
      ((∀ j, j < 4096 → n.keyMatches j f = false) → Ends (.classifyFrame t) s fun s' =>
        s'.rd F.GWTAB_CNT_NOMATCH = min (2 ^ 16 - 1) (s.rd F.GWTAB_CNT_NOMATCH + 1) ∧ s'.vim = s.vim ∧ s'.mem = s.mem) ∧
      (k < 4096 → n.keyMatches k f = true → (∀ j, j < k → n.keyMatches j f = false) → s.keyRoutes k = [r] →
        s.flag (F.GW_ROUTE0_VALID r) = true → (s.inst inst).state = .active →
        (q < 384 → s.admission q e.size = .ok → Ends (.classifyFrame t) s fun s' =>
          s'.pool q = { s.pool q with entries := (s.pool q).entries ++ [e] } ∧ (∀ j, j ≠ q → s'.pool j = s.pool j) ∧
          s'.rd (F.GW_KEY3_HITS k) = min (2 ^ 32 - 1) (s.rd (F.GW_KEY3_HITS k) + 1)) ∧
        (q < 384 → s.admission q e.size = .full → Ends (.classifyFrame t) s fun s' => s'.vim = s.vim ∧
          s'.rd F.GWTAB_CNT_DROPPED = min (2 ^ 16 - 1) (s.rd F.GWTAB_CNT_DROPPED + 1)))) ∧
    (k < 4096 → n.passes (0x40520000 + 32 * k) a true = true → Ends (.keyWrite t a k 0 v) s fun s' =>
      OnlyRegs s t [F.GW_KEY0_VALID k, F.GW_KEY0_SRC k, F.GW_KEY0_XTD k] s' ∧ s'.rd (F.GW_KEY0_VALID k) = v.toNat / 2 ^ 31 ∧
      s'.rd (F.GW_KEY0_SRC k) = v.toNat / 2 ^ 24 % 32 ∧ s'.rd (F.GW_KEY0_XTD k) = v.toNat / 2 ^ 23 % 2) ∧
    (k < 4096 → n.passes (0x40520000 + 32 * k + 4) a true = true → s.flag (F.GW_KEY0_VALID k) = false →
      Ends (.keyWrite t a k 1 v) s fun s' => OnlyRegs s t [F.GW_KEY1_ID k] s' ∧ s'.rd (F.GW_KEY1_ID k) = v.toNat % 2 ^ 29) ∧
    (k < 4096 → w < 8 → w ≠ 0 → w ≠ 3 → n.passes (0x40520000 + 32 * k + 4 * w) a true = true →
      s.flag (F.GW_KEY0_VALID k) = true → refused (.keyWrite t a k w v)) ∧
    (k < 2048 → n.passes (0x40510000 + 16 * k) a true = true → s.flag F.GWTAB_CTL_CLASSIFY_EN = false →
      Ends (.routeTableWrite t a false k 0 v) s fun s' => s'.rd (F.GW_ROUTE0_VALID k) = v.toNat / 2 ^ 31 ∧
        s'.rd (F.GW_ROUTE0_INST k) = v.toNat / 2 ^ 25 % 64 ∧ s'.rd (F.GW_ROUTE0_IN_HWQ k) = v.toNat / 2 ^ 16 % 512 ∧
        s'.rd (F.GW_ROUTE0_TRIGGER k) = v.toNat / 2 ^ 14 % 4 ∧ s'.mem = s.mem) ∧
    (k < 8192 → n.passes (0x40540000 + 32 * k + 8) a true = true → s.flag F.GWTAB_CTL_CLASSIFY_EN = false →
      Ends (.routeTableWrite t a true k 2 v) s fun s' => OnlyRegs s t [F.GW_DESC2_FACTOR k] s' ∧
        s'.rd (F.GW_DESC2_FACTOR k) = v.toNat) ∧
    (k < 2048 → w < 4 → n.passes (0x40510000 + 16 * k + 4 * w) a true = true → s.flag F.GWTAB_CTL_CLASSIFY_EN = true →
      refused (.routeTableWrite t a false k w v)) ∧
    (n.passes 0x40500000 a true = true →
      (s.flag F.GWTAB_CTL_CLASSIFY_EN = false → Ends (.gwSeal t a) s fun s' =>
        OnlyRegs s t [F.GWTAB_STAT_SEAL_BUSY] s' ∧ s'.rd F.GWTAB_STAT_SEAL_BUSY = 1) ∧
      (s.flag F.GWTAB_CTL_CLASSIFY_EN = true → refused (.gwSeal t a))) ∧
    (s.flag F.GWTAB_STAT_SEAL_BUSY = true → Ends (.gwSealComplete t) s fun s' => s'.rd F.GWTAB_STAT_SEAL_BUSY = 0 ∧
      ∀ j, j < 8 → s'.rd (F.GWTAB_DESC_HASH_HASH j) =
        Config.sha256 n.tableBytes / 2 ^ (32 * j) % 2 ^ 32) ∧
    (i < 64 → s.awaits i 2 = true → Ends (.classifierFence t i) s fun s' =>
      (s'.inst i).drained.testBit 2 = true ∧ (s'.inst i).state = .resetting ∧ s'.regs = s.regs ∧
      ∀ j, j ≠ i → s'.inst j = s.inst j)

/-- TIER 2. Reads of the Stairwell window (R214, R215, R217 to R220): a new key takes the lowest free slot and enters its station
accesses; a re-read of a FETCHING slot is answered RETRY, a READY or FAILED slot is returned and freed; without room the
read is answered RETRY and counted; a re-read is arbitrated with those of its clock; a bad address or alignment has no effect; an uncollected slot goes to the orphan
log. -/
def Obligations.StairwellReads : Prop :=
  ∀ (s : State) (t port addr size j : Nat) (a : Attr) (x : Slot), (s.tick t).passes addr a false = true → a.dom = .hub →
    let k := winStn addr
    let read := Instr.windowRead t a port addr size
    let tie := s.stair.reads.1 = t ∧ s.stair.reads.2.any (fun p => p ≠ port) = true
    let arbitrated (s' : State) : Prop := s'.stair.readPtr = port + 1 ∧ (¬ tie → s'.regs = s.regs) ∧
      (tie → RegsBut [F.STAIR_TIE_CNT_TIES] s s' ∧
        s'.rd F.STAIR_TIE_CNT_TIES = min (2 ^ F.STAIR_TIE_CNT_TIES.width - 1) (s.rd F.STAIR_TIE_CNT_TIES + 1))
    let same (s' : State) : Prop := s'.stair = s.stair ∧ s'.regs = s.regs ∧ s'.mem = s.mem
    ((s.winAddrOk addr = false ∨ winSizeOk addr size = false) → Ends read s fun s' => s'.resp = ⟨0x10, 0⟩ ∧ same s') ∧
    (s.winAddrOk addr = true → winSizeOk addr size = true → (s.inst a.inst).state = .active →
      (s.slotOf a addr size = none → (s.stn k).state ≠ .absent →
        (j < 32 → s.stair.slots.find? j = none → (∀ i, i < j → s.stair.slots.find? i ≠ none) →
          (s.fifo k).length + winHalves size ≤ 8 → Ends read s fun s' => s'.resp = ⟨1, 0⟩ ∧
            s'.stair.slots.find? j = some ⟨addr, size, a, .fetching, 0, 0, 0⟩ ∧
            (∀ i, i ≠ j → s'.stair.slots.find? i = s.stair.slots.find? i) ∧
            s'.fifo k = s.fifo k ++ (List.range (winHalves size)).map (fun h =>
              ⟨.slot j, a.inst, (winReg addr + h) % 65536, 0, h, decide (h + 1 = winHalves size)⟩) ∧
            (∀ i, i ≠ k → s'.fifo i = s.fifo i) ∧ s'.regs = s.regs) ∧
        (8 < (s.fifo k).length + winHalves size → Ends read s fun s' => s'.resp = ⟨1, 0⟩ ∧ s'.stair = s.stair ∧
          s'.rd F.STAIR_CNT_SLOT_FULL = min (2 ^ 16 - 1) (s.rd F.STAIR_CNT_SLOT_FULL + 1))) ∧
      (s.slotOf a addr size = some (j, x) → x.state = .fetching → Ends read s fun s' => s'.resp = ⟨1, 0⟩ ∧
        s'.stair.slots = s.stair.slots ∧ s'.stair.fifos = s.stair.fifos ∧ arbitrated s') ∧
      (s.slotOf a addr size = some (j, x) → x.state = .ready → t < x.ready + 64000 → Ends read s fun s' =>
        s'.resp = ⟨0, x.result⟩ ∧ s'.stair.slots.find? j = none ∧ arbitrated s' ∧
        ∀ i, i ≠ j → s'.stair.slots.find? i = s.stair.slots.find? i) ∧
      (s.slotOf a addr size = some (j, x) → x.state = .failed → t < x.ready + 64000 → Ends read s fun s' =>
        s'.resp = ⟨x.status, 0⟩ ∧ s'.stair.slots.find? j = none ∧ arbitrated s')) ∧
    (j < 32 → s.stair.slots.find? j = some x → (x.state = .ready ∨ x.state = .failed) → x.ready + 64000 ≤ t →
      s.stair.orph.length < 16 → Ends (.slotOrphanTimeout t j) s fun s' => s'.stair.slots.find? j = none ∧
        s'.stair.orph = s.stair.orph ++ [⟨x.attr.inst, x.attr.attic, x.status, x.addr, x.size, x.value⟩] ∧
        s'.rd F.STAIR_CNT_ORPHANED = min (2 ^ 16 - 1) (s.rd F.STAIR_CNT_ORPHANED + 1) ∧ WroteOne s s' 9 1 4 x.attr.inst 7)

/-- TIER 2. Posted writes, the two logs and the fence (R221 to R225): a write answers OK and takes its segment's next number;
an 8-bit write, an ABSENT station and a full FIFO fail it with their reasons; a read of the error queue or the orphan log
returns and removes the oldest entry of the instance, of any for the Attic, among those that stood there before the clock; the fence frees what the instance has, and a write wholly in a
POLL completes silently. -/
def Obligations.StairwellWritesAndLogs : Prop :=
  ∀ (s : State) (t addr size value i n seg : Nat) (a : Attr) (peek : Bool) (e : PweEntry) (o : OrphEntry) (es : List PweEntry)
    (os : List OrphEntry), a.dom = .hub →
    let clock := s.tick t
    let k := winStn addr
    let num := if k / 16 = 0 then s.stair.nextSeq.1 else s.stair.nextSeq.2
    let halves := (List.range (winHalves size)).map fun j => value / 65536 ^ j % 65536
    let fails (reason : Nat) : Prop := Ends (.windowWrite t a addr size value) s fun s' => s'.resp = ⟨0, 0⟩ ∧
      s'.stair.pwe = s.stair.pwe ++ [⟨a.inst, reason, 0, num, addr, size, 0, halves.getD 0 0⟩] ∧
      s'.stair.fifos = s.stair.fifos ∧ WroteOne s s' 9 2 4 a.inst 6
    let room := s.stair.pwe.length < 64 ∧ (s.stair.pwe.filter fun x => x.inst = a.inst).length < 8
    let fresh := ∀ x, x ∈ s.stair.writes → ¬ (x.seg = k / 16 ∧ x.seq = num)
    (clock.passes addr a true = true → s.winAddrOk addr = true → winSizeOk addr size = true → (s.inst a.inst).state = .active →
      (size ≠ 1 → (s.stn k).state ≠ .absent → (s.fifo k).length + halves.length ≤ 8 →
        Ends (.windowWrite t a addr size value) s fun s' => s'.resp = ⟨0, 0⟩ ∧
          s'.stair.writes = s.stair.writes ++ [⟨k / 16, num, a.inst, addr, size, halves, 0, false⟩] ∧
          (s'.fifo k).length = (s.fifo k).length + halves.length ∧ (s'.inst a.inst).wseq = (k / 16, num) ∧
          (if k / 16 = 0 then s'.stair.nextSeq.1 else s'.stair.nextSeq.2) = (num + 1) % 65536 ∧ s'.regs = s.regs) ∧
      (size = 1 → room → fresh → fails 4) ∧
      (size ≠ 1 → (s.stn k).state = .absent → room → fresh → fails 3) ∧
      (size ≠ 1 → (s.stn k).state ≠ .absent → 8 < (s.fifo k).length + halves.length → room → fresh → fails 5)) ∧
    (clock.passes (if peek then 0x40588020 else 0x40580020) a false = true →
      (s.stair.pwe = e :: es → 0 < clock.settled 0x40580020 (es.length + 1) → (a.attic = true ∨ e.inst = a.inst) → Ends (.pweRead t a peek) s fun s' =>
        s'.resp = ⟨0, PweEntry.word e⟩ ∧ s'.stair.pwe = if peek then e :: es else es) ∧
      (s.stair.pwe = [] → Ends (.pweRead t a peek) s fun s' => s'.resp = ⟨0, 0⟩ ∧ s'.stair = s.stair)) ∧
    (clock.passes (if peek then 0x40588030 else 0x40580030) a false = true →
      s.stair.orph = o :: os → 0 < clock.settled 0x40580030 (os.length + 1) → (a.attic = true ∨ o.inst = a.inst) → Ends (.orphRead t a peek) s fun s' =>
        s'.resp = ⟨0, OrphEntry.word o⟩ ∧ s'.stair.orph = (if peek then o :: os else os) ∧
        (peek = false → s'.rd (F.STAIR_ORPH_DET_VALUE 1) = o.value % 2 ^ 32)) ∧
    (seg < 2 → 1 ≤ n → n ≤ 16 →
      clock.passes (0x4060110C + 0x1000 * seg + 0x10 * (n - 1) + if peek then 0x8000 else 0) a false = true →
      let irq := (s.stn (16 * seg + n - 1)).irq
      let got := clock.rsTake (0x4060110C + 0x1000 * seg + 0x10 * (n - 1)) irq
      (s.now ≠ t → got = (irq, 0)) ∧
      Ends (.stnIrqRead t a seg n peek) s fun s' => s'.resp = ⟨0, got.1⟩ ∧
        (s'.stn (16 * seg + n - 1)).irq = if peek then irq else got.2) ∧
    (i < 64 → s.awaits i 1 = true → Ends (.stairFence t i) s fun s' =>
      (∀ x, x ∈ s'.stair.slots → x.2.attr.inst ≠ i) ∧ (∀ x, x ∈ s'.stair.pwe → x.inst ≠ i) ∧
      (∀ x, x ∈ s'.stair.orph → x.inst ≠ i) ∧ (∀ x, x ∈ s'.stair.writes → x.inst = i → x.silent = true) ∧
      (∀ x, x ∈ s'.stair.fifos → ∀ y, y ∈ x.2 → y.inst ≠ i) ∧
      (∀ x, x ∈ s.stair.pwe → x.inst ≠ i → x ∈ s'.stair.pwe) ∧ (s'.inst i).drained.testBit 1 = true)

/-! ### The Hallway switch -/

/-- TIER 2. Frames through the Hallway (R227 to R229, R232, R235, R240, R241, R245): a data frame for one port is stored and joins
the queue of its class, and its source is learned; a short frame, a PAUSE frame and one outside the VLAN are lost and
counted; the highest class with a frame starts first, an aged frame is discarded; the end of transmission frees the port
and the buffer; the head of a queue whose port is not FORWARDING waits (log entry 91); a gate entry that closes every preemptable class cuts the frame. -/
def Obligations.HallwayFrames : Prop :=
  ∀ (s : State) (t p q tc cut : Nat) (f : EthFrame) (c : QCopy) (cs : List QCopy) (x : Stored) (y : Sending),
    let tag := s.tagOf p f
    let vid := tag.1
    let cls := s.rd (F.HALL_PORT_PCP_MAP p) / 2 ^ (3 * tag.2.1) % 8
    let prof := s.rd (F.HALL_Q_CFG_PROFILE q cls)
    let cells := cellsOf f.len
    let lost (k : Nat) (s' : State) : Prop := s'.hall = s.hall ∧ s'.mem = s.mem ∧
      s'.rd (F.HALL_PORT_CNT_COUNT p k) = min (2 ^ 32 - 1) (s.rd (F.HALL_PORT_CNT_COUNT p k) + 1)
    (8 ≤ p → p < 24 → f.fcsOk = true → 64 ≤ f.len → f.len ≤ hallMax p → f.etype ≠ 0x8808 → s.secyOk p f = true →
      s.trapOf p f = .none → s.flag F.HALL_CTL_FWD_EN = true → s.forwarding p = true → vid < 4096 →
      ((s.rd (F.HALL_VLAN0_MEMBER vid)).testBit p = true → s.streamOf p f.da vid tag.2.1 = none →
        s.destsOf p f.da vid none = [q] → f.len ≤ hallMax q → q < 22 → s.flag (F.HALL_PORT_CFG_CUT_EN q) = false →
        s.link q ≠ 2 → (∀ z, z ∈ s.hallQ q cls → z.at_ ≠ t) → cells ≤ s.cellsFree → 0 < s.descFree → prof < 16 →
        s.hallOcc q cls + cells ≤ 16 * s.rd (F.HALL_Q_CFG_Q_LIMIT q cls) →
        s.hallOcc q cls < 32 * s.rd (F.HALL_RED_MIN prof (if tag.2.2 = 0 then 0 else 1)) →
        Ends (.frameRx t p f) s fun s' =>
          s'.hallQ q cls = s.hallQ q cls ++ [⟨s.hall.nextId, t, false, p⟩] ∧
          (∀ n, n ≠ 8 * q + cls → s'.hall.queues.getD [] n = s.hall.queues.getD [] n) ∧
          (∃ z, s'.hall.frames.find? s.hall.nextId = some z ∧ z.frame = f ∧ z.ingress = p ∧ z.vid = vid ∧ z.copies = 1 ∧
            z.cells = cells) ∧
          s'.hall.tx = s.hall.tx ∧ s'.mem = s.mem ∧ s'.log = s.log ∧
          (s.flag (F.HALL_PORT_CFG_LEARN_EN p) = true → groupAddr f.sa = false → f.sa ≠ f.da → s.fdbFind vid f.sa = none →
            s.fdbRoom vid f.sa = true → s'.fdbFind vid f.sa = some ⟨vid, f.sa, false, 2 ^ p, t⟩)) ∧
      ((s.rd (F.HALL_VLAN0_MEMBER vid)).testBit p = false → Ends (.frameRx t p f) s (lost 11))) ∧
    (8 ≤ p → p < 24 → f.len < 64 → Ends (.frameRx t p f) s (lost 14)) ∧
    (8 ≤ p → p < 24 → f.fcsOk = true → 64 ≤ f.len → f.len ≤ hallMax p → f.etype = 0x8808 →
      Ends (.frameRx t p f) s (lost 10)) ∧
    (p < 24 → tc < 8 → s.link p = 0 → s.hall.tx.find? p = none → s.hall.rest.find? p = none →
      (∀ k, tc < k → k < 8 → s.hallQ p k = []) → s.hallQ p tc = c :: cs → s.hall.frames.find? c.id = some x →
      (p < 22 → s.flag (F.HALL_GCL_CTL_GATE_EN p) = false) → s.flag (F.HALL_Q_SHAPE_SH_EN p tc) = false →
      let life := 1000000 * s.rd (F.HALL_Q_CFG_MAX_RES p tc)
      ((life = 0 ∨ t < c.at_ + life) → s.heldBack p c x = false → s.unsendable p x.frame = false → Ends (.egressDequeue t p) s fun s' =>
        s'.hallQ p tc = cs ∧ s'.hall.frames = s.hall.frames ∧ s'.mem = s.mem ∧
        (∀ n, n ≠ 8 * p + tc → s'.hall.queues.getD [] n = s.hall.queues.getD [] n) ∧
        (∀ k, k ≠ p → s'.hall.tx.find? k = s.hall.tx.find? k) ∧
        ∃ z, s'.hall.tx.find? p = some z ∧ z.id = c.id ∧ z.tc = tc ∧ z.start = t ∧ z.before = 0 ∧
          z.frame = (s.tick t).leaving p x c.trapped) ∧
      (life ≠ 0 → c.at_ + life ≤ t → cs = [] → (∀ k, k < tc → s.hallQ p k = []) → Ends (.egressDequeue t p) s fun s' =>
        s'.hallQ p tc = [] ∧ s'.hall.tx = s.hall.tx ∧
        s'.rd (F.HALL_PORT_CNT_COUNT p 6) = min (2 ^ 32 - 1) (s.rd (F.HALL_PORT_CNT_COUNT p 6) + 1))) ∧
    (p < 24 → s.hall.tx.find? p = some y → s.hall.frames.find? y.id = some x → Ends (.frameTxEnd t p) s fun s' =>
      s'.hall.tx.find? p = none ∧ (∀ k, k ≠ p → s'.hall.tx.find? k = s.hall.tx.find? k) ∧ s'.hall.queues = s.hall.queues ∧
      s'.rd (F.HALL_PORT_CNT_COUNT p 1) = min (2 ^ 32 - 1) (s.rd (F.HALL_PORT_CNT_COUNT p 1) + 1) ∧ s'.mem = s.mem ∧
      s'.hall.frames.find? y.id = if x.copies ≤ 1 then none else some { x with copies := x.copies - 1 }) ∧
    (p < 24 → s.hall.tx.find? p = some y → (s.tick t).cutAt p y = some cut →
      (∀ k, k < 8 → s.preemptable p k = true → ((s.tick t).gates p).testBit k = false) →
      Ends (.gateEntryChange t p) s fun s' => s'.hall.tx.find? p = none ∧
        s'.hall.rest.find? p = some { y with before := cut } ∧ s'.regs = s.regs ∧ s'.hall.queues = s.hall.queues ∧
        s'.hall.frames = s.hall.frames)

/-- TIER 2. Gate-list changes, link states, the database, the counters, preemption and recovery of the Hallway (R229 to R231,
R243, R245, R247, R248): a second CHANGE replaces the pending one; the administrative list becomes operational at the change
instant; a learning update of the same clock comes after a database command; a lost link holds its queues and flushes them when the window closes; a command never finds an entry under two
results. -/
def Obligations.HallwayControl : Prop :=
  ∀ (s : State) (t p k i c vid mac : Nat) (a : Attr) (v : Word) (e : FdbEntry) (x : Recov),
    let n := s.tick t
    let hub := n.passes 0x40E0010C a true = true
    let key := s.fdbKey
    let found := s.fdbFind key.1 key.2
    let result (r : Nat) (s' : State) : Prop := s'.rd F.HALL_FDB_CMD_RESULT = r
    let pend := s.hall.change.find? p
    (p < 22 → n.passes (0x40F00000 + 8192 * p) a true = true → Ends (.gclChange t a p v) s fun s' =>
      s'.rd (F.HALL_GCL_CTL_GATE_EN p) = v.toNat / 2 ^ 31 ∧
      s'.rd (F.HALL_GCL_CTL_ADMIN_LEN p) = min 256 (max 1 (v.toNat / 2 ^ 16 % 512)) ∧
      s'.hall.change.find? p = some (changeInstant (s.rd64 (F.HALL_GCL_ADMIN_BASE_ADMIN_BASE p))
        (max 1 (s.rd (F.HALL_GCL_ADMIN_CYCLE_ADMIN_CYCLE p))) n.tNow) ∧
      (∀ j, j ≠ p → s'.hall.change.find? j = s.hall.change.find? j) ∧ s'.mem = s.mem ∧
      s'.rd (F.HALL_GCL_CTL_OPER_LEN p) = s.rd (F.HALL_GCL_CTL_OPER_LEN p)) ∧
    (p < 22 → s.rd (F.HALL_GCL_CTL_ADMIN_LEN p) ≤ 256 → pend = some c →
      (c ≤ n.tNow → Ends (.gclChangeInstant t p) s fun s' =>
        s'.rd (F.HALL_GCL_CTL_OPER_LEN p) = s.rd (F.HALL_GCL_CTL_ADMIN_LEN p) ∧
        s'.rd64 (F.HALL_GCL_OPER_BASE_OPER_BASE p) = c % 2 ^ 64 ∧ s'.hall.change.find? p = none ∧
        s'.rd (F.HALL_GCL_OPER_CYCLE_OPER_CYCLE p) = s.rd (F.HALL_GCL_ADMIN_CYCLE_ADMIN_CYCLE p) % 2 ^ 32 ∧
        ∀ j, j < s.rd (F.HALL_GCL_CTL_ADMIN_LEN p) →
          s'.rd (F.HALL_GCL_OPR0_GATES p j) = s.rd (F.HALL_GCL_ADM0_GATES p j) % 256 ∧
          s'.rd (F.HALL_GCL_OPR1_INTERVAL p j) = max 1 (s.rd (F.HALL_GCL_ADM1_INTERVAL p j)) % 2 ^ 32) ∧
      (n.tNow < c → Ends (.gclChangeInstant t p) s fun s' => s' = s.tick t)) ∧
    (8 ≤ p → p < 24 → s.link p = 0 →
      (s.rd (F.HALL_PORT_HOLD_LINK_HOLD p) ≠ 0 → Ends (.linkLost t p) s fun s' => s'.link p = 1 ∧
        s'.hall.down.find? p = some t ∧ s'.hall.queues = s.hall.queues ∧ s'.hall.frames = s.hall.frames) ∧
      (s.rd (F.HALL_PORT_HOLD_LINK_HOLD p) = 0 → Ends (.linkLost t p) s fun s' => s'.link p = 2 ∧
        ∀ j, j < 8 → s'.hallQ p j = [])) ∧
    (8 ≤ p → p < 24 → s.link p = 1 →
      (n.holdOver p = false → Ends (.linkUp t p) s fun s' => s'.link p = 0 ∧ s'.hall.down.find? p = none ∧
        s'.hall.queues = s.hall.queues ∧ s'.hall.frames = s.hall.frames ∧ ∀ j, j ≠ p → 8 ≤ j → j < 24 → s'.link j = s.link j) ∧
      (n.holdOver p = true →
        (Ends (.linkUp t p) s fun s' => s'.link p = 0 ∧ ∀ j, j < 8 → s'.hallQ p j = []) ∧
        Ends (.linkHoldExpiry t p) s fun s' => s'.link p = 2 ∧ (∀ j, j < 8 → s'.hallQ p j = []) ∧
          (∀ m, m / 8 ≠ p → s'.hall.queues.getD [] m = s.hall.queues.getD [] m) ∧ s'.mem = s.mem)) ∧
    (8 ≤ p → p < 24 → s.link p = 2 → Ends (.linkUp t p) s fun s' => s'.link p = 0 ∧ s'.hall.queues = s.hall.queues ∧
      s'.hall.frames = s.hall.frames) ∧
    (hub → n.clk.learns = [] →
      (found ≠ none ∨ s.fdbRoom key.1 key.2 = true → Ends (.fdbInsert t a) s fun s' => result 0 s' ∧
        s'.fdbFind key.1 key.2 = some ⟨key.1, key.2, s.flag F.HALL_FDB_DATA_STATIC, s.rd F.HALL_FDB_DATA_PORT_MASK, t⟩ ∧
        ∀ v m, (v, m) ≠ key → s'.fdbFind v m = s.fdbFind v m) ∧
      (found = none → s.fdbRoom key.1 key.2 = false → Ends (.fdbInsert t a) s fun s' => result 2 s' ∧ s'.hall = s.hall) ∧
      (found ≠ none → Ends (.fdbDelete t a) s fun s' => result 0 s' ∧ s'.fdbFind key.1 key.2 = none ∧
        ∀ v m, (v, m) ≠ key → s'.fdbFind v m = s.fdbFind v m) ∧
      (found = none → Ends (.fdbDelete t a) s fun s' => result 1 s' ∧ s'.hall = s.hall) ∧
      (found = some e → Ends (.fdbLookUp t a) s fun s' => result 0 s' ∧ s'.hall = s.hall ∧
        s'.rd F.HALL_FDB_DATA_STATIC = (if e.static then 1 else 0) ∧ s'.rd F.HALL_FDB_DATA_PORT_MASK = e.mask % 2 ^ 24) ∧
      (found = none → Ends (.fdbLookUp t a) s fun s' => result 1 s' ∧ s'.hall = s.hall ∧
        s'.rd F.HALL_FDB_DATA_PORT_MASK = s.rd F.HALL_FDB_DATA_PORT_MASK)) ∧
    (hub → n.clk.learns = [(key.1, key.2, p, none)] → Ends (.fdbLookUp t a) s fun s' => result 1 s' ∧
      (s.fdbRoom key.1 key.2 = true → s'.fdbFind key.1 key.2 = some ⟨key.1, key.2, false, 2 ^ p, t⟩)) ∧
    (s.fdbFind vid mac = some e →
      let gone := e.static = false ∧ e.hit + 1000000000 * s.rd F.HALL_CTL_AGE_S ≤ t
      (gone → Ends (.fdbAgeOut t vid mac) s fun s' => s'.fdbFind vid mac = none ∧ s'.regs = s.regs ∧
        ∀ v m, (v, m) ≠ (vid, mac) → s'.fdbFind v m = s.fdbFind v m) ∧
      (¬ gone → Ends (.fdbAgeOut t vid mac) s fun s' => s' = s.tick t)) ∧
    (n.passes 0x40E00000 a true = true → Ends (.cntClr t a v) s fun s' =>
      (p < 24 → k < 16 → s'.rd (F.HALL_PORT_CNT_COUNT p k) = 0) ∧ s'.rd F.HALL_PARTIAL_CNT_PARTIAL = 0 ∧
      (k < 1024 → s'.rd (F.HALL_STREAM4_PARTIAL k) = 0 ∧ s'.rd (F.HALL_STREAM7_FRAMES k) = 0 ∧
        s'.rd (F.HALL_STREAM3_METER k) = s.rd (F.HALL_STREAM3_METER k)) ∧
      s'.rd F.HALL_TIE_CNT_TIES = s.rd F.HALL_TIE_CNT_TIES ∧ s'.rd F.HALL_BUF_MIN_MIN = s.cellsFree ∧
      s'.rd F.HALL_CTL_FWD_EN = v.toNat / 2 ^ 31 ∧ s'.rd F.HALL_CTL_AGE_S = max 10 (v.toNat % 4096) ∧ s'.hall = s.hall) ∧
    (8 ≤ p → p < 18 → s.rd (F.HALL_PORT_STAT_VERIFY p) = 1 →
      (Ends (.preemptVerify t p true) s fun s' => OnlyRegs s t [F.HALL_PORT_STAT_VERIFY p, F.HALL_PORT_STAT_PREEMPT_ACTIVE p] s' ∧
        s'.rd (F.HALL_PORT_STAT_VERIFY p) = 2 ∧ s'.rd (F.HALL_PORT_STAT_PREEMPT_ACTIVE p) = 1) ∧
      (s.hall.tries.getD 0 p = 2 → Ends (.preemptVerify t p false) s fun s' =>
        s'.rd (F.HALL_PORT_STAT_VERIFY p) = 3 ∧ s'.rd (F.HALL_PORT_STAT_PREEMPT_ACTIVE p) = 0) ∧
      (s.hall.tries.getD 0 p < 2 → Ends (.preemptVerify t p false) s fun s' => s'.regs = s.regs ∧
        s'.hall.tries.getD 0 p = s.hall.tries.getD 0 p + 1)) ∧
    (i < 1024 → s.hall.recov.find? i = some x →
      let ended := x.last + 1000000 * s.rd (F.HALL_STREAM3_RECOV_RESET i) ≤ t
      (ended → Ends (.frerRecovReset t i) s fun s' => s'.hall.recov.find? i = none ∧ s'.regs = s.regs ∧
        ∀ j, j ≠ i → s'.hall.recov.find? j = s.hall.recov.find? j) ∧
      (¬ ended → Ends (.frerRecovReset t i) s fun s' => s' = s.tick t))

/-! ### The CAN controllers -/

/-- TIER 2. The states of a CAN controller (R254, R268, R269, R272): START, STOP and RECOVER act in the states that take them and
are refused in the others, a RECOVER of the clock in which BUS_OFF is entered following the entry; errors move TEC and REC, ERROR_PASSIVE comes at 128 and BUS_OFF above 255 with one record; 128
recessive sequences end the recovery with both counters at 0; the reference message becomes due by T, a backup resumes at the
close of its window; a read of the last error clears CODE, and in the clock of an error returns the error before and clears
nothing. -/
def Obligations.CanControllers : Prop :=
  ∀ (s : State) (t c r k : Nat) (a : Attr) (peek : Bool) (e : CanErr), c < 12 →
    let x := s.ctl c
    let cmd := (s.tick t).passes (canCmdAddr c) a true = true
    let others (s' : State) : Prop := ∀ k, k ≠ c → s'.ctl k = s.ctl k
    let refused (i : Instr) : Prop := Ends i s fun s' => OnlyRegs s t [F.CAN_STAT_CMD_REFUSED c] s' ∧
      s'.rd (F.CAN_STAT_CMD_REFUSED c) = 1
    let tec := s.rd (F.CAN_STAT_TEC c) + (if e.sending then e.inc else 0)
    let rec_ := s.rd (F.CAN_STAT_REC c) + (if e.sending then 0 else e.inc)
    let base := s.rd64 (F.CAN_TT_BASE_TT_BASE c)
    let per := max 100000 (s.rd (F.CAN_TT_CYCLE_TT_CYCLE c))
    let tt := (s.tick t).tNow
    let due := base + (tt - base) / per * per
    (cmd →
      (x.state = .config → s.canValid c = true → Ends (.canStart t a c) s fun s' => (s'.ctl c).state = .syncing ∧
        s'.regs = s.regs ∧ others s') ∧
      (x.state = .config → s.canValid c = false → Ends (.canStart t a c) s fun s' =>
        OnlyRegs s t [F.CAN_STAT_CFG_REFUSED c] s' ∧ s'.rd (F.CAN_STAT_CFG_REFUSED c) = 1) ∧
      (x.state ≠ .config → refused (.canStart t a c)) ∧
      (x.state ≠ .config → x.onBus = none → Ends (.canStop t a c) s fun s' => (s'.ctl c).state = .config ∧
        s'.regs = s.regs ∧ s'.mem = s.mem ∧ others s') ∧
      (x.state ≠ .config → x.onBus ≠ none → Ends (.canStop t a c) s fun s' => s'.ctl c = { x with stopping := true } ∧
        s'.regs = s.regs ∧ others s') ∧
      (x.state = .busOff → Ends (.canRecover t a c) s fun s' => (s'.ctl c).state = .recovering ∧
        s'.rd (F.CAN_STAT_RECOV_CNT c) = 0 ∧ s'.rd (F.CAN_STAT_TEC c) = s.rd (F.CAN_STAT_TEC c) ∧ s'.mem = s.mem) ∧
      (x.state ≠ .busOff → Ends (.canRecover t a c) s fun s' => RegsBut [F.CAN_STAT_CMD_REFUSED c] s s' ∧
        s'.rd (F.CAN_STAT_CMD_REFUSED c) = 1 ∧ s'.ctl c = { x with refused := some (t, s.rd (F.CAN_STAT_CMD_REFUSED c)) } ∧
        others s' ∧ s'.mem = s.mem)) ∧
    (x.state = .active ∨ x.state = .passive → Ends (.canErrorDetected t c e) s fun s' =>
      s'.rd (F.CAN_STAT_TEC c) = min 256 tec ∧ s'.rd (F.CAN_STAT_REC c) = min 255 rec_ ∧ s'.mem = s.mem ∧ others s' ∧
      (s'.ctl c).errLast = CanErr.word e ∧ (s'.ctl c).onBus = x.onBus ∧
      s'.rd (F.CAN_CNT_ERR_ERR_FRAMES c) = min 65535 (s.rd (F.CAN_CNT_ERR_ERR_FRAMES c) + 1) ∧
      (255 < tec → s'.rd (F.CAN_IRQ_BUS_OFF c) = 1 ∧ WroteOne s s' 0x0B 1 4 c 0 ∧
        (r < 128 → s.servesTx c r = true → s'.rd (F.CANRAM_RING3_STATUS r) = 3) ∧
        (x.refused.map (·.1) ≠ some t → (s'.ctl c).state = .busOff) ∧
        (x.refused = some (t, k) → (s'.ctl c).state = .recovering ∧ s'.rd (F.CAN_STAT_RECOV_CNT c) = 0 ∧
          s'.rd (F.CAN_STAT_CMD_REFUSED c) = k % 2)) ∧
      (tec ≤ 255 → (128 ≤ tec ∨ 128 ≤ rec_) → (s'.ctl c).state = .passive ∧ s'.log = s.log ∧
        (x.state = .active → s'.rd (F.CAN_IRQ_ERR_PASSIVE c) = 1)) ∧
      (tec < 128 → rec_ < 128 → (s'.ctl c).state = x.state ∧ s'.log = s.log)) ∧
    (x.state = .syncing → Ends (.recessiveSequence t c) s fun s' => (s'.ctl c).state = .active ∧ others s' ∧ s'.mem = s.mem) ∧
    (x.state = .recovering → s.rd (F.CAN_STAT_RECOV_CNT c) < 127 → Ends (.recessiveSequence t c) s fun s' =>
      OnlyRegs s t [F.CAN_STAT_RECOV_CNT c] s' ∧ s'.rd (F.CAN_STAT_RECOV_CNT c) = s.rd (F.CAN_STAT_RECOV_CNT c) + 1) ∧
    (x.state = .recovering → s.rd (F.CAN_STAT_RECOV_CNT c) = 127 → Ends (.recessiveSequence t c) s fun s' =>
      (s'.ctl c).state = .active ∧ s'.rd (F.CAN_STAT_TEC c) = 0 ∧ s'.rd (F.CAN_STAT_REC c) = 0 ∧ others s' ∧
      (r < 128 → s.servesTx c r = true → s'.rd (F.CANRAM_RING3_STATUS r) = 0)) ∧
    (s.rd (F.CAN_TT_CFG_ROLE c) = 2 → x.state ≠ .config → x.state ≠ .syncing → s.flag (F.CAN_TT_STAT_BACKUP c) = false →
      base ≤ tt → x.refT ≠ some due → Ends (.refDue t c) s fun s' => s'.regs = s.regs ∧ others s' ∧
        s'.ctl c = { x with refDue := some x.refNext, refT := some due
                            refNext := (x.refNext + 1) % (s.rd (F.CAN_TT_CFG_CNT_MAX c) + 1) }) ∧
    (s.flag (F.CAN_TT_STAT_BACKUP c) = true →
      (x.lastRef + s.backupWindow c ≤ t → Ends (.refLostTimeout t c) s fun s' =>
        OnlyRegs s t [F.CAN_IRQ_REF_LOST c, F.CAN_TT_STAT_BACKUP c] s' ∧ s'.rd (F.CAN_IRQ_REF_LOST c) = 1 ∧
        s'.rd (F.CAN_TT_STAT_BACKUP c) = 0) ∧
      (t < x.lastRef + s.backupWindow c → Ends (.refLostTimeout t c) s fun s' => s' = s.tick t)) ∧
    ((s.tick t).passes (0x40700044 + c * 0x10000 + if peek then 0x8000 else 0) a false = true →
      let old := (s.tick t).clk.olds.find? (errLastAddr c)
      (old = none → Ends (.errLastRead t a c peek) s fun s' => s'.resp = ⟨0, x.errLast⟩ ∧ s'.regs = s.regs ∧ others s' ∧
        (s'.ctl c).errLast = if peek then x.errLast else x.errLast % 2 ^ 29) ∧
      (old = some k → Ends (.errLastRead t a c peek) s fun s' => s'.resp = ⟨0, k⟩ ∧ s'.regs = s.regs ∧ s'.can = s.can))

/-- TIER 2. Receive rings and filters (R257, R258, R260, R261, R263): the first matching entry decides a frame and counts a hit, with word 0 of an entry as it was before a write of the same clock;
an accepted frame is stored at PUT of its ring and nowhere else; a full ring drops it; a ring becomes VALID only with a sound
descriptor; GET moves only within what the ring holds; ID words of a VALID entry do not change. -/
def Obligations.CanReception : Prop :=
  ∀ (s : State) (t c e r k w : Nat) (a : Attr) (f : CanFrame) (v : Word), r < 128 →
    let n := s.tick t
    let x := s.ctl c
    let el := s.elemAddr r (s.ringPut r)
    let slot := s.ringSlot r
    let i := s.ringInst r
    let cnt := s.rd (F.CANRAM_RING0_COUNT r)
    let code := v.toNat / 2 ^ 16 % 16
    let sound := slotBytes code ≠ 0 ∧ 2 ≤ v.toNat % 2 ^ 16 ∧ 0x41000 ≤ s.rd (F.CANRAM_RING1_BASE r) ∧
      s.rd (F.CANRAM_RING1_BASE r) % 32 = 0 ∧
      s.rd (F.CANRAM_RING1_BASE r) + v.toNat % 2 ^ 16 * (32 + slotBytes code) ≤ 0x100000
    let ack (cmd : Instr) : Prop := Ends cmd s fun s' => s'.ringGet r = k ∧ s'.ringPut r = s.ringPut r ∧
      s'.ringDone r = s.ringDone r ∧ s'.mem = s.mem
    let still (cmd : Instr) : Prop := Ends cmd s fun s' => s'.regs = s.regs ∧ s'.mem = s.mem
    (c < 12 → (x.state = .active ∨ x.state = .passive) → s.fmtEnabled c f.fdf f.xlf = true →
      (n.filterHit c f = none → s.rd (F.CAN_FLT_DEF_DEF_ACTION c) = 0 → Ends (.canFrameRx t c f) s fun s' =>
        s'.mem = s.mem ∧ s'.rd (F.CAN_CNT_DROP_REJECTED c) = min 65535 (s.rd (F.CAN_CNT_DROP_REJECTED c) + 1) ∧
        s'.rd (F.CAN_CNT_RX_VALID c) = min 65535 (s.rd (F.CAN_CNT_RX_VALID c) + 1)) ∧
      (n.filterHit c f = some e → e < 16384 → n.fltWord e / 2 ^ 27 % 4 = 0 → Ends (.canFrameRx t c f) s fun s' =>
        s'.mem = s.mem ∧ s'.rd (F.CAN_CNT_DROP_REJECTED c) = min 65535 (s.rd (F.CAN_CNT_DROP_REJECTED c) + 1) ∧
        s'.rd (F.CANRAM_FLT3_HITS e) = min (2 ^ 32 - 1) (s.rd (F.CANRAM_FLT3_HITS e) + 1)) ∧
      (n.filterHit c f = some e → e < 16384 → n.fltWord e / 2 ^ 27 % 4 = 1 → n.fltWord e % 128 = r →
        s.ringValid r = true → s.ringTx r = false →
        (s.ringNext r (s.ringPut r) ≠ s.ringGet r → i < 64 → s.admitOwner i (s.ringWords r) = .ok →
          Ends (.canFrameRx t c f) s fun s' =>
            s'.rd (F.CANRAM_FLT3_HITS e) = min (2 ^ 32 - 1) (s.rd (F.CANRAM_FLT3_HITS e) + 1) ∧
            s'.ringPut r = s.ringNext r (s.ringPut r) % 2 ^ 16 ∧ s'.ringGet r = s.ringGet r ∧
            (∀ j, j < 8 → s'.memWord (el + 4 * j) = (rxHeader f c slot e t).getD j 0) ∧
            (∀ j, j < slot → j < f.data.length →
              Memory.read s'.mem (el + 32 + j) = BitVec.ofNat 8 (f.data.getD j 0)) ∧
            ∀ b, b < el ∨ el + 32 + min slot f.data.length ≤ b → Memory.read s'.mem b = Memory.read s.mem b) ∧
        (s.ringNext r (s.ringPut r) = s.ringGet r → Ends (.canFrameRx t c f) s fun s' => s'.mem = s.mem ∧
          s'.ringPut r = s.ringPut r ∧ s'.rd (F.CAN_IRQ_RING_FULL c) = 1 ∧
          s'.rd (F.CANRAM_RING4_DROPPED_CANCELLED r) = min (2 ^ 32 - 1) (s.rd (F.CANRAM_RING4_DROPPED_CANCELLED r) + 1)))) ∧
    ((s.tick t).passes (0x40C40000 + 32 * r) a true = true →
      (s.ringValid r = false → Ends (.ringDescWrite t a r 0 v) s fun s' => s'.mem = s.mem ∧
        s'.rd (F.CANRAM_RING0_DIR r) = v.toNat / 2 ^ 30 % 2 ∧ s'.rd (F.CANRAM_RING0_CTRL r) = v.toNat / 2 ^ 26 % 16 ∧
        s'.rd (F.CANRAM_RING0_INST r) = v.toNat / 2 ^ 20 % 64 ∧ s'.rd (F.CANRAM_RING0_SLOT r) = code ∧
        s'.rd (F.CANRAM_RING0_COUNT r) = v.toNat % 2 ^ 16 ∧
        (v.toNat.testBit 31 = true → sound → s'.rd (F.CANRAM_RING0_VALID r) = 1 ∧ s'.ringPut r = 0 ∧ s'.ringGet r = 0 ∧
          s'.ringDone r = 0) ∧
        (¬ (v.toNat.testBit 31 = true ∧ sound) → s'.rd (F.CANRAM_RING0_VALID r) = 0)) ∧
      (s.ringValid r = true → v.toNat.testBit 31 = true → still (.ringDescWrite t a r 0 v))) ∧
    ((s.tick t).passes (0x40C40000 + 32 * r + 4) a true = true →
      (s.ringValid r = false → Ends (.ringDescWrite t a r 1 v) s fun s' =>
        OnlyRegs s t [F.CANRAM_RING1_RETRY r, F.CANRAM_RING1_IRQ_EN r, F.CANRAM_RING1_BASE r] s' ∧
        s'.rd (F.CANRAM_RING1_RETRY r) = v.toNat / 2 ^ 24 ∧ s'.rd (F.CANRAM_RING1_BASE r) = v.toNat % 2 ^ 20) ∧
      (s.ringValid r = true → still (.ringDescWrite t a r 1 v))) ∧
    ((s.tick t).passes (0x40C40008 + 32 * r) a true = true → s.ringValid r = true → cnt < 2 ^ 16 → i < 64 →
      (s.ringTx r = false →
        (k < cnt → s.ringDist r (s.ringGet r) k ≤ s.ringDist r (s.ringGet r) (s.ringPut r) → ack (.rxGetWrite t a r k)) ∧
        ((cnt ≤ k ∨ s.ringDist r (s.ringGet r) (s.ringPut r) < s.ringDist r (s.ringGet r) k) →
          still (.rxGetWrite t a r k))) ∧
      (s.ringTx r = true →
        (k < cnt → s.ringDist r (s.ringGet r) k ≤ s.ringDist r (s.ringGet r) (s.ringDone r) → ack (.reclaimWrite t a r k)) ∧
        ((cnt ≤ k ∨ s.ringDist r (s.ringGet r) (s.ringDone r) < s.ringDist r (s.ringGet r) k) →
          still (.reclaimWrite t a r k)) ∧
        (k < cnt → s.ringDist r (s.ringPut r) k ≤ cnt - 1 - s.ringHeld r →
          s.admitOwner i (s.ringDist r (s.ringPut r) k * s.ringWords r) = .ok → Ends (.txPutWrite t a r k) s fun s' =>
            OnlyRegs s t [F.CANRAM_RING2_PUT r] s' ∧ s'.ringPut r = k) ∧
        ((cnt ≤ k ∨ cnt - 1 - s.ringHeld r < s.ringDist r (s.ringPut r) k) → still (.txPutWrite t a r k)))) ∧
    (e < 16384 → w < 4 → (s.tick t).passes (0x40C00000 + 16 * e + 4 * w) a true = true →
      (a.attic = true → w = 0 → Ends (.filterWrite t a e w v) s fun s' =>
        s'.rd (F.CANRAM_FLT0_VALID e) = v.toNat / 2 ^ 31 ∧ s'.rd (F.CANRAM_FLT0_TYPE e) = v.toNat / 2 ^ 29 % 4 ∧
        s'.rd (F.CANRAM_FLT0_ACTION e) = v.toNat / 2 ^ 27 % 4 ∧ s'.rd (F.CANRAM_FLT0_XTD e) = v.toNat / 2 ^ 26 % 2 ∧
        s'.rd (F.CANRAM_FLT0_FMT e) = v.toNat / 2 ^ 24 % 4 ∧ s'.rd (F.CANRAM_FLT0_RING e) = v.toNat % 128 ∧
        s'.rd (F.CANRAM_FLT1_ID1 e) = s.rd (F.CANRAM_FLT1_ID1 e)) ∧
      (a.attic = true → w = 1 → s.flag (F.CANRAM_FLT0_VALID e) = false → Ends (.filterWrite t a e w v) s fun s' =>
        OnlyRegs s t [F.CANRAM_FLT1_ID1 e] s' ∧ s'.rd (F.CANRAM_FLT1_ID1 e) = v.toNat % 2 ^ 29) ∧
      (a.attic = true → (w = 1 ∨ w = 2) → s.flag (F.CANRAM_FLT0_VALID e) = true → still (.filterWrite t a e w v)) ∧
      (s.mayFilter a e = false → a.inst < 64 → Ends (.filterWrite t a e w v) s fun s' =>
        OnlyRegs s t ([F.VIM_INST_CNT_FLT_DENIED a.inst] ++ if a.inst = 0 then [F.VIM_CNT_MAP_MISS] else []) s' ∧ s'.rd (F.VIM_INST_CNT_FLT_DENIED a.inst) =
          satSucc (F.VIM_INST_CNT_FLT_DENIED a.inst).width (s.rd (F.VIM_INST_CNT_FLT_DENIED a.inst))))

/-- TIER 2. Transmission (R259, R264, R265, R267, R271 to R273, R276): the ready element that wins arbitration goes on the bus; a
frame that is sent completes its element with its stamp; errors spend the retry budget, a lost arbitration does not; ABORT
and the fence complete a ring up to PUT, and a completion writes words 3 to 6 of its element and no other byte. -/
def Obligations.CanTransmission : Prop :=
  ∀ (s : State) (t c r n i : Nat) (a : Attr) (toRef : Bool), c < 12 → r < 128 →
    let x := s.ctl c
    let el := s.elemAddr r (s.ringDone r)
    let key (j : Nat) : Nat := let h := s.txHead j (s.ringDone j); arbKey (h.1 && !h.2.2.2.2.1) h.2.1 h.2.2.1
    let plain := s.can.aborts.find? r = none ∧ s.can.skips.getD [] r = []
    let errs := s.can.errs.getD 0 r + 1
    let retry := s.rd (F.CANRAM_RING1_RETRY r)
    let done (s' : State) (status e : Nat) : Prop := s'.ringDone r = s.ringNext r (s.ringDone r) % 2 ^ 16 ∧
      s'.memWord (el + 12) / 256 % 256 = status ∧ s'.memWord (el + 12) / 65536 = s.memWord (el + 12) / 65536 ∧
      s'.memWord (el + 24) = min 255 e ∧ (∀ b, b < el + 12 ∨ el + 28 ≤ b → Memory.read s'.mem b = Memory.read s.mem b)
    let kept (s' : State) : Prop := s'.mem = s.mem ∧ s'.ringDone r = s.ringDone r ∧ (s'.ctl c).onBus = none
    let full := s.rd (F.CANRAM_RING0_COUNT r) < 2 ^ 16 ∧ s.ringPut r < s.rd (F.CANRAM_RING0_COUNT r) ∧
      s.ringDone r < s.rd (F.CANRAM_RING0_COUNT r) ∧ s.can.skips.getD [] r = []
    ((x.state = .active ∨ x.state = .passive) → x.onBus = none → x.stopping = false → s.flag (F.CAN_CTL_LISTEN c) = false →
      (x.state = .passive → x.suspend ≤ t) →
      (s.txReady c r = true → x.refDue = none → (∀ j, j < 128 → s.txReady c j = true →
          s.badFormat c j (s.ringDone j) = false ∧ (j ≠ r → key r < key j)) →
        Ends (.txOpportunity t c) s fun s' => s'.regs = s.regs ∧ s'.mem = s.mem ∧ (∀ k, k ≠ c → s'.ctl k = s.ctl k) ∧
          s'.ctl c = { x with onBus := some (.elem r), sof := t, discard := false, ptr := (r + 1) % 129 }) ∧
      ((∀ j, j < 128 → s.txReady c j = false) → x.refDue = some n → Ends (.txOpportunity t c) s fun s' =>
        s'.regs = s.regs ∧ s'.ctl c = { x with onBus := some (.ref n), sof := t, discard := false, ptr := 0 })) ∧
    (x.onBus = some (.elem r) → x.discard = false → plain → s.ringInst r < 64 →
      (Ends (.txComplete t c) s fun s' => done s' 0 (s.can.errs.getD 0 r) ∧ s'.memWord (el + 16) = x.sof % 2 ^ 32 ∧
        s'.memWord (el + 20) = x.sof / 2 ^ 32 % 2 ^ 32 ∧ (s'.ctl c).onBus = none ∧
        s'.rd (F.CAN_CNT_TX_SENT c) = min 65535 (s.rd (F.CAN_CNT_TX_SENT c) + 1)) ∧
      (retry ≠ 255 → retry ≤ errs → Ends (.txAttemptError t c) s fun s' => done s' 0x80 errs ∧ (s'.ctl c).onBus = none ∧
        (retry = 0 → s'.rd (F.CAN_IRQ_TX_FAIL c) = 1 ∧ WroteOne s s' 0x0B 2 3 c 0) ∧ (retry ≠ 0 → s'.log = s.log)) ∧
      ((retry = 255 ∨ errs < retry) → Ends (.txAttemptError t c) s fun s' => kept s' ∧ s'.can.errs.getD 0 r = errs) ∧
      (Ends (.arbitrationLost t c toRef) s fun s' => kept s' ∧ s'.can.errs = s.can.errs ∧
        s'.rd (F.CAN_CNT_TX_ARB_LOST c) = min 65535 (s.rd (F.CAN_CNT_TX_ARB_LOST c) + 1))) ∧
    (x.onBus = some (.ref n) →
      (Ends (.txComplete t c) s fun s' => s'.mem = s.mem ∧ s'.rd64 (F.CAN_TT_REF_REF_TS c) = x.sof % 2 ^ 64 ∧
        s'.rd (F.CAN_TT_STAT_MASTER c) = 1 ∧ s'.rd (F.CAN_TT_STAT_CYCLE_CNT c) = n % 64 ∧ s'.rd (F.CAN_IRQ_REF c) = 1 ∧
        (s'.ctl c).lastRef = x.sof) ∧
      (Ends (.arbitrationLost t c toRef) s fun s' => s'.mem = s.mem ∧ (s'.ctl c).onBus = none ∧
        (s'.ctl c).refDue = if toRef then none else x.refDue)) ∧
    ((s.tick t).passes (canCmdAddr c) a true = true →
      (s.servesTx c r = true → x.onBus ≠ some (.elem r) → full → s.ringInst r < 64 → Ends (.canAbort t a c r) s fun s' =>
        s'.ringDone r = s.ringPut r ∧ s'.ringPut r = s.ringPut r ∧
        (s.ringDone r ≠ s.ringPut r → s'.memWord (el + 12) / 256 % 256 = 0x81)) ∧
      (s.servesTx c r = true → x.onBus = some (.elem r) → Ends (.canAbort t a c r) s fun s' =>
        s'.regs = s.regs ∧ s'.mem = s.mem ∧ s'.can.aborts.find? r = some (s.ringPut r)) ∧
      (s.servesTx c r = false → Ends (.canAbort t a c r) s fun s' => OnlyRegs s t [F.CAN_STAT_CMD_REFUSED c] s' ∧
        s'.rd (F.CAN_STAT_CMD_REFUSED c) = 1)) ∧
    (i < 64 → s.awaits i 0 = true → s.ringValid r = true → s.ringTx r = true → s.ringInst r = i → full →
      (∀ j, j < 128 → s.ringInst j < 64) → Ends (.canFence t i) s fun s' => s'.ringDone r = s.ringPut r ∧
        (s'.inst i).drained.testBit 0 = true ∧ (s'.inst i).state = .resetting)

/-! ### Time -/

/-- TIER 2. R282: a read of TIME_FRC_LO returns FRC bits 31:0 and latches bits 63:32 into TIME_FRC_HI, a read of TIME_T_LO does so
with T at the same FRC instant, and the peek aliases return the low word without latching. -/
def Obligations.TimeReadsLatch : Prop :=
  ∀ (s : State) (t : Nat) (a : Attr),
    let tt := (s.tick t).tNow
    ((s.tick t).passes 0x41000000 a false = true → Ends (.frcLoRead t a false) s fun s' => s'.resp = ⟨0, t % 2 ^ 32⟩ ∧
      OnlyRegs s t [F.TIME_FRC_FRC 1] s' ∧ s'.rd (F.TIME_FRC_FRC 1) = t / 2 ^ 32 % 2 ^ 32) ∧
    ((s.tick t).passes 0x41008000 a false = true → Ends (.frcLoRead t a true) s fun s' => s'.resp = ⟨0, t % 2 ^ 32⟩ ∧
      OnlyRegs s t [] s') ∧
    ((s.tick t).passes 0x41000008 a false = true → Ends (.tLoRead t a false) s fun s' => s'.resp = ⟨0, tt % 2 ^ 32⟩ ∧
      OnlyRegs s t [F.TIME_T_T 1] s' ∧ s'.rd (F.TIME_T_T 1) = tt / 2 ^ 32) ∧
    ((s.tick t).passes 0x41008008 a false = true → Ends (.tLoRead t a true) s fun s' => s'.resp = ⟨0, tt % 2 ^ 32⟩ ∧
      OnlyRegs s t [] s')

/-- TIER 2. The parameter set and the servo (R279, R281, R292 to R294, R299): APPLY rebases and then steps at one instant, so T
jumps by the step alone, and a step of 0 is no step; an accepted input steps T or moves integrator and RATE; the servo states
follow their table; an input of the clock in which a window closes is taken before the close. -/
def Obligations.TimeSetAndServo : Prop :=
  ∀ (s : State) (t : Nat) (a : Attr) (w o : Word),
    let p := s.time.par
    let v := toSigned 64 (s.rd64 F.TIME_ADJ_STEP_STEP)
    let x := o.toInt
    let rmax : Int := ((s.rd F.TIME_SERVO_LIM_RATE_MAX * 2 ^ 32 / 1000000 : Nat) : Int)
    let jumps := s.rd F.TIME_CFG_STEP_EN ≠ 0 ∧
      (s.time.servo = .free ∨ max 1 (s.rd F.TIME_STEP_THRESH_STEP_THRESH) ≤ x.natAbs)
    let integ := satInt (s.time.integ - (s.rd F.TIME_SERVO_GAIN_KI * x) / 16) (-rmax) rmax
    let src := if w.toNat / 2 ^ 30 = 3 then 0 else w.toNat / 2 ^ 30
    let gm := w.toNat / 2 ^ 28 % 2
    let lim := s.rd F.TIME_SERVO_LIM_LOCK_THRESH
    ((s.tick t).passes F.TIME_ADJ_CTL_ADJ_REFUSED.addr a true = true →
      (s.timeSrc = 0 → Ends (.timeApply t a) s fun s' =>
        s'.time.par = { (p.rebase t (toSigned 32 (s.rd F.TIME_ADJ_RATE_ADJ_RATE))).step v with applied := t } ∧
        s'.time.prev = p ∧ s'.tNow = ofSigned 64 ((p.toT t : Int) + v) ∧ s'.mem = s.mem ∧
        (v = 0 → s'.regs = s.regs ∧ s'.log = s.log ∧ s'.time.servo = s.time.servo) ∧
        (v ≠ 0 → s'.rd F.TIME_STAT_EPOCH_VALID = 1 ∧ WroteOne s s' 0x0C 1 5 0 0 ∧
          s'.rd F.TIME_CNT_STEPS = satSucc F.TIME_CNT_STEPS.width (s.rd F.TIME_CNT_STEPS) ∧
          (s.time.servo = .locked → s'.time.servo = .acquire ∧ s'.rd F.TIME_STAT_LOCK_RUN = 0))) ∧
      (s.timeSrc ≠ 0 → Ends (.timeApply t a) s fun s' => OnlyRegs s t [F.TIME_ADJ_CTL_ADJ_REFUSED] s' ∧
        s'.rd F.TIME_ADJ_CTL_ADJ_REFUSED = 1)) ∧
    ((s.tick t).passes 0x41000054 a true = true → s.timeSrc = 1 →
      (t < s.time.busyEnd → Ends (.servoInput t a o) s fun s' => OnlyRegs s t [F.TIME_CNT_IN_REFUSED] s' ∧
        s'.rd F.TIME_CNT_IN_REFUSED = satSucc F.TIME_CNT_IN_REFUSED.width (s.rd F.TIME_CNT_IN_REFUSED)) ∧
      (s.time.busyEnd ≤ t → s.time.left = some (t, .locked) → s.time.servo = .holdover → ¬ jumps → x.natAbs < 4 * lim →
        Ends (.servoInput t a o) s fun s' => s'.time.servo = .locked) ∧
      (s.time.busyEnd ≤ t → s.time.left.map (·.1) ≠ some t → Ends (.servoInput t a o) s fun s' => s'.time.lastInput = t ∧ s'.mem = s.mem ∧
        s'.rd F.TIME_LAST_O_O = ofSigned 32 x ∧ s'.rd F.TIME_STAT_EPOCH_VALID = 1 ∧
        (jumps → s'.time.integ = p.rate ∧ s'.rd F.TIME_STAT_LOCK_RUN = 0 ∧
          s'.time.par = if x = 0 then p else { p.step (-x) with applied := t }) ∧
        (¬ jumps → s'.time.integ = integ ∧ s'.time.par =
            p.rebase t (satInt (integ - (s.rd F.TIME_SERVO_GAIN_KP * x) / 16) (-rmax) rmax) ∧
          (lim ≤ x.natAbs → s'.rd F.TIME_STAT_LOCK_RUN = 0) ∧
          (x.natAbs < lim → 4 * lim > x.natAbs → s'.rd F.TIME_STAT_LOCK_RUN =
            satSucc F.TIME_STAT_LOCK_RUN.width (s.rd F.TIME_STAT_LOCK_RUN))) ∧
        (s.time.servo = .free ∨ s.time.servo = .holdover ∨ s.time.servo = .acquire → s'.time.servo =
          if s.rd F.TIME_SERVO_LIM_LOCK_CNT ≤ s'.rd F.TIME_STAT_LOCK_RUN then .locked else .acquire) ∧
        (s.time.servo = .locked → s'.time.servo =
          if (jumps ∧ x ≠ 0) ∨ 4 * lim ≤ x.natAbs then .acquire else .locked) ∧
        (s.time.servo = .grandmaster → s'.time.servo = .grandmaster))) ∧
    ((s.tick t).passes F.TIME_CFG_SRC.addr a true = true → Ends (.timeCfgWrite t a w) s fun s' => s'.rd F.TIME_CFG_SRC = src ∧
      s'.rd F.TIME_CFG_STEP_EN = w.toNat / 2 ^ 29 % 2 ∧ s'.rd F.TIME_CFG_GM_VALID = gm ∧ s'.time.par = p ∧ s'.mem = s.mem ∧
      (src ≠ s.timeSrc → s'.time.servo = .free ∧ s'.rd F.TIME_STAT_LOCK_RUN = 0 ∧ s'.time.integ = p.rate) ∧
      (src = s.timeSrc → s'.time.integ = s.time.integ ∧ s'.time.servo =
        if s.time.servo = .free ∧ gm = 1 then .grandmaster
        else if s.time.servo = .grandmaster ∧ gm = 0 then .free else s.time.servo)) ∧
    (let over_ := (s.time.servo = .acquire ∨ s.time.servo = .locked) ∧
        s.time.lastInput + 1000000 * s.rd F.TIME_SERVO_TMO_HOLDOVER_TMO ≤ t;
      (over_ → Ends (.holdoverTimeout t) s fun s' => s'.time.servo = .holdover ∧ s'.time.par = p ∧ s'.regs = s.regs ∧
        s'.time.fromLocked = decide (s.time.servo = ServoState.locked) ∧ s'.time.holdEntry = t ∧
        s'.synced = decide (s.time.servo = ServoState.locked) ∧ WroteOne s s' 0x0C 3 4 0 0) ∧
      (¬ over_ → Ends (.holdoverTimeout t) s fun s' => s' = s.tick t)) ∧
    (let over_ := s.time.servo = .holdover ∧
        s.time.holdEntry + 1000000000 * s.rd F.TIME_SERVO_TMO_HOLDOVER_MAX ≤ t;
      (over_ → Ends (.holdoverMaxExpiry t) s fun s' => s'.time.servo = .free ∧ s'.time.par = p ∧ s'.regs = s.regs ∧
        WroteOne s s' 0x0C 4 4 0 0) ∧
      (¬ over_ → Ends (.holdoverMaxExpiry t) s fun s' => s' = s.tick t))

/-- TIER 2. Conversion, PPS and transmit stamps (R282, R290, R295 to R297): a conversion uses the set in force at its FRC value and
is not VALID before the older set; PPS out rises at an instant that is due, and the next one is later; a PPS edge is captured
and, with SRC = 2, feeds the servo; a read removes the oldest stamp. A read returns what stood before its clock's updates. -/
def Obligations.TimeConversionAndPins : Prop :=
  ∀ (s : State) (t f n port : Nat) (a : Attr) (w : Word) (peek : Bool) (e : TxStamp) (es : List TxStamp),
    let tt := (s.tick t).tNow
    let per := max 1 (1000000 * s.rd F.TIME_PPS_OUT_PPS_PERIOD)
    let clk := (s.tick t).clk
    let ts := (clk.olds.find? (F.TIME_PPS_IN_TS_FRC 0).addr).getD s.time.ppsTs
    let lost := (clk.olds.find? (txtsAddr port)).getD (s.time.txtsLost.getD 0 port)
    let at_ (addr : Nat) : Nat := if peek then addr + 0x8000 else addr
    ((s.tick t).passes (F.TIME_CONV_IN_FRC 1).addr a true = true → Ends (.convStart t a w) s fun s' =>
      s'.time.convPend = some (s.rd (F.TIME_CONV_IN_FRC 0) + 2 ^ 32 * w.toNat) ∧ s'.rd F.TIME_CONV_STAT_VALID = 0 ∧
      s'.mem = s.mem ∧ s'.time.par = s.time.par) ∧
    (s.time.convPend = some f →
      (s.time.par.applied ≤ f → Ends (.convComplete t) s fun s' => s'.rd F.TIME_CONV_STAT_VALID = 1 ∧
        s'.rd64 F.TIME_CONV_OUT_T = s.time.par.toT f ∧ s'.time.convPend = none) ∧
      (f < s.time.par.applied → s.time.prev.frcRef ≤ f → Ends (.convComplete t) s fun s' =>
        s'.rd F.TIME_CONV_STAT_VALID = 1 ∧ s'.rd64 F.TIME_CONV_OUT_T = s.time.prev.toT f ∧ s'.time.convPend = none) ∧
      (f < s.time.par.applied → f < s.time.prev.frcRef → Ends (.convComplete t) s fun s' =>
        s'.rd F.TIME_CONV_STAT_VALID = 0 ∧ s'.time.convPend = none ∧
        s'.rd64 F.TIME_CONV_OUT_T = s.rd64 F.TIME_CONV_OUT_T)) ∧
    (s.flag F.TIME_PPS_OUT_EN = true → s.time.ppsNext = some n →
      (n ≤ tt → Ends (.ppsOutEdge t) s fun s' => s'.regs = s.regs ∧ s'.mem = s.mem ∧
        s'.time.ppsLow = some (tt + 1000000 * s.rd F.TIME_PPS_OUT_PPS_WIDTH) ∧
        ∃ m, s'.time.ppsNext = some m ∧ tt < m ∧ m % per = s.rd F.TIME_PPS_PHASE_PPS_PHASE % per ∧
          (s.rd F.TIME_PPS_PHASE_PPS_PHASE % per ≤ tt → m ≤ tt + per)) ∧
      (tt < n → Ends (.ppsOutEdge t) s fun s' => s' = s.tick t)) ∧
    (s.flag F.TIME_PPS_IN_EN = true →
      (s.timeSrc ≠ 2 → Ends (.ppsInEdge t) s fun s' => s'.time.ppsTs = t ∧ s'.rd F.TIME_PPS_IN_NEW = 1 ∧
        s'.rd (F.TIME_PPS_IN_TS_FRC 0) = t % 2 ^ 32 ∧ s'.time.par = s.time.par ∧ s'.mem = s.mem) ∧
      (s.timeSrc = 2 → s.time.busyEnd ≤ t → Ends (.ppsInEdge t) s fun s' => s'.time.ppsTs = t ∧
        s'.rd F.TIME_PPS_IN_NEW = 1 ∧ s'.time.lastInput = t ∧
        s'.rd F.TIME_LAST_O_O = ofSigned 32 ((((tt + 500000000) % 1000000000 : Nat) : Int) - 500000000))) ∧
    (s.flag F.TIME_PPS_IN_EN = false → Ends (.ppsInEdge t) s fun s' => s' = s.tick t) ∧
    ((s.tick t).passes (at_ (F.TIME_PPS_IN_TS_FRC 0).addr) a false = true → Ends (.ppsInTsRead t a peek) s fun s' =>
      s'.resp = ⟨0, ts % 2 ^ 32⟩ ∧ (peek = true → s'.regs = s.regs) ∧
      (peek = false → s'.rd (F.TIME_PPS_IN_TS_FRC 1) = ts / 2 ^ 32 % 2 ^ 32)) ∧
    (8 ≤ port → port < 24 → (s.tick t).passes (at_ (0x41000104 + 0x10 * port)) a false = true →
      (s.time.txts.getD [] port = e :: es → clk.pushes.getD 0 (txtsAddr port) ≤ es.length → Ends (.txtsRead t a port peek) s fun s' =>
        s'.resp.data = 2 ^ 31 + lost * 2 ^ 28 + e.msgType % 16 * 2 ^ 24 + e.domain % 256 * 2 ^ 16 +
          e.seq % 65536 ∧
        (peek = false → s'.time.txts.getD [] port = es ∧ s'.time.txtsLost.getD 0 port = min 7 (clk.pushes.getD 0 (txtsAddr port + 4)) ∧
          s'.rd64 (F.TIME_TXTS_T_T port) = e.t % 2 ^ 64) ∧
        (peek = true → s'.time = s.time ∧ s'.regs = s.regs)) ∧
      (s.time.txts.getD [] port = [] → Ends (.txtsRead t a port peek) s fun s' =>
        s'.resp.data = lost * 2 ^ 28 ∧ s'.regs = s.regs))

/-! ### Network sleep and wake -/

/-- TIER 2. The module's need, the keep-alive segments and the rings (R300 to R306, R308, R472), before the sleep commit: a need that
begins sends a KEEPALIVE and cancels PREPARE; a message for a CAN segment is put in the ring of its KA_RING; an accepted KEEPALIVE reopens its segment, a quarantined node's does not; a segment is ready when
its window closes; the TOKEN goes round, is answered READY when enough members consent, and passes over a silent member; a node
awake too long is quarantined. -/
def Obligations.NetworkReadiness : Prop :=
  ∀ (s : State) (t k node run j m n t0 : Nat) (a : Attr) (v : Word) (just hi : Bool) (nr : NodeRun), k < 13 → node < 2 ^ 16 →
    (s.tick t).committed = false → s.pwr.hubUp = true → (∀ i, i < 13 → s.rd (F.NETMGT_SEG0_MEMBERS i) ≤ 32) →
    let mid := s.rd F.SYSCTL_MID_MID
    let on (i : Nat) : Bool := s.flag (F.NETMGT_SEG0_EN i)
    let free := ∀ i, i < 256 → s.rd (F.NETMGT_NODE0_QUAR i) = 0
    let sent (s' : State) (i : Nat) (typ : NmType) (succ r : Nat) : Prop := ∃ x, (s'.seg i).sent = some x ∧ x.typ = typ ∧
      x.succ = succ ∧ x.run = r ∧ x.sentAt = t
    let unheard := ∀ i, i < 12 → s.servesTx i (s.rd (F.NETMGT_SEG0_KA_RING i)) = false
    let need := (s.tick t).passes 0x41080010 a true = true ∧ a.inst < 64
    let member := s.inRing k = true ∧ (s.ringPos k node).isSome = true ∧ 2 ≤ s.ringPresent k
    (need → Ends (.netmgtNeedWrite t a v) s fun s' => s'.rdMask F.NETMGT_NEED_SUM_NEED a.inst = v.toNat.testBit 31 ∧
      s'.net.warm.testBit a.inst = v.toNat.testBit 29 ∧ (unheard → s'.mem = s.mem) ∧
      (∀ i, i < 64 → i ≠ a.inst → s'.rdMask F.NETMGT_NEED_SUM_NEED i = s.rdMask F.NETMGT_NEED_SUM_NEED i) ∧
      (v.toNat.testBit 31 = true → s'.net.state = .awake ∧
        (s.net.state = .prepare → s'.rd F.NETMGT_STAT_CANCEL_EVT = 1 ∧ s'.rd (F.NETMGT_CNT_CANCELS_QUARANTINED 0) =
          min 65535 (s.rd (F.NETMGT_CNT_CANCELS_QUARANTINED 0) + 1)) ∧
        (s.net.needFrom = none → s'.net.needFrom = some t ∧ ∀ i, i < 13 → on i = true → s.isRing i = false →
          sent s' i .keepalive 0 0))) ∧
    ((s.tick t).passes (0x41080024 + if hi then 4 else 0) a true = true →
      (a.attic = true → Ends (.netmgtJustWrite t a hi v) s fun s' =>
        OnlyRegs s t [F.NETMGT_JUST_JUST (if hi then 1 else 0)] s' ∧
        s'.rd (F.NETMGT_JUST_JUST (if hi then 1 else 0)) = v.toNat) ∧
      (a.attic = false → Ends (.netmgtJustWrite t a hi v) s fun s' => OnlyRegs s t [] s')) ∧
    (s.net.needFrom ≠ none → s.needs = true → s.net.lastKa + 100000000 ≤ t → Ends (.keepaliveTimer t) s fun s' =>
      s'.net.lastKa = s.net.lastKa + 100000000 ∧ s'.net.state = s.net.state ∧ (unheard → s'.mem = s.mem) ∧
      ∀ i, i < 13 → on i = true → s.isRing i = false → sent s' i .keepalive 0 0) ∧
    (on k = true → s.isRing k = false →
      (free → Ends (.nmKeepaliveRx t k node just) s fun s' => (s'.seg k).lastSeen = t ∧
        s'.rd (F.NETMGT_SEG1_READY k) = 0 ∧ s'.net.state = .awake ∧ (unheard → s'.mem = s.mem)) ∧
      (s.nodeEntry node = some n → s.rd (F.NETMGT_NODE0_QUAR n) = 1 → just = false →
        Ends (.nmKeepaliveRx t k node just) s fun s' => (s'.seg k).lastSeen = (s.seg k).lastSeen ∧
          s'.rd (F.NETMGT_SEG1_READY k) = s.rd (F.NETMGT_SEG1_READY k) ∧
          ((s.tick t).netUpdate = s.tick t → s'.net.state = s.net.state)) ∧
      (s.needs = false → (s.seg k).lastSeen + 1000000 * s.rd F.NETMGT_CFG_READY_SLEEP ≤ t →
        Ends (.readySleepExpiry t k) s fun s' => s'.rd (F.NETMGT_SEG1_READY k) = 1 ∧
          (s.net.state = .awake → s.flag F.NETMGT_CFG_NM_EN = true → (s.pwr.state = .run ∨ s.pwr.state = .safe) →
            (∀ i, i < 13 → i ≠ k → on i = true → s.flag (F.NETMGT_SEG1_READY i) = true) →
            s'.net.state = .prepare ∧ s'.net.prepAt = t ∧ s'.rd F.NETMGT_STAT_PREPARE_EVT = 1)) ∧
      (t < (s.seg k).lastSeen + 1000000 * s.rd F.NETMGT_CFG_READY_SLEEP →
        Ends (.readySleepExpiry t k) s fun s' => s' = s.tick t)) ∧
    (member →
      (Ends (.nmNeedRx t k node just) s fun s' => s'.rd (F.NETMGT_SEG1_READY k) = 0 ∧ (s'.seg k).restart = true ∧
        s'.net.state = .awake ∧ (unheard → s'.mem = s.mem)) ∧
      (s.needs = false → Ends (.nmReadyRx t k node just) s fun s' => s'.rd (F.NETMGT_SEG1_READY k) = 1) ∧
      (s.needs = true → Ends (.nmReadyRx t k node just) s fun s' => s'.rd (F.NETMGT_SEG1_READY k) = 0 ∧
        (s'.seg k).restart = true ∧ sent s' k .need 0 0 ∧
        (let r := s.rd (F.NETMGT_SEG0_KA_RING k)
         let el := s.elemAddr r (s.ringPut r)
         k < 12 → s.net.state = .awake → s.net.needFrom ≠ none → s.servesTx k r = true → s.ringNext r (s.ringPut r) ≠ s.ringDone r →
           s'.ringPut r = s.ringNext r (s.ringPut r) % 2 ^ 16 ∧ s'.memWord (el + 4) = 8 ∧
           s'.memWord el = 2 ^ 31 + (s.rd F.NETMGT_KA_CAN_BASE * 65536 + mid) % 2 ^ 29 ∧
           Memory.read s'.mem (el + 32) = 4 ∧ Memory.read s'.mem (el + 34) = BitVec.ofNat 8 mid)) ∧
      (s.needs = false → (s.seg k).restart = false → 0 < run → s.ringPos k node = some j →
        s.flag (F.NETMGT_RING_PRESENT k j) = true →
        (s.ringPresent k ≤ run + 1 → Ends (.nmTokenRx t k node mid run just) s fun s' =>
          s'.rd (F.NETMGT_SEG1_READY k) = 1 ∧ s'.rd (F.NETMGT_SEG1_RUN k) = min 255 run ∧ sent s' k .ready 0 0) ∧
        (run + 1 < s.ringPresent k → Ends (.nmTokenRx t k node mid run just) s fun s' => (s'.seg k).hold = some t ∧
          (s'.seg k).tokRun = run ∧ s'.rd (F.NETMGT_SEG1_READY k) = s.rd (F.NETMGT_SEG1_READY k)))) ∧
    (s.ringPos k mid = some n →
      ((s.seg k).hold = some t0 → t0 + 1000000 * s.rd F.NETMGT_CFG2_RING_HOLD ≤ t → s.needs = false →
        (s.seg k).restart = false → s.nmRingNext k n = some j → Ends (.ringHoldExpiry t k) s fun s' =>
          sent s' k .token (s.rd (F.NETMGT_RING_NODE k j)) (min 255 ((s.seg k).tokRun + 1)) ∧ (s'.seg k).hold = none ∧
          (s'.seg k).waiting = some (t, j, min 255 ((s.seg k).tokRun + 1)) ∧
          s'.rd (F.NETMGT_SEG1_READY k) = s.rd (F.NETMGT_SEG1_READY k) ∧
          (unheard → k < 12 → s'.regs = s.regs ∧ s'.mem = s.mem)) ∧
      ((s.seg k).waiting = some (t0, j, run) → j < 32 → t0 + 1000000 * s.rd F.NETMGT_CFG2_RING_TMO ≤ t →
        s.nmRingNext k j = some m → m ≠ n → Ends (.ringTmoExpiry t k) s fun s' =>
          s'.rd (F.NETMGT_RING_PRESENT k j) = 0 ∧ (s'.seg k).waiting = some (t, m, run) ∧
          s'.rd (F.NETMGT_SEG1_TOKEN_LOST k) = min 65535 (s.rd (F.NETMGT_SEG1_TOKEN_LOST k) + 1)) ∧
      (s.inRing k = true → (s.seg k).lastTok + 32 * (1000000 * s.rd F.NETMGT_CFG2_RING_TMO) ≤ t →
        s.flag (F.NETMGT_RING_PRESENT k n) = true → (∀ i, i < n → s.flag (F.NETMGT_RING_PRESENT k i) = false) →
        s.nmRingNext k n = some j → Ends (.ringLostTimeout t k) s fun s' =>
          sent s' k .token (s.rd (F.NETMGT_RING_NODE k j)) 0 ∧ (s'.seg k).lastTok = t ∧
          (unheard → k < 12 → s'.regs = s.regs ∧ s'.mem = s.mem))) ∧
    (n < 256 → s.net.runs.find? n = some nr →
      (s.rd (F.NETMGT_NODE0_JUST n) = 0 → s.rd (F.NETMGT_NODE0_QUAR n) = 0 →
        nr.start + 1000000000 * (60 * s.rd F.NETMGT_CFG_MAX_AWAKE) ≤ t → t < nr.last + 1000000 * s.rd F.NETMGT_CFG_READY_SLEEP → Ends (.maxAwakeExpiry t n) s fun s' =>
          s'.rd (F.NETMGT_NODE0_QUAR n) = 1 ∧ s'.rd (F.NETMGT_CNT_CANCELS_QUARANTINED 1) =
            min 65535 (s.rd (F.NETMGT_CNT_CANCELS_QUARANTINED 1) + 1) ∧
          WroteOne s s' 0x0D 1 4 (s.rd (F.NETMGT_NODE0_NODE n)) 0 ∧ (unheard → s'.mem = s.mem)) ∧
      (nr.last + 1000000 * s.rd F.NETMGT_CFG_READY_SLEEP ≤ t → Ends (.nodeRunEnd t n) s fun s' =>
        s'.rd (F.NETMGT_NODE0_QUAR n) = 0 ∧ s'.net.runs.find? n = none ∧ s'.log = s.log))

/-- TIER 2. Wake requests, the sleep commit and the wake (R30, R34, R309 to R315): a wake request reopens every keep-alive segment
and cancels PREPARE, from the sleep commit on it is latched; the close of the PREPARE window turns every channel OFF and begins sleep entry; the
module then sleeps, WARM with DRAM kept, DEEP where power failed meanwhile, or wakes at once on a latched wake; an armed source or the timer wakes it. -/
def Obligations.SleepAndWake : Prop :=
  ∀ (s : State) (t cause src k c t0 h : Nat),
    let tt := (s.tick t).tNow
    let woken (s' : State) (cs sr w : Nat) : Prop := s'.pwr.state = .startup ∧ s'.rd F.NETMGT_WAKE_CAUSE_CAUSE = cs ∧
      s'.rd F.NETMGT_WAKE_CAUSE_SOURCE = sr % 16 ∧ s'.rd64 F.NETMGT_WAKE_T_T = w % 2 ^ 64
    let asleep := s.pwr.state = .deepSleep ∨ s.pwr.state = .warmSleep
    let warm := s.net.warmSleep = true
    (s.pwr.hubUp = true → s.armedSource cause src = true →
      ((s.tick t).committed = false → k < 13 → s.flag (F.NETMGT_SEG0_EN k) = true → s.isRing k = false →
        Ends (.wakeRequest t cause src) s fun s' => (s'.seg k).lastSeen = t ∧ s'.rd (F.NETMGT_SEG1_READY k) = 0 ∧
          s'.net.state = .awake ∧
          ((∀ i, i < 12 → s.servesTx i (s.rd (F.NETMGT_SEG0_KA_RING i)) = false) → s'.mem = s.mem)) ∧
      ((s.tick t).committed = true → s.net.latched = none → Ends (.wakeRequest t cause src) s fun s' =>
        s'.net.latched = some (cause, src, tt) ∧ s'.net.state = s.net.state ∧ s'.pwr = s.pwr) ∧
      ((s.tick t).committed = true → s.net.latched ≠ none → Ends (.wakeRequest t cause src) s fun s' => s'.net = s.net)) ∧
    (k < 4 → s.rd (F.NETMGT_WIN_CFG_POL k) ≤ 1 → Ends (.wakeInputInactive t k) s fun s' =>
      s'.rd (F.NETMGT_WIN_CFG_STATE k) = 1 - s.rd (F.NETMGT_WIN_CFG_POL k) ∧
      ((∀ i, i < 12 → s.servesTx i (s.rd (F.NETMGT_SEG0_KA_RING i)) = false) → s'.mem = s.mem)) ∧
    (s.net.state = .prepare → (s.pwr.state = .run ∨ s.pwr.state = .safe) →
      (s.net.prepAt + 500000000 ≤ t → Ends (.sleepCommit t) s fun s' => s'.net.state = .entry ∧
        s'.pwr.state = .sleepEntry ∧ s'.cyc.mode = .stop ∧ s'.pwr.parlourOut = false ∧ s'.fuse.queue = [] ∧
        (∀ n, n < 48 → (s'.chan n).state = .off) ∧ (∀ n, n < 12 → (s.ctl n).onBus = none → (s'.ctl n).state = .config) ∧
        (∀ l, (s'.ln l).driven = 0) ∧
        s'.net.warmSleep = (s.flag F.NETMGT_CFG_SLEEP_KIND || decide (s.net.warm ≠ 0)) ∧
        s'.net.latched = if s.net.latched ≠ none then s.net.latched else if s.rd64 F.NETMGT_WAKE_AT_WAKE_AT ≠ 0 ∧ s.rd64 F.NETMGT_WAKE_AT_WAKE_AT ≤ tt
          then some (4, 0, tt) else none) ∧
      (t < s.net.prepAt + 500000000 → Ends (.sleepCommit t) s fun s' => s' = s.tick t)) ∧
    (s.pwr.state = .sleepEntry → s.pwr.pfInEntry = true → s.net.latched = none → Ends (.sleepEntryComplete t) s fun s' =>
      s'.pwr.state = .deepSleep ∧ s'.pwr.hubUp = false ∧ s'.pwr.laneUp = false ∧ s'.mem = []) ∧
    (s.pwr.state = .sleepEntry → s.pwr.pfInEntry = false →
      (s.net.latched = none → Ends (.sleepEntryComplete t) s fun s' =>
        s'.pwr.state = (if warm then .warmSleep else .deepSleep) ∧ s'.pwr.hubUp = false ∧ s'.pwr.laneUp = false ∧
        s'.pwr.fuseUp = false ∧ s'.time.par.rate = 0 ∧
        (∀ x, Memory.read s'.mem x = if warm ∧ 0x0800000000 ≤ x then Memory.read s.mem x else memDefault)) ∧
      (s.net.latched = some (c, src, t0) → Ends (.sleepEntryComplete t) s fun s' => woken s' 6 src t0 ∧
        s'.net.latched = none)) ∧
    (asleep → 1 ≤ cause → cause ≤ 3 → s.armedSource cause src = true → Ends (.wakeRecognised t cause src) s fun s' =>
      woken s' cause src tt ∧ s'.mem = s.mem) ∧
    (asleep → s.net.wakeAt ≠ 0 →
      (s.net.wakeAt ≤ tt → Ends (.wakeTimer t) s fun s' => woken s' 4 0 tt ∧ s'.mem = s.mem) ∧
      (tt < s.net.wakeAt → Ends (.wakeTimer t) s fun s' => s' = s.tick t)) ∧
    (s.pwr.state = .warmSleep → s.rd F.NETMGT_CFG2_WARM_MAX = h → h ≠ 0 →
      (s.pwr.sleepAt + 1000000000 * (3600 * h) ≤ t → Ends (.warmMaxExpiry t) s fun s' =>
        s'.pwr.state = .deepSleep ∧ s'.mem = [] ∧ s'.pwr.deepFromWarm = true) ∧
      (t < s.pwr.sleepAt + 1000000000 * (3600 * h) → Ends (.warmMaxExpiry t) s fun s' => s' = s.tick t))

/-! ### Virtual instances -/

/-- TIER 2. Configuration, queues and dispatch (R318 to R321, R323 to R325, R327, R329, R330): writes of the Attic take effect within
the limits the rules set and are refused beyond them, and of others are denied and counted; a core's PID gives its
instance; an entry pushed through the window joins its queue when admitted and leaves it at the head; a round start brings
the shadowed values into force. -/
def Obligations.InstanceConfiguration : Prop :=
  ∀ (s : State) (t h pid i j e k q n p : Nat) (a : Attr) (v : Word) (peek : Bool) (ws : List Nat) (en : Entry) (es : List Entry),
    h < 8 → i < 64 → e < 4096 → q < 384 →
    let w := v.toNat
    let share := min 512 (w % 1024)
    let base := w / 2 ^ 16 % 2 ^ 14
    let cnt := min 16384 (w % 2 ^ 15)
    let attic (addr : Nat) : Prop := a.attic = true ∧ (s.tick t).passes addr a true = true
    let refused (c : Instr) (f : Fld) : Prop := Ends c s fun s' => OnlyRegs s t [f] s' ∧ s'.rd f = 1
    let stranded := ∃ x, x < s.rd (F.VIM_INST_FLT_FLT_CNT i) ∧
      s.flag (F.CANRAM_FLT0_VALID (s.rd (F.VIM_INST_FLT_FLT_BASE i) + x)) = true ∧
      ¬ (base ≤ s.rd (F.VIM_INST_FLT_FLT_BASE i) + x ∧ s.rd (F.VIM_INST_FLT_FLT_BASE i) + x < base + cnt)
    (pid < 2 ^ 20 → (s.tick t).passes (0x41100040 + 4 * h) a true = true →
      (s.pidEntry pid = none → Ends (.hartPidWrite t a h pid) s fun s' => s'.rd (F.VIM_HART_PID_PID h) = pid ∧
        s'.rd (F.VIM_HART_PID_MAPPED h) = 0 ∧ s'.rd (F.VIM_HART_PID_INST h) = 0 ∧ s'.vim = s.vim ∧ s'.mem = s.mem) ∧
      (s.pidEntry pid = some e → s.rd (F.VIM_MAP_INST e) = i → s.rd (F.VIM_INST_CFG_WORLD i) = s.rd (F.WORLD_HART_CUR h) →
        Ends (.hartPidWrite t a h pid) s fun s' => s'.rd (F.VIM_HART_PID_PID h) = pid ∧
          s'.rd (F.VIM_HART_PID_MAPPED h) = 1 ∧ s'.rd (F.VIM_HART_PID_INST h) = i)) ∧
    (attic (0x41110000 + 4 * e) →
      ((s.pidEntry (w % 2 ^ 20) = none ∨ s.pidEntry (w % 2 ^ 20) = some e ∨ w < 2 ^ 31) → Ends (.mapEntryWrite t a e v) s fun s' =>
        s'.rd (F.VIM_MAP_VALID e) = w / 2 ^ 31 ∧ s'.rd (F.VIM_MAP_INST e) = w / 2 ^ 24 % 64 ∧
        s'.rd (F.VIM_MAP_PID e) = w % 2 ^ 20 ∧ ∀ x, x < 4096 → x ≠ e → s'.rd (F.VIM_MAP_PID x) = s.rd (F.VIM_MAP_PID x)) ∧
      (s.pidEntry (w % 2 ^ 20) = some k → k ≠ e → 2 ^ 31 ≤ w → refused (.mapEntryWrite t a e v) F.VIM_STAT_MAP_DUP)) ∧
    (i ≠ 0 → attic (0x41101000 + 64 * i) →
      (s.cplOk i (w / 2 ^ 15 % 2 ^ 9) = false → refused (.instCfgWrite t a i v) F.VIM_STAT_SHARE_REFUSED) ∧
      (s.cplOk i (w / 2 ^ 15 % 2 ^ 9) = true →
        let fits := s.otherShares i + s.rd (F.VIM_INST_QSHARE_QSHARE i) ≤ 512 ∧
          s.windowMeets i (s.rd (F.VIM_INST_FLT_FLT_BASE i)) (s.rd (F.VIM_INST_FLT_FLT_CNT i)) = false;
        ((s.inst i).state = .free → 2 ^ 31 ≤ w → fits → Ends (.instCfgWrite t a i v) s fun s' =>
          (s'.inst i).state = .active ∧ s'.rd (F.VIM_INST_CFG_VALID i) = 1 ∧ s'.mem = s.mem ∧
          s'.rd (F.VIM_INST_CFG_WORLD i) = w / 2 ^ 30 % 2 ∧ s'.rd (F.VIM_INST_CFG_CPL_HWQ i) = w / 2 ^ 15 % 2 ^ 9 ∧
          s'.rd (F.VIM_INST_CFG_WEIGHT i) = max 1 (w % 256) ∧ (∀ x, x ≠ i → s'.inst x = s.inst x) ∧
          s'.rd (F.VIM_INST_QSHARE_QSHARE_EFF i) = s.rd (F.VIM_INST_QSHARE_QSHARE i) % 1024) ∧
        ((s.inst i).state = .free → 2 ^ 31 ≤ w → ¬ fits → refused (.instCfgWrite t a i v) F.VIM_STAT_SHARE_REFUSED) ∧
        ((s.inst i).state = .active → w < 2 ^ 31 → s.ownsNothing i = true → Ends (.instCfgWrite t a i v) s fun s' =>
          (s'.inst i).state = .free ∧ s'.rd (F.VIM_INST_CFG_VALID i) = 0) ∧
        ((s.inst i).state = .active → w < 2 ^ 31 → s.ownsNothing i = false → Ends (.instCfgWrite t a i v) s fun s' =>
          OnlyRegs s t [F.VIM_INST_STAT_LAST_RESULT i] s' ∧ s'.rd (F.VIM_INST_STAT_LAST_RESULT i) = 1))) ∧
    (attic (0x4110100C + 64 * i) →
      ((s.rd (F.VIM_INST_CFG_VALID i) = 0 ∨ s.otherShares i + share ≤ 512) → Ends (.qshareWrite t a i v) s fun s' =>
        OnlyRegs s t [F.VIM_INST_QSHARE_QSHARE i] s' ∧ s'.rd (F.VIM_INST_QSHARE_QSHARE i) = share) ∧
      (s.rd (F.VIM_INST_CFG_VALID i) ≠ 0 → 512 < s.otherShares i + share →
        refused (.qshareWrite t a i v) F.VIM_STAT_SHARE_REFUSED)) ∧
    (a.attic = false → s.vimMay a i = false → Ends (.qshareWrite t a i v) s fun s' => s'.resp.status = 0x0E ∧
      s'.rd (F.VIM_INST_QSHARE_QSHARE i) = s.rd (F.VIM_INST_QSHARE_QSHARE i) ∧
      s'.rd F.VIM_CNT_DENIED = min 65535 (s.rd F.VIM_CNT_DENIED + 1)) ∧
    (attic (0x41101014 + 64 * i) →
      (s.windowMeets i base cnt = false → ¬ stranded → Ends (.instFltWrite t a i v) s fun s' =>
        OnlyRegs s t [F.VIM_INST_FLT_FLT_BASE i, F.VIM_INST_FLT_FLT_CNT i] s' ∧
        s'.rd (F.VIM_INST_FLT_FLT_BASE i) = base ∧ s'.rd (F.VIM_INST_FLT_FLT_CNT i) = cnt) ∧
      ((s.rd (F.VIM_INST_CFG_VALID i) ≠ 0 ∧ s.windowMeets i base cnt = true ∨ stranded) →
        refused (.instFltWrite t a i v) F.VIM_STAT_SHARE_REFUSED)) ∧
    (attic (0x41120000 + 16 * q) →
      (s.queueFill q = 0 → s.boundTo q = none → w / 2 ^ 29 % 4 < 2 → Ends (.hwqCfgWrite t a q v) s fun s' =>
        s'.rd (F.VIM_HWQ_CFG_VALID q) = w / 2 ^ 31 ∧ s'.rd (F.VIM_HWQ_CFG_END q) = w / 2 ^ 29 % 4 ∧
        s'.rd (F.VIM_HWQ_CFG_OWNER q) = w / 2 ^ 23 % 64 ∧ s'.vim = s.vim ∧
        s'.rd (F.VIM_HWQ_CFG_CAP q) = min 16383 (max 2 (w % 2 ^ 18))) ∧
      (s.queueFill q ≠ 0 → s.boundTo q = none → Ends (.hwqCfgWrite t a q v) s fun s' => OnlyRegs s t [] s') ∧
      (s.boundTo q ≠ none → (w / 2 ^ 29 % 4 ≠ s.rd (F.VIM_HWQ_CFG_END q) ∨ w / 2 ^ 23 % 64 ≠ s.rd (F.VIM_HWQ_CFG_OWNER q)) →
        refused (.hwqCfgWrite t a q v) F.VIM_STAT_SHARE_REFUSED)) ∧
    (s.windowMay a q = true → (s.tick t).passes (0x41120008 + 16 * q) a true = true →
      ((s.pool q).pushing = none → w % 4096 ≠ 0 → Ends (.hwqPush t a q v) s fun s' => s'.regs = s.regs ∧
        s'.pool q = { s.pool q with pushing := some (a.inst, w / 2 ^ 18 % 256, w % 4096, []) } ∧
        ∀ x, x ≠ q → s'.pool x = s.pool x) ∧
      ((s.pool q).pushing = some (i, j, n, ws) → ws.length + 1 = n →
        let verdict := ((s.tick t).okay.modPool q fun y => { y with pushing := none }).admission q (n + 1);
        (verdict = .ok → Ends (.hwqPush t a q v) s fun s' => s'.rd (F.VIM_HWQ_STAT_LAST_RES q) = 0 ∧ s'.mem = s.mem ∧
          s'.pool q = { s.pool q with pushing := none, entries := (s.pool q).entries ++ [⟨i, j, ws ++ [w]⟩] }) ∧
        (verdict = .full → Ends (.hwqPush t a q v) s fun s' => s'.rd (F.VIM_HWQ_STAT_LAST_RES q) = 4 ∧
          s'.pool q = { s.pool q with pushing := none }))) ∧
    (s.windowMay a q = true → (s.tick t).passes (0x4112000C + 16 * q + if peek then 0x8000 else 0) a false = true →
      (s.pool q).body = [] → (s.pool q).entries = en :: es → 0 < (s.tick t).settled (popAddr q) (es.length + 1) →
      Ends (.hwqPop t a q peek) s fun s' =>
        s'.resp = ⟨0, headerWord en.inst en.status en.payload.length⟩ ∧ (peek = true → s'.vim = s.vim ∧ s'.regs = s.regs) ∧
        (peek = false → s'.pool q = { s.pool q with body := en.payload, bodyInst := en.inst, entries := es })) ∧
    (s.nextOf 0 = some (q, n, j, p) → (s.pool q).entries = en :: es → Ends (.dispatchEntry t) s fun s' =>
      (s'.pool q).entries = es ∧ ((s'.eng j).port p).entries = ((s.eng j).port p).entries ++ [en] ∧ s'.mem = s.mem) ∧
    ((∀ x, x < 64 → s.nextOf x = none) → Ends (.dispatchEntry t) s fun s' => s' = s.tick t) ∧
    (Ends (.dispatchRoundStart t) s fun s' => s'.vim.turn = none ∧ s'.vim.pools = s.vim.pools ∧ s'.mem = s.mem ∧
      s'.vim.turns = (List.range 63).map (fun x => (s.vim.start % 63 + x) % 63 + 1) ∧
      s'.vim.start = (s.vim.start % 63 + 1) % 63 ∧
      (s.rd (F.VIM_INST_CFG_VALID i) ≠ 0 → s'.rd (F.VIM_INST_QSHARE_QSHARE_EFF i) =
          s.rd (F.VIM_INST_QSHARE_QSHARE i) % 1024 ∧ (s'.inst i).weight = s.rd (F.VIM_INST_CFG_WEIGHT i) ∧
        (s'.inst i).cir = s.rd (F.VIM_INST_CIR_CIR i) ∧
        (s'.inst i).pir = max (s.rd (F.VIM_INST_CIR_CIR i)) (s.rd (F.VIM_INST_PIR_PIR i))))

/-- TIER 2. Reset, freeze and migration (R318, R331, R333 to R336, R339, R340): RESET fences an instance and removes its entries
from every pool queue and no other; the reset completes with the last acknowledgement or, with one record, after 200 µs, from when on no acknowledgement counts; FREEZE
ends FROZEN or, with one record, ACTIVE again; a save leaves the instance FROZEN; a restore reads the blob from the buffer, changes
no state until every check has passed, and leaves the instance VALID and FROZEN. -/
def Obligations.InstanceResetAndMigration : Prop :=
  ∀ (s : State) (t i slot p : Nat) (a : Attr) (b : MigBlob), 0 < i → i < 64 → slot < 64 → s.pwr.state ≠ .powerFail →
    let x := s.inst i
    let cmd := a.attic = true ∧ (s.tick t).passes (vimCmdAddr i) a true = true
    let last (n : Nat) (s' : State) : Prop := s'.rd (F.VIM_INST_STAT_LAST_RESULT i) = n
    let pend := s.rd (F.VIM_INST_RESET_PEND_PEND i)
    let tmo := x.since + 1000000 * s.rd F.VIM_CFG_FREEZE_TMO
    let mig := a.attic = true ∧ (s.tick t).passes F.VIM_MIG_CTL_INST.addr a true = true
    let s1 := (((s.tick t).okay.wr F.VIM_MIG_CTL_INST i).wr F.VIM_MIG_CTL_KEY_SLOT slot)
    let ends (r : Nat) (s' : State) : Prop := s'.vim.mig = none ∧ s'.rd F.VIM_MIG_STAT_BUSY = 0 ∧
      s'.rd F.VIM_MIG_STAT_RESULT = r ∧ (s'.inst i).state = .frozen
    (cmd →
      ((x.state = .active ∨ x.state = .freezing ∨ x.state = .frozen) → Ends (.vimReset t a i) s fun s' =>
        (s'.inst i).state = .resetting ∧ (s'.inst i).since = t ∧ last 0 s' ∧ s'.mem = s.mem ∧
        s'.rd (F.VIM_INST_RESET_PEND_PEND i) = 0xFFFFF ∧ (s'.inst i).drained.testBit 3 = true ∧
        ∀ q, (s'.pool q).entries = (s.pool q).entries.filter fun e => e.inst ≠ i) ∧
      ((x.state = .free ∨ x.state = .resetting) → Ends (.vimReset t a i) s fun s' =>
        OnlyRegs s t [F.VIM_INST_STAT_LAST_RESULT i] s' ∧ last 1 s') ∧
      (x.state = .active → Ends (.vimFreeze t a i) s fun s' => s'.inst i = { x with state := .freezing, since := t } ∧
        last 0 s' ∧ s'.vim.pools = s.vim.pools ∧ ∀ k, k ≠ i → s'.inst k = s.inst k) ∧
      (x.state ≠ .active → Ends (.vimFreeze t a i) s fun s' => OnlyRegs s t [F.VIM_INST_STAT_LAST_RESULT i] s' ∧ last 1 s') ∧
      (x.state = .frozen → Ends (.vimThaw t a i) s fun s' => s'.inst i = { x with state := .active } ∧ last 0 s' ∧
        s'.vim.pools = s.vim.pools ∧ ∀ k, k ≠ i → s'.inst k = s.inst k) ∧
      (x.state ≠ .frozen → Ends (.vimThaw t a i) s fun s' => OnlyRegs s t [F.VIM_INST_STAT_LAST_RESULT i] s' ∧ last 1 s')) ∧
    (x.state = .resetting → x.since + 200000 ≤ t → p < 20 → Ends (.resetAck t i p) s fun s' => s' = s.tick t) ∧
    (p < 20 → x.state = .resetting → x.drained.testBit p = true → t < x.since + 200000 →
      (pend = 2 ^ p → Ends (.resetAck t i p) s fun s' => (s'.inst i).state = .active ∧
        s'.rd (F.VIM_INST_RESET_PEND_PEND i) = 0 ∧ s'.rd (F.VIM_INST_STAT_OVERSHARE i) = 0 ∧
        s'.rd (F.VIM_INST_RESET_CNT_LAST_US i) = min 0xFFFF ((t - x.since) / 1000)) ∧
      ((∃ k, k < 20 ∧ k ≠ p ∧ pend.testBit k = true) → Ends (.resetAck t i p) s fun s' =>
        OnlyRegs s t [F.VIM_INST_RESET_PEND_PEND i] s' ∧ ∀ k, k < 20 →
          (s'.rd (F.VIM_INST_RESET_PEND_PEND i)).testBit k = (decide (k ≠ p) && pend.testBit k))) ∧
    (x.state = .resetting →
      (x.since + 200000 ≤ t → Ends (.resetTimeout t i) s fun s' => (s'.inst i).state = .active ∧ last 2 s' ∧
        s'.rd (F.VIM_INST_RESET_PEND_PEND i) = pend ∧
        (∀ e, e < 16 → pend.testBit (4 + e) = true → (s'.eng e).state = .stopped) ∧
        ((∀ e, e < 16 → pend.testBit (4 + e) = false) → WroteOne s s' 0x0E 1 5 i 0x0D)) ∧
      (t < x.since + 200000 → Ends (.resetTimeout t i) s fun s' => s' = s.tick t)) ∧
    (x.state = .freezing →
      (s.quiescent i = true → t < tmo → Ends (.freezeQuiescent t i) s fun s' =>
        s'.inst i = { x with state := .frozen, freezeT := (s.tick t).tNow } ∧ s'.regs = s.regs ∧
        ∀ k, k ≠ i → s'.inst k = s.inst k) ∧
      ((s.quiescent i = false ∨ tmo ≤ t) → Ends (.freezeQuiescent t i) s fun s' => s' = s.tick t) ∧
      (tmo ≤ t → Ends (.freezeTimeout t i) s fun s' => s'.inst i = { x with state := .active } ∧ last 2 s' ∧
        WroteOne s s' 0x0E 2 4 i 0x0D) ∧
      (t < tmo → Ends (.freezeTimeout t i) s fun s' => s' = s.tick t)) ∧
    (mig → s.vim.mig = none →
      (x.state = .frozen → Ends (.migSave t a i slot) s fun s' => s'.vim.mig = some (.save i slot) ∧
        (s'.inst i).state = .saving ∧ s'.rd F.VIM_MIG_STAT_BUSY = 1 ∧ s'.mem = s.mem) ∧
      (x.state ≠ .frozen → Ends (.migSave t a i slot) s fun s' => s'.vim = s.vim ∧ s'.rd F.VIM_MIG_STAT_RESULT = 2) ∧
      (x.state ≠ .free → Ends (.migRestore t a i slot) s fun s' => s'.vim = s.vim ∧ s'.rd F.VIM_MIG_STAT_RESULT = 2) ∧
      (x.state = .free → s1.reaches s1.migAddr 64 false = true → s1.reaches s1.migAddr s1.blobLen false = true →
        (s1.blobAt = none → Ends (.migRestore t a i slot) s fun s' => s'.vim = s.vim ∧ s'.rd F.VIM_MIG_STAT_RESULT = 4) ∧
        (s1.blobAt = some b → Ends (.migRestore t a i slot) s fun s' => s'.mem = s.mem ∧
          if s1.restoreCheck i slot b = .ok then s'.vim.mig = some (.restore i b) ∧ s'.rd F.VIM_MIG_STAT_BUSY = 1
          else OnlyRegs s t [F.VIM_MIG_CTL_INST, F.VIM_MIG_CTL_KEY_SLOT, F.VIM_MIG_STAT_RESULT] s' ∧
            s'.rd F.VIM_MIG_STAT_RESULT = (s1.restoreCheck i slot b).code))) ∧
    (mig → s.vim.mig ≠ none →
      (Ends (.migSave t a i slot) s fun s' => s'.vim = s.vim ∧ s'.rd F.VIM_MIG_STAT_RESULT = 1) ∧
      (Ends (.migRestore t a i slot) s fun s' => s'.vim = s.vim ∧ s'.rd F.VIM_MIG_STAT_RESULT = 1)) ∧
    (s.vim.mig = some (.save i slot) →
      let key := (s.useSlot slot).1.filter fun k => k.fits migrationFit;
      (key = none → Ends (.migSaveComplete t) s fun s' => ends 12 s' ∧ s'.mem = s.mem) ∧
      (key ≠ none → Ends (.migSaveComplete t) s fun s' =>
        let d := s.rd (F.VIM_MIG_ADDR_ADDR 0) + 2 ^ 32 * (s.rd (F.VIM_MIG_ADDR_ADDR 1) % 256);
        (ends 3 s' ∨ ends 11 s' ∧ s.reaches d (s'.rd F.VIM_MIG_USED_USED) true = false ∨ ends 0 s' ∧ Memory.read s'.mem d = 0x4D ∧ Memory.read s'.mem (d + 1) = 0x47 ∧
          Memory.read s'.mem (d + 2) = 0x42 ∧ Memory.read s'.mem (d + 3) = 0x31))) ∧
    (s.vim.mig = some (.restore i b) → Ends (.migRestoreComplete t) s fun s' => ends 0 s' ∧
      s'.rd (F.VIM_INST_CFG_VALID i) = 1 ∧ (s'.inst i).freezeT = b.freezeT ∧
      s'.vim.nonces = b.nonce :: s.vim.nonces.take 63)

/-! ### Attic and Parlour, the Pantry, and tamper -/

/-- TIER 2. Worlds, regions, claims and tamper (R342, R343, R345 to R348, R365, R366): a trap takes the core to the Attic and MRET
leaves it only with NEXT = 0; only an Attic transaction of instance 0 with domain tag hub writes a region, and none a locked one;
the new L2 partition applies when its change ends; gates 12 and 13 stay claimed, and a Parlour request of a
claimed gate in the same clock is vetoed; an armed tamper source latches and blocks the
root in every state but OFF. -/
def Obligations.WorldsAndTamper : Prop :=
  ∀ (s : State) (t h k r w src act : Nat) (a : Attr) (v : Word) (peek : Bool) (b : Attr) (g0 : Nat) (on : Bool) (x : Viol) (xs : List Viol),
    h < 8 → k < 4 → r < 32 →
    let n := v.toNat
    let cur := F.WORLD_HART_CUR h
    let rgn (j : Nat) : Nat := (F.WORLD_RGN0_BASE k r).addr + 4 * j
    let hub := a.attic = true ∧ a.inst = 0 ∧ a.dom = .hub
    let sys := a.attic = true ∧ a.inst = 0
    let armed := src < 5 ∧ (s.rd F.WORLD_TAMPER_ARM_ARM).testBit src = true
    let latched (s' : State) : Prop := s'.rd F.WORLD_TAMPER_STAT_LATCH = 1 ∧ s'.rd F.WORLD_STAT_ROOT = 2 ∧
      (s'.rd F.WORLD_TAMPER_STAT_LATCHED).testBit src = true ∧ s'.pantry.cache = [] ∧ s'.pantry.store = s.pantry.store ∧
      s'.rd F.WORLD_TAMPER_STAT_TAMPER_CNT =
        satSucc F.WORLD_TAMPER_STAT_TAMPER_CNT.width (s.rd F.WORLD_TAMPER_STAT_TAMPER_CNT)
    (Ends (.machineTrap t h) s fun s' => s'.rd cur = 1 ∧ OnlyRegs s t [cur, F.WORLD_HART_SWITCHES h] s' ∧
      s'.rd (F.WORLD_HART_SWITCHES h) = if s.rd cur = 1 then s.rd (F.WORLD_HART_SWITCHES h)
        else satSucc (F.WORLD_HART_SWITCHES h).width (s.rd (F.WORLD_HART_SWITCHES h))) ∧
    (s.rd (F.WORLD_HART_NEXT h) = 0 → Ends (.mret t h) s fun s' => s'.rd cur = 0 ∧
      OnlyRegs s t [cur, F.WORLD_HART_SWITCHES h] s' ∧
      s'.rd (F.WORLD_HART_SWITCHES h) = if s.rd cur = 0 then s.rd (F.WORLD_HART_SWITCHES h)
        else satSucc (F.WORLD_HART_SWITCHES h).width (s.rd (F.WORLD_HART_SWITCHES h))) ∧
    (s.rd (F.WORLD_HART_NEXT h) ≠ 0 → Ends (.mret t h) s fun s' => s' = s.tick t) ∧
    (hub → s.rd (F.WORLD_RGN2_LOCK k r) = 0 →
      ((s.tick t).passes (rgn 0) a true = true → Ends (.regionWrite t a k r 0 v) s fun s' =>
        OnlyRegs s t [F.WORLD_RGN0_BASE k r] s' ∧
        s'.rd (F.WORLD_RGN0_BASE k r) = n % 2 ^ (F.WORLD_RGN0_BASE k r).width) ∧
      ((s.tick t).passes (rgn 1) a true = true → Ends (.regionWrite t a k r 1 v) s fun s' =>
        OnlyRegs s t [F.WORLD_RGN1_LIMIT k r] s' ∧
        s'.rd (F.WORLD_RGN1_LIMIT k r) = n % 2 ^ (F.WORLD_RGN1_LIMIT k r).width) ∧
      ((s.tick t).passes (rgn 2) a true = true → Ends (.regionWrite t a k r 2 v) s fun s' =>
        s'.rd (F.WORLD_RGN2_EN k r) = n / 2 ^ 31 ∧ s'.rd (F.WORLD_RGN2_LOCK k r) = n / 2 ^ 30 % 2 ∧
        s'.rd (F.WORLD_RGN2_A_R k r) = n / 2 ^ 29 % 2 ∧ s'.rd (F.WORLD_RGN2_A_W k r) = n / 2 ^ 28 % 2 ∧
        s'.rd (F.WORLD_RGN2_P_R k r) = n / 2 ^ 27 % 2 ∧ s'.rd (F.WORLD_RGN2_P_W k r) = n / 2 ^ 26 % 2 ∧
        s'.rd (F.WORLD_RGN2_DOM k r) = n / 2 ^ 23 % 8 ∧ s'.rd (F.WORLD_RGN2_INST_EN k r) = n / 2 ^ 22 % 2 ∧
        s'.rd (F.WORLD_RGN2_INST k r) = n / 2 ^ 16 % 64 ∧ s'.rd (F.WORLD_RGN0_BASE k r) = s.rd (F.WORLD_RGN0_BASE k r))) ∧
    (w < 3 → hub → (s.tick t).passes (rgn w) a true = true → s.rd (F.WORLD_RGN2_LOCK k r) ≠ 0 →
      Ends (.regionWrite t a k r w v) s fun s' => OnlyRegs s t [] s') ∧
    (w < 3 → ¬ hub → Ends (.regionWrite t a k r w v) s fun s' => s'.resp.status = 0x0E ∧
      s'.rd (F.WORLD_RGN0_BASE k r) = s.rd (F.WORLD_RGN0_BASE k r) ∧
      s'.rd (F.WORLD_RGN1_LIMIT k r) = s.rd (F.WORLD_RGN1_LIMIT k r) ∧
      s'.rd (F.WORLD_RGN2_EN k r) = s.rd (F.WORLD_RGN2_EN k r)) ∧
    (sys → (s.tick t).passes F.WORLD_L2_PART_ATTIC_WAYS.addr a true = true →
      (s.rd F.WORLD_STAT_L2_BUSY = 0 → Ends (.l2PartWrite t a v) s fun s' =>
        OnlyRegs s t [F.WORLD_L2_PART_ATTIC_WAYS, F.WORLD_STAT_L2_BUSY] s' ∧ s'.rd F.WORLD_STAT_L2_BUSY = 1 ∧
        s'.rd F.WORLD_L2_PART_ATTIC_WAYS = min 8 (max 2 (n % 16))) ∧
      (s.rd F.WORLD_STAT_L2_BUSY ≠ 0 → Ends (.l2PartWrite t a v) s fun s' => OnlyRegs s t [] s')) ∧
    (s.rd F.WORLD_STAT_L2_BUSY ≠ 0 → Ends (.l2RepartComplete t) s fun s' =>
      OnlyRegs s t [F.WORLD_STAT_ATTIC_WAYS, F.WORLD_STAT_L2_BUSY] s' ∧ s'.rd F.WORLD_STAT_L2_BUSY = 0 ∧
      s'.rd F.WORLD_STAT_ATTIC_WAYS = s.rd F.WORLD_L2_PART_ATTIC_WAYS % 2 ^ F.WORLD_STAT_ATTIC_WAYS.width) ∧
    (sys → (s.tick t).passes F.WORLD_CLAIM_CLAIM.addr a true = true → Ends (.claimWrite t a v) s fun s' =>
      ((s.tick t).clk.gates = [] → OnlyRegs s t [F.WORLD_CLAIM_CLAIM] s') ∧
      ((s.tick t).clk.gates = [(b, g0, F.PWRMGR_CLK_ON_ON, on)] → b.attic = false → g0 < 17 →
        (n.testBit g0 || decide (g0 = 12) || decide (g0 = 13)) = true →
        (s'.rd F.PWRMGR_CLK_ON_ON).testBit g0 = on ∧
        s'.rd F.WORLD_VIOL_CNT_VETOED = satSucc F.WORLD_VIOL_CNT_VETOED.width (s.rd F.WORLD_VIOL_CNT_VETOED)) ∧
      ∀ g, g < 17 →
        (s'.rd F.WORLD_CLAIM_CLAIM).testBit g = (n.testBit g || decide (g = 12) || decide (g = 13))) ∧
    ((s.tick t).passes (0x41200010 + if peek then 0x8000 else 0) a false = true → s.world.viols = x :: xs →
      (s.tick t).settled 0x41200010 (xs.length + 1) ≠ 0 → Ends (.violRead t a peek) s fun s' => s'.resp = ⟨0, Viol.word x⟩ ∧ s'.mem = s.mem ∧
        s'.world.viols = (if peek then x :: xs else xs) ∧
        (peek = false → s'.rd F.WORLD_VIOL_ADDR_LO_ADDR = x.addr % 2 ^ 32)) ∧
    (sys → (s.tick t).passes F.WORLD_TAMPER_ARM_ARM.addr a true = true → Ends (.tamperArmWrite t a v) s fun s' =>
      OnlyRegs s t [F.WORLD_TAMPER_ARM_ARM] s' ∧ s'.rd F.WORLD_TAMPER_ARM_ARM = n % 32) ∧
    (armed → (s.pwr.state = .run ∨ s.pwr.state = .safe) → s.pantry.op = none → s.vim.mig = none → s.setup.storing = none →
      s.setup.applying = false → Ends (.tamperRecognised t src act) s fun s' => latched s' ∧ s'.pwr = s.pwr ∧
        s'.rd F.WORLD_TAMPER_STAT_WHEN = 0 ∧ WroteOne s s' 0x0F 4 7 src 0) ∧
    (armed → (s.pwr.state = .deepSleep ∨ s.pwr.state = .warmSleep) → Ends (.tamperRecognised t src act) s fun s' =>
      latched s' ∧ s'.pwr.state = .startup ∧ s'.rd F.NETMGT_WAKE_CAUSE_CAUSE = 5 ∧ s'.rd F.NETMGT_WAKE_CAUSE_SOURCE = src) ∧
    (src < 5 → ¬ armed → Ends (.tamperRecognised t src act) s fun s' => s' = s.tick t)

/-- TIER 2. The Pantry (R350 to R357, R362, R364, R367): a change writes the copy that does not win and takes effect only at its
commit point, within its bound; a blocked root, a locked slot, a key that may not be exported and a running command are refused
with their RESULT; an output reaches memory at PANTRY_ADDR alone; a clear token that passes releases the latch, unless a tamper was
recognised while the command ran. -/
def Obligations.PantryCommands : Prop :=
  ∀ (s : State) (t k aux addr at_ g : Nat) (a : Attr) (toB erase lost : Bool) (body kek : KeyBody) (bytes : List Nat),
    k < 64 → aux < 64 →
    let may := a.attic = true ∧ a.inst = 0 ∧ a.dom = .hub ∧ (s.tick t).passes 0x41300000 a true = true
    let x := s.slotAt k
    let target := match x.winner with
      | some b => !b
      | none => decide (x.b.gen < x.a.gen)
    let next := max x.a.gen x.b.gen + 1
    let dest := s.rd (F.PANTRY_ADDR_ADDR 0) + 2 ^ 32 * (s.rd (F.PANTRY_ADDR_ADDR 1) % 256)
    let open_ := may ∧ s.pantry.op = none ∧ s.blocked = false ∧ next < 2 ^ 32
    let free := s.slotLocked k = false
    let begun (bound : Nat) (er : Bool) (ok : KeyBody → Prop) (s' : State) : Prop :=
      ∃ y d, s'.pantry.op = some (.commit k target y next d er) ∧ ok y ∧ t ≤ d ∧ d < t + bound ∧ s'.mem = s.mem ∧
        (s'.slotAt k).copy (!target) = x.copy (!target) ∧ ((s'.slotAt k).copy target).passes = false ∧
        ∀ j, j ≠ k → s'.slotAt j = s.slotAt j
    let ends (r : Nat) (s' : State) : Prop := s'.rd F.PANTRY_STAT_RESULT = r ∧ s'.pantry.op = none ∧ s'.pantry.stage = []
    let refused (c : Instr) (r : Nat) : Prop := Ends c s fun s' => ends r s' ∧ s'.mem = s.mem ∧
      s'.pantry.store = s.pantry.store ∧ s'.pantry.debug = s.pantry.debug
    let busy (c : Instr) : Prop := Ends c s fun s' => OnlyRegs s t [F.PANTRY_STAT_RESULT] s' ∧ s'.rd F.PANTRY_STAT_RESULT = 1
    let runs (c : Instr) (o : PantryOp) : Prop := Ends c s fun s' => s'.pantry.op = some o ∧ s'.mem = s.mem ∧
      s'.pantry.store = s.pantry.store
    (open_ → free →
      (Ends (.pantryWrite t a k) s (begun 56000 false fun y => y.typ = s.rd F.PANTRY_ATTR_TYPE ∧
        y.usage = s.rd F.PANTRY_ATTR_USAGE ∧ y.export_ = s.flag F.PANTRY_ATTR_EXPORTABLE ∧ y.internal = false ∧
        y.lock = s.flag F.PANTRY_ATTR_LOCK ∧
        y.material = padMaterial (s.stageBytes (min 64 (max 16 (s.rd F.PANTRY_ATTR_KEY_LEN)))))) ∧
      (1 ≤ s.rd F.PANTRY_ATTR_TYPE → s.rd F.PANTRY_ATTR_TYPE ≤ 6 → Ends (.pantryGenerate t a k) s (begun 1996000 false
        fun y => y.typ = s.rd F.PANTRY_ATTR_TYPE ∧ y.internal = true ∧ 64 ≤ y.material.length)) ∧
      ((s.rd F.PANTRY_ATTR_TYPE = 0 ∨ 6 < s.rd F.PANTRY_ATTR_TYPE) → refused (.pantryGenerate t a k) 3)) ∧
    (open_ → free → ((s.tick t).useSlot aux).1 = some kek → kek.fits kekFit = true →
      let len := 16 + (Memory.read s.mem (dest + 7)).toNat
      let plain := if (s.tick t).reaches dest len false then unwrapBlob kek (s.load dest len) else none
      (plain = some body → Ends (.pantryImport t a k aux) s (begun 76000 false fun y =>
        y = { body with material := padMaterial body.material })) ∧
      (plain = none → refused (.pantryImport t a k aux) 8)) ∧
    (open_ → Ends (.pantryErase t a k) s (begun 116000 true fun y => y = KeyBody.empty)) ∧
    (open_ → s.slotLocked k = true → refused (.pantryWrite t a k) 2 ∧ refused (.pantryGenerate t a k) 2 ∧
      refused (.pantryImport t a k aux) 2) ∧
    (open_ → (s.tick t).winning k = some body →
      (body.export_ = false → refused (.pantryWrapOut t a k aux) 4) ∧
      (body.export_ = true → ((s.tick t).useSlot aux).1 = some kek → kek.fits kekFit = true →
        runs (.pantryWrapOut t a k aux) (.output (wrapBlob aux kek body) dest)) ∧
      runs (.pantryAttest t a k) (.attest k (s.stageBytes 32) dest)) ∧
    (open_ → (s.tick t).winning k = none → refused (.pantryAttest t a k) 10 ∧ refused (.pantryWrapOut t a k aux) 10) ∧
    (open_ → ((s.tick t).useSlot k).1 = some body →
      (body.typ = 4 → runs (.pantryPubOut t a k) (.output (keyedN 3 (byteNum body.material) 97 []) dest)) ∧
      (body.typ ≠ 4 → body.typ ≠ 5 → refused (.pantryPubOut t a k) 3)) ∧
    (may → s.pantry.op = none →
      (Ends (.pantryCacheFlush t a) s fun s' => s'.pantry.cache = [] ∧ s'.pantry.op = some .cacheFlush ∧ s'.regs = s.regs) ∧
      runs (.tamperClear t a) (.clear dest false) ∧
      (s.blocked = true → refused (.pantryWrite t a k) 6 ∧ refused (.pantryErase t a k) 6 ∧ refused (.pantryAttest t a k) 6 ∧
        refused (.pantryWrapOut t a k aux) 6 ∧ refused (.pantryPubOut t a k) 6)) ∧
    (may → s.pantry.op ≠ none → busy (.pantryWrite t a k) ∧ busy (.pantryErase t a k) ∧ busy (.pantryCacheFlush t a)) ∧
    (s.pantry.op = some (.commit k toB body g at_ erase) →
      (at_ ≤ t → Ends (.pantryCommitComplete t) s fun s' => ends 0 s' ∧ s'.mem = s.mem ∧
        (s'.slotAt k).copy toB = ⟨body, g, true⟩ ∧ (∀ j, j ≠ k → s'.slotAt j = s.slotAt j) ∧
        (s'.slotAt k).copy (!toB) = (if erase then ⟨KeyBody.empty, 0, false⟩ else x.copy (!toB)) ∧
        ∀ e, e ∈ s'.pantry.cache → e.slot ≠ k ∧ e.kek ≠ k) ∧
      (t < at_ → Ends (.pantryCommitComplete t) s fun s' => s' = s.tick t)) ∧
    (s.pantry.op = some (.output bytes addr) → (s.tick t).reaches addr bytes.length true = true → Ends (.pantryCommandComplete t) s fun s' => ends 0 s' ∧
      (∀ j, j < bytes.length → Memory.read s'.mem (addr + j) = BitVec.ofNat 8 (bytes.getD j 0)) ∧
      ∀ j, j < addr ∨ addr + bytes.length ≤ j → Memory.read s'.mem j = Memory.read s.mem j) ∧
    (s.pantry.op = some (.output bytes addr) → (s.tick t).reaches addr bytes.length true = false →
      Ends (.pantryCommandComplete t) s fun s' => ends 7 s' ∧ s'.mem = s.mem) ∧
    (s.pantry.op = some .cacheFlush → Ends (.pantryCommandComplete t) s fun s' => ends 0 s' ∧ s'.mem = s.mem) ∧
    (s.pantry.op = some (.clear addr lost) → Ends (.pantryCommandComplete t) s fun s' =>
      s'.pantry.op = none ∧ s'.pantry.stage = [] ∧
      if lost = false ∧ (s.tick t).reaches addr 3429 false = true ∧ s.clearOk (s.load addr 3429) = true then
        s'.rd F.PANTRY_STAT_RESULT = 0 ∧ s'.rd F.WORLD_TAMPER_STAT_LATCH = 0 ∧ s'.rd F.WORLD_TAMPER_STAT_LATCHED = 0 ∧
        s'.rd F.WORLD_STAT_ROOT = (if s.flag F.WORLD_STAT_DEBUG then 1 else 0) ∧ WroteOne s s' 0x0F 5 7 0 0
      else s'.rd F.PANTRY_STAT_RESULT = 9 ∧ s'.rd F.WORLD_TAMPER_STAT_LATCH = s.rd F.WORLD_TAMPER_STAT_LATCH ∧
        s'.rd F.WORLD_STAT_ROOT = s.rd F.WORLD_STAT_ROOT) ∧
    (s.pantry.op = some (.clear addr lost) → lost = true → Ends (.pantryCommandComplete t) s fun s' => ends 9 s')

/-! ### Supply thresholds, scrubbing and gates -/

/-- TIER 2. The bus and its thresholds, scrub passes and gates (R31, R368 to R373, R381, R382, R388): below 14 V the hold-up
switch closes and a window opens, which a returning bus closes and counts; BUS_LOW, UNDERVOLT and OVERVOLT have their hysteresis;
a dip below 9 V queues every conducting channel again; a gate is turned off only when its block is idle. -/
def Obligations.SupplyThresholds : Prop :=
  ∀ (s : State) (t v x y vHold mean feed gate corr : Nat) (sv : Int) (act idle ru tu : Bool) (seqs : List Nat)
    (lanes : List LaneId) (a : Attr), feed < 2 →
    let live (n : Nat) : Prop := (s.chan n).state = .starting ∨ (s.chan n).state = .on
    let quiet (s' : State) : Prop := s'.mem = s.mem ∧ s'.log = s.log
    let V := F.PWRMGR_BUS_V_BUS
    let stopped (e0 : Nat) : Prop := ∀ e, e0 ≤ e → e < e0 + 4 → (s.eng e).state = .stopped
    let blockIdle : Prop := (gate < 8 → idle = true) ∧ (gate = 16 → idle = true) ∧
      (9 ≤ gate → gate ≤ 12 → stopped (4 * (gate - 9))) ∧ (gate = 8 → ∀ p, p < 4 → s.rd (F.HALL_MSEC_CFG_EN p) = 0) ∧
      (gate = 13 → s.pantry.op = none) ∧ (gate = 14 → ∀ g, g < 2 → s.rd (F.UIO_SEG_CFG_SEG_EN g) = 0) ∧
      (gate = 15 → ∀ c, c < 12 → (s.ctl c).state = .config)
    let claimed := (s.rd F.WORLD_CLAIM_CLAIM).testBit gate = true
    let res (r : Nat) (fs : List Fld) (s' : State) : Prop := s'.rd F.PWRMGR_GATE_RES_RESULT = r ∧
      s'.rd F.PWRMGR_GATE_RES_GATE = gate % 32 ∧ OnlyRegs s t (F.PWRMGR_GATE_RES_RESULT :: F.PWRMGR_GATE_RES_GATE :: fs) s'
    let last := ((s.tick t).clk.olds.find? F.PWRMGR_GATE_RES_GATE.addr).getD 0 ≤ gate % 32
    let now1 (f : Fld) (on : Bool) (s' : State) : Prop := res 0 [f] s' ∧ ∀ g, g < 17 → (s'.rd f).testBit g =
      (if g = gate then on else (s.rd f).testBit g)
    (s.pwr.state ≠ .off →
      (Ends (.inputBusFall14v t) s fun s' => quiet s' ∧ s'.rd F.PWRMGR_STAT_CHARGING = 0 ∧ s'.pwr.busLow14 = true ∧
        s'.hearth.swReq.isSome = true ∧ s'.pwr.state = s.pwr.state ∧
        (s.pwr.pfOpen = none → s.pwr.state ≠ .powerFail → s.pwr.pfInEntry = false → s'.pwr.pfOpen = some t) ∧
        (s.pwr.pfOpen = some x → s'.pwr.pfOpen = some x)) ∧
      (1400 ≤ v → (s.pwr.pfOpen = none ∨ s.pwr.pfOpen = some x ∧ t < x + 100000000) → Ends (.inputBusRise14v t v) s fun s' =>
        s'.pwr.pfOpen = none ∧ s'.mem = s.mem ∧
        s'.rd F.CELLAR_PF_CNT_WINDOWS = (if s.pwr.pfOpen = none then s.rd F.CELLAR_PF_CNT_WINDOWS
          else satSucc 16 (s.rd F.CELLAR_PF_CNT_WINDOWS)) ∧
        (v < 1450 → s'.hearth = s.hearth ∧ s'.pwr.busLow14 = s.pwr.busLow14) ∧
        (1450 ≤ v → s'.pwr.busLow14 = false ∧ (s.pwr.state ≠ .powerFail → s.pwr.pfInEntry = false → s'.hearth.swReq = none ∧
          (s.hearth.swReq = some y → s.hearth.fitted = true → max y s.hearth.swFrom + 1000000 ≤ t →
            s'.rd F.HEARTH_LIFE_EVENTS = satSucc 19 (s.rd F.HEARTH_LIFE_EVENTS))))) ∧
      (1400 ≤ v → s.pwr.pfOpen = some x → x + 100000000 ≤ t → Ends (.inputBusRise14v t v) s fun s' => s'.pwr.pfOpen = some x ∧
        s'.hearth = s.hearth ∧ OnlyRegs { s with pwr := s'.pwr } t [] s') ∧
      (v < 1400 → Ends (.inputBusRise14v t v) s fun s' => s' = s.tick t) ∧
      (s.pwr.below9 = false → s.pwr.state ≠ .powerFail → s.pwr.pfInEntry = false → s.pwr.hubUp = true → Ends (.busBelow9v t) s fun s' =>
        s'.rd F.PWRMGR_CNT_DIPS = satSucc 16 (s.rd F.PWRMGR_CNT_DIPS) ∧ s'.pwr.below9 = true ∧ quiet s' ∧
        ∀ n, n < 48 → s'.rd (F.CH_STAT_RETRY_CNT n) = s.rd (F.CH_STAT_RETRY_CNT n) ∧ (¬ live n → s'.chan n = s.chan n) ∧
          (live n → s.powerRuns n = true → (s'.chan n).state = .queued ∧ (s'.chan n).inr = 0 ∧ (s'.chan n).slew = 0 ∧
            (s'.chan n).duty = 0 ∧ n ∈ s'.fuse.fresh)) ∧
      (s.pwr.below9 = false → s.pwr.state = .powerFail → s.pwr.hubUp = true → Ends (.busBelow9v t) s fun s' =>
        s'.rd F.PWRMGR_CNT_DIPS = s.rd F.PWRMGR_CNT_DIPS ∧ s'.pwr.below9 = true ∧ quiet s' ∧
        ∀ n, n < 48 → (¬ live n → s'.chan n = s.chan n) ∧ (live n → (s'.chan n).state = .off ∧ (s'.chan n).duty = 0)) ∧
      (s.pwr.below9 = true → Ends (.busBelow9v t) s fun s' => s' = s.tick t) ∧
      (s.hearth.fitted = true → Ends (.chargeComplete t vHold) s fun s' => s'.hearth = { s.hearth with vFull := vHold } ∧
        quiet s' ∧ (s.pwr.hubUp = true → s'.rd F.PWRMGR_STAT_CHARGING = 0 ∧
          s'.rd F.PWRMGR_BUS_V_HOLD = min vHold 65535)) ∧
      (t < s.pwr.scrubAt + 600000000000 → Ends (.scrubPass t corr seqs lanes ru tu) s fun s' => s' = s.tick t) ∧
      (s.pwr.scrubAt + 600000000000 ≤ t → Ends (.scrubPass t corr seqs lanes ru tu) s fun s' => s'.mem = s.mem ∧
        s'.rd F.CELLAR_SCRUB_CORR = satAdd 16 (s.rd F.CELLAR_SCRUB_CORR) corr ∧
        s'.rd F.CELLAR_SCRUB_UNCORR = satAdd 8 (s.rd F.CELLAR_SCRUB_UNCORR)
          (seqs.length + lanes.length + (if ru then 1 else 0) + if tu then 1 else 0) ∧
        ((s'.rd F.CELLAR_SCRUB_UE_MAP).testBit 0 = ((s.rd F.CELLAR_SCRUB_UE_MAP).testBit 0 || decide (seqs ≠ []))) ∧
        ((s'.rd F.CELLAR_SCRUB_UE_MAP).testBit 4 = ((s.rd F.CELLAR_SCRUB_UE_MAP).testBit 4 || ru || tu)) ∧
        (∀ l, (s'.ln l).sealed = if l ∈ lanes then none else (s.ln l).sealed) ∧
        s'.vim.nonces = (if ru then [] else s.vim.nonces) ∧ s'.cyc.nonces = (if tu then [] else s.cyc.nonces) ∧
        (seqs = [] → lanes = [] → ru = false → tu = false → s'.log = s.log)) ∧
      (s.pantry.op = none → s.setup.storing = none → Ends (.cellarFloor t) s fun s' => s'.pwr = State.reset.pwr ∧
        s'.regs = State.reset.regs ∧ s'.mem = State.reset.mem ∧ s'.lane = State.reset.lane ∧ s'.fuse = State.reset.fuse ∧
        s'.pantry.store = s.pantry.store ∧ s'.log.blocks = s.log.blocks ∧ s'.setup.copyA = s.setup.copyA ∧
        s'.setup.copyB = s.setup.copyB ∧ s'.cyc.boot = s.cyc.boot ∧ s'.pending = s.pending)) ∧
    (s.pwr.state = .warmSleep → Ends (.dramSupplyFail t) s fun s' => s'.pwr.state = .deepSleep ∧ s'.pwr.deepFromWarm = true ∧
      s'.mem = [] ∧ s'.log = s.log) ∧
    (s.pwr.state ≠ .warmSleep → Ends (.dramSupplyFail t) s fun s' => s' = s.tick t) ∧
    (s.pwr.hubUp = true →
      (Ends (.busLowChange t v) s fun s' => OnlyRegs s t [V, F.PWRMGR_STAT_BUS_LOW] s' ∧ s'.rd V = min v 65535 ∧
        s'.rd F.PWRMGR_STAT_BUS_LOW = if v < 1200 then 1 else if 1250 ≤ v then 0 else s.rd F.PWRMGR_STAT_BUS_LOW) ∧
      (v < 1800 → s.rd F.PWRMGR_STAT_UNDERVOLT = 0 → Ends (.undervoltDetect t v) s fun s' =>
        s'.rd F.PWRMGR_STAT_UNDERVOLT = 1 ∧ s'.rd F.PWRMGR_STAT_CHARGING = 0 ∧ WroteOne s s' 1 4 4 0 0 ∧ s'.fuse = s.fuse) ∧
      (v < 1850 → (1800 ≤ v ∨ s.rd F.PWRMGR_STAT_UNDERVOLT = 1) → Ends (.undervoltDetect t v) s fun s' =>
        OnlyRegs s t [V] s' ∧ s'.rd V = min v 65535) ∧
      (1850 ≤ v → Ends (.undervoltDetect t v) s fun s' => s'.rd F.PWRMGR_STAT_UNDERVOLT = 0 ∧ quiet s') ∧
      (16200 < v → s.rd F.PWRMGR_STAT_OVERVOLT = 0 → Ends (.overvoltDetect t v) s fun s' =>
        s'.rd F.PWRMGR_STAT_OVERVOLT = 1 ∧ WroteOne s s' 1 5 4 0 0 ∧ s'.fuse = s.fuse ∧
        s'.rd F.PWRMGR_CNT_OVERVOLT_CNT = satSucc 16 (s.rd F.PWRMGR_CNT_OVERVOLT_CNT)) ∧
      (v ≤ 16000 → Ends (.overvoltDetect t v) s fun s' => OnlyRegs s t [V, F.PWRMGR_STAT_OVERVOLT] s' ∧
        s'.rd F.PWRMGR_STAT_OVERVOLT = 0) ∧
      (Ends (.feedCurrentWindow t feed mean sv act) s fun s' => s'.rd (F.PWRMGR_FEED_I feed) = min mean 4095 ∧
        s'.rd (F.PWRMGR_FEED_V feed) = ofSigned 16 (satInt sv (-32768) 32767) ∧
        s'.rd (F.PWRMGR_FEED_REV feed) = (if sv < 0 then 1 else 0) ∧
        s'.rd (F.PWRMGR_FEED_ACTIVE feed) = (if act then 1 else 0) ∧ s'.fuse = s.fuse ∧
        (1600 < mean → s.rd (F.PWRMGR_FEED_OVERCUR feed) = 0 → s'.rd (F.PWRMGR_FEED_OVERCUR feed) = 1 ∧
          WroteOne s s' 1 6 5 (feed + 1) 0) ∧
        (mean ≤ 1600 → s'.rd (F.PWRMGR_FEED_OVERCUR feed) = s.rd (F.PWRMGR_FEED_OVERCUR feed) ∧ s'.log = s.log))) ∧
    ((s.tick t).passes 0x40020030 a true = true → last →
      (gate < 17 → (claimed → a.attic = true) →
        Ends (.clockOn t a gate) s (now1 F.PWRMGR_CLK_ON_ON true) ∧ Ends (.powerOn t a gate) s (now1 F.PWRMGR_PWR_ON_ON true) ∧
        (blockIdle → Ends (.clockOff t a gate idle) s (now1 F.PWRMGR_CLK_ON_ON false) ∧
          Ends (.powerOff t a gate idle) s (now1 F.PWRMGR_PWR_ON_ON false)) ∧
        (¬ blockIdle → Ends (.clockOff t a gate idle) s (res 0x10 []) ∧ Ends (.powerOff t a gate idle) s (res 0x10 []))) ∧
      (17 ≤ gate → Ends (.clockOn t a gate) s (res 0x11 []) ∧ Ends (.clockOff t a gate idle) s (res 0x11 []) ∧
        Ends (.powerOn t a gate) s (res 0x11 []) ∧ Ends (.powerOff t a gate idle) s (res 0x11 [])) ∧
      (gate < 17 → claimed → a.attic = false → Ends (.powerOff t a gate idle) s fun s' => s'.resp.status = 8 ∧
        s'.rd F.PWRMGR_GATE_RES_RESULT = 8 ∧ s'.rd F.PWRMGR_GATE_RES_GATE = gate ∧
        s'.rd F.PWRMGR_PWR_ON_ON = s.rd F.PWRMGR_PWR_ON_ON ∧ WroteOne s s' 0x0F 2 4 gate 8))

/-- TIER 2. Start-up and the power-fail order (R31 to R34, R375, R377 to R380, R384 to R387, R478): start-up begins from OFF, or
after a sequence, when the supply qualifies; each stage begins those that waited for it, and ends in RUN or SAFE or, with no
firmware, in HALTED; a closed window declares power-fail; each step ends by its condition or its bound, and the sequence ends in
DEEP SLEEP with the hub and lanes off. -/
def Obligations.StartUpAndPowerFail : Prop :=
  ∀ (s : State) (t v t0 i k hA hB hC step : Nat) (ticket : Option DebugToken) (fwA fwB : FwCopy) (prog : EngLoad) (synced : List LaneId) (a : Attr)
    (w : Word) (q : PfSeq),
    let p := s.pwr
    let began (s' : State) (c : StartCause) (last slept : Nat) : Prop := s'.pwr.state = .startup ∧ s'.pwr.cause = c ∧
      s'.pwr.stagesBegun = [1] ∧ s'.pwr.stagesDone = [] ∧ s'.rd F.NETMGT_WAKE_CAUSE_CAUSE = 0 ∧
      s'.rd F.CELLAR_STAT_LAST = last % 8 ∧ s'.rd F.CELLAR_STAT_SLEEP_S = slept
    let stage (j : Nat) : Prop := p.state = .startup ∧ j ∈ p.stagesBegun ∧ j ∉ p.stagesDone
    let did (j : Nat) (s' : State) : Prop := s'.pwr.stagesDone = p.stagesDone ++ [j] ∧
      (j < 5 → (j + 1) ∈ s'.pwr.stagesBegun) ∧
      (1 ∈ s'.pwr.stagesDone → 4 ∈ s'.pwr.stagesDone → 6 ∈ s'.pwr.stagesBegun) ∧
      (5 ∈ s'.pwr.stagesDone → 6 ∈ s'.pwr.stagesDone → 7 ∈ s'.pwr.stagesBegun)
    let runs (s' : State) (ready : Nat) : Prop := s'.rd F.PWRMGR_STAT_HOLDUP_READY = ready ∧
      s'.rd F.PWRMGR_STAT_START_MS = min ((t - p.startAt) / 1000000) (2 ^ 20 - 1) ∧
      s'.pwr.state = if s.lane.vote = .safe ∨ s.cyc.mode = .safe then .safe else .run
    let conf (n : Nat) : Prop := if s.rd (F.CH_PROFILE_SAFE_ON n) ≠ 0
      then (s.chan n).state = .on ∨ p.below9 = true ∨ n ∉ q.atDecl
      else ((s.chan n).state ≠ .starting ∧ (s.chan n).state ≠ .on) ∨ p.below9 = true
    let vital (n : Nat) : Prop := n < 48 ∧ s.rd (F.CH_PROFILE_CH_MODE n) ≠ 0
    let notify (j : Nat) : Prop := j < 64 ∧ s.rd (F.VIM_INST_CFG_VALID j) ≠ 0 ∧ s.rd (F.VIM_INST_CFG_WORLD j) = 0 ∧
      s.rdMask F.PWRMGR_PF_NOTIFY_NOTIFY j = true
    let mounted := s.rd F.REC_STAT_MOUNTED ≠ 0
    let inStep (j : Nat) : Prop := p.seq = some q ∧ q.step = j
    let reached (s' : State) (j : Nat) : Prop := s'.rd F.CELLAR_STAT_PF_STEP = j - 1 ∧
      ∃ r, s'.pwr.seq = some r ∧ r.step = j ∧ r.stepStart = t
    let ended (s' : State) (e : Nat) : Prop := s'.pwr.hubUp = false ∧ s'.pwr.fuseUp = false ∧ s'.mem = [] ∧
      s'.rd F.CELLAR_STAT_PF_STEP = 4 ∧ s'.rd F.CELLAR_STAT_GRACE_ELAPSED = e ∧ s'.pwr.seq = none ∧
      s'.fuse.savedAge = [] ∧
      (p.qualified = false → s'.pwr.state = .deepSleep ∧ s'.pwr.afterPf = true ∧ s'.pwr.laneUp = false) ∧
      (p.qualified = true → s'.pwr.state = .startup ∧ s'.pwr.cause = .supplyReturn ∧ s'.rd F.CELLAR_STAT_LAST = 3)
    let pastCommit : Prop := ∃ m toB b g at_ er, s.pantry.op = some (.commit m toB b g at_ er) ∧ at_ ≤ t
    let dbg := ticket.any fun d => !s.efuse.debugOff && s.pinsOk d.pins && decide (d.mid = s.rd F.SYSCTL_MID_MID) &&
      decide (d.dbgCnt = s.rd F.CELLAR_DBG_CNT_DBG_CNT)
    let boots (c : FwCopy) : Prop := (∃ j, j ∈ c.pins ∧ j < 2 ∧ s.efuse.revoked.testBit j = false) ∧ s.efuse.minVersion ≤ c.version
    let early (c : Instr) : Prop := Ends c s fun s' => s' = s.tick t
    (p.state = .off → Ends (.startQualified t v) s fun s' => began s' .fromOff 0 0 ∧ s'.now = t ∧
      s'.rd F.PWRMGR_BUS_V_BUS = min v 65535) ∧
    (p.state = .deepSleep → p.afterPf = true → Ends (.startQualified t v) s fun s' =>
      began s' .supplyReturn p.lastCode (min ((t - p.sleepAt) / 1000000000) (2 ^ 22 - 1)) ∧ s'.mem = s.mem) ∧
    (p.state = .powerFail → Ends (.startQualified t v) s fun s' => s'.pwr = { p with qualified := true } ∧ s'.regs = s.regs) ∧
    (stage 1 → t < p.startAt + 3000000 → early (.startupStageComplete t .s1)) ∧
    (stage 1 → p.startAt + 3000000 ≤ t → Ends (.startupStageComplete t .s1) s fun s' => did 1 s' ∧ s'.pwr.hubUp = true ∧ s'.time.par.rate = 0 ∧
      s'.time.par.frcRef = t ∧ s'.time.par.offset = s.time.par.offset ∧ ∀ j, j < 13 → (s'.seg j).lastSeen = t) ∧
    (stage 2 →
      (boots fwA ∨ boots fwB → Ends (.startupStageComplete t (.s2 ticket fwA fwB)) s fun s' => did 2 s' ∧
        s'.rd F.WORLD_STAT_DEBUG = (if dbg then 1 else 0) ∧ s'.pwr.state = .startup ∧
        s'.rd F.CELLAR_DBG_CNT_DBG_CNT = if dbg then (s.rd F.CELLAR_DBG_CNT_DBG_CNT + 1) % 2 ^ 32
          else s.rd F.CELLAR_DBG_CNT_DBG_CNT) ∧
      (¬ boots fwA → ¬ boots fwB → Ends (.startupStageComplete t (.s2 ticket fwA fwB)) s fun s' => s'.pwr.state = .halted ∧ s'.pwr.haltedAt = t ∧
        s'.pwr.stagesDone = p.stagesDone)) ∧
    (stage 3 → Ends (.startupStageComplete t .s3) s fun s' => did 3 s' ∧
      (4 ∉ p.stagesBegun → s.hearth.fitted = true → s'.rd F.HEARTH_STAT_AUTH = 1)) ∧
    (stage 4 → Ends (.startupStageComplete t .s4) s fun s' => did 4 s' ∧ s'.pwr.parlourOut = true) ∧
    (stage 5 → Ends (.startupStageComplete t (.s5 prog)) s fun s' => did 5 s' ∧ s'.pwr.fuseUp = true) ∧
    (stage 6 → Ends (.startupStageComplete t (.s6 synced hA hB hC)) s fun s' => did 6 s' ∧ s'.cyc.act = s.cyc.boot ∧
      ∀ l, ((s'.ln l).state = .active ∨ (s'.ln l).state = .excluded) ∧
        ((s.ln l).bistOk = false → (s'.ln l).state = .excluded ∧ s'.rd (F.LANEIF_LANE_CAUSE l.idx) = 4) ∧
        ((s.ln l).bistOk = true → l ∉ synced → (s'.ln l).state = .excluded ∧ s'.rd (F.LANEIF_LANE_CAUSE l.idx) = 7) ∧
        ((s.ln l).bistOk = true → l ∈ synced → hA = hB → hB = hC → (s'.ln l).state = .active)) ∧
    (stage 7 →
      (s.holdTest v = true → Ends (.startupStageComplete t (.s7 v)) s fun s' => runs s' 1) ∧
      ((s.rd F.HEARTH_STAT_AUTH = 0 ∨ s.rd F.HEARTH_STAT_AUTH = 3) → Ends (.startupStageComplete t (.s7 v)) s fun s' =>
        runs s' 0) ∧
      ((s.rd F.HEARTH_STAT_AUTH = 1 ∨ s.rd F.HEARTH_STAT_AUTH = 2) → s.holdTest v = false →
        Ends (.startupStageComplete t (.s7 v)) s fun s' => OnlyRegs s t [F.PWRMGR_BUS_V_HOLD] s') ∧
      (p.s7Start + 60000000000 ≤ t → Ends (.holdupWaitTimeout t) s fun s' => runs s' 0 ∧
        ∃ r, r ∈ s'.log.ports.getD [] 1 ∧ r.kind = 8 ∧ r.sev = 5) ∧
      (t < p.s7Start + 60000000000 → early (.holdupWaitTimeout t))) ∧
    (p.state = .halted →
      (p.haltedAt + 10000000000 ≤ t → Ends (.haltedTimeout t) s fun s' => s'.pwr.state = .deepSleep ∧ s'.pwr.lastCode = 4 ∧
        s'.pwr.hubUp = false ∧ s'.pwr.laneUp = false ∧ s'.mem = []) ∧
      (t < p.haltedAt + 10000000000 → early (.haltedTimeout t))) ∧
    (p.pfOpen = some t0 →
      (t < t0 + 100000000 → early (.powerFailDeclared t)) ∧
      (t0 + 100000000 ≤ t → Ends (.powerFailDeclared t) s fun s' => s'.pwr.pfOpen = none ∧
        s'.rd F.CELLAR_PF_CNT_DECLARED = satSucc 12 (s.rd F.CELLAR_PF_CNT_DECLARED) ∧
        s'.rd64 F.CELLAR_PF_T_T = (s.tick t).tNow % 2 ^ 64 ∧
        ((p.state = .startup ∨ p.state = .run ∨ p.state = .safe ∨ p.state = .halted) → p.laneUp = true →
          s'.pwr.state = .powerFail ∧ s'.pwr.parlourHeld = true ∧ reached s' 1 ∧ s'.fuse.queue = [] ∧
          (∀ n, n < 48 → (s.chan n).state = .queued → (s'.chan n).state = .off) ∧
          ∀ l, (s.ln l).state = .active → (s'.ln l).driven = s.safeMask) ∧
        (p.state = .sleepEntry → s'.pwr.state = .sleepEntry ∧ s'.pwr.pfInEntry = true ∧ s'.fuse.queue = [] ∧ WroteOne s s' 1 1 6 0 0) ∧
        (p.state = .deepSleep ∨ p.state = .warmSleep → s'.pwr.state = .deepSleep ∧ s'.mem = [] ∧
          s'.rd F.CELLAR_STAT_PF_STEP = (if mounted then 1 else 4) ∧ (mounted → s'.log.flushing.isSome = true)))) ∧
    (inStep 1 → mounted →
      ((∀ n, vital n → conf n) → Ends (.pfStepComplete t 1) s fun s' => reached s' 2 ∧ s'.log.flushing.isSome = true ∧
        ∀ j, j < 8 → (s'.sup j).on = false) ∧
      ((∃ n, vital n ∧ ¬ conf n) → early (.pfStepComplete t 1)) ∧
      (q.stepStart + 1000000 ≤ t → Ends (.pfStepBoundExpiry t 1) s fun s' => reached s' 2 ∧
        s'.rd F.CELLAR_STAT_STEP1_LATE = 1 ∧
        ∀ n, vital n → ¬ conf n → ∃ r, r ∈ s'.log.ports.getD [] 1 ∧ r.kind = 3 ∧ r.sev = 7 ∧ r.subj = n) ∧
      (t < q.stepStart + 1000000 → early (.pfStepBoundExpiry t 1))) ∧
    (inStep 2 → 4 ∈ p.stagesBegun → pastCommit →
      (s.log.flushing = none → Ends (.pfStepComplete t 2) s fun s' => reached s' 3 ∧ s'.log = s.log) ∧
      (q.stepStart + (2000000 + 25000 * q.dirtyKb) ≤ t → Ends (.pfStepBoundExpiry t 2) s fun s' => reached s' 3 ∧
        s'.log.flushing = none ∧ (∀ r, r ∈ s'.log.buf → r.dirty = false) ∧ s'.rd F.REC_CNT_DROPPED =
          satAdd 16 (s.rd F.REC_CNT_DROPPED) (s.log.buf.filter fun r => r.dirty).length)) ∧
    (inStep 3 → s.pantry.op = none →
      (p.parlourOut = true → s.rd F.PWRMGR_PF_CFG_GRACE_MS ≠ 0 → notify k → Ends (.pfStepComplete t 3) s fun s' =>
        reached s' 4 ∧ (∀ r, s'.pwr.seq = some r → ∀ j, j ∈ r.await ↔ notify j) ∧ s'.pwr.parlourHeld = false ∧
        s'.rdMask (F.SYSCTL_IPEND_PEND 4) k = true) ∧
      ((p.parlourOut = false ∨ s.rd F.PWRMGR_PF_CFG_GRACE_MS = 0 ∨ ∀ j, ¬ notify j) →
        Ends (.pfStepComplete t 3) s fun s' => ended s' 0)) ∧
    (inStep 4 →
      (q.await = [] → Ends (.pfStepComplete t 4) s fun s' => ended s' 0) ∧
      (q.stepStart + 1000000 * s.rd F.PWRMGR_PF_CFG_GRACE_MS ≤ t → Ends (.pfGraceExpiry t) s fun s' => ended s' 1) ∧
      (t < q.stepStart + 1000000 * s.rd F.PWRMGR_PF_CFG_GRACE_MS → early (.pfGraceExpiry t)) ∧
      (a.inst < 64 → (s.tick t).passes 0x4002001C a true = true → w.toNat.testBit 31 = true → a.inst ∈ q.await →
        (i ∈ q.await → i ≠ a.inst → Ends (.pfDone t a w) s fun s' => s'.pwr.state = p.state ∧
          s'.rdMask (F.SYSCTL_IPEND_PEND 4) a.inst = false ∧
          s'.pwr.seq = some { q with await := q.await.filter fun j => j ≠ a.inst }) ∧
        ((∀ j, j ∈ q.await → j = a.inst) → Ends (.pfDone t a w) s fun s' => ended s' 0))) ∧
    (inStep step → step ≠ 4 → a.inst < 64 → (s.tick t).passes 0x4002001C a true = true →
      Ends (.pfDone t a w) s fun s' => OnlyRegs s t [] s') ∧
    (inStep step → p.state = .powerFail → Ends (.holdupCut t) s fun s' => s'.rd F.CELLAR_STAT_PF_CUT = 1 ∧
      s'.rd F.CELLAR_PF_CNT_CUTS = satSucc 4 (s.rd F.CELLAR_PF_CNT_CUTS) ∧ s'.pwr.hubUp = false ∧ s'.mem = [] ∧
      s'.pwr.seq = none ∧
      (p.qualified = false → s'.pwr.state = .deepSleep ∧ s'.pwr.cutRecord = some step) ∧
      (p.qualified = true → s'.pwr.state = .startup ∧ s'.pwr.cutRecord = none ∧
        ∃ r, r ∈ s'.log.ports.getD [] 1 ∧ r.kind = 2 ∧ r.sev = 6 ∧ r.subj = step % 65536))

/-! ### The Hearth cartridge and the margin planner -/

/-- TIER 2. The cartridge and the planner (R390 to R401, R403, R404, R450): authentication mounts the log, or reports FAIL and unmounts it; a test
discharge measures C and ESR; a plan gives the grace and the dirty limit that 0.8 E_USE pays for, the derating and the frequency
limit; HOLDUP_READY follows the test of R378; margins are reported as their conditions begin. -/
def Obligations.HearthAndMargins : Prop :=
  ∀ (s : State) (t t0 vBus vHold stepUv fallUv dHub dA dB dC r pNow wear m n f g d : Nat) (stud2 : Option Nat) (a : Attr)
    (c : CartId) (regions : List (Nat × Nat)),
    let h := s.hearth
    let pf : Prop := s.pwr.state = .powerFail ∨ s.pwr.pfInEntry = true
    let may : Prop := s.pwr.hubUp = true ∧ h.fitted = true ∧ h.testAt = none ∧ ¬ pf ∧ 15500 ≤ vHold ∧
      1800 ≤ vBus
    let test (c : Instr) (plan : Bool) : Prop := Ends c s fun s' => s'.rd F.HEARTH_STAT_TESTING = 1 ∧
      s'.rd F.PWRMGR_STAT_CHARGING = 0 ∧ s'.hearth.testAt = some t ∧ s'.hearth.testPlan = plan ∧
      s'.hearth.firstTest = false ∧ s'.log = s.log
    let volts (c : Instr) : Prop := Ends c s fun s' => OnlyRegs s t [F.PWRMGR_BUS_V_BUS, F.PWRMGR_BUS_V_HOLD] s' ∧
      s'.rd F.PWRMGR_BUS_V_BUS = min vBus 65535 ∧ s'.rd F.PWRMGR_BUS_V_HOLD = min vHold 65535
    let cmd (x : Nat) : Prop := a.attic = true ∧ a.inst = 0 ∧ (s.tick t).passes x a true = true
    let noted (s' : State) (k sev subj : Nat) : Prop := ∃ q, q ∈ s'.log.ports.getD [] 0x10 ∧ q.kind = k ∧ q.sev = sev ∧
      q.subj = subj
    let active := s.pwr.state = .run ∨ s.pwr.state = .safe
    let acc := if active then h.acc + (t - h.accAt) else h.acc
    let p := if acc < 3600000000000 then 460 else min h.peak 65535
    let cm := if s.rd F.HEARTH_STAT_AUTH = 2 then s.rd F.HEARTH_MEAS_C_MEAS else 0
    let bud := cm * (h.vFull * h.vFull - 36000000) * (3600000 - p * s.rd F.HEARTH_MEAS_ESR_MEAS)
    let fix := p * 10301 * 9000000000
    let kb := p * 22500000000
    let gr := p * 900000000000
    let G := s.rd F.MARGIN_REQ_GRACE_REQ
    let D := s.rd F.MARGIN_REQ_DIRTY_REQ
    let result : Prop :=
      (fix + kb * D + gr * G ≤ bud → g = G ∧ d = D) ∧
      (bud < fix + kb * D + gr * G → fix + kb * D ≤ bud → g = (bud - fix - kb * D) / gr ∧ d = D) ∧
      (bud < fix + kb * D → fix + kb * 16 ≤ bud → g = 0 ∧ d = max 16 ((bud - fix) / kb)) ∧
      (bud < fix + kb * D → bud < fix + kb * 16 → g = 0 ∧ d = 16)
    let e := fix + kb * d + gr * g
    let enough (e vh : Nat) : Prop := s.rd F.HEARTH_STAT_AUTH = 2 ∧
      5 * e ≤ 18000000 * (s.rd F.HEARTH_MEAS_C_MEAS * (vh * vh - 36000000))
    let force (s' : State) (w : Nat × Nat) (ready : Prop) : Prop :=
      (ready → s'.rd F.MARGIN_PLAN_GRACE_MS = w.1 % 2 ^ 13 ∧ s'.rd F.MARGIN_PLAN_DIRTY_KB = w.2 % 2 ^ 10) ∧
      (¬ ready → s'.rd F.MARGIN_PLAN_GRACE_MS = min w.1 (s.rd F.MARGIN_PLAN_GRACE_MS) % 2 ^ 13 ∧
        s'.rd F.MARGIN_PLAN_DIRTY_KB = min w.2 (s.rd F.MARGIN_PLAN_DIRTY_KB) % 2 ^ 10) ∧
      s'.rd F.PWRMGR_PF_CFG_GRACE_MS =
        if s'.rd F.PWRMGR_STAT_HOLDUP_READY = 0 then 0 else s'.rd F.MARGIN_PLAN_GRACE_MS
    let planned (vh : Nat) (s' : State) : Prop := s'.rd F.MARGIN_PWR_P_RUN = p ∧ s'.hearth.ePlan = e ∧
      s'.hearth.want = (g, d) ∧ s'.rd F.MARGIN_ENERGY_E_USE = min 65535 (bud / 720000000000000) ∧
      s'.rd F.MARGIN_ENERGY_E_PLAN = min 65535 (e / 900000000000000) ∧
      s'.rd F.MARGIN_STAT_DEFICIT = (if bud < fix + kb * D ∧ bud < fix + kb * 16 then 1 else 0) ∧
      s'.rd F.MARGIN_STAT_PLANNING = 0 ∧ s'.hearth.acc = 0 ∧ s'.hearth.peak = 0 ∧ force s' (g, d) (enough e vh) ∧
      (bud < fix + kb * D → bud < fix + kb * 16 → noted s' 2 6 0) ∧
      ∀ j, j < 48 →
        let x := s'.rd { F.MARGIN_DERATE_DERATE0 (j / 4) with lo := 8 * (j % 4) }
        let y := s.rd (F.CH_AGE_DRIFT j) % 256
        (s.rd (F.CH_AGE_AGE_VALID j) = 0 ∨ y = 0 ∨ 128 ≤ y → x = 0) ∧
        (s.rd (F.CH_AGE_AGE_VALID j) ≠ 0 → 0 < y → y < 128 → 0 < x ∧ x ≤ 100 ∧
          (100 - x) * (100 - x) * (400 + y) ≤ 4000000 ∧ 4000000 < (101 - x) * (101 - x) * (400 + y))
    let fits (f : Nat) : Prop := (dHub + 40) * (100 * f) ≤ 1000000
    let seen (k : Nat) : Prop := h.seen.testBit k = true
    (h.fitted = false → Ends (.cartInsert t) s fun s' => s'.hearth = { h with fitted := true, swFrom := t + 50000000 } ∧
      (s.pwr.hubUp = true → OnlyRegs { s with hearth := s'.hearth } t [F.HEARTH_STAT_AUTH] s' ∧
        s'.rd F.HEARTH_STAT_AUTH = 1)) ∧
    (h.fitted = true → Ends (.cartRemove t) s fun s' => s'.hearth.fitted = false ∧ s'.hearth.testAt = none ∧
      s'.rd F.HEARTH_STAT_AUTH = 0 ∧ s'.rd F.HEARTH_STAT_REMOVE_OK = 0 ∧ s'.rd F.PWRMGR_STAT_HOLDUP_READY = 0 ∧
      s'.rd F.PWRMGR_STAT_CHARGING = 0 ∧ s'.rd F.REC_STAT_MOUNTED = 0 ∧ s'.log.buf = s.log.buf ∧ s'.log.flushing = none ∧
      (¬ pf → s'.rd F.PWRMGR_PF_CFG_GRACE_MS = 0)) ∧
    (s.rd F.HEARTH_STAT_AUTH = 1 →
      (c.ok = false → Ends (.cartAuthenticate t c) s fun s' => s'.rd F.HEARTH_STAT_AUTH = 3 ∧
        s'.rd F.REC_STAT_MOUNTED = 0 ∧ s'.log.flushing = none ∧ s'.hearth = h ∧
        ∃ q, q ∈ s'.log.ports.getD [] 0x0F ∧ q.kind = 6 ∧ q.sev = 6 ∧ q.subj = 0) ∧
      (c.ok = true → Ends (.cartAuthenticate t c) s fun s' => s'.rd F.HEARTH_STAT_AUTH = 2 ∧
        s'.rd (F.HEARTH_SERIAL_SERIAL 0) = c.serial % 2 ^ 32 ∧ s'.rd F.REC_STAT_MOUNTED = 1 ∧
        s'.rd F.HEARTH_MEAS_C_MEAS = min c.cMeas 65535 ∧ s'.rd F.HEARTH_MEAS_ESR_MEAS = min c.esr 65535 ∧
        (c.ours = false → s'.log.blocks = [] ∧ s'.log.chainIndex = 0) ∧ (s.rd F.HEARTH_STAT_EOL = 0 →
          s'.rd F.HEARTH_STAT_EOL = if 5479 ≤ c.ageDays ∨ 500000 ≤ c.events ∨ c.cMeas < 2920 ∨ 2000 ≤ c.esr ∨ 90 ≤ c.wear
            then 1 else 0))) ∧
    (cmd 0x40030004 →
      (s.rd F.REC_STAT_MOUNTED ≠ 0 → s.log.flushing = none → s.pwr.seq = none → Ends (.serviceFlush t a) s fun s' =>
        s'.log = { s.log with flushing := some ⟨.service, t + 1⟩ } ∧ s'.regs = s.regs) ∧
      (may → test (.measure t a vBus vHold) false) ∧ (¬ may → volts (.measure t a vBus vHold))) ∧
    (h.firstTest = true → may → test (.testDischargeStart t vBus vHold) false) ∧
    (h.firstTest = false ∨ ¬ may → volts (.testDischargeStart t vBus vHold)) ∧
    (h.testAt = some t0 →
      (t0 + 200000000 ≤ t → Ends (.testDischargeComplete t stepUv fallUv) s fun s' =>
        s'.rd F.HEARTH_MEAS_ESR_MEAS = min 65535 (stepUv / 200) ∧
        s'.rd F.HEARTH_MEAS_C_MEAS = (if fallUv = 0 then 65535 else min 65535 (400000000 / fallUv)) ∧
        s'.rd F.HEARTH_STAT_TESTING = 0 ∧ s'.hearth.testAt = none) ∧
      (t < t0 + 200000000 → Ends (.testDischargeComplete t stepUv fallUv) s fun s' => s' = s.tick t)) ∧
    (cmd 0x40040004 → result → ¬ pf →
      Ends (.replan t a) s (planned (s.rd F.PWRMGR_BUS_V_HOLD))) ∧
    (h.testPlan = false → s.pwr.hubUp = true → ¬ pf → 86400000000000 ≤ acc →
      (may → Ends (.planTimer t vBus vHold) s fun s' => s'.rd F.HEARTH_STAT_TESTING = 1 ∧ s'.hearth.testAt = some t ∧
        s'.hearth.testPlan = true ∧ s'.rd F.MARGIN_STAT_PLANNING = 1) ∧
      (¬ may → result → Ends (.planTimer t vBus vHold) s (planned (min vHold 65535)))) ∧
    (active → s.rd F.PWRMGR_STAT_HOLDUP_READY = 0 →
      (enough h.ePlan vHold → Ends (.holdupRetest t vHold) s fun s' => s'.rd F.PWRMGR_STAT_HOLDUP_READY = 1 ∧
        force s' h.want True) ∧
      (¬ enough h.ePlan vHold → Ends (.holdupRetest t vHold) s fun s' => s'.rd F.PWRMGR_STAT_HOLDUP_READY = 0 ∧
        s'.rd F.PWRMGR_PF_CFG_GRACE_MS = 0)) ∧
    (s.pwr.hubUp = true →
      (12 ≤ f → f ≤ 16 → (fits f ∨ f = 12) → (f = 16 ∨ ¬ fits (f + 1)) →
        Ends (.marginMeasure t dHub dA dB dC (some r) stud2 pNow) s fun s' => s'.rd F.MARGIN_DELAY_D_HUB = min dHub 65535 ∧
          s'.rd F.MARGIN_PWR_P_NOW = min pNow 65535 ∧ s'.hearth.peak = max h.peak pNow ∧
          s'.rd F.MARGIN_PLAN_F_APP =
            (if f < s.rd F.MARGIN_PLAN_F_APP ∨ s.pwr.state = .startup then f else s.rd F.MARGIN_PLAN_F_APP) ∧
          (¬ fits 12 → ¬ seen 0 → noted s' 3 6 0) ∧ s'.rd F.MARGIN_LANE_SLACK_A = min (1667 - dA) 1023 ∧
          s'.rd F.MARGIN_LANE_SLACK_B = min (1667 - dB) 1023 ∧ s'.rd F.MARGIN_LANE_SLACK_C = min (1667 - dC) 1023 ∧
          (1567 < dA → ¬ seen 1 → noted s' 4 5 0 ∧ s'.rd F.MARGIN_LANE_LOW = 1) ∧
          (1567 < dB → ¬ seen 2 → noted s' 4 5 1 ∧ s'.rd F.MARGIN_LANE_LOW = 1) ∧
          (1567 < dC → ¬ seen 3 → noted s' 4 5 2 ∧ s'.rd F.MARGIN_LANE_LOW = 1) ∧
          s'.rd F.MARGIN_STUD_R_STUD1 = min r 32767 ∧ (300 < r → ¬ seen 4 → noted s' 6 4 1) ∧
          (1000 ≤ r → ¬ seen 6 → noted s' 6 5 1 ∧ s'.rd F.MARGIN_STUD_HIGH = 1) ∧
          (n < 48 → s.rd (F.CH_AGE_AGE_VALID n) ≠ 0 → s.rd (F.CH_AGE_DRIFT n) = 127 → ¬ seen (8 + n) → noted s' 5 5 n))) ∧
    (s.rd F.HEARTH_STAT_AUTH = 2 → 7 ∈ s.pwr.stagesDone → Ends (.flashRefresh t wear regions) s fun s' =>
      s'.rd F.HEARTH_FLASH_WEAR = min wear 255 ∧
      s'.rd F.HEARTH_FLASH_REFRESHED = satAdd 16 (s.rd F.HEARTH_FLASH_REFRESHED)
        ((regions.filter fun x => decide (x.1 < 25)).map Prod.snd).sum ∧
      ((regions.map Prod.fst).min? = some m → s'.rd F.HEARTH_FLASH_MARGIN_MIN = min m 255) ∧
      (90 ≤ wear → s'.rd F.HEARTH_STAT_EOL ≠ 0))

/-! ### The event recorder -/

/-- TIER 2. The recorder (R409 to R418, R421): each port that holds a record gives one, and the others count as ties; a record
takes the next sequence number, displaces lower severities or is dropped; a flush starts at the next clock, writes the dirty
records in blocks of their stream and moves the chain on; READ delivers whole records to memory. -/
def Obligations.RecorderCommitsAndFlushes : Prop :=
  ∀ (s : State) (t c sev kind lenW n m : Nat) (a : Attr) (r q : Record) (rest l : List Record) (f : FlushReq) (g : Segment),
    c < 32 → sev < 8 →
    let port (x : State) (j : Nat) : List Record := x.log.ports.getD [] j
    let buf := s.log.buf
    let only : Prop := port s c = r :: rest ∧ ∀ j, j < 32 → j ≠ c → port s j = []
    let mounted := s.rd F.REC_STAT_MOUNTED ≠ 0
    let may : Prop := ∀ p, s.pwr.seq = some p → ∀ b, p.flushBy = some b → t + 1 < b
    let seq := s.rd64 F.REC_SEQ_SEQ
    let taken := { r with seq := seq + 1, stamp := t, dirty := true }
    let starts (c : Instr) (k : FlushCause) : Prop := Ends c s fun s' => s'.log.flushing = some ⟨k, t + 1⟩ ∧
      s'.log.buf = buf ∧ s'.log.blocks = s.log.blocks ∧ s'.regs = s.regs ∧ s'.mem = s.mem
    let early (c : Instr) : Prop := Ends c s fun s' => s' = s.tick t
    let cmd : Prop := a.attic = true ∧ a.inst = 0 ∧ (s.tick t).passes 0x41400008 a true = true
    let len := min 1024 (max 5 lenW)
    let src := s.log.wrAddr.getD 0 (2 * a.inst) + 2 ^ 32 * (s.log.wrAddr.getD 0 (2 * a.inst + 1) % 256)
    let kept := if a.attic = true then kind % 8 else min (kind % 8) (s.rd F.REC_CFG_PARLOUR_MAX)
    let sel := s.allRecords.filter fun r => decide (s.rd64 F.REC_RD_FROM_FROM ≤ r.seq) &&
      decide (s.rd F.REC_RD_FILT_MIN_SEV ≤ r.sev)
    let out := (takeFit sel (s.rd F.REC_RD_LEN_RD_LEN)).1
    let dest := s.rd (F.REC_RD_ADDR_ADDR 0) + 2 ^ 32 * (s.rd (F.REC_RD_ADDR_ADDR 1) % 256)
    let bytes := out.flatMap Record.bytes
    (Ends (.recordCommit t) s fun s' => s'.mem = s.mem ∧ (∀ j, j < 32 → port s' j = (port s j).tail) ∧
      s'.rd F.REC_TIE_CNT_TIES = satAdd 32 (s.rd F.REC_TIE_CNT_TIES)
        (((List.range 32).filter fun j => !(port s j).isEmpty).length - 1)) ∧
    (only → recsSize buf + r.size ≤ 524288 → Ends (.recordCommit t) s fun s' => s'.log.buf = buf ++ [taken] ∧
      s'.rd64 F.REC_SEQ_SEQ = (seq + 1) % 2 ^ 64 ∧ s'.log.pointer = (c + 1) % 32 ∧
      s'.rd F.REC_CNT_DROPPED = s.rd F.REC_CNT_DROPPED ∧
      (mounted → may → s.rd F.REC_CFG_FLUSH_SEV ≤ r.sev → s'.log.flushing.isSome = true)) ∧
    (only → buf = q :: l → q.dirty = true → q.sev ≤ r.sev → q.sev ≠ 7 → r.sev < 8 →
      (∀ x, x ∈ l → x.dirty = true ∧ r.sev < x.sev) → 524288 < recsSize buf + r.size → recsSize l + r.size ≤ 524288 →
      Ends (.recordCommit t) s fun s' => s'.log.buf = l ++ [taken] ∧ s'.log.summary = true ∧
        s'.rd F.REC_CNT_DISPLACED = satAdd 16 (s.rd F.REC_CNT_DISPLACED) 1) ∧
    (only → 524288 < recsSize buf + r.size → (∀ x, x ∈ buf → x.dirty = true ∧ (r.sev < x.sev ∨ x.sev = 7)) →
      Ends (.recordCommit t) s fun s' => s'.log.buf = buf ∧ s'.rd64 F.REC_SEQ_SEQ = seq ∧ s'.log.summary = true ∧
        s'.rd F.REC_CNT_DROPPED = satSucc 16 (s.rd F.REC_CNT_DROPPED)) ∧
    ((s.tick t).passes 0x41400028 a true = true →
      ((s.tick t).passes src a false = true → (s.tick t).passes (src + 4 * len - 17) a false = true →
        Ends (.recCommit t a kind n lenW) s fun s' => s'.regs = s.regs ∧ s'.mem = s.mem ∧
          ∃ x, x.cls = 0x1F ∧ x.sev = kept ∧ x.kind = n % 256 ∧ x.time = (s.tick t).tNow ∧
            x.body = (List.range (4 * len - 16)).map (fun j => (Memory.read s.mem (src + j)).toNat) ∧
            s'.log = { s.log with ports := s.log.ports.put [] 0x1F (portInsert x (port s 0x1F)),
                                  wrResult := s.log.wrResult.put 0 a.inst (if kept < kind % 8 then 9 else 0) }) ∧
      ((s.tick t).passes src a false = false → Ends (.recCommit t a kind n lenW) s fun s' => s'.resp.status = 0x0E ∧
        s'.log.wrResult.getD 0 a.inst = 0x0E ∧ port s' 0x1F = port s 0x1F)) ∧
    (s.pwr.hubUp = true →
      (s.log.lastEnd = some m → m + 60000000000 ≤ t → mounted → s.log.flushing = none → may →
        starts (.flushWindowTimer t) .window) ∧
      (s.log.lastEnd = some m → t < m + 60000000000 → early (.flushWindowTimer t))) ∧
    (s.log.lastEnd = none → early (.flushWindowTimer t)) ∧
    (cmd →
      (mounted → s.log.flushing = none → may → starts (.recFlush t a) .command) ∧
      (mounted → may → s.log.flushing = some f → f.start ≤ t → s.log.pendFlush = none → Ends (.recFlush t a) s fun s' =>
        s'.log = { s.log with pendFlush := some .command }) ∧
      (¬ mounted → Ends (.recFlush t a) s fun s' => s'.log = s.log ∧ s'.regs = s.regs) ∧
      ((s.tick t).reaches dest bytes.length true = true → Ends (.recRead t a) s fun s' => OnlyRegs { s with mem := s'.mem, log := s'.log } t [F.REC_RD_STAT_COUNT] s' ∧
        s'.rd F.REC_RD_STAT_COUNT = out.length % 2 ^ 20 ∧ s'.log = { s.log with readEnd := s'.log.readEnd } ∧
        (out = [] → s'.log.readEnd = s.rd64 F.REC_RD_FROM_FROM) ∧
        (∀ l x, out = l ++ [x] → s'.log.readEnd = x.seq + 1) ∧
        (∀ j, j < bytes.length → Memory.read s'.mem (dest + j) = BitVec.ofNat 8 (bytes.getD j 0)) ∧
        ∀ j, j < dest ∨ dest + bytes.length ≤ j → Memory.read s'.mem j = Memory.read s.mem j) ∧
      ((s.tick t).reaches dest bytes.length true = false → Ends (.recRead t a) s fun s' => s'.mem = s.mem ∧
        s'.rd F.REC_RD_STAT_COUNT = 0 ∧ s'.log.readEnd = s.rd64 F.REC_RD_FROM_FROM)) ∧
    (s.log.flushing = some f →
      (f.start ≤ t → Ends (.flushStart t) s fun s' => OnlyRegs s t [F.REC_STAT_FLUSHING] s' ∧
        s'.rd F.REC_STAT_FLUSHING = 1) ∧
      (t < f.start → early (.flushStart t) ∧ early (.flushComplete t)) ∧
      (f.start ≤ t → s.rd F.REC_STAT_FLUSHING ≠ 0 → s.log.ueSeqs = [] → (∀ j, j < 8 → (s.stream j).reserve.isSome = true) →
        buf.filter (fun r => r.dirty) = [q] → q.stamp < f.start → q.sev < 8 → (s.stream q.sev).opened = some g →
        160 + q.size ≤ 65536 → g.used + (160 + q.size) ≤ 1048576 → Ends (.flushComplete t) s fun s' =>
          (∃ b, s'.log.blocks = s.log.blocks ++ [b] ∧ b.sev = q.sev ∧ b.records = [q] ∧ b.chainIndex = s.log.chainIndex ∧
            b.segment = g.num ∧ b.len % 4096 = 0 ∧ 160 + q.size ≤ b.len ∧ b.hashPrev = (s.stream q.sev).hash ∧
            b.tag = keyedN 11 (s.log.chainKey.getD 0) 32 b.head ∧ (s'.stream q.sev).hash = Config.sha256 (b.head ++ b.tag)) ∧
          (∀ x, x ∈ s'.log.buf → x.dirty = false) ∧ s'.log.buf.length = buf.length ∧ s'.log.lastEnd = some t ∧
          s'.log.chainIndex = s.log.chainIndex + 1 ∧ s'.log.pendFlush = none ∧
          s'.log.chainKey = s.log.chainKey.map (fun k => Config.sha256 (leBytes 32 k)) ∧
          (f.cause ≠ .service → may → s'.log.flushing = s.log.pendFlush.map fun c => ⟨c, t + 1⟩) ∧
          (f.cause = .service → s'.log.flushing = none ∧ s'.rd F.HEARTH_STAT_REMOVE_OK = 1 ∧ s'.rd F.REC_STAT_MOUNTED = 0) ∧
          (f.cause = .sleepFail → s'.rd F.CELLAR_STAT_PF_STEP = 4))) ∧
    ((s.stream sev).erasing = some n → Ends (.segmentEraseComplete t sev) s fun s' =>
      (s'.stream sev).reserve = some n ∧ (s'.stream sev).erasing = none ∧ s'.regs = s.regs ∧
      ∀ j, j ≠ sev → s'.stream j = s.stream j) ∧
    ((s.stream sev).erasing = none → early (.segmentEraseComplete t sev))

/-! ### Setup images and reports -/

/-- TIER 2. STORE, APPLY and reports (R425 to R430, R432): the first check of R425 that an image fails is its RESULT; a STORE that
passes writes the copy not in use; APPLY runs in STOP alone and reloads the lane group from the copy of higher VERSION, a PERIOD out
of its range keeping its reset value with one VITAL_REFUSED report; a read takes the oldest report. -/
def Obligations.SetupImageCommands : Prop :=
  ∀ (s : State) (t v n : Nat) (a : Attr) (m m' : SetupImage) (peek : Bool) (r : SetupReport) (rest : List SetupReport),
    let cmd : Prop := a.attic = true ∧ a.inst = 0 ∧ (s.tick t).passes 0x41500004 a true = true
    let idle := s.rd F.SETUP_STAT_BUSY = 0
    let ends (x : Nat) (s' : State) : Prop := s'.rd F.SETUP_STAT_RESULT = x ∧ s'.rd F.SETUP_STAT_DONE = 1 ∧
      s'.rd F.SETUP_STAT_BUSY = 0 ∧ s'.setup.storing = none ∧ s'.setup.applying = false ∧ s'.mem = s.mem
    let busy (c : Instr) : Prop := Ends c s fun s' => OnlyRegs s t [F.SETUP_STAT_RESULT] s' ∧ s'.rd F.SETUP_STAT_RESULT = 1
    let begins (c : Instr) (st : Option SetupImage) (ap : Bool) : Prop := Ends c s fun s' =>
      s'.setup = { s.setup with storing := st, applying := ap } ∧
      OnlyRegs { s with setup := s'.setup } t [F.SETUP_STAT_BUSY] s' ∧ s'.rd F.SETUP_STAT_BUSY = 1
    let form (x : SetupImage) : Prop := x.mid ≠ 0 ∧ x.records.all SetupRec.wf = true ∧
      noRepeat (x.records.filterMap SetupRec.place) = true
    let level (x : SetupImage) : Prop := x.cl ≤ s.rd F.SYSCTL_ID_CL
    let signed (x : SetupImage) : Prop := ∃ k, k ∈ x.pins ∧ k < 4 ∧ s.efuse.revoked.testBit k = false
    let fresh (x : SetupImage) : Prop := s.rd F.SETUP_STAT_SRC = 0 ∨ s.rd F.SETUP_FLOOR_VERSION_FLOOR ≤ x.version
    let at_ := s.rd F.SETUP_ADDR_LO_ADDR + 2 ^ 32 * s.rd F.SETUP_ADDR_HI_ADDR
    let reads := (s.tick t).reaches at_ (s.rd F.SETUP_LEN_LEN) false
    let kept (x : Nat) (s' : State) : Prop := ends x s' ∧ s'.setup.copyA = s.setup.copyA ∧ s'.setup.copyB = s.setup.copyB
    let begun (x : SetupImage) (s' : State) : Prop := s'.setup = { s.setup with storing := some x, applying := false } ∧
      OnlyRegs { s with setup := s'.setup } t [F.SETUP_STAT_BUSY] s' ∧ s'.rd F.SETUP_STAT_BUSY = 1
    let num (o n : Nat) : Nat := leNum (s.load (at_ + o) n)
    let chosen : Prop := s.setup.copyA = some m ∧ s.imageFault m = 0 ∧ (s.setup.copyB = none ∨
      (s.setup.copyB = some m' ∧ (s.imageFault m' ≠ 0 ∨
        (m'.floor ≤ m.version ∧ m.floor ≤ m'.version ∧ m'.version ≤ m.version))))
    let word := 2 ^ 31 + (if r.refused then 2 else 1) * 2 ^ 29 + (if r.pass2 then 1 else 0) * 2 ^ 28 + r.lsb % 32 * 2 ^ 23 +
      r.index % 65536
    (cmd →
      (idle → s.blocked = true → Ends (.setupStore t a) s (kept 4)) ∧
      (idle → s.blocked = false → reads = false → Ends (.setupStore t a) s (kept 2)) ∧
      (idle → s.blocked = false → reads = true → Ends (.setupStore t a) s fun s' =>
        (num 0 6 ≠ 0x000131544553 → kept 2 s') ∧ (s.rd F.SETUP_LEN_LEN ≠ 64 + num 24 4 + 3405 → kept 2 s') ∧
        (s.setupImageAt = none → kept 2 s') ∧
        ∀ x, s.setupImageAt = some x → x.cl = num 6 1 ∧ x.mid = num 8 2 % 2 ^ 14 ∧ x.version = num 12 4 ∧ x.floor = num 16 4 ∧
          (¬ form x → kept 2 s') ∧ (form x → ¬ level x → kept 3 s') ∧ (form x → level x → ¬ signed x → kept 4 s') ∧
          (form x → level x → signed x → x.hashOk = false → kept 5 s') ∧
          (form x → level x → signed x → x.hashOk = true → ¬ fresh x → kept 6 s') ∧
          (form x → level x → signed x → x.hashOk = true → fresh x → begun x s')) ∧
      (¬ idle → busy (.setupStore t a) ∧ busy (.setupApply t a)) ∧
      (idle → s.cyc.mode = .stop → begins (.setupApply t a) s.setup.storing true) ∧
      (idle → s.cyc.mode ≠ .stop → Ends (.setupApply t a) s (ends 7))) ∧
    (s.setup.storing = some m → Ends (.storeComplete t) s fun s' => ends 0 s' ∧ s'.log = s.log ∧
      (s.rd F.SETUP_STAT_SRC = 1 → s'.setup.copyB = some m ∧ s'.setup.copyA = s.setup.copyA) ∧
      (s.rd F.SETUP_STAT_SRC ≠ 1 → s'.setup.copyA = some m ∧ s'.setup.copyB = s.setup.copyB)) ∧
    (s.setup.storing = none → Ends (.storeComplete t) s fun s' => s' = s.tick t) ∧
    (s.setup.applying = true → s.cyc.mode ≠ .stop → Ends (.setupApplyComplete t) s (ends 7)) ∧
    (s.setup.applying = true → s.cyc.mode = .stop →
      (s.setup.copyA = none → s.setup.copyB = none → Ends (.setupApplyComplete t) s (ends 2)) ∧
      (chosen → m.records = [] → Ends (.setupApplyComplete t) s fun s' => ends 0 s' ∧
        s'.rd F.LANEIF_CFG_PERIOD = F.LANEIF_CFG_PERIOD.reset ∧ s'.log = s.log ∧ s'.rd F.SETUP_STAT_VITAL_REFUSED = 0 ∧
        (n < 48 → s'.rd (F.CH_PROFILE_CH_MODE n) = 0 ∧ s'.rd (F.CH_PROFILE_SAFE_ON n) = 0 ∧
          s'.rd (F.CH_FUSE_I_THR n 0) = s.rd (F.CH_FUSE_I_THR n 0))) ∧
      (chosen → m.records = [.field 12 10 0x200008 v] →
        (20 ≤ v → v ≤ 1000 → Ends (.setupApplyComplete t) s fun s' => ends 0 s' ∧ s'.rd F.LANEIF_CFG_PERIOD = v ∧
          s'.log = s.log) ∧
        ((v < 20 ∨ 1000 < v) → s.setup.reports.length < 256 → Ends (.setupApplyComplete t) s fun s' => ends 0 s' ∧
          s'.rd F.LANEIF_CFG_PERIOD = F.LANEIF_CFG_PERIOD.reset ∧ s'.rd F.SETUP_STAT_VITAL_REFUSED = 1 ∧
          s'.setup.reports = s.setup.reports ++ [⟨true, false, 12, 0, 0x200008, v, F.LANEIF_CFG_PERIOD.reset⟩] ∧
          WroteOne s s' 0x11 1 6 0 0))) ∧
    ((s.tick t).passes (if peek then 0x41508020 else 0x41500020) a false = true →
      (s.setup.reports = [] → Ends (.reportRead t a peek) s fun s' => s'.resp = ⟨0, 0⟩ ∧ OnlyRegs s t [] s') ∧
      (s.setup.reports = r :: rest → (s.tick t).settled 0x41500020 (rest.length + 1) ≠ 0 → Ends (.reportRead t a peek) s fun s' => s'.resp = ⟨0, word⟩ ∧ s'.mem = s.mem ∧
        (peek = true → OnlyRegs s t [] s') ∧
        (peek = false → s'.setup.reports = rest ∧ s'.rd F.SETUP_REPORT_ADDR_ADDR = r.addr % 2 ^ 28 ∧
          s'.rd F.SETUP_REPORT_REQ_VALUE = r.req % 2 ^ 32 ∧ s'.rd F.SETUP_REPORT_LOADED_VALUE = r.loaded % 2 ^ 32)))
end

