-- ==== Sys2Proof/Laws/Arms.lean ====
section
/-! SUPPORT. The arms of `exec`, one rewriting lemma for each command. -/

namespace Sys2Proof.Machine

theorem arm_registerWrite (t : Nat) (a : Attr) (core : Option Nat) (addr size : Nat) (value : Word) (s : State) : exec (.registerWrite t a core addr size value) s = execRegisterWrite t a core addr size value s := rfl
theorem arm_inputBusFall14v (t : Nat) (s : State) : exec (.inputBusFall14v t) s = execInputBusFall14v t s := rfl
theorem arm_inputBusRise14v (t : Nat) (vBus : Nat) (s : State) : exec (.inputBusRise14v t vBus) s = execInputBusRise14v t vBus s := rfl
theorem arm_powerFailDeclared (t : Nat) (s : State) : exec (.powerFailDeclared t) s = execPowerFailDeclared t s := rfl
theorem arm_pfStepComplete (t : Nat) (step : Nat) (s : State) : exec (.pfStepComplete t step) s = execPfStepComplete t step s := rfl
theorem arm_pfStepBoundExpiry (t : Nat) (step : Nat) (s : State) : exec (.pfStepBoundExpiry t step) s = execPfStepBoundExpiry t step s := rfl
theorem arm_pfGraceExpiry (t : Nat) (s : State) : exec (.pfGraceExpiry t) s = execPfGraceExpiry t s := rfl
theorem arm_pfDone (t : Nat) (a : Attr) (value : Word) (s : State) : exec (.pfDone t a value) s = execPfDone t a value s := rfl
theorem arm_holdupCut (t : Nat) (s : State) : exec (.holdupCut t) s = execHoldupCut t s := rfl
theorem arm_busLowChange (t : Nat) (vBus : Nat) (s : State) : exec (.busLowChange t vBus) s = execBusLowChange t vBus s := rfl
theorem arm_busBelow9v (t : Nat) (s : State) : exec (.busBelow9v t) s = execBusBelow9v t s := rfl
theorem arm_undervoltDetect (t : Nat) (vBus : Nat) (s : State) : exec (.undervoltDetect t vBus) s = execUndervoltDetect t vBus s := rfl
theorem arm_overvoltDetect (t : Nat) (vBus : Nat) (s : State) : exec (.overvoltDetect t vBus) s = execOvervoltDetect t vBus s := rfl
theorem arm_feedCurrentWindow (t : Nat) (feed : Nat) (mean : Nat) (v : Int) (active : Bool) (s : State) : exec (.feedCurrentWindow t feed mean v active) s = execFeedCurrentWindow t feed mean v active s := rfl
theorem arm_cellarFloor (t : Nat) (s : State) : exec (.cellarFloor t) s = execCellarFloor t s := rfl
theorem arm_startQualified (t : Nat) (vBus : Nat) (s : State) : exec (.startQualified t vBus) s = execStartQualified t vBus s := rfl
theorem arm_startupStageComplete (t : Nat) (e : StageEnd) (s : State) : exec (.startupStageComplete t e) s = execStartupStageComplete t e s := rfl
theorem arm_holdupWaitTimeout (t : Nat) (s : State) : exec (.holdupWaitTimeout t) s = execHoldupWaitTimeout t s := rfl
theorem arm_haltedTimeout (t : Nat) (s : State) : exec (.haltedTimeout t) s = execHaltedTimeout t s := rfl
theorem arm_scrubPass (t : Nat) (corr : Nat) (recSeqs : List Nat) (lanes : List LaneId) (restoreUe tokenUe : Bool) (s : State) : exec (.scrubPass t corr recSeqs lanes restoreUe tokenUe) s = execScrubPass t corr recSeqs lanes restoreUe tokenUe s := rfl
theorem arm_dramSupplyFail (t : Nat) (s : State) : exec (.dramSupplyFail t) s = execDramSupplyFail t s := rfl
theorem arm_clockOn (t : Nat) (a : Attr) (gate : Nat) (s : State) : exec (.clockOn t a gate) s = execClockOn t a gate s := rfl
theorem arm_clockOff (t : Nat) (a : Attr) (gate : Nat) (idle : Bool) (s : State) : exec (.clockOff t a gate idle) s = execClockOff t a gate idle s := rfl
theorem arm_powerOn (t : Nat) (a : Attr) (gate : Nat) (s : State) : exec (.powerOn t a gate) s = execPowerOn t a gate s := rfl
theorem arm_powerOff (t : Nat) (a : Attr) (gate : Nat) (idle : Bool) (s : State) : exec (.powerOff t a gate idle) s = execPowerOff t a gate idle s := rfl
theorem arm_curveApply (t : Nat) (a : Attr) (n : Nat) (s : State) : exec (.curveApply t a n) s = execCurveApply t a n s := rfl
theorem arm_faultClr (t : Nat) (a : Attr) (n : Nat) (s : State) : exec (.faultClr t a n) s = execFaultClr t a n s := rfl
theorem arm_hubCmdWrite (t : Nat) (a : Attr) (n : Nat) (on : Bool) (s : State) : exec (.hubCmdWrite t a n on) s = execHubCmdWrite t a n on s := rfl
theorem arm_chConfigWrite (t : Nat) (a : Attr) (n : Nat) (pwm : Bool) (value : Word) (s : State) : exec (.chConfigWrite t a n pwm value) s = execChConfigWrite t a n pwm value s := rfl
theorem arm_chProfileWrite (t : Nat) (a : Attr) (n : Nat) (value : Word) (s : State) : exec (.chProfileWrite t a n value) s = execChProfileWrite t a n value s := rfl
theorem arm_chFuseWrite (t : Nat) (a : Attr) (n k : Nat) (value : Word) (s : State) : exec (.chFuseWrite t a n k value) s = execChFuseWrite t a n k value s := rfl
theorem arm_budgetWrite (t : Nat) (a : Attr) (value : Word) (s : State) : exec (.budgetWrite t a value) s = execBudgetWrite t a value s := rfl
theorem arm_faultNextRead (t : Nat) (a : Attr) (peek : Bool) (s : State) : exec (.faultNextRead t a peek) s = execFaultNextRead t a peek s := rfl
theorem arm_commandOn (t : Nat) (n vOut vBus : Nat) (s : State) : exec (.commandOn t n vOut vBus) s = execCommandOn t n vOut vBus s := rfl
theorem arm_commandOff (t : Nat) (n : Nat) (s : State) : exec (.commandOff t n) s = execCommandOff t n s := rfl
theorem arm_budgetTick (t : Nat) (s : State) : exec (.budgetTick t) s = execBudgetTick t s := rfl
theorem arm_rampWindowClose (t : Nat) (n : Nat) (s : State) : exec (.rampWindowClose t n) s = execRampWindowClose t n s := rfl
theorem arm_inrushWindowClose (t : Nat) (n : Nat) (s : State) : exec (.inrushWindowClose t n) s = execInrushWindowClose t n s := rfl
theorem arm_startWaitExpiry (t : Nat) (n : Nat) (s : State) : exec (.startWaitExpiry t n) s = execStartWaitExpiry t n s := rfl
theorem arm_wakeSlotEnd (t : Nat) (s : State) : exec (.wakeSlotEnd t) s = execWakeSlotEnd t s := rfl
theorem arm_shortCircuitCut (t : Nat) (n : Nat) (i10mA : Int) (s : State) : exec (.shortCircuitCut t n i10mA) s = execShortCircuitCut t n i10mA s := rfl
theorem arm_fuseEvalTick (t : Nat) (n : Nat) (i10mA fast : Int) (s : State) : exec (.fuseEvalTick t n i10mA fast) s = execFuseEvalTick t n i10mA fast s := rfl
theorem arm_overTempDetected (t : Nat) (n : Nat) (tj : Int) (s : State) : exec (.overTempDetected t n tj) s = execOverTempDetected t n tj s := rfl
theorem arm_revCurrentDetected (t : Nat) (n : Nat) (i10mA : Int) (s : State) : exec (.revCurrentDetected t n i10mA) s = execRevCurrentDetected t n i10mA s := rfl
theorem arm_openLoadDetected (t : Nat) (n : Nat) (i10mA : Int) (s : State) : exec (.openLoadDetected t n i10mA) s = execOpenLoadDetected t n i10mA s := rfl
theorem arm_retryDelayExpiry (t : Nat) (n : Nat) (tj : Int) (vOut vBus : Nat) (s : State) : exec (.retryDelayExpiry t n tj vOut vBus) s = execRetryDelayExpiry t n tj vOut vBus s := rfl
theorem arm_retryCountReset (t : Nat) (n : Nat) (s : State) : exec (.retryCountReset t n) s = execRetryCountReset t n s := rfl
theorem arm_offdiagCycle (t : Nat) (n : Nat) (vUp vDown bus : Nat) (s : State) : exec (.offdiagCycle t n vUp vDown bus) s = execOffdiagCycle t n vUp vDown bus s := rfl
theorem arm_regulatorStep (t : Nat) (n : Nat) (s : State) : exec (.regulatorStep t n) s = execRegulatorStep t n s := rfl
theorem arm_ageMeasure (t : Nat) (n : Nat) (rds : Nat) (s : State) : exec (.ageMeasure t n rds) s = execAgeMeasure t n rds s := rfl
theorem arm_aggWindow (t : Nat) (mean last : Nat) (s : State) : exec (.aggWindow t mean last) s = execAggWindow t mean last s := rfl
theorem arm_laneBoundary (t : Nat) (l : LaneId) (heard : List (LaneId × Nat)) (img : Sensed) (s : State) : exec (.laneBoundary t l heard img) s = execLaneBoundary t l heard img s := rfl
theorem arm_boundaryMarkerRx (t : Nat) (l : LaneId) (cyc : Nat) (s : State) : exec (.boundaryMarkerRx t l cyc) s = execBoundaryMarkerRx t l cyc s := rfl
theorem arm_laneFrameRx (t : Nat) (rx tx : LaneId) (kind : FrameKind) (cyc : Nat) (crcOk : Bool) (s : State) : exec (.laneFrameRx t rx tx kind cyc crcOk) s = execLaneFrameRx t rx tx kind cyc crcOk s := rfl
theorem arm_agreementPhase (t : Nat) (l : LaneId) (s : State) : exec (.agreementPhase t l) s = execAgreementPhase t l s := rfl
theorem arm_executePhase (t : Nat) (l : LaneId) (work : List TaskRun) (s : State) : exec (.executePhase t l work) s = execExecutePhase t l work s := rfl
theorem arm_executeComplete (t : Nat) (l : LaneId) (next : List TaskRun) (s : State) : exec (.executeComplete t l next) s = execExecuteComplete t l next s := rfl
theorem arm_outputDeadline (t : Nat) (l : LaneId) (s : State) : exec (.outputDeadline t l) s = execOutputDeadline t l s := rfl
theorem arm_outputCompare (t : Nat) (readback : List LaneId) (s : State) : exec (.outputCompare t readback) s = execOutputCompare t readback s := rfl
theorem arm_commandUpdate (t : Nat) (l : LaneId) (s : State) : exec (.commandUpdate t l) s = execCommandUpdate t l s := rfl
theorem arm_finalCopyRx (t : Nat) (l : LaneId) (diff : List (Nat × Nat)) (s : State) : exec (.finalCopyRx t l diff) s = execFinalCopyRx t l diff s := rfl
theorem arm_reintRelease (t : Nat) (l : LaneId) (s : State) : exec (.reintRelease t l) s = execReintRelease t l s := rfl
theorem arm_thresholdLineChange (t : Nat) (l : LaneId) (line : LineKind) (s : State) : exec (.thresholdLineChange t l line) s = execThresholdLineChange t l line s := rfl
theorem arm_exclusionLineAsserted (t : Nat) (src dst : LaneId) (s : State) : exec (.exclusionLineAsserted t src dst) s = execExclusionLineAsserted t src dst s := rfl
theorem arm_jointRelease (t : Nat) (l : LaneId) (s : State) : exec (.jointRelease t l) s = execJointRelease t l s := rfl
theorem arm_laneOkLost (t : Nat) (l : LaneId) (tile : Nat) (s : State) : exec (.laneOkLost t l tile) s = execLaneOkLost t l tile s := rfl
theorem arm_laneFault (t : Nat) (l : LaneId) (f : SelfFault) (s : State) : exec (.laneFault t l f) s = execLaneFault t l f s := rfl
theorem arm_adcRefCheck (t : Nat) (l : LaneId) (inTol : Bool) (s : State) : exec (.adcRefCheck t l inTol) s = execAdcRefCheck t l inTol s := rfl
theorem arm_bistComplete (t : Nat) (l : LaneId) (pass : Bool) (s : State) : exec (.bistComplete t l pass) s = execBistComplete t l pass s := rfl
theorem arm_bistRetryTimer (t : Nat) (l : LaneId) (s : State) : exec (.bistRetryTimer t l) s = execBistRetryTimer t l s := rfl
theorem arm_programLoadComplete (t : Nat) (p : Program) (pins : List Nat) (hashA hashB hashC : Nat) (s : State) : exec (.programLoadComplete t p pins hashA hashB hashC) s = execProgramLoadComplete t p pins hashA hashB hashC s := rfl
theorem arm_cycRun (t : Nat) (a : Attr) (s : State) : exec (.cycRun t a) s = execCycRun t a s := rfl
theorem arm_cycRunCold (t : Nat) (a : Attr) (s : State) : exec (.cycRunCold t a) s = execCycRunCold t a s := rfl
theorem arm_cycStop (t : Nat) (a : Attr) (s : State) : exec (.cycStop t a) s = execCycStop t a s := rfl
theorem arm_cycHold (t : Nat) (a : Attr) (s : State) : exec (.cycHold t a) s = execCycHold t a s := rfl
theorem arm_cycStep (t : Nat) (a : Attr) (s : State) : exec (.cycStep t a) s = execCycStep t a s := rfl
theorem arm_cycResume (t : Nat) (a : Attr) (s : State) : exec (.cycResume t a) s = execCycResume t a s := rfl
theorem arm_ocArm (t : Nat) (a : Attr) (s : State) : exec (.ocArm t a) s = execOcArm t a s := rfl
theorem arm_ocCancel (t : Nat) (a : Attr) (s : State) : exec (.ocCancel t a) s = execOcCancel t a s := rfl
theorem arm_tokenLoad (t : Nat) (a : Attr) (s : State) : exec (.tokenLoad t a) s = execTokenLoad t a s := rfl
theorem arm_tokenRevoke (t : Nat) (a : Attr) (s : State) : exec (.tokenRevoke t a) s = execTokenRevoke t a s := rfl
theorem arm_forceCommit (t : Nat) (a : Attr) (s : State) : exec (.forceCommit t a) s = execForceCommit t a s := rfl
theorem arm_tokenExpiry (t : Nat) (s : State) : exec (.tokenExpiry t) s = execTokenExpiry t s := rfl
theorem arm_restartComplete (t : Nat) (s : State) : exec (.restartComplete t) s = execRestartComplete t s := rfl
theorem arm_ocRepRead (t : Nat) (a : Attr) (peek : Bool) (s : State) : exec (.ocRepRead t a peek) s = execOcRepRead t a peek s := rfl
theorem arm_pairTransfer (t : Nat) (a : Attr) (s : State) : exec (.pairTransfer t a) s = execPairTransfer t a s := rfl
theorem arm_pairResync (t : Nat) (a : Attr) (s : State) : exec (.pairResync t a) s = execPairResync t a s := rfl
theorem arm_pairImgRx (t : Nat) (crcOk : Bool) (cyc : Nat) (img : Agreed0) (boundaryT : Nat) (s : State) : exec (.pairImgRx t crcOk cyc img boundaryT) s = execPairImgRx t crcOk cyc img boundaryT s := rfl
theorem arm_pairOutRx (t : Nat) (crcOk : Bool) (cyc : Nat) (out : Output0) (s : State) : exec (.pairOutRx t crcOk cyc out) s = execPairOutRx t crcOk cyc out s := rfl
theorem arm_pairStatRx (t : Nat) (crcOk : Bool) (cyc : Nat) (pst vote : Nat) (hash digest : Nat) (inStep : Bool) (s : State) : exec (.pairStatRx t crcOk cyc pst vote hash digest inStep) s = execPairStatRx t crcOk cyc pst vote hash digest inStep s := rfl
theorem arm_pairXferRx (t : Nat) (crcOk : Bool) (cyc : Nat) (ack : Option (Option Nat)) (s : State) : exec (.pairXferRx t crcOk cyc ack) s = execPairXferRx t crcOk cyc ack s := rfl
theorem arm_pairCopyRx (t : Nat) (crcOk : Bool) (cyc : Nat) (last : PairCopy) (s : State) : exec (.pairCopyRx t crcOk cyc last) s = execPairCopyRx t crcOk cyc last s := rfl
theorem arm_authHeldGranted (t : Nat) (vmV : Nat) (cur : Int) (s : State) : exec (.authHeldGranted t vmV cur) s = execAuthHeldGranted t vmV cur s := rfl
theorem arm_authHeldLost (t : Nat) (vmV : Nat) (cur : Int) (s : State) : exec (.authHeldLost t vmV cur) s = execAuthHeldLost t vmV cur s := rfl
theorem arm_loopFault (t : Nat) (vmV : Nat) (cur : Int) (s : State) : exec (.loopFault t vmV cur) s = execLoopFault t vmV cur s := rfl
theorem arm_claimQuietExpiry (t : Nat) (s : State) : exec (.claimQuietExpiry t) s = execClaimQuietExpiry t s := rfl
theorem arm_claimConflict (t : Nat) (s : State) : exec (.claimConflict t) s = execClaimConflict t s := rfl
theorem arm_backoffExpiry (t : Nat) (s : State) : exec (.backoffExpiry t) s = execBackoffExpiry t s := rfl
theorem arm_partnerWaitExpiry (t : Nat) (s : State) : exec (.partnerWaitExpiry t) s = execPartnerWaitExpiry t s := rfl
theorem arm_resyncTimer (t : Nat) (s : State) : exec (.resyncTimer t) s = execResyncTimer t s := rfl
theorem arm_noHolderTimeout (t : Nat) (s : State) : exec (.noHolderTimeout t) s = execNoHolderTimeout t s := rfl
theorem arm_revertHoldExpiry (t : Nat) (s : State) : exec (.revertHoldExpiry t) s = execRevertHoldExpiry t s := rfl
theorem arm_pinSample (t u : Nat) (mv value : Int) (s : State) : exec (.pinSample t u mv value) s = execPinSample t u mv value s := rfl
theorem arm_freqGateClose (t u edges cycles span : Nat) (s : State) : exec (.freqGateClose t u edges cycles span) s = execFreqGateClose t u edges cycles span s := rfl
theorem arm_supplyLimitTrip (t k : Nat) (s : State) : exec (.supplyLimitTrip t k) s = execSupplyLimitTrip t k s := rfl
theorem arm_supplyRetry (t k : Nat) (s : State) : exec (.supplyRetry t k) s = execSupplyRetry t k s := rfl
theorem arm_pollSend (t seg : Nat) (s : State) : exec (.pollSend t seg) s = execPollSend t seg s := rfl
theorem arm_respRx (t seg : Nat) (r : StnResp) (s : State) : exec (.respRx t seg r) s = execRespRx t seg r s := rfl
theorem arm_respWindowClose (t seg stn : Nat) (s : State) : exec (.respWindowClose t seg stn) s = execRespWindowClose t seg stn s := rfl
theorem arm_stnRelease (t : Nat) (a : Attr) (seg stn : Nat) (s : State) : exec (.stnRelease t a seg stn) s = execStnRelease t a seg stn s := rfl
theorem arm_stnIrqRead (t : Nat) (a : Attr) (seg stn : Nat) (peek : Bool) (s : State) : exec (.stnIrqRead t a seg stn peek) s = execStnIrqRead t a seg stn peek s := rfl
theorem arm_segDisable (t : Nat) (a : Attr) (seg : Nat) (s : State) : exec (.segDisable t a seg) s = execSegDisable t a seg s := rfl
theorem arm_windowRead (t : Nat) (a : Attr) (port addr size : Nat) (s : State) : exec (.windowRead t a port addr size) s = execWindowRead t a port addr size s := rfl
theorem arm_windowWrite (t : Nat) (a : Attr) (addr size value : Nat) (s : State) : exec (.windowWrite t a addr size value) s = execWindowWrite t a addr size value s := rfl
theorem arm_slotOrphanTimeout (t k : Nat) (s : State) : exec (.slotOrphanTimeout t k) s = execSlotOrphanTimeout t k s := rfl
theorem arm_pweRead (t : Nat) (a : Attr) (peek : Bool) (s : State) : exec (.pweRead t a peek) s = execPweRead t a peek s := rfl
theorem arm_orphRead (t : Nat) (a : Attr) (peek : Bool) (s : State) : exec (.orphRead t a peek) s = execOrphRead t a peek s := rfl
theorem arm_stairFence (t inst : Nat) (s : State) : exec (.stairFence t inst) s = execStairFence t inst s := rfl
theorem arm_dAdd (e rd ra rb : Nat) (s : State) : exec (.dAdd e rd ra rb) s = execDAdd e rd ra rb s := rfl
theorem arm_dSub (e rd ra rb : Nat) (s : State) : exec (.dSub e rd ra rb) s = execDSub e rd ra rb s := rfl
theorem arm_dAnd (e rd ra rb : Nat) (s : State) : exec (.dAnd e rd ra rb) s = execDAnd e rd ra rb s := rfl
theorem arm_dOr (e rd ra rb : Nat) (s : State) : exec (.dOr e rd ra rb) s = execDOr e rd ra rb s := rfl
theorem arm_dXor (e rd ra rb : Nat) (s : State) : exec (.dXor e rd ra rb) s = execDXor e rd ra rb s := rfl
theorem arm_dShl (e rd ra rb : Nat) (s : State) : exec (.dShl e rd ra rb) s = execDShl e rd ra rb s := rfl
theorem arm_dShr (e rd ra rb : Nat) (s : State) : exec (.dShr e rd ra rb) s = execDShr e rd ra rb s := rfl
theorem arm_dSra (e rd ra rb : Nat) (s : State) : exec (.dSra e rd ra rb) s = execDSra e rd ra rb s := rfl
theorem arm_dSlt (e rd ra rb : Nat) (s : State) : exec (.dSlt e rd ra rb) s = execDSlt e rd ra rb s := rfl
theorem arm_dSltu (e rd ra rb : Nat) (s : State) : exec (.dSltu e rd ra rb) s = execDSltu e rd ra rb s := rfl
theorem arm_dMul (e rd ra rb : Nat) (s : State) : exec (.dMul e rd ra rb) s = execDMul e rd ra rb s := rfl
theorem arm_dMin (e rd ra rb : Nat) (s : State) : exec (.dMin e rd ra rb) s = execDMin e rd ra rb s := rfl
theorem arm_dMax (e rd ra rb : Nat) (s : State) : exec (.dMax e rd ra rb) s = execDMax e rd ra rb s := rfl
theorem arm_dAdds (e rd ra rb : Nat) (s : State) : exec (.dAdds e rd ra rb) s = execDAdds e rd ra rb s := rfl
theorem arm_dSubs (e rd ra rb : Nat) (s : State) : exec (.dSubs e rd ra rb) s = execDSubs e rd ra rb s := rfl
theorem arm_dAddi (e rd ra imm : Nat) (s : State) : exec (.dAddi e rd ra imm) s = execDAddi e rd ra imm s := rfl
theorem arm_dAndi (e rd ra imm : Nat) (s : State) : exec (.dAndi e rd ra imm) s = execDAndi e rd ra imm s := rfl
theorem arm_dOri (e rd ra imm : Nat) (s : State) : exec (.dOri e rd ra imm) s = execDOri e rd ra imm s := rfl
theorem arm_dXori (e rd ra imm : Nat) (s : State) : exec (.dXori e rd ra imm) s = execDXori e rd ra imm s := rfl
theorem arm_dShli (e rd ra imm : Nat) (s : State) : exec (.dShli e rd ra imm) s = execDShli e rd ra imm s := rfl
theorem arm_dShri (e rd ra imm : Nat) (s : State) : exec (.dShri e rd ra imm) s = execDShri e rd ra imm s := rfl
theorem arm_dSrai (e rd ra imm : Nat) (s : State) : exec (.dSrai e rd ra imm) s = execDSrai e rd ra imm s := rfl
theorem arm_dSlti (e rd ra imm : Nat) (s : State) : exec (.dSlti e rd ra imm) s = execDSlti e rd ra imm s := rfl
theorem arm_dLui (e rd imm : Nat) (s : State) : exec (.dLui e rd imm) s = execDLui e rd imm s := rfl
theorem arm_dLdw (e rd ra imm : Nat) (s : State) : exec (.dLdw e rd ra imm) s = execDLdw e rd ra imm s := rfl
theorem arm_dLdh (e rd ra imm : Nat) (s : State) : exec (.dLdh e rd ra imm) s = execDLdh e rd ra imm s := rfl
theorem arm_dLdhu (e rd ra imm : Nat) (s : State) : exec (.dLdhu e rd ra imm) s = execDLdhu e rd ra imm s := rfl
theorem arm_dLdb (e rd ra imm : Nat) (s : State) : exec (.dLdb e rd ra imm) s = execDLdb e rd ra imm s := rfl
theorem arm_dLdbu (e rd ra imm : Nat) (s : State) : exec (.dLdbu e rd ra imm) s = execDLdbu e rd ra imm s := rfl
theorem arm_dStw (e rs ra imm : Nat) (s : State) : exec (.dStw e rs ra imm) s = execDStw e rs ra imm s := rfl
theorem arm_dSth (e rs ra imm : Nat) (s : State) : exec (.dSth e rs ra imm) s = execDSth e rs ra imm s := rfl
theorem arm_dStb (e rs ra imm : Nat) (s : State) : exec (.dStb e rs ra imm) s = execDStb e rs ra imm s := rfl
theorem arm_dCstw (e rs ra imm : Nat) (s : State) : exec (.dCstw e rs ra imm) s = execDCstw e rs ra imm s := rfl
theorem arm_dMulq (e rd ra rb sh : Nat) (s : State) : exec (.dMulq e rd ra rb sh) s = execDMulq e rd ra rb sh s := rfl
theorem arm_dSatq (e rd ra : Nat) (u : Bool) (n : Nat) (s : State) : exec (.dSatq e rd ra u n) s = execDSatq e rd ra u n s := rfl
theorem arm_dExt (e rd ra pos len : Nat) (sx w : Bool) (s : State) : exec (.dExt e rd ra pos len sx w) s = execDExt e rd ra pos len sx w s := rfl
theorem arm_dIns (e rd ra pos len : Nat) (w : Bool) (s : State) : exec (.dIns e rd ra pos len w) s = execDIns e rd ra pos len w s := rfl
theorem arm_dBeq (e ra rb off : Nat) (s : State) : exec (.dBeq e ra rb off) s = execDBeq e ra rb off s := rfl
theorem arm_dBne (e ra rb off : Nat) (s : State) : exec (.dBne e ra rb off) s = execDBne e ra rb off s := rfl
theorem arm_dBlt (e ra rb off : Nat) (s : State) : exec (.dBlt e ra rb off) s = execDBlt e ra rb off s := rfl
theorem arm_dBge (e ra rb off : Nat) (s : State) : exec (.dBge e ra rb off) s = execDBge e ra rb off s := rfl
theorem arm_dBltu (e ra rb off : Nat) (s : State) : exec (.dBltu e ra rb off) s = execDBltu e ra rb off s := rfl
theorem arm_dBgeu (e ra rb off : Nat) (s : State) : exec (.dBgeu e ra rb off) s = execDBgeu e ra rb off s := rfl
theorem arm_dJal (e rd off : Nat) (s : State) : exec (.dJal e rd off) s = execDJal e rd off s := rfl
theorem arm_dJalr (e rd ra imm : Nat) (s : State) : exec (.dJalr e rd ra imm) s = execDJalr e rd ra imm s := rfl
theorem arm_dPop (e rd rs q : Nat) (s : State) : exec (.dPop e rd rs q) s = execDPop e rd rs q s := rfl
theorem arm_dPush (e rd rs q : Nat) (s : State) : exec (.dPush e rd rs q) s = execDPush e rd rs q s := rfl
theorem arm_dPeekq (e rd rs q : Nat) (s : State) : exec (.dPeekq e rd rs q) s = execDPeekq e rd rs q s := rfl
theorem arm_dWait (e rd ra : Nat) (s : State) : exec (.dWait e rd ra) s = execDWait e rd ra s := rfl
theorem arm_waitWake (t e : Nat) (s : State) : exec (.waitWake t e) s = execWaitWake t e s := rfl
theorem arm_dTset (e ra mode k : Nat) (s : State) : exec (.dTset e ra mode k) s = execDTset e ra mode k s := rfl
theorem arm_dTclr (e k : Nat) (s : State) : exec (.dTclr e k) s = execDTclr e k s := rfl
theorem arm_dMovs (e rd sel : Nat) (s : State) : exec (.dMovs e rd sel) s = execDMovs e rd sel s := rfl
theorem arm_dSets (e ra sel : Nat) (s : State) : exec (.dSets e ra sel) s = execDSets e ra sel s := rfl
theorem arm_engineTimerFire (t e k : Nat) (s : State) : exec (.engineTimerFire t e k) s = execEngineTimerFire t e k s := rfl
theorem arm_burstLimitExpiry (t e : Nat) (s : State) : exec (.burstLimitExpiry t e) s = execBurstLimitExpiry t e s := rfl
theorem arm_doorbell (t : Nat) (a : Attr) (e ring : Nat) (s : State) : exec (.doorbell t a e ring) s = execDoorbell t a e ring s := rfl
theorem arm_dveStart (t : Nat) (a : Attr) (e : Nat) (s : State) : exec (.dveStart t a e) s = execDveStart t a e s := rfl
theorem arm_dveStop (t : Nat) (a : Attr) (e : Nat) (s : State) : exec (.dveStop t a e) s = execDveStop t a e s := rfl
theorem arm_dveLoad (t : Nat) (a : Attr) (e : Nat) (s : State) : exec (.dveLoad t a e) s = execDveLoad t a e s := rfl
theorem arm_loadComplete (t e : Nat) (s : State) : exec (.loadComplete t e) s = execLoadComplete t e s := rfl
theorem arm_qmapWrite (t : Nat) (a : Attr) (e q : Nat) (value : Word) (s : State) : exec (.qmapWrite t a e q value) s = execQmapWrite t a e q value s := rfl
theorem arm_instAllowWrite (t : Nat) (a : Attr) (e : Nat) (hi : Bool) (value : Word) (s : State) : exec (.instAllowWrite t a e hi value) s = execInstAllowWrite t a e hi value s := rfl
theorem arm_dmemWrite (t : Nat) (a : Attr) (e off : Nat) (value : Word) (s : State) : exec (.dmemWrite t a e off value) s = execDmemWrite t a e off value s := rfl
theorem arm_engineFenceArrive (t e inst : Nat) (s : State) : exec (.engineFenceArrive t e inst) s = execEngineFenceArrive t e inst s := rfl
theorem arm_classifyFrame (t : Nat) (s : State) : exec (.classifyFrame t) s = execClassifyFrame t s := rfl
theorem arm_keyWrite (t : Nat) (a : Attr) (k w : Nat) (value : Word) (s : State) : exec (.keyWrite t a k w value) s = execKeyWrite t a k w value s := rfl
theorem arm_routeTableWrite (t : Nat) (a : Attr) (desc : Bool) (k w : Nat) (value : Word) (s : State) : exec (.routeTableWrite t a desc k w value) s = execRouteTableWrite t a desc k w value s := rfl
theorem arm_gwSeal (t : Nat) (a : Attr) (s : State) : exec (.gwSeal t a) s = execGwSeal t a s := rfl
theorem arm_gwSealComplete (t : Nat) (s : State) : exec (.gwSealComplete t) s = execGwSealComplete t s := rfl
theorem arm_classifierFence (t inst : Nat) (s : State) : exec (.classifierFence t inst) s = execClassifierFence t inst s := rfl
theorem arm_frameRx (t port : Nat) (f : EthFrame) (s : State) : exec (.frameRx t port f) s = execFrameRx t port f s := rfl
theorem arm_egressDequeue (t port : Nat) (s : State) : exec (.egressDequeue t port) s = execEgressDequeue t port s := rfl
theorem arm_gateEntryChange (t port : Nat) (s : State) : exec (.gateEntryChange t port) s = execGateEntryChange t port s := rfl
theorem arm_gclChange (t : Nat) (a : Attr) (port : Nat) (value : Word) (s : State) : exec (.gclChange t a port value) s = execGclChange t a port value s := rfl
theorem arm_gclChangeInstant (t port : Nat) (s : State) : exec (.gclChangeInstant t port) s = execGclChangeInstant t port s := rfl
theorem arm_linkLost (t port : Nat) (s : State) : exec (.linkLost t port) s = execLinkLost t port s := rfl
theorem arm_linkUp (t port : Nat) (s : State) : exec (.linkUp t port) s = execLinkUp t port s := rfl
theorem arm_linkHoldExpiry (t port : Nat) (s : State) : exec (.linkHoldExpiry t port) s = execLinkHoldExpiry t port s := rfl
theorem arm_fdbInsert (t : Nat) (a : Attr) (s : State) : exec (.fdbInsert t a) s = execFdbInsert t a s := rfl
theorem arm_fdbDelete (t : Nat) (a : Attr) (s : State) : exec (.fdbDelete t a) s = execFdbDelete t a s := rfl
theorem arm_fdbLookUp (t : Nat) (a : Attr) (s : State) : exec (.fdbLookUp t a) s = execFdbLookUp t a s := rfl
theorem arm_fdbAgeOut (t vid mac : Nat) (s : State) : exec (.fdbAgeOut t vid mac) s = execFdbAgeOut t vid mac s := rfl
theorem arm_cntClr (t : Nat) (a : Attr) (value : Word) (s : State) : exec (.cntClr t a value) s = execCntClr t a value s := rfl
theorem arm_preemptVerify (t port : Nat) (ok : Bool) (s : State) : exec (.preemptVerify t port ok) s = execPreemptVerify t port ok s := rfl
theorem arm_frerRecovReset (t stream : Nat) (s : State) : exec (.frerRecovReset t stream) s = execFrerRecovReset t stream s := rfl
theorem arm_canStart (t : Nat) (a : Attr) (c : Nat) (s : State) : exec (.canStart t a c) s = execCanStart t a c s := rfl
theorem arm_canStop (t : Nat) (a : Attr) (c : Nat) (s : State) : exec (.canStop t a c) s = execCanStop t a c s := rfl
theorem arm_canRecover (t : Nat) (a : Attr) (c : Nat) (s : State) : exec (.canRecover t a c) s = execCanRecover t a c s := rfl
theorem arm_canAbort (t : Nat) (a : Attr) (c r : Nat) (s : State) : exec (.canAbort t a c r) s = execCanAbort t a c r s := rfl
theorem arm_canFrameRx (t c : Nat) (f : CanFrame) (s : State) : exec (.canFrameRx t c f) s = execCanFrameRx t c f s := rfl
theorem arm_txOpportunity (t c : Nat) (s : State) : exec (.txOpportunity t c) s = execTxOpportunity t c s := rfl
theorem arm_txComplete (t c : Nat) (s : State) : exec (.txComplete t c) s = execTxComplete t c s := rfl
theorem arm_txAttemptError (t c : Nat) (s : State) : exec (.txAttemptError t c) s = execTxAttemptError t c s := rfl
theorem arm_arbitrationLost (t c : Nat) (toRef : Bool) (s : State) : exec (.arbitrationLost t c toRef) s = execArbitrationLost t c toRef s := rfl
theorem arm_canErrorDetected (t c : Nat) (err : CanErr) (s : State) : exec (.canErrorDetected t c err) s = execCanErrorDetected t c err s := rfl
theorem arm_recessiveSequence (t c : Nat) (s : State) : exec (.recessiveSequence t c) s = execRecessiveSequence t c s := rfl
theorem arm_ringDescWrite (t : Nat) (a : Attr) (r w : Nat) (value : Word) (s : State) : exec (.ringDescWrite t a r w value) s = execRingDescWrite t a r w value s := rfl
theorem arm_rxGetWrite (t : Nat) (a : Attr) (r k : Nat) (s : State) : exec (.rxGetWrite t a r k) s = execRxGetWrite t a r k s := rfl
theorem arm_txPutWrite (t : Nat) (a : Attr) (r k : Nat) (s : State) : exec (.txPutWrite t a r k) s = execTxPutWrite t a r k s := rfl
theorem arm_reclaimWrite (t : Nat) (a : Attr) (r k : Nat) (s : State) : exec (.reclaimWrite t a r k) s = execReclaimWrite t a r k s := rfl
theorem arm_filterWrite (t : Nat) (a : Attr) (e w : Nat) (value : Word) (s : State) : exec (.filterWrite t a e w value) s = execFilterWrite t a e w value s := rfl
theorem arm_errLastRead (t : Nat) (a : Attr) (c : Nat) (peek : Bool) (s : State) : exec (.errLastRead t a c peek) s = execErrLastRead t a c peek s := rfl
theorem arm_refDue (t c : Nat) (s : State) : exec (.refDue t c) s = execRefDue t c s := rfl
theorem arm_refLostTimeout (t c : Nat) (s : State) : exec (.refLostTimeout t c) s = execRefLostTimeout t c s := rfl
theorem arm_canFence (t inst : Nat) (s : State) : exec (.canFence t inst) s = execCanFence t inst s := rfl
theorem arm_frcLoRead (t : Nat) (a : Attr) (peek : Bool) (s : State) : exec (.frcLoRead t a peek) s = execFrcLoRead t a peek s := rfl
theorem arm_tLoRead (t : Nat) (a : Attr) (peek : Bool) (s : State) : exec (.tLoRead t a peek) s = execTLoRead t a peek s := rfl
theorem arm_timeApply (t : Nat) (a : Attr) (s : State) : exec (.timeApply t a) s = execTimeApply t a s := rfl
theorem arm_servoInput (t : Nat) (a : Attr) (o : Word) (s : State) : exec (.servoInput t a o) s = execServoInput t a o s := rfl
theorem arm_timeCfgWrite (t : Nat) (a : Attr) (value : Word) (s : State) : exec (.timeCfgWrite t a value) s = execTimeCfgWrite t a value s := rfl
theorem arm_holdoverTimeout (t : Nat) (s : State) : exec (.holdoverTimeout t) s = execHoldoverTimeout t s := rfl
theorem arm_holdoverMaxExpiry (t : Nat) (s : State) : exec (.holdoverMaxExpiry t) s = execHoldoverMaxExpiry t s := rfl
theorem arm_convStart (t : Nat) (a : Attr) (hi : Word) (s : State) : exec (.convStart t a hi) s = execConvStart t a hi s := rfl
theorem arm_convComplete (t : Nat) (s : State) : exec (.convComplete t) s = execConvComplete t s := rfl
theorem arm_ppsOutEdge (t : Nat) (s : State) : exec (.ppsOutEdge t) s = execPpsOutEdge t s := rfl
theorem arm_ppsInEdge (t : Nat) (s : State) : exec (.ppsInEdge t) s = execPpsInEdge t s := rfl
theorem arm_ppsInTsRead (t : Nat) (a : Attr) (peek : Bool) (s : State) : exec (.ppsInTsRead t a peek) s = execPpsInTsRead t a peek s := rfl
theorem arm_txtsRead (t : Nat) (a : Attr) (port : Nat) (peek : Bool) (s : State) : exec (.txtsRead t a port peek) s = execTxtsRead t a port peek s := rfl
theorem arm_netmgtNeedWrite (t : Nat) (a : Attr) (value : Word) (s : State) : exec (.netmgtNeedWrite t a value) s = execNetmgtNeedWrite t a value s := rfl
theorem arm_netmgtJustWrite (t : Nat) (a : Attr) (hi : Bool) (value : Word) (s : State) : exec (.netmgtJustWrite t a hi value) s = execNetmgtJustWrite t a hi value s := rfl
theorem arm_keepaliveTimer (t : Nat) (s : State) : exec (.keepaliveTimer t) s = execKeepaliveTimer t s := rfl
theorem arm_nmKeepaliveRx (t : Nat) (seg node : Nat) (just : Bool) (s : State) : exec (.nmKeepaliveRx t seg node just) s = execNmKeepaliveRx t seg node just s := rfl
theorem arm_nmTokenRx (t : Nat) (seg node succ run : Nat) (just : Bool) (s : State) : exec (.nmTokenRx t seg node succ run just) s = execNmTokenRx t seg node succ run just s := rfl
theorem arm_nmReadyRx (t : Nat) (seg node : Nat) (just : Bool) (s : State) : exec (.nmReadyRx t seg node just) s = execNmReadyRx t seg node just s := rfl
theorem arm_nmNeedRx (t : Nat) (seg node : Nat) (just : Bool) (s : State) : exec (.nmNeedRx t seg node just) s = execNmNeedRx t seg node just s := rfl
theorem arm_readySleepExpiry (t : Nat) (seg : Nat) (s : State) : exec (.readySleepExpiry t seg) s = execReadySleepExpiry t seg s := rfl
theorem arm_ringHoldExpiry (t : Nat) (seg : Nat) (s : State) : exec (.ringHoldExpiry t seg) s = execRingHoldExpiry t seg s := rfl
theorem arm_ringTmoExpiry (t : Nat) (seg : Nat) (s : State) : exec (.ringTmoExpiry t seg) s = execRingTmoExpiry t seg s := rfl
theorem arm_ringLostTimeout (t : Nat) (seg : Nat) (s : State) : exec (.ringLostTimeout t seg) s = execRingLostTimeout t seg s := rfl
theorem arm_maxAwakeExpiry (t : Nat) (n : Nat) (s : State) : exec (.maxAwakeExpiry t n) s = execMaxAwakeExpiry t n s := rfl
theorem arm_sleepCommit (t : Nat) (s : State) : exec (.sleepCommit t) s = execSleepCommit t s := rfl
theorem arm_sleepEntryComplete (t : Nat) (s : State) : exec (.sleepEntryComplete t) s = execSleepEntryComplete t s := rfl
theorem arm_wakeRequest (t : Nat) (cause source : Nat) (s : State) : exec (.wakeRequest t cause source) s = execWakeRequest t cause source s := rfl
theorem arm_wakeRecognised (t : Nat) (cause source : Nat) (s : State) : exec (.wakeRecognised t cause source) s = execWakeRecognised t cause source s := rfl
theorem arm_wakeTimer (t : Nat) (s : State) : exec (.wakeTimer t) s = execWakeTimer t s := rfl
theorem arm_warmMaxExpiry (t : Nat) (s : State) : exec (.warmMaxExpiry t) s = execWarmMaxExpiry t s := rfl
theorem arm_hartPidWrite (t : Nat) (a : Attr) (h pid : Nat) (s : State) : exec (.hartPidWrite t a h pid) s = execHartPidWrite t a h pid s := rfl
theorem arm_mapEntryWrite (t : Nat) (a : Attr) (e : Nat) (value : Word) (s : State) : exec (.mapEntryWrite t a e value) s = execMapEntryWrite t a e value s := rfl
theorem arm_instCfgWrite (t : Nat) (a : Attr) (inst : Nat) (value : Word) (s : State) : exec (.instCfgWrite t a inst value) s = execInstCfgWrite t a inst value s := rfl
theorem arm_qshareWrite (t : Nat) (a : Attr) (inst : Nat) (value : Word) (s : State) : exec (.qshareWrite t a inst value) s = execQshareWrite t a inst value s := rfl
theorem arm_instFltWrite (t : Nat) (a : Attr) (inst : Nat) (value : Word) (s : State) : exec (.instFltWrite t a inst value) s = execInstFltWrite t a inst value s := rfl
theorem arm_hwqCfgWrite (t : Nat) (a : Attr) (q : Nat) (value : Word) (s : State) : exec (.hwqCfgWrite t a q value) s = execHwqCfgWrite t a q value s := rfl
theorem arm_hwqPush (t : Nat) (a : Attr) (q : Nat) (value : Word) (s : State) : exec (.hwqPush t a q value) s = execHwqPush t a q value s := rfl
theorem arm_hwqPop (t : Nat) (a : Attr) (q : Nat) (peek : Bool) (s : State) : exec (.hwqPop t a q peek) s = execHwqPop t a q peek s := rfl
theorem arm_dispatchRoundStart (t : Nat) (s : State) : exec (.dispatchRoundStart t) s = execDispatchRoundStart t s := rfl
theorem arm_dispatchEntry (t : Nat) (s : State) : exec (.dispatchEntry t) s = execDispatchEntry t s := rfl
theorem arm_vimReset (t : Nat) (a : Attr) (inst : Nat) (s : State) : exec (.vimReset t a inst) s = execVimReset t a inst s := rfl
theorem arm_resetAck (t : Nat) (inst p : Nat) (s : State) : exec (.resetAck t inst p) s = execResetAck t inst p s := rfl
theorem arm_resetTimeout (t : Nat) (inst : Nat) (s : State) : exec (.resetTimeout t inst) s = execResetTimeout t inst s := rfl
theorem arm_vimFreeze (t : Nat) (a : Attr) (inst : Nat) (s : State) : exec (.vimFreeze t a inst) s = execVimFreeze t a inst s := rfl
theorem arm_freezeQuiescent (t : Nat) (inst : Nat) (s : State) : exec (.freezeQuiescent t inst) s = execFreezeQuiescent t inst s := rfl
theorem arm_freezeTimeout (t : Nat) (inst : Nat) (s : State) : exec (.freezeTimeout t inst) s = execFreezeTimeout t inst s := rfl
theorem arm_vimThaw (t : Nat) (a : Attr) (inst : Nat) (s : State) : exec (.vimThaw t a inst) s = execVimThaw t a inst s := rfl
theorem arm_migSave (t : Nat) (a : Attr) (inst slot : Nat) (s : State) : exec (.migSave t a inst slot) s = execMigSave t a inst slot s := rfl
theorem arm_migSaveComplete (t : Nat) (s : State) : exec (.migSaveComplete t) s = execMigSaveComplete t s := rfl
theorem arm_migRestore (t : Nat) (a : Attr) (inst slot : Nat) (s : State) : exec (.migRestore t a inst slot) s = execMigRestore t a inst slot s := rfl
theorem arm_migRestoreComplete (t : Nat) (s : State) : exec (.migRestoreComplete t) s = execMigRestoreComplete t s := rfl
theorem arm_machineTrap (t h : Nat) (s : State) : exec (.machineTrap t h) s = execMachineTrap t h s := rfl
theorem arm_mret (t h : Nat) (s : State) : exec (.mret t h) s = execMret t h s := rfl
theorem arm_regionWrite (t : Nat) (a : Attr) (k r word : Nat) (value : Word) (s : State) : exec (.regionWrite t a k r word value) s = execRegionWrite t a k r word value s := rfl
theorem arm_l2PartWrite (t : Nat) (a : Attr) (value : Word) (s : State) : exec (.l2PartWrite t a value) s = execL2PartWrite t a value s := rfl
theorem arm_l2RepartComplete (t : Nat) (s : State) : exec (.l2RepartComplete t) s = execL2RepartComplete t s := rfl
theorem arm_claimWrite (t : Nat) (a : Attr) (value : Word) (s : State) : exec (.claimWrite t a value) s = execClaimWrite t a value s := rfl
theorem arm_violRead (t : Nat) (a : Attr) (peek : Bool) (s : State) : exec (.violRead t a peek) s = execViolRead t a peek s := rfl
theorem arm_pantryWrite (t : Nat) (a : Attr) (slot : Nat) (s : State) : exec (.pantryWrite t a slot) s = execPantryWrite t a slot s := rfl
theorem arm_pantryGenerate (t : Nat) (a : Attr) (slot : Nat) (s : State) : exec (.pantryGenerate t a slot) s = execPantryGenerate t a slot s := rfl
theorem arm_pantryErase (t : Nat) (a : Attr) (slot : Nat) (s : State) : exec (.pantryErase t a slot) s = execPantryErase t a slot s := rfl
theorem arm_pantryWrapOut (t : Nat) (a : Attr) (slot aux : Nat) (s : State) : exec (.pantryWrapOut t a slot aux) s = execPantryWrapOut t a slot aux s := rfl
theorem arm_pantryImport (t : Nat) (a : Attr) (slot aux : Nat) (s : State) : exec (.pantryImport t a slot aux) s = execPantryImport t a slot aux s := rfl
theorem arm_pantryPubOut (t : Nat) (a : Attr) (slot : Nat) (s : State) : exec (.pantryPubOut t a slot) s = execPantryPubOut t a slot s := rfl
theorem arm_pantryAttest (t : Nat) (a : Attr) (slot : Nat) (s : State) : exec (.pantryAttest t a slot) s = execPantryAttest t a slot s := rfl
theorem arm_pantryCacheFlush (t : Nat) (a : Attr) (s : State) : exec (.pantryCacheFlush t a) s = execPantryCacheFlush t a s := rfl
theorem arm_tamperClear (t : Nat) (a : Attr) (s : State) : exec (.tamperClear t a) s = execTamperClear t a s := rfl
theorem arm_pantryCommitComplete (t : Nat) (s : State) : exec (.pantryCommitComplete t) s = execPantryCommitComplete t s := rfl
theorem arm_tamperArmWrite (t : Nat) (a : Attr) (value : Word) (s : State) : exec (.tamperArmWrite t a value) s = execTamperArmWrite t a value s := rfl
theorem arm_tamperRecognised (t : Nat) (src active : Nat) (s : State) : exec (.tamperRecognised t src active) s = execTamperRecognised t src active s := rfl
theorem arm_cartInsert (t : Nat) (s : State) : exec (.cartInsert t) s = execCartInsert t s := rfl
theorem arm_cartRemove (t : Nat) (s : State) : exec (.cartRemove t) s = execCartRemove t s := rfl
theorem arm_cartAuthenticate (t : Nat) (c : CartId) (s : State) : exec (.cartAuthenticate t c) s = execCartAuthenticate t c s := rfl
theorem arm_serviceFlush (t : Nat) (a : Attr) (s : State) : exec (.serviceFlush t a) s = execServiceFlush t a s := rfl
theorem arm_measure (t : Nat) (a : Attr) (vBus vHold : Nat) (s : State) : exec (.measure t a vBus vHold) s = execMeasure t a vBus vHold s := rfl
theorem arm_testDischargeComplete (t : Nat) (stepUv fallUv : Nat) (s : State) : exec (.testDischargeComplete t stepUv fallUv) s = execTestDischargeComplete t stepUv fallUv s := rfl
theorem arm_replan (t : Nat) (a : Attr) (s : State) : exec (.replan t a) s = execReplan t a s := rfl
theorem arm_planTimer (t : Nat) (vBus vHold : Nat) (s : State) : exec (.planTimer t vBus vHold) s = execPlanTimer t vBus vHold s := rfl
theorem arm_holdupRetest (t : Nat) (vHold : Nat) (s : State) : exec (.holdupRetest t vHold) s = execHoldupRetest t vHold s := rfl
theorem arm_marginMeasure (t : Nat) (dHub dA dB dC : Nat) (stud1 stud2 : Option Nat) (pNow : Nat) (s : State) : exec (.marginMeasure t dHub dA dB dC stud1 stud2 pNow) s = execMarginMeasure t dHub dA dB dC stud1 stud2 pNow s := rfl
theorem arm_flashRefresh (t : Nat) (wear : Nat) (regions : List (Nat × Nat)) (s : State) : exec (.flashRefresh t wear regions) s = execFlashRefresh t wear regions s := rfl
theorem arm_recordCommit (t : Nat) (s : State) : exec (.recordCommit t) s = execRecordCommit t s := rfl
theorem arm_recCommit (t : Nat) (a : Attr) (sev kind lenW : Nat) (s : State) : exec (.recCommit t a sev kind lenW) s = execRecCommit t a sev kind lenW s := rfl
theorem arm_flushWindowTimer (t : Nat) (s : State) : exec (.flushWindowTimer t) s = execFlushWindowTimer t s := rfl
theorem arm_flushStart (t : Nat) (s : State) : exec (.flushStart t) s = execFlushStart t s := rfl
theorem arm_flushComplete (t : Nat) (s : State) : exec (.flushComplete t) s = execFlushComplete t s := rfl
theorem arm_segmentEraseComplete (t : Nat) (sev : Nat) (s : State) : exec (.segmentEraseComplete t sev) s = execSegmentEraseComplete t sev s := rfl
theorem arm_recFlush (t : Nat) (a : Attr) (s : State) : exec (.recFlush t a) s = execRecFlush t a s := rfl
theorem arm_recRead (t : Nat) (a : Attr) (s : State) : exec (.recRead t a) s = execRecRead t a s := rfl
theorem arm_setupStore (t : Nat) (a : Attr) (s : State) : exec (.setupStore t a) s = execSetupStore t a s := rfl
theorem arm_storeComplete (t : Nat) (s : State) : exec (.storeComplete t) s = execStoreComplete t s := rfl
theorem arm_setupApply (t : Nat) (a : Attr) (s : State) : exec (.setupApply t a) s = execSetupApply t a s := rfl
theorem arm_reportRead (t : Nat) (a : Attr) (peek : Bool) (s : State) : exec (.reportRead t a peek) s = execReportRead t a peek s := rfl
theorem arm_wakeInputInactive (t : Nat) (k : Nat) (s : State) : exec (.wakeInputInactive t k) s = execWakeInputInactive t k s := rfl
theorem arm_nodeRunEnd (t : Nat) (n : Nat) (s : State) : exec (.nodeRunEnd t n) s = execNodeRunEnd t n s := rfl
theorem arm_loopQuietChange (t : Nat) (cur : Int) (s : State) : exec (.loopQuietChange t cur) s = execLoopQuietChange t cur s := rfl
theorem arm_chargeComplete (t : Nat) (vHold : Nat) (s : State) : exec (.chargeComplete t vHold) s = execChargeComplete t vHold s := rfl
theorem arm_testDischargeStart (t : Nat) (vBus vHold : Nat) (s : State) : exec (.testDischargeStart t vBus vHold) s = execTestDischargeStart t vBus vHold s := rfl
theorem arm_pantryCommandComplete (t : Nat) (s : State) : exec (.pantryCommandComplete t) s = execPantryCommandComplete t s := rfl
theorem arm_setupApplyComplete (t : Nat) (s : State) : exec (.setupApplyComplete t) s = execSetupApplyComplete t s := rfl
theorem arm_frameTxEnd (t port : Nat) (s : State) : exec (.frameTxEnd t port) s = execFrameTxEnd t port s := rfl

end Sys2Proof.Machine
end

