-- ==== Sys2Proof/Laws/State.lean ====
section
/-! SUPPORT. What the named updates of the state leave unchanged: one lemma for each update and field. -/

namespace Sys2Proof.Machine

@[simp] theorem State.wr_pending (s : State) (f : Fld) (v : Nat) : (s.wr f v).pending = s.pending := rfl
@[simp] theorem State.wr_now (s : State) (f : Fld) (v : Nat) : (s.wr f v).now = s.now := rfl
@[simp] theorem State.wr_frc (s : State) (f : Fld) (v : Nat) : (s.wr f v).frc = s.frc := rfl
@[simp] theorem State.wr_clk (s : State) (f : Fld) (v : Nat) : (s.wr f v).clk = s.clk := rfl
@[simp] theorem State.wr_freeCtr (s : State) (f : Fld) (v : Nat) : (s.wr f v).freeCtr = s.freeCtr := rfl
@[simp] theorem State.wr_resp (s : State) (f : Fld) (v : Nat) : (s.wr f v).resp = s.resp := rfl
@[simp] theorem State.wr_mem (s : State) (f : Fld) (v : Nat) : (s.wr f v).mem = s.mem := rfl
@[simp] theorem State.wr_fuse (s : State) (f : Fld) (v : Nat) : (s.wr f v).fuse = s.fuse := rfl
@[simp] theorem State.wr_lane (s : State) (f : Fld) (v : Nat) : (s.wr f v).lane = s.lane := rfl
@[simp] theorem State.wr_cyc (s : State) (f : Fld) (v : Nat) : (s.wr f v).cyc = s.cyc := rfl
@[simp] theorem State.wr_pair (s : State) (f : Fld) (v : Nat) : (s.wr f v).pair = s.pair := rfl
@[simp] theorem State.wr_uio (s : State) (f : Fld) (v : Nat) : (s.wr f v).uio = s.uio := rfl
@[simp] theorem State.wr_dve (s : State) (f : Fld) (v : Nat) : (s.wr f v).dve = s.dve := rfl
@[simp] theorem State.wr_stair (s : State) (f : Fld) (v : Nat) : (s.wr f v).stair = s.stair := rfl
@[simp] theorem State.wr_hall (s : State) (f : Fld) (v : Nat) : (s.wr f v).hall = s.hall := rfl
@[simp] theorem State.wr_can (s : State) (f : Fld) (v : Nat) : (s.wr f v).can = s.can := rfl
@[simp] theorem State.wr_time (s : State) (f : Fld) (v : Nat) : (s.wr f v).time = s.time := rfl
@[simp] theorem State.wr_net (s : State) (f : Fld) (v : Nat) : (s.wr f v).net = s.net := rfl
@[simp] theorem State.wr_vim (s : State) (f : Fld) (v : Nat) : (s.wr f v).vim = s.vim := rfl
@[simp] theorem State.wr_world (s : State) (f : Fld) (v : Nat) : (s.wr f v).world = s.world := rfl
@[simp] theorem State.wr_pantry (s : State) (f : Fld) (v : Nat) : (s.wr f v).pantry = s.pantry := rfl
@[simp] theorem State.wr_efuse (s : State) (f : Fld) (v : Nat) : (s.wr f v).efuse = s.efuse := rfl
@[simp] theorem State.wr_pwr (s : State) (f : Fld) (v : Nat) : (s.wr f v).pwr = s.pwr := rfl
@[simp] theorem State.wr_hearth (s : State) (f : Fld) (v : Nat) : (s.wr f v).hearth = s.hearth := rfl
@[simp] theorem State.wr_log (s : State) (f : Fld) (v : Nat) : (s.wr f v).log = s.log := rfl
@[simp] theorem State.wr_setup (s : State) (f : Fld) (v : Nat) : (s.wr f v).setup = s.setup := rfl

@[simp] theorem State.answer_pending (s : State) (st d : Nat) : (s.answer st d).pending = s.pending := rfl
@[simp] theorem State.answer_now (s : State) (st d : Nat) : (s.answer st d).now = s.now := rfl
@[simp] theorem State.answer_frc (s : State) (st d : Nat) : (s.answer st d).frc = s.frc := rfl
@[simp] theorem State.answer_clk (s : State) (st d : Nat) : (s.answer st d).clk = s.clk := rfl
@[simp] theorem State.answer_freeCtr (s : State) (st d : Nat) : (s.answer st d).freeCtr = s.freeCtr := rfl
@[simp] theorem State.answer_regs (s : State) (st d : Nat) : (s.answer st d).regs = s.regs := rfl
@[simp] theorem State.answer_mem (s : State) (st d : Nat) : (s.answer st d).mem = s.mem := rfl
@[simp] theorem State.answer_fuse (s : State) (st d : Nat) : (s.answer st d).fuse = s.fuse := rfl
@[simp] theorem State.answer_lane (s : State) (st d : Nat) : (s.answer st d).lane = s.lane := rfl
@[simp] theorem State.answer_cyc (s : State) (st d : Nat) : (s.answer st d).cyc = s.cyc := rfl
@[simp] theorem State.answer_pair (s : State) (st d : Nat) : (s.answer st d).pair = s.pair := rfl
@[simp] theorem State.answer_uio (s : State) (st d : Nat) : (s.answer st d).uio = s.uio := rfl
@[simp] theorem State.answer_dve (s : State) (st d : Nat) : (s.answer st d).dve = s.dve := rfl
@[simp] theorem State.answer_stair (s : State) (st d : Nat) : (s.answer st d).stair = s.stair := rfl
@[simp] theorem State.answer_hall (s : State) (st d : Nat) : (s.answer st d).hall = s.hall := rfl
@[simp] theorem State.answer_can (s : State) (st d : Nat) : (s.answer st d).can = s.can := rfl
@[simp] theorem State.answer_time (s : State) (st d : Nat) : (s.answer st d).time = s.time := rfl
@[simp] theorem State.answer_net (s : State) (st d : Nat) : (s.answer st d).net = s.net := rfl
@[simp] theorem State.answer_vim (s : State) (st d : Nat) : (s.answer st d).vim = s.vim := rfl
@[simp] theorem State.answer_world (s : State) (st d : Nat) : (s.answer st d).world = s.world := rfl
@[simp] theorem State.answer_pantry (s : State) (st d : Nat) : (s.answer st d).pantry = s.pantry := rfl
@[simp] theorem State.answer_efuse (s : State) (st d : Nat) : (s.answer st d).efuse = s.efuse := rfl
@[simp] theorem State.answer_pwr (s : State) (st d : Nat) : (s.answer st d).pwr = s.pwr := rfl
@[simp] theorem State.answer_hearth (s : State) (st d : Nat) : (s.answer st d).hearth = s.hearth := rfl
@[simp] theorem State.answer_log (s : State) (st d : Nat) : (s.answer st d).log = s.log := rfl
@[simp] theorem State.answer_setup (s : State) (st d : Nat) : (s.answer st d).setup = s.setup := rfl

@[simp] theorem State.okay_pending (s : State) : (s.okay).pending = s.pending := rfl
@[simp] theorem State.okay_now (s : State) : (s.okay).now = s.now := rfl
@[simp] theorem State.okay_frc (s : State) : (s.okay).frc = s.frc := rfl
@[simp] theorem State.okay_clk (s : State) : (s.okay).clk = s.clk := rfl
@[simp] theorem State.okay_freeCtr (s : State) : (s.okay).freeCtr = s.freeCtr := rfl
@[simp] theorem State.okay_regs (s : State) : (s.okay).regs = s.regs := rfl
@[simp] theorem State.okay_mem (s : State) : (s.okay).mem = s.mem := rfl
@[simp] theorem State.okay_fuse (s : State) : (s.okay).fuse = s.fuse := rfl
@[simp] theorem State.okay_lane (s : State) : (s.okay).lane = s.lane := rfl
@[simp] theorem State.okay_cyc (s : State) : (s.okay).cyc = s.cyc := rfl
@[simp] theorem State.okay_pair (s : State) : (s.okay).pair = s.pair := rfl
@[simp] theorem State.okay_uio (s : State) : (s.okay).uio = s.uio := rfl
@[simp] theorem State.okay_dve (s : State) : (s.okay).dve = s.dve := rfl
@[simp] theorem State.okay_stair (s : State) : (s.okay).stair = s.stair := rfl
@[simp] theorem State.okay_hall (s : State) : (s.okay).hall = s.hall := rfl
@[simp] theorem State.okay_can (s : State) : (s.okay).can = s.can := rfl
@[simp] theorem State.okay_time (s : State) : (s.okay).time = s.time := rfl
@[simp] theorem State.okay_net (s : State) : (s.okay).net = s.net := rfl
@[simp] theorem State.okay_vim (s : State) : (s.okay).vim = s.vim := rfl
@[simp] theorem State.okay_world (s : State) : (s.okay).world = s.world := rfl
@[simp] theorem State.okay_pantry (s : State) : (s.okay).pantry = s.pantry := rfl
@[simp] theorem State.okay_efuse (s : State) : (s.okay).efuse = s.efuse := rfl
@[simp] theorem State.okay_pwr (s : State) : (s.okay).pwr = s.pwr := rfl
@[simp] theorem State.okay_hearth (s : State) : (s.okay).hearth = s.hearth := rfl
@[simp] theorem State.okay_log (s : State) : (s.okay).log = s.log := rfl
@[simp] theorem State.okay_setup (s : State) : (s.okay).setup = s.setup := rfl

@[simp] theorem State.tick_pending (s : State) (t : Nat) : (s.tick t).pending = s.pending := rfl
@[simp] theorem State.tick_freeCtr (s : State) (t : Nat) : (s.tick t).freeCtr = s.freeCtr := rfl
@[simp] theorem State.tick_resp (s : State) (t : Nat) : (s.tick t).resp = s.resp := rfl
@[simp] theorem State.tick_regs (s : State) (t : Nat) : (s.tick t).regs = s.regs := rfl
@[simp] theorem State.tick_mem (s : State) (t : Nat) : (s.tick t).mem = s.mem := rfl
@[simp] theorem State.tick_fuse (s : State) (t : Nat) : (s.tick t).fuse = s.fuse := rfl
@[simp] theorem State.tick_lane (s : State) (t : Nat) : (s.tick t).lane = s.lane := rfl
@[simp] theorem State.tick_cyc (s : State) (t : Nat) : (s.tick t).cyc = s.cyc := rfl
@[simp] theorem State.tick_pair (s : State) (t : Nat) : (s.tick t).pair = s.pair := rfl
@[simp] theorem State.tick_uio (s : State) (t : Nat) : (s.tick t).uio = s.uio := rfl
@[simp] theorem State.tick_dve (s : State) (t : Nat) : (s.tick t).dve = s.dve := rfl
@[simp] theorem State.tick_stair (s : State) (t : Nat) : (s.tick t).stair = s.stair := rfl
@[simp] theorem State.tick_hall (s : State) (t : Nat) : (s.tick t).hall = s.hall := rfl
@[simp] theorem State.tick_can (s : State) (t : Nat) : (s.tick t).can = s.can := rfl
@[simp] theorem State.tick_time (s : State) (t : Nat) : (s.tick t).time = s.time := rfl
@[simp] theorem State.tick_net (s : State) (t : Nat) : (s.tick t).net = s.net := rfl
@[simp] theorem State.tick_vim (s : State) (t : Nat) : (s.tick t).vim = s.vim := rfl
@[simp] theorem State.tick_world (s : State) (t : Nat) : (s.tick t).world = s.world := rfl
@[simp] theorem State.tick_pantry (s : State) (t : Nat) : (s.tick t).pantry = s.pantry := rfl
@[simp] theorem State.tick_efuse (s : State) (t : Nat) : (s.tick t).efuse = s.efuse := rfl
@[simp] theorem State.tick_pwr (s : State) (t : Nat) : (s.tick t).pwr = s.pwr := rfl
@[simp] theorem State.tick_hearth (s : State) (t : Nat) : (s.tick t).hearth = s.hearth := rfl
@[simp] theorem State.tick_log (s : State) (t : Nat) : (s.tick t).log = s.log := rfl
@[simp] theorem State.tick_setup (s : State) (t : Nat) : (s.tick t).setup = s.setup := rfl

@[simp] theorem State.raiseBits_pending (s : State) (f : Fld) (m : Nat) : (s.raiseBits f m).pending = s.pending := rfl
@[simp] theorem State.raiseBits_now (s : State) (f : Fld) (m : Nat) : (s.raiseBits f m).now = s.now := rfl
@[simp] theorem State.raiseBits_frc (s : State) (f : Fld) (m : Nat) : (s.raiseBits f m).frc = s.frc := rfl
@[simp] theorem State.raiseBits_freeCtr (s : State) (f : Fld) (m : Nat) : (s.raiseBits f m).freeCtr = s.freeCtr := rfl
@[simp] theorem State.raiseBits_resp (s : State) (f : Fld) (m : Nat) : (s.raiseBits f m).resp = s.resp := rfl
@[simp] theorem State.raiseBits_mem (s : State) (f : Fld) (m : Nat) : (s.raiseBits f m).mem = s.mem := rfl
@[simp] theorem State.raiseBits_fuse (s : State) (f : Fld) (m : Nat) : (s.raiseBits f m).fuse = s.fuse := rfl
@[simp] theorem State.raiseBits_lane (s : State) (f : Fld) (m : Nat) : (s.raiseBits f m).lane = s.lane := rfl
@[simp] theorem State.raiseBits_cyc (s : State) (f : Fld) (m : Nat) : (s.raiseBits f m).cyc = s.cyc := rfl
@[simp] theorem State.raiseBits_pair (s : State) (f : Fld) (m : Nat) : (s.raiseBits f m).pair = s.pair := rfl
@[simp] theorem State.raiseBits_uio (s : State) (f : Fld) (m : Nat) : (s.raiseBits f m).uio = s.uio := rfl
@[simp] theorem State.raiseBits_dve (s : State) (f : Fld) (m : Nat) : (s.raiseBits f m).dve = s.dve := rfl
@[simp] theorem State.raiseBits_stair (s : State) (f : Fld) (m : Nat) : (s.raiseBits f m).stair = s.stair := rfl
@[simp] theorem State.raiseBits_hall (s : State) (f : Fld) (m : Nat) : (s.raiseBits f m).hall = s.hall := rfl
@[simp] theorem State.raiseBits_can (s : State) (f : Fld) (m : Nat) : (s.raiseBits f m).can = s.can := rfl
@[simp] theorem State.raiseBits_time (s : State) (f : Fld) (m : Nat) : (s.raiseBits f m).time = s.time := rfl
@[simp] theorem State.raiseBits_net (s : State) (f : Fld) (m : Nat) : (s.raiseBits f m).net = s.net := rfl
@[simp] theorem State.raiseBits_vim (s : State) (f : Fld) (m : Nat) : (s.raiseBits f m).vim = s.vim := rfl
@[simp] theorem State.raiseBits_world (s : State) (f : Fld) (m : Nat) : (s.raiseBits f m).world = s.world := rfl
@[simp] theorem State.raiseBits_pantry (s : State) (f : Fld) (m : Nat) : (s.raiseBits f m).pantry = s.pantry := rfl
@[simp] theorem State.raiseBits_efuse (s : State) (f : Fld) (m : Nat) : (s.raiseBits f m).efuse = s.efuse := rfl
@[simp] theorem State.raiseBits_pwr (s : State) (f : Fld) (m : Nat) : (s.raiseBits f m).pwr = s.pwr := rfl
@[simp] theorem State.raiseBits_hearth (s : State) (f : Fld) (m : Nat) : (s.raiseBits f m).hearth = s.hearth := rfl
@[simp] theorem State.raiseBits_log (s : State) (f : Fld) (m : Nat) : (s.raiseBits f m).log = s.log := rfl
@[simp] theorem State.raiseBits_setup (s : State) (f : Fld) (m : Nat) : (s.raiseBits f m).setup = s.setup := rfl

@[simp] theorem State.raise_pending (s : State) (f : Fld) : (s.raise f).pending = s.pending := rfl
@[simp] theorem State.raise_now (s : State) (f : Fld) : (s.raise f).now = s.now := rfl
@[simp] theorem State.raise_frc (s : State) (f : Fld) : (s.raise f).frc = s.frc := rfl
@[simp] theorem State.raise_freeCtr (s : State) (f : Fld) : (s.raise f).freeCtr = s.freeCtr := rfl
@[simp] theorem State.raise_resp (s : State) (f : Fld) : (s.raise f).resp = s.resp := rfl
@[simp] theorem State.raise_mem (s : State) (f : Fld) : (s.raise f).mem = s.mem := rfl
@[simp] theorem State.raise_fuse (s : State) (f : Fld) : (s.raise f).fuse = s.fuse := rfl
@[simp] theorem State.raise_lane (s : State) (f : Fld) : (s.raise f).lane = s.lane := rfl
@[simp] theorem State.raise_cyc (s : State) (f : Fld) : (s.raise f).cyc = s.cyc := rfl
@[simp] theorem State.raise_pair (s : State) (f : Fld) : (s.raise f).pair = s.pair := rfl
@[simp] theorem State.raise_uio (s : State) (f : Fld) : (s.raise f).uio = s.uio := rfl
@[simp] theorem State.raise_dve (s : State) (f : Fld) : (s.raise f).dve = s.dve := rfl
@[simp] theorem State.raise_stair (s : State) (f : Fld) : (s.raise f).stair = s.stair := rfl
@[simp] theorem State.raise_hall (s : State) (f : Fld) : (s.raise f).hall = s.hall := rfl
@[simp] theorem State.raise_can (s : State) (f : Fld) : (s.raise f).can = s.can := rfl
@[simp] theorem State.raise_time (s : State) (f : Fld) : (s.raise f).time = s.time := rfl
@[simp] theorem State.raise_net (s : State) (f : Fld) : (s.raise f).net = s.net := rfl
@[simp] theorem State.raise_vim (s : State) (f : Fld) : (s.raise f).vim = s.vim := rfl
@[simp] theorem State.raise_world (s : State) (f : Fld) : (s.raise f).world = s.world := rfl
@[simp] theorem State.raise_pantry (s : State) (f : Fld) : (s.raise f).pantry = s.pantry := rfl
@[simp] theorem State.raise_efuse (s : State) (f : Fld) : (s.raise f).efuse = s.efuse := rfl
@[simp] theorem State.raise_pwr (s : State) (f : Fld) : (s.raise f).pwr = s.pwr := rfl
@[simp] theorem State.raise_hearth (s : State) (f : Fld) : (s.raise f).hearth = s.hearth := rfl
@[simp] theorem State.raise_log (s : State) (f : Fld) : (s.raise f).log = s.log := rfl
@[simp] theorem State.raise_setup (s : State) (f : Fld) : (s.raise f).setup = s.setup := rfl

@[simp] theorem State.ack_pending (s : State) (f : Fld) (v : Nat) : (s.ack f v).pending = s.pending := rfl
@[simp] theorem State.ack_now (s : State) (f : Fld) (v : Nat) : (s.ack f v).now = s.now := rfl
@[simp] theorem State.ack_frc (s : State) (f : Fld) (v : Nat) : (s.ack f v).frc = s.frc := rfl
@[simp] theorem State.ack_clk (s : State) (f : Fld) (v : Nat) : (s.ack f v).clk = s.clk := rfl
@[simp] theorem State.ack_freeCtr (s : State) (f : Fld) (v : Nat) : (s.ack f v).freeCtr = s.freeCtr := rfl
@[simp] theorem State.ack_resp (s : State) (f : Fld) (v : Nat) : (s.ack f v).resp = s.resp := rfl
@[simp] theorem State.ack_mem (s : State) (f : Fld) (v : Nat) : (s.ack f v).mem = s.mem := rfl
@[simp] theorem State.ack_fuse (s : State) (f : Fld) (v : Nat) : (s.ack f v).fuse = s.fuse := rfl
@[simp] theorem State.ack_lane (s : State) (f : Fld) (v : Nat) : (s.ack f v).lane = s.lane := rfl
@[simp] theorem State.ack_cyc (s : State) (f : Fld) (v : Nat) : (s.ack f v).cyc = s.cyc := rfl
@[simp] theorem State.ack_pair (s : State) (f : Fld) (v : Nat) : (s.ack f v).pair = s.pair := rfl
@[simp] theorem State.ack_uio (s : State) (f : Fld) (v : Nat) : (s.ack f v).uio = s.uio := rfl
@[simp] theorem State.ack_dve (s : State) (f : Fld) (v : Nat) : (s.ack f v).dve = s.dve := rfl
@[simp] theorem State.ack_stair (s : State) (f : Fld) (v : Nat) : (s.ack f v).stair = s.stair := rfl
@[simp] theorem State.ack_hall (s : State) (f : Fld) (v : Nat) : (s.ack f v).hall = s.hall := rfl
@[simp] theorem State.ack_can (s : State) (f : Fld) (v : Nat) : (s.ack f v).can = s.can := rfl
@[simp] theorem State.ack_time (s : State) (f : Fld) (v : Nat) : (s.ack f v).time = s.time := rfl
@[simp] theorem State.ack_net (s : State) (f : Fld) (v : Nat) : (s.ack f v).net = s.net := rfl
@[simp] theorem State.ack_vim (s : State) (f : Fld) (v : Nat) : (s.ack f v).vim = s.vim := rfl
@[simp] theorem State.ack_world (s : State) (f : Fld) (v : Nat) : (s.ack f v).world = s.world := rfl
@[simp] theorem State.ack_pantry (s : State) (f : Fld) (v : Nat) : (s.ack f v).pantry = s.pantry := rfl
@[simp] theorem State.ack_efuse (s : State) (f : Fld) (v : Nat) : (s.ack f v).efuse = s.efuse := rfl
@[simp] theorem State.ack_pwr (s : State) (f : Fld) (v : Nat) : (s.ack f v).pwr = s.pwr := rfl
@[simp] theorem State.ack_hearth (s : State) (f : Fld) (v : Nat) : (s.ack f v).hearth = s.hearth := rfl
@[simp] theorem State.ack_log (s : State) (f : Fld) (v : Nat) : (s.ack f v).log = s.log := rfl
@[simp] theorem State.ack_setup (s : State) (f : Fld) (v : Nat) : (s.ack f v).setup = s.setup := rfl

@[simp] theorem State.inc_pending (s : State) (f : Fld) : (s.inc f).pending = s.pending := rfl
@[simp] theorem State.inc_now (s : State) (f : Fld) : (s.inc f).now = s.now := rfl
@[simp] theorem State.inc_frc (s : State) (f : Fld) : (s.inc f).frc = s.frc := rfl
@[simp] theorem State.inc_clk (s : State) (f : Fld) : (s.inc f).clk = s.clk := rfl
@[simp] theorem State.inc_freeCtr (s : State) (f : Fld) : (s.inc f).freeCtr = s.freeCtr := rfl
@[simp] theorem State.inc_resp (s : State) (f : Fld) : (s.inc f).resp = s.resp := rfl
@[simp] theorem State.inc_mem (s : State) (f : Fld) : (s.inc f).mem = s.mem := rfl
@[simp] theorem State.inc_fuse (s : State) (f : Fld) : (s.inc f).fuse = s.fuse := rfl
@[simp] theorem State.inc_lane (s : State) (f : Fld) : (s.inc f).lane = s.lane := rfl
@[simp] theorem State.inc_cyc (s : State) (f : Fld) : (s.inc f).cyc = s.cyc := rfl
@[simp] theorem State.inc_pair (s : State) (f : Fld) : (s.inc f).pair = s.pair := rfl
@[simp] theorem State.inc_uio (s : State) (f : Fld) : (s.inc f).uio = s.uio := rfl
@[simp] theorem State.inc_dve (s : State) (f : Fld) : (s.inc f).dve = s.dve := rfl
@[simp] theorem State.inc_stair (s : State) (f : Fld) : (s.inc f).stair = s.stair := rfl
@[simp] theorem State.inc_hall (s : State) (f : Fld) : (s.inc f).hall = s.hall := rfl
@[simp] theorem State.inc_can (s : State) (f : Fld) : (s.inc f).can = s.can := rfl
@[simp] theorem State.inc_time (s : State) (f : Fld) : (s.inc f).time = s.time := rfl
@[simp] theorem State.inc_net (s : State) (f : Fld) : (s.inc f).net = s.net := rfl
@[simp] theorem State.inc_vim (s : State) (f : Fld) : (s.inc f).vim = s.vim := rfl
@[simp] theorem State.inc_world (s : State) (f : Fld) : (s.inc f).world = s.world := rfl
@[simp] theorem State.inc_pantry (s : State) (f : Fld) : (s.inc f).pantry = s.pantry := rfl
@[simp] theorem State.inc_efuse (s : State) (f : Fld) : (s.inc f).efuse = s.efuse := rfl
@[simp] theorem State.inc_pwr (s : State) (f : Fld) : (s.inc f).pwr = s.pwr := rfl
@[simp] theorem State.inc_hearth (s : State) (f : Fld) : (s.inc f).hearth = s.hearth := rfl
@[simp] theorem State.inc_log (s : State) (f : Fld) : (s.inc f).log = s.log := rfl
@[simp] theorem State.inc_setup (s : State) (f : Fld) : (s.inc f).setup = s.setup := rfl

@[simp] theorem State.pushed_pending (s : State) (addr : Nat) : (s.pushed addr).pending = s.pending := rfl
@[simp] theorem State.pushed_now (s : State) (addr : Nat) : (s.pushed addr).now = s.now := rfl
@[simp] theorem State.pushed_frc (s : State) (addr : Nat) : (s.pushed addr).frc = s.frc := rfl
@[simp] theorem State.pushed_freeCtr (s : State) (addr : Nat) : (s.pushed addr).freeCtr = s.freeCtr := rfl
@[simp] theorem State.pushed_resp (s : State) (addr : Nat) : (s.pushed addr).resp = s.resp := rfl
@[simp] theorem State.pushed_regs (s : State) (addr : Nat) : (s.pushed addr).regs = s.regs := rfl
@[simp] theorem State.pushed_mem (s : State) (addr : Nat) : (s.pushed addr).mem = s.mem := rfl
@[simp] theorem State.pushed_fuse (s : State) (addr : Nat) : (s.pushed addr).fuse = s.fuse := rfl
@[simp] theorem State.pushed_lane (s : State) (addr : Nat) : (s.pushed addr).lane = s.lane := rfl
@[simp] theorem State.pushed_cyc (s : State) (addr : Nat) : (s.pushed addr).cyc = s.cyc := rfl
@[simp] theorem State.pushed_pair (s : State) (addr : Nat) : (s.pushed addr).pair = s.pair := rfl
@[simp] theorem State.pushed_uio (s : State) (addr : Nat) : (s.pushed addr).uio = s.uio := rfl
@[simp] theorem State.pushed_dve (s : State) (addr : Nat) : (s.pushed addr).dve = s.dve := rfl
@[simp] theorem State.pushed_stair (s : State) (addr : Nat) : (s.pushed addr).stair = s.stair := rfl
@[simp] theorem State.pushed_hall (s : State) (addr : Nat) : (s.pushed addr).hall = s.hall := rfl
@[simp] theorem State.pushed_can (s : State) (addr : Nat) : (s.pushed addr).can = s.can := rfl
@[simp] theorem State.pushed_time (s : State) (addr : Nat) : (s.pushed addr).time = s.time := rfl
@[simp] theorem State.pushed_net (s : State) (addr : Nat) : (s.pushed addr).net = s.net := rfl
@[simp] theorem State.pushed_vim (s : State) (addr : Nat) : (s.pushed addr).vim = s.vim := rfl
@[simp] theorem State.pushed_world (s : State) (addr : Nat) : (s.pushed addr).world = s.world := rfl
@[simp] theorem State.pushed_pantry (s : State) (addr : Nat) : (s.pushed addr).pantry = s.pantry := rfl
@[simp] theorem State.pushed_efuse (s : State) (addr : Nat) : (s.pushed addr).efuse = s.efuse := rfl
@[simp] theorem State.pushed_pwr (s : State) (addr : Nat) : (s.pushed addr).pwr = s.pwr := rfl
@[simp] theorem State.pushed_hearth (s : State) (addr : Nat) : (s.pushed addr).hearth = s.hearth := rfl
@[simp] theorem State.pushed_log (s : State) (addr : Nat) : (s.pushed addr).log = s.log := rfl
@[simp] theorem State.pushed_setup (s : State) (addr : Nat) : (s.pushed addr).setup = s.setup := rfl

@[simp] theorem State.store_pending (s : State) (a : Nat) (bs : List Nat) : (s.store a bs).pending = s.pending := rfl
@[simp] theorem State.store_now (s : State) (a : Nat) (bs : List Nat) : (s.store a bs).now = s.now := rfl
@[simp] theorem State.store_frc (s : State) (a : Nat) (bs : List Nat) : (s.store a bs).frc = s.frc := rfl
@[simp] theorem State.store_clk (s : State) (a : Nat) (bs : List Nat) : (s.store a bs).clk = s.clk := rfl
@[simp] theorem State.store_freeCtr (s : State) (a : Nat) (bs : List Nat) : (s.store a bs).freeCtr = s.freeCtr := rfl
@[simp] theorem State.store_resp (s : State) (a : Nat) (bs : List Nat) : (s.store a bs).resp = s.resp := rfl
@[simp] theorem State.store_regs (s : State) (a : Nat) (bs : List Nat) : (s.store a bs).regs = s.regs := rfl
@[simp] theorem State.store_fuse (s : State) (a : Nat) (bs : List Nat) : (s.store a bs).fuse = s.fuse := rfl
@[simp] theorem State.store_lane (s : State) (a : Nat) (bs : List Nat) : (s.store a bs).lane = s.lane := rfl
@[simp] theorem State.store_cyc (s : State) (a : Nat) (bs : List Nat) : (s.store a bs).cyc = s.cyc := rfl
@[simp] theorem State.store_pair (s : State) (a : Nat) (bs : List Nat) : (s.store a bs).pair = s.pair := rfl
@[simp] theorem State.store_uio (s : State) (a : Nat) (bs : List Nat) : (s.store a bs).uio = s.uio := rfl
@[simp] theorem State.store_dve (s : State) (a : Nat) (bs : List Nat) : (s.store a bs).dve = s.dve := rfl
@[simp] theorem State.store_stair (s : State) (a : Nat) (bs : List Nat) : (s.store a bs).stair = s.stair := rfl
@[simp] theorem State.store_hall (s : State) (a : Nat) (bs : List Nat) : (s.store a bs).hall = s.hall := rfl
@[simp] theorem State.store_can (s : State) (a : Nat) (bs : List Nat) : (s.store a bs).can = s.can := rfl
@[simp] theorem State.store_time (s : State) (a : Nat) (bs : List Nat) : (s.store a bs).time = s.time := rfl
@[simp] theorem State.store_net (s : State) (a : Nat) (bs : List Nat) : (s.store a bs).net = s.net := rfl
@[simp] theorem State.store_vim (s : State) (a : Nat) (bs : List Nat) : (s.store a bs).vim = s.vim := rfl
@[simp] theorem State.store_world (s : State) (a : Nat) (bs : List Nat) : (s.store a bs).world = s.world := rfl
@[simp] theorem State.store_pantry (s : State) (a : Nat) (bs : List Nat) : (s.store a bs).pantry = s.pantry := rfl
@[simp] theorem State.store_efuse (s : State) (a : Nat) (bs : List Nat) : (s.store a bs).efuse = s.efuse := rfl
@[simp] theorem State.store_pwr (s : State) (a : Nat) (bs : List Nat) : (s.store a bs).pwr = s.pwr := rfl
@[simp] theorem State.store_hearth (s : State) (a : Nat) (bs : List Nat) : (s.store a bs).hearth = s.hearth := rfl
@[simp] theorem State.store_log (s : State) (a : Nat) (bs : List Nat) : (s.store a bs).log = s.log := rfl
@[simp] theorem State.store_setup (s : State) (a : Nat) (bs : List Nat) : (s.store a bs).setup = s.setup := rfl

@[simp] theorem State.toPort_pending (s : State) (r : Record) : (s.toPort r).pending = s.pending := rfl
@[simp] theorem State.toPort_now (s : State) (r : Record) : (s.toPort r).now = s.now := rfl
@[simp] theorem State.toPort_frc (s : State) (r : Record) : (s.toPort r).frc = s.frc := rfl
@[simp] theorem State.toPort_clk (s : State) (r : Record) : (s.toPort r).clk = s.clk := rfl
@[simp] theorem State.toPort_freeCtr (s : State) (r : Record) : (s.toPort r).freeCtr = s.freeCtr := rfl
@[simp] theorem State.toPort_resp (s : State) (r : Record) : (s.toPort r).resp = s.resp := rfl
@[simp] theorem State.toPort_regs (s : State) (r : Record) : (s.toPort r).regs = s.regs := rfl
@[simp] theorem State.toPort_mem (s : State) (r : Record) : (s.toPort r).mem = s.mem := rfl
@[simp] theorem State.toPort_fuse (s : State) (r : Record) : (s.toPort r).fuse = s.fuse := rfl
@[simp] theorem State.toPort_lane (s : State) (r : Record) : (s.toPort r).lane = s.lane := rfl
@[simp] theorem State.toPort_cyc (s : State) (r : Record) : (s.toPort r).cyc = s.cyc := rfl
@[simp] theorem State.toPort_pair (s : State) (r : Record) : (s.toPort r).pair = s.pair := rfl
@[simp] theorem State.toPort_uio (s : State) (r : Record) : (s.toPort r).uio = s.uio := rfl
@[simp] theorem State.toPort_dve (s : State) (r : Record) : (s.toPort r).dve = s.dve := rfl
@[simp] theorem State.toPort_stair (s : State) (r : Record) : (s.toPort r).stair = s.stair := rfl
@[simp] theorem State.toPort_hall (s : State) (r : Record) : (s.toPort r).hall = s.hall := rfl
@[simp] theorem State.toPort_can (s : State) (r : Record) : (s.toPort r).can = s.can := rfl
@[simp] theorem State.toPort_time (s : State) (r : Record) : (s.toPort r).time = s.time := rfl
@[simp] theorem State.toPort_net (s : State) (r : Record) : (s.toPort r).net = s.net := rfl
@[simp] theorem State.toPort_vim (s : State) (r : Record) : (s.toPort r).vim = s.vim := rfl
@[simp] theorem State.toPort_world (s : State) (r : Record) : (s.toPort r).world = s.world := rfl
@[simp] theorem State.toPort_pantry (s : State) (r : Record) : (s.toPort r).pantry = s.pantry := rfl
@[simp] theorem State.toPort_efuse (s : State) (r : Record) : (s.toPort r).efuse = s.efuse := rfl
@[simp] theorem State.toPort_pwr (s : State) (r : Record) : (s.toPort r).pwr = s.pwr := rfl
@[simp] theorem State.toPort_hearth (s : State) (r : Record) : (s.toPort r).hearth = s.hearth := rfl
@[simp] theorem State.toPort_setup (s : State) (r : Record) : (s.toPort r).setup = s.setup := rfl

@[simp] theorem State.record_pending (s : State) (cls kind sev subj st : Nat) (vals : List Nat) (src : Nat) : (s.record cls kind sev subj st vals src).pending = s.pending := rfl
@[simp] theorem State.record_now (s : State) (cls kind sev subj st : Nat) (vals : List Nat) (src : Nat) : (s.record cls kind sev subj st vals src).now = s.now := rfl
@[simp] theorem State.record_frc (s : State) (cls kind sev subj st : Nat) (vals : List Nat) (src : Nat) : (s.record cls kind sev subj st vals src).frc = s.frc := rfl
@[simp] theorem State.record_clk (s : State) (cls kind sev subj st : Nat) (vals : List Nat) (src : Nat) : (s.record cls kind sev subj st vals src).clk = s.clk := rfl
@[simp] theorem State.record_freeCtr (s : State) (cls kind sev subj st : Nat) (vals : List Nat) (src : Nat) : (s.record cls kind sev subj st vals src).freeCtr = s.freeCtr := rfl
@[simp] theorem State.record_resp (s : State) (cls kind sev subj st : Nat) (vals : List Nat) (src : Nat) : (s.record cls kind sev subj st vals src).resp = s.resp := rfl
@[simp] theorem State.record_regs (s : State) (cls kind sev subj st : Nat) (vals : List Nat) (src : Nat) : (s.record cls kind sev subj st vals src).regs = s.regs := rfl
@[simp] theorem State.record_mem (s : State) (cls kind sev subj st : Nat) (vals : List Nat) (src : Nat) : (s.record cls kind sev subj st vals src).mem = s.mem := rfl
@[simp] theorem State.record_fuse (s : State) (cls kind sev subj st : Nat) (vals : List Nat) (src : Nat) : (s.record cls kind sev subj st vals src).fuse = s.fuse := rfl
@[simp] theorem State.record_lane (s : State) (cls kind sev subj st : Nat) (vals : List Nat) (src : Nat) : (s.record cls kind sev subj st vals src).lane = s.lane := rfl
@[simp] theorem State.record_cyc (s : State) (cls kind sev subj st : Nat) (vals : List Nat) (src : Nat) : (s.record cls kind sev subj st vals src).cyc = s.cyc := rfl
@[simp] theorem State.record_pair (s : State) (cls kind sev subj st : Nat) (vals : List Nat) (src : Nat) : (s.record cls kind sev subj st vals src).pair = s.pair := rfl
@[simp] theorem State.record_uio (s : State) (cls kind sev subj st : Nat) (vals : List Nat) (src : Nat) : (s.record cls kind sev subj st vals src).uio = s.uio := rfl
@[simp] theorem State.record_dve (s : State) (cls kind sev subj st : Nat) (vals : List Nat) (src : Nat) : (s.record cls kind sev subj st vals src).dve = s.dve := rfl
@[simp] theorem State.record_stair (s : State) (cls kind sev subj st : Nat) (vals : List Nat) (src : Nat) : (s.record cls kind sev subj st vals src).stair = s.stair := rfl
@[simp] theorem State.record_hall (s : State) (cls kind sev subj st : Nat) (vals : List Nat) (src : Nat) : (s.record cls kind sev subj st vals src).hall = s.hall := rfl
@[simp] theorem State.record_can (s : State) (cls kind sev subj st : Nat) (vals : List Nat) (src : Nat) : (s.record cls kind sev subj st vals src).can = s.can := rfl
@[simp] theorem State.record_time (s : State) (cls kind sev subj st : Nat) (vals : List Nat) (src : Nat) : (s.record cls kind sev subj st vals src).time = s.time := rfl
@[simp] theorem State.record_net (s : State) (cls kind sev subj st : Nat) (vals : List Nat) (src : Nat) : (s.record cls kind sev subj st vals src).net = s.net := rfl
@[simp] theorem State.record_vim (s : State) (cls kind sev subj st : Nat) (vals : List Nat) (src : Nat) : (s.record cls kind sev subj st vals src).vim = s.vim := rfl
@[simp] theorem State.record_world (s : State) (cls kind sev subj st : Nat) (vals : List Nat) (src : Nat) : (s.record cls kind sev subj st vals src).world = s.world := rfl
@[simp] theorem State.record_pantry (s : State) (cls kind sev subj st : Nat) (vals : List Nat) (src : Nat) : (s.record cls kind sev subj st vals src).pantry = s.pantry := rfl
@[simp] theorem State.record_efuse (s : State) (cls kind sev subj st : Nat) (vals : List Nat) (src : Nat) : (s.record cls kind sev subj st vals src).efuse = s.efuse := rfl
@[simp] theorem State.record_pwr (s : State) (cls kind sev subj st : Nat) (vals : List Nat) (src : Nat) : (s.record cls kind sev subj st vals src).pwr = s.pwr := rfl
@[simp] theorem State.record_hearth (s : State) (cls kind sev subj st : Nat) (vals : List Nat) (src : Nat) : (s.record cls kind sev subj st vals src).hearth = s.hearth := rfl
@[simp] theorem State.record_setup (s : State) (cls kind sev subj st : Nat) (vals : List Nat) (src : Nat) : (s.record cls kind sev subj st vals src).setup = s.setup := rfl

@[simp] theorem State.modEng_pending (s : State) (e : Nat) (f : Engine → Engine) : (s.modEng e f).pending = s.pending := rfl
@[simp] theorem State.modEng_now (s : State) (e : Nat) (f : Engine → Engine) : (s.modEng e f).now = s.now := rfl
@[simp] theorem State.modEng_frc (s : State) (e : Nat) (f : Engine → Engine) : (s.modEng e f).frc = s.frc := rfl
@[simp] theorem State.modEng_clk (s : State) (e : Nat) (f : Engine → Engine) : (s.modEng e f).clk = s.clk := rfl
@[simp] theorem State.modEng_freeCtr (s : State) (e : Nat) (f : Engine → Engine) : (s.modEng e f).freeCtr = s.freeCtr := rfl
@[simp] theorem State.modEng_resp (s : State) (e : Nat) (f : Engine → Engine) : (s.modEng e f).resp = s.resp := rfl
@[simp] theorem State.modEng_regs (s : State) (e : Nat) (f : Engine → Engine) : (s.modEng e f).regs = s.regs := rfl
@[simp] theorem State.modEng_mem (s : State) (e : Nat) (f : Engine → Engine) : (s.modEng e f).mem = s.mem := rfl
@[simp] theorem State.modEng_fuse (s : State) (e : Nat) (f : Engine → Engine) : (s.modEng e f).fuse = s.fuse := rfl
@[simp] theorem State.modEng_lane (s : State) (e : Nat) (f : Engine → Engine) : (s.modEng e f).lane = s.lane := rfl
@[simp] theorem State.modEng_cyc (s : State) (e : Nat) (f : Engine → Engine) : (s.modEng e f).cyc = s.cyc := rfl
@[simp] theorem State.modEng_pair (s : State) (e : Nat) (f : Engine → Engine) : (s.modEng e f).pair = s.pair := rfl
@[simp] theorem State.modEng_uio (s : State) (e : Nat) (f : Engine → Engine) : (s.modEng e f).uio = s.uio := rfl
@[simp] theorem State.modEng_stair (s : State) (e : Nat) (f : Engine → Engine) : (s.modEng e f).stair = s.stair := rfl
@[simp] theorem State.modEng_hall (s : State) (e : Nat) (f : Engine → Engine) : (s.modEng e f).hall = s.hall := rfl
@[simp] theorem State.modEng_can (s : State) (e : Nat) (f : Engine → Engine) : (s.modEng e f).can = s.can := rfl
@[simp] theorem State.modEng_time (s : State) (e : Nat) (f : Engine → Engine) : (s.modEng e f).time = s.time := rfl
@[simp] theorem State.modEng_net (s : State) (e : Nat) (f : Engine → Engine) : (s.modEng e f).net = s.net := rfl
@[simp] theorem State.modEng_vim (s : State) (e : Nat) (f : Engine → Engine) : (s.modEng e f).vim = s.vim := rfl
@[simp] theorem State.modEng_world (s : State) (e : Nat) (f : Engine → Engine) : (s.modEng e f).world = s.world := rfl
@[simp] theorem State.modEng_pantry (s : State) (e : Nat) (f : Engine → Engine) : (s.modEng e f).pantry = s.pantry := rfl
@[simp] theorem State.modEng_efuse (s : State) (e : Nat) (f : Engine → Engine) : (s.modEng e f).efuse = s.efuse := rfl
@[simp] theorem State.modEng_pwr (s : State) (e : Nat) (f : Engine → Engine) : (s.modEng e f).pwr = s.pwr := rfl
@[simp] theorem State.modEng_hearth (s : State) (e : Nat) (f : Engine → Engine) : (s.modEng e f).hearth = s.hearth := rfl
@[simp] theorem State.modEng_log (s : State) (e : Nat) (f : Engine → Engine) : (s.modEng e f).log = s.log := rfl
@[simp] theorem State.modEng_setup (s : State) (e : Nat) (f : Engine → Engine) : (s.modEng e f).setup = s.setup := rfl

@[simp] theorem State.modChan_pending (s : State) (n : Nat) (f : Channel → Channel) : (s.modChan n f).pending = s.pending := rfl
@[simp] theorem State.modChan_now (s : State) (n : Nat) (f : Channel → Channel) : (s.modChan n f).now = s.now := rfl
@[simp] theorem State.modChan_frc (s : State) (n : Nat) (f : Channel → Channel) : (s.modChan n f).frc = s.frc := rfl
@[simp] theorem State.modChan_clk (s : State) (n : Nat) (f : Channel → Channel) : (s.modChan n f).clk = s.clk := rfl
@[simp] theorem State.modChan_freeCtr (s : State) (n : Nat) (f : Channel → Channel) : (s.modChan n f).freeCtr = s.freeCtr := rfl
@[simp] theorem State.modChan_resp (s : State) (n : Nat) (f : Channel → Channel) : (s.modChan n f).resp = s.resp := rfl
@[simp] theorem State.modChan_regs (s : State) (n : Nat) (f : Channel → Channel) : (s.modChan n f).regs = s.regs := rfl
@[simp] theorem State.modChan_mem (s : State) (n : Nat) (f : Channel → Channel) : (s.modChan n f).mem = s.mem := rfl
@[simp] theorem State.modChan_lane (s : State) (n : Nat) (f : Channel → Channel) : (s.modChan n f).lane = s.lane := rfl
@[simp] theorem State.modChan_cyc (s : State) (n : Nat) (f : Channel → Channel) : (s.modChan n f).cyc = s.cyc := rfl
@[simp] theorem State.modChan_pair (s : State) (n : Nat) (f : Channel → Channel) : (s.modChan n f).pair = s.pair := rfl
@[simp] theorem State.modChan_uio (s : State) (n : Nat) (f : Channel → Channel) : (s.modChan n f).uio = s.uio := rfl
@[simp] theorem State.modChan_dve (s : State) (n : Nat) (f : Channel → Channel) : (s.modChan n f).dve = s.dve := rfl
@[simp] theorem State.modChan_stair (s : State) (n : Nat) (f : Channel → Channel) : (s.modChan n f).stair = s.stair := rfl
@[simp] theorem State.modChan_hall (s : State) (n : Nat) (f : Channel → Channel) : (s.modChan n f).hall = s.hall := rfl
@[simp] theorem State.modChan_can (s : State) (n : Nat) (f : Channel → Channel) : (s.modChan n f).can = s.can := rfl
@[simp] theorem State.modChan_time (s : State) (n : Nat) (f : Channel → Channel) : (s.modChan n f).time = s.time := rfl
@[simp] theorem State.modChan_net (s : State) (n : Nat) (f : Channel → Channel) : (s.modChan n f).net = s.net := rfl
@[simp] theorem State.modChan_vim (s : State) (n : Nat) (f : Channel → Channel) : (s.modChan n f).vim = s.vim := rfl
@[simp] theorem State.modChan_world (s : State) (n : Nat) (f : Channel → Channel) : (s.modChan n f).world = s.world := rfl
@[simp] theorem State.modChan_pantry (s : State) (n : Nat) (f : Channel → Channel) : (s.modChan n f).pantry = s.pantry := rfl
@[simp] theorem State.modChan_efuse (s : State) (n : Nat) (f : Channel → Channel) : (s.modChan n f).efuse = s.efuse := rfl
@[simp] theorem State.modChan_pwr (s : State) (n : Nat) (f : Channel → Channel) : (s.modChan n f).pwr = s.pwr := rfl
@[simp] theorem State.modChan_hearth (s : State) (n : Nat) (f : Channel → Channel) : (s.modChan n f).hearth = s.hearth := rfl
@[simp] theorem State.modChan_log (s : State) (n : Nat) (f : Channel → Channel) : (s.modChan n f).log = s.log := rfl
@[simp] theorem State.modChan_setup (s : State) (n : Nat) (f : Channel → Channel) : (s.modChan n f).setup = s.setup := rfl

@[simp] theorem State.modLn_pending (s : State) (l : LaneId) (f : Lane → Lane) : (s.modLn l f).pending = s.pending := rfl
@[simp] theorem State.modLn_now (s : State) (l : LaneId) (f : Lane → Lane) : (s.modLn l f).now = s.now := rfl
@[simp] theorem State.modLn_frc (s : State) (l : LaneId) (f : Lane → Lane) : (s.modLn l f).frc = s.frc := rfl
@[simp] theorem State.modLn_clk (s : State) (l : LaneId) (f : Lane → Lane) : (s.modLn l f).clk = s.clk := rfl
@[simp] theorem State.modLn_freeCtr (s : State) (l : LaneId) (f : Lane → Lane) : (s.modLn l f).freeCtr = s.freeCtr := rfl
@[simp] theorem State.modLn_resp (s : State) (l : LaneId) (f : Lane → Lane) : (s.modLn l f).resp = s.resp := rfl
@[simp] theorem State.modLn_regs (s : State) (l : LaneId) (f : Lane → Lane) : (s.modLn l f).regs = s.regs := rfl
@[simp] theorem State.modLn_mem (s : State) (l : LaneId) (f : Lane → Lane) : (s.modLn l f).mem = s.mem := rfl
@[simp] theorem State.modLn_fuse (s : State) (l : LaneId) (f : Lane → Lane) : (s.modLn l f).fuse = s.fuse := rfl
@[simp] theorem State.modLn_cyc (s : State) (l : LaneId) (f : Lane → Lane) : (s.modLn l f).cyc = s.cyc := rfl
@[simp] theorem State.modLn_pair (s : State) (l : LaneId) (f : Lane → Lane) : (s.modLn l f).pair = s.pair := rfl
@[simp] theorem State.modLn_uio (s : State) (l : LaneId) (f : Lane → Lane) : (s.modLn l f).uio = s.uio := rfl
@[simp] theorem State.modLn_dve (s : State) (l : LaneId) (f : Lane → Lane) : (s.modLn l f).dve = s.dve := rfl
@[simp] theorem State.modLn_stair (s : State) (l : LaneId) (f : Lane → Lane) : (s.modLn l f).stair = s.stair := rfl
@[simp] theorem State.modLn_hall (s : State) (l : LaneId) (f : Lane → Lane) : (s.modLn l f).hall = s.hall := rfl
@[simp] theorem State.modLn_can (s : State) (l : LaneId) (f : Lane → Lane) : (s.modLn l f).can = s.can := rfl
@[simp] theorem State.modLn_time (s : State) (l : LaneId) (f : Lane → Lane) : (s.modLn l f).time = s.time := rfl
@[simp] theorem State.modLn_net (s : State) (l : LaneId) (f : Lane → Lane) : (s.modLn l f).net = s.net := rfl
@[simp] theorem State.modLn_vim (s : State) (l : LaneId) (f : Lane → Lane) : (s.modLn l f).vim = s.vim := rfl
@[simp] theorem State.modLn_world (s : State) (l : LaneId) (f : Lane → Lane) : (s.modLn l f).world = s.world := rfl
@[simp] theorem State.modLn_pantry (s : State) (l : LaneId) (f : Lane → Lane) : (s.modLn l f).pantry = s.pantry := rfl
@[simp] theorem State.modLn_efuse (s : State) (l : LaneId) (f : Lane → Lane) : (s.modLn l f).efuse = s.efuse := rfl
@[simp] theorem State.modLn_pwr (s : State) (l : LaneId) (f : Lane → Lane) : (s.modLn l f).pwr = s.pwr := rfl
@[simp] theorem State.modLn_hearth (s : State) (l : LaneId) (f : Lane → Lane) : (s.modLn l f).hearth = s.hearth := rfl
@[simp] theorem State.modLn_log (s : State) (l : LaneId) (f : Lane → Lane) : (s.modLn l f).log = s.log := rfl
@[simp] theorem State.modLn_setup (s : State) (l : LaneId) (f : Lane → Lane) : (s.modLn l f).setup = s.setup := rfl

@[simp] theorem State.modCtl_pending (s : State) (c : Nat) (f : CanCtl → CanCtl) : (s.modCtl c f).pending = s.pending := rfl
@[simp] theorem State.modCtl_now (s : State) (c : Nat) (f : CanCtl → CanCtl) : (s.modCtl c f).now = s.now := rfl
@[simp] theorem State.modCtl_frc (s : State) (c : Nat) (f : CanCtl → CanCtl) : (s.modCtl c f).frc = s.frc := rfl
@[simp] theorem State.modCtl_clk (s : State) (c : Nat) (f : CanCtl → CanCtl) : (s.modCtl c f).clk = s.clk := rfl
@[simp] theorem State.modCtl_freeCtr (s : State) (c : Nat) (f : CanCtl → CanCtl) : (s.modCtl c f).freeCtr = s.freeCtr := rfl
@[simp] theorem State.modCtl_resp (s : State) (c : Nat) (f : CanCtl → CanCtl) : (s.modCtl c f).resp = s.resp := rfl
@[simp] theorem State.modCtl_regs (s : State) (c : Nat) (f : CanCtl → CanCtl) : (s.modCtl c f).regs = s.regs := rfl
@[simp] theorem State.modCtl_mem (s : State) (c : Nat) (f : CanCtl → CanCtl) : (s.modCtl c f).mem = s.mem := rfl
@[simp] theorem State.modCtl_fuse (s : State) (c : Nat) (f : CanCtl → CanCtl) : (s.modCtl c f).fuse = s.fuse := rfl
@[simp] theorem State.modCtl_lane (s : State) (c : Nat) (f : CanCtl → CanCtl) : (s.modCtl c f).lane = s.lane := rfl
@[simp] theorem State.modCtl_cyc (s : State) (c : Nat) (f : CanCtl → CanCtl) : (s.modCtl c f).cyc = s.cyc := rfl
@[simp] theorem State.modCtl_pair (s : State) (c : Nat) (f : CanCtl → CanCtl) : (s.modCtl c f).pair = s.pair := rfl
@[simp] theorem State.modCtl_uio (s : State) (c : Nat) (f : CanCtl → CanCtl) : (s.modCtl c f).uio = s.uio := rfl
@[simp] theorem State.modCtl_dve (s : State) (c : Nat) (f : CanCtl → CanCtl) : (s.modCtl c f).dve = s.dve := rfl
@[simp] theorem State.modCtl_stair (s : State) (c : Nat) (f : CanCtl → CanCtl) : (s.modCtl c f).stair = s.stair := rfl
@[simp] theorem State.modCtl_hall (s : State) (c : Nat) (f : CanCtl → CanCtl) : (s.modCtl c f).hall = s.hall := rfl
@[simp] theorem State.modCtl_time (s : State) (c : Nat) (f : CanCtl → CanCtl) : (s.modCtl c f).time = s.time := rfl
@[simp] theorem State.modCtl_net (s : State) (c : Nat) (f : CanCtl → CanCtl) : (s.modCtl c f).net = s.net := rfl
@[simp] theorem State.modCtl_vim (s : State) (c : Nat) (f : CanCtl → CanCtl) : (s.modCtl c f).vim = s.vim := rfl
@[simp] theorem State.modCtl_world (s : State) (c : Nat) (f : CanCtl → CanCtl) : (s.modCtl c f).world = s.world := rfl
@[simp] theorem State.modCtl_pantry (s : State) (c : Nat) (f : CanCtl → CanCtl) : (s.modCtl c f).pantry = s.pantry := rfl
@[simp] theorem State.modCtl_efuse (s : State) (c : Nat) (f : CanCtl → CanCtl) : (s.modCtl c f).efuse = s.efuse := rfl
@[simp] theorem State.modCtl_pwr (s : State) (c : Nat) (f : CanCtl → CanCtl) : (s.modCtl c f).pwr = s.pwr := rfl
@[simp] theorem State.modCtl_hearth (s : State) (c : Nat) (f : CanCtl → CanCtl) : (s.modCtl c f).hearth = s.hearth := rfl
@[simp] theorem State.modCtl_log (s : State) (c : Nat) (f : CanCtl → CanCtl) : (s.modCtl c f).log = s.log := rfl
@[simp] theorem State.modCtl_setup (s : State) (c : Nat) (f : CanCtl → CanCtl) : (s.modCtl c f).setup = s.setup := rfl

@[simp] theorem State.modInst_pending (s : State) (i : Nat) (f : Inst → Inst) : (s.modInst i f).pending = s.pending := rfl
@[simp] theorem State.modInst_now (s : State) (i : Nat) (f : Inst → Inst) : (s.modInst i f).now = s.now := rfl
@[simp] theorem State.modInst_frc (s : State) (i : Nat) (f : Inst → Inst) : (s.modInst i f).frc = s.frc := rfl
@[simp] theorem State.modInst_clk (s : State) (i : Nat) (f : Inst → Inst) : (s.modInst i f).clk = s.clk := rfl
@[simp] theorem State.modInst_freeCtr (s : State) (i : Nat) (f : Inst → Inst) : (s.modInst i f).freeCtr = s.freeCtr := rfl
@[simp] theorem State.modInst_resp (s : State) (i : Nat) (f : Inst → Inst) : (s.modInst i f).resp = s.resp := rfl
@[simp] theorem State.modInst_regs (s : State) (i : Nat) (f : Inst → Inst) : (s.modInst i f).regs = s.regs := rfl
@[simp] theorem State.modInst_mem (s : State) (i : Nat) (f : Inst → Inst) : (s.modInst i f).mem = s.mem := rfl
@[simp] theorem State.modInst_fuse (s : State) (i : Nat) (f : Inst → Inst) : (s.modInst i f).fuse = s.fuse := rfl
@[simp] theorem State.modInst_lane (s : State) (i : Nat) (f : Inst → Inst) : (s.modInst i f).lane = s.lane := rfl
@[simp] theorem State.modInst_cyc (s : State) (i : Nat) (f : Inst → Inst) : (s.modInst i f).cyc = s.cyc := rfl
@[simp] theorem State.modInst_pair (s : State) (i : Nat) (f : Inst → Inst) : (s.modInst i f).pair = s.pair := rfl
@[simp] theorem State.modInst_uio (s : State) (i : Nat) (f : Inst → Inst) : (s.modInst i f).uio = s.uio := rfl
@[simp] theorem State.modInst_dve (s : State) (i : Nat) (f : Inst → Inst) : (s.modInst i f).dve = s.dve := rfl
@[simp] theorem State.modInst_stair (s : State) (i : Nat) (f : Inst → Inst) : (s.modInst i f).stair = s.stair := rfl
@[simp] theorem State.modInst_hall (s : State) (i : Nat) (f : Inst → Inst) : (s.modInst i f).hall = s.hall := rfl
@[simp] theorem State.modInst_can (s : State) (i : Nat) (f : Inst → Inst) : (s.modInst i f).can = s.can := rfl
@[simp] theorem State.modInst_time (s : State) (i : Nat) (f : Inst → Inst) : (s.modInst i f).time = s.time := rfl
@[simp] theorem State.modInst_net (s : State) (i : Nat) (f : Inst → Inst) : (s.modInst i f).net = s.net := rfl
@[simp] theorem State.modInst_world (s : State) (i : Nat) (f : Inst → Inst) : (s.modInst i f).world = s.world := rfl
@[simp] theorem State.modInst_pantry (s : State) (i : Nat) (f : Inst → Inst) : (s.modInst i f).pantry = s.pantry := rfl
@[simp] theorem State.modInst_efuse (s : State) (i : Nat) (f : Inst → Inst) : (s.modInst i f).efuse = s.efuse := rfl
@[simp] theorem State.modInst_pwr (s : State) (i : Nat) (f : Inst → Inst) : (s.modInst i f).pwr = s.pwr := rfl
@[simp] theorem State.modInst_hearth (s : State) (i : Nat) (f : Inst → Inst) : (s.modInst i f).hearth = s.hearth := rfl
@[simp] theorem State.modInst_log (s : State) (i : Nat) (f : Inst → Inst) : (s.modInst i f).log = s.log := rfl
@[simp] theorem State.modInst_setup (s : State) (i : Nat) (f : Inst → Inst) : (s.modInst i f).setup = s.setup := rfl

@[simp] theorem State.modPool_pending (s : State) (q : Nat) (f : Pool → Pool) : (s.modPool q f).pending = s.pending := rfl
@[simp] theorem State.modPool_now (s : State) (q : Nat) (f : Pool → Pool) : (s.modPool q f).now = s.now := rfl
@[simp] theorem State.modPool_frc (s : State) (q : Nat) (f : Pool → Pool) : (s.modPool q f).frc = s.frc := rfl
@[simp] theorem State.modPool_clk (s : State) (q : Nat) (f : Pool → Pool) : (s.modPool q f).clk = s.clk := rfl
@[simp] theorem State.modPool_freeCtr (s : State) (q : Nat) (f : Pool → Pool) : (s.modPool q f).freeCtr = s.freeCtr := rfl
@[simp] theorem State.modPool_resp (s : State) (q : Nat) (f : Pool → Pool) : (s.modPool q f).resp = s.resp := rfl
@[simp] theorem State.modPool_regs (s : State) (q : Nat) (f : Pool → Pool) : (s.modPool q f).regs = s.regs := rfl
@[simp] theorem State.modPool_mem (s : State) (q : Nat) (f : Pool → Pool) : (s.modPool q f).mem = s.mem := rfl
@[simp] theorem State.modPool_fuse (s : State) (q : Nat) (f : Pool → Pool) : (s.modPool q f).fuse = s.fuse := rfl
@[simp] theorem State.modPool_lane (s : State) (q : Nat) (f : Pool → Pool) : (s.modPool q f).lane = s.lane := rfl
@[simp] theorem State.modPool_cyc (s : State) (q : Nat) (f : Pool → Pool) : (s.modPool q f).cyc = s.cyc := rfl
@[simp] theorem State.modPool_pair (s : State) (q : Nat) (f : Pool → Pool) : (s.modPool q f).pair = s.pair := rfl
@[simp] theorem State.modPool_uio (s : State) (q : Nat) (f : Pool → Pool) : (s.modPool q f).uio = s.uio := rfl
@[simp] theorem State.modPool_dve (s : State) (q : Nat) (f : Pool → Pool) : (s.modPool q f).dve = s.dve := rfl
@[simp] theorem State.modPool_stair (s : State) (q : Nat) (f : Pool → Pool) : (s.modPool q f).stair = s.stair := rfl
@[simp] theorem State.modPool_hall (s : State) (q : Nat) (f : Pool → Pool) : (s.modPool q f).hall = s.hall := rfl
@[simp] theorem State.modPool_can (s : State) (q : Nat) (f : Pool → Pool) : (s.modPool q f).can = s.can := rfl
@[simp] theorem State.modPool_time (s : State) (q : Nat) (f : Pool → Pool) : (s.modPool q f).time = s.time := rfl
@[simp] theorem State.modPool_net (s : State) (q : Nat) (f : Pool → Pool) : (s.modPool q f).net = s.net := rfl
@[simp] theorem State.modPool_world (s : State) (q : Nat) (f : Pool → Pool) : (s.modPool q f).world = s.world := rfl
@[simp] theorem State.modPool_pantry (s : State) (q : Nat) (f : Pool → Pool) : (s.modPool q f).pantry = s.pantry := rfl
@[simp] theorem State.modPool_efuse (s : State) (q : Nat) (f : Pool → Pool) : (s.modPool q f).efuse = s.efuse := rfl
@[simp] theorem State.modPool_pwr (s : State) (q : Nat) (f : Pool → Pool) : (s.modPool q f).pwr = s.pwr := rfl
@[simp] theorem State.modPool_hearth (s : State) (q : Nat) (f : Pool → Pool) : (s.modPool q f).hearth = s.hearth := rfl
@[simp] theorem State.modPool_log (s : State) (q : Nat) (f : Pool → Pool) : (s.modPool q f).log = s.log := rfl
@[simp] theorem State.modPool_setup (s : State) (q : Nat) (f : Pool → Pool) : (s.modPool q f).setup = s.setup := rfl

@[simp] theorem State.modPwr_pending (s : State) (f : PowerSt → PowerSt) : (s.modPwr f).pending = s.pending := rfl
@[simp] theorem State.modPwr_now (s : State) (f : PowerSt → PowerSt) : (s.modPwr f).now = s.now := rfl
@[simp] theorem State.modPwr_frc (s : State) (f : PowerSt → PowerSt) : (s.modPwr f).frc = s.frc := rfl
@[simp] theorem State.modPwr_clk (s : State) (f : PowerSt → PowerSt) : (s.modPwr f).clk = s.clk := rfl
@[simp] theorem State.modPwr_freeCtr (s : State) (f : PowerSt → PowerSt) : (s.modPwr f).freeCtr = s.freeCtr := rfl
@[simp] theorem State.modPwr_resp (s : State) (f : PowerSt → PowerSt) : (s.modPwr f).resp = s.resp := rfl
@[simp] theorem State.modPwr_regs (s : State) (f : PowerSt → PowerSt) : (s.modPwr f).regs = s.regs := rfl
@[simp] theorem State.modPwr_mem (s : State) (f : PowerSt → PowerSt) : (s.modPwr f).mem = s.mem := rfl
@[simp] theorem State.modPwr_fuse (s : State) (f : PowerSt → PowerSt) : (s.modPwr f).fuse = s.fuse := rfl
@[simp] theorem State.modPwr_lane (s : State) (f : PowerSt → PowerSt) : (s.modPwr f).lane = s.lane := rfl
@[simp] theorem State.modPwr_cyc (s : State) (f : PowerSt → PowerSt) : (s.modPwr f).cyc = s.cyc := rfl
@[simp] theorem State.modPwr_pair (s : State) (f : PowerSt → PowerSt) : (s.modPwr f).pair = s.pair := rfl
@[simp] theorem State.modPwr_uio (s : State) (f : PowerSt → PowerSt) : (s.modPwr f).uio = s.uio := rfl
@[simp] theorem State.modPwr_dve (s : State) (f : PowerSt → PowerSt) : (s.modPwr f).dve = s.dve := rfl
@[simp] theorem State.modPwr_stair (s : State) (f : PowerSt → PowerSt) : (s.modPwr f).stair = s.stair := rfl
@[simp] theorem State.modPwr_hall (s : State) (f : PowerSt → PowerSt) : (s.modPwr f).hall = s.hall := rfl
@[simp] theorem State.modPwr_can (s : State) (f : PowerSt → PowerSt) : (s.modPwr f).can = s.can := rfl
@[simp] theorem State.modPwr_time (s : State) (f : PowerSt → PowerSt) : (s.modPwr f).time = s.time := rfl
@[simp] theorem State.modPwr_net (s : State) (f : PowerSt → PowerSt) : (s.modPwr f).net = s.net := rfl
@[simp] theorem State.modPwr_vim (s : State) (f : PowerSt → PowerSt) : (s.modPwr f).vim = s.vim := rfl
@[simp] theorem State.modPwr_world (s : State) (f : PowerSt → PowerSt) : (s.modPwr f).world = s.world := rfl
@[simp] theorem State.modPwr_pantry (s : State) (f : PowerSt → PowerSt) : (s.modPwr f).pantry = s.pantry := rfl
@[simp] theorem State.modPwr_efuse (s : State) (f : PowerSt → PowerSt) : (s.modPwr f).efuse = s.efuse := rfl
@[simp] theorem State.modPwr_hearth (s : State) (f : PowerSt → PowerSt) : (s.modPwr f).hearth = s.hearth := rfl
@[simp] theorem State.modPwr_log (s : State) (f : PowerSt → PowerSt) : (s.modPwr f).log = s.log := rfl
@[simp] theorem State.modPwr_setup (s : State) (f : PowerSt → PowerSt) : (s.modPwr f).setup = s.setup := rfl

@[simp] theorem State.modHearth_pending (s : State) (f : HearthSt → HearthSt) : (s.modHearth f).pending = s.pending := rfl
@[simp] theorem State.modHearth_now (s : State) (f : HearthSt → HearthSt) : (s.modHearth f).now = s.now := rfl
@[simp] theorem State.modHearth_frc (s : State) (f : HearthSt → HearthSt) : (s.modHearth f).frc = s.frc := rfl
@[simp] theorem State.modHearth_clk (s : State) (f : HearthSt → HearthSt) : (s.modHearth f).clk = s.clk := rfl
@[simp] theorem State.modHearth_freeCtr (s : State) (f : HearthSt → HearthSt) : (s.modHearth f).freeCtr = s.freeCtr := rfl
@[simp] theorem State.modHearth_resp (s : State) (f : HearthSt → HearthSt) : (s.modHearth f).resp = s.resp := rfl
@[simp] theorem State.modHearth_regs (s : State) (f : HearthSt → HearthSt) : (s.modHearth f).regs = s.regs := rfl
@[simp] theorem State.modHearth_mem (s : State) (f : HearthSt → HearthSt) : (s.modHearth f).mem = s.mem := rfl
@[simp] theorem State.modHearth_fuse (s : State) (f : HearthSt → HearthSt) : (s.modHearth f).fuse = s.fuse := rfl
@[simp] theorem State.modHearth_lane (s : State) (f : HearthSt → HearthSt) : (s.modHearth f).lane = s.lane := rfl
@[simp] theorem State.modHearth_cyc (s : State) (f : HearthSt → HearthSt) : (s.modHearth f).cyc = s.cyc := rfl
@[simp] theorem State.modHearth_pair (s : State) (f : HearthSt → HearthSt) : (s.modHearth f).pair = s.pair := rfl
@[simp] theorem State.modHearth_uio (s : State) (f : HearthSt → HearthSt) : (s.modHearth f).uio = s.uio := rfl
@[simp] theorem State.modHearth_dve (s : State) (f : HearthSt → HearthSt) : (s.modHearth f).dve = s.dve := rfl
@[simp] theorem State.modHearth_stair (s : State) (f : HearthSt → HearthSt) : (s.modHearth f).stair = s.stair := rfl
@[simp] theorem State.modHearth_hall (s : State) (f : HearthSt → HearthSt) : (s.modHearth f).hall = s.hall := rfl
@[simp] theorem State.modHearth_can (s : State) (f : HearthSt → HearthSt) : (s.modHearth f).can = s.can := rfl
@[simp] theorem State.modHearth_time (s : State) (f : HearthSt → HearthSt) : (s.modHearth f).time = s.time := rfl
@[simp] theorem State.modHearth_net (s : State) (f : HearthSt → HearthSt) : (s.modHearth f).net = s.net := rfl
@[simp] theorem State.modHearth_vim (s : State) (f : HearthSt → HearthSt) : (s.modHearth f).vim = s.vim := rfl
@[simp] theorem State.modHearth_world (s : State) (f : HearthSt → HearthSt) : (s.modHearth f).world = s.world := rfl
@[simp] theorem State.modHearth_pantry (s : State) (f : HearthSt → HearthSt) : (s.modHearth f).pantry = s.pantry := rfl
@[simp] theorem State.modHearth_efuse (s : State) (f : HearthSt → HearthSt) : (s.modHearth f).efuse = s.efuse := rfl
@[simp] theorem State.modHearth_pwr (s : State) (f : HearthSt → HearthSt) : (s.modHearth f).pwr = s.pwr := rfl
@[simp] theorem State.modHearth_log (s : State) (f : HearthSt → HearthSt) : (s.modHearth f).log = s.log := rfl
@[simp] theorem State.modHearth_setup (s : State) (f : HearthSt → HearthSt) : (s.modHearth f).setup = s.setup := rfl

@[simp] theorem State.modStn_pending (s : State) (k : Nat) (f : Station → Station) : (s.modStn k f).pending = s.pending := rfl
@[simp] theorem State.modStn_now (s : State) (k : Nat) (f : Station → Station) : (s.modStn k f).now = s.now := rfl
@[simp] theorem State.modStn_frc (s : State) (k : Nat) (f : Station → Station) : (s.modStn k f).frc = s.frc := rfl
@[simp] theorem State.modStn_clk (s : State) (k : Nat) (f : Station → Station) : (s.modStn k f).clk = s.clk := rfl
@[simp] theorem State.modStn_freeCtr (s : State) (k : Nat) (f : Station → Station) : (s.modStn k f).freeCtr = s.freeCtr := rfl
@[simp] theorem State.modStn_resp (s : State) (k : Nat) (f : Station → Station) : (s.modStn k f).resp = s.resp := rfl
@[simp] theorem State.modStn_regs (s : State) (k : Nat) (f : Station → Station) : (s.modStn k f).regs = s.regs := rfl
@[simp] theorem State.modStn_mem (s : State) (k : Nat) (f : Station → Station) : (s.modStn k f).mem = s.mem := rfl
@[simp] theorem State.modStn_fuse (s : State) (k : Nat) (f : Station → Station) : (s.modStn k f).fuse = s.fuse := rfl
@[simp] theorem State.modStn_lane (s : State) (k : Nat) (f : Station → Station) : (s.modStn k f).lane = s.lane := rfl
@[simp] theorem State.modStn_cyc (s : State) (k : Nat) (f : Station → Station) : (s.modStn k f).cyc = s.cyc := rfl
@[simp] theorem State.modStn_pair (s : State) (k : Nat) (f : Station → Station) : (s.modStn k f).pair = s.pair := rfl
@[simp] theorem State.modStn_dve (s : State) (k : Nat) (f : Station → Station) : (s.modStn k f).dve = s.dve := rfl
@[simp] theorem State.modStn_stair (s : State) (k : Nat) (f : Station → Station) : (s.modStn k f).stair = s.stair := rfl
@[simp] theorem State.modStn_hall (s : State) (k : Nat) (f : Station → Station) : (s.modStn k f).hall = s.hall := rfl
@[simp] theorem State.modStn_can (s : State) (k : Nat) (f : Station → Station) : (s.modStn k f).can = s.can := rfl
@[simp] theorem State.modStn_time (s : State) (k : Nat) (f : Station → Station) : (s.modStn k f).time = s.time := rfl
@[simp] theorem State.modStn_net (s : State) (k : Nat) (f : Station → Station) : (s.modStn k f).net = s.net := rfl
@[simp] theorem State.modStn_vim (s : State) (k : Nat) (f : Station → Station) : (s.modStn k f).vim = s.vim := rfl
@[simp] theorem State.modStn_world (s : State) (k : Nat) (f : Station → Station) : (s.modStn k f).world = s.world := rfl
@[simp] theorem State.modStn_pantry (s : State) (k : Nat) (f : Station → Station) : (s.modStn k f).pantry = s.pantry := rfl
@[simp] theorem State.modStn_efuse (s : State) (k : Nat) (f : Station → Station) : (s.modStn k f).efuse = s.efuse := rfl
@[simp] theorem State.modStn_pwr (s : State) (k : Nat) (f : Station → Station) : (s.modStn k f).pwr = s.pwr := rfl
@[simp] theorem State.modStn_hearth (s : State) (k : Nat) (f : Station → Station) : (s.modStn k f).hearth = s.hearth := rfl
@[simp] theorem State.modStn_log (s : State) (k : Nat) (f : Station → Station) : (s.modStn k f).log = s.log := rfl
@[simp] theorem State.modStn_setup (s : State) (k : Nat) (f : Station → Station) : (s.modStn k f).setup = s.setup := rfl

@[simp] theorem State.modPin_pending (s : State) (u : Nat) (f : Pin → Pin) : (s.modPin u f).pending = s.pending := rfl
@[simp] theorem State.modPin_now (s : State) (u : Nat) (f : Pin → Pin) : (s.modPin u f).now = s.now := rfl
@[simp] theorem State.modPin_frc (s : State) (u : Nat) (f : Pin → Pin) : (s.modPin u f).frc = s.frc := rfl
@[simp] theorem State.modPin_clk (s : State) (u : Nat) (f : Pin → Pin) : (s.modPin u f).clk = s.clk := rfl
@[simp] theorem State.modPin_freeCtr (s : State) (u : Nat) (f : Pin → Pin) : (s.modPin u f).freeCtr = s.freeCtr := rfl
@[simp] theorem State.modPin_resp (s : State) (u : Nat) (f : Pin → Pin) : (s.modPin u f).resp = s.resp := rfl
@[simp] theorem State.modPin_regs (s : State) (u : Nat) (f : Pin → Pin) : (s.modPin u f).regs = s.regs := rfl
@[simp] theorem State.modPin_mem (s : State) (u : Nat) (f : Pin → Pin) : (s.modPin u f).mem = s.mem := rfl
@[simp] theorem State.modPin_fuse (s : State) (u : Nat) (f : Pin → Pin) : (s.modPin u f).fuse = s.fuse := rfl
@[simp] theorem State.modPin_lane (s : State) (u : Nat) (f : Pin → Pin) : (s.modPin u f).lane = s.lane := rfl
@[simp] theorem State.modPin_cyc (s : State) (u : Nat) (f : Pin → Pin) : (s.modPin u f).cyc = s.cyc := rfl
@[simp] theorem State.modPin_pair (s : State) (u : Nat) (f : Pin → Pin) : (s.modPin u f).pair = s.pair := rfl
@[simp] theorem State.modPin_dve (s : State) (u : Nat) (f : Pin → Pin) : (s.modPin u f).dve = s.dve := rfl
@[simp] theorem State.modPin_stair (s : State) (u : Nat) (f : Pin → Pin) : (s.modPin u f).stair = s.stair := rfl
@[simp] theorem State.modPin_hall (s : State) (u : Nat) (f : Pin → Pin) : (s.modPin u f).hall = s.hall := rfl
@[simp] theorem State.modPin_can (s : State) (u : Nat) (f : Pin → Pin) : (s.modPin u f).can = s.can := rfl
@[simp] theorem State.modPin_time (s : State) (u : Nat) (f : Pin → Pin) : (s.modPin u f).time = s.time := rfl
@[simp] theorem State.modPin_net (s : State) (u : Nat) (f : Pin → Pin) : (s.modPin u f).net = s.net := rfl
@[simp] theorem State.modPin_vim (s : State) (u : Nat) (f : Pin → Pin) : (s.modPin u f).vim = s.vim := rfl
@[simp] theorem State.modPin_world (s : State) (u : Nat) (f : Pin → Pin) : (s.modPin u f).world = s.world := rfl
@[simp] theorem State.modPin_pantry (s : State) (u : Nat) (f : Pin → Pin) : (s.modPin u f).pantry = s.pantry := rfl
@[simp] theorem State.modPin_efuse (s : State) (u : Nat) (f : Pin → Pin) : (s.modPin u f).efuse = s.efuse := rfl
@[simp] theorem State.modPin_pwr (s : State) (u : Nat) (f : Pin → Pin) : (s.modPin u f).pwr = s.pwr := rfl
@[simp] theorem State.modPin_hearth (s : State) (u : Nat) (f : Pin → Pin) : (s.modPin u f).hearth = s.hearth := rfl
@[simp] theorem State.modPin_log (s : State) (u : Nat) (f : Pin → Pin) : (s.modPin u f).log = s.log := rfl
@[simp] theorem State.modPin_setup (s : State) (u : Nat) (f : Pin → Pin) : (s.modPin u f).setup = s.setup := rfl

@[simp] theorem State.modSeg_pending (s : State) (k : Nat) (f : NetSeg → NetSeg) : (s.modSeg k f).pending = s.pending := rfl
@[simp] theorem State.modSeg_now (s : State) (k : Nat) (f : NetSeg → NetSeg) : (s.modSeg k f).now = s.now := rfl
@[simp] theorem State.modSeg_frc (s : State) (k : Nat) (f : NetSeg → NetSeg) : (s.modSeg k f).frc = s.frc := rfl
@[simp] theorem State.modSeg_clk (s : State) (k : Nat) (f : NetSeg → NetSeg) : (s.modSeg k f).clk = s.clk := rfl
@[simp] theorem State.modSeg_freeCtr (s : State) (k : Nat) (f : NetSeg → NetSeg) : (s.modSeg k f).freeCtr = s.freeCtr := rfl
@[simp] theorem State.modSeg_resp (s : State) (k : Nat) (f : NetSeg → NetSeg) : (s.modSeg k f).resp = s.resp := rfl
@[simp] theorem State.modSeg_regs (s : State) (k : Nat) (f : NetSeg → NetSeg) : (s.modSeg k f).regs = s.regs := rfl
@[simp] theorem State.modSeg_mem (s : State) (k : Nat) (f : NetSeg → NetSeg) : (s.modSeg k f).mem = s.mem := rfl
@[simp] theorem State.modSeg_fuse (s : State) (k : Nat) (f : NetSeg → NetSeg) : (s.modSeg k f).fuse = s.fuse := rfl
@[simp] theorem State.modSeg_lane (s : State) (k : Nat) (f : NetSeg → NetSeg) : (s.modSeg k f).lane = s.lane := rfl
@[simp] theorem State.modSeg_cyc (s : State) (k : Nat) (f : NetSeg → NetSeg) : (s.modSeg k f).cyc = s.cyc := rfl
@[simp] theorem State.modSeg_pair (s : State) (k : Nat) (f : NetSeg → NetSeg) : (s.modSeg k f).pair = s.pair := rfl
@[simp] theorem State.modSeg_uio (s : State) (k : Nat) (f : NetSeg → NetSeg) : (s.modSeg k f).uio = s.uio := rfl
@[simp] theorem State.modSeg_dve (s : State) (k : Nat) (f : NetSeg → NetSeg) : (s.modSeg k f).dve = s.dve := rfl
@[simp] theorem State.modSeg_stair (s : State) (k : Nat) (f : NetSeg → NetSeg) : (s.modSeg k f).stair = s.stair := rfl
@[simp] theorem State.modSeg_hall (s : State) (k : Nat) (f : NetSeg → NetSeg) : (s.modSeg k f).hall = s.hall := rfl
@[simp] theorem State.modSeg_can (s : State) (k : Nat) (f : NetSeg → NetSeg) : (s.modSeg k f).can = s.can := rfl
@[simp] theorem State.modSeg_time (s : State) (k : Nat) (f : NetSeg → NetSeg) : (s.modSeg k f).time = s.time := rfl
@[simp] theorem State.modSeg_vim (s : State) (k : Nat) (f : NetSeg → NetSeg) : (s.modSeg k f).vim = s.vim := rfl
@[simp] theorem State.modSeg_world (s : State) (k : Nat) (f : NetSeg → NetSeg) : (s.modSeg k f).world = s.world := rfl
@[simp] theorem State.modSeg_pantry (s : State) (k : Nat) (f : NetSeg → NetSeg) : (s.modSeg k f).pantry = s.pantry := rfl
@[simp] theorem State.modSeg_efuse (s : State) (k : Nat) (f : NetSeg → NetSeg) : (s.modSeg k f).efuse = s.efuse := rfl
@[simp] theorem State.modSeg_pwr (s : State) (k : Nat) (f : NetSeg → NetSeg) : (s.modSeg k f).pwr = s.pwr := rfl
@[simp] theorem State.modSeg_hearth (s : State) (k : Nat) (f : NetSeg → NetSeg) : (s.modSeg k f).hearth = s.hearth := rfl
@[simp] theorem State.modSeg_log (s : State) (k : Nat) (f : NetSeg → NetSeg) : (s.modSeg k f).log = s.log := rfl
@[simp] theorem State.modSeg_setup (s : State) (k : Nat) (f : NetSeg → NetSeg) : (s.modSeg k f).setup = s.setup := rfl

@[simp] theorem State.setServo_pending (s : State) (v : ServoState) : (s.setServo v).pending = s.pending := rfl
@[simp] theorem State.setServo_now (s : State) (v : ServoState) : (s.setServo v).now = s.now := rfl
@[simp] theorem State.setServo_frc (s : State) (v : ServoState) : (s.setServo v).frc = s.frc := rfl
@[simp] theorem State.setServo_clk (s : State) (v : ServoState) : (s.setServo v).clk = s.clk := rfl
@[simp] theorem State.setServo_freeCtr (s : State) (v : ServoState) : (s.setServo v).freeCtr = s.freeCtr := rfl
@[simp] theorem State.setServo_resp (s : State) (v : ServoState) : (s.setServo v).resp = s.resp := rfl
@[simp] theorem State.setServo_regs (s : State) (v : ServoState) : (s.setServo v).regs = s.regs := rfl
@[simp] theorem State.setServo_mem (s : State) (v : ServoState) : (s.setServo v).mem = s.mem := rfl
@[simp] theorem State.setServo_fuse (s : State) (v : ServoState) : (s.setServo v).fuse = s.fuse := rfl
@[simp] theorem State.setServo_lane (s : State) (v : ServoState) : (s.setServo v).lane = s.lane := rfl
@[simp] theorem State.setServo_cyc (s : State) (v : ServoState) : (s.setServo v).cyc = s.cyc := rfl
@[simp] theorem State.setServo_pair (s : State) (v : ServoState) : (s.setServo v).pair = s.pair := rfl
@[simp] theorem State.setServo_uio (s : State) (v : ServoState) : (s.setServo v).uio = s.uio := rfl
@[simp] theorem State.setServo_dve (s : State) (v : ServoState) : (s.setServo v).dve = s.dve := rfl
@[simp] theorem State.setServo_stair (s : State) (v : ServoState) : (s.setServo v).stair = s.stair := rfl
@[simp] theorem State.setServo_hall (s : State) (v : ServoState) : (s.setServo v).hall = s.hall := rfl
@[simp] theorem State.setServo_can (s : State) (v : ServoState) : (s.setServo v).can = s.can := rfl
@[simp] theorem State.setServo_net (s : State) (v : ServoState) : (s.setServo v).net = s.net := rfl
@[simp] theorem State.setServo_vim (s : State) (v : ServoState) : (s.setServo v).vim = s.vim := rfl
@[simp] theorem State.setServo_world (s : State) (v : ServoState) : (s.setServo v).world = s.world := rfl
@[simp] theorem State.setServo_pantry (s : State) (v : ServoState) : (s.setServo v).pantry = s.pantry := rfl
@[simp] theorem State.setServo_efuse (s : State) (v : ServoState) : (s.setServo v).efuse = s.efuse := rfl
@[simp] theorem State.setServo_pwr (s : State) (v : ServoState) : (s.setServo v).pwr = s.pwr := rfl
@[simp] theorem State.setServo_hearth (s : State) (v : ServoState) : (s.setServo v).hearth = s.hearth := rfl
@[simp] theorem State.setServo_log (s : State) (v : ServoState) : (s.setServo v).log = s.log := rfl
@[simp] theorem State.setServo_setup (s : State) (v : ServoState) : (s.setServo v).setup = s.setup := rfl

@[simp] theorem State.setParams_pending (s : State) (p : TimeParams) : (s.setParams p).pending = s.pending := rfl
@[simp] theorem State.setParams_now (s : State) (p : TimeParams) : (s.setParams p).now = s.now := rfl
@[simp] theorem State.setParams_frc (s : State) (p : TimeParams) : (s.setParams p).frc = s.frc := rfl
@[simp] theorem State.setParams_clk (s : State) (p : TimeParams) : (s.setParams p).clk = s.clk := rfl
@[simp] theorem State.setParams_freeCtr (s : State) (p : TimeParams) : (s.setParams p).freeCtr = s.freeCtr := rfl
@[simp] theorem State.setParams_resp (s : State) (p : TimeParams) : (s.setParams p).resp = s.resp := rfl
@[simp] theorem State.setParams_regs (s : State) (p : TimeParams) : (s.setParams p).regs = s.regs := rfl
@[simp] theorem State.setParams_mem (s : State) (p : TimeParams) : (s.setParams p).mem = s.mem := rfl
@[simp] theorem State.setParams_fuse (s : State) (p : TimeParams) : (s.setParams p).fuse = s.fuse := rfl
@[simp] theorem State.setParams_lane (s : State) (p : TimeParams) : (s.setParams p).lane = s.lane := rfl
@[simp] theorem State.setParams_cyc (s : State) (p : TimeParams) : (s.setParams p).cyc = s.cyc := rfl
@[simp] theorem State.setParams_pair (s : State) (p : TimeParams) : (s.setParams p).pair = s.pair := rfl
@[simp] theorem State.setParams_uio (s : State) (p : TimeParams) : (s.setParams p).uio = s.uio := rfl
@[simp] theorem State.setParams_dve (s : State) (p : TimeParams) : (s.setParams p).dve = s.dve := rfl
@[simp] theorem State.setParams_stair (s : State) (p : TimeParams) : (s.setParams p).stair = s.stair := rfl
@[simp] theorem State.setParams_hall (s : State) (p : TimeParams) : (s.setParams p).hall = s.hall := rfl
@[simp] theorem State.setParams_can (s : State) (p : TimeParams) : (s.setParams p).can = s.can := rfl
@[simp] theorem State.setParams_net (s : State) (p : TimeParams) : (s.setParams p).net = s.net := rfl
@[simp] theorem State.setParams_vim (s : State) (p : TimeParams) : (s.setParams p).vim = s.vim := rfl
@[simp] theorem State.setParams_world (s : State) (p : TimeParams) : (s.setParams p).world = s.world := rfl
@[simp] theorem State.setParams_pantry (s : State) (p : TimeParams) : (s.setParams p).pantry = s.pantry := rfl
@[simp] theorem State.setParams_efuse (s : State) (p : TimeParams) : (s.setParams p).efuse = s.efuse := rfl
@[simp] theorem State.setParams_pwr (s : State) (p : TimeParams) : (s.setParams p).pwr = s.pwr := rfl
@[simp] theorem State.setParams_hearth (s : State) (p : TimeParams) : (s.setParams p).hearth = s.hearth := rfl
@[simp] theorem State.setParams_log (s : State) (p : TimeParams) : (s.setParams p).log = s.log := rfl
@[simp] theorem State.setParams_setup (s : State) (p : TimeParams) : (s.setParams p).setup = s.setup := rfl

end Sys2Proof.Machine
end

