-- ==== Sys2Proof/Laws/Tables.lean ====
section
/-! SUPPORT. Tables and memory: reading after writing, and the canonical form, which every write keeps. -/

namespace Sys2Proof.Machine

variable {α : Type}

@[simp] theorem Tbl.find?_nil (k : Nat) : Tbl.find? ([] : Tbl α) k = none := rfl

theorem Tbl.find?_erase_self (m : Tbl α) (k : Nat) : (m.erase k).find? k = none := by
  induction m with
  | nil => rfl
  | cons p m ih =>
    obtain ⟨j, v⟩ := p
    by_cases h : j = k
    · simpa [Tbl.erase, h] using ih
    · simpa [Tbl.erase, Tbl.find?, h] using ih

theorem Tbl.find?_erase_ne (m : Tbl α) {j k : Nat} (h : j ≠ k) : (m.erase j).find? k = m.find? k := by
  induction m with
  | nil => rfl
  | cons p m ih =>
    obtain ⟨i, v⟩ := p
    by_cases hi : i = j
    · subst hi; simpa [Tbl.erase, Tbl.find?, h] using ih
    · by_cases hk : i = k
      · subst hk; simp [Tbl.erase, Tbl.find?, hi]
      · simpa [Tbl.erase, Tbl.find?, hi, hk] using ih

@[simp] theorem Tbl.find?_insert_self (m : Tbl α) (k : Nat) (v : α) : (m.insert k v).find? k = some v := by
  induction m with
  | nil => simp [Tbl.insert, Tbl.find?]
  | cons p m ih =>
    obtain ⟨j, w⟩ := p
    by_cases h : k < j
    · simp [Tbl.insert, Tbl.find?, h]
    · by_cases hj : j = k
      · simp [Tbl.insert, Tbl.find?, hj]
      · simpa [Tbl.insert, Tbl.find?, h, hj] using ih

theorem Tbl.find?_insert_ne (m : Tbl α) {j k : Nat} (v : α) (h : j ≠ k) : (m.insert j v).find? k = m.find? k := by
  induction m with
  | nil => simp [Tbl.insert, Tbl.find?, h]
  | cons p m ih =>
    obtain ⟨i, w⟩ := p
    by_cases hi : j < i
    · simp [Tbl.insert, Tbl.find?, hi, h]
    · by_cases hij : i = j
      · subst hij; simp [Tbl.insert, Tbl.find?, h]
      · by_cases hk : i = k
        · subst hk; simp [Tbl.insert, Tbl.find?, hi, hij]
        · simpa [Tbl.insert, Tbl.find?, hi, hij, hk] using ih

@[simp] theorem Tbl.getD_put_self [DecidableEq α] (m : Tbl α) (d v : α) (k : Nat) : (m.put d k v).getD d k = v := by
  unfold Tbl.put Tbl.getD
  split
  · simp [Tbl.find?_erase_self, *]
  · simp

theorem Tbl.getD_put_ne [DecidableEq α] (m : Tbl α) (d v : α) {j k : Nat} (h : j ≠ k) :
    (m.put d j v).getD d k = m.getD d k := by
  unfold Tbl.put Tbl.getD
  split
  · rw [Tbl.find?_erase_ne _ h]
  · rw [Tbl.find?_insert_ne _ _ h]

theorem Tbl.find?_put_ne [DecidableEq α] (m : Tbl α) (d v : α) {j k : Nat} (h : j ≠ k) :
    (m.put d j v).find? k = m.find? k := by
  unfold Tbl.put
  split
  · rw [Tbl.find?_erase_ne _ h]
  · rw [Tbl.find?_insert_ne _ _ h]

/-- Every number of a table lies above `k`. -/
def Tbl.above (k : Nat) (m : Tbl α) : Prop := ∀ p ∈ m, k < p.1

/-- The canonical form, told by what it means: numbers rise and no entry is the default. -/
theorem Tbl.wf_cons [DecidableEq α] (d : α) (j : Nat) (v : α) (m : Tbl α) :
    Tbl.wf d ((j, v) :: m) = true ↔ v ≠ d ∧ Tbl.above j m ∧ Tbl.wf d m = true := by
  induction m generalizing j v with
  | nil => simp [Tbl.wf, Tbl.above]
  | cons p m ih =>
    obtain ⟨k, w⟩ := p
    simp only [Tbl.wf, Bool.and_eq_true, decide_eq_true_eq]
    constructor
    · rintro ⟨⟨hv, hjk⟩, hw⟩
      refine ⟨hv, ?_, hw⟩
      intro q hq
      rcases List.mem_cons.1 hq with rfl | hq
      · exact hjk
      · exact lt_trans hjk (((ih k w).1 hw).2.1 q hq)
    · rintro ⟨hv, ha, hw⟩
      exact ⟨⟨hv, ha (k, w) (List.mem_cons_self ..)⟩, hw⟩

theorem Tbl.above_erase {k : Nat} {m : Tbl α} (j : Nat) (h : Tbl.above k m) : Tbl.above k (m.erase j) := by
  induction m with
  | nil => exact h
  | cons p m ih =>
    obtain ⟨i, v⟩ := p
    have h1 : k < i := h (i, v) (List.mem_cons_self ..)
    have h2 : Tbl.above k m := fun q hq => h q (List.mem_cons_of_mem _ hq)
    by_cases hi : i = j
    · simpa [Tbl.erase, hi] using ih h2
    · intro q hq
      simp only [Tbl.erase, hi, if_false] at hq
      rcases List.mem_cons.1 hq with rfl | hq
      · exact h1
      · exact ih h2 q hq

theorem Tbl.above_insert {k j : Nat} {m : Tbl α} {v : α} (hj : k < j) (h : Tbl.above k m) :
    Tbl.above k (m.insert j v) := by
  induction m with
  | nil => intro q hq; simp only [Tbl.insert, List.mem_singleton] at hq; subst hq; exact hj
  | cons p m ih =>
    obtain ⟨i, w⟩ := p
    have h1 : k < i := h (i, w) (List.mem_cons_self ..)
    have h2 : Tbl.above k m := fun q hq => h q (List.mem_cons_of_mem _ hq)
    intro q hq
    by_cases hi : j < i
    · simp only [Tbl.insert, hi, if_true] at hq
      rcases List.mem_cons.1 hq with rfl | hq
      · exact hj
      · exact h q hq
    · by_cases hij : i = j
      · simp only [Tbl.insert, hij, if_false, if_true, lt_irrefl] at hq
        rcases List.mem_cons.1 hq with rfl | hq
        · exact hj
        · exact h2 q hq
      · simp only [Tbl.insert, hi, hij, if_false] at hq
        rcases List.mem_cons.1 hq with rfl | hq
        · exact h1
        · exact ih h2 q hq

theorem Tbl.wf_erase [DecidableEq α] {d : α} {m : Tbl α} (k : Nat) (h : Tbl.wf d m = true) :
    Tbl.wf d (m.erase k) = true := by
  induction m with
  | nil => rfl
  | cons p m ih =>
    obtain ⟨j, v⟩ := p
    obtain ⟨hv, ha, hw⟩ := (Tbl.wf_cons d j v m).1 h
    by_cases hj : j = k
    · simpa [Tbl.erase, hj] using ih hw
    · simp only [Tbl.erase, hj, if_false]
      exact (Tbl.wf_cons d j v _).2 ⟨hv, Tbl.above_erase k ha, ih hw⟩

theorem Tbl.wf_insert [DecidableEq α] {d : α} {m : Tbl α} (k : Nat) {v : α} (hv : v ≠ d) (h : Tbl.wf d m = true) :
    Tbl.wf d (m.insert k v) = true := by
  induction m with
  | nil => simpa [Tbl.insert, Tbl.wf] using hv
  | cons p m ih =>
    obtain ⟨j, w⟩ := p
    obtain ⟨hw, ha, hm⟩ := (Tbl.wf_cons d j w m).1 h
    by_cases hk : k < j
    · simp only [Tbl.insert, hk, if_true]
      refine (Tbl.wf_cons d k v _).2 ⟨hv, ?_, h⟩
      intro q hq
      rcases List.mem_cons.1 hq with rfl | hq
      · exact hk
      · exact lt_trans hk (ha q hq)
    · by_cases hj : j = k
      · subst hj
        simp only [Tbl.insert, lt_irrefl, if_false, if_true]
        exact (Tbl.wf_cons d j v m).2 ⟨hv, ha, hm⟩
      · simp only [Tbl.insert, hk, hj, if_false]
        exact (Tbl.wf_cons d j w _).2 ⟨hw, Tbl.above_insert (by omega) ha, ih hm⟩

/-- A write keeps the canonical form. -/
theorem Tbl.wf_put [DecidableEq α] {d : α} {m : Tbl α} (k : Nat) (v : α) (h : Tbl.wf d m = true) :
    Tbl.wf d (m.put d k v) = true := by
  unfold Tbl.put
  split
  · exact Tbl.wf_erase k h
  · exact Tbl.wf_insert k ‹_› h

/-! ### Memory -/

@[simp] theorem Memory.read_write_self (m : List Host.Cell) (a : Nat) (v : Byte) :
    Memory.read (Memory.write m a v) a = v := Tbl.getD_put_self ..

theorem Memory.read_write_ne (m : List Host.Cell) {a b : Nat} (v : Byte) (h : a ≠ b) :
    Memory.read (Memory.write m a v) b = Memory.read m b := Tbl.getD_put_ne _ _ _ h

theorem Memory.wf_write {m : List Host.Cell} (a : Nat) (v : Byte) (h : Memory.wf m = true) :
    Memory.wf (Memory.write m a v) = true := Tbl.wf_put a v h

/-- A run of bytes leaves every address outside it as it was. -/
theorem Memory.read_writeRun_outside (bs : List Nat) (m : List Host.Cell) {a b : Nat} (h : b < a ∨ a + bs.length ≤ b) :
    Memory.read (Memory.writeRun m a bs) b = Memory.read m b := by
  induction bs generalizing m a with
  | nil => rfl
  | cons v bs ih =>
    simp only [List.length_cons] at h
    simp only [Memory.writeRun]
    rw [ih _ (by omega), Memory.read_write_ne _ _ (by omega)]

/-- A run of bytes reads back. -/
theorem Memory.read_writeRun_inside (bs : List Nat) (m : List Host.Cell) (a k : Nat) (h : k < bs.length) :
    Memory.read (Memory.writeRun m a bs) (a + k) = BitVec.ofNat 8 (bs.getD k 0) := by
  induction bs generalizing m a k with
  | nil => simp at h
  | cons v bs ih =>
    simp only [Memory.writeRun]
    cases k with
    | zero => rw [Memory.read_writeRun_outside _ _ (by omega)]; simp
    | succ k =>
      have := ih (Memory.write m a (BitVec.ofNat 8 v)) (a + 1) k (by simpa using h)
      rw [show a + (k + 1) = a + 1 + k by omega, this]; simp

theorem Memory.wf_writeRun (bs : List Nat) {m : List Host.Cell} (a : Nat) (h : Memory.wf m = true) :
    Memory.wf (Memory.writeRun m a bs) = true := by
  induction bs generalizing m a with
  | nil => exact h
  | cons v bs ih => exact ih _ (Memory.wf_write _ _ h)

end Sys2Proof.Machine
end

