-- ==== Sys2Proof/Laws/Ops.lean ====
section
/-! SUPPORT. What the shared operations do: reading and writing register fields, guarded accesses, units, and the frame of
a Dervos instruction. -/

namespace Sys2Proof.Machine

/-- A field just written reads as the value, cut to its width. -/
@[simp] theorem State.rd_wr_self (s : State) (f : Fld) (v : Nat) : (s.wr f v).rd f = v % 2 ^ f.width := by
  simp only [State.rd, State.wr]
  exact Tbl.getD_put_self ..

/-- A field written leaves every field of another key as it was. -/
theorem State.rd_wr_ne (s : State) {f g : Fld} (v : Nat) (h : f.key ≠ g.key) : (s.wr f v).rd g = s.rd g := by
  simp only [State.rd, State.wr]
  rw [Tbl.find?_put_ne _ _ _ h]

theorem State.flag_wr_ne (s : State) {f g : Fld} (v : Nat) (h : f.key ≠ g.key) : (s.wr f v).flag g = s.flag g := by
  simp only [State.flag, State.rd_wr_ne s v h]

/-- Two states with the same register file read alike. -/
theorem State.rd_congr {s s' : State} (h : s'.regs = s.regs) (f : Fld) : s'.rd f = s.rd f := by
  simp only [State.rd, h]

theorem State.flag_congr {s s' : State} (h : s'.regs = s.regs) (f : Fld) : s'.flag f = s.flag f := by
  simp only [State.flag, State.rd_congr h]

theorem State.rgn_congr {s s' : State} (h : s'.regs = s.regs) (hc : s'.clk = s.clk) (f : Fld) : s'.rgn f = s.rgn f := by
  simp only [State.rgn, hc, State.rd_congr h]

/-- At an instant at which nothing has happened yet, a region word reads as the register file holds it (R346). -/
theorem State.rgn_settled {s : State} (hc : s.clk = ClockSt.none) (f : Fld) : s.rgn f = s.rd f := by
  simp only [State.rgn, hc]; rfl

/-- The region checks read the register file and what region words held before the clock (R346). -/
theorem State.passes_congr {s s' : State} (h : s'.regs = s.regs) (hc : s'.clk = s.clk) (addr : Nat) (a : Attr)
    (w : Bool) : s'.passes addr a w = s.passes addr a w := by
  simp only [State.passes, State.setPasses, State.inRegion, State.regionAllows, State.rgn_congr h hc]

@[simp] theorem State.rd_tick (s : State) (t : Nat) (f : Fld) : (s.tick t).rd f = s.rd f := rfl
@[simp] theorem State.flag_tick (s : State) (t : Nat) (f : Fld) : (s.tick t).flag f = s.flag f := rfl
@[simp] theorem State.rd_okay (s : State) (f : Fld) : s.okay.rd f = s.rd f := rfl
@[simp] theorem State.flag_okay (s : State) (f : Fld) : s.okay.flag f = s.flag f := rfl
@[simp] theorem State.rd_answer (s : State) (st d : Nat) (f : Fld) : (s.answer st d).rd f = s.rd f := rfl
@[simp] theorem State.rd_toPort (s : State) (r : Record) (f : Fld) : (s.toPort r).rd f = s.rd f := rfl
@[simp] theorem State.rd_record (s : State) (cls kind sev subj st : Nat) (vals : List Nat) (src : Nat) (f : Fld) :
    (s.record cls kind sev subj st vals src).rd f = s.rd f := rfl

/-- A transaction from the Attic passes a set no region of which covers the address (R344). -/
theorem State.setPasses_attic {s : State} {k addr : Nat} {a : Attr} {w : Bool} (ha : a.attic = true)
    (h : ∀ r < 32, s.inRegion k r addr = false) : s.setPasses k addr a w = true := by
  unfold State.setPasses
  rw [List.find?_eq_none.2]
  · exact ha
  · intro r hr; simp [h r (List.mem_range.1 hr)]

/-- With no region enabled, every transaction of the Attic passes (R344). -/
theorem State.passes_attic {s : State} {addr : Nat} {a : Attr} {w : Bool} (ha : a.attic = true)
    (h : ∀ k, k < 4 → ∀ r, r < 32 → s.rgn (F.WORLD_RGN2_EN k r) = 0) : s.passes addr a w = true := by
  unfold State.passes
  split
  · next k hk =>
    have hk4 : k < 4 := by unfold regionSet at hk; split at hk <;> (try split at hk) <;> (try split at hk) <;> simp_all <;> omega
    exact State.setPasses_attic ha fun r hr => by simp [State.inRegion, h k hk4 r hr]
  · rfl

/-- A guarded access whose checks pass has its effect and answers OK. -/
theorem State.guarded_pass {s : State} {a : Attr} {addr : Nat} {w own : Bool} (eff : State → State)
    (h : s.passes addr a w = true) (ho : own = true) : s.guarded a addr w own eff = eff s.okay := by
  simp [State.guarded, h, ho]

/-- A guarded access whose checks fail is denied, with no effect (R345). -/
theorem State.guarded_fail {s : State} {a : Attr} {addr : Nat} {w own : Bool} (eff : State → State)
    (h : (s.passes addr a w && own) = false) :
    s.guarded a addr w own eff = s.deny a ((regionSet addr).getD 3) addr w := by
  unfold State.guarded; rw [h]; rfl

theorem onUnit_true {b : Bool} (s : State) (h : b = true) : onUnit b s = .next s := by simp [onUnit, h]
theorem onUnit_false {b : Bool} (s : State) (h : b = false) : onUnit b s = .fault .noSuchUnit := by simp [onUnit, h]

end Sys2Proof.Machine
end

