-- ==== Sys2Proof/Machine/Irq.lean ====
section
/-! DEFINITION. The level lines into the application cluster's interrupt controller (*Table: Interrupt sources*, R435). -/

namespace Sys2Proof.Machine

/-- CAN_IRQ and CAN_IRQ_EN of a controller have a bit in common (IRQ 0 to 11). -/
def State.canLine (s : State) (c : Nat) : Bool :=
  [(F.CAN_IRQ_BUS_OFF c, F.CAN_IRQ_EN_BUS_OFF c), (F.CAN_IRQ_ERR_PASSIVE c, F.CAN_IRQ_EN_ERR_PASSIVE c),
    (F.CAN_IRQ_ERR_WARN c, F.CAN_IRQ_EN_ERR_WARN c), (F.CAN_IRQ_ERR_ACTIVE c, F.CAN_IRQ_EN_ERR_ACTIVE c),
    (F.CAN_IRQ_TX_FAIL c, F.CAN_IRQ_EN_TX_FAIL c), (F.CAN_IRQ_RING_FULL c, F.CAN_IRQ_EN_RING_FULL c),
    (F.CAN_IRQ_REF c, F.CAN_IRQ_EN_REF c), (F.CAN_IRQ_REF_LOST c, F.CAN_IRQ_EN_REF_LOST c),
    (F.CAN_IRQ_PEX c, F.CAN_IRQ_EN_PEX c)].any fun x => s.flag x.1 && s.flag x.2

/-- A pending bit of per-instance source k is set (IRQ 12 to 16). -/
def State.pendLine (s : State) (k : Nat) : Bool := (List.range 2).any fun w => s.flag (F.SYSCTL_IPEND_PEND k w)

/-- A W1C bit of a CH_STAT is set. -/
def State.chanLine (s : State) (n : Nat) : Bool :=
  [F.CH_STAT_START_LATE n, F.CH_STAT_CFG_REFUSED n, F.CH_STAT_OPEN_LOAD n, F.CH_STAT_SHORT_GND n, F.CH_STAT_SHORT_SUP n,
    F.CH_STAT_REV_CURRENT n, F.CH_STAT_OVER_TEMP n, F.CH_STAT_FUSE_TRIP n].any s.flag

/-- A W1C bit of a UIO_PIN_DIAG is set. -/
def State.pinLine (s : State) (u : Nat) : Bool :=
  [F.UIO_PIN_DIAG_OVER u, F.UIO_PIN_DIAG_UNDER u, F.UIO_PIN_DIAG_OPEN u, F.UIO_PIN_DIAG_SHORT u, F.UIO_PIN_DIAG_SUPPLY u].any s.flag

/-- Is interrupt line k asserted (R435)? Numbers 30 to 63 are reserved. -/
def State.irqLine (s : State) (k : Nat) : Bool :=
  if k < 12 then s.canLine k
  else if k < 17 then s.pendLine (k - 12)
  else match k with
    | 17 => !s.world.viols.isEmpty
    | 18 => s.flag F.WORLD_TAMPER_STAT_LATCH
    | 19 => (List.range 48).any s.chanLine || s.flag F.FB_AGG_AGG_HIGH
    | 20 => (List.range 16).any fun e => (s.eng e).state == .fault
    | 21 => [F.LANEIF_LINK_LINK_FAULT, F.LANEIF_DIN_DISAGREE_DIN_FLAG, F.LANEIF_AIN_DISAGREE_AIN_FLAG,
        F.LANEIF_VOUT_NOAGREE_VALID].any s.flag
    | 22 => [F.PAIR_LOOP_OPEN, F.PAIR_LOOP_SHORT, F.PAIR_LOOP_CONFLICT, F.PAIR_LOOP_DEGRADED].any s.flag
    | 23 => s.flag F.TIME_PPS_IN_NEW || s.flag F.TIME_ADJ_CTL_ADJ_REFUSED
    | 24 => (List.range 48).any s.pinLine || (List.range 8).any (fun k => s.flag (F.UIO_SP_CTL_TRIP k)) ||
        (List.range 32).any fun k => s.flag (F.UIO_STN_STAT_REJOINED (k / 16) (k % 16))
    | 25 => s.flag F.SETUP_STAT_DONE || !s.setup.reports.isEmpty
    | 26 => s.flag F.MARGIN_LANE_LOW || s.flag F.MARGIN_STUD_HIGH
    | 27 => (List.range 2).any (fun f => s.flag (F.PWRMGR_FEED_OVERCUR f)) || s.flag F.CELLAR_STAT_PF_CUT ||
        s.flag F.CELLAR_STAT_STEP1_LATE
    | 28 => s.flag F.GWTAB_STAT_CFG_REFUSED
    | 29 => s.flag F.VIM_STAT_MAP_DUP || s.flag F.VIM_STAT_SHARE_REFUSED
    | _ => false

end Sys2Proof.Machine
end

