-- ==== Sys2Proof/Tests/Slice0.lean ====
section
/-! SUPPORT. The tests: ill-formed instructions refused, Dervos words decoded, worked examples of the spec, and for every
obligation with hypotheses states and operands that meet them (`witness_<Obligation>`, clause by clause). -/

namespace Sys2Proof.Tests

open Sys2Proof.Machine

set_option Elab.async false

/-! ### Well-formedness: one ill-formed instruction for each check -/

theorem test_wf_engine : Instr.wf (.dAdd 16 0 0 0) = false := by decide
theorem test_wf_register : Instr.wf (.dAdd 0 16 0 0) = false := by decide
theorem test_wf_immediate : Instr.wf (.dAddi 0 0 0 0x40000) = false := by decide
theorem test_wf_wide_immediate : Instr.wf (.dLui 0 0 0x400000) = false := by decide
theorem test_wf_shift : Instr.wf (.dMulq 0 0 0 0 32) = false := by decide
theorem test_wf_length_zero : Instr.wf (.dSatq 0 0 0 true 0) = false := by decide
theorem test_wf_length_33 : Instr.wf (.dExt 0 0 0 0 33 false false) = false := by decide
theorem test_wf_port : Instr.wf (.dPop 0 0 0 16) = false := by decide
theorem test_wf_timer : Instr.wf (.dTset 0 0 0 8) = false := by decide
theorem test_wf_timer_mode : Instr.wf (.dTset 0 0 4 0) = false := by decide

/-! ### Decoding -/

/-- *Table: Example program* of chapter 7, word by word. -/
theorem test_decode_example_program :
    [0x41002000, 0x4203FFD8, 0x42800001, 0x42C00001, 0xEC6C0000, 0xE1580000, 0xC983FFFE, 0xE3180000, 0xE1D80000, 0xB89C20F4,
      0x10E00000, 0xB0C90010, 0xB4CC0027, 0xE6A40001, 0xE4E40001, 0xD83FFFF2].map (decodeDervos 3) =
    [.dAddi 3 4 0 8192, .dAddi 3 8 0 (2 ^ 18 - 40), .dAddi 3 10 0 1, .dAddi 3 11 0 1, .dWait 3 1 11, .dPop 3 5 6 0,
      .dBlt 3 6 0 (2 ^ 18 - 2), .dPop 3 12 6 0, .dPop 3 7 6 0, .dExt 3 2 7 16 16 false true, .dOr 3 3 8 0,
      .dMulq 3 3 2 4 16, .dSatq 3 3 3 true 8, .dPush 3 10 9 1, .dPush 3 3 9 1, .dJal 3 0 (2 ^ 22 - 14)].map some := by
  decide

/-- Words written out from *Table: Dervos encoding* and *Table: Instruction formats* (R193): a load, a store, a channel-page
store, INS with len − 1 = 7 at bit 5, JALR, LUI, the timers and the special registers; opcodes 0x00 and 0x19 are illegal. -/
theorem test_decode_other_formats :
    [0b100000_0001_0010_000000000000000100, 0b100101_0001_0010_111111111111111100, 0b101000_0011_0100_000000000000001000,
      0b101111_0001_0010_0000_00101_00111_0000, 0b110111_1111_0001_000000000000000000, 0b011000_0001_1000000000000000000001,
      0b000000_0001_0010_000000000000000000, 0b011001_0000_0000_000000000000000000].map (decodeDervos 12) =
    [some (.dLdw 12 1 2 4), some (.dStw 12 1 2 0x3FFFC), some (.dCstw 12 3 4 8), some (.dIns 12 1 2 5 8 false),
      some (.dJalr 12 15 1 0), some (.dLui 12 1 0x200001), none, none] := by
  decide

/-- No row of the table of operations and events has bits. -/
theorem test_table_words_spell_nothing : decodeTableWord 32 0 = none := rfl

/-! ### Worked examples of the spec -/

/-! ### Helpers: small states and values -/

def regsOf (l : List (Fld × Nat)) : Tbl Nat := l.map fun x => (x.1.key, x.2)
def attic : Attr := ⟨true, 0, .hub⟩
def running : State := { State.reset with
    pwr := { State.reset.pwr with
    state := .run, below9 := false, busLow14 := false, hubUp := true, laneUp := true, fuseUp := true, parlourOut := true,
    stagesDone := [1,2,3,4,5,6,7], stagesBegun := [1,2,3,4,5,6,7] } }
def laneIn (st : LaneState) : Lane := { Lane.init with state := st }
def watching : Lane := { laneIn .active with exclFor := [.a, .b, .c] }
def lanes (a b c : Lane) (vote : VoteMode) : State :=
  { running with lane := { State.reset.lane with lanes := [(0, a), (1, b), (2, c)], vote := vote, opened := true } }
def image (d : Nat) (v : Int) : InImage := { din := d, ain := [v], diag := [], tiles := [d], vin := [(0, d)], pair := none }
def sample : Agreed := { img := image 1 5, dinQ := 0, ainQ := 0, tilesQ := [], vinQ := [] }
def sampled (d : Nat) (v : Int) : Lane := { laneIn .active with img := some (image d v), got := [.a, .b, .c] }
def prog : Program :=
  { hash := 9, codeLen := 4, dataLen := 4, carriedSize := 4, retainedLen := 4, units := 1,
    vars := [⟨1, 0, 1, 0, 2, true, true, false, 5⟩, ⟨2, 0, 1, 0, 1, false, false, true, 6⟩], tasks := [], io := [] }
def output (sign : Nat) : OutImage := { cmd := 0, permit := 63, vout := [], sign := sign }
def sending (n : Nat) : Lane := { laneIn .active with sent := some (.image (output n)), gotOut := [.a, .b, .c] }
def cycle : Lane := { laneIn .active with period := 1000000 }
def banked : Lane := { laneIn .active with bankHash := some 9 }
def rejoin (x y : Lane) : State :=
  { lanes x x y .v2oo2 with regs := regsOf [(F.LANEIF_CFG_REINT_EN, 1)],
                            cyc := { State.reset.cyc with mode := .run, act := some prog } }
def copied (sig : Nat) : State :=
  { lanes (laneIn .active) (laneIn .active) (laneIn .returning) .v2oo2 with
    cyc := { State.reset.cyc with act := some prog }
    lane := { (lanes (laneIn .active) (laneIn .active) (laneIn .returning) .v2oo2).lane with
              frozen := true, copyWin := (0, 10), copySig := [sig] } }
def expecting (a b c : Lane) : State :=
  { lanes a b c .v2oo3 with cyc := { State.reset.cyc with mode := .run, act := some prog, expected := true } }
def cycling (x : Lane) : State :=
  { expecting x x x with lane := { (lanes x x x .v2oo3).lane with armed := true } }
def commanded (m : ProgMode) (c : CycCmd) (armed : Bool) : State :=
  { running with cyc := { State.reset.cyc with mode := m, act := some prog, cmds := [(3, c)] }
                 lane := { State.reset.lane with opened := true, armed := armed } }
def ticket : Token := ⟨0, 2, 0, 0, 0, 0, 0, true⟩
theorem noneBelow (n : Nat) {p : Nat → Bool} (h : (List.range n).any p = false) : ∀ j, j < n → p j = false := fun j hj => by
  cases hp : p j
  · rfl
  · rw [List.any_eq_true.2 ⟨j, List.mem_range.2 hj, hp⟩] at h; exact absurd h (by decide)
def engineAt (e : Nat) (x : Engine) : State := { State.reset with dve := { State.reset.dve with engines := [(e, x)] } }
def runner : Engine := { Engine.init with state := .running }
def forced (id v : Nat) : State :=
  { running with cyc := { State.reset.cyc with act := some prog }
                 regs := regsOf [(F.CYCMGR_FORCE_BACK_WORD 255 0, id), (F.CYCMGR_FORCE_BACK_WORD 255 1, v),
                     (F.CYCMGR_FORCE_BACK3_EN 255, 1)] }
def starting (j : Nat) : State :=
  { State.reset with pwr := { State.reset.pwr with state := .startup, stagesBegun := [j], s7Start := 5 } }
def failing (step : Nat) (await : List Nat) : State :=
  { running with
      pwr := { running.pwr with
      state := .powerFail, seq := some ⟨step, 5, 16, none, [], await⟩, stagesBegun := [4] } }
theorem below48 {p q : Nat → Prop} (h : ∀ n, n < 48 → p n → q n) : ∀ n, n < 48 ∧ p n → q n := fun n g => h n g.1 g.2
theorem recsSize_cons (r : Record) (l : List Record) : recsSize (r :: l) = r.size + recsSize l := by
  have h : ∀ (l : List Record) m, l.foldl (fun k x => k + x.size) m = m + l.foldl (fun k x => k + x.size) 0 := by
    intro l
    induction l with
    | nil => intro m; rfl
    | cons x l ih => intro m; simp only [List.foldl_cons]; rw [ih, ih (0 + x.size)]; omega
  unfold recsSize; rw [List.foldl_cons, h]; omega
theorem recsSize_replicate (n : Nat) (r : Record) : recsSize (List.replicate n r) = n * r.size := by
  induction n with
  | zero => simp [recsSize]
  | succ n ih => rw [List.replicate_succ, recsSize_cons, ih]; ring
def seeking : State :=
  { running with regs := regsOf [(F.PAIR_CFG_PAIR_EN, 1), (F.HALL_CTL_FWD_EN, 1), (F.HALL_PORT_STAT_LINK_STATE 17, 0)]
                 pair := { State.reset.pair with state := .seek } }

/-- Chapter 7, frame 2: MULQ gives −40 + 512 = 472, and SATQ limits it to 255 and sets SAT. -/
theorem test_example_engine :
    (match execDMulq 3 3 2 4 16 (engineAt 3 { runner with regs := [(2, 4096), (3, -40), (4, 8192)] }) with
      | .next s => (s.eng 3).g 3
      | _ => 0) = 472 ∧
    (match execDSatq 3 3 3 true 8 (engineAt 3 { runner with regs := [(3, 472)] }) with
      | .next s => some ((s.eng 3).g 3, s.rd (F.DVE_STAT_SAT 3))
      | _ => none) = some (255, 1) := by
  decide +kernel

/-- Chapter 16, one plan on three cartridges: C in mF, V in mV, ESR in 0.1 mΩ,
    P in 0.1 W; E_PLAN / (9 × 10¹⁴) is in 10 mJ. -/
theorem test_example_energy_plans :
    planEnergy (energyBudget 4170 16200 500 460) 460 5000 512 = (5000, 512, false, 2117945340000000000) ∧
    (planEnergy (energyBudget 2900 16100 2500 460) 460 5000 512).1 = 3714 ∧
    (planEnergy (energyBudget 2900 16100 2500 460) 460 5000 512).2.1 = 512 ∧
    (planEnergy (energyBudget 450 16000 7000 460) 460 5000 512).2.2.1 = true := by
  decide +kernel

/-- Chapter 16: at a drift of 0.20, DERATE is 9 %. -/
theorem test_example_derate : derateOf 80 = 9 := by decide +kernel

/-- Chapter 8: two frames through route 37. -/
theorem test_example_gateway :
    let d : SigDesc := ⟨0, 16, 16, false, false, false, 0, 16, false, 20, 419430, -200, 0⟩
    d.transform [0, 0xFF, 0x35, 0x0C, 0xFF, 0xFF, 0xFF, 0xFF] = some (1050, false) ∧
    d.transform [0, 0xFF, 0x64, 0, 0xFF, 0xFF, 0xFF, 0xFF] = some (0, true) := by
  decide +kernel

/-- Chapter 11, a servo update: the integrator becomes 338, RATE −662 and OFFSET grows by 998. -/
theorem test_example_servo :
    let s : State := { running with
      now := 1010000000000
      regs := regsOf [(F.TIME_SERVO_GAIN_KI, 4), (F.TIME_SERVO_GAIN_KP, 64)]
      time := { State.reset.time with par := ⟨1000000000000, 1695000000000000000, 429, 0⟩, servo := .locked, integ := 400 } }
    let s' := (s.servoUpdate 250).1
    s'.time.integ = 338 ∧ s'.time.par = ⟨1010000000000, 1695000000000000998, -662, 1010000000000⟩ := by
  decide +kernel

/-- Chapter 4, TON on a 40 ms task: the fourth scan after the rise limits ET to 100 and sets Q. -/
theorem test_example_ton :
    let scan (f : FbState) : FbState := f.ton true 100 40
    ((scan (scan (scan FbState.init))).et, (scan (scan (scan FbState.init))).q) = (80, false) ∧
    ((scan (scan (scan (scan FbState.init)))).et, (scan (scan (scan (scan FbState.init)))).q) = (100, true) := by
  decide

/-- Chapter 2: H0's t_r is 4.8 ms and its slew 50 A/ms, H1's 10 ms and 15 A/ms. -/
theorem test_example_ramps :
    let s : State := { running with regs := regsOf [(F.CH_PROFILE_INRUSH_2A 0, 120), (F.CH_PROFILE_SOFT_MS 0, 4),
      (F.CH_PROFILE_INRUSH_2A 1, 75), (F.CH_PROFILE_SOFT_MS 1, 10), (F.FB_BUDGET_SUPPLY_SLEW, 50)] }
    (s.rampTicks 0, s.slewOf 0) = (480, 50) ∧ (s.rampTicks 1, s.slewOf 1) = (1000, 15) := by
  decide +kernel

/-- Chapter 18,
    a harvester image with four faults: the reports in queue order (here with the fields' indices in this list). -/
theorem test_example_setup_reports :
    let s := running.applyImage ⟨true, 0, 0, 1, 0, 0, [0], true,
      [.field 31 1 0x380008 1, .field 8 8 0x380008 30, .field 16 9 0x60003C 41, .field 31 1 0x601000 1,
          .field 0 16 0x601000 300,
        .station 0 1 4 4 10 [0, 0, 0, 0], .station 0 2 4 4 10 [0, 0, 0, 0], .station 0 3 4 4 10 [0, 0, 0, 0],
        .station 0 4 4 4 10 [0, 0, 0, 0], .field 0 10 0xE1D008 1020]⟩ true
    s.setup.reports.map (fun r => (r.index, r.refused, r.pass2, r.req, r.loaded)) =
      [(1, true, false, 30, 40), (9, false, false, 1020, 1000), (2, false, true, 41, 42), (4, false, true, 300, 400)] := by
  decide +kernel

/-! ### Witnesses for the obligations' hypotheses -/

theorem witness_RegisterWrites :
    (∃ (s : State) (t : Nat) (addr : Nat) (size : Nat) (c : Nat) (i : Nat) (k : Nat) (a : Attr) (core : Option Nat),
        let inMem := (0x10000000 ≤ addr ∧ addr < 0x10400000) ∨ (0x0800000000 ≤ addr ∧ addr < 0x0A00000000);
        let fits := (size = 1 ∨ size = 2 ∨ size = 4) ∧ addr % size = 0;
        let may (x : Nat) : Prop := (s.tick t).passes x a true = true;
        let nbt := (F.CAN_NBT_BRP c).addr;
        c < 12 ∧ i < 2 ∧ k < 16 ∧ inMem ∧ fits ∧ may addr ∧ may (0x40020014 + 4 * i) ∧ a.attic = true ∧ a.inst = 0 ∧
        may 0x40010000 ∧ may (0x40020008 + 4 * i) ∧ may nbt ∧ (s.ctl c).state = .config ∧ core = some k ∧ k < 8 ∧
        may (0x41200020 + 4 * k) ∧ a.dom = .hub ∧ may (0x41300100 + 4 * k) ∧ may 0x40020044) ∧
    (∃ (s : State) (t : Nat) (addr : Nat) (size : Nat) (c : Nat) (i : Nat) (k : Nat) (a : Attr),
        let inMem := (0x10000000 ≤ addr ∧ addr < 0x10400000) ∨ (0x0800000000 ≤ addr ∧ addr < 0x0A00000000);
        let fits := (size = 1 ∨ size = 2 ∨ size = 4) ∧ addr % size = 0;
        let may (x : Nat) : Prop := (s.tick t).passes x a true = true;
        let nbt := (F.CAN_NBT_BRP c).addr;
        c < 12 ∧ i < 2 ∧ k < 16 ∧ inMem ∧ fits ∧ (¬ may addr) ∧ may (0x40020014 + 4 * i) ∧ a.attic = false ∧ may nbt ∧
        (s.ctl c).state ≠ .config) ∧
    (∃ (addr : Nat) (size : Nat) (c : Nat) (i : Nat) (k : Nat),
        let inMem := (0x10000000 ≤ addr ∧ addr < 0x10400000) ∨ (0x0800000000 ≤ addr ∧ addr < 0x0A00000000);
        let fits := (size = 1 ∨ size = 2 ∨ size = 4) ∧ addr % size = 0;
        c < 12 ∧ i < 2 ∧ k < 16 ∧ inMem ∧ (¬ fits)) ∧
    (∃ (addr : Nat) (size : Nat) (c : Nat) (i : Nat) (k : Nat),
        let inMem := (0x10000000 ≤ addr ∧ addr < 0x10400000) ∨ (0x0800000000 ≤ addr ∧ addr < 0x0A00000000);
        c < 12 ∧ i < 2 ∧ k < 16 ∧ (¬ inMem) ∧ (size ≠ 4 ∨ addr % 4 ≠ 0 ∨ mapped addr = false)) :=
  ⟨⟨State.reset, 4, 268435456, 4, 0, 0, 0, { attic := true, inst := 0, dom := Dom.hub }, some 0, by decide +kernel⟩,
    ⟨{ State.reset with
        regs := regsOf [(F.WORLD_RGN1_LIMIT 3 0, 1048575), (F.WORLD_RGN2_DOM 3 0, 7), (F.WORLD_RGN2_P_W 3 0, 1),
        (F.WORLD_RGN2_EN 3 0, 1)],
        can := { State.reset.can with ctls := [(0, { CanCtl.init with state := CanState.active })] } }, 4, 268435456, 4, 0,
        0, 0, { attic := false, inst := 3, dom := Dom.hub }, by decide +kernel⟩,
    ⟨268435457, 4, 0, 0, 0, by decide +kernel⟩,
    ⟨272629760, 4, 0, 0, 0, by decide +kernel⟩⟩

theorem witness_MemoryStaysCanonical :
    ∃ (s s' : State), Memory.wf s.mem = true ∧ s.pending = [.registerWrite 0 attic none 0x103FFFFC 4 0x1234] ∧
        step s = .next s' :=
  ⟨{ running with pending := [.registerWrite 0 attic none 0x103FFFFC 4 0x1234] }, _, by decide, rfl, rfl⟩

theorem witness_FuseboxChannelWrites :
    (∃ (s : State) (t : Nat) (n : Nat) (k : Nat) (a : Attr) (v : Word),
        let w := v.toNat;
        let off := (s.chan n).state = .off;
        let fresh := (s.tick t).latchesNow n;
        let valid := (∀ i, i < 7 → (s.shadowPoint n i).1 < (s.shadowPoint n (i + 1)).1 ∧
          (s.shadowPoint n (i + 1)).2 ≤ (s.shadowPoint n i).2) ∧ (s.shadowPoint n 7).1 < scThreshold n ∧ ∀ i, i < 8 →
          1 ≤ (s.shadowPoint n i).2;
        n < 48 ∧ k < 8 ∧ MayWrite (s.tick t) a 0x40100000 0x40104000 ∧ s.vital n = false ∧ (¬ (off ∧ valid)) ∧ n < 16 ∧
        (¬ off) ∧ w % 2 ^ 29 ≠ s.chProfile n % 2 ^ 29 ∧ ((s.chan n).state ≠ .latched ∨ s.vital n = true ∨ fresh = true)) ∧
    (∃ (s : State) (t : Nat) (n : Nat) (k : Nat) (a : Attr),
        let off := (s.chan n).state = .off;
        let valid := (∀ i, i < 7 → (s.shadowPoint n i).1 < (s.shadowPoint n (i + 1)).1 ∧
          (s.shadowPoint n (i + 1)).2 ≤ (s.shadowPoint n i).2) ∧ (s.shadowPoint n 7).1 < scThreshold n ∧ ∀ i, i < 8 →
          1 ≤ (s.shadowPoint n i).2;
        n < 48 ∧ k < 8 ∧ MayWrite (s.tick t) a 0x40100000 0x40104000 ∧ off ∧ valid ∧ 16 ≤ n ∧ s.vital n = false) ∧
    (∃ (s : State) (t : Nat) (n : Nat) (k : Nat) (a : Attr) (v : Word),
        let w := v.toNat;
        let mode := if w / 2 ^ 27 % 4 = 3 then 0 else w / 2 ^ 27 % 4;
        let off := (s.chan n).state = .off;
        let fresh := (s.tick t).latchesNow n;
        n < 48 ∧ k < 8 ∧ MayWrite (s.tick t) a 0x40100000 0x40104000 ∧ 16 ≤ n ∧ (¬ off) ∧ mode ≠ s.rd (F.CH_CTL_OUT_MODE n) ∧
        (s.chan n).state = .latched ∧ s.vital n = false ∧ fresh = false ∧ s.powerRuns n = true) ∧
    (∃ (s : State) (t : Nat) (n : Nat) (k : Nat) (a : Attr), n < 48 ∧ k < 8 ∧ MayWrite (s.tick t) a 0x40100000 0x40104000 ∧
        s.vital n = true) ∧
    (∃ (s : State) (t : Nat) (n : Nat) (k : Nat) (a : Attr),
        let fresh := (s.tick t).latchesNow n;
        n < 48 ∧ k < 8 ∧ MayWrite (s.tick t) a 0x40100000 0x40104000 ∧ (s.chan n).state = .latched ∧ s.vital n = false ∧
        fresh = false ∧ s.powerRuns n = false) :=
  ⟨⟨{ State.reset with
      regs := regsOf [(F.CH_PROFILE_INRUSH_2A 0, 3)],
      fuse := { State.reset.fuse with chans := [(0, { Channel.init with state := ChState.on })] } }, 100000000, 0, 4,
      { attic := true, inst := 0, dom := Dom.hub }, 0x00000000#32,
      by (repeat' refine And.intro ?_ ?_) <;> first | decide +kernel | (intro x _ _; apply State.passes_attic <;> decide +kernel)⟩,
    ⟨State.reset, 20, 44, 6, { attic := true, inst := 0, dom := Dom.hub },
        by (repeat' refine And.intro ?_ ?_) <;> first | decide +kernel | (intro x _ _; apply State.passes_attic <;> decide +kernel)⟩,
    ⟨{ State.reset with
        regs := regsOf [], fuse := { State.reset.fuse with chans := [(43, { Channel.init with state := ChState.latched })] },
        dve := { State.reset.dve with engines := [(15, { Engine.init with state := EngState.waiting })] } }, 5, 43, 6, attic,
        0x12345678#32,
        by (repeat' refine And.intro ?_ ?_) <;> first | decide +kernel | (intro x _ _; apply State.passes_attic <;> decide +kernel)⟩,
    ⟨{ State.reset with regs := regsOf [(F.CH_PROFILE_CH_MODE 35, 1)] }, 70000000000, 35, 3,
        { attic := true, inst := 0, dom := Dom.hub },
        by (repeat' refine And.intro ?_ ?_) <;> first | decide +kernel | (intro x _ _; apply State.passes_attic <;> decide +kernel)⟩,
    ⟨{ State.reset with
        fuse := { State.reset.fuse with chans := [(17, { Channel.init with state := ChState.latched })] } }, 10, 17, 1,
        { attic := true, inst := 0, dom := Dom.hub },
        by (repeat' refine And.intro ?_ ?_) <;> first | decide +kernel | (intro x _ _; apply State.passes_attic <;> decide +kernel)⟩⟩

theorem witness_FuseboxBudgetWriteAndFaultSearch :
    (∃ (s : State) (t : Nat) (k : Nat) (a : Attr) (peek : Bool),
        let flags := (s.tick t).chFlags;
        let at' (j : Nat) := (s.fuse.searchPos + 1 + j) % 48;
        (s.tick t).passes 0x40103000 a true = true ∧
        (s.tick t).passes (if peek then 0x4010B014 else 0x40103014) a false = true ∧ k < 48 ∧ flags (at' k) ≠ 0 ∧ (∀ j,
        j < k → flags (at' j) = 0)) ∧
    (∃ (s : State) (t : Nat) (a : Attr) (peek : Bool),
        let flags := (s.tick t).chFlags;
        let at' (j : Nat) := (s.fuse.searchPos + 1 + j) % 48;
        (s.tick t).passes (if peek then 0x4010B014 else 0x40103014) a false = true ∧ (∀ j, j < 48 → flags (at' j) = 0)) :=
  ⟨⟨{ State.reset with regs := regsOf [(F.CH_STAT_SHORT_GND 0, 1)] }, 100000000, 0,
      { attic := true, inst := 0, dom := Dom.hub }, true, by decide +kernel⟩,
    ⟨running, 0, attic, true, by decide +kernel⟩⟩

theorem witness_FuseboxRequestsAndWindows :
    (∃ (s : State) (t : Nat) (n : Nat) (e : Nat),
        let c := s.chan n;
        n < 48 ∧ s.effCmd n = false ∧ (c.state = .queued ∨ c.state = .starting ∨ c.state = .on ∨ c.state = .retryWait) ∧
        c.inr ≠ 0 ∧ c.inrushEnd ≤ t ∧ c.state = .queued ∧ c.late = false ∧ s.fuse.slotEnd = some e ∧
        max c.reqTick e + s.rd F.FB_START_WAIT_START_WAIT_MAX * 1000000 ≤ t ∧ e ≤ t) ∧
    (∃ (s : State) (t : Nat) (n : Nat), let c := s.chan n; n < 48 ∧ c.state = .starting ∧ c.rampEnd ≤ t) ∧
    (∃ (s : State) (n : Nat),
        let c := s.chan n;
        n < 48 ∧ c.state = .off ∧ s.pwr.fuseUp = true ∧ s.fuse.slotEnd.isSome = true ∧ s.effCmd n = true ∧
        s.inPowerFail = false ∧ s.pwr.state ≠ .sleepEntry ∧ s.powerRuns n = true) ∧
    (∃ (s : State) (n : Nat),
        let c := s.chan n;
        n < 48 ∧ c.state = .off ∧ s.pwr.fuseUp = true ∧ s.fuse.slotEnd.isSome = true ∧ s.effCmd n = true ∧
        s.inPowerFail = false ∧ s.pwr.state ≠ .sleepEntry ∧ s.powerRuns n = false) :=
  ⟨⟨{ State.reset with
      fuse := { State.reset.fuse with
      chans := [(1, { Channel.init with state := ChState.queued, inr := 28 })], slotEnd := some 4 } }, 70000000000, 1, 4,
      by decide +kernel⟩,
    ⟨{ State.reset with
        fuse := { State.reset.fuse with chans := [(15, { Channel.init with state := ChState.starting })] } }, 70000000000,
        15, by decide +kernel⟩,
    ⟨{ State.reset with
        regs := regsOf [(F.CH_CTL_HUB_CMD 15, 1)], fuse := { State.reset.fuse with slotEnd := some 4 },
        lane := { State.reset.lane with
        lanes := [(0, { Lane.init with counted := 1152921504606846975 }), (1,
        { Lane.init with counted := 1152921504606846975 })] },
        dve := { State.reset.dve with engines := [(13, { Engine.init with state := EngState.running })] },
        pwr := { State.reset.pwr with fuseUp := true } }, 15, by decide +kernel⟩,
    ⟨{ State.reset with
        regs := regsOf [(F.CH_CTL_HUB_CMD 43, 1)], fuse := { State.reset.fuse with slotEnd := some 4 },
        lane := { State.reset.lane with
        lanes := [(0, { Lane.init with counted := 1152921504606846975 }), (1,
        { Lane.init with counted := 1152921504606846975 })] }, pwr := { State.reset.pwr with fuseUp := true } }, 43,
        by decide +kernel⟩⟩

theorem witness_FuseEvaluation :
    ∃ (s : State) (n : Nat) (i : Int),
        let thr (j : Nat) := s.rd (F.CH_FUSE_I_THR n j) * (100 - s.rd (derateFld n)) / 100;
        n < 48 ∧ (∀ j, j < 8 → i.natAbs < thr j) :=
  ⟨State.reset, 0, 0, by decide +kernel⟩

theorem witness_FuseboxFaultReactions :
    (∃ (s : State) (t : Nat) (n : Nat) (i : Int) (tj : Int),
        let c := s.chan n;
        n < 48 ∧ c.state.live = true ∧ scThreshold n ≤ i.natAbs ∧ 175 ≤ tj ∧ s.pwr.fuseUp = true ∧ c.state = .on ∧
        c.onAt + 60000000000 ≤ t) ∧
    (∃ (s : State) (n : Nat) (i : Int),
        let c := s.chan n;
        n < 48 ∧ c.state = .on ∧ 200 * i.natAbs < s.rd (F.CH_DIAG_OL_THRESH n) * contRating n) ∧
    (∃ (s : State) (n : Nat) (tj : Int), let c := s.chan n; n < 48 ∧ c.state.live = false ∧ 175 ≤ tj ∧ s.pwr.fuseUp = true) ∧
    (∃ (s : State) (t : Nat) (n : Nat) (tj : Int),
        let c := s.chan n;
        n < 48 ∧ c.state = .retryWait ∧ c.tripAt + s.rd (F.CH_TIMING_RETRY_DELAY_MS n) * 1000000 ≤ t ∧ c.heat < 2 ^ 31 ∧
        tj ≤ 150 ∧ s.effCmd n = true ∧ s.inPowerFail = false ∧ s.pwr.state ≠ .sleepEntry ∧ s.powerRuns n = true) :=
  ⟨⟨{ State.reset with
      fuse := { State.reset.fuse with chans := [(35, { Channel.init with state := ChState.on })] },
      pwr := { State.reset.pwr with fuseUp := true } }, 70000000000, 35, 250000, 176, by decide +kernel⟩,
    ⟨{ State.reset with
        fuse := { State.reset.fuse with chans := [(0, { Channel.init with state := ChState.on })] } }, 0, 0,
        by decide +kernel⟩,
    ⟨{ State.reset with pwr := { State.reset.pwr with fuseUp := true } }, 47, 176, by decide +kernel⟩,
    ⟨{ State.reset with
        regs := regsOf [(F.CH_CTL_HUB_CMD 47, 1)],
        fuse := { State.reset.fuse with chans := [(47, { Channel.init with state := ChState.retryWait })] },
        lane := { State.reset.lane with
        lanes := [(0, { Lane.init with counted := 15458806563107928 }), (1,
        { Lane.init with counted := 15458806563107928 })] },
        dve := { State.reset.dve with engines := [(15, { Engine.init with state := EngState.waiting })] } }, 70000000000, 47,
        20, by decide +kernel⟩⟩

theorem witness_FuseboxMeasurements :
    (∃ (s : State) (n : Nat) (mean : Nat), n < 48 ∧ s.offdiagRuns n = true ∧ mean ≤ 2500) ∧
    (∃ (s : State) (n : Nat) (mean : Nat),
        let c := s.chan n;
        n < 48 ∧ 16 ≤ n ∧ c.state.live = true ∧ s.rd (F.CH_CTL_OUT_MODE n) = 1 ∧ 2500 < mean) ∧
    (∃ (s : State) (n : Nat),
        let c := s.chan n;
        n < 48 ∧ 16 ≤ n ∧ c.state.live = true ∧ s.rd (F.CH_CTL_OUT_MODE n) = 2 ∧ s.rd (F.CH_PWM_DITHER_HZ n) = 0) :=
  ⟨⟨{ State.reset with pwr := { State.reset.pwr with fuseUp := true } }, 1, 2500, by decide +kernel⟩,
    ⟨{ State.reset with
        regs := regsOf [(F.CH_CTL_OUT_MODE 44, 1)],
        fuse := { State.reset.fuse with chans := [(44, { Channel.init with state := ChState.starting })] } }, 44, 2501,
        by decide +kernel⟩,
    ⟨{ State.reset with
        regs := regsOf [(F.CH_CTL_OUT_MODE 43, 2)],
        fuse := { State.reset.fuse with chans := [(43, { Channel.init with state := ChState.starting })] } }, 43,
        by decide +kernel⟩⟩

theorem witness_LanesAgreementOfThree :
    ∃ (s : State) (t : Nat) (l : LaneId) (a : InImage) (b : InImage) (c : InImage), s.lanesRun = true ∧ s.actives = [.a, .b,
        .c] ∧ (s.ln .a).img = some a ∧ (s.ln .b).img = some b ∧ (s.ln .c).img = some c ∧ (∀ m, m ≠ l → m ∈ (s.ln l).got) ∧
        (s.ln l).agreed = none ∧ (s.ln l).boundary + 100000 ≤ t ∧ t ≤ (s.ln l).boundary + 250000 :=
  ⟨lanes (sampled 1 5) (sampled 1 7) (sampled 2 9) .v2oo3, 100000, .b, image 1 5, image 1 7, image 2 9,
      by (repeat' refine And.intro ?_ ?_) <;> first | decide +kernel | (intro m; cases m <;> decide +kernel)⟩

theorem witness_LanesAgreementOfTwo :
    ∃ (s : State) (t : Nat) (l : LaneId) (m : LaneId) (a : InImage) (b : InImage), s.lanesRun = true ∧ l ≠ m ∧
        (s.actives = [l, m] ∨ s.actives = [m, l]) ∧ (s.ln l).img = some a ∧ (s.ln m).img = some b ∧ m ∈ (s.ln l).got ∧
        (s.ln l).agreed = none ∧ (s.ln l).boundary + 100000 ≤ t ∧ t ≤ (s.ln l).boundary + 250000 :=
  ⟨lanes (sampled 1 5) (laneIn .excluded) (sampled 2 9) .v2oo2, 250000, .c, .a, image 2 9, image 1 5,
      by (repeat' refine And.intro ?_ ?_) <;> first | decide +kernel | (intro m; cases m <;> decide +kernel)⟩

theorem witness_LanesExclusion :
    (∃ (s : State) (tile : Nat) (l : LaneId) (m : LaneId), tile < 6 ∧ l ≠ m ∧ s.actives = [.a, .b, .c] ∧
        s.lane.vote = .v2oo3 ∧ s.cyc.oc ≠ .armed) ∧
    (∃ (s : State) (tile : Nat) (l : LaneId) (m : LaneId), tile < 6 ∧ l ≠ m ∧ (s.actives = [l, m] ∨ s.actives = [m, l]) ∧
        s.lane.vote = .v2oo2) ∧
    (∃ (s : State) (t : Nat) (tile : Nat) (l : LaneId) (m : LaneId) (b : _),
        let x := s.ln l;
        tile < 6 ∧ l ≠ m ∧ x.state = .excluded ∧ s.lane.abortAt ≠ some s.cycleNo ∧ (∀ k, k ≠ l → l ∈ (s.ln k).exclFor) ∧
        x.bistStart.isSome = true ∧ x.bistOk = false ∧ x.bistStart = some b ∧ b + 60000000000 ≤ t) :=
  ⟨⟨lanes (laneIn .active) (laneIn .active) (laneIn .active) .v2oo3, 5, .c, .a, by decide +kernel⟩,
    ⟨lanes (laneIn .active) (laneIn .excluded) (laneIn .active) .v2oo2, 0, .c, .a, by decide +kernel⟩,
    ⟨lanes watching { laneIn .excluded with bistStart := some 4 } watching .v2oo2, 60000000004, 0, .b, .a, 4,
        by (repeat' refine And.intro ?_ ?_) <;> first | decide +kernel | (intro m; cases m <;> decide +kernel)⟩⟩

theorem witness_LanesReintegration :
    (∃ (s : State) (t : Nat) (l : LaneId) (m : LaneId) (r : LaneId) (h : LaneId → Nat) (heard : List (LaneId × Nat)),
        let median : Int := (h .a : Int) + h .b + h .c - max (h .a : Int) (max (h .b) (h .c)) - min (h .a : Int) (min (h .b) (h .c));
        l ≠ m ∧ r ≠ l ∧ r ≠ m ∧ s.lanesRun = true ∧ s.pair.state = .alone ∧ h l = t ∧ (∀ k, k ≠ l →
        heard.find? (fun x => x.1 = k) = some (k, h k)) ∧ s.actives = [.a, .b, .c] ∧
        ((h l : Int) - median).natAbs ≤ s.skewBound) ∧
    (∃ (s : State) (t : Nat) (l : LaneId) (m : LaneId) (r : LaneId) (h : LaneId → Nat) (heard : List (LaneId × Nat)),
        let half : Int := (h l : Int) - ((h l : Int) + h m) / 2;
        l ≠ m ∧ r ≠ l ∧ r ≠ m ∧ s.lanesRun = true ∧ s.pair.state = .alone ∧ h l = t ∧ (∀ k, k ≠ l →
        heard.find? (fun x => x.1 = k) = some (k, h k)) ∧ s.actives = [l, m] ∧ half.natAbs ≤ s.skewBound ∧
        (s.tick t).mayReturn r = true ∧ ((s.tick t).recentAttempts r).length < 3) ∧
    (∃ (s : State) (t : Nat) (l : LaneId) (m : LaneId) (r : LaneId) (h : LaneId → Nat) (heard : List (LaneId × Nat)),
        let half : Int := (h l : Int) - ((h l : Int) + h m) / 2;
        l ≠ m ∧ r ≠ l ∧ r ≠ m ∧ s.lanesRun = true ∧ s.pair.state = .alone ∧ h l = t ∧ (∀ k, k ≠ l →
        heard.find? (fun x => x.1 = k) = some (k, h k)) ∧ s.actives = [l, m] ∧ half.natAbs ≤ s.skewBound ∧
        (s.tick t).mayReturn r = true ∧ 3 ≤ ((s.tick t).recentAttempts r).length) ∧
    (∃ (s : State) (t : Nat) (l : LaneId) (m : LaneId) (r : LaneId) (h : LaneId →
        Nat) (heard : List (LaneId × Nat)) (diff : List (Nat × Nat)) (p : Program),
        let bytes := s.copyOf l p diff;
        l ≠ m ∧ r ≠ l ∧ r ≠ m ∧ s.lanesRun = true ∧ s.pair.state = .alone ∧ h l = t ∧ (∀ k, k ≠ l →
        heard.find? (fun x => x.1 = k) = some (k, h k)) ∧ (s.ln r).state = .returning ∧ s.lane.frozen = true ∧
        s.lane.copySig ≠ [] ∧ s.actives = [l, m] ∧ s.lane.copyWin.1 ≤ t ∧ t < s.lane.copyWin.2 ∧ s.cyc.act = some p ∧ (∀ d,
        d ∈ p.vars → p.decl d.id = some d) ∧ (∀ x, x ∈ s.lane.copySig → x = crc32 bytes)) ∧
    (∃ (s : State) (t : Nat) (l : LaneId) (m : LaneId) (r : LaneId) (h : LaneId →
        Nat) (heard : List (LaneId × Nat)) (diff : List (Nat × Nat)) (p : Program),
        let bytes := s.copyOf l p diff;
        l ≠ m ∧ r ≠ l ∧ r ≠ m ∧ s.lanesRun = true ∧ s.pair.state = .alone ∧ h l = t ∧ (∀ k, k ≠ l →
        heard.find? (fun x => x.1 = k) = some (k, h k)) ∧ (s.ln r).state = .returning ∧ s.lane.frozen = true ∧
        s.lane.copySig ≠ [] ∧ s.actives = [l, m] ∧ s.lane.copyWin.1 ≤ t ∧ t < s.lane.copyWin.2 ∧ s.cyc.act = some p ∧ (∀ d,
        d ∈ p.vars → p.decl d.id = some d) ∧ (∃ x, x ∈ s.lane.copySig ∧ x ≠ crc32 bytes)) ∧
    (∃ (s : State) (t : Nat) (l : LaneId) (m : LaneId) (r : LaneId) (h : LaneId → Nat) (heard : List (LaneId × Nat)), l ≠ m ∧
        r ≠ l ∧ r ≠ m ∧ s.lanesRun = true ∧ s.pair.state = .alone ∧ h l = t ∧ (∀ k, k ≠ l →
        heard.find? (fun x => x.1 = k) = some (k, h k)) ∧ (s.ln r).state = .shadow ∧ s.rd F.LANEIF_REINT_SHADOW_CNT = 16 ∧
        s.actives = [l, m] ∧ (∀ k, k ≠ r → (s.ln k).updated = true ∧ (s.ln k).updAt + 2000 ≤ t)) ∧
    (∃ (s : State) (t : Nat) (l : LaneId) (m : LaneId) (r : LaneId) (h : LaneId → Nat) (heard : List (LaneId × Nat)), l ≠ m ∧
        r ≠ l ∧ r ≠ m ∧ s.lanesRun = true ∧ s.pair.state = .alone ∧ h l = t ∧ (∀ k, k ≠ l →
        heard.find? (fun x => x.1 = k) = some (k, h k)) ∧ (s.ln r).state = .shadow ∧ s.rd F.LANEIF_REINT_SHADOW_CNT = 16 ∧
        s.actives = [l, m] ∧ r ∉ (s.ln l).exclFor ∧ r ∉ (s.ln m).exclFor ∧ s.lane.vote = .v2oo2 ∧
        (s.ln r).hold &&& (s.ln r).laneOk = (s.ln r).hold) ∧
    (∃ (s : State) (t : Nat) (l : LaneId) (m : LaneId) (r : LaneId) (h : LaneId → Nat) (heard : List (LaneId × Nat)), l ≠ m ∧
        r ≠ l ∧ r ≠ m ∧ s.lanesRun = true ∧ s.pair.state = .alone ∧ h l = t ∧ (∀ k, k ≠ l →
        heard.find? (fun x => x.1 = k) = some (k, h k)) ∧ (s.ln r).state = .shadow ∧ s.rd F.LANEIF_REINT_SHADOW_CNT = 16 ∧
        s.actives = [l, m] ∧ r ∉ (s.ln l).exclFor ∧ r ∉ (s.ln m).exclFor ∧ s.lane.vote = .v2oo2 ∧
        (s.ln r).hold &&& (s.ln r).laneOk ≠ (s.ln r).hold) :=
  ⟨⟨lanes (laneIn .active) (laneIn .active) (laneIn .active) .v2oo3, 5, .a, .b, .c, fun | .a => 5 | .b => 7 | .c => 5, [(.b,
      7), (.c, 5)], by (repeat' refine And.intro ?_ ?_) <;> first | decide +kernel | (intro m; cases m <;> decide +kernel)⟩,
    ⟨rejoin (laneIn .active) { laneIn .excluded with
        marker := some ⟨5, false, none⟩, markerOld := some ⟨0, true, some 9⟩, attempts := [1, 2] }, 5, .a, .b, .c,
        fun | .a => 5 | .b => 7 | .c => 5, [(.b, 7), (.c, 5)],
        by (repeat' refine And.intro ?_ ?_) <;> first | decide +kernel | (intro m; cases m <;> decide +kernel)⟩,
    ⟨rejoin (laneIn .active) { laneIn .excluded with
        marker := some ⟨5, false, none⟩, markerOld := some ⟨0, true, some 9⟩, attempts := [1, 2, 3] }, 5, .a, .b, .c,
        fun | .a => 5 | .b => 7 | .c => 5, [(.b, 7), (.c, 5)],
        by (repeat' refine And.intro ?_ ?_) <;> first | decide +kernel | (intro m; cases m <;> decide +kernel)⟩,
    ⟨copied 379203374, 5, .a, .b, .c, fun | .a => 5 | .b => 7 | .c => 5, [(.b, 7), (.c, 5)], [], prog,
        by (repeat' refine And.intro ?_ ?_) <;> first | decide +kernel | (intro m; cases m <;> decide +kernel)⟩,
    ⟨copied 6, 5, .a, .b, .c, fun | .a => 5 | .b => 7 | .c => 5, [(.b, 7), (.c, 5)], [], prog,
        by (repeat' refine And.intro ?_ ?_) <;> first | decide +kernel | (intro m; cases m <;> decide +kernel)⟩,
    ⟨{ lanes { watching with updated := true } { watching with updated := true } (laneIn .shadow) .v2oo2 with
        regs := regsOf [(F.LANEIF_REINT_SHADOW_CNT, 16)] }, 2000, .a, .b, .c, fun | .a => 2000 | .b => 7 | .c => 5, [(.b, 7),
        (.c, 5)], by (repeat' refine And.intro ?_ ?_) <;> first | decide +kernel | (intro m; cases m <;> decide +kernel)⟩,
    ⟨{ lanes (laneIn .active) (laneIn .active) { laneIn .shadow with hold := 5, laneOk := 7 } .v2oo2 with
        regs := regsOf [(F.LANEIF_REINT_SHADOW_CNT, 16)] }, 5, .a, .b, .c, fun | .a => 5 | .b => 7 | .c => 5, [(.b, 7), (.c,
        5)], by (repeat' refine And.intro ?_ ?_) <;> first | decide +kernel | (intro m; cases m <;> decide +kernel)⟩,
    ⟨{ lanes (laneIn .active) (laneIn .active) { laneIn .shadow with hold := 5, laneOk := 6 } .v2oo2 with
        regs := regsOf [(F.LANEIF_REINT_SHADOW_CNT, 16)] }, 5, .a, .b, .c, fun | .a => 5 | .b => 7 | .c => 5, [(.b, 7), (.c,
        5)], by (repeat' refine And.intro ?_ ?_) <;> first | decide +kernel | (intro m; cases m <;> decide +kernel)⟩⟩

theorem witness_LanesCyclePhases :
    (∃ (s : State) (t : Nat) (l : LaneId),
        let x := s.ln l;
        s.lanesRun = true ∧ x.boundary ≤ t ∧ s.lane.opened = true ∧ s.cyc.cmds = [] ∧ s.cyc.token = none ∧
        s.rd F.PAIR_CFG_PAIR_EN = 0) ∧
    (∃ (s : State) (t : Nat) (l : LaneId),
        let x := s.ln l;
        s.lanesRun = true ∧ x.boundary ≤ t ∧ s.lane.opened = false ∧ s.cyc.cmds = [] ∧ s.cyc.token = none ∧
        s.rd F.PAIR_CFG_PAIR_EN = 0 ∧ s.rd F.CYCMGR_CFG_AUTOSTART = 0) ∧
    (∃ (s : State) (l : LaneId) (m : LaneId) (k : FrameKind), s.lanesRun = true ∧ l ≠ m ∧ k ≠ .input ∧ k ≠ .output) ∧
    (∃ (s : State) (l : LaneId) (m : LaneId) (k : FrameKind),
        let both := (s.ln l).state = .active ∧ (s.ln m).state = .active;
        s.lanesRun = true ∧ l ≠ m ∧ (¬ both) ∧ (k = .input ∨ k = .output)) ∧
    (∃ (s : State) (l : LaneId) (m : LaneId) (k : FrameKind),
        let both := (s.ln l).state = .active ∧ (s.ln m).state = .active;
        s.lanesRun = true ∧ l ≠ m ∧ both ∧ (linkOf l m) ∉ s.lane.linkPrev ∧ (k = .input ∨ k = .output)) ∧
    (∃ (s : State) (l : LaneId) (m : LaneId) (k : FrameKind),
        let both := (s.ln l).state = .active ∧ (s.ln m).state = .active;
        s.lanesRun = true ∧ l ≠ m ∧ both ∧ (linkOf l m) ∈ s.lane.linkPrev ∧ (k = .input ∨ k = .output)) ∧
    (∃ (s : State) (t : Nat) (n : Nat) (l : LaneId) (g : Agreed) (p : Program) (fs : List ForceUse) (rest : List (Nat × Agreed × List ForceUse)),
        let x := s.ln l;
        s.lanesRun = true ∧ x.executes = true ∧ x.agreed.isSome = true ∧ x.boundary + 250000 ≤ t ∧ t < x.deadline ∧
        x.running = none ∧ x.queue = (n, g, fs) :: rest ∧ n ≠ s.cyc.ocCyc ∧ s.cyc.act = some p) ∧
    (∃ (s : State) (n : Nat) (l : LaneId) (p : Program),
        let x := s.ln l;
        s.lanesRun = true ∧ x.running = some n ∧ s.progOf l = some p ∧ x.queue = [] ∧ x.forces = []) ∧
    (∃ (s : State) (t : Nat) (l : LaneId) (o : OutImage),
        let x := s.ln l;
        s.lanesRun = true ∧ s.cyc.expected = true ∧ x.executes = true ∧ x.deadline ≤ t ∧ x.sent = none ∧ x.out = some o ∧
        x.outCyc = s.cycleNo ∧ x.outAt < x.deadline) ∧
    (∃ (s : State) (t : Nat) (l : LaneId),
        let x := s.ln l;
        s.lanesRun = true ∧ s.cyc.expected = true ∧ x.state = .active ∧ x.deadline ≤ t ∧ x.sent = none ∧
        (x.outCyc ≠ s.cycleNo ∨ x.deadline ≤ x.outAt)) ∧
    (∃ (s : State) (l : LaneId), s.lanesRun = true ∧ s.cyc.expected = true ∧ s.lane.overrun = false ∧
        s.lane.compared = false ∧ s.lane.frozen = false ∧ s.pair.out = none ∧ s.actives = [.a, .b, .c] ∧
        s.lane.vote = .v2oo3 ∧ (∀ j, (s.sentImage j).isSome = true) ∧ (∀ i j, i ≠ j → i ∈ (s.ln j).gotOut) ∧ (∀ i j, i ≠ l →
        j ≠ l → s.sentImage i = s.sentImage j) ∧ (∀ j, j ≠ l → s.sentImage l ≠ s.sentImage j)) ∧
    (∃ (s : State), s.lanesRun = true ∧ s.cyc.expected = true ∧ s.lane.overrun = false ∧ s.lane.compared = false ∧
        s.lane.frozen = false ∧ s.pair.out = none ∧ s.actives = [.a, .b, .c] ∧ s.lane.vote = .v2oo3 ∧ (∀ j,
        (s.sentImage j).isSome = true) ∧ (∀ i j, i ≠ j → i ∈ (s.ln j).gotOut) ∧ (∀ i j, i ≠ j →
        s.sentImage i ≠ s.sentImage j)) ∧
    (∃ (s : State) (t : Nat) (l : LaneId) (o : OutImage),
        let x := s.ln l;
        let phase (a b : Nat) : Prop := x.boundary + a ≤ t ∧ t < x.boundary + b;
        s.lanesRun = true ∧ x.state = .active ∧ x.updated = false ∧ phase (x.period - 100000) x.period ∧
        s.cyc.expected = true ∧ s.lane.overrun = false ∧ s.cyc.mode = .run ∧ s.lane.armed = true ∧ s.lane.vote ≠ .safe ∧
        s.rd F.PAIR_CFG_PAIR_EN = 0 ∧ s.sentImage l = some o) ∧
    (∃ (s : State) (t : Nat) (l : LaneId),
        let x := s.ln l;
        let phase (a b : Nat) : Prop := x.boundary + a ≤ t ∧ t < x.boundary + b;
        s.lanesRun = true ∧ x.state = .active ∧ x.updated = false ∧ phase (x.period - 100000) x.period ∧
        s.cyc.expected = true ∧ s.lane.overrun = false ∧ s.cyc.mode = .run ∧ s.lane.armed = false ∧ s.lane.vote = .notArmed ∧
        s.rd F.PAIR_CFG_PAIR_EN = 0 ∧ s.actives = [.a, .b, .c] ∧ s.allBlocked = false ∧ s.rd F.SETUP_STAT_SRC ≠ 0) ∧
    (∃ (s : State) (t : Nat) (n : Nat) (l : LaneId),
        let x := s.ln l;
        s.lanesRun = true ∧ n < 48 ∧ x.lineAt.getD 0 n + 400 ≤ t ∧ s.pair.source = false) :=
  ⟨⟨lanes (laneIn .active) (laneIn .active) (laneIn .active) .v2oo3, 0, .a, by decide +kernel⟩,
    ⟨running, 0, .b, by decide +kernel⟩,
    ⟨running, .c, .a, .marker, by decide +kernel⟩,
    ⟨running, .c, .a, .output, by decide +kernel⟩,
    ⟨lanes (laneIn .active) (laneIn .active) (laneIn .active) .v2oo3, .c, .a, .input, by decide +kernel⟩,
    ⟨{ running with
        lane := { (lanes (laneIn .active) (laneIn .active) (laneIn .active) .v2oo3).lane with
        linkPrev := [(.a, .c)] } }, .c, .a, .output, by decide +kernel⟩,
    ⟨cycling { cycle with agreed := some sample, queue := [(3, sample, [])] }, 250000, 3, .a, sample, prog, [], [],
        by decide +kernel⟩,
    ⟨cycling { cycle with running := some 3 }, 3, .a, prog, by decide +kernel⟩,
    ⟨cycling { cycle with out := some (output 7) }, 700000, .a, output 7, by decide +kernel⟩,
    ⟨cycling { cycle with out := some (output 7), outAt := 700000 }, 700000, .a, by decide +kernel⟩,
    ⟨expecting (sending 7) (sending 8) (sending 7), .b,
        by (repeat' refine And.intro ?_ ?_) <;> first | decide +kernel | (intro m; cases m <;> decide +kernel) | (intro m j; cases m <;> cases j <;> decide +kernel)⟩,
    ⟨expecting (sending 7) (sending 8) (sending 9),
        by (repeat' refine And.intro ?_ ?_) <;> first | decide +kernel | (intro m; cases m <;> decide +kernel) | (intro m j; cases m <;> cases j <;> decide +kernel)⟩,
    ⟨cycling { cycle with sent := some (.image (output 7)) }, 900000, .a, output 7, by decide +kernel⟩,
    ⟨{ expecting cycle cycle cycle with
        regs := regsOf [(F.SETUP_STAT_SRC, 1)], lane := { (expecting cycle cycle cycle).lane with vote := .notArmed } },
        999999, .a, by decide +kernel⟩,
    ⟨running, 400, 47, .a, by decide +kernel⟩⟩

theorem witness_CyclicCommandsQueue :
    ∃ (s : State) (t : Nat) (a : Attr), (s.tick t).passes 0x40300004 a true = true :=
  ⟨{ State.reset with
      regs := regsOf [(F.WORLD_RGN1_LIMIT 3 0, 1048575), (F.WORLD_RGN2_DOM 3 0, 7), (F.WORLD_RGN2_P_W 3 0, 1),
      (F.WORLD_RGN2_EN 3 0, 1)] }, 5, { attic := false, inst := 3, dom := Dom.hub }, by decide +kernel⟩

theorem witness_ProgramModesFollowTable :
    (∃ (s : State) (t : Nat) (t0 : Nat) (l : LaneId) (c : CycCmd) (p : Program), s.lanesRun = true ∧ (s.ln l).boundary ≤ t ∧
        s.lane.opened = true ∧ t0 < t ∧ s.setup.applying = false ∧ s.cyc.cmds = [(t0, c)] ∧ s.cyc.token = none ∧
        s.rd F.PAIR_CFG_PAIR_EN = 0 ∧ s.cyc.act = some p ∧ s.cyc.mode = .stop ∧ (c = .run ∨ c = .runCold) ∧ (∀ j,
        (s.ln j).bankHash = some p.hash)) ∧
    (∃ (s : State) (t : Nat) (t0 : Nat) (l : LaneId) (c : CycCmd) (p : Program), s.lanesRun = true ∧ (s.ln l).boundary ≤ t ∧
        s.lane.opened = true ∧ t0 < t ∧ s.setup.applying = false ∧ s.cyc.cmds = [(t0, c)] ∧ s.cyc.token = none ∧
        s.rd F.PAIR_CFG_PAIR_EN = 0 ∧ s.cyc.act = some p ∧ s.cyc.mode = .stop ∧ (c = .run ∨ c = .runCold) ∧ (∃ j,
        (s.ln j).bankHash ≠ some p.hash)) ∧
    (∃ (s : State) (t : Nat) (t0 : Nat) (l : LaneId) (c : CycCmd) (p : Program), s.lanesRun = true ∧ (s.ln l).boundary ≤ t ∧
        s.lane.opened = true ∧ t0 < t ∧ s.setup.applying = false ∧ s.cyc.cmds = [(t0, c)] ∧ s.cyc.token = none ∧
        s.rd F.PAIR_CFG_PAIR_EN = 0 ∧ s.cyc.act = some p ∧ s.cyc.mode = .safe ∧ (c = .run ∨ c = .runCold)) ∧
    (∃ (s : State) (t : Nat) (t0 : Nat) (l : LaneId) (c : CycCmd) (p : Program), s.lanesRun = true ∧ (s.ln l).boundary ≤ t ∧
        s.lane.opened = true ∧ t0 < t ∧ s.setup.applying = false ∧ s.cyc.cmds = [(t0, c)] ∧ s.cyc.token = none ∧
        s.rd F.PAIR_CFG_PAIR_EN = 0 ∧ s.cyc.act = some p ∧ (s.cyc.mode = .run ∨ s.cyc.mode = .hold ∨ s.cyc.mode = .safe) ∧
        c = .stop) ∧
    (∃ (s : State) (t : Nat) (t0 : Nat) (l : LaneId) (c : CycCmd) (p : Program), s.lanesRun = true ∧ (s.ln l).boundary ≤ t ∧
        s.lane.opened = true ∧ t0 < t ∧ s.setup.applying = false ∧ s.cyc.cmds = [(t0, c)] ∧ s.cyc.token = none ∧
        s.rd F.PAIR_CFG_PAIR_EN = 0 ∧ s.cyc.act = some p ∧ s.cyc.mode = .run ∧ c = .hold ∧ s.lane.armed = false) ∧
    (∃ (s : State) (t : Nat) (t0 : Nat) (l : LaneId) (c : CycCmd) (p : Program), s.lanesRun = true ∧ (s.ln l).boundary ≤ t ∧
        s.lane.opened = true ∧ t0 < t ∧ s.setup.applying = false ∧ s.cyc.cmds = [(t0, c)] ∧ s.cyc.token = none ∧
        s.rd F.PAIR_CFG_PAIR_EN = 0 ∧ s.cyc.act = some p ∧ s.cyc.mode = .run ∧ c = .hold ∧ s.lane.armed = true) ∧
    (∃ (s : State) (t : Nat) (t0 : Nat) (l : LaneId) (c : CycCmd) (p : Program), s.lanesRun = true ∧ (s.ln l).boundary ≤ t ∧
        s.lane.opened = true ∧ t0 < t ∧ s.setup.applying = false ∧ s.cyc.cmds = [(t0, c)] ∧ s.cyc.token = none ∧
        s.rd F.PAIR_CFG_PAIR_EN = 0 ∧ s.cyc.act = some p ∧ s.cyc.mode = .hold ∧ c = .step) ∧
    (∃ (s : State) (t : Nat) (t0 : Nat) (l : LaneId) (c : CycCmd) (p : Program), s.lanesRun = true ∧ (s.ln l).boundary ≤ t ∧
        s.lane.opened = true ∧ t0 < t ∧ s.setup.applying = false ∧ s.cyc.cmds = [(t0, c)] ∧ s.cyc.token = none ∧
        s.rd F.PAIR_CFG_PAIR_EN = 0 ∧ s.cyc.act = some p ∧ s.cyc.mode = .hold ∧ c = .resume) ∧
    (∃ (s : State) (t : Nat) (t0 : Nat) (l : LaneId) (c : CycCmd) (p : Program), s.lanesRun = true ∧ (s.ln l).boundary ≤ t ∧
        s.lane.opened = true ∧ t0 < t ∧ s.setup.applying = false ∧ s.cyc.cmds = [(t0, c)] ∧ s.cyc.token = none ∧
        s.rd F.PAIR_CFG_PAIR_EN = 0 ∧ s.cyc.act = some p ∧
        (s.cyc.mode = .run ∨ s.cyc.mode = .hold ∨ s.cyc.mode = .starting) ∧ (c = .run ∨ c = .runCold)) ∧
    (∃ (s : State) (t : Nat) (t0 : Nat) (l : LaneId) (c : CycCmd) (p : Program), s.lanesRun = true ∧ (s.ln l).boundary ≤ t ∧
        s.lane.opened = true ∧ t0 < t ∧ s.setup.applying = false ∧ s.cyc.cmds = [(t0, c)] ∧ s.cyc.token = none ∧
        s.rd F.PAIR_CFG_PAIR_EN = 0 ∧ s.cyc.act = some p ∧ (s.cyc.mode = .stop ∨ s.cyc.mode = .starting) ∧ c = .stop) ∧
    (∃ (s : State) (t : Nat) (t0 : Nat) (l : LaneId) (c : CycCmd) (p : Program), s.lanesRun = true ∧ (s.ln l).boundary ≤ t ∧
        s.lane.opened = true ∧ t0 < t ∧ s.setup.applying = false ∧ s.cyc.cmds = [(t0, c)] ∧ s.cyc.token = none ∧
        s.rd F.PAIR_CFG_PAIR_EN = 0 ∧ s.cyc.act = some p ∧ s.cyc.mode ≠ .run ∧ c = .hold) ∧
    (∃ (s : State) (t : Nat) (t0 : Nat) (l : LaneId) (c : CycCmd) (p : Program), s.lanesRun = true ∧ (s.ln l).boundary ≤ t ∧
        s.lane.opened = true ∧ t0 < t ∧ s.setup.applying = false ∧ s.cyc.cmds = [(t0, c)] ∧ s.cyc.token = none ∧
        s.rd F.PAIR_CFG_PAIR_EN = 0 ∧ s.cyc.act = some p ∧ s.cyc.mode ≠ .hold ∧ (c = .step ∨ c = .resume)) :=
  ⟨⟨{ commanded .stop .run false with lane := (lanes banked banked banked .notArmed).lane }, 4, 3, .a, .run, prog,
      by (repeat' refine And.intro ?_ ?_) <;> first | decide +kernel | (intro m; cases m <;> decide +kernel)⟩,
    ⟨commanded .stop .runCold false, 4, 3, .a, .runCold, prog,
        by exact ⟨by decide +kernel, by decide +kernel, by decide +kernel, by decide, rfl, rfl, rfl, rfl, rfl, rfl, .inr rfl, .a, by decide +kernel⟩⟩,
    ⟨commanded .safe .runCold false, 4, 3, .a, .runCold, prog,
        by (repeat' refine And.intro ?_ ?_) <;> first | decide +kernel | (intro m; cases m <;> decide +kernel)⟩,
    ⟨commanded .safe .stop false, 4, 3, .a, .stop, prog,
        by (repeat' refine And.intro ?_ ?_) <;> first | decide +kernel | (intro m; cases m <;> decide +kernel)⟩,
    ⟨commanded .run .hold false, 4, 3, .a, .hold, prog,
        by (repeat' refine And.intro ?_ ?_) <;> first | decide +kernel | (intro m; cases m <;> decide +kernel)⟩,
    ⟨commanded .run .hold true, 4, 3, .a, .hold, prog,
        by (repeat' refine And.intro ?_ ?_) <;> first | decide +kernel | (intro m; cases m <;> decide +kernel)⟩,
    ⟨commanded .hold .step false, 4, 3, .a, .step, prog,
        by (repeat' refine And.intro ?_ ?_) <;> first | decide +kernel | (intro m; cases m <;> decide +kernel)⟩,
    ⟨commanded .hold .resume false, 4, 3, .a, .resume, prog,
        by (repeat' refine And.intro ?_ ?_) <;> first | decide +kernel | (intro m; cases m <;> decide +kernel)⟩,
    ⟨commanded .starting .run false, 4, 3, .a, .run, prog,
        by (repeat' refine And.intro ?_ ?_) <;> first | decide +kernel | (intro m; cases m <;> decide +kernel)⟩,
    ⟨commanded .starting .stop false, 4, 3, .a, .stop, prog,
        by (repeat' refine And.intro ?_ ?_) <;> first | decide +kernel | (intro m; cases m <;> decide +kernel)⟩,
    ⟨commanded .hold .hold false, 4, 3, .a, .hold, prog,
        by (repeat' refine And.intro ?_ ?_) <;> first | decide +kernel | (intro m; cases m <;> decide +kernel)⟩,
    ⟨commanded .run .resume false, 4, 3, .a, .resume, prog,
        by (repeat' refine And.intro ?_ ?_) <;> first | decide +kernel | (intro m; cases m <;> decide +kernel)⟩⟩

theorem witness_ProgramLoadAndRestart :
    (∃ (s : State) (t : Nat) (ha : Nat) (hb : Nat) (hc : Nat) (k : Nat) (v : Nat) (a : Attr) (peek : Bool) (p : Program) (rest : List (Nat × Nat)) (pins : List Nat),
        let fits := p.inLimits = true ∧ s.pinsOk pins = true ∧ s.pwr.laneUp = true;
        let n := (s.tick t).settled 0x4030001C s.cyc.report.length;
        fits ∧ (ha ≠ p.hash ∨ hb ≠ p.hash ∨ hc ≠ p.hash) ∧ s.cyc.mode ≠ .stop ∧ s.cyc.token.isSome = true ∧
        s.cyc.tokenEnd ≤ t ∧ s.cyc.mode = .starting ∧
        (s.tick t).passes (if peek then 0x4030801C else 0x4030001C) a false = true ∧ s.cyc.report = (k, v) :: rest ∧ n ≠ 0) ∧
    (∃ (s : State) (t : Nat) (a : Attr) (peek : Bool) (p : Program) (pins : List Nat),
        let fits := p.inLimits = true ∧ s.pinsOk pins = true ∧ s.pwr.laneUp = true;
        let n := (s.tick t).settled 0x4030001C s.cyc.report.length;
        (¬ fits) ∧ (s.tick t).passes (if peek then 0x4030801C else 0x4030001C) a false = true ∧ n = 0) ∧
    (∃ (s : State) (p : Program) (pins : List Nat),
        let fits := p.inLimits = true ∧ s.pinsOk pins = true ∧ s.pwr.laneUp = true;
        fits ∧ s.cyc.mode = .stop) :=
  ⟨⟨{ State.reset with
      regs := regsOf [(F.WORLD_RGN1_LIMIT 3 0, 1048575), (F.WORLD_RGN2_DOM 3 0, 7), (F.WORLD_RGN2_P_R 3 0, 1),
      (F.WORLD_RGN2_EN 3 0, 1)], cyc := { State.reset.cyc with
      mode := ProgMode.starting, token := some {
      mid := 1, rights := 7, keySlot := 3, progHash := 9, notBefore := 0, notAfter := 5, nonce := 11, sigOk := true },
      report := [(1, 6), (2, 7)] }, pwr := { State.reset.pwr with laneUp := true } }, 20, 9, 8, 9, 1, 6,
      { attic := false, inst := 3, dom := Dom.hub }, true, {
      hash := 9, codeLen := 4, dataLen := 4, carriedSize := 4, retainedLen := 4, units := 1, vars := [{
      id := 1, typ := 0, size := 1, offset := 0, cls := 2, carried := true, retained := true, vital := false, init := 5 }, {
      id := 2, typ := 0, size := 1, offset := 0, cls := 2, carried := false, retained := false, vital := false, init := 6 }],
      tasks := [{ num := 0, mult := 0, phase := 0, wcet := 5 }], io := [IoBind.cmd 5 1, IoBind.permit 2 1,
      IoBind.din 3 2 7] }, [(2, 7)], [0, 7], by decide +kernel⟩,
    ⟨{ State.reset with
        regs := regsOf [(F.WORLD_RGN1_LIMIT 3 0, 1048575), (F.WORLD_RGN2_DOM 3 0, 7), (F.WORLD_RGN2_P_R 3 0, 1),
        (F.WORLD_RGN2_EN 3 0, 1)] }, 20, { attic := false, inst := 3, dom := Dom.hub }, true, {
        hash := 9, codeLen := 4, dataLen := 4, carriedSize := 4, retainedLen := 4, units := 1, vars := [{
        id := 1, typ := 0, size := 1, offset := 0, cls := 2, carried := true, retained := true, vital := false, init := 5 },
        {
        id := 2, typ := 0, size := 1, offset := 0, cls := 2, carried := false, retained := false, vital := false,
        init := 6 }], tasks := [{ num := 0, mult := 0, phase := 0, wcet := 5 }], io := [IoBind.cmd 5 1, IoBind.permit 2 1,
        IoBind.din 3 2 7] }, [], by decide +kernel⟩,
    ⟨{ State.reset with pwr := { State.reset.pwr with laneUp := true } }, {
        hash := 9, codeLen := 4, dataLen := 4, carriedSize := 4, retainedLen := 4, units := 1, vars := [{
        id := 1, typ := 0, size := 1, offset := 0, cls := 2, carried := true, retained := true, vital := false, init := 5 },
        {
        id := 2, typ := 0, size := 1, offset := 0, cls := 2, carried := false, retained := false, vital := false,
        init := 6 }], tasks := [{ num := 0, mult := 0, phase := 0, wcet := 5 }], io := [IoBind.cmd 5 1, IoBind.permit 2 1,
        IoBind.din 3 2 7] }, [0, 7], by decide +kernel⟩⟩

theorem witness_ForceCommitJudgesEntries :
    (∀ j, j < 3 → (forced 2 255).rd (F.CYCMGR_FORCE_BACK_WORD 255 j) < 2 ^ 32) ∧ (forced 2 255).cyc.act = some prog ∧
    (forced 3 0).rd (F.CYCMGR_FORCE_BACK3_EN 255) = 1 ∧ prog.decl 3 = none ∧
    (∃ d, prog.decl 1 = some d ∧ 256 ^ d.size ≤ 256) ∧
    (∃ d, prog.decl 1 = some d ∧ 255 < 256 ^ d.size ∧ d.vital = false) ∧
    (∃ d, prog.decl 2 = some d ∧ 255 < 256 ^ d.size ∧ d.vital = true ∧ (forced 2 255).mayForceVital = false) ∧
    (State.mayForceVital { forced 2 255 with cyc := { (forced 2 255).cyc with token := some ticket } } = true) :=
  ⟨by decide +kernel, rfl, by decide +kernel, by decide +kernel, ⟨_, rfl, by decide⟩, ⟨_, rfl, by decide⟩,
    ⟨_, rfl, by decide, rfl, rfl⟩, by decide +kernel⟩

theorem witness_OnlineChangeCarriesOver :
    ∃ (s : State) (t : Nat) (l : LaneId) (old : Program) (next : Program) (g : Agreed) (fs : List ForceUse) (rest : List (Nat × Agreed × List ForceUse)),
        s.lanesRun = true ∧ (s.ln l).executes = true ∧ (s.ln l).agreed.isSome = true ∧ (s.ln l).boundary + 250000 ≤ t ∧
        t < (s.ln l).deadline ∧ (s.ln l).running = none ∧ (s.ln l).oldProg = none ∧ (s.ln l).queue = (s.cyc.ocCyc, g,
        fs) :: rest ∧ (∀ f, f ∈ fs → f.over old next s.mayForceVital = none) ∧ s.cyc.oc = .armed ∧ s.cyc.act = some old ∧
        s.cyc.inact = some next ∧ s.cyc.token = none ∧ next.tasks = [] ∧ next.io = [] ∧ (∀ d, d ∈ next.vars →
        next.decl d.id = some d) ∧ (∀ e, e < 256 → s.rd (F.CYCMGR_FORCE_ACT3_EN e) = 0) ∧ (s.ln l).fbs = [] :=
  ⟨{ cycling { cycle with agreed := some sample, queue := [(7, sample, [])] } with
      cyc := { State.reset.cyc with
      oc := .armed, ocCyc := 7, act := some prog, inact := some { prog with hash := 12 } } }, 250000, .a, prog,
      { prog with hash := 12 }, sample, [], [], by decide +kernel⟩

theorem witness_PairAuthorityLoop :
    (∃ (s : State) (t : Nat) (q : Nat) (e : Nat) (i : Int),
        let p := s.pair;
        p.source = false ∧ (1000 ≤ i ∨ (-6000 < i ∧ i ≤ -1000)) ∧ p.backoff = some e ∧ e ≤ t ∧ p.loopQuiet = true ∧
        p.quiet = some q ∧ s.flag F.PAIR_CFG_PAIR_EN = true ∧ p.partner ≠ some .primary ∧ p.state ≠ .primary ∧
        p.noHolder = false ∧ q + 1000000000 ≤ t) ∧
    (∃ (s : State) (t : Nat) (v : Nat) (i : Int),
        let p := s.pair;
        p.source = true ∧ ((1500 ≤ v ∧ v < 2400) ∨ (6000 ≤ v ∧ v < 12000) ∨ (2400 ≤ v ∧ v < 6000 ∧ i < 6000)) ∧
        p.held = false ∧ p.sourceAt + 1000000 ≤ t) ∧
    (∃ (s : State) (v : Nat) (i : Int),
        let p := s.pair;
        p.source = true ∧ p.held = true ∧ p.state = .primary ∧ (v < 2400 ∨ 6000 ≤ v ∨ i < 6000) ∧ v < 1500) ∧
    (∃ (s : State) (t : Nat) (q : Nat) (i : Int),
        let p := s.pair;
        p.source = false ∧ i ≤ -6000 ∧ p.quiet = some q ∧ s.mayClaim = true ∧ s.authGate = true ∧
        q + (if p.quietX = true then s.rd F.PAIR_CFG2_TRANSFER_QUIET * 1000 else s.rd F.PAIR_CFG_CLAIM_QUIET * 500000) ≤ t) ∧
    (∃ (s : State) (v : Nat), let p := s.pair; p.source = true ∧ 12000 ≤ v) ∧
    (∃ (s : State) (i : Int), let p := s.pair; p.source = false ∧ i.natAbs < 1000 ∧ p.quiet = none ∧ p.backoff = none) ∧
    (∃ (s : State) (v : Nat) (i : Int),
        let p := s.pair;
        s.flag F.PAIR_CFG_PAIR_EN = true ∧ s.mayClaim = true ∧ p.source = true ∧ p.held = false ∧ 2400 ≤ v ∧ v < 6000 ∧
        6000 ≤ i) :=
  ⟨⟨{ State.reset with
      regs := regsOf [(F.PAIR_CFG_PAIR_EN, 1)],
      pair := { State.reset.pair with loopQuiet := true, quiet := some 100, backoff := some 3 } }, 80000000000, 100, 3, 6000,
      by decide +kernel⟩,
    ⟨{ State.reset with pair := { State.reset.pair with source := true } }, 2000000, 6000, 6000, by decide +kernel⟩,
    ⟨{ State.reset with
        pair := { State.reset.pair with state := PairState.primary, held := true, source := true } }, 1499, 0,
        by decide +kernel⟩,
    ⟨{ State.reset with
        lane := { State.reset.lane with
        lanes := [(0, { Lane.init with counted := 18014398509481984 }), (1,
        { Lane.init with counted := 18014398509481984 })] }, pair := { State.reset.pair with quiet := some 100 } },
        5000000000000, 100, -7000, by decide +kernel⟩,
    ⟨{ State.reset with pair := { State.reset.pair with source := true } }, 12000, by decide +kernel⟩,
    ⟨State.reset, 9, by decide +kernel⟩,
    ⟨{ State.reset with
        regs := regsOf [(F.PAIR_CFG_PAIR_EN, 1)], pair := { State.reset.pair with source := true } }, 2400, 6000,
        by decide +kernel⟩⟩

theorem witness_PairNoFaultGivesAuthority :
    ∃ (s : State) (v : Nat) (i : Int), s.pair.held = false ∧ (s.pair.source = false ∨ v < 2400 ∨ 6000 ≤ v ∨ i < 6000) :=
  ⟨State.reset, 5999, 6001, by decide +kernel⟩

theorem witness_PairFramesAndTransfers :
    (∃ (s : State) (t : Nat) (cyc : Nat) (vote : Nat) (bt : Nat) (a : Attr) (img : Agreed0) (c : PairCopy) (prog : Program),
        let p := s.pair;
        let mac (f : Fld) : Nat := Config.moduleMac (s.rd f);
        let passes (len : Nat) : Prop := s.flag F.PAIR_CFG_PAIR_EN = true ∧
          ((s.tick t).hallPass pairPort lanePort 7 (pairEth (mac F.SYSCTL_MID_MID) (mac F.PAIR_CFG_PARTNER_MID) len)).1 = true;
        let copied : Tbl (List Nat) := c.blocks.foldl (fun (m : Tbl (List Nat)) b => m.insert b.1 b.2) p.region;
        let bytes := ({ s with pair := { p with region := copied } }).regionSoFar prog.carriedSize;
        let imgLen := (PairFrame.img cyc img bt).len;
        let copyLen := (PairFrame.copy cyc c).len;
        passes imgLen ∧ (p.state = .standby ∨ p.state = .syncing) ∧ passes 2089 ∧ s.ownOutput = none ∧ passes 100 ∧
        vote < 4 ∧ p.state ≠ .seek ∧ passes copyLen ∧ p.state = .syncing ∧ s.cyc.act = some prog ∧ c.final = true ∧
        p.outSign ≠ some (cyc, crc32 bytes) ∧ (s.tick t).passes 0x40380004 a true = true ∧ p.state ≠ .standby ∧
        s.mayTransfer = false ∧ passes 64 ∧ p.xferAsked.isSome = true) ∧
    (∃ (s : State) (t : Nat) (a : Attr),
        let p := s.pair;
        let mac (f : Fld) : Nat := Config.moduleMac (s.rd f);
        let passes (len : Nat) : Prop := s.flag F.PAIR_CFG_PAIR_EN = true ∧
          ((s.tick t).hallPass pairPort lanePort 7 (pairEth (mac F.SYSCTL_MID_MID) (mac F.PAIR_CFG_PARTNER_MID) len)).1 = true;
        (s.tick t).passes 0x40380004 a true = true ∧ p.state = .standby ∧ passes 64) ∧
    (∃ (s : State) (t : Nat) (a : Attr),
        let mac (f : Fld) : Nat := Config.moduleMac (s.rd f);
        let passes (len : Nat) : Prop := s.flag F.PAIR_CFG_PAIR_EN = true ∧
          ((s.tick t).hallPass pairPort lanePort 7 (pairEth (mac F.SYSCTL_MID_MID) (mac F.PAIR_CFG_PARTNER_MID) len)).1 = true;
        (s.tick t).passes 0x40380004 a true = true ∧ s.mayTransfer = true ∧ passes 64) ∧
    (∃ (s : State) (t : Nat) (cyc : Nat) (c : PairCopy) (prog : Program),
        let p := s.pair;
        let mac (f : Fld) : Nat := Config.moduleMac (s.rd f);
        let passes (len : Nat) : Prop := s.flag F.PAIR_CFG_PAIR_EN = true ∧
          ((s.tick t).hallPass pairPort lanePort 7 (pairEth (mac F.SYSCTL_MID_MID) (mac F.PAIR_CFG_PARTNER_MID) len)).1 = true;
        let copyLen := (PairFrame.copy cyc c).len;
        passes copyLen ∧ p.state = .syncing ∧ s.cyc.act = some prog ∧ c.final = false) ∧
    (∃ (s : State) (t : Nat),
        let p := s.pair;
        let mac (f : Fld) : Nat := Config.moduleMac (s.rd f);
        let passes (len : Nat) : Prop := s.flag F.PAIR_CFG_PAIR_EN = true ∧
          ((s.tick t).hallPass pairPort lanePort 7 (pairEth (mac F.SYSCTL_MID_MID) (mac F.PAIR_CFG_PARTNER_MID) len)).1 = true;
        passes 64 ∧ p.state = .primary ∧ s.mayTransfer = false) ∧
    (∃ (s : State) (t : Nat) (cyc : Nat) (c : PairCopy) (prog : Program),
        let p := s.pair;
        let mac (f : Fld) : Nat := Config.moduleMac (s.rd f);
        let passes (len : Nat) : Prop := s.flag F.PAIR_CFG_PAIR_EN = true ∧
          ((s.tick t).hallPass pairPort lanePort 7 (pairEth (mac F.SYSCTL_MID_MID) (mac F.PAIR_CFG_PARTNER_MID) len)).1 = true;
        let copied : Tbl (List Nat) := c.blocks.foldl (fun (m : Tbl (List Nat)) b => m.insert b.1 b.2) p.region;
        let bytes := ({ s with pair := { p with region := copied } }).regionSoFar prog.carriedSize;
        let copyLen := (PairFrame.copy cyc c).len;
        passes copyLen ∧ p.state = .syncing ∧ s.cyc.act = some prog ∧ c.final = true ∧ p.outSign = some (cyc, crc32 bytes)) ∧
    (∃ (s : State) (t : Nat) (cyc : Nat) (bt : Nat) (img : Agreed0),
        let mac (f : Fld) : Nat := Config.moduleMac (s.rd f);
        let passes (len : Nat) : Prop := s.flag F.PAIR_CFG_PAIR_EN = true ∧
          ((s.tick t).hallPass pairPort lanePort 7 (pairEth (mac F.SYSCTL_MID_MID) (mac F.PAIR_CFG_PARTNER_MID) len)).1 = true;
        let imgLen := (PairFrame.img cyc img bt).len;
        (¬ passes imgLen)) ∧
    (∃ (s : State) (t : Nat) (a : Attr),
        let p := s.pair;
        s.mayResync = true ∧ p.detachedAt + 10000000000 ≤ t ∧ (s.tick t).passes 0x40380004 a true = true) ∧
    (∃ (s : State) (t : Nat) (vote : Nat) (hash : Nat) (digest : Nat),
        let p := s.pair;
        let mac (f : Fld) : Nat := Config.moduleMac (s.rd f);
        let passes (len : Nat) : Prop := s.flag F.PAIR_CFG_PAIR_EN = true ∧
          ((s.tick t).hallPass pairPort lanePort 7 (pairEth (mac F.SYSCTL_MID_MID) (mac F.PAIR_CFG_PARTNER_MID) len)).1 = true;
        passes 100 ∧ vote < 4 ∧ p.state = .seek ∧ hash = s.ownHash ∧ digest = s.ownDigest) ∧
    (∃ (s : State) (t : Nat),
        let p := s.pair;
        p.state = .seek ∧ s.flag F.PAIR_CFG_PREFERRED = false ∧ p.heardEver = false ∧ p.claim = false ∧
        p.seekAt + s.rd F.PAIR_CFG2_PARTNER_WAIT * 100000000 ≤ t) ∧
    (∃ (s : State) (t : Nat) (vote : Nat) (digest : Nat),
        let p := s.pair;
        let mac (f : Fld) : Nat := Config.moduleMac (s.rd f);
        let passes (len : Nat) : Prop := s.flag F.PAIR_CFG_PAIR_EN = true ∧
          ((s.tick t).hallPass pairPort lanePort 7 (pairEth (mac F.SYSCTL_MID_MID) (mac F.PAIR_CFG_PARTNER_MID) len)).1 = true;
        passes 100 ∧ vote < 4 ∧ p.state = .seek ∧ digest ≠ s.ownDigest ∧ s.flag F.PAIR_CFG_PREFERRED = false) ∧
    (∃ (s : State) (t : Nat) (n : Nat),
        let p := s.pair;
        p.inStepAt = some n ∧ p.state = .standby ∧ s.flag F.PAIR_CFG_PREFERRED = true ∧ s.rd F.PAIR_CFG2_REVERT_HOLD ≠ 0 ∧
        p.xferAsked = none ∧ n + s.rd F.PAIR_CFG2_REVERT_HOLD * 1000000000 ≤ t) :=
  ⟨⟨{ State.reset with
      regs := regsOf [(F.PAIR_CFG_PAIR_EN, 1), (F.HALL_CTL_FWD_EN, 1), (F.HALL_PORT_STAT_LINK_STATE 17, 0),
      (F.WORLD_RGN1_LIMIT 3 0, 1048575), (F.WORLD_RGN2_DOM 3 0, 7), (F.WORLD_RGN2_P_W 3 0, 1), (F.WORLD_RGN2_EN 3 0, 1)],
      cyc := { State.reset.cyc with
      act := some {
      hash := 9, codeLen := 4, dataLen := 4, carriedSize := 4, retainedLen := 4, units := 1, vars := [{
      id := 1, typ := 0, size := 1, offset := 0, cls := 2, carried := true, retained := true, vital := false, init := 5 }, {
      id := 2, typ := 0, size := 1, offset := 0, cls := 2, carried := false, retained := false, vital := false, init := 6 }],
      tasks := [{ num := 0, mult := 0, phase := 0, wcet := 5 }], io := [IoBind.cmd 5 1, IoBind.permit 2 1,
      IoBind.din 3 2 7] } }, pair := { State.reset.pair with state := PairState.syncing, xferAsked := some 3 } }, 5,
      4294967301, 2, 0, { attic := false, inst := 3, dom := Dom.hub }, { din := 0, ain := [], tiles := [], vin := [] },
      { blocks := [], final := true }, {
      hash := 9, codeLen := 4, dataLen := 4, carriedSize := 4, retainedLen := 4, units := 1, vars := [{
      id := 1, typ := 0, size := 1, offset := 0, cls := 2, carried := true, retained := true, vital := false, init := 5 }, {
      id := 2, typ := 0, size := 1, offset := 0, cls := 2, carried := false, retained := false, vital := false, init := 6 }],
      tasks := [{ num := 0, mult := 0, phase := 0, wcet := 5 }], io := [IoBind.cmd 5 1, IoBind.permit 2 1,
      IoBind.din 3 2 7] }, by decide +kernel⟩,
    ⟨{ State.reset with
        regs := regsOf [(F.PAIR_CFG_PAIR_EN, 1), (F.HALL_CTL_FWD_EN, 1), (F.HALL_PORT_STAT_LINK_STATE 17, 0),
        (F.WORLD_RGN1_LIMIT 3 0, 1048575), (F.WORLD_RGN2_DOM 3 0, 7), (F.WORLD_RGN2_P_W 3 0, 1), (F.WORLD_RGN2_EN 3 0, 1)],
        pair := { State.reset.pair with state := PairState.standby } }, 80000000000,
        { attic := false, inst := 3, dom := Dom.hub }, by decide +kernel⟩,
    ⟨{ State.reset with
        regs := regsOf [(F.PAIR_CFG_PAIR_EN, 1), (F.HALL_CTL_FWD_EN, 1), (F.HALL_PORT_STAT_LINK_STATE 17, 0),
        (F.WORLD_RGN1_LIMIT 3 0, 1048575), (F.WORLD_RGN2_DOM 3 0, 7), (F.WORLD_RGN2_P_W 3 0, 1), (F.WORLD_RGN2_EN 3 0, 1)],
        cyc := { State.reset.cyc with mode := ProgMode.run }, pair := { State.reset.pair with
        state := PairState.primary, partner := some (PairState.standby), partnerInStep := true } }, 5,
        { attic := false, inst := 3, dom := Dom.hub }, by decide +kernel⟩,
    ⟨{ State.reset with
        regs := regsOf [(F.PAIR_CFG_PAIR_EN, 1), (F.HALL_CTL_FWD_EN, 1), (F.HALL_PORT_STAT_LINK_STATE 17, 0)],
        cyc := { State.reset.cyc with
        act := some {
        hash := 9, codeLen := 4, dataLen := 4, carriedSize := 4, retainedLen := 4, units := 1, vars := [{
        id := 1, typ := 0, size := 1, offset := 0, cls := 2, carried := true, retained := true, vital := false, init := 5 },
        {
        id := 2, typ := 0, size := 1, offset := 0, cls := 2, carried := false, retained := false, vital := false,
        init := 6 }], tasks := [{ num := 0, mult := 0, phase := 0, wcet := 5 }], io := [IoBind.cmd 5 1, IoBind.permit 2 1,
        IoBind.din 3 2 7] } }, pair := { State.reset.pair with state := PairState.syncing } }, 20, 0,
        { blocks := [], final := false }, {
        hash := 9, codeLen := 4, dataLen := 4, carriedSize := 4, retainedLen := 4, units := 1, vars := [{
        id := 1, typ := 0, size := 1, offset := 0, cls := 2, carried := true, retained := true, vital := false, init := 5 },
        {
        id := 2, typ := 0, size := 1, offset := 0, cls := 2, carried := false, retained := false, vital := false,
        init := 6 }], tasks := [{ num := 0, mult := 0, phase := 0, wcet := 5 }], io := [IoBind.cmd 5 1, IoBind.permit 2 1,
        IoBind.din 3 2 7] }, by decide +kernel⟩,
    ⟨{ State.reset with
        regs := regsOf [(F.PAIR_CFG_PAIR_EN, 1), (F.HALL_CTL_FWD_EN, 1), (F.HALL_PORT_STAT_LINK_STATE 17, 0)],
        pair := { State.reset.pair with state := PairState.primary } }, 5000000000000, by decide +kernel⟩,
    ⟨{ State.reset with
        regs := regsOf [(F.PAIR_CFG_PAIR_EN, 1), (F.HALL_CTL_FWD_EN, 1), (F.HALL_PORT_STAT_LINK_STATE 17, 0)],
        cyc := { State.reset.cyc with
        act := some {
        hash := 9, codeLen := 4, dataLen := 4, carriedSize := 4, retainedLen := 4, units := 1, vars := [{
        id := 1, typ := 0, size := 1, offset := 0, cls := 2, carried := true, retained := true, vital := false, init := 5 },
        {
        id := 2, typ := 0, size := 1, offset := 0, cls := 2, carried := false, retained := false, vital := false,
        init := 6 }], tasks := [{ num := 0, mult := 0, phase := 0, wcet := 5 }], io := [IoBind.cmd 5 1, IoBind.permit 2 1,
        IoBind.din 3 2 7] } },
        pair := { State.reset.pair with state := PairState.syncing, outSign := some (0, 3057449933) } }, 5000000000000, 0,
        { blocks := [(0, [1, 2, 3, 4])], final := true }, {
        hash := 9, codeLen := 4, dataLen := 4, carriedSize := 4, retainedLen := 4, units := 1, vars := [{
        id := 1, typ := 0, size := 1, offset := 0, cls := 2, carried := true, retained := true, vital := false, init := 5 },
        {
        id := 2, typ := 0, size := 1, offset := 0, cls := 2, carried := false, retained := false, vital := false,
        init := 6 }], tasks := [{ num := 0, mult := 0, phase := 0, wcet := 5 }], io := [IoBind.cmd 5 1, IoBind.permit 2 1,
        IoBind.din 3 2 7] }, by decide +kernel⟩,
    ⟨running, 0, 0, 0, ⟨0, [], [], []⟩, by decide +kernel⟩,
    ⟨{ running with
        cyc := { State.reset.cyc with act := some prog }, pair := { State.reset.pair with
        state := .detached, partner := some .primary, partnerHash := 9, partnerDigest := running.ownDigest,
        detachedAt := 5 } }, 10000000005, attic,
        by exact ⟨beq_self_eq_true running.ownDigest, by decide +kernel, by decide +kernel⟩⟩,
    ⟨seeking, 5, 3, State.ownHash seeking, State.ownDigest seeking, by exact ⟨by decide +kernel, by decide, rfl, rfl, rfl⟩⟩,
    ⟨seeking, 5000000000000, by decide +kernel⟩,
    ⟨seeking, 5, 0, State.ownDigest seeking + 1,
        by exact ⟨by decide +kernel, by decide, rfl, Nat.succ_ne_self _, by decide +kernel⟩⟩,
    ⟨{ running with
        regs := regsOf [(F.PAIR_CFG_PREFERRED, 1), (F.PAIR_CFG2_REVERT_HOLD, 1)],
        pair := { State.reset.pair with state := .standby, inStepAt := some 5 } }, 1000000005, 5, by decide +kernel⟩⟩

theorem witness_UioPinsAndSupplies :
    (∃ (s : State) (t : Nat) (u : Nat) (k : Nat) (v : Int),
        let mode := s.rd (F.UIO_PIN_CFG_MODE u);
        let gate : Prop := ∀ g, (s.pin u).gateAt = some g → g + 1000000 * s.rd (F.UIO_PIN_CFG_FGATE u) ≤ t;
        u < 48 ∧ k < 8 ∧ 16 ≤ u ∧ 2 ≤ mode ∧ mode ≤ 6 ∧ 0 ≤ v ∧ v < 2 ^ 31 ∧ (¬ gate) ∧ (s.sup k).on = true) ∧
    (∃ (s : State) (t : Nat) (u : Nat) (k : Nat), u < 48 ∧ k < 8 ∧ u < 16 ∧ s.flag (F.UIO_SP_CTL_SP_LOCK k) = true ∧
        (s.sup k).tripped = true ∧ (s.sup k).tripAt + 1000000000 ≤ t ∧ s.supplyMay = true) ∧
    (∃ (s : State) (t : Nat) (u : Nat) (k : Nat) (edges : Nat) (cycles : Nat) (span : Nat),
        let mode := s.rd (F.UIO_PIN_CFG_MODE u);
        let gate : Prop := ∀ g, (s.pin u).gateAt = some g → g + 1000000 * s.rd (F.UIO_PIN_CFG_FGATE u) ≤ t;
        u < 48 ∧ k < 8 ∧ 16 ≤ u ∧ mode = 7 ∧ gate ∧ edges ≠ 0 ∧ cycles ≠ 0 ∧ span ≠ 0 ∧
        cycles * 1000000000000 / span < 2 ^ 31 ∧ 1 ≤ (s.pin u).quiet) ∧
    (∃ (s : State) (u : Nat) (k : Nat), let mode := s.rd (F.UIO_PIN_CFG_MODE u); u < 48 ∧ k < 8 ∧ 16 ≤ u ∧ mode = 0) ∧
    (∃ (s : State) (u : Nat) (k : Nat) (mv : Int),
        let lo : Int := 100 * s.rd (F.UIO_PIN_THR_TH_LO u);
        let hi : Int := 100 * s.rd (F.UIO_PIN_THR_TH_HI u);
        let mode := s.rd (F.UIO_PIN_CFG_MODE u);
        u < 48 ∧ k < 8 ∧ 16 ≤ u ∧ mode = 1 ∧ s.rd (F.UIO_PIN_CFG_DEB u) = 0 ∧ lo ≤ hi ∧ (s.pin u).raw = (s.pin u).level ∧
        mv < lo) ∧
    (∃ (s : State) (u : Nat) (k : Nat) (mv : Int),
        let lo : Int := 100 * s.rd (F.UIO_PIN_THR_TH_LO u);
        let hi : Int := 100 * s.rd (F.UIO_PIN_THR_TH_HI u);
        let mode := s.rd (F.UIO_PIN_CFG_MODE u);
        u < 48 ∧ k < 8 ∧ 16 ≤ u ∧ mode = 1 ∧ s.rd (F.UIO_PIN_CFG_DEB u) = 0 ∧ lo ≤ hi ∧ (s.pin u).raw = (s.pin u).level ∧
        lo ≤ mv ∧ mv < hi) ∧
    (∃ (s : State) (u : Nat) (k : Nat) (mv : Int),
        let lo : Int := 100 * s.rd (F.UIO_PIN_THR_TH_LO u);
        let hi : Int := 100 * s.rd (F.UIO_PIN_THR_TH_HI u);
        let mode := s.rd (F.UIO_PIN_CFG_MODE u);
        u < 48 ∧ k < 8 ∧ 16 ≤ u ∧ mode = 1 ∧ s.rd (F.UIO_PIN_CFG_DEB u) = 0 ∧ lo ≤ hi ∧ (s.pin u).raw = (s.pin u).level ∧
        hi ≤ mv) :=
  ⟨⟨{ State.reset with
      regs := regsOf [(F.UIO_PIN_CFG_MODE 17, 4)], uio := { State.reset.uio with
      pins := [(17, { Pin.init with gateAt := some 10000000 })], sups := [(4,
      { on := true, tripped := false, tripAt := 4 })] } }, 5, 17, 4, 32641, by decide +kernel⟩,
    ⟨{ State.reset with
        regs := regsOf [(F.UIO_SP_CTL_SP_LOCK 3, 1)],
        uio := { State.reset.uio with sups := [(3, { on := true, tripped := true, tripAt := 4 })] },
        pwr := { State.reset.pwr with hubUp := true } }, 80000000000, 0, 3, by decide +kernel⟩,
    ⟨{ State.reset with
        regs := regsOf [(F.UIO_PIN_CFG_MODE 47, 7)],
        uio := { State.reset.uio with pins := [(47, { Pin.init with quiet := 1 })] } }, 2000000, 47, 1, 1, 1, 40000,
        by decide +kernel⟩,
    ⟨State.reset, 16, 2, by decide +kernel⟩,
    ⟨{ State.reset with regs := regsOf [(F.UIO_PIN_CFG_MODE 17, 1)] }, 17, 2, 0, by decide +kernel⟩,
    ⟨{ State.reset with regs := regsOf [(F.UIO_PIN_CFG_MODE 17, 1)] }, 17, 2, 5199, by decide +kernel⟩,
    ⟨{ State.reset with regs := regsOf [(F.UIO_PIN_CFG_MODE 17, 1)] }, 17, 2, 20000, by decide +kernel⟩⟩

theorem witness_UioStations :
    (∃ (s : State) (t : Nat) (seg : Nat) (n : Nat) (a : Attr) (r : StnResp),
        let k := 16 * seg + n;
        let x := s.stn k;
        seg < 2 ∧ n < 16 ∧ respStn r = n + 1 ∧ s.respOk seg r = false ∧ x.awaiting = true ∧
        s.uio.polled.getD 0 seg + 1000 * s.rd (F.UIO_SEG_CFG_POLL_PERIOD seg) ≤ t ∧ s.stair.carried.find? k = none ∧
        (s.tick t).passes (F.UIO_STN_CTL_IN_LEN seg n).addr a true = true ∧
        (s.tick t).passes (F.UIO_SEG_CFG_SEG_EN seg).addr a true = true ∧ x.configured = true) ∧
    (∃ (s : State) (seg : Nat) (n : Nat) (r : StnResp),
        let k := 16 * seg + n;
        let x := s.stn k;
        seg < 2 ∧ n < 16 ∧ respStn r = n + 1 ∧ s.respOk seg r = true ∧
        (x.awaiting = false ∨ respCycle r ≠ s.rd (F.UIO_SEG_CNT_CYCLE seg))) ∧
    (∃ (s : State) (seg : Nat) (n : Nat) (r : StnResp),
        let ins := respIns r;
        let k := 16 * seg + n;
        let x := s.stn k;
        seg < 2 ∧ n < 16 ∧ respStn r = n + 1 ∧ s.respOk seg r = true ∧ ins.length ≤ 32 ∧ x.awaiting = true ∧
        respCycle r = s.rd (F.UIO_SEG_CNT_CYCLE seg) ∧ x.wdSent = false ∧ s.stair.carried.find? k = none) ∧
    (∃ (s : State) (t : Nat) (seg : Nat) (n : Nat) (r : StnResp),
        let k := 16 * seg + n;
        let x := s.stn k;
        seg < 2 ∧ n < 16 ∧ respStn r = n + 1 ∧ s.flag (F.UIO_SEG_CFG_SEG_EN seg) = true ∧ (∀ j, (s.stn j).awaiting = false) ∧
        (∀ t0, s.uio.polled.find? seg = some t0 → t0 + 1000 * s.rd (F.UIO_SEG_CFG_POLL_PERIOD seg) ≤ t) ∧
        x.configured = true) :=
  ⟨⟨{ State.reset with
      regs := regsOf [(F.WORLD_RGN1_LIMIT 3 0, 1048575), (F.WORLD_RGN2_DOM 3 0, 7), (F.WORLD_RGN2_P_W 3 0, 1),
      (F.WORLD_RGN2_EN 3 0, 1)],
      uio := { State.reset.uio with stns := [(16, { Station.init with configured := true, awaiting := true })] } }, 2000000,
      1, 0, { attic := false, inst := 3, dom := Dom.hub }, {
      fcsOk := true, etype := 34998, bytes := [2, 2, 8, 0, 1, 255, 3, 0, 0, 0, 0, 0, 52, 18, 52, 18, 52, 18, 52, 18, 52, 18,
      52, 18, 52, 18, 52, 18, 52, 18, 52, 18, 52, 18, 52, 18, 52, 18, 52, 18, 52, 18, 52, 18, 52, 18, 52, 18, 52, 18, 52, 18,
      52, 18, 52, 18, 52, 18, 52, 18, 52, 18, 52, 18, 52, 18, 52, 18, 52, 18, 52, 18, 52, 18, 52, 18, 52, 18, 52, 18] },
      by decide +kernel⟩,
    ⟨{ State.reset with
        regs := regsOf [(F.UIO_SEG_CFG_SEG_EN 0, 1), (F.UIO_STN_CTL_IN_LEN 0 0, 1)],
        uio := { State.reset.uio with stns := [(0, { Station.init with configured := true })] } }, 0, 0,
        { fcsOk := true, etype := 34998, bytes := [1, 2, 255, 255, 1, 4, 3, 0, 0, 0, 0, 0, 52, 18] }, by decide +kernel⟩,
    ⟨{ State.reset with
        regs := regsOf [(F.UIO_SEG_CNT_CYCLE 0, 3), (F.UIO_STN_CTL_IN_LEN 0 1, 15)],
        uio := { State.reset.uio with stns := [(1, { Station.init with configured := true, awaiting := true })] } }, 0, 1, {
        fcsOk := true, etype := 34998, bytes := [1, 2, 3, 0, 2, 0, 3, 0, 0, 0, 0, 0, 52, 18, 52, 18, 52, 18, 52, 18, 52, 18,
        52, 18, 52, 18, 52, 18, 52, 18, 52, 18, 52, 18, 52, 18, 52, 18, 52, 18, 52, 18] }, by decide +kernel⟩,
    ⟨{ running with
        regs := regsOf [(F.UIO_SEG_CFG_SEG_EN 1, 1)],
        uio := { State.reset.uio with stns := [(31, { Station.init with configured := true })] } }, 0, 1, 15, ⟨true, 0x88B6,
        [1, 2, 0, 0, 16, 4, 3, 0, 0, 0, 0, 0, 0, 0]⟩,
        by exact ⟨by decide, by decide, by decide +kernel, by decide +kernel, fun j => (by by_cases h : 31 = j <;> simp [State.stn, Tbl.getD, Tbl.find?, h, Station.init]), fun _ h => (by cases h), by decide +kernel⟩⟩⟩

theorem witness_DervosRegisterZeroIsZero :
    (∃ (k : Nat) (j : Nat), k % 16 = 0 ∧ k % 16 ≠ j % 16) ∧
    (∃ (k : Nat), k % 16 ≠ 0) :=
  ⟨⟨16, 1, by decide +kernel⟩,
    ⟨15, by decide +kernel⟩⟩

theorem witness_DervosRegisterInstructions :
    (∃ (s : State) (e : Nat), Runs s e) ∧
    (∃ (s : State) (e : Nat) (pos : Nat) (len : Nat), Runs s e ∧ 1 ≤ len ∧ pos + len ≤ 32 ∧
        (len = 16 ∨ len = 24 ∨ len = 32)) ∧
    (∃ (s : State) (e : Nat) (pos : Nat) (len : Nat), Runs s e ∧ 1 ≤ len ∧ pos + len ≤ 32 ∧
        (len = 16 ∨ len = 24 ∨ len = 32)) ∧
    (∃ (s : State) (e : Nat) (pos : Nat) (len : Nat), Runs s e ∧ 1 ≤ len ∧ pos + len ≤ 32) :=
  ⟨⟨engineAt 15 { runner with pc := 0xFFF8, regs := [(1, 5), (2, 0xFFFFFFFF#32)] }, 15, by unfold Runs; decide +kernel⟩,
    ⟨engineAt 15 { runner with pc := 0xFFF8, regs := [(1, 5), (2, 0xFFFFFFFF#32)] }, 15, 0, 32,
        by unfold Runs; decide +kernel⟩,
    ⟨engineAt 15 { runner with pc := 0xFFF8, regs := [(1, 5), (2, 0xFFFFFFFF#32)] }, 15, 16, 16,
        by unfold Runs; decide +kernel⟩,
    ⟨engineAt 15 { runner with pc := 0xFFF8, regs := [(1, 5), (2, 0xFFFFFFFF#32)] }, 15, 31, 1,
        by unfold Runs; decide +kernel⟩⟩

theorem witness_DervosSaturationSetsSat :
    (∃ (s : State) (e : Nat) (n : Nat), Runs s e ∧ 1 ≤ n ∧ n ≤ 32) ∧
    (∃ (s : State) (e : Nat) (n : Nat), Runs s e ∧ 1 ≤ n ∧ n ≤ 32) :=
  ⟨⟨engineAt 15 { runner with pc := 0xFFF8, regs := [(1, 5), (2, 0xFFFFFFFF#32)] }, 15, 32, by unfold Runs; decide +kernel⟩,
    ⟨engineAt 15 { runner with pc := 0xFFF8, regs := [(1, 5), (2, 0xFFFFFFFF#32)] }, 15, 1, by unfold Runs; decide +kernel⟩⟩

theorem witness_DervosLoadsAndStores :
    (∃ (s : State) (e : Nat) (ra : Nat) (imm : Nat),
        let x := s.eng e;
        let a := (x.g ra + (BitVec.ofNat 18 imm).signExtend 32).toNat;
        let sound : Prop := x.badData a = false;
        Runs s e ∧ a % 4 = 0 ∧ a < 0x8000 ∧ sound ∧ a % 2 = 0) ∧
    (∃ (s : State) (e : Nat) (ra : Nat) (imm : Nat),
        let x := s.eng e;
        let a := (x.g ra + (BitVec.ofNat 18 imm).signExtend 32).toNat;
        Runs s e ∧ a % 4 = 0 ∧ 0x20000 ≤ a ∧ a < 0x20600 ∧ 12 ≤ e) ∧
    (∃ (s : State) (e : Nat) (ra : Nat) (imm : Nat),
        let x := s.eng e;
        let a := (x.g ra + (BitVec.ofNat 18 imm).signExtend 32).toNat;
        Runs s e ∧ 12 ≤ e ∧ a % 4 = 0 ∧ 0x10000 ≤ a ∧ a < 0x10600 ∧ engineOf ((a - 0x10000) / 32) = e ∧
        (a - 0x10000) % 32 ≤ 8) ∧
    (∃ (s : State) (e : Nat) (ra : Nat) (imm : Nat),
        let x := s.eng e;
        let a := (x.g ra + (BitVec.ofNat 18 imm).signExtend 32).toNat;
        Runs s e ∧ 12 ≤ e ∧ a % 4 = 0 ∧ 0x10000 ≤ a ∧ a < 0x10600 ∧ engineOf ((a - 0x10000) / 32) = e ∧
        8 < (a - 0x10000) % 32) :=
  ⟨⟨{ State.reset with
      dve := { State.reset.dve with engines := [(5, { Engine.init with state := EngState.running })] } }, 5, 0, 4,
      by unfold Runs; decide +kernel⟩,
    ⟨{ State.reset with
        dve := { State.reset.dve with
        engines := [(12, { Engine.init with
        state := EngState.running, regs := [(1, 0x0000ffff#32), (2, 0x31ad04b4#32), (3, 0x000105e0#32), (4, 0x000105e0#32),
        (5, 0x00010008#32), (6, 0x000205fc#32), (7, 0x00000000#32), (8, 0x0000001f#32), (9, 0x00007ffe#32), (10,
        0x0000001f#32), (11, 0xffffffff#32), (12, 0x00000000#32), (13, 0x80000000#32), (14, 0x0000ffff#32), (15,
        0x12345678#32)] })] } }, 12, 6, 0, by unfold Runs; decide +kernel⟩,
    ⟨{ State.reset with
        dve := { State.reset.dve with
        engines := [(12, { Engine.init with
        state := EngState.running, regs := [(1, 0x00000000#32), (2, 0x80000000#32), (3, 0x0001000c#32), (4, 0x00010200#32),
        (5, 0x12345678#32), (6, 0x12345678#32), (7, 0xaeb81705#32), (8, 0xffffffff#32), (9, 0x000205fc#32), (10,
        0x000105e0#32), (11, 0x00010100#32), (12, 0x00010008#32), (13, 0x0001000c#32), (14, 0x00000001#32), (15,
        0x000105e0#32)] })] } }, 12, 12, 0, by unfold Runs; decide +kernel⟩,
    ⟨{ State.reset with
        dve := { State.reset.dve with
        engines := [(12, { Engine.init with
        state := EngState.running, regs := [(1, 0xffffffff#32), (2, 0x00000021#32), (3, 0x00000001#32), (4, 0x00010200#32),
        (5, 0x02cedc47#32), (6, 0x00010100#32), (7, 0x7fffffff#32), (8, 0x000105e0#32), (9, 0x80000000#32), (10,
        0x12345678#32), (11, 0x00000001#32), (12, 0x000205fc#32), (13, 0x12345678#32), (14, 0x00007ffe#32), (15,
        0x7fffffff#32)] })] } }, 12, 6, 12, by unfold Runs; decide +kernel⟩⟩

theorem witness_DervosFaultHasNoEffect :
    (∃ (s : State) (e : Nat), let x := s.eng e; e < 16 ∧ (s.eng e).state = .running ∧ x.badFetch = true) ∧
    (∃ (s : State) (e : Nat) (ra : Nat) (imm : Nat),
        let x := s.eng e;
        let a := (x.g ra + (BitVec.ofNat 18 imm).signExtend 32).toNat;
        e < 16 ∧ (s.eng e).state = .running ∧ x.badFetch = false ∧ a < 0x8000 ∧ x.badData a = true ∧ a % 4 = 0 ∧ a % 2 = 0) ∧
    (∃ (s : State) (e : Nat) (ra : Nat) (imm : Nat),
        let x := s.eng e;
        let a := (x.g ra + (BitVec.ofNat 18 imm).signExtend 32).toNat;
        e < 16 ∧ (s.eng e).state = .running ∧ x.badFetch = false ∧ a % 4 ≠ 0) ∧
    (∃ (s : State) (e : Nat) (ra : Nat) (imm : Nat),
        let x := s.eng e;
        let a := (x.g ra + (BitVec.ofNat 18 imm).signExtend 32).toNat;
        e < 16 ∧ (s.eng e).state = .running ∧ x.badFetch = false ∧ a % 2 ≠ 0) ∧
    (∃ (s : State) (e : Nat) (ra : Nat) (imm : Nat),
        let x := s.eng e;
        let a := (x.g ra + (BitVec.ofNat 18 imm).signExtend 32).toNat;
        e < 16 ∧ (s.eng e).state = .running ∧ x.badFetch = false ∧ a % 4 = 0 ∧ 0x8000 ≤ a ∧
        (e < 12 ∨ a < 0x20000 ∨ 0x20600 ≤ a) ∧ a % 2 = 0 ∧ (e < 12 ∨ a < 0x10000 ∨ 0x10600 ≤ a)) ∧
    (∃ (s : State) (e : Nat) (ra : Nat) (imm : Nat),
        let x := s.eng e;
        let a := (x.g ra + (BitVec.ofNat 18 imm).signExtend 32).toNat;
        e < 16 ∧ (s.eng e).state = .running ∧ x.badFetch = false ∧ a % 4 = 0 ∧ 0x8000 ≤ a ∧
        (e < 12 ∨ a < 0x20000 ∨ 0x20600 ≤ a) ∧ a % 2 = 0) ∧
    (∃ (s : State) (e : Nat) (ra : Nat) (imm : Nat),
        let x := s.eng e;
        let a := (x.g ra + (BitVec.ofNat 18 imm).signExtend 32).toNat;
        e < 16 ∧ (s.eng e).state = .running ∧ x.badFetch = false ∧ a % 4 = 0 ∧ 0x8000 ≤ a ∧
        (e < 12 ∨ a < 0x20000 ∨ 0x20600 ≤ a)) ∧
    (∃ (s : State) (e : Nat) (ra : Nat) (imm : Nat),
        let x := s.eng e;
        let a := (x.g ra + (BitVec.ofNat 18 imm).signExtend 32).toNat;
        e < 16 ∧ (s.eng e).state = .running ∧ x.badFetch = false ∧ a % 4 = 0 ∧ (e < 12 ∨ a < 0x10000 ∨ 0x10600 ≤ a)) ∧
    (∃ (s : State) (e : Nat) (ra : Nat) (imm : Nat),
        let x := s.eng e;
        let a := (x.g ra + (BitVec.ofNat 18 imm).signExtend 32).toNat;
        e < 16 ∧ (s.eng e).state = .running ∧ x.badFetch = false ∧ a % 4 = 0 ∧ (e < 12 ∨ a < 0x10000 ∨ 0x10600 ≤ a)) ∧
    (∃ (s : State) (e : Nat) (ra : Nat) (imm : Nat),
        let x := s.eng e;
        let a := (x.g ra + (BitVec.ofNat 18 imm).signExtend 32).toNat;
        e < 16 ∧ (s.eng e).state = .running ∧ x.badFetch = false ∧ a % 4 = 0 ∧ 12 ≤ e ∧ 0x10000 ≤ a ∧ a < 0x10600 ∧
        engineOf ((a - 0x10000) / 32) ≠ e) ∧
    (∃ (s : State) (e : Nat) (ra : Nat) (imm : Nat),
        let x := s.eng e;
        let a := (x.g ra + (BitVec.ofNat 18 imm).signExtend 32).toNat;
        e < 16 ∧ (s.eng e).state = .running ∧ x.badFetch = false ∧ a % 4 = 0 ∧ 12 ≤ e ∧ 0x10000 ≤ a ∧ a < 0x10600 ∧
        engineOf ((a - 0x10000) / 32) ≠ e) ∧
    (∃ (s : State) (e : Nat) (ra : Nat) (imm : Nat),
        let x := s.eng e;
        let a := (x.g ra + (BitVec.ofNat 18 imm).signExtend 32).toNat;
        e < 16 ∧ (s.eng e).state = .running ∧ x.badFetch = false ∧ 0xFFFC < a / 4 * 4) ∧
    (∃ (s : State) (e : Nat) (ra : Nat) (pos : Nat) (len : Nat) (q : Nat),
        let x := s.eng e;
        e < 16 ∧ (s.eng e).state = .running ∧ x.badFetch = false ∧ 32 < pos + len ∧ len ≠ 16 ∧ len ≠ 24 ∧ len ≠ 32 ∧ q < 16 ∧
        s.boundIn e q = false ∧ s.boundOut e q = false ∧ s.granted e ((x.g ra).toNat % 64) = false) ∧
    (∃ (s : State) (e : Nat) (pos : Nat) (len : Nat),
        let x := s.eng e;
        e < 16 ∧ (s.eng e).state = .running ∧ x.badFetch = false ∧ 32 < pos + len ∧ len ≠ 16 ∧ len ≠ 24 ∧ len ≠ 32) :=
  ⟨⟨engineAt 15 { runner with eccP := [0] }, 15, by decide +kernel⟩,
    ⟨engineAt 15 { runner with regs := [(1, 0x7FFC)], eccD := [0x1FFF] }, 15, 1, 0, by decide +kernel⟩,
    ⟨engineAt 15 { runner with regs := [(1, 2)] }, 15, 1, 0, by decide +kernel⟩,
    ⟨engineAt 0 { runner with regs := [(1, 0x7FFF)] }, 0, 1, 0, by decide +kernel⟩,
    ⟨engineAt 11 { runner with regs := [(1, 0x8000)] }, 11, 1, 0, by decide +kernel⟩,
    ⟨engineAt 12 { runner with regs := [(1, 0x20600)] }, 12, 1, 0, by decide +kernel⟩,
    ⟨engineAt 15 { runner with regs := [(1, 0x1FFFC)] }, 15, 1, 0, by decide +kernel⟩,
    ⟨engineAt 15 { runner with regs := [(1, 0xFFFC)] }, 15, 1, 0, by decide +kernel⟩,
    ⟨engineAt 14 { runner with regs := [(1, 0x10600)] }, 14, 1, 0, by decide +kernel⟩,
    ⟨engineAt 13 { runner with regs := [(1, 0x10000)] }, 13, 1, 0, by decide +kernel⟩,
    ⟨engineAt 12 { runner with regs := [(1, 0x105FC)] }, 12, 1, 0, by decide +kernel⟩,
    ⟨engineAt 0 { runner with regs := [(1, 0x10000)] }, 0, 1, 0, by decide +kernel⟩,
    ⟨engineAt 0 { runner with regs := [(1, 63)] }, 0, 1, 1, 33, 15, by decide +kernel⟩,
    ⟨engineAt 15 { runner with regs := [(1, 0)] }, 15, 32, 1, by decide +kernel⟩⟩

theorem witness_DervosBranches :
    let s : State := engineAt 0 { runner with pc := 0xFFF8, regs := [(1, 0xFFFFFFFF#32), (2, 1)] }
    let x := s.eng 0
    let goal (o : Word) : Nat := (BitVec.ofNat 32 x.pc + 4 * o).toNat
    (x.state = .running ∧ x.pc + 4 ≤ 0xFFFC) ∧ goal ((BitVec.ofNat 18 1).signExtend 32) ≤ 0xFFFC ∧
      goal ((BitVec.ofNat 22 0x3FFFFF).signExtend 32) ≤ 0xFFFC ∧
      (x.g 1 + (BitVec.ofNat 18 1).signExtend 32).toNat / 4 * 4 ≤ 0xFFFC ∧
      x.g 1 = x.g 1 ∧ x.g 1 ≠ x.g 2 ∧ (x.g 1).toInt < (x.g 2).toInt ∧ ¬ (x.g 2).toInt < (x.g 1).toInt ∧
      (x.g 1).toInt ≤ (x.g 2).toInt ∧ ¬ (x.g 2).toInt ≤ (x.g 1).toInt ∧ (x.g 2).toNat < (x.g 1).toNat ∧
      ¬ (x.g 1).toNat < (x.g 2).toNat ∧ (x.g 2).toNat ≤ (x.g 1).toNat ∧ ¬ (x.g 1).toNat ≤ (x.g 2).toNat := by
  decide +kernel

theorem witness_DervosPorts :
    (∃ (s : State) (e : Nat) (q : Nat),
        let x := s.eng e;
        let p := x.port q;
        Runs s e ∧ q < 16 ∧ s.boundIn e q = true ∧ p.head = none) ∧
    (∃ (s : State) (e : Nat) (q : Nat) (v : _) (rest : _),
        let x := s.eng e;
        let p := x.port q;
        Runs s e ∧ q < 16 ∧ s.boundIn e q = true ∧ p.body = v :: rest) ∧
    (∃ (s : State) (e : Nat) (q : Nat) (en : _) (rest : _),
        let x := s.eng e;
        let p := x.port q;
        Runs s e ∧ q < 16 ∧ s.boundIn e q = true ∧ p.body = [] ∧ p.entries = en :: rest ∧ en.inst < 64 ∧ en.status < 256 ∧
        en.payload.length < 4096) ∧
    (∃ (s : State) (e : Nat) (rd : Nat) (q : Nat),
        let x := s.eng e;
        let p := x.port q;
        Runs s e ∧ q < 16 ∧ s.boundOut e q = true ∧ p.opened = none ∧ p.room < (x.g rd).toNat % 4096 + 1) ∧
    (∃ (s : State) (e : Nat) (rd : Nat) (q : Nat),
        let x := s.eng e;
        let p := x.port q;
        Runs s e ∧ q < 16 ∧ s.boundOut e q = true ∧ p.opened = none ∧ (x.g rd).toNat % 4096 + 1 ≤ p.room ∧
        0 < (x.g rd).toNat % 4096) :=
  ⟨⟨{ engineAt 15 { runner with regs := [(1, 5)], ports := [(15, Port.init)] } with
      regs := regsOf [(F.DVE_QMAP_DIR 15 15, 0), (F.DVE_QMAP_EN 15 15, 1)] }, 15, 15, by unfold Runs; decide +kernel⟩,
    ⟨{ engineAt 15 { runner with regs := [(1, 5)], ports := [(15, { Port.init with body := [7] })] } with
        regs := regsOf [(F.DVE_QMAP_DIR 15 15, 0), (F.DVE_QMAP_EN 15 15, 1)] }, 15, 15, 7, [],
        by unfold Runs; decide +kernel⟩,
    ⟨{ engineAt 15 { runner with regs := [(1, 5)], ports := [(15, { Port.init with entries := [⟨63, 255, [7]⟩] })] } with
        regs := regsOf [(F.DVE_QMAP_DIR 15 15, 0), (F.DVE_QMAP_EN 15 15, 1)] }, 15, 15, ⟨63, 255, [7]⟩, [],
        by unfold Runs; decide +kernel⟩,
    ⟨{ engineAt 15 { runner with regs := [(1, 1024)], ports := [(15, Port.init)] } with
        regs := regsOf [(F.DVE_QMAP_DIR 15 15, 1), (F.DVE_QMAP_EN 15 15, 1)] }, 15, 1, 15, by unfold Runs; decide +kernel⟩,
    ⟨{ engineAt 15 { runner with regs := [(1, 1023)], ports := [(15, Port.init)] } with
        regs := regsOf [(F.DVE_QMAP_DIR 15 15, 1), (F.DVE_QMAP_EN 15 15, 1)] }, 15, 1, 15, by unfold Runs; decide +kernel⟩⟩

theorem witness_DervosWaitTimersSpecials :
    (∃ (s : State) (e : Nat) (ra : Nat) (k : Nat),
        let x := s.eng e;
        let v := x.g ra;
        let ev := s.pendingEvents e &&& v.toNat;
        Runs s e ∧ (s.eng e).drains = [] ∧ ev = 0 ∧ k < 8 ∧ s.granted e (v.toNat % 64) = true) ∧
    (∃ (s : State) (e : Nat) (ra : Nat),
        let x := s.eng e;
        let v := x.g ra;
        let ev := s.pendingEvents e &&& v.toNat;
        Runs s e ∧ (s.eng e).drains = [] ∧ ev ≠ 0) :=
  ⟨⟨{ State.reset with
      dve := { State.reset.dve with engines := [(5, { Engine.init with state := EngState.running })] } }, 5, 5, 5,
      by unfold Runs; decide +kernel⟩,
    ⟨{ State.reset with
        regs := regsOf [(F.DVE_QMAP_DIR 15 2, 1), (F.DVE_QMAP_EN 15 2, 1)], dve := { State.reset.dve with
        engines := [(15, { Engine.init with
        state := EngState.running, regs := [(1, 0x000205fc#32), (2, 0x0000001f#32), (3, 0x7fffffff#32), (4, 0x000205fc#32),
        (5, 0x00000005#32), (6, 0x00010100#32), (7, 0x00010200#32), (8, 0xffffffff#32), (9, 0x0000ffff#32), (10,
        0x00010200#32), (11, 0x00000001#32), (12, 0x0001000c#32), (13, 0x06c243a8#32), (14, 0x000105e0#32), (15,
        0x000105e0#32)] })] } }, 15, 1, by unfold Runs; decide +kernel⟩⟩

theorem witness_EngineControlCompletes :
    (∃ (s : State) (t : Nat) (e : Nat) (a : Attr),
        let x := s.eng e;
        e < 16 ∧ (∀ o, (s.tick t).passes (0x40400000 + e * 0x10000 + o) a true = true) ∧ a.attic = true ∧
        x.state = .waiting ∧ s.pendingEvents e &&& x.waitMask.toNat ≠ 0) ∧
    (∃ (s : State) (t : Nat) (e : Nat) (k : Nat) (a : Attr) (tm : _),
        let x := s.eng e;
        let n := s.tick t;
        e < 16 ∧ (∀ o, (s.tick t).passes (0x40400000 + e * 0x10000 + o) a true = true) ∧ a.attic = true ∧ k < 8 ∧
        x.timers.find? k = some tm ∧ tm.due ≤ n.now ∧ tm.period = 0) ∧
    (∃ (s : State) (t : Nat) (e : Nat) (k : Nat) (a : Attr) (tm : _),
        let x := s.eng e;
        let n := s.tick t;
        e < 16 ∧ (∀ o, (s.tick t).passes (0x40400000 + e * 0x10000 + o) a true = true) ∧ a.attic = true ∧ k < 8 ∧
        x.timers.find? k = some tm ∧ tm.due ≤ n.now ∧ tm.period ≠ 0) ∧
    (∃ (s : State) (t : Nat) (e : Nat) (a : Attr),
        let x := s.eng e;
        e < 16 ∧ (∀ o, (s.tick t).passes (0x40400000 + e * 0x10000 + o) a true = true) ∧ a.attic = true ∧
        x.state = .running ∧ s.rd (F.DVE_BURST_BURST_MAX e) * 8 ≤ x.burst ∧ e < 12 ∧
        (x.state = .running ∨ x.state = .waiting ∨ x.state = .fault)) ∧
    (∃ (s : State) (t : Nat) (e : Nat) (a : Attr) (im : EngImage),
        let x := s.eng e;
        e < 16 ∧ (∀ o, (s.tick t).passes (0x40400000 + e * 0x10000 + o) a true = true) ∧ a.attic = true ∧
        (x.state = .stopped ∨ x.state = .fault) ∧ x.image = some im ∧ s.hashFits e im = true) ∧
    (∃ (s : State) (t : Nat) (e : Nat) (a : Attr) (addr : _),
        let x := s.eng e;
        let n := s.tick t;
        e < 16 ∧ (∀ o, (s.tick t).passes (0x40400000 + e * 0x10000 + o) a true = true) ∧ a.attic = true ∧
        x.loading = some addr ∧ n.reaches addr 64 false = true ∧ (∀ m, n.imageAt addr = some m →
        n.reaches addr (64 + 4 * m.code.length + m.data.length + 3405) false = true)) ∧
    (∃ (s : State) (t : Nat) (e : Nat) (q : Nat) (off : Nat) (a : Attr) (v : Word),
        let x := s.eng e;
        e < 16 ∧ (∀ o, (s.tick t).passes (0x40400000 + e * 0x10000 + o) a true = true) ∧ a.attic = true ∧ e < 12 ∧
        x.state = .stopped ∧ v.toNat / 2 ^ 30 = 3 ∧ q < 16 ∧ off % 4 = 0 ∧ off < 0x8000) ∧
    (∃ (s : State) (t : Nat) (e : Nat) (i : Nat) (a : Attr),
        let x := s.eng e;
        e < 16 ∧ (∀ o, (s.tick t).passes (0x40400000 + e * 0x10000 + o) a true = true) ∧ a.attic = true ∧ i < 64 ∧
        s.awaits i (4 + e) = true ∧ x.drains.contains i = false ∧ x.state = .running) :=
  ⟨⟨engineAt 15 { Engine.init with state := .waiting, waitMask := 1, edges := 1 }, 0, 15, attic,
      by (repeat' refine And.intro ?_ ?_) <;> first | decide +kernel | exact fun _ => State.passes_attic rfl (by decide +kernel)⟩,
    ⟨engineAt 0 { runner with timers := [(7, ⟨10, 0, none⟩)] }, 10, 0, 7, attic, ⟨10, 0, none⟩,
        by (repeat' refine And.intro ?_ ?_) <;> first | decide +kernel | exact fun _ => State.passes_attic rfl (by decide +kernel)⟩,
    ⟨engineAt 0 { runner with timers := [(0, ⟨10, 5, none⟩)] }, 10, 0, 0, attic, ⟨10, 5, none⟩,
        by (repeat' refine And.intro ?_ ?_) <;> first | decide +kernel | exact fun _ => State.passes_attic rfl (by decide +kernel)⟩,
    ⟨engineAt 11 { runner with burst := 40000 }, 0, 11, attic,
        by (repeat' refine And.intro ?_ ?_) <;> first | decide +kernel | exact fun _ => State.passes_attic rfl (by decide +kernel)⟩,
    ⟨engineAt 15 { Engine.init with image := some ⟨4, []⟩ }, 0, 15, attic, ⟨4, []⟩,
        by (repeat' refine And.intro ?_ ?_) <;> first | decide +kernel | exact fun _ => State.passes_attic rfl (by decide +kernel)⟩,
    ⟨engineAt 12 { Engine.init with state := .loading, loading := some 0x0800000000 }, 0, 12, attic, 0x0800000000,
        by (repeat' refine And.intro ?_ ?_) <;> first | decide +kernel | exact fun _ => State.passes_attic rfl (by decide +kernel)⟩,
    ⟨engineAt 0 Engine.init, 0, 0, 15, 0x7FFC, attic, 0xC0000000#32,
        by (repeat' refine And.intro ?_ ?_) <;> first | decide +kernel | exact fun _ => State.passes_attic rfl (by decide +kernel)⟩,
    ⟨{ engineAt 15 runner with
        regs := regsOf [(F.VIM_INST_RESET_PEND_PEND 63, 0x80000)],
        vim := { State.reset.vim with insts := [(63, { Inst.init with state := .resetting })] } }, 0, 15, 63, attic,
        by (repeat' refine And.intro ?_ ?_) <;> first | decide +kernel | exact fun _ => State.passes_attic rfl (by decide +kernel)⟩⟩

theorem witness_DervosDecodeOfEncode :
    ∃ (i : Instr) (e w : Nat), i.wf = true ∧ encodeDervos i = some (e, w) := by
  exact ⟨.dAddi 15 15 14 0x3FFFF, 15, _, by decide, rfl⟩

theorem witness_DervosKeepsEnginesSound :
    ∃ (i : Instr) (e w : Nat) (s s' : State), encodeDervos i = some (e, w) ∧ (∀ k, (s.eng k).sound = true) ∧
        exec i s = .next s' := by
  refine ⟨.dAddi 0 1 0 5, 0, _, engineAt 0 runner, _, rfl, fun k => ?_, rfl⟩
  cases k <;> rfl

theorem witness_GatewayClassifierAndTables :
    (∃ (s : State) (t : Nat) (k : Nat) (i : Nat) (a : Attr),
        let n := s.tick t;
        k < 4096 ∧ n.passes (0x40520000 + 32 * k) a true = true ∧ n.passes (0x40520000 + 32 * k + 4) a true = true ∧
        s.flag (F.GW_KEY0_VALID k) = false ∧ k < 2048 ∧ n.passes (0x40510000 + 16 * k) a true = true ∧
        s.flag F.GWTAB_CTL_CLASSIFY_EN = false ∧ k < 8192 ∧ n.passes (0x40540000 + 32 * k + 8) a true = true ∧
        n.passes 0x40500000 a true = true ∧ s.flag F.GWTAB_STAT_SEAL_BUSY = true ∧ i < 64 ∧ s.awaits i 2 = true) ∧
    (∃ (s : State) (t : Nat) (k : Nat) (w : Nat) (a : Attr),
        let n := s.tick t;
        k < 4096 ∧ w < 8 ∧ w ≠ 0 ∧ w ≠ 3 ∧ n.passes (0x40520000 + 32 * k + 4 * w) a true = true ∧
        s.flag (F.GW_KEY0_VALID k) = true ∧ k < 2048 ∧ w < 4 ∧ n.passes (0x40510000 + 16 * k + 4 * w) a true = true ∧
        s.flag F.GWTAB_CTL_CLASSIFY_EN = true ∧ n.passes 0x40500000 a true = true) ∧
    (∃ (s : State) (t : Nat) (k : Nat) (r : Nat) (f : SrcFrame),
        let n := s.tick t;
        let q := s.rd (F.GW_ROUTE0_IN_HWQ r);
        let inst := s.rd (F.GW_ROUTE0_INST r);
        let e := routeEntry f r inst;
        s.flag F.GWTAB_CTL_CLASSIFY_EN = true ∧ f.src < 32 ∧ s.stair.offered = [f] ∧ k < 4096 ∧ n.keyMatches k f = true ∧
        (∀ j, j < k → n.keyMatches j f = false) ∧ s.keyRoutes k = [r] ∧ s.flag (F.GW_ROUTE0_VALID r) = true ∧
        (s.inst inst).state = .active ∧ q < 384 ∧ s.admission q e.size = .ok) ∧
    (∃ (s : State) (t : Nat) (f : SrcFrame),
        let n := s.tick t;
        s.flag F.GWTAB_CTL_CLASSIFY_EN = true ∧ f.src < 32 ∧ s.stair.offered = [f] ∧ (∀ j, j < 4096 →
        n.keyMatches j f = false)) ∧
    (∃ (s : State) (t : Nat) (k : Nat) (r : Nat) (f : SrcFrame),
        let n := s.tick t;
        let q := s.rd (F.GW_ROUTE0_IN_HWQ r);
        let inst := s.rd (F.GW_ROUTE0_INST r);
        let e := routeEntry f r inst;
        s.flag F.GWTAB_CTL_CLASSIFY_EN = true ∧ f.src < 32 ∧ s.stair.offered = [f] ∧ k < 4096 ∧ n.keyMatches k f = true ∧
        (∀ j, j < k → n.keyMatches j f = false) ∧ s.keyRoutes k = [r] ∧ s.flag (F.GW_ROUTE0_VALID r) = true ∧
        (s.inst inst).state = .active ∧ q < 384 ∧ s.admission q e.size = .full) :=
  ⟨⟨{ State.reset with
      regs := regsOf [(F.GWTAB_STAT_SEAL_BUSY, 1), (F.VIM_INST_RESET_PEND_PEND 5, 6)],
      vim := { State.reset.vim with insts := [(5, { Inst.init with state := InstState.resetting })] } }, 20, 0, 5,
      { attic := true, inst := 0, dom := Dom.hub }, by decide +kernel⟩,
    ⟨{ State.reset with
        regs := regsOf [(F.GWTAB_CTL_CLASSIFY_EN, 1), (F.GW_KEY0_SRC 7, 4), (F.GW_KEY0_VALID 7, 1)],
        stair := { State.reset.stair with
        offered := [{
        cap := 8589934597, src := 0, id := 8, xtd := true, fd := false, xl := true, data := (List.replicate 3000 255) }] } },
        5, 7, 1, { attic := true, inst := 0, dom := Dom.hub }, by decide +kernel⟩,
    ⟨{ State.reset with
        regs := regsOf [(F.GWTAB_CTL_CLASSIFY_EN, 1), (F.GW_ROUTE0_IN_HWQ 5, 2), (F.GW_ROUTE0_INST 5, 5),
        (F.GW_ROUTE0_VALID 5, 1), (F.GW_KEY0_SRC 7, 4), (F.GW_KEY0_VALID 7, 1), (F.GW_KEY_ROUTE_ROUTE_LO 7 0, 32773),
        (F.VIM_INST_QSHARE_QSHARE_EFF 5, 1), (F.VIM_HWQ_CFG_OWNER 2, 5), (F.VIM_HWQ_CFG_VALID 2, 1)],
        stair := { State.reset.stair with
        offered := [{
        cap := 0, src := 4, id := 8, xtd := false, fd := false, xl := true, data := [255, 255, 255, 255, 255, 255, 255,
        255] }] }, vim := { State.reset.vim with insts := [(5, { Inst.init with state := InstState.active })] } }, 5, 7, 5, {
        cap := 0, src := 4, id := 8, xtd := false, fd := false, xl := true, data := [255, 255, 255, 255, 255, 255, 255,
        255] }, by decide +kernel⟩,
    ⟨{ running with
        regs := regsOf [(F.GWTAB_CTL_CLASSIFY_EN, 1)],
        stair := { State.reset.stair with offered := [⟨0, 31, 8, false, false, false, [0]⟩] } }, 4, ⟨0, 31, 8, false, false,
        false, [0]⟩, by exact ⟨by decide +kernel, by decide, rfl, noneBelow 4096 (by decide +kernel)⟩⟩,
    ⟨{ State.reset with
        regs := regsOf [(F.GWTAB_CTL_CLASSIFY_EN, 1), (F.GW_ROUTE0_IN_HWQ 5, 2), (F.GW_ROUTE0_INST 5, 5),
        (F.GW_ROUTE0_VALID 5, 1), (F.GW_KEY0_SRC 7, 4), (F.GW_KEY0_VALID 7, 1), (F.GW_KEY_ROUTE_ROUTE_LO 7 0, 32773),
        (F.VIM_HWQ_CFG_OWNER 2, 5), (F.VIM_HWQ_CFG_CAP 2, 5), (F.VIM_HWQ_CFG_VALID 2, 1)], stair := { State.reset.stair with
        offered := [⟨0, 4, 8, false, false, true, [255, 255, 255, 255, 255, 255, 255, 255]⟩] },
        vim := { State.reset.vim with insts := [(5, { Inst.init with state := .active })] } }, 5, 7, 5, ⟨0, 4, 8, false,
        false, true, [255, 255, 255, 255, 255, 255, 255, 255]⟩, by decide +kernel⟩⟩

theorem witness_StairwellReads :
    (∃ (s : State) (t : Nat) (addr : Nat) (size : Nat) (j : Nat) (a : Attr) (x : Slot),
        (s.tick t).passes addr a false = true ∧ a.dom = .hub ∧ (s.winAddrOk addr = false ∨ winSizeOk addr size = false) ∧
        j < 32 ∧ s.stair.slots.find? j = some x ∧ (x.state = .ready ∨ x.state = .failed) ∧ x.ready + 64000 ≤ t ∧
        s.stair.orph.length < 16) ∧
    (∃ (s : State) (t : Nat) (addr : Nat) (size : Nat) (j : Nat) (a : Attr),
        let k := winStn addr;
        (s.tick t).passes addr a false = true ∧ a.dom = .hub ∧ s.winAddrOk addr = true ∧ winSizeOk addr size = true ∧
        (s.inst a.inst).state = .active ∧ s.slotOf a addr size = none ∧ (s.stn k).state ≠ .absent ∧ j < 32 ∧
        s.stair.slots.find? j = none ∧ (∀ i, i < j → s.stair.slots.find? i ≠ none) ∧
        (s.fifo k).length + winHalves size ≤ 8) ∧
    (∃ (s : State) (t : Nat) (addr : Nat) (size : Nat) (j : Nat) (a : Attr) (x : Slot),
        (s.tick t).passes addr a false = true ∧ a.dom = .hub ∧ s.winAddrOk addr = true ∧ winSizeOk addr size = true ∧
        (s.inst a.inst).state = .active ∧ s.slotOf a addr size = some (j, x) ∧ x.state = .failed ∧ t < x.ready + 64000) ∧
    (∃ (s : State) (t : Nat) (addr : Nat) (size : Nat) (j : Nat) (a : Attr) (x : Slot),
        (s.tick t).passes addr a false = true ∧ a.dom = .hub ∧ s.winAddrOk addr = true ∧ winSizeOk addr size = true ∧
        (s.inst a.inst).state = .active ∧ s.slotOf a addr size = some (j, x) ∧ x.state = .fetching) ∧
    (∃ (s : State) (t : Nat) (addr : Nat) (size : Nat) (a : Attr),
        let k := winStn addr;
        (s.tick t).passes addr a false = true ∧ a.dom = .hub ∧ s.winAddrOk addr = true ∧ winSizeOk addr size = true ∧
        (s.inst a.inst).state = .active ∧ s.slotOf a addr size = none ∧ (s.stn k).state ≠ .absent ∧
        8 < (s.fifo k).length + winHalves size) ∧
    (∃ (s : State) (t : Nat) (addr : Nat) (size : Nat) (j : Nat) (a : Attr) (x : Slot),
        (s.tick t).passes addr a false = true ∧ a.dom = .hub ∧ s.winAddrOk addr = true ∧ winSizeOk addr size = true ∧
        (s.inst a.inst).state = .active ∧ s.slotOf a addr size = some (j, x) ∧ x.state = .ready ∧ t < x.ready + 64000) :=
  ⟨⟨{ State.reset with
      regs := regsOf [(F.WORLD_RGN1_LIMIT 3 0, 73786977394350882815), (F.WORLD_RGN2_DOM 3 0, 7), (F.WORLD_RGN2_P_R 3 0, 1),
      (F.WORLD_RGN2_EN 3 0, 1)], stair := { State.reset.stair with
      slots := [(1, {
      addr := 1343225856, size := 8, attr := { attic := true, inst := 0, dom := Dom.hub }, state := SlotState.failed,
      value := 77, ready := 0, status := 7 })] } }, 64100, 1342177276, 1, 1, { attic := false, inst := 3, dom := Dom.hub }, {
      addr := 1343225856, size := 8, attr := { attic := true, inst := 0, dom := Dom.hub }, state := SlotState.failed,
      value := 77, ready := 0, status := 7 }, by decide +kernel⟩,
    ⟨{ State.reset with
        regs := regsOf [(F.WORLD_RGN1_LIMIT 3 0, 1048575), (F.WORLD_RGN2_DOM 3 0, 7), (F.WORLD_RGN2_P_R 3 0, 1),
        (F.WORLD_RGN2_EN 3 0, 1)], uio := { State.reset.uio with
        stns := [(0, { Station.init with configured := true, state := StnState.stale })] },
        vim := { State.reset.vim with insts := [(3, { Inst.init with state := InstState.active })] } }, 5, 1342177281, 1, 0,
        { attic := false, inst := 3, dom := Dom.hub }, by decide +kernel⟩,
    ⟨{ State.reset with
        regs := regsOf [(F.WORLD_RGN1_LIMIT 3 0, 1048575), (F.WORLD_RGN2_DOM 3 0, 7), (F.WORLD_RGN2_P_R 3 0, 1),
        (F.WORLD_RGN2_EN 3 0, 1)], uio := { State.reset.uio with stns := [(31, { Station.init with configured := true })] },
        stair := { State.reset.stair with
        slots := [(9, {
        addr := 1492123648, size := 8, attr := { attic := false, inst := 3, dom := Dom.hub }, state := SlotState.failed,
        value := 77, ready := 100, status := 7 })] },
        vim := { State.reset.vim with insts := [(3, { Inst.init with state := InstState.active })] } }, 5, 1492123648, 8, 9,
        { attic := false, inst := 3, dom := Dom.hub }, {
        addr := 1492123648, size := 8, attr := { attic := false, inst := 3, dom := Dom.hub }, state := SlotState.failed,
        value := 77, ready := 100, status := 7 }, by decide +kernel⟩,
    ⟨{ State.reset with
        regs := regsOf [(F.WORLD_RGN1_LIMIT 3 0, 73786977394350882815), (F.WORLD_RGN2_DOM 3 0, 7), (F.WORLD_RGN2_P_R 3 0, 1),
        (F.WORLD_RGN2_EN 3 0, 1)], uio := { State.reset.uio with stns := [(31, { Station.init with configured := true })] },
        stair := { State.reset.stair with
        slots := [(7, {
        addr := 1492123648, size := 8, attr := { attic := false, inst := 3, dom := Dom.hub }, state := SlotState.fetching,
        value := 77, ready := 100, status := 7 })] },
        vim := { State.reset.vim with insts := [(3, { Inst.init with state := InstState.active })] } }, 200000, 1492123648,
        8, 7, { attic := false, inst := 3, dom := Dom.hub }, {
        addr := 1492123648, size := 8, attr := { attic := false, inst := 3, dom := Dom.hub }, state := SlotState.fetching,
        value := 77, ready := 100, status := 7 }, by decide +kernel⟩,
    ⟨{ State.reset with
        regs := regsOf [(F.WORLD_RGN1_LIMIT 3 0, 1048575), (F.WORLD_RGN2_DOM 3 0, 7), (F.WORLD_RGN2_P_R 3 0, 1),
        (F.WORLD_RGN2_EN 3 0, 1)], uio := { State.reset.uio with
        stns := [(0, { Station.init with configured := true, state := StnState.stale })] }, stair := { State.reset.stair with
        fifos := [(0, [{ src := AccSrc.slot 0, inst := 3, reg := 0, data := 0, idx := 0, last := true },
        { src := AccSrc.slot 0, inst := 3, reg := 0, data := 0, idx := 0, last := true },
        { src := AccSrc.slot 0, inst := 3, reg := 0, data := 0, idx := 0, last := true },
        { src := AccSrc.slot 0, inst := 3, reg := 0, data := 0, idx := 0, last := true },
        { src := AccSrc.slot 0, inst := 3, reg := 0, data := 0, idx := 0, last := true },
        { src := AccSrc.slot 0, inst := 3, reg := 0, data := 0, idx := 0, last := true },
        { src := AccSrc.slot 0, inst := 3, reg := 0, data := 0, idx := 0, last := true }])] },
        vim := { State.reset.vim with insts := [(3, { Inst.init with state := InstState.active })] } }, 5, 1342177280, 4,
        { attic := false, inst := 3, dom := Dom.hub }, by decide +kernel⟩,
    ⟨{ State.reset with
        regs := regsOf [(F.WORLD_RGN1_LIMIT 3 0, 73786977394350882815), (F.WORLD_RGN2_DOM 3 0, 7), (F.WORLD_RGN2_P_R 3 0, 1),
        (F.WORLD_RGN2_EN 3 0, 1)], uio := { State.reset.uio with stns := [(0, { Station.init with configured := true })] },
        stair := { State.reset.stair with
        slots := [(24, {
        addr := 1342177280, size := 1, attr := { attic := false, inst := 3, dom := Dom.hub }, state := SlotState.ready,
        value := 77, ready := 0, status := 7 })] },
        vim := { State.reset.vim with insts := [(3, { Inst.init with state := InstState.active })] } }, 5, 1342177280, 1, 24,
        { attic := false, inst := 3, dom := Dom.hub }, {
        addr := 1342177280, size := 1, attr := { attic := false, inst := 3, dom := Dom.hub }, state := SlotState.ready,
        value := 77, ready := 0, status := 7 }, by decide +kernel⟩⟩

theorem witness_StairwellWritesAndLogs :
    (∃ (s : State) (t : Nat) (addr : Nat) (size : Nat) (value : Nat) (n : Nat) (seg : Nat) (a : Attr) (peek : Bool) (o : OrphEntry) (os : List OrphEntry),
        let clock := s.tick t;
        let k := winStn addr;
        let halves := (List.range (winHalves size)).map fun j => value / 65536 ^ j % 65536;
        a.dom = .hub ∧ clock.passes addr a true = true ∧ s.winAddrOk addr = true ∧ winSizeOk addr size = true ∧
        (s.inst a.inst).state = .active ∧ size ≠ 1 ∧ (s.stn k).state ≠ .absent ∧ (s.fifo k).length + halves.length ≤ 8 ∧
        clock.passes (if peek then 0x40588020 else 0x40580020) a false = true ∧ s.stair.pwe = [] ∧
        clock.passes (if peek then 0x40588030 else 0x40580030) a false = true ∧ s.stair.orph = o :: os ∧
        0 < clock.settled 0x40580030 (os.length + 1) ∧ (a.attic = true ∨ o.inst = a.inst) ∧ seg < 2 ∧ 1 ≤ n ∧ n ≤ 16 ∧
        clock.passes (0x4060110C + 0x1000 * seg + 0x10 * (n - 1) + if peek then 0x8000 else 0) a false = true ∧ s.now ≠ t) ∧
    (∃ (s : State) (t : Nat) (addr : Nat) (size : Nat) (i : Nat) (a : Attr) (peek : Bool) (e : PweEntry) (es : List PweEntry),
        let clock := s.tick t;
        let k := winStn addr;
        let num := if k / 16 = 0 then s.stair.nextSeq.1 else s.stair.nextSeq.2;
        let room := s.stair.pwe.length < 64 ∧ (s.stair.pwe.filter fun x => x.inst = a.inst).length < 8;
        let fresh := ∀ x, x ∈ s.stair.writes → ¬ (x.seg = k / 16 ∧ x.seq = num);
        a.dom = .hub ∧ clock.passes addr a true = true ∧ s.winAddrOk addr = true ∧ winSizeOk addr size = true ∧
        (s.inst a.inst).state = .active ∧ size = 1 ∧ room ∧ fresh ∧
        clock.passes (if peek then 0x40588020 else 0x40580020) a false = true ∧ s.stair.pwe = e :: es ∧
        0 < clock.settled 0x40580020 (es.length + 1) ∧ (a.attic = true ∨ e.inst = a.inst) ∧ i < 64 ∧ s.awaits i 1 = true) ∧
    (∃ (s : State) (t : Nat) (addr : Nat) (size : Nat) (a : Attr),
        let clock := s.tick t;
        let k := winStn addr;
        let num := if k / 16 = 0 then s.stair.nextSeq.1 else s.stair.nextSeq.2;
        let room := s.stair.pwe.length < 64 ∧ (s.stair.pwe.filter fun x => x.inst = a.inst).length < 8;
        let fresh := ∀ x, x ∈ s.stair.writes → ¬ (x.seg = k / 16 ∧ x.seq = num);
        a.dom = .hub ∧ clock.passes addr a true = true ∧ s.winAddrOk addr = true ∧ winSizeOk addr size = true ∧
        (s.inst a.inst).state = .active ∧ size ≠ 1 ∧ (s.stn k).state = .absent ∧ room ∧ fresh) ∧
    (∃ (s : State) (t : Nat) (addr : Nat) (size : Nat) (value : Nat) (a : Attr),
        let clock := s.tick t;
        let k := winStn addr;
        let num := if k / 16 = 0 then s.stair.nextSeq.1 else s.stair.nextSeq.2;
        let halves := (List.range (winHalves size)).map fun j => value / 65536 ^ j % 65536;
        let room := s.stair.pwe.length < 64 ∧ (s.stair.pwe.filter fun x => x.inst = a.inst).length < 8;
        let fresh := ∀ x, x ∈ s.stair.writes → ¬ (x.seg = k / 16 ∧ x.seq = num);
        a.dom = .hub ∧ clock.passes addr a true = true ∧ s.winAddrOk addr = true ∧ winSizeOk addr size = true ∧
        (s.inst a.inst).state = .active ∧ size ≠ 1 ∧ (s.stn k).state ≠ .absent ∧ 8 < (s.fifo k).length + halves.length ∧
        room ∧ fresh) :=
  ⟨⟨{ State.reset with
      regs := regsOf [(F.WORLD_RGN1_LIMIT 3 0, 1048575), (F.WORLD_RGN2_DOM 3 0, 7), (F.WORLD_RGN2_P_W 3 0, 1),
      (F.WORLD_RGN2_P_R 3 0, 1), (F.WORLD_RGN2_EN 3 0, 1)], uio := { State.reset.uio with
      stns := [(1, { Station.init with configured := true, state := StnState.up })] }, stair := { State.reset.stair with
      orph := (List.replicate 16 { inst := 3, attic := false, status := 7, addr := 3, size := 4, value := 8589934597 }) },
      vim := { State.reset.vim with insts := [(3, { Inst.init with state := InstState.active })] } }, 20, 1343225856, 8,
      18446744073709551615, 1, 0, { attic := false, inst := 3, dom := Dom.hub }, true,
      { inst := 3, attic := false, status := 7, addr := 3, size := 4, value := 8589934597 },
      (List.replicate 15 { inst := 3, attic := false, status := 7, addr := 3, size := 4, value := 8589934597 }),
      by decide +kernel⟩,
    ⟨{ State.reset with
        regs := regsOf [(F.VIM_INST_RESET_PEND_PEND 3, 1048582)],
        uio := { State.reset.uio with stns := [(0, { Station.init with configured := true })] },
        stair := { State.reset.stair with
        pwe := [{ inst := 3, reason := 1, done := 0, seq := 3, addr := 4, size := 4, accRes := 0, half := 2 },
        { inst := 3, reason := 1, done := 0, seq := 3, addr := 4, size := 4, accRes := 0, half := 2 },
        { inst := 3, reason := 1, done := 0, seq := 3, addr := 4, size := 4, accRes := 0, half := 2 },
        { inst := 3, reason := 1, done := 0, seq := 3, addr := 4, size := 4, accRes := 0, half := 2 },
        { inst := 3, reason := 1, done := 0, seq := 3, addr := 4, size := 4, accRes := 0, half := 2 },
        { inst := 3, reason := 1, done := 0, seq := 3, addr := 4, size := 4, accRes := 0, half := 2 },
        { inst := 3, reason := 1, done := 0, seq := 3, addr := 4, size := 4, accRes := 0, half := 2 },
        { inst := 3, reason := 1, done := 0, seq := 3, addr := 4, size := 4, accRes := 0, half := 2 }] },
        vim := { State.reset.vim with
        insts := [(0, { Inst.init with state := InstState.active }), (3,
        { Inst.init with state := InstState.resetting })] } }, 64100, 1342177281, 1, 3,
        { attic := true, inst := 0, dom := Dom.hub }, true,
        { inst := 3, reason := 1, done := 0, seq := 3, addr := 4, size := 4, accRes := 0, half := 2 },
        [{ inst := 3, reason := 1, done := 0, seq := 3, addr := 4, size := 4, accRes := 0, half := 2 },
        { inst := 3, reason := 1, done := 0, seq := 3, addr := 4, size := 4, accRes := 0, half := 2 },
        { inst := 3, reason := 1, done := 0, seq := 3, addr := 4, size := 4, accRes := 0, half := 2 },
        { inst := 3, reason := 1, done := 0, seq := 3, addr := 4, size := 4, accRes := 0, half := 2 },
        { inst := 3, reason := 1, done := 0, seq := 3, addr := 4, size := 4, accRes := 0, half := 2 },
        { inst := 3, reason := 1, done := 0, seq := 3, addr := 4, size := 4, accRes := 0, half := 2 },
        { inst := 3, reason := 1, done := 0, seq := 3, addr := 4, size := 4, accRes := 0, half := 2 }], by decide +kernel⟩,
    ⟨{ State.reset with
        regs := regsOf [(F.WORLD_RGN1_LIMIT 3 0, 1048575), (F.WORLD_RGN2_DOM 3 0, 7), (F.WORLD_RGN2_P_W 3 0, 1),
        (F.WORLD_RGN2_EN 3 0, 1)], uio := { State.reset.uio with stns := [(1, { Station.init with configured := true })] },
        vim := { State.reset.vim with insts := [(3, { Inst.init with state := InstState.active })] } }, 20, 1343225856, 4,
        { attic := false, inst := 3, dom := Dom.hub }, by decide +kernel⟩,
    ⟨{ State.reset with
        uio := { State.reset.uio with
        stns := [(0, { Station.init with state := StnState.stale }), (1, { Station.init with configured := true })] },
        stair := { State.reset.stair with
        fifos := [(0, [{ src := AccSrc.slot 0, inst := 3, reg := 0, data := 0, idx := 0, last := true },
        { src := AccSrc.slot 0, inst := 3, reg := 0, data := 0, idx := 0, last := true },
        { src := AccSrc.slot 0, inst := 3, reg := 0, data := 0, idx := 0, last := true },
        { src := AccSrc.slot 0, inst := 3, reg := 0, data := 0, idx := 0, last := true },
        { src := AccSrc.slot 0, inst := 3, reg := 0, data := 0, idx := 0, last := true },
        { src := AccSrc.slot 0, inst := 3, reg := 0, data := 0, idx := 0, last := true },
        { src := AccSrc.slot 0, inst := 3, reg := 0, data := 0, idx := 0, last := true }])] } }, 20, 1342177280, 4,
        18446744073709551615, { attic := true, inst := 0, dom := Dom.hub }, by decide +kernel⟩⟩

theorem witness_HallwayFrames :
    (∃ (s : State) (p : Nat) (f : EthFrame) (x : Stored) (y : Sending), 8 ≤ p ∧ p < 24 ∧ f.fcsOk = true ∧ 64 ≤ f.len ∧
        f.len ≤ hallMax p ∧ f.etype = 0x8808 ∧ s.hall.tx.find? p = some y ∧ s.hall.frames.find? y.id = some x) ∧
    (∃ (s : State) (t : Nat) (p : Nat) (tc : Nat) (f : EthFrame) (c : QCopy) (cs : List QCopy) (x : Stored),
        let tag := s.tagOf p f;
        let vid := tag.1;
        let life := 1000000 * s.rd (F.HALL_Q_CFG_MAX_RES p tc);
        8 ≤ p ∧ p < 24 ∧ f.fcsOk = true ∧ 64 ≤ f.len ∧ f.len ≤ hallMax p ∧ f.etype ≠ 0x8808 ∧ s.secyOk p f = true ∧
        s.trapOf p f = .none ∧ s.flag F.HALL_CTL_FWD_EN = true ∧ s.forwarding p = true ∧ vid < 4096 ∧
        (s.rd (F.HALL_VLAN0_MEMBER vid)).testBit p = false ∧ tc < 8 ∧ s.link p = 0 ∧ s.hall.tx.find? p = none ∧
        s.hall.rest.find? p = none ∧ (∀ k, k < 8 → tc < k → s.hallQ p k = []) ∧ s.hallQ p tc = c :: cs ∧
        s.hall.frames.find? c.id = some x ∧ (p < 22 → s.flag (F.HALL_GCL_CTL_GATE_EN p) = false) ∧
        s.flag (F.HALL_Q_SHAPE_SH_EN p tc) = false ∧ (life = 0 ∨ t < c.at_ + life) ∧ s.heldBack p c x = false ∧
        s.unsendable p x.frame = false) ∧
    (∃ (p : Nat) (f : EthFrame), 8 ≤ p ∧ p < 24 ∧ f.len < 64) ∧
    (∃ (s : State) (t : Nat) (p : Nat) (cut : Nat) (y : Sending), p < 24 ∧ s.hall.tx.find? p = some y ∧
        (s.tick t).cutAt p y = some cut ∧ (∀ k, k < 8 → s.preemptable p k = true → ((s.tick t).gates p).testBit k = false)) ∧
    (∃ (s : State) (t : Nat) (p : Nat) (q : Nat) (f : EthFrame),
        let tag := s.tagOf p f;
        let vid := tag.1;
        let cls := s.rd (F.HALL_PORT_PCP_MAP p) / 2 ^ (3 * tag.2.1) % 8;
        let prof := s.rd (F.HALL_Q_CFG_PROFILE q cls);
        let cells := cellsOf f.len;
        8 ≤ p ∧ p < 24 ∧ f.fcsOk = true ∧ 64 ≤ f.len ∧ f.len ≤ hallMax p ∧ f.etype ≠ 0x8808 ∧ s.secyOk p f = true ∧
        s.trapOf p f = .none ∧ s.flag F.HALL_CTL_FWD_EN = true ∧ s.forwarding p = true ∧ vid < 4096 ∧
        (s.rd (F.HALL_VLAN0_MEMBER vid)).testBit p = true ∧ s.streamOf p f.da vid tag.2.1 = none ∧
        s.destsOf p f.da vid none = [q] ∧ f.len ≤ hallMax q ∧ q < 22 ∧ s.flag (F.HALL_PORT_CFG_CUT_EN q) = false ∧
        s.link q ≠ 2 ∧ (∀ z, z ∈ s.hallQ q cls → z.at_ ≠ t) ∧ cells ≤ s.cellsFree ∧ 0 < s.descFree ∧ prof < 16 ∧
        s.hallOcc q cls + cells ≤ 16 * s.rd (F.HALL_Q_CFG_Q_LIMIT q cls) ∧
        s.hallOcc q cls < 32 * s.rd (F.HALL_RED_MIN prof (if tag.2.2 = 0 then 0 else 1))) ∧
    (∃ (s : State) (t : Nat) (p : Nat) (tc : Nat) (c : QCopy) (cs : List QCopy) (x : Stored),
        let life := 1000000 * s.rd (F.HALL_Q_CFG_MAX_RES p tc);
        p < 24 ∧ tc < 8 ∧ s.link p = 0 ∧ s.hall.tx.find? p = none ∧ s.hall.rest.find? p = none ∧ (∀ k, k < 8 → tc < k →
        s.hallQ p k = []) ∧ s.hallQ p tc = c :: cs ∧ s.hall.frames.find? c.id = some x ∧ (p < 22 →
        s.flag (F.HALL_GCL_CTL_GATE_EN p) = false) ∧ s.flag (F.HALL_Q_SHAPE_SH_EN p tc) = false ∧ life ≠ 0 ∧
        c.at_ + life ≤ t ∧ cs = [] ∧ (∀ k, k < tc → s.hallQ p k = [])) :=
  ⟨⟨{ State.reset with
      hall := { State.reset.hall with
      frames := [(0, {
      frame := {
      da := 1099511627779, sa := 7, etype := 34824, len := 64, tag := some (3, 1, 0), fcsOk := true, ttdp := false,
      ptp := none, rtag := none, msec := none, send := none, data := [1, 0, 0, 0, 9, 0, 0, 0, 0, 0, 0, 0, 0, 0, 0, 0, 0] },
      ingress := 9, stamp := 5, tIn := 6, synced := true, corrects := false, vid := 2, pcp := 3, dei := 0, yellow := false,
      cells := 1, copies := 2 })], tx := [(17, {
      id := 0, frame := {
      da := 1099511627779, sa := 7, etype := 34824, len := 1523, tag := some (3, 1, 0), fcsOk := true, ttdp := false,
      ptp := none, rtag := none, msec := none, send := none, data := [1, 0, 0, 0, 9, 0, 0, 0, 0, 0, 0, 0, 0, 0, 0, 0, 0] },
      timeTag := none, tc := 4, start := 0, before := 0, stomp := false })] } }, 17, {
      da := 1099511627779, sa := 7, etype := 34824, len := 1523, tag := some (3, 1, 0), fcsOk := true, ttdp := false,
      ptp := none, rtag := none, msec := none, send := none, data := [1, 0, 0, 0, 9, 0, 0, 0, 0, 0, 0, 0, 0, 0, 0, 0, 0] }, {
      frame := {
      da := 1099511627779, sa := 7, etype := 34824, len := 64, tag := some (3, 1, 0), fcsOk := true, ttdp := false,
      ptp := none, rtag := none, msec := none, send := none, data := [1, 0, 0, 0, 9, 0, 0, 0, 0, 0, 0, 0, 0, 0, 0, 0, 0] },
      ingress := 9, stamp := 5, tIn := 6, synced := true, corrects := false, vid := 2, pcp := 3, dei := 0, yellow := false,
      cells := 1, copies := 2 }, {
      id := 0, frame := {
      da := 1099511627779, sa := 7, etype := 34824, len := 1523, tag := some (3, 1, 0), fcsOk := true, ttdp := false,
      ptp := none, rtag := none, msec := none, send := none, data := [1, 0, 0, 0, 9, 0, 0, 0, 0, 0, 0, 0, 0, 0, 0, 0, 0] },
      timeTag := none, tc := 4, start := 0, before := 0, stomp := false }, by decide +kernel⟩,
    ⟨{ State.reset with
        regs := regsOf [(F.HALL_CTL_FWD_EN, 1048577), (F.HALL_PORT_STAT_LINK_STATE 23, 0)], hall := { State.reset.hall with
        frames := [(1, {
        frame := {
        da := 1, sa := 1099511627777, etype := 34958, len := 200, tag := some (5, 0, 2), fcsOk := true, ttdp := false,
        ptp := none, rtag := none, msec := none, send := none, data := [1, 0, 0, 0, 9, 0, 0, 0, 0, 0, 0, 0, 0, 0, 0, 0, 0] },
        ingress := 9, stamp := 5, tIn := 6, synced := true, corrects := false, vid := 2, pcp := 3, dei := 0, yellow := false,
        cells := 4, copies := 1 })], queues := [(191, [{ id := 1, at_ := 0, trapped := false, ingress := 9 }])] } }, 5, 23,
        7, {
        da := 1099511627779, sa := 7, etype := 2048, len := 64, tag := some (7, 0, 4095), fcsOk := true, ttdp := false,
        ptp := none, rtag := none, msec := none, send := none, data := [1, 0, 0, 0, 9, 0, 0, 0, 0, 0, 0, 0, 0, 0, 0, 0, 0] },
        { id := 1, at_ := 0, trapped := false, ingress := 9 }, [], {
        frame := {
        da := 1, sa := 1099511627777, etype := 34958, len := 200, tag := some (5, 0, 2), fcsOk := true, ttdp := false,
        ptp := none, rtag := none, msec := none, send := none, data := [1, 0, 0, 0, 9, 0, 0, 0, 0, 0, 0, 0, 0, 0, 0, 0, 0] },
        ingress := 9, stamp := 5, tIn := 6, synced := true, corrects := false, vid := 2, pcp := 3, dei := 0, yellow := false,
        cells := 4, copies := 1 }, by decide +kernel⟩,
    ⟨22, {
        da := 1652522221571, sa := 7, etype := 34824, len := 63, tag := some (7, 0, 4095), fcsOk := true, ttdp := false,
        ptp := none, rtag := none, msec := none, send := none, data := [1, 0, 0, 0, 9, 0, 0, 0, 0, 0, 0, 0, 0, 0, 0, 0, 0] },
        by decide +kernel⟩,
    ⟨{ State.reset with
        regs := regsOf [(F.HALL_PORT_CFG_EXPRESS 5, 22), (F.HALL_PORT_STAT_PREEMPT_ACTIVE 5, 1), (F.HALL_GCL_CTL_GATE_EN 5,
        1), (F.HALL_GCL_OPR0_GATES 5 0, 0)], hall := { State.reset.hall with
        tx := [(5, {
        id := 2, frame := {
        da := 1652522221571, sa := 1099511627777, etype := 2048, len := 1523, tag := none, fcsOk := true, ttdp := true,
        ptp := none, rtag := none, msec := none, send := none, data := [1, 0, 0, 0, 9, 0, 0, 0, 0, 0, 0, 0, 0, 0, 0, 0, 0] },
        timeTag := none, tc := 3, start := 0, before := 0, stomp := false })] } }, 20, 5, 64, {
        id := 2, frame := {
        da := 1652522221571, sa := 1099511627777, etype := 2048, len := 1523, tag := none, fcsOk := true, ttdp := true,
        ptp := none, rtag := none, msec := none, send := none, data := [1, 0, 0, 0, 9, 0, 0, 0, 0, 0, 0, 0, 0, 0, 0, 0, 0] },
        timeTag := none, tc := 3, start := 0, before := 0, stomp := false }, by decide +kernel⟩,
    ⟨{ State.reset with
        regs := regsOf [(F.HALL_CTL_FWD_EN, 1), (F.HALL_PORT_STAT_LINK_STATE 18, 0), (F.HALL_VLAN0_MEMBER 2, 4456448)] }, 20,
        22, 18, {
        da := 1099511627779, sa := 1099511627777, etype := 2048, len := 100, tag := some (5, 0, 2), fcsOk := true,
        ttdp := false, ptp := none, rtag := none, msec := none, send := none, data := [1, 0, 0, 0, 9, 0, 0, 0, 0, 0, 0, 0, 0,
        0, 0, 0, 0] }, by decide +kernel⟩,
    ⟨{ State.reset with
        regs := regsOf [(F.HALL_Q_CFG_MAX_RES 23 7, 1), (F.HALL_PORT_STAT_LINK_STATE 23, 0)], hall := { State.reset.hall with
        frames := [(1, ⟨⟨1, 2, 34958, 200, some (5, 0, 2), true, false, none, none, none, none, [1]⟩, 9, 5, 6, true, false,
        2, 3, 0, false, 4, 1⟩)], queues := [(191, [⟨1, 0, false, 9⟩])] } }, 1000000, 23, 7, ⟨1, 0, false, 9⟩, [], ⟨⟨1, 2,
        34958, 200, some (5, 0, 2), true, false, none, none, none, none, [1]⟩, 9, 5, 6, true, false, 2, 3, 0, false, 4, 1⟩,
        by decide +kernel⟩⟩

theorem witness_HallwayControl :
    (∃ (s : State) (t : Nat) (p : Nat) (i : Nat) (c : Nat) (vid : Nat) (mac : Nat) (a : Attr) (e : FdbEntry) (x : Recov),
        let n := s.tick t;
        let hub := n.passes 0x40E0010C a true = true;
        let key := s.fdbKey;
        let found := s.fdbFind key.1 key.2;
        let pend := s.hall.change.find? p;
        let gone := e.static = false ∧ e.hit + 1000000000 * s.rd F.HALL_CTL_AGE_S ≤ t;
        let ended := x.last + 1000000 * s.rd (F.HALL_STREAM3_RECOV_RESET i) ≤ t;
        p < 22 ∧ n.passes (0x40F00000 + 8192 * p) a true = true ∧ s.rd (F.HALL_GCL_CTL_ADMIN_LEN p) ≤ 256 ∧ pend = some c ∧
        n.tNow < c ∧ 8 ≤ p ∧ p < 24 ∧ s.link p = 0 ∧ s.rd (F.HALL_PORT_HOLD_LINK_HOLD p) ≠ 0 ∧ hub ∧ n.clk.learns = [] ∧
        (found ≠ none ∨ s.fdbRoom key.1 key.2 = true) ∧ found ≠ none ∧ found = some e ∧ s.fdbFind vid mac = some e ∧
        (¬ gone) ∧ n.passes 0x40E00000 a true = true ∧ p < 18 ∧ s.rd (F.HALL_PORT_STAT_VERIFY p) = 1 ∧
        s.hall.tries.getD 0 p < 2 ∧ i < 1024 ∧ s.hall.recov.find? i = some x ∧ ended) ∧
    (∃ (s : State) (t : Nat) (p : Nat) (i : Nat) (c : Nat) (a : Attr) (x : Recov),
        let n := s.tick t;
        let hub := n.passes 0x40E0010C a true = true;
        let key := s.fdbKey;
        let found := s.fdbFind key.1 key.2;
        let pend := s.hall.change.find? p;
        let ended := x.last + 1000000 * s.rd (F.HALL_STREAM3_RECOV_RESET i) ≤ t;
        p < 22 ∧ s.rd (F.HALL_GCL_CTL_ADMIN_LEN p) ≤ 256 ∧ pend = some c ∧ c ≤ n.tNow ∧ 8 ≤ p ∧ p < 24 ∧ s.link p = 2 ∧ hub ∧
        n.clk.learns = [] ∧ found = none ∧ p < 18 ∧ s.rd (F.HALL_PORT_STAT_VERIFY p) = 1 ∧ s.hall.tries.getD 0 p = 2 ∧
        i < 1024 ∧ s.hall.recov.find? i = some x ∧ (¬ ended)) ∧
    (∃ (s : State) (t : Nat) (p : Nat) (vid : Nat) (mac : Nat) (e : FdbEntry),
        let n := s.tick t;
        let gone := e.static = false ∧ e.hit + 1000000000 * s.rd F.HALL_CTL_AGE_S ≤ t;
        8 ≤ p ∧ p < 24 ∧ s.link p = 1 ∧ n.holdOver p = true ∧ s.fdbFind vid mac = some e ∧ gone) ∧
    (∃ (s : State) (t : Nat) (p : Nat) (a : Attr),
        let n := s.tick t;
        let hub := n.passes 0x40E0010C a true = true;
        let key := s.fdbKey;
        8 ≤ p ∧ p < 24 ∧ s.link p = 1 ∧ n.holdOver p = false ∧ hub ∧ n.clk.learns = [(key.1, key.2, p, none)]) ∧
    (∃ (s : State) (p : Nat), 8 ≤ p ∧ p < 24 ∧ s.link p = 0 ∧ s.rd (F.HALL_PORT_HOLD_LINK_HOLD p) = 0) :=
  ⟨⟨{ State.reset with
      regs := regsOf [(F.HALL_FDB_MAC_LO_MAC_LO, 5), (F.HALL_FDB_KEY_VID, 2), (F.HALL_PORT_STAT_VERIFY 12, 1),
      (F.HALL_PORT_STAT_LINK_STATE 12, 0), (F.WORLD_RGN1_LIMIT 3 0, 1048575), (F.WORLD_RGN2_DOM 3 0, 7),
      (F.WORLD_RGN2_P_W 3 0, 1), (F.WORLD_RGN2_EN 3 0, 1)], hall := { State.reset.hall with
      fdb := [{ vid := 2, mac := 5, static := false, mask := 512, hit := 5 }], recov := [(5,
      { num := 3, history := 1, last := 0 })], change := [(12, 1000000000000)] } }, 200000000000, 12, 5, 1000000000000, 2, 5,
      { attic := false, inst := 3, dom := Dom.hub }, { vid := 2, mac := 5, static := false, mask := 512, hit := 5 },
      { num := 3, history := 1, last := 0 }, by decide +kernel⟩,
    ⟨{ State.reset with
        regs := regsOf [(F.HALL_PORT_STAT_VERIFY 12, 1), (F.WORLD_RGN1_LIMIT 3 0, 1048575), (F.WORLD_RGN2_DOM 3 0, 7),
        (F.WORLD_RGN2_P_W 3 0, 1), (F.WORLD_RGN2_EN 3 0, 1)], hall := { State.reset.hall with
        recov := [(5, { num := 3, history := 1, last := 0 })], change := [(12, 0)], tries := [(12, 2)] } }, 20, 12, 5, 0,
        { attic := false, inst := 3, dom := Dom.hub }, { num := 3, history := 1, last := 0 }, by decide +kernel⟩,
    ⟨{ State.reset with
        regs := regsOf [(F.HALL_CTL_AGE_S, 10), (F.HALL_PORT_STAT_LINK_STATE 18, 1)], hall := { State.reset.hall with
        fdb := [{ vid := 2, mac := 7, static := false, mask := 262144, hit := 5 }] } }, 200000000000, 18, 2, 7,
        { vid := 2, mac := 7, static := false, mask := 262144, hit := 5 }, by decide +kernel⟩,
    ⟨{ State.reset with
        now := 64000, regs := regsOf [(F.HALL_FDB_MAC_LO_MAC_LO, 7), (F.HALL_FDB_KEY_VID, 2),
        (F.HALL_PORT_STAT_LINK_STATE 10, 1), (F.WORLD_RGN1_LIMIT 3 0, 1048575), (F.WORLD_RGN2_DOM 3 0, 7),
        (F.WORLD_RGN2_P_W 3 0, 1), (F.WORLD_RGN2_EN 3 0, 1)], clk := { State.reset.clk with learns := [(2, 7, 10, none)] } },
        64000, 10, { attic := false, inst := 3, dom := Dom.hub }, by decide +kernel⟩,
    ⟨{ State.reset with
        regs := regsOf [(F.HALL_PORT_STAT_LINK_STATE 23, 0), (F.HALL_PORT_HOLD_LINK_HOLD 23, 0)] }, 23, by decide +kernel⟩⟩
theorem witness_HallwayControl_full (h : Config.fdbWays = 0) :
    ∃ (s : State) (a : Attr), s.passes 0x40E0010C a true = true ∧ s.fdbFind s.fdbKey.1 s.fdbKey.2 = none ∧
      s.fdbRoom s.fdbKey.1 s.fdbKey.2 = false :=
  ⟨running, attic, by decide +kernel, by decide +kernel, by unfold State.fdbRoom; rw [h]; simp⟩

theorem witness_CanControllers :
    (∃ (s : State) (t : Nat) (c : Nat) (a : Attr) (peek : Bool),
        let x := s.ctl c;
        let cmd := (s.tick t).passes (canCmdAddr c) a true = true;
        let old := (s.tick t).clk.olds.find? (errLastAddr c);
        c < 12 ∧ cmd ∧ x.state ≠ .config ∧ x.onBus ≠ none ∧ x.state ≠ .busOff ∧ (x.state = .active ∨ x.state = .passive) ∧
        s.flag (F.CAN_TT_STAT_BACKUP c) = true ∧ t < x.lastRef + s.backupWindow c ∧
        (s.tick t).passes (0x40700044 + c * 0x10000 + if peek then 0x8000 else 0) a false = true ∧ old = none) ∧
    (∃ (s : State) (t : Nat) (c : Nat) (a : Attr),
        let x := s.ctl c;
        let cmd := (s.tick t).passes (canCmdAddr c) a true = true;
        c < 12 ∧ cmd ∧ x.state ≠ .config ∧ x.onBus = none ∧ x.state = .busOff ∧ s.flag (F.CAN_TT_STAT_BACKUP c) = true ∧
        x.lastRef + s.backupWindow c ≤ t) ∧
    (∃ (s : State) (t : Nat) (c : Nat),
        let x := s.ctl c;
        let base := s.rd64 (F.CAN_TT_BASE_TT_BASE c);
        let per := max 100000 (s.rd (F.CAN_TT_CYCLE_TT_CYCLE c));
        let tt := (s.tick t).tNow;
        let due := base + (tt - base) / per * per;
        c < 12 ∧ x.state = .recovering ∧ s.rd (F.CAN_STAT_RECOV_CNT c) < 127 ∧ s.rd (F.CAN_TT_CFG_ROLE c) = 2 ∧
        x.state ≠ .config ∧ x.state ≠ .syncing ∧ s.flag (F.CAN_TT_STAT_BACKUP c) = false ∧ base ≤ tt ∧ x.refT ≠ some due) ∧
    (∃ (s : State) (t : Nat) (c : Nat) (k : Nat) (a : Attr) (peek : Bool),
        let x := s.ctl c;
        let old := (s.tick t).clk.olds.find? (errLastAddr c);
        c < 12 ∧ x.state = .syncing ∧
        (s.tick t).passes (0x40700044 + c * 0x10000 + if peek then 0x8000 else 0) a false = true ∧ old = some k) ∧
    (∃ (s : State) (t : Nat) (c : Nat) (a : Attr),
        let x := s.ctl c;
        let cmd := (s.tick t).passes (canCmdAddr c) a true = true;
        c < 12 ∧ cmd ∧ x.state = .config ∧ s.canValid c = false) ∧
    (∃ (s : State) (c : Nat), let x := s.ctl c; c < 12 ∧ x.state = .recovering ∧ s.rd (F.CAN_STAT_RECOV_CNT c) = 127) ∧
    (∃ (s : State) (t : Nat) (c : Nat) (a : Attr),
        let x := s.ctl c;
        let cmd := (s.tick t).passes (canCmdAddr c) a true = true;
        c < 12 ∧ cmd ∧ x.state = .config ∧ s.canValid c = true) :=
  ⟨⟨{ State.reset with
      regs := regsOf [(F.CAN_TT_STAT_BACKUP 11, 1), (F.WORLD_RGN1_LIMIT 3 0, 1048575), (F.WORLD_RGN2_DOM 3 0, 7),
      (F.WORLD_RGN2_P_W 3 0, 1), (F.WORLD_RGN2_P_R 3 0, 1), (F.WORLD_RGN2_EN 3 0, 1)], can := { State.reset.can with
      ctls := [(11, { CanCtl.init with state := CanState.active, onBus := some (CanTx.ref 70) })] } }, 20, 11,
      { attic := false, inst := 3, dom := Dom.hub }, true, by decide +kernel⟩,
    ⟨{ State.reset with
        regs := regsOf [(F.CAN_TT_CYCLE_TT_CYCLE 5, 100000), (F.CAN_TT_STAT_BACKUP 5, 1048577), (F.WORLD_RGN1_LIMIT 3 0,
        1048575), (F.WORLD_RGN2_DOM 3 0, 7), (F.WORLD_RGN2_P_W 3 0, 1), (F.WORLD_RGN2_EN 3 0, 1)],
        can := { State.reset.can with ctls := [(5, { CanCtl.init with state := CanState.busOff })] } }, 1000000, 5,
        { attic := false, inst := 3, dom := Dom.hub }, by decide +kernel⟩,
    ⟨{ State.reset with
        regs := regsOf [(F.CAN_TT_CFG_ROLE 5, 2), (F.CAN_TT_CYCLE_TT_CYCLE 5, 1000000)],
        can := { State.reset.can with ctls := [(5, { CanCtl.init with state := CanState.recovering })] } }, 1000000, 5,
        by decide +kernel⟩,
    ⟨{ State.reset with
        now := 5, regs := regsOf [(F.WORLD_RGN1_LIMIT 3 0, 1048575), (F.WORLD_RGN2_DOM 3 0, 7), (F.WORLD_RGN2_P_R 3 0, 1),
        (F.WORLD_RGN2_EN 3 0, 1)],
        can := { State.reset.can with ctls := [(0, { CanCtl.init with state := CanState.syncing })] },
        clk := { State.reset.clk with olds := [(1081081924, 77)] } }, 5, 0, 77,
        { attic := false, inst := 3, dom := Dom.hub }, true, by decide +kernel⟩,
    ⟨{ State.reset with
        regs := regsOf [(F.CAN_NBT_TSEG1 11, 15), (F.WORLD_RGN1_LIMIT 3 0, 1048575), (F.WORLD_RGN2_DOM 3 0, 7),
        (F.WORLD_RGN2_P_W 3 0, 1), (F.WORLD_RGN2_EN 3 0, 1)] }, 64000, 11, { attic := false, inst := 3, dom := Dom.hub },
        by decide +kernel⟩,
    ⟨{ State.reset with
        regs := regsOf [(F.CAN_STAT_RECOV_CNT 11, 127)],
        can := { State.reset.can with ctls := [(11, { CanCtl.init with state := CanState.recovering })] } }, 11,
        by decide +kernel⟩,
    ⟨{ State.reset with
        regs := regsOf [(F.WORLD_RGN1_LIMIT 3 0, 1048575), (F.WORLD_RGN2_DOM 3 0, 7), (F.WORLD_RGN2_P_W 3 0, 1),
        (F.WORLD_RGN2_EN 3 0, 1)] }, 20, 5, { attic := false, inst := 3, dom := Dom.hub }, by decide +kernel⟩⟩

theorem witness_CanReception :
    (∃ (s : State) (t : Nat) (c : Nat) (e : Nat) (r : Nat) (k : Nat) (w : Nat) (a : Attr) (f : CanFrame) (v : Word),
        let n := s.tick t;
        let x := s.ctl c;
        let i := s.ringInst r;
        let cnt := s.rd (F.CANRAM_RING0_COUNT r);
        r < 128 ∧ c < 12 ∧ (x.state = .active ∨ x.state = .passive) ∧ s.fmtEnabled c f.fdf f.xlf = true ∧
        n.filterHit c f = none ∧ s.rd (F.CAN_FLT_DEF_DEF_ACTION c) = 0 ∧
        (s.tick t).passes (0x40C40000 + 32 * r) a true = true ∧ s.ringValid r = true ∧ v.toNat.testBit 31 = true ∧
        (s.tick t).passes (0x40C40000 + 32 * r + 4) a true = true ∧ (s.tick t).passes (0x40C40008 + 32 * r) a true = true ∧
        cnt < 2 ^ 16 ∧ i < 64 ∧ s.ringTx r = true ∧
        (cnt ≤ k ∨ s.ringDist r (s.ringGet r) (s.ringDone r) < s.ringDist r (s.ringGet r) k) ∧
        (cnt ≤ k ∨ cnt - 1 - s.ringHeld r < s.ringDist r (s.ringPut r) k) ∧ e < 16384 ∧ w < 4 ∧
        (s.tick t).passes (0x40C00000 + 16 * e + 4 * w) a true = true ∧ s.mayFilter a e = false ∧ a.inst < 64) ∧
    (∃ (s : State) (t : Nat) (e : Nat) (r : Nat) (k : Nat) (w : Nat) (a : Attr),
        let i := s.ringInst r;
        let cnt := s.rd (F.CANRAM_RING0_COUNT r);
        r < 128 ∧ (s.tick t).passes (0x40C40008 + 32 * r) a true = true ∧ s.ringValid r = true ∧ cnt < 2 ^ 16 ∧ i < 64 ∧
        s.ringTx r = true ∧ k < cnt ∧ s.ringDist r (s.ringGet r) k ≤ s.ringDist r (s.ringGet r) (s.ringDone r) ∧
        s.ringDist r (s.ringPut r) k ≤ cnt - 1 - s.ringHeld r ∧
        s.admitOwner i (s.ringDist r (s.ringPut r) k * s.ringWords r) = .ok ∧ e < 16384 ∧ w < 4 ∧
        (s.tick t).passes (0x40C00000 + 16 * e + 4 * w) a true = true ∧ a.attic = true ∧ (w = 1 ∨ w = 2) ∧
        s.flag (F.CANRAM_FLT0_VALID e) = true) ∧
    (∃ (s : State) (t : Nat) (e : Nat) (r : Nat) (w : Nat) (a : Attr), r < 128 ∧
        (s.tick t).passes (0x40C40000 + 32 * r) a true = true ∧ s.ringValid r = false ∧
        (s.tick t).passes (0x40C40000 + 32 * r + 4) a true = true ∧ e < 16384 ∧ w < 4 ∧
        (s.tick t).passes (0x40C00000 + 16 * e + 4 * w) a true = true ∧ a.attic = true ∧ w = 0) ∧
    (∃ (s : State) (t : Nat) (e : Nat) (r : Nat) (k : Nat) (w : Nat) (a : Attr),
        let i := s.ringInst r;
        let cnt := s.rd (F.CANRAM_RING0_COUNT r);
        r < 128 ∧ (s.tick t).passes (0x40C40008 + 32 * r) a true = true ∧ s.ringValid r = true ∧ cnt < 2 ^ 16 ∧ i < 64 ∧
        s.ringTx r = false ∧ (cnt ≤ k ∨ s.ringDist r (s.ringGet r) (s.ringPut r) < s.ringDist r (s.ringGet r) k) ∧
        e < 16384 ∧ w < 4 ∧ (s.tick t).passes (0x40C00000 + 16 * e + 4 * w) a true = true ∧ a.attic = true ∧ w = 1 ∧
        s.flag (F.CANRAM_FLT0_VALID e) = false) ∧
    (∃ (s : State) (t : Nat) (r : Nat) (k : Nat) (a : Attr),
        let i := s.ringInst r;
        let cnt := s.rd (F.CANRAM_RING0_COUNT r);
        r < 128 ∧ (s.tick t).passes (0x40C40008 + 32 * r) a true = true ∧ s.ringValid r = true ∧ cnt < 2 ^ 16 ∧ i < 64 ∧
        s.ringTx r = false ∧ k < cnt ∧ s.ringDist r (s.ringGet r) k ≤ s.ringDist r (s.ringGet r) (s.ringPut r)) ∧
    (∃ (s : State) (t : Nat) (c : Nat) (e : Nat) (r : Nat) (f : CanFrame),
        let n := s.tick t;
        let x := s.ctl c;
        r < 128 ∧ c < 12 ∧ (x.state = .active ∨ x.state = .passive) ∧ s.fmtEnabled c f.fdf f.xlf = true ∧
        n.filterHit c f = some e ∧ e < 16384 ∧ n.fltWord e / 2 ^ 27 % 4 = 0) ∧
    (∃ (s : State) (t : Nat) (c : Nat) (e : Nat) (r : Nat) (f : CanFrame),
        let n := s.tick t;
        let x := s.ctl c;
        let i := s.ringInst r;
        r < 128 ∧ c < 12 ∧ (x.state = .active ∨ x.state = .passive) ∧ s.fmtEnabled c f.fdf f.xlf = true ∧
        n.filterHit c f = some e ∧ e < 16384 ∧ n.fltWord e / 2 ^ 27 % 4 = 1 ∧ n.fltWord e % 128 = r ∧ s.ringValid r = true ∧
        s.ringTx r = false ∧ s.ringNext r (s.ringPut r) ≠ s.ringGet r ∧ i < 64 ∧ s.admitOwner i (s.ringWords r) = .ok) ∧
    (∃ (s : State) (t : Nat) (c : Nat) (e : Nat) (r : Nat) (f : CanFrame),
        let n := s.tick t;
        let x := s.ctl c;
        r < 128 ∧ c < 12 ∧ (x.state = .active ∨ x.state = .passive) ∧ s.fmtEnabled c f.fdf f.xlf = true ∧
        n.filterHit c f = some e ∧ e < 16384 ∧ n.fltWord e / 2 ^ 27 % 4 = 1 ∧ n.fltWord e % 128 = r ∧ s.ringValid r = true ∧
        s.ringTx r = false ∧ s.ringNext r (s.ringPut r) = s.ringGet r) :=
  ⟨⟨{ State.reset with
      regs := regsOf [(F.CANRAM_RING0_DIR 0, 1), (F.CANRAM_RING0_VALID 0, 1), (F.WORLD_RGN1_LIMIT 3 0, 1048575),
      (F.WORLD_RGN2_DOM 3 0, 7), (F.WORLD_RGN2_P_W 3 0, 1), (F.WORLD_RGN2_EN 3 0, 1)],
      can := { State.reset.can with ctls := [(0, { CanCtl.init with state := CanState.active })] } }, 20, 0, 5, 0, 10, 3,
      { attic := false, inst := 3, dom := Dom.hub }, {
      xtd := false, rtr := true, id := 5, fdf := false, brs := true, esi := false, xlf := false, sec := false,
      af := 2147483649, vcid := 3, sdt := 4, data := [250, 251, 252, 253, 254, 255, 256, 257, 258, 259, 260, 261, 262, 263,
      264, 265, 266, 267, 268, 269, 270, 271, 272, 273, 274, 275, 276, 277, 278, 279, 280, 281, 282, 283, 284, 285, 286, 287,
      288, 289, 290, 291, 292, 293, 294, 295, 296, 297, 298, 299, 300, 301, 302, 303, 304, 305, 306, 307, 308, 309, 310, 311,
      312, 313, 314] }, 0x80020010#32, by decide +kernel⟩,
    ⟨{ State.reset with
        regs := regsOf [(F.CANRAM_FLT0_VALID 5, 1), (F.CANRAM_RING0_COUNT 0, 16), (F.CANRAM_RING0_INST 0, 9),
        (F.CANRAM_RING0_DIR 0, 1), (F.CANRAM_RING0_VALID 0, 1), (F.CANRAM_RING3_DONE 0, 8), (F.VIM_INST_QSHARE_QSHARE_EFF 9,
        100)], vim := { State.reset.vim with insts := [(9, { Inst.init with state := InstState.active })] } }, 5, 5, 0, 8, 2,
        { attic := true, inst := 0, dom := Dom.hub }, by decide +kernel⟩,
    ⟨State.reset, 20, 4, 1, 0, { attic := true, inst := 0, dom := Dom.hub }, by decide +kernel⟩,
    ⟨{ State.reset with regs := regsOf [(F.CANRAM_RING0_VALID 1, 1)] }, 2000000000, 4, 1, 13, 1,
        { attic := true, inst := 0, dom := Dom.hub }, by decide +kernel⟩,
    ⟨{ State.reset with
        regs := regsOf [(F.CANRAM_RING0_COUNT 127, 16), (F.CANRAM_RING0_VALID 127, 1), (F.CANRAM_RING2_GET_RECLAIM 127,
        12)] }, 20, 127, 13, { attic := true, inst := 0, dom := Dom.hub }, by decide +kernel⟩,
    ⟨{ State.reset with
        regs := regsOf [(F.CAN_FLT_FLT_LEN 5, 3), (F.CAN_FLT_FLT_BASE 5, 4), (F.CANRAM_FLT0_VALID 4, 1)],
        can := { State.reset.can with ctls := [(5, { CanCtl.init with state := CanState.passive })] } }, 1000000, 5, 4, 0, {
        xtd := false, rtr := false, id := 0, fdf := false, brs := true, esi := false, xlf := false, sec := false,
        af := 2147483649, vcid := 3, sdt := 4, data := [250, 251, 252, 253, 254, 255, 256, 257, 258] }, by decide +kernel⟩,
    ⟨{ State.reset with
        now := 20, regs := regsOf [(F.CAN_FLT_FLT_LEN 0, 3), (F.CAN_FLT_FLT_BASE 0, 4), (F.CANRAM_FLT2_ID2 5, 2047),
        (F.CANRAM_RING0_COUNT 127, 16), (F.CANRAM_RING0_INST 127, 9), (F.CANRAM_RING0_VALID 127, 1),
        (F.VIM_INST_QSHARE_QSHARE_EFF 9, 100)],
        can := { State.reset.can with ctls := [(0, { CanCtl.init with state := CanState.active })] },
        vim := { State.reset.vim with insts := [(9, { Inst.init with state := InstState.active })] },
        clk := { State.reset.clk with olds := [(1086324816, 2281701503)] } }, 20, 0, 5, 127, {
        xtd := false, rtr := true, id := 5, fdf := false, brs := true, esi := true, xlf := false, sec := false,
        af := 2147483649, vcid := 3, sdt := 4, data := [250, 251, 252, 253, 254, 255, 256, 257, 258, 259, 260, 261, 262, 263,
        264, 265, 266, 267, 268, 269, 270, 271, 272, 273, 274, 275, 276, 277, 278, 279, 280, 281, 282, 283, 284, 285, 286,
        287, 288, 289, 290, 291, 292, 293, 294, 295, 296, 297, 298, 299, 300, 301, 302, 303, 304, 305, 306, 307, 308, 309,
        310, 311, 312, 313] }, by decide +kernel⟩,
    ⟨{ State.reset with
        now := 5, regs := regsOf [(F.CAN_FLT_FLT_LEN 11, 3), (F.CAN_FLT_FLT_BASE 11, 4), (F.CANRAM_FLT2_ID2 5, 2047),
        (F.CANRAM_RING0_COUNT 127, 2), (F.CANRAM_RING0_VALID 127, 1), (F.CANRAM_RING2_GET_RECLAIM 127, 1)],
        can := { State.reset.can with ctls := [(11, { CanCtl.init with state := CanState.active })] },
        clk := { State.reset.clk with olds := [(1086324816, 2281701503)] } }, 5, 11, 5, 127, {
        xtd := false, rtr := false, id := 2047, fdf := false, brs := false, esi := true, xlf := false, sec := false,
        af := 2147483649, vcid := 3, sdt := 4, data := [250, 251, 252, 253, 254, 255, 256, 257] }, by decide +kernel⟩⟩

theorem witness_CanTransmission :
    (∃ (s : State) (t : Nat) (c : Nat) (r : Nat) (i : Nat) (a : Attr),
        let x := s.ctl c;
        let plain := s.can.aborts.find? r = none ∧ s.can.skips.getD [] r = [];
        let errs := s.can.errs.getD 0 r + 1;
        let retry := s.rd (F.CANRAM_RING1_RETRY r);
        let full := s.rd (F.CANRAM_RING0_COUNT r) < 2 ^ 16 ∧ s.ringPut r < s.rd (F.CANRAM_RING0_COUNT r) ∧
          s.ringDone r < s.rd (F.CANRAM_RING0_COUNT r) ∧ s.can.skips.getD [] r = [];
        c < 12 ∧ r < 128 ∧ x.onBus = some (.elem r) ∧ x.discard = false ∧ plain ∧ s.ringInst r < 64 ∧ retry ≠ 255 ∧
        retry ≤ errs ∧ (s.tick t).passes (canCmdAddr c) a true = true ∧ s.servesTx c r = true ∧ i < 64 ∧
        s.awaits i 0 = true ∧ s.ringValid r = true ∧ s.ringTx r = true ∧ s.ringInst r = i ∧ full ∧ (∀ j, j < 128 →
        s.ringInst j < 64)) ∧
    (∃ (s : State) (t : Nat) (c : Nat) (r : Nat) (n : Nat) (a : Attr),
        let x := s.ctl c;
        c < 12 ∧ r < 128 ∧ x.onBus = some (.ref n) ∧ (s.tick t).passes (canCmdAddr c) a true = true ∧
        s.servesTx c r = false) ∧
    (∃ (s : State) (t : Nat) (c : Nat) (r : Nat) (a : Attr),
        let x := s.ctl c;
        let key (j : Nat) : Nat :=
        let h := s.txHead j (s.ringDone j);
        arbKey (h.1 && !h.2.2.2.2.1) h.2.1 h.2.2.1;
        let full := s.rd (F.CANRAM_RING0_COUNT r) < 2 ^ 16 ∧ s.ringPut r < s.rd (F.CANRAM_RING0_COUNT r) ∧
          s.ringDone r < s.rd (F.CANRAM_RING0_COUNT r) ∧ s.can.skips.getD [] r = [];
        c < 12 ∧ r < 128 ∧ (x.state = .active ∨ x.state = .passive) ∧ x.onBus = none ∧ x.stopping = false ∧
        s.flag (F.CAN_CTL_LISTEN c) = false ∧ (x.state = .passive → x.suspend ≤ t) ∧ s.txReady c r = true ∧ x.refDue = none ∧
        (∀ j, j < 128 → s.txReady c j = true → s.badFormat c j (s.ringDone j) = false ∧ (j ≠ r → key r < key j)) ∧
        (s.tick t).passes (canCmdAddr c) a true = true ∧ s.servesTx c r = true ∧ x.onBus ≠ some (.elem r) ∧ full ∧
        s.ringInst r < 64) ∧
    (∃ (s : State) (t : Nat) (c : Nat) (r : Nat) (n : Nat),
        let x := s.ctl c;
        c < 12 ∧ r < 128 ∧ (x.state = .active ∨ x.state = .passive) ∧ x.onBus = none ∧ x.stopping = false ∧
        s.flag (F.CAN_CTL_LISTEN c) = false ∧ (x.state = .passive → x.suspend ≤ t) ∧ (∀ j, j < 128 → s.txReady c j = false) ∧
        x.refDue = some n) ∧
    (∃ (s : State) (c : Nat) (r : Nat),
        let x := s.ctl c;
        let plain := s.can.aborts.find? r = none ∧ s.can.skips.getD [] r = [];
        let errs := s.can.errs.getD 0 r + 1;
        let retry := s.rd (F.CANRAM_RING1_RETRY r);
        c < 12 ∧ r < 128 ∧ x.onBus = some (.elem r) ∧ x.discard = false ∧ plain ∧ s.ringInst r < 64 ∧
        (retry = 255 ∨ errs < retry)) :=
  ⟨⟨{ State.reset with
      regs := regsOf [(F.CANRAM_RING0_COUNT 1, 16), (F.CANRAM_RING0_INST 1, 5), (F.CANRAM_RING0_CTRL 1, 11),
      (F.CANRAM_RING0_DIR 1, 1), (F.CANRAM_RING0_VALID 1, 1), (F.VIM_INST_RESET_PEND_PEND 5, 1), (F.WORLD_RGN1_LIMIT 3 0,
      1048575), (F.WORLD_RGN2_DOM 3 0, 7), (F.WORLD_RGN2_P_W 3 0, 1), (F.WORLD_RGN2_EN 3 0, 1)],
      can := { State.reset.can with ctls := [(11, { CanCtl.init with onBus := some (CanTx.elem 1) })] },
      vim := { State.reset.vim with insts := [(5, { Inst.init with state := InstState.resetting })] } }, 1000000, 11, 1, 5,
      { attic := false, inst := 3, dom := Dom.hub }, by decide +kernel⟩,
    ⟨{ State.reset with
        regs := regsOf [(F.WORLD_RGN1_LIMIT 3 0, 1048575), (F.WORLD_RGN2_DOM 3 0, 7), (F.WORLD_RGN2_P_W 3 0, 1),
        (F.WORLD_RGN2_EN 3 0, 1)],
        can := { State.reset.can with ctls := [(11, { CanCtl.init with onBus := some (CanTx.ref 70) })] } }, 20, 11, 127, 70,
        { attic := false, inst := 3, dom := Dom.hub }, by decide +kernel⟩,
    ⟨{ State.reset with
        regs := regsOf [(F.CANRAM_RING0_COUNT 127, 16), (F.CANRAM_RING0_DIR 127, 1), (F.CANRAM_RING0_VALID 127, 1),
        (F.CANRAM_RING2_PUT 127, 2), (F.WORLD_RGN1_LIMIT 3 0, 1048575), (F.WORLD_RGN2_DOM 3 0, 7), (F.WORLD_RGN2_P_W 3 0, 1),
        (F.WORLD_RGN2_EN 3 0, 1)],
        can := { State.reset.can with ctls := [(0, { CanCtl.init with state := CanState.passive })] } }, 1000000, 0, 127,
        { attic := false, inst := 3, dom := Dom.hub }, by decide +kernel⟩,
    ⟨{ State.reset with
        can := { State.reset.can with
        ctls := [(0, { CanCtl.init with state := CanState.passive, refDue := some 3 })] } }, 64000, 0, 1, 3,
        by decide +kernel⟩,
    ⟨{ State.reset with
        regs := regsOf [(F.CANRAM_RING1_RETRY 0, 2)],
        can := { State.reset.can with ctls := [(0, { CanCtl.init with onBus := some (CanTx.elem 0) })] } }, 0, 0,
        by decide +kernel⟩⟩

theorem witness_TimeReadsLatch :
    ∃ (s : State) (t : Nat) (a : Attr), (s.tick t).passes 0x41000000 a false = true ∧
        (s.tick t).passes 0x41008000 a false = true ∧ (s.tick t).passes 0x41000008 a false = true ∧
        (s.tick t).passes 0x41008008 a false = true :=
  ⟨{ State.reset with
      regs := regsOf [(F.WORLD_RGN1_LIMIT 3 0, 1048575), (F.WORLD_RGN2_DOM 3 0, 7), (F.WORLD_RGN2_P_R 3 0, 1),
      (F.WORLD_RGN2_EN 3 0, 1)] }, 1000000000000, { attic := false, inst := 3, dom := Dom.hub }, by decide +kernel⟩

theorem witness_TimeSetAndServo :
    (∃ (s : State) (t : Nat) (a : Attr),
        let over_ := (s.time.servo = .acquire ∨ s.time.servo = .locked) ∧
          s.time.lastInput + 1000000 * s.rd F.TIME_SERVO_TMO_HOLDOVER_TMO ≤ t;
        let over_ := s.time.servo = .holdover ∧ s.time.holdEntry + 1000000000 * s.rd F.TIME_SERVO_TMO_HOLDOVER_MAX ≤ t;
        (s.tick t).passes F.TIME_ADJ_CTL_ADJ_REFUSED.addr a true = true ∧ s.timeSrc ≠ 0 ∧
        (s.tick t).passes 0x41000054 a true = true ∧ s.timeSrc = 1 ∧ s.time.busyEnd ≤ t ∧ s.time.left.map (·.1) ≠ some t ∧
        (s.tick t).passes F.TIME_CFG_SRC.addr a true = true ∧ (¬ over_)) ∧
    (∃ (s : State) (t : Nat) (a : Attr),
        let over_ := (s.time.servo = .acquire ∨ s.time.servo = .locked) ∧
          s.time.lastInput + 1000000 * s.rd F.TIME_SERVO_TMO_HOLDOVER_TMO ≤ t;
        (s.tick t).passes F.TIME_ADJ_CTL_ADJ_REFUSED.addr a true = true ∧ s.timeSrc = 0 ∧ over_) ∧
    (∃ (s : State) (t : Nat) (a : Attr),
        let over_ := s.time.servo = .holdover ∧ s.time.holdEntry + 1000000000 * s.rd F.TIME_SERVO_TMO_HOLDOVER_MAX ≤ t;
        (s.tick t).passes 0x41000054 a true = true ∧ s.timeSrc = 1 ∧ t < s.time.busyEnd ∧ over_) ∧
    (∃ (s : State) (t : Nat) (a : Attr) (o : Word),
        let x := o.toInt;
        let jumps := s.rd F.TIME_CFG_STEP_EN ≠ 0 ∧
          (s.time.servo = .free ∨ max 1 (s.rd F.TIME_STEP_THRESH_STEP_THRESH) ≤ x.natAbs);
        let lim := s.rd F.TIME_SERVO_LIM_LOCK_THRESH;
        (s.tick t).passes 0x41000054 a true = true ∧ s.timeSrc = 1 ∧ s.time.busyEnd ≤ t ∧ s.time.left = some (t, .locked) ∧
        s.time.servo = .holdover ∧ (¬ jumps) ∧ x.natAbs < 4 * lim) :=
  ⟨⟨{ State.reset with
      regs := regsOf [(F.TIME_CFG_SRC, 1), (F.WORLD_RGN1_LIMIT 3 0, 1048575), (F.WORLD_RGN2_DOM 3 0, 7),
      (F.WORLD_RGN2_P_W 3 0, 1), (F.WORLD_RGN2_EN 3 0, 1)] }, 1000000000000, { attic := false, inst := 3, dom := Dom.hub },
      by decide +kernel⟩,
    ⟨{ State.reset with
        regs := regsOf [(F.WORLD_RGN1_LIMIT 3 0, 1048575), (F.WORLD_RGN2_DOM 3 0, 7), (F.WORLD_RGN2_P_W 3 0, 1),
        (F.WORLD_RGN2_EN 3 0, 1)], time := { State.reset.time with servo := ServoState.locked } }, 100000000000000,
        { attic := false, inst := 3, dom := Dom.hub }, by decide +kernel⟩,
    ⟨{ State.reset with
        regs := regsOf [(F.TIME_CFG_SRC, 1), (F.TIME_SERVO_TMO_HOLDOVER_MAX, 0), (F.WORLD_RGN1_LIMIT 3 0, 1048575),
        (F.WORLD_RGN2_DOM 3 0, 7), (F.WORLD_RGN2_P_W 3 0, 1), (F.WORLD_RGN2_EN 3 0, 1)],
        time := { State.reset.time with servo := ServoState.holdover, busyEnd := 8589934612 } }, 2000,
        { attic := false, inst := 3, dom := Dom.hub }, by decide +kernel⟩,
    ⟨{ State.reset with
        regs := regsOf [(F.TIME_CFG_SRC, 1), (F.WORLD_RGN1_LIMIT 3 0, 1048575), (F.WORLD_RGN2_DOM 3 0, 7),
        (F.WORLD_RGN2_P_W 3 0, 1), (F.WORLD_RGN2_EN 3 0, 1)],
        time := { State.reset.time with servo := ServoState.holdover, left := some (2000, ServoState.locked) } }, 2000,
        { attic := false, inst := 3, dom := Dom.hub }, 0x0000018f#32, by decide +kernel⟩⟩

theorem witness_TimeConversionAndPins :
    (∃ (s : State) (t : Nat) (f : Nat) (n : Nat) (port : Nat) (a : Attr) (peek : Bool),
        let tt := (s.tick t).tNow;
        let at_ (addr : Nat) : Nat := if peek then addr + 0x8000 else addr;
        (s.tick t).passes (F.TIME_CONV_IN_FRC 1).addr a true = true ∧ s.time.convPend = some f ∧ s.time.par.applied ≤ f ∧
        s.flag F.TIME_PPS_OUT_EN = true ∧ s.time.ppsNext = some n ∧ n ≤ tt ∧ s.flag F.TIME_PPS_IN_EN = false ∧
        (s.tick t).passes (at_ (F.TIME_PPS_IN_TS_FRC 0).addr) a false = true ∧ 8 ≤ port ∧ port < 24 ∧
        (s.tick t).passes (at_ (0x41000104 + 0x10 * port)) a false = true ∧ s.time.txts.getD [] port = []) ∧
    (∃ (s : State) (t : Nat) (f : Nat) (n : Nat) (port : Nat) (a : Attr) (peek : Bool) (e : TxStamp) (es : List TxStamp),
        let tt := (s.tick t).tNow;
        let clk := (s.tick t).clk;
        let at_ (addr : Nat) : Nat := if peek then addr + 0x8000 else addr;
        s.time.convPend = some f ∧ f < s.time.par.applied ∧ s.time.prev.frcRef ≤ f ∧ s.flag F.TIME_PPS_OUT_EN = true ∧
        s.time.ppsNext = some n ∧ tt < n ∧ s.flag F.TIME_PPS_IN_EN = true ∧ s.timeSrc ≠ 2 ∧ 8 ≤ port ∧ port < 24 ∧
        (s.tick t).passes (at_ (0x41000104 + 0x10 * port)) a false = true ∧ s.time.txts.getD [] port = e :: es ∧
        clk.pushes.getD 0 (txtsAddr port) ≤ es.length) ∧
    (∃ (s : State) (t : Nat) (f : Nat), s.time.convPend = some f ∧ f < s.time.par.applied ∧ f < s.time.prev.frcRef ∧
        s.flag F.TIME_PPS_IN_EN = true ∧ s.timeSrc = 2 ∧ s.time.busyEnd ≤ t) :=
  ⟨⟨{ State.reset with
      regs := regsOf [(F.TIME_PPS_OUT_EN, 1), (F.WORLD_RGN1_LIMIT 3 0, 1048575), (F.WORLD_RGN2_DOM 3 0, 7),
      (F.WORLD_RGN2_P_W 3 0, 1), (F.WORLD_RGN2_P_R 3 0, 1), (F.WORLD_RGN2_EN 3 0, 1)], time := { State.reset.time with
      par := { frcRef := 1099511627776, offset := 1000000000000000000, rate := -1000, applied := 100 },
      prev := { frcRef := 1099511627776, offset := 18446744073709551611, rate := 2147483647, applied := 100 },
      convPend := some 4000, ppsNext := some 5000 } }, 5, 4000, 5000, 9, { attic := false, inst := 3, dom := Dom.hub }, true,
      by decide +kernel⟩,
    ⟨{ State.reset with
        regs := regsOf [(F.TIME_PPS_OUT_EN, 1), (F.TIME_PPS_IN_EN, 1), (F.WORLD_RGN1_LIMIT 3 0, 1048575),
        (F.WORLD_RGN2_DOM 3 0, 7), (F.WORLD_RGN2_P_R 3 0, 1), (F.WORLD_RGN2_EN 3 0, 1)], time := { State.reset.time with
        par := { frcRef := 100, offset := 1000000000000000000, rate := 8589934592, applied := 1099511627776 },
        convPend := some 4000, ppsNext := some 5000, txts := [(8,
        [{ t := 5, msgType := 1, domain := 211, seq := 22593 }])] } }, 5, 4000, 5000, 8,
        { attic := false, inst := 3, dom := Dom.hub }, true, { t := 5, msgType := 1, domain := 211, seq := 22593 }, [],
        by decide +kernel⟩,
    ⟨{ State.reset with
        regs := regsOf [(F.TIME_CFG_SRC, 2), (F.TIME_PPS_IN_EN, 1)], time := { State.reset.time with
        par := { frcRef := 0, offset := 18446744073709551623, rate := 2147483647, applied := 5000 },
        prev := { frcRef := 5000, offset := 1180591620717411303424, rate := -2147483648, applied := 0 },
        convPend := some 0 } }, 8589934602, 0, by decide +kernel⟩⟩

theorem witness_NetworkReadiness :
    (∃ (s : State) (t : Nat) (k : Nat) (node : Nat) (run : Nat) (j : Nat) (m : Nat) (n : Nat) (t0 : Nat) (a : Attr) (hi : Bool) (nr : NodeRun),
        let mid := s.rd F.SYSCTL_MID_MID;
        let need := (s.tick t).passes 0x41080010 a true = true ∧ a.inst < 64;
        k < 13 ∧ node < 2 ^ 16 ∧ (s.tick t).committed = false ∧ s.pwr.hubUp = true ∧ (∀ i, i < 13 →
        s.rd (F.NETMGT_SEG0_MEMBERS i) ≤ 32) ∧ need ∧ (s.tick t).passes (0x41080024 + if hi then 4 else 0) a true = true ∧
        a.attic = true ∧ s.net.needFrom ≠ none ∧ s.needs = true ∧ s.net.lastKa + 100000000 ≤ t ∧ s.ringPos k mid = some n ∧
        (s.seg k).waiting = some (t0, j, run) ∧ j < 32 ∧ t0 + 1000000 * s.rd F.NETMGT_CFG2_RING_TMO ≤ t ∧
        s.nmRingNext k j = some m ∧ m ≠ n ∧ s.inRing k = true ∧
        (s.seg k).lastTok + 32 * (1000000 * s.rd F.NETMGT_CFG2_RING_TMO) ≤ t ∧ s.flag (F.NETMGT_RING_PRESENT k n) = true ∧
        (∀ i, i < n → s.flag (F.NETMGT_RING_PRESENT k i) = false) ∧ s.nmRingNext k n = some j ∧ n < 256 ∧
        s.net.runs.find? n = some nr ∧ nr.last + 1000000 * s.rd F.NETMGT_CFG_READY_SLEEP ≤ t) ∧
    (∃ (s : State) (t : Nat) (k : Nat) (node : Nat) (n : Nat) (a : Attr) (hi : Bool) (nr : NodeRun),
        let on (i : Nat) : Bool := s.flag (F.NETMGT_SEG0_EN i);
        let free := ∀ i, i < 256 → s.rd (F.NETMGT_NODE0_QUAR i) = 0;
        k < 13 ∧ node < 2 ^ 16 ∧ (s.tick t).committed = false ∧ s.pwr.hubUp = true ∧ (∀ i, i < 13 →
        s.rd (F.NETMGT_SEG0_MEMBERS i) ≤ 32) ∧ (s.tick t).passes (0x41080024 + if hi then 4 else 0) a true = true ∧
        a.attic = false ∧ on k = true ∧ s.isRing k = false ∧ free ∧
        t < (s.seg k).lastSeen + 1000000 * s.rd F.NETMGT_CFG_READY_SLEEP ∧ n < 256 ∧ s.net.runs.find? n = some nr ∧
        s.rd (F.NETMGT_NODE0_JUST n) = 0 ∧ s.rd (F.NETMGT_NODE0_QUAR n) = 0 ∧
        nr.start + 1000000000 * (60 * s.rd F.NETMGT_CFG_MAX_AWAKE) ≤ t ∧
        t < nr.last + 1000000 * s.rd F.NETMGT_CFG_READY_SLEEP) ∧
    (∃ (s : State) (t : Nat) (k : Nat) (node : Nat) (j : Nat) (n : Nat) (t0 : Nat),
        let mid := s.rd F.SYSCTL_MID_MID;
        let member := s.inRing k = true ∧ (s.ringPos k node).isSome = true ∧ 2 ≤ s.ringPresent k;
        k < 13 ∧ node < 2 ^ 16 ∧ (s.tick t).committed = false ∧ s.pwr.hubUp = true ∧ (∀ i, i < 13 →
        s.rd (F.NETMGT_SEG0_MEMBERS i) ≤ 32) ∧ member ∧ s.needs = false ∧ s.ringPos k mid = some n ∧
        (s.seg k).hold = some t0 ∧ t0 + 1000000 * s.rd F.NETMGT_CFG2_RING_HOLD ≤ t ∧ (s.seg k).restart = false ∧
        s.nmRingNext k n = some j) ∧
    (∃ (s : State) (t : Nat) (k : Nat) (node : Nat),
        let member := s.inRing k = true ∧ (s.ringPos k node).isSome = true ∧ 2 ≤ s.ringPresent k;
        k < 13 ∧ node < 2 ^ 16 ∧ (s.tick t).committed = false ∧ s.pwr.hubUp = true ∧ (∀ i, i < 13 →
        s.rd (F.NETMGT_SEG0_MEMBERS i) ≤ 32) ∧ member ∧ s.needs = true) ∧
    (∃ (s : State) (t : Nat) (k : Nat) (node : Nat),
        let on (i : Nat) : Bool := s.flag (F.NETMGT_SEG0_EN i);
        k < 13 ∧ node < 2 ^ 16 ∧ (s.tick t).committed = false ∧ s.pwr.hubUp = true ∧ (∀ i, i < 13 →
        s.rd (F.NETMGT_SEG0_MEMBERS i) ≤ 32) ∧ on k = true ∧ s.isRing k = false ∧ s.needs = false ∧
        (s.seg k).lastSeen + 1000000 * s.rd F.NETMGT_CFG_READY_SLEEP ≤ t) ∧
    (∃ (s : State) (t : Nat) (k : Nat) (node : Nat) (n : Nat) (just : Bool),
        let on (i : Nat) : Bool := s.flag (F.NETMGT_SEG0_EN i);
        k < 13 ∧ node < 2 ^ 16 ∧ (s.tick t).committed = false ∧ s.pwr.hubUp = true ∧ (∀ i, i < 13 →
        s.rd (F.NETMGT_SEG0_MEMBERS i) ≤ 32) ∧ on k = true ∧ s.isRing k = false ∧ s.nodeEntry node = some n ∧
        s.rd (F.NETMGT_NODE0_QUAR n) = 1 ∧ just = false) ∧
    (∃ (s : State) (t : Nat) (k : Nat) (node : Nat) (run : Nat) (j : Nat),
        let member := s.inRing k = true ∧ (s.ringPos k node).isSome = true ∧ 2 ≤ s.ringPresent k;
        k < 13 ∧ node < 2 ^ 16 ∧ (s.tick t).committed = false ∧ s.pwr.hubUp = true ∧ (∀ i, i < 13 →
        s.rd (F.NETMGT_SEG0_MEMBERS i) ≤ 32) ∧ member ∧ s.needs = false ∧ (s.seg k).restart = false ∧ 0 < run ∧
        s.ringPos k node = some j ∧ s.flag (F.NETMGT_RING_PRESENT k j) = true ∧ run + 1 < s.ringPresent k) ∧
    (∃ (s : State) (t : Nat) (k : Nat) (node : Nat) (run : Nat) (j : Nat),
        let member := s.inRing k = true ∧ (s.ringPos k node).isSome = true ∧ 2 ≤ s.ringPresent k;
        k < 13 ∧ node < 2 ^ 16 ∧ (s.tick t).committed = false ∧ s.pwr.hubUp = true ∧ (∀ i, i < 13 →
        s.rd (F.NETMGT_SEG0_MEMBERS i) ≤ 32) ∧ member ∧ s.needs = false ∧ (s.seg k).restart = false ∧ 0 < run ∧
        s.ringPos k node = some j ∧ s.flag (F.NETMGT_RING_PRESENT k j) = true ∧ s.ringPresent k ≤ run + 1) :=
  ⟨⟨{ State.reset with
      regs := regsOf [(F.SYSCTL_MID_MID, 20), (F.NETMGT_NEED_SUM_NEED 0, 8), (F.NETMGT_SEG0_MEMBERS 2, 3),
      (F.NETMGT_SEG0_MODE 2, 1), (F.NETMGT_SEG0_EN 2, 1), (F.NETMGT_RING_NODE 2 0, 20), (F.NETMGT_RING_PRESENT 2 0, 1),
      (F.NETMGT_RING_PRESENT 2 1, 1), (F.NETMGT_RING_PRESENT 2 2, 1)], net := { State.reset.net with
      needFrom := some 3, segs := [(2, {
      lastSeen := 0, hold := some 0, tokRun := 255, waiting := some (0, 1, 7), lastTok := 60, restart := true,
      sent := none })], runs := [(0, { start := 0, last := 0 })] }, pwr := { State.reset.pwr with hubUp := true } },
      1000000000000, 2, 11, 7, 1, 2, 0, 0, { attic := true, inst := 0, dom := Dom.hub }, true, { start := 0, last := 0 },
      by decide +kernel⟩,
    ⟨{ State.reset with
        regs := regsOf [(F.NETMGT_CFG_MAX_AWAKE, 0), (F.NETMGT_SEG0_EN 5, 1), (F.WORLD_RGN1_LIMIT 3 0, 1048575),
        (F.WORLD_RGN2_DOM 3 0, 7), (F.WORLD_RGN2_P_W 3 0, 1), (F.WORLD_RGN2_EN 3 0, 1)],
        net := { State.reset.net with runs := [(255, { start := 0, last := 9 })] },
        pwr := { State.reset.pwr with hubUp := true } }, 1000000, 5, 20, 255, { attic := false, inst := 3, dom := Dom.hub },
        true, { start := 0, last := 9 }, by decide +kernel⟩,
    ⟨{ State.reset with
        regs := regsOf [(F.SYSCTL_MID_MID, 20), (F.NETMGT_CFG2_RING_HOLD, 0), (F.NETMGT_SEG0_MEMBERS 6, 3),
        (F.NETMGT_SEG0_MODE 6, 1), (F.NETMGT_SEG0_EN 6, 1048577), (F.NETMGT_RING_NODE 6 0, 20), (F.NETMGT_RING_PRESENT 6 0,
        1), (F.NETMGT_RING_NODE 6 1, 11), (F.NETMGT_RING_PRESENT 6 1, 1048577)], net := { State.reset.net with
        segs := [(6, {
        lastSeen := 50, hold := some 5, tokRun := 300, waiting := none, lastTok := 60, restart := false, sent := none })] },
        pwr := { State.reset.pwr with hubUp := true } }, 5, 6, 11, 1, 0, 5, by decide +kernel⟩,
    ⟨{ State.reset with
        regs := regsOf [(F.NETMGT_WIN_CFG_POL 1, 0), (F.NETMGT_WIN_CFG_LEVEL 1, 1), (F.NETMGT_SEG0_MEMBERS 7, 4),
        (F.NETMGT_SEG0_MODE 7, 1), (F.NETMGT_SEG0_EN 7, 1), (F.NETMGT_RING_NODE 7 0, 20), (F.NETMGT_RING_PRESENT 7 1, 1),
        (F.NETMGT_RING_PRESENT 7 2, 1)], pwr := { State.reset.pwr with hubUp := true } }, 100000000000000, 7, 20,
        by decide +kernel⟩,
    ⟨{ State.reset with
        regs := regsOf [(F.NETMGT_CFG_READY_SLEEP, 0), (F.NETMGT_SEG0_EN 9, 1)],
        pwr := { State.reset.pwr with hubUp := true } }, 1000000100, 9, 99, by decide +kernel⟩,
    ⟨{ State.reset with
        regs := regsOf [(F.NETMGT_SEG0_EN 10, 1), (F.NETMGT_NODE0_NODE 3, 11), (F.NETMGT_NODE0_QUAR 3, 1),
        (F.NETMGT_NODE0_VALID 3, 1)], pwr := { State.reset.pwr with hubUp := true } }, 1000000, 10, 11, 3, false,
        by decide +kernel⟩,
    ⟨{ State.reset with
        regs := regsOf [(F.NETMGT_SEG0_MEMBERS 7, 4), (F.NETMGT_SEG0_MODE 7, 1), (F.NETMGT_SEG0_EN 7, 1048577),
        (F.NETMGT_RING_PRESENT 7 0, 1048577), (F.NETMGT_RING_NODE 7 1, 11), (F.NETMGT_RING_PRESENT 7 1, 1),
        (F.NETMGT_RING_NODE 7 2, 20), (F.NETMGT_RING_PRESENT 7 2, 1)], pwr := { State.reset.pwr with hubUp := true } },
        1000000, 7, 11, 1, 1, by decide +kernel⟩,
    ⟨{ State.reset with
        regs := regsOf [(F.NETMGT_SEG0_MEMBERS 7, 4), (F.NETMGT_SEG0_MODE 7, 1), (F.NETMGT_SEG0_EN 7, 1),
        (F.NETMGT_RING_NODE 7 1, 11), (F.NETMGT_RING_PRESENT 7 1, 1), (F.NETMGT_RING_NODE 7 2, 20),
        (F.NETMGT_RING_PRESENT 7 2, 1)], pwr := { State.reset.pwr with hubUp := true } }, 1000000, 7, 11, 1, 1,
        by decide +kernel⟩⟩

theorem witness_SleepAndWake :
    (∃ (s : State) (t : Nat) (cause : Nat) (src : Nat) (k : Nat) (h : Nat),
        let tt := (s.tick t).tNow;
        let asleep := s.pwr.state = .deepSleep ∨ s.pwr.state = .warmSleep;
        s.pwr.hubUp = true ∧ s.armedSource cause src = true ∧ (s.tick t).committed = false ∧ k < 13 ∧
        s.flag (F.NETMGT_SEG0_EN k) = true ∧ s.isRing k = false ∧ k < 4 ∧ s.rd (F.NETMGT_WIN_CFG_POL k) ≤ 1 ∧ asleep ∧
        1 ≤ cause ∧ cause ≤ 3 ∧ s.net.wakeAt ≠ 0 ∧ tt < s.net.wakeAt ∧ s.pwr.state = .warmSleep ∧
        s.rd F.NETMGT_CFG2_WARM_MAX = h ∧ h ≠ 0 ∧ t < s.pwr.sleepAt + 1000000000 * (3600 * h)) ∧
    (∃ (s : State) (t : Nat) (cause : Nat) (src : Nat) (h : Nat),
        let tt := (s.tick t).tNow;
        let asleep := s.pwr.state = .deepSleep ∨ s.pwr.state = .warmSleep;
        s.pwr.hubUp = true ∧ s.armedSource cause src = true ∧ (s.tick t).committed = true ∧ s.net.latched ≠ none ∧ asleep ∧
        s.net.wakeAt ≠ 0 ∧ s.net.wakeAt ≤ tt ∧ s.pwr.state = .warmSleep ∧ s.rd F.NETMGT_CFG2_WARM_MAX = h ∧ h ≠ 0 ∧
        s.pwr.sleepAt + 1000000000 * (3600 * h) ≤ t) ∧
    (∃ (s : State) (t : Nat) (cause : Nat) (src : Nat), s.pwr.hubUp = true ∧ s.armedSource cause src = true ∧
        (s.tick t).committed = true ∧ s.net.latched = none ∧ s.net.state = .prepare ∧
        (s.pwr.state = .run ∨ s.pwr.state = .safe) ∧ s.net.prepAt + 500000000 ≤ t) ∧
    (∃ (s : State), s.pwr.state = .sleepEntry ∧ s.pwr.pfInEntry = false ∧ s.net.latched = none) ∧
    (∃ (s : State), s.pwr.state = .sleepEntry ∧ s.pwr.pfInEntry = true ∧ s.net.latched = none) ∧
    (∃ (s : State) (src : Nat) (c : Nat) (t0 : Nat), s.pwr.state = .sleepEntry ∧ s.pwr.pfInEntry = false ∧
        s.net.latched = some (c, src, t0)) ∧
    (∃ (s : State) (t : Nat), s.net.state = .prepare ∧ (s.pwr.state = .run ∨ s.pwr.state = .safe) ∧
        t < s.net.prepAt + 500000000) :=
  ⟨⟨{ State.reset with
      regs := regsOf [(F.NETMGT_CFG2_WARM_MAX, 1), (F.NETMGT_SEG0_EN 0, 1)],
      net := { State.reset.net with wakeAt := 1099511627776 },
      pwr := { State.reset.pwr with state := PowerState.warmSleep, hubUp := true } }, 1000000100, 3, 1, 0, 1,
      by decide +kernel⟩,
    ⟨{ State.reset with
        regs := regsOf [(F.NETMGT_CFG2_WARM_MAX, 1)],
        net := { State.reset.net with state := NetState.prepare, latched := some (2, 1, 77), wakeAt := 5000 },
        pwr := { State.reset.pwr with state := PowerState.warmSleep, hubUp := true } }, 100000000000000, 4, 1, 1,
        by decide +kernel⟩,
    ⟨{ State.reset with
        net := { State.reset.net with state := NetState.prepare },
        pwr := { State.reset.pwr with state := PowerState.safe, hubUp := true } }, 1000000100, 4, 2, by decide +kernel⟩,
    ⟨{ State.reset with pwr := { State.reset.pwr with state := PowerState.sleepEntry } }, by decide +kernel⟩,
    ⟨{ State.reset with
        pwr := { State.reset.pwr with state := PowerState.sleepEntry, pfInEntry := true } }, by decide +kernel⟩,
    ⟨{ State.reset with
        net := { State.reset.net with latched := some (2, 1, 77) },
        pwr := { State.reset.pwr with state := PowerState.sleepEntry } }, 1, 2, 77, by decide +kernel⟩,
    ⟨{ State.reset with
        net := { State.reset.net with state := NetState.prepare },
        pwr := { State.reset.pwr with state := PowerState.safe } }, 1000000, by decide +kernel⟩⟩

theorem witness_InstanceConfiguration :
    (∃ (s : State) (t : Nat) (h : Nat) (pid : Nat) (i : Nat) (j : Nat) (e : Nat) (q : Nat) (n : Nat) (a : Attr) (v : Word) (peek : Bool) (ws : List Nat) (en : Entry) (es : List Entry),
        let w := v.toNat;
        let share := min 512 (w % 1024);
        let base := w / 2 ^ 16 % 2 ^ 14;
        let cnt := min 16384 (w % 2 ^ 15);
        let attic (addr : Nat) : Prop := a.attic = true ∧ (s.tick t).passes addr a true = true;
        let stranded := ∃ x, x < s.rd (F.VIM_INST_FLT_FLT_CNT i) ∧
          s.flag (F.CANRAM_FLT0_VALID (s.rd (F.VIM_INST_FLT_FLT_BASE i) + x)) = true ∧
          ¬ (base ≤ s.rd (F.VIM_INST_FLT_FLT_BASE i) + x ∧ s.rd (F.VIM_INST_FLT_FLT_BASE i) + x < base + cnt);
        let verdict := ((s.tick t).okay.modPool q fun y => { y with pushing := none }).admission q (n + 1);
        h < 8 ∧ i < 64 ∧ e < 4096 ∧ q < 384 ∧ pid < 2 ^ 20 ∧ (s.tick t).passes (0x41100040 + 4 * h) a true = true ∧
        s.pidEntry pid = none ∧ attic (0x41110000 + 4 * e) ∧
        (s.pidEntry (w % 2 ^ 20) = none ∨ s.pidEntry (w % 2 ^ 20) = some e ∨ w < 2 ^ 31) ∧ i ≠ 0 ∧
        attic (0x41101000 + 64 * i) ∧ s.cplOk i (w / 2 ^ 15 % 2 ^ 9) = false ∧ attic (0x4110100C + 64 * i) ∧
        (s.rd (F.VIM_INST_CFG_VALID i) = 0 ∨ s.otherShares i + share ≤ 512) ∧ attic (0x41101014 + 64 * i) ∧
        s.windowMeets i base cnt = false ∧ (¬ stranded) ∧ attic (0x41120000 + 16 * q) ∧ s.queueFill q ≠ 0 ∧
        s.boundTo q = none ∧ s.windowMay a q = true ∧ (s.tick t).passes (0x41120008 + 16 * q) a true = true ∧
        (s.pool q).pushing = some (i, j, n, ws) ∧ ws.length + 1 = n ∧ verdict = .full ∧
        (s.tick t).passes (0x4112000C + 16 * q + if peek then 0x8000 else 0) a false = true ∧ (s.pool q).body = [] ∧
        (s.pool q).entries = en :: es ∧ 0 < (s.tick t).settled (popAddr q) (es.length + 1) ∧ (∀ x, x < 64 →
        s.nextOf x = none)) ∧
    (∃ (s : State) (t : Nat) (h : Nat) (i : Nat) (e : Nat) (q : Nat) (a : Attr) (v : Word),
        let w := v.toNat;
        let share := min 512 (w % 1024);
        let base := w / 2 ^ 16 % 2 ^ 14;
        let cnt := min 16384 (w % 2 ^ 15);
        let attic (addr : Nat) : Prop := a.attic = true ∧ (s.tick t).passes addr a true = true;
        let stranded := ∃ x, x < s.rd (F.VIM_INST_FLT_FLT_CNT i) ∧
          s.flag (F.CANRAM_FLT0_VALID (s.rd (F.VIM_INST_FLT_FLT_BASE i) + x)) = true ∧
          ¬ (base ≤ s.rd (F.VIM_INST_FLT_FLT_BASE i) + x ∧ s.rd (F.VIM_INST_FLT_FLT_BASE i) + x < base + cnt);
        h < 8 ∧ i < 64 ∧ e < 4096 ∧ q < 384 ∧ attic (0x4110100C + 64 * i) ∧ s.rd (F.VIM_INST_CFG_VALID i) ≠ 0 ∧
        512 < s.otherShares i + share ∧ attic (0x41101014 + 64 * i) ∧ (s.rd (F.VIM_INST_CFG_VALID i) ≠ 0 ∧
        s.windowMeets i base cnt = true ∨ stranded) ∧ attic (0x41120000 + 16 * q) ∧ s.queueFill q = 0 ∧ s.boundTo q = none ∧
        w / 2 ^ 29 % 4 < 2) ∧
    (∃ (s : State) (t : Nat) (h : Nat) (i : Nat) (e : Nat) (q : Nat) (a : Attr) (v : Word),
        let w := v.toNat;
        let attic (addr : Nat) : Prop := a.attic = true ∧ (s.tick t).passes addr a true = true;
        h < 8 ∧ i < 64 ∧ e < 4096 ∧ q < 384 ∧ attic (0x41120000 + 16 * q) ∧ s.boundTo q ≠ none ∧
        (w / 2 ^ 29 % 4 ≠ s.rd (F.VIM_HWQ_CFG_END q) ∨ w / 2 ^ 23 % 64 ≠ s.rd (F.VIM_HWQ_CFG_OWNER q)) ∧
        s.windowMay a q = true ∧ (s.tick t).passes (0x41120008 + 16 * q) a true = true ∧ (s.pool q).pushing = none ∧
        w % 4096 ≠ 0) ∧
    (∃ (s : State) (h : Nat) (i : Nat) (j : Nat) (e : Nat) (q : Nat) (n : Nat) (p : Nat) (a : Attr) (en : Entry) (es : List Entry),
        h < 8 ∧ i < 64 ∧ e < 4096 ∧ q < 384 ∧ a.attic = false ∧ s.vimMay a i = false ∧ s.nextOf 0 = some (q, n, j, p) ∧
        (s.pool q).entries = en :: es) ∧
    (∃ (s : State) (t : Nat) (h : Nat) (i : Nat) (e : Nat) (q : Nat) (a : Attr) (v : Word),
        let w := v.toNat;
        let attic (addr : Nat) : Prop := a.attic = true ∧ (s.tick t).passes addr a true = true;
        let fits := s.otherShares i + s.rd (F.VIM_INST_QSHARE_QSHARE i) ≤ 512 ∧
          s.windowMeets i (s.rd (F.VIM_INST_FLT_FLT_BASE i)) (s.rd (F.VIM_INST_FLT_FLT_CNT i)) = false;
        h < 8 ∧ i < 64 ∧ e < 4096 ∧ q < 384 ∧ i ≠ 0 ∧ attic (0x41101000 + 64 * i) ∧ s.cplOk i (w / 2 ^ 15 % 2 ^ 9) = true ∧
        (s.inst i).state = .free ∧ 2 ^ 31 ≤ w ∧ (¬ fits)) ∧
    (∃ (s : State) (t : Nat) (h : Nat) (pid : Nat) (i : Nat) (e : Nat) (q : Nat) (a : Attr), h < 8 ∧ i < 64 ∧ e < 4096 ∧
        q < 384 ∧ pid < 2 ^ 20 ∧ (s.tick t).passes (0x41100040 + 4 * h) a true = true ∧ s.pidEntry pid = some e ∧
        s.rd (F.VIM_MAP_INST e) = i ∧ s.rd (F.VIM_INST_CFG_WORLD i) = s.rd (F.WORLD_HART_CUR h)) ∧
    (∃ (s : State) (t : Nat) (h : Nat) (i : Nat) (e : Nat) (k : Nat) (q : Nat) (a : Attr) (v : Word),
        let w := v.toNat;
        let attic (addr : Nat) : Prop := a.attic = true ∧ (s.tick t).passes addr a true = true;
        h < 8 ∧ i < 64 ∧ e < 4096 ∧ q < 384 ∧ attic (0x41110000 + 4 * e) ∧ s.pidEntry (w % 2 ^ 20) = some k ∧ k ≠ e ∧
        2 ^ 31 ≤ w) ∧
    (∃ (s : State) (t : Nat) (h : Nat) (i : Nat) (e : Nat) (q : Nat) (a : Attr) (v : Word),
        let w := v.toNat;
        let attic (addr : Nat) : Prop := a.attic = true ∧ (s.tick t).passes addr a true = true;
        let fits := s.otherShares i + s.rd (F.VIM_INST_QSHARE_QSHARE i) ≤ 512 ∧
          s.windowMeets i (s.rd (F.VIM_INST_FLT_FLT_BASE i)) (s.rd (F.VIM_INST_FLT_FLT_CNT i)) = false;
        h < 8 ∧ i < 64 ∧ e < 4096 ∧ q < 384 ∧ i ≠ 0 ∧ attic (0x41101000 + 64 * i) ∧ s.cplOk i (w / 2 ^ 15 % 2 ^ 9) = true ∧
        (s.inst i).state = .free ∧ 2 ^ 31 ≤ w ∧ fits) ∧
    (∃ (s : State) (t : Nat) (h : Nat) (i : Nat) (e : Nat) (q : Nat) (a : Attr) (v : Word),
        let w := v.toNat;
        let attic (addr : Nat) : Prop := a.attic = true ∧ (s.tick t).passes addr a true = true;
        h < 8 ∧ i < 64 ∧ e < 4096 ∧ q < 384 ∧ i ≠ 0 ∧ attic (0x41101000 + 64 * i) ∧ s.cplOk i (w / 2 ^ 15 % 2 ^ 9) = true ∧
        (s.inst i).state = .active ∧ w < 2 ^ 31 ∧ s.ownsNothing i = true) ∧
    (∃ (s : State) (t : Nat) (h : Nat) (i : Nat) (e : Nat) (q : Nat) (a : Attr) (v : Word),
        let w := v.toNat;
        let attic (addr : Nat) : Prop := a.attic = true ∧ (s.tick t).passes addr a true = true;
        h < 8 ∧ i < 64 ∧ e < 4096 ∧ q < 384 ∧ i ≠ 0 ∧ attic (0x41101000 + 64 * i) ∧ s.cplOk i (w / 2 ^ 15 % 2 ^ 9) = true ∧
        (s.inst i).state = .active ∧ w < 2 ^ 31 ∧ s.ownsNothing i = false) ∧
    (∃ (s : State) (t : Nat) (h : Nat) (i : Nat) (j : Nat) (e : Nat) (q : Nat) (n : Nat) (a : Attr) (ws : List Nat),
        let verdict := ((s.tick t).okay.modPool q fun y => { y with pushing := none }).admission q (n + 1);
        h < 8 ∧ i < 64 ∧ e < 4096 ∧ q < 384 ∧ s.windowMay a q = true ∧
        (s.tick t).passes (0x41120008 + 16 * q) a true = true ∧ (s.pool q).pushing = some (i, j, n, ws) ∧ ws.length + 1 = n ∧
        verdict = .ok) :=
  ⟨⟨{ State.reset with
      regs := regsOf [(F.VIM_HWQ_CFG_CAP 2, 3), (F.VIM_HWQ_CFG_VALID 2, 1)], vim := { State.reset.vim with
      pools := [(2, { Pool.init with
      entries := [{ inst := 3, status := 253, payload := [7, 7, 7, 7, 7] }, { inst := 9, status := 144, payload := [] }],
      pushing := some (5, 4, 2, [8]) })] } }, 5, 0, 56, 5, 4, 0, 2, 2, { attic := true, inst := 0, dom := Dom.hub },
      0x00020005#32, true, [8], { inst := 3, status := 253, payload := [7, 7, 7, 7, 7] },
      [{ inst := 9, status := 144, payload := [] }], by decide +kernel⟩,
    ⟨{ State.reset with
        regs := regsOf [(F.VIM_INST_CFG_VALID 9, 1), (F.VIM_INST_QSHARE_QSHARE 9, 512), (F.VIM_INST_FLT_FLT_CNT 9, 5)] }, 5,
        7, 0, 4095, 0, { attic := true, inst := 0, dom := Dom.hub }, 0x00000037#32, by decide +kernel⟩,
    ⟨{ State.reset with
        regs := regsOf [(F.DVE_QMAP_HWQ 2 4, 383), (F.DVE_QMAP_EN 2 4, 1), (F.VIM_HWQ_CFG_VALID 383, 1)] }, 1000000000000, 3,
        0, 4095, 383, { attic := true, inst := 0, dom := Dom.hub }, 0x0d6ec8a4#32, by decide +kernel⟩,
    ⟨{ State.reset with
        regs := regsOf [(F.DVE_QMAP_HWQ 2 4, 383), (F.DVE_QMAP_EN 2 4, 1), (F.VIM_HWQ_CFG_END 383, 1),
        (F.VIM_HWQ_CFG_VALID 383, 1)], vim := { State.reset.vim with
        pools := [(383, { Pool.init with
        entries := [{ inst := 0, status := 267, payload := [] },
        { inst := 0, status := 263, payload := [7, 7, 7, 7, 7] }] })] } }, 3, 9, 2, 7, 383, 1, 4,
        { attic := false, inst := 5, dom := Dom.hub }, { inst := 0, status := 267, payload := [] },
        [{ inst := 0, status := 263, payload := [7, 7, 7, 7, 7] }], by decide +kernel⟩,
    ⟨{ State.reset with
        regs := regsOf [(F.VIM_INST_QSHARE_QSHARE 5, 512), (F.VIM_INST_CFG_VALID 9, 1), (F.VIM_INST_QSHARE_QSHARE 9, 300),
        (F.VIM_HWQ_CFG_VALID 2, 1)] }, 1000000000000, 5, 5, 4095, 2, { attic := true, inst := 0, dom := Dom.hub },
        0x80010004#32, by decide +kernel⟩,
    ⟨{ State.reset with
        regs := regsOf [(F.VIM_INST_CFG_WORLD 5, 1), (F.VIM_MAP_INST 7, 5), (F.VIM_MAP_VALID 7, 1), (F.WORLD_RGN1_LIMIT 3 0,
        1048575), (F.WORLD_RGN2_DOM 3 0, 7), (F.WORLD_RGN2_P_W 3 0, 1), (F.WORLD_RGN2_EN 3 0, 1)] }, 1000000000000, 0, 0, 5,
        7, 2, { attic := false, inst := 5, dom := Dom.hub }, by decide +kernel⟩,
    ⟨{ running with regs := regsOf [(F.VIM_MAP_VALID 7, 1)] }, 5, 0, 63, 4095, 7, 0, attic, 0x80000000#32,
        by decide +kernel⟩,
    ⟨{ running with regs := regsOf [(F.VIM_HWQ_CFG_VALID 0, 1)] }, 5, 0, 63, 4095, 0, attic, 0x80000000#32,
        by decide +kernel⟩,
    ⟨{ running with
        regs := regsOf [(F.VIM_HWQ_CFG_VALID 0, 1)],
        vim := { State.reset.vim with insts := [(63, { Inst.init with state := .active })] } }, 5, 0, 63, 4095, 0, attic,
        0x00000000#32, by decide +kernel⟩,
    ⟨{ running with
        regs := regsOf [(F.VIM_HWQ_CFG_VALID 0, 1), (F.VIM_INST_FLT_FLT_CNT 63, 1)],
        vim := { State.reset.vim with insts := [(63, { Inst.init with state := .active })] } }, 5, 0, 63, 4095, 0, attic,
        0x00000000#32, by decide +kernel⟩,
    ⟨{ running with
        regs := regsOf [(F.VIM_HWQ_CFG_VALID 383, 1), (F.VIM_HWQ_CFG_OWNER 383, 63), (F.VIM_INST_QSHARE_QSHARE_EFF 63, 1)],
        vim := { State.reset.vim with
        insts := [(63, { Inst.init with state := .active })], pools := [(383,
        { Pool.init with pushing := some (63, 4, 2, [8]) })] } }, 5, 0, 63, 4, 4095, 383, 2, attic, [8], by decide +kernel⟩⟩

theorem witness_InstanceResetAndMigration :
    (∃ (s : State) (t : Nat) (i : Nat) (slot : Nat) (a : Attr),
        let x := s.inst i;
        let cmd := a.attic = true ∧ (s.tick t).passes (vimCmdAddr i) a true = true;
        let tmo := x.since + 1000000 * s.rd F.VIM_CFG_FREEZE_TMO;
        let mig := a.attic = true ∧ (s.tick t).passes F.VIM_MIG_CTL_INST.addr a true = true;
        0 < i ∧ i < 64 ∧ slot < 64 ∧ s.pwr.state ≠ .powerFail ∧ cmd ∧
        (x.state = .active ∨ x.state = .freezing ∨ x.state = .frozen) ∧ x.state ≠ .active ∧ x.state ≠ .frozen ∧
        x.state = .freezing ∧ s.quiescent i = true ∧ t < tmo ∧ mig ∧ s.vim.mig = none ∧ x.state ≠ .free) ∧
    (∃ (s : State) (t : Nat) (i : Nat) (slot : Nat) (a : Attr),
        let x := s.inst i;
        let cmd := a.attic = true ∧ (s.tick t).passes (vimCmdAddr i) a true = true;
        let mig := a.attic = true ∧ (s.tick t).passes F.VIM_MIG_CTL_INST.addr a true = true;
        let key := (s.useSlot slot).1.filter fun k => k.fits migrationFit;
        0 < i ∧ i < 64 ∧ slot < 64 ∧ s.pwr.state ≠ .powerFail ∧ cmd ∧ (x.state = .free ∨ x.state = .resetting) ∧
        x.state = .resetting ∧ t < x.since + 200000 ∧ mig ∧ s.vim.mig ≠ none ∧ s.vim.mig = some (.save i slot) ∧
        key = none) ∧
    (∃ (s : State) (t : Nat) (i : Nat) (slot : Nat) (p : Nat),
        let x := s.inst i;
        0 < i ∧ i < 64 ∧ slot < 64 ∧ s.pwr.state ≠ .powerFail ∧ x.state = .resetting ∧ x.since + 200000 ≤ t ∧ p < 20) ∧
    (∃ (s : State) (t : Nat) (i : Nat) (slot : Nat) (a : Attr),
        let x := s.inst i;
        let cmd := a.attic = true ∧ (s.tick t).passes (vimCmdAddr i) a true = true;
        let mig := a.attic = true ∧ (s.tick t).passes F.VIM_MIG_CTL_INST.addr a true = true;
        0 < i ∧ i < 64 ∧ slot < 64 ∧ s.pwr.state ≠ .powerFail ∧ cmd ∧ x.state = .frozen ∧ mig ∧ s.vim.mig = none) ∧
    (∃ (s : State) (t : Nat) (i : Nat) (slot : Nat) (a : Attr),
        let x := s.inst i;
        let cmd := a.attic = true ∧ (s.tick t).passes (vimCmdAddr i) a true = true;
        let key := (s.useSlot slot).1.filter fun k => k.fits migrationFit;
        0 < i ∧ i < 64 ∧ slot < 64 ∧ s.pwr.state ≠ .powerFail ∧ cmd ∧ x.state = .active ∧ s.vim.mig = some (.save i slot) ∧
        key ≠ none) ∧
    (∃ (s : State) (t : Nat) (i : Nat) (slot : Nat),
        let x := s.inst i;
        let tmo := x.since + 1000000 * s.rd F.VIM_CFG_FREEZE_TMO;
        0 < i ∧ i < 64 ∧ slot < 64 ∧ s.pwr.state ≠ .powerFail ∧ x.state = .freezing ∧ (s.quiescent i = false ∨ tmo ≤ t) ∧
        tmo ≤ t) ∧
    (∃ (s : State) (t : Nat) (i : Nat) (slot : Nat) (a : Attr),
        let x := s.inst i;
        let mig := a.attic = true ∧ (s.tick t).passes F.VIM_MIG_CTL_INST.addr a true = true;
        let s1 := (((s.tick t).okay.wr F.VIM_MIG_CTL_INST i).wr F.VIM_MIG_CTL_KEY_SLOT slot);
        0 < i ∧ i < 64 ∧ slot < 64 ∧ s.pwr.state ≠ .powerFail ∧ mig ∧ s.vim.mig = none ∧ x.state = .free ∧
        s1.reaches s1.migAddr 64 false = true ∧ s1.reaches s1.migAddr s1.blobLen false = true ∧ s1.blobAt = none) ∧
    (∃ (s : State) (t : Nat) (i : Nat) (slot : Nat) (p : Nat),
        let x := s.inst i;
        let pend := s.rd (F.VIM_INST_RESET_PEND_PEND i);
        0 < i ∧ i < 64 ∧ slot < 64 ∧ s.pwr.state ≠ .powerFail ∧ p < 20 ∧ x.state = .resetting ∧ x.drained.testBit p = true ∧
        t < x.since + 200000 ∧ pend = 2 ^ p) ∧
    (∃ (s : State) (t : Nat) (i : Nat) (slot : Nat) (p : Nat),
        let x := s.inst i;
        let pend := s.rd (F.VIM_INST_RESET_PEND_PEND i);
        0 < i ∧ i < 64 ∧ slot < 64 ∧ s.pwr.state ≠ .powerFail ∧ p < 20 ∧ x.state = .resetting ∧ x.drained.testBit p = true ∧
        t < x.since + 200000 ∧ (∃ k, k < 20 ∧ k ≠ p ∧ pend.testBit k = true)) ∧
    (∃ (s : State) (t : Nat) (i : Nat) (slot : Nat) (a : Attr) (b : MigBlob),
        let x := s.inst i;
        let mig := a.attic = true ∧ (s.tick t).passes F.VIM_MIG_CTL_INST.addr a true = true;
        let s1 := (((s.tick t).okay.wr F.VIM_MIG_CTL_INST i).wr F.VIM_MIG_CTL_KEY_SLOT slot);
        0 < i ∧ i < 64 ∧ slot < 64 ∧ s.pwr.state ≠ .powerFail ∧ mig ∧ s.vim.mig = none ∧ x.state = .free ∧
        s1.reaches s1.migAddr 64 false = true ∧ s1.reaches s1.migAddr s1.blobLen false = true ∧ s1.blobAt = some b) ∧
    (∃ (s : State) (i : Nat) (slot : Nat) (b : MigBlob), 0 < i ∧ i < 64 ∧ slot < 64 ∧ s.pwr.state ≠ .powerFail ∧
        s.vim.mig = some (.restore i b)) :=
  ⟨⟨{ State.reset with
      vim := { State.reset.vim with insts := [(3, { Inst.init with state := InstState.freezing })] } }, 2000, 3, 4,
      { attic := true, inst := 0, dom := Dom.hub }, by decide +kernel⟩,
    ⟨{ State.reset with
        vim := { State.reset.vim with
        insts := [(3, { Inst.init with state := InstState.resetting })], mig := some (MigJob.save 3 4) } }, 5, 3, 4,
        { attic := true, inst := 0, dom := Dom.hub }, by decide +kernel⟩,
    ⟨{ State.reset with
        vim := { State.reset.vim with insts := [(3, { Inst.init with state := InstState.resetting })] } }, 1000000000000, 3,
        4, 0, by decide +kernel⟩,
    ⟨{ State.reset with
        vim := { State.reset.vim with insts := [(5, { Inst.init with state := InstState.frozen })] } }, 2000, 5, 4,
        { attic := true, inst := 0, dom := Dom.hub }, by decide +kernel⟩,
    ⟨{ State.reset with
        vim := { State.reset.vim with
        insts := [(3, { Inst.init with state := InstState.active })], mig := some (MigJob.save 3 4) },
        pantry := { State.reset.pantry with
        store := [(4, { Slot2.init with
        a := {
        body := { KeyBody.empty with typ := 3, usage := 32, material := [1, 2] }, gen := 1, passes := true } })] } },
        1000000000000, 3, 4, { attic := true, inst := 0, dom := Dom.hub }, by decide +kernel⟩,
    ⟨{ State.reset with
        vim := { State.reset.vim with insts := [(3, { Inst.init with state := InstState.freezing })] } }, 100000000, 3, 4,
        by decide +kernel⟩,
    ⟨State.reset, 100000000, 9, 4, { attic := true, inst := 0, dom := Dom.hub }, by decide +kernel⟩,
    ⟨{ running with
        regs := regsOf [(F.VIM_INST_RESET_PEND_PEND 63, 1)], vim := { State.reset.vim with
        insts := [(63, { Inst.init with state := .resetting, since := 5, drained := 1 })] } }, 5, 63, 4, 0,
        by decide +kernel⟩,
    ⟨{ running with
        regs := regsOf [(F.VIM_INST_RESET_PEND_PEND 63, 3)], vim := { State.reset.vim with
        insts := [(63, { Inst.init with state := .resetting, since := 5, drained := 1 })] } }, 5, 63, 4, 0,
        by exact ⟨by decide, by decide, by decide, by decide, by decide, rfl, by decide, by decide, ⟨1, by decide, by decide, by decide +kernel⟩⟩⟩,
    ⟨{ running with
        regs := regsOf [(F.VIM_MIG_ADDR_ADDR 1, 8), (F.VIM_MIG_LEN_MIG_LEN, 112)], mem := [(0x800000000, 0x4D), (0x800000001,
        0x47), (0x800000002, 0x42), (0x800000003, 0x31), (0x800000004, 1), (0x800000018, 112)] }, 5, 63, 4, attic, ⟨0, 0, 0,
        0, 0, 0, 0, []⟩, by decide +kernel⟩,
    ⟨{ running with
        vim := { State.reset.vim with mig := some (.restore 63 ⟨0, 0, 0, 0, 0, 0, 0, []⟩) } }, 63, 4, ⟨0, 0, 0, 0, 0, 0, 0,
        []⟩, by decide +kernel⟩⟩

theorem witness_WorldsAndTamper :
    (∃ (s : State) (t : Nat) (h : Nat) (k : Nat) (r : Nat) (src : Nat) (a : Attr) (peek : Bool) (x : Viol) (xs : List Viol),
        let rgn (j : Nat) : Nat := (F.WORLD_RGN0_BASE k r).addr + 4 * j;
        let hub := a.attic = true ∧ a.inst = 0 ∧ a.dom = .hub;
        let sys := a.attic = true ∧ a.inst = 0;
        let armed := src < 5 ∧ (s.rd F.WORLD_TAMPER_ARM_ARM).testBit src = true;
        h < 8 ∧ k < 4 ∧ r < 32 ∧ s.rd (F.WORLD_HART_NEXT h) = 0 ∧ hub ∧ s.rd (F.WORLD_RGN2_LOCK k r) = 0 ∧
        (s.tick t).passes (rgn 0) a true = true ∧ (s.tick t).passes (rgn 1) a true = true ∧
        (s.tick t).passes (rgn 2) a true = true ∧ sys ∧ (s.tick t).passes F.WORLD_L2_PART_ATTIC_WAYS.addr a true = true ∧
        s.rd F.WORLD_STAT_L2_BUSY ≠ 0 ∧ (s.tick t).passes F.WORLD_CLAIM_CLAIM.addr a true = true ∧
        (s.tick t).passes (0x41200010 + if peek then 0x8000 else 0) a false = true ∧ s.world.viols = x :: xs ∧
        (s.tick t).settled 0x41200010 (xs.length + 1) ≠ 0 ∧ (s.tick t).passes F.WORLD_TAMPER_ARM_ARM.addr a true = true ∧
        src < 5 ∧ (¬ armed)) ∧
    (∃ (s : State) (t : Nat) (h : Nat) (k : Nat) (r : Nat) (w : Nat) (src : Nat) (a : Attr),
        let hub := a.attic = true ∧ a.inst = 0 ∧ a.dom = .hub;
        let sys := a.attic = true ∧ a.inst = 0;
        let armed := src < 5 ∧ (s.rd F.WORLD_TAMPER_ARM_ARM).testBit src = true;
        h < 8 ∧ k < 4 ∧ r < 32 ∧ s.rd (F.WORLD_HART_NEXT h) ≠ 0 ∧ w < 3 ∧ (¬ hub) ∧ sys ∧
        (s.tick t).passes F.WORLD_L2_PART_ATTIC_WAYS.addr a true = true ∧ s.rd F.WORLD_STAT_L2_BUSY = 0 ∧ armed ∧
        (s.pwr.state = .deepSleep ∨ s.pwr.state = .warmSleep)) ∧
    (∃ (s : State) (t : Nat) (h : Nat) (k : Nat) (r : Nat) (w : Nat) (src : Nat) (a : Attr),
        let rgn (j : Nat) : Nat := (F.WORLD_RGN0_BASE k r).addr + 4 * j;
        let hub := a.attic = true ∧ a.inst = 0 ∧ a.dom = .hub;
        let armed := src < 5 ∧ (s.rd F.WORLD_TAMPER_ARM_ARM).testBit src = true;
        h < 8 ∧ k < 4 ∧ r < 32 ∧ w < 3 ∧ hub ∧ (s.tick t).passes (rgn w) a true = true ∧ s.rd (F.WORLD_RGN2_LOCK k r) ≠ 0 ∧
        armed ∧ (s.pwr.state = .run ∨ s.pwr.state = .safe) ∧ s.pantry.op = none ∧ s.vim.mig = none ∧ s.setup.storing = none ∧
        s.setup.applying = false) :=
  ⟨⟨{ State.reset with
      regs := regsOf [(F.WORLD_STAT_L2_BUSY, 1), (F.WORLD_HART_NEXT 0, 0), (F.WORLD_TAMPER_ARM_ARM, 2)],
      world := { State.reset.world with
      viols := [{
      status := 14, attr := { attic := false, inst := 3, dom := Dom.hub }, set := 3, write := true, addr := 4466765988131 },
      {
      status := 13, attr := { attic := true, inst := 0, dom := Dom.hub }, set := 3, write := true, addr := 5 }] } },
      1000000005, 0, 2, 31, 2, { attic := true, inst := 0, dom := Dom.hub }, false, {
      status := 14, attr := { attic := false, inst := 3, dom := Dom.hub }, set := 3, write := true, addr := 4466765988131 },
      [{
      status := 13, attr := { attic := true, inst := 0, dom := Dom.hub }, set := 3, write := true, addr := 5 }],
      by decide +kernel⟩,
    ⟨{ State.reset with pwr := { State.reset.pwr with state := PowerState.warmSleep } }, 1000000, 7, 2, 31, 2, 2,
        { attic := true, inst := 0, dom := Dom.lane }, by decide +kernel⟩,
    ⟨{ State.reset with
        regs := regsOf [(F.WORLD_RGN2_LOCK 3 5, 1)], pwr := { State.reset.pwr with state := PowerState.run } },
        1000000000000, 0, 3, 5, 2, 1, { attic := true, inst := 0, dom := Dom.hub }, by decide +kernel⟩⟩

theorem witness_PantryCommands :
    (∃ (s : State) (t : Nat) (k : Nat) (aux : Nat) (a : Attr) (body : KeyBody) (kek : KeyBody),
        let may := a.attic = true ∧ a.inst = 0 ∧ a.dom = .hub ∧ (s.tick t).passes 0x41300000 a true = true;
        let x := s.slotAt k;
        let next := max x.a.gen x.b.gen + 1;
        let dest := s.rd (F.PANTRY_ADDR_ADDR 0) + 2 ^ 32 * (s.rd (F.PANTRY_ADDR_ADDR 1) % 256);
        let open_ := may ∧ s.pantry.op = none ∧ s.blocked = false ∧ next < 2 ^ 32;
        let free := s.slotLocked k = false;
        let len := 16 + (Memory.read s.mem (dest + 7)).toNat;
        let plain := if (s.tick t).reaches dest len false then unwrapBlob kek (s.load dest len) else none;
        k < 64 ∧ aux < 64 ∧ open_ ∧ free ∧ 1 ≤ s.rd F.PANTRY_ATTR_TYPE ∧ s.rd F.PANTRY_ATTR_TYPE ≤ 6 ∧
        ((s.tick t).useSlot aux).1 = some kek ∧ kek.fits kekFit = true ∧ plain = none ∧ (s.tick t).winning k = some body ∧
        body.export_ = true ∧ ((s.tick t).useSlot k).1 = some body ∧ body.typ = 4 ∧ may ∧ s.pantry.op = none) ∧
    (∃ (s : State) (t : Nat) (k : Nat) (aux : Nat) (a : Attr) (body : KeyBody),
        let may := a.attic = true ∧ a.inst = 0 ∧ a.dom = .hub ∧ (s.tick t).passes 0x41300000 a true = true;
        let x := s.slotAt k;
        let next := max x.a.gen x.b.gen + 1;
        let open_ := may ∧ s.pantry.op = none ∧ s.blocked = false ∧ next < 2 ^ 32;
        let free := s.slotLocked k = false;
        k < 64 ∧ aux < 64 ∧ open_ ∧ free ∧ (s.rd F.PANTRY_ATTR_TYPE = 0 ∨ 6 < s.rd F.PANTRY_ATTR_TYPE) ∧
        (s.tick t).winning k = some body ∧ body.export_ = false ∧ ((s.tick t).useSlot k).1 = some body ∧ body.typ ≠ 4 ∧
        body.typ ≠ 5) ∧
    (∃ (s : State) (t : Nat) (k : Nat) (aux : Nat) (addr : Nat) (a : Attr) (lost : Bool),
        let may := a.attic = true ∧ a.inst = 0 ∧ a.dom = .hub ∧ (s.tick t).passes 0x41300000 a true = true;
        k < 64 ∧ aux < 64 ∧ may ∧ s.pantry.op ≠ none ∧ s.pantry.op = some (.clear addr lost) ∧ lost = true) ∧
    (∃ (s : State) (k : Nat) (aux : Nat), k < 64 ∧ aux < 64 ∧ s.pantry.op = some .cacheFlush) ∧
    (∃ (s : State) (t : Nat) (k : Nat) (aux : Nat) (addr : Nat) (bytes : List Nat), k < 64 ∧ aux < 64 ∧
        s.pantry.op = some (.output bytes addr) ∧ (s.tick t).reaches addr bytes.length true = true) ∧
    (∃ (s : State) (t : Nat) (k : Nat) (aux : Nat) (at_ : Nat) (g : Nat) (toB : Bool) (erase : Bool) (body : KeyBody),
        k < 64 ∧ aux < 64 ∧ s.pantry.op = some (.commit k toB body g at_ erase) ∧ t < at_) ∧
    (∃ (s : State) (t : Nat) (k : Nat) (aux : Nat) (at_ : Nat) (g : Nat) (toB : Bool) (erase : Bool) (body : KeyBody),
        k < 64 ∧ aux < 64 ∧ s.pantry.op = some (.commit k toB body g at_ erase) ∧ at_ ≤ t) ∧
    (∃ (s : State) (t : Nat) (k : Nat) (aux : Nat) (a : Attr),
        let may := a.attic = true ∧ a.inst = 0 ∧ a.dom = .hub ∧ (s.tick t).passes 0x41300000 a true = true;
        k < 64 ∧ aux < 64 ∧ may ∧ s.pantry.op = none ∧ s.blocked = true) ∧
    (∃ (s : State) (t : Nat) (k : Nat) (aux : Nat) (addr : Nat) (bytes : List Nat), k < 64 ∧ aux < 64 ∧
        s.pantry.op = some (.output bytes addr) ∧ (s.tick t).reaches addr bytes.length true = false) ∧
    (∃ (s : State) (t : Nat) (k : Nat) (aux : Nat) (a : Attr),
        let may := a.attic = true ∧ a.inst = 0 ∧ a.dom = .hub ∧ (s.tick t).passes 0x41300000 a true = true;
        let x := s.slotAt k;
        let next := max x.a.gen x.b.gen + 1;
        let open_ := may ∧ s.pantry.op = none ∧ s.blocked = false ∧ next < 2 ^ 32;
        k < 64 ∧ aux < 64 ∧ open_ ∧ s.slotLocked k = true) ∧
    (∃ (s : State) (t : Nat) (k : Nat) (aux : Nat) (a : Attr),
        let may := a.attic = true ∧ a.inst = 0 ∧ a.dom = .hub ∧ (s.tick t).passes 0x41300000 a true = true;
        let x := s.slotAt k;
        let next := max x.a.gen x.b.gen + 1;
        let open_ := may ∧ s.pantry.op = none ∧ s.blocked = false ∧ next < 2 ^ 32;
        k < 64 ∧ aux < 64 ∧ open_ ∧ (s.tick t).winning k = none) ∧
    (∃ (s : State) (k : Nat) (aux : Nat), k < 64 ∧ aux < 64 ∧ s.pantry.op = some .cacheFlush) ∧
    (∃ (s : State) (k : Nat) (aux : Nat) (addr : Nat) (lost : Bool), k < 64 ∧ aux < 64 ∧
        s.pantry.op = some (.clear addr lost)) :=
  ⟨⟨{ State.reset with
      regs := regsOf [(F.PANTRY_ATTR_TYPE, 1)], pantry := { State.reset.pantry with
      store := [(5, { Slot2.init with
      b := {
      body := { KeyBody.empty with
      typ := 2, usage := 255, export_ := true, lock := true, material := (List.replicate 64 170) }, gen := 1099511627776,
      passes := true } }), (6, { Slot2.init with
      b := {
      body := { KeyBody.empty with typ := 4, usage := 4, export_ := true, material := (List.replicate 64 217) },
      gen := 4294967294, passes := true } })] } }, 1000000000000, 6, 5, { attic := true, inst := 0, dom := Dom.hub },
      { KeyBody.empty with typ := 4, usage := 4, export_ := true, material := (List.replicate 64 217) }, { KeyBody.empty with
      typ := 2, usage := 255, export_ := true, lock := true, material := (List.replicate 64 170) }, by decide +kernel⟩,
    ⟨State.reset, 1000000000000, 0, 9, { attic := true, inst := 0, dom := Dom.hub }, KeyBody.empty, by decide +kernel⟩,
    ⟨{ State.reset with pantry := { State.reset.pantry with op := some (PantryOp.clear 9 true) } }, 2000, 5, 5, 9,
        { attic := true, inst := 0, dom := Dom.hub }, true, by decide +kernel⟩,
    ⟨{ State.reset with pantry := { State.reset.pantry with op := some (PantryOp.cacheFlush) } }, 63, 9, by decide +kernel⟩,
    ⟨{ State.reset with
        pantry := { State.reset.pantry with op := some (PantryOp.output [1, 2, 0, 255] 5) } }, 1000000000000, 0, 9, 5, [1, 2,
        0, 255], by decide +kernel⟩,
    ⟨{ State.reset with
        pantry := { State.reset.pantry with
        op := some (PantryOp.commit 6 false { KeyBody.empty with
        typ := 6, usage := 255, export_ := true, material := (List.replicate 64 155) } 9 1000000000 false) } }, 2000, 6, 6,
        1000000000, 9, false, false, { KeyBody.empty with
        typ := 6, usage := 255, export_ := true, material := (List.replicate 64 155) }, by decide +kernel⟩,
    ⟨{ State.reset with
        pantry := { State.reset.pantry with
        op := some (PantryOp.commit 5 true { KeyBody.empty with typ := 2, material := (List.replicate 64 33) } 9 0 true) } },
        1000000, 5, 9, 0, 9, true, true, { KeyBody.empty with typ := 2, material := (List.replicate 64 33) },
        by decide +kernel⟩,
    ⟨{ State.reset with regs := regsOf [(F.WORLD_STAT_ROOT, 2)] }, 1000000000000, 5, 6,
        { attic := true, inst := 0, dom := Dom.hub }, by decide +kernel⟩,
    ⟨{ State.reset with
        regs := regsOf [(F.WORLD_RGN1_LIMIT 1 0, 16777215), (F.WORLD_RGN2_EN 1 0, 1)],
        pantry := { State.reset.pantry with op := some (PantryOp.output [1, 2, 0, 255] 34359738368) } }, 2000, 6, 5,
        34359738368, [1, 2, 0, 255], by decide +kernel⟩,
    ⟨{ State.reset with
        pantry := { State.reset.pantry with
        store := [(5, { Slot2.init with
        b := {
        body := { KeyBody.empty with usage := 4, lock := true, material := (List.replicate 64 98) }, gen := 2,
        passes := true } })] } }, 2000, 5, 9, { attic := true, inst := 0, dom := Dom.hub }, by decide +kernel⟩,
    ⟨{ running with
        pantry := { State.reset.pantry with store := [(63, { Slot2.init with a := ⟨KeyBody.empty, 0, false⟩ })] } }, 5, 63,
        0, attic, by decide +kernel⟩,
    ⟨{ running with pantry := { State.reset.pantry with op := some .cacheFlush } }, 63, 0, by decide +kernel⟩,
    ⟨{ running with pantry := { State.reset.pantry with op := some (.clear 9 false) } }, 0, 0, 9, false, by decide +kernel⟩⟩
def wrapKey : KeyBody := { KeyBody.empty with typ := 2, usage := 255, material := List.replicate 64 170 }
def wrapped : State :=
  { running with
    regs := regsOf [(F.PANTRY_ADDR_ADDR 1, 8)]
    mem := [(0x800000000, 0x50), (0x800000001, 0x57), (0x800000002, 0x42), (0x800000003, 0x31), (0x800000004, 1),
        (0x800000007, 32)]
    pantry := { State.reset.pantry with store := [(5, { Slot2.init with b := ⟨wrapKey, 3, true⟩ })] } }
theorem witness_PantryCommands_opaque
    (h : ∀ k l, Config.keyedBytes 2 k l = [1, 0, 0, 16, 0, 0, 0, 0] ++ List.replicate 16 7) :
    ∃ (s : State) (t : Nat) (k : Nat) (aux : Nat) (a : Attr) (body : KeyBody) (kek : KeyBody),
        let may := a.attic = true ∧ a.inst = 0 ∧ a.dom = .hub ∧ (s.tick t).passes 0x41300000 a true = true;
        let x := s.slotAt k;
        let next := max x.a.gen x.b.gen + 1;
        let dest := s.rd (F.PANTRY_ADDR_ADDR 0) + 2 ^ 32 * (s.rd (F.PANTRY_ADDR_ADDR 1) % 256);
        let open_ := may ∧ s.pantry.op = none ∧ s.blocked = false ∧ next < 2 ^ 32;
        let free := s.slotLocked k = false;
        let len := 16 + (Memory.read s.mem (dest + 7)).toNat;
        let plain := if (s.tick t).reaches dest len false then unwrapBlob kek (s.load dest len) else none;
        k < 64 ∧ aux < 64 ∧ open_ ∧ free ∧ ((s.tick t).useSlot aux).1 = some kek ∧ kek.fits kekFit = true ∧
        plain = some body := by
  refine ⟨wrapped, 5, 6, 5, attic, ⟨1, 0, false, false, false, List.replicate 16 7⟩, wrapKey, ?_⟩
  have b : unwrapBlob wrapKey (wrapped.load 0x800000000 48) = some ⟨1, 0, false, false, false, List.replicate 16 7⟩ := by
    unfold unwrapBlob; rw [if_neg (by decide +kernel)]; dsimp only; rw [h]; decide +kernel
  refine ⟨by decide, by decide, by decide +kernel, by decide +kernel, by decide +kernel, by decide +kernel, ?_⟩
  show (if (wrapped.tick 5).reaches 0x800000000 48 false then unwrapBlob wrapKey (wrapped.load 0x800000000 48) else none) = _
  rw [if_pos (by decide +kernel), b]

theorem witness_SupplyThresholds :
    (∃ (s : State) (t : Nat) (v : Nat) (x : Nat) (feed : Nat) (gate : Nat) (idle : Bool) (a : Attr),
        let stopped (e0 : Nat) : Prop := ∀ e, e0 ≤ e → e < e0 + 4 → (s.eng e).state = .stopped;
        let blockIdle : Prop := (gate < 8 → idle = true) ∧ (gate = 16 → idle = true) ∧ (9 ≤ gate → gate ≤ 12 →
          stopped (4 * (gate - 9))) ∧ (gate = 8 → ∀ p, p < 4 → s.rd (F.HALL_MSEC_CFG_EN p) = 0) ∧ (gate = 13 →
          s.pantry.op = none) ∧ (gate = 14 → ∀ g, g < 2 → s.rd (F.UIO_SEG_CFG_SEG_EN g) = 0) ∧ (gate = 15 → ∀ c, c < 12 →
          (s.ctl c).state = .config);
        let claimed := (s.rd F.WORLD_CLAIM_CLAIM).testBit gate = true;
        let last := ((s.tick t).clk.olds.find? F.PWRMGR_GATE_RES_GATE.addr).getD 0 ≤ gate % 32;
        feed < 2 ∧ s.pwr.state ≠ .off ∧ 1400 ≤ v ∧ (s.pwr.pfOpen = none ∨ s.pwr.pfOpen = some x ∧ t < x + 100000000) ∧
        s.pwr.below9 = false ∧ s.pwr.state ≠ .powerFail ∧ s.pwr.pfInEntry = false ∧ s.pwr.hubUp = true ∧
        s.hearth.fitted = true ∧ s.pwr.scrubAt + 600000000000 ≤ t ∧ s.pantry.op = none ∧ s.setup.storing = none ∧
        s.pwr.state ≠ .warmSleep ∧ v < 1800 ∧ s.rd F.PWRMGR_STAT_UNDERVOLT = 0 ∧ v ≤ 16000 ∧
        (s.tick t).passes 0x40020030 a true = true ∧ last ∧ gate < 17 ∧ (claimed → a.attic = true) ∧ blockIdle) ∧
    (∃ (s : State) (t : Nat) (v : Nat) (feed : Nat) (gate : Nat) (a : Attr),
        let last := ((s.tick t).clk.olds.find? F.PWRMGR_GATE_RES_GATE.addr).getD 0 ≤ gate % 32;
        feed < 2 ∧ s.pwr.state ≠ .off ∧ s.pwr.below9 = true ∧ t < s.pwr.scrubAt + 600000000000 ∧ s.pwr.hubUp = true ∧
        1850 ≤ v ∧ 16200 < v ∧ s.rd F.PWRMGR_STAT_OVERVOLT = 0 ∧ (s.tick t).passes 0x40020030 a true = true ∧ last ∧
        17 ≤ gate) ∧
    (∃ (s : State) (t : Nat) (v : Nat) (feed : Nat) (gate : Nat) (idle : Bool) (a : Attr),
        let stopped (e0 : Nat) : Prop := ∀ e, e0 ≤ e → e < e0 + 4 → (s.eng e).state = .stopped;
        let blockIdle : Prop := (gate < 8 → idle = true) ∧ (gate = 16 → idle = true) ∧ (9 ≤ gate → gate ≤ 12 →
          stopped (4 * (gate - 9))) ∧ (gate = 8 → ∀ p, p < 4 → s.rd (F.HALL_MSEC_CFG_EN p) = 0) ∧ (gate = 13 →
          s.pantry.op = none) ∧ (gate = 14 → ∀ g, g < 2 → s.rd (F.UIO_SEG_CFG_SEG_EN g) = 0) ∧ (gate = 15 → ∀ c, c < 12 →
          (s.ctl c).state = .config);
        let claimed := (s.rd F.WORLD_CLAIM_CLAIM).testBit gate = true;
        let last := ((s.tick t).clk.olds.find? F.PWRMGR_GATE_RES_GATE.addr).getD 0 ≤ gate % 32;
        feed < 2 ∧ s.pwr.state ≠ .off ∧ v < 1400 ∧ s.pwr.below9 = false ∧ s.pwr.state = .powerFail ∧ s.pwr.hubUp = true ∧
        (s.tick t).passes 0x40020030 a true = true ∧ last ∧ gate < 17 ∧ (claimed → a.attic = true) ∧ (¬ blockIdle)) ∧
    (∃ (s : State) (v : Nat) (feed : Nat), feed < 2 ∧ s.pwr.hubUp = true ∧ v < 1850 ∧
        (1800 ≤ v ∨ s.rd F.PWRMGR_STAT_UNDERVOLT = 1)) ∧
    (∃ (s : State) (t : Nat) (v : Nat) (x : Nat) (feed : Nat), feed < 2 ∧ s.pwr.state ≠ .off ∧ 1400 ≤ v ∧
        s.pwr.pfOpen = some x ∧ x + 100000000 ≤ t) ∧
    (∃ (s : State) (feed : Nat), feed < 2 ∧ s.pwr.state = .warmSleep) :=
  ⟨⟨{ State.reset with
      pwr := { State.reset.pwr with state := PowerState.run, below9 := false, hubUp := true },
      hearth := { State.reset.hearth with fitted := true } }, 700000000000, 1400, 5, 0, 13, true,
      { attic := true, inst := 0, dom := Dom.hub }, by decide +kernel⟩,
    ⟨{ State.reset with pwr := { State.reset.pwr with state := PowerState.run, hubUp := true } }, 4, 16201, 1, 17,
        { attic := true, inst := 0, dom := Dom.hub }, by decide +kernel⟩,
    ⟨{ State.reset with
        pwr := { State.reset.pwr with state := PowerState.powerFail, below9 := false, hubUp := true } }, 3000000, 900, 0, 0,
        false, { attic := true, inst := 0, dom := Dom.hub }, by decide +kernel⟩,
    ⟨{ State.reset with pwr := { State.reset.pwr with hubUp := true } }, 1800, 1, by decide +kernel⟩,
    ⟨{ State.reset with pwr := { State.reset.pwr with state := PowerState.run, pfOpen := some 5 } }, 700000000000, 1400, 5,
        1, by decide +kernel⟩,
    ⟨{ State.reset with pwr := { State.reset.pwr with state := PowerState.warmSleep } }, 1, by decide +kernel⟩⟩

theorem witness_StartUpAndPowerFail :
    (∃ (s : State), let p := s.pwr; p.state = .off) ∧
    (∃ (s : State), let p := s.pwr; p.state = .deepSleep ∧ p.afterPf = true) ∧
    (∃ (s : State), let p := s.pwr; p.state = .powerFail) ∧
    (∃ (s : State) (t : Nat),
        let p := s.pwr;
        let stage (j : Nat) : Prop := p.state = .startup ∧ j ∈ p.stagesBegun ∧ j ∉ p.stagesDone;
        stage 1 ∧ t < p.startAt + 3000000) ∧
    (∃ (s : State) (t : Nat),
        let p := s.pwr;
        let stage (j : Nat) : Prop := p.state = .startup ∧ j ∈ p.stagesBegun ∧ j ∉ p.stagesDone;
        stage 1 ∧ p.startAt + 3000000 ≤ t) ∧
    (∃ (s : State) (fwA : FwCopy) (fwB : FwCopy),
        let p := s.pwr;
        let stage (j : Nat) : Prop := p.state = .startup ∧ j ∈ p.stagesBegun ∧ j ∉ p.stagesDone;
        let boots (c : FwCopy) : Prop := (∃ j, j ∈ c.pins ∧ j < 2 ∧ s.efuse.revoked.testBit j = false) ∧
          s.efuse.minVersion ≤ c.version;
        stage 2 ∧ (boots fwA ∨ boots fwB)) ∧
    (∃ (s : State) (fwA : FwCopy) (fwB : FwCopy),
        let p := s.pwr;
        let stage (j : Nat) : Prop := p.state = .startup ∧ j ∈ p.stagesBegun ∧ j ∉ p.stagesDone;
        let boots (c : FwCopy) : Prop := (∃ j, j ∈ c.pins ∧ j < 2 ∧ s.efuse.revoked.testBit j = false) ∧
          s.efuse.minVersion ≤ c.version;
        stage 2 ∧ (¬ boots fwA) ∧ (¬ boots fwB)) ∧
    (∃ (s : State),
        let p := s.pwr;
        let stage (j : Nat) : Prop := p.state = .startup ∧ j ∈ p.stagesBegun ∧ j ∉ p.stagesDone;
        stage 3) ∧
    (∃ (s : State),
        let p := s.pwr;
        let stage (j : Nat) : Prop := p.state = .startup ∧ j ∈ p.stagesBegun ∧ j ∉ p.stagesDone;
        stage 4) ∧
    (∃ (s : State),
        let p := s.pwr;
        let stage (j : Nat) : Prop := p.state = .startup ∧ j ∈ p.stagesBegun ∧ j ∉ p.stagesDone;
        stage 5) ∧
    (∃ (s : State),
        let p := s.pwr;
        let stage (j : Nat) : Prop := p.state = .startup ∧ j ∈ p.stagesBegun ∧ j ∉ p.stagesDone;
        stage 6) ∧
    (∃ (s : State) (v : Nat),
        let p := s.pwr;
        let stage (j : Nat) : Prop := p.state = .startup ∧ j ∈ p.stagesBegun ∧ j ∉ p.stagesDone;
        stage 7 ∧ s.holdTest v = true) ∧
    (∃ (s : State) (t : Nat),
        let p := s.pwr;
        let stage (j : Nat) : Prop := p.state = .startup ∧ j ∈ p.stagesBegun ∧ j ∉ p.stagesDone;
        stage 7 ∧ (s.rd F.HEARTH_STAT_AUTH = 0 ∨ s.rd F.HEARTH_STAT_AUTH = 3) ∧ p.s7Start + 60000000000 ≤ t) ∧
    (∃ (s : State) (t : Nat) (v : Nat),
        let p := s.pwr;
        let stage (j : Nat) : Prop := p.state = .startup ∧ j ∈ p.stagesBegun ∧ j ∉ p.stagesDone;
        stage 7 ∧ (s.rd F.HEARTH_STAT_AUTH = 1 ∨ s.rd F.HEARTH_STAT_AUTH = 2) ∧ s.holdTest v = false ∧
        t < p.s7Start + 60000000000) ∧
    (∃ (s : State) (t : Nat), let p := s.pwr; p.state = .halted ∧ p.haltedAt + 10000000000 ≤ t) ∧
    (∃ (s : State) (t : Nat), let p := s.pwr; p.state = .halted ∧ t < p.haltedAt + 10000000000) ∧
    (∃ (s : State) (t : Nat) (t0 : Nat), let p := s.pwr; p.pfOpen = some t0 ∧ t < t0 + 100000000) ∧
    (∃ (s : State) (t : Nat) (t0 : Nat), let p := s.pwr; p.pfOpen = some t0 ∧ t0 + 100000000 ≤ t) ∧
    (∃ (s : State) (t : Nat) (q : PfSeq),
        let p := s.pwr;
        let conf (n : Nat) : Prop := if s.rd (F.CH_PROFILE_SAFE_ON n) ≠ 0 then (s.chan n).state = .on ∨ p.below9 = true ∨ n ∉ q.atDecl else ((s.chan n).state ≠ .starting ∧
          (s.chan n).state ≠ .on) ∨ p.below9 = true;
        let vital (n : Nat) : Prop := n < 48 ∧ s.rd (F.CH_PROFILE_CH_MODE n) ≠ 0;
        let mounted := s.rd F.REC_STAT_MOUNTED ≠ 0;
        let inStep (j : Nat) : Prop := p.seq = some q ∧ q.step = j;
        inStep 1 ∧ mounted ∧ (∀ n, vital n → conf n) ∧ q.stepStart + 1000000 ≤ t) ∧
    (∃ (s : State) (t : Nat) (q : PfSeq),
        let p := s.pwr;
        let conf (n : Nat) : Prop := if s.rd (F.CH_PROFILE_SAFE_ON n) ≠ 0 then (s.chan n).state = .on ∨ p.below9 = true ∨ n ∉ q.atDecl else ((s.chan n).state ≠ .starting ∧
          (s.chan n).state ≠ .on) ∨ p.below9 = true;
        let vital (n : Nat) : Prop := n < 48 ∧ s.rd (F.CH_PROFILE_CH_MODE n) ≠ 0;
        let mounted := s.rd F.REC_STAT_MOUNTED ≠ 0;
        let inStep (j : Nat) : Prop := p.seq = some q ∧ q.step = j;
        inStep 1 ∧ mounted ∧ (∃ n, vital n ∧ ¬ conf n) ∧ t < q.stepStart + 1000000) ∧
    (∃ (s : State) (t : Nat) (q : PfSeq),
        let p := s.pwr;
        let inStep (j : Nat) : Prop := p.seq = some q ∧ q.step = j;
        let pastCommit : Prop := ∃ m toB b g at_ er, s.pantry.op = some (.commit m toB b g at_ er) ∧ at_ ≤ t;
        inStep 2 ∧ 4 ∈ p.stagesBegun ∧ pastCommit ∧ s.log.flushing = none ∧
        q.stepStart + (2000000 + 25000 * q.dirtyKb) ≤ t) ∧
    (∃ (s : State) (k : Nat) (q : PfSeq),
        let p := s.pwr;
        let notify (j : Nat) : Prop := j < 64 ∧ s.rd (F.VIM_INST_CFG_VALID j) ≠ 0 ∧ s.rd (F.VIM_INST_CFG_WORLD j) = 0 ∧
          s.rdMask F.PWRMGR_PF_NOTIFY_NOTIFY j = true;
        let inStep (j : Nat) : Prop := p.seq = some q ∧ q.step = j;
        inStep 3 ∧ s.pantry.op = none ∧ p.parlourOut = true ∧ s.rd F.PWRMGR_PF_CFG_GRACE_MS ≠ 0 ∧ notify k) ∧
    (∃ (s : State) (q : PfSeq),
        let p := s.pwr;
        let notify (j : Nat) : Prop := j < 64 ∧ s.rd (F.VIM_INST_CFG_VALID j) ≠ 0 ∧ s.rd (F.VIM_INST_CFG_WORLD j) = 0 ∧
          s.rdMask F.PWRMGR_PF_NOTIFY_NOTIFY j = true;
        let inStep (j : Nat) : Prop := p.seq = some q ∧ q.step = j;
        inStep 3 ∧ s.pantry.op = none ∧ (p.parlourOut = false ∨ s.rd F.PWRMGR_PF_CFG_GRACE_MS = 0 ∨ ∀ j, ¬ notify j)) ∧
    (∃ (s : State) (t : Nat) (q : PfSeq),
        let p := s.pwr;
        let inStep (j : Nat) : Prop := p.seq = some q ∧ q.step = j;
        inStep 4 ∧ q.await = [] ∧ q.stepStart + 1000000 * s.rd F.PWRMGR_PF_CFG_GRACE_MS ≤ t) ∧
    (∃ (s : State) (t : Nat) (i : Nat) (a : Attr) (w : Word) (q : PfSeq),
        let p := s.pwr;
        let inStep (j : Nat) : Prop := p.seq = some q ∧ q.step = j;
        inStep 4 ∧ t < q.stepStart + 1000000 * s.rd F.PWRMGR_PF_CFG_GRACE_MS ∧ a.inst < 64 ∧
        (s.tick t).passes 0x4002001C a true = true ∧ w.toNat.testBit 31 = true ∧ a.inst ∈ q.await ∧ i ∈ q.await ∧
        i ≠ a.inst) ∧
    (∃ (s : State) (t : Nat) (a : Attr) (w : Word) (q : PfSeq),
        let p := s.pwr;
        let inStep (j : Nat) : Prop := p.seq = some q ∧ q.step = j;
        inStep 4 ∧ a.inst < 64 ∧ (s.tick t).passes 0x4002001C a true = true ∧ w.toNat.testBit 31 = true ∧ a.inst ∈ q.await ∧
        (∀ j, j ∈ q.await → j = a.inst)) ∧
    (∃ (s : State) (t : Nat) (step : Nat) (a : Attr) (q : PfSeq),
        let p := s.pwr;
        let inStep (j : Nat) : Prop := p.seq = some q ∧ q.step = j;
        inStep step ∧ step ≠ 4 ∧ a.inst < 64 ∧ (s.tick t).passes 0x4002001C a true = true ∧ p.state = .powerFail) :=
  ⟨⟨State.reset, by decide +kernel⟩,
    ⟨{ State.reset with pwr := { State.reset.pwr with state := .deepSleep, afterPf := true } }, by decide +kernel⟩,
    ⟨{ State.reset with pwr := { State.reset.pwr with state := .powerFail } }, by decide +kernel⟩,
    ⟨starting 1, 2999999, by decide +kernel⟩,
    ⟨starting 1, 3000000, by decide +kernel⟩,
    ⟨starting 2, ⟨[2], 0⟩, ⟨[1], 0⟩,
        by exact ⟨by decide +kernel, .inr ⟨⟨1, by decide, by decide, by decide +kernel⟩, by decide +kernel⟩⟩⟩,
    ⟨{ starting 2 with efuse := { State.reset.efuse with revoked := 1 } }, ⟨[2], 0⟩, ⟨[0], 0⟩,
        by refine ⟨by decide +kernel, ?_, ?_⟩ <;> (rintro ⟨⟨j, h, g, r⟩, -⟩; simp at h; subst h; revert g r; decide +kernel)⟩,
    ⟨starting 3, by decide +kernel⟩,
    ⟨starting 4, by decide +kernel⟩,
    ⟨starting 5, by decide +kernel⟩,
    ⟨starting 6, by decide +kernel⟩,
    ⟨{ starting 7 with regs := regsOf [(F.HEARTH_STAT_AUTH, 2)] }, 0, by decide +kernel⟩,
    ⟨starting 7, 60000000005, by decide +kernel⟩,
    ⟨{ starting 7 with regs := regsOf [(F.HEARTH_STAT_AUTH, 1)] }, 60000000004, 0, by decide +kernel⟩,
    ⟨{ State.reset with pwr := { State.reset.pwr with state := .halted, haltedAt := 5 } }, 10000000005, by decide +kernel⟩,
    ⟨{ State.reset with pwr := { State.reset.pwr with state := .halted, haltedAt := 5 } }, 10000000004, by decide +kernel⟩,
    ⟨{ running with pwr := { running.pwr with pfOpen := some 5 } }, 100000004, 5, by decide +kernel⟩,
    ⟨{ running with pwr := { running.pwr with pfOpen := some 5 } }, 100000005, 5, by decide +kernel⟩,
    ⟨{ failing 1 [] with regs := regsOf [(F.REC_STAT_MOUNTED, 1)] }, 1000005, ⟨1, 5, 16, none, [], []⟩,
        by (repeat' refine And.intro ?_ ?_) <;> first | decide +kernel | exact below48 (by decide +kernel)⟩,
    ⟨{ failing 1 [] with
        regs := regsOf [(F.CH_PROFILE_CH_MODE 47, 1), (F.REC_STAT_MOUNTED, 1)],
        fuse := { State.reset.fuse with chans := [(47, { Channel.init with state := .on })] } }, 1000004, ⟨1, 5, 16, none,
        [], []⟩, by (repeat' refine And.intro ?_ ?_) <;> first | decide +kernel | exact ⟨47, by decide +kernel⟩⟩,
    ⟨{ failing 2 [] with
        regs := regsOf [(F.REC_STAT_MOUNTED, 1)],
        pantry := { State.reset.pantry with op := some (.commit 5 true KeyBody.empty 1 4 false) } }, 2400005, ⟨2, 5, 16,
        none, [], []⟩,
        by (repeat' refine And.intro ?_ ?_) <;> first | decide +kernel | exact ⟨5, true, KeyBody.empty, 1, 4, false, rfl, by decide⟩⟩,
    ⟨{ failing 3 [] with
        regs := regsOf [(F.VIM_INST_CFG_VALID 63, 1), (F.PWRMGR_PF_CFG_GRACE_MS, 1), (F.PWRMGR_PF_NOTIFY_NOTIFY 1,
        0x80000000)] }, 63, ⟨3, 5, 16, none, [], []⟩, by decide +kernel⟩,
    ⟨{ failing 3 [] with regs := regsOf [(F.REC_STAT_MOUNTED, 1)] }, ⟨3, 5, 16, none, [], []⟩,
        by exact ⟨by decide +kernel, rfl, .inr (.inl (by decide +kernel))⟩⟩,
    ⟨{ failing 4 [] with regs := regsOf [(F.PWRMGR_PF_CFG_GRACE_MS, 1)] }, 1000005, ⟨4, 5, 16, none, [], []⟩,
        by decide +kernel⟩,
    ⟨{ failing 4 [0, 63] with regs := regsOf [(F.PWRMGR_PF_CFG_GRACE_MS, 1)] }, 1000004, 0, ⟨true, 63, .hub⟩, 0x80000000#32,
        ⟨4, 5, 16, none, [], [0, 63]⟩, by decide +kernel⟩,
    ⟨{ failing 4 [63] with regs := regsOf [(F.REC_STAT_MOUNTED, 1)] }, 0, ⟨true, 63, .hub⟩, 0x80000000#32, ⟨4, 5, 16, none,
        [], [63]⟩, by decide +kernel⟩,
    ⟨{ failing 3 [] with regs := regsOf [(F.REC_STAT_MOUNTED, 1)] }, 0, 3, ⟨true, 63, .hub⟩, ⟨3, 5, 16, none, [], []⟩,
        by decide +kernel⟩⟩

theorem witness_HearthAndMargins :
    (∃ (s : State) (t : Nat) (t0 : Nat) (vBus : Nat) (vHold : Nat) (dHub : Nat) (f : Nat) (g : Nat) (d : Nat) (a : Attr),
        let h := s.hearth;
        let pf : Prop := s.pwr.state = .powerFail ∨ s.pwr.pfInEntry = true;
        let may : Prop := s.pwr.hubUp = true ∧ h.fitted = true ∧ h.testAt = none ∧ ¬ pf ∧ 15500 ≤ vHold ∧ 1800 ≤ vBus;
        let cmd (x : Nat) : Prop := a.attic = true ∧ a.inst = 0 ∧ (s.tick t).passes x a true = true;
        let active := s.pwr.state = .run ∨ s.pwr.state = .safe;
        let acc := if active then h.acc + (t - h.accAt) else h.acc;
        let p := if acc < 3600000000000 then 460 else min h.peak 65535;
        let cm := if s.rd F.HEARTH_STAT_AUTH = 2 then s.rd F.HEARTH_MEAS_C_MEAS else 0;
        let bud := cm * (h.vFull * h.vFull - 36000000) * (3600000 - p * s.rd F.HEARTH_MEAS_ESR_MEAS);
        let fix := p * 10301 * 9000000000;
        let kb := p * 22500000000;
        let gr := p * 900000000000;
        let G := s.rd F.MARGIN_REQ_GRACE_REQ;
        let D := s.rd F.MARGIN_REQ_DIRTY_REQ;
        let result : Prop := (fix + kb * D + gr * G ≤ bud → g = G ∧ d = D) ∧ (bud < fix + kb * D + gr * G →
          fix + kb * D ≤ bud → g = (bud - fix - kb * D) / gr ∧ d = D) ∧ (bud < fix + kb * D → fix + kb * 16 ≤ bud → g = 0 ∧
          d = max 16 ((bud - fix) / kb)) ∧ (bud < fix + kb * D → bud < fix + kb * 16 → g = 0 ∧ d = 16);
        let e := fix + kb * d + gr * g;
        let enough (e vh : Nat) : Prop := s.rd F.HEARTH_STAT_AUTH = 2 ∧
          5 * e ≤ 18000000 * (s.rd F.HEARTH_MEAS_C_MEAS * (vh * vh - 36000000));
        let fits (f : Nat) : Prop := (dHub + 40) * (100 * f) ≤ 1000000;
        h.fitted = true ∧ cmd 0x40030004 ∧ s.rd F.REC_STAT_MOUNTED ≠ 0 ∧ s.log.flushing = none ∧ s.pwr.seq = none ∧ (¬ may) ∧
        (h.firstTest = false ∨ ¬ may) ∧ h.testAt = some t0 ∧ t0 + 200000000 ≤ t ∧ cmd 0x40040004 ∧ result ∧ (¬ pf) ∧ active ∧
        s.rd F.PWRMGR_STAT_HOLDUP_READY = 0 ∧ enough h.ePlan vHold ∧ s.pwr.hubUp = true ∧ 12 ≤ f ∧ f ≤ 16 ∧
        (fits f ∨ f = 12) ∧ (f = 16 ∨ ¬ fits (f + 1)) ∧ s.rd F.HEARTH_STAT_AUTH = 2 ∧ 7 ∈ s.pwr.stagesDone) ∧
    (∃ (s : State) (t : Nat) (vBus : Nat) (vHold : Nat) (g : Nat) (d : Nat) (a : Attr) (c : CartId),
        let h := s.hearth;
        let pf : Prop := s.pwr.state = .powerFail ∨ s.pwr.pfInEntry = true;
        let may : Prop := s.pwr.hubUp = true ∧ h.fitted = true ∧ h.testAt = none ∧ ¬ pf ∧ 15500 ≤ vHold ∧ 1800 ≤ vBus;
        let cmd (x : Nat) : Prop := a.attic = true ∧ a.inst = 0 ∧ (s.tick t).passes x a true = true;
        let active := s.pwr.state = .run ∨ s.pwr.state = .safe;
        let acc := if active then h.acc + (t - h.accAt) else h.acc;
        let p := if acc < 3600000000000 then 460 else min h.peak 65535;
        let fix := p * 10301 * 9000000000;
        let kb := p * 22500000000;
        let gr := p * 900000000000;
        let e := fix + kb * d + gr * g;
        let enough (e vh : Nat) : Prop := s.rd F.HEARTH_STAT_AUTH = 2 ∧
          5 * e ≤ 18000000 * (s.rd F.HEARTH_MEAS_C_MEAS * (vh * vh - 36000000));
        s.rd F.HEARTH_STAT_AUTH = 1 ∧ c.ok = true ∧ cmd 0x40030004 ∧ may ∧ h.firstTest = true ∧ h.testPlan = false ∧
        s.pwr.hubUp = true ∧ (¬ pf) ∧ 86400000000000 ≤ acc ∧ active ∧ s.rd F.PWRMGR_STAT_HOLDUP_READY = 0 ∧
        (¬ enough h.ePlan vHold)) ∧
    (∃ (s : State) (t : Nat) (vBus : Nat) (vHold : Nat) (g : Nat) (d : Nat),
        let h := s.hearth;
        let pf : Prop := s.pwr.state = .powerFail ∨ s.pwr.pfInEntry = true;
        let may : Prop := s.pwr.hubUp = true ∧ h.fitted = true ∧ h.testAt = none ∧ ¬ pf ∧ 15500 ≤ vHold ∧ 1800 ≤ vBus;
        let active := s.pwr.state = .run ∨ s.pwr.state = .safe;
        let acc := if active then h.acc + (t - h.accAt) else h.acc;
        let p := if acc < 3600000000000 then 460 else min h.peak 65535;
        let cm := if s.rd F.HEARTH_STAT_AUTH = 2 then s.rd F.HEARTH_MEAS_C_MEAS else 0;
        let bud := cm * (h.vFull * h.vFull - 36000000) * (3600000 - p * s.rd F.HEARTH_MEAS_ESR_MEAS);
        let fix := p * 10301 * 9000000000;
        let kb := p * 22500000000;
        let gr := p * 900000000000;
        let G := s.rd F.MARGIN_REQ_GRACE_REQ;
        let D := s.rd F.MARGIN_REQ_DIRTY_REQ;
        let result : Prop := (fix + kb * D + gr * G ≤ bud → g = G ∧ d = D) ∧ (bud < fix + kb * D + gr * G →
          fix + kb * D ≤ bud → g = (bud - fix - kb * D) / gr ∧ d = D) ∧ (bud < fix + kb * D → fix + kb * 16 ≤ bud → g = 0 ∧
          d = max 16 ((bud - fix) / kb)) ∧ (bud < fix + kb * D → bud < fix + kb * 16 → g = 0 ∧ d = 16);
        h.fitted = false ∧ h.testPlan = false ∧ s.pwr.hubUp = true ∧ (¬ pf) ∧ 86400000000000 ≤ acc ∧ (¬ may) ∧ result) ∧
    (∃ (s : State) (t : Nat) (t0 : Nat) (c : CartId),
        let h := s.hearth;
        s.rd F.HEARTH_STAT_AUTH = 1 ∧ c.ok = false ∧ h.testAt = some t0 ∧ t < t0 + 200000000) :=
  ⟨⟨{ State.reset with
      regs := regsOf [(F.HEARTH_STAT_AUTH, 2), (F.MARGIN_REQ_DIRTY_REQ, 512), (F.MARGIN_REQ_GRACE_REQ, 5000),
      (F.REC_STAT_MOUNTED, 1)], pwr := { State.reset.pwr with state := PowerState.run, stagesDone := [7], hubUp := true },
      hearth := { State.reset.hearth with fitted := true, testAt := some 100 } }, 90000000000000, 100, 1800, 15500, 585, 16,
      5000, 512, { attic := true, inst := 0, dom := Dom.hub }, by (repeat' refine And.intro ?_ ?_) <;> decide +kernel⟩,
    ⟨{ State.reset with
        regs := regsOf [(F.HEARTH_STAT_AUTH, 1)], pwr := { State.reset.pwr with state := PowerState.run, hubUp := true },
        hearth := { State.reset.hearth with fitted := true, firstTest := true } }, 90000000000000, 1800, 15500, 0, 16,
        { attic := true, inst := 0, dom := Dom.hub }, {
        ok := true, serial := 20015998343868, ageDays := 10, events := 4, cMeas := 2919, esr := 300, wear := 2,
        ours := true }, by (repeat' refine And.intro ?_ ?_) <;> decide +kernel⟩,
    ⟨{ State.reset with pwr := { State.reset.pwr with state := PowerState.run, hubUp := true } }, 90000000000000, 1800,
        15500, 0, 16, by (repeat' refine And.intro ?_ ?_) <;> decide +kernel⟩,
    ⟨{ State.reset with
        regs := regsOf [(F.HEARTH_STAT_AUTH, 1)], hearth := { State.reset.hearth with testAt := some 4 } }, 5, 4, {
        ok := false, serial := 20015998343868, ageDays := 10, events := 4, cMeas := 2920, esr := 300, wear := 2,
        ours := true }, by (repeat' refine And.intro ?_ ?_) <;> decide +kernel⟩⟩

theorem witness_RecorderCommitsAndFlushes :
    (∃ (s : State) (t : Nat) (c : Nat) (sev : Nat) (lenW : Nat) (a : Attr) (r : Record) (q : Record) (f : FlushReq) (g : Segment),
        let buf := s.log.buf;
        let mounted := s.rd F.REC_STAT_MOUNTED ≠ 0;
        let may : Prop := ∀ p, s.pwr.seq = some p → ∀ b, p.flushBy = some b → t + 1 < b;
        let cmd : Prop := a.attic = true ∧ a.inst = 0 ∧ (s.tick t).passes 0x41400008 a true = true;
        let len := min 1024 (max 5 lenW);
        let src := s.log.wrAddr.getD 0 (2 * a.inst) + 2 ^ 32 * (s.log.wrAddr.getD 0 (2 * a.inst + 1) % 256);
        let sel := s.allRecords.filter fun r => decide (s.rd64 F.REC_RD_FROM_FROM ≤ r.seq) && decide (s.rd F.REC_RD_FILT_MIN_SEV ≤ r.sev);
        let out := (takeFit sel (s.rd F.REC_RD_LEN_RD_LEN)).1;
        let dest := s.rd (F.REC_RD_ADDR_ADDR 0) + 2 ^ 32 * (s.rd (F.REC_RD_ADDR_ADDR 1) % 256);
        let bytes := out.flatMap Record.bytes;
        c < 32 ∧ sev < 8 ∧ (s.tick t).passes 0x41400028 a true = true ∧ (s.tick t).passes src a false = true ∧
        (s.tick t).passes (src + 4 * len - 17) a false = true ∧ s.log.lastEnd = none ∧ cmd ∧ mounted ∧ may ∧
        s.log.flushing = some f ∧ f.start ≤ t ∧ s.log.pendFlush = none ∧ (s.tick t).reaches dest bytes.length true = true ∧
        s.rd F.REC_STAT_FLUSHING ≠ 0 ∧ s.log.ueSeqs = [] ∧ (∀ j, j < 8 → (s.stream j).reserve.isSome = true) ∧
        buf.filter (fun r => r.dirty) = [q] ∧ q.stamp < f.start ∧ q.sev < 8 ∧ (s.stream q.sev).opened = some g ∧
        160 + q.size ≤ 65536 ∧ g.used + (160 + q.size) ≤ 1048576 ∧ (s.stream sev).erasing = none) ∧
    (∃ (s : State) (t : Nat) (c : Nat) (sev : Nat) (a : Attr) (r : Record) (rest : List Record),
        let port (x : State) (j : Nat) : List Record := x.log.ports.getD [] j;
        let buf := s.log.buf;
        let only : Prop := port s c = r :: rest ∧ ∀ j, j < 32 → j ≠ c → port s j = [];
        let mounted := s.rd F.REC_STAT_MOUNTED ≠ 0;
        let may : Prop := ∀ p, s.pwr.seq = some p → ∀ b, p.flushBy = some b → t + 1 < b;
        let cmd : Prop := a.attic = true ∧ a.inst = 0 ∧ (s.tick t).passes 0x41400008 a true = true;
        c < 32 ∧ sev < 8 ∧ only ∧ recsSize buf + r.size ≤ 524288 ∧ cmd ∧ mounted ∧ s.log.flushing = none ∧ may) ∧
    (∃ (s : State) (t : Nat) (c : Nat) (sev : Nat) (a : Attr),
        let mounted := s.rd F.REC_STAT_MOUNTED ≠ 0;
        let cmd : Prop := a.attic = true ∧ a.inst = 0 ∧ (s.tick t).passes 0x41400008 a true = true;
        c < 32 ∧ sev < 8 ∧ cmd ∧ (¬ mounted)) ∧
    (∃ (s : State) (t : Nat) (c : Nat) (sev : Nat) (m : Nat), c < 32 ∧ sev < 8 ∧ s.pwr.hubUp = true ∧
        s.log.lastEnd = some m ∧ t < m + 60000000000) ∧
    (∃ (s : State) (t : Nat) (c : Nat) (sev : Nat) (m : Nat),
        let mounted := s.rd F.REC_STAT_MOUNTED ≠ 0;
        let may : Prop := ∀ p, s.pwr.seq = some p → ∀ b, p.flushBy = some b → t + 1 < b;
        c < 32 ∧ sev < 8 ∧ s.pwr.hubUp = true ∧ s.log.lastEnd = some m ∧ m + 60000000000 ≤ t ∧ mounted ∧
        s.log.flushing = none ∧ may) ∧
    (∃ (s : State) (t : Nat) (c : Nat) (sev : Nat) (f : FlushReq), c < 32 ∧ sev < 8 ∧ s.log.flushing = some f ∧
        t < f.start) ∧
    (∃ (s : State) (t : Nat) (c : Nat) (sev : Nat) (a : Attr) (r : Record),
        let cmd : Prop := a.attic = true ∧ a.inst = 0 ∧ (s.tick t).passes 0x41400008 a true = true;
        let sel := s.allRecords.filter fun r => decide (s.rd64 F.REC_RD_FROM_FROM ≤ r.seq) && decide (s.rd F.REC_RD_FILT_MIN_SEV ≤ r.sev);
        let out := (takeFit sel (s.rd F.REC_RD_LEN_RD_LEN)).1;
        let dest := s.rd (F.REC_RD_ADDR_ADDR 0) + 2 ^ 32 * (s.rd (F.REC_RD_ADDR_ADDR 1) % 256);
        let bytes := out.flatMap Record.bytes;
        c < 32 ∧ sev < 8 ∧ cmd ∧ (s.tick t).reaches dest bytes.length true = false) ∧
    (∃ (s : State) (t : Nat) (c : Nat) (sev : Nat) (a : Attr),
        let src := s.log.wrAddr.getD 0 (2 * a.inst) + 2 ^ 32 * (s.log.wrAddr.getD 0 (2 * a.inst + 1) % 256);
        c < 32 ∧ sev < 8 ∧ (s.tick t).passes 0x41400028 a true = true ∧ (s.tick t).passes src a false = false) ∧
    (∃ (s : State) (c : Nat) (sev : Nat) (n : Nat), c < 32 ∧ sev < 8 ∧ (s.stream sev).erasing = some n) :=
  ⟨⟨{ State.reset with
      regs := regsOf [(F.REC_STAT_MOUNTED, 1), (F.REC_STAT_FLUSHING, 1)], log := { State.reset.log with
      buf := [{
      seq := 3, sev := 7, cls := 2, kind := 1, time := 0, source := 0, status := 0, flags := 0, subj := 0, vals := [7, 7, 7,
      7], body := [], stamp := 5, dirty := true }], flushing := some { cause := FlushCause.sleepFail, start := 6 },
      streams := [(0, {
      opened := some { num := 0, first := 0, last := 0, used := 0 }, closed := [], reserve := some 8, erasing := none,
      blocks := 0, hash := 0 }), (1, {
      opened := some { num := 1, first := 0, last := 0, used := 0 }, closed := [], reserve := some 9, erasing := none,
      blocks := 0, hash := 1 }), (2, {
      opened := some { num := 2, first := 0, last := 0, used := 0 }, closed := [], reserve := some 10, erasing := none,
      blocks := 0, hash := 2 }), (3, {
      opened := some { num := 3, first := 0, last := 0, used := 0 }, closed := [], reserve := some 11, erasing := none,
      blocks := 0, hash := 3 }), (4, {
      opened := some { num := 4, first := 0, last := 0, used := 0 }, closed := [], reserve := some 12, erasing := none,
      blocks := 0, hash := 4 }), (5, {
      opened := some { num := 5, first := 0, last := 0, used := 0 }, closed := [], reserve := some 13, erasing := none,
      blocks := 0, hash := 5 }), (6, {
      opened := some { num := 6, first := 0, last := 0, used := 0 }, closed := [], reserve := some 14, erasing := none,
      blocks := 0, hash := 6 }), (7, {
      opened := some { num := 7, first := 0, last := 0, used := 0 }, closed := [], reserve := some 15, erasing := none,
      blocks := 0, hash := 7 })] } }, 7, 2, 2, 10, { attic := true, inst := 0, dom := Dom.hub }, {
      seq := 0, sev := 0, cls := 2, kind := 1, time := 0, source := 0, status := 0, flags := 0, subj := 0, vals := [],
      body := [], stamp := 5, dirty := false }, {
      seq := 3, sev := 7, cls := 2, kind := 1, time := 0, source := 0, status := 0, flags := 0, subj := 0, vals := [7, 7, 7,
      7], body := [], stamp := 5, dirty := true }, { cause := FlushCause.sleepFail, start := 6 },
      { num := 7, first := 0, last := 0, used := 0 }, by decide +kernel⟩,
    ⟨{ State.reset with
        regs := regsOf [(F.REC_STAT_MOUNTED, 1)], log := { State.reset.log with
        ports := [(2, [{
        seq := 0, sev := 6, cls := 2, kind := 1, time := 0, source := 0, status := 0, flags := 0, subj := 0, vals := [7, 7,
        7], body := [], stamp := 5, dirty := true }, {
        seq := 0, sev := 1, cls := 2, kind := 1, time := 0, source := 0, status := 0, flags := 0, subj := 0, vals := [7],
        body := [], stamp := 5, dirty := true }])] } }, 4, 2, 2, { attic := true, inst := 0, dom := Dom.hub }, {
        seq := 0, sev := 6, cls := 2, kind := 1, time := 0, source := 0, status := 0, flags := 0, subj := 0, vals := [7, 7,
        7], body := [], stamp := 5, dirty := true }, [{
        seq := 0, sev := 1, cls := 2, kind := 1, time := 0, source := 0, status := 0, flags := 0, subj := 0, vals := [7],
        body := [], stamp := 5, dirty := true }], by decide +kernel⟩,
    ⟨State.reset, 4, 2, 2, { attic := true, inst := 0, dom := Dom.hub }, by decide +kernel⟩,
    ⟨{ State.reset with
        pwr := { State.reset.pwr with hubUp := true }, log := { State.reset.log with lastEnd := some 10 } }, 4, 2, 2, 10,
        by decide +kernel⟩,
    ⟨{ State.reset with
        regs := regsOf [(F.REC_STAT_MOUNTED, 1)], pwr := { State.reset.pwr with hubUp := true },
        log := { State.reset.log with lastEnd := some 10 } }, 60000000010, 2, 2, 10, by decide +kernel⟩,
    ⟨{ State.reset with
        log := { State.reset.log with flushing := some { cause := FlushCause.powerFail, start := 6 } } }, 4, 2, 2,
        { cause := FlushCause.powerFail, start := 6 }, by decide +kernel⟩,
    ⟨{ State.reset with
        regs := regsOf [(F.WORLD_RGN1_LIMIT 1 0, 16777215), (F.WORLD_RGN2_EN 1 0, 1), (F.REC_RD_ADDR_ADDR 1, 8)] }, 4, 2, 2,
        { attic := true, inst := 0, dom := Dom.hub }, {
        seq := 0, sev := 0, cls := 2, kind := 1, time := 0, source := 0, status := 0, flags := 0, subj := 0, vals := [],
        body := [], stamp := 5, dirty := false }, by decide +kernel⟩,
    ⟨{ State.reset with
        regs := regsOf [(F.WORLD_RGN1_LIMIT 3 0, 1048575), (F.WORLD_RGN2_DOM 3 0, 7), (F.WORLD_RGN2_P_W 3 0, 1),
        (F.WORLD_RGN2_EN 3 0, 1)], log := { State.reset.log with wrAddr := [(7, 8)] } }, 4, 2, 2,
        { attic := false, inst := 3, dom := Dom.hub }, by decide +kernel⟩,
    ⟨{ State.reset with
        log := { State.reset.log with
        streams := [(2, { opened := none, closed := [], reserve := none, erasing := some 4, blocks := 0, hash := 0 })] } },
        2, 2, 4, by decide +kernel⟩⟩
def noted (sev : Nat) : Record := ⟨0, sev, 1, 1, 0, 0, 0, 0, 0, [], [], 0, true⟩
theorem full_buffer (n : Nat) (hn : n = 26213) :
    let s (sev : Nat) : State := { running with log := { State.reset.log with
      ports := [(31, [noted 5])], buf := noted sev :: List.replicate n (noted 6) } }
    let only (s : State) : Prop := s.log.ports.getD [] 31 = noted 5 :: [] ∧ ∀ j, j < 32 → j ≠ 31 → s.log.ports.getD [] j = []
    only (s 5) ∧ only (s 6) ∧
    ((noted 5).dirty = true ∧ (noted 5).sev ≤ (noted 5).sev ∧ (noted 5).sev ≠ 7 ∧ (noted 5).sev < 8 ∧
      ∀ x, x ∈ List.replicate n (noted 6) → x.dirty = true ∧ (noted 5).sev < x.sev) ∧
    (∀ sev, 524288 < recsSize (s sev).log.buf + (noted 5).size) ∧
    recsSize (List.replicate n (noted 6)) + (noted 5).size ≤ 524288 ∧
    (∀ x, x ∈ (s 6).log.buf → x.dirty = true ∧ ((noted 5).sev < x.sev ∨ x.sev = 7)) := by
  intro s only
  have z : ∀ sev, (noted sev).size = 20 := fun _ => rfl
  have p : ∀ sev j, j < 32 → j ≠ 31 → (s sev).log.ports.getD [] j = [] := fun sev j _ h => by
    simp [s, Tbl.getD, Tbl.find?, Ne.symm h]
  refine ⟨⟨rfl, p 5⟩, ⟨rfl, p 6⟩, ⟨rfl, by decide, by decide, by decide, fun x h => ?_⟩, fun sev => ?_, ?_, fun x h => ?_⟩
  · rw [List.eq_of_mem_replicate h]; decide
  · simp only [s, recsSize_cons, recsSize_replicate, z, hn]; decide
  · simp only [recsSize_replicate, z, hn]; decide
  · rcases List.mem_cons.1 h with h | h
    · rw [h]; decide
    · rw [List.eq_of_mem_replicate h]; decide

theorem witness_SetupImageCommands :
    (∃ (s : State) (t : Nat) (a : Attr) (peek : Bool),
        let cmd : Prop := a.attic = true ∧ a.inst = 0 ∧ (s.tick t).passes 0x41500004 a true = true;
        let idle := s.rd F.SETUP_STAT_BUSY = 0;
        let at_ := s.rd F.SETUP_ADDR_LO_ADDR + 2 ^ 32 * s.rd F.SETUP_ADDR_HI_ADDR;
        let reads := (s.tick t).reaches at_ (s.rd F.SETUP_LEN_LEN) false;
        cmd ∧ idle ∧ s.blocked = false ∧ reads = true ∧ s.cyc.mode = .stop ∧ s.setup.storing = none ∧
        (s.tick t).passes (if peek then 0x41508020 else 0x41500020) a false = true ∧ s.setup.reports = []) ∧
    (∃ (s : State) (t : Nat) (a : Attr) (m : SetupImage) (m' : SetupImage) (peek : Bool) (r : SetupReport) (rest : List SetupReport),
        let cmd : Prop := a.attic = true ∧ a.inst = 0 ∧ (s.tick t).passes 0x41500004 a true = true;
        let idle := s.rd F.SETUP_STAT_BUSY = 0;
        let chosen : Prop := s.setup.copyA = some m ∧ s.imageFault m = 0 ∧ (s.setup.copyB = none ∨ (s.setup.copyB = some m' ∧
          (s.imageFault m' ≠ 0 ∨ (m'.floor ≤ m.version ∧ m.floor ≤ m'.version ∧ m'.version ≤ m.version))));
        cmd ∧ (¬ idle) ∧ s.setup.applying = true ∧ s.cyc.mode = .stop ∧ chosen ∧ m.records = [] ∧
        (s.tick t).passes (if peek then 0x41508020 else 0x41500020) a false = true ∧ s.setup.reports = r :: rest ∧
        (s.tick t).settled 0x41500020 (rest.length + 1) ≠ 0) ∧
    (∃ (s : State) (t : Nat) (a : Attr),
        let cmd : Prop := a.attic = true ∧ a.inst = 0 ∧ (s.tick t).passes 0x41500004 a true = true;
        let idle := s.rd F.SETUP_STAT_BUSY = 0;
        cmd ∧ idle ∧ s.blocked = true ∧ s.cyc.mode ≠ .stop) ∧
    (∃ (s : State) (t : Nat) (a : Attr),
        let cmd : Prop := a.attic = true ∧ a.inst = 0 ∧ (s.tick t).passes 0x41500004 a true = true;
        let idle := s.rd F.SETUP_STAT_BUSY = 0;
        let at_ := s.rd F.SETUP_ADDR_LO_ADDR + 2 ^ 32 * s.rd F.SETUP_ADDR_HI_ADDR;
        let reads := (s.tick t).reaches at_ (s.rd F.SETUP_LEN_LEN) false;
        cmd ∧ idle ∧ s.blocked = false ∧ reads = false) ∧
    (∃ (s : State) (m : SetupImage), s.setup.storing = some m) ∧
    (∃ (s : State), s.setup.applying = true ∧ s.cyc.mode = .stop ∧ s.setup.copyA = none ∧ s.setup.copyB = none) ∧
    (∃ (s : State), s.setup.applying = true ∧ s.cyc.mode ≠ .stop) ∧
    (∃ (s : State) (v : Nat) (m : SetupImage) (m' : SetupImage),
        let chosen : Prop := s.setup.copyA = some m ∧ s.imageFault m = 0 ∧ (s.setup.copyB = none ∨ (s.setup.copyB = some m' ∧
          (s.imageFault m' ≠ 0 ∨ (m'.floor ≤ m.version ∧ m.floor ≤ m'.version ∧ m'.version ≤ m.version))));
        s.setup.applying = true ∧ s.cyc.mode = .stop ∧ chosen ∧ m.records = [.field 12 10 0x200008 v] ∧ 20 ≤ v ∧ v ≤ 1000) ∧
    (∃ (s : State) (v : Nat) (m : SetupImage) (m' : SetupImage),
        let chosen : Prop := s.setup.copyA = some m ∧ s.imageFault m = 0 ∧ (s.setup.copyB = none ∨ (s.setup.copyB = some m' ∧
          (s.imageFault m' ≠ 0 ∨ (m'.floor ≤ m.version ∧ m.floor ≤ m'.version ∧ m'.version ≤ m.version))));
        s.setup.applying = true ∧ s.cyc.mode = .stop ∧ chosen ∧ m.records = [.field 12 10 0x200008 v] ∧ (v < 20 ∨ 1000 < v) ∧
        s.setup.reports.length < 256) :=
  ⟨⟨State.reset, 4, { attic := true, inst := 0, dom := Dom.hub }, false, by decide +kernel⟩,
    ⟨{ State.reset with
        regs := regsOf [(F.SETUP_STAT_BUSY, 1)], setup := { State.reset.setup with
        copyA := some {
        formatOk := true, cl := 0, mid := 1, version := 4, floor := 2, bodyHash := 9, pins := [2], hashOk := true,
        records := [] }, applying := true, reports := [{
        refused := true, pass2 := false, lsb := 12, index := 0, addr := 2097160, req := 7, loaded := 100 }] } }, 4,
        { attic := true, inst := 0, dom := Dom.hub }, {
        formatOk := true, cl := 0, mid := 1, version := 4, floor := 2, bodyHash := 9, pins := [2], hashOk := true,
        records := [] }, {
        formatOk := true, cl := 0, mid := 1, version := 1, floor := 1, bodyHash := 9, pins := [2], hashOk := true,
        records := [] }, false, {
        refused := true, pass2 := false, lsb := 12, index := 0, addr := 2097160, req := 7, loaded := 100 }, [],
        by decide +kernel⟩,
    ⟨{ State.reset with
        regs := regsOf [(F.WORLD_STAT_ROOT, 2)], cyc := { State.reset.cyc with mode := ProgMode.run } }, 4,
        { attic := true, inst := 0, dom := Dom.hub }, by decide +kernel⟩,
    ⟨{ State.reset with
        regs := regsOf [(F.WORLD_RGN1_LIMIT 1 0, 16777215), (F.WORLD_RGN2_EN 1 0, 1), (F.SETUP_ADDR_HI_ADDR, 8)] }, 4,
        { attic := true, inst := 0, dom := Dom.hub }, by decide +kernel⟩,
    ⟨{ State.reset with
        setup := { State.reset.setup with
        storing := some {
        formatOk := true, cl := 0, mid := 1, version := 3, floor := 1, bodyHash := 9, pins := [2], hashOk := true,
        records := [] } } }, {
        formatOk := true, cl := 0, mid := 1, version := 3, floor := 1, bodyHash := 9, pins := [2], hashOk := true,
        records := [] }, by decide +kernel⟩,
    ⟨{ State.reset with setup := { State.reset.setup with applying := true } }, by decide +kernel⟩,
    ⟨{ State.reset with
        cyc := { State.reset.cyc with mode := ProgMode.hold }, setup := { State.reset.setup with applying := true } },
        by decide +kernel⟩,
    ⟨{ State.reset with
        setup := { State.reset.setup with
        copyA := some {
        formatOk := true, cl := 0, mid := 1, version := 4, floor := 2, bodyHash := 9, pins := [2], hashOk := true,
        records := [SetupRec.field 12 10 2097160 20] }, applying := true } }, 20, {
        formatOk := true, cl := 0, mid := 1, version := 4, floor := 2, bodyHash := 9, pins := [2], hashOk := true,
        records := [SetupRec.field 12 10 2097160 20] }, {
        formatOk := true, cl := 0, mid := 1, version := 1, floor := 1, bodyHash := 9, pins := [2], hashOk := true,
        records := [] }, by decide +kernel⟩,
    ⟨{ State.reset with
        setup := { State.reset.setup with
        copyA := some {
        formatOk := true, cl := 0, mid := 1, version := 4, floor := 2, bodyHash := 9, pins := [2], hashOk := true,
        records := [SetupRec.field 12 10 2097160 19] }, applying := true } }, 19, {
        formatOk := true, cl := 0, mid := 1, version := 4, floor := 2, bodyHash := 9, pins := [2], hashOk := true,
        records := [SetupRec.field 12 10 2097160 19] }, {
        formatOk := true, cl := 0, mid := 1, version := 1, floor := 1, bodyHash := 9, pins := [2], hashOk := true,
        records := [] }, by decide +kernel⟩⟩

end Sys2Proof.Tests
end

section
/-! PROOFS. What each state operation that an agreement phase uses leaves unchanged in the lanes (R73, R80 to R83). -/

namespace Sys2Proof.Machine

theorem LaneId.idx_injective : Function.Injective LaneId.idx := by
  intro l m h
  cases l <;> cases m <;> simp_all [LaneId.idx]

/-- A lane is read from the table of lanes alone. -/
theorem State.ln_congr {s s' : State} (h : s'.lane.lanes = s.lane.lanes) (l : LaneId) : s'.ln l = s.ln l := by
  simp only [State.ln, h]

@[simp] theorem State.ln_tick (s : State) (t : Nat) (l : LaneId) : (s.tick t).ln l = s.ln l := rfl

@[simp] theorem State.ln_modLn_self (s : State) (l : LaneId) (f : Lane → Lane) : (s.modLn l f).ln l = f (s.ln l) :=
  Tbl.getD_put_self ..

theorem State.ln_modLn_ne (s : State) {l m : LaneId} (f : Lane → Lane) (h : l ≠ m) : (s.modLn l f).ln m = s.ln m :=
  Tbl.getD_put_ne _ _ _ fun he => h (LaneId.idx_injective he)

/-- A fold of updates none of which touches the lane part leaves it. -/
theorem State.foldl_lane {α : Type} {f : State → α → State} (h : ∀ s x, (f s x).lane = s.lane) (xs : List α) (s : State) :
    (xs.foldl f s).lane = s.lane := by
  induction xs generalizing s with
  | nil => rfl
  | cons x xs ih => rw [List.foldl_cons, ih, h]

@[simp] theorem State.laneRecord_lane (s : State) (kind sev subj unit : Nat) (vals : List Nat) :
    (s.laneRecord kind sev subj unit vals).lane = s.lane := rfl

@[simp] theorem State.showFaults_lane (s : State) (diag : List Nat) : (s.showFaults diag).lane = s.lane := by
  refine State.foldl_lane (fun s u => State.foldl_lane (fun s k => ?_) _ s) _ s
  split <;> rfl

@[simp] theorem State.showAgreed_lane (s : State) (g : Agreed) : (s.showAgreed g).lane = s.lane := by
  simp only [State.showAgreed]
  rw [State.foldl_lane (f := fun s u => s.wr _ _) fun _ _ => State.wr_lane ..]
  simp only [State.showFaults_lane, State.raiseBits_lane, State.wr_lane]

theorem State.countDisagree_lanes (s : State) (g : Agreed) : (s.countDisagree g).lane.lanes = s.lane.lanes := by
  simp only [State.countDisagree]
  rw [State.foldl_lane]
  intro s k
  split
  · exact State.laneRecord_lane ..
  · rfl

/-- Showing and counting disagreements leaves every lane as it was. -/
theorem State.ln_showAgreed_countDisagree (s : State) (g : Agreed) (l : LaneId) :
    ((s.showAgreed g).countDisagree g).ln l = s.ln l :=
  State.ln_congr (by rw [State.countDisagree_lanes, State.showAgreed_lane]) l

/-- An image that waits for execute changes no lane's agreed image. -/
theorem State.queueImage_agreed (s : State) (l src m : LaneId) (g : Agreed) :
    ((s.queueImage l src g).ln m).agreed = (s.ln m).agreed := by
  unfold State.queueImage
  split
  · by_cases h : l = m
    · subst h; rw [State.ln_modLn_self]
    · rw [State.ln_modLn_ne _ _ h]
  · rfl

theorem State.mem_actives (s : State) (l : LaneId) : l ∈ s.actives ↔ (s.ln l).state = .active := by
  cases l <;> simp [State.actives, laneIds]

/-! ### The agreement phase of a lane that holds every ACTIVE lane's image -/

/-- Lane `l` holds the input image of every ACTIVE lane (R73). -/
def State.holdsAll (s : State) (l : LaneId) : Prop := ∀ m ∈ s.actives, m ≠ l → m ∈ (s.ln l).got

theorem State.holds_eq_actives {s : State} {l : LaneId} (h : s.holdsAll l) : s.holds l = s.actives := by
  refine List.filter_eq_self.2 fun m hm => ?_
  by_cases hl : m = l
  · simp [hl]
  · simp [h m hm hl]

/-- No image is missing, so no link fault is counted. -/
theorem State.missing_eq_nil {s : State} {l : LaneId} (h : s.holdsAll l) :
    ((s.actives.filter fun m => m ≠ l).filter fun m => !(s.ln l).got.contains m) = [] := by
  refine List.filter_eq_nil_iff.2 fun m hm => ?_
  obtain ⟨hm, hl⟩ := List.mem_filter.1 hm
  simp [h m hm (by simpa using hl)]

/-- The agreed image over the images of all ACTIVE lanes. -/
def State.agreedOfActives (s : State) : Agreed := s.agreeImages (s.actives.filterMap fun m => (s.ln m).img)

/-- A lane that holds every ACTIVE lane's image fixes the agreement over all of them. -/
theorem State.agreeLane_agreed {s : State} {l : LaneId} (h : s.holdsAll l) :
    ((s.agreeLane l).ln l).agreed = some s.agreedOfActives := by
  simp only [State.agreeLane, State.missing_eq_nil h, State.holds_eq_actives h, List.foldl_nil, State.queueImage_agreed]
  split
  · rw [State.ln_showAgreed_countDisagree, State.ln_modLn_self]; rfl
  · rw [State.ln_modLn_self]; rfl

/-- AGREEMENT_PHASE of an ACTIVE lane in its agreement window, the closing instant included (log entry 89). -/
theorem agreementPhase_agreed {s : State} {t : Nat} {l : LaneId} {P : State → Prop} (hrun : s.lanesRun = true)
    (hact : l ∈ s.actives) (hall : s.holdsAll l) (hnone : (s.ln l).agreed = none)
    (hlo : (s.ln l).boundary + 100000 ≤ t) (hhi : t ≤ (s.ln l).boundary + 250000)
    (hP : ∀ s', (s'.ln l).agreed = some s.agreedOfActives → P s') : Ends (.agreementPhase t l) s P := by
  have hphase : (s.tick t).inPhase l 100000 250001 = true :=
    (Bool.and_eq_true _ _).mpr ⟨decide_eq_true hlo, decide_eq_true (Nat.lt_succ_of_le hhi)⟩
  have hrun' : (s.tick t).lanesRun = true := hrun
  have hstate := (s.mem_actives l).1 hact
  refine ⟨(s.tick t).agreeLane l, ?_, hP _ (State.agreeLane_agreed (s := s.tick t) hall)⟩
  rw [arm_agreementPhase]
  simp [execAgreementPhase, hphase, hrun', hnone, hstate]

end Sys2Proof.Machine
end

section
/-! PROOFS. The agreed image input by input: bits, words and analogue values of two and three images (R80 to R82, R474). -/

namespace Sys2Proof.Machine

/-! ### Bits set one by one -/

/-- The numbers of a list that satisfy `p`, set one by one. -/
theorem testBit_foldl_maskSet (p : Nat → Bool) (ks : List Nat) (m u : Nat) :
    (ks.foldl (fun m k => if p k then maskSet m k else m) m).testBit u = (m.testBit u || (decide (u ∈ ks) && p u)) := by
  induction ks generalizing m with
  | nil => simp
  | cons k ks ih =>
    rw [List.foldl_cons, ih]
    by_cases hu : k = u
    · subst hu; cases p k <;> simp [maskSet, Nat.testBit_two_pow_self]
    · have hbit : (if p k then maskSet m k else m).testBit u = m.testBit u := by
        split
        · simp [maskSet, Nat.testBit_two_pow_of_ne hu]
        · rfl
      simp [hbit, Ne.symm hu]

theorem State.testBit_dinSafe (s : State) {u : Nat} (hu : u < 16) :
    s.dinSafe.testBit u = s.flag (F.LANEIF_IN_CFG_DIN_SAFE u) := by
  rw [State.dinSafe, testBit_foldl_maskSet]; simp [hu]

theorem testBit_flagMask (bs : List Bool) {u : Nat} (hu : u < bs.length) :
    (flagMask bs).testBit u = bs.getD u false := by
  rw [flagMask, List.foldl_filter, testBit_foldl_maskSet (fun k => bs.getD k false)]; simp [hu]

/-! ### Bits, words and values of two and three images -/

theorem testBit_agree2 (a b safe u : Nat) :
    (agree2 a b safe).testBit u = if a.testBit u = b.testBit u then a.testBit u else safe.testBit u := by
  simp only [agree2, Nat.testBit_or, Nat.testBit_and, Nat.testBit_xor]
  cases a.testBit u <;> cases b.testBit u <;> simp

theorem testBit_agree3 (a b c u : Nat) :
    (agree3 a b c).testBit u = ((a.testBit u && b.testBit u) || (b.testBit u && c.testBit u) || (a.testBit u && c.testBit u)) := by
  simp only [agree3, Nat.testBit_or, Nat.testBit_and]

/-- A bit's flag of three images: set where the three are not unanimous (R80). -/
theorem testBit_disagree3 (a b c u : Nat) :
    ((a ^^^ b) ||| (b ^^^ c)).testBit u = !(a.testBit u == b.testBit u && b.testBit u == c.testBit u) := by
  simp only [Nat.testBit_or, Nat.testBit_xor]
  cases a.testBit u <;> cases b.testBit u <;> cases c.testBit u <;> rfl

theorem agreeBits_zeros {α : Type} {is : List α} (all : Nat) (h : is.length = 2 ∨ is.length = 3) :
    agreeBits 0 all (is.map fun _ => 0) = (0, 0) := by
  rcases h with h | h <;> simp [List.map_const', h, List.replicate, agreeBits, agree2, agree3]

theorem median3_eq (x y z : Int) : median3 x y z = x + y + z - max x (max y z) - min x (min y z) := by
  unfold median3; omega

theorem agreeWord_two (safe x y : Nat) : agreeWord safe [x, y] = if x = y then (x, false) else (safe, true) := rfl

/-- The word that two of three lanes hold (R80). -/
theorem agreeWord_three_fst (safe x y z : Nat) :
    (x = y ∨ x = z → (agreeWord safe [x, y, z]).1 = x) ∧ (y = z → (agreeWord safe [x, y, z]).1 = y) ∧
      (x ≠ y → y ≠ z → x ≠ z → (agreeWord safe [x, y, z]).1 = safe) := by
  simp only [agreeWord]
  refine ⟨fun h => ?_, fun h => ?_, fun hxy hyz hxz => ?_⟩
  · simp [h]
  · split
    · simp_all
    · simp [h]
  · simp [hxy, hyz, hxz]

/-- A word of three lanes is flagged where the three are not unanimous (R80). -/
theorem agreeWord_three_snd (safe x y z : Nat) : (agreeWord safe [x, y, z]).2 = true ↔ ¬ (x = y ∧ y = z) := by
  simp only [agreeWord]
  split
  · simp [imp_iff_not_or]
  · split <;> simp <;> tauto

/-! ### The order of two images does not matter -/

theorem agreeBits_comm (safe all a b : Nat) : agreeBits safe all [a, b] = agreeBits safe all [b, a] := by
  simp only [agreeBits, agree2, Nat.and_comm a b, Nat.xor_comm a b]

theorem agreeWord_comm (safe x y : Nat) : agreeWord safe [x, y] = agreeWord safe [y, x] := by
  simp only [agreeWord_two]
  by_cases h : x = y
  · rw [h]
  · rw [if_neg h, if_neg (Ne.symm h)]

theorem agreeAnalogue_comm (tol : Nat) (x y : Int) : agreeAnalogue tol [x, y] = agreeAnalogue tol [y, x] := by
  simp only [agreeAnalogue, Int.add_comm x y, ← Int.neg_sub y x, Int.natAbs_neg]

theorem State.agreeImages_comm (s : State) (a b : InImage) : s.agreeImages [a, b] = s.agreeImages [b, a] := by
  have hmax : ([a, b].map fun i => i.tiles.length).foldl max 0 = ([b, a].map fun i => i.tiles.length).foldl max 0 := by
    simp only [List.map_cons, List.map_nil, List.foldl_cons, List.foldl_nil]; omega
  simp only [State.agreeImages, hmax]
  simp only [List.map_cons, List.map_nil, agreeBits_comm _ _ _ (InImage.din b), agreeBits_comm _ _ _ (b.tiles.getD _ 0),
    agreeBits_comm _ _ _ (b.diag.getD _ 0), agreeAnalogue_comm _ _ (b.ain.getD _ 0), agreeWord_comm _ _ (s.vinAs b _)]

/-! ### The agreed image input by input -/

theorem getD_map_range {α : Type} (f : Nat → α) (d : α) {n k : Nat} (h : k < n) : ((List.range n).map f).getD k d = f k := by
  simp [List.getD_eq_getElem?_getD, h]

theorem Tbl.getD_foldl_put {α : Type} [DecidableEq α] (d : α) (v : Nat → α) (ws : List Nat) (m : Tbl α) (w : Nat) :
    (ws.foldl (fun m w => m.put d w (v w)) m).getD d w = if w ∈ ws then v w else m.getD d w := by
  induction ws generalizing m with
  | nil => simp
  | cons x ws ih =>
    rw [List.foldl_cons, ih]
    by_cases hw : w ∈ ws
    · simp [hw]
    · by_cases hx : x = w
      · subst hx; simp [hw]
      · simp [hw, Ne.symm hx, Tbl.getD_put_ne _ _ _ hx]

/-- The agreed value of U_u and its flag. -/
theorem State.agreeImages_ain (s : State) (is : List InImage) {u : Nat} (hu : u < 16) :
    ((s.agreeImages is).img.ain.getD u 0, (s.agreeImages is).ainQ.testBit u) =
      agreeAnalogue (s.rd (F.LANEIF_IN_CFG_TOL u)) (is.map fun i => i.ain.getD u 0) := by
  simp only [State.agreeImages, List.map_map]
  rw [testBit_flagMask _ (by simpa using hu), getD_map_range _ _ hu, getD_map_range _ _ hu]
  rfl

/-- The agreed VIN word `w`. -/
theorem State.agreeImages_vin (s : State) (is : List InImage) {w : Nat} (hw : w < 512) :
    (s.agreeImages is).img.vin.getD 0 w = (agreeWord (s.lane.vinSafe.getD 0 w) (is.map fun i => s.vinAs i w)).1 := by
  simp only [State.agreeImages]
  rw [Tbl.getD_foldl_put, if_pos (List.mem_range.2 hw), getD_map_range _ _ hw]

/-- The flag of VIN word `w`. -/
theorem State.mem_agreeImages_vinQ (s : State) (is : List InImage) {w : Nat} (hw : w < 512) :
    w ∈ (s.agreeImages is).vinQ ↔ (agreeWord (s.lane.vinSafe.getD 0 w) (is.map fun i => s.vinAs i w)).2 = true := by
  simp only [State.agreeImages, List.mem_filter, List.mem_range, getD_map_range _ _ hw]
  exact and_iff_right hw

theorem le_foldl_max (ns : List Nat) (m : Nat) : m ≤ ns.foldl max m ∧ ∀ n ∈ ns, n ≤ ns.foldl max m := by
  induction ns generalizing m with
  | nil => simp
  | cons x ns ih =>
    obtain ⟨hm, hmem⟩ := ih (max m x)
    refine ⟨le_trans (le_max_left m x) hm, fun n hn => ?_⟩
    rcases List.mem_cons.1 hn with rfl | hn
    · exact le_trans (le_max_right m n) hm
    · exact hmem n hn

/-- Tile status word `k` of two or three images with its flags. A word that no image holds is 0 and unflagged. -/
theorem State.agreeImages_tiles (s : State) {is : List InImage} (h : is.length = 2 ∨ is.length = 3) (k : Nat) :
    ((s.agreeImages is).img.tiles.getD k 0, (s.agreeImages is).tilesQ.getD k 0) =
      agreeBits 0 (2 ^ 32 - 1) (is.map fun i => i.tiles.getD k 0) := by
  simp only [State.agreeImages, List.map_map]
  by_cases hk : k < (is.map fun i => i.tiles.length).foldl max 0
  · rw [getD_map_range _ _ hk, getD_map_range _ _ hk]
    rfl
  · have hzero : (is.map fun i => i.tiles.getD k 0) = is.map fun _ => 0 := by
      refine List.map_congr_left fun i hi => List.getD_eq_default _ _ ?_
      have := (le_foldl_max (is.map fun i => i.tiles.length) 0).2 _ (List.mem_map_of_mem hi)
      omega
    rw [List.getD_eq_default _ _ (by simpa using hk), List.getD_eq_default _ _ (by simpa using hk), hzero,
      agreeBits_zeros _ h]

end Sys2Proof.Machine
end

section
/-! PROOFS. The obligations of input agreement (R80 to R82). -/

namespace Sys2Proof.Machine

/-- Settles O12: the phase, its closing instant included (log entry 89), fixes `agreeImages [a, b, c]`, which is read input by
input. -/
theorem lanesAgreementOfThree : Obligations.LanesAgreementOfThree := by
  unfold Obligations.LanesAgreementOfThree
  intro s t l a b c hrun hact ha hb hc hgot hnone hlo hhi maj
  have himgs : s.agreedOfActives = s.agreeImages [a, b, c] := by
    simp [State.agreedOfActives, hact, ha, hb, hc]
  refine agreementPhase_agreed hrun (by rw [hact]; cases l <;> simp) (fun m _ => hgot m) hnone hlo hhi fun s' hs' =>
    ⟨_, himgs ▸ hs', fun u => ⟨testBit_agree3 .., testBit_disagree3 ..⟩, fun u hu => ?_, fun w hw => ?_, fun k j => ?_⟩
  · obtain ⟨hv, hq⟩ := Prod.mk.inj (s.agreeImages_ain [a, b, c] hu)
    exact ⟨hv.trans (median3_eq ..), hq⟩
  · intro x y z v
    have hv : v = (agreeWord (s.lane.vinSafe.getD 0 w) [x, y, z]).1 := s.agreeImages_vin [a, b, c] hw
    obtain ⟨hx, hy, hsafe⟩ := agreeWord_three_fst (s.lane.vinSafe.getD 0 w) x y z
    rw [hv]
    exact ⟨hx, hy, hsafe, (s.mem_agreeImages_vinQ [a, b, c] hw).trans (agreeWord_three_snd ..)⟩
  · obtain ⟨hv, hq⟩ := Prod.mk.inj (s.agreeImages_tiles (is := [a, b, c]) (.inr rfl) k)
    exact ⟨hv ▸ testBit_agree3 .., hq ▸ testBit_disagree3 ..⟩

/-- Settles O13: the phase, its closing instant included (log entry 89), fixes `agreeImages [a, b]`, in either order of the two
lanes. -/
theorem lanesAgreementOfTwo : Obligations.LanesAgreementOfTwo := by
  unfold Obligations.LanesAgreementOfTwo
  intro s t l m a b hrun _ hact ha hb hgot hnone hlo hhi
  have himgs : s.agreedOfActives = s.agreeImages [a, b] := by
    rcases hact with h | h
    · simp [State.agreedOfActives, h, ha, hb]
    · simp [State.agreedOfActives, h, ha, hb, s.agreeImages_comm b a]
  have hmem : ∀ k, k ∈ s.actives ↔ k = l ∨ k = m := by
    rcases hact with h | h <;> simp [h, or_comm]
  have hall : s.holdsAll l := fun k hk hkl => ((hmem k).1 hk).resolve_left hkl ▸ hgot
  refine agreementPhase_agreed hrun ((hmem l).2 (.inl rfl)) hall hnone hlo hhi fun s' hs' =>
    ⟨_, himgs ▸ hs', fun u hu => ⟨?_, Nat.testBit_xor ..⟩, fun u hu => ?_, fun w hw => ?_, fun k j => ?_⟩
  · rw [← s.testBit_dinSafe hu]
    exact testBit_agree2 ..
  · intro x y v
    obtain ⟨hv, hq⟩ := Prod.mk.inj (s.agreeImages_ain [a, b] hu)
    have hmean : v = (x + y) / 2 := hv
    exact ⟨by omega, by omega, hq⟩
  · have hv := s.agreeImages_vin [a, b] hw
    have hq := s.mem_agreeImages_vinQ [a, b] hw
    simp only [List.map_cons, List.map_nil, agreeWord_two] at hv hq
    refine ⟨fun h => ?_, fun h => ?_⟩
    · rw [if_pos h] at hv hq
      exact ⟨hv, by simp [hq]⟩
    · rw [if_neg h] at hv hq
      exact ⟨hv, by simp [hq]⟩
  · obtain ⟨hv, hq⟩ := Prod.mk.inj (s.agreeImages_tiles (is := [a, b]) (.inl rfl) k)
    refine ⟨?_, hq ▸ Nat.testBit_xor ..⟩
    rw [hv]
    refine (testBit_agree2 ..).trans ?_
    cases (a.tiles.getD k 0).testBit j <;> cases (b.tiles.getD k 0).testBit j <;> simp

end Sys2Proof.Machine
end

section
/-! PROOFS. Reads of the latching pairs FRC and T, and of their peek aliases (R10, R282). -/

namespace Sys2Proof.Machine

/-! ### T is a 64-bit word -/

theorem ofSigned_lt (w : Nat) (i : Int) : ofSigned w i < 2 ^ w := by
  have hpos : (0 : Int) < (2 ^ w : Nat) := by exact_mod_cast Nat.two_pow_pos w
  have hlt := Int.emod_lt_of_pos i hpos
  have hnn := Int.emod_nonneg i hpos.ne'
  unfold ofSigned
  omega

theorem TimeParams.toT_lt (p : TimeParams) (f : Nat) : p.toT f < 2 ^ 64 := ofSigned_lt ..

theorem State.tNow_lt (s : State) : s.tNow < 2 ^ 64 := by
  unfold State.tNow State.tOf
  split <;> exact TimeParams.toT_lt ..

/-! ### A read of a latching pair -/

@[simp] theorem State.latchRead_resp (s : State) (v : Nat) (hi : Fld) (peek : Bool) :
    (s.latchRead v hi peek).resp = ⟨0, v % 2 ^ 32⟩ := rfl

theorem State.latchRead_rd_hi (s : State) (v : Nat) (hi : Fld) :
    (s.latchRead v hi false).rd hi = v / 2 ^ 32 % 2 ^ hi.width := State.rd_wr_self ..

/-- A read of the low word latches the high word and changes no other register field. -/
theorem State.onlyRegs_latchRead (s : State) (t v : Nat) (hi : Fld) :
    OnlyRegs s t [hi] ((s.tick t).okay.latchRead v hi false) := by
  refine ⟨rfl, fun f hf => ?_⟩
  have hne : hi.key ≠ f.key := fun h => hf (by simp [h])
  exact State.rd_wr_ne (s.tick t).okay (v / 2 ^ 32) hne

/-- A read of the peek alias changes no register field. -/
theorem State.onlyRegs_peekRead (s : State) (t v : Nat) (hi : Fld) :
    OnlyRegs s t [] ((s.tick t).okay.latchRead v hi true) := ⟨rfl, fun _ _ => rfl⟩

/-! ### The two commands, where the region check passes -/

theorem exec_frcLoRead_pass {s : State} {t : Nat} {a : Attr} {peek : Bool}
    (h : (s.tick t).passes (rsAddr (F.TIME_FRC_FRC 0).addr peek) a false = true) :
    exec (.frcLoRead t a peek) s = .next ((s.tick t).okay.latchRead t (F.TIME_FRC_FRC 1) peek) :=
  (arm_frcLoRead ..).trans (congrArg Host.Outcome.next (State.guarded_pass _ h rfl))

/-- T is taken at the FRC instant of the read. -/
theorem exec_tLoRead_pass {s : State} {t : Nat} {a : Attr} {peek : Bool}
    (h : (s.tick t).passes (rsAddr (F.TIME_T_T 0).addr peek) a false = true) :
    exec (.tLoRead t a peek) s = .next ((s.tick t).okay.latchRead (s.tick t).tNow (F.TIME_T_T 1) peek) :=
  (arm_tLoRead ..).trans (congrArg Host.Outcome.next (State.guarded_pass _ h rfl))

/-- Settles O47: each read is one `latchRead`, of FRC or of T, at the captured instant; the high word of T is not cut, T being
below 2^64. -/
theorem timeReadsLatch : Obligations.TimeReadsLatch := by
  unfold Obligations.TimeReadsLatch
  intro s t a tt
  have hhi : tt / 2 ^ 32 % 2 ^ 32 = tt / 2 ^ 32 := by
    have hlt : tt < 2 ^ 64 := (s.tick t).tNow_lt
    omega
  refine ⟨fun h => ⟨_, exec_frcLoRead_pass h, State.latchRead_resp .., State.onlyRegs_latchRead .., State.latchRead_rd_hi ..⟩,
    fun h => ⟨_, exec_frcLoRead_pass h, State.latchRead_resp .., State.onlyRegs_peekRead ..⟩,
    fun h => ⟨_, exec_tLoRead_pass h, State.latchRead_resp .., State.onlyRegs_latchRead .., ?_⟩,
    fun h => ⟨_, exec_tLoRead_pass h, State.latchRead_resp .., State.onlyRegs_peekRead ..⟩⟩
  exact (State.latchRead_rd_hi ..).trans hhi

end Sys2Proof.Machine
end

section
/-! PROOFS. Rules that the proofs about every block share: folds of updates, completed commands, counters and W1C bits. -/

namespace Sys2Proof.Machine

/-! ### Folds of updates -/

/-- What every update of a fold keeps, the fold keeps. -/
theorem foldl_keeps {σ α β : Type} (p : σ → β) {f : σ → α → σ} (h : ∀ s a, p (f s a) = p s) (l : List α) (s : σ) :
    p (l.foldl f s) = p s := by
  induction l generalizing s with
  | nil => rfl
  | cons a l ih => exact (ih (f s a)).trans (h s a)

/-! ### Completed commands -/

section
variable {c : Instr} {s : State} {P Q : State → Prop}

theorem Ends.mono (h : Ends c s P) (hpq : ∀ s', P s' → Q s') : Ends c s Q := by
  obtain ⟨s', hs', hp⟩ := h
  exact ⟨s', hs', hpq s' hp⟩

/-- A command on a unit that the module has completes. -/
theorem ends_onUnit {b : Bool} {s' : State} (hc : exec c s = onUnit b s') (hb : b = true) (h : P s') : Ends c s P :=
  ⟨s', hc.trans (onUnit_true s' hb), h⟩

end

/-! ### Register fields -/

section
variable (s : State) {f g : Fld}

theorem State.rd_inc_self (f : Fld) : (s.inc f).rd f = satSucc f.width (s.rd f) % 2 ^ f.width := State.rd_wr_self ..

theorem State.rd_inc_ne (h : f.key ≠ g.key) : (s.inc f).rd g = s.rd g := State.rd_wr_ne _ _ h

theorem State.rd_incBy_ne (k : Nat) (h : f.key ≠ g.key) : (s.incBy f k).rd g = s.rd g := State.rd_wr_ne _ _ h

theorem State.rd_setF_ne (h : f.key ≠ g.key) : (s.setF f).rd g = s.rd g := State.rd_wr_ne _ _ h

theorem State.rd_clrF_ne (h : f.key ≠ g.key) : (s.clrF f).rd g = s.rd g := State.rd_wr_ne _ _ h

theorem State.rd_raiseBits_self (f : Fld) (m : Nat) : (s.raiseBits f m).rd f = (s.rd f ||| m) % 2 ^ f.width := State.rd_wr_self ..

theorem State.rd_raiseBits_ne (m : Nat) (h : f.key ≠ g.key) : (s.raiseBits f m).rd g = s.rd g := State.rd_wr_ne s _ h

theorem State.rd_raise_ne (h : f.key ≠ g.key) : (s.raise f).rd g = s.rd g := s.rd_raiseBits_ne 1 h

end

/-- A W1C bit of one bit that hardware sets reads 1. -/
theorem State.rd_raise_bit (s : State) {f : Fld} (hw : f.width = 1) : (s.raise f).rd f = 1 := by
  rw [State.raise, State.rd_raiseBits_self, hw, pow_one]
  simp

@[simp] theorem State.eng_wr (s : State) (f : Fld) (v k : Nat) : (s.wr f v).eng k = s.eng k := rfl

/-! Updates that are no writes of a register field leave them all. -/

@[simp] theorem State.rd_modEng (s : State) (e : Nat) (f : Engine → Engine) (g : Fld) : (s.modEng e f).rd g = s.rd g := rfl
@[simp] theorem State.rd_modChan (s : State) (n : Nat) (f : Channel → Channel) (g : Fld) : (s.modChan n f).rd g = s.rd g := rfl
@[simp] theorem State.rd_modLn (s : State) (l : LaneId) (f : Lane → Lane) (g : Fld) : (s.modLn l f).rd g = s.rd g := rfl
@[simp] theorem State.rd_modInst (s : State) (i : Nat) (f : Inst → Inst) (g : Fld) : (s.modInst i f).rd g = s.rd g := rfl
@[simp] theorem State.rd_modPool (s : State) (q : Nat) (f : Pool → Pool) (g : Fld) : (s.modPool q f).rd g = s.rd g := rfl
@[simp] theorem State.rd_modStn (s : State) (k : Nat) (f : Station → Station) (g : Fld) : (s.modStn k f).rd g = s.rd g := rfl
@[simp] theorem State.rd_modPin (s : State) (u : Nat) (f : Pin → Pin) (g : Fld) : (s.modPin u f).rd g = s.rd g := rfl
@[simp] theorem State.rd_modSeg (s : State) (k : Nat) (f : NetSeg → NetSeg) (g : Fld) : (s.modSeg k f).rd g = s.rd g := rfl
@[simp] theorem State.rd_modCtl (s : State) (c : Nat) (f : CanCtl → CanCtl) (g : Fld) : (s.modCtl c f).rd g = s.rd g := rfl
@[simp] theorem State.rd_modHearth (s : State) (f : HearthSt → HearthSt) (g : Fld) : (s.modHearth f).rd g = s.rd g := rfl
@[simp] theorem State.rd_modPwr (s : State) (f : PowerSt → PowerSt) (g : Fld) : (s.modPwr f).rd g = s.rd g := rfl
@[simp] theorem State.rd_store (s : State) (a : Nat) (bs : List Nat) (g : Fld) : (s.store a bs).rd g = s.rd g := rfl
@[simp] theorem State.rd_pushed (s : State) (a : Nat) (g : Fld) : (s.pushed a).rd g = s.rd g := rfl

end Sys2Proof.Machine
end

section
/-! PROOFS. The encoder and the decoder of Dervos words agree (R193): the fields of a word of each format read back. -/

namespace Sys2Proof

/-! ### The fields of a word -/

/-- A field of a word, given what lies above it and below it. -/
theorem bits_eq_of {w hi lo v : Nat} (above below : Nat) (hw : w = 2 ^ (hi + 1) * above + 2 ^ lo * v + below)
    (hlo : lo ≤ hi) (hv : v < 2 ^ (hi + 1 - lo)) (hb : below < 2 ^ lo) : bits w hi lo = v := by
  have hpow : 2 ^ (hi + 1) = 2 ^ lo * 2 ^ (hi + 1 - lo) := by rw [← pow_add]; congr 1; omega
  have hsplit : w = 2 ^ lo * (2 ^ (hi + 1 - lo) * above + v) + below := by rw [hw, hpow]; ring
  rw [bits, hsplit, Nat.mul_add_div (Nat.two_pow_pos lo), Nat.div_eq_of_lt hb, Nat.add_zero, Nat.mul_add_mod,
    Nat.mod_eq_of_lt hv]

theorem bits_low {v hi : Nat} (hv : v < 2 ^ (hi + 1)) : bits v hi 0 = v := by simp [bits, Nat.mod_eq_of_lt hv]

section
variable {op rd ra rb imm fn : Nat}

theorem encI_lt (hd : rd < 16) (ha : ra < 16) (hi : imm < 262144) (hop : op < 64) : encI op rd ra imm < 2 ^ 32 := by
  unfold encI; omega

theorem bits_encI_op (hd : rd < 16) (ha : ra < 16) (hi : imm < 262144) (hop : op < 64) : bits (encI op rd ra imm) 31 26 = op :=
  bits_eq_of 0 (2 ^ 22 * rd + 2 ^ 18 * ra + imm) (by unfold encI; omega) (by omega) (by omega) (by omega)

theorem bits_encI_rd (hd : rd < 16) (ha : ra < 16) (hi : imm < 262144) : bits (encI op rd ra imm) 25 22 = rd :=
  bits_eq_of op (2 ^ 18 * ra + imm) (by unfold encI; omega) (by omega) (by omega) (by omega)

theorem bits_encI_ra (ha : ra < 16) (hi : imm < 262144) : bits (encI op rd ra imm) 21 18 = ra :=
  bits_eq_of (2 ^ 4 * op + rd) imm (by unfold encI; omega) (by omega) (by omega) (by omega)

/-- The fields below bit 18 lie in imm. -/
theorem bits_encI_low {hi lo : Nat} (hh : hi < 18) (hlo : lo ≤ hi) :
    bits (encI op rd ra imm) hi lo = bits imm hi lo := by
  have hsplit : encI op rd ra imm = 2 ^ (hi + 1) * (2 ^ (17 - hi) * (2 ^ 8 * op + 2 ^ 4 * rd + ra)) + imm := by
    rw [← mul_assoc, ← pow_add, show hi + 1 + (17 - hi) = 18 by omega]; unfold encI; ring
  have hpow : 2 ^ (hi + 1) = 2 ^ lo * 2 ^ (hi + 1 - lo) := by rw [← pow_add]; congr 1; omega
  rw [bits, bits, hsplit, hpow, mul_assoc, Nat.mul_add_div (Nat.two_pow_pos lo), Nat.mul_add_mod]

theorem testBit_eq_bits (n k : Nat) : n.testBit k = decide (bits n k k = 1) := by
  simp [Nat.testBit_eq_decide_div_mod_eq, bits]

/-- A word of format R is one of format I whose imm holds rb and fn. -/
theorem encR_eq_encI : encR op rd ra rb fn = encI op rd ra (16384 * rb + fn) := by unfold encR encI; ring

theorem encR_zero : encR op rd ra 0 fn = encI op rd ra fn := by unfold encR encI; ring

theorem bits_imm_rb (hb : rb < 16) (hf : fn < 16384) : bits (16384 * rb + fn) 17 14 = rb :=
  bits_eq_of 0 fn (by omega) (by omega) (by omega) (by omega)

theorem bits_encU_imm (hi : imm < 4194304) : bits (encU op rd imm) 21 0 = imm :=
  bits_eq_of (2 ^ 4 * op + rd) 0 (by unfold encU; omega) (by omega) (by omega) (by omega)

/-- A word of format U is one of format I whose ra and imm18 hold imm22. -/
theorem encU_eq_encI : encU op rd imm = encI op rd (imm / 262144) (imm % 262144) := by unfold encU encI; omega

end

theorem bit_le_one (b : Bool) : bit b ≤ 1 := by cases b <;> decide

/-- The function field of SATQ, EXT and INS holds its fields side by side. -/
theorem bits_fnSatq {n : Nat} (u : Bool) (hn : 1 ≤ n ∧ n ≤ 32) :
    bits (32 * bit u + (n - 1)) 4 0 + 1 = n ∧ bits (32 * bit u + (n - 1)) 5 5 = bit u := by
  have := bit_le_one u
  simp only [bits]
  omega

theorem bits_fnExt {pos len : Nat} (sx w : Bool) (hp : pos < 32) (hl : 1 ≤ len ∧ len ≤ 32) :
    let fn := 512 * pos + 16 * (len - 1) + 8 * bit sx + 4 * bit w
    bits fn 13 9 = pos ∧ bits fn 8 4 + 1 = len ∧ bits fn 3 3 = bit sx ∧ bits fn 2 2 = bit w := by
  have := bit_le_one sx
  have := bit_le_one w
  simp only [bits]
  omega

theorem bits_fnIns {pos len : Nat} (w : Bool) (hp : pos < 32) (hl : 1 ≤ len ∧ len ≤ 32) :
    let fn := 512 * pos + 16 * (len - 1) + 4 * bit w
    bits fn 13 9 = pos ∧ bits fn 8 4 + 1 = len ∧ bits fn 2 2 = bit w := by
  have := bit_le_one w
  simp only [bits]
  omega

@[simp] theorem decide_bit_eq_one (b : Bool) : decide (bit b = 1) = b := by cases b <;> rfl

/-! ### The instructions, format by format -/

/-- Settles O37, format by format: every word is one of format I, whose opcode, rd and ra read back, and the rest of its fields are
read from imm. -/
theorem dervosDecodeOfEncode : Obligations.DervosDecodeOfEncode := by
  unfold Obligations.DervosDecodeOfEncode
  intro i e w hwf henc
  cases i with
  | dAdd e rd ra rb | dSub e rd ra rb | dAnd e rd ra rb | dOr e rd ra rb | dXor e rd ra rb | dShl e rd ra rb
  | dShr e rd ra rb | dSra e rd ra rb | dSlt e rd ra rb | dSltu e rd ra rb | dMul e rd ra rb | dMin e rd ra rb
  | dMax e rd ra rb | dAdds e rd ra rb | dSubs e rd ra rb =>
    obtain ⟨rfl, rfl⟩ := Prod.mk.inj (Option.some.inj henc)
    simp only [Instr.wf, regOk, Bool.and_eq_true, decide_eq_true_eq] at hwf
    obtain ⟨⟨⟨-, hd⟩, ha⟩, hb⟩ := hwf
    have hi : 16384 * rb + 0 < 262144 := by omega
    rw [encR_eq_encI]
    refine ⟨encI_lt hd ha hi (by decide), ?_⟩
    simp only [decodeDervos, bits_encI_op hd ha hi, bits_encI_rd hd ha hi, bits_encI_ra ha hi, bits_encI_low, bits_imm_rb hb,
      Nat.reduceLT, Nat.reduceLeDiff]
  | dAddi e rd ra imm | dAndi e rd ra imm | dOri e rd ra imm | dXori e rd ra imm | dShli e rd ra imm | dShri e rd ra imm
  | dSrai e rd ra imm | dSlti e rd ra imm | dLdw e rd ra imm | dLdh e rd ra imm | dLdhu e rd ra imm | dLdb e rd ra imm
  | dLdbu e rd ra imm | dStw e rd ra imm | dSth e rd ra imm | dStb e rd ra imm | dCstw e rd ra imm | dJalr e rd ra imm =>
    obtain ⟨rfl, rfl⟩ := Prod.mk.inj (Option.some.inj henc)
    simp only [Instr.wf, regOk, fieldOk, Bool.and_eq_true, decide_eq_true_eq] at hwf
    obtain ⟨⟨⟨-, hd⟩, ha⟩, hi⟩ := hwf
    refine ⟨encI_lt hd ha hi (by decide), ?_⟩
    simp only [decodeDervos, bits_encI_op hd ha hi, bits_encI_rd hd ha hi, bits_encI_ra ha hi, bits_encI_low, bits_low hi,
      Nat.reduceLT, Nat.reduceLeDiff]
  | dBeq e ra rb off | dBne e ra rb off | dBlt e ra rb off | dBge e ra rb off | dBltu e ra rb off | dBgeu e ra rb off =>
    obtain ⟨rfl, rfl⟩ := Prod.mk.inj (Option.some.inj henc)
    simp only [Instr.wf, regOk, fieldOk, Bool.and_eq_true, decide_eq_true_eq] at hwf
    obtain ⟨⟨⟨-, ha⟩, hb⟩, hi⟩ := hwf
    refine ⟨encI_lt ha hb hi (by decide), ?_⟩
    simp only [decodeDervos, bits_encI_op ha hb hi, bits_encI_rd ha hb hi, bits_encI_ra hb hi, bits_encI_low, bits_low hi,
      Nat.reduceLT, Nat.reduceLeDiff]
  | dLui e rd imm | dJal e rd imm =>
    obtain ⟨rfl, rfl⟩ := Prod.mk.inj (Option.some.inj henc)
    simp only [Instr.wf, regOk, fieldOk, Bool.and_eq_true, decide_eq_true_eq] at hwf
    obtain ⟨⟨-, hd⟩, hi⟩ := hwf
    have ha : imm / 262144 < 16 := by omega
    have hl : imm % 262144 < 262144 := by omega
    refine ⟨encU_eq_encI ▸ encI_lt hd ha hl (by decide), ?_⟩
    simp only [decodeDervos, bits_encU_imm hi]
    simp only [encU_eq_encI, bits_encI_op hd ha hl, bits_encI_rd hd ha hl, Nat.reduceLT]
  | dPop e rd rs q | dPush e rd rs q | dPeekq e rd rs q =>
    obtain ⟨rfl, rfl⟩ := Prod.mk.inj (Option.some.inj henc)
    simp only [Instr.wf, regOk, fieldOk, Bool.and_eq_true, decide_eq_true_eq] at hwf
    obtain ⟨⟨⟨-, hd⟩, hs⟩, hq⟩ := hwf
    have hi : q < 262144 := by omega
    refine ⟨encI_lt hd hs hi (by decide), ?_⟩
    simp only [decodeDervos, bits_encI_op hd hs hi, bits_encI_rd hd hs hi, bits_encI_ra hs hi, bits_encI_low, bits_low hq,
      Nat.reduceLT, Nat.reduceLeDiff]
  | dMulq e rd ra rb sh =>
    obtain ⟨rfl, rfl⟩ := Prod.mk.inj (Option.some.inj henc)
    simp only [Instr.wf, regOk, fieldOk, Bool.and_eq_true, decide_eq_true_eq] at hwf
    obtain ⟨⟨⟨⟨-, hd⟩, ha⟩, hb⟩, hs⟩ := hwf
    have hi : 16384 * rb + sh < 262144 := by omega
    have hsh : bits (16384 * rb + sh) 4 0 = sh := bits_eq_of (2 ^ 9 * rb) 0 (by omega) (by omega) (by omega) (by omega)
    rw [encR_eq_encI]
    refine ⟨encI_lt hd ha hi (by decide), ?_⟩
    simp only [decodeDervos, bits_encI_op hd ha hi, bits_encI_rd hd ha hi, bits_encI_ra ha hi, bits_encI_low,
      bits_imm_rb hb (by omega : sh < 16384), hsh, Nat.reduceLT, Nat.reduceLeDiff]
  | dSatq e rd ra u n =>
    obtain ⟨rfl, rfl⟩ := Prod.mk.inj (Option.some.inj henc)
    simp only [Instr.wf, regOk, lengthOk, Bool.and_eq_true, decide_eq_true_eq] at hwf
    obtain ⟨⟨⟨-, hd⟩, ha⟩, hn⟩ := hwf
    obtain ⟨hlen, hu⟩ := bits_fnSatq u hn
    have hi : 32 * bit u + (n - 1) < 262144 := by have := bit_le_one u; omega
    rw [encR_zero]
    refine ⟨encI_lt hd ha hi (by decide), ?_⟩
    simp only [decodeDervos, testBit_eq_bits, bits_encI_op hd ha hi, bits_encI_rd hd ha hi, bits_encI_ra ha hi, bits_encI_low,
      hlen, hu, decide_bit_eq_one, Nat.reduceLT, Nat.reduceLeDiff, le_refl]
  | dExt e rd ra pos len sx w =>
    obtain ⟨rfl, rfl⟩ := Prod.mk.inj (Option.some.inj henc)
    simp only [Instr.wf, regOk, fieldOk, lengthOk, Bool.and_eq_true, decide_eq_true_eq] at hwf
    obtain ⟨⟨⟨⟨-, hd⟩, ha⟩, hp⟩, hl⟩ := hwf
    obtain ⟨hpos, hlen, hsx, hw⟩ := bits_fnExt sx w hp hl
    have hi : 512 * pos + 16 * (len - 1) + 8 * bit sx + 4 * bit w < 262144 := by
      have := bit_le_one sx; have := bit_le_one w; omega
    rw [encR_zero]
    refine ⟨encI_lt hd ha hi (by decide), ?_⟩
    simp only [decodeDervos, testBit_eq_bits, bits_encI_op hd ha hi, bits_encI_rd hd ha hi, bits_encI_ra ha hi, bits_encI_low,
      hpos, hlen, hsx, hw, decide_bit_eq_one, Nat.reduceLT, Nat.reduceLeDiff, le_refl]
  | dIns e rd ra pos len w =>
    obtain ⟨rfl, rfl⟩ := Prod.mk.inj (Option.some.inj henc)
    simp only [Instr.wf, regOk, fieldOk, lengthOk, Bool.and_eq_true, decide_eq_true_eq] at hwf
    obtain ⟨⟨⟨⟨-, hd⟩, ha⟩, hp⟩, hl⟩ := hwf
    obtain ⟨hpos, hlen, hw⟩ := bits_fnIns w hp hl
    have hi : 512 * pos + 16 * (len - 1) + 4 * bit w < 262144 := by have := bit_le_one w; omega
    rw [encR_zero]
    refine ⟨encI_lt hd ha hi (by decide), ?_⟩
    simp only [decodeDervos, testBit_eq_bits, bits_encI_op hd ha hi, bits_encI_rd hd ha hi, bits_encI_ra ha hi, bits_encI_low,
      hpos, hlen, hw, decide_bit_eq_one, Nat.reduceLT, Nat.reduceLeDiff, le_refl]
  | dWait e rd ra =>
    obtain ⟨rfl, rfl⟩ := Prod.mk.inj (Option.some.inj henc)
    simp only [Instr.wf, regOk, Bool.and_eq_true, decide_eq_true_eq] at hwf
    obtain ⟨⟨-, hd⟩, ha⟩ := hwf
    have hi : 0 < 262144 := by decide
    rw [encR_zero]
    refine ⟨encI_lt hd ha hi (by decide), ?_⟩
    simp only [decodeDervos, bits_encI_op hd ha hi, bits_encI_rd hd ha hi, bits_encI_ra ha hi, Nat.reduceLT]
  | dTset e ra mode k =>
    obtain ⟨rfl, rfl⟩ := Prod.mk.inj (Option.some.inj henc)
    simp only [Instr.wf, regOk, fieldOk, Bool.and_eq_true, decide_eq_true_eq] at hwf
    obtain ⟨⟨⟨-, ha⟩, hm⟩, hk⟩ := hwf
    have hd : 0 < 16 := by decide
    have hi : 16 * mode + k < 262144 := by omega
    have hmode : bits (16 * mode + k) 5 4 = mode := bits_eq_of 0 k (by omega) (by omega) (by omega) (by omega)
    have hk' : bits (16 * mode + k) 2 0 = k := bits_eq_of (2 * mode) 0 (by omega) (by omega) (by omega) (by omega)
    rw [encR_zero]
    refine ⟨encI_lt hd ha hi (by decide), ?_⟩
    simp only [decodeDervos, bits_encI_op hd ha hi, bits_encI_ra ha hi, bits_encI_low, hmode, hk', Nat.reduceLT, Nat.reduceLeDiff]
  | dTclr e k =>
    obtain ⟨rfl, rfl⟩ := Prod.mk.inj (Option.some.inj henc)
    simp only [Instr.wf, fieldOk, Bool.and_eq_true, decide_eq_true_eq] at hwf
    have hd : 0 < 16 := by decide
    have hi : k < 262144 := by omega
    rw [encR_zero]
    refine ⟨encI_lt hd hd hi (by decide), ?_⟩
    simp only [decodeDervos, bits_encI_op hd hd hi, bits_encI_low, bits_low hwf.2, Nat.reduceLT, Nat.reduceLeDiff]
  | dMovs e rd sel =>
    obtain ⟨rfl, rfl⟩ := Prod.mk.inj (Option.some.inj henc)
    simp only [Instr.wf, regOk, fieldOk, Bool.and_eq_true, decide_eq_true_eq] at hwf
    obtain ⟨⟨-, hd⟩, hs⟩ := hwf
    have ha : 0 < 16 := by decide
    have hi : sel < 262144 := by omega
    rw [encR_zero]
    refine ⟨encI_lt hd ha hi (by decide), ?_⟩
    simp only [decodeDervos, bits_encI_op hd ha hi, bits_encI_rd hd ha hi, bits_encI_low, bits_low hs, Nat.reduceLT,
      Nat.reduceLeDiff]
  | dSets e ra sel =>
    obtain ⟨rfl, rfl⟩ := Prod.mk.inj (Option.some.inj henc)
    simp only [Instr.wf, regOk, fieldOk, Bool.and_eq_true, decide_eq_true_eq] at hwf
    obtain ⟨⟨-, ha⟩, hs⟩ := hwf
    have hd : 0 < 16 := by decide
    have hi : sel < 262144 := by omega
    rw [encR_zero]
    refine ⟨encI_lt hd ha hi (by decide), ?_⟩
    simp only [decodeDervos, bits_encI_op hd ha hi, bits_encI_ra ha hi, bits_encI_low, bits_low hs, Nat.reduceLT,
      Nat.reduceLeDiff]
  | _ => simp [encodeDervos] at henc

end Sys2Proof
end

section
/-! PROOFS. What the operations on engines leave unchanged: each engine's pc and data memory stand through faults, stops, drains and
offers, and so does the soundness of all engines through every Dervos instruction (R179, R193). -/

namespace Sys2Proof.Machine

/-! ### One engine changed -/

@[simp] theorem State.eng_modEng_self (s : State) (e : Nat) (f : Engine → Engine) : (s.modEng e f).eng e = f (s.eng e) :=
  Tbl.getD_put_self ..

theorem State.eng_modEng_ne (s : State) {e k : Nat} (f : Engine → Engine) (h : e ≠ k) : (s.modEng e f).eng k = s.eng k :=
  Tbl.getD_put_ne _ _ _ h

theorem State.eng_congr {s s' : State} (h : s'.dve = s.dve) (k : Nat) : s'.eng k = s.eng k := by
  unfold State.eng; rw [h]

/-! ### What of every engine stands -/

/-- A reading of an engine that its ports, edges, drains and waiting entries do not enter. -/
def Engine.Ignores {α : Type} (p : Engine → α) : Prop := ∀ x ports edges drains order,
  p { x with ports := ports, edges := edges, drains := drains, order := order } = p x

/-- Every engine reads as in `s`. -/
def State.SameEng {α : Type} (p : Engine → α) (s s' : State) : Prop := ∀ k, p (s'.eng k) = p (s.eng k)

namespace State.SameEng

variable {α : Type} {p : Engine → α} {s s' s'' : State}

theorem refl (s : State) : s.SameEng p s := fun _ => rfl

theorem trans (h : s.SameEng p s') (h' : s'.SameEng p s'') : s.SameEng p s'' := fun k => (h' k).trans (h k)

theorem of_engines (h : s'.dve.engines = s.dve.engines) : s.SameEng p s' := fun k => by unfold State.eng; rw [h]

theorem of_dve (h : s'.dve = s.dve) : s.SameEng p s' := of_engines (by rw [h])

theorem modEng {f : Engine → Engine} {e : Nat} (h : p (f (s.eng e)) = p (s.eng e)) : s.SameEng p (s.modEng e f) := fun k => by
  by_cases hk : e = k
  · subst hk; rwa [State.eng_modEng_self]
  · rw [State.eng_modEng_ne s f hk]

/-- A fold of updates each of which keeps the reading. -/
theorem foldl {β : Type} {f : State → β → State} (hf : ∀ (s : State) a, s.SameEng p (f s a)) (s : State) (l : List β) :
    s.SameEng p (l.foldl f s) :=
  List.foldlRecOn l f (refl s) fun s' h a _ => h.trans (hf s' a)

end State.SameEng

theorem State.notePeak_dve (s : State) (e : Nat) : (s.notePeak e).dve = s.dve := by
  unfold State.notePeak; dsimp only; split <;> rfl

theorem State.updates_dve (s : State) (a v : Nat) : (s.updates a v).dve = s.dve := by
  unfold State.updates; split <;> rfl

theorem State.complete_dve (s : State) (i st w : Nat) : (s.complete i st w).dve = s.dve := by
  unfold State.complete; dsimp only; split <;> rfl

theorem State.countRefusal_dve (s : State) (i : Nat) (v : Admit) : (s.countRefusal i v).dve = s.dve := by cases v <;> rfl

theorem State.ringPutEntry_dve (s : State) (r : Nat) (en : Entry) : (s.ringPutEntry r en).dve = s.dve :=
  List.foldlRecOn (motive := fun s' : State => s'.dve = s.dve) (List.range (s.ringWords r)) _ rfl fun _ h _ _ => h

theorem State.offer_dve (s : State) (q : Nat) (en : Entry) : (s.offer q en).2.dve = s.dve := by
  unfold State.offer
  split
  · split
    · rfl
    · exact s.countRefusal_dve ..
  · dsimp only
    split
    · rfl
    · split
      · rfl
      · split
        · exact s.ringPutEntry_dve ..
        · exact s.countRefusal_dve ..

/-- A fold of changes of ports changes nothing of the engine but its ports. -/
theorem Engine.foldl_modPort (g : Port → Port) (x : Engine) (qs : List Nat) :
    ∃ ports, qs.foldl (fun x q => x.modPort q g) x = { x with ports := ports } := by
  induction qs generalizing x with
  | nil => exact ⟨x.ports, rfl⟩
  | cons q qs ih =>
    obtain ⟨ports, h⟩ := ih (x.modPort q g)
    exact ⟨ports, h⟩

section
variable {α : Type} {p : Engine → α} (hp : Engine.Ignores p) (s : State)
include hp

theorem State.sameEng_chanTo (n : Nat) (c : ChState) : s.SameEng p (s.chanTo n c) := by
  refine State.SameEng.trans (s' := if c = .latched then s.updates (F.CH_STAT_RETRY_CNT n).addr (s.chStat n) else s) ?_ ?_
  · split
    · exact .of_dve (State.updates_dve ..)
    · exact .refl s
  · exact State.SameEng.modEng (f := fun x => { x with edges := maskSet x.edges 30 }) (hp _ _ _ _ _)

theorem State.sameEng_latchChannels (e : Nat) : s.SameEng p (s.latchChannels e) := by
  unfold State.latchChannels
  split
  · refine .foldl (fun s n => ?_) s _
    split
    · exact s.sameEng_chanTo hp n .latched
    · exact s.sameEng_chanTo hp n .latched
    · exact s.sameEng_chanTo hp n .latched
    · exact s.sameEng_chanTo hp n .latched
    · exact .refl s
    · exact .refl s
  · exact .refl s

theorem State.sameEng_drainEngine (e i : Nat) : s.SameEng p (s.drainEngine e i) := by
  unfold State.drainEngine
  extract_lets x take ins lens y z s₁ s₂ s₃
  obtain ⟨py, hy⟩ : ∃ ports, y = { x with ports := ports } := Engine.foldl_modPort (fun p => (take p).2) x ins
  obtain ⟨pz, hz⟩ : ∃ ports, z = { y with ports := ports } := Engine.foldl_modPort _ y (List.range 16)
  clear_value z y
  subst hy hz
  have h₁ : s.SameEng p s₁ := .modEng (hp x _ _ _ _)
  have h₂ : s₁.SameEng p s₂ := .foldl (fun s _ => .of_dve (s.complete_dve ..)) s₁ lens
  have h₃ : s₂.SameEng p s₃ := .of_dve rfl
  exact (h₁.trans h₂).trans (h₃.trans (.of_dve rfl))

theorem State.sameEng_drainAll (e : Nat) : s.SameEng p (s.drainAll e) :=
  .foldl (fun s i => s.sameEng_drainEngine hp e i) s _

theorem State.sameEng_offerPort (e h : Nat) : s.SameEng p (s.offerPort e h) := by
  unfold State.offerPort
  split
  · exact .refl s
  · split
    · exact .refl s
    · next q _ en _ _ =>
      have hdve := s.offer_dve h en
      split
      · next s' heq =>
        rw [heq] at hdve
        exact (State.SameEng.of_dve hdve).trans (.modEng (hp (s'.eng e) _ _ _ _))
      · next s' _ heq =>
        rw [heq] at hdve
        exact .of_dve hdve

theorem State.sameEng_offerQ (h n : Nat) (left : List Nat) : s.SameEng p (s.offerQ h n left) := by
  induction n generalizing s left with
  | zero => exact .refl s
  | succ n ih =>
    unfold State.offerQ
    split
    · exact .refl s
    · next e _ =>
      extract_lets s₁
      have h₁ : s.SameEng p s₁ := by
        simp only [s₁]
        split
        · exact .of_dve rfl
        · exact .refl s
      exact ((h₁.trans (.of_engines rfl)).trans (State.sameEng_offerPort hp { s₁ with dve := { s₁.dve with pointer := (e + 1) % 16 } } e h)).trans
        (ih (State.offerPort { s₁ with dve := { s₁.dve with pointer := (e + 1) % 16 } } e h) (left.erase e))

end

/-! ### The pc and the data memory of every engine stand -/

/-- An engine's pc and data memory. -/
def Engine.core (x : Engine) : Nat × List Host.Cell := (x.pc, x.dmem)

theorem Engine.ignores_core : Engine.Ignores Engine.core := fun _ _ _ _ _ => rfl

theorem State.sameCore_engFault (s : State) (e : Nat) (c : EngCause) : s.SameEng Engine.core (s.engFault e c) := by
  unfold State.engFault
  extract_lets s₁ s₂ s₃
  have h₁ : s.SameEng Engine.core s₁ := (State.SameEng.of_dve (s.notePeak_dve e)).trans (.modEng rfl)
  have h₂ : s₁.SameEng Engine.core s₂ := .of_dve rfl
  have h₃ : s₂.SameEng Engine.core s₃ := .of_dve rfl
  exact (h₁.trans (h₂.trans h₃)).trans ((s₃.sameEng_latchChannels Engine.ignores_core e).trans
    (State.sameEng_drainAll Engine.ignores_core _ e))

/-! ### The soundness of all engines -/

/-- Every engine is sound. -/
def State.EnginesSound (s : State) : Prop := ∀ k, (s.eng k).sound = true

theorem Engine.sound_iff (x : Engine) : x.sound = true ↔ x.pc % 4 = 0 ∧ x.pc ≤ 0xFFFC ∧ Memory.wf x.dmem = true := by
  simp [Engine.sound, and_assoc]

theorem State.SameEng.sound {s s' : State} (h : s.SameEng Engine.core s') (hs : s.EnginesSound) : s'.EnginesSound := fun k => by
  obtain ⟨hpc, hmem⟩ := Prod.mk.inj (h k)
  have hk := hs k
  rw [Engine.sound_iff] at hk ⊢
  rwa [hpc, hmem]

theorem State.EnginesSound.of_dve {s s' : State} (hs : s.EnginesSound) (h : s'.dve = s.dve) : s'.EnginesSound :=
  (State.SameEng.of_dve h).sound hs

theorem State.EnginesSound.modEng {s : State} {e : Nat} {f : Engine → Engine} (hs : s.EnginesSound) (hf : (f (s.eng e)).sound = true) :
    (s.modEng e f).EnginesSound := fun k => by
  by_cases hk : e = k
  · subst hk; rwa [State.eng_modEng_self]
  · rw [State.eng_modEng_ne s f hk]; exact hs k

theorem State.offerQ_sound {s : State} {h n : Nat} {left : List Nat} (hs : s.EnginesSound) : (s.offerQ h n left).EnginesSound :=
  (s.sameEng_offerQ Engine.ignores_core h n left).sound hs

/-- An effect leaves all engines sound and goes to a word address. -/
def Eff.Sound : Eff → Prop
  | .ok s pc _ _ => s.EnginesSound ∧ pc % 4 = 0
  | .fault _ => True

/-- Retiring a sound effect leaves all engines sound: pc is checked, and a fault changes no pc. -/
theorem State.EnginesSound.retire {s : State} {e : Nat} {f : Eff} (hs : s.EnginesSound) (hf : f.Sound) :
    (s.retire e f).EnginesSound := by
  cases f with
  | fault c => exact (s.sameCore_engFault e c).sound hs
  | ok s' pc n b =>
    change (if 0xFFFC < pc then s.engFault e .pcRange else s'.modEng e fun x =>
      { x with pc := pc, cycles := x.cycles + n, burst := x.burst + b }).EnginesSound
    split
    · exact (s.sameCore_engFault e .pcRange).sound hs
    · next hpc =>
      have hm := ((Engine.sound_iff _).1 (hf.1 e)).2.2
      exact hf.1.modEng ((Engine.sound_iff _).2 ⟨hf.2, Nat.le_of_not_lt hpc, hm⟩)

/-- An instruction whose effect on sound engines is sound keeps them sound. -/
theorem runDv_sound {e : Nat} {f : State → Engine → Eff} {s s' : State}
    (hf : ∀ s : State, s.EnginesSound → (f s (s.eng e)).Sound) (hs : s.EnginesSound) (h : runDv e f s = .next s') :
    s'.EnginesSound := by
  have ho : s.onward.EnginesSound := hs.of_dve rfl
  unfold runDv onUnit at h
  split at h
  · obtain rfl := Host.Outcome.next.inj h
    split
    · refine ho.retire ?_
      split
      · trivial
      · exact hf _ ho
    · exact hs
  · cases h

/-! ### The shapes of an effect -/

theorem Engine.setG_pc (x : Engine) (k : Nat) (v : Word) : (x.setG k v).pc = x.pc := by unfold Engine.setG; split <;> rfl

theorem Engine.setG_dmem (x : Engine) (k : Nat) (v : Word) : (x.setG k v).dmem = x.dmem := by unfold Engine.setG; split <;> rfl

theorem Engine.setG_sound (x : Engine) (k : Nat) (v : Word) : (x.setG k v).sound = x.sound := by
  simp only [Engine.sound, Engine.setG_pc, Engine.setG_dmem]

theorem plain_sound {s : State} {e n : Nat} {x : Engine} (hs : s.EnginesSound) (hx : x.sound = true) : (plain s e x n).Sound :=
  ⟨hs.modEng hx, by have := ((Engine.sound_iff x).1 hx).1; omega⟩

theorem writeG_sound {s : State} {e rd n : Nat} {x : Engine} {v : Word} (hs : s.EnginesSound) (hx : x.sound = true) :
    (writeG s e rd x v n).Sound := by
  have hpc : (x.setG rd v).sound = true := by rwa [Engine.setG_sound]
  exact plain_sound hs hpc

theorem writeSat_sound {s : State} {e rd n : Nat} {x : Engine} {v lo hi : Int} (hs : s.EnginesSound) (hx : x.sound = true) :
    (writeSat s e rd x v lo hi n).Sound := by
  unfold writeSat
  refine writeG_sound ?_ hx
  split
  · exact hs
  · exact hs.of_dve rfl

theorem Engine.storeBytes_sound {x : Engine} (a n v : Nat) (hx : x.sound = true) : (x.storeBytes a n v).sound = true := by
  obtain ⟨h4, hpc, hwf⟩ := (Engine.sound_iff x).1 hx
  exact (Engine.sound_iff _).2 ⟨h4, hpc, Memory.wf_writeRun _ _ hwf⟩

/-- A branch target is a word address, the pc being one. -/
theorem target_word {pc : Nat} (off : Word) (h : pc % 4 = 0) : target pc off % 4 = 0 := by
  unfold target
  have h4 : (4 : Word).toNat = 4 := rfl
  simp only [BitVec.toNat_add, BitVec.toNat_mul, BitVec.toNat_ofNat, h4]
  omega

/-! ### The instructions, kind by kind -/

section
variable {s s' : State} {e : Nat}

theorem loadNarrow_sound {n rd ra imm : Nat} {ext : Nat → Word} (hs : s.EnginesSound)
    (h : loadNarrow n ext e rd ra imm s = .next s') : s'.EnginesSound := by
  refine runDv_sound (fun s hs => ?_) hs h
  dsimp only
  split
  · trivial
  · split
    · split
      · trivial
      · exact writeG_sound hs (hs e)
    · trivial

theorem storeData_sound {n rs ra imm : Nat} (hs : s.EnginesSound) (h : storeData n e rs ra imm s = .next s') :
    s'.EnginesSound := by
  refine runDv_sound (fun s hs => ?_) hs h
  dsimp only
  split
  · trivial
  · split
    · split
      · trivial
      · exact plain_sound hs (Engine.storeBytes_sound _ _ _ (hs e))
    · trivial

theorem branch_sound {cond : Word → Word → Bool} {ra rb off : Nat} (hs : s.EnginesSound)
    (h : branch cond e ra rb off s = .next s') : s'.EnginesSound := by
  refine runDv_sound (fun s hs => show Eff.Sound (.ok s _ 1) from ⟨hs, ?_⟩) hs h
  have hpc := ((Engine.sound_iff _).1 (hs e)).1
  split
  · exact target_word _ hpc
  · omega

theorem popPeek_sound {pop : Bool} {rd rs q : Nat} (hs : s.EnginesSound) (h : popPeek pop e rd rs q s = .next s') :
    s'.EnginesSound := by
  refine runDv_sound (fun s hs => ?_) hs h
  dsimp only
  split
  · trivial
  · split
    · exact writeG_sound hs (hs e)
    · refine writeG_sound hs ?_
      rw [Engine.setG_sound]
      split <;> exact hs e

theorem execDPush_sound {rd rs q : Nat} (hs : s.EnginesSound) (h : execDPush e rd rs q s = .next s') : s'.EnginesSound := by
  refine runDv_sound (fun s hs => ?_) hs h
  extract_lets q p v s₁ s₂ x
  have h₁ : s₁.EnginesSound := hs.modEng (hs e)
  have h₂ : s₂.EnginesSound := by
    simp only [s₂]
    split
    · exact State.offerQ_sound (h₁.modEng (h₁ e))
    · exact h₁
  split
  · trivial
  · split
    · exact writeG_sound (hs.of_dve rfl) (hs e)
    · exact writeG_sound h₂ (h₂ e)

theorem execDWait_sound {rd ra : Nat} (hs : s.EnginesSound) (h : execDWait e rd ra s = .next s') : s'.EnginesSound := by
  refine runDv_sound (fun s hs => ?_) hs h
  extract_lets s₁ x mask ev
  have h₁ : s₁.EnginesSound := ((s.sameEng_drainAll Engine.ignores_core e).trans (.modEng rfl)).sound hs
  have hpc : x.pc % 4 = 0 := ((Engine.sound_iff _).1 (h₁ e)).1
  split
  · refine ⟨((State.SameEng.of_dve (s₁.notePeak_dve e)).trans (.modEng ?_)).sound h₁, by omega⟩
    exact Prod.ext (Engine.setG_pc ..) (Engine.setG_dmem ..)
  · split
    · trivial
    · exact ⟨((State.SameEng.of_dve (s₁.notePeak_dve e)).trans (.modEng rfl)).sound h₁, hpc⟩

end

/-- Settles O38: an instruction moves pc to a word address, which is checked, and writes data memory a byte at a time; faults, drains
and offers change neither (`State.SameEng Engine.core`). -/
theorem dervosKeepsEnginesSound : Obligations.DervosKeepsEnginesSound := by
  unfold Obligations.DervosKeepsEnginesSound
  intro i e w s s' henc hs h
  change s'.EnginesSound
  cases i with
  | dAdd | dSub | dAnd | dOr | dXor | dShl | dShr | dSra | dSlt | dSltu | dMul | dMin | dMax | dAddi | dAndi | dOri | dXori
  | dShli | dShri | dSrai | dSlti | dLui =>
    simp only [arm_dAdd, arm_dSub, arm_dAnd, arm_dOr, arm_dXor, arm_dShl, arm_dShr, arm_dSra, arm_dSlt, arm_dSltu, arm_dMul,
      arm_dMin, arm_dMax, arm_dAddi, arm_dAndi, arm_dOri, arm_dXori, arm_dShli, arm_dShri, arm_dSrai, arm_dSlti, arm_dLui,
      execDAdd, execDSub, execDAnd, execDOr, execDXor, execDShl, execDShr, execDSra, execDSlt, execDSltu, execDMul, execDMin,
      execDMax, execDAddi, execDAndi, execDOri, execDXori, execDShli, execDShri, execDSrai, execDSlti, execDLui] at h
    exact runDv_sound (fun _ hs => writeG_sound hs (hs _)) hs h
  | dAdds | dSubs | dMulq =>
    simp only [arm_dAdds, arm_dSubs, arm_dMulq, execDAdds, execDSubs, execDMulq] at h
    exact runDv_sound (fun _ hs => writeSat_sound hs (hs _)) hs h
  | dSatq =>
    simp only [arm_dSatq, execDSatq] at h
    refine runDv_sound (fun s hs => ?_) hs h
    split <;> exact writeSat_sound hs (hs _)
  | dLdw =>
    simp only [arm_dLdw, execDLdw] at h
    refine runDv_sound (fun s hs => ?_) hs h
    split
    · trivial
    · split
      · split
        · trivial
        · exact writeG_sound hs (hs _)
      · split
        · exact writeG_sound hs (hs _)
        · trivial
  | dLdh | dLdhu | dLdb | dLdbu =>
    simp only [arm_dLdh, arm_dLdhu, arm_dLdb, arm_dLdbu, execDLdh, execDLdhu, execDLdb, execDLdbu] at h
    exact loadNarrow_sound hs h
  | dStw | dSth | dStb =>
    simp only [arm_dStw, arm_dSth, arm_dStb, execDStw, execDSth, execDStb] at h
    exact storeData_sound hs h
  | dCstw e rs ra imm =>
    simp only [arm_dCstw, execDCstw] at h
    refine runDv_sound (fun s hs => ?_) hs h
    split
    · trivial
    · split
      · trivial
      · split
        · trivial
        · generalize (pageChan 0x10000 (ea (s.eng e) ra imm)).2 = o
          split
          · exact plain_sound hs (hs e)
          · exact plain_sound hs (hs e)
  | dExt | dIns =>
    simp only [arm_dExt, arm_dIns, execDExt, execDIns] at h
    refine runDv_sound (fun s hs => ?_) hs h
    split
    · trivial
    · exact writeG_sound hs (hs _)
  | dBeq | dBne | dBlt | dBge | dBltu | dBgeu =>
    simp only [arm_dBeq, arm_dBne, arm_dBlt, arm_dBge, arm_dBltu, arm_dBgeu, execDBeq, execDBne, execDBlt, execDBge,
      execDBltu, execDBgeu] at h
    exact branch_sound hs h
  | dJal e rd off =>
    simp only [arm_dJal, execDJal] at h
    refine runDv_sound (fun s hs => show Eff.Sound (.ok _ _ 1) from ⟨hs.modEng ?_, ?_⟩) hs h
    · rw [Engine.setG_sound]; exact hs e
    · exact target_word _ ((Engine.sound_iff _).1 (hs e)).1
  | dJalr e rd ra imm =>
    simp only [arm_dJalr, execDJalr] at h
    refine runDv_sound (fun s hs => show Eff.Sound (.ok _ _ 1) from ⟨hs.modEng ?_, Nat.mul_mod_left ..⟩) hs h
    rw [Engine.setG_sound]; exact hs e
  | dPop | dPeekq =>
    simp only [arm_dPop, arm_dPeekq, execDPop, execDPeekq] at h
    exact popPeek_sound hs h
  | dPush =>
    simp only [arm_dPush] at h
    exact execDPush_sound hs h
  | dWait =>
    simp only [arm_dWait] at h
    exact execDWait_sound hs h
  | dTset e ra mode k =>
    simp only [arm_dTset, execDTset] at h
    refine runDv_sound (fun s hs => ?_) hs h
    split
    · exact plain_sound hs (hs e)
    · exact plain_sound hs (hs e)
    · exact plain_sound hs (hs e)
    · have hd : (s.draw (2 ^ 32)).2.EnginesSound := hs.of_dve rfl
      exact plain_sound hd (hs e)
  | dTclr e =>
    simp only [arm_dTclr, execDTclr] at h
    refine runDv_sound (fun s hs => ?_) hs h
    exact plain_sound hs (hs e)
  | dMovs e rd sel =>
    simp only [arm_dMovs, execDMovs] at h
    refine runDv_sound (fun s hs => ?_) hs h
    split <;> exact writeG_sound hs (hs e)
  | dSets e ra sel =>
    simp only [arm_dSets, execDSets] at h
    refine runDv_sound (fun s hs => ?_) hs h
    split
    · split
      · exact plain_sound hs (hs e)
      · trivial
    · exact plain_sound (hs.of_dve rfl) (hs e)
    · exact plain_sound hs (hs e)
  | _ => simp [encodeDervos] at henc

end Sys2Proof.Machine
end

section
/-! PROOFS. What a Dervos instruction that runs leaves behind: its frame, and the values of the register, load, store and branch
instructions (R178, R179, R193, R195). -/

namespace Sys2Proof.Machine

/-! ### The registers -/

theorem Engine.g_setG_self (x : Engine) (v : Word) {k : Nat} (h : k % 16 ≠ 0) : (x.setG k v).g k = v := by
  simp only [Engine.g, Engine.setG, h, if_false]
  exact Tbl.getD_put_self ..

theorem Engine.g_setG_ne (x : Engine) (v : Word) {k j : Nat} (h : k % 16 ≠ j % 16) : (x.setG k v).g j = x.g j := by
  unfold Engine.g Engine.setG
  split
  · rfl
  · split
    · rfl
    · exact Tbl.getD_put_ne _ _ _ h

/-- Settles O28. -/
theorem dervosRegisterZeroIsZero : Obligations.DervosRegisterZeroIsZero := by
  unfold Obligations.DervosRegisterZeroIsZero
  intro x k j v
  refine ⟨fun h => ⟨?_, ?_⟩, x.g_setG_self v, x.g_setG_ne v⟩
  · simp [Engine.g, h]
  · simp [Engine.setG, h]

/-! ### The frame of an instruction that runs -/

section
variable {s : State} {e : Nat} {c : Instr} {f : State → Engine → Eff} {P : State → Prop}

/-- An instruction that runs completes with its effect retired. -/
theorem ends_runDv (hc : exec c s = runDv e f s) (hr : Runs s e) (h : P (s.onward.retire e (f s.onward (s.eng e)))) : Ends c s P := by
  obtain ⟨he, hst, hfetch, -⟩ := hr
  refine ⟨_, ?_, h⟩
  have hfetch' : (s.onward.eng e).badFetch = false := hfetch
  rw [hc, runDv, onUnit_true _ (decide_eq_true he), if_pos hst]
  simp only [hfetch', Bool.false_eq_true, if_false]
  rfl

/-- The same, where the effect is known. -/
theorem ends_retire (hr : Runs s e) {eff : Eff} (hc : exec c s = runDv e f s) (hf : f s.onward (s.eng e) = eff)
    (h : P (s.onward.retire e eff)) : Ends c s P := ends_runDv hc hr (hf ▸ h)

theorem State.retire_ok (s s' : State) {pc : Nat} (n b : Nat) (h : pc ≤ 0xFFFC) :
    s.retire e (.ok s' pc n b) = s'.modEng e fun x => { x with pc := pc, cycles := x.cycles + n, burst := x.burst + b } :=
  if_neg (Nat.not_lt.2 h)

/-- A change of one engine is a change of that engine alone. -/
theorem State.onlyEngine_modEng (s : State) (e : Nat) (f : Engine → Engine) : OnlyEngine s e (f (s.eng e)) (s.modEng e f) :=
  ⟨rfl, rfl, s.eng_modEng_self e f, fun _ hk => s.eng_modEng_ne f (Ne.symm hk)⟩

theorem OnlyEngine.modEng {s s' : State} {x : Engine} (h : OnlyEngine s e x s') (f : Engine → Engine) :
    OnlyEngine s e (f x) (s'.modEng e f) := by
  obtain ⟨hs, hp, hx, hk⟩ := h
  exact ⟨hs, hp, by rw [State.eng_modEng_self, hx], fun k hne => (s'.eng_modEng_ne f (Ne.symm hne)).trans (hk k hne)⟩

/-- An effect on the engine alone, of `n` cycles, leaves the engine at the next word. -/
theorem onlyEngine_retire_plain (hr : Runs s e) {y : Engine} (hy : y.pc = (s.eng e).pc) (n : Nat) :
    OnlyEngine s.onward e (y.next n) (s.onward.retire e (plain s.onward e y n)) := by
  obtain ⟨-, -, -, hpc⟩ := hr
  rw [plain, State.retire_ok _ _ _ _ (by omega)]
  exact (s.onward.onlyEngine_modEng e fun _ => y).modEng _

/-- An instruction whose effect is on the engine alone. -/
theorem ends_plain (hr : Runs s e) (y : Engine) (n : Nat) (hc : exec c s = runDv e f s)
    (hf : f s.onward (s.eng e) = plain s.onward e y n) (hy : y.pc = (s.eng e).pc) :
    Ends c s (OnlyEngine s.onward e (y.next n)) :=
  ends_runDv hc hr (hf ▸ onlyEngine_retire_plain hr hy n)

/-- An instruction that writes `v` to gd. -/
theorem ends_writeG (hr : Runs s e) {rd : Nat} {v : Word} {n : Nat} (hc : exec c s = runDv e f s)
    (hf : f s.onward (s.eng e) = writeG s.onward e rd (s.eng e) v n) :
    Ends c s (OnlyEngine s.onward e (((s.eng e).setG rd v).next n)) :=
  ends_plain hr _ n hc hf (Engine.setG_pc ..)

end

/-! ### Immediates and bit fields -/

/-- A number as a signed one of `w` bits is the integer of its word. -/
theorem toSigned_eq_toInt {w : Nat} (hw : 0 < w) (n : Nat) : toSigned w n = (BitVec.ofNat w n).toInt := by
  obtain ⟨w, rfl⟩ : ∃ m, w = m + 1 := ⟨w - 1, by omega⟩
  have hpow : 2 ^ (w + 1) = 2 * 2 ^ w := by rw [pow_succ]; ring
  have hlt : n % (2 * 2 ^ w) < 2 * 2 ^ w := Nat.mod_lt _ (by positivity)
  rw [BitVec.toInt_eq_toNat_cond, BitVec.toNat_ofNat]
  simp only [toSigned, Nat.add_sub_cancel, hpow]
  split <;> split <;> omega

theorem word_toSigned {w : Nat} (hw : 0 < w) (n : Nat) : word (toSigned w n) = (BitVec.ofNat w n).signExtend 32 := by
  rw [toSigned_eq_toInt hw]; rfl

theorem sext18_eq (n : Nat) : sext18 n = (BitVec.ofNat 18 n).signExtend 32 := word_toSigned (by decide) n

theorem sext22_eq (n : Nat) : sext22 n = (BitVec.ofNat 22 n).signExtend 32 := word_toSigned (by decide) n

theorem zext18_eq (n : Nat) : zext18 n = (BitVec.ofNat 18 n).zeroExtend 32 := by
  apply BitVec.eq_of_toNat_eq
  simp [zext18]

theorem word_min (a b : Word) : (if sgn a < sgn b then a else b) = BitVec.ofInt 32 (min a.toInt b.toInt) := by
  rcases lt_or_ge a.toInt b.toInt with h | h
  · rw [if_pos h, min_eq_left h.le, BitVec.ofInt_toInt]
  · rw [if_neg (not_lt.2 h), min_eq_right h, BitVec.ofInt_toInt]

theorem word_max (a b : Word) : (if sgn a < sgn b then b else a) = BitVec.ofInt 32 (max a.toInt b.toInt) := by
  rcases lt_or_ge a.toInt b.toInt with h | h
  · rw [if_pos h, max_eq_right h.le, BitVec.ofInt_toInt]
  · rw [if_neg (not_lt.2 h), max_eq_left h, BitVec.ofInt_toInt]

theorem word_mul (a b : Word) : a * b = BitVec.ofNat 32 (a.toNat * b.toNat) := by
  apply BitVec.eq_of_toNat_eq; simp

theorem lui_word (imm : Nat) : BitVec.ofNat 32 (imm % 2 ^ 22 * 1024) = (BitVec.ofNat 22 imm).zeroExtend 32 <<< 10 := by
  apply BitVec.eq_of_toNat_eq
  simp [Nat.shiftLeft_eq]

/-- A sign-extended field repeats its highest bit. -/
theorem getLsbD_word_toSigned {w k : Nat} (hw : 0 < w) (hk : k < 32) (n : Nat) :
    (word (toSigned w n)).getLsbD k = n.testBit (min k (w - 1)) := by
  rw [word_toSigned hw, BitVec.getLsbD_signExtend, BitVec.msb_eq_getLsbD_last]
  simp only [BitVec.getLsbD_ofNat, hk, decide_true, Bool.true_and]
  split
  · next h => simp [h, Nat.min_eq_left (by omega : k ≤ w - 1)]
  · next h => simp [Nat.min_eq_right (by omega : w - 1 ≤ k), show w - 1 < w by omega]

/-- Bit by bit, a number with a byte appended. -/
theorem testBit_append_byte (v b k : Nat) (hb : b < 256) : (v * 256 + b).testBit k = if k < 8 then b.testBit k else v.testBit (k - 8) := by
  have h := Nat.testBit_two_pow_mul_add v (i := 8) hb k
  rwa [show 2 ^ 8 * v + b = v * 256 + b by omega] at h

/-- The bytes of a number, first byte appended first, below what stands before them. -/
theorem testBit_foldl_leBytes (n f v k : Nat) : ((leBytes n f).foldl (fun v b => v * 256 + b) v).testBit k =
    if k < 8 * n then f.testBit (8 * n - 8 - k / 8 * 8 + k % 8) else v.testBit (k - 8 * n) := by
  induction n generalizing f v with
  | zero => simp [leBytes]
  | succ n ih =>
    rw [leBytes, List.foldl_cons, ih, testBit_append_byte _ _ _ (Nat.mod_lt _ (by decide))]
    have hlow : ∀ i, (f % 256).testBit i = (decide (i < 8) && f.testBit i) := fun i => Nat.testBit_mod_two_pow f 8 i
    have hdiv : ∀ i, (f / 256).testBit i = f.testBit (8 + i) := fun i => by
      rw [show 256 = 2 ^ 8 by rfl, Nat.testBit_div_two_pow, Nat.add_comm]
    rw [hlow, hdiv]
    by_cases h₁ : k < 8 * n
    · rw [if_pos h₁, if_pos (by omega)]; congr 1; omega
    · rw [if_neg h₁]
      by_cases h₂ : k - 8 * n < 8
      · rw [if_pos h₂, if_pos (by omega), decide_eq_true h₂, Bool.true_and]; congr 1; omega
      · rw [if_neg h₂, if_neg (by omega), Nat.sub_sub, Nat.mul_succ]

/-- A field of whole bytes with its bytes in the reverse order, bit by bit. -/
theorem testBit_byteswap {f len k : Nat} (hlen : len % 8 = 0) :
    (byteswap f len).testBit k = (decide (k < len) && f.testBit (len - 8 - k / 8 * 8 + k % 8)) := by
  rw [byteswap, testBit_foldl_leBytes, show 8 * (len / 8) = len by omega]
  split <;> simp [*]

theorem byteswap_mod {f len : Nat} (hlen : len % 8 = 0) : byteswap f len % 2 ^ len = byteswap f len := by
  refine Nat.mod_eq_of_lt (Nat.lt_pow_two_of_testBit _ fun k hk => ?_)
  rw [testBit_byteswap hlen, decide_eq_false (by omega), Bool.false_and]

/-- A field of `len` bits from bit `pos`, bit by bit. -/
theorem testBit_field (n pos len k : Nat) : (n / 2 ^ pos % 2 ^ len).testBit k = (decide (k < len) && n.testBit (k + pos)) := by
  rw [Nat.testBit_mod_two_pow, Nat.testBit_div_two_pow]

/-- INS puts a field into a word: the bits of its mask come from the field, the others stand. -/
theorem getLsbD_ins (g : Word) (f pos len k : Nat) (hk : k < 32) :
    ((g &&& ~~~(BitVec.ofNat 32 ((2 ^ len - 1) * 2 ^ pos))) ||| BitVec.ofNat 32 (f % 2 ^ len * 2 ^ pos)).getLsbD k =
      if pos ≤ k ∧ k < pos + len then f.testBit (k - pos) else g.getLsbD k := by
  have hmask : ((2 ^ len - 1) * 2 ^ pos).testBit k = decide (pos ≤ k ∧ k < pos + len) := by
    rw [Nat.testBit_mul_two_pow, Nat.testBit_two_pow_sub_one, Bool.eq_iff_iff]
    simp only [Bool.and_eq_true, decide_eq_true_eq]
    omega
  have hfield : (f % 2 ^ len * 2 ^ pos).testBit k = (decide (pos ≤ k ∧ k < pos + len) && f.testBit (k - pos)) := by
    rw [Nat.testBit_mul_two_pow, Nat.testBit_mod_two_pow, Bool.eq_iff_iff]
    simp only [Bool.and_eq_true, decide_eq_true_eq]
    constructor
    · rintro ⟨h₁, h₂, h₃⟩; exact ⟨by omega, h₃⟩
    · rintro ⟨h₁, h₂⟩; exact ⟨by omega, by omega, h₂⟩
  simp only [BitVec.getLsbD_or, BitVec.getLsbD_and, BitVec.getLsbD_not, BitVec.getLsbD_ofNat, hk, decide_true, Bool.true_and,
    hmask, hfield]
  by_cases h : pos ≤ k ∧ k < pos + len <;> simp [h]

theorem swappable_of {len : Nat} (h : len = 16 ∨ len = 24 ∨ len = 32) : swappable len = true := by
  rcases h with rfl | rfl | rfl <;> rfl

/-! ### The register instructions -/

section
variable {s : State} {e rd ra pos len : Nat} (hr : Runs s e)
include hr

/-- EXT of a field that lies within the word. -/
theorem ends_dExt (sx w : Bool) (hpos : pos + len ≤ 32) (hw : w = true → swappable len = true) {f : Nat}
    (hf : f = if w then byteswap (((s.eng e).g ra).toNat / 2 ^ pos % 2 ^ len) len else ((s.eng e).g ra).toNat / 2 ^ pos % 2 ^ len) :
    Ends (.dExt e rd ra pos len sx w) s (OnlyEngine s.onward e
      (((s.eng e).setG rd (if sx then word (toSigned len f) else BitVec.ofNat 32 f)).next 1)) := by
  subst hf
  refine ends_writeG hr (arm_dExt ..) (if_neg ?_)
  rintro (h | h)
  · omega
  · cases w <;> simp_all

/-- INS of a field that lies within the word. -/
theorem ends_dIns (w : Bool) (hpos : pos + len ≤ 32) (hw : w = true → swappable len = true) {f : Nat}
    (hf : f = if w then byteswap (((s.eng e).g ra).toNat % 2 ^ len) len else ((s.eng e).g ra).toNat % 2 ^ len) :
    Ends (.dIns e rd ra pos len w) s (OnlyEngine s.onward e (((s.eng e).setG rd
      (((s.eng e).g rd &&& ~~~(BitVec.ofNat 32 ((2 ^ len - 1) * 2 ^ pos))) ||| BitVec.ofNat 32 (f * 2 ^ pos))).next 1)) := by
  subst hf
  refine ends_writeG hr (arm_dIns ..) (if_neg ?_)
  rintro (h | h)
  · omega
  · cases w <;> simp_all

end

/-- A signed field of `len` bits, of which `f` is the number. -/
theorem word_toSigned_field {len f : Nat} (hf : f < 2 ^ len) :
    word (toSigned len f) = BitVec.ofInt 32 (if f < 2 ^ (len - 1) then (f : Int) else (f : Int) - 2 ^ len) := by
  unfold word toSigned
  rw [Nat.mod_eq_of_lt hf]
  by_cases h : f < 2 ^ (len - 1)
  · rw [if_pos h, if_neg (not_le.2 h)]
  · rw [if_neg h, if_pos (not_lt.1 h)]; push_cast; rfl

/-- Settles O29: each instruction writes one value to gd (`ends_writeG`); the bit fields are read bit by bit. -/
theorem dervosRegisterInstructions : Obligations.DervosRegisterInstructions := by
  unfold Obligations.DervosRegisterInstructions
  refine ⟨fun s e rd ra rb imm hr => ?_, fun s e rd ra pos len hr hlen hpos => ?_⟩
  · intro x a b si zi gives
    have hsi : sext18 imm = si := sext18_eq imm
    have hzi : zext18 imm = zi := zext18_eq imm
    have put {c : Instr} {v v' : Word} {f : State → Engine → Eff} (hc : exec c s = runDv e f s)
        (hf : f s.onward (s.eng e) = writeG s.onward e rd (s.eng e) v) (hv : v = v') : gives c v' :=
      hv ▸ ends_writeG hr hc hf
    exact ⟨put (arm_dAdd ..) rfl rfl, put (arm_dSub ..) rfl rfl, put (arm_dAnd ..) rfl rfl, put (arm_dOr ..) rfl rfl,
      put (arm_dXor ..) rfl rfl, put (arm_dShl ..) rfl rfl, put (arm_dShr ..) rfl rfl, put (arm_dSra ..) rfl rfl,
      put (arm_dSlt ..) rfl rfl, put (arm_dSltu ..) rfl rfl, put (arm_dMul ..) rfl (word_mul a b),
      put (arm_dMin ..) rfl (word_min a b), put (arm_dMax ..) rfl (word_max a b),
      put (arm_dAddi ..) rfl (by rw [hsi]), put (arm_dAndi ..) rfl (by rw [hzi]), put (arm_dOri ..) rfl (by rw [hzi]),
      put (arm_dXori ..) rfl (by rw [hzi]), put (arm_dShli ..) rfl rfl, put (arm_dShri ..) rfl rfl, put (arm_dSrai ..) rfl rfl,
      put (arm_dSlti ..) rfl (by rw [hsi]), put (arm_dLui ..) rfl (lui_word imm)⟩
  · intro x f
    have hf : f < 2 ^ len := Nat.mod_lt _ (by positivity)
    refine ⟨ends_dExt hr false false hpos (by simp) rfl, ?_, ?_, fun hw => ⟨fun sx => ?_, ?_⟩⟩
    · rw [← word_toSigned_field hf]
      exact ends_dExt hr true false hpos (by simp) rfl
    · exact (ends_dIns hr false hpos (by simp) rfl).mono fun s' h => ⟨_, h, fun k hk => getLsbD_ins _ _ pos len k hk⟩
    · have hsw := swappable_of hw
      have hbits : ∀ k < len, (byteswap ((x.g ra).toNat / 2 ^ pos % 2 ^ len) len).testBit k =
          (x.g ra).getLsbD (pos + (len - 8 - k / 8 * 8) + k % 8) := fun k hk => by
        rw [testBit_byteswap (by omega), testBit_field, decide_eq_true hk, Bool.true_and, decide_eq_true (by omega), Bool.true_and,
          BitVec.getLsbD]
        congr 1; omega
      refine (ends_dExt hr sx true hpos (fun _ => hsw) rfl).mono fun s' h => ⟨_, h, fun k hk => ?_⟩
      intro j
      have hj : j < len := by omega
      rw [if_pos rfl]
      cases sx
      · rw [if_neg Bool.false_ne_true, BitVec.getLsbD_ofNat, decide_eq_true hk, Bool.true_and, Bool.or_false]
        by_cases hkl : k < len
        · rw [decide_eq_true hkl, Bool.true_and, hbits k hkl, show j = k by omega]
        · rw [testBit_byteswap (by omega), decide_eq_false hkl, Bool.false_and, Bool.false_and]
      · rw [if_pos rfl, getLsbD_word_toSigned hlen hk, hbits _ hj, Bool.or_true, Bool.true_and]
    · have hsw := swappable_of hw
      have hswap := byteswap_mod (f := (x.g ra).toNat % 2 ^ len) (show len % 8 = 0 by omega)
      refine (ends_dIns hr true hpos (fun _ => hsw) hswap).mono fun s' h => ⟨_, h, fun k hk => ?_⟩
      rw [getLsbD_ins _ _ pos len k hk]
      split
      · next hin =>
        rw [testBit_byteswap (by omega), Nat.testBit_mod_two_pow, decide_eq_true (by omega), decide_eq_true (by omega),
          Bool.true_and, Bool.true_and, BitVec.getLsbD]
      · rfl

end Sys2Proof.Machine
end

section
/-! PROOFS. The saturating Dervos instructions, the loads and stores, and the branches (R179, R191, R193, R195). -/

namespace Sys2Proof.Machine

/-! ### Saturation -/

theorem satInt_eq (v : Int) {lo hi : Int} (h : lo ≤ hi) : satInt v lo hi = max lo (min v hi) := by
  unfold satInt; split
  · omega
  · split <;> omega

theorem satInt_ne_iff (v lo hi : Int) : satInt v lo hi ≠ v ↔ v < lo ∨ hi < v := by
  unfold satInt; split
  · omega
  · split <;> omega

/-- An instruction that writes a saturated result to gd. -/
theorem ends_writeSat {s : State} {e rd n : Nat} {c : Instr} {f : State → Engine → Eff} {v lo hi : Int} (hr : Runs s e) (h : lo ≤ hi)
    (hc : exec c s = runDv e f s) (hf : f s.onward (s.eng e) = writeSat s.onward e rd (s.eng e) v lo hi n) :
    Ends c s (EngineAndSat s.onward e (((s.eng e).setG rd (BitVec.ofInt 32 (max lo (min v hi)))).next n)
      (decide (v < lo ∨ hi < v))) := by
  refine ends_runDv hc hr ?_
  obtain ⟨-, -, -, hpc⟩ := hr
  have hpc' : ((s.eng e).setG rd (word (satInt v lo hi))).pc + 4 ≤ 0xFFFC := by rw [Engine.setG_pc]; exact hpc
  rw [hf, writeSat, writeG, plain, State.retire_ok _ _ _ _ hpc', ← satInt_eq v h, decide_eq_decide.2 (satInt_ne_iff v lo hi).symm]
  set y := (s.eng e).setG rd (word (satInt v lo hi))
  by_cases hv : satInt v lo hi = v
  · obtain ⟨hs, hp, hx, hk⟩ := (s.onward.onlyEngine_modEng e fun _ => y).modEng
      fun x => { x with pc := y.pc + 4, cycles := x.cycles + n, burst := x.burst + n }
    rw [if_pos hv]
    exact ⟨rfl, hp, hx, hk, fun _ _ => rfl, by simp [hv]⟩
  · obtain ⟨hs, hp, hx, hk⟩ := ((s.onward.setF (F.DVE_STAT_SAT e)).onlyEngine_modEng e fun _ => y).modEng
      fun x => { x with pc := y.pc + 4, cycles := x.cycles + n, burst := x.burst + n }
    rw [if_neg hv]
    refine ⟨rfl, hp, hx, hk, fun f hf => ?_, ?_⟩
    · rw [State.rd_modEng, State.rd_modEng]
      exact State.rd_wr_ne _ _ (Ne.symm hf)
    · rw [decide_eq_true hv, if_pos rfl, State.rd_modEng, State.rd_modEng]
      exact State.rd_wr_self ..

theorem roundShift_eq (p : Int) (sh : Nat) : roundShift p sh = if sh = 0 then p else (p + 2 ^ (sh - 1)) / 2 ^ sh := by
  unfold roundShift; push_cast; rfl

/-- Settles O30: each instruction is a saturated write (`ends_writeSat`) with its own range. -/
theorem dervosSaturationSetsSat : Obligations.DervosSaturationSetsSat := by
  unfold Obligations.DervosSaturationSetsSat
  intro s e rd ra rb sh n hr x a b lo hi gives product
  have hle : lo ≤ hi := by decide
  refine ⟨ends_writeSat hr hle (arm_dAdds ..) rfl, ends_writeSat hr hle (arm_dSubs ..) rfl,
    ends_writeSat hr hle (arm_dMulq ..) ?_, fun h1 h32 => ends_writeSat hr ?_ (arm_dSatq ..) rfl,
    fun h1 h32 => ends_writeSat hr ?_ (arm_dSatq ..) rfl⟩
  · simp only [roundShift_eq]; rfl
  · have : (1 : Int) ≤ 2 ^ n := one_le_pow₀ (by decide)
    omega
  · have : (0 : Int) < 2 ^ (n - 1) := by positivity
    omega

/-! ### Loads -/

theorem ea_eq (x : Engine) (ra imm : Nat) : ea x ra imm = (x.g ra + (BitVec.ofNat 18 imm).signExtend 32).toNat := by
  rw [ea, sext18_eq]

theorem inData_iff (a : Nat) : inData a = true ↔ a < 0x8000 := by simp [inData]

section
variable {s : State} {e r ra imm a : Nat}

/-- A narrow load of an aligned, sound address of data memory. -/
theorem ends_loadNarrow {c : Instr} {n : Nat} {ext : Nat → Word} (hr : Runs s e) (hc : exec c s = loadNarrow n ext e r ra imm s)
    (ha : ea (s.eng e) ra imm = a) (h : a % n = 0) (hd : a < 0x8000) (hs : (s.eng e).badData a = false) :
    Ends c s (OnlyEngine s.onward e (((s.eng e).setG r (ext ((s.eng e).load a n))).next 2)) := by
  refine ends_writeG hr hc ?_
  simp only [ha, h, (inData_iff a).2 hd, hs, ne_eq, not_true_eq_false, if_false, if_true, Bool.false_eq_true]

/-- A store to an aligned address of data memory, sound unless the whole word is stored. -/
theorem ends_storeData {c : Instr} {n : Nat} (hr : Runs s e) (hc : exec c s = storeData n e r ra imm s)
    (ha : ea (s.eng e) ra imm = a) (h : a % n = 0) (hd : a < 0x8000) (hs : n ≠ 4 → (s.eng e).badData a = false) :
    Ends c s (OnlyEngine s.onward e (((s.eng e).storeBytes a n ((s.eng e).g r).toNat).next 1)) := by
  refine ends_plain hr _ 1 hc ?_ rfl
  have hno : ¬ (n ≠ 4 ∧ (s.eng e).badData a = true) := fun h' => by simp [hs h'.1] at h'
  simp only [ha, h, (inData_iff a).2 hd, ne_eq, not_true_eq_false, if_false, if_true]
  exact if_neg hno

end

theorem length_leBytes (n v : Nat) : (leBytes n v).length = n := by
  induction n generalizing v with
  | zero => rfl
  | succ n ih => simp [leBytes, ih]

theorem getD_leBytes {n k : Nat} (hk : k < n) (v : Nat) : (leBytes n v).getD k 0 = v / 256 ^ k % 256 := by
  induction n generalizing v k with
  | zero => omega
  | succ n ih =>
    cases k with
    | zero => simp [leBytes]
    | succ k => simp only [leBytes, List.getD_cons_succ, ih (by omega : k < n)]; rw [Nat.div_div_eq_div_mul, pow_succ']

theorem byte_ofNat_mod (v : Nat) : BitVec.ofNat 8 (v % 256) = BitVec.ofNat 8 v := by
  apply BitVec.eq_of_toNat_eq; simp

/-- What `n` bytes of a number leave in memory. -/
theorem Memory.read_writeRun_leBytes {n k : Nat} (hk : k < n) (m : List Host.Cell) (a v : Nat) :
    Memory.read (Memory.writeRun m a (leBytes n v)) (a + k) = BitVec.ofNat 8 (v / 256 ^ k) := by
  rw [Memory.read_writeRun_inside _ _ _ _ (by rwa [length_leBytes]), getD_leBytes hk, byte_ofNat_mod]

theorem Memory.read_writeRun_leBytes_outside {n a b : Nat} (h : b < a ∨ a + n ≤ b) (m : List Host.Cell) (v : Nat) :
    Memory.read (Memory.writeRun m a (leBytes n v)) b = Memory.read m b :=
  Memory.read_writeRun_outside _ _ (by rwa [length_leBytes])

theorem Tbl.getD_insert_self {α : Type} (m : Tbl α) (d v : α) (k : Nat) : (m.insert k v).getD d k = v := by
  simp [Tbl.getD]

theorem Tbl.getD_insert_ne {α : Type} (m : Tbl α) (d v : α) {j k : Nat} (h : j ≠ k) : (m.insert j v).getD d k = m.getD d k := by
  rw [Tbl.getD, Tbl.find?_insert_ne _ _ h, Tbl.getD]

/-- Settles O31: aligned accesses of data memory (`ends_loadNarrow`, `ends_storeData`), the mirror, and the page. -/
theorem dervosLoadsAndStores : Obligations.DervosLoadsAndStores := by
  unfold Obligations.DervosLoadsAndStores
  refine ⟨fun s e r ra imm hr => ?_, fun s e rs ra imm hr he => ?_⟩
  · intro x a byte half gives sound stores
    have ha : ea (s.eng e) ra imm = a := ea_eq ..
    have h2 : (s.eng e).load a 2 = half := rfl
    have h1 : (s.eng e).load a 1 = byte 0 := rfl
    have store {n : Nat} {c : Instr} (hc : exec c s = storeData n e r ra imm s) (h : a % n = 0) (hd : a < 0x8000)
        (hs : n ≠ 4 → (s.eng e).badData a = false) : stores c n :=
      (ends_storeData hr hc ha h hd hs).mono fun s' h => ⟨_, h, fun k hk => Memory.read_writeRun_leBytes hk .., fun b hb =>
        Memory.read_writeRun_leBytes_outside hb ..⟩
    refine ⟨fun h hd hs => ?_, fun h hlo hhi he => ?_, fun h hd hs => ?_, fun h hd hs => ?_, fun hd hs => ?_, fun hd hs => ?_,
      fun h hd => store (arm_dStw ..) h hd (by simp), fun h hd hs => store (arm_dSth ..) h hd fun _ => hs,
      fun hd hs => store (arm_dStb ..) (Nat.mod_one a) hd fun _ => hs⟩
    · have h4 : (s.eng e).load a 4 = half + 65536 * byte 2 + 16777216 * byte 3 := by
        have h4' : (s.eng e).load a 4 = byte 0 + 256 * (byte 1 + 256 * (byte 2 + 256 * (byte 3 + 256 * 0))) := rfl
        rw [h4']; simp only [half]; omega
      have hs' : (s.eng e).badData a = false := hs
      refine ends_writeG hr (arm_dLdw ..) ?_
      simp only [ha, h, (inData_iff a).2 hd, hs', h4, ne_eq, not_true_eq_false, if_false, if_true, Bool.false_eq_true]
    · have hd : inData a = false := by simp [inData]; omega
      have hm : inMirror e a = true := by simp [inMirror, isPower, he, hlo, hhi]
      refine ends_writeG hr (arm_dLdw ..) ?_
      simp only [ha, h, hd, hm, ne_eq, not_true_eq_false, if_false, if_true, Bool.false_eq_true]
    · rw [show (BitVec.ofNat 16 half).signExtend 32 = word (toSigned 16 half) from (word_toSigned (by decide) _).symm, ← h2]
      exact ends_loadNarrow (n := 2) (ext := fun v => word (toSigned 16 v)) hr (arm_dLdh ..) ha h hd hs
    · rw [← h2]
      exact ends_loadNarrow (n := 2) (ext := BitVec.ofNat 32) hr (arm_dLdhu ..) ha h hd hs
    · rw [show (BitVec.ofNat 8 (byte 0)).signExtend 32 = word (toSigned 8 (byte 0)) from (word_toSigned (by decide) _).symm, ← h1]
      exact ends_loadNarrow (n := 1) (ext := fun v => word (toSigned 8 v)) hr (arm_dLdb ..) ha (Nat.mod_one a) hd hs
    · rw [← h1]
      exact ends_loadNarrow (n := 1) (ext := BitVec.ofNat 32) hr (arm_dLdbu ..) ha (Nat.mod_one a) hd hs
  · intro x a h hlo hhi hown
    have ha : ea (s.eng e) ra imm = a := ea_eq ..
    have hpage : inPage e a = true := by simp [inPage, isPower, he, hlo, hhi]
    have howns : owns e (pageChan 0x10000 a).1 = true := by
      have : (a - 0x10000) / 32 < 48 := by omega
      simp [owns, pageChan, this, hown]
    refine ⟨fun ho => ?_, fun ho => ?_⟩
    · refine (ends_plain hr { x with page := x.page.insert a (x.g rs).toNat } 1 (arm_dCstw ..) ?_ rfl).mono fun s' h' =>
        ⟨_, h', Tbl.getD_insert_self .., fun b hb => Tbl.getD_insert_ne _ _ _ (Ne.symm hb)⟩
      have ho' : (pageChan 0x10000 a).2 ≤ 8 := ho
      simp only [ha, h, hpage, howns, ho', ne_eq, not_true_eq_false, if_false, if_true, Bool.not_true, Bool.false_eq_true]
      rfl
    · refine ends_plain hr x 1 (arm_dCstw ..) ?_ rfl
      have ho' : ¬ (pageChan 0x10000 a).2 ≤ 8 := not_le.2 ho
      simp only [ha, h, hpage, howns, ho', ne_eq, not_true_eq_false, if_false, Bool.not_true, Bool.false_eq_true]
      rfl

/-! ### Branches -/

/-- A branch goes to its target where its condition holds, else to the next word. -/
theorem ends_branch {s : State} {e ra rb off : Nat} {c : Instr} {cond : Word → Word → Bool} (hr : Runs s e)
    (hc : exec c s = branch cond e ra rb off s) {pc : Nat} (hle : pc ≤ 0xFFFC)
    (hpc : (if cond ((s.eng e).g ra) ((s.eng e).g rb) then target (s.eng e).pc (sext18 off) else (s.eng e).pc + 4) = pc) :
    Ends c s (OnlyEngine s.onward e
      { s.eng e with pc := pc, cycles := (s.eng e).cycles + 1, burst := (s.eng e).burst + 1 }) := by
  refine ends_runDv hc hr ?_
  rw [hpc, State.retire_ok _ _ _ _ hle]
  exact s.onward.onlyEngine_modEng e _

/-- A jump that leaves `link` in gd. -/
theorem ends_jump {s : State} {e rd : Nat} {c : Instr} {f : State → Engine → Eff} {link : Word} (hr : Runs s e)
    (hc : exec c s = runDv e f s) {pc : Nat} (hle : pc ≤ 0xFFFC)
    (hf : f s.onward (s.eng e) = .ok (s.onward.modEng e fun _ => (s.eng e).setG rd link) pc 1) :
    Ends c s (OnlyEngine s.onward e
      { (s.eng e).setG rd link with
        pc := pc, cycles := ((s.eng e).setG rd link).cycles + 1, burst := ((s.eng e).setG rd link).burst + 1 }) := by
  refine ends_runDv hc hr ?_
  rw [hf, State.retire_ok _ _ _ _ hle]
  exact (s.onward.onlyEngine_modEng e fun _ => (s.eng e).setG rd link).modEng
    fun x => { x with pc := pc, cycles := x.cycles + 1, burst := x.burst + 1 }

/-- Settles O33. -/
theorem dervosBranches : Obligations.DervosBranches := by
  unfold Obligations.DervosBranches
  intro s e rd ra rb off hr x goal o18 o22 link at' branches
  have hgoal : target x.pc (sext18 off) = goal o18 := by rw [sext18_eq]; rfl
  have br {c : Instr} {cond : Word → Word → Bool} {taken : Prop} (hc : exec c s = branch cond e ra rb off s)
      (ht : cond (x.g ra) (x.g rb) = true ↔ taken) : branches c taken :=
    ⟨fun h hle => ends_branch hr hc hle (by rw [if_pos (ht.2 h)]; exact hgoal),
      fun h => ends_branch hr hc hr.2.2.2 (if_neg fun h' => h (ht.1 h'))⟩
  refine ⟨br (arm_dBeq ..) beq_iff_eq, br (arm_dBne ..) bne_iff_ne, br (arm_dBlt ..) decide_eq_true_iff,
    br (arm_dBge ..) decide_eq_true_iff, br (arm_dBltu ..) decide_eq_true_iff, br (arm_dBgeu ..) decide_eq_true_iff,
    fun hle => ?_, fun hle => ?_⟩
  · refine ends_jump hr (arm_dJal ..) hle ?_
    have h22 : target x.pc (sext22 off) = goal o22 := by rw [sext22_eq]; rfl
    rw [← h22]
  · refine ends_jump hr (arm_dJalr ..) hle ?_
    have h18 : sext18 off = o18 := sext18_eq off
    rw [← h18]

end Sys2Proof.Machine
end

section
/-! PROOFS. WAIT, timers and special registers, and the hub's control of an engine (R180, R181, R187 to R190, R196 to R201). -/

namespace Sys2Proof.Machine

/-! ### Events -/

/-- The pending events of an engine depend on its ports, its edges and how its ports are bound. -/
theorem State.pendingEvents_congr {s s' : State} {e : Nat} (hregs : s'.regs = s.regs) (hports : (s'.eng e).ports = (s.eng e).ports)
    (hedges : (s'.eng e).edges = (s.eng e).edges) : s'.pendingEvents e = s.pendingEvents e := by
  have hq : s'.portReady e = s.portReady e := by
    funext q
    simp only [State.portReady, State.boundIn, State.boundOut, State.flag_congr hregs, Engine.port, hports]
    rfl
  simp only [State.pendingEvents, hedges, hq]

theorem State.notePeak_eng (s : State) (e k : Nat) : (s.notePeak e).eng k = s.eng k := State.eng_congr (s.notePeak_dve e) k

theorem State.notePeak_mem (s : State) (e : Nat) : (s.notePeak e).mem = s.mem := by
  unfold State.notePeak; dsimp only; split <;> rfl

/-- The engine after it has taken events. -/
theorem State.eng_takeEvents (s : State) (e rd ev : Nat) : (s.takeEvents e rd ev).eng e =
    { ((s.eng e).setG rd (BitVec.ofNat 32 ev)) with edges := (s.eng e).edges &&& ((s.eng e).edges ^^^ ev), burst := 0 } := by
  rw [State.takeEvents, State.eng_modEng_self, State.notePeak_eng]

theorem State.takeEvents_mem (s : State) (e rd ev : Nat) : (s.takeEvents e rd ev).mem = s.mem := s.notePeak_mem e

theorem State.drainAll_nil {s : State} {e : Nat} (h : (s.eng e).drains = []) : s.drainAll e = s := by
  rw [State.drainAll, h]; rfl

theorem Engine.setG_state (x : Engine) (k : Nat) (v : Word) : (x.setG k v).state = x.state := by unfold Engine.setG; split <;> rfl

theorem Engine.setG_cycles (x : Engine) (k : Nat) (v : Word) : (x.setG k v).cycles = x.cycles := by unfold Engine.setG; split <;> rfl

theorem Engine.setG_routing (x : Engine) (k : Nat) (v : Word) : (x.setG k v).routing = x.routing := by unfold Engine.setG; split <;> rfl

/-! ### WAIT, timers and special registers -/

section
variable {s : State} {e rd ra : Nat}

/-- The state in which WAIT evaluates events where no drain is due: the cycle of WAIT itself is counted (R188, R189). -/
def State.atWait (s : State) (e : Nat) : State := s.onward.modEng e fun x => { x with burst := x.burst + 1 }

theorem State.eng_atWait (s : State) (e : Nat) : (s.atWait e).eng e = { s.eng e with burst := (s.eng e).burst + 1 } :=
  State.eng_modEng_self ..

theorem State.pendingEvents_atWait (s : State) (e : Nat) : (s.atWait e).pendingEvents e = s.pendingEvents e :=
  State.pendingEvents_congr rfl (by rw [State.eng_atWait]) (by rw [State.eng_atWait])

/-- WAIT with a pending event of its mask returns it and closes the burst. -/
theorem ends_dWait_event (hr : Runs s e) (hd : (s.eng e).drains = []) {ev : Nat}
    (hev : s.pendingEvents e &&& ((s.eng e).g ra).toNat = ev) (h0 : ev ≠ 0) : Ends (.dWait e rd ra) s fun s' =>
      (s'.eng e).state = .running ∧ (s'.eng e).pc = (s.eng e).pc + 4 ∧
      (s'.eng e).g rd = (if rd % 16 = 0 then 0 else BitVec.ofNat 32 ev) ∧ (s'.eng e).burst = 0 ∧ s'.mem = s.mem := by
  refine ends_runDv (f := fun s _ => _) (arm_dWait ..) hr ?_
  have hg : ((s.atWait e).eng e).g ra = (s.eng e).g ra := by rw [State.eng_atWait]; rfl
  have hpc : ((s.atWait e).eng e).pc = (s.eng e).pc := by rw [State.eng_atWait]
  have hdr : s.onward.drainAll e = s.onward := State.drainAll_nil hd
  simp only [hdr]
  rw [← State.atWait, State.pendingEvents_atWait, hg, hev, if_pos h0, hpc, State.retire_ok _ _ _ _ hr.2.2.2,
    State.eng_modEng_self, State.eng_takeEvents, State.eng_atWait]
  refine ⟨(Engine.setG_state ..).trans hr.2.1, rfl, ?_, rfl, (s.atWait e).takeEvents_mem e rd ev⟩
  split
  · next h => simp [Engine.g, h]
  · next h => exact Engine.g_setG_self _ _ h

/-- WAIT without a pending event of its mask sleeps at the same pc. -/
theorem ends_dWait_sleep (hr : Runs s e) (hd : (s.eng e).drains = [])
    (hev : s.pendingEvents e &&& ((s.eng e).g ra).toNat = 0) : Ends (.dWait e rd ra) s fun s' =>
      (s'.eng e).state = .waiting ∧ (s'.eng e).pc = (s.eng e).pc ∧ (s'.eng e).waitMask = (s.eng e).g ra ∧
      (s'.eng e).regs = (s.eng e).regs ∧ (s'.eng e).burst = 0 ∧ s'.mem = s.mem := by
  refine ends_runDv (f := fun s _ => _) (arm_dWait ..) hr ?_
  have hg : ((s.atWait e).eng e).g ra = (s.eng e).g ra := by rw [State.eng_atWait]; rfl
  have hpc : ((s.atWait e).eng e).pc = (s.eng e).pc := by rw [State.eng_atWait]
  have hdr : s.onward.drainAll e = s.onward := State.drainAll_nil hd
  have hroom := hr.2.2.2
  simp only [hdr]
  rw [← State.atWait, State.pendingEvents_atWait, hg, hev, if_neg (not_not.2 rfl), hpc, if_neg (not_lt.2 hroom),
    State.retire_ok _ _ _ _ (by omega), State.eng_modEng_self, State.eng_modEng_self, State.notePeak_eng, State.eng_atWait]
  exact ⟨rfl, rfl, rfl, rfl, rfl, (s.atWait e).notePeak_mem e⟩

end

/-- Settles O35. -/
theorem dervosWaitTimersSpecials : Obligations.DervosWaitTimersSpecials := by
  unfold Obligations.DervosWaitTimersSpecials
  intro s e rd ra k hr hd x v ev puts
  have arm {c : Instr} {f : State → Engine → Eff} (hc : exec c s = runDv e f s) (tms : Tbl EngTimer)
      (hf : f s.onward (s.eng e) = plain s.onward e { x with timers := tms } 1) :
      Ends c s (OnlyEngine s.onward e ({ x with timers := tms }.next 1)) := ends_plain hr _ 1 hc hf rfl
  refine ⟨ends_dWait_event hr hd rfl, fun h => ends_dWait_sleep hr hd h, fun hk => ?_, fun hk => ?_, fun hk => ?_, ?_,
    ends_writeG hr (arm_dMovs ..) rfl, ends_writeG hr (arm_dMovs ..) rfl, ends_writeG hr (arm_dMovs ..) rfl,
    ends_writeG hr (arm_dMovs ..) rfl, ends_writeG hr (arm_dMovs ..) rfl, fun hgr => ?_, ?_⟩
  · refine arm (arm_dTset ..) _ ?_
    simp only [Nat.mod_eq_of_lt hk]; rfl
  · refine arm (arm_dTset ..) _ ?_
    simp only [Nat.mod_eq_of_lt hk]; rfl
  · refine arm (arm_dTclr ..) _ ?_
    simp only [Nat.mod_eq_of_lt hk]; rfl
  · exact ends_plain hr _ 1 (arm_dMovs ..) rfl (Engine.setG_pc ..)
  · refine ends_plain hr _ 1 (arm_dSets ..) (if_pos ?_) rfl
    exact hgr
  · refine ends_retire hr (eff := plain (s.onward.wr (F.DVE_STAT_SAT e) (v.toNat % 2)) e x 1) (arm_dSets ..) rfl ?_
    rw [plain, State.retire_ok _ _ _ _ hr.2.2.2]
    refine ⟨?_, ?_, rfl⟩
    · rw [State.rd_modEng, State.rd_modEng, State.rd_wr_self]
      exact Nat.mod_mod ..
    · rw [State.eng_modEng_self, State.eng_modEng_self]; rfl

end Sys2Proof.Machine
end

section
/-! PROOFS. The hub's control of an engine, and the events that time brings about (R181, R186 to R190, R196 to R201). -/

namespace Sys2Proof.Machine

/-! ### Faults, stops and drains -/

section
variable {s : State} {e : Nat}

theorem State.updates_regs (s : State) (a v : Nat) : (s.updates a v).regs = s.regs := by
  unfold State.updates; split <;> rfl

theorem State.chanTo_regs (s : State) (n : Nat) (c : ChState) : (s.chanTo n c).regs = s.regs := by
  change (if c = .latched then s.updates (F.CH_STAT_RETRY_CNT n).addr (s.chStat n) else s).regs = s.regs
  split
  · exact s.updates_regs ..
  · rfl

theorem State.latchChannels_regs (s : State) (e : Nat) : (s.latchChannels e).regs = s.regs := by
  unfold State.latchChannels
  split
  · refine foldl_keeps State.regs (fun s n => ?_) _ s
    split
    · exact s.chanTo_regs n .latched
    · exact s.chanTo_regs n .latched
    · exact s.chanTo_regs n .latched
    · exact s.chanTo_regs n .latched
    · rfl
    · rfl
  · rfl

theorem State.latchChannels_hubEngine (s : State) (he : e < 12) : s.latchChannels e = s :=
  if_neg (by simp [isPower, he])

/-- A completion touches no register but the counter of those lost. -/
theorem State.rd_complete (s : State) (i st w : Nat) {g : Fld} (hg : (F.VIM_INST_CNT2_CPL_LOST i).key ≠ g.key) :
    (s.complete i st w).rd g = s.rd g := by
  unfold State.complete
  dsimp only
  split
  · rfl
  · exact s.rd_inc_ne hg

/-- A drain leaves the fault cause. -/
theorem State.rd_faultCause_drainEngine (s : State) (e i : Nat) :
    (s.drainEngine e i).rd (F.DVE_STAT_FAULT_CAUSE e) = s.rd (F.DVE_STAT_FAULT_CAUSE e) := by
  unfold State.drainEngine
  extract_lets x take ins lens y z s₁ s₂ s₃
  have h₂ : s₂.rd (F.DVE_STAT_FAULT_CAUSE e) = s₁.rd (F.DVE_STAT_FAULT_CAUSE e) :=
    foldl_keeps (fun s : State => s.rd (F.DVE_STAT_FAULT_CAUSE e)) (fun s len => s.rd_complete _ _ _ (by
      simp only [Fld.key, F.VIM_INST_CNT2_CPL_LOST, F.DVE_STAT_FAULT_CAUSE]; omega)) lens s₁
  have h₃ : s₃.rd (F.DVE_STAT_FAULT_CAUSE e) = s₂.rd (F.DVE_STAT_FAULT_CAUSE e) := by
    simp only [s₃, State.countCancelled]
    rw [State.rd_incBy_ne, State.rd_wr_ne, State.rd_incBy_ne] <;>
      simp only [Fld.key, F.VIM_INST_RESET_CNT_CANCELLED, F.DVE_CANCEL_INST, F.DVE_CANCEL_CANCELLED, F.DVE_STAT_FAULT_CAUSE, ne_eq] <;>
      omega
  rw [State.markDrained, State.rd_modInst, h₃, h₂, State.rd_modEng]

theorem State.rd_faultCause_drainAll (s : State) (e : Nat) :
    (s.drainAll e).rd (F.DVE_STAT_FAULT_CAUSE e) = s.rd (F.DVE_STAT_FAULT_CAUSE e) :=
  foldl_keeps (fun s : State => s.rd (F.DVE_STAT_FAULT_CAUSE e)) (fun s i => s.rd_faultCause_drainEngine e i) _ s

theorem Engine.ignores_state : Engine.Ignores Engine.state := fun _ _ _ _ _ => rfl

theorem Engine.ignores_timers : Engine.Ignores Engine.timers := fun _ _ _ _ _ => rfl

theorem EngCause.code_lt (c : EngCause) : c.code < 16 := by cases c <;> decide

/-- A faulted engine is in FAULT with its cause. -/
theorem State.engFault_state (s : State) (e : Nat) (c : EngCause) :
    ((s.engFault e c).eng e).state = .fault ∧ (s.engFault e c).rd (F.DVE_STAT_FAULT_CAUSE e) = c.code := by
  unfold State.engFault
  extract_lets s₁ s₂ s₃
  have hst : (s₃.eng e).state = .fault := by
    have hdve : s₃.dve = s₁.dve := by simp only [s₃, s₂, State.record_dve, State.wr_dve]
    rw [State.eng_congr hdve e]
    simp only [s₁, State.eng_modEng_self]
  have hrd : s₃.rd (F.DVE_STAT_FAULT_CAUSE e) = c.code := by
    simp only [s₃, s₂, State.rd_record, State.rd_wr_self]
    exact Nat.mod_eq_of_lt c.code_lt
  refine ⟨?_, ?_⟩
  · rw [State.sameEng_drainAll Engine.ignores_state, State.sameEng_latchChannels Engine.ignores_state, hst]
  · rw [State.rd_faultCause_drainAll, State.rd_congr (s₃.latchChannels_regs e), hrd]

end

/-! ### Accesses to an engine's block -/

section
variable {s : State} {t e off : Nat} {a : Attr} {c : Instr} {f : State → State} {P : State → Prop}

/-- A write of the Attic to an engine's block that its region check passes has its effect. -/
theorem ends_dveAccess (he : e < 16) (hp : ∀ o, (s.tick t).passes (0x40400000 + e * 0x10000 + o) a true = true)
    (ha : a.attic = true) (hc : exec c s = dveAccess t a e off f s) (h : P (f (s.tick t).okay)) : Ends c s P := by
  refine ends_onUnit hc (decide_eq_true he) ?_
  rw [State.guarded_pass f (hp off) (by simp [ha])]
  exact h

end

theorem State.powerIdle_hubEngine (s : State) {e : Nat} (he : e < 12) : s.powerIdle e = true := by
  simp [State.powerIdle, isPower, he]

theorem State.hashFits_congr {s s' : State} (h : s'.regs = s.regs) (e : Nat) (im : EngImage) : s'.hashFits e im = s.hashFits e im := by
  simp only [State.hashFits, State.servesRoute, State.routesOf, State.rdHash, State.boundIn, State.flag_congr h, State.rd_congr h]

/-! ### Loading -/

/-- A block of the hub that reaches every byte has its effect. -/
theorem State.buffer_of_reaches {s : State} {a n : Nat} {w : Bool} (eff bad : State → State) (h : s.reaches a n w = true) :
    s.buffer a n w eff bad = eff s := by
  unfold State.buffer
  rw [List.find?_eq_none.2]
  intro p hp
  have := List.all_eq_true.1 h p hp
  simp [this]

theorem State.wrHash_dve (s : State) (f : Nat → Fld) (h : Nat) : (s.wrHash f h).dve = s.dve :=
  foldl_keeps State.dve (f := fun s k => s.wr (f k) (h / 2 ^ (32 * k) % 2 ^ 32)) (fun _ _ => rfl) _ s

theorem State.rd_wrHash_ne (s : State) (f : Nat → Fld) (h : Nat) {g : Fld} (hg : ∀ k < 8, (f k).key ≠ g.key) :
    (s.wrHash f h).rd g = s.rd g :=
  List.foldlRecOn (motive := fun s' : State => s'.rd g = s.rd g) (List.range 8) _ rfl fun s' hs' k hk =>
    (State.rd_wr_ne s' _ (hg k (List.mem_range.1 hk))).trans hs'

theorem State.loadResult_lt (s : State) (e : Nat) (m : EngLoad) : s.loadResult e m < 256 := by
  unfold State.loadResult
  repeat' split
  all_goals decide

/-- An image taken up, or refused, leaves the engine's state, its pending load and the result. -/
theorem State.engLoad_frame (s : State) (e : Nat) (m : EngLoad) :
    ((s.engLoad e m).eng e).state = (s.eng e).state ∧ ((s.engLoad e m).eng e).loading = (s.eng e).loading ∧
    ((s.engLoad e m).eng e).image = some ⟨m.entry, m.data⟩ ∧
    (s.engLoad e m).rd (F.DVE_LOAD_RESULT_RESULT e) = s.rd (F.DVE_LOAD_RESULT_RESULT e) := by
  unfold State.engLoad
  rw [State.eng_congr (State.wrHash_dve ..), State.eng_wr, State.eng_modEng_self]
  refine ⟨rfl, rfl, rfl, ?_⟩
  rw [State.rd_wrHash_ne, State.rd_wr_ne, State.rd_modEng]
  · simp only [Fld.key, F.DVE_STAT_CLASS, F.DVE_LOAD_RESULT_RESULT]; omega
  · intro k hk
    simp only [Fld.key, F.DVE_IMG_HASH_HASH, F.DVE_LOAD_RESULT_RESULT]; omega

theorem State.engEmpty_frame (s : State) (e : Nat) :
    ((s.engEmpty e).eng e).state = (s.eng e).state ∧ ((s.engEmpty e).eng e).loading = (s.eng e).loading ∧
    ((s.engEmpty e).eng e).image = none ∧
    (s.engEmpty e).rd (F.DVE_LOAD_RESULT_RESULT e) = s.rd (F.DVE_LOAD_RESULT_RESULT e) := by
  unfold State.engEmpty
  rw [State.eng_congr (State.wrHash_dve ..), State.eng_wr, State.eng_modEng_self]
  refine ⟨rfl, rfl, rfl, ?_⟩
  rw [State.rd_wrHash_ne, State.rd_wr_ne, State.rd_modEng]
  · simp only [Fld.key, F.DVE_STAT_CLASS, F.DVE_LOAD_RESULT_RESULT]; omega
  · intro k hk
    simp only [Fld.key, F.DVE_IMG_HASH_HASH, F.DVE_LOAD_RESULT_RESULT]; omega

/-- A load that the Attic can read, whose image is `m?`, ends with the result of the checks. -/
theorem ends_loadComplete {s : State} {t e addr : Nat} (he : e < 16) (hl : (s.eng e).loading = some addr)
    (h64 : (s.tick t).reaches addr 64 false = true)
    (hall : ∀ m, (s.tick t).imageAt addr = some m →
      (s.tick t).reaches addr (64 + 4 * m.code.length + m.data.length + 3405) false = true) :
    Ends (.loadComplete t e) s fun s' => (s'.eng e).state = .stopped ∧ (s'.eng e).loading = none ∧
      match (s.tick t).imageAt addr with
      | some m => s'.rd (F.DVE_LOAD_RESULT_RESULT e) = (s.tick t).loadResult e m ∧
          (s'.eng e).image = if (s.tick t).loadResult e m = 0 then some ⟨m.entry, m.data⟩ else none
      | none => s'.rd (F.DVE_LOAD_RESULT_RESULT e) = 2 ∧ (s'.eng e).image = none := by
  refine ends_onUnit (arm_loadComplete ..) (decide_eq_true he) ?_
  have hl' : ((s.tick t).eng e).loading = some addr := hl
  simp only [hl', h64, if_true]
  cases him : (s.tick t).imageAt addr with
  | none =>
    simp only [Option.map_none, Option.getD_none, Option.filter_none, State.buffer_of_reaches id id h64, id_eq]
    obtain ⟨hst, hld, hi, hrd⟩ := State.engEmpty_frame (((s.tick t).modEng e fun x =>
      { x with state := .stopped, loading := none }).wr (F.DVE_LOAD_RESULT_RESULT e) 2) e
    rw [State.eng_wr, State.eng_modEng_self] at hst hld
    rw [State.rd_wr_self] at hrd
    exact ⟨hst, hld, hrd, hi⟩
  | some m =>
    have hm := hall m him
    simp only [Option.map_some, Option.getD_some, Option.filter_some, hm, if_true, State.buffer_of_reaches id id hm, id_eq]
    set s₁ := ((s.tick t).modEng e fun x => { x with state := .stopped, loading := none }).wr (F.DVE_LOAD_RESULT_RESULT e)
      ((s.tick t).loadResult e m) with hs₁
    have hst : (s₁.eng e).state = .stopped := by rw [hs₁, State.eng_wr, State.eng_modEng_self]
    have hld : (s₁.eng e).loading = none := by rw [hs₁, State.eng_wr, State.eng_modEng_self]
    have hrd : s₁.rd (F.DVE_LOAD_RESULT_RESULT e) = (s.tick t).loadResult e m := by
      rw [hs₁, State.rd_wr_self]; exact Nat.mod_eq_of_lt ((s.tick t).loadResult_lt e m)
    split
    · next h0 =>
      obtain ⟨h₁, h₂, h₃, h₄⟩ := s₁.engLoad_frame e m
      exact ⟨h₁.trans hst, h₂.trans hld, h₄.trans hrd, h₃⟩
    · next h0 =>
      obtain ⟨h₁, h₂, h₃, h₄⟩ := s₁.engEmpty_frame e
      exact ⟨h₁.trans hst, h₂.trans hld, h₄.trans hrd, h₃⟩

/-! ### Start and stop -/

/-- A started engine: at ENTRY, RUNNING, with cleared registers, timers and SAT. -/
theorem State.engStart_frame (s : State) (e : Nat) (im : EngImage) :
    ((s.engStart e im).eng e).state = .running ∧ ((s.engStart e im).eng e).pc = im.entry ∧ ((s.engStart e im).eng e).regs = [] ∧
    ((s.engStart e im).eng e).timers = [] ∧ (s.engStart e im).rd (F.DVE_STAT_SAT e) = 0 := by
  unfold State.engStart
  extract_lets cur s₁ routing st s₂
  rw [State.eng_modEng_self, State.rd_modEng]
  have hregs : s₂.regs = s₁.regs := by simp only [s₂]; split <;> rfl
  refine ⟨rfl, rfl, rfl, rfl, ?_⟩
  rw [State.rd_congr hregs, State.rd_wr_ne, State.rd_wr_self, Nat.zero_mod]
  simp only [Fld.key, F.DVE_BURST_BURST_PEAK, F.DVE_STAT_SAT]; omega

/-- A stopped engine of engines 0 to 11: STOPPED, its timers disarmed; with no drain due, no register changes. -/
theorem State.engStop_frame (s : State) {e : Nat} (he : e < 12) :
    ((s.engStop e).eng e).state = .stopped ∧ ((s.engStop e).eng e).timers = [] ∧
    ((s.eng e).drains = [] → (s.engStop e).regs = s.regs) := by
  rw [State.engStop, State.latchChannels_hubEngine _ he, State.sameEng_drainAll Engine.ignores_state,
    State.sameEng_drainAll Engine.ignores_timers, State.eng_modEng_self]
  refine ⟨rfl, rfl, fun hd => ?_⟩
  rw [State.drainAll_nil]
  · rfl
  · rw [State.eng_modEng_self]; exact hd

/-! ### The other commands -/

section
variable {s : State} {t e k q off i : Nat} {a : Attr} {v : Word} (he : e < 16)
include he

theorem ends_waitWake (hst : (s.eng e).state = .waiting) (hev : s.pendingEvents e &&& (s.eng e).waitMask.toNat ≠ 0) :
    Ends (.waitWake t e) s fun s' => (s'.eng e).state = .running ∧
      (s'.eng e).pc = (if (s.eng e).routing then (s.eng e).pc else (s.eng e).pc + 4) ∧ (s'.eng e).cycles = (s.eng e).cycles + 3 := by
  refine ends_onUnit (arm_waitWake ..) (decide_eq_true he) ?_
  have hp : (s.tick t).pendingEvents e = s.pendingEvents e := State.pendingEvents_congr rfl rfl rfl
  simp only [hp]
  rw [if_pos ⟨hst, hev⟩, State.eng_modEng_self, State.eng_takeEvents]
  refine ⟨rfl, ?_, ?_⟩
  · simp only [Engine.setG_routing, Engine.setG_pc]; rfl
  · simp only [Engine.setG_cycles]; rfl

theorem ends_engineTimerFire {tm : EngTimer} (hk : k < 8) (ht : (s.eng e).timers.find? k = some tm) (hdue : tm.due ≤ t) :
    Ends (.engineTimerFire t e k) s fun s' => (s'.eng e).edges = maskSet (s.eng e).edges (16 + k) ∧ (s'.eng e).timers =
      if tm.period = 0 then (s.eng e).timers.erase k else (s.eng e).timers.insert k { tm with due := tm.due + tm.period } := by
  refine ends_onUnit (arm_engineTimerFire ..) (decide_eq_true ⟨he, hk⟩) ?_
  have ht' : ((s.tick t).eng e).timers.find? k = some tm := ht
  have hdue' : tm.due ≤ (s.tick t).now := hdue
  simp only [ht', if_pos hdue']
  rw [State.eng_modEng_self, State.raiseEdge, State.eng_modEng_self]
  exact ⟨rfl, rfl⟩

end

/-- Settles O36. -/
theorem engineControlCompletes : Obligations.EngineControlCompletes := by
  unfold Obligations.EngineControlCompletes
  intro s t e k q off i a v im he hpass hattic x n
  have acc {c : Instr} {off : Nat} {f : State → State} {P : State → Prop} (hc : exec c s = dveAccess t a e off f s)
      (h : P (f n.okay)) : Ends c s P := ends_dveAccess he hpass hattic hc h
  refine ⟨ends_waitWake he, fun tm hk ht hdue h0 => ?_, fun tm hk ht hdue h0 => ?_, fun hst hb => ?_, ?_, fun hst him hfit => ?_,
    fun hhub hst => ?_, fun hhub hst => ?_, fun addr hl h64 hall => ends_loadComplete he hl h64 hall, fun hst hv hq => ?_,
    fun hst => ?_, fun hst hoff hlt => ?_, fun hi haw hdr hst => ?_⟩
  · have h := ends_engineTimerFire he hk ht hdue
    simp only [h0, if_true] at h
    exact h
  · have h := ends_engineTimerFire he hk ht hdue
    simp only [h0, if_false] at h
    exact h
  · refine ends_onUnit (arm_burstLimitExpiry ..) (decide_eq_true he) ?_
    rw [if_pos ⟨hst, hb⟩]
    exact n.engFault_state e .burst
  · refine acc (arm_doorbell ..) ⟨?_, rfl⟩
    rw [State.eng_modEng_self]; rfl
  · refine acc (arm_dveStart ..) ?_
    have him' : (n.okay.eng e).image = some im := him
    have hfit' : n.okay.hashFits e im = true := (State.hashFits_congr (s := s) rfl e im).trans hfit
    have hst' : (n.okay.eng e).state = .stopped ∨ (n.okay.eng e).state = .fault := hst
    have hstart := n.okay.engStart_frame e im
    rcases hst' with h | h <;> simpa only [h, him', hfit', if_true] using hstart
  · refine acc (arm_dveStop ..) ?_
    have hst' : (n.okay.eng e).state = .running ∨ (n.okay.eng e).state = .waiting ∨ (n.okay.eng e).state = .fault := hst
    have hstop := n.okay.engStop_frame hhub
    simp only [State.powerIdle_hubEngine _ hhub, Bool.not_true, Bool.false_eq_true, if_false]
    rcases hst' with h | h | h <;> simp only [h] <;> exact hstop
  · refine acc (arm_dveLoad ..) ?_
    have hst' : (n.okay.eng e).state = .stopped := hst
    simp only [State.powerIdle_hubEngine _ hhub, Bool.not_true, Bool.false_eq_true, if_false, hst', if_true,
      State.latchChannels_hubEngine _ hhub, State.eng_modEng_self]
    exact ⟨trivial, rfl, rfl⟩
  · refine acc (arm_qmapWrite ..) ?_
    have hst' : (n.okay.eng e).state = .stopped := hst
    have h31 : bits v.toNat 31 31 = 1 := by simp only [bits]; omega
    have h30 : bits v.toNat 30 30 = 1 := by simp only [bits]; omega
    have h9 : bits v.toNat 8 0 = v.toNat % 512 := by simp [bits]
    simp only [hst', h31, h30, h9, Nat.mod_eq_of_lt hq, ne_eq, not_true_eq_false, if_false, one_ne_zero, and_false, false_and]
    refine ⟨?_, ?_, ?_⟩
    · rw [State.rd_wr_ne, State.rd_wr_ne, State.rd_wr_self]
      · rfl
      · simp only [Fld.key, F.DVE_QMAP_EN, F.DVE_QMAP_DIR]; omega
      · simp only [Fld.key, F.DVE_QMAP_EN, F.DVE_QMAP_HWQ]; omega
    · rw [State.rd_wr_ne, State.rd_wr_self]
      · rfl
      · simp only [Fld.key, F.DVE_QMAP_DIR, F.DVE_QMAP_HWQ]; omega
    · rw [State.rd_wr_self]
      exact Nat.mod_mod ..
  · refine acc (arm_instAllowWrite ..) ?_
    have hst' : (n.okay.eng e).state = .stopped := hst
    rw [if_pos ⟨hattic, hst'⟩]
    refine ⟨(State.rd_wr_self ..).trans (Nat.mod_eq_of_lt v.isLt), rfl⟩
  · refine acc (arm_dmemWrite ..) ?_
    have hst' : (n.okay.eng e).state = .stopped := hst
    have ho : off % 0x8000 / 4 * 4 = off := by omega
    simp only [ho, hst', if_true, State.eng_modEng_self]
    exact ⟨fun j hj => Memory.read_writeRun_leBytes hj .., fun b hb => Memory.read_writeRun_leBytes_outside hb ..⟩
  · refine ends_onUnit (arm_engineFenceArrive ..) (decide_eq_true ⟨he, hi⟩) ?_
    have h₁ : (n.awaits i (4 + e) && !(n.eng e).drains.contains i) = true := by
      rw [Bool.and_eq_true, Bool.not_eq_true']; exact ⟨haw, hdr⟩
    have hst' : (n.eng e).state = .running := hst
    rw [if_pos h₁, if_pos hst', State.eng_modEng_self]
    exact ⟨rfl, rfl⟩

end Sys2Proof.Machine
end

section
/-! PROOFS. Frames: what an update leaves unchanged, as rules that follow the shape of a command's effect. -/

namespace Sys2Proof.Machine

/-! ### Guarded commands -/

section
variable {c : Instr} {s : State} {t addr : Nat} {a : Attr} {w own b : Bool} {eff : State → State} {P : State → Prop}

theorem ends_next {s' : State} (hc : exec c s = .next s') (h : P s') : Ends c s P := ⟨s', hc, h⟩

/-- A command that always completes, with its effect worked out. -/
theorem ends_next_eq {y x : State} (hc : exec c s = .next y) (hx : y = x) (h : P x) : Ends c s P := ⟨y, hc, hx ▸ h⟩

/-- A command on a unit that the module has completes, with its effect worked out. -/
theorem ends_unit {y x : State} (hc : exec c s = onUnit b y) (hb : b = true) (hx : y = x) (h : P x) : Ends c s P :=
  ends_onUnit hc hb (hx ▸ h)

/-- A guarded command that its checks let pass has its effect. -/
theorem ends_guarded (hc : exec c s = .next ((s.tick t).guarded a addr w own eff))
    (hp : (s.tick t).passes addr a w = true) (ho : own = true) (h : P (eff (s.tick t).okay)) : Ends c s P :=
  ⟨_, hc.trans (by rw [State.guarded_pass eff hp ho]), h⟩

/-- As `ends_guarded`, with the effect on this state worked out. -/
theorem ends_guarded_eq {x : State} (hc : exec c s = .next ((s.tick t).guarded a addr w own eff))
    (hp : (s.tick t).passes addr a w = true) (ho : own = true) (hx : eff (s.tick t).okay = x) (h : P x) : Ends c s P :=
  ends_guarded hc hp ho (hx.symm ▸ h)

/-- A guarded command on a unit that the module has, which its checks let pass, has its effect. -/
theorem ends_unit_guarded (hc : exec c s = onUnit b ((s.tick t).guarded a addr w own eff)) (hb : b = true)
    (hp : (s.tick t).passes addr a w = true) (ho : own = true) (h : P (eff (s.tick t).okay)) : Ends c s P :=
  ends_guarded (hc.trans (onUnit_true _ hb)) hp ho h

/-- As `ends_unit_guarded`, with the effect on this state worked out. -/
theorem ends_unit_guarded_eq {x : State} (hc : exec c s = onUnit b ((s.tick t).guarded a addr w own eff)) (hb : b = true)
    (hp : (s.tick t).passes addr a w = true) (ho : own = true) (hx : eff (s.tick t).okay = x) (h : P x) : Ends c s P :=
  ends_unit_guarded hc hb hp ho (hx.symm ▸ h)

/-- A guarded command that its checks do not let pass is denied. -/
theorem ends_denied (hc : exec c s = .next ((s.tick t).guarded a addr w own eff))
    (hp : ((s.tick t).passes addr a w && own) = false) (h : P ((s.tick t).deny a ((regionSet addr).getD 3) addr w)) : Ends c s P :=
  ⟨_, hc.trans (by rw [State.guarded_fail eff hp]), h⟩

end

/-! ### Register fields -/

theorem State.flag_eq_true {s : State} {f : Fld} : s.flag f = true ↔ s.rd f ≠ 0 := by simp [State.flag]

theorem State.flag_eq_false {s : State} {f : Fld} : s.flag f = false ↔ s.rd f = 0 := by simp [State.flag]

/-- A value that fits its field reads back. -/
theorem State.rd_wr_lt (s : State) {f : Fld} {v : Nat} (h : v < 2 ^ f.width) : (s.wr f v).rd f = v :=
  (s.rd_wr_self f v).trans (Nat.mod_eq_of_lt h)

theorem State.word_congr {s s' : State} (h : s'.regs = s.regs) (addr : Nat) : s'.word addr = s.word addr := by
  unfold State.word; simp only [State.rd_congr h]

@[simp] theorem State.rd_setF_self (s : State) (f : Fld) : (s.setF f).rd f = 1 % 2 ^ f.width := State.rd_wr_self ..

@[simp] theorem State.rd_clrF_self (s : State) (f : Fld) : (s.clrF f).rd f = 0 := by rw [State.clrF, State.rd_wr_self, Nat.zero_mod]

/-- A W1C bit that hardware sets reads nonzero. -/
theorem State.rd_raise_ne_zero (s : State) {f : Fld} (hw : f.width = 1) : (s.raise f).rd f ≠ 0 := by
  rw [s.rd_raise_bit hw]; exact one_ne_zero

/-! ### Only some fields change -/

namespace OnlyRegs
variable {s s' : State} {t : Nat} {fs : List Fld} {f : Fld}

theorem tick (s : State) (t : Nat) (fs : List Fld) : OnlyRegs s t fs (s.tick t) := ⟨rfl, fun _ _ => rfl⟩

theorem answer (h : OnlyRegs s t fs s') (st d : Nat) : OnlyRegs s t fs (s'.answer st d) := ⟨h.1, h.2⟩

theorem okay (h : OnlyRegs s t fs s') : OnlyRegs s t fs s'.okay := h.answer 0 0

theorem wr (h : OnlyRegs s t fs s') (v : Nat) (hf : f.key ∈ fs.map Fld.key) : OnlyRegs s t fs (s'.wr f v) :=
  ⟨h.1, fun g hg => (State.rd_wr_ne s' v fun e => hg (e ▸ hf)).trans (h.2 g hg)⟩

theorem clrF (h : OnlyRegs s t fs s') (hf : f.key ∈ fs.map Fld.key) : OnlyRegs s t fs (s'.clrF f) := h.wr 0 hf

theorem setF (h : OnlyRegs s t fs s') (hf : f.key ∈ fs.map Fld.key) : OnlyRegs s t fs (s'.setF f) := h.wr 1 hf

theorem inc (h : OnlyRegs s t fs s') (hf : f.key ∈ fs.map Fld.key) : OnlyRegs s t fs (s'.inc f) := h.wr _ hf

theorem raiseBits (h : OnlyRegs s t fs s') (m : Nat) (hf : f.key ∈ fs.map Fld.key) : OnlyRegs s t fs (s'.raiseBits f m) :=
  ⟨(h.wr (s'.rd f ||| m) hf).1, (h.wr (s'.rd f ||| m) hf).2⟩

theorem raise (h : OnlyRegs s t fs s') (hf : f.key ∈ fs.map Fld.key) : OnlyRegs s t fs (s'.raise f) := h.raiseBits 1 hf

theorem updates (h : OnlyRegs s t fs s') (a v : Nat) : OnlyRegs s t fs (s'.updates a v) := by
  unfold State.updates; split
  · exact h
  · exact ⟨h.1, h.2⟩

theorem foldl {α : Type} {g : State → α → State} (h : OnlyRegs s t fs s') (l : List α)
    (hg : ∀ x ∈ l, ∀ s'', OnlyRegs s t fs s'' → OnlyRegs s t fs (g s'' x)) : OnlyRegs s t fs (l.foldl g s') := by
  induction l generalizing s' with
  | nil => exact h
  | cons x l ih => exact ih (hg x List.mem_cons_self _ h) fun y hy => hg y (List.mem_cons_of_mem x hy)

end OnlyRegs

namespace RegsBut
variable {s s' s'' : State} {fs : List Fld} {f : Fld}

theorem refl (fs : List Fld) (s : State) : RegsBut fs s s := fun _ _ => rfl

theorem of_regs (h : RegsBut fs s s') (hr : s''.regs = s'.regs) : RegsBut fs s s'' := fun g hg => (State.rd_congr hr g).trans (h g hg)

theorem wr (h : RegsBut fs s s') (v : Nat) (hf : f.key ∈ fs.map Fld.key) : RegsBut fs s (s'.wr f v) :=
  fun g hg => (State.rd_wr_ne s' v fun e => hg (e ▸ hf)).trans (h g hg)

theorem raiseBits (h : RegsBut fs s s') (m : Nat) (hf : f.key ∈ fs.map Fld.key) : RegsBut fs s (s'.raiseBits f m) :=
  h.wr (s'.rd f ||| m) hf

theorem raise (h : RegsBut fs s s') (hf : f.key ∈ fs.map Fld.key) : RegsBut fs s (s'.raise f) := h.raiseBits 1 hf

theorem rd (h : RegsBut fs s s') {g : Fld} (hg : ∀ f ∈ fs, f.key ≠ g.key) : s'.rd g = s.rd g :=
  h g fun hm => by obtain ⟨f, hf, e⟩ := List.mem_map.1 hm; exact hg f hf e

end RegsBut

/-! ### One record -/

/-- A record reaches its port; what stands in the log before it is what stood there at `s`. -/
theorem wroteOne_record {s s₁ s' : State} {cls kind sev subj st : Nat} {vals : List Nat} {src : Nat}
    (h₁ : s₁.log = s.log) (h' : s'.log = (s₁.record cls kind sev subj st vals src).log) : WroteOne s s' cls kind sev subj st :=
  ⟨_, rfl, rfl, rfl, rfl, rfl, by rw [h', ← h₁]; rfl⟩

end Sys2Proof.Machine
end

section
/-! PROOFS. The power channels of the Fusebox: a rule per operation on a channel. -/

namespace Sys2Proof.Machine

/-! ### Reading a channel -/

section
variable {s s' : State} {n m : Nat} {f : Channel → Channel}

theorem State.chan_congr (h : s'.fuse = s.fuse) (n : Nat) : s'.chan n = s.chan n := by unfold State.chan; rw [h]

theorem State.chan_of_chans (h : s'.fuse.chans = s.fuse.chans) (n : Nat) : s'.chan n = s.chan n := by unfold State.chan; rw [h]

@[simp] theorem State.chan_modChan_self (s : State) (n : Nat) (f : Channel → Channel) : (s.modChan n f).chan n = f (s.chan n) :=
  Tbl.getD_put_self ..

theorem State.chan_modChan_ne (h : m ≠ n) : (s.modChan n f).chan m = s.chan m := Tbl.getD_put_ne _ _ _ h.symm

@[simp] theorem State.chan_wr (s : State) (g : Fld) (v n : Nat) : (s.wr g v).chan n = s.chan n := rfl
@[simp] theorem State.chan_raise (s : State) (g : Fld) (n : Nat) : (s.raise g).chan n = s.chan n := rfl
@[simp] theorem State.chan_tick (s : State) (t n : Nat) : (s.tick t).chan n = s.chan n := rfl
@[simp] theorem State.chan_okay (s : State) (n : Nat) : s.okay.chan n = s.chan n := rfl
@[simp] theorem State.chan_raiseEdge (s : State) (e k n : Nat) : (s.raiseEdge e k).chan n = s.chan n := rfl
@[simp] theorem State.chan_dequeue (s : State) (k n : Nat) : (s.dequeue k).chan n = s.chan n := rfl
@[simp] theorem State.chan_fuseRecord (s : State) (kind sev k st : Nat) (vals : List Nat) (n : Nat) :
    (s.fuseRecord kind sev k st vals).chan n = s.chan n := rfl

end

/-! ### A change that the power engine sees -/

section
variable (s : State) (n : Nat) (f : Channel → Channel)

@[simp] theorem State.chan_setCh_self : (s.setCh n f).chan n = f (s.chan n) := s.chan_modChan_self n f

theorem State.chan_setCh_ne {s : State} {n m : Nat} {f : Channel → Channel} (h : m ≠ n) : (s.setCh n f).chan m = s.chan m :=
  s.chan_modChan_ne h

@[simp] theorem State.setCh_regs : (s.setCh n f).regs = s.regs := rfl
@[simp] theorem State.setCh_mem : (s.setCh n f).mem = s.mem := rfl
@[simp] theorem State.setCh_log : (s.setCh n f).log = s.log := rfl
@[simp] theorem State.setCh_queue : (s.setCh n f).fuse.queue = s.fuse.queue := rfl
@[simp] theorem State.rd_setCh (g : Fld) : (s.setCh n f).rd g = s.rd g := rfl

end

/-! ### Leaving conduction or the queue -/

/-- What a channel is once it has left conduction or the queue for state `next` (R54, R58, R466). -/
def Channel.left (next : ChState) (c : Channel) : Channel :=
  { c with state := next, hand := false, late := false, inr := 0, slew := 0, duty := 0, phase := none, wheel := false,
           clamp := c.state.live || c.clamp }

/-- The state as an entry to LATCHED finds it: the present clock remembers what CH_STAT read (R69). -/
def State.beforeLatch (s : State) (n : Nat) (next : ChState) : State :=
  if next = .latched then s.updates (F.CH_STAT_RETRY_CNT n).addr (s.chStat n) else s

section
variable (s : State) (n : Nat) (c : ChState)

/-- What a clock remembers is all that the notice of an update changes. -/
theorem State.updates_eq (a v : Nat) : ∃ k, s.updates a v = { s with clk := k } := by
  unfold State.updates; split
  · exact ⟨s.clk, rfl⟩
  · exact ⟨_, rfl⟩

theorem State.beforeLatch_eq : ∃ k, s.beforeLatch n c = { s with clk := k } := by
  unfold State.beforeLatch; split
  · exact s.updates_eq ..
  · exact ⟨s.clk, rfl⟩

theorem State.chanTo_eq : s.chanTo n c = ((s.beforeLatch n c).dequeue n).setCh n (Channel.left c) := rfl

theorem State.beforeLatch_fuse : (s.beforeLatch n c).fuse = s.fuse := by
  obtain ⟨k, hk⟩ := s.beforeLatch_eq n c; rw [hk]

@[simp] theorem State.chanTo_mem : (s.chanTo n c).mem = s.mem := by
  obtain ⟨k, hk⟩ := s.beforeLatch_eq n c; rw [s.chanTo_eq, hk]; rfl

@[simp] theorem State.chanTo_log : (s.chanTo n c).log = s.log := by
  obtain ⟨k, hk⟩ := s.beforeLatch_eq n c; rw [s.chanTo_eq, hk]; rfl

@[simp] theorem State.chan_chanTo_self : (s.chanTo n c).chan n = (s.chan n).left c := by
  rw [s.chanTo_eq, State.chan_setCh_self, State.chan_dequeue, State.chan_congr (s.beforeLatch_fuse n c)]

theorem State.chan_chanTo_ne {m : Nat} (h : m ≠ n) : (s.chanTo n c).chan m = s.chan m := by
  rw [s.chanTo_eq, State.chan_setCh_ne h, State.chan_dequeue, State.chan_congr (s.beforeLatch_fuse n c)]

theorem State.chanTo_queue : (s.chanTo n c).fuse.queue = s.fuse.queue.filter (fun m => m ≠ n) := by
  rw [s.chanTo_eq, State.setCh_queue, State.dequeue, s.beforeLatch_fuse]

theorem State.not_mem_chanTo_queue : n ∉ (s.chanTo n c).fuse.queue := by
  rw [s.chanTo_queue, List.mem_filter]; simp

@[simp] theorem State.rd_chanTo (g : Fld) : (s.chanTo n c).rd g = s.rd g := State.rd_congr (s.chanTo_regs n c) g

end

/-! ### A fault bit and its record -/

section
variable (s : State) (n : Nat) (f : Fld) (kind sev : Nat)

@[simp] theorem State.chFault_fuse : (s.chFault n f kind sev).fuse = s.fuse := by unfold State.chFault; split <;> rfl

@[simp] theorem State.chFault_mem : (s.chFault n f kind sev).mem = s.mem := by unfold State.chFault; split <;> rfl

@[simp] theorem State.chFault_regs : (s.chFault n f kind sev).regs = (s.raise f).regs := by unfold State.chFault; split <;> rfl

@[simp] theorem State.rd_chFault (g : Fld) : (s.chFault n f kind sev).rd g = (s.raise f).rd g := State.rd_congr (s.chFault_regs ..) g

@[simp] theorem State.chan_chFault (m : Nat) : (s.chFault n f kind sev).chan m = s.chan m := State.chan_congr (s.chFault_fuse ..) m

/-- A fault whose bit was clear writes one record, on a VITAL channel at severity 6 (R68). -/
theorem wroteOne_chFault {s s₁ s' : State} {n kind sev : Nat} {f : Fld} (h₁ : s₁.log = s.log) (hf : s₁.rd f = 0)
    (hv : (F.CH_PROFILE_CH_MODE n).key ≠ f.key) (hm : s₁.vital n = s.vital n) (h' : s'.log = (s₁.chFault n f kind sev).log) :
    WroteOne s s' 2 kind (if s.vital n = true then 6 else sev) n 0 := by
  have hc : s₁.chFault n f kind sev = (s₁.raise f).fuseRecord kind (if s.vital n then 6 else sev) n 0
      [(s₁.raise f).word (F.CH_DIAG_TJ n).addr] := by
    unfold State.chFault
    rw [State.flag_eq_false.2 hf, if_neg Bool.false_ne_true]
    have : (s₁.raise f).vital n = s.vital n := by
      rw [← hm]; exact congrArg (· != 0) (s₁.rd_raise_ne hv.symm)
    simp only [this]
  exact wroteOne_record (s₁ := s₁.raise f) h₁ (by rw [h', hc]; rfl)

end

/-! ### A trip -/

section
variable {s : State} {n : Nat}

/-- A trip with retries left leads to RETRY_WAIT and counts. -/
theorem State.chTrip_retry (h : s.rd (F.CH_STAT_RETRY_CNT n) < s.rd (F.CH_PROFILE_RETRY_MAX n)) :
    s.chTrip n = ((s.chanTo n .retryWait).modChan n fun c => { c with tripAt := s.now }).wr (F.CH_STAT_RETRY_CNT n)
      (s.rd (F.CH_STAT_RETRY_CNT n) + 1) := if_pos h

/-- A trip without retries left leads to LATCHED. -/
theorem State.chTrip_latch (h : ¬ s.rd (F.CH_STAT_RETRY_CNT n) < s.rd (F.CH_PROFILE_RETRY_MAX n)) :
    s.chTrip n = s.chanTo n .latched := if_neg h

variable (s n)

/-- The state that a trip leads to. -/
def State.tripTo : ChState := if s.rd (F.CH_STAT_RETRY_CNT n) < s.rd (F.CH_PROFILE_RETRY_MAX n) then .retryWait else .latched

theorem State.chan_chTrip_self : (s.chTrip n).chan n = { (s.chan n).left (s.tripTo n) with tripAt := ((s.chTrip n).chan n).tripAt } := by
  by_cases h : s.rd (F.CH_STAT_RETRY_CNT n) < s.rd (F.CH_PROFILE_RETRY_MAX n)
  · rw [State.chTrip_retry h, State.tripTo, if_pos h]; simp
  · rw [State.chTrip_latch h, State.tripTo, if_neg h]; simp

theorem State.chan_chTrip_ne {m : Nat} (hm : m ≠ n) : (s.chTrip n).chan m = s.chan m := by
  by_cases h : s.rd (F.CH_STAT_RETRY_CNT n) < s.rd (F.CH_PROFILE_RETRY_MAX n)
  · rw [State.chTrip_retry h, State.chan_wr, State.chan_modChan_ne hm, State.chan_chanTo_ne _ _ _ hm]
  · rw [State.chTrip_latch h, State.chan_chanTo_ne _ _ _ hm]

theorem State.chTrip_frame : (s.chTrip n).mem = s.mem ∧ (s.chTrip n).log = s.log ∧ n ∉ (s.chTrip n).fuse.queue ∧
    ∀ g : Fld, (F.CH_STAT_RETRY_CNT n).key ≠ g.key → (s.chTrip n).rd g = s.rd g := by
  by_cases h : s.rd (F.CH_STAT_RETRY_CNT n) < s.rd (F.CH_PROFILE_RETRY_MAX n)
  · rw [State.chTrip_retry h]
    refine ⟨s.chanTo_mem n .retryWait, s.chanTo_log n .retryWait, s.not_mem_chanTo_queue n .retryWait, fun g hg => ?_⟩
    rw [State.rd_wr_ne _ _ hg, State.rd_modChan, State.rd_chanTo]
  · rw [State.chTrip_latch h]
    exact ⟨s.chanTo_mem n .latched, s.chanTo_log n .latched, s.not_mem_chanTo_queue n .latched, fun g _ => s.rd_chanTo n .latched g⟩

end

/-! ### Requests -/

theorem State.enqueue_latched {s : State} {n : Nat} {hand : Bool} (hp : s.inPowerFail = false) (he : s.pwr.state ≠ .sleepEntry)
    (hr : s.powerRuns n = false) : s.enqueue n hand = s.chanTo n .latched := by
  simp [State.enqueue, hp, he, hr]

theorem State.enqueue_queued {s : State} {n : Nat} {hand : Bool} (hp : s.inPowerFail = false) (he : s.pwr.state ≠ .sleepEntry)
    (hr : s.powerRuns n = true) : ((s.enqueue n hand).chan n).state = .queued ∧ ((s.enqueue n hand).chan n).reqTick = s.now ∧
      (s.enqueue n hand).fuse.fresh = s.fuse.fresh ++ [n] ∧ (s.enqueue n hand).fuse.queue = s.fuse.queue ∧
      (s.enqueue n hand).regs = s.regs ∧ (s.enqueue n hand).mem = s.mem ∧ ∀ m, m ≠ n → (s.enqueue n hand).chan m = s.chan m := by
  have he : s.enqueue n hand =
      let s := s.setCh n fun c => { c with state := .queued, hand := hand, late := false, reqTick := s.now }
      { s with fuse := { s.fuse with fresh := s.fuse.fresh ++ [n] } } := by simp [State.enqueue, hp, he, hr]
  have hc (m : Nat) : (s.enqueue n hand).chan m =
      (s.setCh n fun c => { c with state := .queued, hand := hand, late := false, reqTick := s.now }).chan m := by rw [he]; rfl
  refine ⟨?_, ?_, by rw [he]; rfl, by rw [he]; rfl, by rw [he]; rfl, by rw [he]; rfl, fun m hm => (hc m).trans (State.chan_setCh_ne hm)⟩
    <;> rw [hc, State.chan_setCh_self]

end Sys2Proof.Machine
end

section
/-! PROOFS. The hub's writes to the Fusebox: O5 and O6. -/

namespace Sys2Proof.Machine

/-! ### The shadow curve -/

section
variable {s s' : State} {n k j : Nat}

theorem iThr_ne_iThr (h : k ≠ j) : (F.CH_FUSE_I_THR n k).key ≠ (F.CH_FUSE_I_THR n j).key := by
  simp only [Fld.key, F.CH_FUSE_I_THR]; omega

theorem iThr_ne_tMs : (F.CH_FUSE_I_THR n k).key ≠ (F.CH_FUSE_T_MS n j).key := by
  simp only [Fld.key, F.CH_FUSE_I_THR, F.CH_FUSE_T_MS]; omega

theorem tMs_ne_tMs (h : k ≠ j) : (F.CH_FUSE_T_MS n k).key ≠ (F.CH_FUSE_T_MS n j).key := by
  simp only [Fld.key, F.CH_FUSE_T_MS]; omega

theorem State.shadowPoint_congr (hc : s'.chan n = s.chan n) (hi : s'.rd (F.CH_FUSE_I_THR n k) = s.rd (F.CH_FUSE_I_THR n k))
    (ht : s'.rd (F.CH_FUSE_T_MS n k) = s.rd (F.CH_FUSE_T_MS n k)) : s'.shadowPoint n k = s.shadowPoint n k := by
  unfold State.shadowPoint; rw [hc, hi, ht]

/-- The copy of the first `m` points: what they read, and that the points above are as they were. -/
theorem State.copyPoints (s : State) (n m : Nat) :
    let c := (List.range m).foldl (fun s k =>
      (s.wr (F.CH_FUSE_I_THR n k) (s.shadowPoint n k).1).wr (F.CH_FUSE_T_MS n k) (s.shadowPoint n k).2) s
    c.chan n = s.chan n ∧ ∀ i,
      (i < m → c.rd (F.CH_FUSE_I_THR n i) = (s.shadowPoint n i).1 % 2 ^ 16 ∧ c.rd (F.CH_FUSE_T_MS n i) = (s.shadowPoint n i).2 % 2 ^ 16) ∧
      (m ≤ i → c.rd (F.CH_FUSE_I_THR n i) = s.rd (F.CH_FUSE_I_THR n i) ∧ c.rd (F.CH_FUSE_T_MS n i) = s.rd (F.CH_FUSE_T_MS n i)) := by
  induction m with
  | zero => simp
  | succ m ih =>
    simp only [List.range_succ, List.foldl_append, List.foldl_cons, List.foldl_nil]
    obtain ⟨hc, hr⟩ := ih
    generalize (List.range m).foldl _ s = c at hc hr ⊢
    have hp : c.shadowPoint n m = s.shadowPoint n m := shadowPoint_congr hc ((hr m).2 le_rfl).1 ((hr m).2 le_rfl).2
    refine ⟨hc, fun i => ?_⟩
    by_cases hi : m = i
    · subst hi
      refine ⟨fun _ => ?_, fun h => absurd h (by omega)⟩
      rw [State.rd_wr_ne _ _ iThr_ne_tMs.symm, State.rd_wr_self, State.rd_wr_self, hp]
      exact ⟨rfl, rfl⟩
    · rw [State.rd_wr_ne _ _ iThr_ne_tMs.symm, State.rd_wr_ne _ _ (iThr_ne_iThr hi), State.rd_wr_ne _ _ (tMs_ne_tMs hi),
        State.rd_wr_ne _ _ iThr_ne_tMs]
      exact ⟨fun h => (hr i).1 (by omega), fun h => (hr i).2 (by omega)⟩

theorem ctlAmp_ne_setpoint : (F.CH_CTL_DITHER_AMP n).key ≠ (F.CH_CTL_SETPOINT n).key := by
  simp only [Fld.key, F.CH_CTL_DITHER_AMP, F.CH_CTL_SETPOINT]; omega

theorem outMode_ne_ctl : (F.CH_CTL_DITHER_AMP n).key ≠ (F.CH_CTL_OUT_MODE n).key ∧ (F.CH_CTL_SETPOINT n).key ≠ (F.CH_CTL_OUT_MODE n).key := by
  simp only [Fld.key, F.CH_CTL_DITHER_AMP, F.CH_CTL_SETPOINT, F.CH_CTL_OUT_MODE]; omega

theorem State.copyCurve_onlyRegs {t : Nat} {fs : List Fld} (h : OnlyRegs s t fs s')
    (hi : ∀ k < 8, (F.CH_FUSE_I_THR n k).key ∈ fs.map Fld.key) (ht : ∀ k < 8, (F.CH_FUSE_T_MS n k).key ∈ fs.map Fld.key) :
    OnlyRegs s t fs (s'.copyCurve n) :=
  h.foldl _ fun k hk _ h' => (h'.wr _ (hi k (List.mem_range.1 hk))).wr _ (ht k (List.mem_range.1 hk))

/-- The tests of R49 hold of the shadow curve exactly where its points rise, its times do not, and all are in range. -/
theorem State.curveValid_iff (s : State) (n : Nat) : s.curveValid n = true ↔
    ((∀ i, i < 7 → (s.shadowPoint n i).1 < (s.shadowPoint n (i + 1)).1 ∧ (s.shadowPoint n (i + 1)).2 ≤ (s.shadowPoint n i).2) ∧
      (s.shadowPoint n 7).1 < scThreshold n ∧ ∀ i, i < 8 → 1 ≤ (s.shadowPoint n i).2) := by
  simp only [State.curveValid, Bool.and_eq_true, List.all_eq_true, List.mem_range, decide_eq_true_eq]
  constructor
  · rintro ⟨⟨⟨hi, ht⟩, h7⟩, h1⟩
    exact ⟨fun i h => ⟨hi i h, ht i h⟩, h7, h1⟩
  · rintro ⟨h, h7, h1⟩
    exact ⟨⟨⟨fun i hi => (h i hi).1, fun i hi => (h i hi).2⟩, h7⟩, h1⟩

end

/-! ### The configuration words of a channel -/

section
variable {s : State} {n v t : Nat}

/-- PWM_KHZ as a write of CH_PWM asks for it. -/
theorem clampNat_eq (v lo hi : Nat) (h : lo ≤ hi) : clampNat v lo hi = max lo (min hi v) := by
  unfold clampNat; split
  · omega
  · split <;> omega

/-- The two words of CH_CTL that every write sets, as they read after it. -/
theorem State.ctlWords (x : State) {top : Nat} (ht : top < 65536) :
    let y := (x.wr (F.CH_CTL_DITHER_AMP n) (min 1000 (bits v 26 16))).wr (F.CH_CTL_SETPOINT n) (min top (bits v 15 0))
    y.rd (F.CH_CTL_OUT_MODE n) = x.rd (F.CH_CTL_OUT_MODE n) ∧ y.rd (F.CH_CTL_DITHER_AMP n) = min 1000 (v / 2 ^ 16 % 2 ^ 11) ∧
      y.rd (F.CH_CTL_SETPOINT n) = min top (v % 2 ^ 16) := by
  refine ⟨?_, ?_, ?_⟩
  · rw [State.rd_wr_ne _ _ outMode_ne_ctl.2, State.rd_wr_ne _ _ outMode_ne_ctl.1]
  · rw [State.rd_wr_ne _ _ ctlAmp_ne_setpoint.symm, State.rd_wr_self]
    exact Nat.mod_eq_of_lt (lt_of_le_of_lt (min_le_left _ _) (by simp [F.CH_CTL_DITHER_AMP]))
  · rw [State.rd_wr_self, bits, Nat.pow_zero, Nat.div_one]
    exact Nat.mod_eq_of_lt (lt_of_le_of_lt (min_le_left _ _) ht)

/-- OUT_MODE as a write of CH_CTL asks for it (R53). -/
def askedMode (v : Nat) : Nat := if v / 2 ^ 27 % 4 = 3 then 0 else v / 2 ^ 27 % 4

theorem askedMode_lt (v : Nat) : askedMode v < 2 ^ 2 := by unfold askedMode; split <;> omega

theorem State.writeChCtl_same (hm : askedMode v = s.rd (F.CH_CTL_OUT_MODE n)) :
    s.writeChCtl n v = (s.wr (F.CH_CTL_DITHER_AMP n) (min 1000 (bits v 26 16))).wr (F.CH_CTL_SETPOINT n)
      (min (if s.rd (F.CH_CTL_OUT_MODE n) = 2 then 4000 else 65535) (bits v 15 0)) := by
  have : (if n < 16 ∨ askedMode v = s.rd (F.CH_CTL_OUT_MODE n) then s
    else if (s.chan n).state = .off then s.wr (F.CH_CTL_OUT_MODE n) (askedMode v) else s.raise (F.CH_STAT_CFG_REFUSED n)) = s := if_pos (.inr hm)
  exact congrArg (fun x : State => (x.wr (F.CH_CTL_DITHER_AMP n) (min 1000 (bits v 26 16))).wr (F.CH_CTL_SETPOINT n)
      (min (if x.rd (F.CH_CTL_OUT_MODE n) = 2 then 4000 else 65535) (bits v 15 0))) this

theorem State.writeChCtl_differs (hn : 16 ≤ n) (hm : askedMode v ≠ s.rd (F.CH_CTL_OUT_MODE n)) (x : State)
    (hx : x = if (s.chan n).state = .off then s.wr (F.CH_CTL_OUT_MODE n) (askedMode v) else s.raise (F.CH_STAT_CFG_REFUSED n)) :
    s.writeChCtl n v = (x.wr (F.CH_CTL_DITHER_AMP n) (min 1000 (bits v 26 16))).wr (F.CH_CTL_SETPOINT n)
      (min (if x.rd (F.CH_CTL_OUT_MODE n) = 2 then 4000 else 65535) (bits v 15 0)) := by
  have : (if n < 16 ∨ askedMode v = s.rd (F.CH_CTL_OUT_MODE n) then s
    else if (s.chan n).state = .off then s.wr (F.CH_CTL_OUT_MODE n) (askedMode v) else s.raise (F.CH_STAT_CFG_REFUSED n)) = x := by
    rw [if_neg (by omega), hx]
  exact congrArg (fun x : State => (x.wr (F.CH_CTL_DITHER_AMP n) (min 1000 (bits v 26 16))).wr (F.CH_CTL_SETPOINT n)
      (min (if x.rd (F.CH_CTL_OUT_MODE n) = 2 then 4000 else 65535) (bits v 15 0))) this

theorem setpointTop (m v : Nat) : min (if m = 2 then 4000 else 65535) (v % 2 ^ 16) = if m = 2 then min 4000 (v % 2 ^ 16) else v % 2 ^ 16 := by
  split
  · rfl
  · omega

/-- A write of CH_CTL in OFF takes every field. -/
theorem State.writeChCtl_off (hn : 16 ≤ n) (ho : (s.chan n).state = .off) :
    (s.writeChCtl n v).rd (F.CH_CTL_OUT_MODE n) = askedMode v ∧
    (s.writeChCtl n v).rd (F.CH_CTL_DITHER_AMP n) = min 1000 (v / 2 ^ 16 % 2 ^ 11) ∧
    (s.writeChCtl n v).rd (F.CH_CTL_SETPOINT n) = (if askedMode v = 2 then min 4000 (v % 2 ^ 16) else v % 2 ^ 16) ∧
    ∀ s₀ t fs, OnlyRegs s₀ t fs s → (F.CH_CTL_OUT_MODE n).key ∈ fs.map Fld.key → (F.CH_CTL_DITHER_AMP n).key ∈ fs.map Fld.key →
      (F.CH_CTL_SETPOINT n).key ∈ fs.map Fld.key → OnlyRegs s₀ t fs (s.writeChCtl n v) := by
  by_cases hm : askedMode v = s.rd (F.CH_CTL_OUT_MODE n)
  · obtain ⟨h1, h2, h3⟩ := s.ctlWords (n := n) (v := v) (top := if s.rd (F.CH_CTL_OUT_MODE n) = 2 then 4000 else 65535) (by split <;> omega)
    rw [writeChCtl_same hm]
    exact ⟨by rw [h1, hm], h2, by rw [h3, setpointTop, hm], fun _ _ _ h _ ha hs => (h.wr _ ha).wr _ hs⟩
  · have hx : (s.wr (F.CH_CTL_OUT_MODE n) (askedMode v)).rd (F.CH_CTL_OUT_MODE n) = askedMode v :=
      (State.rd_wr_self ..).trans (Nat.mod_eq_of_lt (askedMode_lt v))
    obtain ⟨h1, h2, h3⟩ := (s.wr (F.CH_CTL_OUT_MODE n) (askedMode v)).ctlWords (n := n) (v := v)
      (top := if askedMode v = 2 then 4000 else 65535) (by split <;> omega)
    rw [writeChCtl_differs hn hm _ (if_pos ho).symm, hx]
    exact ⟨by rw [h1, hx], h2, by rw [h3, setpointTop], fun _ _ _ h hm ha hs => ((h.wr _ hm).wr _ ha).wr _ hs⟩

/-- A write of CH_CTL with another mode outside OFF is refused, and the other fields take it. -/
theorem State.writeChCtl_on (hn : 16 ≤ n) (ho : (s.chan n).state ≠ .off) (hm : askedMode v ≠ s.rd (F.CH_CTL_OUT_MODE n)) :
    (s.writeChCtl n v).rd (F.CH_STAT_CFG_REFUSED n) = 1 ∧
    (s.writeChCtl n v).rd (F.CH_CTL_DITHER_AMP n) = min 1000 (v / 2 ^ 16 % 2 ^ 11) ∧
    ∀ s₀ t fs, OnlyRegs s₀ t fs s → (F.CH_STAT_CFG_REFUSED n).key ∈ fs.map Fld.key → (F.CH_CTL_DITHER_AMP n).key ∈ fs.map Fld.key →
      (F.CH_CTL_SETPOINT n).key ∈ fs.map Fld.key → OnlyRegs s₀ t fs (s.writeChCtl n v) := by
  rw [writeChCtl_differs hn hm _ (if_neg ho).symm]
  refine ⟨?_, ((s.raise (F.CH_STAT_CFG_REFUSED n)).ctlWords (n := n) (v := v) (by split <;> omega)).2.1,
    fun _ _ _ h hr ha hs => ((h.raise hr).wr _ ha).wr _ hs⟩
  rw [State.rd_wr_ne, State.rd_wr_ne, State.rd_raise_bit _ rfl] <;>
    simp only [ne_eq, Fld.key, F.CH_STAT_CFG_REFUSED, F.CH_CTL_DITHER_AMP, F.CH_CTL_SETPOINT] <;> omega

theorem pwm_keys : (F.CH_PWM_DITHER_HZ n).key ≠ (F.CH_PWM_PWM_KHZ n).key := by
  simp only [Fld.key, F.CH_PWM_DITHER_HZ, F.CH_PWM_PWM_KHZ]; omega

/-- A write of CH_PWM in OFF takes both fields within their ranges. -/
theorem State.writeChPwm_off (hn : 16 ≤ n) (ho : (s.chan n).state = .off) :
    (s.writeChPwm n v).rd (F.CH_PWM_PWM_KHZ n) = max 1 (min (if 44 ≤ n then 5 else 25) (v / 2 ^ 16 % 32)) ∧
    (s.writeChPwm n v).rd (F.CH_PWM_DITHER_HZ n) = min 400 (v % 2 ^ 9) ∧
    ∀ s₀ t fs, OnlyRegs s₀ t fs s → (F.CH_PWM_PWM_KHZ n).key ∈ fs.map Fld.key → (F.CH_PWM_DITHER_HZ n).key ∈ fs.map Fld.key →
      OnlyRegs s₀ t fs (s.writeChPwm n v) := by
  set asked := clampNat (bits v 20 16) 1 (if 44 ≤ n then 5 else 25) with ha
  have hk : asked = max 1 (min (if 44 ≤ n then 5 else 25) (v / 2 ^ 16 % 32)) := clampNat_eq _ _ _ (by split <;> omega)
  have hlt : asked < 2 ^ 5 := by rw [hk]; split <;> omega
  have hw : s.writeChPwm n v = (if asked = s.rd (F.CH_PWM_PWM_KHZ n) then s else s.wr (F.CH_PWM_PWM_KHZ n) asked).wr
      (F.CH_PWM_DITHER_HZ n) (min 400 (bits v 8 0)) := by
    simp only [writeChPwm, ← ha, if_neg (not_lt.2 hn), if_pos ho]
  have hz : (s.writeChPwm n v).rd (F.CH_PWM_DITHER_HZ n) = min 400 (v % 2 ^ 9) := by
    rw [hw, State.rd_wr_self, bits, Nat.pow_zero, Nat.div_one]
    exact Nat.mod_eq_of_lt (lt_of_le_of_lt (min_le_left _ _) (by simp [F.CH_PWM_DITHER_HZ]))
  refine ⟨?_, hz, fun _ _ _ h h1 h2 => ?_⟩
  · rw [hw, State.rd_wr_ne _ _ pwm_keys, ← hk]
    split
    case isTrue h => exact h.symm
    case isFalse => exact (State.rd_wr_self ..).trans (Nat.mod_eq_of_lt hlt)
  · rw [hw]
    split
    · exact h.wr _ h2
    · exact (h.wr _ h1).wr _ h2

end

/-! ### The profile -/

section
variable {s : State} {n v : Nat}

/-- A write of a HUB-mode channel's profile in OFF takes every field. -/
theorem State.writeChProfile_off (ho : (s.chan n).state = .off) (hv : s.vital n = false) :
    s.writeChProfile n v = ((((s.wr (F.CH_PROFILE_PRIO n) (min 1 (bits v 28 27))).wr (F.CH_PROFILE_RETRY_MAX n) (bits v 26 24)).wr
      (F.CH_PROFILE_SOFT_MS n) (bits v 23 16)).wr (F.CH_PROFILE_INRUSH_MS n) (bits v 15 8)).wr (F.CH_PROFILE_INRUSH_2A n)
      (min (s.rd F.FB_BUDGET_INRUSH_CAP / 2) (bits v 7 0)) := by
  have hc : (((s.wr (F.CH_PROFILE_PRIO n) (min 1 (bits v 28 27))).wr (F.CH_PROFILE_RETRY_MAX n) (bits v 26 24)).wr
      (F.CH_PROFILE_SOFT_MS n) (bits v 23 16)).rd F.FB_BUDGET_INRUSH_CAP = s.rd F.FB_BUDGET_INRUSH_CAP := by
    rw [State.rd_wr_ne, State.rd_wr_ne, State.rd_wr_ne] <;>
      simp only [Fld.key, F.CH_PROFILE_PRIO, F.CH_PROFILE_RETRY_MAX, F.CH_PROFILE_SOFT_MS, F.FB_BUDGET_INRUSH_CAP] <;> omega
  simp only [State.writeChProfile, if_pos ho, hv, Bool.false_eq_true, if_false, hc]

/-- The fields of the profile after such a write. -/
theorem State.profileWords (s : State) (n v : Nat) :
    let y := ((((s.wr (F.CH_PROFILE_PRIO n) (min 1 (bits v 28 27))).wr (F.CH_PROFILE_RETRY_MAX n) (bits v 26 24)).wr
      (F.CH_PROFILE_SOFT_MS n) (bits v 23 16)).wr (F.CH_PROFILE_INRUSH_MS n) (bits v 15 8)).wr (F.CH_PROFILE_INRUSH_2A n)
      (min (s.rd F.FB_BUDGET_INRUSH_CAP / 2) (bits v 7 0))
    y.rd (F.CH_PROFILE_PRIO n) = min 1 (v / 2 ^ 27 % 4) ∧ y.rd (F.CH_PROFILE_RETRY_MAX n) = v / 2 ^ 24 % 8 ∧
    y.rd (F.CH_PROFILE_SOFT_MS n) = v / 2 ^ 16 % 256 ∧ y.rd (F.CH_PROFILE_INRUSH_MS n) = v / 2 ^ 8 % 256 ∧
    y.rd (F.CH_PROFILE_INRUSH_2A n) = min (s.rd F.FB_BUDGET_INRUSH_CAP / 2) (v % 256) := by
  refine ⟨?_, ?_, ?_, ?_, ?_⟩ <;>
    simp (disch := (simp only [ne_eq, Fld.key, bits, F.CH_PROFILE_PRIO, F.CH_PROFILE_RETRY_MAX, F.CH_PROFILE_SOFT_MS,
      F.CH_PROFILE_INRUSH_MS, F.CH_PROFILE_INRUSH_2A]; omega)) only [State.rd_wr_lt, State.rd_wr_ne, bits, Nat.pow_zero, Nat.div_one] <;>
    rfl

end

/-- Settles O5, write by write: each command passes its region check and its effect is one of a few field updates. -/
theorem fuseboxChannelWrites : Obligations.FuseboxChannelWrites := by
  intro s t n k a on v hn hk hp w mode khz off fresh refused valid
  have ctl : (s.tick t).passes (F.CH_CTL_HUB_CMD n).addr a true = true := hp _ (by simp only [F.CH_CTL_HUB_CMD]; omega) (by simp only [F.CH_CTL_HUB_CMD]; omega)
  have pwm : (s.tick t).passes (F.CH_PWM_PWM_KHZ n).addr a true = true := hp _ (by simp only [F.CH_PWM_PWM_KHZ]; omega) (by simp only [F.CH_PWM_PWM_KHZ]; omega)
  have prof : (s.tick t).passes (F.CH_PROFILE_CH_MODE n).addr a true = true := hp _ (by simp only [F.CH_PROFILE_CH_MODE]; omega) (by simp only [F.CH_PROFILE_CH_MODE]; omega)
  have fuse : (s.tick t).passes (F.CH_FUSE_I_THR n k).addr a true = true := hp _ (by simp only [F.CH_FUSE_I_THR]; omega) (by simp only [F.CH_FUSE_I_THR]; omega)
  have hb : decide (n < 48) = true := decide_eq_true hn
  have start (fs : List Fld) : OnlyRegs s t fs (s.tick t).okay := (OnlyRegs.tick s t fs).okay
  have hr : OnlyRegs s t [F.CH_STAT_CFG_REFUSED n] ((s.tick t).okay.raise (F.CH_STAT_CFG_REFUSED n)) ∧
      ((s.tick t).okay.raise (F.CH_STAT_CFG_REFUSED n)).rd (F.CH_STAT_CFG_REFUSED n) = 1 :=
    ⟨(start _).raise (by simp), State.rd_raise_bit _ rfl⟩
  have hvalid : (s.tick t).okay.curveValid n = true ↔ valid := State.curveValid_iff _ n
  refine ⟨fun hv => ?_, fun hv => ?_, ?_, fun ho hva => ?_, fun hno => ?_, fun h16 ho => ?_, fun h16 ho hm => ?_, fun h16 ho => ?_,
    fun h16 => ?_, fun ho hv => ?_, fun ho hd => ?_, fun hl hv hf hrun => ?_, fun hl hv hf hrun => ?_, fun h => ?_⟩
  · refine ends_unit_guarded (arm_hubCmdWrite ..) hb ctl rfl ?_
    rw [if_neg (by rw [show (s.tick t).okay.vital n = s.vital n from rfl, hv]; exact Bool.false_ne_true)]
    exact ⟨(start _).wr _ (by simp), by cases on <;> simp [F.CH_CTL_HUB_CMD, bit]⟩
  · refine ends_unit_guarded (arm_hubCmdWrite ..) hb ctl rfl ?_
    rw [if_pos (show (s.tick t).okay.vital n = true from hv)]
    exact start _
  · refine ends_unit_guarded (arm_chFuseWrite ..) (decide_eq_true ⟨hn, hk⟩) fuse rfl ⟨rfl, ?_⟩
    rw [State.chan_modChan_self]
    exact ⟨Tbl.find?_insert_self .., fun j hj => Tbl.find?_insert_ne _ _ hj.symm, rfl, fun m hm => State.chan_modChan_ne hm⟩
  · refine ends_unit_guarded (arm_curveApply ..) hb ctl rfl ?_
    rw [if_pos ⟨ho, hvalid.2 hva⟩]
    refine ⟨State.copyCurve_onlyRegs (start _) (fun k hk => ?_) fun k hk => ?_, fun i hi => (((s.tick t).okay.copyPoints n 8).2 i).1 hi⟩
    · exact List.mem_map_of_mem (List.mem_append_left _ (List.mem_map_of_mem (List.mem_range.2 hk)))
    · exact List.mem_map_of_mem (List.mem_append_right _ (List.mem_map_of_mem (List.mem_range.2 hk)))
  · refine ends_unit_guarded (arm_curveApply ..) hb ctl rfl ?_
    rw [if_neg fun h => hno ⟨h.1, hvalid.1 h.2⟩]
    exact hr
  · refine ends_unit_guarded (arm_chConfigWrite ..) hb ctl rfl ?_
    obtain ⟨hm, hd, hs, hf⟩ := State.writeChCtl_off (v := w) h16 (show ((s.tick t).okay.chan n).state = .off from ho)
    exact ⟨hf _ _ _ (start _) (by simp) (by simp) (by simp), fun _ => hm, hd, hs⟩
  · refine ends_unit_guarded (arm_chConfigWrite ..) hb ctl rfl ?_
    obtain ⟨hc, hd, hf⟩ := State.writeChCtl_on (s := (s.tick t).okay) (v := w) h16 ho hm
    exact ⟨hf _ _ _ (start _) (by simp) (by simp) (by simp), hc, hd⟩
  · refine ends_unit_guarded (arm_chConfigWrite ..) hb pwm rfl ?_
    obtain ⟨hk, hd, hf⟩ := State.writeChPwm_off (v := w) h16 (show ((s.tick t).okay.chan n).state = .off from ho)
    exact ⟨hf _ _ _ (start _) (by simp) (by simp), hk, hd⟩
  · refine ends_unit_guarded (arm_chConfigWrite ..) hb pwm rfl ?_
    change OnlyRegs s t [] ((s.tick t).okay.writeChPwm n w)
    rw [State.writeChPwm, if_pos h16]
    exact start _
  · refine ends_unit_guarded (arm_chProfileWrite ..) hb prof rfl ?_
    have hw := State.writeChProfile_off (s := (s.tick t).okay) (n := n) (v := w) ho hv
    rw [hw]
    exact ⟨(((((start _).wr _ (by simp)).wr _ (by simp)).wr _ (by simp)).wr _ (by simp)).wr _ (by simp),
      State.profileWords (s.tick t).okay n w⟩
  · refine ends_unit_guarded (arm_chProfileWrite ..) hb prof rfl ?_
    have hw : (s.tick t).okay.writeChProfile n w = (s.tick t).okay.raise (F.CH_STAT_CFG_REFUSED n) := by
      have hd' : ¬ bits w 28 0 = bits (s.chProfile n) 28 0 := by simpa [bits] using hd
      unfold State.writeChProfile
      exact (if_neg ho).trans (if_neg (decide_eq_true_iff.not.2 hd'))
    rw [hw]
    exact hr
  · refine ends_unit_guarded (arm_faultClr ..) hb ctl rfl ?_
    have hc : (s.tick t).okay.latchesNow n = false := hf
    rw [if_pos ⟨hl, by simp [show (s.tick t).okay.vital n = false from hv, hc]⟩, if_pos (show (s.tick t).okay.powerRuns n = true from hrun)]
    refine ⟨by simp [Channel.left], by simp, fun m hm => State.chan_chanTo_ne _ _ _ hm, ?_⟩
    exact ((RegsBut.refl _ s).of_regs (State.chanTo_regs (s.tick t).okay n .off)).wr _ (by simp)
  · refine ends_unit_guarded (arm_faultClr ..) hb ctl rfl ?_
    have hc : (s.tick t).okay.latchesNow n = false := hf
    rw [if_pos ⟨hl, by simp [show (s.tick t).okay.vital n = false from hv, hc]⟩,
      if_neg (by rw [show (s.tick t).okay.powerRuns n = false from hrun]; exact Bool.false_ne_true)]
    exact hr
  · refine ends_unit_guarded (arm_faultClr ..) hb ctl rfl ?_
    rw [if_neg ?_]
    · exact start _
    · rintro ⟨h1, h2⟩
      simp only [Bool.not_eq_true'] at h2
      rcases h with h | h | h
      · exact h h1
      · exact absurd (show s.vital n = false from h2.1) (by simp [h])
      · exact absurd (show fresh = false from h2.2) (by simp [h])

/-! ### The budget's limits -/

section
variable {s : State} {n m : Nat}

theorem inrush_ne_inrush (h : n ≠ m) : (F.CH_PROFILE_INRUSH_2A n).key ≠ (F.CH_PROFILE_INRUSH_2A m).key := by
  simp only [Fld.key, F.CH_PROFILE_INRUSH_2A]; omega

theorem inrush_ne_cap : (F.CH_PROFILE_INRUSH_2A n).key ≠ F.FB_BUDGET_INRUSH_CAP.key := by
  simp only [Fld.key, F.CH_PROFILE_INRUSH_2A, F.FB_BUDGET_INRUSH_CAP]; omega

theorem inrush_ne_slew : (F.CH_PROFILE_INRUSH_2A n).key ≠ F.FB_BUDGET_SUPPLY_SLEW.key := by
  simp only [Fld.key, F.CH_PROFILE_INRUSH_2A, F.FB_BUDGET_SUPPLY_SLEW]; omega

theorem State.inrushClamp_fuse (s : State) (n : Nat) : (s.inrushClamp n).fuse = s.fuse := by
  unfold State.inrushClamp; dsimp only; split <;> rfl

theorem State.inrushClamp_mem (s : State) (n : Nat) : (s.inrushClamp n).mem = s.mem := by
  unfold State.inrushClamp; dsimp only; split <;> rfl

/-- A lowered cap clamps the channel's own INRUSH_2A and no other field. -/
theorem State.rd_inrushClamp (s : State) (n : Nat) (g : Fld) (hc : s.rd F.FB_BUDGET_INRUSH_CAP / 2 < 2 ^ 8) :
    (s.inrushClamp n).rd (F.CH_PROFILE_INRUSH_2A n) = min (s.rd (F.CH_PROFILE_INRUSH_2A n)) (s.rd F.FB_BUDGET_INRUSH_CAP / 2) ∧
      ((F.CH_PROFILE_INRUSH_2A n).key ≠ g.key → (s.inrushClamp n).rd g = s.rd g) := by
  unfold State.inrushClamp; dsimp only; split
  case isTrue h =>
    refine ⟨?_, fun hg => State.rd_wr_ne _ _ hg⟩
    rw [min_eq_right h.le]
    exact State.rd_wr_lt _ hc
  case isFalse h => exact ⟨(min_eq_left (not_lt.1 h)).symm, fun _ => rfl⟩

theorem State.rd_inrushClamps (hc : s.rd F.FB_BUDGET_INRUSH_CAP / 2 < 2 ^ 8) (k : Nat) :
    let y := (List.range k).foldl State.inrushClamp s
    y.rd F.FB_BUDGET_INRUSH_CAP = s.rd F.FB_BUDGET_INRUSH_CAP ∧ y.rd F.FB_BUDGET_SUPPLY_SLEW = s.rd F.FB_BUDGET_SUPPLY_SLEW ∧
    ∀ n, y.rd (F.CH_PROFILE_INRUSH_2A n) = if n < k then min (s.rd (F.CH_PROFILE_INRUSH_2A n)) (s.rd F.FB_BUDGET_INRUSH_CAP / 2)
      else s.rd (F.CH_PROFILE_INRUSH_2A n) := by
  induction k with
  | zero => simp
  | succ k ih =>
    simp only [List.range_succ, List.foldl_append, List.foldl_cons, List.foldl_nil]
    obtain ⟨hcap, hsl, hn⟩ := ih
    generalize (List.range k).foldl State.inrushClamp s = y at hcap hsl hn ⊢
    have hy := fun g => y.rd_inrushClamp k g (by rw [hcap]; exact hc)
    refine ⟨((hy _).2 inrush_ne_cap).trans hcap, ((hy _).2 inrush_ne_slew).trans hsl, fun n => ?_⟩
    by_cases hk : k = n
    · subst hk
      rw [(hy F.FB_BUDGET_INRUSH_CAP).1, hn, hcap, if_neg (Nat.lt_irrefl k), if_pos (Nat.lt_succ_self k)]
    · rw [(hy _).2 (inrush_ne_inrush hk), hn]
      exact if_congr (by omega) rfl rfl

end

/-! ### The search -/

section
variable {n ptr k : Nat} {req : Nat → Bool}

/-- The rotating search finds the first place from the pointer that is asked for. -/
theorem rotFirst_some (hk : k < n) (hr : req ((ptr + k) % n) = true) (hj : ∀ j, j < k → req ((ptr + j) % n) = false) :
    rotFirst n ptr req = some ((ptr + k) % n) := by
  have hf : (List.range n).find? (req ∘ fun k => (ptr + k) % n) = some k :=
    List.find?_range_eq_some.2 ⟨hr, List.mem_range.2 hk, fun j h => by simp [hj j h]⟩
  rw [rotFirst, List.find?_map, hf]
  rfl

theorem rotFirst_none (hj : ∀ j, j < n → req ((ptr + j) % n) = false) : rotFirst n ptr req = none := by
  unfold rotFirst
  rw [List.find?_map, List.find?_eq_none.2]
  · rfl
  · intro j h
    simp [hj j (List.mem_range.1 h)]

end

/-- Settles O6: the clamps of every channel by induction on the channels, and the search by its rotation. -/
theorem fuseboxBudgetWriteAndFaultSearch : Obligations.FuseboxBudgetWriteAndFaultSearch := by
  intro s t k a peek v
  refine ⟨fun hp => ?_, fun hp => ?_⟩
  · refine ends_guarded (arm_budgetWrite ..) hp rfl ?_
    set c := clampNat (bits v.toNat 24 16) 20 400 with hc
    set d := clampNat (bits v.toNat 8 0) 5 400 with hd
    have hc' : c = max 20 (min 400 (v.toNat / 2 ^ 16 % 512)) := clampNat_eq _ _ _ (by omega)
    have hd' : d = max 5 (min 400 (v.toNat % 512)) := by rw [hd, clampNat_eq _ _ _ (by omega), bits, Nat.pow_zero, Nat.div_one]; rfl
    have hrc : (((s.tick t).okay.wr F.FB_BUDGET_INRUSH_CAP c).wr F.FB_BUDGET_SUPPLY_SLEW d).rd F.FB_BUDGET_INRUSH_CAP = c := by
      rw [State.rd_wr_ne _ _ (by decide), State.rd_wr_lt _ (by simp only [F.FB_BUDGET_INRUSH_CAP]; omega)]
    have hrd : (((s.tick t).okay.wr F.FB_BUDGET_INRUSH_CAP c).wr F.FB_BUDGET_SUPPLY_SLEW d).rd F.FB_BUDGET_SUPPLY_SLEW = d :=
      State.rd_wr_lt _ (by simp only [F.FB_BUDGET_SUPPLY_SLEW]; omega)
    obtain ⟨h1, h2, h3⟩ := State.rd_inrushClamps
      (s := ((s.tick t).okay.wr F.FB_BUDGET_INRUSH_CAP c).wr F.FB_BUDGET_SUPPLY_SLEW d) (by rw [hrc]; omega) 48
    refine ⟨h1.trans (hrc.trans hc'), h2.trans (hrd.trans hd'), fun n hn => (h3 n).trans ?_,
      foldl_keeps State.fuse State.inrushClamp_fuse .., foldl_keeps State.mem State.inrushClamp_mem ..⟩
    rw [if_pos hn, hrc, hc', State.rd_wr_ne _ _ inrush_ne_slew.symm, State.rd_wr_ne _ _ inrush_ne_cap.symm]
    rfl
  intro flags at'
  refine ⟨fun hk hf hz => ?_, fun hz => ?_⟩
  · have hfind : rotFirst 48 ((s.fuse.searchPos + 1) % 48) (fun n => (s.tick t).okay.chFlags n ≠ 0) = some (at' k) := by
      have hat (j : Nat) : ((s.fuse.searchPos + 1) % 48 + j) % 48 = at' j := Nat.mod_add_mod ..
      rw [rotFirst_some hk, hat]
      · rw [hat]; exact decide_eq_true hf
      · intro j hj; rw [hat]; exact decide_eq_false (not_not.2 (hz j hj))
    refine ends_guarded_eq (arm_faultNextRead ..) hp rfl ?_ (x := (if peek then (s.tick t).okay else
      { (s.tick t).okay with fuse := { s.fuse with searchPos := at' k } }).answer 0 (2 ^ 31 + at' k * 2 ^ 16 + flags (at' k))) ?_
    · split
      next n h => cases h.symm.trans hfind; rfl
      next h => cases h.symm.trans hfind
    · cases peek <;> exact ⟨rfl, rfl, rfl⟩
  · have hfind : rotFirst 48 ((s.fuse.searchPos + 1) % 48) (fun n => (s.tick t).okay.chFlags n ≠ 0) = none := by
      refine rotFirst_none fun j hj => decide_eq_false (not_not.2 ?_)
      rw [Nat.mod_add_mod]; exact hz j hj
    refine ends_guarded_eq (arm_faultNextRead ..) hp rfl ?_ (x := (s.tick t).okay.answer 0 0) ⟨rfl, rfl, rfl⟩
    split
    next n h => cases h.symm.trans hfind
    next h => rfl

end Sys2Proof.Machine
end

section
/-! PROOFS. Requests, windows, protection and measurement of the power channels: O7, O9, O10 and O11. -/

namespace Sys2Proof.Machine

/-! ### What the effective command depends on -/

section
variable {s s' : State} {n : Nat}

theorem State.vital_congr (h : s'.rd (F.CH_PROFILE_CH_MODE n) = s.rd (F.CH_PROFILE_CH_MODE n)) : s'.vital n = s.vital n :=
  congrArg (· != 0) h

/-- The effective command of a channel follows the lanes, the pair's authority and four fields. -/
theorem State.effCmd_congr (hl : s'.lane = s.lane) (hp : s'.pair = s.pair)
    (h1 : s'.rd (F.CH_PROFILE_CH_MODE n) = s.rd (F.CH_PROFILE_CH_MODE n)) (h2 : s'.rd (F.CH_CTL_HUB_CMD n) = s.rd (F.CH_CTL_HUB_CMD n))
    (h3 : s'.rd (F.CH_PROFILE_PAIRED n) = s.rd (F.CH_PROFILE_PAIRED n)) (h4 : s'.rd F.PAIR_CFG_PAIR_EN = s.rd F.PAIR_CFG_PAIR_EN) :
    s'.effCmd n = s.effCmd n := by
  have hln (l : LaneId) : s'.ln l = s.ln l := by unfold State.ln; rw [hl]
  have hcounts : s'.lineCounts = s.lineCounts := by funext b k l; simp only [State.lineCounts, hln]
  have hgate (b k : Nat) : s'.gate b k = s.gate b k := by rw [State.gate, State.gate, hcounts]
  have hauth : s'.authority = s.authority := by simp only [State.authority, State.flag, h4, hp]
  simp only [State.effCmd, State.vital_congr h1, State.tilePermit, State.flag, hgate, hauth, h2, h3]

theorem State.rd_senseOut (s : State) {vOut vBus : Nat} {g : Fld} (h1 : (F.CH_DIAG_V_OUT n).key ≠ g.key) (h2 : F.PWRMGR_BUS_V_BUS.key ≠ g.key) :
    (s.senseOut n vOut vBus).rd g = s.rd g := by
  rw [State.senseOut, State.rd_wr_ne _ _ h2, State.rd_wr_ne _ _ h1]

theorem State.effCmd_senseOut (s : State) (n vOut vBus : Nat) : (s.senseOut n vOut vBus).effCmd n = s.effCmd n := by
  refine effCmd_congr rfl rfl (s.rd_senseOut ?_ ?_) (s.rd_senseOut ?_ ?_) (s.rd_senseOut ?_ ?_) (s.rd_senseOut ?_ ?_) <;>
    simp only [ne_eq, Fld.key, F.CH_DIAG_V_OUT, F.PWRMGR_BUS_V_BUS, F.CH_PROFILE_CH_MODE, F.CH_CTL_HUB_CMD, F.CH_PROFILE_PAIRED, F.PAIR_CFG_PAIR_EN] <;> omega

end

/-! ### Falls and windows -/

section
variable {s : State} {n : Nat}

/-- A command OFF leads every channel but an OFF or LATCHED one to OFF. -/
theorem State.commandOff_eq (h : (s.chan n).state ≠ .off) (hl : (s.chan n).state ≠ .latched) :
    s.commandOff n = ((s.wr (F.CH_STAT_RETRY_CNT n) 0).modChan n fun c => { c with fell := true }).chanTo n .off := by
  unfold State.commandOff
  dsimp only
  have hs : (((s.wr (F.CH_STAT_RETRY_CNT n) 0).modChan n fun c => { c with fell := true }).chan n).state = (s.chan n).state := by
    rw [State.chan_modChan_self]; rfl
  rw [hs]
  split <;> simp_all

theorem State.closeRamp_eq (hs : (s.chan n).state = .starting) (hw : (s.chan n).rampEnd ≤ s.now) :
    s.closeRamp n = s.setCh n fun c => { c with state := .on, slew := 0, onAt := s.now } := if_pos ⟨hs, hw⟩

theorem State.closeInrush_eq (hi : (s.chan n).inr ≠ 0) (hw : (s.chan n).inrushEnd ≤ s.now) :
    s.closeInrush n = s.setCh n fun c => { c with inr := 0 } := if_pos ⟨hi, hw⟩

end

/-- Settles O7: each command is one rule on its channel. -/
theorem fuseboxRequestsAndWindows : Obligations.FuseboxRequestsAndWindows := by
  intro s t n e vOut vBus hn c read
  have hb : decide (n < 48) = true := decide_eq_true hn
  refine ⟨fun ho hup hslot heff hpf hse => ?_, fun heff hst => ?_, fun hs hw => ?_, fun hi hw => ?_, fun hq hl hsl hw => ?_, fun hsl hw => ?_⟩
  · set x := (s.tick t).senseOut n vOut vBus with hx
    have hcond : (x.chan n).state = .off ∧ x.pwr.fuseUp = true ∧ x.fuse.slotEnd.isSome = true ∧ x.effCmd n = true :=
      ⟨ho, hup, hslot, ((s.tick t).effCmd_senseOut n vOut vBus).trans heff⟩
    have hregs : RegsBut read s x := ((RegsBut.refl read s).of_regs rfl |>.wr _ (by simp [read])).wr _ (by simp [read])
    refine ⟨fun hr => ?_, fun hr => ?_⟩
    · obtain ⟨h1, h2, h3, h4, h5, h6, h7⟩ := State.enqueue_queued (s := x) (n := n) (hand := x.isHandover n) hpf hse hr
      refine ends_onUnit (arm_commandOn ..) hb ?_
      rw [← hx, if_pos hcond]
      exact ⟨h1, h2, h3, h4, hregs.of_regs h5, h6, h7⟩
    · refine ends_onUnit (arm_commandOn ..) hb ?_
      rw [← hx, if_pos hcond, State.enqueue_latched (s := x) hpf hse hr]
      refine ⟨by simp [Channel.left], hregs.of_regs (x.chanTo_regs n .latched), x.chanTo_mem n .latched, fun m hm => x.chan_chanTo_ne n _ hm⟩
  · have hno : (s.chan n).state ≠ .off ∧ (s.chan n).state ≠ .latched := by
      rcases hst with h | h | h | h <;> rw [show (s.chan n).state = _ from h] <;> decide
    refine ends_onUnit (arm_commandOff ..) hb ?_
    rw [if_neg (by rw [show (s.tick t).effCmd n = false from heff]; exact Bool.false_ne_true),
      State.commandOff_eq (s := s.tick t) hno.1 hno.2]
    set x := ((s.tick t).wr (F.CH_STAT_RETRY_CNT n) 0).modChan n fun c => { c with fell := true } with hx
    have hc : (x.chanTo n .off).chan n = ({ c with fell := true } : Channel).left .off := by
      rw [State.chan_chanTo_self, hx, State.chan_modChan_self]; rfl
    have hr : (x.chanTo n .off).regs = ((s.tick t).wr (F.CH_STAT_RETRY_CNT n) 0).regs := x.chanTo_regs n .off
    rw [hc]
    refine ⟨rfl, rfl, rfl, x.not_mem_chanTo_queue n .off, (State.rd_congr hr _).trans (State.rd_clrF_self ..), rfl, rfl,
      fun h => by simp [Channel.left, h], fun m hm => ?_, (((RegsBut.refl _ s).of_regs rfl).wr 0 (by simp)).of_regs hr⟩
    rw [State.chan_chanTo_ne _ _ _ hm, hx, State.chan_modChan_ne hm]; rfl
  · refine ends_onUnit (arm_rampWindowClose ..) hb ?_
    rw [State.closeRamp_eq (s := s.tick t) hs hw]
    exact ⟨State.chan_setCh_self .., rfl, rfl, fun m hm => State.chan_setCh_ne hm⟩
  · refine ends_onUnit (arm_inrushWindowClose ..) hb ?_
    rw [State.closeInrush_eq (s := s.tick t) hi hw]
    exact ⟨State.chan_setCh_self .., rfl, rfl, fun m hm => State.chan_setCh_ne hm⟩
  · refine ends_onUnit (arm_startWaitExpiry ..) hb ?_
    have hs : (s.tick t).fuse.slotEnd = some e := hsl
    have hw' : (s.tick t).closed (max c.reqTick e) (ms (s.rd F.FB_START_WAIT_START_WAIT_MAX)) = true := decide_eq_true hw
    have hv : (((s.tick t).modChan n fun c => { c with late := true }).raise (F.CH_STAT_START_LATE n)).vital n = s.vital n :=
      State.vital_congr ((State.rd_raise_ne _ (by simp only [Fld.key, F.CH_STAT_START_LATE, F.CH_PROFILE_CH_MODE]; omega)).trans rfl)
    simp only [hs]
    rw [if_pos ⟨hq, by rw [show ((s.tick t).chan n).late = false from hl]; rfl, hw'⟩, hv]
    exact ⟨State.rd_raise_bit _ rfl, (s.tick t).chan_modChan_self n fun c => { c with late := true }, rfl,
      wroteOne_record (s₁ := ((s.tick t).modChan n fun c => { c with late := true }).raise (F.CH_STAT_START_LATE n)) rfl rfl⟩
  · refine ends_next (arm_wakeSlotEnd ..) ?_
    have hs : (s.tick t).fuse.slotEnd = some e := hsl
    simp only [hs]
    rw [if_pos (show e ≤ (s.tick t).now from hw)]
    exact ⟨(OnlyRegs.tick s t _).clrF (by simp), State.rd_clrF_self ..⟩

/-! ### A fault that trips -/

section
variable (s : State) (n : Nat) (f : Fld) (kind sev : Nat)

/-- A fault of a conducting channel: its bit is set, the channel leaves conduction for RETRY_WAIT or LATCHED, and the log gets
the fault's record and nothing else. -/
theorem State.fault_trip (hw : f.width = 1) (hc : (F.CH_STAT_RETRY_CNT n).key ≠ f.key) (hm : (F.CH_PROFILE_RETRY_MAX n).key ≠ f.key) :
    let y := (s.chFault n f kind sev).chTrip n
    y.rd f ≠ 0 ∧ y.chan n = { (s.chan n).left (s.tripTo n) with tripAt := (y.chan n).tripAt } ∧
    (s.rd (F.CH_STAT_RETRY_CNT n) < s.rd (F.CH_PROFILE_RETRY_MAX n) →
      y.rd (F.CH_STAT_RETRY_CNT n) = (s.rd (F.CH_STAT_RETRY_CNT n) + 1) % 8 ∧ (y.chan n).tripAt = s.now) ∧
    n ∉ y.fuse.queue ∧ (∀ m, m ≠ n → y.chan m = s.chan m) ∧ y.mem = s.mem ∧ y.log = (s.chFault n f kind sev).log := by
  intro y
  have hrc : (s.chFault n f kind sev).rd (F.CH_STAT_RETRY_CNT n) = s.rd (F.CH_STAT_RETRY_CNT n) := by
    rw [State.rd_chFault, State.rd_raise_ne _ hc.symm]
  have hrm : (s.chFault n f kind sev).rd (F.CH_PROFILE_RETRY_MAX n) = s.rd (F.CH_PROFILE_RETRY_MAX n) := by
    rw [State.rd_chFault, State.rd_raise_ne _ hm.symm]
  have hto : (s.chFault n f kind sev).tripTo n = s.tripTo n := by unfold State.tripTo; rw [hrc, hrm]
  obtain ⟨hmem, hlog, hq, hrd⟩ := (s.chFault n f kind sev).chTrip_frame n
  refine ⟨?_, ?_, fun h => ?_, hq, fun m h => ?_, hmem.trans (s.chFault_mem ..), hlog⟩
  · rw [hrd f hc, State.rd_chFault]; exact s.rd_raise_ne_zero hw
  · have := (s.chFault n f kind sev).chan_chTrip_self n
    rwa [hto, State.chan_chFault] at this
  · have hy : y = (((s.chFault n f kind sev).chanTo n .retryWait).modChan n fun c => { c with tripAt := (s.chFault n f kind sev).now }).wr
        (F.CH_STAT_RETRY_CNT n) (s.rd (F.CH_STAT_RETRY_CNT n) + 1) := by
      rw [← hrc]; exact State.chTrip_retry (by rw [hrc, hrm]; exact h)
    rw [hy, State.rd_wr_self, State.chan_wr, State.chan_modChan_self]
    refine ⟨rfl, ?_⟩
    unfold State.chFault; split <;> rfl
  · rw [State.chan_chTrip_ne _ _ h, State.chan_chFault]

end

/-! ### The electronic fuse -/

/-- The last number below `n` that passes a test is the one above which none does. -/
theorem getLast?_filter_range {p : Nat → Bool} {k n : Nat} (hk : k < n) (hp : p k = true) (hj : ∀ j, k < j → j < n → p j = false) :
    ((List.range n).filter p).getLast? = some k := by
  induction n with
  | zero => omega
  | succ n ih =>
    rw [List.range_succ, List.filter_append]
    by_cases hkn : k = n
    · subst hkn; simp [hp]
    · rw [List.filter_cons_of_neg (by simp [hj n (by omega) (by omega)]), List.filter_nil, List.append_nil]
      exact ih (by omega) fun j h1 h2 => hj j h1 (by omega)

section
variable {s s' : State} {n k i : Nat}

theorem State.fusePoint_some (hk : k < 8) (hp : s.iThr n k ≤ i) (hj : ∀ j, k < j → j < 8 → i < s.iThr n j) :
    s.fusePoint n i = some k :=
  getLast?_filter_range hk (decide_eq_true hp) fun j h1 h2 => decide_eq_false (not_le.2 (hj j h1 h2))

theorem State.fusePoint_none (hj : ∀ j, j < 8 → i < s.iThr n j) : s.fusePoint n i = none := by
  have : (List.range 8).filter (fun k => decide (s.iThr n k ≤ i)) = [] :=
    List.filter_eq_nil_iff.2 fun j h => by simpa using hj j (List.mem_range.1 h)
  rw [State.fusePoint, this]; rfl

/-- The state in which an evaluation has measured the current and stepped the heat. -/
def State.evaluated (s : State) (n : Nat) (i fast : Int) (heat : Nat) : State :=
  ((s.setIMeas n i).raiseEdge (engineOf n) 28).modChan n fun c => { c with heat := heat, iFast := fast }

theorem State.rd_evaluated {i fast : Int} {heat : Nat} {g : Fld} (hg : (F.CH_STAT_I_MEAS n).key ≠ g.key) :
    (s.evaluated n i fast heat).rd g = s.rd g := State.rd_wr_ne s _ hg

end

/-- One evaluation of the fuse, given the heat it comes to. -/
theorem ends_fuseEvalTick {s : State} {t n heat : Nat} {i fast : Int} (hn : n < 48)
    (hh : (((s.tick t).setIMeas n i).raiseEdge (engineOf n) 28).heatNext n i.natAbs = heat) :
    Ends (.fuseEvalTick t n i fast) s fun s' =>
      (s'.chan n).heat = heat ∧ (∀ m, m ≠ n → s'.chan m = s.chan m) ∧ s'.mem = s.mem ∧
      (heat < 2 ^ 32 → (s'.chan n).state = (s.chan n).state ∧ s'.rd (F.CH_STAT_FUSE_TRIP n) = s.rd (F.CH_STAT_FUSE_TRIP n)) ∧
      (2 ^ 32 ≤ heat → s'.rd (F.CH_STAT_FUSE_TRIP n) ≠ 0) ∧
      (2 ^ 32 ≤ heat → (s.chan n).state.live = false → (s'.chan n).state = (s.chan n).state) ∧
      (2 ^ 32 ≤ heat → (s.chan n).state.live = true → (s'.chan n).inr = 0 ∧ (s'.chan n).slew = 0 ∧
        (s'.chan n).state = (if s.rd (F.CH_STAT_RETRY_CNT n) < s.rd (F.CH_PROFILE_RETRY_MAX n) then .retryWait else .latched)) := by
  set x := (s.tick t).evaluated n i fast heat with hx
  have hcn : x.chan n = { s.chan n with heat := heat, iFast := fast } := State.chan_modChan_self ..
  have hcm (m : Nat) (hm : m ≠ n) : x.chan m = s.chan m := State.chan_modChan_ne hm
  have hex : exec (.fuseEvalTick t n i fast) s = onUnit (decide (n < 48)) (if 2 ^ 32 ≤ heat then
      let y := x.chFault n (F.CH_STAT_FUSE_TRIP n) 0x06 4
      if (y.chan n).state.live then y.chTrip n else y else x) := by
    rw [arm_fuseEvalTick, execFuseEvalTick, hx, ← hh]; rfl
  refine ends_onUnit hex (decide_eq_true hn) ?_
  dsimp only
  rw [State.chan_chFault, hcn]
  by_cases hlt : 2 ^ 32 ≤ heat
  · have hto : x.tripTo n = if s.rd (F.CH_STAT_RETRY_CNT n) < s.rd (F.CH_PROFILE_RETRY_MAX n) then .retryWait else .latched := by
      unfold State.tripTo
      rw [State.rd_evaluated, State.rd_evaluated, State.rd_tick, State.rd_tick] <;>
        simp only [ne_eq, Fld.key, F.CH_STAT_I_MEAS, F.CH_STAT_RETRY_CNT, F.CH_PROFILE_RETRY_MAX] <;> omega
    rw [if_pos hlt]
    cases hlive : (s.chan n).state.live
    · rw [if_neg Bool.false_ne_true, State.chan_chFault, State.chFault_mem, State.rd_chFault, hcn]
      exact ⟨rfl, fun m h => (x.chan_chFault ..).trans (hcm m h), rfl, fun h => absurd h (not_lt.2 hlt), fun _ => State.rd_raise_ne_zero _ rfl, fun _ _ => rfl,
        fun _ h => absurd h (by decide)⟩
    · obtain ⟨hf, hc, -, -, hm, hmem, -⟩ := x.fault_trip n (F.CH_STAT_FUSE_TRIP n) 0x06 4 rfl
        (by simp only [Fld.key, F.CH_STAT_RETRY_CNT, F.CH_STAT_FUSE_TRIP]; omega)
        (by simp only [Fld.key, F.CH_PROFILE_RETRY_MAX, F.CH_STAT_FUSE_TRIP]; omega)
      rw [if_pos rfl, hc, hcn]
      exact ⟨rfl, fun m h => (hm m h).trans (hcm m h), hmem, fun h => absurd h (not_lt.2 hlt), fun _ => hf,
        fun _ h => absurd h (by decide), fun _ _ => ⟨rfl, rfl, hto⟩⟩
  · rw [if_neg hlt, hcn]
    exact ⟨rfl, hcm, rfl, fun _ => ⟨rfl, State.rd_evaluated (by simp only [Fld.key, F.CH_STAT_I_MEAS, F.CH_STAT_FUSE_TRIP]; omega)⟩,
      fun h => absurd h hlt, fun h => absurd h hlt, fun h => absurd h hlt⟩

/-- The evaluation reads the points of the curve, the derating and the times as they stood. -/
theorem State.rd_measured {s : State} {t n : Nat} {i : Int} {g : Fld} (hg : (F.CH_STAT_I_MEAS n).key ≠ g.key) :
    (((s.tick t).setIMeas n i).raiseEdge (engineOf n) 28).rd g = s.rd g := State.rd_wr_ne (s.tick t) _ hg

theorem State.iThr_measured (s : State) (t n k : Nat) (i : Int) :
    (((s.tick t).setIMeas n i).raiseEdge (engineOf n) 28).iThr n k = s.iThr n k := by
  unfold State.iThr
  rw [State.rd_measured, State.rd_measured] <;>
    simp only [ne_eq, Fld.key, F.CH_STAT_I_MEAS, F.CH_FUSE_I_THR, derateFld, F.MARGIN_DERATE_DERATE0] <;> omega

/-- Settles O9: the point that the current reaches gives the heat, and the heat gives the trip. -/
theorem fuseEvaluation : Obligations.FuseEvaluation := by
  intro s t n k i fast hn thr h evaluates
  set x := ((s.tick t).setIMeas n i).raiseEdge (engineOf n) 28 with hx
  have hthr (j : Nat) : x.iThr n j = thr j := s.iThr_measured t n j i
  have hheat : (x.chan n).heat = h := rfl
  refine ⟨fun hk hp hj => ends_fuseEvalTick hn ?_, fun hj => ends_fuseEvalTick hn ?_⟩
  · have hpt : x.fusePoint n i.natAbs = some k := State.fusePoint_some hk (by rwa [hthr]) fun j h1 h2 => by rw [hthr]; exact hj j h1 h2
    rw [← hx, State.heatNext]
    simp only [hpt, hheat]
    rw [hx, State.rd_measured (by simp only [Fld.key, F.CH_STAT_I_MEAS, F.CH_FUSE_T_MS]; omega)]
  · have hpt : x.fusePoint n i.natAbs = none := State.fusePoint_none fun j h => by rw [hthr]; exact hj j h
    rw [← hx, State.heatNext]
    simp only [hpt, hheat]
    rw [hx, State.rd_measured (by simp only [Fld.key, F.CH_STAT_I_MEAS, F.CH_TIMING_COOL_MS]; omega)]

/-- A cut or trip of a conducting channel, from the state `x` in which its cause is measured. -/
theorem ends_trip {cmd : Instr} {s x : State} {t n kind : Nat} {f : Fld} (hn : n < 48)
    (hex : exec cmd s = onUnit (decide (n < 48)) ((x.chFault n f kind 4).chTrip n)) (hw : f.width = 1)
    (hc : (F.CH_STAT_RETRY_CNT n).key ≠ f.key) (hm : (F.CH_PROFILE_RETRY_MAX n).key ≠ f.key) (hv : (F.CH_PROFILE_CH_MODE n).key ≠ f.key)
    (hchan : x.fuse = s.fuse) (hmem : x.mem = s.mem) (hlog : x.log = s.log) (hnow : x.now = t)
    (hrd : ∀ g ∈ [F.CH_STAT_RETRY_CNT n, F.CH_PROFILE_RETRY_MAX n, F.CH_PROFILE_CH_MODE n, f], x.rd g = s.rd g) :
    let retries := s.rd (F.CH_STAT_RETRY_CNT n) < s.rd (F.CH_PROFILE_RETRY_MAX n)
    Ends cmd s fun s' =>
      s'.rd f ≠ 0 ∧ (s'.chan n).state = (if retries then .retryWait else .latched) ∧
      (retries → s'.rd (F.CH_STAT_RETRY_CNT n) = (s.rd (F.CH_STAT_RETRY_CNT n) + 1) % 8 ∧ (s'.chan n).tripAt = t) ∧
      (s'.chan n).inr = 0 ∧ (s'.chan n).slew = 0 ∧ (s'.chan n).heat = (s.chan n).heat ∧ n ∉ s'.fuse.queue ∧
      (∀ m, m ≠ n → s'.chan m = s.chan m) ∧ s'.mem = s.mem ∧
      (s.rd f = 0 → WroteOne s s' 2 kind (if s.vital n = true then 6 else 4) n 0) := by
  intro retries
  have hrc := hrd (F.CH_STAT_RETRY_CNT n) (by simp)
  have hrm := hrd (F.CH_PROFILE_RETRY_MAX n) (by simp)
  have hto : x.tripTo n = if retries then .retryWait else .latched := by unfold State.tripTo; rw [hrc, hrm]
  obtain ⟨hf, hcn, hret, hq, hch, hme, hlo⟩ := x.fault_trip n f kind 4 hw hc hm
  rw [hrc, hrm, hnow] at hret
  refine ends_onUnit hex (decide_eq_true hn) ⟨hf, by rw [hcn]; exact hto, hret, by rw [hcn]; rfl, by rw [hcn]; rfl, ?_, hq,
    fun m h => (hch m h).trans (State.chan_congr hchan m), hme.trans hmem,
    fun h0 => wroteOne_chFault hlog ((hrd f (by simp)).trans h0) hv (State.vital_congr (hrd _ (by simp))) hlo⟩
  rw [hcn, ← State.chan_congr hchan n]; rfl

/-- Settles O10: a conducting channel trips by one rule for both of its causes; the rest is a rule each. -/
theorem fuseboxFaultReactions : Obligations.FuseboxFaultReactions := by
  intro s t n vOut vBus i tj hn c retries trips
  have hb : decide (n < 48) = true := decide_eq_true hn
  refine ⟨fun hl hi => ?_, fun hl ht hup => ?_, fun hl ht hup => ?_, fun hl hi => ?_, fun hon hi => ?_, fun hst hw hh htj heff hpf hse hr => ?_,
    fun hon hw => ?_⟩
  · have hex : exec (.shortCircuitCut t n i) s = onUnit (decide (n < 48)) (((s.tick t).chFault n (F.CH_STAT_SHORT_GND n) 2 4).chTrip n) :=
      (arm_shortCircuitCut ..).trans (congrArg (onUnit _) (if_pos ⟨hl, hi⟩))
    refine ends_trip hn hex rfl ?_ ?_ ?_ rfl rfl rfl rfl fun _ _ => rfl <;>
      simp only [ne_eq, Fld.key, F.CH_STAT_RETRY_CNT, F.CH_PROFILE_RETRY_MAX, F.CH_PROFILE_CH_MODE, F.CH_STAT_SHORT_GND] <;> omega
  · have hex : exec (.overTempDetected t n tj) s = onUnit (decide (n < 48)) ((((s.tick t).setTj n tj).chFault n (F.CH_STAT_OVER_TEMP n) 5 4).chTrip n) :=
      (arm_overTempDetected ..).trans (congrArg (onUnit _) ((if_pos ⟨ht, hup⟩).trans (if_pos (by rw [State.chan_chFault]; exact hl))))
    refine ends_trip hn hex rfl ?_ ?_ ?_ rfl rfl rfl rfl fun g hg => State.rd_wr_ne _ _ ?_
    · simp only [Fld.key, F.CH_STAT_RETRY_CNT, F.CH_STAT_OVER_TEMP]; omega
    · simp only [Fld.key, F.CH_PROFILE_RETRY_MAX, F.CH_STAT_OVER_TEMP]; omega
    · simp only [Fld.key, F.CH_PROFILE_CH_MODE, F.CH_STAT_OVER_TEMP]; omega
    · simp only [List.mem_cons, List.not_mem_nil, or_false] at hg
      rcases hg with rfl | rfl | rfl | rfl <;>
        simp only [ne_eq, Fld.key, F.CH_DIAG_TJ, F.CH_STAT_RETRY_CNT, F.CH_PROFILE_RETRY_MAX, F.CH_PROFILE_CH_MODE, F.CH_STAT_OVER_TEMP] <;> omega
  · refine ends_unit (arm_overTempDetected ..) hb ((if_pos ⟨ht, hup⟩).trans (if_neg ?_)) ?_
    · rw [State.chan_chFault]
      rw [show (((s.tick t).setTj n tj).chan n).state.live = false from hl]
      exact Bool.false_ne_true
    · exact ⟨by rw [State.rd_chFault]; exact State.rd_raise_ne_zero _ rfl, State.chFault_fuse ..⟩
  · refine ends_unit (arm_revCurrentDetected ..) hb (if_pos ⟨hl, hi⟩) ?_
    refine ⟨?_, by simp [Channel.left], by simp [Channel.left], by simp [Channel.left], fun m hm => ?_⟩
    · rw [State.rd_chanTo, State.rd_chFault]; exact State.rd_raise_ne_zero _ rfl
    · rw [State.chan_chanTo_ne _ _ _ hm, State.chan_chFault]; rfl
  · refine ends_unit (arm_openLoadDetected ..) hb (if_pos ⟨hon, hi⟩) ?_
    exact ⟨by rw [State.rd_chFault]; exact State.rd_raise_ne_zero _ rfl, State.chFault_fuse ..⟩
  · set x := ((s.tick t).setTj n tj).senseOut n vOut vBus with hx
    have hd : x.rd (F.CH_TIMING_RETRY_DELAY_MS n) = s.rd (F.CH_TIMING_RETRY_DELAY_MS n) := by
      rw [hx, State.rd_senseOut, State.setTj, State.rd_wr_ne, State.rd_tick] <;>
        simp only [ne_eq, Fld.key, F.CH_TIMING_RETRY_DELAY_MS, F.CH_DIAG_TJ, F.CH_DIAG_V_OUT, F.PWRMGR_BUS_V_BUS] <;> omega
    have he : x.effCmd n = true := by
      rw [hx, State.effCmd_senseOut, ← heff]
      refine State.effCmd_congr rfl rfl (State.rd_wr_ne _ _ ?_) (State.rd_wr_ne _ _ ?_) (State.rd_wr_ne _ _ ?_) (State.rd_wr_ne _ _ ?_) <;>
        simp only [ne_eq, Fld.key, F.CH_DIAG_TJ, F.CH_PROFILE_CH_MODE, F.CH_CTL_HUB_CMD, F.CH_PROFILE_PAIRED, F.PAIR_CFG_PAIR_EN] <;> omega
    obtain ⟨h1, -, h3, -, -, -, h7⟩ := State.enqueue_queued (s := x) (n := n) (hand := x.isHandover n) hpf hse hr
    refine ends_unit (arm_retryDelayExpiry ..) hb (if_pos ⟨hst, ?_, hh, htj, he⟩) ⟨h1, h3, h7⟩
    rw [← hx, hd]; exact decide_eq_true hw
  · refine ends_unit (arm_retryCountReset ..) hb (if_pos ⟨hon, decide_eq_true hw⟩) ?_
    exact ⟨(OnlyRegs.tick s t _).wr 0 (by simp), State.rd_clrF_self ..⟩

/-! ### Measurements -/

section
variable {s : State} {n : Nat} {f g : Fld} {kind sev : Nat} {p : Prop} [Decidable p]

/-- A diagnostic that reports a fault where a test holds. -/
def State.faultIf (s : State) (p : Prop) [Decidable p] (n : Nat) (f : Fld) (kind sev : Nat) : State :=
  if p then s.chFault n f kind sev else s

theorem State.faultIf_fuse : (s.faultIf p n f kind sev).fuse = s.fuse := by
  unfold State.faultIf; split
  · exact s.chFault_fuse ..
  · rfl

theorem State.flag_faultIf_self (hw : f.width = 1) : (s.faultIf p n f kind sev).flag f = (s.flag f || decide p) := by
  unfold State.faultIf; split
  case isTrue h => rw [State.flag, State.rd_chFault, s.rd_raise_bit hw, decide_eq_true h, Bool.or_true]; rfl
  case isFalse h => rw [decide_eq_false h, Bool.or_false]

theorem State.flag_faultIf_ne (h : f.key ≠ g.key) : (s.faultIf p n f kind sev).flag g = s.flag g := by
  unfold State.faultIf; split
  · rw [State.flag, State.rd_chFault, s.rd_raise_ne h]; rfl
  · rfl

end

/-- What one cycle of the off-state diagnostics leaves. -/
theorem ends_offdiagCycle {s : State} {t n vUp vDown bus : Nat} (hn : n < 48) (hd : s.offdiagRuns n = true) :
    Ends (.offdiagCycle t n vUp vDown bus) s fun s' => s'.fuse = s.fuse ∧
      s'.flag (F.CH_STAT_OPEN_LOAD n) = (s.flag (F.CH_STAT_OPEN_LOAD n) || decide (60 * bus ≤ 100 * vUp)) ∧
      s'.flag (F.CH_STAT_SHORT_GND n) = (s.flag (F.CH_STAT_SHORT_GND n) ||
        decide (s.rd (F.CH_DIAG2_SG_THRESH n) ≠ 0 ∧ vUp < s.rd (F.CH_DIAG2_SG_THRESH n))) ∧
      s'.flag (F.CH_STAT_SHORT_SUP n) = (s.flag (F.CH_STAT_SHORT_SUP n) || decide (50 * bus ≤ 100 * vDown)) := by
  set thr := s.rd (F.CH_DIAG2_SG_THRESH n) with hthr
  let x := ((s.tick t).wr (F.CH_DIAG_V_OUT n) (min 65535 (vUp / 10))).faultIf (60 * bus ≤ 100 * vUp) n (F.CH_STAT_OPEN_LOAD n) 0x01 3
  let y := (x.faultIf (thr ≠ 0 ∧ vUp < thr) n (F.CH_STAT_SHORT_GND n) 0x02 4).wr (F.CH_DIAG_V_OUT n) (min 65535 (vDown / 10))
  have hex : exec (.offdiagCycle t n vUp vDown bus) s = onUnit (decide (n < 48)) (y.faultIf (50 * bus ≤ 100 * vDown) n (F.CH_STAT_SHORT_SUP n) 0x03 4) :=
    (arm_offdiagCycle ..).trans (congrArg (onUnit _) (if_pos hd))
  have keys : (F.CH_STAT_SHORT_SUP n).key ≠ (F.CH_STAT_OPEN_LOAD n).key ∧ (F.CH_STAT_SHORT_SUP n).key ≠ (F.CH_STAT_SHORT_GND n).key ∧
      (F.CH_STAT_SHORT_GND n).key ≠ (F.CH_STAT_OPEN_LOAD n).key ∧ (F.CH_DIAG_V_OUT n).key ≠ (F.CH_STAT_OPEN_LOAD n).key ∧
      (F.CH_DIAG_V_OUT n).key ≠ (F.CH_STAT_SHORT_GND n).key ∧ (F.CH_DIAG_V_OUT n).key ≠ (F.CH_STAT_SHORT_SUP n).key := by
    simp only [Fld.key, F.CH_STAT_SHORT_SUP, F.CH_STAT_OPEN_LOAD, F.CH_STAT_SHORT_GND, F.CH_DIAG_V_OUT]; omega
  obtain ⟨supOl, supGnd, gndOl, vOl, vGnd, vSup⟩ := keys
  refine ends_onUnit hex (decide_eq_true hn) ⟨?_, ?_, ?_, ?_⟩
  · rw [State.faultIf_fuse, State.wr_fuse, State.faultIf_fuse, State.faultIf_fuse]; rfl
  · rw [State.flag_faultIf_ne supOl, State.flag_wr_ne _ _ vOl, State.flag_faultIf_ne gndOl, State.flag_faultIf_self rfl, State.flag_wr_ne _ _ vOl]; rfl
  · rw [State.flag_faultIf_ne supGnd, State.flag_wr_ne _ _ vGnd, State.flag_faultIf_self rfl, State.flag_faultIf_ne gndOl.symm, State.flag_wr_ne _ _ vGnd]; rfl
  · rw [State.flag_faultIf_self rfl, State.flag_wr_ne _ _ vSup, State.flag_faultIf_ne supGnd.symm, State.flag_faultIf_ne supOl.symm, State.flag_wr_ne _ _ vSup]; rfl

/-- Settles O11: each measurement's updates are those of a few fields and of the channel's own regulator. -/
theorem fuseboxMeasurements : Obligations.FuseboxMeasurements := by
  intro s t n vUp vDown bus rds mean last hn c
  have hb : decide (n < 48) = true := decide_eq_true hn
  refine ⟨ends_offdiagCycle hn, fun h16 hl hm => ?_, fun h16 hl hm hz => ?_, fun hcond hi => ?_, fun hm => ?_, fun hm => ?_⟩
  · refine ends_unit (arm_regulatorStep ..) (decide_eq_true ⟨h16, hn⟩) (if_pos hl) ?_
    have hm' : (s.tick t).rd (F.CH_CTL_OUT_MODE n) = 1 := hm
    simp only [hm']
    exact ⟨State.chan_modChan_self .., rfl, fun m hm => State.chan_modChan_ne hm⟩
  · refine ends_unit (arm_regulatorStep ..) (decide_eq_true ⟨h16, hn⟩) (if_pos hl) ?_
    have hm' : (s.tick t).rd (F.CH_CTL_OUT_MODE n) = 2 := hm
    have hz' : (s.tick t).rd (F.CH_PWM_DITHER_HZ n) = 0 := hz
    simp only [hm', hz', if_pos, State.chan_modChan_self]
    refine ⟨?_, Nat.mod_lt _ (by decide), rfl, rfl, fun m hm => State.chan_modChan_ne hm⟩
    rw [State.rd_tick]
    unfold satInt
    split
    · omega
    · split <;> omega
  · refine ends_unit (arm_ageMeasure ..) hb (if_pos ⟨hcond, hi⟩) ?_
    refine ⟨(((OnlyRegs.tick s t _).wr _ (by simp)).wr _ (by simp)).setF (by simp), ?_, State.rd_setF_self ..⟩
    rw [State.rd_setF_ne, State.rd_wr_ne, State.rd_wr_lt] <;>
      simp only [ne_eq, Fld.key, F.CH_AGE_RDS_MEAS, F.CH_AGE_DRIFT, F.CH_AGE_AGE_VALID] <;> omega
  · refine ends_next_eq (arm_aggWindow ..) (if_pos hm) ?_
    refine ⟨State.rd_raise_bit _ rfl, ?_, rfl, wroteOne_record (s₁ := ((s.tick t).wr F.FB_AGG_AGG_I (min 65535 last)).raise F.FB_AGG_AGG_HIGH) rfl rfl⟩
    exact (State.rd_raise_ne _ (by decide)).trans (State.rd_wr_lt _ (by simp only [F.FB_AGG_AGG_I]; omega))
  · refine ends_next_eq (arm_aggWindow ..) (if_neg (not_lt.2 hm)) ?_
    exact (OnlyRegs.tick s t _).wr _ (by simp)

end Sys2Proof.Machine
end

section
/-! PROOFS. The budget tick, O8: what each of its phases does to the reservations, and that a fallen request stays OFF. -/

namespace Sys2Proof.Machine

/-! ### Falls -/

section
variable (s : State) (n : Nat)

/-- The command OFF before the channel's state is looked at. -/
def State.fallen : State := (s.wr (F.CH_STAT_RETRY_CNT n) 0).modChan n fun c => { c with fell := true }

theorem State.chan_fallen_self : (s.fallen n).chan n = { s.chan n with fell := true } := State.chan_modChan_self ..

/-- A command OFF either leads to OFF or leaves the channel's state. -/
theorem State.commandOff_cases : s.commandOff n = s.fallen n ∨ s.commandOff n = (s.fallen n).chanTo n .off := by
  have h : s.commandOff n = match ((s.fallen n).chan n).state with
    | .off => s.fallen n
    | .latched => if (s.fallen n).vital n ∧ (s.fallen n).powerRuns n then (s.fallen n).chanTo n .off else s.fallen n
    | .queued | .starting | .on | .retryWait => (s.fallen n).chanTo n .off := rfl
  rw [h]
  split
  case h_1 => exact .inl rfl
  case h_2 =>
    split
    · exact .inr rfl
    · exact .inl rfl
  all_goals exact .inr rfl

end

/-! ### New requests -/

/-- The state once request `n`, one of `m` of its class and tick, has entered the queue. -/
def State.placed (s : State) (m n : Nat) : State :=
  let s := if 2 ≤ m then s.inc F.FB_TIE_CNT_TIES else s
  let s := (s.queueIn n).modChan n fun c => { c with reqTick := s.now }
  { s with fuse := { s.fuse with pointer := (n + 1) % 48 } }

theorem rotFirst_req {n ptr k : Nat} {req : Nat → Bool} (h : rotFirst n ptr req = some k) : req k = true := List.find?_some h

/-- Ordering a class is done, or one of the new requests enters the queue. -/
theorem State.orderClass_succ (s : State) (k fuel : Nat) : s.orderClass k (fuel + 1) = s ∨
    ∃ m n, n ∈ s.fuse.fresh ∧ s.orderClass k (fuel + 1) = (s.placed m n).orderClass k fuel := by
  rw [State.orderClass]
  dsimp only
  split
  · exact .inl rfl
  case h_2 n h =>
    have hm := List.contains_iff_mem.1 (rotFirst_req h)
    exact .inr ⟨_, n, List.mem_of_mem_filter hm, rfl⟩

/-! ### Reservations that do not grow -/

/-- No reservation of `s'` is larger than at `s`, and memory and the caps are as they were. -/
structure State.Spends (s s' : State) : Prop where
  inr : ∀ n, (s'.chan n).inr ≤ (s.chan n).inr
  slew : ∀ n, (s'.chan n).slew ≤ (s.chan n).slew
  mem : s'.mem = s.mem
  cap : s'.rd F.FB_BUDGET_INRUSH_CAP = s.rd F.FB_BUDGET_INRUSH_CAP
  supply : s'.rd F.FB_BUDGET_SUPPLY_SLEW = s.rd F.FB_BUDGET_SUPPLY_SLEW

namespace State.Spends
variable {s s' s'' : State} {n : Nat}

theorem refl (s : State) : s.Spends s := ⟨fun _ => le_rfl, fun _ => le_rfl, rfl, rfl, rfl⟩

theorem trans (h : s.Spends s') (h' : s'.Spends s'') : s.Spends s'' :=
  ⟨fun n => (h'.inr n).trans (h.inr n), fun n => (h'.slew n).trans (h.slew n), h'.mem.trans h.mem, h'.cap.trans h.cap, h'.supply.trans h.supply⟩

theorem of_frame (hc : s'.fuse.chans = s.fuse.chans) (hm : s'.mem = s.mem) (hr : s'.regs = s.regs) : s.Spends s' :=
  ⟨fun n => (congrArg Channel.inr (State.chan_of_chans hc n)).le, fun n => (congrArg Channel.slew (State.chan_of_chans hc n)).le, hm,
    State.rd_congr hr _, State.rd_congr hr _⟩

/-- One channel changes, and its reservations do not grow. -/
theorem of_chan (hn : (s'.chan n).inr ≤ (s.chan n).inr ∧ (s'.chan n).slew ≤ (s.chan n).slew) (hc : ∀ m, m ≠ n → s'.chan m = s.chan m)
    (hm : s'.mem = s.mem) (hr : s'.regs = s.regs) : s.Spends s' := by
  refine ⟨fun m => ?_, fun m => ?_, hm, State.rd_congr hr _, State.rd_congr hr _⟩
  · by_cases h : m = n
    · exact h ▸ hn.1
    · rw [hc m h]
  · by_cases h : m = n
    · exact h ▸ hn.2
    · rw [hc m h]

theorem modChan {f : Channel → Channel} (h : (f (s.chan n)).inr ≤ (s.chan n).inr ∧ (f (s.chan n)).slew ≤ (s.chan n).slew) :
    s.Spends (s.modChan n f) := of_chan (by rwa [State.chan_modChan_self]) (fun _ hm => State.chan_modChan_ne hm) rfl rfl

theorem setCh {f : Channel → Channel} (h : (f (s.chan n)).inr ≤ (s.chan n).inr ∧ (f (s.chan n)).slew ≤ (s.chan n).slew) :
    s.Spends (s.setCh n f) := of_chan (by rwa [State.chan_setCh_self]) (fun _ hm => State.chan_setCh_ne hm) rfl rfl

theorem wr {f : Fld} {v : Nat} (h1 : f.key ≠ F.FB_BUDGET_INRUSH_CAP.key) (h2 : f.key ≠ F.FB_BUDGET_SUPPLY_SLEW.key) : s.Spends (s.wr f v) :=
  ⟨fun _ => le_rfl, fun _ => le_rfl, rfl, State.rd_wr_ne _ _ h1, State.rd_wr_ne _ _ h2⟩

theorem chanTo {c : ChState} : s.Spends (s.chanTo n c) :=
  of_chan (by rw [State.chan_chanTo_self]; exact ⟨Nat.zero_le _, Nat.zero_le _⟩) (fun _ hm => State.chan_chanTo_ne _ _ _ hm)
    (s.chanTo_mem n c) (s.chanTo_regs n c)

theorem foldl {α : Type} {f : State → α → State} (hf : ∀ (s : State) a, s.Spends (f s a)) (l : List α) (s : State) : s.Spends (l.foldl f s) := by
  induction l generalizing s with
  | nil => exact refl s
  | cons a l ih => exact (hf s a).trans (ih _)

theorem fallen : s.Spends (s.fallen n) := by
  refine (wr ?_ ?_).trans (modChan ⟨le_rfl, le_rfl⟩) <;>
    simp only [ne_eq, Fld.key, F.CH_STAT_RETRY_CNT, F.FB_BUDGET_INRUSH_CAP, F.FB_BUDGET_SUPPLY_SLEW] <;> omega

theorem commandOff : s.Spends (s.commandOff n) := by
  rcases s.commandOff_cases n with h | h <;> rw [h]
  · exact fallen
  · exact fallen.trans chanTo

theorem ite {p : Prop} [Decidable p] {a b : State} (ha : s.Spends a) (hb : s.Spends b) : s.Spends (if p then a else b) := by
  split
  · exact ha
  · exact hb

theorem takeFall : s.Spends (s.takeFall n) := by
  have h1 := ite (p := (s.chan n).state = .queued ∧ ((s.chan n).fell ∨ !s.effCmd n) ∨ (s.chan n).state = .latched ∧ s.vital n ∧ !s.effCmd n)
    (commandOff (s := s) (n := n)) (refl s)
  exact h1.trans (ite (modChan ⟨le_rfl, le_rfl⟩) (refl _))

theorem closeRamp : s.Spends (s.closeRamp n) := ite (setCh ⟨le_rfl, Nat.zero_le _⟩) (refl s)

theorem closeInrush : s.Spends (s.closeInrush n) := ite (setCh ⟨Nat.zero_le _, le_rfl⟩) (refl s)

theorem placed {m : Nat} : s.Spends (s.placed m n) := by
  set x := if 2 ≤ m then s.inc F.FB_TIE_CNT_TIES else s with hx
  have h1 : s.Spends x := ite (wr (f := F.FB_TIE_CNT_TIES) (by decide) (by decide)) (refl s)
  have h2 : x.Spends (x.queueIn n) := of_frame rfl rfl rfl
  exact ((h1.trans h2).trans (modChan (n := n) (f := fun c => { c with reqTick := x.now }) ⟨le_rfl, le_rfl⟩)).trans (of_frame rfl rfl rfl)

theorem orderClass (k fuel : Nat) : s.Spends (s.orderClass k fuel) := by
  induction fuel generalizing s with
  | zero => exact refl s
  | succ fuel ih =>
    rcases s.orderClass_succ k fuel with h | ⟨m, n, -, h⟩ <;> rw [h]
    · exact refl s
    · exact placed.trans ih

theorem ilimTick : s.Spends (s.ilimTick n) := by
  unfold State.ilimTick
  split <;> exact modChan ⟨le_rfl, le_rfl⟩

theorem grant_zero : s.Spends (s.grant n 0 0 0) :=
  (((of_frame rfl rfl rfl : s.Spends (s.dequeue n)).trans (setCh ⟨Nat.zero_le _, Nat.zero_le _⟩)).trans closeRamp).trans closeInrush

theorem handovers : s.Spends s.handovers := foldl (fun _ _ => grant_zero) _ s

theorem resvInrush (h : s.Spends s') : s'.resvInrush ≤ s.resvInrush := List.sum_le_sum fun n _ => h.inr n

theorem resvSlew (h : s.Spends s') : s'.resvSlew ≤ s.resvSlew := List.sum_le_sum fun n _ => h.slew n

end State.Spends

/-! ### Grants -/

/-- Changing the term of one place adds at most its new value to a sum. -/
theorem sum_map_le_of_change {f g : Nat → Nat} {n : Nat} (h : ∀ m, m ≠ n → g m = f m) (l : List Nat) (hl : l.Nodup) :
    (l.map g).sum ≤ (l.map f).sum + g n := by
  induction l with
  | nil => simp
  | cons a l ih =>
    obtain ⟨ha, hl⟩ := List.nodup_cons.1 hl
    rw [List.map_cons, List.map_cons, List.sum_cons, List.sum_cons]
    by_cases han : a = n
    · have : l.map g = l.map f := List.map_congr_left fun m hm => h m fun e => ha (han ▸ e ▸ hm)
      rw [this, han]; omega
    · rw [h a han]; have := ih hl; omega

section
variable (s : State) (n inr slew tr : Nat)

/-- The state of a grant before its windows are looked at. -/
def State.grantOpen : State :=
  (s.dequeue n).setCh n fun c =>
    { c with state := .starting, hand := false, late := false, inr := inr, slew := slew, tr := tr, rampEnd := s.now + tr * 10000,
             inrushEnd := s.now + tr * 10000 + ms (s.rd (F.CH_PROFILE_INRUSH_MS n)), phase := none, ilim := 0, clamp := false,
             wheel := decide (16 ≤ n) && (s.rd (F.CH_CTL_OUT_MODE n) == 1 || s.rd (F.CH_CTL_OUT_MODE n) == 2) }

theorem State.grantOpen_spends : (s.grantOpen n inr slew tr).Spends (s.grant n inr slew tr) :=
  (State.Spends.closeRamp (s := s.grantOpen n inr slew tr) (n := n)).trans State.Spends.closeInrush

/-- A grant adds at most what it reserves. -/
theorem State.grant_reserves : (s.grant n inr slew tr).resvInrush ≤ s.resvInrush + inr ∧ (s.grant n inr slew tr).resvSlew ≤ s.resvSlew + slew := by
  have hn : (s.grantOpen n inr slew tr).chan n = _ := State.chan_setCh_self ..
  have hm (m : Nat) (h : m ≠ n) : (s.grantOpen n inr slew tr).chan m = s.chan m := State.chan_setCh_ne h
  refine ⟨(s.grantOpen_spends ..).resvInrush.trans ?_, (s.grantOpen_spends ..).resvSlew.trans ?_⟩
  · have := sum_map_le_of_change (f := fun m => (s.chan m).inr) (g := fun m => ((s.grantOpen n inr slew tr).chan m).inr)
      (fun m h => congrArg Channel.inr (hm m h)) allChannels List.nodup_range
    rwa [hn] at this
  · have := sum_map_le_of_change (f := fun m => (s.chan m).slew) (g := fun m => ((s.grantOpen n inr slew tr).chan m).slew)
      (fun m h => congrArg Channel.slew (hm m h)) allChannels List.nodup_range
    rwa [hn] at this

theorem State.grant_frame : (s.grant n inr slew tr).mem = s.mem ∧
    (s.grant n inr slew tr).rd F.FB_BUDGET_INRUSH_CAP = s.rd F.FB_BUDGET_INRUSH_CAP ∧
    (s.grant n inr slew tr).rd F.FB_BUDGET_SUPPLY_SLEW = s.rd F.FB_BUDGET_SUPPLY_SLEW :=
  ⟨(s.grantOpen_spends ..).mem, (s.grantOpen_spends ..).cap, (s.grantOpen_spends ..).supply⟩

end

/-- Within the caps `cap` and `supply`, or what stood there before. -/
structure State.Within (a b cap supply : Nat) (m : List Host.Cell) (s : State) : Prop where
  inr : s.resvInrush ≤ max a cap
  slew : s.resvSlew ≤ max b supply
  mem : s.mem = m
  cap : s.rd F.FB_BUDGET_INRUSH_CAP = cap
  supply : s.rd F.FB_BUDGET_SUPPLY_SLEW = supply

section
variable {a b cap supply : Nat} {m : List Host.Cell} {s s' : State}

theorem State.Within.spends (h : s.Within a b cap supply m) (hs : s.Spends s') : s'.Within a b cap supply m :=
  ⟨hs.resvInrush.trans h.inr, hs.resvSlew.trans h.slew, hs.mem.trans h.mem, hs.cap.trans h.cap, hs.supply.trans h.supply⟩

/-- The grant loop keeps within the caps: it grants only what still fits. -/
theorem State.Within.grantLoop (h : s.Within a b cap supply m) (q : List Nat) : (s.grantLoop q).Within a b cap supply m := by
  induction q generalizing s with
  | nil => exact h
  | cons n q ih =>
    unfold State.grantLoop
    split
    case isFalse => exact h
    case isTrue hfit =>
      obtain ⟨hi, hs⟩ := s.grant_reserves n (s.inrushOf n) (s.slewOf n) (s.rampTicks n)
      obtain ⟨hm, hc, hv⟩ := s.grant_frame n (s.inrushOf n) (s.slewOf n) (s.rampTicks n)
      have hcap := h.cap
      have hsup := h.supply
      exact ih ⟨by omega, by omega, hm.trans h.mem, hc.trans hcap, hv.trans hsup⟩

end

/-! ### A fallen request stays OFF -/

/-- The channel is OFF and has no request. -/
structure State.Gone (s : State) (n : Nat) : Prop where
  off : (s.chan n).state = .off
  queue : n ∉ s.fuse.queue
  fresh : n ∉ s.fuse.fresh

section
variable {s s' : State} {n m : Nat}

theorem State.chanTo_fresh (s : State) (n : Nat) (c : ChState) : (s.chanTo n c).fuse.fresh = s.fuse.fresh.filter (fun m => m ≠ n) := by
  rw [s.chanTo_eq, State.setCh]
  exact congrArg (fun x : FuseSt => x.fresh.filter (fun m => m ≠ n)) (s.beforeLatch_fuse n c)

theorem State.gone_chanTo (s : State) (n : Nat) : (s.chanTo n .off).Gone n :=
  ⟨by rw [State.chan_chanTo_self]; rfl, s.not_mem_chanTo_queue n .off, by rw [State.chanTo_fresh, List.mem_filter]; simp⟩

/-- A channel that stays OFF while no request of its own enters stays gone. -/
theorem State.Gone.of (h : s.Gone n) (hc : (s'.chan n).state = (s.chan n).state) (hq : n ∈ s'.fuse.queue → n ∈ s.fuse.queue)
    (hf : n ∈ s'.fuse.fresh → n ∈ s.fuse.fresh) : s'.Gone n := ⟨hc.trans h.off, fun hm => h.queue (hq hm), fun hm => h.fresh (hf hm)⟩

theorem State.Gone.modChan (h : s.Gone n) {f : Channel → Channel} (hf : m = n → (f (s.chan n)).state = (s.chan n).state) :
    (s.modChan m f).Gone n := by
  refine h.of ?_ id id
  by_cases hm : m = n
  · subst hm; rw [State.chan_modChan_self, hf rfl]
  · rw [State.chan_modChan_ne (Ne.symm hm)]

theorem State.Gone.setCh (h : s.Gone n) {f : Channel → Channel} (hf : m = n → (f (s.chan n)).state = (s.chan n).state) :
    (s.setCh m f).Gone n := (h.modChan hf).of rfl id id

theorem State.Gone.chanTo (h : s.Gone n) (hm : n ≠ m) {c : ChState} : (s.chanTo m c).Gone n :=
  h.of (by rw [State.chan_chanTo_ne _ _ _ hm]) (fun hq => by rw [State.chanTo_queue] at hq; exact List.mem_of_mem_filter hq)
    fun hf => by rw [State.chanTo_fresh] at hf; exact List.mem_of_mem_filter hf

theorem State.Gone.foldl {α : Type} {f : State → α → State} (l : List α) (h : s.Gone n) (hf : ∀ a ∈ l, ∀ s : State, s.Gone n → (f s a).Gone n) :
    (l.foldl f s).Gone n := by
  induction l generalizing s with
  | nil => exact h
  | cons a l ih => exact ih (hf a List.mem_cons_self s h) fun b hb => hf b (List.mem_cons_of_mem a hb)

theorem State.Gone.closeRamp (h : s.Gone n) : (s.closeRamp m).Gone n := by
  unfold State.closeRamp
  dsimp only
  split
  case isTrue hc => exact h.setCh fun e => absurd (e ▸ hc.1) (by rw [h.off]; decide)
  case isFalse => exact h

theorem State.Gone.closeInrush (h : s.Gone n) : (s.closeInrush m).Gone n := by
  unfold State.closeInrush
  dsimp only
  split
  · exact h.setCh fun _ => rfl
  · exact h

theorem State.Gone.commandOff (h : s.Gone n) (hm : n ≠ m) : (s.commandOff m).Gone n := by
  have hf : (s.fallen m).Gone n := (h.of rfl id id : (s.wr (F.CH_STAT_RETRY_CNT m) 0).Gone n).modChan fun _ => rfl
  rcases s.commandOff_cases m with e | e <;> rw [e]
  · exact hf
  · exact hf.chanTo hm

theorem State.Gone.clearFell (h : s.Gone n) : (if (s.chan m).fell then s.modChan m fun c => { c with fell := false } else s).Gone n := by
  split
  · exact h.modChan fun _ => rfl
  · exact h

theorem State.Gone.takeFall (h : s.Gone n) : (s.takeFall m).Gone n := by
  unfold State.takeFall
  refine State.Gone.clearFell ?_
  split
  case isTrue hc =>
    by_cases hm : n = m
    · subst hm; simp [h.off] at hc
    · exact h.commandOff hm
  case isFalse => exact h

theorem State.Gone.placed (h : s.Gone n) {k : Nat} (hm : n ≠ m) : (s.placed k m).Gone n := by
  set x := if 2 ≤ k then s.inc F.FB_TIE_CNT_TIES else s with hx
  have hxf : x.fuse = s.fuse := by rw [hx]; split <;> rfl
  have h1 : x.Gone n := h.of (by rw [State.chan_congr hxf]) (by rw [hxf]; exact id) (by rw [hxf]; exact id)
  have h2 : (x.queueIn m).Gone n := by
    refine h1.of rfl (fun hq => ?_) fun hf => List.mem_of_mem_filter hf
    rcases List.mem_append.1 hq with hq | hq
    · exact List.mem_of_mem_filter hq
    · rcases List.mem_cons.1 hq with hq | hq
      · exact absurd hq hm
      · exact List.mem_of_mem_filter hq
  exact (h2.modChan (f := fun c => { c with reqTick := (x.queueIn m).now }) fun _ => rfl).of rfl id id

theorem State.Gone.orderClass (h : s.Gone n) (k fuel : Nat) : (s.orderClass k fuel).Gone n := by
  induction fuel generalizing s with
  | zero => exact h
  | succ fuel ih =>
    rcases s.orderClass_succ k fuel with e | ⟨c, m, hm, e⟩ <;> rw [e]
    · exact h
    · exact ih (h.placed fun e => h.fresh (e ▸ hm))

theorem State.Gone.grant (h : s.Gone n) (hm : n ≠ m) (inr slew tr : Nat) : (s.grant m inr slew tr).Gone n := by
  have h1 : (s.dequeue m).Gone n := h.of rfl List.mem_of_mem_filter List.mem_of_mem_filter
  exact State.Gone.closeInrush (State.Gone.closeRamp (h1.setCh fun e => absurd e.symm hm))

theorem State.Gone.grantLoop (h : s.Gone n) (q : List Nat) (hq : n ∉ q) : (s.grantLoop q).Gone n := by
  induction q generalizing s with
  | nil => exact h
  | cons m q ih =>
    unfold State.grantLoop
    split
    · exact ih (h.grant (fun e => hq (e ▸ List.mem_cons_self)) ..) fun hm => hq (List.mem_cons_of_mem m hm)
    · exact h

theorem State.Gone.handovers (h : s.Gone n) : s.handovers.Gone n := by
  refine State.Gone.foldl _ h fun m hm x hx => hx.grant (fun e => ?_) 0 0 0
  have := (List.mem_filter.1 hm).2
  simp [← e, h.off] at this

theorem State.Gone.ilimTick (h : s.Gone n) : (s.ilimTick m).Gone n := by
  unfold State.ilimTick
  split <;> exact h.modChan fun _ => rfl

end

/-! ### The falls of a tick -/

section
variable {s : State} {n m : Nat}

theorem State.chanTo_lane (s : State) (n : Nat) (c : ChState) : (s.chanTo n c).lane = s.lane ∧ (s.chanTo n c).pair = s.pair := by
  obtain ⟨k, hk⟩ := s.beforeLatch_eq n c
  rw [s.chanTo_eq, hk]
  exact ⟨rfl, rfl⟩

theorem State.rd_fallen {g : Fld} (h : (F.CH_STAT_RETRY_CNT m).key ≠ g.key) : (s.fallen m).rd g = s.rd g := s.rd_wr_ne 0 h

/-- A fall of one channel leaves another, and its effective command. -/
theorem State.takeFall_ne (hm : n ≠ m) : (s.takeFall m).chan n = s.chan n ∧ (s.takeFall m).effCmd n = s.effCmd n := by
  have fallen : (s.fallen m).chan n = s.chan n ∧ (s.fallen m).effCmd n = s.effCmd n := by
    refine ⟨State.chan_modChan_ne hm, State.effCmd_congr rfl rfl (State.rd_fallen ?_) (State.rd_fallen ?_)
      (State.rd_fallen ?_) (State.rd_fallen ?_)⟩ <;>
      simp only [ne_eq, Fld.key, F.CH_STAT_RETRY_CNT, F.CH_PROFILE_CH_MODE, F.CH_CTL_HUB_CMD, F.CH_PROFILE_PAIRED, F.PAIR_CFG_PAIR_EN] <;> omega
  have off : (s.commandOff m).chan n = s.chan n ∧ (s.commandOff m).effCmd n = s.effCmd n := by
    rcases s.commandOff_cases m with e | e <;> rw [e]
    · exact fallen
    · have hr (g : Fld) := (s.fallen m).rd_chanTo m .off g
      obtain ⟨hl, hp⟩ := (s.fallen m).chanTo_lane m .off
      exact ⟨(State.chan_chanTo_ne _ _ _ hm).trans fallen.1, (State.effCmd_congr hl hp (hr _) (hr _) (hr _) (hr _)).trans fallen.2⟩
  have clear (x : State) : (if (x.chan m).fell then x.modChan m fun c => { c with fell := false } else x).chan n = x.chan n ∧
      (if (x.chan m).fell then x.modChan m fun c => { c with fell := false } else x).effCmd n = x.effCmd n := by
    split
    · exact ⟨State.chan_modChan_ne hm, State.effCmd_congr rfl rfl rfl rfl rfl rfl⟩
    · exact ⟨rfl, rfl⟩
  unfold State.takeFall
  dsimp only
  rw [(clear _).1, (clear _).2]
  split
  · exact off
  · exact ⟨rfl, rfl⟩

/-- A queued channel whose command has fallen is gone once its fall is taken. -/
theorem State.takeFall_gone (hq : (s.chan n).state = .queued) (hf : (s.chan n).fell = true ∨ s.effCmd n = false) : (s.takeFall n).Gone n := by
  have hoff : s.commandOff n = (s.fallen n).chanTo n .off := State.commandOff_eq (by rw [hq]; decide) (by rw [hq]; decide)
  have hcond : (s.chan n).state = .queued ∧ ((s.chan n).fell ∨ !s.effCmd n) ∨ (s.chan n).state = .latched ∧ s.vital n ∧ !s.effCmd n :=
    .inl ⟨hq, by simpa using hf⟩
  unfold State.takeFall
  refine State.Gone.clearFell ?_
  rw [if_pos hcond, hoff]
  exact (s.fallen n).gone_chanTo n

/-- The falls of the first `k` channels: those that have fallen are gone, the others are not looked at yet. -/
theorem State.takeFalls (hq : (s.chan n).state = .queued) (hf : (s.chan n).fell = true ∨ s.effCmd n = false) (k : Nat) :
    let x := (List.range k).foldl (fun s n => s.takeFall n) s
    (n < k → x.Gone n) ∧ (k ≤ n → x.chan n = s.chan n ∧ x.effCmd n = s.effCmd n) := by
  induction k with
  | zero => exact ⟨fun h => absurd h (Nat.not_lt_zero n), fun _ => ⟨rfl, rfl⟩⟩
  | succ k ih =>
    simp only [List.range_succ, List.foldl_append, List.foldl_cons, List.foldl_nil]
    obtain ⟨hgone, hleft⟩ := ih
    refine ⟨fun h => ?_, fun h => ?_⟩
    · rcases Nat.lt_succ_iff_lt_or_eq.1 h with h | h
      · exact (hgone h).takeFall
      · subst h
        obtain ⟨hc, he⟩ := hleft le_rfl
        exact State.takeFall_gone (hc ▸ hq) (by rw [hc, he]; exact hf)
    · obtain ⟨hc, he⟩ := hleft (by omega)
      obtain ⟨hc', he'⟩ := State.takeFall_ne (s := (List.range k).foldl (fun s n => s.takeFall n) s) (show n ≠ k by omega)
      exact ⟨hc'.trans hc, he'.trans he⟩

end

/-- Settles O8: every phase but the grants spends reservations, the grants keep within the caps, and no phase starts a fallen request. -/
theorem fuseboxTickKeepsBudget : Obligations.FuseboxTickKeepsBudget := by
  intro s t
  obtain ⟨x, hx⟩ : ∃ x, x = allChannels.foldl (fun s n => s.takeFall n) (s.tick t) := ⟨_, rfl⟩
  obtain ⟨y, hy⟩ : ∃ y, y = [0, 1, 2].foldl (fun s k => s.orderClass k s.fuse.fresh.length)
    (allChannels.foldl (fun s n => (s.closeRamp n).closeInrush n) x) := ⟨_, rfl⟩
  obtain ⟨z, hz⟩ : ∃ z, z = if y.mayGrant then y.handovers.grantLoop y.handovers.fuse.queue else y := ⟨_, rfl⟩
  have hex : exec (.budgetTick t) s = .next (allChannels.foldl State.ilimTick z) := by rw [hz, hy, hx]; exact arm_budgetTick ..
  have hsx : (s.tick t).Spends x := by rw [hx]; exact State.Spends.foldl (fun _ _ => .takeFall) _ _
  have hxy : (s.tick t).Spends y := by
    rw [hy]
    refine (hsx.trans (State.Spends.foldl (fun _ _ => ?_) _ _)).trans (State.Spends.foldl (fun _ _ => .orderClass _ _) _ _)
    exact State.Spends.closeRamp.trans .closeInrush
  have hgone (n : Nat) (hn : n < 48) (hq : (s.chan n).state = .queued) (hf : (s.chan n).fell = true ∨ s.effCmd n = false) : y.Gone n := by
    have h1 : x.Gone n := by
      rw [hx, allChannels]; exact (State.takeFalls (s := s.tick t) hq hf 48).1 hn
    exact hy ▸ (h1.foldl _ fun _ _ _ h => h.closeRamp.closeInrush).foldl _ fun _ _ _ h => h.orderClass ..
  have h0 : (s.tick t).Within s.resvInrush s.resvSlew (s.rd F.FB_BUDGET_INRUSH_CAP) (s.rd F.FB_BUDGET_SUPPLY_SLEW) s.mem :=
    ⟨le_max_left _ _, le_max_left _ _, rfl, rfl, rfl⟩
  have hw := h0.spends hxy
  have hz1 : z.Within s.resvInrush s.resvSlew (s.rd F.FB_BUDGET_INRUSH_CAP) (s.rd F.FB_BUDGET_SUPPLY_SLEW) s.mem := by
    rw [hz]; split
    · exact (hw.spends .handovers).grantLoop _
    · exact hw
  have hz2 (n : Nat) (h : y.Gone n) : z.Gone n := by
    rw [hz]; split
    · exact h.handovers.grantLoop _ h.handovers.queue
    · exact h
  have hend := hz1.spends (State.Spends.foldl (f := State.ilimTick) (fun _ _ => .ilimTick) allChannels z)
  exact ends_next hex ⟨hend.inr, hend.slew, hend.mem, fun n hn hq hf => ((hz2 n (hgone n hn hq hf)).foldl _ fun _ _ _ h => h.ilimTick).off⟩

end Sys2Proof.Machine
end

section
/-! PROOFS. Reset, the queue, and register and memory writes: O1, O2 and O3. -/

namespace Sys2Proof.Machine

/-- Settles O2: it is the definition of a step on a queue that is not empty. -/
theorem stepRunsFrontCommand : Obligations.StepRunsFrontCommand := by
  intro s c rest
  rfl

/-- Settles O3: every table of the reset state is empty, so that each unit reads as its initial one. -/
theorem resetIsOffAndSound : Obligations.ResetIsOffAndSound :=
  ⟨rfl, rfl, rfl, rfl, fun _ _ => rfl, fun _ => rfl, fun _ _ => rfl, fun _ _ => rfl, fun _ => rfl, fun _ => rfl⟩

/-! ### Denied accesses -/

theorem satSucc_lt {w n : Nat} : satSucc w n < 2 ^ w := by
  unfold satSucc
  have := Nat.two_pow_pos w
  split <;> omega

section
variable (s : State) (v : Viol) (a : Attr) (set addr : Nat) (w : Bool)

theorem State.rd_logViol {g : Fld} (h : F.WORLD_VIOL_CNT_LOST.key ≠ g.key) : (s.logViol v).rd g = s.rd g := by
  unfold State.logViol; split
  · rfl
  · exact s.rd_inc_ne h

theorem State.logViol_mem : (s.logViol v).mem = s.mem := by unfold State.logViol; split <;> rfl

/-- A denied access is answered DENIED_WORLD, counted, and changes no byte of memory (R345). -/
theorem State.deny_frame : (s.deny a set addr w).mem = s.mem ∧ (s.deny a set addr w).resp = ⟨0x0E, 0⟩ ∧
    (s.deny a set addr w).rd F.WORLD_VIOL_CNT_DENIED = satSucc F.WORLD_VIOL_CNT_DENIED.width (s.rd F.WORLD_VIOL_CNT_DENIED) ∧
    ∀ g : Fld, F.WORLD_VIOL_CNT_LOST.key ≠ g.key → F.WORLD_VIOL_CNT_DENIED.key ≠ g.key → (s.deny a set addr w).rd g = s.rd g := by
  set x := (s.logViol ⟨0x0E, a, set, w, addr⟩).inc F.WORLD_VIOL_CNT_DENIED with hx
  have hm : (s.deny a set addr w).mem = x.mem ∧ (s.deny a set addr w).regs = x.regs := by
    unfold State.deny
    dsimp only
    rw [State.answer_mem, State.answer_regs, ← hx]
    split <;> split <;> exact ⟨rfl, rfl⟩
  refine ⟨hm.1.trans (s.logViol_mem _), rfl, (State.rd_congr hm.2 _).trans ?_, fun g hg h => (State.rd_congr hm.2 g).trans ?_⟩
  · rw [hx, State.rd_inc_self, s.rd_logViol _ (by decide), Nat.mod_eq_of_lt satSucc_lt]
  · rw [hx, State.rd_inc_ne _ h, s.rd_logViol _ hg]

end

/-! ### Which accesses are accepted -/

section
variable {addr size : Nat}

theorem isMemory_iff : isMemory addr = true ↔
    (0x10000000 ≤ addr ∧ addr < 0x10400000) ∨ (0x0800000000 ≤ addr ∧ addr < 0x0A00000000) := by
  unfold isMemory regionSet
  split
  · simp_all
  · split
    · simp_all
    · split <;> simp_all

/-- Memory is in the map, so that width and alignment decide an access to it. -/
theorem accessOk_memory (h : isMemory addr = true) :
    accessOk addr size = true ↔ (size = 1 ∨ size = 2 ∨ size = 4) ∧ addr % size = 0 := by
  have hm : mapped addr = true := by
    rw [mapped, List.any_eq_true]
    rcases isMemory_iff.1 h with h | h
    · exact ⟨(0x10000000, 0x400000), by simp [hubRanges], by simp; omega⟩
    · exact ⟨(0x0800000000, 0x200000000), by simp [hubRanges], by simp; omega⟩
  simp [accessOk, hm, h, or_assoc]

theorem accessOk_register (h : isMemory addr = false) :
    accessOk addr size = false ↔ (size ≠ 4 ∨ addr % 4 ≠ 0 ∨ mapped addr = false) := by
  unfold accessOk
  rw [h]
  cases mapped addr <;> simp
  omega

end

/-! ### The write of a register -/

section
variable {s : State} {t addr w i j : Nat} {a : Attr} {core : Option Nat} {v : Word} {b : RegBlock} {P : State → Prop}

/-- An address whose word write goes to a register block: neither memory, nor a staging window, nor unmapped. -/
def inBlock (addr : Nat) : Bool :=
  accessOk addr 4 && !isMemory addr && (regionSet addr).isSome && decide (addr < 0x50000000) && !isElement addr &&
    decide (addr ≠ 0x41400020 ∧ addr ≠ 0x41400024) && !(decide (0x41300100 ≤ addr) && decide (addr < 0x41300140))

/-- A word write at such an address is the write of the word. -/
theorem exec_registerWrite_word (hb : inBlock addr = true) :
    exec (.registerWrite t a core addr 4 v) s = .next (match regAt addr with
      | none => (s.tick t).guarded a addr true true id
      | some (b, i, j) =>
        if b.who = .vim then (s.tick t).vimWrite a addr ((s.tick t).vimMay a i) fun s => s.writeReg a b i j v.toNat
        else (s.tick t).guarded a addr true (mayWrite a core b i addr) fun s => s.writeReg a b i j v.toNat) := by
  simp only [inBlock, Bool.and_eq_true, Bool.not_eq_true', decide_eq_true_eq, Option.isSome_iff_ne_none, ne_eq] at hb
  obtain ⟨⟨⟨⟨⟨⟨hok, hmem⟩, hreg⟩, hlt⟩, hel⟩, hwin⟩, hst⟩ := hb
  have hst' : ¬ (0x41300100 ≤ addr ∧ addr < 0x41300140) := by
    intro h; simp [h] at hst
  rw [arm_registerWrite, execRegisterWrite]
  rw [hok, hmem]
  simp only [Bool.not_true, Bool.false_eq_true, if_false]
  rw [if_neg (by rintro (h | h); exacts [hreg h, by omega]), State.writeWord, hel]
  simp only [Bool.false_eq_true, if_false]
  rw [if_neg (by rintro (h | h); exacts [hwin.1 h, hwin.2 h]), if_neg hst'] <;> rfl

/-- A write that the regions and the register's own rule let pass writes the register. -/
theorem ends_registerWrite (hb : inBlock addr = true) (hr : regAt addr = some (b, i, j)) (hv : b.who ≠ .vim)
    (hp : (s.tick t).passes addr a true = true) (hm : mayWrite a core b i addr = true)
    (h : P ((s.tick t).okay.writeReg a b i j v.toNat)) : Ends (.registerWrite t a core addr 4 v) s P := by
  have hx := exec_registerWrite_word (s := s) (t := t) (a := a) (core := core) (v := v) hb
  simp only [hr] at hx
  rw [if_neg hv] at hx
  exact ends_guarded hx hp hm h

/-- A register that no chapter gives an effect of its own takes the write field by field. -/
theorem State.writeReg_plain (hc : canConfigOf (b.base + i * b.si + j * b.sj) = none)
    (hb : b.base ∉ [(F.UIO_PIN_CFG_MODE 0).addr, (F.UIO_PIN_THR_TH_HI 0).addr, (F.UIO_STN_OUT_REG_LO 0 0).addr, (F.UIO_SP_CTL_EN 0).addr,
      (F.UIO_SEG_CFG_SEG_EN 0).addr, (F.HALL_PORT_CFG_CUT_EN 0).addr, (F.STAIR_IRQ_ROUTE_EN 0).addr])
    (ha : b.base + i * b.si + j * b.sj ∉ [F.HALL_BUF_CFG_INT_XON.addr, F.HALL_INT_HOLD_HELD.addr, F.NETMGT_STAT_PREPARE_EVT.addr,
      F.TIME_PPS_OUT_EN.addr, F.TIME_PPS_PHASE_PPS_PHASE.addr]) :
    s.writeReg a b i j w = b.write i j w s := by
  simp only [List.mem_cons, List.not_mem_nil, or_false, not_or] at hb ha
  obtain ⟨b1, b2, b3, b4, b5, b6, b7⟩ := hb
  obtain ⟨a1, a2, a3, a4, a5⟩ := ha
  unfold State.writeReg
  dsimp only
  simp only [hc]
  rw [if_neg b1, if_neg b2, if_neg b3, if_neg b4, if_neg b5, if_neg b6, if_neg (not_or.2 ⟨a1, a2⟩), if_neg b7, if_neg a3,
    if_neg (not_or.2 ⟨a4, a5⟩)]

/-- A register of a controller that is written only in CONFIG. -/
theorem State.writeReg_can {c : Nat} (hc : canConfigOf (b.base + i * b.si + j * b.sj) = some c) :
    s.writeReg a b i j w = if (s.ctl c).state = .config then b.write i j w s else s.raise (F.CAN_STAT_CMD_REFUSED c) := by
  unfold State.writeReg
  dsimp only
  simp only [hc]

/-- A field that takes no value as another. -/
theorem takenAs_eq_none {f : Fld} {v : Nat} (h : ∀ g ∈ [F.UIO_PIN_CFG_MODE i, F.HALL_PORT_CFG_FWD_STATE i, F.HALL_PORT_CFG_PREEMPT_EN i,
    F.HALL_INT_HOLD_INT_HOLD_MASK, F.CAN_TT_CFG_ROLE i, F.CAN_CTL_XL_EN i, F.TIME_PORT_CFG_PTP_MODE i], f.addr ≠ g.addr) :
    takenAs f i v = none := by
  have h' (g : Fld) (hg : f.addr ≠ g.addr) : f ≠ g := fun e => hg (e ▸ rfl)
  simp only [List.forall_mem_cons] at h
  obtain ⟨h1, h2, h3, h4, h5, h6, h7, -⟩ := h
  simp [takenAs, h' _ h1, h' _ h2, h' _ h3, h' _ h4, h' _ h5, h' _ h6, h' _ h7]

end

/-! ### The registers of the statement -/

/-- PWRMGR_PF_NOTIFY in the register map. -/
def notifyBlock : RegBlock :=
  ⟨0x40020014, 0, 2, 4, 1, 0, .attic,
  [⟨fun i _ => F.PWRMGR_PF_NOTIFY_NOTIFY i, .rw, 0, 4294967295⟩]⟩

/-- CELLAR_STAT in the register map. -/
def cellarStatBlock : RegBlock :=
  ⟨0x40010000, 0, 1, 0, 1, 0, .attic0,
  [⟨fun _ _ => F.CELLAR_STAT_LAST, .ro, 0, 7⟩,
   ⟨fun _ _ => F.CELLAR_STAT_PF_CUT, .w1c, 0, 1⟩,
   ⟨fun _ _ => F.CELLAR_STAT_PF_STEP, .ro, 0, 15⟩,
   ⟨fun _ _ => F.CELLAR_STAT_STEP1_LATE, .w1c, 0, 1⟩,
   ⟨fun _ _ => F.CELLAR_STAT_GRACE_ELAPSED, .ro, 0, 1⟩,
   ⟨fun _ _ => F.CELLAR_STAT_SLEEP_S, .ro, 0, 4194303⟩]⟩

/-- PWRMGR_FEED in the register map. -/
def feedBlock : RegBlock :=
  ⟨0x40020008, 0, 2, 4, 1, 0, .any,
  [⟨fun i _ => F.PWRMGR_FEED_V i, .ro, 0, 65535⟩,
   ⟨fun i _ => F.PWRMGR_FEED_I i, .ro, 0, 4095⟩,
   ⟨fun i _ => F.PWRMGR_FEED_REV i, .ro, 0, 1⟩,
   ⟨fun i _ => F.PWRMGR_FEED_OVERCUR i, .w1c, 0, 1⟩,
   ⟨fun i _ => F.PWRMGR_FEED_ACTIVE i, .ro, 0, 1⟩]⟩

/-- CAN_NBT in the register map. -/
def nbtBlock : RegBlock :=
  ⟨0x4070000c, 0, 12, 65536, 1, 0, .any,
  [⟨fun i _ => F.CAN_NBT_BRP i, .rw, 0, 511⟩,
   ⟨fun i _ => F.CAN_NBT_TSEG1 i, .rw, 0, 255⟩,
   ⟨fun i _ => F.CAN_NBT_TSEG2 i, .rw, 0, 127⟩,
   ⟨fun i _ => F.CAN_NBT_SJW i, .rw, 0, 127⟩]⟩

/-- WORLD_HART in the register map. -/
def hartBlock : RegBlock :=
  ⟨0x41200020, 0, 8, 4, 1, 0, .hart,
  [⟨fun i _ => F.WORLD_HART_CUR i, .ro, 0, 1⟩,
   ⟨fun i _ => F.WORLD_HART_NEXT i, .rw, 0, 1⟩,
   ⟨fun i _ => F.WORLD_HART_SWITCHES i, .ro, 0, 1073741823⟩]⟩

/-- Where the map has those registers. -/
theorem regAt_notify {i : Nat} (hi : i < 2) : inBlock (0x40020014 + 4 * i) = true ∧ regAt (0x40020014 + 4 * i) = some (notifyBlock, i, 0) := by
  interval_cases i <;> exact ⟨by decide, rfl⟩

theorem regAt_cellarStat : inBlock 0x40010000 = true ∧ regAt 0x40010000 = some (cellarStatBlock, 0, 0) := ⟨by decide, rfl⟩

theorem regAt_feed {i : Nat} (hi : i < 2) : inBlock (0x40020008 + 4 * i) = true ∧ regAt (0x40020008 + 4 * i) = some (feedBlock, i, 0) := by
  interval_cases i <;> exact ⟨by decide, rfl⟩

theorem regAt_nbt {c : Nat} (hc : c < 12) : inBlock (F.CAN_NBT_BRP c).addr = true ∧ regAt (F.CAN_NBT_BRP c).addr = some (nbtBlock, c, 0) ∧
    canConfigOf (F.CAN_NBT_BRP c).addr = some c := by
  interval_cases c <;> exact ⟨by decide, rfl, by decide⟩

set_option maxRecDepth 4000 in
theorem regAt_hart {k : Nat} (hk : k < 8) : inBlock (0x41200020 + 4 * k) = true ∧ regAt (0x41200020 + 4 * k) = some (hartBlock, k, 0) := by
  interval_cases k <;> exact ⟨by decide, rfl⟩

section
variable {s : State} {f : Fld} {v w b : Nat}

/-- A W1C bit of one bit reads 0 after a 1 is written to it, unless hardware has set it in the same clock (R13). -/
theorem State.rd_ack (hw : f.width = 1) (hr : s.rd f ≤ 1) :
    (s.ack f (w / 2 ^ b % 2 ^ f.width)).rd f = if w.testBit b ∧ (s.clk.sets.getD 0 f.key).testBit 0 = false then 0 else s.rd f := by
  have hv : w / 2 ^ b % 2 ^ f.width = if w.testBit b then 1 else 0 := by
    rw [hw, Nat.testBit_eq_decide_div_mod_eq]
    have := Nat.mod_two_eq_zero_or_one (w / 2 ^ b)
    by_cases h : w / 2 ^ b % 2 = 1 <;> simp [h]
    omega
  have hs : 1 &&& s.clk.sets.getD 0 f.key = if (s.clk.sets.getD 0 f.key).testBit 0 then 1 else 0 := by
    rw [Nat.one_and_eq_mod_two, Nat.testBit_zero]
    have := Nat.mod_two_eq_zero_or_one (s.clk.sets.getD 0 f.key)
    rcases this with h | h <;> simp [h]
  rw [State.ack, State.rd_wr_self, hv, hw]
  rcases Nat.le_one_iff_eq_zero_or_eq_one.1 hr with h | h
  · simp [h]
  · cases w.testBit b
    · simp [h]
    · simp only [h, if_true, Nat.and_self, hs]
      cases (s.clk.sets.getD 0 f.key).testBit 0 <;> rfl

theorem State.rd_ack_ne {g : Fld} (h : f.key ≠ g.key) : (s.ack f v).rd g = s.rd g := s.rd_wr_ne _ h

end

theorem OnlyRegs.ack {s s' : State} {t v : Nat} {fs : List Fld} {f : Fld} (h : OnlyRegs s t fs s') (hf : f.key ∈ fs.map Fld.key) :
    OnlyRegs s t fs (s'.ack f v) := h.wr _ hf

section
variable {s : State} {w i c k : Nat}

/-- An RW field whose range is all its values, and that takes none as another, takes the bits written. -/
theorem FieldDesc.write_full {d : FieldDesc} {j : Nat} (ha : d.acc = .rw) (hmin : d.min = 0) (hmax : d.max = 2 ^ (d.fld i j).width - 1)
    (ht : takenAs (d.fld i j) i (w / 2 ^ (d.fld i j).lo % 2 ^ (d.fld i j).width) = none) :
    d.write i j w s = s.wr (d.fld i j) (w / 2 ^ (d.fld i j).lo % 2 ^ (d.fld i j).width) := by
  have h := Nat.mod_lt (w / 2 ^ (d.fld i j).lo) (Nat.two_pow_pos (d.fld i j).width)
  unfold FieldDesc.write
  dsimp only
  rw [ha, ht, hmin, hmax]
  have hv : clampNat (w / 2 ^ (d.fld i j).lo % 2 ^ (d.fld i j).width) 0 (2 ^ (d.fld i j).width - 1) =
      w / 2 ^ (d.fld i j).lo % 2 ^ (d.fld i j).width := by rw [clampNat_eq _ _ _ (Nat.zero_le _)]; omega
  exact congrArg (s.wr _) hv

theorem write_cellarStat : cellarStatBlock.write 0 0 w s = (s.ack F.CELLAR_STAT_PF_CUT (w / 2 ^ 28 % 2 ^ F.CELLAR_STAT_PF_CUT.width)).ack
    F.CELLAR_STAT_STEP1_LATE (w / 2 ^ 23 % 2 ^ F.CELLAR_STAT_STEP1_LATE.width) := rfl

theorem write_feed : feedBlock.write i 0 w s = s.ack (F.PWRMGR_FEED_OVERCUR i) (w / 2 ^ 2 % 2 ^ (F.PWRMGR_FEED_OVERCUR i).width) := rfl

/-- The registers below take no reserved code: none of those fields is at their addresses. -/
theorem takenAs_none {f : Fld} {v : Nat}
    (h : f.addr < 0x40600000 ∨ f.addr = 0x4070000C + i * 65536 ∨ i < 8 ∧ f.addr = 0x41200020 + i * 4) : takenAs f i v = none := by
  refine takenAs_eq_none ?_
  simp only [List.forall_mem_cons, F.UIO_PIN_CFG_MODE, F.HALL_PORT_CFG_FWD_STATE, F.HALL_PORT_CFG_PREEMPT_EN, F.HALL_INT_HOLD_INT_HOLD_MASK,
    F.CAN_TT_CFG_ROLE, F.CAN_CTL_XL_EN, F.TIME_PORT_CFG_PTP_MODE]
  refine ⟨?_, ?_, ?_, ?_, ?_, ?_, ?_, by simp⟩ <;> omega

theorem write_notify (hi : i < 2) : notifyBlock.write i 0 w s = s.wr (F.PWRMGR_PF_NOTIFY_NOTIFY i) (w / 2 ^ 0 % 2 ^ 32) :=
  FieldDesc.write_full (d := ⟨fun i _ => F.PWRMGR_PF_NOTIFY_NOTIFY i, .rw, 0, 4294967295⟩) (j := 0) rfl rfl rfl
    (takenAs_none (.inl (by simp only [F.PWRMGR_PF_NOTIFY_NOTIFY]; omega)))

theorem write_hart (hk : k < 8) : hartBlock.write k 0 w s = s.wr (F.WORLD_HART_NEXT k) (w / 2 ^ (F.WORLD_HART_NEXT k).lo % 2 ^ (F.WORLD_HART_NEXT k).width) :=
  FieldDesc.write_full (d := ⟨fun i _ => F.WORLD_HART_NEXT i, .rw, 0, 1⟩) (j := 0) rfl rfl rfl (takenAs_none (.inr (.inr ⟨hk, rfl⟩)))

theorem write_nbt : nbtBlock.write c 0 w s = (((s.wr (F.CAN_NBT_BRP c) (w / 2 ^ 23 % 2 ^ 9)).wr (F.CAN_NBT_TSEG1 c) (w / 2 ^ 15 % 2 ^ 8)).wr
    (F.CAN_NBT_TSEG2 c) (w / 2 ^ 8 % 2 ^ 7)).wr (F.CAN_NBT_SJW c) (w / 2 ^ 1 % 2 ^ 7) := by
  have h1 (x : State) := FieldDesc.write_full (s := x) (w := w) (i := c) (d := ⟨fun i _ => F.CAN_NBT_BRP i, .rw, 0, 511⟩) (j := 0) rfl rfl rfl (takenAs_none (.inr (.inl rfl)))
  have h2 (x : State) := FieldDesc.write_full (s := x) (w := w) (i := c) (d := ⟨fun i _ => F.CAN_NBT_TSEG1 i, .rw, 0, 255⟩) (j := 0) rfl rfl rfl (takenAs_none (.inr (.inl rfl)))
  have h3 (x : State) := FieldDesc.write_full (s := x) (w := w) (i := c) (d := ⟨fun i _ => F.CAN_NBT_TSEG2 i, .rw, 0, 127⟩) (j := 0) rfl rfl rfl (takenAs_none (.inr (.inl rfl)))
  have h4 (x : State) := FieldDesc.write_full (s := x) (w := w) (i := c) (d := ⟨fun i _ => F.CAN_NBT_SJW i, .rw, 0, 127⟩) (j := 0) rfl rfl rfl (takenAs_none (.inr (.inl rfl)))
  simp only [RegBlock.write, nbtBlock, List.foldl_cons, List.foldl_nil, h1, h2, h3, h4]
  rfl

theorem mayWrite_nbt {a : Attr} {core : Option Nat} : mayWrite a core nbtBlock c (F.CAN_NBT_BRP c).addr = true := by
  have h : ¬ (F.CAN_NBT_BRP c).addr < 0x40500000 := by simp only [F.CAN_NBT_BRP]; omega
  simp [mayWrite, nbtBlock, h]

/-- The bit timing that a write leaves. -/
theorem State.rd_nbt (s : State) (c : Nat) (hw : w < 2 ^ 32) :
    let y := (((s.wr (F.CAN_NBT_BRP c) (w / 2 ^ 23 % 2 ^ 9)).wr (F.CAN_NBT_TSEG1 c) (w / 2 ^ 15 % 2 ^ 8)).wr
      (F.CAN_NBT_TSEG2 c) (w / 2 ^ 8 % 2 ^ 7)).wr (F.CAN_NBT_SJW c) (w / 2 ^ 1 % 2 ^ 7)
    y.rd (F.CAN_NBT_BRP c) = w / 2 ^ 23 ∧ y.rd (F.CAN_NBT_TSEG1 c) = w / 2 ^ 15 % 2 ^ 8 ∧
      y.rd (F.CAN_NBT_TSEG2 c) = w / 2 ^ 8 % 2 ^ 7 ∧ y.rd (F.CAN_NBT_SJW c) = w / 2 % 2 ^ 7 := by
  refine ⟨?_, ?_, ?_, ?_⟩ <;>
    simp (disch := (simp only [ne_eq, Fld.key, F.CAN_NBT_BRP, F.CAN_NBT_TSEG1, F.CAN_NBT_TSEG2, F.CAN_NBT_SJW]; omega)) only
      [State.rd_wr_lt, State.rd_wr_ne, Nat.pow_one]
  omega

end

/-- Settles O1: memory by its bytes, and each register by its block in the map. -/
theorem registerWrites : Obligations.RegisterWrites := by
  intro s t addr size c i k a v core hc hi hk w write inMem fits may nbt clears
  have start (fs : List Fld) : OnlyRegs s t fs (s.tick t).okay := (OnlyRegs.tick s t fs).okay
  refine ⟨fun hm hf hp => ?_, fun hm hf hp => ?_, fun hm hf => ?_, fun hm hf => ?_, fun hp => ⟨fun ha => ?_, fun ha => ?_⟩, fun ha h0 hp => ?_,
    fun hp => ?_, fun hp => ⟨fun hs => ?_, fun hs => ?_⟩, fun hcore hk hp => ?_, fun ha h0 hd hp => ?_, fun hp => ?_⟩
  · have hmem := isMemory_iff.2 hm
    have hok := (accessOk_memory hmem).2 hf
    have hex : exec (.registerWrite t a core addr size v) s = .next ((s.tick t).guarded a addr true true fun s => s.store addr (leBytes size w)) := by
      rw [arm_registerWrite, execRegisterWrite, hok, hmem]; rfl
    refine ends_guarded hex hp rfl ⟨rfl, rfl, rfl, fun x => ?_⟩
    split
    case isTrue h =>
      obtain ⟨d, rfl⟩ := Nat.exists_eq_add_of_le h.1
      refine (Memory.read_writeRun_leBytes (by omega) ..).trans ?_
      rw [Nat.add_sub_cancel_left, pow_mul]; rfl
    case isFalse h => exact Memory.read_writeRun_leBytes_outside (by omega) ..
  · have hmem := isMemory_iff.2 hm
    have hok := (accessOk_memory hmem).2 hf
    have hex : exec (.registerWrite t a core addr size v) s = .next ((s.tick t).guarded a addr true true fun s => s.store addr (leBytes size w)) := by
      rw [arm_registerWrite, execRegisterWrite, hok, hmem]; rfl
    obtain ⟨h1, h2, h3, -⟩ := (s.tick t).deny_frame a ((regionSet addr).getD 3) addr true
    exact ends_denied hex (by simpa [may] using hp) ⟨h1, h2, h3⟩
  · have hmem := isMemory_iff.2 hm
    have hok : accessOk addr size = false := by rw [← Bool.not_eq_true, accessOk_memory hmem]; exact hf
    refine ends_next (s' := (s.tick t).answer 0x10 0) (by rw [arm_registerWrite, execRegisterWrite, hok]; rfl) ⟨rfl, (OnlyRegs.tick s t _).answer _ _⟩
  · have hmem : isMemory addr = false := by rw [← Bool.not_eq_true, isMemory_iff]; exact hm
    have hok := (accessOk_register hmem).2 hf
    refine ends_next (s' := (s.tick t).answer 0x10 0) (by rw [arm_registerWrite, execRegisterWrite, hok]; rfl) ⟨rfl, (OnlyRegs.tick s t _).answer _ _⟩
  · obtain ⟨hb, hr⟩ := regAt_notify hi
    refine ends_registerWrite hb hr (by decide) hp (by simp [mayWrite, notifyBlock, ha]) ?_
    rw [State.writeReg_plain, write_notify hi]
    · refine ⟨(start _).wr _ (by simp), (State.rd_wr_lt _ (Nat.mod_lt _ (Nat.two_pow_pos _))).trans ?_⟩
      rw [Nat.pow_zero, Nat.div_one]; exact Nat.mod_eq_of_lt v.isLt
    all_goals interval_cases i <;> decide
  · obtain ⟨hb, hr⟩ := regAt_notify hi
    have hx := exec_registerWrite_word (s := s) (t := t) (a := a) (core := core) (v := v) hb
    simp only [hr] at hx
    rw [if_neg (by decide)] at hx
    obtain ⟨-, h2, -, h4⟩ := (s.tick t).deny_frame a ((regionSet (0x40020014 + 4 * i)).getD 3) (0x40020014 + 4 * i) true
    refine ends_denied hx (by simp [mayWrite, notifyBlock, ha]) ⟨congrArg Resp.status h2, h4 _ ?_ ?_⟩ <;>
      simp only [ne_eq, Fld.key, F.WORLD_VIOL_CNT_LOST, F.WORLD_VIOL_CNT_DENIED, F.PWRMGR_PF_NOTIFY_NOTIFY] <;> omega
  · obtain ⟨hb, hr⟩ := regAt_cellarStat
    refine ends_registerWrite hb hr (by decide) hp (by simp [mayWrite, cellarStatBlock, Attr.attic0, ha, h0]) ?_
    rw [State.writeReg_plain (by decide) (by decide) (by decide), write_cellarStat]
    exact ⟨((start _).ack (by simp)).ack (by simp), fun h => (State.rd_ack_ne (by decide)).trans (State.rd_ack rfl h),
      fun h => (State.rd_ack rfl (by rw [State.rd_ack_ne (by decide)]; exact h)).trans (by rw [State.rd_ack_ne (by decide)]; rfl)⟩
  · obtain ⟨hb, hr⟩ := regAt_feed hi
    refine ends_registerWrite hb hr (by decide) hp (by simp [mayWrite, feedBlock]; omega) ?_
    rw [State.writeReg_plain, write_feed]
    · exact ⟨(start _).ack (by simp), fun h => State.rd_ack rfl h⟩
    all_goals interval_cases i <;> decide
  · obtain ⟨hb, hr, hcan⟩ := regAt_nbt hc
    refine ends_registerWrite hb hr (by decide) hp mayWrite_nbt ?_
    rw [State.writeReg_can (b := nbtBlock) (i := c) (j := 0) hcan, if_pos (show ((s.tick t).okay.ctl c).state = .config from hs), write_nbt]
    exact ⟨((((start _).wr _ (by simp)).wr _ (by simp)).wr _ (by simp)).wr _ (by simp), State.rd_nbt _ c v.isLt⟩
  · obtain ⟨hb, hr, hcan⟩ := regAt_nbt hc
    refine ends_registerWrite hb hr (by decide) hp mayWrite_nbt ?_
    rw [State.writeReg_can (b := nbtBlock) (i := c) (j := 0) hcan, if_neg (show ((s.tick t).okay.ctl c).state ≠ .config from hs)]
    exact ⟨(start _).raise (by simp), State.rd_raise_bit _ rfl⟩
  · obtain ⟨hb, hr⟩ := regAt_hart hk
    refine ends_registerWrite hb hr (by decide) hp (by simp [mayWrite, hartBlock, hcore]; omega) ?_
    rw [State.writeReg_plain, write_hart hk]
    · exact ⟨(start _).wr _ (by simp), State.rd_wr_lt _ (Nat.mod_lt _ (Nat.two_pow_pos _))⟩
    all_goals interval_cases k <;> decide
  · have hx : exec (write (0x41300100 + 4 * k)) s = .next ((s.tick t).guarded a (0x41300100 + 4 * k) true a.attic0hub fun s =>
        { s with pantry := { s.pantry with stage := s.pantry.stage.put 0 k w } }) := by
      interval_cases k <;> exact arm_registerWrite ..
    exact ends_guarded hx hp (by simp [Attr.attic0hub, ha, h0, hd]) ⟨rfl, rfl, rfl⟩
  · have hx := exec_registerWrite_word (s := s) (t := t) (a := a) (core := core) (v := v) (addr := 0x40020044) (by decide)
    have hr : regAt 0x40020044 = none := by decide
    simp only [hr] at hx
    exact ends_guarded hx hp rfl ⟨rfl, start _⟩

end Sys2Proof.Machine
end

section
/-! PROOFS. The lanes: a rule per operation that changes lanes, and the exclusion of a lane. -/

namespace Sys2Proof.Machine

/-! ### Several lanes at once -/

section
variable {s s' : State} {l m : LaneId} {f : Lane → Lane} {ls : List LaneId}

@[simp] theorem State.ln_wr (s : State) (g : Fld) (v : Nat) (l : LaneId) : (s.wr g v).ln l = s.ln l := rfl
@[simp] theorem State.ln_inc (s : State) (g : Fld) (l : LaneId) : (s.inc g).ln l = s.ln l := rfl
@[simp] theorem State.ln_clrF (s : State) (g : Fld) (l : LaneId) : (s.clrF g).ln l = s.ln l := rfl
@[simp] theorem State.laneRecord_regs (s : State) (kind sev subj unit : Nat) (vals : List Nat) :
    (s.laneRecord kind sev subj unit vals).regs = s.regs := rfl
@[simp] theorem State.ln_laneRecord (s : State) (kind sev subj unit : Nat) (vals : List Nat) (l : LaneId) :
    (s.laneRecord kind sev subj unit vals).ln l = s.ln l := rfl

/-- A change of lanes changes nothing but the table of lanes. -/
theorem State.modLanes_eq (s : State) (ls : List LaneId) (f : Lane → Lane) :
    ∃ x, s.modLanes ls f = { s with lane := { s.lane with lanes := x } } := by
  induction ls generalizing s with
  | nil => exact ⟨s.lane.lanes, rfl⟩
  | cons l ls ih =>
    obtain ⟨x, hx⟩ := ih (s.modLn l f)
    exact ⟨x, hx⟩

theorem State.ln_modLanes (hn : ls.Nodup) (m : LaneId) : (s.modLanes ls f).ln m = if m ∈ ls then f (s.ln m) else s.ln m := by
  induction ls generalizing s with
  | nil => rfl
  | cons l ls ih =>
    obtain ⟨hl, hn⟩ := List.nodup_cons.1 hn
    have h : (s.modLanes (l :: ls) f).ln m = ((s.modLn l f).modLanes ls f).ln m := rfl
    rw [h, ih hn]
    by_cases hm : l = m
    · subst hm; simp [hl]
    · simp [s.ln_modLn_ne f hm, List.mem_cons, Ne.symm hm]

theorem State.actives_nodup (s : State) : s.actives.Nodup := List.Nodup.filter _ (by decide)

theorem laneIds_nodup : laneIds.Nodup := by decide

theorem mem_laneIds (l : LaneId) : l ∈ laneIds := by cases l <;> decide

theorem State.actives_congr (h : ∀ l, (s'.ln l).state = (s.ln l).state) : s'.actives = s.actives := by
  unfold State.actives; simp only [h]

@[simp] theorem State.modLanes_regs (s : State) (ls : List LaneId) (f : Lane → Lane) : (s.modLanes ls f).regs = s.regs := by
  obtain ⟨x, hx⟩ := s.modLanes_eq ls f; rw [hx]

@[simp] theorem State.rd_modLanes (s : State) (ls : List LaneId) (f : Lane → Lane) (g : Fld) : (s.modLanes ls f).rd g = s.rd g :=
  State.rd_congr (s.modLanes_regs ls f) g

end

/-! ### SAFE_ON -/

theorem State.safeMask_congr {s s' : State} (h : ∀ n, s'.rd (F.CH_PROFILE_SAFE_ON n) = s.rd (F.CH_PROFILE_SAFE_ON n)) :
    s'.safeMask = s.safeMask := by
  unfold State.safeMask State.flag; simp only [h]

/-! ### A change of the lanes that leaves what the vote's loss looks at -/

/-- What exclusion and SAFE say of a lane. -/
def Lane.core (x : Lane) : LaneState × Nat × Nat × List LaneId := (x.state, x.laneOk, x.driven, x.exclFor)

/-- `s'` is `s` but for lanes, for the record and for the cause of an abort: the lanes' own core, the vote, arming and every
other field stand. -/
structure State.CoreKept (s s' : State) : Prop where
  core : ∀ l, (s'.ln l).core = (s.ln l).core
  vote : s'.lane.vote = s.lane.vote
  armed : s'.lane.armed = s.lane.armed
  regs : RegsBut [F.LANEIF_REINT_ABORT_CAUSE, F.LANEIF_REINT_IN_PROGRESS] s s'

namespace State.CoreKept
variable {s s' s'' : State} {f : Lane → Lane} {ls : List LaneId}

theorem refl (s : State) : s.CoreKept s := ⟨fun _ => rfl, rfl, rfl, RegsBut.refl _ s⟩

theorem trans (h : s.CoreKept s') (h' : s'.CoreKept s'') : s.CoreKept s'' :=
  ⟨fun l => (h'.core l).trans (h.core l), h'.vote.trans h.vote, h'.armed.trans h.armed, fun g hg => (h'.regs g hg).trans (h.regs g hg)⟩

theorem of_lane (hl : s'.lane = s.lane) (hr : s'.regs = s.regs) : s.CoreKept s' :=
  ⟨fun l => by rw [State.ln_congr (congrArg LaneSt.lanes hl)], by rw [hl], by rw [hl], (RegsBut.refl _ s).of_regs hr⟩

theorem modLanes (hf : ∀ x, (f x).core = x.core) (hn : ls.Nodup) : s.CoreKept (s.modLanes ls f) := by
  obtain ⟨x, hx⟩ := s.modLanes_eq ls f
  refine ⟨fun l => ?_, by rw [hx], by rw [hx], (RegsBut.refl _ s).of_regs (s.modLanes_regs ls f)⟩
  rw [State.ln_modLanes hn]
  split
  · exact hf _
  · rfl

theorem sealAll : s.CoreKept s.sealAll := by
  unfold State.sealAll
  split
  · exact refl s
  · exact modLanes (fun _ => rfl) laneIds_nodup

theorem modeSafe : s.CoreKept s.modeSafe := by
  unfold State.modeSafe
  split
  · exact sealAll.trans (of_lane rfl rfl)
  · exact refl s

theorem dropWork : s.CoreKept s.dropWork := modLanes (fun _ => rfl) laneIds_nodup

theorem cancelOc : s.CoreKept s.cancelOc := by
  unfold State.cancelOc
  split
  · exact of_lane rfl rfl
  · exact refl s

end State.CoreKept

/-! ### The abort of an attempt -/

section
variable (s : State) (cause : Nat) (l : LaneId)

/-- An abort takes the returning lane to BIST and leaves the others (R104). -/
theorem State.ln_abortAttempt : (s.abortAttempt cause).ln l = if s.attempting = some l then (s.ln l).toBist s.now else s.ln l := by
  unfold State.abortAttempt
  split
  next h =>
    rw [h, if_neg (Option.some_ne_none l).symm]
    split <;> rfl
  next r h =>
    rw [h]
    change (s.modLn r fun x => x.toBist s.now).ln l = _
    by_cases hl : r = l
    · subst hl; rw [State.ln_modLn_self, if_pos rfl]
    · rw [s.ln_modLn_ne _ hl, if_neg (by simpa using hl)]

theorem State.abortAttempt_vote : (s.abortAttempt cause).lane.vote = s.lane.vote ∧ (s.abortAttempt cause).lane.armed = s.lane.armed := by
  unfold State.abortAttempt
  split
  · split <;> exact ⟨rfl, rfl⟩
  · exact ⟨rfl, rfl⟩

theorem State.abortAttempt_regs : RegsBut [F.LANEIF_REINT_ABORT_CAUSE, F.LANEIF_REINT_IN_PROGRESS] s (s.abortAttempt cause) := by
  unfold State.abortAttempt
  split
  · split
    · exact (RegsBut.refl _ s).wr _ (by simp)
    · exact RegsBut.refl _ s
  · exact ((((RegsBut.refl _ s).of_regs rfl).wr (f := F.LANEIF_REINT_ABORT_CAUSE) cause (by simp)).wr
      (f := F.LANEIF_REINT_IN_PROGRESS) 0 (by simp)).of_regs rfl

/-- What a lane attempts is not ACTIVE. -/
theorem State.attempting_state {s : State} {l : LaneId} (h : s.attempting = some l) : (s.ln l).state = .returning ∨ (s.ln l).state = .shadow := by
  simpa using List.find?_some h

theorem State.ln_abortAttempt_active {s : State} {l : LaneId} (h : (s.ln l).state = .active) (cause : Nat) : (s.abortAttempt cause).ln l = s.ln l := by
  rw [s.ln_abortAttempt, if_neg fun e => ?_]
  rcases State.attempting_state e with e | e <;> rw [h] at e <;> exact absurd e (by decide)

theorem State.ln_abortAttempt_excluded {s : State} {l : LaneId} (h : (s.ln l).state = .excluded) (cause : Nat) : (s.abortAttempt cause).ln l = s.ln l := by
  rw [s.ln_abortAttempt, if_neg fun e => ?_]
  rcases State.attempting_state e with e | e <;> rw [h] at e <;> exact absurd e (by decide)

theorem State.actives_abortAttempt : (s.abortAttempt cause).actives = s.actives := by
  refine List.filter_congr fun l _ => ?_
  rw [s.ln_abortAttempt]
  split
  case isTrue h => rcases State.attempting_state h with h | h <;> simp [h, Lane.toBist]
  case isFalse => rfl

end

/-! ### SAFE -/

section
variable {s : State}

/-- The vote mode becomes SAFE, before the power state follows. -/
def State.safeOrdered (s : State) : State :=
  (({ s with lane := { s.lane with vote := .safe, armed := false } } : State).driveSafe.laneRecord 0x03 7 0 0 []).modeSafe.dropWork.cancelOc.abortAttempt 7

/-- The power state follows (R375), which touches neither lanes nor fields. -/
theorem State.voteSafe_frame (h : s.lane.vote ≠ .safe) : s.voteSafe.lane = s.safeOrdered.lane ∧ s.voteSafe.regs = s.safeOrdered.regs := by
  obtain ⟨y, hy⟩ : ∃ y, y = s.safeOrdered := ⟨_, rfl⟩
  have hv : s.voteSafe = if y.pwr.state = .run then { y with pwr := { y.pwr with state := .safe } } else y := by
    rw [hy, State.voteSafe, if_neg h, State.safeOrdered]
  rw [← hy, hv]
  split <;> exact ⟨rfl, rfl⟩

/-- The vote mode becomes SAFE: every ACTIVE lane drives the safe pattern, and ACTIVE and EXCLUDED lanes keep their state (R91). -/
theorem State.voteSafe_spec (h : s.lane.vote ≠ .safe) : s.voteSafe.lane.vote = .safe ∧ s.voteSafe.lane.armed = false ∧
    RegsBut [F.LANEIF_REINT_ABORT_CAUSE, F.LANEIF_REINT_IN_PROGRESS] s s.voteSafe ∧
    ∀ l, (s.ln l).state = .active ∨ (s.ln l).state = .excluded → (s.voteSafe.ln l).state = (s.ln l).state ∧
      (s.voteSafe.ln l).laneOk = (s.ln l).laneOk ∧
      (s.voteSafe.ln l).driven = if (s.ln l).state = .active then s.safeMask else (s.ln l).driven := by
  obtain ⟨a, ha⟩ : ∃ a : State, a = { s with lane := { s.lane with vote := .safe, armed := false } } := ⟨_, rfl⟩
  obtain ⟨b, hb⟩ : ∃ b, b = a.driveSafe.laneRecord 0x03 7 0 0 [] := ⟨_, rfl⟩
  obtain ⟨c, hc⟩ : ∃ c, c = b.modeSafe.dropWork.cancelOc := ⟨_, rfl⟩
  have hlane : s.voteSafe.lane = (c.abortAttempt 7).lane ∧ s.voteSafe.regs = (c.abortAttempt 7).regs := by
    rw [hc, hb, ha]; exact State.voteSafe_frame h
  have hcore : b.CoreKept c := hc ▸ (State.CoreKept.modeSafe.trans .dropWork).trans .cancelOc
  obtain ⟨x, hx⟩ := a.modLanes_eq a.actives fun l => l.drive a.safeMask a.now
  have hd : a.driveSafe = { a with lane := { a.lane with lanes := x } } := hx
  have hbl : b.lane.vote = .safe ∧ b.lane.armed = false := by
    rw [hb, State.laneRecord_lane, hd, ha]; exact ⟨rfl, rfl⟩
  have hbr : b.regs = s.regs := by
    refine (hb ▸ State.laneRecord_regs .. : b.regs = a.driveSafe.regs).trans ?_
    rw [hd, ha]
  have hln (l : LaneId) : b.ln l = if (s.ln l).state = .active then (s.ln l).drive s.safeMask s.now else s.ln l := by
    rw [hb, State.ln_laneRecord, State.driveSafe, State.ln_modLanes a.actives_nodup]
    subst ha
    exact if_congr (State.mem_actives _ l) rfl rfl
  obtain ⟨hav, haa⟩ := c.abortAttempt_vote 7
  refine ⟨?_, ?_, ?_, fun l hl => ?_⟩
  · rw [hlane.1, hav, hcore.vote, hbl.1]
  · rw [hlane.1, haa, hcore.armed, hbl.2]
  · intro g hg
    rw [State.rd_congr hlane.2, c.abortAttempt_regs 7 g hg, hcore.regs g hg, State.rd_congr hbr]
  · have hstate : (b.ln l).state = (s.ln l).state := by rw [hln]; split <;> rfl
    have hcl := hcore.core l
    simp only [Lane.core, Prod.mk.injEq] at hcl
    obtain ⟨h1, h2, h3, -⟩ := hcl
    have hend : s.voteSafe.ln l = c.ln l := by
      rw [State.ln_congr (congrArg LaneSt.lanes hlane.1)]
      rcases hl with hl | hl
      · exact State.ln_abortAttempt_active (h1.trans (hstate.trans hl)) 7
      · exact State.ln_abortAttempt_excluded (h1.trans (hstate.trans hl)) 7
    rw [hend, h1, h2, h3, hln]
    refine ⟨by split <;> rfl, by split <;> rfl, ?_⟩
    split <;> rfl

end

/-! ### Exclusion -/

/-- The state in which lane `l` has been thrown out with a cause: its lines OFF, the exclusion lines for it asserted, the cause
and the count shown, the record written. -/
def State.thrownOut (s : State) (l : LaneId) (cause : Nat) : State :=
  let s := s.modLn l fun x => x.toBist s.now
  let s := s.modLanes s.actives fun x => { x with exclFor := l :: x.exclFor.filter (fun m => m ≠ l) }
  let s := (s.wr (F.LANEIF_LANE_CAUSE l.idx) cause).inc (F.LANEIF_LANE_EXCL_CNT l.idx)
  s.laneRecord 0x01 6 l.idx l.idx [s.laneWord l]

section
variable {s : State} {l m : LaneId} {cause : Nat}

theorem State.excludeLane_eq (h : (s.ln l).state = .active) : s.excludeLane l cause =
    (if (s.thrownOut l cause).cancelOc.actives.length < 2 then (s.thrownOut l cause).cancelOc.abortAttempt 6
      else (s.thrownOut l cause).cancelOc).voteAfterLoss := if_pos h

/-- The lanes, the vote, the fields and the log of a state in which a lane has been thrown out. -/
theorem State.thrownOut_spec (s : State) (l : LaneId) (hc : cause < 16) :
    (s.thrownOut l cause).ln l = (s.ln l).toBist s.now ∧
    (∀ k, k ≠ l → (s.thrownOut l cause).ln k =
      if (s.ln k).state = .active then { s.ln k with exclFor := l :: (s.ln k).exclFor.filter (fun m => m ≠ l) } else s.ln k) ∧
    (s.thrownOut l cause).lane.vote = s.lane.vote ∧ (s.thrownOut l cause).cyc = s.cyc ∧
    RegsBut [F.LANEIF_LANE_CAUSE l.idx, F.LANEIF_LANE_EXCL_CNT l.idx] s (s.thrownOut l cause) ∧
    (s.thrownOut l cause).rd (F.LANEIF_LANE_CAUSE l.idx) = cause ∧ WroteOne s (s.thrownOut l cause) 3 1 6 l.idx 0 := by
  obtain ⟨a, ha⟩ : ∃ a, a = s.modLn l fun x => x.toBist s.now := ⟨_, rfl⟩
  obtain ⟨b, hb⟩ : ∃ b, b = a.modLanes a.actives fun x => { x with exclFor := l :: x.exclFor.filter (fun m => m ≠ l) } := ⟨_, rfl⟩
  obtain ⟨c, hc'⟩ : ∃ c, c = (b.wr (F.LANEIF_LANE_CAUSE l.idx) cause).inc (F.LANEIF_LANE_EXCL_CNT l.idx) := ⟨_, rfl⟩
  have hdef : s.thrownOut l cause = c.laneRecord 0x01 6 l.idx l.idx [c.laneWord l] := by rw [hc', hb, ha]; rfl
  obtain ⟨x, hx⟩ := a.modLanes_eq a.actives fun x => { x with exclFor := l :: x.exclFor.filter (fun m => m ≠ l) }
  have hmem (k : LaneId) : c.ln k = if (a.ln k).state = .active then { a.ln k with exclFor := l :: (a.ln k).exclFor.filter (fun m => m ≠ l) } else a.ln k := by
    rw [hc', State.ln_inc, State.ln_wr, hb]
    exact (State.ln_modLanes a.actives_nodup k).trans (if_congr (a.mem_actives k) rfl rfl)
  have hbs : b.regs = s.regs ∧ b.log = s.log ∧ b.lane.vote = s.lane.vote ∧ b.cyc = s.cyc := by
    rw [hb, hx, ha]; exact ⟨rfl, rfl, rfl, rfl⟩
  obtain ⟨hbr, hbl, hbv, hby⟩ := hbs
  rw [hdef]
  refine ⟨?_, fun k hk => ?_, ?_, ?_, ?_, ?_, wroteOne_record (s₁ := c) ?_ rfl⟩
  · rw [State.ln_laneRecord, hmem, ha, State.ln_modLn_self, if_neg (by simp [Lane.toBist])]
  · rw [State.ln_laneRecord, hmem, ha, s.ln_modLn_ne _ (Ne.symm hk)]
  · rw [State.laneRecord_lane, hc']; exact hbv
  · rw [State.laneRecord, State.record_cyc, hc']; exact hby
  · refine RegsBut.of_regs (s' := c) ?_ rfl
    rw [hc']
    exact (((RegsBut.refl _ s).of_regs hbr).wr cause (by simp)).wr _ (by simp)
  · rw [State.laneRecord, State.rd_record, hc', State.rd_inc_ne, State.rd_wr_lt _ hc]
    simp only [ne_eq, Fld.key, F.LANEIF_LANE_EXCL_CNT, F.LANEIF_LANE_CAUSE]; omega
  · rw [hc']; exact hbl

theorem State.actives_thrownOut (s : State) (l : LaneId) (hc : cause < 16) : (s.thrownOut l cause).actives = s.actives.filter fun k => k ≠ l := by
  obtain ⟨hl, hk, -⟩ := s.thrownOut_spec l hc
  unfold State.actives
  rw [List.filter_filter]
  refine List.filter_congr fun k _ => ?_
  by_cases h : k = l
  · subst h; rw [hl]; simp [Lane.toBist]
  · rw [hk k h]; split <;> simp_all

/-- With three ACTIVE lanes the exclusion of one leaves two in the vote, which becomes 2OO2. -/
theorem State.excludeLane_three (hact : s.actives = [.a, .b, .c]) (hv : s.lane.vote = .v2oo3) (ho : s.cyc.oc ≠ .armed) (hc : cause < 16) :
    s.excludeLane l cause = { s.thrownOut l cause with lane := { (s.thrownOut l cause).lane with vote := .v2oo2 } } := by
  obtain ⟨-, -, hvote, hcyc, -⟩ := s.thrownOut_spec l hc
  have hl : (s.ln l).state = .active := (s.mem_actives l).1 (by rw [hact]; exact mem_laneIds l)
  have hlen : (s.thrownOut l cause).actives.length = 2 := by rw [s.actives_thrownOut l hc, hact]; cases l <;> rfl
  have hoc : (s.thrownOut l cause).cancelOc = s.thrownOut l cause := if_neg (by rw [hcyc]; exact ho)
  rw [excludeLane_eq hl, hoc, if_neg (by omega), State.voteAfterLoss]
  simp only [hvote, hv]
  rw [if_neg (by omega)]

/-- With two ACTIVE lanes the exclusion of one leads to SAFE. -/
theorem State.excludeLane_two (hact : s.actives = [l, m] ∨ s.actives = [m, l]) (hlm : l ≠ m) (hv : s.lane.vote = .v2oo2) (hc : cause < 16) :
    s.excludeLane l cause = ((s.thrownOut l cause).cancelOc.abortAttempt 6).voteSafe := by
  obtain ⟨-, -, hvote, -⟩ := s.thrownOut_spec l hc
  have hl : (s.ln l).state = .active := (s.mem_actives l).1 (by rcases hact with h | h <;> rw [h] <;> simp)
  have hcore : (s.thrownOut l cause).CoreKept (s.thrownOut l cause).cancelOc := .cancelOc
  have hlen : (s.thrownOut l cause).cancelOc.actives.length = 1 := by
    rw [State.actives_congr fun k => congrArg Prod.fst (hcore.core k), s.actives_thrownOut l hc]
    rcases hact with h | h <;> rw [h] <;> simp [hlm.symm]
  have hvote' : ((s.thrownOut l cause).cancelOc.abortAttempt 6).lane.vote = .v2oo2 := by
    rw [(State.abortAttempt_vote _ 6).1, hcore.vote, hvote, hv]
  rw [excludeLane_eq hl, if_pos (by omega), State.voteAfterLoss]
  simp only [hvote']
  rw [if_pos (by rw [State.actives_abortAttempt]; omega)]

/-- What the exclusion of one of three leaves, told of the state `s` before the command. -/
theorem State.excluded_three {s x : State} (hx : ∀ k, k ≠ l → x.ln k = s.ln k) (hlog : x.log = s.log) (hact : x.actives = [.a, .b, .c])
    (hv : x.lane.vote = .v2oo3) (ho : x.cyc.oc ≠ .armed) (hc : cause < 16) :
    let s' := x.excludeLane l cause
    ((s'.ln l).state = .excluded ∧ (s'.ln l).laneOk = 0 ∧ (s'.ln l).driven = 0 ∧ s'.rd (F.LANEIF_LANE_CAUSE l.idx) = cause) ∧
    s'.lane.vote = .v2oo2 ∧
    (∀ k, k ≠ l → (s'.ln k).state = .active ∧ l ∈ (s'.ln k).exclFor ∧ (s'.ln k).driven = (s.ln k).driven) ∧ WroteOne s s' 3 1 6 l.idx 0 := by
  intro s'
  obtain ⟨hl, hk, -, -, -, hrd, r, h1, h2, h3, h4, h5, h6⟩ := x.thrownOut_spec l hc
  have hs' : s' = { x.thrownOut l cause with lane := { (x.thrownOut l cause).lane with vote := .v2oo2 } } := excludeLane_three hact hv ho hc
  have hln (k : LaneId) : s'.ln k = (x.thrownOut l cause).ln k := by rw [hs']; rfl
  refine ⟨⟨by rw [hln, hl]; rfl, by rw [hln, hl]; rfl, by rw [hln, hl]; rfl, by rw [hs']; exact hrd⟩, by rw [hs'], fun k hkl => ?_,
    r, h1, h2, h3, h4, h5, by rw [hs', ← hlog]; exact h6⟩
  have ha : (x.ln k).state = .active := (x.mem_actives k).1 (by rw [hact]; exact mem_laneIds k)
  rw [hln, hk k hkl, if_pos ha]
  exact ⟨ha, List.mem_cons_self, by rw [hx k hkl]⟩

/-- What the exclusion of one of two leaves. -/
theorem State.excluded_two {s x : State} (hregs : x.regs = s.regs) (hact : x.actives = [l, m] ∨ x.actives = [m, l]) (hlm : l ≠ m)
    (hv : x.lane.vote = .v2oo2) (hc : cause < 16) :
    let s' := x.excludeLane l cause
    ((s'.ln l).state = .excluded ∧ (s'.ln l).laneOk = 0 ∧ (s'.ln l).driven = 0 ∧ s'.rd (F.LANEIF_LANE_CAUSE l.idx) = cause) ∧
    s'.lane.vote = .safe ∧ s'.lane.armed = false ∧ (s'.ln m).state = .active ∧ (s'.ln m).driven = s.safeMask := by
  intro s'
  obtain ⟨hl, hk, hvote, -, hregs1, hrd, -⟩ := x.thrownOut_spec l hc
  obtain ⟨e, he⟩ : ∃ e, e = (x.thrownOut l cause).cancelOc := ⟨_, rfl⟩
  have hcore : (x.thrownOut l cause).CoreKept e := he ▸ .cancelOc
  have hs' : s' = (e.abortAttempt 6).voteSafe := he ▸ excludeLane_two hact hlm hv hc
  have hm : (x.ln m).state = .active := (x.mem_actives m).1 (by rcases hact with h | h <;> rw [h] <;> simp)
  have hcl := hcore.core l
  have hcm := hcore.core m
  rw [hl] at hcl
  rw [hk m hlm.symm, if_pos hm] at hcm
  simp only [Lane.core, Prod.mk.injEq] at hcl hcm
  obtain ⟨hle, hlo, hld, -⟩ := hcl
  obtain ⟨hme, -, -, -⟩ := hcm
  have hml := (hme.trans hm)
  have hlast : (e.abortAttempt 6).ln l = e.ln l := ln_abortAttempt_excluded (hle.trans rfl) 6
  have hmast : (e.abortAttempt 6).ln m = e.ln m := ln_abortAttempt_active hml 6
  have hne : (e.abortAttempt 6).lane.vote ≠ .safe := by rw [(e.abortAttempt_vote 6).1, hcore.vote, hvote, hv]; decide
  obtain ⟨h1, h2, h3, h4⟩ := voteSafe_spec hne
  have hl4 := h4 l (.inr (by rw [hlast]; exact hle.trans rfl))
  have hm4 := h4 m (.inl (by rw [hmast]; exact hml))
  rw [hlast, hle, hlo, hld] at hl4
  rw [hmast, hml] at hm4
  have hfield (g : Fld) (hg : g.key ∉ [F.LANEIF_REINT_ABORT_CAUSE, F.LANEIF_REINT_IN_PROGRESS].map Fld.key) :
      (e.abortAttempt 6).rd g = (x.thrownOut l cause).rd g := (e.abortAttempt_regs 6 g hg).trans (hcore.regs g hg)
  have hcause : (F.LANEIF_LANE_CAUSE l.idx).key ∉ [F.LANEIF_REINT_ABORT_CAUSE, F.LANEIF_REINT_IN_PROGRESS].map Fld.key := by
    cases l <;> decide
  have hmask : (e.abortAttempt 6).safeMask = s.safeMask := by
    refine safeMask_congr fun n => (hfield _ ?_).trans ((hregs1.rd fun f hf => ?_).trans (State.rd_congr hregs _))
    · simp only [List.map_cons, List.map_nil, List.mem_cons, List.not_mem_nil, or_false, Fld.key, F.CH_PROFILE_SAFE_ON,
        F.LANEIF_REINT_ABORT_CAUSE, F.LANEIF_REINT_IN_PROGRESS]; omega
    · simp only [List.mem_cons, List.not_mem_nil, or_false] at hf
      rcases hf with rfl | rfl <;> simp only [ne_eq, Fld.key, F.CH_PROFILE_SAFE_ON, F.LANEIF_LANE_CAUSE, F.LANEIF_LANE_EXCL_CNT] <;> omega
  rw [hs']
  exact ⟨⟨hl4.1, hl4.2.1, hl4.2.2, (h3 _ hcause).trans ((hfield _ hcause).trans hrd)⟩, h1, h2, hm4.1, by rw [hm4.2.2, if_pos rfl, hmask]⟩

end

end Sys2Proof.Machine
end

section
/-! PROOFS. Exclusion, latches and BIST: O14. -/

namespace Sys2Proof.Machine

/-- A counter that saturates counts one more up to its largest value. -/
theorem State.rd_inc_min (s : State) (f : Fld) : (s.inc f).rd f = min (2 ^ f.width - 1) (s.rd f + 1) := by
  rw [State.rd_inc_self, Nat.mod_eq_of_lt satSucc_lt, satSucc]
  split <;> omega

section
variable {s : State} {t tile : Nat} {l m : LaneId} {f : SelfFault}

/-- A cause in an ACTIVE lane excludes it. -/
theorem State.laneCause_active {cause : Nat} (h : (s.ln l).state = .active) : s.laneCause l cause = s.excludeLane l cause := by
  unfold State.laneCause; simp only [h]

/-- A cause in an EXCLUDED lane whose attempt no abort of this cycle ended stops LANE_OK and no more. -/
theorem State.laneCause_excluded {cause : Nat} (h : (s.ln l).state = .excluded) (ha : s.lane.abortAt ≠ some s.cycleNo) :
    s.laneCause l cause = s.modLn l fun x => { x with laneOk := 0 } := by
  unfold State.laneCause
  simp only [h]
  exact if_neg fun hc => ha hc.1

theorem selfFaultCode_lt (f : SelfFault) : selfFaultCode f < 16 := by cases f <;> decide

end

/-- What a tile has seen when a lane's LANE_OK is lost. -/
def Lane.lost (x : Lane) (tile : Nat) : Lane := { x with hold := maskSet x.hold tile, laneOk := maskClr x.laneOk tile }

section
variable {s : State} {t tile : Nat} {l : LaneId} {P : State → Prop}

/-- The loss of LANE_OK of an ACTIVE lane excludes it. -/
theorem ends_laneOkLost (ht : tile < 6) (h : (s.ln l).state = .active)
    (hp : P (((s.tick t).modLn l fun x => x.lost tile).excludeLane l 11)) : Ends (.laneOkLost t l tile) s P := by
  refine ends_unit (arm_laneOkLost ..) (decide_eq_true ht) ?_ hp
  have hs : (((s.tick t).modLn l fun x => x.lost tile).ln l).state = .active := by rw [State.ln_modLn_self]; exact h
  have : (match (((s.tick t).modLn l fun x => x.lost tile).ln l).state with
    | .active | .returning | .shadow => ((s.tick t).modLn l fun x => x.lost tile).laneCause l 0xB
    | .excluded | .lockedOut | .starting => (s.tick t).modLn l fun x => x.lost tile) =
      ((s.tick t).modLn l fun x => x.lost tile).excludeLane l 11 := by
    rw [hs]; exact State.laneCause_active hs
  exact this

theorem State.actives_lost : ((s.tick t).modLn l fun x => x.lost tile).actives = s.actives := by
  refine State.actives_congr fun k => ?_
  by_cases h : l = k
  · subst h; rw [State.ln_modLn_self]; rfl
  · rw [State.ln_modLn_ne _ _ h]; rfl

end

/-- Settles O14: the three causes are one exclusion, from three ACTIVE lanes and from two; the rest are single updates. -/
theorem lanesExclusion : Obligations.LanesExclusion := by
  intro s t tile l m f htile hlm code out from3 from2 x
  have hcode : code = selfFaultCode f := by cases f <;> rfl
  refine ⟨fun hact hv ho => ?_, fun hact hv => ?_, fun hst hab => ?_, ?_, fun hex => ?_, fun hst hb hok => ⟨?_, ?_⟩, fun b hst hb hw => ?_⟩
  · have hl : (s.ln l).state = .active := (s.mem_actives l).1 (by rw [hact]; exact mem_laneIds l)
    refine ⟨?_, ?_, ?_⟩
    · refine ends_next (arm_laneFault ..) ?_
      rw [State.laneCause_active (s := s.tick t) hl, ← hcode]
      exact State.excluded_three (x := s.tick t) (fun _ _ => rfl) rfl hact hv ho (hcode ▸ selfFaultCode_lt f)
    · refine ends_next (arm_adcRefCheck ..) ?_
      rw [if_neg Bool.false_ne_true, State.laneCause_active (s := s.tick t) hl]
      exact State.excluded_three (x := s.tick t) (fun _ _ => rfl) rfl hact hv ho (by decide)
    · refine ends_laneOkLost htile hl ?_
      exact State.excluded_three (fun k hk => (s.tick t).ln_modLn_ne _ hk.symm) rfl (State.actives_lost.trans hact) hv ho (by decide)
  · have hl : (s.ln l).state = .active := (s.mem_actives l).1 (by rcases hact with h | h <;> rw [h] <;> simp)
    refine ⟨?_, ?_, ?_⟩
    · refine ends_next (arm_laneFault ..) ?_
      rw [State.laneCause_active (s := s.tick t) hl, ← hcode]
      exact State.excluded_two (x := s.tick t) rfl hact hlm hv (hcode ▸ selfFaultCode_lt f)
    · refine ends_next (arm_adcRefCheck ..) ?_
      rw [if_neg Bool.false_ne_true, State.laneCause_active (s := s.tick t) hl]
      exact State.excluded_two (x := s.tick t) rfl hact hlm hv (by decide)
    · refine ends_laneOkLost htile hl ?_
      refine State.excluded_two (x := (s.tick t).modLn l fun x => x.lost tile) rfl ?_ hlm hv (by decide)
      rw [State.actives_lost]; exact hact
  · refine ends_next (arm_laneFault ..) ?_
    rw [State.laneCause_excluded (s := s.tick t) hst hab]
    exact ⟨State.ln_modLn_self .., rfl, rfl⟩
  · exact ends_next_eq (arm_adcRefCheck ..) (if_pos rfl) (OnlyRegs.tick s t [])
  · have hall : l.others.all (fun m => ((s.tick t).ln m).exclFor.contains l) = true := by
      rw [List.all_eq_true]
      intro k hk
      exact List.contains_iff_mem.2 (hex k (by simpa using (List.mem_filter.1 hk).2))
    refine ends_next_eq (arm_exclusionLineAsserted ..) (if_pos ⟨hlm.symm, hall⟩) ?_
    exact ⟨State.ln_modLn_self .., fun k hk => State.ln_modLn_ne _ _ hk.symm, rfl⟩
  · refine ends_next_eq (arm_bistComplete ..) ((if_pos ⟨.inl hst, hb, ?_⟩).trans (if_pos rfl)) ⟨State.ln_modLn_self .., rfl⟩
    rw [show ((s.tick t).ln l).bistOk = false from hok]; rfl
  · refine ends_next_eq (arm_bistComplete ..) ((if_pos ⟨.inl hst, hb, ?_⟩).trans (if_neg Bool.false_ne_true)) ⟨(OnlyRegs.tick s t _).inc (by simp), ?_⟩
    · exact State.rd_inc_min ..
    · rw [show ((s.tick t).ln l).bistOk = false from hok]; rfl
  · have hb' : ((s.tick t).ln l).bistStart = some b := hb
    refine ends_next (arm_bistRetryTimer ..) ?_
    simp only [hb']
    rw [if_pos ⟨hst, decide_eq_true hw⟩]
    exact ⟨State.ln_modLn_self .., rfl⟩

end Sys2Proof.Machine
end

section
/-! PROOFS. Cycle alignment, attempts, the final copy and the joint release: O15. -/

namespace Sys2Proof.Machine

/-! ### The boundary of a lane -/

section
variable {s s' : State} {t : Nat} {l m r : LaneId} {h : LaneId → Nat} {heard : List (LaneId × Nat)} {img : Sensed}

theorem median3_mid (x y z : Int) : median3 x y z = x + y + z - max x (max y z) - min x (min y z) := by
  unfold median3; omega

theorem satInt_eq_max {v lo hi : Int} (hl : lo ≤ hi) : satInt v lo hi = max lo (min hi v) := by
  unfold satInt; split
  · omega
  · split <;> omega

/-- A lane that has come to its boundary with the levels and the image it senses there. -/
def Lane.bounded (x : Lane) (now lv : Nat) (i : InImage) : Lane :=
  { x with
    boundary := now, got := [], gotOut := [], sent := none, agreed := none, updated := false, levels := lv,
    markerOld := x.marker, marker := some ⟨now, x.bistOk, x.bankHash⟩, img := some i }

/-- The lane at its own boundary, before it is aligned. -/
def State.atBoundary (s : State) (l : LaneId) (img : Sensed) : State :=
  s.modLn l fun x => x.bounded s.now (s.senseLevels (s.ln l).levels img.volt) (s.imageOf (s.senseLevels (s.ln l).levels img.volt) img)

/-- The lane once it has shown its skew and steered its next cycle. -/
def State.aligned (s : State) (l : LaneId) (heard : List (LaneId × Nat)) : State :=
  (s.showSkew l s.now heard).alignLane l s.now heard

/-- What follows the alignment at the boundary of the lower-letter ACTIVE lane. -/
def State.afterAlign (s : State) (l : LaneId) (heard : List (LaneId × Nat)) : State :=
  if s.isLowest l then
    let x := if s.attempting.isSome then s.inc F.LANEIF_REINT_CYCLES else s
    laneIds.foldl State.tryReturn (x.pairSteer ((refBoundary (x.refSet l x.now heard)).bind x.pairError))
  else s

theorem ends_laneBoundary {P : State → Prop} (hr : s.lanesRun = true)
    (hp : P ((((s.tick t).atBoundary l img).aligned l heard).afterAlign l heard)) :
    Ends (.laneBoundary t l heard img) s P := by
  have hn : ¬ (!(s.tick t).lanesRun) = true := by
    rw [show (s.tick t).lanesRun = true from hr]; exact Bool.false_ne_true
  refine ends_next (s' := (((s.tick t).atBoundary l img).aligned l heard).afterAlign l heard) ?_ hp
  rw [arm_laneBoundary, execLaneBoundary, if_neg hn, State.afterAlign, State.aligned, State.atBoundary]
  rfl

theorem State.ln_atBoundary_ne (hk : l ≠ m) : (s.atBoundary l img).ln m = s.ln m := s.ln_modLn_ne _ hk

theorem State.ln_atBoundary (s : State) (l : LaneId) (img : Sensed) : ((s.atBoundary l img).ln l).boundary = s.now ∧
    ((s.atBoundary l img).ln l).state = (s.ln l).state := by
  rw [State.atBoundary, State.ln_modLn_self]
  exact ⟨rfl, rfl⟩

/-- One of the two skews is shown where both boundaries are known. -/
def State.shownSkew (s : State) (f : Fld) (x y : Option Int) : State :=
  match x, y with
  | some a, some b => s.wr f (ofSigned 16 (satInt ((b - a) / 100) (-32768) 32767))
  | _, _ => s

theorem State.shownSkew_spec (s : State) {f : Fld} (hf : f ∈ [F.LANEIF_SKEW_SKEW_B, F.LANEIF_SKEW_SKEW_C]) (x y : Option Int) :
    (∃ z, s.shownSkew f x y = { s with regs := z }) ∧ RegsBut [F.LANEIF_SKEW_SKEW_B, F.LANEIF_SKEW_SKEW_C] s (s.shownSkew f x y) := by
  unfold State.shownSkew
  split
  · exact ⟨⟨_, rfl⟩, (RegsBut.refl _ s).wr _ (List.mem_map_of_mem hf)⟩
  · exact ⟨⟨s.regs, rfl⟩, RegsBut.refl _ s⟩

/-- Showing the skew changes two fields and nothing else. -/
theorem State.showSkew_spec (s : State) (l : LaneId) (own : Nat) (heard : List (LaneId × Nat)) :
    (∃ z, s.showSkew l own heard = { s with regs := z }) ∧
      RegsBut [F.LANEIF_SKEW_SKEW_B, F.LANEIF_SKEW_SKEW_C] s (s.showSkew l own heard) := by
  have e : ∃ x y z, s.showSkew l own heard = (s.shownSkew F.LANEIF_SKEW_SKEW_B x y).shownSkew F.LANEIF_SKEW_SKEW_C x z := ⟨_, _, _, rfl⟩
  obtain ⟨x, y, z, e⟩ := e
  obtain ⟨⟨u, hu⟩, h1⟩ := s.shownSkew_spec (f := F.LANEIF_SKEW_SKEW_B) (by simp) x y
  obtain ⟨⟨v, hv⟩, h2⟩ := (s.shownSkew F.LANEIF_SKEW_SKEW_B x y).shownSkew_spec (f := F.LANEIF_SKEW_SKEW_C) (by simp) x z
  rw [e]
  refine ⟨⟨v, by rw [hv, hu]⟩, fun g hg => (h2 g hg).trans (h1 g hg)⟩

theorem State.pairError_alone (hp : s.pair.state = .alone) (r : Int) : s.pairError r = none := by
  unfold State.pairError; rw [hp]; exact if_neg (by simp)

/-- The boundaries of the ACTIVE lanes, where each has been heard. -/
theorem State.refSet_eq {ls : List LaneId} (hact : s.actives = ls) (hne : ls ≠ [])
    (hh : ∀ k, k ≠ l → heard.find? (fun x => x.1 = k) = some (k, h k)) : s.refSet l (h l) heard = ls.map h := by
  have hof (k : LaneId) : (if k = l then some (h l) else (heard.find? fun x => x.1 = k).map (·.2)) = some (h k) := by
    by_cases hk : k = l
    · rw [if_pos hk, hk]
    · rw [if_neg hk, hh k hk]; rfl
  have he : ls.isEmpty = false := by cases ls with
    | nil => exact absurd rfl hne
    | cons => rfl
  unfold State.refSet
  rw [hact, he]
  simp only [Bool.false_eq_true, if_false, hof]
  simp

/-- A lane steered towards its reference within the skew bound (R75). -/
def Lane.steered (x : Lane) (period : Nat) (lim : Nat) (d : Int) : Lane :=
  { x with period := ((period : Int) - max (-(lim : Int)) (min lim d)).toNat, skewRun := 0 }

theorem State.alignLane_near {own : Nat} {r : Int} (href : refBoundary (s.refSet l own heard) = some r) (hp : s.pair.state = .alone)
    (hb : ((own : Int) - r).natAbs ≤ s.skewBound) :
    s.alignLane l own heard = s.modLn l fun x => x.steered s.period s.corrLimit (own - r) := by
  unfold State.alignLane
  simp only [href, s.pairError_alone hp, Option.getD_none, Int.add_zero, if_neg (not_lt.2 hb)]
  rw [if_neg (by omega), satInt_eq_max (by omega)]
  rfl

/-- The state once lane `l` has sent its marker and steered: its own lane is known, the others and everything else stand. -/
theorem State.aligned_spec {d : Int} (hact : s.actives ≠ []) (hp : s.pair.state = .alone)
    (hh : ∀ k, k ≠ l → heard.find? (fun x => x.1 = k) = some (k, h k)) (ht : h l = t)
    (href : refBoundary (s.actives.map h) = some ((t : Int) - d)) (hb : d.natAbs ≤ s.skewBound) :
    let y := ((s.tick t).atBoundary l img).aligned l heard
    (y.ln l).boundary = t ∧ (y.ln l).state = (s.ln l).state ∧
    (y.ln l).period = ((s.period : Int) - max (-(s.corrLimit : Int)) (min s.corrLimit d)).toNat ∧
    (∀ k, k ≠ l → y.ln k = s.ln k) ∧ RegsBut [F.LANEIF_SKEW_SKEW_B, F.LANEIF_SKEW_SKEW_C] s y ∧
    ∃ u v, y = { s.tick t with regs := u, lane := { s.lane with lanes := v } } := by
  obtain ⟨x, hx⟩ : ∃ x, x = (s.tick t).atBoundary l img := ⟨_, rfl⟩
  obtain ⟨z, hz⟩ : ∃ z, z = x.showSkew l t heard := ⟨_, rfl⟩
  obtain ⟨⟨u, hu⟩, hr⟩ := x.showSkew_spec l t heard
  rw [← hz] at hu hr
  have hxr : x.regs = s.regs := by rw [hx]; rfl
  have hxp : x.pair = s.pair := by rw [hx]; rfl
  have hxl : (x.ln l).boundary = t ∧ (x.ln l).state = (s.ln l).state := hx ▸ (s.tick t).ln_atBoundary l img
  have hxk (k : LaneId) (hk : k ≠ l) : x.ln k = s.ln k := by rw [hx, State.ln_atBoundary_ne hk.symm, State.ln_tick]
  have hzl (k : LaneId) : z.ln k = x.ln k := by rw [hu]; rfl
  have hza : z.actives = s.actives := by
    refine State.actives_congr fun k => ?_
    rw [hzl]
    by_cases hk : k = l
    · rw [hk]; exact hxl.2
    · rw [hxk k hk]
  have hzf (g : Fld) (hg : g.key ∉ [F.LANEIF_SKEW_SKEW_B, F.LANEIF_SKEW_SKEW_C].map Fld.key) : z.rd g = s.rd g :=
    (hr g hg).trans (State.rd_congr hxr g)
  have hper : z.period = s.period := by unfold State.period; rw [hzf _ (by decide)]
  have hcor : z.corrLimit = s.corrLimit := by unfold State.corrLimit; rw [hper]
  have hskew : z.skewBound = s.skewBound := by unfold State.skewBound; rw [hper]
  have hxn : x.now = t := by rw [hx]; rfl
  have hzref : refBoundary (z.refSet l t heard) = some ((t : Int) - d) := by
    rw [← ht, State.refSet_eq hza hact hh, ht]; exact href
  have hy : x.aligned l heard = z.modLn l fun w => w.steered s.period s.corrLimit d := by
    rw [State.aligned, hxn, ← hz, State.alignLane_near hzref (by rw [hu]; exact (congrArg PairSt.state hxp).trans hp)
      (by rw [hskew]; simpa using hb), hper, hcor, Int.sub_sub_self]
  rw [← hx, hy]
  refine ⟨?_, ?_, ?_, fun k hk => ?_, fun g hg => hzf g hg, u,
    (z.modLn l fun w => w.steered s.period s.corrLimit d).lane.lanes, ?_⟩
  · rw [State.ln_modLn_self, hzl]; exact hxl.1
  · rw [State.ln_modLn_self, hzl]; exact hxl.2
  · rw [State.ln_modLn_self]; rfl
  · rw [State.ln_modLn_ne _ _ hk.symm, hzl, hxk k hk]
  · rw [hu, hx]; rfl

/-- A lane that is not EXCLUDED begins no attempt. -/
theorem State.tryReturn_of_state (hk : (s.ln l).state ≠ .excluded) : s.tryReturn l = s := by
  have : s.mayReturn l = false := by
    unfold State.mayReturn
    rw [beq_eq_false_iff_ne.2 hk]
    rfl
  unfold State.tryReturn
  rw [this]
  exact if_neg Bool.false_ne_true

/-- What follows the alignment at the boundary of the lower-letter ACTIVE lane, where no attempt runs and the module has no partner. -/
theorem State.afterAlign_lowest (hl : s.isLowest l = true) (ha : s.attempting = none) (hp : s.pair.state = .alone) :
    s.afterAlign l heard = laneIds.foldl State.tryReturn s := by
  have hb : (refBoundary (s.refSet l s.now heard)).bind s.pairError = none := by
    cases refBoundary (s.refSet l s.now heard) with
    | none => rfl
    | some r => exact s.pairError_alone hp r
  rw [State.afterAlign, if_pos hl, ha]
  simp only [Option.isSome_none, Bool.false_eq_true, if_false, hb]
  rfl

/-- Only an EXCLUDED lane can begin an attempt at the boundary. -/
theorem State.foldl_tryReturn_one (hr : ∀ k, k ≠ r → (s.ln k).state ≠ .excluded)
    (hk : ∀ k, k ≠ r → (s.tryReturn r).ln k = s.ln k) : laneIds.foldl State.tryReturn s = s.tryReturn r := by
  have keep (k : LaneId) (h : k ≠ r) : s.tryReturn k = s := State.tryReturn_of_state (hr k h)
  have keep' (k : LaneId) (h : k ≠ r) : (s.tryReturn r).tryReturn k = s.tryReturn r :=
    State.tryReturn_of_state (by rw [hk k h]; exact hr k h)
  simp only [laneIds, List.foldl_cons, List.foldl_nil]
  cases r
  · rw [keep' .b (by decide), keep' .c (by decide)]
  · rw [keep .a (by decide), keep' .c (by decide)]
  · rw [keep .a (by decide), keep .b (by decide)]

/-- With no lane EXCLUDED none begins one. -/
theorem State.foldl_tryReturn_none (hr : ∀ k, (s.ln k).state ≠ .excluded) : laneIds.foldl State.tryReturn s = s := by
  simp only [laneIds, List.foldl_cons, List.foldl_nil, State.tryReturn_of_state (hr _)]

theorem State.attempting_none (h : ∀ k, (s.ln k).state ≠ .returning ∧ (s.ln k).state ≠ .shadow) : s.attempting = none := by
  refine List.find?_eq_none.2 fun k _ => ?_
  simp [h k]

theorem State.attempting_some (hr : (s.ln r).state = .returning ∨ (s.ln r).state = .shadow)
    (h : ∀ k, k ≠ r → (s.ln k).state = .active) : s.attempting = some r := by
  have hk (k : LaneId) (hk : k ≠ r) : ((s.ln k).state == .returning || (s.ln k).state == .shadow) = false := by rw [h k hk]; rfl
  have hr' : ((s.ln r).state == .returning || (s.ln r).state == .shadow) = true := by
    rcases hr with e | e <;> rw [e] <;> rfl
  unfold State.attempting laneIds
  cases r <;> simp [hr', hk .a, hk .b]

end

/-! ### An attempt begins -/

section
variable (s : State) (r : LaneId)

/-- What a lane that begins an attempt is, and what LANEIF shows of it. -/
theorem State.beginAttempt_spec : ((s.beginAttempt r).ln r).state = .returning ∧ ((s.beginAttempt r).ln r).vars = [] ∧
    (∀ k, k ≠ r → (s.beginAttempt r).ln k = s.ln k) ∧ (s.beginAttempt r).rd F.LANEIF_REINT_IN_PROGRESS = 1 ∧
    (s.beginAttempt r).rd F.LANEIF_REINT_LANE = r.idx ∧ (s.beginAttempt r).rd F.LANEIF_REINT_SHADOW_CNT = 0 := by
  obtain ⟨a, ha⟩ : ∃ a, a = s.modLn r fun x => { x with
    state := .returning, attempts := s.now :: s.recentAttempts r, vars := [], fbs := [], queue := [], running := none,
    sealed := if (s.cyc.act.map fun p => p.vars.any fun d => d.retained) = some true then none else x.sealed } := ⟨_, rfl⟩
  obtain ⟨b, hb⟩ : ∃ b : State, b = { a with lane := { a.lane with
      marked := 0, frozen := false, copied := 0, copyShut := none, counted := 0, copySig := [] } } := ⟨_, rfl⟩
  have hdef : s.beginAttempt r = (((((((b.wr F.LANEIF_REINT_LANE r.idx).setF F.LANEIF_REINT_IN_PROGRESS).clrF F.LANEIF_REINT_PRECOPY_DONE).clrF
      F.LANEIF_REINT_ABORT_CAUSE).clrF F.LANEIF_REINT_CYCLES).clrF F.LANEIF_REINT_DIRTY_BLK).clrF F.LANEIF_REINT_SHADOW_CNT) := by
    rw [hb, ha]; rfl
  have hln (k : LaneId) : (s.beginAttempt r).ln k = a.ln k := by
    simp only [hdef, State.ln_clrF, State.setF, State.ln_wr]
    exact State.ln_congr (by rw [hb]) k
  have hidx : r.idx < 2 ^ F.LANEIF_REINT_LANE.width := by cases r <;> decide
  refine ⟨?_, ?_, fun k hk => ?_, ?_, ?_, ?_⟩
  · rw [hln, ha, State.ln_modLn_self]
  · rw [hln, ha, State.ln_modLn_self]
  · rw [hln, ha, State.ln_modLn_ne _ _ hk.symm]
  · rw [hdef, State.rd_clrF_ne, State.rd_clrF_ne, State.rd_clrF_ne, State.rd_clrF_ne, State.rd_clrF_ne, State.rd_setF_self] <;> decide
  · rw [hdef, State.rd_clrF_ne, State.rd_clrF_ne, State.rd_clrF_ne, State.rd_clrF_ne, State.rd_clrF_ne, State.rd_setF_ne, State.rd_wr_lt _ hidx] <;> decide
  · rw [hdef, State.rd_clrF_self]

end

/-! ### When an attempt may begin -/

section
variable {s s' : State} {r : LaneId}

theorem State.mayReturn_congr (hln : s'.ln r = s.ln r) (hnow : s'.now = s.now) (hact : s'.actives = s.actives)
    (hvote : s'.lane.vote = s.lane.vote) (hcyc : s'.cyc = s.cyc) (hpwr : s'.pwr = s.pwr)
    (hen : s'.rd F.LANEIF_CFG_REINT_EN = s.rd F.LANEIF_CFG_REINT_EN) (hper : s'.rd F.LANEIF_CFG_PERIOD = s.rd F.LANEIF_CFG_PERIOD) :
    s'.mayReturn r = s.mayReturn r := by
  unfold State.mayReturn State.period State.flag
  rw [hln, hnow, hact, hvote, hcyc, hpwr, hen, hper]

theorem State.recentAttempts_congr (hln : s'.ln r = s.ln r) (hnow : s'.now = s.now) : s'.recentAttempts r = s.recentAttempts r := by
  unfold State.recentAttempts; rw [hln, hnow]

theorem State.mayReturn_state (h : s.mayReturn r = true) : (s.ln r).state = .excluded := by
  unfold State.mayReturn at h
  simp only [Bool.and_eq_true, beq_iff_eq] at h
  exact h.1.1.1.1.1.1.1

/-- A lane that has begun three attempts in the hour locks out (R99). -/
theorem State.lockOut_ln (s : State) (r k : LaneId) (hk : k ≠ r) :
    (((s.modLn r fun x => { x with state := .lockedOut }).laneRecord 0x06 6 r.idx r.idx []).ln r).state = .lockedOut ∧
    ((s.modLn r fun x => { x with state := .lockedOut }).laneRecord 0x06 6 r.idx r.idx []).ln k = s.ln k := by
  rw [State.ln_laneRecord, State.ln_laneRecord, State.ln_modLn_self, State.ln_modLn_ne _ _ hk.symm]
  exact ⟨rfl, rfl⟩

end

/-! ### The assembled region -/

section
variable {x : Lane} {p : Program} {bytes : List Nat}

theorem foldl_add_eq_sum (f : Nat → Nat) (n : Nat) (l : List Nat) : l.foldl (fun a k => a + f k) n = n + (l.map f).sum := by
  induction l generalizing n with
  | nil => simp
  | cons k l ih => rw [List.foldl_cons, ih, List.map_cons, List.sum_cons, Nat.add_assoc]

/-- Of values inserted by their number the last one of a number stands, so that with one value a number it is that one. -/
theorem find?_foldl_insert {α β : Type} (key : α → Nat) (val : α → β) (l : List α) (m : Tbl β) {d : α} (hd : d ∈ l)
    (hu : ∀ e ∈ l, key e = key d → e = d) : (l.foldl (fun m e => m.insert (key e) (val e)) m).find? (key d) = some (val d) := by
  induction l using List.reverseRecOn with
  | nil => exact absurd hd List.not_mem_nil
  | append_singleton l e ih =>
    rw [List.foldl_append, List.foldl_cons, List.foldl_nil]
    by_cases h : key e = key d
    · rw [hu e (List.mem_append_right _ List.mem_cons_self) h, Tbl.find?_insert_self]
    · rw [Tbl.find?_insert_ne _ _ h]
      refine ih ?_ fun e he => hu e (List.mem_append_left _ he)
      rcases List.mem_append.1 hd with hd | hd
      · exact hd
      · exact absurd (List.mem_singleton.1 hd ▸ rfl) h

/-- A carried variable takes its value from the bytes at its offset (R101). -/
theorem Lane.takeRegion_vars (hp : ∀ d, d ∈ p.vars → p.decl d.id = some d) {d : VarDecl} (hd : d ∈ p.vars) (hc : d.carried = true) :
    (x.takeRegion p bytes).vars.find? d.id = some (((List.range d.size).map fun k => bytes.getD (d.offset + k) 0 * 256 ^ k).sum) := by
  have h := find?_foldl_insert VarDecl.id
    (fun d => (List.range d.size).foldl (fun n k => n + bytes.getD (d.offset + k) 0 * 256 ^ k) 0) (p.vars.filter fun d => d.carried) []
    (d := d) (List.mem_filter.2 ⟨hd, hc⟩) fun e he hid => by
      have h1 := hp e (List.mem_of_mem_filter he)
      have h2 := hp d hd
      rw [hid, h2] at h1
      exact (Option.some.inj h1).symm
  refine h.trans ?_
  rw [foldl_add_eq_sum, Nat.zero_add]

end

/-! ### The abort of the attempt of a known lane -/

theorem State.abortAttempt_fields {s : State} {r : LaneId} (h : s.attempting = some r) {cause : Nat} (hc : cause < 16) :
    (s.abortAttempt cause).rd F.LANEIF_REINT_ABORT_CAUSE = cause ∧ (s.abortAttempt cause).rd F.LANEIF_REINT_IN_PROGRESS = 0 := by
  unfold State.abortAttempt
  simp only [h]
  rw [State.laneRecord, State.rd_record, State.rd_record, State.rd_clrF_self, State.rd_clrF_ne _ (by decide), State.rd_wr_lt _ hc]
  exact ⟨rfl, rfl⟩

/-! ### The boundary at which an attempt may begin -/

/-- At the boundary of the lower-letter of two ACTIVE lanes the third, where it may return, makes its attempt. -/
theorem State.afterAlign_attempt {s y : State} {l m r : LaneId} {t : Nat} {heard : List (LaneId × Nat)} (hrl : r ≠ l)
    (hcases : ∀ k, k ≠ r → k = l ∨ k = m) (hact : s.actives = [l, m]) (halone : s.pair.state = .alone)
    (hmay : (s.tick t).mayReturn r = true) (hl : (y.ln l).state = (s.ln l).state) (hk : ∀ k, k ≠ l → y.ln k = s.ln k)
    (hregs : RegsBut [F.LANEIF_SKEW_SKEW_B, F.LANEIF_SKEW_SKEW_C] s y)
    (hy : ∃ u v, y = { s.tick t with regs := u, lane := { s.lane with lanes := v } }) :
    y.afterAlign l heard = y.tryReturn r ∧ y.mayReturn r = true ∧ y.recentAttempts r = (s.tick t).recentAttempts r := by
  obtain ⟨u, v, hy⟩ := hy
  have hexc : (s.ln r).state = .excluded := State.mayReturn_state (s := s.tick t) hmay
  have hstate (k : LaneId) : (y.ln k).state = (s.ln k).state := by
    by_cases e : k = l
    · rw [e, hl]
    · rw [hk k e]
  have hyact : y.actives = [l, m] := (State.actives_congr hstate).trans hact
  have hothers (k : LaneId) (e : k ≠ r) : (y.ln k).state = .active := by
    rw [← y.mem_actives, hyact]
    rcases hcases k e with e | e <;> rw [e] <;> simp
  have hym : y.mayReturn r = true :=
    (State.mayReturn_congr (s := s.tick t) (hk r hrl) (by rw [hy]) (hyact.trans hact.symm) (by rw [hy]; rfl) (by rw [hy]) (by rw [hy])
      (hregs _ (by decide)) (hregs _ (by decide))).trans hmay
  refine ⟨?_, hym, State.recentAttempts_congr (s := s.tick t) (hk r hrl) (by rw [hy])⟩
  rw [State.afterAlign_lowest (by unfold State.isLowest; rw [hyact]; simp) (State.attempting_none fun k => ?_) (by rw [hy]; exact halone)]
  · refine State.foldl_tryReturn_one (fun k e => by rw [hothers k e]; decide) fun k e => ?_
    rw [State.tryReturn, if_pos hym]
    split
    · exact (State.beginAttempt_spec y r).2.2.1 k e
    · exact (State.lockOut_ln y r k e).2
  · by_cases e : k = r
    · rw [e, hk r hrl, hexc]; decide
    · rw [hothers k e]; decide

/-! ### The final copy -/

section
variable {s : State} {t : Nat} {l m r : LaneId} {diff : List (Nat × Nat)} {p : Program}

/-- What the final copy of a RETURNING lane leaves, by its signature (R101). -/
def State.copied (s : State) (l r : LaneId) (p : Program) (diff : List (Nat × Nat)) : State :=
  if s.lane.copySig.all (fun x => x == crc32 (s.copyOf l p diff)) then
    (s.modLn r fun x => { x.takeRegion p (s.copyOf l p diff) with state := .shadow }).clrF F.LANEIF_REINT_SHADOW_CNT
  else s.abortAttempt 2

theorem ends_finalCopyRx {P : State → Prop} (hst : (s.ln r).state = .returning) (hfr : s.lane.frozen = true) (hsig : s.lane.copySig ≠ [])
    (hact : s.actives = [l, m]) (hlo : s.lane.copyWin.1 ≤ t) (hhi : t < s.lane.copyWin.2) (hprog : s.cyc.act = some p)
    (h : P ((s.tick t).copied l r p diff)) : Ends (.finalCopyRx t r diff) s P := by
  have he : s.lane.copySig.isEmpty = false := by simpa using hsig
  refine ends_next_eq (arm_finalCopyRx t r diff s) ?_ h
  have hc : ((s.tick t).ln r).state = .returning ∧ (s.tick t).lane.frozen = true ∧ (!(s.tick t).lane.copySig.isEmpty) = true ∧
      (s.tick t).lane.copyWin.1 ≤ (s.tick t).now ∧ (s.tick t).now < (s.tick t).lane.copyWin.2 :=
    ⟨hst, hfr, by rw [show (s.tick t).lane.copySig.isEmpty = false from he]; rfl, hlo, hhi⟩
  rw [if_pos hc]
  have ha : (s.tick t).actives = [l, m] := hact
  have hp : (s.tick t).cyc.act = some p := hprog
  simp only [ha, hp]
  rfl

end

/-! ### The release -/

section
variable {s : State} {t : Nat} {l m r : LaneId}

/-- Of a SHADOW lane beside two ACTIVE ones the attempt is its own. -/
theorem State.attempting_shadow (hst : (s.ln r).state = .shadow) (hcases : ∀ k, k ≠ r → k = l ∨ k = m) (hact : s.actives = [l, m]) :
    s.attempting = some r := by
  refine State.attempting_some (.inr hst) fun k hk => (s.mem_actives k).1 ?_
  rw [hact]
  rcases hcases k hk with e | e <;> rw [e] <;> simp

/-- The lane whose hold latches each tile that sees its LANE_OK has cleared. -/
def State.unheld (s : State) (r : LaneId) : State := s.modLn r fun x => { x with hold := x.hold - (x.hold &&& x.laneOk) }

/-- How the release ends for a SHADOW lane: with a hold latch left the attempt aborts, without one the lane is back in the vote (R103). -/
def State.releaseEnd (s : State) (r : LaneId) : State :=
  if (s.ln r).hold ≠ 0 then (s.abortAttempt 5).modLanes s.actives fun x => { x with exclFor := r :: x.exclFor.filter fun m => m ≠ r }
  else if s.rd F.LANEIF_REINT_SHADOW_CNT = 16 then s.rejoin r
  else s

theorem ends_jointRelease {P : State → Prop} (hrel : ∀ k, k ≠ r → r ∉ (s.ln k).exclFor) (hst : (s.ln r).state = .shadow)
    (h : P (((s.tick t).unheld r).releaseEnd r)) : Ends (.jointRelease t r) s P := by
  have h1 : ¬ (r.others.any fun m => ((s.tick t).ln m).exclFor.contains r) = true := by
    intro he
    obtain ⟨k, hk, hc⟩ := List.any_eq_true.1 he
    refine hrel k ?_ (by simpa using hc)
    revert hk; cases k <;> cases r <;> decide
  have h2 : ¬ (((s.tick t).unheld r).ln r).state ≠ .shadow := by
    rw [State.unheld, State.ln_modLn_self]
    exact fun e => e hst
  refine ends_next_eq (arm_jointRelease t r s) ?_ h
  rw [if_neg h1]
  exact if_neg h2

/-- With no hold latch left the lane is ACTIVE and the vote is 2OO3 again. -/
theorem State.rejoin_spec (hv : s.lane.vote = .v2oo2) : ((s.rejoin r).ln r).state = .active ∧ ((s.rejoin r).ln r).hold = (s.ln r).hold ∧
    (s.rejoin r).lane.vote = .v2oo3 ∧ (s.rejoin r).rd F.LANEIF_REINT_IN_PROGRESS = 0 ∧ WroteOne s (s.rejoin r) 3 2 6 r.idx 0 := by
  obtain ⟨x, hx⟩ : ∃ x, x = s.modLn r fun x => { x with state := .active, disRun := 0, readRun := 0, skewRun := 0 } := ⟨_, rfl⟩
  obtain ⟨y, hy⟩ : ∃ y : State, y = { x.clrF F.LANEIF_REINT_IN_PROGRESS with lane := { (x.clrF F.LANEIF_REINT_IN_PROGRESS).lane with vote := .v2oo3 } } :=
    ⟨_, rfl⟩
  have hre : s.rejoin r = y.laneRecord 0x02 6 r.idx r.idx [] := by
    rw [hy, hx]
    exact if_pos hv
  have hln : y.ln r = x.ln r := by rw [hy]; exact State.ln_congr rfl r
  rw [hre, State.ln_laneRecord, hln, hx, State.ln_modLn_self]
  refine ⟨rfl, rfl, by rw [hy]; rfl, ?_, ?_⟩
  · rw [State.laneRecord, State.rd_record, hy]; exact State.rd_clrF_self x F.LANEIF_REINT_IN_PROGRESS
  · rw [State.laneRecord]; exact wroteOne_record (s₁ := y) (by rw [hy, hx]; rfl) rfl

end

/-- Settles O15: the boundary by what it steers and what it begins, the final copy by its signature, the release by the hold latches. -/
theorem lanesReintegration : Obligations.LanesReintegration := by
  intro s t l m r h heard img diff p hlm hrl hrm hrun halone hlt hheard median half
  have hcases (k : LaneId) (hk : k ≠ r) : k = l ∨ k = m := by
    revert hlm hrl hrm hk; cases k <;> cases l <;> cases m <;> cases r <;> decide
  refine ⟨fun hact hb => ?_, fun hact hb hmay => ?_, fun hst hfr hsig hact hlo hhi hprog hdecl => ?_, fun hst hcnt hact => ⟨fun hup => ?_, fun hel hem hvote => ⟨fun hhold => ?_, fun hhold => ?_⟩⟩⟩
  · have href : refBoundary (s.actives.map h) = some ((t : Int) - ((h l : Int) - median)) := by
      rw [hact]
      change some (median3 (h .a) (h .b) (h .c)) = _
      rw [median3_mid, ← hlt]
      exact congrArg some (by simp only [median]; omega)
    obtain ⟨h1, h2, h3, hk, -, u, v, hy⟩ := State.aligned_spec (img := img) (by rw [hact]; exact List.cons_ne_nil _ _) halone hheard hlt href hb
    refine ends_laneBoundary hrun ?_
    generalize ((s.tick t).atBoundary l img).aligned l heard = y at h1 h2 h3 hk hy ⊢
    have hall (k : LaneId) : (s.ln k).state = .active := (s.mem_actives k).1 (by rw [hact]; exact mem_laneIds k)
    have hyall (k : LaneId) : (y.ln k).state = .active := by
      by_cases e : k = l
      · rw [e, h2]; exact hall l
      · rw [hk k e]; exact hall k
    have hend : y.afterAlign l heard = y := by
      by_cases hlow : y.isLowest l = true
      · rw [State.afterAlign_lowest hlow (State.attempting_none fun k => by rw [hyall]; decide) (by rw [hy]; exact halone),
          State.foldl_tryReturn_none fun k => by rw [hyall]; decide]
      · exact if_neg hlow
    rw [hend]
    exact ⟨h1.trans hlt.symm, h2.trans (hall l), h3⟩
  · have href : refBoundary (s.actives.map h) = some ((t : Int) - half) := by
      rw [hact]
      change some (((h l : Int) + h m) / 2) = _
      rw [← hlt]
      exact congrArg some (by simp only [half]; omega)
    obtain ⟨-, h2, -, hk, hregs, hy⟩ := State.aligned_spec (img := img) (by rw [hact]; exact List.cons_ne_nil _ _) halone hheard hlt href hb
    obtain ⟨ha, hm, hrec⟩ := State.afterAlign_attempt (heard := heard) hrl hcases hact halone hmay h2 hk hregs hy
    refine ⟨fun hlt3 => ends_laneBoundary hrun ?_, fun hge => ends_laneBoundary hrun ?_⟩
    · rw [ha, State.tryReturn, if_pos hm, if_pos (by rw [hrec]; exact hlt3)]
      obtain ⟨b1, b2, -, b3, b4, b5⟩ := State.beginAttempt_spec (((s.tick t).atBoundary l img).aligned l heard) r
      exact ⟨b1, b2, b3, b4, b5⟩
    · rw [ha, State.tryReturn, if_pos hm, if_neg (by rw [hrec]; exact not_lt.2 hge)]
      exact (State.lockOut_ln _ r l hrl.symm).1
  · have hl : (s.ln l).state = .active := (s.mem_actives l).1 (by rw [hact]; simp)
    have hm : (s.ln m).state = .active := (s.mem_actives m).1 (by rw [hact]; simp)
    intro bytes
    refine ⟨fun hok => ends_finalCopyRx hst hfr hsig hact hlo hhi hprog ?_, fun ⟨x, hx, hne⟩ => ends_finalCopyRx hst hfr hsig hact hlo hhi hprog ?_⟩
    · have hall : ((s.tick t).lane.copySig.all fun x => x == crc32 ((s.tick t).copyOf l p diff)) = true :=
        List.all_eq_true.2 fun x hx => beq_iff_eq.2 (hok x hx)
      rw [State.copied, if_pos hall, State.rd_clrF_self]
      simp only [State.ln_clrF, State.ln_modLn_self, State.ln_modLn_ne _ _ hrl, State.ln_modLn_ne _ _ hrm]
      exact ⟨trivial, trivial, State.ln_tick .., State.ln_tick .., fun d hd hc => Lane.takeRegion_vars hdecl hd hc⟩
    · have hatt : (s.tick t).attempting = some r := State.attempting_some (s := s.tick t) (.inl hst) fun k hk => by
        rw [State.ln_tick]; rcases hcases k hk with e | e <;> rw [e] <;> assumption
      have hany : ¬ ((s.tick t).lane.copySig.all fun x => x == crc32 ((s.tick t).copyOf l p diff)) = true :=
        fun e => hne (beq_iff_eq.1 (List.all_eq_true.1 e x hx))
      rw [State.copied, if_neg hany, State.ln_abortAttempt, if_pos hatt]
      exact ⟨rfl, State.abortAttempt_fields hatt (by decide)⟩
  · have hall : (s.tick t).actives.all (fun k => ((s.tick t).ln k).updated && decide (((s.tick t).ln k).updAt + 2000 ≤ (s.tick t).now)) = true := by
      refine List.all_eq_true.2 fun k hk => ?_
      have hkr : k ≠ r := by
        have : k ∈ s.actives := hk
        rw [hact] at this
        rintro rfl
        simp [hrl, hrm] at this
      exact Bool.and_eq_true_iff.2 ⟨(hup k hkr).1, decide_eq_true (hup k hkr).2⟩
    have ha : (s.tick t).actives = [l, m] := hact
    refine ends_next_eq (arm_reintRelease t r s) (if_pos ⟨hst, hcnt, hall⟩) ⟨?_, ?_, State.modLanes_regs _ _ _⟩
    · rw [State.ln_modLanes (State.actives_nodup _), ha, if_pos (by simp)]; simp
    · rw [State.ln_modLanes (State.actives_nodup _), ha, if_pos (by simp)]; simp
  all_goals
    have hrel (k : LaneId) (hk : k ≠ r) : r ∉ (s.ln k).exclFor := by rcases hcases k hk with e | e <;> rw [e] <;> assumption
  · have hz : (((s.tick t).unheld r).ln r).hold = 0 := by
      rw [State.unheld, State.ln_modLn_self, State.ln_tick]
      exact (congrArg ((s.ln r).hold - ·) hhold).trans (Nat.sub_self _)
    refine ends_jointRelease hrel hst ?_
    rw [State.releaseEnd, if_neg (not_not.2 hz), if_pos (show ((s.tick t).unheld r).rd F.LANEIF_REINT_SHADOW_CNT = 16 from hcnt)]
    obtain ⟨h1, h2, h3, h4, r0, w1, w2, w3, w4, w5, w6⟩ := State.rejoin_spec (s := (s.tick t).unheld r) (r := r) hvote
    exact ⟨h1, h2.trans hz, h3, h4, r0, w1, w2, w3, w4, w5, w6⟩
  · obtain ⟨z, hz⟩ : ∃ z, z = (s.tick t).unheld r := ⟨_, rfl⟩
    have hne : (z.ln r).hold ≠ 0 := by
      rw [hz, State.unheld, State.ln_modLn_self, State.ln_tick]
      have : (s.ln r).hold &&& (s.ln r).laneOk ≤ (s.ln r).hold := Nat.and_le_left
      exact Nat.sub_ne_zero_of_lt (by omega)
    have hstate (k : LaneId) : (z.ln k).state = (s.ln k).state := by
      rw [hz, State.unheld]
      by_cases e : r = k
      · rw [e, State.ln_modLn_self]; rfl
      · rw [State.ln_modLn_ne _ _ e]; rfl
    have hza : z.actives = [l, m] := (State.actives_congr hstate).trans hact
    have hatt : z.attempting = some r := State.attempting_shadow ((hstate r).trans hst) hcases hza
    refine ends_jointRelease hrel hst ?_
    rw [← hz, State.releaseEnd, if_pos hne, State.rd_modLanes]
    simp only [State.ln_modLanes (State.actives_nodup z)]
    rw [hza, if_neg (by simp [hrl, hrm]), if_pos (by simp), if_pos (by simp), State.ln_abortAttempt, if_pos hatt]
    obtain ⟨f1, f2⟩ := State.abortAttempt_fields hatt (cause := 5) (by decide)
    refine ⟨rfl, f1, List.mem_cons_self, List.mem_cons_self, ?_⟩
    obtain ⟨v, hv⟩ := (z.abortAttempt 5).modLanes_eq [l, m] fun x => { x with exclFor := r :: x.exclFor.filter fun m => m ≠ r }
    rw [hv]
    exact (State.abortAttempt_vote z 5).1.trans (by rw [hz]; exact hvote)

end Sys2Proof.Machine
end

section
/-! PROOFS. Function blocks: O20. -/

namespace Sys2Proof.Machine

/-! ### Timers, scan by scan -/

/-- TON after the scan that starts it and `k` more (R123). -/
theorem FbState.ton_iterate (f : FbState) (pt p k : Nat) :
    let x := (fun x : FbState => x.ton true pt p)^[k + 1] (f.ton false pt p)
    x.on = true ∧ x.et = min pt (k * p) ∧ x.q = decide (pt ≤ k * p) := by
  induction k with
  | zero => simp [FbState.ton]
  | succ k ih =>
    obtain ⟨hon, het, -⟩ := ih
    rw [Function.iterate_succ_apply']
    generalize (fun x : FbState => x.ton true pt p)^[k + 1] (f.ton false pt p) = x at hon het ⊢
    have hk : (k + 1) * p = k * p + p := Nat.succ_mul k p
    have hm : min pt (min pt (k * p) + p) = min pt ((k + 1) * p) := by omega
    simp only [FbState.ton, hon, het, hm, Bool.not_true, Bool.false_eq_true, if_false, if_true, decide_eq_decide, true_and]
    omega

/-- TOF after the scan in which its input falls and `k` more. -/
theorem FbState.tof_iterate (f : FbState) (pt p k : Nat) :
    let x := (fun x : FbState => x.tof false pt p)^[k + 1] (f.tof true pt p)
    x.q = decide (k * p < pt) ∧ (x.q = true → x.on = true ∧ x.et = k * p) := by
  induction k with
  | zero => simp [FbState.tof]
  | succ k ih =>
    obtain ⟨hq, het⟩ := ih
    rw [Function.iterate_succ_apply']
    generalize (fun x : FbState => x.tof false pt p)^[k + 1] (f.tof true pt p) = x at hq het ⊢
    have hk : (k + 1) * p = k * p + p := Nat.succ_mul k p
    by_cases h : x.q = true
    · obtain ⟨hon, het⟩ := het h
      have hlt : min pt (x.et + p) < pt ↔ (k + 1) * p < pt := by omega
      have hx : x.tof false pt p = { x with on := true, et := min pt (x.et + p), q := decide ((k + 1) * p < pt) } := by
        simp only [FbState.tof, h, hon, Bool.false_eq_true, if_false, if_true, hlt]
      rw [hx]
      refine ⟨rfl, fun hd => ⟨rfl, ?_⟩⟩
      have := of_decide_eq_true hd
      change min pt (x.et + p) = _
      omega
    · have hle : pt ≤ k * p := not_lt.1 fun hlt => h (by rw [hq]; exact decide_eq_true hlt)
      simp only [FbState.tof, if_neg h, Bool.false_eq_true, if_false]
      exact ⟨(Bool.eq_false_of_not_eq_true h).trans (decide_eq_false (by omega)).symm, fun e => absurd e h⟩

/-- TP after the scan in which its input rises and `k` more. -/
theorem FbState.tp_iterate (pt p k : Nat) :
    let x := (fun x : FbState => x.tp true pt p)^[k + 1] (FbState.init.tp false pt p)
    x.q = decide (k * p < pt) ∧ x.on = x.q ∧ x.prev2 = true ∧ (x.q = true → x.et = k * p) := by
  induction k with
  | zero => simp [FbState.tp, FbState.init]
  | succ k ih =>
    obtain ⟨hq, hon, hp, het⟩ := ih
    rw [Function.iterate_succ_apply']
    generalize (fun x : FbState => x.tp true pt p)^[k + 1] (FbState.init.tp false pt p) = x at hq hon hp het ⊢
    have hk : (k + 1) * p = k * p + p := Nat.succ_mul k p
    by_cases h : x.q = true
    · have hlt : min pt (x.et + p) < pt ↔ (k + 1) * p < pt := by rw [het h]; omega
      simp only [FbState.tp, hon, h, if_true, hlt]
      split
      next hc =>
        refine ⟨(decide_eq_true hc).symm, rfl, rfl, fun _ => ?_⟩
        change min pt (x.et + p) = _
        have := het h
        omega
      next hc => exact ⟨(decide_eq_false hc).symm, rfl, rfl, fun e => absurd e Bool.false_ne_true⟩
    · have hf : x.q = false := Bool.eq_false_of_not_eq_true h
      have hle : pt ≤ k * p := not_lt.1 fun hlt => h (by rw [hq]; exact decide_eq_true hlt)
      simp only [FbState.tp, hon, hf, hp, Bool.false_eq_true, if_false, Bool.not_true, Bool.and_false]
      exact ⟨(decide_eq_false (by omega)).symm, trivial, trivial, fun e => e.elim⟩

/-! ### Edges and counts -/

theorem FbState.cvInt_setCv (f : FbState) (v : Int) : (f.setCv v).cvInt = satInt v (-32768) 32767 := by
  have : -32768 ≤ satInt v (-32768) 32767 ∧ satInt v (-32768) 32767 ≤ 32767 := by unfold satInt; split <;> omega
  rw [FbState.cvInt, FbState.setCv, toSigned, ofSigned]
  obtain ⟨w, hw⟩ : ∃ w, w = satInt v (-32768) 32767 := ⟨_, rfl⟩
  rw [← hw] at this ⊢
  obtain ⟨m, hm⟩ : ∃ m, m = (w % (2 ^ 16 : Nat)).toNat % 2 ^ 16 := ⟨_, rfl⟩
  rw [← hm]
  simp only [Nat.reducePow, Nat.add_one_sub_one] at hm ⊢
  split <;> omega

/-- An edge block remembers what its last scan saw. -/
theorem foldl_on (scan : FbState → Bool → FbState) (h : ∀ f b, (scan f b).on = b) (xs : List Bool) :
    (xs.foldl scan FbState.init).on = xs.getLastD false := by
  induction xs using List.reverseRecOn with
  | nil => rfl
  | append_singleton xs x => rw [List.foldl_append, List.getLastD_concat]; exact h _ x

/-- The rising edges of a sequence of scans, the first scan against FALSE. -/
def rises (xs : List Bool) : Nat := ((List.range xs.length).filter fun j => xs.getD j false && (j == 0 || !xs.getD (j - 1) false)).length

theorem rises_append (xs : List Bool) (x : Bool) : rises (xs ++ [x]) = rises xs + (x && !xs.getLastD false).toNat := by
  have hold (j : Nat) (hj : j ∈ List.range xs.length) :
      ((xs ++ [x]).getD j false && (j == 0 || !(xs ++ [x]).getD (j - 1) false)) = (xs.getD j false && (j == 0 || !xs.getD (j - 1) false)) := by
    have := List.mem_range.1 hj
    rw [List.getD_append _ _ _ _ this, List.getD_append _ _ _ _ (by omega)]
  have hlast : ((xs ++ [x]).getD xs.length false && (xs.length == 0 || !(xs ++ [x]).getD (xs.length - 1) false)) = (x && !xs.getLastD false) := by
    rw [List.getD_append_right _ _ _ _ le_rfl, Nat.sub_self, List.getD_cons_zero]
    rcases List.eq_nil_or_concat xs with rfl | ⟨ys, y, rfl⟩
    · rfl
    · simp
  rw [rises, List.length_append, List.length_singleton, List.range_succ, List.filter_append, List.length_append, List.filter_congr hold, rises]
  simp only [List.filter_cons, List.filter_nil, hlast]
  cases x && !xs.getLastD false <;> rfl

/-- CTU counts its rising edges up to the largest INT (R124). -/
theorem FbState.ctu_foldl (pv : Int) (xs : List Bool) :
    (xs.foldl (fun f b => f.ctu b false pv) FbState.init).cvInt = min (rises xs) 32767 := by
  induction xs using List.reverseRecOn with
  | nil => rfl
  | append_singleton xs x ih =>
    have hon := foldl_on (fun f b => f.ctu b false pv) (fun _ _ => rfl) xs
    rw [List.foldl_append, List.foldl_cons, List.foldl_nil, rises_append]
    generalize xs.foldl (fun f b => f.ctu b false pv) FbState.init = f at ih hon ⊢
    have hcv : (f.ctu x false pv).cvInt = (if x && !f.on then f.setCv (f.cvInt + 1) else f).cvInt := rfl
    rw [hcv, hon]
    cases x && !xs.getLastD false with
    | false => simpa using ih
    | true =>
      rw [if_pos rfl, FbState.cvInt_setCv, ih, satInt]
      simp only [Bool.toNat_true]
      split <;> omega

/-- Settles O20: each block by what one more scan does to it. -/
theorem functionBlocksFollowScans : Obligations.FunctionBlocksFollowScans := by
  refine ⟨fun f pt p k => ?_, fun xs x => ?_⟩
  · intro ton tof tp
    obtain ⟨-, h1, h2⟩ := f.ton_iterate pt p k
    obtain ⟨h3, h4⟩ := f.tof_iterate pt p k
    exact ⟨⟨h1, h2⟩, ⟨h3, fun h => (h4 h).2⟩, (FbState.tp_iterate pt p k).1⟩
  · intro prev after rs
    refine ⟨?_, ?_, fun pv => FbState.ctu_foldl pv xs⟩
    · exact congrArg (x && !·) (foldl_on FbState.rTrig (fun _ _ => rfl) xs)
    · exact congrArg (!x && ·) (foldl_on FbState.fTrig (fun _ _ => rfl) xs)

end Sys2Proof.Machine
end

section
/-! PROOFS. The force table: O21. -/

namespace Sys2Proof.Machine

/-! ### Copying and judging one entry -/

/-- The fields that the judgement of entry `e` writes. -/
def judgedFlds (e : Nat) : List Fld := [F.CYCMGR_FORCE_ACT3_POINT e, F.CYCMGR_FORCE_ACT3_VITAL e, F.CYCMGR_FORCE_ACT3_STATUS e]

/-- The fields of entry `e` of the active table. -/
def entryFlds (e : Nat) : List Fld :=
  [F.CYCMGR_FORCE_ACT_WORD e 0, F.CYCMGR_FORCE_ACT_WORD e 1, F.CYCMGR_FORCE_ACT_WORD e 2, F.CYCMGR_FORCE_ACT3_EN e] ++ judgedFlds e

section
variable {s : State} {p : Program} {e : Nat} {d : VarDecl}

theorem copyForce_eq (s : State) (e : Nat) : ∃ a b c d : Nat, s.copyForce e = (((((((s.wr (F.CYCMGR_FORCE_ACT_WORD e 0) a).wr
    (F.CYCMGR_FORCE_ACT_WORD e 1) b).wr (F.CYCMGR_FORCE_ACT_WORD e 2) c).wr (F.CYCMGR_FORCE_ACT3_EN e) d).wr
    (F.CYCMGR_FORCE_ACT3_POINT e) 0).wr (F.CYCMGR_FORCE_ACT3_VITAL e) 0).wr (F.CYCMGR_FORCE_ACT3_STATUS e) 0) := ⟨_, _, _, _, rfl⟩

theorem copyForce_frame (s : State) (e : Nat) : RegsBut (entryFlds e) s (s.copyForce e) ∧ (s.copyForce e).cyc = s.cyc ∧
    (s.copyForce e).lane = s.lane := by
  obtain ⟨a, b, c, d, h⟩ := copyForce_eq s e
  rw [h]
  refine ⟨?_, by simp only [State.wr_cyc], by simp only [State.wr_lane]⟩
  intro g hg
  have hne (f : Fld) (hf : f ∈ entryFlds e) : f.key ≠ g.key := fun h => hg (h ▸ List.mem_map_of_mem hf)
  simp only [entryFlds, judgedFlds, List.cons_append, List.nil_append, List.forall_mem_cons] at hne
  obtain ⟨h0, h1, h2, h3, h4, h5, h6, -⟩ := hne
  rw [State.rd_wr_ne _ _ h6, State.rd_wr_ne _ _ h5, State.rd_wr_ne _ _ h4, State.rd_wr_ne _ _ h3, State.rd_wr_ne _ _ h2,
    State.rd_wr_ne _ _ h1, State.rd_wr_ne _ _ h0]

/-- What entry `e` holds once it is copied. -/
theorem copyForce_spec (hb : ∀ j, j < 3 → s.rd (F.CYCMGR_FORCE_BACK_WORD e j) < 2 ^ 32) :
    (∀ j, j < 3 → (s.copyForce e).rd (F.CYCMGR_FORCE_ACT_WORD e j) = s.rd (F.CYCMGR_FORCE_BACK_WORD e j)) ∧
    (s.copyForce e).rd (F.CYCMGR_FORCE_ACT3_EN e) = s.rd (F.CYCMGR_FORCE_BACK3_EN e) % 2 := by
  have h0 := hb 0 (by decide)
  have h1 := hb 1 (by decide)
  have h2 := hb 2 (by decide)
  unfold State.copyForce State.clrF
  simp only [List.foldl_cons, List.foldl_nil]
  constructor
  · intro j hj
    interval_cases j <;>
      simp (disch := (simp only [ne_eq, Fld.key, F.CYCMGR_FORCE_ACT_WORD, F.CYCMGR_FORCE_BACK_WORD, F.CYCMGR_FORCE_ACT3_EN, F.CYCMGR_FORCE_ACT3_POINT,
        F.CYCMGR_FORCE_ACT3_VITAL, F.CYCMGR_FORCE_ACT3_STATUS]; omega)) only [State.rd_wr_ne]
    · exact State.rd_wr_lt _ h0
    · exact State.rd_wr_lt _ h1
    · exact State.rd_wr_lt _ h2
  · simp (disch := (simp only [ne_eq, Fld.key, F.CYCMGR_FORCE_ACT_WORD, F.CYCMGR_FORCE_BACK3_EN, F.CYCMGR_FORCE_ACT3_EN, F.CYCMGR_FORCE_ACT3_POINT,
        F.CYCMGR_FORCE_ACT3_VITAL, F.CYCMGR_FORCE_ACT3_STATUS]; omega)) only [State.rd_wr_self, State.rd_wr_ne]
    rfl

/-- The STATUS that the judgement of a declared variable gives. -/
def State.verdict (s : State) (e : Nat) (d : VarDecl) : Nat :=
  if d.fits (s.forceValue e) = false then 3 else if d.vital = true ∧ s.mayForceVital = false then 2 else 0

/-- The entry with its POINT and VITAL shown, before its STATUS. -/
def State.shownForce (s : State) (e : Nat) (d : VarDecl) : State :=
  (s.wr (F.CYCMGR_FORCE_ACT3_POINT e) (forcePoint d)).wr (F.CYCMGR_FORCE_ACT3_VITAL e) (bit d.vital)

theorem shownForce_frame (s : State) (e : Nat) (d : VarDecl) : RegsBut (judgedFlds e) s (s.shownForce e d) :=
  ((RegsBut.refl _ s).wr _ (List.mem_map_of_mem (by simp [judgedFlds]))).wr _ (List.mem_map_of_mem (by simp [judgedFlds]))

/-- A variable that VARTAB does not list is refused with STATUS 0x1. -/
theorem judgeForce_undeclared (hen : s.rd (F.CYCMGR_FORCE_ACT3_EN e) ≠ 0) (hd : p.decl (s.forceId e) = none) :
    s.judgeForce (some p) e = s.wr (F.CYCMGR_FORCE_ACT3_STATUS e) 1 := by
  have hen' : ¬ (!s.flag (F.CYCMGR_FORCE_ACT3_EN e)) = true := by rw [State.flag_eq_true.2 hen]; exact Bool.false_ne_true
  unfold State.judgeForce
  rw [if_neg hen']
  simp only [Option.bind_some, hd]

/-- What the judged fields are not: a word of an entry. -/
theorem word_not_judged (e i j : Nat) : (F.CYCMGR_FORCE_ACT_WORD i j).key ∉ (judgedFlds e).map Fld.key := by
  simp only [judgedFlds, List.map_cons, List.map_nil, List.mem_cons, List.not_mem_nil, Fld.key, F.CYCMGR_FORCE_ACT_WORD, F.CYCMGR_FORCE_ACT3_POINT,
    F.CYCMGR_FORCE_ACT3_VITAL, F.CYCMGR_FORCE_ACT3_STATUS, or_false]
  omega

theorem shownForce_value (s : State) (e : Nat) (d : VarDecl) : (s.shownForce e d).forceValue e = s.forceValue e := by
  unfold State.forceValue
  rw [shownForce_frame s e d _ (word_not_judged e e 1), shownForce_frame s e d _ (word_not_judged e e 2)]

/-- The judgement of a declared variable is its verdict in STATUS, and a record or none. -/
theorem judgeForce_declared (hen : s.rd (F.CYCMGR_FORCE_ACT3_EN e) ≠ 0) (hd : p.decl (s.forceId e) = some d) :
    let y := (s.shownForce e d).wr (F.CYCMGR_FORCE_ACT3_STATUS e) (s.verdict e d)
    (s.judgeForce (some p) e).regs = y.regs ∧ (s.judgeForce (some p) e).cyc = s.cyc ∧ (s.judgeForce (some p) e).lane = s.lane := by
  have hen' : ¬ (!s.flag (F.CYCMGR_FORCE_ACT3_EN e)) = true := by rw [State.flag_eq_true.2 hen]; exact Bool.false_ne_true
  obtain ⟨x, hx⟩ : ∃ x, x = s.shownForce e d := ⟨_, rfl⟩
  have hv := shownForce_value s e d
  rw [← hx] at hv ⊢
  have hm : x.mayForceVital = s.mayForceVital := by rw [hx]; rfl
  have hc : x.cyc = s.cyc ∧ x.lane = s.lane := by rw [hx]; exact ⟨rfl, rfl⟩
  obtain ⟨was, hj⟩ : ∃ was, s.judgeForce (some p) e =
      if !d.fits (x.forceValue e) then x.wr (F.CYCMGR_FORCE_ACT3_STATUS e) 3
      else if d.vital ∧ !x.mayForceVital then x.wr (F.CYCMGR_FORCE_ACT3_STATUS e) 2
      else if d.vital ∧ !was then (x.wr (F.CYCMGR_FORCE_ACT3_STATUS e) 0).forceRecord p e else x.wr (F.CYCMGR_FORCE_ACT3_STATUS e) 0 := by
    refine ⟨s.forceApplied e && s.flag (F.CYCMGR_FORCE_ACT3_VITAL e), ?_⟩
    unfold State.judgeForce
    rw [if_neg hen', hx]
    simp only [Option.bind_some, hd]
    rfl
  rw [hj, hv, hm]
  unfold State.verdict
  intro y
  by_cases hf : d.fits (s.forceValue e) = false
  · have hy : y = x.wr (F.CYCMGR_FORCE_ACT3_STATUS e) 3 := congrArg (x.wr (F.CYCMGR_FORCE_ACT3_STATUS e)) (if_pos hf)
    rw [if_pos (by rw [hf]; rfl), hy]
    exact ⟨rfl, hc⟩
  · have hf' : ¬ (!d.fits (s.forceValue e)) = true := by simpa using hf
    by_cases hg : d.vital = true ∧ s.mayForceVital = false
    · have hy : y = x.wr (F.CYCMGR_FORCE_ACT3_STATUS e) 2 := congrArg (x.wr (F.CYCMGR_FORCE_ACT3_STATUS e)) ((if_neg hf).trans (if_pos hg))
      rw [if_neg hf', if_pos (by simpa using hg), hy]
      exact ⟨rfl, hc⟩
    · have hy : y = x.wr (F.CYCMGR_FORCE_ACT3_STATUS e) 0 := congrArg (x.wr (F.CYCMGR_FORCE_ACT3_STATUS e)) ((if_neg hf).trans (if_neg hg))
      rw [if_neg hf', if_neg (by simpa using hg), hy]
      split <;> exact ⟨rfl, hc⟩

/-- The judgement of an entry touches nothing but that entry. -/
theorem judgeForce_frame (s : State) (p : Program) (e : Nat) : RegsBut (judgedFlds e) s (s.judgeForce (some p) e) ∧
    (s.judgeForce (some p) e).cyc = s.cyc ∧ (s.judgeForce (some p) e).lane = s.lane := by
  have hS : (F.CYCMGR_FORCE_ACT3_STATUS e).key ∈ (judgedFlds e).map Fld.key := List.mem_map_of_mem (by simp [judgedFlds])
  by_cases hen : s.rd (F.CYCMGR_FORCE_ACT3_EN e) = 0
  · have h : s.judgeForce (some p) e = s := by
      unfold State.judgeForce
      exact if_pos (by rw [State.flag_eq_false.2 hen]; rfl)
    rw [h]
    exact ⟨RegsBut.refl _ s, rfl, rfl⟩
  · cases hd : p.decl (s.forceId e) with
    | none => rw [judgeForce_undeclared hen hd]; exact ⟨(RegsBut.refl _ s).wr 1 hS, rfl, rfl⟩
    | some d =>
      obtain ⟨hr, hc, hl⟩ := judgeForce_declared hen hd
      exact ⟨((shownForce_frame s e d).wr _ hS).of_regs hr, hc, hl⟩

end

/-! ### All entries, one after the other -/

/-- A step over entries writes only the fields `fl i` of its entry, and keeps the manager and the lanes. -/
def EntryStep (step : State → Nat → State) (fl : Nat → List Fld) (c : CycSt) : Prop :=
  ∀ s i, s.cyc = c → RegsBut (fl i) s (step s i) ∧ (step s i).cyc = s.cyc ∧ (step s i).lane = s.lane

/-- A field that only entry `e` may write. -/
def OwnField (fl : Nat → List Fld) (e : Nat) (g : Fld) : Prop := ∀ i, i ≠ e → g.key ∉ (fl i).map Fld.key

section
variable {step : State → Nat → State} {fl : Nat → List Fld} {c : CycSt} {e : Nat}

theorem EntryStep.foldl (h : EntryStep step fl c) (es : List Nat) (hes : e ∉ es) (s : State) (hc : s.cyc = c) :
    (∀ g, OwnField fl e g → (es.foldl step s).rd g = s.rd g) ∧ (es.foldl step s).cyc = c ∧ (es.foldl step s).lane = s.lane := by
  induction es generalizing s with
  | nil => exact ⟨fun _ _ => rfl, hc, rfl⟩
  | cons i es ih =>
    obtain ⟨hr, hcyc, hl⟩ := h s i hc
    obtain ⟨h1, h2, h3⟩ := ih (fun hm => hes (List.mem_cons_of_mem _ hm)) (step s i) (hcyc.trans hc)
    exact ⟨fun g hg => (h1 g hg).trans (hr g (hg i fun hi => hes (hi ▸ List.mem_cons_self))), h2, h3.trans hl⟩

/-- Over all entries, what entry `e` owns is what its own step makes of it. -/
theorem EntryStep.foldl_own (h : EntryStep step fl c) (he : e < 256) (s : State) (hc : s.cyc = c) :
    (forceEntries.foldl step s).cyc = c ∧ (forceEntries.foldl step s).lane = s.lane ∧
    ∃ x : State, x.cyc = c ∧ (∀ g, OwnField fl e g → x.rd g = s.rd g) ∧
      ∀ g, OwnField fl e g → (forceEntries.foldl step s).rd g = (step x e).rd g := by
  obtain ⟨pre, post, hs⟩ := List.append_of_mem (List.mem_range.2 he)
  have hn : (pre ++ e :: post).Nodup := hs ▸ List.nodup_range
  have hpre : e ∉ pre := fun hm => (List.nodup_append.1 hn).2.2 e hm e List.mem_cons_self rfl
  have hpost : e ∉ post := (List.nodup_cons.1 (List.nodup_append.1 hn).2.1).1
  obtain ⟨x, hx⟩ : ∃ x, x = pre.foldl step s := ⟨_, rfl⟩
  have hf : forceEntries.foldl step s = post.foldl step (step x e) := by
    rw [forceEntries, hs, List.foldl_append, List.foldl_cons, hx]
  obtain ⟨a1, a2, a3⟩ := h.foldl pre hpre s hc
  rw [← hx] at a1 a2 a3
  obtain ⟨-, b2, b3⟩ := h x e a2
  obtain ⟨c1, c2, c3⟩ := h.foldl post hpost (step x e) (b2.trans a2)
  rw [hf]
  exact ⟨c2, c3.trans (b3.trans a3), x, a2, a1, c1⟩

end

theorem entry_own (e : Nat) : ∀ g ∈ entryFlds e, OwnField entryFlds e g := by
  intro g hg i hi
  simp only [entryFlds, judgedFlds, List.cons_append, List.nil_append, List.mem_cons, List.not_mem_nil, or_false] at hg
  simp only [entryFlds, judgedFlds, List.cons_append, List.nil_append, List.map_cons, List.map_nil, List.mem_cons, List.not_mem_nil, or_false,
    Fld.key, F.CYCMGR_FORCE_ACT_WORD, F.CYCMGR_FORCE_ACT3_EN, F.CYCMGR_FORCE_ACT3_POINT, F.CYCMGR_FORCE_ACT3_VITAL, F.CYCMGR_FORCE_ACT3_STATUS] at hg ⊢
  rcases hg with rfl | rfl | rfl | rfl | rfl | rfl | rfl <;> simp only [] <;> omega

theorem OwnField.judged {e : Nat} {g : Fld} (h : OwnField entryFlds e g) : OwnField judgedFlds e g := fun i hi hg =>
  h i hi (by rw [entryFlds, List.map_append]; exact List.mem_append_right _ hg)

theorem back_own (e : Nat) (he : e < 256) : (∀ j, j < 3 → OwnField entryFlds e (F.CYCMGR_FORCE_BACK_WORD e j)) ∧
    OwnField entryFlds e (F.CYCMGR_FORCE_BACK3_EN e) := by
  simp only [OwnField, entryFlds, judgedFlds, List.cons_append, List.nil_append, List.map_cons, List.map_nil, List.mem_cons, List.not_mem_nil, or_false,
    Fld.key, F.CYCMGR_FORCE_ACT_WORD, F.CYCMGR_FORCE_ACT3_EN, F.CYCMGR_FORCE_ACT3_POINT, F.CYCMGR_FORCE_ACT3_VITAL, F.CYCMGR_FORCE_ACT3_STATUS,
    F.CYCMGR_FORCE_BACK_WORD, F.CYCMGR_FORCE_BACK3_EN]
  exact ⟨fun j hj i hi => by omega, fun i hi => by omega⟩

/-- The counts of FORCE_STAT are no field of an entry. -/
theorem countForces_frame (s : State) {e : Nat} {g : Fld} (hg : g ∈ entryFlds e) : s.countForces.rd g = s.rd g := by
  have h : F.CYCMGR_FORCE_STAT_APPLIED.key ≠ g.key ∧ F.CYCMGR_FORCE_STAT_VITAL.key ≠ g.key := by
    simp only [entryFlds, judgedFlds, List.cons_append, List.nil_append, List.mem_cons, List.not_mem_nil, or_false] at hg
    simp only [ne_eq, Fld.key, F.CYCMGR_FORCE_STAT_APPLIED, F.CYCMGR_FORCE_STAT_VITAL, F.CYCMGR_FORCE_ACT_WORD, F.CYCMGR_FORCE_ACT3_EN,
      F.CYCMGR_FORCE_ACT3_POINT, F.CYCMGR_FORCE_ACT3_VITAL, F.CYCMGR_FORCE_ACT3_STATUS] at hg ⊢
    rcases hg with rfl | rfl | rfl | rfl | rfl | rfl | rfl <;> simp only [] <;> omega
  rw [State.countForces, State.rd_wr_ne _ _ h.2, State.rd_wr_ne _ _ h.1]

/-- Settles O21: of each entry only its own step speaks. -/
theorem forceCommitJudgesEntries : Obligations.ForceCommitJudgesEntries := by
  intro s p e he hact hb id value s' status
  have hcopy : EntryStep State.copyForce entryFlds s.cyc := fun x i _ => copyForce_frame x i
  have hjudge : EntryStep (fun s e => s.judgeForce s.cyc.act e) judgedFlds s.cyc := fun x i hx => by
    have hj : x.judgeForce x.cyc.act i = x.judgeForce (some p) i := by rw [hx, hact]
    have h := judgeForce_frame x p i
    rw [← hj] at h
    exact h
  obtain ⟨c, hc⟩ : ∃ c, c = forceEntries.foldl State.copyForce s := ⟨_, rfl⟩
  obtain ⟨z, hz⟩ : ∃ z, z = forceEntries.foldl (fun s e => s.judgeForce s.cyc.act e) c := ⟨_, rfl⟩
  have hs' : s' = z.countForces := by rw [hz, hc]; rfl
  obtain ⟨hcc, hcl, x, -, hxb, hcx⟩ := hcopy.foldl_own he s rfl
  rw [← hc] at hcc hcl hcx
  obtain ⟨hzc, hzl, y, hyc, hyb, hzy⟩ := hjudge.foldl_own he c hcc
  rw [← hz] at hzc hzl hzy
  simp only [hyc, hact] at hzy
  have hback (j : Nat) (hj : j < 3) : x.rd (F.CYCMGR_FORCE_BACK_WORD e j) = s.rd (F.CYCMGR_FORCE_BACK_WORD e j) := hxb _ ((back_own e he).1 j hj)
  obtain ⟨hw, hen⟩ := copyForce_spec (s := x) (e := e) fun j hj => by rw [hback j hj]; exact hb j hj
  rw [hxb _ (back_own e he).2] at hen
  -- an entry after the copies, and a word or EN of it after the judgements
  have hy (g : Fld) (hg : g ∈ entryFlds e) : y.rd g = (x.copyForce e).rd g :=
    (hyb g (entry_own e g hg).judged).trans (hcx g (entry_own e g hg))
  have hend (g : Fld) (hg : g ∈ entryFlds e) : s'.rd g = (y.judgeForce (some p) e).rd g := by
    rw [hs', countForces_frame z hg]; exact hzy g (entry_own e g hg).judged
  have hyw (j : Nat) (hj : j < 3) : y.rd (F.CYCMGR_FORCE_ACT_WORD e j) = s.rd (F.CYCMGR_FORCE_BACK_WORD e j) := by
    rw [hy _ (by interval_cases j <;> simp [entryFlds]), hw j hj, hback j hj]
  have hsw (j : Nat) (hj : j < 3) : s'.rd (F.CYCMGR_FORCE_ACT_WORD e j) = s.rd (F.CYCMGR_FORCE_BACK_WORD e j) := by
    rw [hend _ (by interval_cases j <;> simp [entryFlds]), (judgeForce_frame y p e).1 _ (word_not_judged e e j), hyw j hj]
  have hyen : y.rd (F.CYCMGR_FORCE_ACT3_EN e) = s.rd (F.CYCMGR_FORCE_BACK3_EN e) % 2 := (hy _ (by simp [entryFlds])).trans hen
  have hid : y.forceId e = id := hyw 0 (by decide)
  have hval : y.forceValue e = value := by
    unfold State.forceValue; rw [hyw 1 (by decide), hyw 2 (by decide)]
  refine ⟨hsw 0 (by decide), by unfold State.forceValue; rw [hsw 1 (by decide), hsw 2 (by decide)], ?_, fun h1 => ?_, ?_, ?_⟩
  · rw [hend _ (by simp [entryFlds]), (judgeForce_frame y p e).1 _ ?_, hyen]
    simp [judgedFlds, Fld.key, F.CYCMGR_FORCE_ACT3_EN, F.CYCMGR_FORCE_ACT3_POINT, F.CYCMGR_FORCE_ACT3_VITAL, F.CYCMGR_FORCE_ACT3_STATUS]
  · have hne : y.rd (F.CYCMGR_FORCE_ACT3_EN e) ≠ 0 := by rw [hyen, h1]; decide
    have hst : status = (y.judgeForce (some p) e).rd (F.CYCMGR_FORCE_ACT3_STATUS e) := hend _ (by simp [entryFlds, judgedFlds])
    refine ⟨fun hd => ?_, fun d hd => ?_⟩
    · rw [hst, judgeForce_undeclared hne (hid.symm ▸ hd)]
      exact State.rd_wr_lt y (show 1 < 2 ^ 4 by decide)
    · have hv : status = y.verdict e d := by
        rw [hst, State.rd_congr (judgeForce_declared hne (hid.symm ▸ hd)).1]
        refine State.rd_wr_lt _ (show y.verdict e d < 2 ^ 4 from ?_)
        unfold State.verdict
        split
        · decide
        · split <;> decide
      have hmay : y.mayForceVital = s.mayForceVital := by unfold State.mayForceVital; rw [hyc]
      rw [hv, State.verdict, hval, hmay, VarDecl.fits]
      refine ⟨fun hbig => if_pos (decide_eq_false (by omega)), fun hfit hvit hnot => ?_, fun hfit hor => ?_⟩
      · rw [if_neg (by simpa using hfit), if_pos ⟨hvit, hnot⟩]
      · rw [if_neg (by simpa using hfit), if_neg (by rcases hor with h | h <;> simp [h])]
  · rw [hs']; exact (hzl.trans hcl : z.lane = s.lane)
  · rw [hs']; exact (hzc : z.cyc = s.cyc)

end Sys2Proof.Machine
end

section
/-! PROOFS. Authority and the AUTH loop: O23, O24. -/

namespace Sys2Proof.Machine

/-! ### Records and readings -/

section
variable {s s₁ s' : State} {kind sev : Nat}

/-- A record of the pair names the partner. -/
theorem wroteOne_pairRecord (hl : s₁.log = s.log) (hm : s₁.rd F.PAIR_CFG_PARTNER_MID = s.rd F.PAIR_CFG_PARTNER_MID)
    (h : s'.log = (s₁.pairRecord kind sev).log) : WroteOne s s' 5 kind sev (s.rd F.PAIR_CFG_PARTNER_MID) 0 :=
  hm ▸ wroteOne_record hl h

@[simp] theorem State.showLoop_pair (s : State) (v : Nat) (i : Int) : (s.showLoop v i).pair = s.pair := rfl
@[simp] theorem State.showLoop_log (s : State) (v : Nat) (i : Int) : (s.showLoop v i).log = s.log := rfl

/-- The stamp of a gain or a loss beside a reading leaves the partner's name. -/
theorem State.showLoop_partner (s : State) (v : Nat) (i : Int) {f : Nat → Fld} (hf : f = F.PAIR_GAIN_T ∨ f = F.PAIR_LOSS_T) (n : Nat) :
    ((s.showLoop v i).wr64 f n).rd F.PAIR_CFG_PARTNER_MID = s.rd F.PAIR_CFG_PARTNER_MID := by
  rcases hf with rfl | rfl <;>
    rw [State.wr64, State.showLoop, State.rd_wr_ne _ _ (by decide), State.rd_wr_ne _ _ (by decide), State.rd_wr_ne _ _ (by decide),
      State.rd_wr_ne _ _ (by decide)]

/-- The claim of a preferred module changes the claim alone. -/
theorem State.pairClaims_frame (s : State) : (s.pairClaims).log = s.log ∧ (s.pairClaims).pair.held = s.pair.held ∧
    (s.pairClaims).pair.state = s.pair.state ∧ (s.pairClaims).pair.seekAt = s.pair.seekAt := by
  unfold State.pairClaims
  split <;> exact ⟨rfl, rfl, rfl, rfl⟩

end

/-! ### What a reading of the loop is (R141) -/

section
variable {v : Nat} {i : Int}

theorem loopCond_held (hl : 2400 ≤ v) (hh : v < 6000) (hi : 6000 ≤ i) : loopCond true v i = .held := by
  rw [loopCond, if_pos rfl, if_neg (by omega), if_neg (by omega), if_pos ⟨hl, hh, hi⟩]

theorem loopCond_not_held {on : Bool} (h : on = false ∨ v < 2400 ∨ 6000 ≤ v ∨ i < 6000) : loopCond on v i ≠ .held := by
  unfold loopCond
  split
  · next ho =>
    have : ¬ (2400 ≤ v ∧ v < 6000 ∧ 6000 ≤ i) := by rcases h with h | h | h | h <;> [exact absurd ho (by rw [h]; decide); omega; omega; omega]
    rw [if_neg this]
    split
    · decide
    · split <;> decide
  · split
    · decide
    · split <;> decide

theorem loopCond_short (h : v < 1500) : loopCond true v i = .short := by
  rw [loopCond, if_pos rfl, if_pos h]

theorem loopCond_opened (h : 12000 ≤ v) : loopCond true v i = .opened := by
  rw [loopCond, if_pos rfl, if_neg (by omega), if_pos h]

theorem loopCond_degraded (h : (1500 ≤ v ∧ v < 2400) ∨ (6000 ≤ v ∧ v < 12000) ∨ (2400 ≤ v ∧ v < 6000 ∧ i < 6000)) :
    loopCond true v i = .degraded := by
  rw [loopCond, if_pos rfl, if_neg (by omega), if_neg (by omega), if_neg (by omega)]

theorem loopCond_off_degraded (h : 1000 ≤ i ∨ (-6000 < i ∧ i ≤ -1000)) : loopCond false v i = .degraded := by
  rw [loopCond, if_neg Bool.false_ne_true, if_neg (by omega), if_neg (by omega)]

theorem loopCond_quiet (h : i.natAbs < 1000) : loopCond false v i = .quiet := by
  rw [loopCond, if_neg Bool.false_ne_true, if_pos h]

theorem loopCond_inbound (h : i ≤ -6000) : loopCond false v i = .inbound := by
  rw [loopCond, if_neg Bool.false_ne_true, if_neg (by omega), if_pos h]

end

/-! ### The commands of the loop -/

section
variable {s : State} {t v : Nat} {i : Int} {P : State → Prop}

/-- Authority as it is gained (R141, R154). -/
def PairSt.gains (p : PairSt) : PairSt :=
  { p with
    held := true, state := .primary, gained := some p.quietX, xferUntil := none, xferAsked := none,
    inStepAt := none, missRun := 0, disRun := 0, syncRun := 0, preSent := 0, preMark := 0, preFixed := false }

theorem ends_authHeldGranted (hen : s.flag F.PAIR_CFG_PAIR_EN = true) (hmay : s.mayClaim = true) (hc : loopCond s.pair.source v i = .held)
    (hh : s.pair.held = false)
    (h : ∀ n, P ({ ((s.tick t).showLoop v i).wr64 F.PAIR_GAIN_T n with pair := s.pair.gains }.pairRecord 0x01 6)) :
    Ends (.authHeldGranted t v i) s P := by
  have hh' : (!(s.tick t).pair.held) = true := by rw [show (s.tick t).pair.held = false from hh]; rfl
  exact ends_next_eq (arm_authHeldGranted t v i s) (if_pos ⟨hen, hmay, hc, hh'⟩) (h _)

/-- Without a held reading nothing is granted. -/
theorem ends_authHeldGranted_not (hc : loopCond s.pair.source v i ≠ .held) (h : P (s.tick t)) : Ends (.authHeldGranted t v i) s P :=
  ends_next_eq (arm_authHeldGranted t v i s) (if_neg fun ⟨_, _, e, _⟩ => hc e) h

/-- The loop's fault as LOOP shows it. -/
def State.loopShown (s : State) (c : LoopCond) : State :=
  match c with
  | .short => s.raise F.PAIR_LOOP_SHORT
  | .opened => s.raise F.PAIR_LOOP_OPEN
  | .degraded => s.raise F.PAIR_LOOP_DEGRADED
  | .held | .quiet | .inbound => s

theorem State.loopShown_pair (s : State) (c : LoopCond) : (s.loopShown c).pair = s.pair := by cases c <;> rfl

theorem ends_loopFault (h : P (((s.tick t).showLoop v i).loopShown (loopCond s.pair.source v i))) : Ends (.loopFault t v i) s P :=
  ends_next_eq (arm_loopFault t v i s) rfl h

/-- A fault that the reading shows has its bit, and the pair stands. -/
theorem ends_loopFault_bit {c : LoopCond} {f : Fld} (hc : loopCond s.pair.source v i = c) (hw : f.width = 1)
    (hf : ∀ x : State, x.loopShown c = x.raise f) : Ends (.loopFault t v i) s fun s' => s'.rd f = 1 ∧ s'.pair = s.pair := by
  refine ends_loopFault ⟨?_, State.loopShown_pair _ _⟩
  rw [hc, hf, State.rd_raise_bit _ hw]

/-- What a change of quiet leaves of the pair, the source being off (R142, R143). -/
def State.quietChanged (s : State) (c : LoopCond) : State :=
  if c = .quiet then
    let x := { s with pair := { s.pair with loopQuiet := true } }
    if x.pair.quiet.isNone ∧ x.pair.backoff.isNone then x.openQuiet else x
  else { s with pair := { s.pair with loopQuiet := false, quiet := none, noHolder := false } }

theorem ends_loopQuietChange (hs : s.pair.source = false)
    (h : P (((s.tick t).wr F.PAIR_LOOP_INBOUND (bit (loopCond false 0 i = LoopCond.inbound))).quietChanged (loopCond false 0 i))) :
    Ends (.loopQuietChange t i) s P := by
  refine ends_next_eq (arm_loopQuietChange t i s) ?_ h
  rw [if_neg (by rw [show (s.tick t).pair.source = false from hs]; exact Bool.false_ne_true)]
  rfl

theorem State.quietChanged_frame (s : State) (c : LoopCond) : (s.quietChanged c).regs = s.regs ∧ (s.quietChanged c).pair.held = s.pair.held := by
  unfold State.quietChanged
  split
  · dsimp only
    split <;> exact ⟨rfl, rfl⟩
  · exact ⟨rfl, rfl⟩

/-- A quiet loop opens a quiet spell where none is open and no back-off runs. -/
theorem State.quietChanged_quiet (hq : s.pair.quiet = none) (hb : s.pair.backoff = none) :
    s.quietChanged .quiet = ({ s with pair := { s.pair with loopQuiet := true } } : State).openQuiet := by
  rw [State.quietChanged, if_pos rfl]
  exact if_pos ⟨Option.isNone_iff_eq_none.2 hq, Option.isNone_iff_eq_none.2 hb⟩

end

/-- Settles O24: no other reading passes for the held one, and no other command of the loop sets AUTH_HELD. -/
theorem pairNoFaultGivesAuthority : Obligations.PairNoFaultGivesAuthority := by
  intro s t v i hh hr
  have hc : loopCond s.pair.source v i ≠ .held := loopCond_not_held hr
  refine ⟨ends_authHeldGranted_not hc hh, ?_, ends_loopFault ?_, ?_, ?_⟩
  · exact ends_next_eq (arm_authHeldLost t v i s) (if_neg fun ⟨e, _⟩ => absurd e (by rw [show (s.tick t).pair.held = false from hh]; decide)) hh
  · rw [State.loopShown_pair]; exact hh
  · by_cases hs : s.pair.source = true
    · exact ends_next_eq (arm_loopQuietChange t i s) (if_pos hs) hh
    · refine ends_loopQuietChange (Bool.eq_false_of_not_eq_true hs) ?_
      rw [(State.quietChanged_frame _ _).2]; exact hh
  · refine ends_next (arm_claimQuietExpiry t s) ?_
    split
    · split <;> exact hh
    · exact hh

/-- Settles O23: each command of the loop by its reading. -/
theorem pairAuthorityLoop : Obligations.PairAuthorityLoop := by
  intro s t v q e i p
  refine ⟨fun hen hmay hs hh hlo hhi hi => ?_, fun hs hh hst hv => ?_, fun hs hv => ?_, fun hs hv => ?_, fun hs hv => ?_, fun hs hi => ?_,
    fun hs hi hq hb => ?_, fun hs hi => ?_, fun hq hmay hg hs hw => ?_, fun hs hh hw => ?_, fun hb he hq hs => ?_, fun hq hen hp hst hn hw => ?_⟩
  · refine ends_authHeldGranted hen hmay (by rw [show s.pair.source = true from hs]; exact loopCond_held hlo hhi hi) hh fun n =>
      ⟨rfl, rfl, rfl, rfl, wroteOne_pairRecord ?_ ?_ rfl⟩
    · rfl
    · exact State.showLoop_partner _ v i (.inl rfl) n
  · have hc : loopCond s.pair.source v i ≠ .held := loopCond_not_held (.inr hv)
    refine ends_next_eq (arm_authHeldLost t v i s) ((if_pos ⟨hh, hc⟩).trans (if_pos hst)) ?_
    obtain ⟨x, hx⟩ : ∃ x : State, x = { ((s.tick t).showLoop v i).wr64 F.PAIR_LOSS_T (s.tick t).tNow with
        pair := { ((s.tick t).showLoop v i).pair with held := false, gained := none } } := ⟨_, rfl⟩
    have hxl : x.log = s.log ∧ x.now = t ∧ x.pair.held = false := by rw [hx]; exact ⟨rfl, rfl, rfl⟩
    have hxm : x.rd F.PAIR_CFG_PARTNER_MID = s.rd F.PAIR_CFG_PARTNER_MID := by
      rw [hx]; exact State.showLoop_partner _ v i (.inr rfl) _
    obtain ⟨f1, f2, f3, f4⟩ := State.pairClaims_frame (x.pairRecord 0x02 6).toSeek
    suffices h : ∀ y : State, y = (x.pairRecord 0x02 6).toSeek.pairClaims → y.pair.held = false ∧ y.pair.state = .seek ∧ y.pair.seekAt = t ∧
        WroteOne s y 5 2 6 (s.rd F.PAIR_CFG_PARTNER_MID) 0 from h _ (by rw [hx]; rfl)
    rintro y rfl
    exact ⟨f2.trans hxl.2.2, f3, f4.trans hxl.2.1, wroteOne_pairRecord hxl.1 hxm f1⟩
  · exact ends_loopFault_bit ((congrArg (loopCond · v i) hs).trans (loopCond_short hv)) rfl fun _ => rfl
  · exact ends_loopFault_bit ((congrArg (loopCond · v i) hs).trans (loopCond_opened hv)) rfl fun _ => rfl
  · exact ends_loopFault_bit ((congrArg (loopCond · v i) hs).trans (loopCond_degraded hv)) rfl fun _ => rfl
  · exact ends_loopFault_bit ((congrArg (loopCond · v i) hs).trans (loopCond_off_degraded hi)) rfl fun _ => rfl
  · refine ends_loopQuietChange hs ?_
    rw [loopCond_quiet hi, State.rd_congr (State.quietChanged_frame _ _).1, State.rd_wr_self]
    rw [State.quietChanged_quiet (by rw [State.wr_pair]; exact hq) (by rw [State.wr_pair]; exact hb)]
    exact ⟨rfl, rfl, rfl⟩
  · refine ends_loopQuietChange hs ?_
    rw [loopCond_inbound hi, State.rd_congr (State.quietChanged_frame _ _).1, State.rd_wr_self]
    exact ⟨rfl, rfl, rfl⟩
  · have hc : (s.tick t).closed q (s.tick t).quietLen = true := decide_eq_true hw
    refine ends_next (arm_claimQuietExpiry t s) ?_
    have hq' : (s.tick t).pair.quiet = some q := hq
    simp only [hq']
    rw [if_pos ⟨hmay, hg, by rw [show (s.tick t).pair.source = false from hs]; rfl, hc⟩]
    exact ⟨rfl, rfl⟩
  · have hc : (s.tick t).closed s.pair.sourceAt (ms 1) = true := decide_eq_true hw
    refine ends_next_eq (arm_claimConflict t s) (if_pos ⟨hs, by rw [show (s.tick t).pair.held = false from hh]; rfl, hc⟩) ⟨rfl, ?_, ?_⟩
    · rw [State.rd_inc_ne _ (by decide), State.rd_raise_bit _ rfl]
    · rw [State.rd_inc_min, State.rd_raise_ne _ (by decide)]; rfl
  · refine ends_next (arm_backoffExpiry t s) ?_
    have hb' : (s.tick t).pair.backoff = some e := hb
    simp only [hb']
    rw [if_pos (show e ≤ (s.tick t).now from he), if_pos ⟨hq, by rw [show (s.tick t).pair.source = false from hs]; rfl⟩]
    exact ⟨rfl, rfl, rfl⟩
  · have hc : (s.tick t).closed q (secs 1) = true := decide_eq_true hw
    obtain ⟨x, hx⟩ : ∃ x : State, x = { s.tick t with pair := { (s.tick t).pair with noHolder := true } } := ⟨_, rfl⟩
    have hxm : x.rd F.PAIR_CFG_PARTNER_MID = s.rd F.PAIR_CFG_PARTNER_MID := by rw [hx]; rfl
    have hxl : x.log = s.log ∧ x.pair = { p with noHolder := true } := by rw [hx]; exact ⟨rfl, rfl⟩
    have hq' : (s.tick t).pair.quiet = some q := hq
    refine ends_next (s' := x.pairRecord 0x05 6) ?_ ⟨(State.record_pair ..).trans hxl.2, ?_⟩
    · rw [arm_noHolderTimeout, execNoHolderTimeout, hx]
      simp only [hq']
      exact congrArg _ (if_pos ⟨hen, hp, hst, by rw [show (s.tick t).pair.noHolder = false from hn]; rfl, hc⟩)
    · exact wroteOne_pairRecord hxl.1 hxm rfl

end Sys2Proof.Machine
end

section
/-! PROOFS. Pins and supplies: O26. -/

namespace Sys2Proof.Machine

/-! ### Pins -/

section
variable {s : State} {t u : Nat}

@[simp] theorem State.pin_modPin_self (s : State) (u : Nat) (f : Pin → Pin) : (s.modPin u f).pin u = f (s.pin u) :=
  Tbl.getD_put_self ..

@[simp] theorem State.pin_pinValue (s : State) (u w : Nat) (v : Int) : (s.pinValue u v).pin w = s.pin w := rfl

/-- A pin shows a value that is not negative as it is. -/
theorem State.rd_pinValue (s : State) (u : Nat) {n : Nat} (h : n < 2 ^ 31) : (s.pinValue u n).rd (F.UIO_PIN_VAL_VALUE u) = n := by
  rw [State.pinValue, State.rd_wr_lt _ (ofSigned_lt 32 _), ofSigned]
  omega

/-- Diagnostics that show themselves only under a condition. -/
theorem rd_raiseIf_ne {c : Prop} [Decidable c] {f g : Fld} (h : f.key ≠ g.key) : (if c then s.raise f else s).rd g = s.rd g := by
  split
  · exact State.rd_raise_ne _ h
  · rfl

theorem rd_raiseIf_self {c : Prop} [Decidable c] {f : Fld} (h : c) (hw : f.width = 1) : (if c then s.raise f else s).rd f = 1 := by
  rw [if_pos h, State.rd_raise_bit _ hw]

/-- The SUPPLY diagnostic touches no other field, and no pin. -/
theorem State.supplyDiag_frame (s : State) (u : Nat) : (s.supplyDiag u).uio = s.uio ∧
    ∀ f : Fld, (F.UIO_PIN_DIAG_SUPPLY u).key ≠ f.key → (s.supplyDiag u).rd f = s.rd f := by
  refine ⟨?_, fun f hf => rd_raiseIf_ne hf⟩
  unfold State.supplyDiag
  split <;> rfl

theorem State.pinMode_eq (h : s.rd (F.UIO_PIN_CFG_MODE u) ≠ 8) : s.pinMode u = s.rd (F.UIO_PIN_CFG_MODE u) := if_neg fun e => h e.1

/-- What a sample of pin `u` leaves before the SUPPLY diagnostic. -/
def State.sampled (s : State) (u : Nat) (mv v : Int) : State :=
  if s.pinMode u = 0 then s.pinValue u 0
  else if s.pinMode u = 1 ∨ s.pinMode u = 7 ∨ s.pinMode u = 8 then s.sampleDigital u mv
  else s.sampleAnalogue u v

theorem ends_pinSample {mv v : Int} {P : State → Prop} (hu : u < 48) (h16 : 16 ≤ u) (h : P (((s.tick t).sampled u mv v).supplyDiag u)) :
    Ends (.pinSample t u mv v) s P := by
  refine ends_unit (arm_pinSample ..) (decide_eq_true hu) ?_ h
  rw [if_neg (by omega)]
  rfl

/-- A pin after a digital sample of level `raw`, with `deb` samples of debounce (R160). -/
def Pin.took (p : Pin) (deb : Nat) (raw : Bool) : Pin :=
  let n := if raw = p.level then 0 else if raw = p.raw then p.stable + 1 else 1
  let accept := raw ≠ p.level ∧ deb ≤ n
  { p with raw := raw, stable := if accept then 0 else n, level := if accept then raw else p.level }

/-- Without debounce a pin takes its level at once. -/
theorem Pin.took_level (p : Pin) (raw : Bool) : (p.took 0 raw).level = raw := by
  unfold Pin.took
  by_cases h : raw = p.level
  · simp [h]
  · simp [h]

/-- A digital pin's level as its registers show it. -/
def State.levelShown (s : State) (u : Nat) : State :=
  let s := s.wr (F.UIO_PIN_DIAG_LEVEL u) (bit (s.pin u).level)
  if s.pinMode u = 1 then s.pinValue u (bit (s.pin u).level)
  else if s.pinMode u = 8 ∧ u % 2 = 0 then s.pinValue u (toSigned 32 (s.pin u).count)
  else s

/-- A sample of a digital pin shows the level it accepts. -/
theorem State.sampleDigital_eq {mv : Int} (hm : s.pinMode u = 1) :
    let x := s.modPin u fun p => p.took (s.rd (F.UIO_PIN_CFG_DEB u)) (s.levelOf u (s.pin u).raw mv)
    s.sampleDigital u mv = (x.wr (F.UIO_PIN_DIAG_LEVEL u) (bit (x.pin u).level)).pinValue u (bit (x.pin u).level) := by
  intro x
  have hx : x.pinMode u = 1 := hm
  have hwr : (x.wr (F.UIO_PIN_DIAG_LEVEL u) (bit (x.pin u).level)).pinMode u = 1 := by
    rw [← hx]; unfold State.pinMode
    rw [State.rd_wr_ne, State.rd_wr_ne]
    · simp only [ne_eq, Fld.key, F.UIO_PIN_DIAG_LEVEL, F.UIO_PIN_CFG_MODE]; omega
    · simp only [ne_eq, Fld.key, F.UIO_PIN_DIAG_LEVEL, F.UIO_PIN_CFG_MODE]; omega
  have h8 (c : Prop) : ¬ (c ∧ x.pinMode u = 8) := fun e => absurd (hx.symm.trans e.2) (by decide)
  unfold State.sampleDigital
  exact (congrArg (State.levelShown · u) (if_neg (h8 _))).trans (if_pos hwr)

/-- A digital pin without debounce reads its level. -/
theorem ends_pinSample_digital {mv v : Int} {b : Bool} (hu : u < 48) (h16 : 16 ≤ u) (hm : s.rd (F.UIO_PIN_CFG_MODE u) = 1)
    (hdeb : s.rd (F.UIO_PIN_CFG_DEB u) = 0) (hl : s.levelOf u (s.pin u).raw mv = b) : Ends (.pinSample t u mv v) s fun s' =>
      (s'.pin u).level = b ∧ s'.rd (F.UIO_PIN_VAL_VALUE u) = (if b then 1 else 0) ∧ s'.rd (F.UIO_PIN_DIAG_LEVEL u) = if b then 1 else 0 := by
  have hm' : s.pinMode u = 1 := (State.pinMode_eq (by rw [hm]; decide)).trans hm
  obtain ⟨x, hx⟩ : ∃ x, x = (s.tick t).modPin u fun p => p.took 0 b := ⟨_, rfl⟩
  have hxl : (x.pin u).level = b := by rw [hx, State.pin_modPin_self, Pin.took_level]
  have hs : (s.tick t).sampled u mv v = (x.wr (F.UIO_PIN_DIAG_LEVEL u) (bit b)).pinValue u (bit b) := by
    have h := State.sampleDigital_eq (s := s.tick t) (mv := mv) hm'
    rw [show (s.tick t).rd (F.UIO_PIN_CFG_DEB u) = 0 from hdeb, show (s.tick t).levelOf u ((s.tick t).pin u).raw mv = b from hl, ← hx] at h
    dsimp only at h
    rw [hxl] at h
    rw [State.sampled, if_neg (by rw [show (s.tick t).pinMode u = 1 from hm']; decide), if_pos (.inl hm'), h]
  refine ends_pinSample hu h16 ?_
  rw [hs]
  obtain ⟨f1, f2⟩ := ((x.wr (F.UIO_PIN_DIAG_LEVEL u) (bit b)).pinValue u (bit b)).supplyDiag_frame u
  refine ⟨?_, ?_, ?_⟩
  · unfold State.pin; rw [f1]; exact hxl
  · rw [f2, State.pinValue, State.rd_wr_self]
    · cases b <;> rfl
    · simp only [ne_eq, Fld.key, F.UIO_PIN_DIAG_SUPPLY, F.UIO_PIN_VAL_VALUE]; omega
  · rw [f2, State.pinValue, State.rd_wr_ne, State.rd_wr_self]
    · cases b <;> rfl
    · simp only [ne_eq, Fld.key, F.UIO_PIN_DIAG_LEVEL, F.UIO_PIN_VAL_VALUE]; omega
    · simp only [ne_eq, Fld.key, F.UIO_PIN_DIAG_SUPPLY, F.UIO_PIN_DIAG_LEVEL]; omega

/-- OVER as the range diagnostics show it. -/
def State.overShown (s : State) (u m : Nat) : State :=
  match overLimit m with
  | some (_, d) => if heldFor s.now d (s.pin u).overSince then s.raise (F.UIO_PIN_DIAG_OVER u) else s
  | none => s

/-- A pin after an analogue sample (R164). -/
def Pin.ranged (p : Pin) (now m : Nat) (v : Int) (exceeds : Bool) : Pin :=
  { p with
    overSince := since now p.overSince exceeds
    underSince := since now p.underSince (m == 4 && decide (v < 3600))
    burdenOpen := m == 4 && decide (30000 < v) }

/-- An analogue sample: the value, then the diagnostics of range, OPEN and SHORT. -/
theorem State.sampleAnalogue_eq (s : State) (u : Nat) (v : Int) : ∃ exceeds : Bool,
    (∀ lim d, overLimit (s.pinMode u) = some (lim, d) → exceeds = decide (lim < v)) ∧
    s.sampleAnalogue u v =
      let x := (s.modPin u fun p => p.ranged s.now (s.pinMode u) v exceeds).pinValue u v
      let x := x.overShown u (s.pinMode u)
      let x := if heldFor x.now (ms 10) (x.pin u).underSince then x.raise (F.UIO_PIN_DIAG_UNDER u) else x
      let x := if (s.pinMode u = 5 ∧ 550000 < v) ∨ (s.pinMode u = 6 ∧ 2200000 < v) then x.raise (F.UIO_PIN_DIAG_OPEN u) else x
      if (s.pinMode u = 5 ∧ v < 200) ∨ (s.pinMode u = 6 ∧ v < 20) then x.raise (F.UIO_PIN_DIAG_SHORT u) else x := by
  refine ⟨match overLimit (s.pinMode u) with | some (lim, _) => decide (lim < v) | none => false, fun lim d h => by rw [h], rfl⟩

theorem State.overShown_frame (s : State) (u m : Nat) : (s.overShown u m).uio = s.uio ∧ (s.overShown u m).now = s.now ∧
    ∀ f : Fld, (F.UIO_PIN_DIAG_OVER u).key ≠ f.key → (s.overShown u m).rd f = s.rd f := by
  unfold State.overShown
  split
  · refine ⟨?_, ?_, fun f hf => rd_raiseIf_ne hf⟩ <;> split <;> rfl
  · exact ⟨rfl, rfl, fun _ _ => rfl⟩

/-- OVER shows once the condition has held for its time. -/
theorem State.overShown_over {m d t0 : Nat} {lim : Int} (hm : overLimit m = some (lim, d)) (hs : (s.pin u).overSince = some t0)
    (hd : t0 + d ≤ s.now) : (s.overShown u m).rd (F.UIO_PIN_DIAG_OVER u) = 1 := by
  unfold State.overShown
  simp only [hm]
  exact rd_raiseIf_self (by rw [hs]; exact decide_eq_true hd) rfl

theorem diag_keys (u : Nat) : (F.UIO_PIN_DIAG_SUPPLY u).key ≠ (F.UIO_PIN_DIAG_SHORT u).key ∧
    (∀ f ∈ [F.UIO_PIN_DIAG_SUPPLY u, F.UIO_PIN_DIAG_SHORT u], f.key ≠ (F.UIO_PIN_DIAG_OPEN u).key) ∧
    (∀ f ∈ [F.UIO_PIN_DIAG_SUPPLY u, F.UIO_PIN_DIAG_SHORT u, F.UIO_PIN_DIAG_OPEN u], f.key ≠ (F.UIO_PIN_DIAG_UNDER u).key) ∧
    (∀ f ∈ [F.UIO_PIN_DIAG_SUPPLY u, F.UIO_PIN_DIAG_SHORT u, F.UIO_PIN_DIAG_OPEN u, F.UIO_PIN_DIAG_UNDER u], f.key ≠ (F.UIO_PIN_DIAG_OVER u).key) ∧
    (∀ f ∈ [F.UIO_PIN_DIAG_SUPPLY u, F.UIO_PIN_DIAG_SHORT u, F.UIO_PIN_DIAG_OPEN u, F.UIO_PIN_DIAG_UNDER u, F.UIO_PIN_DIAG_OVER u],
      f.key ≠ (F.UIO_PIN_VAL_VALUE u).key) := by
  simp only [List.forall_mem_cons, List.not_mem_nil, false_implies, implies_true, and_true, ne_eq, Fld.key, F.UIO_PIN_DIAG_SUPPLY, F.UIO_PIN_DIAG_SHORT,
    F.UIO_PIN_DIAG_OPEN, F.UIO_PIN_DIAG_UNDER, F.UIO_PIN_DIAG_OVER, F.UIO_PIN_VAL_VALUE]
  omega

/-- An analogue sample shows its value and its diagnostics. -/
theorem ends_pinSample_analogue {mv v : Int} {m : Nat} (hu : u < 48) (h16 : 16 ≤ u) (hm : s.rd (F.UIO_PIN_CFG_MODE u) = m) (h2 : 2 ≤ m) (h6 : m ≤ 6)
    (hv0 : 0 ≤ v) (hv : v < 2 ^ 31) : Ends (.pinSample t u mv v) s fun s' => (s'.rd (F.UIO_PIN_VAL_VALUE u) : Int) = v ∧
      (∀ t0, m = 2 → (s.pin u).overSince = some t0 → t0 + 1000000 ≤ t → 32640 < v → s'.rd (F.UIO_PIN_DIAG_OVER u) = 1) ∧
      (∀ t0, m = 4 → (s.pin u).underSince = some t0 → t0 + 10000000 ≤ t → v < 3600 → s'.rd (F.UIO_PIN_DIAG_UNDER u) = 1) ∧
      (m = 5 → 550000 < v → s'.rd (F.UIO_PIN_DIAG_OPEN u) = 1) ∧ (m = 5 → v < 200 → s'.rd (F.UIO_PIN_DIAG_SHORT u) = 1) := by
  have hm' : (s.tick t).pinMode u = m := (State.pinMode_eq (s := s.tick t) (by rw [State.rd_tick, hm]; omega)).trans hm
  obtain ⟨exceeds, hex, hs⟩ := (s.tick t).sampleAnalogue_eq u v
  rw [hm'] at hex hs
  obtain ⟨kSh, kOp, kUn, kOv, kVal⟩ := diag_keys u
  simp only [List.forall_mem_cons, List.not_mem_nil, false_implies, implies_true, and_true] at kOp kUn kOv kVal
  obtain ⟨x, hx⟩ : ∃ x, x = ((s.tick t).modPin u fun p => p.ranged t m v exceeds).pinValue u v := ⟨_, rfl⟩
  have hxp : x.pin u = (s.pin u).ranged t m v exceeds := by rw [hx]; exact State.pin_modPin_self (s.tick t) u fun p => p.ranged t m v exceeds
  have hxn : x.now = t := by rw [hx]; rfl
  have hxv : x.rd (F.UIO_PIN_VAL_VALUE u) = v.toNat := by
    obtain ⟨n, rfl⟩ := Int.eq_ofNat_of_zero_le hv0
    rw [hx]; exact State.rd_pinValue _ u (by omega)
  obtain ⟨ou, on, orest⟩ := x.overShown_frame u m
  obtain ⟨y, hy⟩ : ∃ y, y = x.overShown u m := ⟨_, rfl⟩
  rw [← hy] at ou on orest
  have hyp : y.pin u = x.pin u := by unfold State.pin; rw [ou]
  refine ends_pinSample hu h16 ?_
  rw [State.sampled, if_neg (by rw [hm']; omega), if_neg (by rw [hm']; omega), hs]
  dsimp only
  rw [show (s.tick t).now = t from rfl, ← hx, ← hy]
  simp only [(State.supplyDiag_frame _ u).2 _ kSh, (State.supplyDiag_frame _ u).2 _ kOp.1, (State.supplyDiag_frame _ u).2 _ kUn.1,
    (State.supplyDiag_frame _ u).2 _ kOv.1, (State.supplyDiag_frame _ u).2 _ kVal.1]
  refine ⟨?_, fun t0 h2 hov hd hlim => ?_, fun t0 h4 hun hd hlim => ?_, fun h5 hlim => ?_, fun h5 hlim => rd_raiseIf_self (.inl ⟨h5, hlim⟩) rfl⟩
  · rw [rd_raiseIf_ne kVal.2.1, rd_raiseIf_ne kVal.2.2.1, rd_raiseIf_ne kVal.2.2.2.1, orest _ kVal.2.2.2.2, hxv]
    omega
  · rw [rd_raiseIf_ne kOv.2.1, rd_raiseIf_ne kOv.2.2.1, rd_raiseIf_ne kOv.2.2.2, hy]
    have he : exceeds = true := (hex 32640 (ms 1) (by rw [h2]; rfl)).trans (decide_eq_true hlim)
    refine State.overShown_over (lim := 32640) (d := ms 1) (t0 := t0) (by rw [h2]; rfl) ?_ (by rw [hxn]; exact hd)
    rw [hxp, he]
    simp [Pin.ranged, since, hov]
  · rw [rd_raiseIf_ne kUn.2.1, rd_raiseIf_ne kUn.2.2]
    refine rd_raiseIf_self ?_ rfl
    rw [hyp, hxp, on, hxn]
    simp [Pin.ranged, since, hun, h4, hlim, heldFor, ms, hd]
  · rw [rd_raiseIf_ne kOp.2]
    exact rd_raiseIf_self (.inl ⟨h5, hlim⟩) rfl

end

/-! ### The gate window of a FREQ pin -/

section
variable {s : State} {t u edges cycles span : Nat}

/-- Is the window of a pin over (R162)? -/
def State.gateOver (s : State) (u : Nat) : Bool :=
  match (s.pin u).gateAt with
  | none => true
  | some t0 => s.closed t0 (ms (s.rd (F.UIO_PIN_CFG_FGATE u)))

theorem State.gateOver_iff (s : State) (u : Nat) :
    s.gateOver u = true ↔ ∀ g, (s.pin u).gateAt = some g → g + 1000000 * s.rd (F.UIO_PIN_CFG_FGATE u) ≤ s.now := by
  unfold State.gateOver
  split
  · next h => simp [h]
  · next g h => simp [h, State.closed, ms, Nat.mul_comm]

theorem execFreqGateClose_eq (hu : u < 48) : exec (.freqGateClose t u edges cycles span) s = onUnit true
    (if u < 16 ∨ (!(s.tick t).gateOver u) = true then s.tick t
      else ((s.tick t).gateClose u edges cycles span).modPin u fun p => { p with gateAt := some t }) := by
  rw [arm_freqGateClose, execFreqGateClose, decide_eq_true hu]
  rfl

theorem ends_freqGateClose {P : State → Prop} (hu : u < 48) (h16 : 16 ≤ u)
    (hg : ∀ g, (s.pin u).gateAt = some g → g + 1000000 * s.rd (F.UIO_PIN_CFG_FGATE u) ≤ t)
    (h : P (((s.tick t).gateClose u edges cycles span).modPin u fun p => { p with gateAt := some t })) :
    Ends (.freqGateClose t u edges cycles span) s P := by
  have ho : (s.tick t).gateOver u = true := (State.gateOver_iff (s.tick t) u).2 hg
  refine ends_unit (execFreqGateClose_eq hu) rfl (if_neg ?_) h
  rw [ho]
  simp only [Bool.not_true, Bool.false_eq_true, or_false]
  omega

/-- What the close of a FREQ pin's window leaves. -/
theorem State.gateClose_freq (hm : s.rd (F.UIO_PIN_CFG_MODE u) = 7) : s.gateClose u edges cycles span =
    let x := s.modPin u fun p => { p with quiet := if edges = 0 then p.quiet + 1 else 0 }
    if 2 ≤ (x.pin u).quiet then x.pinValue u 0
    else if cycles ≠ 0 ∧ span ≠ 0 then x.pinValue u (cycles * 1000000000000 / span : Nat) else x := by
  unfold State.gateClose
  exact if_pos ((State.pinMode_eq (by rw [hm]; decide)).trans hm)

/-- A window with whole cycles in it shows their frequency. -/
theorem State.gateClose_shows {n : Nat} (hm : s.rd (F.UIO_PIN_CFG_MODE u) = 7) (he : edges ≠ 0) (hc : cycles ≠ 0) (hs : span ≠ 0)
    (hn : cycles * 1000000000000 / span = n) : s.gateClose u edges cycles span = (s.modPin u fun p => { p with quiet := 0 }).pinValue u n := by
  rw [State.gateClose_freq hm, hn]
  simp only [if_neg he, State.pin_modPin_self]
  rw [if_neg (by omega), if_pos ⟨hc, hs⟩]

end

/-! ### Sensor supplies -/

section
variable {s : State} {t k : Nat}

/-- The supply and its IN_REG after a change; EN stands. -/
theorem State.modSup_spec (s : State) (k : Nat) (f : Supply → Supply) :
    (s.modSup k f).sup k = f (s.sup k) ∧ (s.modSup k f).rd (F.UIO_SP_CTL_IN_REG k) = bit (f (s.sup k)).on ∧
    (s.modSup k f).rd (F.UIO_SP_CTL_EN k) = s.rd (F.UIO_SP_CTL_EN k) := by
  have k1 : (F.UIO_SP_CTL_I_OUT k).key ≠ (F.UIO_SP_CTL_IN_REG k).key ∧ (F.UIO_SP_CTL_I_OUT k).key ≠ (F.UIO_SP_CTL_EN k).key ∧
      (F.UIO_SP_CTL_IN_REG k).key ≠ (F.UIO_SP_CTL_EN k).key := by
    simp only [ne_eq, Fld.key, F.UIO_SP_CTL_I_OUT, F.UIO_SP_CTL_IN_REG, F.UIO_SP_CTL_EN]; omega
  obtain ⟨k1, k2, k3⟩ := k1
  obtain ⟨x, hx⟩ : ∃ x : State, x = ({ s with uio := { s.uio with sups := s.uio.sups.put ⟨false, false, 0⟩ k (f (s.sup k)) } } : State).wr
      (F.UIO_SP_CTL_IN_REG k) (bit (f (s.sup k)).on) := ⟨_, rfl⟩
  have h1 : x.sup k = f (s.sup k) := by rw [hx]; exact Tbl.getD_put_self ..
  have h2 : x.rd (F.UIO_SP_CTL_IN_REG k) = bit (f (s.sup k)).on := by
    rw [hx]; exact State.rd_wr_lt _ (show bit (f (s.sup k)).on < 2 ^ 1 by cases (f (s.sup k)).on <;> decide)
  have h3 : x.rd (F.UIO_SP_CTL_EN k) = s.rd (F.UIO_SP_CTL_EN k) := by rw [hx, State.rd_wr_ne _ _ k3]; rfl
  have hs : s.modSup k f = if !(f (s.sup k)).on then x.clrF (F.UIO_SP_CTL_I_OUT k) else if (s.sup k).on then x
      else (x.draw 301).2.wr (F.UIO_SP_CTL_I_OUT k) (x.draw 301).1 := by rw [hx]; rfl
  rw [hs]
  split
  · exact ⟨h1, by rw [State.rd_clrF_ne _ k1, h2], by rw [State.rd_clrF_ne _ k2, h3]⟩
  · split
    · exact ⟨h1, h2, h3⟩
    · exact ⟨h1, by rw [State.rd_wr_ne _ _ k1]; exact h2, by rw [State.rd_wr_ne _ _ k2]; exact h3⟩

end

/-- Settles O26: a sample by its mode, a window and a supply by what they show. -/
theorem uioPinsAndSupplies : Obligations.UioPinsAndSupplies := by
  intro s t u k t0 edges cycles span mv v hu hk lo hi mode gate reads
  refine ⟨fun h => ?_, fun h16 hm => ?_, fun h16 hm hdeb hle hraw => ⟨fun h => ?_, fun h => ?_, fun hl hh => ?_⟩, fun h16 h2 h6 hv0 hv => ?_,
    fun h16 hm hg he hc hs hlt => ?_, fun h16 hg => ?_, fun h16 hm hg hq => ?_, fun hon => ?_, fun hl ht hw hmay => ?_⟩
  · exact ends_unit (arm_pinSample ..) (decide_eq_true hu) (if_pos h) (.tick s t _)
  · refine ends_pinSample hu h16 ?_
    have hm' : (s.tick t).pinMode u = 0 := (State.pinMode_eq (s := s.tick t) (by rw [State.rd_tick, show s.rd _ = 0 from hm]; decide)).trans hm
    rw [State.sampled, if_pos hm', (State.supplyDiag_frame _ u).1, (State.supplyDiag_frame _ u).2 _ (by
      simp only [ne_eq, Fld.key, F.UIO_PIN_DIAG_SUPPLY, F.UIO_PIN_VAL_VALUE]; omega), State.pinValue, State.rd_wr_self]
    exact ⟨rfl, rfl⟩
  · exact ends_pinSample_digital hu h16 hm hdeb (if_pos (by push_cast; exact h))
  · have h' : mv < hi := lt_of_lt_of_le h hle
    exact ends_pinSample_digital hu h16 hm hdeb ((if_neg (by push_cast; exact not_le.2 h')).trans (if_pos (by push_cast; exact h)))
  · exact ends_pinSample_digital hu h16 hm hdeb ((if_neg (by push_cast; exact not_le.2 hh)).trans
      ((if_neg (by push_cast; exact not_lt.2 hl)).trans hraw))
  · obtain ⟨s', hs', h1, h3, h4, h5⟩ := ends_pinSample_analogue (t := t) (mv := mv) hu h16 (rfl : _ = mode) h2 h6 hv0 hv
    exact ⟨s', hs', h1, h3 t0, h4 t0, h5⟩
  · refine ends_freqGateClose hu h16 hg ?_
    obtain ⟨n, hn⟩ : ∃ n, cycles * 1000000000000 / span = n := ⟨_, rfl⟩
    rw [State.gateClose_shows (s := s.tick t) hm he hc hs hn, State.rd_modPin, State.rd_pinValue _ u (hn ▸ hlt), hn]
    simp only [State.pin_modPin_self, State.pin_pinValue, and_self]
  · have ho : (s.tick t).gateOver u = false := Bool.eq_false_of_not_eq_true fun e => hg ((State.gateOver_iff (s.tick t) u).1 e)
    exact ends_unit (execFreqGateClose_eq hu) rfl (if_pos (.inr (by rw [ho]; rfl))) (.tick s t _)
  · refine ends_freqGateClose hu h16 hg ?_
    rw [State.gateClose_freq (s := s.tick t) hm]
    dsimp only
    have hquiet : 2 ≤ (((s.tick t).modPin u fun p => { p with quiet := if 0 = 0 then p.quiet + 1 else 0 }).pin u).quiet := by
      rw [State.pin_modPin_self]; exact Nat.succ_le_succ hq
    rw [if_pos hquiet]
    exact (State.rd_modPin ..).trans (State.rd_pinValue _ u (n := 0) (by decide))
  · refine ends_unit (arm_supplyLimitTrip ..) (decide_eq_true hk) (if_pos hon) ?_
    obtain ⟨h1, h2, h3⟩ := (s.tick t).modSup_spec k fun _ => ⟨false, true, (s.tick t).now⟩
    refine ⟨h1, State.rd_raise_bit _ rfl, ?_, ?_⟩
    · rw [State.rd_raise_ne _ ?_, h2]
      · rfl
      · simp only [ne_eq, Fld.key, F.UIO_SP_CTL_TRIP, F.UIO_SP_CTL_IN_REG]; omega
    · rw [State.rd_raise_ne _ ?_, h3, State.rd_tick]
      simp only [ne_eq, Fld.key, F.UIO_SP_CTL_TRIP, F.UIO_SP_CTL_EN]; omega
  · have hc : (s.tick t).closed ((s.tick t).sup k).tripAt (secs 1) = true := decide_eq_true hw
    refine ends_unit (arm_supplyRetry ..) (decide_eq_true hk) ((if_pos ⟨hl, ht, hc⟩).trans (if_pos hmay)) ?_
    obtain ⟨h1, h2, -⟩ := (s.tick t).modSup_spec k fun _ => ⟨true, false, 0⟩
    exact ⟨by rw [h1], h2⟩

end Sys2Proof.Machine
end

section
/-! PROOFS. The Stairwell window and its logs: O40, O41. -/

namespace Sys2Proof.Machine

/-! ### Accepted window accesses -/

section
variable {s : State} {t port addr size value j : Nat} {a : Attr} {x : Slot} {P : State → Prop}

/-- A window access that the regions pass is judged by its address and size, then by the instance's state. -/
theorem windowed_pass {w : Bool} {f : State → State} (hp : s.passes addr a w = true) (hd : a.dom = .hub) :
    s.windowed a addr size w f = if !s.winAddrOk addr ∨ !winSizeOk addr size then s.okay.answer 0x10 0
      else if (s.inst a.inst).state = .resetting then s.okay.answerOpen else f s.okay := by
  rw [State.windowed, State.guarded_pass _ hp (by rw [hd]; rfl)]
  rfl

theorem windowed_bad {w : Bool} {f : State → State} (hp : s.passes addr a w = true) (hd : a.dom = .hub)
    (hb : s.winAddrOk addr = false ∨ winSizeOk addr size = false) : s.windowed a addr size w f = s.okay.answer 0x10 0 := by
  rw [windowed_pass hp hd, if_pos]
  rcases hb with h | h <;> rw [h] <;> simp

theorem windowed_active {w : Bool} {f : State → State} (hp : s.passes addr a w = true) (hd : a.dom = .hub) (ha : s.winAddrOk addr = true)
    (hs : winSizeOk addr size = true) (hi : (s.inst a.inst).state = .active) : s.windowed a addr size w f = f s.okay := by
  rw [windowed_pass hp hd, if_neg (by rw [ha, hs]; decide), if_neg (by rw [hi]; decide)]

end

/-! ### Slots and queues -/

section
variable {s : State} {addr size j k : Nat} {a : Attr} {x : Slot}

@[simp] theorem State.fifo_modFifo_self (s : State) (k : Nat) (f : List StnAcc → List StnAcc) : (s.modFifo k f).fifo k = f (s.fifo k) :=
  Tbl.getD_put_self ..

theorem State.fifo_modFifo_ne (s : State) {k i : Nat} (f : List StnAcc → List StnAcc) (h : k ≠ i) : (s.modFifo k f).fifo i = s.fifo i :=
  Tbl.getD_put_ne _ _ _ h

/-- The first free slot is the lowest. -/
theorem find_free_slot (s : State) (hj : j < 32) (hf : s.stair.slots.find? j = none) (hlow : ∀ i, i < j → s.stair.slots.find? i ≠ none) :
    (List.range 32).find? (fun j => (s.stair.slots.find? j).isNone) = some j := by
  rw [List.find?_range_eq_some]
  refine ⟨by rw [hf]; rfl, List.mem_range.2 hj, fun i hi => ?_⟩
  have := hlow i hi
  cases h : s.stair.slots.find? i with
  | none => exact absurd h this
  | some _ => rfl

/-- The state in which a read has taken slot `j` and queued its accesses (R218). -/
def State.parked (s : State) (a : Attr) (addr size j : Nat) : State :=
  (({ s with stair := { s.stair with slots := s.stair.slots.insert j ⟨addr, size, a, .fetching, 0, 0, 0⟩ } } : State).enqAcc
    (winStn addr) (.slot j) a.inst (winReg addr) (List.replicate (winHalves size) 0)).answer 1 0

theorem State.park_free (ha : (s.stn (winStn addr)).state ≠ .absent) (hh : (s.inst a.inst).state = .active)
    (hj : (List.range 32).find? (fun j => (s.stair.slots.find? j).isNone) = some j) (hr : (s.fifo (winStn addr)).length + winHalves size ≤ 8) :
    s.park a addr size = s.parked a addr size j := by
  unfold State.park
  dsimp only
  rw [if_neg ha, if_neg (by rw [hh]; decide), hj]
  exact if_pos hr

theorem State.park_full (ha : (s.stn (winStn addr)).state ≠ .absent) (hh : (s.inst a.inst).state = .active)
    (hr : 8 < (s.fifo (winStn addr)).length + winHalves size) : s.park a addr size = (s.inc F.STAIR_CNT_SLOT_FULL).answer 1 0 := by
  unfold State.park
  dsimp only
  rw [if_neg ha, if_neg (by rw [hh]; decide)]
  split
  · exact if_neg (by omega)
  · rfl

/-- What a new slot holds and what stands in its station's queue. -/
theorem State.parked_spec (s : State) (a : Attr) (addr size j : Nat) :
    (s.parked a addr size j).resp = ⟨1, 0⟩ ∧
    (s.parked a addr size j).stair.slots.find? j = some ⟨addr, size, a, .fetching, 0, 0, 0⟩ ∧
    (∀ i, i ≠ j → (s.parked a addr size j).stair.slots.find? i = s.stair.slots.find? i) ∧
    (s.parked a addr size j).fifo (winStn addr) = s.fifo (winStn addr) ++ (List.range (winHalves size)).map (fun h =>
      ⟨.slot j, a.inst, (winReg addr + h) % 65536, 0, h, decide (h + 1 = winHalves size)⟩) ∧
    (∀ i, i ≠ winStn addr → (s.parked a addr size j).fifo i = s.fifo i) ∧ (s.parked a addr size j).regs = s.regs := by
  obtain ⟨y, hy⟩ : ∃ y : State, y = { s with stair := { s.stair with slots := s.stair.slots.insert j ⟨addr, size, a, .fetching, 0, 0, 0⟩ } } := ⟨_, rfl⟩
  have hf (i : Nat) : (s.parked a addr size j).fifo i =
      (y.enqAcc (winStn addr) (.slot j) a.inst (winReg addr) (List.replicate (winHalves size) 0)).fifo i := by rw [hy]; rfl
  have hyf (i : Nat) : y.fifo i = s.fifo i := by rw [hy]; rfl
  refine ⟨rfl, Tbl.find?_insert_self .., fun i hi => Tbl.find?_insert_ne _ _ hi.symm, ?_, fun i hi => ?_, rfl⟩
  · rw [hf, State.enqAcc, State.fifo_modFifo_self, hyf, List.length_replicate]
    refine congrArg _ (List.map_congr_left fun h hh => ?_)
    rw [List.getD_replicate _ (List.mem_range.1 hh)]
  · rw [hf, State.enqAcc, State.fifo_modFifo_ne _ _ hi.symm, hyf]

end

/-! ### Re-reads -/

section
variable {s : State} {port addr size j : Nat} {a : Attr} {x : Slot}

theorem State.winRead_slot (hs : s.slotOf a addr size = some (j, x)) (hc : s.slotClosed x = false) :
    s.winRead a addr size = match x.state with
      | .fetching => s.answer 1 0
      | .ready => (s.freeSlot j).answer 0 x.result
      | .failed => (s.freeSlot j).answer x.status 0 := by
  unfold State.winRead
  simp only [hs]
  exact if_neg (by rw [hc]; exact Bool.false_ne_true)

/-- Do other ports stand before this one among the re-reads of the clock (R36, R218)? -/
def State.readTie (s : State) (port : Nat) : Prop := s.stair.reads.1 = s.now ∧ s.stair.reads.2.any (fun p => p ≠ port) = true

/-- Arbitration moves the pointer and counts a tie; slots and queues stand. -/
theorem State.arbRead_spec (s : State) (port : Nat) : (s.arbRead port).stair.readPtr = port + 1 ∧
    (s.arbRead port).stair.slots = s.stair.slots ∧ (s.arbRead port).stair.fifos = s.stair.fifos ∧ (s.arbRead port).now = s.now ∧
    (¬ s.readTie port → (s.arbRead port).regs = s.regs) ∧
    (s.readTie port → (s.arbRead port).regs = (s.inc F.STAIR_TIE_CNT_TIES).regs) := by
  obtain ⟨same, hsame⟩ : ∃ same, same = if s.stair.reads.1 = s.now then s.stair.reads.2 else [] := ⟨_, rfl⟩
  have hb : same.any (fun p => decide (p ≠ port)) = true ↔ s.readTie port := by
    rw [hsame, State.readTie]
    split
    · next h => simp [h]
    · next h => simp [h]
  obtain ⟨y, hy⟩ : ∃ y, y = if same.any (fun p => decide (p ≠ port)) then s.inc F.STAIR_TIE_CNT_TIES else s := ⟨_, rfl⟩
  have hys : y.stair = s.stair ∧ y.now = s.now := by rw [hy]; split <;> exact ⟨rfl, rfl⟩
  have harb : s.arbRead port = { y with stair := { y.stair with readPtr := port + 1, reads := (y.now, port :: same) } } := by rw [hy, hsame]; rfl
  rw [harb]
  refine ⟨rfl, (congrArg StairSt.slots hys.1 :), (congrArg StairSt.fifos hys.1 :), hys.2, fun h => ?_, fun h => ?_⟩
  · change y.regs = s.regs
    rw [hy, if_neg (fun e => h (hb.1 e))]
  · change y.regs = _
    rw [hy, if_pos (hb.2 h)]

/-- A re-read is arbitrated, then answered by its slot. -/
theorem ends_windowRead_slot {t : Nat} {P : State → Prop} (hp : (s.tick t).passes addr a false = true) (hd : a.dom = .hub) (hok : s.winAddrOk addr = true)
    (hsz : winSizeOk addr size = true) (hi : (s.inst a.inst).state = .active) (hs : s.slotOf a addr size = some (j, x))
    (hc : x.state = .fetching ∨ t < x.ready + 64000)
    (h : ∀ z : State, z = (s.tick t).okay.arbRead port → P (match x.state with
      | .fetching => z.answer 1 0
      | .ready => (z.freeSlot j).answer 0 x.result
      | .failed => (z.freeSlot j).answer x.status 0)) : Ends (.windowRead t a port addr size) s P := by
  obtain ⟨c, hcdef⟩ : ∃ c, c = (s.tick t).okay := ⟨_, rfl⟩
  have hcs : c.slotOf a addr size = some (j, x) := by rw [hcdef]; exact hs
  obtain ⟨-, hsl, -, hnow, -⟩ := c.arbRead_spec port
  have hz : (c.arbRead port).slotOf a addr size = some (j, x) := by
    unfold State.slotOf at hcs ⊢; rw [hsl]; exact hcs
  have hcl : (c.arbRead port).slotClosed x = false := by
    unfold State.slotClosed State.closed
    rw [hnow, show c.now = t by rw [hcdef]; rfl]
    rcases hc with e | e
    · rw [e]; rfl
    · rw [decide_eq_false (by omega), Bool.and_false]
  refine ends_next_eq (arm_windowRead t a port addr size s) ((windowed_active hp hd hok hsz hi).trans ?_) (h (c.arbRead port) (by rw [hcdef]))
  rw [← hcdef, hcs, ← State.winRead_slot hz hcl]
  exact congrArg (State.winRead · a addr size) (if_pos rfl)

/-- A read of a new key parks. -/
theorem ends_windowRead_new {t : Nat} {P : State → Prop} (hp : (s.tick t).passes addr a false = true) (hd : a.dom = .hub) (hok : s.winAddrOk addr = true)
    (hsz : winSizeOk addr size = true) (hi : (s.inst a.inst).state = .active) (hs : s.slotOf a addr size = none)
    (h : P ((s.tick t).okay.park a addr size)) : Ends (.windowRead t a port addr size) s P := by
  have hcs : (s.tick t).okay.slotOf a addr size = none := hs
  refine ends_next_eq (arm_windowRead t a port addr size s) ((windowed_active hp hd hok hsz hi).trans ?_) h
  rw [hcs]
  refine (congrArg (State.winRead · a addr size) (if_neg (by decide))).trans ?_
  unfold State.winRead
  rw [hcs]

/-- What the arbitration of a re-read leaves, told of the state before the command. -/
theorem arbRead_arbitrated {t : Nat} {z : State} (hz : z = (s.tick t).okay.arbRead port) :
    let tie := s.stair.reads.1 = t ∧ s.stair.reads.2.any (fun p => p ≠ port) = true
    z.stair.readPtr = port + 1 ∧ z.stair.slots = s.stair.slots ∧ z.stair.fifos = s.stair.fifos ∧ (¬ tie → z.regs = s.regs) ∧
    (tie → RegsBut [F.STAIR_TIE_CNT_TIES] s z ∧
      z.rd F.STAIR_TIE_CNT_TIES = min (2 ^ F.STAIR_TIE_CNT_TIES.width - 1) (s.rd F.STAIR_TIE_CNT_TIES + 1)) := by
  intro tie
  obtain ⟨h1, h2, h3, -, h5, h6⟩ := (s.tick t).okay.arbRead_spec port
  rw [hz]
  refine ⟨h1, h2, h3, h5, fun ht => ?_⟩
  have hr := h6 ht
  refine ⟨((RegsBut.refl _ (s.tick t).okay).wr _ ?_).of_regs hr, ?_⟩
  · exact List.mem_map_of_mem List.mem_cons_self
  · rw [State.rd_congr hr, State.rd_inc_min]; rfl

/-- A slot that nobody collects leaves one entry, one count and one record (R220, R223). -/
theorem State.orphan_spec (s : State) (hr : s.stair.orph.length < 16) : (s.orphan j x).stair.slots.find? j = none ∧
    (s.orphan j x).stair.orph = s.stair.orph ++ [⟨x.attr.inst, x.attr.attic, x.status, x.addr, x.size, x.value⟩] ∧
    (s.orphan j x).rd F.STAIR_CNT_ORPHANED = min (2 ^ 16 - 1) (s.rd F.STAIR_CNT_ORPHANED + 1) ∧ WroteOne s (s.orphan j x) 9 1 4 x.attr.inst 7 := by
  obtain ⟨e, he⟩ : ∃ e : OrphEntry, e = ⟨x.attr.inst, x.attr.attic, x.status, x.addr, x.size, x.value⟩ := ⟨_, rfl⟩
  obtain ⟨y, hy⟩ : ∃ y, y = ((s.freeSlot j).inc F.STAIR_CNT_ORPHANED).enterOrph e := ⟨_, rfl⟩
  have hy' : y = ({ (s.freeSlot j).inc F.STAIR_CNT_ORPHANED with
      stair := { ((s.freeSlot j).inc F.STAIR_CNT_ORPHANED).stair with orph := s.stair.orph ++ [e] } } : State).pushed 0x40580030 := by
    rw [hy, State.enterOrph]; exact if_pos hr
  have ho : s.orphan j x = y.record 0x09 0x01 4 e.inst 0x07 [OrphEntry.word e] (sourceWord 0 e.inst 0) := by rw [hy, he]; rfl
  have hreg : y.regs = (s.inc F.STAIR_CNT_ORPHANED).regs := by rw [hy']; rfl
  rw [ho, State.rd_record, State.rd_congr hreg, State.rd_inc_min, State.record_stair, ← he]
  refine ⟨?_, ?_, rfl, ?_⟩
  · rw [hy']; exact Tbl.find?_erase_self ..
  · rw [hy']; rfl
  · have hi : x.attr.inst = e.inst := by rw [he]
    rw [hi]
    exact wroteOne_record (s₁ := y) (by rw [hy']; rfl) rfl

end

/-- Settles O40: a new key parks, a known one is answered by its slot, and a slot left alone is orphaned. -/
theorem stairwellReads : Obligations.StairwellReads := by
  intro s t port addr size j a x hp hd k read tie arbitrated same
  refine ⟨fun hbad => ?_, fun hok hsz hact => ⟨fun hnew hab => ⟨fun hj hfree hlow hroom => ?_, fun hfull => ?_⟩, fun hs hst => ?_, fun hs hst hw => ?_,
    fun hs hst hw => ?_⟩, fun hj hf hst hw hroom => ?_⟩
  · exact ends_next_eq (arm_windowRead t a port addr size s) (windowed_bad hp hd hbad) ⟨rfl, rfl, rfl, rfl⟩
  · obtain ⟨h1, h2, h3, h4, h5, h6⟩ := (s.tick t).okay.parked_spec a addr size j
    refine ends_windowRead_new hp hd hok hsz hact hnew ?_
    rw [State.park_free (s := (s.tick t).okay) hab hact (find_free_slot _ hj hfree hlow) hroom]
    exact ⟨h1, h2, h3, h4, h5, h6⟩
  · refine ends_windowRead_new hp hd hok hsz hact hnew ?_
    rw [State.park_full (s := (s.tick t).okay) hab hact hfull]
    exact ⟨rfl, rfl, State.rd_inc_min _ _⟩
  · refine ends_windowRead_slot hp hd hok hsz hact hs (.inl hst) fun z hz => ?_
    obtain ⟨h1, h2, h3, h4, h5⟩ := arbRead_arbitrated hz
    rw [hst]
    exact ⟨rfl, h2, h3, h1, h4, h5⟩
  · refine ends_windowRead_slot hp hd hok hsz hact hs (.inr hw) fun z hz => ?_
    obtain ⟨h1, h2, h3, h4, h5⟩ := arbRead_arbitrated hz
    rw [hst]
    refine ⟨rfl, Tbl.find?_erase_self .., ⟨h1, h4, h5⟩, fun i hi => (Tbl.find?_erase_ne _ hi.symm).trans ?_⟩
    rw [h2]
  · refine ends_windowRead_slot hp hd hok hsz hact hs (.inr hw) fun z hz => ?_
    obtain ⟨h1, h2, h3, h4, h5⟩ := arbRead_arbitrated hz
    rw [hst]
    exact ⟨rfl, Tbl.find?_erase_self .., h1, h4, h5⟩
  · have hc : (s.tick t).slotClosed x = true := by
      unfold State.slotClosed
      rw [show (s.tick t).closed x.ready 64000 = true from decide_eq_true hw]
      rcases hst with e | e <;> rw [e] <;> rfl
    have hf' : (s.tick t).stair.slots.find? j = some x := hf
    refine ends_unit (x := (s.tick t).orphan j x) (arm_slotOrphanTimeout ..) (decide_eq_true hj) ?_ ?_
    · rw [hf']; exact if_pos hc
    · exact State.orphan_spec (s.tick t) hroom

end Sys2Proof.Machine
end

section
/-! PROOFS. Posted writes, the two logs and the fence: O41. -/

namespace Sys2Proof.Machine

/-! ### Posted writes -/

section
variable {s : State} {t addr size value k j : Nat} {a : Attr} {P : State → Prop}

theorem ends_windowWrite (hp : (s.tick t).passes addr a true = true) (hd : a.dom = .hub) (hok : s.winAddrOk addr = true)
    (hsz : winSizeOk addr size = true) (hi : (s.inst a.inst).state = .active) (h : P ((s.tick t).okay.winWrite a addr size value)) :
    Ends (.windowWrite t a addr size value) s P :=
  ends_next_eq (arm_windowWrite t a addr size value s) (windowed_active hp hd hok hsz hi) h

/-- The number a write of a segment takes (R221). -/
def State.seqOf (s : State) (seg : Nat) : Nat := if seg = 0 then s.stair.nextSeq.1 else s.stair.nextSeq.2

/-- The words of a write, one an access. -/
def winWords (size value : Nat) : List Nat := (List.range (winHalves size)).map fun j => value / 65536 ^ j % 65536

/-- Taking a number moves the counter of the segment and the instance's last number, and nothing else. -/
theorem State.takeSeq_spec (s : State) (seg i : Nat) : (s.takeSeq seg i).1 = s.seqOf seg ∧
    ∃ p f, (s.takeSeq seg i).2 = ({ s with stair := { s.stair with nextSeq := p } } : State).modInst i f ∧
      (if seg = 0 then p.1 else p.2) = (s.seqOf seg + 1) % 65536 ∧ ∀ x, (f x).wseq = (seg, s.seqOf seg) := by
  refine ⟨rfl, if seg = 0 then ((s.stair.nextSeq.1 + 1) % 65536, s.stair.nextSeq.2) else (s.stair.nextSeq.1, (s.stair.nextSeq.2 + 1) % 65536),
    fun x => { x with wseq := (seg, s.seqOf seg), wlast := if seg = 0 then (s.seqOf seg, x.wlast.2) else (x.wlast.1, s.seqOf seg) },
    rfl, ?_, fun x => rfl⟩
  unfold State.seqOf
  by_cases h : seg = 0 <;> simp [h]

/-- An active instance's write takes its number and then is judged (R221, R222). -/
theorem State.winWrite_active (hi : (s.inst a.inst).state = .active) : s.winWrite a addr size value =
    let k := winStn addr
    let y := (s.takeSeq (k / 16) a.inst).2
    let w : PostedWrite := ⟨k / 16, s.seqOf (k / 16), a.inst, addr, size, winWords size value, 0, false⟩
    if size = 1 then y.failWrite w 4 0
    else if (y.stn k).state = .absent then y.failWrite w 3 0
    else if 8 < (y.fifo k).length + (winWords size value).length then y.failWrite w 5 0
    else ({ y with stair := { y.stair with writes := y.stair.writes ++ [w] } } : State).enqAcc k (.write (k / 16) (s.seqOf (k / 16))) a.inst
      (winReg addr) (winWords size value) := by
  unfold State.winWrite
  exact if_neg (by rw [hi]; decide)

/-- A write that fails leaves its entry in the error queue, where there is room, and a record (R222, R223). -/
theorem State.failWrite_spec {w : PostedWrite} {reason : Nat} (hs : w.silent = false)
    (hr : s.stair.pwe.length < 64 ∧ (s.stair.pwe.filter fun x => x.inst = w.inst).length < 8) :
    (s.failWrite w reason 0).resp = s.resp ∧
    (s.failWrite w reason 0).stair.pwe = s.stair.pwe ++ [⟨w.inst, reason, w.done, w.seq, w.addr, w.size, 0, w.halves.getD w.done 0⟩] ∧
    (s.failWrite w reason 0).stair.fifos = s.stair.fifos ∧ WroteOne s (s.failWrite w reason 0) 9 2 4 w.inst 6 := by
  obtain ⟨e, he⟩ : ∃ e : PweEntry, e = ⟨w.inst, reason, w.done, w.seq, w.addr, w.size, 0, w.halves.getD w.done 0⟩ := ⟨_, rfl⟩
  obtain ⟨x, hx⟩ : ∃ x : State, x = { s with stair := { s.stair with writes := s.stair.writes.filter fun x => !(x.seg == w.seg && x.seq == w.seq) } } :=
    ⟨_, rfl⟩
  obtain ⟨y, hy⟩ : ∃ y : State, y = (({ x with stair := { x.stair with pwe := x.stair.pwe ++ [e] } } : State).pweIrq e.inst).pushed 0x40580020 := ⟨_, rfl⟩
  have hroom : x.stair.pwe.length < 64 ∧ (x.stair.pwe.filter fun x => x.inst = e.inst).length < 8 := by rw [hx, he]; exact hr
  have henter : x.enterPwe e = y := by rw [hy, State.enterPwe]; exact if_pos hroom
  have hf : s.failWrite w reason 0 = y.record 0x09 0x02 4 e.inst 0x06 [PweEntry.word e] (sourceWord 0 e.inst 0) := by
    rw [State.failWrite]
    refine (if_neg (by rw [hs]; exact Bool.false_ne_true)).trans ?_
    rw [← he, ← hx, State.pushPwe, henter]
  have hys : y.stair = { x.stair with pwe := x.stair.pwe ++ [e] } ∧ y.resp = x.resp ∧ y.log = x.log := by rw [hy]; exact ⟨rfl, rfl, rfl⟩
  have hxs : x.stair.pwe = s.stair.pwe ∧ x.stair.fifos = s.stair.fifos ∧ x.resp = s.resp ∧ x.log = s.log := by rw [hx]; exact ⟨rfl, rfl, rfl, rfl⟩
  obtain ⟨y1, y2, y3⟩ := hys
  obtain ⟨x1, x2, x3, x4⟩ := hxs
  rw [hf, State.record_resp, State.record_stair, y1]
  refine ⟨y2.trans x3, ?_, x2, ?_⟩
  · change x.stair.pwe ++ [e] = _
    rw [x1, he]
  · rw [show w.inst = e.inst by rw [he]]
    exact wroteOne_record (s₁ := y) (y3.trans x4) rfl

end

/-! ### The two logs -/

section
variable {s : State} {t : Nat} {a : Attr} {P : State → Prop}

/-- The oldest entry may be taken by its own instance, and by the Attic. -/
theorem oldestFor_head {i : Nat} {is : List Nat} (h : a.attic = true ∨ i = a.inst) : oldestFor a (i :: is) = some 0 := by
  have : (a.attic || i == a.inst) = true := by rcases h with h | h <;> simp [h]
  unfold oldestFor
  rw [List.length_cons, List.range_succ_eq_map, List.find?_cons_of_pos]
  exact this

theorem oldestFor_nil : oldestFor a [] = none := rfl

/-- Of entries one of which at least stood there before the clock, the first is among those that may be taken. -/
theorem take_settled_cons {α : Type} {n : Nat} (h : 0 < n) (e : α) (es : List α) (f : α → Nat) :
    ∃ is, ((e :: es).take n).map f = f e :: is := by
  obtain ⟨m, rfl⟩ := Nat.exists_eq_succ_of_ne_zero h.ne'
  exact ⟨(es.take m).map f, rfl⟩

/-- A read of the error queue answers its oldest entry for the transaction and, off the alias, removes it (R223, R10). -/
def State.pweTaken (s : State) (e : PweEntry) : State :=
  let s := { s with stair := { s.stair with pwe := s.stair.pwe.eraseIdx 0 } }
  let s := (s.wr (F.STAIR_PWE_DET_ADDR 0) (winCode e.addr e.size)).wr (F.STAIR_PWE_DET_ADDR 1) (e.accRes % 256 * 65536 + e.half % 65536)
  (s.pweIrq e.inst).answer 0 (PweEntry.word e)

theorem ends_pweRead {peek : Bool} {e : PweEntry} {es : List PweEntry} (hp : (s.tick t).passes (rsAddr 0x40580020 peek) a false = true)
    (hq : s.stair.pwe = e :: es) (hn : 0 < (s.tick t).settled 0x40580020 (es.length + 1)) (ho : a.attic = true ∨ e.inst = a.inst)
    (h : P (if peek then (s.tick t).okay.answer 0 (PweEntry.word e) else (s.tick t).okay.pweTaken e)) : Ends (.pweRead t a peek) s P := by
  have hq' : (s.tick t).okay.stair.pwe = e :: es := hq
  obtain ⟨is, his⟩ := take_settled_cons hn e es PweEntry.inst
  refine ends_next_eq (arm_pweRead t a peek s) ((State.guarded_pass _ hp rfl).trans ?_) h
  have hold : oldestFor a (((e :: es).take ((s.tick t).okay.settled 0x40580020 (e :: es).length)).map PweEntry.inst) = some 0 := by
    rw [show (s.tick t).okay.settled 0x40580020 (e :: es).length = (s.tick t).settled 0x40580020 (es.length + 1) from rfl, his, oldestFor_head ho]
  simp only [hq', hold, List.getElem?_cons_zero]
  split
  · rfl
  · rw [State.pweTaken, hq']

theorem ends_pweRead_empty {peek : Bool} (hp : (s.tick t).passes (rsAddr 0x40580020 peek) a false = true) (hq : s.stair.pwe = [])
    (h : P ((s.tick t).okay.answer 0 0)) : Ends (.pweRead t a peek) s P := by
  have hq' : (s.tick t).okay.stair.pwe = [] := hq
  refine ends_next_eq (arm_pweRead t a peek s) ((State.guarded_pass _ hp rfl).trans ?_) h
  simp only [hq', List.take_nil, List.map_nil, oldestFor_nil]

/-- A read of the orphan log, the same. -/
def State.orphTaken (s : State) (e : OrphEntry) : State :=
  let s := { s with stair := { s.stair with orph := s.stair.orph.eraseIdx 0 } }
  let s := ((s.wr (F.STAIR_ORPH_DET_VALUE 0) (winCode e.addr e.size)).wr (F.STAIR_ORPH_DET_VALUE 1) (e.value % 2 ^ 32)).wr
    (F.STAIR_ORPH_DET_VALUE 2) (e.value / 2 ^ 32)
  s.answer 0 (OrphEntry.word e)

/-- A taken orphan shows the low word of its value. -/
theorem State.orphTaken_value (s : State) (e : OrphEntry) : (s.orphTaken e).rd (F.STAIR_ORPH_DET_VALUE 1) = e.value % 2 ^ 32 := by
  have hv : e.value % 2 ^ 32 < 2 ^ (F.STAIR_ORPH_DET_VALUE 1).width := Nat.mod_lt _ (by decide)
  unfold State.orphTaken
  rw [State.rd_answer, State.rd_wr_ne _ _ (by decide), State.rd_wr_lt _ hv]

theorem ends_orphRead {peek : Bool} {e : OrphEntry} {es : List OrphEntry} (hp : (s.tick t).passes (rsAddr 0x40580030 peek) a false = true)
    (hq : s.stair.orph = e :: es) (hn : 0 < (s.tick t).settled 0x40580030 (es.length + 1)) (ho : a.attic = true ∨ e.inst = a.inst)
    (h : P (if peek then (s.tick t).okay.answer 0 (OrphEntry.word e) else (s.tick t).okay.orphTaken e)) : Ends (.orphRead t a peek) s P := by
  have hq' : (s.tick t).okay.stair.orph = e :: es := hq
  obtain ⟨is, his⟩ := take_settled_cons hn e es OrphEntry.inst
  refine ends_next_eq (arm_orphRead t a peek s) ((State.guarded_pass _ hp rfl).trans ?_) h
  have hold : oldestFor a (((e :: es).take ((s.tick t).okay.settled 0x40580030 (e :: es).length)).map OrphEntry.inst) = some 0 := by
    rw [show (s.tick t).okay.settled 0x40580030 (e :: es).length = (s.tick t).settled 0x40580030 (es.length + 1) from rfl, his, oldestFor_head ho]
  simp only [hq', hold, List.getElem?_cons_zero]
  split
  · rfl
  · rw [State.orphTaken, hq']

end

/-! ### Station interrupts and the fence -/

theorem testBit_maskSet_self (m n : Nat) : (maskSet m n).testBit n = true := by
  simp [maskSet, Nat.testBit_two_pow_self]

theorem State.inst_modInst_self (s : State) (i : Nat) (f : Inst → Inst) : (s.modInst i f).inst i = f (s.inst i) := Tbl.getD_put_self ..

theorem State.inst_modInst_ne (s : State) {i j : Nat} (f : Inst → Inst) (h : i ≠ j) : (s.modInst i f).inst j = s.inst j := Tbl.getD_put_ne _ _ _ h

section
variable {s : State} {t i : Nat}

/-- In a new clock nothing has been set or read before. -/
theorem State.rsTake_newClock (h : s.now ≠ t) (addr v : Nat) : (s.tick t).rsTake addr v = (v, 0) := by
  have hc : (s.tick t).clk = ClockSt.none := if_neg h.symm
  unfold State.rsTake
  rw [hc]
  simp [ClockSt.none, Tbl.getD]

/-- What a table holds after a write is the old or the new. -/
theorem Tbl.mem_insert {α : Type} {m : Tbl α} {v : α} {k : Nat} {x : Nat × α} (h : x ∈ m.insert k v) : x ∈ m ∨ x = (k, v) := by
  induction m with
  | nil => exact .inr (List.mem_singleton.1 h)
  | cons p m ih =>
    obtain ⟨j, w⟩ := p
    unfold Tbl.insert at h
    split at h
    · exact (List.mem_cons.1 h).symm
    · split at h
      · exact (List.mem_cons.1 h).symm.imp_left (List.mem_cons_of_mem _)
      · rcases List.mem_cons.1 h with h | h
        · exact .inl (h ▸ List.mem_cons_self)
        · exact (ih h).imp_left (List.mem_cons_of_mem _)

theorem Tbl.mem_of_mem_erase {α : Type} {m : Tbl α} {k : Nat} {x : Nat × α} (h : x ∈ m.erase k) : x ∈ m := by
  induction m with
  | nil => exact h
  | cons p m ih =>
    obtain ⟨j, w⟩ := p
    unfold Tbl.erase at h
    split at h
    · exact List.mem_cons_of_mem _ (ih h)
    · rcases List.mem_cons.1 h with h | h
      · exact h ▸ List.mem_cons_self
      · exact List.mem_cons_of_mem _ (ih h)

theorem Tbl.mem_put {α : Type} [DecidableEq α] {m : Tbl α} {d v : α} {k : Nat} {x : Nat × α} (h : x ∈ m.put d k v) : x ∈ m ∨ x = (k, v) := by
  unfold Tbl.put at h
  split at h
  · exact .inl (Tbl.mem_of_mem_erase h)
  · exact Tbl.mem_insert h

/-- Every queue that the fence leaves is a queue without the instance's accesses. -/
theorem mem_foldl_put_filter {m : Tbl (List StnAcc)} (l : Tbl (List StnAcc)) (hm : ∀ x ∈ m, ∀ y ∈ x.2, y.inst ≠ i) :
    ∀ x ∈ l.foldl (fun (m : Tbl (List StnAcc)) (x : Nat × List StnAcc) => m.put [] x.1 (x.2.filter fun y => y.inst ≠ i)) m,
      ∀ y ∈ x.2, y.inst ≠ i := by
  induction l generalizing m with
  | nil => exact hm
  | cons p l ih =>
    refine ih fun x hx => ?_
    rcases Tbl.mem_put hx with hx | rfl
    · exact hm x hx
    · exact fun y hy => by simpa using (List.mem_filter.1 hy).2

/-- The fence leaves nothing of the instance but writes already in a POLL, which complete silently (R225). -/
theorem State.fenceStair_spec (s : State) (i : Nat) :
    (∀ x, x ∈ (s.fenceStair i).stair.slots → x.2.attr.inst ≠ i) ∧ (∀ x, x ∈ (s.fenceStair i).stair.pwe → x.inst ≠ i) ∧
    (∀ x, x ∈ (s.fenceStair i).stair.orph → x.inst ≠ i) ∧ (∀ x, x ∈ (s.fenceStair i).stair.writes → x.inst = i → x.silent = true) ∧
    (∀ x, x ∈ (s.fenceStair i).stair.fifos → ∀ y, y ∈ x.2 → y.inst ≠ i) ∧
    (∀ x, x ∈ s.stair.pwe → x.inst ≠ i → x ∈ (s.fenceStair i).stair.pwe) := by
  refine ⟨fun x hx => ?_, fun x hx => ?_, fun x hx => ?_, fun x hx hi => ?_, mem_foldl_put_filter s.stair.fifos (fun x hx => nomatch hx),
    fun x hx hi => List.mem_filter.2 ⟨hx, decide_eq_true hi⟩⟩
  · exact of_decide_eq_true (List.mem_filter.1 hx).2
  · exact of_decide_eq_true (List.mem_filter.1 hx).2
  · exact of_decide_eq_true (List.mem_filter.1 hx).2
  · obtain ⟨w, -, rfl⟩ := List.mem_map.1 hx
    by_cases hw : w.inst = i
    · rw [if_pos hw]
    · rw [if_neg hw] at hi; exact absurd hi hw

end

/-- Settles O41: a write by its checks, a log by its oldest entry, the fence by what it filters. -/
theorem stairwellWritesAndLogs : Obligations.StairwellWritesAndLogs := by
  intro s t addr size value i n seg a peek e o es os hd clock k num halves fails room fresh
  refine ⟨fun hp hok hsz hact => ?_, fun hp => ⟨fun hq hn ho => ?_, fun hq => ?_⟩, fun hp hq hn ho => ?_, fun hseg hn1 hn2 hp => ?_, fun hi haw => ?_⟩
  · obtain ⟨c, hc⟩ : ∃ c, c = clock.okay := ⟨_, rfl⟩
    obtain ⟨-, p, f, hy, hnext, hws⟩ := c.takeSeq_spec (k / 16) a.inst
    obtain ⟨y, hyd⟩ : ∃ y, y = (c.takeSeq (k / 16) a.inst).2 := ⟨_, rfl⟩
    rw [← hyd] at hy
    have hcs : c.stair = s.stair ∧ c.uio = s.uio ∧ c.vim = s.vim ∧ c.regs = s.regs ∧ c.log = s.log ∧ c.resp = ⟨0, 0⟩ := by
      rw [hc]; exact ⟨rfl, rfl, rfl, rfl, rfl, rfl⟩
    obtain ⟨c1, c2, c3, c4, c5, c6⟩ := hcs
    have hnum : c.seqOf (k / 16) = num := by unfold State.seqOf; rw [c1]
    rw [hnum] at hnext hws
    have hyf : y.stair = { s.stair with nextSeq := p } ∧ y.uio = s.uio ∧ y.regs = s.regs ∧ y.log = s.log ∧ y.resp = ⟨0, 0⟩ ∧
        y.inst a.inst = f (c.inst a.inst) := by
      rw [hy, ← c1]
      exact ⟨rfl, c2, c4, c5, c6, Tbl.getD_put_self ..⟩
    obtain ⟨y1, y2, y3, y4, y5, y6⟩ := hyf
    have hystn : y.stn k = s.stn k := by unfold State.stn; rw [y2]
    have hyfifo (i : Nat) : y.fifo i = s.fifo i := by unfold State.fifo; rw [y1]
    have hact' : (c.inst a.inst).state = .active := by unfold State.inst; rw [c3]; exact hact
    have hw := State.winWrite_active (addr := addr) (size := size) (value := value) hact'
    dsimp only at hw
    rw [hnum, ← hyd, hystn, hyfifo] at hw
    have hfail (reason : Nat) (hr : room)
        (h : c.winWrite a addr size value = y.failWrite ⟨k / 16, num, a.inst, addr, size, winWords size value, 0, false⟩ reason 0) : fails reason := by
      refine ends_windowWrite hp hd hok hsz hact ?_
      obtain ⟨f1, f2, f3, r0, w1, w2, w3, w4, w5, w6⟩ := State.failWrite_spec (s := y) (reason := reason)
        (w := ⟨k / 16, num, a.inst, addr, size, winWords size value, 0, false⟩) rfl (by rw [y1]; exact hr)
      rw [y1] at f2 f3
      rw [← hc, h]
      exact ⟨f1.trans y5, f2, f3, r0, w1, w2, w3, w4, w5, w6.trans (by rw [y4])⟩
    refine ⟨fun h1 hab hroom => ?_, fun h1 hr _ => hfail 4 hr (hw.trans (if_pos h1)), fun h1 hab hr _ => hfail 3 hr (hw.trans ((if_neg h1).trans (if_pos hab))),
      fun h1 hab hfull hr _ => hfail 5 hr (hw.trans ((if_neg h1).trans ((if_neg hab).trans (if_pos hfull))))⟩
    refine ends_windowWrite hp hd hok hsz hact ?_
    rw [← hc, hw, if_neg h1, if_neg hab, if_neg (show ¬ 8 < (s.fifo (winStn addr)).length + (winWords size value).length from not_lt.2 hroom)]
    obtain ⟨z, hz⟩ : ∃ z : State, z = { y with stair := { y.stair with writes := y.stair.writes ++
      [⟨k / 16, num, a.inst, addr, size, winWords size value, 0, false⟩] } } := ⟨_, rfl⟩
    have hzf : z.fifo k = s.fifo k := by rw [← hyfifo k, hz]; rfl
    have hzs : z.resp = ⟨0, 0⟩ ∧ z.stair.writes = s.stair.writes ++ [⟨k / 16, num, a.inst, addr, size, halves, 0, false⟩] ∧
        (z.inst a.inst).wseq = (k / 16, num) ∧ z.stair.nextSeq = p ∧ z.regs = s.regs := by
      rw [hz]
      exact ⟨y5, by rw [y1]; rfl, by rw [← hws (c.inst a.inst), ← y6]; rfl, by rw [y1], y3⟩
    obtain ⟨z1, z2, z3, z4, z5⟩ := hzs
    rw [← hz, State.enqAcc, State.fifo_modFifo_self, hzf, List.length_append, List.length_map, List.length_range]
    refine ⟨z1, z2, rfl, z3, ?_, z5⟩
    exact (congrArg (fun q : Nat × Nat => if k / 16 = 0 then q.1 else q.2) z4).trans hnext
  · have hr : (if peek then 0x40588020 else 0x40580020) = rsAddr 0x40580020 peek := by cases peek <;> rfl
    refine ends_pweRead (hr ▸ hp) hq hn ho ?_
    cases peek
    · exact ⟨rfl, congrArg (List.eraseIdx · 0) hq⟩
    · exact ⟨rfl, hq⟩
  · have hr : (if peek then 0x40588020 else 0x40580020) = rsAddr 0x40580020 peek := by cases peek <;> rfl
    exact ends_pweRead_empty (hr ▸ hp) hq ⟨rfl, rfl⟩
  · have hr : (if peek then 0x40588030 else 0x40580030) = rsAddr 0x40580030 peek := by cases peek <;> rfl
    refine ends_orphRead (hr ▸ hp) hq hn ho ?_
    cases peek
    · exact ⟨rfl, congrArg (List.eraseIdx · 0) hq, fun _ => State.orphTaken_value ..⟩
    · exact ⟨rfl, hq, fun h => nomatch h⟩
  · have hr : 0x4060110C + 0x1000 * seg + 0x10 * (n - 1) + (if peek then 0x8000 else 0) = rsAddr (0x4060110C + 0x1000 * seg + 0x10 * (n - 1)) peek := by
      cases peek <;> simp [rsAddr]
    intro irq got
    refine ⟨fun h => State.rsTake_newClock h _ _, ?_⟩
    refine ends_unit (arm_stnIrqRead ..) (decide_eq_true ⟨hseg, hn1, hn2⟩) (State.guarded_pass _ (hr ▸ hp) rfl) ?_
    cases peek
    · exact ⟨rfl, congrArg Station.irq (Tbl.getD_put_self ..)⟩
    · exact ⟨rfl, rfl⟩
  · refine ends_unit (arm_stairFence ..) (decide_eq_true hi) (if_pos haw) ?_
    obtain ⟨h1, h2, h3, h4, h5, h6⟩ := (s.tick t).fenceStair_spec i
    refine ⟨h1, h2, h3, h4, h5, h6, ?_⟩
    rw [State.markDrained, State.inst_modInst_self]
    exact testBit_maskSet_self _ 1

end Sys2Proof.Machine
end

section
/-! PROOFS. The parameter set and the servo: O48. -/

namespace Sys2Proof.Machine

/-! ### What each part of the servo leaves -/

section
variable {s : State} {t : Nat} {a : Attr} {v o : Int} {P : State → Prop}

@[simp] theorem State.noteSync_time (s : State) : s.noteSync.time = s.time := by unfold State.noteSync; split <;> rfl
@[simp] theorem State.noteSync_regs (s : State) : s.noteSync.regs = s.regs := by unfold State.noteSync; split <;> rfl
@[simp] theorem State.noteSync_mem (s : State) : s.noteSync.mem = s.mem := by unfold State.noteSync; split <;> rfl
@[simp] theorem State.noteSync_log (s : State) : s.noteSync.log = s.log := by unfold State.noteSync; split <;> rfl
@[simp] theorem State.noteSync_now (s : State) : s.noteSync.now = s.now := by unfold State.noteSync; split <;> rfl
@[simp] theorem State.rd_noteSync (s : State) (f : Fld) : s.noteSync.rd f = s.rd f := State.rd_congr (State.noteSync_regs s) f

/-- What the time unit keeps for its set and its servo, beside the instants of PPS out. -/
def TimeSt.core (x : TimeSt) : TimeParams × TimeParams × Int × Nat × Nat × Option (Nat × ServoState) × Nat × Nat :=
  (x.par, x.prev, x.integ, x.lastInput, x.busyEnd, x.left, x.ppsTs, x.holdEntry)

theorem State.ppsAfterStep_frame (s : State) : s.ppsAfterStep.regs = s.regs ∧ s.ppsAfterStep.log = s.log ∧ s.ppsAfterStep.mem = s.mem ∧
    s.ppsAfterStep.time.servo = s.time.servo ∧ s.ppsAfterStep.time.core = s.time.core ∧ s.ppsAfterStep.now = s.now := by
  unfold State.ppsAfterStep
  split
  · split <;> exact ⟨rfl, rfl, rfl, rfl, rfl, rfl⟩
  · exact ⟨rfl, rfl, rfl, rfl, rfl, rfl⟩

/-- The fields that the servo writes. -/
def servoFlds : List Fld := [F.TIME_STAT_EPOCH_VALID, F.TIME_STAT_LOCK_RUN, F.TIME_CNT_STEPS]

/-- What a step does beside OFFSET (R281, R293, R299). -/
theorem State.afterStep_spec (hv : v ≠ 0) : (s.afterStep v).rd F.TIME_STAT_EPOCH_VALID = 1 ∧
    (s.afterStep v).rd F.TIME_CNT_STEPS = satSucc F.TIME_CNT_STEPS.width (s.rd F.TIME_CNT_STEPS) ∧ WroteOne s (s.afterStep v) 0x0C 1 5 0 0 ∧
    RegsBut servoFlds s (s.afterStep v) ∧ (s.afterStep v).time.core = s.time.core ∧ (s.afterStep v).mem = s.mem ∧
    (s.time.servo = .locked → (s.afterStep v).time.servo = .acquire ∧ (s.afterStep v).rd F.TIME_STAT_LOCK_RUN = 0) ∧
    (s.time.servo ≠ .locked → (s.afterStep v).time.servo = s.time.servo ∧ (s.afterStep v).rd F.TIME_STAT_LOCK_RUN = s.rd F.TIME_STAT_LOCK_RUN) := by
  obtain ⟨x, hx⟩ : ∃ x, x = (s.inc F.TIME_CNT_STEPS).setF F.TIME_STAT_EPOCH_VALID := ⟨_, rfl⟩
  obtain ⟨y, hy⟩ : ∃ y, y = x.timeRecord 0x01 5 [ofSigned 64 v % 2 ^ 32, ofSigned 64 v / 2 ^ 32] := ⟨_, rfl⟩
  obtain ⟨z, hz⟩ : ∃ z, z = if y.time.servo = .locked then (y.setServo .acquire).wr F.TIME_STAT_LOCK_RUN 0 else y := ⟨_, rfl⟩
  have hs : s.afterStep v = z.ppsAfterStep := by rw [hz, hy, hx]; exact if_neg hv
  obtain ⟨p1, p2, p3, p4, p5, -⟩ := z.ppsAfterStep_frame
  have hyt : y.time = s.time ∧ y.mem = s.mem := by rw [hy, hx]; exact ⟨rfl, rfl⟩
  have hyl : WroteOne s y 0x0C 1 5 0 0 := wroteOne_record (s₁ := x) (by rw [hx]; rfl) (by rw [hy]; rfl)
  have hyr (f : Fld) : y.rd f = x.rd f := by rw [hy]; rfl
  have hxe : x.rd F.TIME_STAT_EPOCH_VALID = 1 := by rw [hx, State.rd_setF_self]; rfl
  have hxc : x.rd F.TIME_CNT_STEPS = satSucc F.TIME_CNT_STEPS.width (s.rd F.TIME_CNT_STEPS) := by
    rw [hx, State.rd_setF_ne _ (by decide), State.rd_inc_self, Nat.mod_eq_of_lt satSucc_lt]
  have hxf : RegsBut servoFlds s x := by
    rw [hx]
    exact ((RegsBut.refl servoFlds s).wr _ (List.mem_map_of_mem (by simp [servoFlds]))).wr _ (List.mem_map_of_mem (by simp [servoFlds]))
  have hxl : x.rd F.TIME_STAT_LOCK_RUN = s.rd F.TIME_STAT_LOCK_RUN := by rw [hx, State.rd_setF_ne _ (by decide), State.rd_inc_ne _ (by decide)]
  have hzs : z.rd F.TIME_STAT_EPOCH_VALID = 1 ∧ z.rd F.TIME_CNT_STEPS = satSucc F.TIME_CNT_STEPS.width (s.rd F.TIME_CNT_STEPS) ∧
      z.log = y.log ∧ RegsBut servoFlds s z ∧ z.time.core = s.time.core ∧ z.mem = s.mem ∧
      (s.time.servo = .locked → z.time.servo = .acquire ∧ z.rd F.TIME_STAT_LOCK_RUN = 0) ∧
      (s.time.servo ≠ .locked → z.time.servo = s.time.servo ∧ z.rd F.TIME_STAT_LOCK_RUN = s.rd F.TIME_STAT_LOCK_RUN) := by
    by_cases hl : s.time.servo = .locked
    · have hz' : z = (y.setServo .acquire).wr F.TIME_STAT_LOCK_RUN 0 := by rw [hz]; exact if_pos (by rw [hyt.1]; exact hl)
      rw [hz']
      refine ⟨?_, ?_, rfl, fun f hf => ?_, (congrArg TimeSt.core hyt.1 :), hyt.2, fun _ => ⟨rfl, State.rd_wr_self ..⟩, fun h => absurd hl h⟩
      · rw [State.rd_wr_ne _ _ (by decide)]; exact (hyr _).trans hxe
      · rw [State.rd_wr_ne _ _ (by decide)]; exact (hyr _).trans hxc
      · rw [State.rd_wr_ne]
        · exact (hyr f).trans (hxf f hf)
        · exact fun e => hf (e ▸ List.mem_map_of_mem (by simp [servoFlds]))
    · have hz' : z = y := by rw [hz]; exact if_neg (by rw [hyt.1]; exact hl)
      rw [hz']
      exact ⟨(hyr _).trans hxe, (hyr _).trans hxc, rfl, fun f hf => (hyr f).trans (hxf f hf), congrArg TimeSt.core hyt.1, hyt.2, fun h => absurd h hl,
        fun _ => ⟨congrArg TimeSt.servo hyt.1, (hyr _).trans hxl⟩⟩
  obtain ⟨z1, z2, z3, z4, z5, z6, z7, z8⟩ := hzs
  have hreg (f : Fld) : (s.afterStep v).rd f = z.rd f := by rw [hs]; exact State.rd_congr p1 f
  refine ⟨(hreg _).trans z1, (hreg _).trans z2, ?_, fun f hf => (hreg f).trans (z4 f hf), ?_, ?_, fun h => ?_, fun h => ?_⟩
  · obtain ⟨r, r1, r2, r3, r4, r5, r6⟩ := hyl
    exact ⟨r, r1, r2, r3, r4, r5, by rw [hs, p2, z3, r6]⟩
  · rw [hs, p5, z5]
  · rw [hs, p3, z6]
  · exact ⟨by rw [hs, p4, (z7 h).1], (hreg _).trans (z7 h).2⟩
  · exact ⟨by rw [hs, p4, (z8 h).1], (hreg _).trans (z8 h).2⟩

theorem State.afterStep_now (s : State) (v : Int) : (s.afterStep v).now = s.now := by
  unfold State.afterStep
  split
  · rfl
  · rw [(State.ppsAfterStep_frame _).2.2.2.2.2]
    split <;> rfl

theorem State.afterStep_zero (s : State) : s.afterStep 0 = s := if_pos rfl

/-! ### T after APPLY -/

theorem ofSigned_emod (w : Nat) (i : Int) : (ofSigned w i : Int) = i % (2 ^ w : Nat) :=
  Int.toNat_of_nonneg (Int.emod_nonneg _ (by exact_mod_cast (Nat.two_pow_pos w).ne'))

theorem ofSigned_congr {w : Nat} {i j : Int} (h : i % (2 ^ w : Nat) = j % (2 ^ w : Nat)) : ofSigned w i = ofSigned w j := by
  unfold ofSigned; rw [h]

/-- A rebased set gives the same T at the apply instant, and a step moves it by the step alone (R279). -/
theorem TimeParams.toT_step_rebase (p : TimeParams) (t : Nat) (r v : Int) :
    ({ (p.rebase t r).step v with applied := t } : TimeParams).toT t = ofSigned 64 ((p.toT t : Int) + v) := by
  unfold TimeParams.toT TimeParams.step TimeParams.rebase
  dsimp only
  refine ofSigned_congr ?_
  rw [ofSigned_emod, ofSigned_emod, ofSigned_emod, Int.sub_self, Int.mul_zero, Int.zero_ediv]
  omega

end

/-! ### An input of the servo -/

section
variable {s : State} {o : Int}

/-- Does an input step T (R292)? -/
def State.jumps (s : State) (o : Int) : Prop :=
  s.rd F.TIME_CFG_STEP_EN ≠ 0 ∧ (s.time.servo = .free ∨ max 1 (s.rd F.TIME_STEP_THRESH_STEP_THRESH) ≤ o.natAbs)

/-- The limit of RATE and of the integrator. -/
def State.rateMax (s : State) : Int := ((s.rd F.TIME_SERVO_LIM_RATE_MAX * 2 ^ 32 / 1000000 : Nat) : Int)

/-- The integrator after an input that moves it. -/
def State.integOf (s : State) (o : Int) : Int :=
  satInt (s.time.integ - (s.rd F.TIME_SERVO_GAIN_KI * o) / 16) (-s.rateMax) s.rateMax

/-- RATE after such an input. -/
def State.rateOf (s : State) (o : Int) : Int :=
  satInt (s.integOf o - (s.rd F.TIME_SERVO_GAIN_KP * o) / 16) (-s.rateMax) s.rateMax

/-- An input that steps T: the set, the integrator, LOCK_RUN and the state it leaves (R292, R293). -/
theorem State.servoUpdate_jump (h : s.jumps o) : let r := s.servoUpdate o
    r.2 = decide (o ≠ 0) ∧ r.1.time.par = (if o = 0 then s.time.par else { s.time.par.step (-o) with applied := s.now }) ∧
    r.1.time.integ = s.time.par.rate ∧ r.1.time.lastInput = s.time.lastInput ∧ r.1.time.ppsTs = s.time.ppsTs ∧ r.1.mem = s.mem ∧
    RegsBut servoFlds s r.1 ∧ r.1.rd F.TIME_STAT_LOCK_RUN = 0 ∧
    (s.rd F.TIME_STAT_EPOCH_VALID = 1 → r.1.rd F.TIME_STAT_EPOCH_VALID = 1) ∧
    r.1.time.servo = if s.time.servo = .locked ∧ o ≠ 0 then .acquire else s.time.servo := by
  intro r
  obtain ⟨x, hx⟩ : ∃ x : State, x = if o = 0 then s else s.setParams (s.time.par.step (-o)) := ⟨_, rfl⟩
  obtain ⟨y, hy⟩ : ∃ y : State, y = ({ x with time := { x.time with integ := s.time.par.rate } } : State).wr F.TIME_STAT_LOCK_RUN 0 := ⟨_, rfl⟩
  have hr : r = (y.afterStep (-o), decide (o ≠ 0)) := by
    rw [hy, hx]; exact if_pos ⟨State.flag_eq_true.2 h.1, h.2⟩
  have hxs : x.time.par = (if o = 0 then s.time.par else { s.time.par.step (-o) with applied := s.now }) ∧ x.time.lastInput = s.time.lastInput ∧
      x.time.ppsTs = s.time.ppsTs ∧ x.time.servo = s.time.servo ∧ x.regs = s.regs ∧ x.mem = s.mem := by
    rw [hx]
    by_cases ho : o = 0
    · rw [if_pos ho, if_pos ho]; exact ⟨rfl, rfl, rfl, rfl, rfl, rfl⟩
    · rw [if_neg ho, if_neg ho]; exact ⟨rfl, rfl, rfl, rfl, rfl, rfl⟩
  obtain ⟨x1, x2, x3, x4, x5, x6⟩ := hxs
  have hys : y.time.par = x.time.par ∧ y.time.integ = s.time.par.rate ∧ y.time.lastInput = x.time.lastInput ∧ y.time.ppsTs = x.time.ppsTs ∧
      y.time.servo = x.time.servo ∧ y.mem = x.mem := by rw [hy]; exact ⟨rfl, rfl, rfl, rfl, rfl, rfl⟩
  obtain ⟨y1, y2, y3, y4, y5, y6⟩ := hys
  have hyl : y.rd F.TIME_STAT_LOCK_RUN = 0 := by rw [hy]; exact State.rd_wr_self ..
  have hyb : RegsBut [F.TIME_STAT_LOCK_RUN] s y := by
    rw [hy]
    exact fun f hf => (State.rd_wr_ne _ _ fun e => hf (e ▸ List.mem_map_of_mem List.mem_cons_self)).trans (State.rd_congr x5 f)
  have hsub (f : Fld) (hf : f.key ∉ servoFlds.map Fld.key) : f.key ∉ [F.TIME_STAT_LOCK_RUN].map Fld.key := fun hm =>
    hf (List.map_subset Fld.key (by simp [servoFlds]) hm)
  rw [hr]
  by_cases ho : o = 0
  · subst ho
    have h0 : y.afterStep (-0) = y := by rw [neg_zero]; exact y.afterStep_zero
    rw [h0]
    exact ⟨rfl, y1.trans x1, y2, y3.trans x2, y4.trans x3, y6.trans x6, fun f hf => hyb f (hsub f hf), hyl,
      fun he => (hyb _ (by decide)).trans he, by rw [if_neg (by simp)]; exact y5.trans x4⟩
  · obtain ⟨a1, -, -, a4, a5, a6, a7, a8⟩ := State.afterStep_spec (s := y) (neg_ne_zero.2 ho)
    have hc : ((y.afterStep (-o)).time.par, (y.afterStep (-o)).time.integ, (y.afterStep (-o)).time.lastInput, (y.afterStep (-o)).time.ppsTs) =
        (y.time.par, y.time.integ, y.time.lastInput, y.time.ppsTs) := congrArg (fun c => (c.1, c.2.2.1, c.2.2.2.1, c.2.2.2.2.2.2.1)) a5
    obtain ⟨c1, c2, c3, c4⟩ := (by simpa only [Prod.mk.injEq] using hc : _ ∧ _ ∧ _ ∧ _)
    refine ⟨rfl, c1.trans (y1.trans x1), c2.trans y2, c3.trans (y3.trans x2), c4.trans (y4.trans x3), a6.trans (y6.trans x6),
      fun f hf => (a4 f hf).trans (hyb f (hsub f hf)), ?_, fun _ => a1, ?_⟩
    · by_cases hl : y.time.servo = .locked
      · exact (a7 hl).2
      · exact (a8 hl).2.trans hyl
    · by_cases hl : s.time.servo = .locked
      · rw [if_pos ⟨hl, ho⟩]; exact (a7 (y5.trans (x4.trans hl))).1
      · rw [if_neg fun e => hl e.1]; exact (a8 (by rw [y5, x4]; exact hl)).1.trans (y5.trans x4)

/-- An input that does not step T moves the integrator and RATE. -/
theorem State.servoUpdate_rate (h : ¬ s.jumps o) : let r := s.servoUpdate o
    r.2 = false ∧ r.1.time.par = { s.time.par.rebase s.now (s.rateOf o) with applied := s.now } ∧ r.1.time.integ = s.integOf o ∧
    r.1.time.lastInput = s.time.lastInput ∧ r.1.time.ppsTs = s.time.ppsTs ∧ r.1.mem = s.mem ∧ RegsBut [F.TIME_STAT_LOCK_RUN] s r.1 ∧
    r.1.time.servo = s.time.servo ∧
    r.1.rd F.TIME_STAT_LOCK_RUN = if o.natAbs < s.rd F.TIME_SERVO_LIM_LOCK_THRESH then satSucc F.TIME_STAT_LOCK_RUN.width (s.rd F.TIME_STAT_LOCK_RUN)
      else 0 := by
  intro r
  obtain ⟨y, hy⟩ : ∃ y : State, y = { s.setParams (s.time.par.rebase s.now (s.rateOf o)) with
      time := { (s.setParams (s.time.par.rebase s.now (s.rateOf o))).time with integ := s.integOf o } } := ⟨_, rfl⟩
  have hr : r = (if o.natAbs < s.rd F.TIME_SERVO_LIM_LOCK_THRESH then y.inc F.TIME_STAT_LOCK_RUN else y.wr F.TIME_STAT_LOCK_RUN 0, false) := by
    rw [hy]; exact if_neg fun e => h ⟨State.flag_eq_true.1 e.1, e.2⟩
  have hyr (f : Fld) : y.rd f = s.rd f := by rw [hy]; rfl
  have hk : F.TIME_STAT_LOCK_RUN.key ∈ [F.TIME_STAT_LOCK_RUN].map Fld.key := List.mem_map_of_mem List.mem_cons_self
  rw [hr]
  split
  · refine ⟨rfl, by rw [hy]; rfl, by rw [hy]; rfl, by rw [hy]; rfl, by rw [hy]; rfl, by rw [hy]; rfl, fun f hf => ?_, by rw [hy]; rfl, ?_⟩
    · exact (State.rd_inc_ne _ fun e => hf (e ▸ hk)).trans (hyr f)
    · exact (State.rd_inc_self ..).trans ((Nat.mod_eq_of_lt satSucc_lt).trans (congrArg _ (hyr _)))
  · refine ⟨rfl, by rw [hy]; rfl, by rw [hy]; rfl, by rw [hy]; rfl, by rw [hy]; rfl, by rw [hy]; rfl, fun f hf => ?_, by rw [hy]; rfl, ?_⟩
    · exact (State.rd_wr_ne _ _ fun e => hf (e ▸ hk)).trans (hyr f)
    · exact State.rd_wr_self ..

/-- ACQUIRE locks when LOCK_RUN has reached LOCK_CNT. -/
theorem State.tryLock_spec (h : s.time.servo = .acquire) : s.tryLock.regs = s.regs ∧ s.tryLock.mem = s.mem ∧
    s.tryLock.time = { s.time with servo := if s.rd F.TIME_SERVO_LIM_LOCK_CNT ≤ s.rd F.TIME_STAT_LOCK_RUN then .locked else .acquire } := by
  unfold State.tryLock
  by_cases hc : s.rd F.TIME_SERVO_LIM_LOCK_CNT ≤ s.rd F.TIME_STAT_LOCK_RUN
  · rw [if_pos ⟨h, hc⟩, if_pos hc]; exact ⟨rfl, rfl, rfl⟩
  · rw [if_neg fun e => hc e.2, if_neg hc, ← h]; exact ⟨rfl, rfl, rfl⟩

/-- The states in which an input begins or continues an acquisition. -/
def ServoState.acquires : ServoState → Bool
  | .free | .holdover | .acquire => true
  | .locked | .grandmaster => false

theorem State.servoNext_acquires {b : ServoState} {st : Bool} (hb : b.acquires = true) (hs : b = .acquire → s.time.servo = .acquire) :
    (s.servoNext b o st).regs = s.regs ∧ (s.servoNext b o st).mem = s.mem ∧
    (s.servoNext b o st).time = { s.time with servo := if s.rd F.TIME_SERVO_LIM_LOCK_CNT ≤ s.rd F.TIME_STAT_LOCK_RUN then .locked else .acquire } := by
  cases b with
  | free => exact State.tryLock_spec (s := s.setServo .acquire) rfl
  | holdover => exact State.tryLock_spec (s := s.setServo .acquire) rfl
  | acquire => exact State.tryLock_spec (hs rfl)
  | locked => exact absurd hb (by decide)
  | grandmaster => exact absurd hb (by decide)

theorem State.servoNext_locked_loses {st : Bool} (h : st = true ∨ 4 * s.rd F.TIME_SERVO_LIM_LOCK_THRESH ≤ o.natAbs) :
    s.servoNext .locked o st = (s.setServo .acquire).wr F.TIME_STAT_LOCK_RUN 0 := if_pos h

theorem State.servoNext_locked_stays {st : Bool} (h : ¬ (st = true ∨ 4 * s.rd F.TIME_SERVO_LIM_LOCK_THRESH ≤ o.natAbs)) :
    s.servoNext .locked o st = s := if_neg h

/-- An input in process, before the update of R292. -/
def State.offered (s : State) (o : Int) : State :=
  let s := { s with time := { s.time with busyEnd := s.now + 50, lastInput := s.now } }
  (s.wr F.TIME_LAST_O_O (ofSigned 32 o)).setF F.TIME_STAT_EPOCH_VALID

theorem State.servoInput_busy (h : s.now < s.time.busyEnd) : s.servoInput o = s.inc F.TIME_CNT_IN_REFUSED := if_pos h

theorem State.servoInput_taken (h : s.time.busyEnd ≤ s.now) : s.servoInput o =
    let x := s.inputFirst.offered o
    ((x.servoUpdate o).1.servoNext x.time.servo o (x.servoUpdate o).2).noteSync := if_neg (not_lt.2 h)

/-- No window closed in this clock: the input is taken in the state that stands. -/
theorem State.inputFirst_none (h : s.time.left.map (·.1) ≠ some s.now) : s.inputFirst = s := by
  unfold State.inputFirst
  cases hl : s.time.left with
  | none => rfl
  | some p =>
    obtain ⟨t, v⟩ := p
    rw [hl] at h
    exact if_neg fun e => h (congrArg some e)

theorem State.inputFirst_some {v : ServoState} (h : s.time.left = some (s.now, v)) :
    s.inputFirst.time = { s.time with servo := v, left := none } ∧ s.inputFirst.regs = s.regs ∧ s.inputFirst.now = s.now := by
  unfold State.inputFirst
  simp only [h, if_pos]
  exact ⟨trivial, trivial, trivial⟩

theorem State.offered_spec (s : State) (o : Int) : (s.offered o).time = { s.time with busyEnd := s.now + 50, lastInput := s.now } ∧
    (s.offered o).mem = s.mem ∧ (s.offered o).now = s.now ∧ (s.offered o).rd F.TIME_LAST_O_O = ofSigned 32 o ∧
    (s.offered o).rd F.TIME_STAT_EPOCH_VALID = 1 ∧ RegsBut [F.TIME_LAST_O_O, F.TIME_STAT_EPOCH_VALID] s (s.offered o) := by
  refine ⟨rfl, rfl, rfl, ?_, State.rd_setF_self .., fun f hf => ?_⟩
  · exact (State.rd_setF_ne _ (by decide)).trans (State.rd_wr_lt _ (ofSigned_lt 32 o))
  · exact (State.rd_setF_ne _ fun e => hf (e ▸ List.mem_map_of_mem (by simp))).trans
      (State.rd_wr_ne _ _ fun e => hf (e ▸ List.mem_map_of_mem (by simp)))

/-- What depends on the settings of the servo alone stands while an input is offered. -/
theorem State.offered_settings (s : State) (o : Int) : ((s.offered o).jumps o ↔ s.jumps o) ∧ (s.offered o).integOf o = s.integOf o ∧
    (s.offered o).rateOf o = s.rateOf o := by
  obtain ⟨h1, -, -, -, -, h6⟩ := s.offered_spec o
  have hr (f : Fld) (hf : f ∈ [F.TIME_CFG_STEP_EN, F.TIME_STEP_THRESH_STEP_THRESH, F.TIME_SERVO_LIM_RATE_MAX, F.TIME_SERVO_GAIN_KI, F.TIME_SERVO_GAIN_KP]) :
      (s.offered o).rd f = s.rd f := h6 f (by
    revert hf; simp only [List.mem_cons, List.not_mem_nil, or_false]; rintro (rfl | rfl | rfl | rfl | rfl) <;> decide)
  have hi : (s.offered o).integOf o = s.integOf o := by
    unfold State.integOf State.rateMax
    rw [h1, hr F.TIME_SERVO_LIM_RATE_MAX (by simp), hr F.TIME_SERVO_GAIN_KI (by simp)]
  refine ⟨?_, hi, ?_⟩
  · unfold State.jumps
    rw [h1, hr F.TIME_CFG_STEP_EN (by simp), hr F.TIME_STEP_THRESH_STEP_THRESH (by simp)]
  · unfold State.rateOf State.rateMax
    rw [hi, hr F.TIME_SERVO_LIM_RATE_MAX (by simp), hr F.TIME_SERVO_GAIN_KP (by simp)]

/-- What the change of state keeps: the set, the integrator, the input's instant, and every field but LOCK_RUN. -/
theorem State.servoNext_frame (s : State) (b : ServoState) (o : Int) (st : Bool) :
    (s.servoNext b o st).time.par = s.time.par ∧ (s.servoNext b o st).time.integ = s.time.integ ∧
    (s.servoNext b o st).time.lastInput = s.time.lastInput ∧ (s.servoNext b o st).time.ppsTs = s.time.ppsTs ∧ (s.servoNext b o st).mem = s.mem ∧
    RegsBut [F.TIME_STAT_LOCK_RUN] s (s.servoNext b o st) ∧
    ((s.servoNext b o st).rd F.TIME_STAT_LOCK_RUN = s.rd F.TIME_STAT_LOCK_RUN ∨
      (s.servoNext b o st).rd F.TIME_STAT_LOCK_RUN = 0 ∧ (st = true ∨ 4 * s.rd F.TIME_SERVO_LIM_LOCK_THRESH ≤ o.natAbs)) := by
  have hlock (x : State) : x.tryLock.time.par = x.time.par ∧ x.tryLock.time.integ = x.time.integ ∧ x.tryLock.time.lastInput = x.time.lastInput ∧
      x.tryLock.time.ppsTs = x.time.ppsTs ∧ x.tryLock.mem = x.mem ∧ RegsBut [F.TIME_STAT_LOCK_RUN] x x.tryLock ∧
      (x.tryLock.rd F.TIME_STAT_LOCK_RUN = x.rd F.TIME_STAT_LOCK_RUN ∨
        x.tryLock.rd F.TIME_STAT_LOCK_RUN = 0 ∧ (st = true ∨ 4 * x.rd F.TIME_SERVO_LIM_LOCK_THRESH ≤ o.natAbs)) := by
    have h : x.tryLock.regs = x.regs := by unfold State.tryLock; split <;> rfl
    refine ⟨?_, ?_, ?_, ?_, ?_, (RegsBut.refl _ x).of_regs h, .inl (State.rd_congr h _)⟩ <;> unfold State.tryLock <;> split <;> rfl
  have hstay : s.time.par = s.time.par ∧ s.time.integ = s.time.integ ∧ s.time.lastInput = s.time.lastInput ∧ s.time.ppsTs = s.time.ppsTs ∧
      s.mem = s.mem ∧ RegsBut [F.TIME_STAT_LOCK_RUN] s s ∧ (s.rd F.TIME_STAT_LOCK_RUN = s.rd F.TIME_STAT_LOCK_RUN ∨
        s.rd F.TIME_STAT_LOCK_RUN = 0 ∧ (st = true ∨ 4 * s.rd F.TIME_SERVO_LIM_LOCK_THRESH ≤ o.natAbs)) :=
    ⟨rfl, rfl, rfl, rfl, rfl, RegsBut.refl _ s, .inl rfl⟩
  cases b with
  | free => exact hlock (s.setServo .acquire)
  | holdover => exact hlock (s.setServo .acquire)
  | acquire => exact hlock s
  | grandmaster => exact hstay
  | locked =>
    by_cases h : st = true ∨ 4 * s.rd F.TIME_SERVO_LIM_LOCK_THRESH ≤ o.natAbs
    · rw [State.servoNext_locked_loses h]
      exact ⟨rfl, rfl, rfl, rfl, rfl, (RegsBut.refl _ _).wr 0 (List.mem_map_of_mem List.mem_cons_self), .inr ⟨State.rd_wr_self .., h⟩⟩
    · rw [State.servoNext_locked_stays h]; exact hstay

/-- The lock threshold, which an input leaves. -/
abbrev State.lockLim (s : State) : Nat := s.rd F.TIME_SERVO_LIM_LOCK_THRESH

/-- What an accepted input leaves of the time unit, in a clock in which no window has closed (R292, R293). -/
theorem State.servoInput_spec (hb : s.time.busyEnd ≤ s.now) (hl : s.time.left.map (·.1) ≠ some s.now) : let y := s.servoInput o
    y.time.lastInput = s.now ∧ y.time.ppsTs = s.time.ppsTs ∧ y.mem = s.mem ∧ y.rd F.TIME_LAST_O_O = ofSigned 32 o ∧
    y.rd F.TIME_STAT_EPOCH_VALID = 1 ∧ RegsBut (F.TIME_LAST_O_O :: servoFlds) s y ∧
    (s.jumps o → y.time.integ = s.time.par.rate ∧ y.rd F.TIME_STAT_LOCK_RUN = 0 ∧
      y.time.par = if o = 0 then s.time.par else { s.time.par.step (-o) with applied := s.now }) ∧
    (¬ s.jumps o → y.time.integ = s.integOf o ∧ y.time.par = s.time.par.rebase s.now (s.rateOf o) ∧
      (s.lockLim ≤ o.natAbs → y.rd F.TIME_STAT_LOCK_RUN = 0) ∧
      (o.natAbs < s.lockLim → y.rd F.TIME_STAT_LOCK_RUN = satSucc F.TIME_STAT_LOCK_RUN.width (s.rd F.TIME_STAT_LOCK_RUN))) ∧
    (s.time.servo.acquires = true → y.time.servo = if s.rd F.TIME_SERVO_LIM_LOCK_CNT ≤ y.rd F.TIME_STAT_LOCK_RUN then .locked else .acquire) ∧
    (s.time.servo = .locked → ((s.jumps o ∧ o ≠ 0) ∨ 4 * s.lockLim ≤ o.natAbs → y.time.servo = .acquire) ∧
      (¬ ((s.jumps o ∧ o ≠ 0) ∨ 4 * s.lockLim ≤ o.natAbs) → y.time.servo = .locked)) ∧
    (s.time.servo = .grandmaster → y.time.servo = .grandmaster) := by
  intro y
  obtain ⟨x, hx⟩ : ∃ x, x = s.offered o := ⟨_, rfl⟩
  obtain ⟨r, hr⟩ : ∃ r, r = x.servoUpdate o := ⟨_, rfl⟩
  obtain ⟨w, hw⟩ : ∃ w, w = r.1.servoNext s.time.servo o r.2 := ⟨_, rfl⟩
  obtain ⟨x1, x2, x3, x4, x5, x6⟩ := s.offered_spec o
  obtain ⟨e1, e2, e3⟩ := s.offered_settings o
  rw [← hx] at x1 x2 x3 x4 x5 x6 e1 e2 e3
  have hxs : x.time.servo = s.time.servo ∧ x.time.par = s.time.par ∧ x.time.lastInput = s.now ∧ x.time.ppsTs = s.time.ppsTs := by
    rw [x1]; exact ⟨rfl, rfl, rfl, rfl⟩
  obtain ⟨xs, xp, xi, xt⟩ := hxs
  have hy : y = w.noteSync := by
    rw [hw, hr, ← xs, hx]
    exact (State.servoInput_taken hb).trans (by rw [State.inputFirst_none hl])
  have hlim : x.rd F.TIME_SERVO_LIM_LOCK_THRESH = s.lockLim := x6 _ (by decide)
  obtain ⟨w1, w2, w3, w4, w5, w6, w7⟩ := r.1.servoNext_frame s.time.servo o r.2
  rw [← hw] at w1 w2 w3 w4 w5 w6 w7
  rw [hy, State.noteSync_time, State.noteSync_mem]
  simp only [State.rd_noteSync]
  have hsub (f : Fld) (hf : f.key ∉ (F.TIME_LAST_O_O :: servoFlds).map Fld.key) : f.key ∉ [F.TIME_LAST_O_O, F.TIME_STAT_EPOCH_VALID].map Fld.key ∧
      f.key ∉ servoFlds.map Fld.key ∧ f.key ∉ [F.TIME_STAT_LOCK_RUN].map Fld.key := by
    refine ⟨fun hm => hf ?_, fun hm => hf ?_, fun hm => hf ?_⟩
    · exact List.map_subset Fld.key (by simp [servoFlds]) hm
    · exact List.mem_cons_of_mem _ hm
    · exact List.map_subset Fld.key (by simp [servoFlds]) hm
  -- the state of the servo, from that after the update and from whether T stepped
  have hservo (hz : s.time.servo ≠ .locked → r.1.time.servo = s.time.servo) (hb : RegsBut servoFlds x r.1) :
      (s.time.servo.acquires = true → w.time.servo = if s.rd F.TIME_SERVO_LIM_LOCK_CNT ≤ w.rd F.TIME_STAT_LOCK_RUN then .locked else .acquire) ∧
      (s.time.servo = .locked → (r.2 = true ∨ 4 * s.lockLim ≤ o.natAbs → w.time.servo = .acquire) ∧
        (¬ (r.2 = true ∨ 4 * s.lockLim ≤ o.natAbs) → w.time.servo = r.1.time.servo)) ∧
      (s.time.servo = .grandmaster → w.time.servo = .grandmaster) := by
    have hlim' : r.1.rd F.TIME_SERVO_LIM_LOCK_THRESH = s.lockLim := (hb _ (by decide)).trans hlim
    refine ⟨fun ha => ?_, fun hlk => ⟨fun h => ?_, fun h => ?_⟩, fun hg => ?_⟩
    · have hnl : s.time.servo ≠ .locked := fun e => by rw [e] at ha; exact absurd ha (by decide)
      obtain ⟨a1, -, a3⟩ := State.servoNext_acquires (s := r.1) (o := o) (st := r.2) ha fun e => (hz hnl).trans e
      rw [← hw] at a1 a3
      rw [a3, State.rd_congr a1, hb F.TIME_SERVO_LIM_LOCK_CNT (by decide), x6 F.TIME_SERVO_LIM_LOCK_CNT (by decide)]
    · rw [hw, hlk, State.servoNext_locked_loses (by rw [hlim']; exact h)]; rfl
    · rw [hw, hlk, State.servoNext_locked_stays (by rw [hlim']; exact h)]
    · rw [hw, hg]; exact (hz (by rw [hg]; decide)).trans hg
  by_cases hj : s.jumps o
  · obtain ⟨r1, r2, r3, r4, r5, r6, r7, r8, r9, r10⟩ := State.servoUpdate_jump (e1.2 hj)
    rw [← hr] at r1 r2 r3 r4 r5 r6 r7 r8 r9 r10
    rw [xp, x3] at r2
    have hz : s.time.servo ≠ .locked → r.1.time.servo = s.time.servo := fun h => by rw [r10, xs, if_neg fun e => h e.1]
    obtain ⟨s1, s2, s3⟩ := hservo hz r7
    have hst : r.2 = true ↔ o ≠ 0 := by rw [r1]; exact decide_eq_true_iff
    refine ⟨w3.trans (r4.trans xi), w4.trans (r5.trans xt), w5.trans (r6.trans x2), (w6 _ (by decide)).trans ((r7 _ (by decide)).trans x4),
      (w6 _ (by decide)).trans (r9 x5), fun f hf => ?_, fun _ => ⟨w2.trans (r3.trans (by rw [xp])), ?_, w1.trans r2⟩, fun h => absurd hj h, s1,
      fun hlk => ⟨fun h => ?_, fun h => ?_⟩, s3⟩
    · exact (State.rd_noteSync ..).trans ((w6 f (hsub f hf).2.2).trans ((r7 f (hsub f hf).2.1).trans (x6 f (hsub f hf).1)))
    · rcases w7 with h | h
      · exact h.trans r8
      · exact h.1
    · exact (s2 hlk).1 (h.imp_left fun e => hst.2 e.2)
    · have hn : ¬ (r.2 = true ∨ 4 * s.lockLim ≤ o.natAbs) := fun e => h (e.imp_left fun e => ⟨hj, hst.1 e⟩)
      have h0 : ¬ (x.time.servo = .locked ∧ o ≠ 0) := fun e => h (.inl ⟨hj, e.2⟩)
      rw [(s2 hlk).2 hn, r10, if_neg h0, xs, hlk]
  · obtain ⟨r1, r2, r3, r4, r5, r6, r7, r8, r9⟩ := State.servoUpdate_rate (fun e => hj (e1.1 e))
    rw [← hr] at r1 r2 r3 r4 r5 r6 r7 r8 r9
    have hb : RegsBut servoFlds x r.1 := fun f hf => r7 f fun hm => hf (List.map_subset Fld.key (by simp [servoFlds]) hm)
    obtain ⟨s1, s2, s3⟩ := hservo (fun _ => r8.trans xs) hb
    have hno : ¬ (r.2 = true) := by rw [r1]; exact Bool.false_ne_true
    refine ⟨w3.trans (r4.trans xi), w4.trans (r5.trans xt), w5.trans (r6.trans x2), (w6 _ (by decide)).trans ((r7 _ (by decide)).trans x4),
      (w6 _ (by decide)).trans ((r7 _ (by decide)).trans x5), fun f hf => ?_, fun h => absurd h hj,
      fun _ => ⟨w2.trans (r3.trans e2), ?_, fun h => ?_, fun h => ?_⟩, s1, fun hlk => ⟨fun h => ?_, fun h => ?_⟩, s3⟩
    · exact (State.rd_noteSync ..).trans ((w6 f (hsub f hf).2.2).trans ((r7 f (hsub f hf).2.2).trans (x6 f (hsub f hf).1)))
    · rw [w1, r2, xp, x3, e3]; rfl
    · rcases w7 with e | e
      · rw [e, r9, hlim, if_neg (not_lt.2 h)]
      · exact e.1
    · rcases w7 with e | e
      · rw [e, r9, hlim, if_pos h, x6 _ (by decide)]
      · refine absurd e.2 ?_
        rintro (e | e)
        · exact hno e
        · rw [hb F.TIME_SERVO_LIM_LOCK_THRESH (by decide), hlim] at e; omega
    · exact (s2 hlk).1 (.inr (h.resolve_left fun e => hj e.1))
    · rw [(s2 hlk).2 fun e => h (.inr (e.resolve_left hno)), r8, xs, hlk]

end

/-! ### APPLY, TIME_CFG and the windows -/

section
variable {s : State} {t : Nat} {a : Attr} {w : Word} {o : Int} {P : State → Prop}

theorem ends_timeApply (hp : (s.tick t).passes F.TIME_ADJ_CTL_ADJ_REFUSED.addr a true = true) (h0 : s.timeSrc = 0)
    (h : P (s.tick t).okay.applyAdj) : Ends (.timeApply t a) s P :=
  ends_next_eq (arm_timeApply t a s) ((State.guarded_pass _ hp rfl).trans (if_pos h0)) h

/-- The state in which APPLY has put the new set in force. -/
def State.adjusted (s : State) (v : Int) : State :=
  s.setParams ((s.time.par.rebase s.now (toSigned 32 (s.rd F.TIME_ADJ_RATE_ADJ_RATE))).step v)

theorem State.applyAdj_eq {v : Int} (hv : v = toSigned 64 (s.rd64 F.TIME_ADJ_STEP_STEP)) :
    s.applyAdj = ((s.adjusted v).afterStep v).noteSync := by subst hv; rfl

/-- A set that is in force at `now` gives T. -/
theorem State.tNow_eq (h : s.time.par.applied ≤ s.now) : s.tNow = s.time.par.toT s.now := if_pos h

/-- What APPLY leaves (R279, R294). -/
theorem State.applyAdj_spec {v : Int} (hv : v = toSigned 64 (s.rd64 F.TIME_ADJ_STEP_STEP)) : let y := s.applyAdj
    y.time.par = { (s.time.par.rebase s.now (toSigned 32 (s.rd F.TIME_ADJ_RATE_ADJ_RATE))).step v with applied := s.now } ∧
    y.time.prev = s.time.par ∧ y.tNow = ofSigned 64 ((s.time.par.toT s.now : Int) + v) ∧ y.mem = s.mem ∧
    (v = 0 → y.regs = s.regs ∧ y.log = s.log ∧ y.time.servo = s.time.servo) ∧
    (v ≠ 0 → y.rd F.TIME_STAT_EPOCH_VALID = 1 ∧ WroteOne s y 0x0C 1 5 0 0 ∧
      y.rd F.TIME_CNT_STEPS = satSucc F.TIME_CNT_STEPS.width (s.rd F.TIME_CNT_STEPS) ∧
      (s.time.servo = .locked → y.time.servo = .acquire ∧ y.rd F.TIME_STAT_LOCK_RUN = 0)) := by
  intro y
  obtain ⟨z, hz⟩ : ∃ z, z = s.adjusted v := ⟨_, rfl⟩
  have hy : y = (z.afterStep v).noteSync := by rw [hz]; exact State.applyAdj_eq hv
  have hzs : z.time.par = { (s.time.par.rebase s.now (toSigned 32 (s.rd F.TIME_ADJ_RATE_ADJ_RATE))).step v with applied := s.now } ∧
      z.time.prev = s.time.par ∧ z.time.servo = s.time.servo ∧ z.mem = s.mem ∧ z.regs = s.regs ∧ z.log = s.log ∧ z.now = s.now := by
    rw [hz]; exact ⟨rfl, rfl, rfl, rfl, rfl, rfl, rfl⟩
  obtain ⟨z1, z2, z3, z4, z5, z6, z7⟩ := hzs
  have hcore : (z.afterStep v).time.par = z.time.par ∧ (z.afterStep v).time.prev = z.time.prev ∧ (z.afterStep v).mem = z.mem ∧
      (z.afterStep v).now = z.now := by
    by_cases h0 : v = 0
    · rw [h0, z.afterStep_zero]; exact ⟨rfl, rfl, rfl, rfl⟩
    · obtain ⟨-, -, -, -, a5, a6, -, -⟩ := State.afterStep_spec (s := z) h0
      exact ⟨congrArg (·.1) a5, congrArg (·.2.1) a5, a6, State.afterStep_now z v⟩
  obtain ⟨c1, c2, c3, c4⟩ := hcore
  have hyt : y.time = (z.afterStep v).time := by rw [hy, State.noteSync_time]
  have hyn : y.now = s.now := by rw [hy, State.noteSync_now, c4, z7]
  have hyp : y.time.par = { (s.time.par.rebase s.now (toSigned 32 (s.rd F.TIME_ADJ_RATE_ADJ_RATE))).step v with applied := s.now } := by
    rw [hyt, c1, z1]
  refine ⟨hyp, by rw [hyt, c2, z2], ?_, by rw [hy, State.noteSync_mem, c3, z4], fun h0 => ?_, fun h0 => ?_⟩
  · rw [State.tNow_eq (by rw [hyp, hyn]), hyp, hyn, TimeParams.toT_step_rebase]
  · rw [hyt, hy, State.noteSync_regs, State.noteSync_log, h0, z.afterStep_zero]
    exact ⟨z5, z6, z3⟩
  · obtain ⟨a1, a2, ⟨r, r1, r2, r3, r4, r5, r6⟩, -, -, -, a7, -⟩ := State.afterStep_spec (s := z) h0
    rw [hyt, hy]
    simp only [State.rd_noteSync]
    refine ⟨a1, ⟨r, r1, r2, r3, r4, r5, by rw [State.noteSync_log, r6, z6]⟩, a2.trans (by rw [State.rd_congr z5]), fun h => a7 (z3.trans h)⟩

/-- The source that a write of TIME_CFG selects (R293). -/
def cfgSrc (n : Nat) : Nat := if bits n 31 30 = 3 then 0 else bits n 31 30

/-- The settings as a write of TIME_CFG leaves them. -/
def State.cfgSet (s : State) (n : Nat) : State :=
  ((s.wr F.TIME_CFG_SRC (cfgSrc n)).wr F.TIME_CFG_STEP_EN (bits n 29 29)).wr F.TIME_CFG_GM_VALID (bits n 28 28)

theorem State.cfgSet_spec (s : State) (n : Nat) : (s.cfgSet n).rd F.TIME_CFG_SRC = cfgSrc n ∧ (s.cfgSet n).rd F.TIME_CFG_STEP_EN = bits n 29 29 ∧
    (s.cfgSet n).rd F.TIME_CFG_GM_VALID = bits n 28 28 ∧ (s.cfgSet n).time = s.time ∧ (s.cfgSet n).mem = s.mem := by
  have h1 : cfgSrc n < 2 ^ F.TIME_CFG_SRC.width := by
    have : bits n 31 30 < 4 := Nat.mod_lt _ (by decide)
    unfold cfgSrc
    split
    · decide
    · exact this
  have h2 : bits n 29 29 < 2 ^ F.TIME_CFG_STEP_EN.width := Nat.mod_lt _ (by decide)
  have h3 : bits n 28 28 < 2 ^ F.TIME_CFG_GM_VALID.width := Nat.mod_lt _ (by decide)
  unfold State.cfgSet
  refine ⟨?_, ?_, State.rd_wr_lt _ h3, rfl, rfl⟩
  · rw [State.rd_wr_ne _ _ (by decide), State.rd_wr_ne _ _ (by decide), State.rd_wr_lt _ h1]
  · rw [State.rd_wr_ne _ _ (by decide), State.rd_wr_lt _ h2]

theorem State.writeTimeCfg_new {n : Nat} (h : cfgSrc n ≠ s.timeSrc) : s.writeTimeCfg n =
    State.noteSync { (s.cfgSet n).wr F.TIME_STAT_LOCK_RUN 0 with
      time := { (s.cfgSet n).time with servo := .free, integ := (s.cfgSet n).time.par.rate } } := by
  unfold State.writeTimeCfg
  exact congrArg State.noteSync (if_pos (decide_eq_true h))

/-- The servo after a write that leaves SRC (R293). -/
def ServoState.withGm (v : ServoState) (gm : Nat) : ServoState :=
  if v = .free ∧ gm = 1 then .grandmaster else if v = .grandmaster ∧ gm = 0 then .free else v

theorem State.writeTimeCfg_same {n : Nat} (h : cfgSrc n = s.timeSrc) :
    s.writeTimeCfg n = State.noteSync ((s.cfgSet n).setServo (s.time.servo.withGm (bits n 28 28))) := by
  have hx : (match (s.cfgSet n).time.servo, bits n 28 28 with
      | .free, 1 => (s.cfgSet n).setServo .grandmaster
      | .grandmaster, 0 => (s.cfgSet n).setServo .free
      | _, _ => s.cfgSet n) = (s.cfgSet n).setServo (s.time.servo.withGm (bits n 28 28)) := by
    have ht : (s.cfgSet n).time.servo = s.time.servo := rfl
    have hsame : s.cfgSet n = (s.cfgSet n).setServo (s.cfgSet n).time.servo := rfl
    split
    · next h1 h2 => rw [h2, ← ht, h1]; rfl
    · next h1 h2 => rw [h2, ← ht, h1]; rfl
    · next h1 h2 =>
      rw [ht] at h1 h2 hsame
      rw [ServoState.withGm, if_neg fun e => h1 e.1 e.2, if_neg fun e => h2 e.1 e.2]
      exact hsame
  unfold State.writeTimeCfg
  exact congrArg State.noteSync ((if_neg fun e => of_decide_eq_true (p := cfgSrc n ≠ s.timeSrc) e h).trans hx)

/-- Where a window closed in the clock of the input, the input finds the state in which it closed. -/
theorem State.servoInput_first {v : ServoState} (hb : s.time.busyEnd ≤ s.now) (hl : s.time.left = some (s.now, v)) :
    s.servoInput o = s.inputFirst.servoInput o := by
  obtain ⟨h1, -, h3⟩ := State.inputFirst_some hl
  have hb' : s.inputFirst.time.busyEnd ≤ s.inputFirst.now := by rw [h1, h3]; exact hb
  rw [State.servoInput_taken hb, State.servoInput_taken hb', State.inputFirst_none (s := s.inputFirst) (by rw [h1]; exact nofun)]

theorem State.servoClose_spec (s : State) (v : ServoState) (kind : Nat) : (s.servoClose v kind).regs = s.regs ∧ (s.servoClose v kind).time.servo = v ∧
    (s.servoClose v kind).time.par = s.time.par ∧ WroteOne s (s.servoClose v kind) 0x0C kind 4 0 0 :=
  ⟨rfl, rfl, rfl, wroteOne_record (s₁ := { s with time := { s.time with servo := v, left := some (s.now, s.time.servo) } }) rfl rfl⟩

end

/-- Settles O48: APPLY by what its step does, an input by whether it steps T, a write of TIME_CFG by its SRC, a window by its close. -/
theorem timeSetAndServo : Obligations.TimeSetAndServo := by
  intro s t a w o p v x rmax jumps integ src gm lim
  refine ⟨fun hp => ⟨fun h0 => ?_, fun h0 => ?_⟩, fun hp h1 => ⟨fun hb => ?_, fun hb hl hs hj hx => ?_, fun hb hl => ?_⟩, fun hp => ?_,
    ⟨fun ⟨hs, hw⟩ => ?_, fun hn => ?_⟩, ⟨fun ⟨hs, hw⟩ => ?_, fun hn => ?_⟩⟩
  · exact ends_timeApply hp h0 (State.applyAdj_spec (s := (s.tick t).okay) rfl)
  · refine ends_next_eq (arm_timeApply t a s) ((State.guarded_pass _ hp rfl).trans (if_neg h0)) ⟨?_, State.rd_raise_bit _ rfl⟩
    exact OnlyRegs.raise ((OnlyRegs.tick s t _).okay) (List.mem_map_of_mem List.mem_cons_self)
  · refine ends_next_eq (arm_servoInput t a o s) ((State.guarded_pass _ hp rfl).trans ((if_pos h1).trans (State.servoInput_busy hb))) ⟨?_, ?_⟩
    · exact OnlyRegs.inc ((OnlyRegs.tick s t _).okay) (List.mem_map_of_mem List.mem_cons_self)
    · exact (State.rd_inc_self ..).trans (Nat.mod_eq_of_lt satSucc_lt)
  · refine ends_next_eq (arm_servoInput t a o s) ((State.guarded_pass _ hp rfl).trans (if_pos h1)) ?_
    obtain ⟨c, hc⟩ : ∃ c, c = (s.tick t).okay := ⟨_, rfl⟩
    have hcl : c.time.left = some (c.now, .locked) := by rw [hc]; exact hl
    have hcb : c.time.busyEnd ≤ c.now := by rw [hc]; exact hb
    obtain ⟨i1, i2, i3⟩ := State.inputFirst_some hcl
    have hset (f : Fld) : c.inputFirst.rd f = s.rd f := (State.rd_congr i2 f).trans (by rw [hc]; rfl)
    obtain ⟨-, -, -, -, -, -, -, -, -, s10, -⟩ := State.servoInput_spec (s := c.inputFirst) (o := x) (by rw [i1, i3]; exact hcb)
      (by rw [i1]; exact nofun)
    rw [← hc, State.servoInput_first hcb hcl]
    refine (s10 (by rw [i1])).2 ?_
    rintro (⟨⟨e1, e2⟩, -⟩ | e)
    · rw [hset, i1] at *
      exact hj ⟨e1, .inr (e2.resolve_left fun h => nomatch h)⟩
    · rw [State.lockLim, hset] at e
      exact absurd e (not_le.2 hx)
  · refine ends_next_eq (arm_servoInput t a o s) ((State.guarded_pass _ hp rfl).trans (if_pos h1)) ?_
    obtain ⟨s1, -, s3, s4, s5, -, s7, s8, s9, s10, s11⟩ := State.servoInput_spec (s := (s.tick t).okay) (o := x) hb hl
    refine ⟨s1, s3, s4, s5, s7, fun hj => ?_, fun hs => ?_, fun hs => ?_, s11⟩
    · obtain ⟨i1, i2, i3, i4⟩ := s8 hj
      exact ⟨i1, i2, i3, fun hlt _ => i4 hlt⟩
    · exact s9 (by rcases hs with h | h | h <;> rw [show (s.tick t).okay.time.servo = _ from h] <;> rfl)
    · obtain ⟨j1, j2⟩ := s10 hs
      by_cases hc : (jumps ∧ x ≠ 0) ∨ 4 * lim ≤ x.natAbs
      · rw [if_pos hc]; exact j1 hc
      · rw [if_neg hc]; exact j2 hc
  · have hv : w.toNat < 2 ^ 32 := w.isLt
    have hsrc : cfgSrc w.toNat = src := by
      have : bits w.toNat 31 30 = w.toNat / 2 ^ 30 := Nat.mod_eq_of_lt (by omega)
      rw [cfgSrc, this]
    obtain ⟨c, hc⟩ : ∃ c, c = (s.tick t).okay := ⟨_, rfl⟩
    have hct : c.time = s.time ∧ c.mem = s.mem ∧ c.timeSrc = s.timeSrc := by rw [hc]; exact ⟨rfl, rfl, rfl⟩
    obtain ⟨c1, c2, c3⟩ := hct
    obtain ⟨g1, g2, g3, g4, g5⟩ := c.cfgSet_spec w.toNat
    refine ends_next_eq (arm_timeCfgWrite t a w s) ((State.guarded_pass _ hp rfl).trans (by rw [← hc])) ?_
    by_cases hch : src = s.timeSrc
    · rw [State.writeTimeCfg_same (by rw [hsrc, c3]; exact hch)]
      simp only [State.rd_noteSync, State.noteSync_time, State.noteSync_mem]
      refine ⟨g1.trans hsrc, g2, g3, (congrArg TimeSt.par (g4.trans c1) :), g5.trans c2, fun h => absurd hch h, fun _ => ⟨(congrArg TimeSt.integ (g4.trans c1) :), ?_⟩⟩
      rw [c1]; rfl
    · rw [State.writeTimeCfg_new (by rw [hsrc, c3]; exact hch)]
      obtain ⟨z, hz⟩ : ∃ z : State, z = { (c.cfgSet w.toNat).wr F.TIME_STAT_LOCK_RUN 0 with
        time := { (c.cfgSet w.toNat).time with servo := .free, integ := (c.cfgSet w.toNat).time.par.rate } } := ⟨_, rfl⟩
      have hzr (f : Fld) : z.rd f = ((c.cfgSet w.toNat).wr F.TIME_STAT_LOCK_RUN 0).rd f := by rw [hz]; rfl
      have hzt : z.time.servo = .free ∧ z.time.integ = p.rate ∧ z.time.par = p ∧ z.mem = s.mem := by
        rw [hz, g4, c1]; exact ⟨rfl, rfl, rfl, g5.trans c2⟩
      obtain ⟨z1, z2, z3, z4⟩ := hzt
      rw [← hz]
      simp only [State.rd_noteSync, State.noteSync_time, State.noteSync_mem, hzr]
      refine ⟨?_, ?_, ?_, z3, z4, fun _ => ⟨z1, State.rd_wr_self .., z2⟩, fun h => absurd h hch⟩
      · exact (State.rd_wr_ne _ _ (by decide)).trans (g1.trans hsrc)
      · exact (State.rd_wr_ne _ _ (by decide)).trans g2
      · exact (State.rd_wr_ne _ _ (by decide)).trans g3
  · have hc : (s.tick t).closed s.time.lastInput (ms (s.rd F.TIME_SERVO_TMO_HOLDOVER_TMO)) = true := decide_eq_true (by rw [ms, Nat.mul_comm]; exact hw)
    refine ends_next_eq (arm_holdoverTimeout t s) (if_pos ⟨hs, hc⟩) ?_
    obtain ⟨h1, h2, h3, r0, h4⟩ := State.servoClose_spec ({ s.tick t with time := { s.time with
      fromLocked := decide (s.time.servo = ServoState.locked), holdEntry := t } }) .holdover 0x03
    exact ⟨h2, h3, h1, rfl, rfl, rfl, r0, h4⟩
  · refine ends_next_eq (arm_holdoverTimeout t s) (if_neg fun e => hn ⟨e.1, ?_⟩) rfl
    rw [Nat.mul_comm]; exact of_decide_eq_true e.2
  · have hc : (s.tick t).closed s.time.holdEntry (secs (s.rd F.TIME_SERVO_TMO_HOLDOVER_MAX)) = true :=
      decide_eq_true (by rw [secs, Nat.mul_comm]; exact hw)
    refine ends_next_eq (arm_holdoverMaxExpiry t s) (if_pos ⟨hs, hc⟩) ?_
    obtain ⟨h1, h2, h3, r0, h4⟩ := (s.tick t).servoClose_spec .free 0x04
    exact ⟨h2, h3, h1, r0, h4⟩
  · refine ends_next_eq (arm_holdoverMaxExpiry t s) (if_neg fun e => hn ⟨e.1, ?_⟩) rfl
    rw [Nat.mul_comm]; exact of_decide_eq_true e.2

end Sys2Proof.Machine
end

section
/-! PROOFS. Time conversion, PPS and transmit stamps: O49. -/

namespace Sys2Proof.Machine

/-! ### Pairs of words -/

section
variable {s : State} {t f n port : Nat} {a : Attr} {w : Word} {peek : Bool} {P : State → Prop}

/-- A pair of words reads what was written to it. -/
theorem State.rd64_wr64 {g : Nat → Fld} {v : Nat} (h0 : (g 0).width = 32) (h1 : (g 1).width = 32) (hk : (g 1).key ≠ (g 0).key) :
    (s.wr64 g v).rd64 g = v % 2 ^ 64 := by
  rw [State.rd64, State.wr64, State.rd_wr_ne _ _ hk, State.rd_wr_lt _ (by rw [h0]; exact Nat.mod_lt _ (by decide)),
    State.rd_wr_lt _ (by rw [h1]; exact Nat.mod_lt _ (by decide))]
  omega

theorem State.rd_wr64_ne {g : Nat → Fld} {v : Nat} {h : Fld} (h0 : (g 0).key ≠ h.key) (h1 : (g 1).key ≠ h.key) : (s.wr64 g v).rd h = s.rd h := by
  rw [State.wr64, State.rd_wr_ne _ _ h1, State.rd_wr_ne _ _ h0]

/-! ### Conversions -/

/-- A conversion that begins waits for the FRC value of both words (R295). -/
def State.convStarted (s : State) (hi : Nat) : State :=
  let s := (s.wr (F.TIME_CONV_IN_FRC 1) hi).clrF F.TIME_CONV_STAT_VALID
  { s with time := { s.time with convPend := some (s.rd64 F.TIME_CONV_IN_FRC) } }

theorem State.convStarted_spec {hi : Nat} (hh : hi < 2 ^ 32) :
    (s.convStarted hi).time = { s.time with convPend := some (s.rd (F.TIME_CONV_IN_FRC 0) + 2 ^ 32 * hi) } ∧
    (s.convStarted hi).rd F.TIME_CONV_STAT_VALID = 0 ∧ (s.convStarted hi).mem = s.mem := by
  obtain ⟨x, hx⟩ : ∃ x, x = (s.wr (F.TIME_CONV_IN_FRC 1) hi).clrF F.TIME_CONV_STAT_VALID := ⟨_, rfl⟩
  have hx0 : x.rd F.TIME_CONV_STAT_VALID = 0 := by rw [hx]; exact State.rd_clrF_self ..
  have hf : x.rd64 F.TIME_CONV_IN_FRC = s.rd (F.TIME_CONV_IN_FRC 0) + 2 ^ 32 * hi := by
    rw [hx, State.rd64, State.rd_clrF_ne _ (by decide), State.rd_clrF_ne _ (by decide), State.rd_wr_ne _ _ (by decide), State.rd_wr_lt _ hh]
  have hc : s.convStarted hi = { x with time := { x.time with convPend := some (x.rd64 F.TIME_CONV_IN_FRC) } } := by rw [hx]; rfl
  have hxt : x.time = s.time ∧ x.mem = s.mem := by rw [hx]; exact ⟨rfl, rfl⟩
  rw [hc, hf, hxt.1]
  exact ⟨rfl, hx0, hxt.2⟩

/-- What a conversion at `f` leaves. -/
def State.converted (s : State) (f : Nat) : State :=
  let s := { s with time := { s.time with convPend := none } }
  match s.setAt f with
  | some p => (s.wr64 F.TIME_CONV_OUT_T (p.toT f)).setF F.TIME_CONV_STAT_VALID
  | none => s.clrF F.TIME_CONV_STAT_VALID

theorem ends_convComplete (hp : s.time.convPend = some f) (h : P ((s.tick t).converted f)) : Ends (.convComplete t) s P := by
  have hp' : (s.tick t).time.convPend = some f := hp
  refine ends_next_eq (arm_convComplete t s) ?_ h
  simp only [hp']
  rfl

theorem State.converted_some {p : TimeParams} (h : s.setAt f = some p) : (s.converted f).rd F.TIME_CONV_STAT_VALID = 1 ∧
    (s.converted f).rd64 F.TIME_CONV_OUT_T = p.toT f ∧ (s.converted f).time.convPend = none := by
  have h' : ({ s with time := { s.time with convPend := none } } : State).setAt f = some p := h
  unfold State.converted
  simp only [h']
  refine ⟨State.rd_setF_self .., ?_, rfl⟩
  have e : ∀ x : State, (x.setF F.TIME_CONV_STAT_VALID).rd64 F.TIME_CONV_OUT_T = x.rd64 F.TIME_CONV_OUT_T := fun x => by
    rw [State.rd64, State.rd64, State.rd_setF_ne _ (by decide), State.rd_setF_ne _ (by decide)]
  rw [e, State.rd64_wr64 rfl rfl (by decide), Nat.mod_eq_of_lt (p.toT_lt f)]

theorem State.converted_none (h : s.setAt f = none) : (s.converted f).rd F.TIME_CONV_STAT_VALID = 0 ∧
    (s.converted f).time.convPend = none ∧ (s.converted f).rd64 F.TIME_CONV_OUT_T = s.rd64 F.TIME_CONV_OUT_T := by
  have h' : ({ s with time := { s.time with convPend := none } } : State).setAt f = none := h
  unfold State.converted
  simp only [h']
  refine ⟨State.rd_clrF_self .., rfl, ?_⟩
  rw [State.rd64, State.rd64, State.rd_clrF_ne _ (by decide), State.rd_clrF_ne _ (by decide)]
  rfl

/-! ### PPS out -/

/-- The next PPS-out instant lies after `t`, on the raster of PPS_PHASE, and a period ahead at most (R296). -/
theorem State.ppsAfter_spec (s : State) (t : Nat) : let per := max 1 (1000000 * s.rd F.TIME_PPS_OUT_PPS_PERIOD)
    t < s.ppsAfter t ∧ s.ppsAfter t % per = s.rd F.TIME_PPS_PHASE_PPS_PHASE % per ∧
    (s.rd F.TIME_PPS_PHASE_PPS_PHASE % per ≤ t → s.ppsAfter t ≤ t + per) := by
  intro per
  obtain ⟨ph, hph⟩ : ∃ ph, ph = s.rd F.TIME_PPS_PHASE_PPS_PHASE % per := ⟨_, rfl⟩
  have hlt : ph < per := hph ▸ Nat.mod_lt _ (by omega)
  have he : s.ppsAfter t = if t < ph then ph else ph + ((t - ph) / per + 1) * per := by
    rw [hph]; unfold State.ppsAfter; rw [ms, Nat.mul_comm]
  rw [he, ← hph]
  split
  · next h => exact ⟨h, Nat.mod_eq_of_lt hlt, fun h' => by omega⟩
  · next h =>
    have hd := Nat.div_add_mod (t - ph) per
    have hm : (t - ph) % per < per := Nat.mod_lt _ (by omega)
    have hx : ((t - ph) / per + 1) * per = per * ((t - ph) / per) + per := by rw [Nat.add_mul, Nat.one_mul, Nat.mul_comm]
    refine ⟨by omega, ?_, fun _ => by omega⟩
    rw [Nat.add_mul_mod_self_right, Nat.mod_eq_of_lt hlt]

theorem ends_ppsOutEdge (h : P (if (s.tick t).ppsDue then (s.tick t).ppsRise else s.tick t)) : Ends (.ppsOutEdge t) s P :=
  ends_next (arm_ppsOutEdge t s) h

theorem State.ppsDue_iff (he : s.flag F.TIME_PPS_OUT_EN = true) (hn : s.time.ppsNext = some n) : s.ppsDue = true ↔ n ≤ s.tNow := by
  unfold State.ppsDue
  simp only [he, hn, Bool.true_and, decide_eq_true_eq]

/-! ### PPS in -/

/-- The edge as it is captured (R297). -/
def State.captured (s : State) : State :=
  let s := s.updates (F.TIME_PPS_IN_TS_FRC 0).addr s.time.ppsTs
  let s := ({ s with time := { s.time with ppsTs := s.now } }).raise F.TIME_PPS_IN_NEW
  s.wr (F.TIME_PPS_IN_TS_FRC 0) s.now

theorem State.captured_spec (s : State) : s.captured.time = { s.time with ppsTs := s.now } ∧ s.captured.mem = s.mem ∧ s.captured.now = s.now ∧
    s.captured.rd F.TIME_PPS_IN_NEW = 1 ∧ s.captured.rd (F.TIME_PPS_IN_TS_FRC 0) = s.now % 2 ^ 32 ∧
    RegsBut [F.TIME_PPS_IN_NEW, F.TIME_PPS_IN_TS_FRC 0] s s.captured := by
  obtain ⟨x, hx⟩ : ∃ x, x = s.updates (F.TIME_PPS_IN_TS_FRC 0).addr s.time.ppsTs := ⟨_, rfl⟩
  have hxs : x.time = s.time ∧ x.mem = s.mem ∧ x.now = s.now ∧ x.regs = s.regs := by
    obtain ⟨k, hk⟩ := s.updates_eq (F.TIME_PPS_IN_TS_FRC 0).addr s.time.ppsTs
    rw [hx, hk]; exact ⟨rfl, rfl, rfl, rfl⟩
  obtain ⟨x1, x2, x3, x4⟩ := hxs
  obtain ⟨y, hy⟩ : ∃ y : State, y = ({ x with time := { x.time with ppsTs := x.now } } : State).raise F.TIME_PPS_IN_NEW := ⟨_, rfl⟩
  have hc : s.captured = y.wr (F.TIME_PPS_IN_TS_FRC 0) y.now := by rw [hy, hx]; rfl
  have hys : y.time = { s.time with ppsTs := s.now } ∧ y.mem = s.mem ∧ y.now = s.now := by rw [hy, ← x1, ← x3]; exact ⟨rfl, x2, rfl⟩
  obtain ⟨y1, y2, y3⟩ := hys
  rw [hc, State.wr_time, State.wr_mem, State.wr_now, y3]
  refine ⟨y1, y2, rfl, ?_, State.rd_wr_self .., fun f hf => ?_⟩
  · rw [State.rd_wr_ne _ _ (by decide), hy]; exact State.rd_raise_bit _ rfl
  · rw [State.rd_wr_ne, hy, State.rd_raise_ne]
    · exact State.rd_congr x4 f
    · exact fun e => hf (e ▸ List.mem_map_of_mem (by simp))
    · exact fun e => hf (e ▸ List.mem_map_of_mem (by simp))

/-- An edge is captured and, with SRC = 2, offered to the servo. -/
theorem ends_ppsInEdge (he : s.flag F.TIME_PPS_IN_EN = true)
    (h : P (if (s.tick t).captured.timeSrc = 2 then (s.tick t).captured.servoInput (ppsOffset (s.tick t).captured.tNow) else (s.tick t).captured)) :
    Ends (.ppsInEdge t) s P :=
  ends_next_eq (arm_ppsInEdge t s) (if_pos he) h

theorem State.captured_source (s : State) : s.captured.timeSrc = s.timeSrc ∧ s.captured.tNow = s.tNow := by
  obtain ⟨h1, -, h3, -, -, h6⟩ := s.captured_spec
  refine ⟨h6 _ (by decide), ?_⟩
  unfold State.tNow State.tOf
  rw [h1, h3]

/-- What an input that is not refused leaves, whether or not a window closed in its clock. -/
theorem State.servoInput_keeps {o : Int} (hb : s.time.busyEnd ≤ s.now) : (s.servoInput o).time.lastInput = s.now ∧
    (s.servoInput o).time.ppsTs = s.time.ppsTs ∧ (s.servoInput o).rd F.TIME_LAST_O_O = ofSigned 32 o ∧
    RegsBut (F.TIME_LAST_O_O :: servoFlds) s (s.servoInput o) := by
  by_cases hl : s.time.left.map (·.1) = some s.now
  · obtain ⟨⟨n, v⟩, hp, rfl : n = s.now⟩ := Option.map_eq_some_iff.1 hl
    obtain ⟨f1, f2, f3⟩ := State.inputFirst_some hp
    obtain ⟨i1, i2, -, i4, -, i6, -⟩ := State.servoInput_spec (s := s.inputFirst) (o := o) (by rw [f1, f3]; exact hb) (by rw [f1]; exact nofun)
    rw [State.servoInput_first hb hp]
    exact ⟨i1.trans f3, i2.trans (by rw [f1]), i4, fun f hf => (i6 f hf).trans (State.rd_congr f2 f)⟩
  · obtain ⟨i1, i2, -, i4, -, i6, -⟩ := State.servoInput_spec (o := o) hb hl
    exact ⟨i1, i2, i4, i6⟩

/-! ### Transmit stamps -/

/-- Of a queue with an entry from before the clock the oldest is read and removed (R290). -/
theorem State.txtsSettled_cons {e : TxStamp} {es : List TxStamp} (hq : s.time.txts.getD [] port = e :: es)
    (hn : s.clk.pushes.getD 0 (txtsAddr port) ≤ es.length) : ∃ r, s.txtsSettled port = e :: r := by
  obtain ⟨m, hm⟩ := Nat.exists_eq_succ_of_ne_zero (n := es.length + 1 - s.clk.pushes.getD 0 (txtsAddr port)) (by omega)
  refine ⟨es.take m, ?_⟩
  unfold State.txtsSettled State.settled
  rw [hq]
  dsimp only
  rw [List.length_cons, hm]
  rfl

theorem State.txtsSettled_nil (hq : s.time.txts.getD [] port = []) : s.txtsSettled port = [] := by
  unfold State.txtsSettled
  rw [hq, List.take_nil]

theorem State.popTxts_cons {e : TxStamp} {r : List TxStamp} (h : s.txtsSettled port = e :: r) : (s.popTxts port).time.txts.getD [] port =
    (s.time.txts.getD [] port).drop 1 ∧ (s.popTxts port).time.txtsLost.getD 0 port = min 7 (s.clk.pushes.getD 0 (txtsAddr port + 4)) ∧
    (s.popTxts port).rd64 (F.TIME_TXTS_T_T port) = e.t % 2 ^ 64 := by
  unfold State.popTxts
  simp only [h]
  refine ⟨Tbl.getD_put_self .., Tbl.getD_put_self .., State.rd64_wr64 rfl rfl ?_⟩
  simp only [ne_eq, Fld.key, F.TIME_TXTS_T_T]; omega

theorem ends_txtsRead (hp1 : 8 ≤ port) (hp2 : port < 24) (hp : (s.tick t).passes (rsAddr (txtsAddr port) peek) a false = true)
    (h : P ((if peek then (s.tick t).okay else (s.tick t).okay.popTxts port).answer 0 ((s.tick t).okay.txtsWord port))) :
    Ends (.txtsRead t a port peek) s P :=
  ends_unit (arm_txtsRead ..) (decide_eq_true ⟨hp1, hp2⟩) (State.guarded_pass _ hp rfl) h

end

/-- Settles O49: a conversion by the set in force, an edge by its raster, a read by what stood before the clock. -/
theorem timeConversionAndPins : Obligations.TimeConversionAndPins := by
  intro s t f n port a w peek e es tt per clk ts lost at_
  refine ⟨fun hp => ?_, fun hc => ⟨fun h1 => ?_, fun h1 h2 => ?_, fun h1 h2 => ?_⟩, fun he hn => ⟨fun h => ?_, fun h => ?_⟩,
    fun he => ⟨fun h => ?_, fun h hb => ?_⟩, fun he => ?_, fun hp => ?_, fun h8 h24 hp => ⟨fun hq hn => ?_, fun hq => ?_⟩⟩
  · obtain ⟨c1, c2, c3⟩ := State.convStarted_spec (s := (s.tick t).okay) (hi := w.toNat) w.isLt
    refine ends_next_eq (x := (s.tick t).okay.convStarted w.toNat) (arm_convStart t a w s) (State.guarded_pass _ hp rfl) ⟨?_, c2, c3, ?_⟩
    · rw [c1]; rfl
    · rw [c1]; rfl
  · exact ends_convComplete hc (State.converted_some (s := s.tick t) (if_pos h1))
  · exact ends_convComplete hc (State.converted_some (s := s.tick t) ((if_neg (not_le.2 h1)).trans (if_pos h2)))
  · obtain ⟨r1, r2, r3⟩ := State.converted_none (s := s.tick t) (f := f) ((if_neg (not_le.2 h1)).trans (if_neg (not_le.2 h2)))
    exact ends_convComplete hc ⟨r1, r2, r3⟩
  · refine ends_ppsOutEdge ?_
    rw [if_pos ((State.ppsDue_iff (s := s.tick t) he hn).2 h)]
    obtain ⟨p1, p2, p3⟩ := (s.tick t).ppsAfter_spec (s.tick t).tNow
    exact ⟨rfl, rfl, congrArg (fun n => some (tt + n)) (Nat.mul_comm ..), _, rfl, p1, p2, p3⟩
  · refine ends_ppsOutEdge ?_
    rw [if_neg fun e => not_le.2 h ((State.ppsDue_iff (s := s.tick t) he hn).1 e)]
  · obtain ⟨c1, c2, c3, c4, c5, c6⟩ := (s.tick t).captured_spec
    obtain ⟨g1, g2⟩ := (s.tick t).captured_source
    refine ends_ppsInEdge he ?_
    rw [if_neg (by rw [g1]; exact h)]
    exact ⟨by rw [c1]; rfl, c4, c5, by rw [c1]; rfl, c2⟩
  · obtain ⟨c1, c2, c3, c4, -, -⟩ := (s.tick t).captured_spec
    obtain ⟨g1, g2⟩ := (s.tick t).captured_source
    have hleft : (s.tick t).captured.time.busyEnd ≤ (s.tick t).captured.now := by rw [c1, c3]; exact hb
    refine ends_ppsInEdge he ?_
    rw [if_pos (g1.trans h), g2]
    obtain ⟨i1, i2, i3, i4⟩ := State.servoInput_keeps (o := ppsOffset (s.tick t).tNow) hleft
    refine ⟨i2.trans (by rw [c1]; rfl), (i4 _ (by decide)).trans c4, i1.trans c3, i3⟩
  · refine ends_next_eq (arm_ppsInEdge t s) (if_neg ?_) rfl
    rw [show (s.tick t).flag F.TIME_PPS_IN_EN = false from he]; exact Bool.false_ne_true
  · have hr : at_ (F.TIME_PPS_IN_TS_FRC 0).addr = rsAddr (F.TIME_PPS_IN_TS_FRC 0).addr peek := rfl
    refine ends_next_eq (arm_ppsInTsRead t a peek s) (State.guarded_pass _ (hr ▸ hp) rfl) ⟨rfl, fun h => ?_, fun h => ?_⟩
    · subst h; rfl
    · subst h; exact State.latchRead_rd_hi ..
  · obtain ⟨r, hr⟩ := State.txtsSettled_cons (s := (s.tick t).okay) hq hn
    obtain ⟨p1, p2, p3⟩ := State.popTxts_cons hr
    refine ends_txtsRead h8 h24 hp ⟨?_, fun h => ?_, fun h => ?_⟩
    · change (s.tick t).okay.txtsWord port = _
      unfold State.txtsWord
      rw [hr]
      rfl
    · subst h
      exact ⟨p1.trans (congrArg (List.drop 1) hq), p2, p3⟩
    · subst h; exact ⟨rfl, rfl⟩
  · have hr := State.txtsSettled_nil (s := (s.tick t).okay) hq
    refine ends_txtsRead h8 h24 hp ⟨?_, ?_⟩
    · change (s.tick t).okay.txtsWord port = _
      unfold State.txtsWord
      rw [hr]
      rfl
    · cases peek
      · change ((s.tick t).okay.popTxts port).regs = _
        unfold State.popTxts
        rw [hr]
        rfl
      · rfl

end Sys2Proof.Machine
end

section
/-! PROOFS. What the Hallway and network management leave: the state that their steps do not touch -/

namespace Sys2Proof.Machine

variable {s s' s'' : State}

/-! ### The Hallway -/

/-- The keys of the registers that the Hallway writes on the way of a frame. -/
def HallKey (k : Nat) : Prop :=
  (0x40600000 * 32 ≤ k ∧ k < 0x40700000 * 32) ∨ (0x40E00000 * 32 ≤ k ∧ (k < 0x41000000 * 32 ∨ k % 32 = 0))

/-- `s'` comes from `s` by work of the Hallway: its own state, the stamps that it keeps and its registers. -/
def HallKept (s s' : State) : Prop :=
  (∃ h c n r x y, s' = { s with hall := h, clk := c, freeCtr := n, regs := r, time := { s.time with txts := x, txtsLost := y } }) ∧
    ∀ f : Fld, ¬ HallKey f.key → s'.rd f = s.rd f

namespace HallKept

theorem refl (s : State) : HallKept s s := ⟨⟨_, _, _, _, _, _, rfl⟩, fun _ _ => rfl⟩

theorem trans (h : HallKept s s') (h' : HallKept s' s'') : HallKept s s'' := by
  obtain ⟨⟨_, _, _, _, _, _, rfl⟩, hr⟩ := h
  obtain ⟨⟨_, _, _, _, _, _, rfl⟩, hr'⟩ := h'
  exact ⟨⟨_, _, _, _, _, _, rfl⟩, fun f hf => (hr' f hf).trans (hr f hf)⟩

theorem wr {f : Fld} (hf : HallKey f.key) (s : State) (v : Nat) : HallKept s (s.wr f v) :=
  ⟨⟨_, _, _, _, _, _, rfl⟩, fun _ hg => State.rd_wr_ne s v fun e => hg (e ▸ hf)⟩

theorem hall (s : State) (h : HallSt) : HallKept s { s with hall := h } := ⟨⟨_, _, _, _, _, _, rfl⟩, fun _ _ => rfl⟩

theorem clk (s : State) (c : ClockSt) : HallKept s { s with clk := c } := ⟨⟨_, _, _, _, _, _, rfl⟩, fun _ _ => rfl⟩

theorem free (s : State) (n : Nat) : HallKept s { s with freeCtr := n } := ⟨⟨_, _, _, _, _, _, rfl⟩, fun _ _ => rfl⟩

theorem foldl {α : Type} {g : State → α → State} (l : List α) (h : ∀ s, ∀ a ∈ l, HallKept s (g s a)) (s : State) : HallKept s (l.foldl g s) := by
  induction l generalizing s with
  | nil => exact refl s
  | cons a l ih => exact (h s a (by simp)).trans (ih (fun s b hb => h s b (by simp [hb])) (g s a))

theorem ite {c : Prop} [Decidable c] {x y : State} (hx : HallKept s x) (hy : HallKept s y) : HallKept s (if c then x else y) := by
  split <;> assumption

end HallKept

theorem hallKey_of_lo {f : Fld} (ha : 0x40E00000 ≤ f.addr) (hl : f.lo = 0) : HallKey f.key := by
  refine Or.inr ⟨?_, Or.inr ?_⟩ <;> simp only [Fld.key] <;> omega

theorem hallKey_count (p k : Nat) : HallKey (F.HALL_PORT_CNT_COUNT p k).key := hallKey_of_lo (by simp only [F.HALL_PORT_CNT_COUNT]; omega) rfl

theorem hallKey_foreign {q : Nat} (h : q < 24) : HallKey (F.UIO_SEG_CNT_FOREIGN (q - 22)).key := by
  refine Or.inl ⟨?_, ?_⟩ <;> simp only [Fld.key, F.UIO_SEG_CNT_FOREIGN] <;> omega

theorem State.hallInc_kept (s : State) (p k : Nat) : HallKept s (s.hallInc p k) := HallKept.wr (hallKey_count p k) s _

theorem State.noteFree_kept (s : State) (n : Nat) : HallKept s (s.noteFree n) :=
  HallKept.ite (HallKept.wr (hallKey_of_lo (by decide) rfl) s _) (HallKept.refl s)

theorem State.holdTick_kept (s : State) : HallKept s s.holdTick :=
  have held : HallKey F.HALL_INT_HOLD_HELD.key := Or.inr ⟨by decide, Or.inl (by decide)⟩
  HallKept.ite (HallKept.wr held s _) (HallKept.ite (HallKept.wr held s 0) (HallKept.refl s))

theorem State.fdbPut_kept (s : State) (e : FdbEntry) : HallKept s (s.fdbPut e) := HallKept.hall s _

theorem State.relearn_kept (s : State) (vid mac p : Nat) : HallKept s (s.relearn vid mac p) := by
  unfold State.relearn
  split
  · exact HallKept.ite (HallKept.refl s) (s.fdbPut_kept _)
  · exact HallKept.ite (s.fdbPut_kept _) (HallKept.refl s)

theorem State.learn_kept (s : State) (vid mac p : Nat) : HallKept s (s.learn vid mac p) :=
  HallKept.ite (HallKept.refl s) ((HallKept.clk s _).trans (State.relearn_kept _ vid mac p))

theorem State.fdbHit_kept (s : State) (vid mac : Nat) : HallKept s (s.fdbHit vid mac) := by
  unfold State.fdbHit
  split
  · exact HallKept.ite (HallKept.refl s) (s.fdbPut_kept _)
  · exact HallKept.refl s

theorem State.admitQ_kept (s : State) (p tc : Nat) (c : Colour) (cells : Nat) : HallKept s (s.admitQ p tc c cells).2 := by
  unfold State.admitQ
  dsimp only
  split_ifs <;> first | exact HallKept.refl s | exact HallKept.free s _

theorem State.admitAll_kept (tc : Nat) (c : Colour) (cells : Nat) (l : List Dest) (s : State) (n : Nat) :
    HallKept s (s.admitAll tc c cells n l).2 := by
  induction l generalizing s n with
  | nil => exact HallKept.refl s
  | cons d l ih =>
    unfold State.admitAll
    dsimp only
    split_ifs
    all_goals first | exact ih .. | exact (s.admitQ_kept ..).trans (ih ..)

theorem State.enqCopy_kept (s : State) (id p tc : Nat) (d : Dest) : HallKept s (s.enqCopy id p tc d) :=
  (HallKept.hall s _).trans (HallKept.wr (hallKey_of_lo (by decide) rfl) _ _)

theorem State.deliver_kept (s : State) (x : Stored) (tc : Nat) (stream : Option Nat) (v : List (Dest × Option Nat)) :
    HallKept s (s.deliver x tc stream v) := by
  have hcount := HallKept.foldl (g := fun s (y : Dest × Option Nat) => match y.2 with | some k => s.hallInc y.1.1 k | none => s) v
    (fun s y _ => by cases y.2 with | none => exact HallKept.refl s | some k => exact s.hallInc_kept _ k) s
  have hinc (f : Fld) (hf : HallKey f.key) (s : State) : HallKept s (s.inc f) := HallKept.wr hf s _
  unfold State.deliver
  dsimp only
  refine hcount.trans ?_
  generalize v.foldl _ s = y
  refine HallKept.ite ?_ (HallKept.ite (HallKept.refl y) ?_)
  · cases stream with
    | none => exact HallKept.refl y
    | some k => exact hinc _ (hallKey_of_lo (by simp only [F.HALL_STREAM5_ATOMIC_DROP]; omega) rfl) y
  · have hpart : HallKept y (if (v.any fun y => y.2.isSome) = true then
        match stream with | some k => y.inc (F.HALL_STREAM4_PARTIAL k) | none => y.inc F.HALL_PARTIAL_CNT_PARTIAL else y) := by
      refine HallKept.ite ?_ (HallKept.refl y)
      cases stream with
      | none => exact hinc _ (hallKey_of_lo (by decide) rfl) y
      | some k => exact hinc _ (hallKey_of_lo (by simp only [F.HALL_STREAM4_PARTIAL]; omega) rfl) y
    refine (hpart.trans (HallKept.hall _ _)).trans ((HallKept.foldl _ (fun s d _ => s.enqCopy_kept _ _ _ d) _).trans (State.holdTick_kept _))

theorem State.setPn_kept (s : State) (k j v : Nat) : HallKept s (s.setPn k j v) :=
  (HallKept.wr (hallKey_of_lo (by simp only [F.HALL_MSEC_SA1_PN]; omega) rfl) s _).trans
    (HallKept.wr (hallKey_of_lo (by simp only [F.HALL_MSEC_SA2_PN]; omega) rfl) _ _)

theorem State.timeTag_kept (s : State) (x : Stored) : HallKept s (s.timeTag x).2 := by
  unfold State.timeTag
  dsimp only
  split
  · exact HallKept.refl s
  · exact (HallKept.free s _).trans (HallKept.free _ _)

theorem State.shaperTake_kept (s : State) (p tc len : Nat) : HallKept s (s.shaperTake p tc len) :=
  HallKept.ite (HallKept.hall s _) (HallKept.refl s)

theorem State.pushTxts_kept (s : State) (p : Nat) (e : TxStamp) : HallKept s (s.pushTxts p e) := by
  have ht (x : State) (a : Tbl (List TxStamp)) (b : Tbl Nat) : HallKept x { x with time := { x.time with txts := a, txtsLost := b } } :=
    ⟨⟨_, _, _, _, _, _, rfl⟩, fun _ _ => rfl⟩
  refine HallKept.ite ((ht s _ s.time.txtsLost).trans (HallKept.clk _ _)) ?_
  obtain ⟨k, hk⟩ := s.updates_eq (txtsAddr p) (s.time.txtsLost.getD 0 p)
  have hu : HallKept s (s.updates (txtsAddr p) (s.time.txtsLost.getD 0 p)) := by rw [hk]; exact HallKept.clk s k
  exact (hu.trans (HallKept.clk _ _)).trans (ht _ (_ : State).time.txts _)

theorem State.startTx_kept (s : State) (p tc id : Nat) (x : Stored) (tr st : Bool) : HallKept s (s.startTx p tc id x tr st) := by
  unfold State.startTx
  dsimp only
  refine HallKept.trans ?_ (HallKept.hall _ _)
  have htag : HallKept s (if tr = true ∧ p = 7 then (some (s.timeTag x).1, (s.timeTag x).2) else (none, s) : Option TimeTag × State).2 := by
    split
    · exact s.timeTag_kept x
    · exact HallKept.refl s
  refine htag.trans ((State.shaperTake_kept _ p tc x.frame.len).trans ?_)
  generalize (State.shaperTake _ p tc x.frame.len) = y
  have hpn : HallKept y (match (s.leaving p x tr).msec with | some m => y.setPn (p - 8) m.an (m.pn + 1) | none => y) := by
    split
    · exact y.setPn_kept ..
    · exact HallKept.refl y
  refine hpn.trans (HallKept.ite ?_ (HallKept.refl _))
  cases x.frame.ptp with
  | some m => exact State.pushTxts_kept ..
  | none => exact HallKept.refl _

theorem State.meter_kept (s : State) (m len : Nat) (dei : Bool) : HallKept s (s.meter m len dei).2 := HallKept.hall s _

theorem State.frerRecover_kept (s : State) (k seq : Nat) : HallKept s (s.frerRecover k seq).2 := by
  unfold State.frerRecover
  exact (HallKept.hall s _).trans (HallKept.ite (HallKept.refl _)
    (HallKept.wr (hallKey_of_lo (by simp only [F.HALL_STREAM6_FRER_DISC]; omega) rfl) _ _))

theorem State.frerNext_kept (s : State) (k : Nat) : HallKept s (s.frerNext k).2 := HallKept.hall s _

theorem State.dropForeign_kept (s : State) {l : List Nat} (h : ∀ q ∈ l, q < 24) : HallKept s (s.dropForeign l).2 :=
  HallKept.foldl _ (fun s q hq => HallKept.wr (hallKey_foreign (h q (List.mem_filter.1 hq).1)) s _) s

theorem State.forward_kept (s : State) (p : Nat) (x : Stored) (tc : Nat) (c : Colour) (stream : Option Nat) (bad : Bool) (l : List Dest) :
    HallKept s (s.forward p x tc c stream bad l) := by
  unfold State.forward
  extract_lets cut
  have hcut : HallKept s cut.2 := by
    simp only [cut]
    split
    · exact HallKept.refl s
    · split
      · exact HallKept.refl s
      · exact s.admitQ_kept ..
  refine hcut.trans ?_
  generalize cut = r
  obtain ⟨q, y⟩ := r
  cases q with
  | some q =>
    exact ((HallKept.hall y _).trans (State.startTx_kept ..)).trans ((State.hallInc_kept ..).trans ((State.holdTick_kept _).trans
      (HallKept.ite ((State.hallInc_kept ..).trans (State.hallInc_kept ..)) (HallKept.refl _))))
  | none =>
    refine HallKept.ite (State.hallInc_kept ..) (HallKept.ite (State.deliver_kept ..) ?_)
    exact (State.admitAll_kept ..).trans (State.deliver_kept ..)

theorem State.classify_kept (s : State) (stream : Option Nat) (len dei : Nat) : HallKept s (s.classify stream len dei).2 := by
  unfold State.classify
  extract_lets y m
  have hy : HallKept s y := by
    simp only [y]
    cases stream with
    | none => exact HallKept.refl s
    | some k => exact HallKept.wr (hallKey_of_lo (by simp only [F.HALL_STREAM7_FRAMES]; omega) rfl) s _
  refine hy.trans ?_
  split
  · exact y.meter_kept ..
  · exact HallKept.refl y

theorem State.toPortQ_kept (s : State) (x : Stored) (tc : Nat) (c : Colour) (stream : Option Nat) (d : Dest) :
    HallKept s (s.toPortQ x tc c stream d) :=
  HallKept.ite (s.deliver_kept ..) ((s.admitAll_kept ..).trans (State.deliver_kept ..))

theorem State.direct_kept (s : State) (p : Nat) (f : EthFrame) (q : Nat) (tr : Bool) : HallKept s (s.direct p f q tr) :=
  HallKept.ite (HallKept.refl s) (HallKept.ite (s.hallInc_kept ..)
    ((s.classify_kept ..).trans (HallKept.ite (State.hallInc_kept ..) (State.toPortQ_kept ..))))

theorem State.hallPass_kept (s : State) (p q tc : Nat) (f : EthFrame) : HallKept s (s.hallPass p q tc f).2 := by
  unfold State.hallPass
  split
  · exact HallKept.refl s
  · extract_lets y
    have hy : HallKept s y := s.hallInc_kept p 0
    clear_value y
    split
    · exact hy.trans (y.hallInc_kept p 11)
    · exact hy.trans (y.toPortQ_kept ..)

theorem State.secyNote_kept (s : State) (p : Nat) (f : EthFrame) : HallKept s (s.secyNote p f) := by
  refine HallKept.ite ?_ (HallKept.refl s)
  cases f.msec with
  | none => exact HallKept.refl s
  | some m => exact s.setPn_kept ..

theorem State.dataFrame_kept (s : State) (p : Nat) (f : EthFrame) (bad : Bool) (copy : Option Nat) : HallKept s (s.dataFrame p f bad copy) := by
  have hrange : ∀ q ∈ s.destsOf p f.da (s.tagOf p f).1 (s.streamOf p f.da (s.tagOf p f).1 (s.tagOf p f).2.1), q < 24 :=
    fun q hq => List.mem_range.1 (List.mem_filter.1 hq).1
  refine HallKept.ite (s.hallInc_kept ..) (HallKept.ite (s.hallInc_kept ..) ((s.dropForeign_kept hrange).trans ?_))
  extract_lets s₁ small lost s₂ col s₃ rec_ s₄ gen s₅ l st x
  refine HallKept.ite (State.hallInc_kept ..) ?_
  have hlost : HallKept s₁ s₂ := HallKept.ite (s₁.hallInc_kept ..) (HallKept.refl s₁)
  have hrec : HallKept s₃ s₄ := by
    simp only [s₄, rec_]
    split
    · split
      · exact s₃.frerRecover_kept ..
      · exact HallKept.refl s₃
    · exact HallKept.refl s₃
  have hcol : HallKept s₂ col.2 := s₂.classify_kept ..
  have hseen : HallKept col.2 s₃ := (State.learn_kept ..).trans (State.fdbHit_kept ..)
  refine HallKept.trans (s' := s₁) (HallKept.refl _) ?_
  clear_value s₁ s₂ col s₃ s₄ x l
  have hgen : HallKept s₄ s₅ := by
    simp only [s₅, gen]
    split
    · split
      · exact s₄.frerNext_kept _
      · exact HallKept.refl s₄
    · exact HallKept.refl s₄
  refine hlost.trans (hcol.trans (hseen.trans ?_))
  refine HallKept.ite (State.hallInc_kept ..) (hrec.trans ?_)
  exact HallKept.ite (HallKept.refl _) (hgen.trans (HallKept.ite (HallKept.refl _) (State.forward_kept ..)))

/-- A frame that comes in on a port is work of the Hallway alone. -/
theorem State.frameIn_kept (s : State) {p : Nat} (hp : p < 24) (f : EthFrame) : HallKept s (s.frameIn p f) := by
  refine HallKept.ite (HallKept.refl s) ?_
  refine ((s.hallInc_kept p 0).trans (State.noteFree_kept _ (s.cellsFree - cellsOf f.len))).trans ?_
  refine HallKept.ite (State.hallInc_kept ..) (HallKept.ite (State.hallInc_kept ..) (HallKept.ite (State.hallInc_kept ..) ?_))
  extract_lets y
  have hsecy : HallKept ((s.hallInc p 0).noteFree (s.cellsFree - cellsOf f.len)) y := HallKept.ite (HallKept.refl _) (State.secyNote_kept ..)
  refine hsecy.trans ?_
  split
  · exact State.dataFrame_kept ..
  · exact State.dataFrame_kept ..
  · exact State.direct_kept ..
  · exact State.direct_kept ..
  · exact State.hallInc_kept ..
  · exact HallKept.wr (hallKey_foreign hp) _ _
  · exact State.hallInc_kept ..

/-! ### Network management -/

/-- The keys of the registers that network management writes: all lie outside the blocks of the Fusebox, the lanes, CYCMGR and the
pair. -/
def NetKey (k : Nat) : Prop := k < 0x40100000 * 32 ∨ 0x40600000 * 32 ≤ k

/-- `s'` comes from `s` by work of network management and of what carries its messages. -/
def NetKept (s s' : State) : Prop :=
  (∃ h c n r x y net mem, s' = { s with hall := h, clk := c, freeCtr := n, regs := r, net := net, mem := mem,
                                          time := { s.time with txts := x, txtsLost := y } }) ∧
    ∀ f : Fld, ¬ NetKey f.key → s'.rd f = s.rd f

namespace NetKept

theorem refl (s : State) : NetKept s s := ⟨⟨_, _, _, _, _, _, _, _, rfl⟩, fun _ _ => rfl⟩

theorem trans (h : NetKept s s') (h' : NetKept s' s'') : NetKept s s'' := by
  obtain ⟨⟨_, _, _, _, _, _, _, _, rfl⟩, hr⟩ := h
  obtain ⟨⟨_, _, _, _, _, _, _, _, rfl⟩, hr'⟩ := h'
  exact ⟨⟨_, _, _, _, _, _, _, _, rfl⟩, fun f hf => (hr' f hf).trans (hr f hf)⟩

theorem wr {f : Fld} (hf : NetKey f.key) (s : State) (v : Nat) : NetKept s (s.wr f v) :=
  ⟨⟨_, _, _, _, _, _, _, _, rfl⟩, fun _ hg => State.rd_wr_ne s v fun e => hg (e ▸ hf)⟩

theorem clk (s : State) (c : ClockSt) : NetKept s { s with clk := c } := ⟨⟨_, _, _, _, _, _, _, _, rfl⟩, fun _ _ => rfl⟩

theorem net (s : State) (n : NetSt) : NetKept s { s with net := n } := ⟨⟨_, _, _, _, _, _, _, _, rfl⟩, fun _ _ => rfl⟩

theorem mem (s : State) (m : List Host.Cell) : NetKept s { s with mem := m } := ⟨⟨_, _, _, _, _, _, _, _, rfl⟩, fun _ _ => rfl⟩

theorem foldl {α : Type} {g : State → α → State} (l : List α) (h : ∀ s, ∀ a ∈ l, NetKept s (g s a)) (s : State) : NetKept s (l.foldl g s) := by
  induction l generalizing s with
  | nil => exact refl s
  | cons a l ih => exact (h s a (by simp)).trans (ih (fun s b hb => h s b (by simp [hb])) (g s a))

theorem ite {c : Prop} [Decidable c] {x y : State} (hx : NetKept s x) (hy : NetKept s y) : NetKept s (if c then x else y) := by
  split <;> assumption

/-- The parts of the state in which the programs, the lanes, the pair and the power states live stand. -/
theorem parts (h : NetKept s s') : s'.cyc = s.cyc ∧ s'.lane = s.lane ∧ s'.pair = s.pair ∧ s'.pwr = s.pwr ∧ s'.now = s.now ∧ s'.log = s.log ∧
    s'.setup = s.setup ∧ s'.fuse = s.fuse := by
  obtain ⟨⟨_, _, _, _, _, _, _, _, rfl⟩, -⟩ := h
  exact ⟨rfl, rfl, rfl, rfl, rfl, rfl, rfl, rfl⟩

end NetKept

theorem HallKept.netKept (h : HallKept s s') : NetKept s s' := by
  obtain ⟨⟨_, _, _, _, _, _, rfl⟩, hr⟩ := h
  refine ⟨⟨_, _, _, _, _, _, _, _, rfl⟩, fun f hf => hr f fun hh => hf ?_⟩
  rcases hh with ⟨h1, -⟩ | ⟨h1, -⟩ <;> exact Or.inr (by omega)

theorem netKey_of_addr {f : Fld} (ha : 0x40600000 ≤ f.addr) : NetKey f.key := Or.inr (by simp only [Fld.key]; omega)

theorem State.modSeg_kept (s : State) (k : Nat) (f : NetSeg → NetSeg) : NetKept s (s.modSeg k f) := NetKept.net s _

theorem State.kaRingPut_kept (s : State) (c : Nat) (xtd : Bool) (id len : Nat) (data : List Nat) :
    NetKept s (s.kaRingPut c xtd id len data) := by
  have hget := NetKept.wr (netKey_of_addr (f := F.CANRAM_RING2_GET_RECLAIM (s.rd (F.NETMGT_SEG0_KA_RING c))) (by simp only [F.CANRAM_RING2_GET_RECLAIM]; omega))
    s (s.ringDone (s.rd (F.NETMGT_SEG0_KA_RING c)))
  exact NetKept.ite (NetKept.refl s) (hget.trans (NetKept.ite (NetKept.refl _) ((NetKept.mem _ _).trans
    (NetKept.wr (netKey_of_addr (by simp only [F.CANRAM_RING2_PUT]; omega)) _ _))))

theorem State.emitNm_kept (s : State) (k : Nat) (m : NmMsg) : NetKept s (s.emitNm k m) :=
  NetKept.ite (s.kaRingPut_kept ..) (s.frameIn_kept (by decide) _).netKept

theorem State.sendNm_kept (s : State) (k : Nat) (typ : NmType) (succ run : Nat) : NetKept s (s.sendNm k typ succ run) :=
  (s.modSeg_kept k _).trans (State.emitNm_kept ..)

theorem State.liftQuar_kept (s : State) (n : Nat) : NetKept s (s.liftQuar n) :=
  (NetKept.wr (netKey_of_addr (by simp only [F.NETMGT_NODE0_QUAR]; omega)) s 0).trans
    (NetKept.ite (NetKept.wr (netKey_of_addr (by decide)) _ 0) (NetKept.refl _))

theorem State.noteNode_kept (s : State) (node k : Nat) (just runs : Bool) : NetKept s (s.noteNode node k just runs) := by
  unfold State.noteNode
  extract_lets slot
  clear_value slot
  cases slot with
  | none => exact NetKept.wr (netKey_of_addr (by decide)) s _
  | some n =>
    have hn : NetKept s ((((s.setF (F.NETMGT_NODE0_VALID n)).wr (F.NETMGT_NODE0_NODE n) node).wr (F.NETMGT_NODE0_JUST n) (bit just)).wr
        (F.NETMGT_NODE0_SEG n) k) :=
      (((NetKept.wr (netKey_of_addr (by simp only [F.NETMGT_NODE0_VALID]; omega)) s 1).trans
        (NetKept.wr (netKey_of_addr (by simp only [F.NETMGT_NODE0_NODE]; omega)) _ _)).trans
        (NetKept.wr (netKey_of_addr (by simp only [F.NETMGT_NODE0_JUST]; omega)) _ _)).trans
        (NetKept.wr (netKey_of_addr (by simp only [F.NETMGT_NODE0_SEG]; omega)) _ _)
    refine hn.trans ?_
    dsimp only
    generalize ((((s.setF (F.NETMGT_NODE0_VALID n)).wr (F.NETMGT_NODE0_NODE n) node).wr (F.NETMGT_NODE0_JUST n) (bit just)).wr
        (F.NETMGT_NODE0_SEG n) k) = y
    have hlift : NetKept y (if just = true then y.liftQuar n else y) := NetKept.ite (y.liftQuar_kept n) (NetKept.refl y)
    exact hlift.trans (NetKept.ite (NetKept.net _ _) (NetKept.refl _))

theorem State.sendKeepalives_kept (s : State) : NetKept s s.sendKeepalives :=
  NetKept.foldl _ (fun s k _ => NetKept.ite (NetKept.refl s) (((s.sendNm_kept ..).trans (State.noteNode_kept ..)).trans
    (NetKept.ite (NetKept.refl _) ((State.modSeg_kept ..).trans
      (NetKept.wr (netKey_of_addr (by simp only [F.NETMGT_SEG1_READY]; omega)) _ 0))))) s

theorem State.loneRing_kept (s : State) (k : Nat) : NetKept s (s.loneRing k) :=
  NetKept.ite (NetKept.wr (netKey_of_addr (by simp only [F.NETMGT_SEG1_READY]; omega)) s _) (NetKept.refl s)

theorem State.netInterrupt_kept (s : State) : NetKept s s.netInterrupt :=
  NetKept.foldl _ (fun s i hi => by
    have h64 := List.mem_range.1 hi
    have hk : NetKey (F.SYSCTL_IPEND_PEND ipNetmgt (i / 32)).key := Or.inl (by simp only [Fld.key, F.SYSCTL_IPEND_PEND, ipNetmgt]; omega)
    exact NetKept.wr hk s _) s

theorem State.raise_netKept (s : State) {f : Fld} (hf : NetKey f.key) : NetKept s (s.raise f) := (NetKept.wr hf s _).trans (NetKept.clk _ _)

theorem State.cancelPrepare_kept (s : State) : NetKept s s.cancelPrepare := by
  have hinc (y : State) : NetKept y (y.inc (F.NETMGT_CNT_CANCELS_QUARANTINED 0)) := NetKept.wr (netKey_of_addr (by decide)) y _
  have hraise (y : State) : NetKept y (y.raise F.NETMGT_STAT_CANCEL_EVT) := y.raise_netKept (netKey_of_addr (by decide))
  refine (((NetKept.net s { s.net with state := .awake }).trans (hinc _)).trans (hraise _)).trans ((State.netInterrupt_kept _).trans ?_)
  exact NetKept.ite (State.sendKeepalives_kept _) (NetKept.refl _)

theorem State.enterPrepare_kept (s : State) : NetKept s s.enterPrepare :=
  ((NetKept.net s _).trans (State.raise_netKept _ (netKey_of_addr (by decide)))).trans (State.netInterrupt_kept _)

theorem State.needBegins_kept (s : State) : NetKept s s.needBegins := by
  have hsend (y : State) : NetKept y (if y.net.state = .prepare then y else y.sendKeepalives) :=
    NetKept.ite (NetKept.refl y) y.sendKeepalives_kept
  refine ((NetKept.net s _).trans (hsend _)).trans (NetKept.foldl _ (fun s k _ => NetKept.ite ?_ (NetKept.refl s)) _)
  exact ((s.sendNm_kept ..).trans (NetKept.wr (netKey_of_addr (by simp only [F.NETMGT_SEG1_READY]; omega)) _ 0)).trans (State.modSeg_kept ..)

/-- Network management acts on needs and segments alone. -/
theorem State.netUpdate_kept (s : State) : NetKept s s.netUpdate := by
  unfold State.netUpdate
  refine NetKept.ite (NetKept.refl s) ?_
  extract_lets n y x quiet
  have hy : NetKept s y := by
    simp only [y]
    split
    · exact s.needBegins_kept
    · exact NetKept.net s _
    · exact NetKept.refl s
  have hx : NetKept y x := NetKept.foldl _ (fun s k _ => s.loneRing_kept k) y
  clear_value y x quiet
  refine (hy.trans hx).trans ?_
  cases x.net.state with
  | prepare => exact NetKept.ite (NetKept.refl x) x.cancelPrepare_kept
  | awake => exact NetKept.ite x.enterPrepare_kept (NetKept.refl x)
  | entry => exact NetKept.refl x

end Sys2Proof.Machine
end

section
/-! PROOFS. The VIN swap and the program modes: O18 -/

namespace Sys2Proof.Machine

variable {s s' s'' : State} {l : LaneId} {t : Nat}

/-! ### Registers outside a set of keys -/

/-- Every register whose key lies outside `K` stands. -/
def Stands (K : Nat → Prop) (s s' : State) : Prop := ∀ f : Fld, ¬ K f.key → s'.rd f = s.rd f

namespace Stands
variable {K : Nat → Prop}

theorem refl (K : Nat → Prop) (s : State) : Stands K s s := fun _ _ => rfl

theorem trans (h : Stands K s s') (h' : Stands K s' s'') : Stands K s s'' := fun f hf => (h' f hf).trans (h f hf)

theorem of_regs (h : s'.regs = s.regs) : Stands K s s' := fun f _ => State.rd_congr h f

theorem mono {K' : Nat → Prop} (h : Stands K s s') (hk : ∀ k, K k → K' k) : Stands K' s s' := fun f hf => h f fun e => hf (hk _ e)

theorem wr {f : Fld} (hf : K f.key) (s : State) (v : Nat) : Stands K s (s.wr f v) := fun _ hg => State.rd_wr_ne s v fun e => hg (e ▸ hf)

theorem foldl {α : Type} {g : State → α → State} (l : List α) (h : ∀ s, ∀ a ∈ l, Stands K s (g s a)) (s : State) : Stands K s (l.foldl g s) := by
  induction l generalizing s with
  | nil => exact refl K s
  | cons a l ih => exact (h s a (by simp)).trans (ih (fun s b hb => h s b (by simp [hb])) (g s a))

theorem ite {c : Prop} [Decidable c] {x y : State} (hx : Stands K s x) (hy : Stands K s y) : Stands K s (if c then x else y) := by
  split <;> assumption

end Stands

/-! ### The VIN swap -/

/-- The keys of the VIN window, of the cycle's number and of the pins' copies. -/
def SwapKey (k : Nat) : Prop := (0x4020000C * 32 ≤ k ∧ k < 0x40201800 * 32) ∨ (0x40600000 * 32 ≤ k)

/-- The keys of the pins' block and above. -/
def PinKey (k : Nat) : Prop := 0x40600000 * 32 ≤ k

/-- The keys of the VIN window. -/
def VinKey (k : Nat) : Prop := 0x40201000 * 32 ≤ k ∧ k < 0x40201800 * 32

theorem State.pinCopies_stands (s : State) : Stands PinKey s s.pinCopies := by
  have hv (u : Nat) : PinKey (F.UIO_PIN_VAL_VALUE u).key := by simp only [PinKey, Fld.key, F.UIO_PIN_VAL_VALUE]; omega
  have hl (u : Nat) : PinKey (F.UIO_PIN_DIAG_LEVEL u).key := by simp only [PinKey, Fld.key, F.UIO_PIN_DIAG_LEVEL]; omega
  exact Stands.foldl _ (fun s u _ => (Stands.wr (hv u) s _).trans (Stands.wr (hl u) _ _)) s

theorem State.pinCopies_fields (s : State) : s.pinCopies.cyc = s.cyc ∧ s.pinCopies.lane = s.lane ∧ s.pinCopies.now = s.now ∧
    s.pinCopies.setup = s.setup ∧ s.pinCopies.pair = s.pair :=
  ⟨foldl_keeps State.cyc (by intros; rfl) _ s, foldl_keeps State.lane (by intros; rfl) _ s, foldl_keeps State.now (by intros; rfl) _ s,
    foldl_keeps State.setup (by intros; rfl) _ s, foldl_keeps State.pair (by intros; rfl) _ s⟩

/-- The writes of the VIN window that a swap makes. -/
def State.vinWritten (s : State) : State := (List.range 512).foldl (fun s w => s.wr (F.LANEIF_VIN_DATA w) (s.lane.vinFront.getD 0 w)) s

theorem State.vinWritten_fields (s : State) : s.vinWritten.cyc = s.cyc ∧ s.vinWritten.lane = s.lane ∧ s.vinWritten.now = s.now ∧
    s.vinWritten.setup = s.setup ∧ s.vinWritten.pair = s.pair :=
  ⟨foldl_keeps State.cyc (by intros; rfl) _ s, foldl_keeps State.lane (by intros; rfl) _ s, foldl_keeps State.now (by intros; rfl) _ s,
    foldl_keeps State.setup (by intros; rfl) _ s, foldl_keeps State.pair (by intros; rfl) _ s⟩

theorem State.vinWritten_stands (s : State) : Stands VinKey s s.vinWritten :=
  Stands.foldl _ (fun s w hw => by
    have hw512 := List.mem_range.1 hw
    exact Stands.wr ⟨by simp only [Fld.key, F.LANEIF_VIN_DATA]; omega, by simp only [Fld.key, F.LANEIF_VIN_DATA]; omega⟩ s _) s

/-- The cycle's number counts at every swap but the first, and its low half is shown (R84). -/
def State.numbered (s : State) (first : Bool) : State :=
  let a := if first then s else s.incWrap F.LANEIF_CYCLE_CNT_CYCLE
  a.wr F.LANEIF_IMG_SEQ_VIN_SEQ (a.cycleNo % 65536)

/-- The lane interface opens the cycle after the buffers have changed over. -/
def State.cycleOpened (s : State) : State :=
  { s with lane := { s.lane with opened := true, linkPrev := s.lane.linkNow, linkNow := [], overrun := false, compared := false } }

/-- The state of the first marker of a cycle up to the point at which the commands act (R84). -/
def State.swapped (s : State) (first : Bool) : State := ((s.numbered first).swapVin).cycleOpened.pinCopies

theorem State.vinSwap_eq (s : State) :
    s.vinSwap = (((s.swapped (!s.lane.opened)).cycSwap (!s.lane.opened)).pairSwap).netUpdate := by
  obtain ⟨b, c, y, h, hy, hc, hb⟩ : ∃ b c y, s.vinSwap = ((State.cycSwap y (!s.lane.opened)).pairSwap).netUpdate ∧
      y = State.pinCopies c ∧ c = State.cycleOpened b ∧ b = (s.numbered (!s.lane.opened)).swapVin := by
    unfold State.vinSwap
    exact ⟨_, _, _, rfl, rfl, rfl, rfl⟩
  rw [h, hy, hc, hb, State.swapped]

/-- The lane interface as the swap leaves it. -/
def LaneSt.swapped (x : LaneSt) (front : Tbl Nat) (now : Nat) : LaneSt :=
  { x with vinFront := front, swapAt := now, tied := false, opened := true, linkPrev := x.linkNow, linkNow := [], overrun := false,
           compared := false }

theorem ends_firstMarker {P : State → Prop} {n : Nat} (hr : s.lanesRun = true) (hb : (s.ln l).boundary ≤ t)
    (hn : s.lane.opened = false ∨ n = (s.cycleNo + 1) % 2 ^ 32)
    (h : P (((((s.tick t).swapped (!s.lane.opened)).cycSwap (!s.lane.opened)).pairSwap).netUpdate)) : Ends (.boundaryMarkerRx t l n) s P := by
  have h1 : ¬ (!(s.tick t).lanesRun ∨ (s.tick t).now < ((s.tick t).ln l).boundary) := by
    rw [show (s.tick t).lanesRun = true from hr]
    exact fun e => e.elim Bool.false_ne_true (not_lt.2 hb)
  have h2 : !(s.tick t).lane.opened ∨ n = ((s.tick t).cycleNo + 1) % 2 ^ 32 := hn.imp (fun e => by rw [show (s.tick t).lane.opened = false from e]; rfl) id
  exact ends_next_eq (arm_boundaryMarkerRx t l n s) ((if_neg h1).trans ((if_pos h2).trans (State.vinSwap_eq _))) h

theorem State.numbered_spec (s : State) (first : Bool) : let a := s.numbered first
    a.cyc = s.cyc ∧ a.now = s.now ∧ a.setup = s.setup ∧ a.pair = s.pair ∧ a.lane = s.lane ∧ Stands SwapKey s a := by
  have hcnt : SwapKey F.LANEIF_CYCLE_CNT_CYCLE.key := Or.inl (by decide)
  have hseq : SwapKey F.LANEIF_IMG_SEQ_VIN_SEQ.key := Or.inl (by decide)
  cases first
  · exact ⟨rfl, rfl, rfl, rfl, rfl, (Stands.wr hcnt s _).trans (Stands.wr hseq _ _)⟩
  · exact ⟨rfl, rfl, rfl, rfl, rfl, Stands.wr hseq _ _⟩

theorem State.swapVin_eq (a : State) :
    ∃ b, a.swapVin = { b with lane := { b.lane with vinFront := a.vinBack, swapAt := b.now, tied := false } } ∧ b = a.vinWritten := by
  unfold State.swapVin
  exact ⟨_, rfl, rfl⟩

/-- A swap leaves the programs, the pair and the registers outside its own alone. -/
theorem State.swapped_spec (s : State) (first : Bool) : let y := s.swapped first
    y.cyc = s.cyc ∧ y.now = s.now ∧ y.setup = s.setup ∧ y.pair = s.pair ∧ Stands SwapKey s y ∧
    y.lane = s.lane.swapped (s.numbered first).vinBack s.now := by
  obtain ⟨a1, a2, a3, a4, a5, ha⟩ := s.numbered_spec first
  obtain ⟨a, hx⟩ : ∃ a, a = s.numbered first := ⟨_, rfl⟩
  rw [← hx] at a1 a2 a3 a4 a5 ha
  obtain ⟨b1, b2, b3, b4, b5⟩ := a.vinWritten_fields
  have hb := a.vinWritten_stands
  obtain ⟨b, hsw, hwb⟩ := a.swapVin_eq
  rw [← hwb] at b1 b2 b3 b4 b5 hb
  obtain ⟨c, hc⟩ : ∃ c, c = a.swapVin.cycleOpened := ⟨_, rfl⟩
  have hfc : c.cyc = b.cyc ∧ c.now = b.now ∧ c.setup = b.setup ∧ c.pair = b.pair ∧ c.lane = b.lane.swapped a.vinBack b.now ∧ c.regs = b.regs := by
    rw [hc, hsw]
    generalize a.vinBack = front
    exact ⟨rfl, rfl, rfl, rfl, rfl, rfl⟩
  obtain ⟨c1, c2, c3, c4, c5, c6⟩ := hfc
  rw [State.swapped, ← hx, ← hc]
  obtain ⟨p1, p2, p3, p4, p5⟩ := c.pinCopies_fields
  dsimp only
  rw [p1, p2, p3, p4, p5, c5, b2, a5, b3, a2]
  exact ⟨c1.trans (b1.trans a1), c2.trans (b3.trans a2), c3.trans (b4.trans a3), c4.trans (b5.trans a4),
    (ha.trans (hb.mono fun k hk => Or.inl ⟨le_trans (by decide) hk.1, hk.2⟩)).trans
      ((Stands.of_regs c6).trans (c.pinCopies_stands.mono fun _ hk => Or.inr hk)), rfl⟩

/-! ### Commands -/

/-- The keys that a mode command may write: those below the pair's block, and the pins'. -/
def CycKey (k : Nat) : Prop := k < 0x40380000 * 32 ∨ 0x40600000 * 32 ≤ k

theorem cycKey_of_lt {f : Fld} (ha : f.addr < 0x4037FFFF) (hl : f.lo ≤ 32) : CycKey f.key := Or.inl (by simp only [Fld.key]; omega)

/-- A command acts with a result and a mode, and leaves the queue and the pair's registers alone. -/
def State.ActsAs (z : State) (c : CycCmd) (result : Nat) (mode : ProgMode) : Prop :=
  (z.cycAct c).2 = result ∧ (z.cycAct c).1.cyc.mode = mode ∧ (z.cycAct c).1.cyc.cmds = z.cyc.cmds ∧
    (z.cycAct c).1.cyc.stepDue = decide (c = .step ∧ mode = .hold ∧ result = 0) ∧ Stands CycKey z (z.cycAct c).1

/-- One entry of the active force table is cleared. -/
def State.clearForce (s : State) (e : Nat) : State :=
  let s := [0, 1, 2].foldl (fun s j => s.clrF (F.CYCMGR_FORCE_ACT_WORD e j)) s
  (((s.clrF (F.CYCMGR_FORCE_ACT3_EN e)).clrF (F.CYCMGR_FORCE_ACT3_POINT e)).clrF (F.CYCMGR_FORCE_ACT3_VITAL e)).clrF
    (F.CYCMGR_FORCE_ACT3_STATUS e)

theorem State.clearForce_cyc (s : State) (e : Nat) : (s.clearForce e).cyc = s.cyc := by
  simp only [State.clearForce, List.foldl_cons, List.foldl_nil, State.clrF, State.wr_cyc]

theorem State.clearForce_stands (s : State) {e : Nat} (he : e < 256) : Stands CycKey s (s.clearForce e) := by
  have hw (s : State) (j : Nat) (hj : j < 3) : Stands CycKey s (s.clrF (F.CYCMGR_FORCE_ACT_WORD e j)) :=
    Stands.wr (cycKey_of_lt (by simp only [F.CYCMGR_FORCE_ACT_WORD]; omega) (by simp only [F.CYCMGR_FORCE_ACT_WORD]; omega)) s 0
  have hf (f : Nat → Fld) (ha : (f e).addr < 0x4037FFFF) (hl : (f e).lo ≤ 32) (s : State) : Stands CycKey s (s.clrF (f e)) :=
    Stands.wr (cycKey_of_lt ha hl) s 0
  refine (((hw s 0 (by omega)).trans (hw _ 1 (by omega))).trans (hw _ 2 (by omega))).trans ?_
  refine (((hf F.CYCMGR_FORCE_ACT3_EN ?_ ?_ _).trans (hf F.CYCMGR_FORCE_ACT3_POINT ?_ ?_ _)).trans
    (hf F.CYCMGR_FORCE_ACT3_VITAL ?_ ?_ _)).trans (hf F.CYCMGR_FORCE_ACT3_STATUS ?_ ?_ _)
  all_goals simp only [F.CYCMGR_FORCE_ACT3_EN, F.CYCMGR_FORCE_ACT3_POINT, F.CYCMGR_FORCE_ACT3_VITAL, F.CYCMGR_FORCE_ACT3_STATUS]; omega

theorem State.clearForces_eq (s : State) : s.clearForces = (forceEntries.foldl State.clearForce s).countForces := by
  rw [State.clearForces]
  congr 1

theorem State.countForces_stands (s : State) : Stands CycKey s s.countForces := by
  have ha : CycKey F.CYCMGR_FORCE_STAT_APPLIED.key := cycKey_of_lt (by decide) (by decide)
  have hv : CycKey F.CYCMGR_FORCE_STAT_VITAL.key := cycKey_of_lt (by decide) (by decide)
  intro f hf
  rw [State.countForces, State.rd_wr_ne _ _ fun e => hf (e ▸ hv), State.rd_wr_ne _ _ fun e => hf (e ▸ ha)]

theorem State.clearForces_cyc (s : State) : s.clearForces.cyc = s.cyc := by
  rw [State.clearForces_eq, State.countForces, State.wr_cyc, State.wr_cyc]
  exact foldl_keeps State.cyc State.clearForce_cyc _ s

theorem State.clearForces_stands (s : State) : Stands CycKey s s.clearForces := by
  rw [State.clearForces_eq]
  exact (Stands.foldl _ (fun s _ he => s.clearForce_stands (List.mem_range.1 he)) s).trans (State.countForces_stands _)

theorem State.modLanes_cyc (s : State) (ls : List LaneId) (f : Lane → Lane) : (s.modLanes ls f).cyc = s.cyc :=
  foldl_keeps State.cyc (by intros; rfl) ls s

theorem State.restart_spec (s : State) (cold : Bool) (p : Program) : (s.restart cold p).cyc.mode = .starting ∧
    (s.restart cold p).cyc.cmds = s.cyc.cmds ∧ (s.restart cold p).cyc.stepDue = s.cyc.stepDue ∧ Stands CycKey s (s.restart cold p) := by
  have hlast : CycKey F.CYCMGR_STAT_LAST_RESTART.key := cycKey_of_lt (by decide) (by decide)
  have hcold : CycKey F.CYCMGR_STAT_COLD_REASON.key := cycKey_of_lt (by decide) (by decide)
  obtain ⟨y, hy⟩ : ∃ y, y = s.restart cold p := ⟨_, rfl⟩
  rw [← hy]
  unfold State.restart at hy
  extract_lets fromSafe x a x' x'' b at hy
  have ha : a.cyc = s.cyc ∧ a.regs = s.regs := by
    simp only [a]
    split <;> exact ⟨rfl, rfl⟩
  have hb : b.cyc.mode = .starting ∧ b.cyc.cmds = s.cyc.cmds ∧ b.cyc.stepDue = s.cyc.stepDue ∧ b.regs = s.regs :=
    ⟨rfl, (congrArg CycSt.cmds ha.1 :), (congrArg CycSt.stepDue ha.1 :), ha.2⟩
  obtain ⟨b1, b2, b3, hr⟩ := hb
  clear_value b
  split at hy
  · dsimp only at hy
    refine ⟨?_, ?_, ?_, ?_⟩
    · rw [hy, State.wr_cyc, State.wr_cyc, State.modLanes_cyc, b1]
    · rw [hy, State.wr_cyc, State.wr_cyc, State.modLanes_cyc, b2]
    · rw [hy, State.wr_cyc, State.wr_cyc, State.modLanes_cyc, b3]
    · rw [hy]
      exact (Stands.of_regs ((State.modLanes_regs ..).trans hr)).trans ((Stands.wr hlast _ 1).trans (Stands.wr hcold _ 0))
  · have f1 := (b.modLanes laneIds Lane.coldStart).clearForces_cyc
    have f2 := (b.modLanes laneIds Lane.coldStart).clearForces_stands
    refine ⟨?_, ?_, ?_, ?_⟩
    · rw [hy, State.wr_cyc, State.wr_cyc, f1, State.modLanes_cyc, b1]
    · rw [hy, State.wr_cyc, State.wr_cyc, f1, State.modLanes_cyc, b2]
    · rw [hy, State.wr_cyc, State.wr_cyc, f1, State.modLanes_cyc, b3]
    · rw [hy]
      exact ((Stands.of_regs ((State.modLanes_regs ..).trans hr)).trans f2).trans ((Stands.wr hlast _ 2).trans (Stands.wr hcold _ _))

theorem State.cancelOc_spec (s : State) : s.cancelOc.cyc.mode = s.cyc.mode ∧ s.cancelOc.cyc.cmds = s.cyc.cmds ∧
    s.cancelOc.cyc.stepDue = s.cyc.stepDue ∧ s.cancelOc.regs = s.regs ∧ s.cancelOc.lane = s.lane := by
  unfold State.cancelOc
  split <;> exact ⟨rfl, rfl, rfl, rfl, rfl⟩

theorem State.abortAttempt_cyc (s : State) (cause : Nat) : (s.abortAttempt cause).cyc = s.cyc := by
  unfold State.abortAttempt
  split
  · split <;> rfl
  · rfl

theorem State.fixPins_spec (s : State) : s.fixPins.cyc = s.cyc ∧ Stands CycKey s s.fixPins := by
  have hfix (y : State) (u : Nat) : (y.fixPin u).cyc = y.cyc := by
    unfold State.fixPin
    split <;> rfl
  refine ⟨foldl_keeps State.cyc hfix _ s, Stands.foldl _ (fun y u _ => ?_) s⟩
  unfold State.fixPin
  split
  · have hk (f : Fld) (hf : 0x40600000 ≤ f.addr) (y : State) (v : Nat) : Stands CycKey y (y.wr f v) :=
      Stands.wr (Or.inr (by simp only [Fld.key]; omega)) y v
    refine ((((hk _ ?_ y _).trans (hk _ ?_ _ _)).trans (hk _ ?_ _ _)).trans (hk _ ?_ _ _)).trans (hk _ ?_ _ _)
    all_goals simp only [F.UIO_PIN_CFG_MODE, F.UIO_PIN_CFG_DEB, F.UIO_PIN_CFG_FGATE, F.UIO_PIN_THR_TH_HI, F.UIO_PIN_THR_TH_LO]; omega
  · exact Stands.refl _ y

theorem State.toStop_spec (s : State) : s.toStop.cyc.mode = .stop ∧ s.toStop.cyc.cmds = s.cyc.cmds ∧ s.toStop.cyc.stepDue = s.cyc.stepDue ∧
    Stands CycKey s s.toStop := by
  obtain ⟨a, ha⟩ : ∃ a : State, a = { s with lane := { s.lane with armed := false }, cyc := { s.cyc with mode := .stop, restart := none } } := ⟨_, rfl⟩
  have hfa : a.cyc.mode = .stop ∧ a.cyc.cmds = s.cyc.cmds ∧ a.cyc.stepDue = s.cyc.stepDue ∧ a.regs = s.regs := by
    rw [ha]; exact ⟨rfl, rfl, rfl, rfl⟩
  obtain ⟨a1, a2, a3, a4⟩ := hfa
  have hs : s.toStop = (((a.dropWork.cancelOc).abortAttempt 7).clrF F.CYCMGR_STAT_HOLD_ARMED).fixPins := by rw [ha]; rfl
  have hd : a.dropWork.cyc = a.cyc ∧ a.dropWork.regs = a.regs := ⟨a.modLanes_cyc .., a.modLanes_regs ..⟩
  generalize a.dropWork = b at hs hd
  obtain ⟨c1, c2, c3, c4, -⟩ := b.cancelOc_spec
  have hab : Stands CycKey b.cancelOc (b.cancelOc.abortAttempt 7) := fun f hf => b.cancelOc.abortAttempt_regs 7 f fun hm => hf (by
    simp only [List.map_cons, List.map_nil, List.mem_cons, List.not_mem_nil, or_false] at hm
    rcases hm with hm | hm <;> rw [hm] <;> exact Or.inl (by decide))
  have hcyc := b.cancelOc.abortAttempt_cyc 7
  obtain ⟨f1, f2⟩ := ((b.cancelOc.abortAttempt 7).clrF F.CYCMGR_STAT_HOLD_ARMED).fixPins_spec
  have hh : CycKey F.CYCMGR_STAT_HOLD_ARMED.key := cycKey_of_lt (by decide) (by decide)
  have hclr : ((b.cancelOc.abortAttempt 7).clrF F.CYCMGR_STAT_HOLD_ARMED).cyc = b.cancelOc.cyc := hcyc
  rw [hs, f1, hclr, c1, c2, c3, hd.1, a1, a2, a3]
  exact ⟨rfl, rfl, rfl, (Stands.of_regs (c4.trans (hd.2.trans a4))).trans (hab.trans ((Stands.wr hh _ 0).trans f2))⟩

theorem State.doHold_spec (hm : s.cyc.mode = .run) (ha : s.lane.armed = false) : s.doHold.2 = 0 ∧ s.doHold.1.cyc.mode = .hold ∧
    s.doHold.1.cyc.cmds = s.cyc.cmds ∧ s.doHold.1.cyc.stepDue = s.cyc.stepDue ∧ Stands CycKey s s.doHold.1 := by
  have hh : CycKey F.CYCMGR_STAT_HOLD_ARMED.key := cycKey_of_lt (by decide) (by decide)
  obtain ⟨a, hx⟩ : ∃ a : State, a = { s with lane := { s.lane with armed := false }, cyc := { s.cyc with mode := .hold } } := ⟨_, rfl⟩
  have hd : s.doHold = (a.cancelOc.wr F.CYCMGR_STAT_HOLD_ARMED 0, 0) := by
    unfold State.doHold
    simp only [hm, ha, Bool.false_eq_true, false_and, if_false]
    rw [hx]
    rfl
  have hf : a.cyc.mode = .hold ∧ a.cyc.cmds = s.cyc.cmds ∧ a.cyc.stepDue = s.cyc.stepDue ∧ a.regs = s.regs := by
    rw [hx]; exact ⟨rfl, rfl, rfl, rfl⟩
  obtain ⟨a1, a2, a3, a4⟩ := hf
  obtain ⟨c1, c2, c3, c4, -⟩ := a.cancelOc_spec
  rw [hd]
  exact ⟨rfl, c1.trans a1, c2.trans a2, c3.trans a3, (Stands.of_regs (c4.trans a4)).trans (Stands.wr hh _ 0)⟩

theorem State.sealAll_spec (s : State) : s.sealAll.cyc = s.cyc ∧ s.sealAll.regs = s.regs := by
  unfold State.sealAll
  split
  · exact ⟨rfl, rfl⟩
  · exact ⟨State.modLanes_cyc .., State.modLanes_regs ..⟩

section Acts
variable {z : State} {c : CycCmd} {p : Program}

/-- A refused command changes nothing. -/
theorem State.ActsAs.refused {result : Nat} (hd : z.cyc.stepDue = false) (hr : result ≠ 0) (h : z.cycAct c = (z, result)) :
    z.ActsAs c result z.cyc.mode := by
  unfold State.ActsAs
  rw [h]
  exact ⟨rfl, rfl, rfl, hd.trans (decide_eq_false fun e => hr e.2.2).symm, Stands.refl _ z⟩

/-- RUN or RUN_COLD, by what `doRun` does. -/
theorem State.cycAct_run (hs : z.setup.applying = false) (hc : c = .run ∨ c = .runCold) : ∃ cold, z.cycAct c = z.doRun cold := by
  have hn : ¬ z.setup.applying = true := by rw [hs]; exact Bool.false_ne_true
  rcases hc with rfl | rfl
  · exact ⟨false, if_neg hn⟩
  · exact ⟨true, if_neg hn⟩

theorem State.ActsAs.restarts (hs : z.setup.applying = false) (hd : z.cyc.stepDue = false) (hc : c = .run ∨ c = .runCold)
    (h : ∀ cold, z.doRun cold = (z.restart cold p, 0)) : z.ActsAs c 0 .starting := by
  obtain ⟨cold, hact⟩ := State.cycAct_run hs hc
  obtain ⟨r1, r2, r3, r4⟩ := z.restart_spec cold p
  have hne : c ≠ .step := by rcases hc with rfl | rfl <;> exact nofun
  unfold State.ActsAs
  rw [hact, h]
  exact ⟨rfl, r1, r2, (r3.trans hd).trans (decide_eq_false fun e => hne e.1).symm, r4⟩

/-- Where the lanes hold the program in force, its hashes are equal (R117). -/
theorem State.hashesEqual_iff (hp : z.cyc.act = some p) : z.hashesEqual = true ↔ ∀ j, (z.ln j).bankHash = some p.hash := by
  unfold State.hashesEqual
  simp only [hp, List.all_eq_true, beq_iff_eq]
  exact ⟨fun h j => h j (mem_laneIds j), fun h j _ => h j⟩

theorem State.ActsAs.run_stop (hp : z.cyc.act = some p) (hs : z.setup.applying = false) (hd : z.cyc.stepDue = false)
    (hm : z.cyc.mode = .stop) (hc : c = .run ∨ c = .runCold) (hh : ∀ j, (z.ln j).bankHash = some p.hash) : z.ActsAs c 0 .starting := by
  refine ActsAs.restarts hs hd hc (p := p) fun cold => ?_
  unfold State.doRun
  simp only [hm, hp, (State.hashesEqual_iff hp).2 hh, if_true]

theorem State.ActsAs.run_mismatch (hp : z.cyc.act = some p) (hs : z.setup.applying = false) (hd : z.cyc.stepDue = false)
    (hm : z.cyc.mode = .stop) (hc : c = .run ∨ c = .runCold) (hh : ∃ j, (z.ln j).bankHash ≠ some p.hash) : z.ActsAs c 4 .stop := by
  obtain ⟨cold, hact⟩ := State.cycAct_run hs hc
  obtain ⟨j, hj⟩ := hh
  have hne : z.hashesEqual ≠ true := fun e => hj ((State.hashesEqual_iff hp).1 e j)
  refine hm ▸ ActsAs.refused hd (by decide) ?_
  rw [hact, State.doRun]
  simp only [hm, hp, hne]
  rfl

theorem State.ActsAs.run_safe (hp : z.cyc.act = some p) (hs : z.setup.applying = false) (hd : z.cyc.stepDue = false)
    (hm : z.cyc.mode = .safe) (hc : c = .run ∨ c = .runCold) : z.ActsAs c 0 .starting := by
  refine ActsAs.restarts hs hd hc (p := p) fun cold => ?_
  unfold State.doRun
  simp only [hm, hp]

theorem State.ActsAs.run_refused (hs : z.setup.applying = false) (hd : z.cyc.stepDue = false)
    (hm : z.cyc.mode = .run ∨ z.cyc.mode = .hold ∨ z.cyc.mode = .starting) (hc : c = .run ∨ c = .runCold) : z.ActsAs c 1 z.cyc.mode := by
  obtain ⟨cold, hact⟩ := State.cycAct_run hs hc
  refine ActsAs.refused hd (by decide) ?_
  rw [hact, State.doRun]
  rcases hm with hm | hm | hm <;> simp only [hm]

theorem State.ActsAs.stop (hd : z.cyc.stepDue = false) (hm : z.cyc.mode = .run ∨ z.cyc.mode = .hold ∨ z.cyc.mode = .safe) :
    z.ActsAs .stop 0 .stop := by
  have hact : z.cycAct .stop = (z.sealAll.toStop, 0) := by
    change z.doStop = _
    unfold State.doStop
    rcases hm with hm | hm | hm <;> simp only [hm]
  obtain ⟨e1, e2⟩ := z.sealAll_spec
  obtain ⟨t1, t2, t3, t4⟩ := z.sealAll.toStop_spec
  unfold State.ActsAs
  rw [hact]
  rw [e1] at t2 t3
  exact ⟨rfl, t1, t2, t3.trans hd, (Stands.of_regs e2).trans t4⟩

theorem State.ActsAs.stop_refused (hd : z.cyc.stepDue = false) (hm : z.cyc.mode = .stop ∨ z.cyc.mode = .starting) :
    z.ActsAs .stop 1 z.cyc.mode := by
  refine ActsAs.refused hd (by decide) ?_
  change z.doStop = _
  unfold State.doStop
  rcases hm with hm | hm <;> simp only [hm]

theorem State.ActsAs.hold (hd : z.cyc.stepDue = false) (hm : z.cyc.mode = .run) (ha : z.lane.armed = false) : z.ActsAs .hold 0 .hold := by
  obtain ⟨h1, h2, h3, h4, h5⟩ := State.doHold_spec hm ha
  exact ⟨h1, h2, h3, h4.trans hd, h5⟩

theorem State.ActsAs.hold_armed (hd : z.cyc.stepDue = false) (hm : z.cyc.mode = .run) (ha : z.lane.armed = true) (ht : z.cyc.token = none) :
    z.ActsAs .hold 2 .run := by
  refine hm ▸ ActsAs.refused hd (by decide) ?_
  have hmay : z.mayHoldArmed = false := by unfold State.mayHoldArmed; rw [ht]
  change z.doHold = _
  unfold State.doHold
  simp only [hm, ha, hmay, Bool.not_false, and_self, if_true]

theorem State.ActsAs.hold_refused (hd : z.cyc.stepDue = false) (hm : z.cyc.mode ≠ .run) : z.ActsAs .hold 1 z.cyc.mode := by
  refine ActsAs.refused hd (by decide) ?_
  change z.doHold = _
  unfold State.doHold
  cases h : z.cyc.mode with
  | run => exact absurd h hm
  | stop | hold | safe | starting => rfl

theorem State.ActsAs.step (hm : z.cyc.mode = .hold) : z.ActsAs .step 0 .hold := by
  have hact : z.cycAct .step = ({ z with cyc := { z.cyc with stepDue := true } }, 0) := if_pos hm
  unfold State.ActsAs
  rw [hact]
  exact ⟨rfl, hm, rfl, rfl, Stands.refl _ z⟩

theorem State.ActsAs.resume (hd : z.cyc.stepDue = false) (hm : z.cyc.mode = .hold) : z.ActsAs .resume 0 .run := by
  have hh : CycKey F.CYCMGR_STAT_HOLD_ARMED.key := cycKey_of_lt (by decide) (by decide)
  have hact : z.cycAct .resume = (({ z with cyc := { z.cyc with mode := .run } } : State).clrF F.CYCMGR_STAT_HOLD_ARMED, 0) := if_pos hm
  unfold State.ActsAs
  rw [hact]
  exact ⟨rfl, rfl, rfl, hd, (Stands.of_regs rfl).trans (Stands.wr hh _ 0)⟩

theorem State.ActsAs.step_refused (hd : z.cyc.stepDue = false) (hm : z.cyc.mode ≠ .hold) (hc : c = .step ∨ c = .resume) :
    z.ActsAs c 1 z.cyc.mode := by
  refine ActsAs.refused hd (by decide) ?_
  rcases hc with rfl | rfl <;> exact if_neg hm

end Acts

/-! ### One command at a swap -/

theorem State.cycRun_one (z : State) (c : CycCmd) :
    z.cycRun 0 [c] = ((z.cycAct c).1.cycResult c.code (z.cycAct c).2).wr (cmdLogFld 0) (0x80 + 8 * c.code + (z.cycAct c).2) := by
  rw [State.cycRun, State.cycRun]
  exact if_pos (by decide)

/-- The state in which the one command of a swap acts. -/
theorem State.cycSwap_one {y : State} {t0 : Nat} {c : CycCmd} (ht : y.cyc.token = none) (hc : y.cyc.cmds = [(t0, c)]) (hlt : t0 < y.now) :
    ∃ z x : State, z.cyc = { y.cyc with cmds := [], stepDue := false } ∧ z.lane = y.lane ∧ z.setup = y.setup ∧ Stands CycKey y z ∧
      x = ((z.cycAct c).1.cycResult c.code (z.cycAct c).2).wr (cmdLogFld 0) (0x80 + 8 * c.code + (z.cycAct c).2) ∧
      y.cycSwap false = { x with cyc := { x.cyc with expected := x.cyc.mode == .run || x.cyc.stepDue } } := by
  obtain ⟨a, ha⟩ : ∃ a : State, a = { y with cyc := { y.cyc with cmds := [], stepDue := false } } := ⟨_, rfl⟩
  have hfa : a.cyc = { y.cyc with cmds := [], stepDue := false } ∧ a.lane = y.lane ∧ a.setup = y.setup ∧ a.regs = y.regs := by
    rw [ha]; exact ⟨rfl, rfl, rfl, rfl⟩
  obtain ⟨a1, a2, a3, a4⟩ := hfa
  have hlog (s : State) (k : Nat) (hk : k < 4) : Stands CycKey s (s.wr (cmdLogFld k) 0) :=
    Stands.wr (cycKey_of_lt (by simp only [cmdLogFld, F.CYCMGR_CMD_LOG_ENTRY0]; omega) (by simp only [cmdLogFld]; omega)) s 0
  refine ⟨[0, 1, 2, 3].foldl (fun s k => s.wr (cmdLogFld k) 0) a, _, a1, a2, a3, ?_, rfl, ?_⟩
  · exact (Stands.of_regs a4).trans (Stands.foldl _ (fun s k hk => hlog s k (by
      simp only [List.mem_cons, List.not_mem_nil, or_false] at hk
      omega)) a)
  · unfold State.cycSwap
    simp only [ht, hc, hlt, decide_true, List.filter_cons, List.filter_nil, if_true, Bool.not_true, Bool.false_eq_true, if_false,
      false_and, List.map_cons, List.map_nil, List.nil_append, List.isEmpty_cons]
    rw [State.cycRun_one, ha]
    simp only [ht]

theorem State.pairSwap_off (h : s.rd F.PAIR_CFG_PAIR_EN = 0) : s.pairSwap = s :=
  if_pos (by rw [State.flag_eq_false.2 h]; rfl)

/-- What stands after the swap of a cycle in which one mode command acts. -/
theorem ends_oneCommand {t0 : Nat} {c : CycCmd} {result : Nat} {mode : ProgMode} (hr : s.lanesRun = true) (hb : (s.ln l).boundary ≤ t)
    (ho : s.lane.opened = true) (hlt : t0 < t) (hc : s.cyc.cmds = [(t0, c)]) (ht : s.cyc.token = none) (hp : s.rd F.PAIR_CFG_PAIR_EN = 0)
    (hcode : c.code ≤ 8) (hres : result < 8)
    (h : ∀ z : State, z.cyc = { s.cyc with cmds := [], stepDue := false } → z.lane.armed = s.lane.armed → z.lane.lanes = s.lane.lanes →
      z.setup = s.setup → z.ActsAs c result mode) :
    Ends (.boundaryMarkerRx t l ((s.cycleNo + 1) % 2 ^ 32)) s fun s' => s'.cyc.mode = mode ∧ s'.cyc.cmds = [] ∧
      s'.rd F.CYCMGR_STAT_CMD_RESULT = result ∧ s'.rd F.CYCMGR_STAT_LAST_CMD = c.code ∧
      s'.rd F.CYCMGR_CMD_LOG_ENTRY0 = 128 + 8 * c.code + result ∧
      s'.cyc.expected = (decide (mode = .run) || decide (c = .step ∧ mode = .hold ∧ result = 0)) := by
  refine ends_firstMarker hr hb (.inr rfl) ?_
  obtain ⟨y1, y2, y3, -, y5, y6⟩ := (s.tick t).swapped_spec false
  rw [show (!s.lane.opened) = false from congrArg Bool.not ho]
  generalize (s.tick t).swapped false = y at y1 y2 y3 y5 y6 ⊢
  obtain ⟨z, x, z1, z2, z3, z4, hx, hsw⟩ := State.cycSwap_one (y := y) (t0 := t0) (c := c) (by rw [y1]; exact ht) (by rw [y1]; exact hc) (by rw [y2]; exact hlt)
  obtain ⟨r1, r2, r3, r4, r5⟩ := h z (by rw [z1, y1]; rfl) (by rw [z2, y6]; rfl) (by rw [z2, y6]; rfl) (z3.trans y3)
  have hxc : x.cyc = (z.cycAct c).1.cyc := by rw [hx]; rfl
  rw [r1] at hx
  have hpair : x.rd F.PAIR_CFG_PAIR_EN = 0 := by
    have hk : ¬ CycKey F.PAIR_CFG_PAIR_EN.key := by rintro (e | e) <;> revert e <;> decide
    have hs : ¬ SwapKey F.PAIR_CFG_PAIR_EN.key := by rintro (e | e) <;> revert e <;> decide
    rw [hx, State.cycResult, State.rd_wr_ne _ _ (by decide), State.rd_wr_ne _ _ (by decide), State.rd_wr_ne _ _ (by decide), r5 _ hk, z4 _ hk, y5 _ hs]
    exact hp
  have hres' : x.rd F.CYCMGR_STAT_CMD_RESULT = result := by
    rw [hx, State.cycResult, State.rd_wr_ne _ _ (by decide), State.rd_wr_ne _ _ (by decide)]
    exact State.rd_wr_lt _ hres
  have hlast : x.rd F.CYCMGR_STAT_LAST_CMD = c.code := by
    rw [hx, State.cycResult, State.rd_wr_ne _ _ (by decide)]
    exact State.rd_wr_lt _ (show c.code < 16 by omega)
  have hlog : x.rd F.CYCMGR_CMD_LOG_ENTRY0 = 128 + 8 * c.code + result := by
    rw [hx]
    exact State.rd_wr_lt (f := F.CYCMGR_CMD_LOG_ENTRY0) _ (show 128 + 8 * c.code + result < 256 by omega)
  obtain ⟨w, hw⟩ : ∃ w : State, w = { x with cyc := { x.cyc with expected := x.cyc.mode == .run || x.cyc.stepDue } } := ⟨_, rfl⟩
  have hwc : w.cyc.mode = mode ∧ w.cyc.cmds = [] ∧ w.cyc.expected = (decide (mode = .run) || decide (c = .step ∧ mode = .hold ∧ result = 0)) ∧
      w.regs = x.regs := by
    rw [hw]
    refine ⟨(congrArg CycSt.mode hxc).trans r2, (congrArg CycSt.cmds hxc).trans (r3.trans (by rw [z1])), ?_, rfl⟩
    change (x.cyc.mode == .run || x.cyc.stepDue) = _
    rw [hxc, r2, r4]
    rfl
  obtain ⟨w1, w2, w3, w4⟩ := hwc
  rw [hsw, ← hw, State.pairSwap_off ((State.rd_congr w4 _).trans hpair)]
  have hkept := w.netUpdate_kept
  obtain ⟨p1, -⟩ := hkept.parts
  have hreg (f : Fld) (hf : ¬ NetKey f.key) : w.netUpdate.rd f = x.rd f := (hkept.2 f hf).trans (State.rd_congr w4 f)
  rw [p1]
  refine ⟨w1, w2, (hreg _ ?_).trans hres', (hreg _ ?_).trans hlast, (hreg _ ?_).trans hlog, w3⟩
  all_goals rintro (e | e) <;> revert e <;> decide

/-- Settles O18: each row of the table by what its command does in the state that the swap has reached. -/
theorem programModesFollowTable : Obligations.ProgramModesFollowTable := by
  intro s t t0 l c p hr hb ho hlt hs hc ht hp hact acts
  have go {result : Nat} {mode : ProgMode} (hcode : c.code ≤ 8) (hres : result < 8)
      (h : ∀ z : State, z.cyc.mode = s.cyc.mode → z.cyc.act = some p → z.cyc.token = none → z.cyc.stepDue = false → z.lane.armed = s.lane.armed →
        (∀ j, z.ln j = s.ln j) → z.setup.applying = false → z.ActsAs c result mode) : acts result mode :=
    ends_oneCommand hr hb ho hlt hc ht hp hcode hres fun z z1 z2 z3 z4 => h z (by rw [z1]) (by rw [z1]; exact hact) (by rw [z1]; exact ht) (by rw [z1]) z2
      (fun j => State.ln_congr z3 j) (by rw [z4]; exact hs)
  have hrun (hc : c = .run ∨ c = .runCold) : c.code ≤ 8 := by rcases hc with rfl | rfl <;> decide
  refine ⟨fun hm hc hh => ?_, fun hm hc hh => ?_, fun hm hc => ?_, fun hm hc => ?_, fun hm hc ha => ?_, fun hm hc ha => ?_, fun hm hc => ?_,
    fun hm hc => ?_, fun hm hc => ?_, fun hm hc => ?_, fun hm hc => ?_, fun hm hc => ?_⟩
  · exact go (hrun hc) (by decide) fun z zm za _ zd _ zl zs => .run_stop za zs zd (zm.trans hm) hc fun j => by rw [zl]; exact hh j
  · obtain ⟨j, hj⟩ := hh
    exact go (hrun hc) (by decide) fun z zm za _ zd _ zl zs => .run_mismatch za zs zd (zm.trans hm) hc ⟨j, by rw [zl]; exact hj⟩
  · exact go (hrun hc) (by decide) fun z zm za _ zd _ _ zs => .run_safe za zs zd (zm.trans hm) hc
  · subst hc
    exact go (by decide) (by decide) fun z zm _ _ zd _ _ _ => .stop zd (by rw [zm]; exact hm)
  · subst hc
    exact go (by decide) (by decide) fun z zm _ _ zd zr _ _ => .hold zd (zm.trans hm) (zr.trans ha)
  · subst hc
    exact go (by decide) (by decide) fun z zm _ zt zd zr _ _ => .hold_armed zd (zm.trans hm) (zr.trans ha) zt
  · subst hc
    exact go (by decide) (by decide) fun z zm _ _ _ _ _ _ => .step (zm.trans hm)
  · subst hc
    exact go (by decide) (by decide) fun z zm _ _ zd _ _ _ => .resume zd (zm.trans hm)
  · exact go (hrun hc) (by decide) fun z zm _ _ zd _ _ zs => zm ▸ .run_refused zs zd (by rw [zm]; exact hm) hc
  · subst hc
    exact go (by decide) (by decide) fun z zm _ _ zd _ _ _ => zm ▸ .stop_refused zd (by rw [zm]; exact hm)
  · subst hc
    exact go (by decide) (by decide) fun z zm _ _ zd _ _ _ => zm ▸ .hold_refused zd (by rw [zm]; exact hm)
  · exact go (by rcases hc with rfl | rfl <;> decide) (by decide) fun z zm _ _ zd _ _ _ => zm ▸ .step_refused zd (by rw [zm]; exact hm) hc

end Sys2Proof.Machine
end

section
/-! PROOFS. The phases of the vital cycle: O16 -/

namespace Sys2Proof.Machine

variable {s s' s'' : State} {l m : LaneId} {t n : Nat} {P : State → Prop}

/-! ### The first marker -/

/-- The words of the VIN window after a run over some of them. -/
theorem State.rd_vinWrites (ws : List Nat) (s : State) (w : Nat) :
    (ws.foldl (fun s w => s.wr (F.LANEIF_VIN_DATA w) (s.lane.vinFront.getD 0 w)) s).rd (F.LANEIF_VIN_DATA w) =
      if w ∈ ws then s.lane.vinFront.getD 0 w % 2 ^ 32 else s.rd (F.LANEIF_VIN_DATA w) := by
  induction ws generalizing s with
  | nil => rfl
  | cons x ws ih =>
    rw [List.foldl_cons, ih, State.wr_lane]
    by_cases hw : w ∈ ws
    · rw [if_pos hw, if_pos (List.mem_cons_of_mem x hw)]
    · rw [if_neg hw]
      by_cases hx : x = w
      · subst hx
        rw [if_pos List.mem_cons_self]
        exact State.rd_wr_self ..
      · rw [if_neg (by simp only [List.mem_cons, not_or]; exact ⟨Ne.symm hx, hw⟩)]
        exact State.rd_wr_ne _ _ (by simp only [ne_eq, Fld.key, F.LANEIF_VIN_DATA]; omega)

theorem State.vinBack_getD (s : State) {w : Nat} (hw : w < 512) : s.vinBack.getD 0 w = s.rd (F.LANEIF_VIN_DATA w) := by
  rw [State.vinBack, Tbl.getD_foldl_put, if_pos (List.mem_range.2 hw)]

theorem not_pinKey_vin {w : Nat} (hw : w < 512) : ¬ PinKey (F.LANEIF_VIN_DATA w).key := by
  simp only [PinKey, Fld.key, F.LANEIF_VIN_DATA]; omega

theorem LaneSt.swapped_vinFront (x : LaneSt) (front : Tbl Nat) (now : Nat) : (x.swapped front now).vinFront = front := rfl

theorem LaneSt.swapped_fields (x : LaneSt) (front : Tbl Nat) (now : Nat) : (x.swapped front now).compared = false ∧
    (x.swapped front now).overrun = false ∧ (x.swapped front now).lanes = x.lanes ∧ (x.swapped front now).opened = true := ⟨rfl, rfl, rfl, rfl⟩

/-- What the swap shows of the cycle's number and of the VIN window. -/
theorem State.swapped_words (s : State) (first : Bool) : let y := s.swapped first
    y.cycleNo = (if first then s.cycleNo else (s.cycleNo + 1) % 2 ^ 32) ∧
    y.rd F.LANEIF_IMG_SEQ_VIN_SEQ = (if first then s.cycleNo else (s.cycleNo + 1) % 2 ^ 32) % 2 ^ 16 ∧
    ∀ w, w < 512 → y.lane.vinFront.getD 0 w = s.rd (F.LANEIF_VIN_DATA w) ∧
      y.rd (F.LANEIF_VIN_DATA w) = s.lane.vinFront.getD 0 w % 2 ^ 32 := by
  intro y
  obtain ⟨-, -, -, -, -, hlane⟩ := s.swapped_spec first
  obtain ⟨-, -, -, -, hal, -⟩ := s.numbered_spec first
  have hcyc : (s.numbered first).cycleNo = if first then s.cycleNo else (s.cycleNo + 1) % 2 ^ 32 := by
    cases first
    · exact (State.rd_wr_ne _ _ (by decide)).trans (State.rd_wr_self ..)
    · exact State.rd_wr_ne _ _ (by decide)
  have hseq : (s.numbered first).rd F.LANEIF_IMG_SEQ_VIN_SEQ = (if first then s.cycleNo else (s.cycleNo + 1) % 2 ^ 32) % 2 ^ 16 := by
    have hv : (s.numbered first).rd F.LANEIF_IMG_SEQ_VIN_SEQ = (if first then s else s.incWrap F.LANEIF_CYCLE_CNT_CYCLE).cycleNo % 65536 :=
      State.rd_wr_lt _ (Nat.mod_lt _ (by decide))
    rw [hv]
    cases first
    · exact congrArg (· % 65536) (State.rd_wr_self ..)
    · rfl
  have hvin (w : Nat) : (s.numbered first).rd (F.LANEIF_VIN_DATA w) = s.rd (F.LANEIF_VIN_DATA w) := by
    cases first
    · exact (State.rd_wr_ne _ _ (by simp only [ne_eq, Fld.key, F.LANEIF_VIN_DATA, F.LANEIF_IMG_SEQ_VIN_SEQ]; omega)).trans
        (State.rd_wr_ne _ _ (by simp only [ne_eq, Fld.key, F.LANEIF_VIN_DATA, F.LANEIF_CYCLE_CNT_CYCLE]; omega))
    · exact State.rd_wr_ne _ _ (by simp only [ne_eq, Fld.key, F.LANEIF_VIN_DATA, F.LANEIF_IMG_SEQ_VIN_SEQ]; omega)
  obtain ⟨a, ha⟩ : ∃ a, a = s.numbered first := ⟨_, rfl⟩
  have hy : Stands PinKey a.vinWritten y := by
    rw [ha]
    have hr : (s.numbered first).swapVin.cycleOpened.regs = (s.numbered first).vinWritten.regs := by
      obtain ⟨b, hsw, hb⟩ := (s.numbered first).swapVin_eq
      rw [hsw, ← hb]
      rfl
    exact (Stands.of_regs hr).trans (State.pinCopies_stands _)
  rw [← ha] at hcyc hseq hvin hal
  have hstand (f : Fld) (hp : ¬ PinKey f.key) (hv : ¬ VinKey f.key) : y.rd f = a.rd f := (hy f hp).trans (a.vinWritten_stands f hv)
  have hdata (w : Nat) (hw : w < 512) : y.rd (F.LANEIF_VIN_DATA w) = a.lane.vinFront.getD 0 w % 2 ^ 32 :=
    (hy _ (not_pinKey_vin hw)).trans ((State.rd_vinWrites _ a w).trans (if_pos (List.mem_range.2 hw)))
  have hlow (f : Fld) (hf : f.key < 0x40201000 * 32) : y.rd f = a.rd f :=
    hstand f (fun e => by simp only [PinKey] at e; omega) (fun e => by have := e.1; omega)
  refine ⟨(hlow F.LANEIF_CYCLE_CNT_CYCLE (by decide)).trans hcyc, (hlow _ (by decide)).trans hseq, fun w hw => ⟨?_, ?_⟩⟩
  · rw [hlane]
    rw [LaneSt.swapped_vinFront, State.vinBack_getD _ hw, ← ha, hvin]
  · rw [hdata w hw, hal]

/-- A swap at which no command acts and no token ends. -/
theorem State.cycSwap_quiet {y : State} {first : Bool} (ht : y.cyc.token = none) (hc : y.cyc.cmds = [])
    (ha : first = true → y.rd F.CYCMGR_CFG_AUTOSTART = 0) : (y.cycSwap first).lane = y.lane ∧ (y.cycSwap first).regs = y.regs := by
  have hauto : ¬ (first = true ∧ y.flag F.CYCMGR_CFG_AUTOSTART = true) := fun e => by
    rw [State.flag_eq_false.2 (ha e.1)] at e; exact Bool.false_ne_true e.2
  unfold State.cycSwap
  simp only [ht, hc, List.filter_nil, List.map_nil, List.append_nil]
  rw [if_neg (c := first = true ∧ _) hauto]
  exact ⟨rfl, rfl⟩

/-- What stands after the swap of a cycle at which no command acts. -/
theorem ends_quietMarker (hr : s.lanesRun = true) (hb : (s.ln l).boundary ≤ t) (hn : s.lane.opened = false ∨ n = (s.cycleNo + 1) % 2 ^ 32)
    (hc : s.cyc.cmds = []) (ht : s.cyc.token = none) (hp : s.rd F.PAIR_CFG_PAIR_EN = 0)
    (ha : s.lane.opened = false → s.rd F.CYCMGR_CFG_AUTOSTART = 0)
    (h : ∀ s' : State, s'.lane = ((s.tick t).swapped (!s.lane.opened)).lane →
      (∀ f, ¬ NetKey f.key → s'.rd f = ((s.tick t).swapped (!s.lane.opened)).rd f) → P s') : Ends (.boundaryMarkerRx t l n) s P := by
  refine ends_firstMarker hr hb hn ?_
  obtain ⟨y1, -, -, -, y5, -⟩ := (s.tick t).swapped_spec (!s.lane.opened)
  have hlow (f : Fld) (hf : ¬ SwapKey f.key) : ((s.tick t).swapped (!s.lane.opened)).rd f = s.rd f := y5 f hf
  obtain ⟨c1, c2⟩ := State.cycSwap_quiet (y := (s.tick t).swapped (!s.lane.opened)) (first := !s.lane.opened) (by rw [y1]; exact ht)
    (by rw [y1]; exact hc) fun e => (hlow _ (by rintro (e | e) <;> revert e <;> decide)).trans (ha (by simpa using e))
  generalize ((s.tick t).swapped (!s.lane.opened)).cycSwap (!s.lane.opened) = y at c1 c2 ⊢
  have hpair : y.rd F.PAIR_CFG_PAIR_EN = 0 := (State.rd_congr c2 _).trans ((hlow _ (by rintro (e | e) <;> revert e <;> decide)).trans hp)
  rw [State.pairSwap_off hpair]
  obtain ⟨-, k2, -⟩ := y.netUpdate_kept.parts
  exact h _ (k2.trans c1) fun f hf => (y.netUpdate_kept.2 f hf).trans (State.rd_congr c2 f)

theorem not_netKey_lane {f : Fld} (h : 0x40200000 * 32 ≤ f.key) (h' : f.key < 0x40300000 * 32) : ¬ NetKey f.key := by
  rintro (e | e) <;> omega

/-! ### Frames on the links -/

theorem ends_laneFrame_taken (hr : s.lanesRun = true) (hl : l ≠ m) {f : Lane → Lane}
    (k : FrameKind) (hk : (match k with
      | .input => (s.tick t).modLn l fun x => { x with got := m :: x.got.filter fun i => i ≠ m }
      | .output => (s.tick t).modLn l fun x => { x with gotOut := m :: x.gotOut.filter fun i => i ≠ m }
      | .marker | .precopy | .finalCopy | .abort => s.tick t) = (s.tick t).modLn l f) (h : P ((s.tick t).modLn l f)) :
    Ends (.laneFrameRx t l m k s.cycleNo true) s P := by
  have h1 : ¬ (l = m ∨ !(s.tick t).lanesRun) := by
    rw [show (s.tick t).lanesRun = true from hr]
    exact fun e => e.elim hl Bool.false_ne_true
  have h2 : true = true ∧ s.cycleNo = (s.tick t).cycleNo := ⟨rfl, rfl⟩
  exact ends_next_eq (arm_laneFrameRx t l m k s.cycleNo true s) ((if_neg h1).trans ((if_pos h2).trans hk)) h

/-- A frame that is not taken is counted, and an image is a link fault besides. -/
theorem ends_laneFrame_bad (hr : s.lanesRun = true) (hl : l ≠ m) (k : FrameKind)
    (h : P (if k = .input ∨ k = .output then ((s.tick t).inc (linkCrcFld (linkOf l m))).linkFault l m else (s.tick t).inc (linkCrcFld (linkOf l m)))) :
    Ends (.laneFrameRx t l m k n false) s P := by
  have h1 : ¬ (l = m ∨ !(s.tick t).lanesRun) := by
    rw [show (s.tick t).lanesRun = true from hr]
    exact fun e => e.elim hl Bool.false_ne_true
  have h2 : ¬ (false = true ∧ n = (s.tick t).cycleNo) := fun e => Bool.false_ne_true e.1
  exact ends_next_eq (arm_laneFrameRx t l m k n false s) ((if_neg h1).trans (if_neg h2)) h

theorem linkIdx_lt (k : LaneId × LaneId) : linkIdx k < 3 := by
  unfold linkIdx; split <;> omega

theorem State.testBit_raiseBits {f : Fld} {i : Nat} (hi : i < f.width) (s : State) : ((s.raiseBits f (2 ^ i)).rd f).testBit i = true := by
  have h : (s.raiseBits f (2 ^ i)).rd f = (s.rd f ||| 2 ^ i) % 2 ^ f.width := State.rd_wr_self ..
  rw [h, Nat.testBit_mod_two_pow, decide_eq_true hi, Bool.true_and, Nat.testBit_or, Nat.testBit_two_pow_self, Bool.or_true]

/-- The link of two lanes is marked in this cycle. -/
def State.linkMarked (s : State) (l m : LaneId) : State :=
  let s := s.raiseBits F.LANEIF_LINK_LINK_FAULT (2 ^ linkIdx (linkOf l m))
  { s with lane := { s.lane with linkNow := linkOf l m :: s.lane.linkNow.filter fun j => j ≠ linkOf l m } }

theorem State.linkFault_active (h : (s.ln l).state = .active ∧ (s.ln m).state = .active) :
    s.linkFault l m = if (s.linkMarked l m).lane.linkPrev.contains (linkOf l m) then (s.linkMarked l m).excludeLane (linkOf l m).2 8 else s.linkMarked l m :=
  if_pos h

theorem State.linkFault_inactive (h : ¬ ((s.ln l).state = .active ∧ (s.ln m).state = .active)) :
    s.linkFault l m = s.raiseBits F.LANEIF_LINK_LINK_FAULT (2 ^ linkIdx (linkOf l m)) := if_neg h

/-- A lane that is thrown out is EXCLUDED with its cause, whatever becomes of the vote. -/
theorem State.excludeLane_cause {cause : Nat} (h : (s.ln l).state = .active) (hc : cause < 16) :
    ((s.excludeLane l cause).ln l).state = .excluded ∧ (s.excludeLane l cause).rd (F.LANEIF_LANE_CAUSE l.idx) = cause := by
  obtain ⟨hl, -, -, -, -, hrd, -⟩ := s.thrownOut_spec l hc
  obtain ⟨e, he⟩ : ∃ e, e = (s.thrownOut l cause).cancelOc := ⟨_, rfl⟩
  obtain ⟨w, hw⟩ : ∃ w, w = if e.actives.length < 2 then e.abortAttempt 6 else e := ⟨_, rfl⟩
  have hx : s.excludeLane l cause = w.voteAfterLoss := by rw [hw, he]; exact State.excludeLane_eq h
  have hkey : (F.LANEIF_LANE_CAUSE l.idx).key ∉ [F.LANEIF_REINT_ABORT_CAUSE, F.LANEIF_REINT_IN_PROGRESS].map Fld.key := by
    cases l <;> decide
  have hcore : (s.thrownOut l cause).CoreKept e := he ▸ .cancelOc
  have hes : (e.ln l).state = .excluded := by
    have hcl := congrArg Prod.fst (hcore.core l)
    rw [hl] at hcl
    exact hcl
  have hws : (w.ln l).state = .excluded ∧ w.rd (F.LANEIF_LANE_CAUSE l.idx) = cause := by
    rw [hw]
    split
    · exact ⟨by rw [State.ln_abortAttempt_excluded hes]; exact hes, (e.abortAttempt_regs 6 _ hkey).trans ((hcore.regs _ hkey).trans hrd)⟩
    · exact ⟨hes, (hcore.regs _ hkey).trans hrd⟩
  have hsafe (hv : w.lane.vote ≠ .safe) : (w.voteSafe.ln l).state = .excluded ∧ w.voteSafe.rd (F.LANEIF_LANE_CAUSE l.idx) = cause := by
    obtain ⟨-, -, h3, h4⟩ := State.voteSafe_spec hv
    exact ⟨(h4 l (.inr hws.1)).1.trans hws.1, (h3 _ hkey).trans hws.2⟩
  rw [hx, State.voteAfterLoss]
  cases hv : w.lane.vote with
  | v2oo3 =>
    dsimp only
    split
    · exact hsafe (by rw [hv]; exact nofun)
    · exact hws
  | v2oo2 =>
    dsimp only
    split
    · exact hsafe (by rw [hv]; exact nofun)
    · exact hws
  | notArmed => exact hws
  | safe => exact hws

/-! ### Execute -/

/-- The lane's run, and the other lanes altogether, stand. -/
def State.RunKept (l : LaneId) (s s' : State) : Prop :=
  ((s'.ln l).running = (s.ln l).running ∧ (s'.ln l).queue = (s.ln l).queue ∧ (s'.ln l).state = (s.ln l).state) ∧ ∀ j, j ≠ l → s'.ln j = s.ln j

namespace State.RunKept

theorem refl (l : LaneId) (s : State) : RunKept l s s := ⟨⟨rfl, rfl, rfl⟩, fun _ _ => rfl⟩

theorem trans (h : RunKept l s s') (h' : RunKept l s' s'') : RunKept l s s'' := by
  obtain ⟨⟨a, b, c⟩, d⟩ := h
  obtain ⟨⟨a', b', c'⟩, d'⟩ := h'
  exact ⟨⟨a'.trans a, b'.trans b, c'.trans c⟩, fun j hj => (d' j hj).trans (d j hj)⟩

theorem of_lanes (h : s'.lane.lanes = s.lane.lanes) : RunKept l s s' := by
  refine ⟨⟨?_, ?_, ?_⟩, fun j _ => State.ln_congr h j⟩ <;> rw [State.ln_congr h l]

theorem modLn {f : Lane → Lane} (hf : (f (s.ln l)).running = (s.ln l).running ∧ (f (s.ln l)).queue = (s.ln l).queue ∧ (f (s.ln l)).state = (s.ln l).state) :
    RunKept l s (s.modLn l f) := by
  refine ⟨?_, fun j hj => s.ln_modLn_ne f (Ne.symm hj)⟩
  rw [State.ln_modLn_self]
  exact hf

theorem foldl {α : Type} {g : State → α → State} (l' : List α) (h : ∀ s a, RunKept l s (g s a)) (s : State) : RunKept l s (l'.foldl g s) := by
  induction l' generalizing s with
  | nil => exact refl l s
  | cons a l' ih => exact (h s a).trans (ih (g s a))

theorem markWrite (s : State) (l : LaneId) (d : VarDecl) : RunKept l s (s.markWrite l d) := by
  refine of_lanes ?_
  unfold State.markWrite
  split
  · rfl
  · dsimp only
    split <;> split <;> rfl

theorem setVar (s : State) (l : LaneId) (p : Program) (id v : Nat) : RunKept l s (s.setVar l p id v) := by
  unfold State.setVar
  split
  · exact refl l s
  · refine RunKept.trans (modLn ?_) (markWrite ..)
    exact ⟨rfl, rfl, rfl⟩

theorem setFb (s : State) (l : LaneId) (p : Program) (id : Nat) (scan : FbState → FbState) : RunKept l s (s.setFb l p id scan) := by
  unfold State.setFb
  split
  · exact refl l s
  · refine RunKept.trans (modLn ?_) (markWrite ..)
    exact ⟨rfl, rfl, rfl⟩

theorem progOp (s : State) (l : LaneId) (p : Program) (per : Nat) (o : ProgOp) : RunKept l s (s.progOp l p per o) := by
  cases o with
  | set v x => exact setVar ..
  | ton | tof | tp | ctu | ctd => exact (setFb ..).trans ((setVar ..).trans (setVar ..))
  | ctud => exact (setFb ..).trans ((setVar ..).trans ((setVar ..).trans (setVar ..)))
  | rTrig | fTrig => exact (setFb ..).trans (setVar ..)

theorem bindInputs (s : State) (l : LaneId) (p : Program) (g : Agreed) : RunKept l s (s.bindInputs l p g) := by
  refine foldl _ (fun s b => ?_) s
  cases b with
  | din | ain | vin => exact (setVar ..).trans (setVar ..)
  | cmd | permit | vout => exact refl l s

theorem applyForces (s : State) (l : LaneId) (p : Program) (point : Nat) : RunKept l s (s.applyForces l p point) := by
  refine foldl _ (fun s f => ?_) s
  split
  · exact setVar ..
  · exact refl l s

theorem taskTime (s : State) (l : LaneId) (n j us : Nat) : RunKept l s (s.taskTime l n j us) := by
  refine of_lanes ?_
  unfold State.taskTime
  split <;> rfl

theorem runTasks (s : State) (l : LaneId) (p : Program) (n : Nat) (work : List TaskRun) : RunKept l s (s.runTasks l p n work) := by
  refine RunKept.trans (s' := _) (foldl (List.range 8) (fun s j => ?_) s) (of_lanes rfl)
  split
  next k r _ _ =>
    refine RunKept.trans (s' := { s with now := s.now + 1000 * r.us }) (of_lanes rfl) ?_
    exact RunKept.trans (foldl r.ops (fun s o => progOp s l p _ o) _) (taskTime ..)
  next => exact refl l s

end State.RunKept

theorem State.ocSwitch_other (h : n ≠ s.cyc.ocCyc) : s.ocSwitch l n = s := if_pos h

/-- A lane that begins the oldest cycle of its queue, no online change being due in it. -/
theorem State.beginExecute_spec {g : Agreed} {fs : List ForceUse} {rest : List (Nat × Agreed × List ForceUse)} (work : List TaskRun)
    (hq : (s.ln l).queue = (n, g, fs) :: rest) (hn : n ≠ s.cyc.ocCyc) : let y := s.beginExecute l work
    ((y.ln l).running = some n ∧ (y.ln l).queue = rest ∧ (y.ln l).state = (s.ln l).state) ∧ ∀ j, j ≠ l → y.ln j = s.ln j := by
  obtain ⟨a, ha⟩ : ∃ a, a = s.modLn l fun x => { x with queue := rest, running := some n, forces := fs } := ⟨_, rfl⟩
  have hoc : a.ocSwitch l n = a := State.ocSwitch_other (by rw [ha]; exact hn)
  have hb : s.beginExecute l work = match a.progOf l with
      | none => a
      | some p => ((a.bindInputs l p g).applyForces l p 0).runTasks l p n work := by
    unfold State.beginExecute
    simp only [hq]
    rw [← ha, hoc] <;> rfl
  have hal : (a.ln l).running = some n ∧ (a.ln l).queue = rest ∧ (a.ln l).state = (s.ln l).state := by
    rw [ha, State.ln_modLn_self]; exact ⟨rfl, rfl, rfl⟩
  have hao (j : LaneId) (hj : j ≠ l) : a.ln j = s.ln j := by rw [ha]; exact s.ln_modLn_ne _ (Ne.symm hj)
  have hkept : State.RunKept l a (s.beginExecute l work) := by
    rw [hb]
    split
    · exact .refl l a
    · exact ((State.RunKept.bindInputs ..).trans (State.RunKept.applyForces ..)).trans (State.RunKept.runTasks ..)
  obtain ⟨⟨k1, k2, k3⟩, k4⟩ := hkept
  exact ⟨⟨k1.trans hal.1, k2.trans hal.2.1, k3.trans hal.2.2⟩, fun j hj => (k4 j hj).trans (hao j hj)⟩

theorem State.sendPair_lane (s : State) (f : PairFrame) : (s.sendPair f).lane = s.lane ∧ (s.sendPair f).cyc = s.cyc ∧
    ∀ g : Fld, ¬ NetKey g.key → (s.sendPair f).rd g = s.rd g := by
  have hk := (State.hallPass_kept { s with pair := { s.pair with sends := s.pair.sends ++ [f] } } lanePort pairPort 7
    (pairEth (Config.moduleMac (s.rd F.PAIR_CFG_PARTNER_MID)) (Config.moduleMac (s.rd F.SYSCTL_MID_MID)) f.len)).netKept
  obtain ⟨h1, h2, -⟩ := hk.parts
  exact ⟨h2, h1, fun g hg => hk.2 g hg⟩

theorem State.sendImg_lane (s : State) (g : Option Agreed) (b : Nat) : (s.sendImg g b).lane = s.lane ∧ (s.sendImg g b).cyc = s.cyc ∧
    ∀ f : Fld, ¬ NetKey f.key → (s.sendImg g b).rd f = s.rd f := by
  unfold State.sendImg
  split
  · split
    · exact s.sendPair_lane _
    · exact ⟨rfl, rfl, fun _ _ => rfl⟩
  · exact ⟨rfl, rfl, fun _ _ => rfl⟩

theorem ends_executePhase {work : List TaskRun} (hr : s.lanesRun = true) (hx : (s.ln l).executes = true) (ha : (s.ln l).agreed.isSome = true)
    (hb : (s.ln l).boundary + 250000 ≤ t) (hd : t < (s.ln l).deadline) (hrun : (s.ln l).running = none)
    (h : ∀ y : State, y.lane = s.lane → y.cyc = s.cyc → (∀ f : Fld, ¬ NetKey f.key → y.rd f = s.rd f) → P (y.beginExecute l work)) : Ends (.executePhase t l work) s P := by
  obtain ⟨y, hy⟩ : ∃ y, y = if (s.tick t).isLowest l then (s.tick t).sendImg ((s.tick t).ln l).agreed ((s.tick t).ln l).boundary else s.tick t := ⟨_, rfl⟩
  have hys : y.lane = s.lane ∧ y.cyc = s.cyc ∧ ∀ f : Fld, ¬ NetKey f.key → y.rd f = s.rd f := by
    rw [hy]
    split
    · exact State.sendImg_lane ..
    · exact ⟨rfl, rfl, fun _ _ => rfl⟩
  have h1 : ¬ (!(s.tick t).lanesRun ∨ !((s.tick t).ln l).executes ∨ (s.tick t).now < ((s.tick t).ln l).boundary + 250000 ∨
      ((s.tick t).ln l).deadline ≤ (s.tick t).now) := by
    rw [show (s.tick t).lanesRun = true from hr, show ((s.tick t).ln l).executes = true from hx]
    rintro (e | e | e | e)
    · exact Bool.false_ne_true e
    · exact Bool.false_ne_true e
    · exact not_lt.2 hb e
    · exact not_lt.2 e hd
  have h2 : ¬ (((s.tick t).ln l).state = .shadow ∧ ((s.tick t).ln l).agreed.isNone) := fun e => by
    have he : (s.ln l).agreed.isNone = true := e.2
    rw [Option.isNone_iff_eq_none] at he
    rw [he] at ha
    exact Bool.false_ne_true ha
  have h3 : (y.ln l).running.isNone = true := by rw [State.ln_congr (congrArg LaneSt.lanes hys.1), hrun]; rfl
  refine ends_next_eq (x := y.beginExecute l work) (arm_executePhase t l work s) ((if_neg h1).trans ?_) (h y hys.1 hys.2.1 hys.2.2)
  rw [if_neg h2]
  dsimp only
  rw [← hy]
  exact if_pos h3

/-- What a lane's end of execute does besides leaves the lanes alone. -/
theorem State.endOfExecute_lanes (s : State) (l : LaneId) (p : Program) : (s.endOfExecute l p).lane.lanes = s.lane.lanes := by
  have hf (y : State) : (y.pairFreeze l p).lane = y.lane := by
    unfold State.pairFreeze
    split <;> rfl
  unfold State.endOfExecute
  split
  · rfl
  · rw [hf]
    split
    · split
      · dsimp only
        split <;> rfl
      · rfl
    · rfl

theorem ends_executeComplete {p : Program} {work : List TaskRun} (hn : (s.ln l).running = some n) (hp : s.progOf l = some p)
    (hq : (s.ln l).queue = []) (hf : (s.ln l).forces = [])
    (h : P (((s.tick t).modLn l fun x => { x with running := none, out := some (s.outImage l p), outCyc := n, outAt := t }).endOfExecute l p)) :
    Ends (.executeComplete t l work) s P := by
  refine ends_next_eq (arm_executeComplete t l work s) ?_ h
  have hap : (s.tick t).applyForces l p 1 = s.tick t := by
    unfold State.applyForces
    rw [show ((s.tick t).ln l).forces = [] from hf]
    rfl
  obtain ⟨y, hy⟩ : ∃ y, y = ((s.tick t).modLn l fun x => { x with running := none, out := some (s.outImage l p), outCyc := n, outAt := t }).endOfExecute l p := ⟨_, rfl⟩
  have hyq : (y.ln l).queue = [] := by
    rw [hy, State.ln_congr (State.endOfExecute_lanes ..), State.ln_modLn_self]
    exact hq
  simp only [show ((s.tick t).ln l).running = some n from hn, show (s.tick t).progOf l = some p from hp, hap]
  rw [show (s.tick t).outImage l p = s.outImage l p from rfl, show (s.tick t).now = t from rfl, ← hy]
  rw [hyq]

/-! ### The deadline -/

/-- Lanes, programs, the overrun and the cycle's number stand. -/
def State.LanesStand (s s' : State) : Prop :=
  s'.lane.lanes = s.lane.lanes ∧ s'.lane.overrun = s.lane.overrun ∧ s'.cyc = s.cyc ∧ s'.cycleNo = s.cycleNo

namespace State.LanesStand

theorem trans (h : LanesStand s s') (h' : LanesStand s' s'') : LanesStand s s'' := by
  obtain ⟨a, b, c, d⟩ := h
  obtain ⟨a', b', c', d'⟩ := h'
  exact ⟨a'.trans a, b'.trans b, c'.trans c, d'.trans d⟩

theorem ite {c : Prop} [Decidable c] {x y : State} (hx : LanesStand s x) (hy : LanesStand s y) : LanesStand s (if c then x else y) := by
  split <;> assumption

theorem sendPair (s : State) (f : PairFrame) : LanesStand s (s.sendPair f) := by
  obtain ⟨h1, h2, h3⟩ := s.sendPair_lane f
  exact ⟨congrArg LaneSt.lanes h1, congrArg LaneSt.overrun h1, h2, h3 _ (by rintro (e | e) <;> revert e <;> decide)⟩

theorem pairSendBlocks (s : State) (l : LaneId) (p : Program) : LanesStand s (s.pairSendBlocks l p) := by
  have hpre (x : State) (y : PairSt) (f : PairFrame) : LanesStand x (({ x with pair := y } : State).sendPair f) :=
    LanesStand.trans (s' := { x with pair := y }) ⟨rfl, rfl, rfl, rfl⟩ (sendPair _ f)
  exact ite ⟨rfl, rfl, rfl, rfl⟩ (ite ⟨rfl, rfl, rfl, rfl⟩ (hpre ..))

end State.LanesStand

/-- The closing of the copy window leaves lanes, programs, the overrun and the cycle's number alone. -/
theorem State.closeCopyWindow_stand (s : State) (l : LaneId) : s.LanesStand (s.closeCopyWindow l) := by
  unfold State.closeCopyWindow
  split
  next p _ =>
    refine LanesStand.ite ⟨rfl, rfl, rfl, rfl⟩ ((LanesStand.pairSendBlocks s l p).trans ?_)
    generalize s.pairSendBlocks l p = z
    dsimp only
    split
    · refine LanesStand.ite (LanesStand.ite ⟨rfl, rfl, rfl, ?_⟩ ⟨rfl, rfl, rfl, rfl⟩) ⟨rfl, rfl, rfl, rfl⟩
      exact State.rd_wr_ne _ _ (by decide)
    · exact ⟨rfl, rfl, rfl, rfl⟩
  next => exact ⟨rfl, rfl, rfl, rfl⟩

theorem ends_outputDeadline (hr : s.lanesRun = true) (he : s.cyc.expected = true) (hx : (s.ln l).executes = true)
    (hd : (s.ln l).deadline ≤ t) (hs : (s.ln l).sent = none) (h : ∀ y : State, s.LanesStand y → P (match (y.ln l).out with
      | some o =>
        if (y.ln l).outCyc = y.cycleNo ∧ (y.ln l).outAt < (y.ln l).deadline then y.modLn l fun x => { x with sent := some (.image o) }
        else y.sendOverrun l
      | none => y.sendOverrun l)) : Ends (.outputDeadline t l) s P := by
  obtain ⟨y, hy⟩ : ∃ y, y = (s.tick t).closeCopyWindow l := ⟨_, rfl⟩
  have hk : s.LanesStand y := hy ▸ (s.tick t).closeCopyWindow_stand l
  have h1 : ¬ (!(s.tick t).lanesRun ∨ (s.tick t).now < ((s.tick t).ln l).deadline) := by
    rw [show (s.tick t).lanesRun = true from hr]
    exact fun e => e.elim Bool.false_ne_true (not_lt.2 hd)
  have h2 : ¬ (!y.cyc.expected ∨ !(y.ln l).executes ∨ (y.ln l).sent.isSome) := by
    rw [hk.2.2.1, State.ln_congr hk.1, he, hx, hs]
    rintro (e | e | e) <;> exact Bool.false_ne_true e
  refine ends_next_eq (arm_outputDeadline t l s) ((if_neg h1).trans ?_) (h y hk)
  rw [← hy]
  exact if_neg h2

/-! ### An ACTIVE lane under SAFE and under an abort -/

/-- Of a lane it sees what neither driving, nor sealing, nor the loss of queued work changes. -/
structure Lane.Steady {α : Type} (φ : Lane → α) : Prop where
  drive : ∀ x m n, φ (Lane.drive x m n) = φ x
  sealing : ∀ x v, φ { x with sealed := v } = φ x
  drop : ∀ x, φ { x with queue := [], running := none } = φ x

/-- Of the ACTIVE lanes `φ` sees the same in both states, and they are ACTIVE in both. -/
def State.Seen {α : Type} (φ : Lane → α) (s s' : State) : Prop :=
  s'.lane.overrun = s.lane.overrun ∧ ∀ j, (s.ln j).state = .active → (s'.ln j).state = .active ∧ φ (s'.ln j) = φ (s.ln j)

namespace State.Seen
variable {α : Type} {φ : Lane → α}

theorem trans (h : Seen φ s s') (h' : Seen φ s' s'') : Seen φ s s'' :=
  ⟨h'.1.trans h.1, fun j hj => ⟨(h'.2 j (h.2 j hj).1).1, (h'.2 j (h.2 j hj).1).2.trans (h.2 j hj).2⟩⟩

theorem of_lane (ho : s'.lane.overrun = s.lane.overrun) (h : s'.lane.lanes = s.lane.lanes) : Seen φ s s' :=
  ⟨ho, fun j hj => by rw [State.ln_congr h]; exact ⟨hj, rfl⟩⟩

theorem ite {c : Prop} [Decidable c] {x y : State} (hx : Seen φ s x) (hy : Seen φ s y) : Seen φ s (if c then x else y) := by
  split <;> assumption

theorem modLanes {f : Lane → Lane} (ls : List LaneId) (hn : ls.Nodup) (hf : ∀ x, (f x).state = x.state ∧ φ (f x) = φ x) :
    Seen φ s (s.modLanes ls f) := by
  obtain ⟨x, hx⟩ := s.modLanes_eq ls f
  refine ⟨by rw [hx], fun j hj => ?_⟩
  rw [State.ln_modLanes hn]
  split
  · exact ⟨(hf _).1.trans hj, (hf _).2⟩
  · exact ⟨hj, rfl⟩

theorem abortAttempt (s : State) (cause : Nat) : Seen φ s (s.abortAttempt cause) := by
  refine ⟨?_, fun j hj => ?_⟩
  · unfold State.abortAttempt
    split
    · split <;> rfl
    · rfl
  · rw [State.ln_abortAttempt_active hj]; exact ⟨hj, rfl⟩

theorem sealAll (hφ : Lane.Steady φ) (s : State) : Seen φ s s.sealAll := by
  unfold State.sealAll
  split
  · exact of_lane rfl rfl
  · exact modLanes _ laneIds_nodup fun x => ⟨rfl, hφ.sealing x _⟩

theorem dropWork (hφ : Lane.Steady φ) (s : State) : Seen φ s s.dropWork := modLanes _ laneIds_nodup fun x => ⟨rfl, hφ.drop x⟩

theorem cancelOc (s : State) : Seen φ s s.cancelOc := of_lane (congrArg LaneSt.overrun s.cancelOc_spec.2.2.2.2) (congrArg LaneSt.lanes s.cancelOc_spec.2.2.2.2)

theorem voteSafe (hφ : Lane.Steady φ) (s : State) : Seen φ s s.voteSafe := by
  by_cases hv : s.lane.vote = .safe
  · rw [State.voteSafe, if_pos hv]; exact of_lane rfl rfl
  · have hframe := (State.voteSafe_frame hv).1
    refine Seen.trans (s' := s.safeOrdered) ?_ (of_lane (congrArg LaneSt.overrun hframe) (congrArg LaneSt.lanes hframe))
    refine Seen.trans (s' := { s with lane := { s.lane with vote := .safe, armed := false } }) (of_lane rfl rfl) ?_
    generalize ha : ({ s with lane := { s.lane with vote := .safe, armed := false } } : State) = a
    have hord : s.safeOrdered = ((((a.driveSafe.laneRecord 0x03 7 0 0 []).modeSafe).dropWork).cancelOc).abortAttempt 7 := by rw [← ha]; rfl
    rw [hord]
    have hdrive : Seen φ a a.driveSafe := modLanes _ a.actives_nodup fun x => ⟨rfl, hφ.drive x _ _⟩
    have hrec (x : State) : Seen φ x (x.laneRecord 0x03 7 0 0 []) := of_lane rfl rfl
    have hmode (x : State) : Seen φ x x.modeSafe := ite ((sealAll hφ x).trans (of_lane rfl rfl)) (of_lane rfl rfl)
    exact ((((hdrive.trans (hrec _)).trans (hmode _)).trans (dropWork hφ _)).trans (cancelOc _)).trans (abortAttempt _ 7)

theorem overrunSafe (hφ : Lane.Steady φ) (s : State) : Seen φ s s.overrunSafe := by
  have hmode (x : State) (m : ProgMode) : Seen φ x { (x.sealAll) with cyc := { x.cyc with mode := m } } := (sealAll hφ x).trans (of_lane rfl rfl)
  refine ite ((voteSafe hφ s).trans (ite (hmode _ _) (of_lane rfl rfl))) ?_
  have ha : Seen φ s { (s.sealAll) with cyc := { s.cyc with mode := .safe }, lane := { s.lane with armed := false } } := of_lane rfl rfl
  refine (ha.trans (((dropWork hφ _).trans (cancelOc _)).trans (abortAttempt _ 7))).trans ?_
  exact ite (of_lane rfl rfl) (of_lane rfl rfl)

end State.Seen

theorem Lane.Steady.sent : Lane.Steady Lane.sent := ⟨fun _ _ _ => rfl, fun _ _ => rfl, fun _ => rfl⟩

theorem Lane.Steady.gotOut : Lane.Steady Lane.gotOut := ⟨fun _ _ _ => rfl, fun _ _ => rfl, fun _ => rfl⟩

/-- An ACTIVE lane that sends an overrun frame makes the cycle an overrun cycle (R78, R113). -/
theorem State.sendOverrun_spec (h : (s.ln l).state = .active) :
    ((s.sendOverrun l).ln l).sent = some .overrun ∧ (s.sendOverrun l).lane.overrun = true := by
  obtain ⟨a, ha⟩ : ∃ a : State, a = (s.modLn l fun x => { x with sent := some .overrun }).wr F.CYCMGR_CYC_STAT_BACKLOG_MAX
      (max (min 8 ((s.modLn l fun x => { x with sent := some .overrun }).ln l).backlog)
        ((s.modLn l fun x => { x with sent := some .overrun }).rd F.CYCMGR_CYC_STAT_BACKLOG_MAX)) := ⟨_, rfl⟩
  have hal : (a.ln l).sent = some .overrun ∧ (a.ln l).state = .active := by
    rw [ha, State.ln_wr, State.ln_modLn_self]; exact ⟨rfl, h⟩
  have hs : s.sendOverrun l = a.noteOverrun l := by
    rw [ha, State.sendOverrun]
    exact if_pos (by rw [State.ln_wr, State.ln_modLn_self]; exact h)
  rw [hs]
  unfold State.noteOverrun
  split
  next ho => exact ⟨hal.1, ho⟩
  next ho =>
    obtain ⟨b, hb⟩ : ∃ b : State, b = ((({ a with
        lane := { a.lane with overrun := true, frozen := false, copySig := [] }
        pair := { a.pair with preFixed := false } } : State).wr F.CYCMGR_CYC_STAT_LAST_LANE l.idx).inc F.CYCMGR_CYC_STAT_OVERRUN_CNT).inc
        F.CYCMGR_CYC_STAT_OVERRUN_RUN := ⟨_, rfl⟩
    have hbl : b.lane.overrun = true ∧ b.lane.lanes = a.lane.lanes := by rw [hb]; exact ⟨rfl, rfl⟩
    have hcount : State.Seen Lane.sent b b.countAttempt := by
      unfold State.countAttempt
      split
      · refine State.Seen.ite ?_ (.of_lane rfl rfl)
        have hc (n : Nat) : State.Seen Lane.sent b { b with lane := { b.lane with counted := n } } := .of_lane rfl rfl
        exact State.Seen.ite ((hc _).trans (.abortAttempt _ 1)) (hc _)
      · exact .of_lane rfl rfl
    have hall : State.Seen Lane.sent b (let s := if b.cyc.mode = .run then b.countAttempt else b
        if s.rd F.CYCMGR_CFG_OVERRUN_LIMIT ≤ s.rd F.CYCMGR_CYC_STAT_OVERRUN_RUN then s.overrunSafe else s) :=
      (State.Seen.ite hcount (.of_lane rfl rfl)).trans (State.Seen.ite (.overrunSafe .sent _) (.of_lane rfl rfl))
    dsimp only
    rw [← hb]
    have hb2 := hall.2 l (by rw [State.ln_congr hbl.2]; exact hal.2)
    exact ⟨hb2.2.trans (by rw [State.ln_congr hbl.2]; exact hal.1), hall.1.trans hbl.1⟩

/-! ### Compare -/

/-- With every line reading back well the readback check only clears the runs (R93). -/
theorem State.checkReadback_good (s : State) : s.checkReadback [] = s.modLanes s.actives fun x => { x with readRun := 0 } := by
  have h (ls : List LaneId) (s : State) : ls.foldl (fun s l =>
      let s := s.modLn l fun x => { x with readRun := if ([] : List LaneId).contains l then x.readRun + 1 else 0 }
      if 2 ≤ (s.ln l).readRun then s.excludeLane l 5 else s) s = s.modLanes ls fun x => { x with readRun := 0 } := by
    induction ls generalizing s with
    | nil => rfl
    | cons l ls ih =>
      rw [List.foldl_cons]
      dsimp only
      rw [if_neg (by rw [State.ln_modLn_self]; exact (by decide : ¬ 2 ≤ 0))]
      exact ih _
  exact h s.actives s

/-- No ACTIVE lane misses the output of another. -/
theorem State.missingOutputs_none (h : ∀ i j, (s.ln i).state = .active → (s.ln j).state = .active → i ≠ j → i ∈ (s.ln j).gotOut) :
    s.missingOutputs = s := by
  have hnil : (s.actives.flatMap fun l => (s.actives.filter fun m => m ≠ l ∧ !(s.ln l).gotOut.contains m).map fun m => (l, m)) = [] := by
    rw [List.flatMap_eq_nil_iff]
    intro j hj
    rw [List.map_eq_nil_iff, List.filter_eq_nil_iff]
    intro i hi
    have hij := h i j ((s.mem_actives i).1 hi) ((s.mem_actives j).1 hj)
    simp only [decide_eq_true_eq, not_and, Bool.not_eq_true, Bool.not_eq_false', List.contains_iff_mem]
    intro hne
    simpa using hij hne
  rw [State.missingOutputs, hnil]
  rfl

theorem State.pairCompare_none (h : s.pair.out = none) : s.pairCompare = s := by
  unfold State.pairCompare
  simp only [h]

/-- The state in which the images of a compared cycle meet (R85). -/
def State.comparing (s : State) : State :=
  let s := s.checkReadback []
  ({ s with lane := { s.lane with compared := true } } : State).clrF F.CYCMGR_CYC_STAT_OVERRUN_RUN

theorem State.comparing_spec (hall : ∀ j, (s.ln j).state = .active) : let z := s.comparing
    (∀ j, z.ln j = { s.ln j with readRun := 0 }) ∧ z.lane.vote = s.lane.vote ∧ z.lane.compared = true ∧ z.cyc = s.cyc ∧ z.pair = s.pair ∧
    RegsBut [F.CYCMGR_CYC_STAT_OVERRUN_RUN] s z ∧ z.lane.frozen = s.lane.frozen ∧ z.lane.overrun = s.lane.overrun ∧ z.pwr = s.pwr := by
  obtain ⟨y, hy⟩ : ∃ y, y = s.checkReadback [] := ⟨_, rfl⟩
  have hym := hy.trans s.checkReadback_good
  obtain ⟨x, hx⟩ := s.modLanes_eq s.actives fun x => { x with readRun := 0 }
  have hln (j : LaneId) : y.ln j = { s.ln j with readRun := 0 } := by
    rw [hym, State.ln_modLanes s.actives_nodup, if_pos ((s.mem_actives j).2 (hall j))]
  have hfld : y.lane.vote = s.lane.vote ∧ y.cyc = s.cyc ∧ y.pair = s.pair ∧ y.regs = s.regs ∧ y.lane.frozen = s.lane.frozen ∧
      y.lane.overrun = s.lane.overrun ∧ y.pwr = s.pwr := by
    rw [hym, hx]; exact ⟨rfl, rfl, rfl, rfl, rfl, rfl, rfl⟩
  obtain ⟨f1, f2, f3, f4, f5, f6, f7⟩ := hfld
  intro z
  have hz : z = ({ y with lane := { y.lane with compared := true } } : State).clrF F.CYCMGR_CYC_STAT_OVERRUN_RUN := by rw [hy]; rfl
  rw [hz]
  refine ⟨fun j => hln j, f1, rfl, f2, f3, ?_, f5, f6, f7⟩
  exact ((RegsBut.refl _ s).of_regs f4).wr 0 (by simp)

/-- The compare of a cycle of three ACTIVE lanes whose images are in, from the state in which they meet. -/
theorem ends_outputCompare (he : s.cyc.expected = true) (ho : s.lane.overrun = false) (hc : s.lane.compared = false) (hf : s.lane.frozen = false)
    (hact : s.actives = [.a, .b, .c]) (hsent : ∀ j, (s.sentImage j).isSome = true)
    (h : P (((s.tick t).comparing.compareActive.missingOutputs).pairCompare.netUpdate)) : Ends (.outputCompare t []) s P := by
  have hall (j : LaneId) : ((s.tick t).ln j).state = .active := (s.mem_actives j).1 (by rw [hact]; exact mem_laneIds j)
  obtain ⟨z1, z2, z3, z4, z5, z6, z7, z8, -⟩ := State.comparing_spec (s := s.tick t) hall
  obtain ⟨y, hy⟩ : ∃ y, y = (s.tick t).checkReadback [] := ⟨_, rfl⟩
  obtain ⟨z, hz⟩ : ∃ z, z = (s.tick t).comparing := ⟨_, rfl⟩
  have hzy : z = ({ y with lane := { y.lane with compared := true } } : State).clrF F.CYCMGR_CYC_STAT_OVERRUN_RUN := by rw [hz, hy]; rfl
  rw [← hz] at z1 z2 z3 z4 z5 z6 z7 z8 h
  have hyz : y.lane.overrun = z.lane.overrun ∧ y.cyc = z.cyc ∧ (∀ j, y.ln j = z.ln j) := by rw [hzy]; exact ⟨rfl, rfl, fun _ => rfl⟩
  obtain ⟨y1, y2, y3⟩ := hyz
  have hyc : y.lane.compared = false := by
    obtain ⟨x, hx⟩ := (s.tick t).modLanes_eq (s.tick t).actives fun x => { x with readRun := 0 }
    rw [hy, State.checkReadback_good, hx]
    exact hc
  have hya : y.actives = [.a, .b, .c] := (State.actives_congr (s := s) fun j => by rw [y3, z1]; rfl).trans hact
  have hys (j : LaneId) : y.sentImage j = s.sentImage j := by
    unfold State.sentImage
    rw [y3, z1]
    rfl
  have hcond : y.cyc.expected ∧ !y.lane.overrun ∧ !y.lane.compared ∧ !y.actives.isEmpty ∧ y.actives.all (fun l => (y.sentImage l).isSome) := by
    refine ⟨by rw [y2, z4]; exact he, by rw [y1, z8]; simp only [State.tick_lane, ho, Bool.not_false], by rw [hyc]; rfl, by rw [hya]; rfl, ?_⟩
    rw [List.all_eq_true]
    intro j _
    rw [hys]
    exact hsent j
  have hfz : ¬ z.lane.frozen = true := by rw [z7, State.tick_lane, hf]; exact Bool.false_ne_true
  have hatt : z.attempting = none := State.attempting_none fun j => by rw [z1]; exact ⟨by rw [hall]; exact nofun, by rw [hall]; exact nofun⟩
  have hsh : z.compareShadow = z := by
    unfold State.compareShadow
    simp only [hatt]
  refine ends_next_eq (arm_outputCompare t [] s) ?_ h
  dsimp only
  rw [← hy]
  refine (if_pos hcond).trans ?_
  rw [← hzy, if_neg hfz, hsh]

/-- Where two lanes agree and the third does not, the third is outvoted (R93). -/
theorem State.compareActive_odd {z : State} (hact : z.actives = [.a, .b, .c]) (heq : ∀ i j, i ≠ l → j ≠ l → z.sentImage i = z.sentImage j)
    (hne : ∀ j, j ≠ l → z.sentImage l ≠ z.sentImage j) : ∃ i j, i ≠ l ∧ j ≠ l ∧ z.compareActive = ((z.agreed i).agreed j).outvoted l := by
  unfold State.compareActive
  simp only [hact]
  cases l with
  | a =>
    have h1 : z.sentImage .a ≠ z.sentImage .b := hne _ (by decide)
    have h2 : z.sentImage .a ≠ z.sentImage .c := hne _ (by decide)
    exact ⟨.b, .c, by decide, by decide, by rw [if_neg fun e => h1 e.1, if_neg h1, if_neg h2, if_pos (heq _ _ (by decide) (by decide))]⟩
  | b =>
    have h1 : z.sentImage .a ≠ z.sentImage .b := (hne _ (by decide)).symm
    exact ⟨.a, .c, by decide, by decide, by rw [if_neg fun e => h1 e.1, if_neg h1, if_pos (heq _ _ (by decide) (by decide))]⟩
  | c =>
    have h2 : z.sentImage .b ≠ z.sentImage .c := (hne _ (by decide)).symm
    exact ⟨.a, .b, by decide, by decide, by rw [if_neg fun e => h2 e.2, if_pos (heq _ _ (by decide) (by decide))]⟩

theorem State.compareActive_split {z : State} (hact : z.actives = [.a, .b, .c]) (hv : z.lane.vote = .v2oo3)
    (hne : ∀ i j, i ≠ j → z.sentImage i ≠ z.sentImage j) : z.compareActive = z.voteSafe := by
  have h1 : z.sentImage .a ≠ z.sentImage .b := hne _ _ (by decide)
  have h2 : z.sentImage .a ≠ z.sentImage .c := hne _ _ (by decide)
  have h3 : z.sentImage .b ≠ z.sentImage .c := hne _ _ (by decide)
  unfold State.compareActive
  simp only [hact]
  rw [if_neg fun e => h1 e.1, if_neg h1, if_neg h2, if_neg h3, if_pos hv]

theorem State.cancelOc_pair (s : State) : s.cancelOc.pair = s.pair := by
  unfold State.cancelOc
  split <;> rfl

theorem State.modLanes_pair (s : State) (ls : List LaneId) (f : Lane → Lane) : (s.modLanes ls f).pair = s.pair := by
  obtain ⟨x, hx⟩ := s.modLanes_eq ls f
  rw [hx]

theorem State.modeSafe_pair (s : State) : s.modeSafe.pair = s.pair := by
  have h : s.sealAll.pair = s.pair := by
    unfold State.sealAll
    split
    · rfl
    · exact s.modLanes_pair _ _
  unfold State.modeSafe
  split
  · exact h
  · rfl

theorem State.abortAttempt_pair (s : State) (cause : Nat) : (s.abortAttempt cause).pair = s.pair := by
  unfold State.abortAttempt
  split
  · split <;> rfl
  · rfl

/-- Whoever loses the vote keeps the pair. -/
theorem State.voteSafe_pair (s : State) : s.voteSafe.pair = s.pair := by
  have h (a : State) : ((a.driveSafe.laneRecord 0x03 7 0 0 []).modeSafe.dropWork.cancelOc.abortAttempt 7).pair = a.pair := by
    rw [State.abortAttempt_pair, State.cancelOc_pair, State.dropWork, State.modLanes_pair, State.modeSafe_pair, State.laneRecord,
      State.record_pair, State.driveSafe, State.modLanes_pair]
  by_cases hv : s.lane.vote = .safe
  · rw [State.voteSafe, if_pos hv]
  · have hy : s.safeOrdered.pair = s.pair := h _
    obtain ⟨y, hys⟩ : ∃ y, y = s.safeOrdered := ⟨_, rfl⟩
    have hz : s.voteSafe = if y.pwr.state = .run then { y with pwr := { y.pwr with state := .safe } } else y := by
      rw [hys, State.voteSafe, if_neg hv, State.safeOrdered]
    rw [hz, ← hy, ← hys]
    split <;> rfl

/-- With three ACTIVE lanes the exclusion of one leaves two in the vote, and of the two their core and whose outputs they hold. -/
theorem State.excludeLane_ofThree {w : State} {cause : Nat} (hact : w.actives = [.a, .b, .c]) (hv : w.lane.vote = .v2oo3) (hc : cause < 16) :
    let y := w.excludeLane l cause
    y.lane.vote = .v2oo2 ∧ y.lane.compared = w.lane.compared ∧ y.pair = w.pair ∧
    (∀ j, j ≠ l → (y.ln j).gotOut = (w.ln j).gotOut) ∧ RegsBut [F.LANEIF_LANE_CAUSE l.idx, F.LANEIF_LANE_EXCL_CNT l.idx] w y := by
  obtain ⟨hl, hk, hvote, -, hregs, -⟩ := w.thrownOut_spec l hc
  have hstate : (w.ln l).state = .active := (w.mem_actives l).1 (by rw [hact]; exact mem_laneIds l)
  obtain ⟨e, he⟩ : ∃ e, e = (w.thrownOut l cause).cancelOc := ⟨_, rfl⟩
  obtain ⟨-, -, -, c4, c5⟩ := (w.thrownOut l cause).cancelOc_spec
  have c6 := (w.thrownOut l cause).cancelOc_pair
  rw [← he] at c4 c5 c6
  have hlen : e.actives.length = 2 := by
    rw [State.actives_congr (s := w.thrownOut l cause) fun j => by rw [State.ln_congr (congrArg LaneSt.lanes c5)], w.actives_thrownOut l hc, hact]
    cases l <;> rfl
  have hy : w.excludeLane l cause = { e with lane := { e.lane with vote := .v2oo2 } } := by
    rw [State.excludeLane_eq hstate, ← he, if_neg (by omega), State.voteAfterLoss]
    have hev : e.lane.vote = .v2oo3 := by rw [c5, hvote, hv]
    simp only [hev]
    rw [if_neg (by omega)]
  have hthrown : (w.thrownOut l cause).lane.compared = w.lane.compared ∧ (w.thrownOut l cause).pair = w.pair := by
    obtain ⟨x, hx⟩ := (w.modLn l fun x => x.toBist w.now).modLanes_eq (w.modLn l fun x => x.toBist w.now).actives
      fun x => { x with exclFor := l :: x.exclFor.filter (fun m => m ≠ l) }
    obtain ⟨b, hb⟩ : ∃ b, b = (w.modLn l fun x => x.toBist w.now).modLanes (w.modLn l fun x => x.toBist w.now).actives
      fun x => { x with exclFor := l :: x.exclFor.filter (fun m => m ≠ l) } := ⟨_, rfl⟩
    have hbw : b.lane.compared = w.lane.compared ∧ b.pair = w.pair := by rw [hb, hx]; exact ⟨rfl, rfl⟩
    have ht : w.thrownOut l cause = ((b.wr (F.LANEIF_LANE_CAUSE l.idx) cause).inc (F.LANEIF_LANE_EXCL_CNT l.idx)).laneRecord 0x01 6 l.idx l.idx
      [((b.wr (F.LANEIF_LANE_CAUSE l.idx) cause).inc (F.LANEIF_LANE_EXCL_CNT l.idx)).laneWord l] := by rw [hb]; rfl
    rw [ht, State.laneRecord_lane, State.laneRecord, State.record_pair, State.inc_lane, State.inc_pair, State.wr_lane, State.wr_pair]
    exact hbw
  intro y
  have hyd : y = { e with lane := { e.lane with vote := .v2oo2 } } := hy
  rw [hyd]
  refine ⟨rfl, (congrArg LaneSt.compared c5).trans hthrown.1, c6.trans hthrown.2, fun j hj => ?_, hregs.of_regs c4⟩
  have hj' : State.ln { e with lane := { e.lane with vote := .v2oo2 } } j = (w.thrownOut l cause).ln j :=
    State.ln_congr (congrArg LaneSt.lanes c5) j
  rw [hj', hk j hj]
  split <;> rfl

theorem State.agreed_ln (s : State) {i : LaneId} (h : i ≠ l) : (s.agreed i).ln l = s.ln l := s.ln_modLn_ne _ h

/-- What a lane's outvoting leaves of the cycle's state (R93). -/
theorem State.outvoted_spec {z : State} {i j : LaneId} (hi : i ≠ l) (hj : j ≠ l) (hact : z.actives = [.a, .b, .c]) (hv : z.lane.vote = .v2oo3)
    (hgot : ∀ i j, i ≠ j → i ∈ (z.ln j).gotOut) : let y := ((z.agreed i).agreed j).outvoted l
    y.lane.compared = z.lane.compared ∧ y.pair = z.pair ∧
    y.rd (F.LANEIF_LANE_DISAGREE_CNT l.idx) = min 255 (z.rd (F.LANEIF_LANE_DISAGREE_CNT l.idx) + 1) ∧
    ((z.ln l).disRun = 0 → (y.ln l).state = .active ∧ (y.ln l).disRun = 1 ∧ y.lane.vote = .v2oo3) ∧
    (1 ≤ (z.ln l).disRun → (y.ln l).state = .excluded ∧ y.rd (F.LANEIF_LANE_CAUSE l.idx) = 1 ∧ y.lane.vote = .v2oo2) ∧
    ∀ i j, (y.ln i).state = .active → (y.ln j).state = .active → i ≠ j → i ∈ (y.ln j).gotOut := by
  obtain ⟨q, hq⟩ : ∃ q, q = (z.agreed i).agreed j := ⟨_, rfl⟩
  have hag (x : State) (i : LaneId) : (x.agreed i).lane.compared = x.lane.compared ∧ (x.agreed i).pair = x.pair ∧
      (x.agreed i).lane.vote = x.lane.vote ∧ (x.agreed i).regs = x.regs ∧
      ∀ k, ((x.agreed i).ln k).state = (x.ln k).state ∧ ((x.agreed i).ln k).gotOut = (x.ln k).gotOut := by
    refine ⟨rfl, rfl, rfl, rfl, fun k => ?_⟩
    by_cases e : i = k
    · subst e; rw [State.agreed, State.ln_modLn_self]; exact ⟨rfl, rfl⟩
    · rw [x.agreed_ln e]; exact ⟨rfl, rfl⟩
  obtain ⟨a1, a2, a3, a4, a5⟩ := hag z i
  obtain ⟨b1, b2, b3, b4, b5⟩ := hag (z.agreed i) j
  have hql : q.ln l = z.ln l := by rw [hq, State.agreed_ln _ hj, State.agreed_ln _ hi]
  rw [← hq] at b1 b2 b3 b4 b5 ⊢
  intro y
  obtain ⟨w, hw, hy⟩ : ∃ w, w = (q.modLn l fun x => { x with disRun := x.disRun + 1 }).inc (F.LANEIF_LANE_DISAGREE_CNT l.idx) ∧
      y = if 2 ≤ (w.ln l).disRun then w.excludeLane l 1 else w := ⟨_, rfl, rfl⟩
  have hall (k : LaneId) : (z.ln k).state = .active := (z.mem_actives k).1 (by rw [hact]; exact mem_laneIds k)
  have hwl : w.ln l = { z.ln l with disRun := (z.ln l).disRun + 1 } := by
    rw [hw, State.ln_inc, State.ln_modLn_self, hql]
  have hwk (k : LaneId) : (w.ln k).state = .active ∧ (w.ln k).gotOut = (z.ln k).gotOut := by
    by_cases e : l = k
    · subst e; rw [hwl]; exact ⟨hall _, rfl⟩
    · rw [hw, State.ln_inc, State.ln_modLn_ne _ _ e]
      exact ⟨((b5 k).1.trans (a5 k).1).trans (hall k), (b5 k).2.trans (a5 k).2⟩
  have hwf : w.lane.compared = q.lane.compared ∧ w.pair = q.pair ∧ w.lane.vote = q.lane.vote := by rw [hw]; exact ⟨rfl, rfl, rfl⟩
  have w1 := hwf.1.trans (b1.trans a1)
  have w2 := hwf.2.1.trans (b2.trans a2)
  have w3 := hwf.2.2.trans (b3.trans a3)
  have hcnt : w.rd (F.LANEIF_LANE_DISAGREE_CNT l.idx) = min 255 (z.rd (F.LANEIF_LANE_DISAGREE_CNT l.idx) + 1) := by
    have hqz : q.rd (F.LANEIF_LANE_DISAGREE_CNT l.idx) = z.rd (F.LANEIF_LANE_DISAGREE_CNT l.idx) := State.rd_congr (b4.trans a4) _
    rw [hw, ← hqz]; exact State.rd_inc_min ..
  have hwa : w.actives = [.a, .b, .c] := (State.actives_congr (s := z) fun k => by rw [(hwk k).1, hall k]).trans hact
  by_cases h0 : (z.ln l).disRun = 0
  · have hyw : y = w := hy.trans (if_neg (by rw [hwl]; change ¬ 2 ≤ (z.ln l).disRun + 1; omega))
    rw [hyw]
    refine ⟨w1, w2, hcnt, fun _ => ⟨(hwk l).1, by rw [hwl]; exact congrArg (· + 1) h0, w3.trans hv⟩, fun h1 => absurd h1 (by omega), fun k m _ _ hkm => ?_⟩
    rw [(hwk m).2]
    exact hgot k m hkm
  · have hyw : y = w.excludeLane l 1 := hy.trans (if_pos (by rw [hwl]; change 2 ≤ (z.ln l).disRun + 1; omega))
    obtain ⟨e1, e2, e3, e4, e5⟩ := State.excludeLane_ofThree (l := l) (cause := 1) hwa (w3.trans hv) (by decide)
    obtain ⟨x1, x2⟩ := State.excludeLane_cause (cause := 1) (hwk l).1 (by decide)
    rw [hyw]
    refine ⟨e2.trans w1, e3.trans w2, (e5 _ ?_).trans hcnt, fun h => absurd h h0, fun _ => ⟨x1, x2, e1⟩, fun k m _ hm hkm => ?_⟩
    · cases l <;> decide
    · have hml : m ≠ l := fun e => by rw [e, x1] at hm; exact nomatch hm
      rw [e4 m hml, (hwk m).2]
      exact hgot k m hkm

/-! ### Command update -/

theorem State.voutSwap_lane (s : State) : s.voutSwap.lane = s.lane := by
  unfold State.voutSwap
  dsimp only
  rw [State.wr_lane]
  refine foldl_keeps State.lane (fun y w => ?_) _ s
  split <;> rfl

/-- What lane `l` drives at its command update, from the state in which arming has been tried. -/
def State.updatedLane (y : State) (l : LaneId) (now : Nat) : State :=
  y.modLn l fun x => { x.drive (y.linesOf l) now with updated := true, updAt := now }

theorem ends_commandUpdate (hr : s.lanesRun = true) (hx : (s.ln l).executes = true) (hu : (s.ln l).updated = false)
    (h1 : (s.ln l).boundary + ((s.ln l).period - 100000) ≤ t) (h2 : t < (s.ln l).boundary + (s.ln l).period)
    (he : s.cyc.expected = true) (ho : s.lane.overrun = false) (hp : (s.tick t).tryArm.rd F.PAIR_CFG_PAIR_EN = 0)
    (hnow : (s.tick t).tryArm.now = t) (h : ∀ z : State, z.lane = ((s.tick t).tryArm.updatedLane l t).lane → P z) :
    Ends (.commandUpdate t l) s P := by
  have hc : ¬ (!(s.tick t).lanesRun ∨ !((s.tick t).ln l).executes ∨ ((s.tick t).ln l).updated ∨
      !(s.tick t).inPhase l (((s.tick t).ln l).period - 100000) ((s.tick t).ln l).period) := by
    have hphase : (s.tick t).inPhase l (((s.tick t).ln l).period - 100000) ((s.tick t).ln l).period = true := by
      unfold State.inPhase
      rw [Bool.and_eq_true, decide_eq_true_eq, decide_eq_true_eq]
      exact ⟨h1, h2⟩
    rw [show (s.tick t).lanesRun = true from hr, show ((s.tick t).ln l).executes = true from hx, show ((s.tick t).ln l).updated = false from hu, hphase]
    rintro (e | e | e | e) <;> exact Bool.false_ne_true e
  have harm : (s.tick t).cyc.expected ∧ !(s.tick t).lane.overrun := ⟨he, by rw [show (s.tick t).lane.overrun = false from ho]; rfl⟩
  obtain ⟨y, hy⟩ : ∃ y, y = (s.tick t).tryArm := ⟨_, rfl⟩
  rw [← hy] at hp hnow h
  have hpair : ¬ (((y.ln l).state = .active ∧ y.actives.all fun m => !(y.ln m).updated) ∧ y.flag F.PAIR_CFG_PAIR_EN) := fun e => by
    rw [State.flag_eq_false.2 hp] at e; exact Bool.false_ne_true e.2
  obtain ⟨u, hu'⟩ : ∃ u, u = y.updatedLane l t := ⟨_, rfl⟩
  obtain ⟨z, hz⟩ : ∃ z, z = if u.lane.compared ∧ u.cyc.expected ∧ ((u.actives.filter fun m => (u.ln m).updated).length = 2 ∧ (u.ln l).state = .active)
      then u.voutSwap else u := ⟨_, rfl⟩
  have hzl : z.lane = u.lane := by
    rw [hz]
    split
    · exact u.voutSwap_lane
    · rfl
  refine ends_next_eq (x := z.netUpdate) (arm_commandUpdate t l s) ((if_neg hc).trans ?_) (h _ (z.netUpdate_kept.parts.2.1.trans (hzl.trans (by rw [hu']))))
  rw [if_pos harm]
  dsimp only
  rw [← hy, if_neg hpair, hz, hu', State.updatedLane, hnow]

theorem State.tryArm_armed (h : s.lane.armed = true) : s.tryArm = s := if_pos (Or.inl h)

/-- Vital arming with three ACTIVE lanes (R90). -/
theorem State.tryArm_three (ha : s.lane.armed = false) (hm : s.cyc.mode = .run) (hv : s.lane.vote = .notArmed) (hb : s.allBlocked = false)
    (hs : s.rd F.SETUP_STAT_SRC ≠ 0) (hact : s.actives = [.a, .b, .c]) :
    s.tryArm = { s with lane := { s.lane with armed := true, vote := .v2oo3 } } := by
  have h1 : ¬ (s.lane.armed = true ∨ s.cyc.mode ≠ .run ∨ s.lane.vote = .safe ∨ s.allBlocked = true ∨ s.rd F.SETUP_STAT_SRC = 0) := by
    rw [ha, hm, hv, hb]
    rintro (e | e | e | e | e)
    · exact Bool.false_ne_true e
    · exact e rfl
    · exact nomatch e
    · exact Bool.false_ne_true e
    · exact hs e
  have h2 : s.lane.vote = .v2oo3 ∨ (s.lane.vote = .notArmed ∧ s.actives.length = 3) := .inr ⟨hv, by rw [hact]; rfl⟩
  unfold State.tryArm
  rw [if_neg h1]
  exact if_pos h2

/-- What an armed lane drives in RUN (R86). -/
theorem State.linesOf_run {o : OutImage} (hm : s.cyc.mode = .run) (ha : s.lane.armed = true) (hv : s.lane.vote ≠ .safe) (he : s.cyc.expected = true)
    (ho : s.lane.overrun = false) (hs : s.sentImage l = some o) :
    s.linesOf l = s.unblocked o.cmd + o.permit % 64 * 2 ^ 48 + bit s.pair.claim * 2 ^ 54 := by
  unfold State.linesOf
  simp only [hm, ha, he, ho, hs, hv, if_false, reduceCtorEq, Bool.not_true, Bool.false_eq_true, or_self]

/-! ### The front lines -/

theorem maskSet_other {m n j : Nat} (h : j ≠ n) : (maskSet m n).testBit j = m.testBit j := by
  rw [maskSet, Nat.testBit_or, Nat.testBit_two_pow_of_ne (Ne.symm h), Bool.or_false]

/-- Clearing a bit leaves the others. -/
theorem testBit_maskClr (m n j : Nat) : (maskClr m n).testBit j = (m.testBit j && decide (j ≠ n)) := by
  by_cases hb : m.testBit n = true
  · have hr : m % 2 ^ n < 2 ^ n := Nat.mod_lt _ (by positivity)
    have hodd : m / 2 ^ n = 2 * (m / 2 ^ n / 2) + 1 := by
      have h1 : m / 2 ^ n % 2 = 1 := by
        simpa [Nat.testBit, Nat.shiftRight_eq_div_pow, Nat.and_comm, Nat.and_one_is_mod] using hb
      omega
    generalize hq : m / 2 ^ n / 2 = q at hodd
    have hm : m = 2 ^ n * (2 * q + 1) + m % 2 ^ n := by rw [← hodd]; exact (Nat.div_add_mod m (2 ^ n)).symm
    have hclr : maskClr m n = 2 ^ n * (2 * q) + m % 2 ^ n := by
      rw [maskClr, if_pos hb]
      have := Nat.mul_add (2 ^ n) (2 * q) 1
      omega
    generalize m % 2 ^ n = r at hr hm hclr
    rw [hclr, hm, Nat.testBit_two_pow_mul_add _ hr, Nat.testBit_two_pow_mul_add _ hr]
    split
    · simp [show j ≠ n by omega]
    · by_cases hj : j = n
      · subst hj; simp
      · obtain ⟨k, hk⟩ : ∃ k, j - n = k + 1 := ⟨j - n - 1, by omega⟩
        rw [hk, Nat.testBit_succ, Nat.testBit_succ]
        simp [hj, show (2 * q + 1) / 2 = q by omega]
  · rw [maskClr, if_neg hb]
    by_cases hj : j = n
    · subst hj; simp [hb]
    · simp [hj]

/-- The line of a lane at the given level after the gate has counted it. -/
def Lane.countLine (x : Lane) (n : Nat) : Lane :=
  { x with counted := if x.driven.testBit n then maskSet x.counted n else maskClr x.counted n }

theorem Lane.countLine_spec (x : Lane) (n : Nat) : (x.countLine n).counted.testBit n = x.driven.testBit n ∧
    ∀ j, j ≠ n → (x.countLine n).counted.testBit j = x.counted.testBit j := by
  unfold Lane.countLine
  by_cases h : x.driven.testBit n = true
  · simp only [h, if_true]
    exact ⟨testBit_maskSet_self .., fun j hj => maskSet_other hj⟩
  · simp only [h, Bool.false_eq_true, if_false]
    exact ⟨by rw [testBit_maskClr]; simp, fun j hj => by rw [testBit_maskClr]; simp [hj]⟩

theorem ends_lineChange (hn : n < 48) (hl : (s.ln l).lineAt.getD 0 n + 400 ≤ t) (hs : s.pair.source = false)
    (h : P ((s.tick t).modLn l fun x => x.countLine n)) : Ends (.thresholdLineChange t l (.cmd n)) s P := by
  have hst : ((s.tick t).closed (((s.tick t).ln l).lineAt.getD 0 n) 400) = true := decide_eq_true hl
  refine ends_unit (arm_thresholdLineChange t l (.cmd n) s) (decide_eq_true hn) ?_ h
  change (let steady := (s.tick t).closed (((s.tick t).ln l).lineAt.getD 0 n) 400
    let s := if !steady then s.tick t else (s.tick t).modLn l fun x => x.countLine n
    if s.pair.source ∧ !s.authGate then { s with pair := { s.pair with source := false, quiet := none } } else s) = _
  dsimp only
  rw [hst, Bool.not_true, if_neg Bool.false_ne_true]
  exact if_neg fun e => Bool.false_ne_true (hs.symm.trans e.1)

/-- Settles O16: each phase by what its command does in the state that the case fixes. -/
theorem lanesCyclePhases : Obligations.LanesCyclePhases := by
  intro s t n l m k g p o fs rest work hrun x both phase
  refine ⟨fun hb ho hc ht hp => ?_, fun hb ho hc ht hp ha => ?_, fun hl => ?_, fun hl => ?_, fun hl h1 h2 => ?_, fun hl hn hk => ?_,
    fun hl hb hk hi => ?_, fun hl hb hk hi => ?_, fun hx hag hb hd hr hq hn hp => ?_, fun hn hp hq hf => ?_, fun he hx hd hs ho hc ha => ?_,
    fun he hx hd hs hlate => ?_, fun he ho hc hf hp hact hv hsent hgot => ⟨fun heq hne => ?_, fun hne => ?_⟩,
    fun hx hu hph he ho hm ha hv hp hs => ?_, fun hx hu hph he ho hm ha hv hp hact hb hs => ?_, fun hn hl hs => ?_⟩
  · obtain ⟨-, -, -, -, -, hlane⟩ := (s.tick t).swapped_spec false
    obtain ⟨w1, w2, w3⟩ := (s.tick t).swapped_words false
    obtain ⟨f1, f2, f3, -⟩ := (s.tick t).lane.swapped_fields ((s.tick t).numbered false).vinBack (s.tick t).now
    refine ends_quietMarker hrun hb (.inr rfl) hc ht hp (fun e => by rw [ho] at e; exact nomatch e) fun s' hl hreg => ?_
    rw [ho, Bool.not_true] at hl hreg
    rw [hl, hreg _ (not_netKey_lane (by decide) (by decide)), show s'.cycleNo = _ from hreg _ (not_netKey_lane (by decide) (by decide))]
    refine ⟨w1, w2.trans ?_, fun w hw => ?_, by rw [hlane]; exact f1, by rw [hlane]; exact f2, by rw [hlane]; exact f3⟩
    · change (s.cycleNo + 1) % 2 ^ 32 % 2 ^ 16 = (s.cycleNo + 1) % 2 ^ 16
      omega
    · rw [hreg _ (not_netKey_lane (by simp only [Fld.key, F.LANEIF_VIN_DATA]; omega) (by simp only [Fld.key, F.LANEIF_VIN_DATA]; omega))]
      exact w3 w hw
  · obtain ⟨-, -, -, -, -, hlane⟩ := (s.tick t).swapped_spec true
    obtain ⟨w1, -, -⟩ := (s.tick t).swapped_words true
    obtain ⟨-, -, f3, f4⟩ := (s.tick t).lane.swapped_fields ((s.tick t).numbered true).vinBack (s.tick t).now
    refine ends_quietMarker hrun hb (.inl ho) hc ht hp (fun _ => ha) fun s' hl hreg => ?_
    rw [ho, Bool.not_false] at hl hreg
    rw [hl, show s'.cycleNo = _ from hreg _ (not_netKey_lane (by decide) (by decide))]
    exact ⟨w1, by rw [hlane]; exact f4, by rw [hlane]; exact f3⟩
  · refine ends_laneFrame_taken hrun hl .input rfl ⟨?_, rfl, fun j hj => (s.tick t).ln_modLn_ne _ (Ne.symm hj)⟩
    rw [State.ln_modLn_self]; exact List.mem_cons_self
  · refine ends_laneFrame_taken hrun hl .output rfl ⟨?_, rfl, fun j hj => (s.tick t).ln_modLn_ne _ (Ne.symm hj)⟩
    rw [State.ln_modLn_self]; exact List.mem_cons_self
  · refine ends_laneFrame_bad hrun hl k ?_
    rw [if_neg (by rintro (e | e); exacts [h1 e, h2 e])]
    exact (OnlyRegs.tick s t _).inc (by simp)
  · refine ends_laneFrame_bad hrun hl k ?_
    rw [if_pos hk, State.linkFault_inactive (s := (s.tick t).inc (linkCrcFld (linkOf l m))) hn]
    exact ⟨State.testBit_raiseBits (linkIdx_lt _) _, rfl⟩
  · refine ends_laneFrame_bad hrun hl k ?_
    rw [if_pos hi, State.linkFault_active (s := (s.tick t).inc (linkCrcFld (linkOf l m))) hb, if_neg (by rw [List.contains_iff_mem]; exact hk)]
    exact ⟨State.testBit_raiseBits (linkIdx_lt _) _, List.mem_cons_self, rfl, rfl⟩
  · refine ends_laneFrame_bad hrun hl k ?_
    rw [if_pos hi, State.linkFault_active (s := (s.tick t).inc (linkCrcFld (linkOf l m))) hb, if_pos (by rw [List.contains_iff_mem]; exact hk)]
    refine State.excludeLane_cause ?_ (by decide)
    change (s.ln (linkOf l m).2).state = .active
    unfold linkOf
    split
    · exact hb.2
    · exact hb.1
  · refine ends_executePhase hrun hx hag hb hd hr fun y hyl hyc _ => ?_
    have hln (j : LaneId) : y.ln j = s.ln j := State.ln_congr (congrArg LaneSt.lanes hyl) j
    obtain ⟨⟨e1, e2, e3⟩, e4⟩ := State.beginExecute_spec (s := y) work (by rw [hln]; exact hq) (by rw [hyc]; exact hn)
    exact ⟨e1, e2, e3.trans (by rw [hln]), fun j hj => (e4 j hj).trans (hln j)⟩
  · refine ends_executeComplete hn hp hq hf ?_
    have hln (j : LaneId) := State.ln_congr (State.endOfExecute_lanes ((s.tick t).modLn l fun x =>
      { x with running := none, out := some (s.outImage l p), outCyc := n, outAt := t }) l p) j
    rw [hln l, State.ln_modLn_self]
    exact ⟨rfl, rfl, rfl, rfl, fun j hj => (hln j).trans ((s.tick t).ln_modLn_ne _ (Ne.symm hj))⟩
  · refine ends_outputDeadline hrun he hx hd hs fun y ⟨y1, y2, y3, y4⟩ => ?_
    have hln (j : LaneId) : y.ln j = s.ln j := State.ln_congr y1 j
    simp only [hln l, show (s.ln l).out = some o from ho]
    rw [if_pos ⟨hc.trans y4.symm, ha⟩, State.ln_modLn_self, hln l]
    exact ⟨rfl, y2, fun j hj => (y.ln_modLn_ne _ (Ne.symm hj)).trans (hln j)⟩
  · have hex : (s.ln l).executes = true := by rw [Lane.executes, show (s.ln l).state = .active from hx]; rfl
    refine ends_outputDeadline hrun he hex hd hs fun y ⟨y1, y2, y3, y4⟩ => ?_
    have hln (j : LaneId) : y.ln j = s.ln j := State.ln_congr y1 j
    have hover := State.sendOverrun_spec (s := y) (l := l) (by rw [hln]; exact hx)
    split
    · rw [if_neg]
      · exact hover
      · rw [hln, y4]
        rintro ⟨e1, e2⟩
        rcases hlate with h | h
        · exact h e1
        · exact not_lt.2 h e2
    · exact hover
  · refine ends_outputCompare he ho hc hf hact hsent ?_
    have hall (j : LaneId) : ((s.tick t).ln j).state = .active := (s.mem_actives j).1 (by rw [hact]; exact mem_laneIds j)
    obtain ⟨z1, z2, z3, z4, z5, z6, -⟩ := State.comparing_spec (s := s.tick t) hall
    generalize (s.tick t).comparing = z at z1 z2 z3 z4 z5 z6 ⊢
    have hza : z.actives = [.a, .b, .c] := (State.actives_congr (s := s) fun j => by rw [z1]; rfl).trans hact
    have hzs (j : LaneId) : z.sentImage j = s.sentImage j := by unfold State.sentImage; rw [z1]; rfl
    obtain ⟨i, j, hi, hj, hcmp⟩ := State.compareActive_odd (l := l) hza (fun i j hi hj => by rw [hzs, hzs]; exact heq i j hi hj)
      (fun j hj => by rw [hzs, hzs]; exact hne j hj)
    obtain ⟨y1, y2, y3, y4, y5, y6⟩ := State.outvoted_spec hi hj hza (z2.trans hv) fun i j hij => by rw [z1]; exact hgot i j hij
    rw [hcmp]
    generalize ((z.agreed i).agreed j).outvoted l = y at y1 y2 y3 y4 y5 y6 ⊢
    rw [State.missingOutputs_none y6, State.pairCompare_none (by rw [y2, z5]; exact hp)]
    obtain ⟨-, k2, -⟩ := y.netUpdate_kept.parts
    have hreg (f : Fld) (h1 : 0x40200000 * 32 ≤ f.key) (h2 : f.key < 0x40300000 * 32) : y.netUpdate.rd f = y.rd f :=
      y.netUpdate_kept.2 f (not_netKey_lane h1 h2)
    have hdis : z.rd (F.LANEIF_LANE_DISAGREE_CNT l.idx) = s.rd (F.LANEIF_LANE_DISAGREE_CNT l.idx) := z6 _ (by cases l <;> decide)
    have hrun' : (z.ln l).disRun = (s.ln l).disRun := by rw [z1]; rfl
    rw [k2, State.ln_congr (congrArg LaneSt.lanes k2), hreg _ (by cases l <;> decide) (by cases l <;> decide),
      hreg _ (by cases l <;> decide) (by cases l <;> decide)]
    exact ⟨y1.trans z3, by rw [y3, hdis], fun h => y4 (hrun'.trans h), fun h => y5 (by rw [hrun']; exact h)⟩
  · refine ends_outputCompare he ho hc hf hact hsent ?_
    have hall (j : LaneId) : ((s.tick t).ln j).state = .active := (s.mem_actives j).1 (by rw [hact]; exact mem_laneIds j)
    obtain ⟨z1, z2, z3, z4, z5, z6, -⟩ := State.comparing_spec (s := s.tick t) hall
    generalize (s.tick t).comparing = z at z1 z2 z3 z4 z5 z6 ⊢
    have hza : z.actives = [.a, .b, .c] := (State.actives_congr (s := s) fun j => by rw [z1]; rfl).trans hact
    have hzs (j : LaneId) : z.sentImage j = s.sentImage j := by unfold State.sentImage; rw [z1]; rfl
    have hzv : z.lane.vote = .v2oo3 := z2.trans hv
    rw [State.compareActive_split hza hzv fun i j hij => by rw [hzs, hzs]; exact hne i j hij]
    obtain ⟨v1, v2, v3, v4⟩ := State.voteSafe_spec (s := z) (by rw [hzv]; exact nofun)
    have hgo := (State.Seen.voteSafe .gotOut z).2
    have hza' (j : LaneId) : (z.ln j).state = .active := by rw [z1]; exact hall j
    have hpair : z.voteSafe.pair = z.pair := z.voteSafe_pair
    have hmask : z.safeMask = s.safeMask := State.safeMask_congr fun n => z6 _ (by
      simp only [List.map_cons, List.map_nil, List.mem_singleton, Fld.key, F.CH_PROFILE_SAFE_ON, F.CYCMGR_CYC_STAT_OVERRUN_RUN]; omega)
    rw [State.missingOutputs_none fun i j _ _ hij => by rw [(hgo j (hza' j)).2, z1]; exact hgot i j hij,
      State.pairCompare_none (by rw [hpair, z5]; exact hp)]
    obtain ⟨-, k2, -⟩ := z.voteSafe.netUpdate_kept.parts
    rw [k2]
    refine ⟨v1, v2, fun j => ?_⟩
    rw [State.ln_congr (congrArg LaneSt.lanes k2), (v4 j (.inl (hza' j))).2.2, if_pos (hza' j), hmask]
  · have hex : (s.ln l).executes = true := by rw [Lane.executes, show (s.ln l).state = .active from hx]; rfl
    have harm : (s.tick t).tryArm = s.tick t := State.tryArm_armed ha
    refine ends_commandUpdate hrun hex hu hph.1 hph.2 he ho (by rw [harm]; exact hp) (by rw [harm]; rfl) fun z hz => ?_
    rw [harm] at hz
    have hln (j : LaneId) := State.ln_congr (congrArg LaneSt.lanes hz) j
    have hlines : (s.tick t).linesOf l = s.unblocked o.cmd + o.permit % 64 * 2 ^ 48 + bit s.pair.claim * 2 ^ 54 :=
      State.linesOf_run (s := s.tick t) hm ha hv he ho hs
    rw [hln l, State.updatedLane, State.ln_modLn_self]
    exact ⟨rfl, rfl, hlines, fun j hj => (hln j).trans ((s.tick t).ln_modLn_ne _ (Ne.symm hj))⟩
  · have hex : (s.ln l).executes = true := by rw [Lane.executes, show (s.ln l).state = .active from hx]; rfl
    have harm := State.tryArm_three (s := s.tick t) ha hm hv hb hs hact
    refine ends_commandUpdate hrun hex hu hph.1 hph.2 he ho (by rw [harm]; exact hp) (by rw [harm]; rfl) fun z hz => ?_
    rw [hz, harm]
    exact ⟨rfl, rfl⟩
  · refine ends_lineChange hn hl hs ?_
    obtain ⟨c1, c2⟩ := (s.ln l).countLine_spec n
    rw [State.ln_modLn_self]
    exact ⟨c1, c2, rfl, fun j hj => (s.tick t).ln_modLn_ne _ (Ne.symm hj)⟩

end Sys2Proof.Machine
end

section
/-! PROOFS. Program loads, restarts and the carry-over report: O19 -/

namespace Sys2Proof.Machine

variable {s s' : State} {t : Nat}

/-! ### What shows the banks -/

/-- A state that differs from another in its registers alone. -/
def RegsOnly (s s' : State) : Prop := ∃ r, s' = { s with regs := r }

namespace RegsOnly

theorem refl (s : State) : RegsOnly s s := ⟨_, rfl⟩

theorem wr (s : State) (f : Fld) (v : Nat) : RegsOnly s (s.wr f v) := ⟨_, rfl⟩

theorem trans {s'' : State} (h : RegsOnly s s') (h' : RegsOnly s' s'') : RegsOnly s s'' := by
  obtain ⟨_, rfl⟩ := h
  obtain ⟨_, rfl⟩ := h'
  exact ⟨_, rfl⟩

theorem foldl {α : Type} {g : State → α → State} (h : ∀ s a, RegsOnly s (g s a)) (l : List α) (s : State) : RegsOnly s (l.foldl g s) := by
  induction l generalizing s with
  | nil => exact refl s
  | cons a l ih => exact (h s a).trans (ih _)

theorem parts (h : RegsOnly s s') : s'.cyc = s.cyc ∧ s'.lane = s.lane ∧ s'.pwr = s.pwr ∧ s'.log = s.log := by
  obtain ⟨_, rfl⟩ := h
  exact ⟨rfl, rfl, rfl, rfl⟩

end RegsOnly

/-- The keys of the task configuration. -/
def TaskCfgKey (k : Nat) : Prop := 0x40300100 * 32 ≤ k ∧ k < 0x40300140 * 32

/-- The configuration of a task number, as the active image has it. -/
def State.showTask (tasks : List TaskDecl) (s : State) (j : Nat) : State :=
  match tasks.find? fun k => k.num = j with
  | some k => (((s.setF (F.CYCMGR_TASK_CFG_PRESENT j)).wr (F.CYCMGR_TASK_CFG_MULT_LOG2 j) k.mult).wr
      (F.CYCMGR_TASK_CFG_PHASE j) k.phase).wr (F.CYCMGR_TASK_CFG_WCET_US j) (min 65535 k.wcet)
  | none => (((s.clrF (F.CYCMGR_TASK_CFG_PRESENT j)).clrF (F.CYCMGR_TASK_CFG_MULT_LOG2 j)).clrF
      (F.CYCMGR_TASK_CFG_PHASE j)).clrF (F.CYCMGR_TASK_CFG_WCET_US j)

theorem State.showTask_only (tasks : List TaskDecl) (s : State) (j : Nat) : RegsOnly s (s.showTask tasks j) := by
  unfold State.showTask
  split <;> exact (((RegsOnly.wr s _ _).trans (.wr _ _ _)).trans (.wr _ _ _)).trans (.wr _ _ _)

theorem State.showTask_stands (tasks : List TaskDecl) (s : State) {j : Nat} (hj : j < 8) : Stands TaskCfgKey s (s.showTask tasks j) := by
  have hk (f : Fld) (hf : f.addr = 0x40300100 + j * 8) (hl : f.lo < 32) : TaskCfgKey f.key := by
    constructor <;> simp only [Fld.key, hf] <;> omega
  have h1 := hk (F.CYCMGR_TASK_CFG_PRESENT j) rfl (by simp [F.CYCMGR_TASK_CFG_PRESENT])
  have h2 := hk (F.CYCMGR_TASK_CFG_MULT_LOG2 j) rfl (by simp [F.CYCMGR_TASK_CFG_MULT_LOG2])
  have h3 := hk (F.CYCMGR_TASK_CFG_PHASE j) rfl (by simp [F.CYCMGR_TASK_CFG_PHASE])
  have h4 := hk (F.CYCMGR_TASK_CFG_WCET_US j) rfl (by simp [F.CYCMGR_TASK_CFG_WCET_US])
  unfold State.showTask
  split <;> exact (((Stands.wr h1 s _).trans (Stands.wr h2 _ _)).trans (Stands.wr h3 _ _)).trans (Stands.wr h4 _ _)

theorem State.wrHash_only (s : State) (f : Nat → Fld) (h : Nat) : RegsOnly s (s.wrHash f h) := RegsOnly.foldl (fun s _ => .wr s _ _) _ s

theorem State.showBanks_eq (s : State) : s.showBanks = (List.range 8).foldl (State.showTask ((s.cyc.act.map Program.tasks).getD []))
    ((s.wrHash F.CYCMGR_ACT_HASH_HASH ((s.cyc.act.map Program.hash).getD 0)).wrHash F.CYCMGR_INACT_HASH_HASH
      ((s.cyc.inact.map Program.hash).getD 0)) := by
  obtain ⟨y, hy⟩ : ∃ y, y = (s.wrHash F.CYCMGR_ACT_HASH_HASH ((s.cyc.act.map Program.hash).getD 0)).wrHash F.CYCMGR_INACT_HASH_HASH
    ((s.cyc.inact.map Program.hash).getD 0) := ⟨_, rfl⟩
  have hc : y.cyc = s.cyc := by rw [hy]; exact ((s.wrHash_only _ _).trans (State.wrHash_only _ _ _)).parts.1
  have hx : s.showBanks = (List.range 8).foldl (State.showTask ((y.cyc.act.map Program.tasks).getD [])) y := by rw [hy]; rfl
  rw [hx, hc, hy]

theorem State.showBanks_only (s : State) : RegsOnly s s.showBanks := by
  rw [s.showBanks_eq]
  exact ((s.wrHash_only _ _).trans (State.wrHash_only _ _ _)).trans (RegsOnly.foldl (State.showTask_only _) _ _)

/-- The words of a hash, written in its eight registers. -/
theorem State.rd_wrHash {f : Nat → Fld} (hf : ∀ i j, i ≠ j → (f i).key ≠ (f j).key) (hw : ∀ i, (f i).width = 32) (s : State) (h : Nat) {j : Nat}
    (hj : j < 8) : (s.wrHash f h).rd (f j) = h / 2 ^ (32 * j) % 2 ^ 32 := by
  have hfold (l : List Nat) (y : State) : (l.foldl (fun s k => s.wr (f k) (h / 2 ^ (32 * k) % 2 ^ 32)) y).rd (f j) =
      if j ∈ l then h / 2 ^ (32 * j) % 2 ^ 32 else y.rd (f j) := by
    induction l generalizing y with
    | nil => rfl
    | cons k l ih =>
      rw [List.foldl_cons, ih]
      by_cases hl : j ∈ l
      · rw [if_pos hl, if_pos (List.mem_cons_of_mem k hl)]
      · rw [if_neg hl]
        by_cases hk : k = j
        · rw [hk, if_pos List.mem_cons_self, State.rd_wr_self, hw, Nat.mod_mod]
        · rw [if_neg (by simp only [List.mem_cons, not_or]; exact ⟨Ne.symm hk, hl⟩)]
          exact State.rd_wr_ne _ _ (hf k j hk)
  rw [State.wrHash, hfold, if_pos (List.mem_range.2 hj)]

theorem State.showBanks_inact (s : State) {j : Nat} (hj : j < 8) :
    s.showBanks.rd (F.CYCMGR_INACT_HASH_HASH j) = (s.cyc.inact.map Program.hash).getD 0 / 2 ^ (32 * j) % 2 ^ 32 := by
  have htask (tasks : List TaskDecl) (y : State) : Stands TaskCfgKey y ((List.range 8).foldl (State.showTask tasks) y) :=
    Stands.foldl _ (fun y k hk => y.showTask_stands tasks (List.mem_range.1 hk)) y
  rw [s.showBanks_eq, htask _ _ _ (fun e => by have := e.1; simp only [Fld.key, F.CYCMGR_INACT_HASH_HASH] at this; omega)]
  exact State.rd_wrHash (fun a b hab => by simp only [ne_eq, Fld.key, F.CYCMGR_INACT_HASH_HASH]; omega) (fun _ => rfl) _ _ hj

/-! ### Accepted images -/

theorem State.fixPins_lane (s : State) : s.fixPins.lane = s.lane := by
  refine foldl_keeps State.lane (fun y u => ?_) _ s
  unfold State.fixPin
  split <;> rfl

/-- A lane that has loaded an image in STOP. -/
def Lane.loaded (x : Lane) (p : Program) : Lane :=
  { x with queue := [], running := none, oldProg := none, out := none, bankHash := some p.hash }

/-- In STOP an accepted image goes to the active bank (log entry 14). -/
theorem State.acceptLoad_stop (h : s.cyc.mode = .stop) (p : Program) : (s.acceptLoad p).cyc.act = some p ∧
    (s.acceptLoad p).cyc.inact = s.cyc.act ∧ (s.acceptLoad p).cyc.boot = some p ∧ ∀ l, (s.acceptLoad p).ln l = (s.ln l).loaded p := by
  obtain ⟨y, hy⟩ : ∃ y : State, y = { s.wr F.CYCMGR_STAT_ACT_BANK (1 - s.rd F.CYCMGR_STAT_ACT_BANK) with
    cyc := { s.cyc with act := some p, inact := s.cyc.act, boot := some p, oc := .idle } } := ⟨_, rfl⟩
  have hyl : y.lane = s.lane ∧ y.cyc = { s.cyc with act := some p, inact := s.cyc.act, boot := some p, oc := .idle } := by
    rw [hy]; exact ⟨rfl, rfl⟩
  obtain ⟨b, hb⟩ : ∃ b, b = y.modLanes laneIds fun x => x.loaded p := ⟨_, rfl⟩
  have hx : s.acceptLoad p = b.showBanks.fixPins := by rw [hb, hy]; exact if_pos h
  have hbc : b.cyc = y.cyc := hb ▸ y.modLanes_cyc _ _
  obtain ⟨h1, h2, -, -⟩ := b.showBanks_only.parts
  obtain ⟨f1, -⟩ := b.showBanks.fixPins_spec
  rw [hx, f1, h1, hbc, hyl.2]
  refine ⟨rfl, rfl, rfl, fun l => ?_⟩
  rw [State.ln_congr (congrArg LaneSt.lanes ((State.fixPins_lane _).trans h2)), hb, y.ln_modLanes laneIds_nodup, if_pos (mem_laneIds l),
    State.ln_congr (congrArg LaneSt.lanes hyl.1)]

/-- In every other mode it goes to the inactive bank. -/
theorem State.acceptLoad_inactive (h : s.cyc.mode ≠ .stop) (p : Program) : (s.acceptLoad p).cyc.inact = some p ∧
    (s.acceptLoad p).cyc.oc = .loaded ∧ (s.acceptLoad p).cyc.act = s.cyc.act ∧ (s.acceptLoad p).lane = s.lane ∧
    ∀ j, j < 8 → (s.acceptLoad p).rd (F.CYCMGR_INACT_HASH_HASH j) = p.hash / 2 ^ (32 * j) % 2 ^ 32 := by
  obtain ⟨y, hy⟩ : ∃ y : State, y = { s with cyc := { s.cyc with inact := some p, oc := .loaded } } := ⟨_, rfl⟩
  have hyf : y.lane = s.lane ∧ y.cyc = { s.cyc with inact := some p, oc := .loaded } := by rw [hy]; exact ⟨rfl, rfl⟩
  have hx : s.acceptLoad p = y.showBanks := by rw [hy]; exact if_neg h
  obtain ⟨h1, h2, -, -⟩ := y.showBanks_only.parts
  rw [hx, h1, h2, hyf.1, hyf.2]
  refine ⟨rfl, rfl, rfl, rfl, fun j hj => ?_⟩
  rw [y.showBanks_inact hj, hyf.2]
  rfl

/-- A load that fits is judged by the hashes of the three lanes. -/
theorem ends_programLoad {P : State → Prop} {p : Program} {pins : List Nat} {ha hb hc : Nat}
    (hf : p.inLimits = true ∧ s.pinsOk pins = true ∧ s.pwr.laneUp = true)
    (h : P (if ha = p.hash ∧ hb = p.hash ∧ hc = p.hash then (s.tick t).acceptLoad p
      else ({ s.tick t with cyc := { (s.tick t).cyc with inact := none, oc := .failed } } : State).showBanks)) :
    Ends (.programLoadComplete t p pins ha hb hc) s P := by
  have hn : ¬ ((!p.inLimits) = true ∨ (!(s.tick t).pinsOk pins) = true ∨ (!(s.tick t).pwr.laneUp) = true) := by
    rw [hf.1, show (s.tick t).pinsOk pins = true from hf.2.1, show (s.tick t).pwr.laneUp = true from hf.2.2]
    decide
  exact ends_next_eq (arm_programLoadComplete t p pins ha hb hc s) (if_neg hn) h

/-! ### The report -/

/-- Of the report a read gives the oldest entry that stood there before the clock, and how many remain. -/
theorem ends_ocRepRead {P : State → Prop} {a : Attr} {peek : Bool}
    (hp : (s.tick t).passes (rsAddr 0x4030001C peek) a false = true)
    (h : P (match s.cyc.report with
      | [] => (s.tick t).okay
      | (k, v) :: rest =>
        if (s.tick t).settled 0x4030001C (rest.length + 1) = 0 then (s.tick t).okay else
        (if peek then (s.tick t).okay
          else ({ (s.tick t).okay with cyc := { s.cyc with report := rest } } : State).wr F.CYCMGR_OC_REP_ID_VAR_ID v).answer 0
          (k * 2 ^ 30 + ((s.tick t).settled 0x4030001C (rest.length + 1) - 1)))) :
    Ends (.ocRepRead t a peek) s P :=
  ends_guarded (arm_ocRepRead t a peek s) hp rfl h

/-- Settles O19: what the image states of itself and the three hashes decide what a load leaves; the report gives its oldest settled entry. -/
theorem programLoadAndRestart : Obligations.ProgramLoadAndRestart := by
  intro s t ha hb hc k v a peek p rest pins fits
  refine ⟨fun hf => ?_, fun hf hd => ?_, fun hf hm => ?_, fun hf hm => ?_, fun ht he => ?_, fun hm => ?_, fun hp => ?_⟩
  · refine ends_next_eq (arm_programLoadComplete t p pins ha hb hc s) (if_pos ?_) (OnlyRegs.tick s t [])
    change (!p.inLimits) = true ∨ (!s.pinsOk pins) = true ∨ (!s.pwr.laneUp) = true
    simp only [Bool.not_eq_true']
    by_contra hcon
    simp only [not_or, Bool.not_eq_false] at hcon
    exact hf hcon
  · refine ends_programLoad hf ?_
    rw [if_neg fun e => hd.elim (· e.1) fun hd => hd.elim (· e.2.1) (· e.2.2)]
    obtain ⟨h1, h2, -, -⟩ := (State.showBanks_only { s.tick t with cyc := { (s.tick t).cyc with inact := none, oc := .failed } }).parts
    rw [h1, h2]
    exact ⟨rfl, rfl, rfl, rfl⟩
  · refine ends_programLoad hf ?_
    rw [if_pos ⟨rfl, rfl, rfl⟩]
    exact State.acceptLoad_inactive (s := s.tick t) hm p
  · refine ends_programLoad hf ?_
    rw [if_pos ⟨rfl, rfl, rfl⟩]
    obtain ⟨h1, h2, h3, h4⟩ := State.acceptLoad_stop (s := s.tick t) hm p
    exact ⟨h1, h2, h3, fun l => by rw [h4 l]; exact ⟨rfl, rfl⟩⟩
  · exact ends_next_eq (arm_tokenExpiry t s) (if_pos ⟨ht, he⟩) ⟨rfl, rfl⟩
  · refine ends_next_eq (arm_restartComplete t s) (if_pos hm) ?_
    obtain ⟨y, hy⟩ : ∃ y : State, y = { s.tick t with cyc := { (s.tick t).cyc with mode := .run, restart := none } } := ⟨_, rfl⟩
    have hyf : y.lane = s.lane ∧ y.pwr = s.pwr ∧ y.cyc = { s.cyc with mode := .run, restart := none } := by rw [hy]; exact ⟨rfl, rfl, rfl⟩
    obtain ⟨y1, y2, y3⟩ := hyf
    rw [← hy]
    dsimp only
    obtain ⟨z, hz⟩ : ∃ z : State, z = if y.pwr.state = .safe then { y with pwr := { y.pwr with state := .run } } else y := ⟨_, rfl⟩
    have hzf : z.cyc = y.cyc ∧ z.lane = y.lane ∧ (y.pwr.state = .safe → z.pwr.state = .run) := by
      rw [hz]
      split
      · exact ⟨rfl, rfl, fun _ => rfl⟩
      · next h => exact ⟨rfl, rfl, fun e => absurd e h⟩
    obtain ⟨z1, z2, z3⟩ := hzf
    rw [← hz]
    obtain ⟨n1, n2, -, n4, -⟩ := z.netUpdate_kept.parts
    rw [n1, n2, n4, z1, z2, y1, y3]
    exact ⟨rfl, rfl, rfl, fun h => z3 (by rw [y2]; exact h)⟩
  · intro n
    refine ⟨fun hn => ?_, fun hr hn => ?_⟩
    · refine ends_ocRepRead (by cases peek <;> exact hp) ?_
      rcases hr : s.cyc.report with _ | ⟨⟨k, v⟩, rest⟩
      · exact ⟨rfl, rfl, rfl⟩
      · have hn' : (s.tick t).settled 0x4030001C (rest.length + 1) = 0 := by
          have h := hn
          simp only [n, hr, List.length_cons] at h
          exact h
        simp only [hn', if_true]
        exact ⟨rfl, rfl, rfl⟩
    · refine ends_ocRepRead (by cases peek <;> exact hp) ?_
      have hlen : n = (s.tick t).settled 0x4030001C (rest.length + 1) := by simp only [n, hr, List.length_cons]
      simp only [hr, ← hlen, if_neg hn]
      cases peek
      · exact ⟨rfl, fun e => absurd e Bool.false_ne_true, fun _ => ⟨rfl, State.rd_wr_self ..⟩⟩
      · exact ⟨rfl, fun _ => ⟨rfl, rfl⟩, fun e => absurd e.symm Bool.false_ne_true⟩

end Sys2Proof.Machine
end

section
/-! PROOFS. The switch of an online change: O22 -/

namespace Sys2Proof.Machine

variable {s s' : State} {l : LaneId} {t n : Nat} {old next : Program}

/-! ### The banks -/

/-- What reports leave: lanes and registers stand, and of the cyclic state only the report grows. -/
def ReportKept (s s' : State) : Prop := s'.lane = s.lane ∧ s'.regs = s.regs ∧ ∃ r, s'.cyc = { s.cyc with report := r }

namespace ReportKept

theorem refl (s : State) : ReportKept s s := ⟨rfl, rfl, _, rfl⟩

theorem trans {s'' : State} (h : ReportKept s s') (h' : ReportKept s' s'') : ReportKept s s'' := by
  obtain ⟨h1, h2, r, h3⟩ := h
  obtain ⟨k1, k2, r', k3⟩ := h'
  exact ⟨k1.trans h1, k2.trans h2, r', by rw [k3, h3]⟩

theorem progRecord (s : State) (kind sev subj : Nat) (vals : List Nat) : ReportKept s (s.progRecord kind sev subj vals) := ⟨rfl, rfl, _, rfl⟩

theorem reportOc (s : State) (p : Program) (r : Nat × Nat) : ReportKept s (s.reportOc p r) := by
  have h : ReportKept s (if s.cyc.report.length < 4352 then
      ({ s with cyc := { s.cyc with report := s.cyc.report ++ [r] } } : State).pushed 0x4030001C else s) := by
    split
    · exact ⟨rfl, rfl, _, rfl⟩
    · exact refl s
  exact h.trans (progRecord _ _ _ _ _)

theorem foldl {α : Type} {g : State → α → State} (h : ∀ s a, ReportKept s (g s a)) (l : List α) (s : State) : ReportKept s (l.foldl g s) := by
  induction l generalizing s with
  | nil => exact refl s
  | cons a l ih => exact (h s a).trans (ih _)

end ReportKept

/-- Where no entry is in use, the filter of the forces only counts. -/
theorem State.filterForces_unused (h : ∀ e, e < 256 → s.rd (F.CYCMGR_FORCE_ACT3_EN e) = 0) : s.filterForces old next = s.countForces := by
  have hstep (ls : List Nat) (hl : ∀ e ∈ ls, e < 256) (g : State → Nat → State) (hg : ∀ e, e < 256 → g s e = s) : ls.foldl g s = s := by
    induction ls with
    | nil => rfl
    | cons e ls ih => rw [List.foldl_cons, hg e (hl e (by simp)), ih fun e he => hl e (by simp [he])]
  unfold State.filterForces
  rw [hstep forceEntries (fun e he => List.mem_range.1 he)]
  intro e he
  exact if_pos (.inl (by rw [State.flag_eq_false.2 (h e he)]; rfl))

/-- The keys of the control, of the banks, of the tasks and of the count of forces. -/
def BankKey (k : Nat) : Prop := k < 0x40301000 * 32

/-- The longest times of the tasks start anew. -/
def State.timesCleared (s : State) : State := (List.range 8).foldl (fun s j => s.clrF (F.CYCMGR_TASK_TIME_MAX_US j)) s

theorem State.timesCleared_only (s : State) : RegsOnly s s.timesCleared := RegsOnly.foldl (fun s _ => .wr s _ _) _ s

theorem State.timesCleared_stands (s : State) : Stands BankKey s s.timesCleared :=
  Stands.foldl _ (fun s j hj => Stands.wr (by
    have := List.mem_range.1 hj
    simp only [BankKey, Fld.key, F.CYCMGR_TASK_TIME_MAX_US]; omega) s _) s

theorem State.rd_timesCleared (s : State) {j : Nat} (hj : j < 8) : s.timesCleared.rd (F.CYCMGR_TASK_TIME_MAX_US j) = 0 := by
  have hfold (l : List Nat) (y : State) (h : j ∈ l ∨ y.rd (F.CYCMGR_TASK_TIME_MAX_US j) = 0) :
      (l.foldl (fun s j => s.clrF (F.CYCMGR_TASK_TIME_MAX_US j)) y).rd (F.CYCMGR_TASK_TIME_MAX_US j) = 0 := by
    induction l generalizing y with
    | nil => exact h.resolve_left List.not_mem_nil
    | cons k l ih =>
      refine ih _ ?_
      by_cases hk : k = j
      · exact .inr (by rw [hk]; exact State.rd_wr_self ..)
      · rw [State.rd_clrF_ne _ (by simp only [ne_eq, Fld.key, F.CYCMGR_TASK_TIME_MAX_US]; omega)]
        exact h.imp (fun h => (List.mem_cons.1 h).resolve_left (Ne.symm hk)) id
  exact hfold _ s (.inl (List.mem_range.2 hj))

theorem State.showBanks_stands (s : State) : Stands BankKey s s.showBanks := by
  have hhash (f : Nat → Fld) (hf : ∀ j, j < 8 → BankKey (f j).key) (y : State) (h : Nat) : Stands BankKey y (y.wrHash f h) :=
    Stands.foldl _ (fun y j hj => Stands.wr (hf j (List.mem_range.1 hj)) y _) y
  rw [s.showBanks_eq]
  have h1 (y : State) (h : Nat) := hhash F.CYCMGR_ACT_HASH_HASH (fun j hj => by simp only [BankKey, Fld.key, F.CYCMGR_ACT_HASH_HASH]; omega) y h
  have h2 (y : State) (h : Nat) := hhash F.CYCMGR_INACT_HASH_HASH (fun j hj => by simp only [BankKey, Fld.key, F.CYCMGR_INACT_HASH_HASH]; omega) y h
  have h3 (y : State) (tasks : List TaskDecl) : Stands BankKey y ((List.range 8).foldl (State.showTask tasks) y) :=
    Stands.mono (K := TaskCfgKey) (Stands.foldl _ (fun y k hk => y.showTask_stands _ (List.mem_range.1 hk)) y) fun k hk => by
      obtain ⟨-, h2⟩ := hk
      change k < 0x40301000 * 32
      omega
  exact ((h1 s _).trans (h2 _ _)).trans (h3 _ _)

/-- The banks have changed over, and nothing is shown yet. -/
def State.banksSwapped (s : State) (old next : Program) : State :=
  { s.wr F.CYCMGR_STAT_ACT_BANK (1 - s.rd F.CYCMGR_STAT_ACT_BANK) with
    cyc := { s.cyc with act := some next, inact := some old, boot := some next, oc := .idle, report := [] } }

theorem State.switchBanks_eq (s : State) (old next : Program) : ∃ b c d,
    (s.switchBanks old next = if d.cyc.token.isSome then { d with cyc := { d.cyc with tokenOff := true } } else d) ∧
    d = c.filterForces old next ∧ c = (ocReport old next).foldl (fun s r => s.reportOc next r)
      (b.progRecord 0x02 4 0 (digestWords old.hash ++ digestWords next.hash ++ [b.cyc.ocCyc])) ∧
    b = (s.banksSwapped old next).showBanks.timesCleared := by
  unfold State.switchBanks State.timesCleared State.banksSwapped
  exact ⟨_, _, _, rfl, rfl, rfl, rfl⟩

/-- The switch of the banks, once for the three lanes. -/
theorem State.switchBanks_spec (ht : s.cyc.token = none) (hen : ∀ e, e < 256 → s.rd (F.CYCMGR_FORCE_ACT3_EN e) = 0) :
    let y := s.switchBanks old next
    y.lane = s.lane ∧ y.cyc.act = some next ∧ y.cyc.inact = some old ∧ y.cyc.boot = some next ∧ y.cyc.oc = .idle ∧
    ∀ j, j < 8 → y.rd (F.CYCMGR_TASK_TIME_MAX_US j) = 0 := by
  obtain ⟨b, c, d, hy, hd, hc, hb⟩ := s.switchBanks_eq old next
  obtain ⟨a, ha⟩ : ∃ a, a = s.banksSwapped old next := ⟨_, rfl⟩
  rw [← ha] at hb
  have haf : a.lane = s.lane ∧ a.cyc = { s.cyc with act := some next, inact := some old, boot := some next, oc := .idle, report := [] } ∧
      Stands BankKey s a := by
    rw [ha, State.banksSwapped]
    exact ⟨rfl, rfl, (Stands.wr (f := F.CYCMGR_STAT_ACT_BANK) (by simp only [BankKey]; decide) s _).trans (Stands.of_regs rfl)⟩
  obtain ⟨a1, a2, a3⟩ := haf
  obtain ⟨b1, b2, -, -⟩ := (a.showBanks_only.trans a.showBanks.timesCleared_only).parts
  have b3 : Stands BankKey s b := hb ▸ a3.trans (a.showBanks_stands.trans a.showBanks.timesCleared_stands)
  have b4 (j : Nat) (hj : j < 8) : b.rd (F.CYCMGR_TASK_TIME_MAX_US j) = 0 := hb ▸ a.showBanks.rd_timesCleared hj
  rw [← hb] at b1 b2
  have hkept : ReportKept b c := hc ▸ (ReportKept.progRecord ..).trans (ReportKept.foldl (fun s r => .reportOc s next r) _ _)
  obtain ⟨c1, c2, r, c3⟩ := hkept
  have hcen (e : Nat) (he : e < 256) : c.rd (F.CYCMGR_FORCE_ACT3_EN e) = 0 := by
    rw [State.rd_congr c2, b3 _ (by simp only [BankKey, Fld.key, F.CYCMGR_FORCE_ACT3_EN]; omega)]
    exact hen e he
  rw [State.filterForces_unused hcen] at hd
  have hdf : d.lane = c.lane ∧ d.cyc = c.cyc ∧ ∀ j, d.rd (F.CYCMGR_TASK_TIME_MAX_US j) = c.rd (F.CYCMGR_TASK_TIME_MAX_US j) := by
    rw [hd, State.countForces]
    refine ⟨rfl, rfl, fun j => ?_⟩
    rw [State.rd_wr_ne _ _ (by simp only [ne_eq, Fld.key, F.CYCMGR_FORCE_STAT_VITAL, F.CYCMGR_TASK_TIME_MAX_US]; omega),
      State.rd_wr_ne _ _ (by simp only [ne_eq, Fld.key, F.CYCMGR_FORCE_STAT_APPLIED, F.CYCMGR_TASK_TIME_MAX_US]; omega)]
  obtain ⟨d1, d2, d3⟩ := hdf
  have hcyc : d.cyc = { s.cyc with act := some next, inact := some old, boot := some next, oc := .idle, report := r } := by
    rw [d2, c3, b1, a2]
  rw [if_neg (by rw [hcyc, show _ = (none : Option Token) from ht]; exact Bool.false_ne_true)] at hy
  intro y
  rw [show y = d from hy, hcyc]
  exact ⟨d1.trans (c1.trans (b2.trans a1)), rfl, rfl, rfl, rfl, fun j hj => (d3 j).trans ((State.rd_congr c2 _).trans (b4 j hj))⟩

/-! ### What a lane carries over -/

theorem find?_foldl_insert_of_not_mem {α β : Type} (key : α → Nat) (val : α → β) (l : List α) (m : Tbl β) {k : Nat} (hk : ∀ e ∈ l, key e ≠ k) :
    (l.foldl (fun m e => m.insert (key e) (val e)) m).find? k = m.find? k := by
  induction l generalizing m with
  | nil => rfl
  | cons e l ih =>
    rw [List.foldl_cons, ih _ fun e he => hk e (List.mem_cons_of_mem _ he), Tbl.find?_insert_ne _ _ (hk e List.mem_cons_self)]

/-- A variable carried in both programs with the same type keeps its value, every other one starts at its initial value. -/
theorem Lane.carryOver_var {x : Lane} (hf : x.fbs = []) (hdecl : ∀ d, d ∈ next.vars → next.decl d.id = some d) (vital : Bool) {d : VarDecl}
    (hd : d ∈ next.vars) : (x.carryOver old next vital).var next d.id = if carries old d = true then x.var old d.id else d.init := by
  have hvars : (x.carryOver old next vital).vars =
      (next.vars.filter fun d => carries old d).foldl (fun (m : Tbl Nat) d => m.insert d.id (x.var old d.id)) [] := by
    refine List.foldl_ext _ _ _ fun m e he => ?_
    have hc : carries old e = true := (List.mem_filter.1 he).2
    rcases ho : old.decl e.id with _ | o
    · rw [carries, ho, Bool.and_false] at hc
      exact absurd hc Bool.false_ne_true
    · have hnone : (x.fbs.find? e.id).isSome = false := by rw [hf]; rfl
      have hv : x.var old e.id = x.valueOf o := by rw [Lane.var, ho]; rfl
      simp only [hnone, hv]
      rfl
  have hfbs : (x.carryOver old next vital).fbs = [] := by
    change x.fbs.filter _ = []
    rw [hf]
    rfl
  have hvar : (x.carryOver old next vital).var next d.id = ((x.carryOver old next vital).vars.find? d.id).getD d.init := by
    rw [Lane.var, hdecl d hd, Option.map_some, Option.getD_some, Lane.valueOf, hfbs]
    rfl
  rw [hvar, hvars]
  split
  · next hc =>
    rw [find?_foldl_insert VarDecl.id (fun d => x.var old d.id) _ _ (List.mem_filter.2 ⟨hd, hc⟩) fun e he hid => ?_]
    · rfl
    · have h1 := hdecl e (List.mem_of_mem_filter he)
      rw [hid, hdecl d hd] at h1
      exact (Option.some.inj h1).symm
  · next hc =>
    rw [find?_foldl_insert_of_not_mem VarDecl.id (fun d => x.var old d.id) _ _ fun e he hid => ?_]
    · rfl
    · have h1 := hdecl e (List.mem_of_mem_filter he)
      rw [hid, hdecl d hd] at h1
      rw [Option.some.inj h1] at hc
      exact hc (List.mem_filter.1 he).2

/-! ### The execute of the switch cycle -/

/-- The first lane to reach the switch cycle changes the banks; the others that execute keep the old tables. -/
theorem State.ocSwitch_first (hn : n = s.cyc.ocCyc) (ho : (s.ln l).oldProg = none) (hoc : s.cyc.oc = .armed) (ha : s.cyc.act = some old)
    (hi : s.cyc.inact = some next) : s.ocSwitch l n =
      ((s.modLanes (laneIds.filter fun m => (s.ln m).executes) fun x => { x with oldProg := some old }).switchBanks old next).modLn l
        fun x => x.carryOver old next
          (s.modLanes (laneIds.filter fun m => (s.ln m).executes) fun x => { x with oldProg := some old }).mayForceVital := by
  unfold State.ocSwitch
  rw [if_neg (not_not.2 hn)]
  simp only [ho, hoc, ha, hi]

/-- A program with neither tasks nor bindings, under no force, leaves the state as its execute begins. -/
theorem State.idleProgram (s : State) (l : LaneId) (p : Program) (n : Nat) (g : Agreed) (work : List TaskRun) (hf : (s.ln l).forces = [])
    (ht : p.tasks = []) (hio : p.io = []) : ((s.bindInputs l p g).applyForces l p 0).runTasks l p n work = s := by
  have h1 : s.bindInputs l p g = s := by rw [State.bindInputs, hio]; rfl
  have h2 : s.applyForces l p 0 = s := by rw [State.applyForces, hf]; rfl
  have h3 (ls : List Nat) (g : State → Nat → State) (hg : ∀ y j, g y j = y) : ls.foldl g s = s := by
    induction ls with
    | nil => rfl
    | cons a ls ih => rw [List.foldl_cons, hg, ih]
  rw [h1, h2, State.runTasks]
  rw [h3 _ _ fun y j => by rw [ht]; rfl]

/-- The lane that reaches the switch cycle first, with what its registers and the others keep. -/
theorem State.beginExecute_switch {g : Agreed} {fs : List ForceUse} {rest : List (Nat × Agreed × List ForceUse)} {y : State} (work : List TaskRun)
    (hx : (y.ln l).executes = true) (hold : (y.ln l).oldProg = none) (hq : (y.ln l).queue = (y.cyc.ocCyc, g, fs) :: rest)
    (hfs : ∀ f, f ∈ fs → f.over old next false = none) (hoc : y.cyc.oc = .armed) (ha : y.cyc.act = some old) (hi : y.cyc.inact = some next)
    (htok : y.cyc.token = none) (ht : next.tasks = []) (hio : next.io = []) (hen : ∀ e, e < 256 → y.rd (F.CYCMGR_FORCE_ACT3_EN e) = 0) :
    let z := y.beginExecute l work
    z.cyc.act = some next ∧ z.cyc.inact = some old ∧ z.cyc.boot = some next ∧ z.cyc.oc = .idle ∧
    z.ln l = (Lane.carryOver { y.ln l with queue := rest, running := some y.cyc.ocCyc, forces := fs, oldProg := some old } old next false) ∧
    (∀ m, m ≠ l → (y.ln m).executes = true → (z.ln m).oldProg = some old) ∧
    ∀ j, j < 8 → z.rd (F.CYCMGR_TASK_TIME_MAX_US j) = 0 := by
  obtain ⟨a, hadef⟩ : ∃ a, a = y.modLn l fun x => { x with queue := rest, running := some y.cyc.ocCyc, forces := fs } := ⟨_, rfl⟩
  have hac : a.cyc = y.cyc ∧ a.regs = y.regs := by rw [hadef]; exact ⟨rfl, rfl⟩
  have hal : a.ln l = { y.ln l with queue := rest, running := some y.cyc.ocCyc, forces := fs } := by rw [hadef, State.ln_modLn_self]
  have hao (m : LaneId) (hm : m ≠ l) : a.ln m = y.ln m := by rw [hadef]; exact y.ln_modLn_ne _ (Ne.symm hm)
  obtain ⟨b, hb⟩ : ∃ b, b = a.modLanes (laneIds.filter fun m => (a.ln m).executes) fun x => { x with oldProg := some old } := ⟨_, rfl⟩
  have hbc : b.cyc = y.cyc := by rw [hb, State.modLanes_cyc, hac.1]
  have hbr : b.regs = y.regs := by rw [hb, State.modLanes_regs, hac.2]
  have hbl (m : LaneId) (hm : (a.ln m).executes = true) : b.ln m = { a.ln m with oldProg := some old } := by
    rw [hb, a.ln_modLanes (laneIds_nodup.filter _), if_pos (List.mem_filter.2 ⟨mem_laneIds m, hm⟩)]
  obtain ⟨c1, c2, c3, c4, c5, c6⟩ := State.switchBanks_spec (s := b) (old := old) (next := next) (by rw [hbc]; exact htok)
    fun e he => (State.rd_congr hbr _).trans (hen e he)
  obtain ⟨c, hc⟩ : ∃ c, c = b.switchBanks old next := ⟨_, rfl⟩
  rw [← hc] at c1 c2 c3 c4 c5 c6
  have hmay : b.mayForceVital = false := by rw [State.mayForceVital, hbc, htok]
  obtain ⟨d, hd⟩ : ∃ d, d = c.modLn l fun x => x.carryOver old next false := ⟨_, rfl⟩
  have hdef : a.ocSwitch l y.cyc.ocCyc = d := by
    rw [State.ocSwitch_first (by rw [hac.1]) (by rw [hal]; exact hold) (by rw [hac.1]; exact hoc) (by rw [hac.1]; exact ha) (by rw [hac.1]; exact hi),
      ← hb, hmay, ← hc, hd]
  have hcl (m : LaneId) : c.ln m = b.ln m := State.ln_congr (congrArg LaneSt.lanes c1) m
  have hdl : d.ln l = Lane.carryOver { y.ln l with queue := rest, running := some y.cyc.ocCyc, forces := fs, oldProg := some old } old next false := by
    rw [hd, State.ln_modLn_self, hcl, hbl l (by rw [hal]; exact hx), hal]
  have hdc : d.cyc = c.cyc := by rw [hd]; rfl
  have hdr : d.regs = c.regs := by rw [hd]; rfl
  have hprog : d.progOf l = some next := by
    have hn : (d.ln l).oldProg = none := by rw [hdl]; rfl
    rw [State.progOf, hn]
    exact (congrArg CycSt.act hdc).trans c2
  have hforces : (d.ln l).forces = [] := by
    rw [hdl]
    exact List.filterMap_eq_nil_iff.2 fun f hf => hfs f hf
  have hz : y.beginExecute l work = d := by
    unfold State.beginExecute
    simp only [hq]
    rw [← hadef, hdef]
    simp only [hprog]
    exact d.idleProgram l next y.cyc.ocCyc g work hforces ht hio
  intro z
  have hzd : z = d := hz
  rw [hzd, hdc]
  refine ⟨c2, c3, c4, c5, hdl, fun m hm hxm => ?_, fun j hj => (State.rd_congr hdr _).trans (c6 j hj)⟩
  rw [hd, c.ln_modLn_ne _ (Ne.symm hm), hcl, hbl m (by rw [hao m hm]; exact hxm)]

/-- Settles O22: the lane that reaches the switch cycle first changes the banks and carries its variables over. -/
theorem onlineChangeCarriesOver : Obligations.OnlineChangeCarriesOver := by
  intro s t l old next g fs rest work hr hx hag hb hd hrun hold hq hfs hoc ha hi htok ht hio hdecl hen hfb
  have hnk (e : Nat) (he : e < 256) : ¬ NetKey (F.CYCMGR_FORCE_ACT3_EN e).key := by
    rintro (h | h) <;> simp only [Fld.key, F.CYCMGR_FORCE_ACT3_EN] at h <;> omega
  refine ends_executePhase hr hx hag hb hd hrun fun y hyl hyc hyr => ?_
  have hln (m : LaneId) : y.ln m = s.ln m := State.ln_congr (congrArg LaneSt.lanes hyl) m
  have hmay : s.mayForceVital = false := by rw [State.mayForceVital, htok]
  obtain ⟨z1, z2, z3, z4, z5, z6, z7⟩ := State.beginExecute_switch (y := y) (l := l) (old := old) (next := next) work (by rw [hln]; exact hx)
    (by rw [hln]; exact hold) (by rw [hln, hyc]; exact hq) (fun f hf => by rw [← hmay]; exact hfs f hf) (by rw [hyc]; exact hoc)
    (by rw [hyc]; exact ha) (by rw [hyc]; exact hi) (by rw [hyc]; exact htok) ht hio fun e he => (hyr _ (hnk e he)).trans (hen e he)
  rw [hln l] at z5
  refine ⟨z1, z2, z3, z4, by rw [z5]; exact congrArg some (congrArg CycSt.ocCyc hyc), by rw [z5]; rfl, ?_, fun m hm hxm => ?_, fun d hdm => ?_, z7⟩
  · have hn : ((y.beginExecute l work).ln l).oldProg = none := by rw [z5]; rfl
    rw [State.progOf, hn]
    exact z1
  · rw [State.progOf, z6 m hm (by rw [hln]; exact hxm)]
  · rw [z5]
    exact Lane.carryOver_var (x := { s.ln l with queue := rest, running := some y.cyc.ocCyc, forces := fs, oldProg := some old }) hfb hdecl _ hdm

end Sys2Proof.Machine
end

section
/-! PROOFS. Remote stations: O27 -/

namespace Sys2Proof.Machine

/-- The state that a command leaves, where it completes. -/
def State.after (s : State) (c : Instr) : State :=
  match exec c s with
  | .next y => y
  | _ => s

/-- A command has one outcome, so what it ends in holds of the state that it leaves. -/
theorem Ends.after {c : Instr} {s : State} {P : State → Prop} (h : Ends c s P) : P (s.after c) := by
  obtain ⟨y, hy, hP⟩ := h
  rw [State.after, hy]
  exact hP

/-- A state in which the instance that station 1's interrupts go to has a number beyond its field: no write leaves such a value, but the
statement speaks of every state. The instance's pending bit then lies in the first word of the station's input image. -/
def farStation : State :=
  { State.reset with
    regs := [((F.STAIR_IRQ_ROUTE_INST 0).key, 32 * ((0x40601800 - 0x40000110) / 4)), ((F.UIO_STN_CTL_IN_LEN 0 0).key, 1)]
    uio := { State.reset.uio with stns := [(0, { Station.init with configured := true, awaiting := true })] } }

/-- A response of station 1 in cycle 0 with one input register, at 1. -/
def farResponse : StnResp := ⟨true, 0x88B6, [1, 2, 0, 0, 1, 0, 0, 0, 0, 0, 0, 0, 1, 0]⟩

/-- The pending bit is cleared where the input register stands. -/
theorem farStation_image : (farStation.after (.respRx 0 0 farResponse)).rd (F.UIO_STN_IN_REG_LO 0 0) = 0 := by decide +kernel

/-- Refutes O27: a response replaces the input image, and then the station's interrupt pends at an instance whose number the statement does
not bound; at `farStation` its bit lies in the image, which does not show the register that came. -/
theorem not_uioStations : ¬ Obligations.UioStations := by
  intro h
  have h0 := h farStation 0 0 0 ⟨true, 0, .hub⟩ farResponse (by decide) (by decide) (by decide)
  obtain ⟨-, htaken, -⟩ := h0
  obtain ⟨-, himage, -⟩ :=
    (htaken (by decide +kernel) (by decide) (by decide +kernel) (by decide +kernel) (by decide +kernel) (by decide +kernel)).after
  have hreg := himage 0 (by decide)
  exact absurd (farStation_image.symm.trans hreg) (by decide)

end Sys2Proof.Machine
end

section
/-! PROOFS. Pair frames, resync and transfers: O25 -/

namespace Sys2Proof.Machine

variable {s s' y : State} {t n cyc : Nat}

/-! ### Frames of the pair and the Hallway -/

/-- What a frame's way through the Hallway leaves to the pair. -/
def Carried (s s' : State) : Prop :=
  s'.pair = s.pair ∧ s'.lane = s.lane ∧ s'.cyc = s.cyc ∧ s'.fuse = s.fuse ∧ s'.mem = s.mem ∧ s'.log = s.log ∧ s'.now = s.now ∧
    ∀ f : Fld, f.key < 0x40600000 * 32 → s'.rd f = s.rd f

theorem HallKept.carried (h : HallKept s s') : Carried s s' := by
  obtain ⟨⟨_, _, _, _, _, _, rfl⟩, hr⟩ := h
  refine ⟨rfl, rfl, rfl, rfl, rfl, rfl, rfl, fun f hf => hr f ?_⟩
  rintro (⟨h, -⟩ | ⟨h, -⟩) <;> omega

/-- The module's digest and hash do not change on the way. -/
theorem Carried.ownDigest (h : Carried s s') : s'.ownDigest = s.ownDigest ∧ s'.ownHash = s.ownHash := by
  obtain ⟨-, -, hc, -, -, -, -, hr⟩ := h
  have hchan : (List.range 48).map (fun n => 4 * s'.rd (F.CH_PROFILE_CH_MODE n) + 2 * s'.rd (F.CH_PROFILE_SAFE_ON n) + s'.rd (F.CH_PROFILE_PAIRED n)) =
      (List.range 48).map (fun n => 4 * s.rd (F.CH_PROFILE_CH_MODE n) + 2 * s.rd (F.CH_PROFILE_SAFE_ON n) + s.rd (F.CH_PROFILE_PAIRED n)) := by
    refine List.map_congr_left fun n hn => ?_
    have hn48 := List.mem_range.1 hn
    rw [hr (F.CH_PROFILE_CH_MODE n) (by simp only [Fld.key, F.CH_PROFILE_CH_MODE]; omega),
      hr (F.CH_PROFILE_SAFE_ON n) (by simp only [Fld.key, F.CH_PROFILE_SAFE_ON]; omega),
      hr (F.CH_PROFILE_PAIRED n) (by simp only [Fld.key, F.CH_PROFILE_PAIRED]; omega)]
  constructor
  · unfold State.ownDigest
    rw [hchan, hr F.LANEIF_CFG_PERIOD (by decide), hr F.PAIR_CFG_PAIR_OFFSET (by decide)]
  · rw [State.ownHash, hc, State.ownHash]

/-- The passage of a frame of the pair, as the statement of O25 speaks of it. -/
def State.pairPasses (s : State) (len : Nat) : Prop :=
  s.flag F.PAIR_CFG_PAIR_EN = true ∧ (s.hallPass pairPort lanePort 7
    (pairEth (Config.moduleMac (s.rd F.SYSCTL_MID_MID)) (Config.moduleMac (s.rd F.PAIR_CFG_PARTNER_MID)) len)).1 = true

/-- A frame that passes with a right CRC takes effect on what its way has left. -/
theorem ends_pairFrame {P : State → Prop} {c : Instr} {len : Nat} {eff : State → State}
    (hc : exec c s = .next ((s.tick t).pairTakes true len eff)) (hp : (s.tick t).pairPasses len) (h : ∀ y, Carried (s.tick t) y → P (eff y)) :
    Ends c s P := by
  obtain ⟨hen, hpass⟩ := hp
  have hk := ((s.tick t).hallPass_kept pairPort lanePort 7
    (pairEth (Config.moduleMac ((s.tick t).rd F.SYSCTL_MID_MID)) (Config.moduleMac ((s.tick t).rd F.PAIR_CFG_PARTNER_MID)) len)).carried
  refine ends_next_eq hc ((if_neg (by rw [hen]; decide)).trans (if_pos ?_)) (h _ hk)
  rw [hpass]
  rfl

/-- A frame that does not pass, or whose CRC is wrong, has no effect on the pair. -/
theorem ends_pairFrame_lost {P : State → Prop} {c : Instr} {len : Nat} {eff : State → State} {ok : Bool}
    (hc : exec c s = .next ((s.tick t).pairTakes ok len eff)) (hp : ¬ ((s.tick t).pairPasses len ∧ ok = true)) (h : ∀ y, Carried (s.tick t) y → P y) :
    Ends c s P := by
  refine ⟨_, hc, ?_⟩
  have hk := ((s.tick t).hallPass_kept pairPort lanePort 7
    (pairEth (Config.moduleMac ((s.tick t).rd F.SYSCTL_MID_MID)) (Config.moduleMac ((s.tick t).rd F.PAIR_CFG_PARTNER_MID)) len)).carried
  by_cases hen : (s.tick t).flag F.PAIR_CFG_PAIR_EN = true
  · have hx : (s.tick t).pairTakes ok len eff = ((s.tick t).hallPass pairPort lanePort 7
        (pairEth (Config.moduleMac ((s.tick t).rd F.SYSCTL_MID_MID)) (Config.moduleMac ((s.tick t).rd F.PAIR_CFG_PARTNER_MID)) len)).2 := by
      refine (if_neg (by rw [hen]; decide)).trans (if_neg ?_)
      rw [Bool.and_eq_true]
      exact fun e => hp ⟨⟨hen, e.1⟩, e.2⟩
    rw [hx]
    exact h _ hk
  · have hx : (s.tick t).pairTakes ok len eff = s.tick t := if_pos (by rw [Bool.not_eq_true] at hen; rw [hen]; rfl)
    rw [hx]
    exact h _ (HallKept.refl _).carried

/-- A frame that the module sends is listed, and goes through the Hallway. -/
theorem State.sendPair_spec (s : State) (f : PairFrame) : (s.sendPair f).pair = { s.pair with sends := s.pair.sends ++ [f] } ∧
    (s.sendPair f).lane = s.lane ∧ (s.sendPair f).cyc = s.cyc ∧ (s.sendPair f).fuse = s.fuse ∧ (s.sendPair f).mem = s.mem ∧
    (s.sendPair f).log = s.log := by
  obtain ⟨h1, h2, h3, h4, h5, h6, -⟩ := (State.hallPass_kept { s with pair := { s.pair with sends := s.pair.sends ++ [f] } } lanePort pairPort 7
    (pairEth (Config.moduleMac (s.rd F.PAIR_CFG_PARTNER_MID)) (Config.moduleMac (s.rd F.SYSCTL_MID_MID)) f.len)).carried
  exact ⟨h1, h2, h3, h4, h5, h6⟩

/-! ### Resync and detachment -/

theorem State.beginResync_spec (s : State) : s.beginResync.pair.state = .syncing ∧ s.beginResync.pair.claim = false ∧
    s.beginResync.cycleNo = s.pair.partnerCyc % 2 ^ 32 :=
  ⟨rfl, rfl, State.rd_wr_self ..⟩

/-- The module is DETACHED with its cause, and says so. -/
theorem State.detach_spec (s : State) {cause : DetachCause} : (s.detach cause).pair.state = .detached ∧
    (s.detach cause).rd F.PAIR_STAT_DETACH_CAUSE = cause.code ∧ WroteOne s (s.detach cause) 5 3 5 (s.rd F.PAIR_CFG_PARTNER_MID) 0 := by
  obtain ⟨x, hx⟩ : ∃ x : State, x = { s with pair := { s.pair with
      state := .detached, claim := false, detachedAt := s.now, missRun := 0, disRun := 0, syncRun := 0, inStepAt := none,
      xferUntil := none, xferAsked := none, copyFinal := false } } := ⟨_, rfl⟩
  obtain ⟨z, hz⟩ : ∃ z, z = (x.wr F.PAIR_STAT_DETACH_CAUSE cause.code).clrF F.PAIR_STAT_IN_STEP := ⟨_, rfl⟩
  have hd : s.detach cause = z.pairRecord 0x03 5 := by rw [hz, hx]; rfl
  have hxf : x.pair.state = .detached ∧ x.log = s.log ∧ x.regs = s.regs := by rw [hx]; exact ⟨rfl, rfl, rfl⟩
  obtain ⟨x1, x2, x3⟩ := hxf
  have hzm : z.rd F.PAIR_CFG_PARTNER_MID = s.rd F.PAIR_CFG_PARTNER_MID := by
    rw [hz, State.rd_clrF_ne _ (by decide), State.rd_wr_ne _ _ (by decide)]
    exact State.rd_congr x3 _
  have hzc : z.rd F.PAIR_STAT_DETACH_CAUSE = cause.code := by
    rw [hz, State.rd_clrF_ne _ (by decide), State.rd_wr_self]
    cases cause <;> rfl
  have hzf : z.pair = x.pair ∧ z.log = x.log := by rw [hz]; exact ⟨rfl, rfl⟩
  rw [hd]
  exact ⟨(congrArg PairSt.state hzf.1).trans x1, hzc, wroteOne_pairRecord (s₁ := z) (hzf.2.trans x2) hzm rfl⟩

/-- What a PAIR_STAT of a primary leaves. -/
def State.tookStat (s : State) (cyc hash digest : Nat) (inStep : Bool) : State :=
  let s := s.partnerIs (PairState.ofCode 2)
  { s with pair := { s.pair with
      partnerHash := hash, partnerDigest := digest, partnerInStep := inStep,
      partnerCyc := cyc, heard := true, heardEver := true } }

theorem State.tookStat_eq (s : State) (cyc hash digest : Nat) (inStep : Bool) : s.tookStat cyc hash digest inStep = { s with pair := { s.pair with
    partner := some .primary, partnerHash := hash, partnerDigest := digest, partnerInStep := inStep,
    partnerCyc := cyc, heard := true, heardEver := true } } := by
  unfold State.tookStat
  rw [show s.partnerIs (PairState.ofCode 2) = { s with pair := { s.pair with partner := some .primary } } from if_neg fun e => nomatch e.1]

/-- What a copy leaves before it is final. -/
def State.tookCopy (s : State) (cyc : Nat) (c : PairCopy) : State :=
  { s with pair := { s.pair with
      partnerCyc := cyc, region := c.blocks.foldl (fun (m : Tbl (List Nat)) (b : Nat × List Nat) => m.insert b.1 b.2) s.pair.region } }

/-- What the lanes make of a copy once it is final. -/
def State.finalCopy (s : State) (cyc : Nat) (c : PairCopy) : State :=
  match c.final, s.cyc.act with
  | true, some p =>
    let bytes := s.regionSoFar p.carriedSize
    if s.pair.outSign = some (cyc, crc32 bytes) then
      let s := s.modLanes laneIds fun x => x.takeRegion p bytes
      { s with pair := { s.pair with copyFinal := true, agreeRun := 0, region := [] } }
    else s.detach .abort
  | _, _ => s

theorem State.finalCopy_eq {prog : Program} (ha : s.cyc.act = some prog) (cyc : Nat) (c : PairCopy) : s.finalCopy cyc c =
    if c.final = true then
      if s.pair.outSign = some (cyc, crc32 (s.regionSoFar prog.carriedSize)) then
        { s.modLanes laneIds fun x => x.takeRegion prog (s.regionSoFar prog.carriedSize) with
          pair := { s.pair with copyFinal := true, agreeRun := 0, region := [] } }
      else s.detach .abort
    else s := by
  unfold State.finalCopy
  rw [ha]
  cases c.final
  · rfl
  · rw [if_pos rfl, ← s.modLanes_pair laneIds fun x => x.takeRegion prog (s.regionSoFar prog.carriedSize)]

/-- A record written after steps that leave the recorder alone. -/
theorem wroteOne_of {s₁ : State} {cls kind sev m m' st : Nat} (hl : s₁.log = s.log) (hm : m' = m) (h : WroteOne s₁ s' cls kind sev m' st) :
    WroteOne s s' cls kind sev m st := by
  rw [WroteOne, hl, hm] at h
  exact h

/-! ### Transfers -/

theorem State.mayTransfer_congr (hp : s'.pair = { s.pair with partnerCyc := n } ∨ s'.pair = s.pair) (hc : s'.cyc = s.cyc) :
    s'.mayTransfer = s.mayTransfer := by
  unfold State.mayTransfer
  rw [hc]
  rcases hp with hp | hp <;> rw [hp]

/-- A transfer that may be is answered with the switch cycle. -/
theorem State.answerTransfer_accepted (h : s.mayTransfer = true) (asked : Bool) : s.answerTransfer asked =
    ({ s with pair := { s.pair with xfer := some ((s.cycleNo + 8) % 2 ^ 32) } }).sendPair (.xfer s.cycleNo (some (some ((s.cycleNo + 8) % 2 ^ 32)))) :=
  if_pos h

theorem State.answerTransfer_refused (h : s.mayTransfer = false) (asked : Bool) : s.answerTransfer asked =
    if asked then (s.pairRecord 0x04 4).sendPair (.xfer (s.pairRecord 0x04 4).cycleNo (some none)) else s.pairRecord 0x04 4 :=
  if_neg (by rw [h]; exact Bool.false_ne_true)

theorem primary_of_mayTransfer (h : s.mayTransfer = true) : s.pair.state = .primary := by
  unfold State.mayTransfer at h
  simp only [Bool.and_eq_true, beq_iff_eq] at h
  exact h.1.1.1.1.1

/-- What a request, an acknowledgement or a refusal leaves. -/
def State.tookXfer (s : State) : Option (Option Nat) → State
  | none => if s.pair.state = .primary then s.answerTransfer true else s
  | some (some n) =>
    if s.pair.state = .standby then
      { s with pair := { s.pair with xferUntil := some ((n + 2) % 2 ^ 32), xferAsked := none } }
    else s
  | some none =>
    if s.pair.xferAsked.isNone then s
    else { s with pair := { s.pair with xferAsked := none, inStepAt := s.pair.inStepAt.map fun _ => s.now } }

/-! ### The commands -/

/-- Settles O25: what a frame's way through the Hallway leaves to the pair, and then the step of the pair. -/
theorem pairFramesAndTransfers : Obligations.PairFramesAndTransfers := by
  intro s t cyc vote hash digest bt n a img out inStep c prog p mac passes same copied bytes imgLen copyLen sent pm
  have hsame {y : State} (h : Carried (s.tick t) y) : same y := by
    obtain ⟨-, h2, h3, h4, h5, -⟩ := h
    exact ⟨h2, h3, h4, h5⟩
  have hpair {y : State} (h : Carried (s.tick t) y) : y.pair = p := h.1
  have hlow {y : State} (h : Carried (s.tick t) y) {f : Fld} (hf : f.key < 0x40600000 * 32) : y.rd f = s.rd f := by
    obtain ⟨-, -, -, -, -, -, -, h8⟩ := h
    exact h8 f hf
  have hlog {y : State} (h : Carried (s.tick t) y) : y.log = s.log := by
    obtain ⟨-, -, -, -, -, h6, -⟩ := h
    exact h6
  have hstat (hp : passes 100) (hv : vote < 4) {P : State → Prop} (h : ∀ y, Carried (s.tick t) y → P (
      (fun s : State =>
        let s := s.tookStat cyc hash digest inStep
        if s.pair.state = .seek then
          if digest ≠ s.ownDigest then (if s.flag F.PAIR_CFG_PREFERRED then s else s.detach .cfg)
          else if s.pair.partner = some .primary ∧ hash = s.ownHash then s.beginResync
          else s
        else s) y)) : Ends (.pairStatRx t true cyc 2 vote hash digest inStep) s P := by
    refine ends_pairFrame (t := t) (len := 100) ?_ hp h
    rw [arm_pairStatRx, execPairStatRx, decide_eq_true hv]
    rfl
  have hcopy (hp : passes copyLen) (hst : p.state = .syncing) {P : State → Prop} (ha : s.cyc.act = some prog)
      (h : ∀ y, Carried (s.tick t) y → ∀ z, z = y.tookCopy cyc c → z.regionSoFar prog.carriedSize = bytes → P (
        if c.final = true then
          if z.pair.outSign = some (cyc, crc32 bytes) then
            { z.modLanes laneIds fun x => x.takeRegion prog bytes with pair := { z.pair with copyFinal := true, agreeRun := 0, region := [] } }
          else z.detach .abort
        else z)) : Ends (.pairCopyRx t true cyc c) s P := by
    refine ends_pairFrame (t := t) (arm_pairCopyRx t true cyc c s) hp fun y hy => ?_
    obtain ⟨z, hz⟩ : ∃ z, z = y.tookCopy cyc c := ⟨_, rfl⟩
    have hzb : z.regionSoFar prog.carriedSize = bytes := by
      unfold State.regionSoFar
      have hzr : z.pair.region = copied := by rw [hz, State.tookCopy, hpair hy]
      rw [hzr]
      rfl
    have hza : z.cyc.act = some prog := by
      obtain ⟨-, -, h3, -⟩ := hy
      rw [hz, State.tookCopy, ← ha]
      exact congrArg CycSt.act h3
    have hq := h y hy z hz hzb
    have heff : (fun s : State => if s.pair.state ≠ .syncing then s else
        (s.tookCopy cyc c).finalCopy cyc c) y = z.finalCopy cyc c := (if_neg (by rw [hpair hy]; exact not_not.2 hst)).trans (by rw [hz])
    have hP : P ((fun s : State => if s.pair.state ≠ .syncing then s else (s.tookCopy cyc c).finalCopy cyc c) y) := by
      rw [heff, State.finalCopy_eq hza, hzb]
      exact hq
    exact hP
  refine ⟨fun hp hst => ?_, fun hp => ?_, ?_, fun hp hst ho => ?_, fun hp hv hst => ?_, fun hp hv hst hh hd => ?_, fun hp hv hst hd hpr => ?_,
    fun hp hst ha => ⟨fun hf => ?_, fun hf hsig => ?_, fun hf hsig => ?_⟩, fun hm => ⟨fun hd => ?_, fun hp => ?_⟩, fun hp => ?_, fun hp => ?_,
    fun hst hpr hh hc hd => ?_, fun hin hst hpr hr ha hd => ?_⟩
  · refine ends_pairFrame (t := t) (arm_pairImgRx t true cyc img bt s) hp fun y hy => ?_
    have hp' := hpair hy
    dsimp only
    rw [if_pos (by rw [hp']; exact hst)]
    exact ⟨by rw [hp'], (hsame hy :)⟩
  · exact ends_pairFrame_lost (t := t) (arm_pairImgRx t true cyc img bt s) (fun e => hp e.1) fun y hy => ⟨hpair hy, hsame hy⟩
  · exact ends_pairFrame_lost (t := t) (arm_pairImgRx t false cyc img bt s) (fun e => Bool.false_ne_true e.2) fun y hy => ⟨hpair hy, hsame hy⟩
  · refine ends_pairFrame (t := t) (arm_pairOutRx t true cyc out s) hp fun y hy => ?_
    have hp' := hpair hy
    dsimp only
    rw [if_pos (by rw [hp']; exact hst)]
    obtain ⟨z, hz⟩ : ∃ z : State, z = { y with pair := { y.pair with out := some (cyc, out), outSign := some (cyc, out.sign) } } := ⟨_, rfl⟩
    have hzo : z.ownOutput = none := by
      rw [← ho, hz]
      unfold State.ownOutput State.actives State.ln
      obtain ⟨-, h2, -⟩ := hy
      simp only [h2]
      rfl
    have hzc : z.pairCompare = z := by
      unfold State.pairCompare
      rw [hzo]
      split
      · next h => exact absurd h nofun
      · rfl
    rw [← hz, hzc, hz]
    exact ⟨by rw [hp'], (hsame hy :)⟩
  · refine hstat hp hv fun y hy => ?_
    have hp' := hpair hy
    dsimp only
    rw [if_neg (by rw [State.tookStat_eq, hp']; exact hst), State.tookStat_eq]
    exact ⟨by rw [hp'], (hsame hy :)⟩
  · refine hstat hp hv fun y hy => ?_
    have hp' := hpair hy
    dsimp only
    obtain ⟨z, hz⟩ : ∃ z, z = y.tookStat cyc hash digest inStep := ⟨_, rfl⟩
    have hzf : z.pair.state = y.pair.state ∧ z.pair.partner = some .primary ∧ z.pair.partnerCyc = cyc ∧ z.ownDigest = y.ownDigest ∧
      z.ownHash = y.ownHash := by rw [hz, State.tookStat_eq]; exact ⟨rfl, rfl, rfl, rfl, rfl⟩
    obtain ⟨z1, z2, z3, z4, z5⟩ := hzf
    obtain ⟨o1, o2⟩ := hy.ownDigest
    rw [← hz, if_pos (by rw [z1, hp']; exact hst), if_neg (not_not.2 (by rw [z4, o1]; exact hd)), if_pos ⟨z2, by rw [z5, o2]; exact hh⟩]
    obtain ⟨b1, b2, b3⟩ := z.beginResync_spec
    exact ⟨b1, b2, by rw [b3, z3]⟩
  · refine hstat hp hv fun y hy => ?_
    have hp' := hpair hy
    dsimp only
    obtain ⟨z, hz⟩ : ∃ z, z = y.tookStat cyc hash digest inStep := ⟨_, rfl⟩
    have hzf : z.pair.state = y.pair.state ∧ z.ownDigest = y.ownDigest ∧ z.regs = y.regs ∧ z.log = y.log := by rw [hz, State.tookStat_eq]; exact ⟨rfl, rfl, rfl, rfl⟩
    obtain ⟨z1, z2, z3, z4⟩ := hzf
    have hzpr : z.flag F.PAIR_CFG_PREFERRED = false := (State.flag_congr z3 _).trans
      ((congrArg (· != 0) (hlow hy (f := F.PAIR_CFG_PREFERRED) (by decide))).trans hpr)
    rw [← hz, if_pos (by rw [z1, hp']; exact hst), if_pos (by rw [z2, hy.ownDigest.1]; exact hd), if_neg (by rw [hzpr]; exact Bool.false_ne_true)]
    obtain ⟨d1, d2, d3⟩ := z.detach_spec (cause := .cfg)
    exact ⟨d1, d2, wroteOne_of (z4.trans (hlog hy)) ((State.rd_congr z3 _).trans (hlow hy (by decide))) d3⟩
  · refine hcopy hp hst ha fun y hy z hz hzs => ?_
    rw [if_neg (by rw [hf]; exact Bool.false_ne_true), hz, State.tookCopy]
    exact ⟨by rw [hpair hy], (hsame hy :)⟩
  · refine hcopy hp hst ha fun y hy z hz hzs => ?_
    have hzp : z.pair = { p with partnerCyc := cyc, region := copied } := by rw [hz, State.tookCopy, hpair hy]
    have hzl : z.lane = s.lane := by
      obtain ⟨-, h2, -⟩ := hy
      rw [hz, State.tookCopy]
      exact h2
    rw [if_pos hf, if_pos (by rw [hzp]; exact hsig)]
    refine ⟨by rw [hzp], fun l => ?_⟩
    change (z.modLanes laneIds fun x => x.takeRegion prog bytes).ln l = _
    rw [z.ln_modLanes laneIds_nodup, if_pos (mem_laneIds l), State.ln_congr (congrArg LaneSt.lanes hzl)]
  · refine hcopy hp hst ha fun y hy z hz hzs => ?_
    have hzp : z.pair = { p with partnerCyc := cyc, region := copied } := by rw [hz, State.tookCopy, hpair hy]
    rw [if_pos hf, if_neg (by rw [hzp]; exact hsig)]
    obtain ⟨d1, d2, -⟩ := z.detach_spec (cause := .abort)
    exact ⟨d1, d2⟩
  · obtain ⟨b1, -, b3⟩ := (s.tick t).beginResync_spec
    exact ends_next_eq (arm_resyncTimer t s) (if_pos ⟨hm, decide_eq_true hd⟩) ⟨b1, b3⟩
  · obtain ⟨b1, -, b3⟩ := (s.tick t).okay.beginResync_spec
    exact ends_guarded_eq (arm_pairResync t a s) hp rfl (if_pos hm) ⟨b1, b3⟩
  · intro m
    refine ⟨fun hm => ?_, fun hst hm => ?_, fun hst => ?_⟩
    · have hst : ¬ (s.tick t).okay.pair.state = .standby := by
        rw [show (s.tick t).okay.pair.state = .primary from primary_of_mayTransfer (s := s) hm]; decide
      refine ends_guarded_eq (arm_pairTransfer t a s) hp rfl ((if_neg hst).trans (State.answerTransfer_accepted (s := (s.tick t).okay) hm false)) ?_
      obtain ⟨h1, h2, h3, h4, h5, -⟩ := State.sendPair_spec { (s.tick t).okay with pair := { s.pair with xfer := some m } }
        (.xfer (s.tick t).okay.cycleNo (some (some m)))
      exact ⟨h1, h2, h3, h4, h5⟩
    · refine ends_guarded_eq (arm_pairTransfer t a s) hp rfl ((if_neg hst).trans (State.answerTransfer_refused (s := (s.tick t).okay) hm false)) ?_
      exact ⟨rfl, wroteOne_pairRecord (s₁ := (s.tick t).okay) rfl rfl rfl⟩
    · refine ends_guarded_eq (arm_pairTransfer t a s) hp rfl (if_pos hst) ?_
      obtain ⟨h1, h2, h3, h4, h5, -⟩ := State.sendPair_spec { (s.tick t).okay with pair := { s.pair with xferAsked := some t } }
        (.xfer (s.tick t).okay.cycleNo none)
      exact ⟨h1, h2, h3, h4, h5⟩
  · intro m
    have hseen {y : State} (hy : Carried (s.tick t) y) : y.cycleNo = s.cycleNo ∧ y.mayTransfer = s.mayTransfer := by
      have hc := hlow hy (f := F.LANEIF_CYCLE_CNT_CYCLE) (by decide)
      obtain ⟨h1, -, h3, -⟩ := hy
      exact ⟨hc, State.mayTransfer_congr (n := 0) (.inr h1) h3⟩
    have hrx (ack : Option (Option Nat)) {P : State → Prop} (h : ∀ y, Carried (s.tick t) y → ∀ z : State,
        z = { y with pair := { p with partnerCyc := cyc } } → P (z.tookXfer ack)) : Ends (.pairXferRx t true cyc ack) s P := by
      refine ends_pairFrame (t := t) (arm_pairXferRx t true cyc ack s) hp fun y hy => ?_
      have hq := h y hy _ rfl
      rw [← hpair hy] at hq
      exact hq
    have hz {y z : State} (hy : Carried (s.tick t) y) (hz : z = { y with pair := { p with partnerCyc := cyc } }) :
        z.pair = { p with partnerCyc := cyc } ∧ z.cycleNo = s.cycleNo ∧ z.mayTransfer = s.mayTransfer ∧ z.log = s.log ∧
        z.rd F.PAIR_CFG_PARTNER_MID = pm ∧ z.now = t := by
      obtain ⟨h1, h2⟩ := hseen hy
      have hy3 : y.cyc = s.cyc := by
        obtain ⟨-, -, h3, -⟩ := hy
        exact h3
      have hy7 : y.now = t := by
        obtain ⟨-, -, -, -, -, -, h7, -⟩ := hy
        exact h7
      rw [hz]
      exact ⟨rfl, h1, State.mayTransfer_congr (n := cyc) (.inl rfl) hy3, (hlog hy :), hlow hy (f := F.PAIR_CFG_PARTNER_MID) (by decide), hy7⟩
    refine ⟨fun hm => ?_, fun hst hm => ?_, fun hst => ?_, fun hx => ?_⟩
    · refine hrx none fun y hy z hzd => ?_
      obtain ⟨z1, z2, z3, -⟩ := hz hy hzd
      have hst : z.pair.state = .primary := primary_of_mayTransfer (z3.trans hm)
      rw [State.tookXfer, if_pos hst, State.answerTransfer_accepted (z3.trans hm)]
      obtain ⟨h1, -⟩ := State.sendPair_spec { z with pair := { z.pair with xfer := some ((z.cycleNo + 8) % 2 ^ 32) } }
        (.xfer z.cycleNo (some (some ((z.cycleNo + 8) % 2 ^ 32))))
      rw [h1, z1, z2]
    · refine hrx none fun y hy z hzd => ?_
      obtain ⟨z1, z2, z3, z4, z5, -⟩ := hz hy hzd
      rw [State.tookXfer, if_pos (by rw [z1]; exact hst), State.answerTransfer_refused (z3.trans hm), if_pos rfl]
      obtain ⟨h1, -, -, -, -, h6⟩ := (z.pairRecord 0x04 4).sendPair_spec (.xfer (z.pairRecord 0x04 4).cycleNo (some none))
      refine ⟨?_, wroteOne_pairRecord (s₁ := z) z4 z5 h6⟩
      rw [h1, show (z.pairRecord 0x04 4).pair = z.pair from rfl, z1, show (z.pairRecord 0x04 4).cycleNo = z.cycleNo from rfl, z2]
    · refine hrx (some (some n)) fun y hy z hzd => ?_
      obtain ⟨z1, -⟩ := hz hy hzd
      rw [State.tookXfer, if_pos (by rw [z1]; exact hst), z1]
    · refine hrx (some none) fun y hy z hzd => ?_
      obtain ⟨z1, -, -, -, -, z6⟩ := hz hy hzd
      have hn : ¬ z.pair.xferAsked.isNone = true := by
        rw [z1]
        change ¬ p.xferAsked.isNone = true
        rw [Option.isNone_iff_eq_none]
        intro e
        rw [e] at hx
        exact Bool.false_ne_true hx
      rw [State.tookXfer, if_neg hn, z1, z6]
  · refine ends_next_eq (arm_partnerWaitExpiry t s) (if_pos ⟨hst, ?_, ?_, ?_, ?_⟩) ⟨rfl, wroteOne_pairRecord (s₁ := { s.tick t with pair := { s.pair with claim := true } }) rfl rfl rfl⟩
    · exact congrArg (!·) hpr
    · exact congrArg (!·) hh
    · exact congrArg (!·) hc
    · refine decide_eq_true ?_
      change p.seekAt + ms (100 * s.rd F.PAIR_CFG2_PARTNER_WAIT) ≤ t
      have hms (w : Nat) : ms (100 * w) = w * 100000000 := by unfold ms; omega
      rw [hms]
      exact hd
  · refine ends_next_eq (x := (s.tick t).askTransfer) (arm_revertHoldExpiry t s) ?_ ?_
    · have hin' : (s.tick t).pair.inStepAt = some n := hin
      simp only [hin']
      refine if_pos ⟨hst, hpr, hr, ?_, decide_eq_true (p := n + secs (s.rd F.PAIR_CFG2_REVERT_HOLD) ≤ t) ?_⟩
      swap
      · unfold secs
        exact hd
      rw [show (s.tick t).pair.xferAsked = none from ha]
      rfl
    · obtain ⟨h1, h2, h3, h4, h5, -⟩ := State.sendPair_spec { s.tick t with pair := { s.pair with xferAsked := some t } }
        (.xfer (s.tick t).cycleNo none)
      exact ⟨h1, h2, h3, h4, h5⟩

end Sys2Proof.Machine
end

section
/-! PROOFS. The module's need, keep-alive segments and rings: O50 -/

namespace Sys2Proof.Machine

/-- A state in which segment 0, a ring of nodes 1 and 5, has in KA_RING a number beyond its field: no write leaves such a value, but the
statement speaks of every state. The descriptor of that ring then lies in the node table: its DIR is the quarantine of entry 0, which is
node 5's. -/
def farRing : State :=
  { State.reset with
    pwr := { State.reset.pwr with state := .run, hubUp := true }
    net := { State.reset.net with needFrom := some 0 }
    regs := [(F.SYSCTL_MID_MID.key, 1), ((F.NETMGT_NEED_SUM_NEED 0).key, 1), ((F.NETMGT_SEG0_KA_RING 0).key, (0x41082000 - 0x40C40000) / 32),
      ((F.NETMGT_SEG0_MEMBERS 0).key, 2), ((F.NETMGT_SEG0_MODE 0).key, 1), ((F.NETMGT_SEG0_EN 0).key, 1), ((F.NETMGT_RING_NODE 0 0).key, 1),
      ((F.NETMGT_RING_PRESENT 0 0).key, 1), ((F.NETMGT_RING_NODE 0 1).key, 5), ((F.NETMGT_RING_PRESENT 0 1).key, 1),
      ((F.NETMGT_NODE0_NODE 0).key, 5), ((F.NETMGT_NODE0_QUAR 0).key, 1), ((F.NETMGT_NODE0_VALID 0).key, 1)] }

/-- The justified READY of node 5 lifts its quarantine, and the ring serves no transmission any more. -/
theorem farRing_put : (farRing.after (.nmReadyRx 0 0 5 true)).ringPut (farRing.rd (F.NETMGT_SEG0_KA_RING 0)) = 0 := by decide +kernel

/-- Refutes O50: a READY at a module that needs the network is answered by a NEED through the ring of KA_RING, whose number the statement
does not bound; at `farRing` the node's own entry in the table is that ring's descriptor, and the NEED is not put. -/
theorem not_networkReadiness : ¬ Obligations.NetworkReadiness := by
  intro h
  obtain ⟨-, -, -, -, hmember, -⟩ := h farRing 0 0 5 0 0 0 0 0 ⟨true, 0, .hub⟩ 0 true false ⟨0, 0⟩ (by decide) (by decide) (by decide +kernel)
    (by decide +kernel) (by decide +kernel)
  obtain ⟨-, -, hready, -⟩ := hmember (by decide +kernel)
  obtain ⟨-, -, -, hput⟩ := (hready (by decide +kernel)).after
  obtain ⟨hnext, -⟩ := hput (by decide) (by decide) (by decide) (by decide +kernel) (by decide +kernel)
  exact absurd (farRing_put.symm.trans hnext) (by decide +kernel)

end Sys2Proof.Machine
end

section
/-! PROOFS. The Pantry's commands: O55 -/

namespace Sys2Proof.Machine


/-- A slot whose content refers to a blob, with no KEK that would unwrap it. -/
def danglingSlot : Slot2 := ⟨⟨⟨8, 0, false, false, false, []⟩, 0, true⟩, ⟨KeyBody.empty, 0, false⟩⟩

/-- A running module with that slot as slot 0. -/
def danglingState : State :=
  { State.reset with
    pwr := { State.reset.pwr with state := .run, hubUp := true }
    pantry := { State.reset.pantry with store := [(0, danglingSlot)] } }

/-- A WRAP_OUT of the slot finds no key behind the reference: RESULT SLOT_INTEGRITY, before EXPORTABLE is judged. -/
theorem danglingState_wrapOut : (danglingState.after (.pantryWrapOut 0 ⟨true, 0, .hub⟩ 0 0)).rd F.PANTRY_STAT_RESULT = 10 := by
  decide +kernel

/-- Refutes O55: the statement has a WRAP_OUT of a slot whose winner is not EXPORTABLE end with RESULT 4 whatever that winner is, but a winner
that refers to a blob is served through the blob (R356); where none can be unwrapped the command ends with RESULT 10, as at
`danglingState`. -/
theorem not_pantryCommands : ¬ Obligations.PantryCommands := by
  intro h
  obtain ⟨-, -, -, -, hwin, -⟩ := h danglingState 0 0 0 0 0 0 ⟨true, 0, .hub⟩ false false false ⟨8, 0, false, false, false, []⟩ KeyBody.empty []
    (by decide) (by decide)
  obtain ⟨hwrap, -⟩ := hwin (by decide +kernel) (by decide +kernel)
  obtain ⟨⟨hresult, -⟩, -⟩ := (hwrap rfl).after
  exact absurd (danglingState_wrapOut.symm.trans hresult) (by decide)

end Sys2Proof.Machine
end

section
/-! PROOFS. Supply thresholds, and the power-fail order: O56 and O57 -/

namespace Sys2Proof.Machine


/-! ### A dip in sleep entry -/

/-- A module in SLEEP ENTRY of which channel 0 still conducts, with its power engine running. -/
def conductingEntry : State :=
  { State.reset with
    pwr := { State.reset.pwr with state := .sleepEntry, hubUp := true, below9 := false }
    fuse := { State.reset.fuse with chans := [(0, { Channel.init with state := .on })] }
    dve := { State.reset.dve with engines := [(12, { Engine.init with state := .running })] } }

/-- The dip turns the channel OFF, and sleep entry takes no request. -/
theorem conductingEntry_dip : ((conductingEntry.after (.busBelow9v 0)).chan 0).state = .off := by decide +kernel

/-- Refutes O56: the statement has a dip below 9 V queue every conducting channel again in every power state without a power failure, but
SLEEP ENTRY takes no request (R311), and at `conductingEntry` the channel is OFF after it. -/
theorem not_supplyThresholds : ¬ Obligations.SupplyThresholds := by
  intro h
  obtain ⟨hbus, -⟩ := h conductingEntry 0 0 0 0 0 0 0 0 0 0 false false false false [] [] ⟨true, 0, .hub⟩ (by decide)
  obtain ⟨-, -, -, -, hdip, -⟩ := hbus (by decide)
  obtain ⟨-, -, -, hchans⟩ := (hdip rfl (by decide) rfl rfl).after
  obtain ⟨-, -, hlive⟩ := hchans 0 (by decide)
  obtain ⟨hqueued, -⟩ := hlive (by decide) (by decide +kernel)
  exact absurd (conductingEntry_dip.symm.trans hqueued) (by decide)

/-! ### A declaration asleep -/

/-- A module in DEEP SLEEP whose window is open, with the cartridge mounted and a power-fail sequence left whose step 2 has ended: the model
leaves none at sleep, but the statement speaks of every state. -/
def staleSequence : State :=
  { State.reset with
    pwr := { State.reset.pwr with state := .deepSleep, pfOpen := some 0, seq := some ⟨2, 0, 0, some 0, [], []⟩ }
    regs := [(F.REC_STAT_MOUNTED.key, 1)] }

/-- No flush is triggered, since it would start after the step's bound (R412). -/
theorem staleSequence_declared : (staleSequence.after (.powerFailDeclared 100000000)).log.flushing = none := by decide +kernel

/-- Refutes O57: the statement has a declaration asleep flush the mounted log whatever sequence is in progress, but no flush starts after the
bound of a step 2, and `staleSequence` holds such a bound. -/
theorem not_startUpAndPowerFail : ¬ Obligations.StartUpAndPowerFail := by
  intro h
  obtain ⟨-, -, -, -, -, -, -, -, -, -, -, -, hdeclared, -⟩ := h staleSequence 100000000 0 0 0 0 0 0 0 0 none ⟨[], 0⟩ ⟨[], 0⟩
    ⟨true, 0, 0, [], true, 0, 0, [], []⟩ [] ⟨true, 0, .hub⟩ 0 ⟨2, 0, 0, some 0, [], []⟩
  obtain ⟨-, hended⟩ := hdeclared rfl
  obtain ⟨-, -, -, -, -, hasleep⟩ := (hended (by decide)).after
  obtain ⟨-, -, -, hflush⟩ := hasleep (.inl rfl)
  exact absurd ((congrArg Option.isSome staleSequence_declared).symm.trans (hflush (by decide +kernel))) (by decide)

end Sys2Proof.Machine
end

section
/-! PROOFS. Wake requests and the sleep commit: O51 -/

namespace Sys2Proof.Machine


/-- The number of the ring whose descriptor would lie at entry 0 of the node table. -/
def tableRing : Nat := (0x41082000 - 0x40C40000) / 32

/-- A running module with need, keep-alive segments 0 and 1, and in the KA_RING of segment 1 a number beyond its field: no write leaves such a
value, but the statement speaks of every state. The descriptor of that ring is entry 0 of the node table, which is not VALID yet. -/
def farWake : State :=
  { State.reset with
    pwr := { State.reset.pwr with state := .run, hubUp := true }
    regs := [(F.SYSCTL_MID_MID.key, 5), ((F.NETMGT_NEED_SUM_NEED 0).key, 1), ((F.NETMGT_SEG0_EN 0).key, 1), ((F.NETMGT_SEG0_EN 1).key, 1),
      ((F.NETMGT_SEG0_KA_RING 1).key, tableRing), ((F.NETMGT_NODE0_QUAR 0).key, 1), ((F.CANRAM_RING0_CTRL tableRing).key, 1)] }

/-- The KEEPALIVE on segment 0 enters the module in the table, and that on segment 1 is then stored as an element of that ring. -/
theorem farWake_stores : Memory.read (farWake.after (.wakeRequest 0 4 0)).mem 0x40C00003 ≠ Memory.read farWake.mem 0x40C00003 := by
  decide +kernel

/-- Refutes O51: no ring of KA_RING serves a controller at `farWake`, where the statement has a wake request leave memory as it is, but the
KEEPALIVE of one segment makes the ring of the next one valid. -/
theorem not_sleepAndWake : ¬ Obligations.SleepAndWake := by
  intro h
  obtain ⟨hrequest, -⟩ := h farWake 0 4 0 0 0 0 0
  obtain ⟨hreopen, -⟩ := hrequest rfl (by decide +kernel)
  obtain ⟨-, -, -, hmem⟩ := (hreopen (by decide) (by decide) (by decide +kernel) (by decide +kernel)).after
  exact farWake_stores (congrArg (Memory.read · _) (hmem (by decide +kernel)))

end Sys2Proof.Machine
end

section
/-! PROOFS. Instance reset and migration: O53 -/

namespace Sys2Proof.Machine


/-- A slot with a migration key. -/
def migrationSlot : Slot2 := ⟨⟨⟨3, 32, false, false, false, []⟩, 0, true⟩, ⟨KeyBody.empty, 0, false⟩⟩

/-- A running module whose save of instance 1 completes at the next clock. In the present clock region 0 of set 0, which refuses the Attic's
writes to the buffer, was written over a region that was not enabled. -/
def closingRegion : State :=
  { State.reset with
    pwr := { State.reset.pwr with state := .run, hubUp := true }
    pantry := { State.reset.pantry with store := [(0, migrationSlot)] }
    vim := { State.reset.vim with mig := some (.save 1 0) }
    clk := { ClockSt.none with olds := [((F.WORLD_RGN2_EN 0 0).addr, 0)] }
    regs := [((F.VIM_MIG_ADDR_ADDR 0).key, 0x10000000), (F.VIM_MIG_LEN_MIG_LEN.key, 2 ^ 20), ((F.WORLD_RGN2_EN 0 0).key, 1),
      ((F.WORLD_RGN0_BASE 0 0).key, 0), ((F.WORLD_RGN1_LIMIT 0 0).key, 0xFFFFF), ((F.WORLD_RGN2_DOM 0 0).key, 7)] }

/-- The save is refused its buffer. -/
theorem closingRegion_result : (closingRegion.after (.migSaveComplete 1)).rd F.VIM_MIG_STAT_RESULT = 11 := by decide +kernel

/-- In the present clock the Attic would reach the whole of the blob's buffer. -/
theorem closingRegion_reaches :
    closingRegion.reaches 0x10000000 ((closingRegion.after (.migSaveComplete 1)).rd F.VIM_MIG_USED_USED) true = true := by
  decide +kernel

/-- Refutes O53: where the buffer is refused, the statement has it out of the Attic's reach in the state before the command, in which the check
still takes the region as it was before a write of that clock (R346); at `closingRegion` the write closes the region, and the save of the next
clock is refused. -/
theorem not_instanceResetAndMigration : ¬ Obligations.InstanceResetAndMigration := by
  intro h
  obtain ⟨-, -, -, -, -, -, -, hsave, -⟩ := h closingRegion 1 1 0 0 ⟨true, 0, .hub⟩ ⟨0, 0, 0, 0, 0, 0, 0, []⟩ (by decide) (by decide) (by decide)
    (by decide)
  obtain ⟨-, hkey⟩ := hsave rfl
  rcases (hkey (by decide +kernel)).after with ⟨-, -, h3, -⟩ | ⟨-, hreach⟩ | ⟨⟨-, -, h0, -⟩, -⟩
  · exact absurd (closingRegion_result.symm.trans h3) (by decide)
  · exact absurd (closingRegion_reaches.symm.trans hreach) (by decide)
  · exact absurd (closingRegion_result.symm.trans h0) (by decide)

end Sys2Proof.Machine
end

section
/-! PROOFS. The CAN controllers: O44 -/

namespace Sys2Proof.Machine


variable {s s' : State} {t c k r : Nat}

/-! ### Controllers -/

@[simp] theorem State.ctl_modCtl_self (s : State) (c : Nat) (f : CanCtl → CanCtl) : (s.modCtl c f).ctl c = f (s.ctl c) := Tbl.getD_put_self ..

theorem State.ctl_modCtl_ne (s : State) (f : CanCtl → CanCtl) (h : k ≠ c) : (s.modCtl c f).ctl k = s.ctl k := Tbl.getD_put_ne _ _ _ h.symm

@[simp] theorem State.ctl_setCan_self (s : State) (c : Nat) (v : CanState) : (s.setCan c v).ctl c = { s.ctl c with state := v } :=
  s.ctl_modCtl_self c fun x => { x with state := v }

theorem State.ctl_setCan_ne (s : State) (v : CanState) (h : k ≠ c) : (s.setCan c v).ctl k = s.ctl k :=
  s.ctl_modCtl_ne (fun x => { x with state := v }) h

theorem State.ctl_congr (h : s'.can = s.can) (k : Nat) : s'.ctl k = s.ctl k := by unfold State.ctl; rw [h]

/-- A controller command that its checks let pass has its effect. -/
theorem ends_canCmd {i : Instr} {a : Attr} {f : State → State} {P : State → Prop} (hc : exec i s = canCmd t a c f s) (hn : c < 12)
    (hp : (s.tick t).passes (canCmdAddr c) a true = true) (h : P (f (s.tick t).okay)) : Ends i s P :=
  ends_unit_guarded hc (decide_eq_true hn) hp rfl h

/-! ### STATUS of the rings of a controller -/

theorem State.servesTx_congr (h : ∀ f : Fld, 0x40C00000 * 32 ≤ f.key → s'.rd f = s.rd f) (c r : Nat) : s'.servesTx c r = s.servesTx c r := by
  unfold State.servesTx State.ringValid State.ringTx State.flag
  rw [h (F.CANRAM_RING0_VALID r) (by simp only [Fld.key, F.CANRAM_RING0_VALID]; omega),
    h (F.CANRAM_RING0_DIR r) (by simp only [Fld.key, F.CANRAM_RING0_DIR]; omega),
    h (F.CANRAM_RING0_CTRL r) (by simp only [Fld.key, F.CANRAM_RING0_CTRL]; omega)]

theorem State.servesTx_wr_status (s : State) (c r j v : Nat) : (s.wr (F.CANRAM_RING3_STATUS j) v).servesTx c r = s.servesTx c r := by
  unfold State.servesTx State.ringValid State.ringTx State.flag
  rw [State.rd_wr_ne _ _ (by simp only [ne_eq, Fld.key, F.CANRAM_RING3_STATUS, F.CANRAM_RING0_VALID]; omega),
    State.rd_wr_ne _ _ (by simp only [ne_eq, Fld.key, F.CANRAM_RING3_STATUS, F.CANRAM_RING0_DIR]; omega),
    State.rd_wr_ne _ _ (by simp only [ne_eq, Fld.key, F.CANRAM_RING3_STATUS, F.CANRAM_RING0_CTRL]; omega)]

/-- STATUS of one ring, where the controller serves it. -/
def State.statusOne (c v : Nat) (s : State) (r : Nat) : State := if s.servesTx c r then s.wr (F.CANRAM_RING3_STATUS r) v else s

theorem State.rd_statusOne_self (s : State) (v : Nat) (h : s.servesTx c r = true) :
    (s.statusOne c v r).rd (F.CANRAM_RING3_STATUS r) = v % 2 ^ 8 := by
  rw [State.statusOne, if_pos h]; exact State.rd_wr_self ..

theorem State.rd_statusOne_ne (s : State) {j v : Nat} (h : j ≠ r) : (s.statusOne c v j).rd (F.CANRAM_RING3_STATUS r) = s.rd (F.CANRAM_RING3_STATUS r) := by
  unfold State.statusOne; split
  · exact State.rd_wr_ne _ _ (by simp only [ne_eq, Fld.key, F.CANRAM_RING3_STATUS]; omega)
  · rfl

theorem State.servesTx_statusOne (s : State) (c r v j : Nat) : (s.statusOne c v j).servesTx c r = s.servesTx c r := by
  unfold State.statusOne; split
  · exact s.servesTx_wr_status ..
  · rfl

/-- Every ring of the list that the controller serves has the STATUS. -/
theorem State.rd_foldl_statusOne (v : Nat) (l : List Nat) (s : State) (h : s.servesTx c r = true) (hr : r ∈ l) :
    (l.foldl (State.statusOne c v) s).rd (F.CANRAM_RING3_STATUS r) = v % 2 ^ 8 := by
  have keeps (l : List Nat) (s : State) (h : s.servesTx c r = true) (hv : s.rd (F.CANRAM_RING3_STATUS r) = v % 2 ^ 8) :
      (l.foldl (State.statusOne c v) s).rd (F.CANRAM_RING3_STATUS r) = v % 2 ^ 8 := by
    induction l generalizing s with
    | nil => exact hv
    | cons j l ih =>
      refine ih _ ((s.servesTx_statusOne ..).trans h) ?_
      by_cases hj : j = r
      · rw [hj]; exact s.rd_statusOne_self v h
      · exact (s.rd_statusOne_ne hj).trans hv
  induction l generalizing s with
  | nil => exact nomatch hr
  | cons j l ih =>
    rcases List.mem_cons.1 hr with rfl | hr
    · exact keeps l _ ((s.servesTx_statusOne ..).trans h) (s.rd_statusOne_self v h)
    · exact ih _ ((s.servesTx_statusOne ..).trans h) hr

theorem State.ringStatus_only (s : State) (c v : Nat) : RegsOnly s (s.ringStatus c v) :=
  RegsOnly.foldl (fun s r => by split <;> [exact .wr s _ _; exact .refl s]) _ s

theorem State.ringStatus_rd (s : State) (c v : Nat) : Stands (fun key => 0x40C40000 * 32 ≤ key) s (s.ringStatus c v) :=
  Stands.foldl _ (fun s r _ => Stands.ite (.wr (by simp only [Fld.key, F.CANRAM_RING3_STATUS]; omega) s _) (.of_regs rfl)) s

theorem State.ringStatus_status (s : State) (v : Nat) (hr : r < 128) (h : s.servesTx c r = true) :
    (s.ringStatus c v).rd (F.CANRAM_RING3_STATUS r) = v % 2 ^ 8 :=
  State.rd_foldl_statusOne v _ s h (List.mem_range.2 hr)


/-! ### A bus error -/

/-- TEC as a bus error leaves it, before the field's limit. -/
def State.errTec (s : State) (c : Nat) (e : CanErr) : Nat := s.rd (F.CAN_STAT_TEC c) + (if e.sending then e.inc else 0)

/-- REC as a bus error leaves it, before the field's limit. -/
def State.errRec (s : State) (c : Nat) (e : CanErr) : Nat := s.rd (F.CAN_STAT_REC c) + (if e.sending then 0 else e.inc)

/-- The bus error stands in CAN_ERR_LAST and is counted. -/
def State.errNoted (s : State) (c : Nat) (e : CanErr) : State :=
  ((s.updates (errLastAddr c) (s.ctl c).errLast).modCtl c fun x => { x with errLast := CanErr.word e }).inc (F.CAN_CNT_ERR_ERR_FRAMES c)

/-- TEC and REC take their new values, and a warning limit that one of them reaches is reported. -/
def State.errMoved (s : State) (c : Nat) (e : CanErr) : State :=
  let n := (s.wr (F.CAN_STAT_TEC c) (min 256 (s.errTec c e))).wr (F.CAN_STAT_REC c) (min 255 (s.errRec c e))
  if (s.rd (F.CAN_STAT_TEC c) < 96 ∧ 96 ≤ s.errTec c e) ∨ (s.rd (F.CAN_STAT_REC c) < 96 ∧ 96 ≤ s.errRec c e) then
    n.raise (F.CAN_IRQ_ERR_WARN c) else n

/-- An active controller whose TEC or REC reaches 128 is passive. -/
def State.errPassive (s : State) (c T R : Nat) : State :=
  if (s.ctl c).state = .active ∧ (128 ≤ T ∨ 128 ≤ R) then (s.setCan c .passive).raise (F.CAN_IRQ_ERR_PASSIVE c) else s

theorem State.canError_eq (s : State) (c : Nat) (e : CanErr) : ∃ n m p, s.canError c e = (if 255 < n.errTec c e then p.enterBusOff c else p) ∧
    n = s.errNoted c e ∧ m = n.errMoved c e ∧ p = m.errPassive c (n.errTec c e) (n.errRec c e) := ⟨_, _, _, rfl, rfl, rfl, rfl⟩

/-- The keys of the registers of the CAN controllers. -/
def CanKey (k : Nat) : Prop := 0x40700000 * 32 ≤ k ∧ k < 0x40C00000 * 32

/-- What a bus error leaves before an entry to BUS_OFF: `p` after, `s` before. -/
structure ErrBooked (s p : State) (c : Nat) (e : CanErr) : Prop where
  tec : p.rd (F.CAN_STAT_TEC c) = min 256 (s.errTec c e)
  recv : p.rd (F.CAN_STAT_REC c) = min 255 (s.errRec c e)
  frames : p.rd (F.CAN_CNT_ERR_ERR_FRAMES c) = min 65535 (s.rd (F.CAN_CNT_ERR_ERR_FRAMES c) + 1)
  mem : p.mem = s.mem
  log : p.log = s.log
  now : p.now = s.now
  regs : ∀ f : Fld, 0x40C00000 * 32 ≤ f.key → p.rd f = s.rd f
  others : ∀ k, k ≠ c → p.ctl k = s.ctl k
  word : (p.ctl c).errLast = CanErr.word e
  bus : (p.ctl c).onBus = (s.ctl c).onBus
  asked : (p.ctl c).refused = (s.ctl c).refused
  passive : (s.ctl c).state = .active → (128 ≤ s.errTec c e ∨ 128 ≤ s.errRec c e) →
    (p.ctl c).state = .passive ∧ p.rd (F.CAN_IRQ_ERR_PASSIVE c) = 1
  same : ¬((s.ctl c).state = .active ∧ (128 ≤ s.errTec c e ∨ 128 ≤ s.errRec c e)) → (p.ctl c).state = (s.ctl c).state


theorem State.errNoted_regs (s : State) (c : Nat) (e : CanErr) : (s.errNoted c e).regs = (s.inc (F.CAN_CNT_ERR_ERR_FRAMES c)).regs := by
  unfold State.errNoted; obtain ⟨k, hk⟩ := s.updates_eq (errLastAddr c) (s.ctl c).errLast; rw [hk]; rfl

theorem State.errNoted_parts (s : State) (c : Nat) (e : CanErr) : (s.errNoted c e).mem = s.mem ∧ (s.errNoted c e).log = s.log ∧
    (s.errNoted c e).now = s.now ∧ (s.errNoted c e).can = (s.modCtl c fun x => { x with errLast := CanErr.word e }).can := by
  unfold State.errNoted; obtain ⟨k, hk⟩ := s.updates_eq (errLastAddr c) (s.ctl c).errLast; rw [hk]; exact ⟨rfl, rfl, rfl, rfl⟩

theorem State.rd_errNoted_ne (s : State) {f : Fld} {e : CanErr} (h : (F.CAN_CNT_ERR_ERR_FRAMES c).key ≠ f.key) : (s.errNoted c e).rd f = s.rd f :=
  (State.rd_congr (s.errNoted_regs c e) f).trans (s.rd_inc_ne h)

theorem State.errTec_errNoted (s : State) (c : Nat) (e : CanErr) : (s.errNoted c e).errTec c e = s.errTec c e := by
  unfold State.errTec; rw [s.rd_errNoted_ne (by simp only [ne_eq, Fld.key, F.CAN_CNT_ERR_ERR_FRAMES, F.CAN_STAT_TEC]; omega)]

theorem State.errRec_errNoted (s : State) (c : Nat) (e : CanErr) : (s.errNoted c e).errRec c e = s.errRec c e := by
  unfold State.errRec; rw [s.rd_errNoted_ne (by simp only [ne_eq, Fld.key, F.CAN_CNT_ERR_ERR_FRAMES, F.CAN_STAT_REC]; omega)]

theorem State.errMoved_parts (s : State) (c : Nat) (e : CanErr) : (s.errMoved c e).mem = s.mem ∧ (s.errMoved c e).log = s.log ∧
    (s.errMoved c e).now = s.now ∧ (s.errMoved c e).can = s.can := by
  unfold State.errMoved; dsimp only; split <;> exact ⟨rfl, rfl, rfl, rfl⟩

theorem State.rd_errMoved (s : State) (c : Nat) (e : CanErr) : (s.errMoved c e).rd (F.CAN_STAT_TEC c) = min 256 (s.errTec c e) ∧
    (s.errMoved c e).rd (F.CAN_STAT_REC c) = min 255 (s.errRec c e) ∧
    RegsBut [F.CAN_STAT_TEC c, F.CAN_STAT_REC c, F.CAN_IRQ_ERR_WARN c] s (s.errMoved c e) := by
  obtain ⟨n, hn⟩ : ∃ n, n = (s.wr (F.CAN_STAT_TEC c) (min 256 (s.errTec c e))).wr (F.CAN_STAT_REC c) (min 255 (s.errRec c e)) := ⟨_, rfl⟩
  have hw : RegsBut [F.CAN_STAT_TEC c, F.CAN_STAT_REC c, F.CAN_IRQ_ERR_WARN c] s n := by
    rw [hn]; exact ((RegsBut.refl _ s).wr _ (by simp)).wr _ (by simp)
  have ht : n.rd (F.CAN_STAT_TEC c) = min 256 (s.errTec c e) := by
    rw [hn, State.rd_wr_ne _ _ (by simp only [ne_eq, Fld.key, F.CAN_STAT_REC, F.CAN_STAT_TEC]; omega)]
    exact State.rd_wr_lt _ (lt_of_le_of_lt (min_le_left ..) (by simp [F.CAN_STAT_TEC]))
  have hr : n.rd (F.CAN_STAT_REC c) = min 255 (s.errRec c e) := by
    rw [hn]; exact State.rd_wr_lt _ (lt_of_le_of_lt (min_le_left ..) (by simp [F.CAN_STAT_REC]))
  unfold State.errMoved; dsimp only; rw [← hn]; split
  · exact ⟨(State.rd_raise_ne _ (by simp only [ne_eq, Fld.key, F.CAN_IRQ_ERR_WARN, F.CAN_STAT_TEC]; omega)).trans ht,
      (State.rd_raise_ne _ (by simp only [ne_eq, Fld.key, F.CAN_IRQ_ERR_WARN, F.CAN_STAT_REC]; omega)).trans hr, hw.raise (by simp)⟩
  · exact ⟨ht, hr, hw⟩

/-- A passive entry changes the controller's state and its report. -/
theorem State.errPassive_spec (s : State) (c T R : Nat) : (s.errPassive c T R).mem = s.mem ∧ (s.errPassive c T R).log = s.log ∧
    (s.errPassive c T R).now = s.now ∧ RegsBut [F.CAN_IRQ_ERR_PASSIVE c] s (s.errPassive c T R) ∧
    (∀ k, k ≠ c → (s.errPassive c T R).ctl k = s.ctl k) ∧
    (s.errPassive c T R).ctl c = { s.ctl c with state := ((s.errPassive c T R).ctl c).state } ∧
    ((s.ctl c).state = .active → (128 ≤ T ∨ 128 ≤ R) →
      ((s.errPassive c T R).ctl c).state = .passive ∧ (s.errPassive c T R).rd (F.CAN_IRQ_ERR_PASSIVE c) = 1) ∧
    (¬((s.ctl c).state = .active ∧ (128 ≤ T ∨ 128 ≤ R)) → ((s.errPassive c T R).ctl c).state = (s.ctl c).state) := by
  unfold State.errPassive; split
  next h =>
    have hx : (((s.setCan c .passive).raise (F.CAN_IRQ_ERR_PASSIVE c)).ctl c) = { s.ctl c with state := .passive } :=
      s.ctl_setCan_self c .passive
    exact ⟨rfl, rfl, rfl, ((RegsBut.refl _ s).of_regs rfl).raise (by simp), fun k hk => s.ctl_setCan_ne .passive hk, hx.trans (by rw [hx]),
      fun _ _ => ⟨by rw [hx], State.rd_raise_bit _ rfl⟩, fun h' => absurd h h'⟩
  next h => exact ⟨rfl, rfl, rfl, .refl _ s, fun _ _ => rfl, rfl, fun h₁ h₂ => absurd ⟨h₁, h₂⟩ h, fun _ => rfl⟩

/-- A bus error books what it moves, and enters BUS_OFF where TEC passes 255. -/
theorem State.canError_booked (s : State) (e : CanErr) (hc : c < 12) :
    ∃ p, s.canError c e = (if 255 < s.errTec c e then p.enterBusOff c else p) ∧ ErrBooked s p c e := by
  obtain ⟨n, m, p, h, hn, hm, hp⟩ := s.canError_eq c e
  have hT : n.errTec c e = s.errTec c e := by rw [hn]; exact s.errTec_errNoted c e
  have hR : n.errRec c e = s.errRec c e := by rw [hn]; exact s.errRec_errNoted c e
  obtain ⟨nmem, nlog, nnow, ncan⟩ := s.errNoted_parts c e
  obtain ⟨mmem, mlog, mnow, mcan⟩ := n.errMoved_parts c e
  obtain ⟨mtec, mrec, mrd⟩ := n.rd_errMoved c e
  obtain ⟨pmem, plog, pnow, prd, pothers, pself, pin, pout⟩ := m.errPassive_spec c (n.errTec c e) (n.errRec c e)
  have hnr {f : Fld} (hf : (F.CAN_CNT_ERR_ERR_FRAMES c).key ≠ f.key) : n.rd f = s.rd f := by rw [hn]; exact s.rd_errNoted_ne hf
  have hnf : n.rd (F.CAN_CNT_ERR_ERR_FRAMES c) = min 65535 (s.rd (F.CAN_CNT_ERR_ERR_FRAMES c) + 1) := by
    rw [hn]; exact (State.rd_congr (s.errNoted_regs c e) _).trans (s.rd_inc_min _)
  rw [← hn] at nmem nlog nnow ncan
  rw [← hm] at mmem mlog mnow mcan mtec mrec mrd
  rw [← hp] at pmem plog pnow prd pothers pself pin pout
  have hctl (k : Nat) : m.ctl k = (s.modCtl c fun x => { x with errLast := CanErr.word e }).ctl k :=
    (State.ctl_congr mcan k).trans (State.ctl_congr ncan k)
  have hself : m.ctl c = { s.ctl c with errLast := CanErr.word e } := (hctl c).trans (s.ctl_modCtl_self c _)
  have hst : (m.ctl c).state = (s.ctl c).state := by rw [hself]
  refine ⟨p, by rw [h, hT], ?_⟩
  constructor
  case tec => exact (prd.rd (by simp [Fld.key, F.CAN_IRQ_ERR_PASSIVE, F.CAN_STAT_TEC]; omega)).trans (mtec.trans (by rw [hT]))
  case recv => exact (prd.rd (by simp [Fld.key, F.CAN_IRQ_ERR_PASSIVE, F.CAN_STAT_REC]; omega)).trans (mrec.trans (by rw [hR]))
  case frames =>
    exact ((prd.rd (by simp [Fld.key, F.CAN_IRQ_ERR_PASSIVE, F.CAN_CNT_ERR_ERR_FRAMES]; omega)).trans
      (mrd.rd (by simp [Fld.key, F.CAN_STAT_TEC, F.CAN_STAT_REC, F.CAN_IRQ_ERR_WARN, F.CAN_CNT_ERR_ERR_FRAMES]; omega))).trans hnf
  case mem => exact pmem.trans (mmem.trans nmem)
  case log => exact plog.trans (mlog.trans nlog)
  case now => exact pnow.trans (mnow.trans nnow)
  case regs =>
    intro f hf
    exact ((prd.rd (by simp [Fld.key, F.CAN_IRQ_ERR_PASSIVE] at hf ⊢; omega)).trans
      (mrd.rd (by simp [Fld.key, F.CAN_STAT_TEC, F.CAN_STAT_REC, F.CAN_IRQ_ERR_WARN] at hf ⊢; omega))).trans
      (hnr (by simp [Fld.key, F.CAN_CNT_ERR_ERR_FRAMES] at hf ⊢; omega))
  case others => exact fun k hk => (pothers k hk).trans ((hctl k).trans (s.ctl_modCtl_ne _ hk))
  case word => rw [pself, hself]
  case bus => rw [pself, hself]
  case asked => rw [pself, hself]
  case passive => rw [hst, hT, hR] at pin; exact pin
  case same => rw [hst, hT, hR] at pout; exact pout


/-! ### Entry to BUS_OFF -/

/-- The keys that an entry to BUS_OFF writes: its report and count, RECOV_CNT, CMD_REFUSED and the STATUS of rings. -/
def BusOffKey (c k : Nat) : Prop := k = (F.CAN_IRQ_BUS_OFF c).key ∨ k = (F.CAN_CNT_ERR_BUS_OFFS c).key ∨ k = (F.CAN_STAT_RECOV_CNT c).key ∨
  k = (F.CAN_STAT_CMD_REFUSED c).key ∨ 0x40C40000 * 32 ≤ k

/-- The controller is in BUS_OFF, its rings show it and it is reported. -/
def State.busOffShown (s : State) (c : Nat) : State := ((s.setCan c .busOff).ringStatus c 3).raise (F.CAN_IRQ_BUS_OFF c)

/-- The entry to BUS_OFF is counted and recorded. -/
def State.busOffNoted (s : State) (c : Nat) : State :=
  (s.inc (F.CAN_CNT_ERR_BUS_OFFS c)).record 0x0B 0x01 4 c 0 [s.canStat c] (sourceWord 2 0 0)

/-- A RECOVER of the same clock is taken after the entry. -/
def State.busOffAnswered (s : State) (c : Nat) : State :=
  match (s.ctl c).refused with
  | some (t, v) => if t = s.now then (s.canRecover c).wr (F.CAN_STAT_CMD_REFUSED c) v else s
  | none => s

theorem State.enterBusOff_eq (s : State) (c : Nat) : s.enterBusOff c = ((s.busOffShown c).busOffNoted c).busOffAnswered c := by
  unfold State.enterBusOff State.busOffNoted State.busOffShown
  dsimp only
  generalize ((s.setCan c .busOff).ringStatus c 3).raise (F.CAN_IRQ_BUS_OFF c) = b
  generalize (b.inc (F.CAN_CNT_ERR_BUS_OFFS c)).record 0x0B 0x01 4 c 0 [b.canStat c] (sourceWord 2 0 0) = n
  unfold State.busOffAnswered; rfl

theorem State.busOffAnswered_none (s : State) (h : (s.ctl c).refused.map (·.1) ≠ some s.now) : s.busOffAnswered c = s := by
  unfold State.busOffAnswered; split
  next heq => rw [heq] at h; exact if_neg fun ht => h (congrArg some ht)
  next => rfl

theorem State.busOffAnswered_some (s : State) (h : (s.ctl c).refused = some (s.now, k)) :
    s.busOffAnswered c = (s.canRecover c).wr (F.CAN_STAT_CMD_REFUSED c) k := by
  unfold State.busOffAnswered; rw [h]; exact if_pos rfl

theorem State.busOffShown_parts (s : State) (c : Nat) : (s.busOffShown c).mem = s.mem ∧ (s.busOffShown c).log = s.log ∧
    (s.busOffShown c).now = s.now ∧ (s.busOffShown c).can = (s.setCan c .busOff).can := by
  obtain ⟨q, hq⟩ := (s.setCan c .busOff).ringStatus_only c 3
  unfold State.busOffShown; rw [hq]; exact ⟨rfl, rfl, rfl, rfl⟩

theorem State.busOffShown_regs (s : State) (c r : Nat) : Stands (BusOffKey c) s (s.busOffShown c) ∧ (s.busOffShown c).rd (F.CAN_IRQ_BUS_OFF c) = 1 ∧
    (r < 128 → s.servesTx c r = true → (s.busOffShown c).rd (F.CANRAM_RING3_STATUS r) = 3) := by
  refine ⟨?_, State.rd_raise_bit _ rfl, fun hr h => ?_⟩
  · have h : Stands (BusOffKey c) s (s.setCan c .busOff) := Stands.of_regs rfl
    exact (h.trans (((s.setCan c .busOff).ringStatus_rd c 3).mono fun k hk => .inr (.inr (.inr (.inr hk))))).trans
      fun f hf => State.rd_raise_ne _ fun e => hf (.inl e.symm)
  · exact (State.rd_raise_ne _ (by simp only [ne_eq, Fld.key, F.CAN_IRQ_BUS_OFF, F.CANRAM_RING3_STATUS]; omega)).trans
      (State.ringStatus_status (s := s.setCan c .busOff) 3 hr h)

theorem State.busOffNoted_parts (s : State) (c : Nat) : (s.busOffNoted c).mem = s.mem ∧ WroteOne s (s.busOffNoted c) 0x0B 1 4 c 0 ∧
    (s.busOffNoted c).now = s.now ∧ (s.busOffNoted c).can = s.can ∧ RegsBut [F.CAN_CNT_ERR_BUS_OFFS c] s (s.busOffNoted c) := by
  obtain ⟨n, hn⟩ : ∃ n, n = s.inc (F.CAN_CNT_ERR_BUS_OFFS c) := ⟨_, rfl⟩
  have hr : RegsBut [F.CAN_CNT_ERR_BUS_OFFS c] s n := by rw [hn]; exact (RegsBut.refl _ s).wr _ (by simp)
  obtain ⟨hm, hl, ht, hc⟩ : n.mem = s.mem ∧ n.log = s.log ∧ n.now = s.now ∧ n.can = s.can := by rw [hn]; exact ⟨rfl, rfl, rfl, rfl⟩
  unfold State.busOffNoted; rw [← hn]
  exact ⟨hm, wroteOne_record hl rfl, ht, hc, hr.of_regs rfl⟩

/-- What an entry to BUS_OFF leaves: `s'` after, `s` before. -/
structure BusOffEntered (s s' : State) (c r : Nat) : Prop where
  mem : s'.mem = s.mem
  wrote : WroteOne s s' 0x0B 1 4 c 0
  others : ∀ k, k ≠ c → s'.ctl k = s.ctl k
  word : (s'.ctl c).errLast = (s.ctl c).errLast
  bus : (s'.ctl c).onBus = (s.ctl c).onBus
  stands : Stands (BusOffKey c) s s'
  shown : s'.rd (F.CAN_IRQ_BUS_OFF c) = 1
  status : r < 128 → s.servesTx c r = true → s'.rd (F.CANRAM_RING3_STATUS r) = 3

theorem State.busOffNoted_entered (s : State) (c r : Nat) : BusOffEntered s ((s.busOffShown c).busOffNoted c) c r ∧
    ((s.busOffShown c).busOffNoted c).ctl c = { s.ctl c with state := .busOff } ∧ ((s.busOffShown c).busOffNoted c).now = s.now := by
  obtain ⟨b, hb⟩ : ∃ b, b = s.busOffShown c := ⟨_, rfl⟩
  obtain ⟨bmem, blog, bnow, bcan⟩ := s.busOffShown_parts c
  obtain ⟨bst, bshown, bstatus⟩ := s.busOffShown_regs c r
  rw [← hb] at bmem blog bnow bcan bst bshown bstatus ⊢
  obtain ⟨nmem, ⟨q, q1, q2, q3, q4, q5, q6⟩, nnow, ncan, nrd⟩ := b.busOffNoted_parts c
  have hctl (k : Nat) : (b.busOffNoted c).ctl k = (s.setCan c .busOff).ctl k := (State.ctl_congr ncan k).trans (State.ctl_congr bcan k)
  have hself : (b.busOffNoted c).ctl c = { s.ctl c with state := .busOff } := (hctl c).trans (s.ctl_setCan_self c _)
  refine ⟨?_, hself, nnow.trans bnow⟩
  constructor
  case mem => exact nmem.trans bmem
  case wrote => exact ⟨q, q1, q2, q3, q4, q5, by rw [q6, blog]⟩
  case others => exact fun k hk => (hctl k).trans (s.ctl_setCan_ne _ hk)
  case word => rw [hself]
  case bus => rw [hself]
  case stands => exact bst.trans fun f hf => nrd.rd (by simpa [eq_comm] using fun h => hf (.inr (.inl h)))
  case shown => exact (nrd.rd (by simp [Fld.key, F.CAN_CNT_ERR_BUS_OFFS, F.CAN_IRQ_BUS_OFF]; omega)).trans bshown
  case status =>
    exact fun hr h => (nrd.rd (by simp [Fld.key, F.CAN_CNT_ERR_BUS_OFFS, F.CANRAM_RING3_STATUS]; omega)).trans (bstatus hr h)

/-- The recovery of a controller begins: its state, RECOV_CNT and CMD_REFUSED are what moves. -/
theorem BusOffEntered.recover (s' : State) {x : State} (h : BusOffEntered s x c r) (hs : s' = (x.canRecover c).wr (F.CAN_STAT_CMD_REFUSED c) k) :
    BusOffEntered s s' c r ∧ (s'.ctl c).state = .recovering ∧ s'.rd (F.CAN_STAT_RECOV_CNT c) = 0 ∧ s'.rd (F.CAN_STAT_CMD_REFUSED c) = k % 2 := by
  obtain ⟨y, hy⟩ : ∃ y, y = x.setCan c .recovering := ⟨_, rfl⟩
  have hs' : s' = (y.wr (F.CAN_STAT_RECOV_CNT c) 0).wr (F.CAN_STAT_CMD_REFUSED c) k := by rw [hs, hy]; rfl
  have hyr : y.regs = x.regs := by rw [hy]; rfl
  obtain ⟨hymem, hylog⟩ : y.mem = x.mem ∧ y.log = x.log := by rw [hy]; exact ⟨rfl, rfl⟩
  have hself : y.ctl c = { x.ctl c with state := .recovering } := by rw [hy]; exact x.ctl_setCan_self c _
  have hother (k : Nat) (hk : k ≠ c) : y.ctl k = x.ctl k := by rw [hy]; exact x.ctl_setCan_ne _ hk
  obtain ⟨hcan, hmem, hlog⟩ : s'.can = y.can ∧ s'.mem = y.mem ∧ s'.log = y.log := by rw [hs']; exact ⟨rfl, rfl, rfl⟩
  have hrd : RegsBut [F.CAN_STAT_RECOV_CNT c, F.CAN_STAT_CMD_REFUSED c] x s' := by
    rw [hs']; exact (((RegsBut.refl _ x).of_regs hyr).wr 0 (by simp)).wr k (by simp)
  have hctl := State.ctl_congr hcan
  obtain ⟨q, q1, q2, q3, q4, q5, q6⟩ := h.wrote
  refine ⟨?_, by rw [hctl, hself], ?_, by rw [hs']; exact State.rd_wr_self ..⟩
  · constructor
    case mem => rw [hmem, hymem, h.mem]
    case wrote => exact ⟨q, q1, q2, q3, q4, q5, by rw [hlog, hylog, q6]⟩
    case others => exact fun k hk => by rw [hctl, hother k hk, h.others k hk]
    case word => rw [hctl, hself]; exact h.word
    case bus => rw [hctl, hself]; exact h.bus
    case stands =>
      refine h.stands.trans fun f hf => hrd.rd ?_
      simpa [eq_comm] using ⟨fun e => hf (.inr (.inr (.inl e))), fun e => hf (.inr (.inr (.inr (.inl e))))⟩
    case shown => exact (hrd.rd (by simp [Fld.key, F.CAN_STAT_RECOV_CNT, F.CAN_STAT_CMD_REFUSED, F.CAN_IRQ_BUS_OFF]; omega)).trans h.shown
    case status =>
      exact fun hr hv => (hrd.rd (by simp [Fld.key, F.CAN_STAT_RECOV_CNT, F.CAN_STAT_CMD_REFUSED, F.CANRAM_RING3_STATUS]; omega)).trans (h.status hr hv)
  · rw [hs', State.rd_wr_ne _ _ (by simp only [ne_eq, Fld.key, F.CAN_STAT_RECOV_CNT, F.CAN_STAT_CMD_REFUSED]; omega)]
    exact (State.rd_wr_self ..).trans (Nat.zero_mod _)

/-- An entry to BUS_OFF leaves what `BusOffEntered` says, in BUS_OFF, or in recovery where a RECOVER of its clock waits. -/
theorem State.enterBusOff_entered (s : State) (c r : Nat) : BusOffEntered s (s.enterBusOff c) c r ∧
    ((s.ctl c).refused.map (·.1) ≠ some s.now → ((s.enterBusOff c).ctl c).state = .busOff) ∧
    (∀ k, (s.ctl c).refused = some (s.now, k) → ((s.enterBusOff c).ctl c).state = .recovering ∧
      (s.enterBusOff c).rd (F.CAN_STAT_RECOV_CNT c) = 0 ∧ (s.enterBusOff c).rd (F.CAN_STAT_CMD_REFUSED c) = k % 2) := by
  obtain ⟨he, hself, hnow⟩ := s.busOffNoted_entered c r
  rw [s.enterBusOff_eq]
  generalize (s.busOffShown c).busOffNoted c = n at he hself hnow
  have hasked : (n.ctl c).refused = (s.ctl c).refused := by rw [hself]
  by_cases h : (s.ctl c).refused.map (·.1) = some s.now
  · obtain ⟨⟨t, k⟩, hk, rfl⟩ := Option.map_eq_some_iff.1 h
    have hk' : (n.ctl c).refused = some (n.now, k) := by rw [hasked, hk, hnow]
    obtain ⟨he', h'⟩ := he.recover _ (n.busOffAnswered_some hk')
    refine ⟨he', fun hn => absurd h hn, fun j hj => ?_⟩
    obtain rfl : k = j := by rw [hk] at hj; exact (Prod.mk.inj (Option.some.inj hj)).2
    exact h'
  · have hn : n.busOffAnswered c = n := n.busOffAnswered_none (by rw [hasked, hnow]; exact h)
    rw [hn]
    exact ⟨he, fun _ => by rw [hself], fun k hk => absurd (by rw [hk]; rfl) h⟩

/-! ### The commands of CAN_CMD -/

section
variable {a : Attr} (hn : c < 12) (hp : (s.tick t).passes (canCmdAddr c) a true = true)
include hn hp

/-- A command that its state does not take is refused. -/
theorem ends_canRefuse {i : Instr} {f : State → State} (hc : exec i s = canCmd t a c f s) (hf : f (s.tick t).okay = (s.tick t).okay.canRefuse c) :
    Ends i s fun s' => OnlyRegs s t [F.CAN_STAT_CMD_REFUSED c] s' ∧ s'.rd (F.CAN_STAT_CMD_REFUSED c) = 1 :=
  ends_canCmd hc hn hp (by rw [hf]; exact ⟨(OnlyRegs.tick s t _).okay.raise (by simp), State.rd_raise_bit _ rfl⟩)

theorem canStart_valid (hs : (s.ctl c).state = .config) (hv : s.canValid c = true) :
    Ends (.canStart t a c) s fun s' => (s'.ctl c).state = .syncing ∧ s'.regs = s.regs ∧ ∀ k, k ≠ c → s'.ctl k = s.ctl k := by
  refine ends_canCmd (arm_canStart ..) hn hp ?_
  have hs' : ¬ ((s.tick t).okay.ctl c).state ≠ .config := not_not.2 hs
  have hv' : (s.tick t).okay.canValid c = true := hv
  rw [if_neg hs', if_pos hv']
  exact ⟨by rw [State.ctl_setCan_self], rfl, fun k hk => State.ctl_setCan_ne _ _ hk⟩

theorem canStart_refused (hs : (s.ctl c).state = .config) (hv : s.canValid c = false) : Ends (.canStart t a c) s fun s' =>
    OnlyRegs s t [F.CAN_STAT_CFG_REFUSED c] s' ∧ s'.rd (F.CAN_STAT_CFG_REFUSED c) = 1 := by
  refine ends_canCmd (arm_canStart ..) hn hp ?_
  have hs' : ¬ ((s.tick t).okay.ctl c).state ≠ .config := not_not.2 hs
  have hv' : ¬ (s.tick t).okay.canValid c = true := Bool.eq_false_iff.1 hv
  rw [if_neg hs', if_neg hv']
  exact ⟨(OnlyRegs.tick s t _).okay.raise (by simp), State.rd_raise_bit _ rfl⟩

theorem canStop_idle (hs : (s.ctl c).state ≠ .config) (hb : (s.ctl c).onBus = none) : Ends (.canStop t a c) s fun s' =>
    (s'.ctl c).state = .config ∧ s'.regs = s.regs ∧ s'.mem = s.mem ∧ ∀ k, k ≠ c → s'.ctl k = s.ctl k := by
  refine ends_canCmd (arm_canStop ..) hn hp ?_
  have hb' : ¬ ((s.tick t).okay.ctl c).onBus.isSome = true := by rw [show ((s.tick t).okay.ctl c).onBus = none from hb]; simp
  have hs' : ¬ ((s.tick t).okay.ctl c).state = .config := hs
  unfold State.canStop; rw [if_neg hs', if_neg hb']
  exact ⟨by rw [State.ctl_setCan_self], rfl, rfl, fun k hk => State.ctl_setCan_ne _ _ hk⟩

theorem canStop_busy (hs : (s.ctl c).state ≠ .config) (hb : (s.ctl c).onBus ≠ none) : Ends (.canStop t a c) s fun s' =>
    s'.ctl c = { s.ctl c with stopping := true } ∧ s'.regs = s.regs ∧ ∀ k, k ≠ c → s'.ctl k = s.ctl k := by
  refine ends_canCmd (arm_canStop ..) hn hp ?_
  have hs' : ¬ ((s.tick t).okay.ctl c).state = .config := hs
  have hb' : ((s.tick t).okay.ctl c).onBus.isSome = true := Option.isSome_iff_ne_none.2 hb
  unfold State.canStop; rw [if_neg hs', if_pos hb']
  exact ⟨State.ctl_modCtl_self .., rfl, fun k hk => State.ctl_modCtl_ne _ _ hk⟩

theorem canRecover_busOff (hs : (s.ctl c).state = .busOff) : Ends (.canRecover t a c) s fun s' => (s'.ctl c).state = .recovering ∧
    s'.rd (F.CAN_STAT_RECOV_CNT c) = 0 ∧ s'.rd (F.CAN_STAT_TEC c) = s.rd (F.CAN_STAT_TEC c) ∧ s'.mem = s.mem := by
  refine ends_canCmd (arm_canRecover ..) hn hp ?_
  have hs' : ((s.tick t).okay.ctl c).state = .busOff := hs
  rw [if_pos hs']
  refine ⟨?_, (State.rd_wr_self ..).trans (Nat.zero_mod _), ?_, rfl⟩
  · exact congrArg CanCtl.state ((s.tick t).okay.ctl_setCan_self c .recovering)
  · exact State.rd_wr_ne _ _ (by simp only [ne_eq, Fld.key, F.CAN_STAT_RECOV_CNT, F.CAN_STAT_TEC]; omega)

theorem canRecover_refused (hs : (s.ctl c).state ≠ .busOff) : Ends (.canRecover t a c) s fun s' => RegsBut [F.CAN_STAT_CMD_REFUSED c] s s' ∧
    s'.rd (F.CAN_STAT_CMD_REFUSED c) = 1 ∧ s'.ctl c = { s.ctl c with refused := some (t, s.rd (F.CAN_STAT_CMD_REFUSED c)) } ∧
    (∀ k, k ≠ c → s'.ctl k = s.ctl k) ∧ s'.mem = s.mem := by
  refine ends_canCmd (arm_canRecover ..) hn hp ?_
  have hs' : ¬ ((s.tick t).okay.ctl c).state = .busOff := hs
  rw [if_neg hs']
  exact ⟨((RegsBut.refl _ s).raise (by simp)).of_regs rfl, State.rd_raise_bit s rfl, State.ctl_modCtl_self .., fun k hk => State.ctl_modCtl_ne _ _ hk, rfl⟩

end

/-! ### Errors, sequences and the time master -/

theorem canErrorDetected_spec (e : CanErr) (r : Nat) (hn : c < 12) (hs : (s.ctl c).state = .active ∨ (s.ctl c).state = .passive) :
    Ends (.canErrorDetected t c e) s fun s' =>
      s'.rd (F.CAN_STAT_TEC c) = min 256 (s.errTec c e) ∧ s'.rd (F.CAN_STAT_REC c) = min 255 (s.errRec c e) ∧ s'.mem = s.mem ∧
      (∀ k, k ≠ c → s'.ctl k = s.ctl k) ∧ (s'.ctl c).errLast = CanErr.word e ∧ (s'.ctl c).onBus = (s.ctl c).onBus ∧
      s'.rd (F.CAN_CNT_ERR_ERR_FRAMES c) = min 65535 (s.rd (F.CAN_CNT_ERR_ERR_FRAMES c) + 1) ∧
      (255 < s.errTec c e → s'.rd (F.CAN_IRQ_BUS_OFF c) = 1 ∧ WroteOne s s' 0x0B 1 4 c 0 ∧
        (r < 128 → s.servesTx c r = true → s'.rd (F.CANRAM_RING3_STATUS r) = 3) ∧
        ((s.ctl c).refused.map (·.1) ≠ some t → (s'.ctl c).state = .busOff) ∧
        (∀ k, (s.ctl c).refused = some (t, k) → (s'.ctl c).state = .recovering ∧ s'.rd (F.CAN_STAT_RECOV_CNT c) = 0 ∧
          s'.rd (F.CAN_STAT_CMD_REFUSED c) = k % 2)) ∧
      (s.errTec c e ≤ 255 → (128 ≤ s.errTec c e ∨ 128 ≤ s.errRec c e) → (s'.ctl c).state = .passive ∧ s'.log = s.log ∧
        ((s.ctl c).state = .active → s'.rd (F.CAN_IRQ_ERR_PASSIVE c) = 1)) ∧
      (s.errTec c e < 128 → s.errRec c e < 128 → (s'.ctl c).state = (s.ctl c).state ∧ s'.log = s.log) := by
  have hon : ((s.tick t).ctl c).state.onLine = true := by
    rcases hs with h | h <;> rw [show ((s.tick t).ctl c).state = _ from h] <;> rfl
  refine ends_unit (arm_canErrorDetected ..) (decide_eq_true hn) (if_pos hon) ?_
  obtain ⟨p, hp, hb⟩ := (s.tick t).canError_booked e hn
  rw [hp, show (s.tick t).errTec c e = s.errTec c e from rfl]
  have hst : ¬ ((s.ctl c).state = .active ∧ (128 ≤ s.errTec c e ∨ 128 ≤ s.errRec c e)) → (p.ctl c).state = (s.ctl c).state := hb.same
  have hpas : (s.ctl c).state = .active → (128 ≤ s.errTec c e ∨ 128 ≤ s.errRec c e) → (p.ctl c).state = .passive ∧ p.rd (F.CAN_IRQ_ERR_PASSIVE c) = 1 :=
    hb.passive
  split
  next hT =>
    obtain ⟨he, hoff, hrec⟩ := p.enterBusOff_entered c r
    rw [hb.asked, hb.now] at hoff hrec
    have hserves : p.servesTx c r = s.servesTx c r := State.servesTx_congr (s := s) hb.regs c r
    have hst {f : Fld} (h : ¬ BusOffKey c f.key) : (p.enterBusOff c).rd f = p.rd f := he.stands f h
    refine ⟨(hst ?_).trans hb.tec, (hst ?_).trans hb.recv, he.mem.trans hb.mem, fun k hk => (he.others k hk).trans (hb.others k hk),
      he.word.trans hb.word, he.bus.trans hb.bus, (hst ?_).trans hb.frames,
      fun _ => ⟨he.shown, ?_, fun hr h => he.status hr (hserves.trans h), hoff, hrec⟩, fun h => absurd hT (not_lt.2 h), fun h => absurd hT (by omega)⟩
    · simp only [BusOffKey, Fld.key, F.CAN_IRQ_BUS_OFF, F.CAN_CNT_ERR_BUS_OFFS, F.CAN_STAT_RECOV_CNT, F.CAN_STAT_CMD_REFUSED, F.CAN_STAT_TEC]; omega
    · simp only [BusOffKey, Fld.key, F.CAN_IRQ_BUS_OFF, F.CAN_CNT_ERR_BUS_OFFS, F.CAN_STAT_RECOV_CNT, F.CAN_STAT_CMD_REFUSED, F.CAN_STAT_REC]; omega
    · simp only [BusOffKey, Fld.key, F.CAN_IRQ_BUS_OFF, F.CAN_CNT_ERR_BUS_OFFS, F.CAN_STAT_RECOV_CNT, F.CAN_STAT_CMD_REFUSED, F.CAN_CNT_ERR_ERR_FRAMES]; omega
    · obtain ⟨q, q1, q2, q3, q4, q5, q6⟩ := he.wrote
      exact ⟨q, q1, q2, q3, q4, q5, by rw [q6, hb.log]; rfl⟩
  next hT =>
    refine ⟨hb.tec, hb.recv, hb.mem, hb.others, hb.word, hb.bus, hb.frames, fun h => absurd h hT, fun _ hl => ⟨?_, hb.log, fun ha => (hpas ha hl).2⟩,
      fun h1 h2 => ⟨hst (by omega), hb.log⟩⟩
    rcases hs with h | h
    · exact (hpas h hl).1
    · exact (hst (by simp [h])).trans h

section
variable (hn : c < 12)
include hn

theorem recessiveSequence_syncing (hs : (s.ctl c).state = .syncing) : Ends (.recessiveSequence t c) s fun s' =>
    (s'.ctl c).state = .active ∧ (∀ k, k ≠ c → s'.ctl k = s.ctl k) ∧ s'.mem = s.mem := by
  have hs' : ((s.tick t).ctl c).state = .syncing := hs
  refine ends_unit (arm_recessiveSequence ..) (decide_eq_true hn) (x := ((s.tick t).setCan c .active).ringStatus c 0) (by rw [hs']) ?_
  obtain ⟨y, hy⟩ : ∃ y, y = (s.tick t).setCan c .active := ⟨_, rfl⟩
  have hm : y.mem = s.mem := by rw [hy]; rfl
  have hself : (y.ctl c).state = .active := by rw [hy, State.ctl_setCan_self]
  have hother (k : Nat) (hk : k ≠ c) : y.ctl k = s.ctl k := by rw [hy]; exact (s.tick t).ctl_setCan_ne _ hk
  rw [← hy]
  obtain ⟨q, hq⟩ := y.ringStatus_only c 0
  rw [hq]; exact ⟨hself, hother, hm⟩

theorem recessiveSequence_counts (hs : (s.ctl c).state = .recovering) (hr : s.rd (F.CAN_STAT_RECOV_CNT c) < 127) :
    Ends (.recessiveSequence t c) s fun s' =>
      OnlyRegs s t [F.CAN_STAT_RECOV_CNT c] s' ∧ s'.rd (F.CAN_STAT_RECOV_CNT c) = s.rd (F.CAN_STAT_RECOV_CNT c) + 1 := by
  have hs' : ((s.tick t).ctl c).state = .recovering := hs
  obtain ⟨y, hy⟩ : ∃ y, y = (s.tick t).wr (F.CAN_STAT_RECOV_CNT c) (s.rd (F.CAN_STAT_RECOV_CNT c) + 1) := ⟨_, rfl⟩
  have hv : y.rd (F.CAN_STAT_RECOV_CNT c) = s.rd (F.CAN_STAT_RECOV_CNT c) + 1 := by
    rw [hy]; exact State.rd_wr_lt _ (by simp only [F.CAN_STAT_RECOV_CNT] at hr ⊢; omega)
  refine ends_unit (arm_recessiveSequence ..) (decide_eq_true hn) (x := y) ?_ ⟨?_, hv⟩
  · rw [hs']
    dsimp only
    rw [State.rd_tick, ← hy, hv]; exact if_neg (by omega)
  · rw [hy]; exact (OnlyRegs.tick s t _).wr _ (by simp)

theorem recessiveSequence_recovers (r : Nat) (hs : (s.ctl c).state = .recovering) (hr : s.rd (F.CAN_STAT_RECOV_CNT c) = 127) :
    Ends (.recessiveSequence t c) s fun s' => (s'.ctl c).state = .active ∧ s'.rd (F.CAN_STAT_TEC c) = 0 ∧ s'.rd (F.CAN_STAT_REC c) = 0 ∧
      (∀ k, k ≠ c → s'.ctl k = s.ctl k) ∧ (r < 128 → s.servesTx c r = true → s'.rd (F.CANRAM_RING3_STATUS r) = 0) := by
  have hs' : ((s.tick t).ctl c).state = .recovering := hs
  obtain ⟨w, hw⟩ : ∃ w, w = (s.tick t).wr (F.CAN_STAT_RECOV_CNT c) (s.rd (F.CAN_STAT_RECOV_CNT c) + 1) := ⟨_, rfl⟩
  have hv : w.rd (F.CAN_STAT_RECOV_CNT c) = 128 := by
    rw [hw, hr]; exact State.rd_wr_lt _ (by simp [F.CAN_STAT_RECOV_CNT])
  obtain ⟨z, hz⟩ : ∃ z, z = (w.wr (F.CAN_STAT_TEC c) 0).wr (F.CAN_STAT_REC c) 0 := ⟨_, rfl⟩
  obtain ⟨y, hy⟩ : ∃ y, y = z.setCan c .active := ⟨_, rfl⟩
  refine ends_unit (arm_recessiveSequence ..) (decide_eq_true hn) (x := y.ringStatus c 0) ?_ ?_
  · rw [hs']
    dsimp only
    rw [State.rd_tick, ← hw, hv, hy, hz]; exact if_pos le_rfl
  have hzc : z.can = s.can := by rw [hz, hw]; rfl
  have hself : (y.ctl c).state = .active := by rw [hy, State.ctl_setCan_self]
  have hother (k : Nat) (hk : k ≠ c) : y.ctl k = s.ctl k := by
    rw [hy, State.ctl_setCan_ne _ _ hk]; exact State.ctl_congr (s := s) hzc k
  have hrd : RegsBut [F.CAN_STAT_RECOV_CNT c, F.CAN_STAT_TEC c, F.CAN_STAT_REC c] s z := by
    rw [hz, hw]; exact ((((RegsBut.refl _ s).of_regs (s'' := s.tick t) rfl).wr _ (by simp)).wr 0 (by simp)).wr 0 (by simp)
  have hyr : y.regs = z.regs := by rw [hy]; rfl
  have hrec : y.rd (F.CAN_STAT_REC c) = 0 := by
    rw [State.rd_congr hyr, hz]; exact (State.rd_wr_self ..).trans (Nat.zero_mod _)
  have htec : y.rd (F.CAN_STAT_TEC c) = 0 := by
    rw [State.rd_congr hyr, hz]; exact (State.rd_wr_ne _ _ (by simp only [ne_eq, Fld.key, F.CAN_STAT_REC, F.CAN_STAT_TEC]; omega)).trans
      ((State.rd_wr_self ..).trans (Nat.zero_mod _))
  have hserves : y.servesTx c r = s.servesTx c r := State.servesTx_congr (fun f hf => (State.rd_congr hyr f).trans <| hrd.rd
    (by simp [Fld.key, F.CAN_STAT_RECOV_CNT, F.CAN_STAT_TEC, F.CAN_STAT_REC] at hf ⊢; omega)) c r
  have hst := y.ringStatus_rd c 0
  have hstatus : r < 128 → s.servesTx c r = true → (y.ringStatus c 0).rd (F.CANRAM_RING3_STATUS r) = 0 :=
    fun hr h => (y.ringStatus_status 0 hr (hserves.trans h)).trans (Nat.zero_mod _)
  have hctl (k : Nat) : (y.ringStatus c 0).ctl k = y.ctl k := by obtain ⟨q, hq⟩ := y.ringStatus_only c 0; rw [hq]; rfl
  exact ⟨(congrArg CanCtl.state (hctl c)).trans hself,
    (hst _ (by simp only [Fld.key, F.CAN_STAT_TEC]; omega)).trans htec,
    (hst _ (by simp only [Fld.key, F.CAN_STAT_REC]; omega)).trans hrec, fun k hk => (hctl k).trans (hother k hk), hstatus⟩

theorem refDue_spec {base per due tt : Nat} (hbase : base = s.rd64 (F.CAN_TT_BASE_TT_BASE c)) (hper : per = max 100000 (s.rd (F.CAN_TT_CYCLE_TT_CYCLE c)))
    (htt : tt = (s.tick t).tNow) (hdue : due = base + (tt - base) / per * per) (hr : s.rd (F.CAN_TT_CFG_ROLE c) = 2) (h₁ : (s.ctl c).state ≠ .config)
    (h₂ : (s.ctl c).state ≠ .syncing) (hb : s.flag (F.CAN_TT_STAT_BACKUP c) = false) (hle : base ≤ tt) (ht : (s.ctl c).refT ≠ some due) :
    Ends (.refDue t c) s fun s' => s'.regs = s.regs ∧ (∀ k, k ≠ c → s'.ctl k = s.ctl k) ∧
      s'.ctl c = { s.ctl c with refDue := some (s.ctl c).refNext, refT := some due,
                                refNext := ((s.ctl c).refNext + 1) % (s.rd (F.CAN_TT_CFG_CNT_MAX c) + 1) } := by
  subst hbase hper htt hdue
  have hb' : (!(s.tick t).flag (F.CAN_TT_STAT_BACKUP c)) = true := by
    rw [show (s.tick t).flag (F.CAN_TT_STAT_BACKUP c) = false from hb]; rfl
  exact ends_unit (arm_refDue ..) (decide_eq_true hn) (if_pos ⟨hr, h₁, h₂, hb', hle, ht⟩)
    ⟨rfl, fun k hk => State.ctl_modCtl_ne _ _ hk, State.ctl_modCtl_self ..⟩

theorem refLostTimeout_closed (hb : s.flag (F.CAN_TT_STAT_BACKUP c) = true) (h : (s.ctl c).lastRef + s.backupWindow c ≤ t) :
    Ends (.refLostTimeout t c) s fun s' => OnlyRegs s t [F.CAN_IRQ_REF_LOST c, F.CAN_TT_STAT_BACKUP c] s' ∧
      s'.rd (F.CAN_IRQ_REF_LOST c) = 1 ∧ s'.rd (F.CAN_TT_STAT_BACKUP c) = 0 := by
  have hcl : (s.tick t).closed ((s.tick t).ctl c).lastRef ((s.tick t).backupWindow c) = true := decide_eq_true h
  refine ends_unit (arm_refLostTimeout ..) (decide_eq_true hn) (if_pos ⟨hb, hcl⟩) ⟨((OnlyRegs.tick s t _).raise (by simp)).clrF (by simp), ?_, State.rd_clrF_self ..⟩
  exact (State.rd_clrF_ne _ (by simp only [ne_eq, Fld.key, F.CAN_TT_STAT_BACKUP, F.CAN_IRQ_REF_LOST]; omega)).trans (State.rd_raise_bit _ rfl)

theorem refLostTimeout_open (h : t < (s.ctl c).lastRef + s.backupWindow c) : Ends (.refLostTimeout t c) s fun s' => s' = s.tick t := by
  have hcl : ¬ (s.tick t).closed ((s.tick t).ctl c).lastRef ((s.tick t).backupWindow c) = true := by
    simp only [State.closed, decide_eq_true_eq, not_le]; exact h
  exact ends_unit (arm_refLostTimeout ..) (decide_eq_true hn) (if_neg fun h => hcl h.2) rfl

theorem errLastRead_spec {a : Attr} {peek : Bool} (hp : (s.tick t).passes (0x40700044 + c * 0x10000 + if peek then 0x8000 else 0) a false = true) :
    ((s.tick t).clk.olds.find? (errLastAddr c) = none → Ends (.errLastRead t a c peek) s fun s' => s'.resp = ⟨0, (s.ctl c).errLast⟩ ∧
      s'.regs = s.regs ∧ (∀ k, k ≠ c → s'.ctl k = s.ctl k) ∧
      (s'.ctl c).errLast = if peek then (s.ctl c).errLast else (s.ctl c).errLast % 2 ^ 29) ∧
    (∀ k, (s.tick t).clk.olds.find? (errLastAddr c) = some k → Ends (.errLastRead t a c peek) s fun s' => s'.resp = ⟨0, k⟩ ∧
      s'.regs = s.regs ∧ s'.can = s.can) := by
  have hp' : (s.tick t).passes (rsAddr (errLastAddr c) peek) a false = true := by
    cases peek <;> exact hp
  refine ⟨fun ho => ?_, fun k ho => ?_⟩
  · refine ends_unit_guarded_eq (arm_errLastRead ..) (decide_eq_true hn) hp' rfl
      (x := (if peek then (s.tick t).okay else (s.tick t).okay.modCtl c fun x => { x with errLast := x.errLast % 2 ^ 29 }).answer 0 (s.ctl c).errLast) ?_ ?_
    · rw [show (s.tick t).okay.clk.olds.find? (errLastAddr c) = none from ho]; rfl
    · cases peek
      · exact ⟨rfl, rfl, fun k hk => State.ctl_modCtl_ne (s.tick t).okay (fun x => { x with errLast := x.errLast % 2 ^ 29 }) hk, congrArg CanCtl.errLast
          ((s.tick t).okay.ctl_modCtl_self c fun x => { x with errLast := x.errLast % 2 ^ 29 })⟩
      · exact ⟨rfl, rfl, fun _ _ => rfl, rfl⟩
  · refine ends_unit_guarded_eq (arm_errLastRead ..) (decide_eq_true hn) hp' rfl (x := (s.tick t).okay.answer 0 k) ?_ ⟨rfl, rfl, rfl⟩
    rw [show (s.tick t).okay.clk.olds.find? (errLastAddr c) = some k from ho]

end

/-- Settles O44: CAN_CMD acts by the controller's state; a bus error books TEC and REC before it enters BUS_OFF, where a RECOVER of its
clock is answered; recessive sequences, the reference message and the last error follow. -/
theorem canControllers : Obligations.CanControllers := by
  intro s t c r k a peek e hn
  refine ⟨fun hp => ⟨canStart_valid hn hp, canStart_refused hn hp, fun h => ends_canRefuse hn hp (arm_canStart ..) ?_, canStop_idle hn hp,
    canStop_busy hn hp, canRecover_busOff hn hp, canRecover_refused hn hp⟩, fun h => (canErrorDetected_spec e r hn h).mono ?_,
    recessiveSequence_syncing hn, recessiveSequence_counts hn, recessiveSequence_recovers hn r,
    refDue_spec hn rfl rfl rfl rfl, fun h => ⟨refLostTimeout_closed hn h, refLostTimeout_open hn⟩,
    fun hp => ⟨(errLastRead_spec hn hp).1, (errLastRead_spec hn hp).2 k⟩⟩
  · have h' : ((s.tick t).okay.ctl c).state ≠ .config := h
    exact if_pos h'
  · rintro s' ⟨h1, h2, h3, h4, h5, h6, h7, h8, h9, h10⟩
    refine ⟨h1, h2, h3, h4, h5, h6, h7, fun hT => ?_, h9, h10⟩
    obtain ⟨hb, hw, hs, hoff, hrec⟩ := h8 hT
    exact ⟨hb, hw, hs, hoff, hrec k⟩

end Sys2Proof.Machine
end

section
/-! PROOFS. Instances, queues and dispatch: O52 -/

namespace Sys2Proof.Machine


variable {s s' : State} {t i q e h w : Nat} {a : Attr}

/-! ### Writes of the instance manager's registers -/

section
variable {c : Instr} {addr : Nat} {may own b : Bool} {eff : State → State} {P : State → Prop}

/-- A write that the regions and the manager let pass has its effect. -/
theorem ends_vimWrite (hc : exec c s = onUnit b ((s.tick t).vimWrite a addr may eff)) (hb : b = true) (hp : (s.tick t).passes addr a true = true)
    (hm : may = true) (h : P (eff (s.tick t).okay)) : Ends c s P :=
  ends_unit hc hb (if_pos (by rw [hp, hm]; rfl)) h

/-- A write that the manager does not let pass is denied, counted and logged (R319). -/
theorem ends_vimDenied (hc : exec c s = onUnit b ((s.tick t).vimWrite a addr may eff)) (hb : b = true) (hm : may = false)
    (h : P ((((s.tick t).deny a 3 addr true).inc F.VIM_CNT_DENIED).noteMiss a)) : Ends c s P :=
  ends_unit hc hb (if_neg (by simp [hm])) h

end

theorem State.vimMay_attic (ha : a.attic = true) (s : State) (i : Nat) : s.vimMay a i = true := by unfold State.vimMay; rw [ha]; rfl

theorem State.inst_congr (h : s'.vim = s.vim) (i : Nat) : s'.inst i = s.inst i := by unfold State.inst; rw [h]

theorem State.pool_congr (h : s'.vim = s.vim) (q : Nat) : s'.pool q = s.pool q := by unfold State.pool; rw [h]

@[simp] theorem State.pool_modPool_self (s : State) (q : Nat) (f : Pool → Pool) : (s.modPool q f).pool q = f (s.pool q) := Tbl.getD_put_self ..

theorem State.pool_modPool_ne (s : State) {k : Nat} (f : Pool → Pool) (h : k ≠ q) : (s.modPool q f).pool k = s.pool k := Tbl.getD_put_ne _ _ _ h.symm

/-- Bit 31 of a word. -/
theorem testBit_31 (h : w < 2 ^ 32) : w.testBit 31 = decide (2 ^ 31 ≤ w) := by
  rw [Nat.testBit_eq_decide_div_mod_eq]
  exact decide_eq_decide.2 (by omega)

theorem bits_31 (h : w < 2 ^ 32) : bits w 31 31 = w / 2 ^ 31 := by unfold bits; omega

/-- A refusal reports in one bit alone. -/
theorem onlyRegs_refused {f : Fld} (hw : f.width = 1) : OnlyRegs s t [f] ((s.tick t).okay.raise f) ∧ ((s.tick t).okay.raise f).rd f = 1 :=
  ⟨(OnlyRegs.tick s t _).okay.raise (by simp), State.rd_raise_bit _ hw⟩

/-! ### Shares and windows -/

section
variable {v : Word} (hi : i < 64)
include hi

theorem qshareWrite_spec (ha : a.attic = true) (hp : (s.tick t).passes (0x4110100C + 64 * i) a true = true) {share : Nat}
    (hs : share = min 512 (v.toNat % 1024)) :
    ((s.rd (F.VIM_INST_CFG_VALID i) = 0 ∨ s.otherShares i + share ≤ 512) → Ends (.qshareWrite t a i v) s fun s' =>
      OnlyRegs s t [F.VIM_INST_QSHARE_QSHARE i] s' ∧ s'.rd (F.VIM_INST_QSHARE_QSHARE i) = share) ∧
    (s.rd (F.VIM_INST_CFG_VALID i) ≠ 0 → 512 < s.otherShares i + share → Ends (.qshareWrite t a i v) s fun s' =>
      OnlyRegs s t [F.VIM_STAT_SHARE_REFUSED] s' ∧ s'.rd F.VIM_STAT_SHARE_REFUSED = 1) := by
  have hcl : clampNat (bits v.toNat 9 0) 0 512 = share := by
    rw [hs, clampNat_eq _ _ _ (by omega)]; simp only [bits]; omega
  rw [Nat.mul_comm] at hp
  have hx : Ends (.qshareWrite t a i v) s fun s' => s' = if s.rd (F.VIM_INST_CFG_VALID i) ≠ 0 ∧ 512 < s.otherShares i + share then
      (s.tick t).okay.raise F.VIM_STAT_SHARE_REFUSED else (s.tick t).okay.wr (F.VIM_INST_QSHARE_QSHARE i) share := by
    refine ends_vimWrite (arm_qshareWrite ..) (decide_eq_true hi) hp (State.vimMay_attic ha _ i) ?_
    rw [hcl]
    exact if_congr (and_congr_left fun _ => State.flag_eq_true) rfl rfl
  refine ⟨fun h => hx.mono ?_, fun hv h => hx.mono ?_⟩
  · rintro _ rfl
    rw [if_neg (fun hn => h.elim hn.1 (not_le.2 hn.2))]
    exact ⟨(OnlyRegs.tick s t _).okay.wr _ (by simp), State.rd_wr_lt _ (by simp only [F.VIM_INST_QSHARE_QSHARE]; omega)⟩
  · rintro _ rfl
    rw [if_pos ⟨hv, h⟩]
    exact onlyRegs_refused rfl

theorem qshareWrite_denied (hm : s.vimMay a i = false) : Ends (.qshareWrite t a i v) s fun s' => s'.resp.status = 0x0E ∧
    s'.rd (F.VIM_INST_QSHARE_QSHARE i) = s.rd (F.VIM_INST_QSHARE_QSHARE i) ∧
    s'.rd F.VIM_CNT_DENIED = min 65535 (s.rd F.VIM_CNT_DENIED + 1) := by
  refine ends_vimDenied (arm_qshareWrite ..) (decide_eq_true hi) (show (s.tick t).vimMay a i = false from hm) ?_
  obtain ⟨-, hr, -, hrd⟩ := (s.tick t).deny_frame (a := a) (set := 3) (addr := (F.VIM_INST_QSHARE_QSHARE i).addr) (w := true)
  generalize (s.tick t).deny a 3 (F.VIM_INST_QSHARE_QSHARE i).addr true = d at hr hrd ⊢
  have hq : d.rd (F.VIM_INST_QSHARE_QSHARE i) = s.rd (F.VIM_INST_QSHARE_QSHARE i) :=
    hrd _ (by simp only [ne_eq, Fld.key, F.WORLD_VIOL_CNT_LOST, F.VIM_INST_QSHARE_QSHARE]; omega)
      (by simp only [ne_eq, Fld.key, F.WORLD_VIOL_CNT_DENIED, F.VIM_INST_QSHARE_QSHARE]; omega)
  have hd : d.rd F.VIM_CNT_DENIED = s.rd F.VIM_CNT_DENIED := hrd _ (by decide) (by decide)
  have hdi : (d.inc F.VIM_CNT_DENIED).rd F.VIM_CNT_DENIED = min 65535 (s.rd F.VIM_CNT_DENIED + 1) := by
    rw [State.rd_inc_min, hd]; rfl
  have hqi : (d.inc F.VIM_CNT_DENIED).rd (F.VIM_INST_QSHARE_QSHARE i) = s.rd (F.VIM_INST_QSHARE_QSHARE i) :=
    (d.rd_inc_ne (by simp only [ne_eq, Fld.key, F.VIM_CNT_DENIED, F.VIM_INST_QSHARE_QSHARE]; omega)).trans hq
  have hri : (d.inc F.VIM_CNT_DENIED).resp.status = 0x0E := congrArg Resp.status hr
  unfold State.noteMiss; split
  · exact ⟨hri, (State.rd_inc_ne _ (by simp only [ne_eq, Fld.key, F.VIM_CNT_MAP_MISS, F.VIM_INST_QSHARE_QSHARE]; omega)).trans hqi,
      (State.rd_inc_ne _ (by decide)).trans hdi⟩
  · exact ⟨hri, hqi, hdi⟩

/-- A VALID entry of the instance's window that a new window [base, base + cnt) leaves outside. -/
def State.strands (s : State) (i base cnt : Nat) : Prop := ∃ x, x < s.rd (F.VIM_INST_FLT_FLT_CNT i) ∧
  s.flag (F.CANRAM_FLT0_VALID (s.rd (F.VIM_INST_FLT_FLT_BASE i) + x)) = true ∧
  ¬ (base ≤ s.rd (F.VIM_INST_FLT_FLT_BASE i) + x ∧ s.rd (F.VIM_INST_FLT_FLT_BASE i) + x < base + cnt)

theorem instFltWrite_spec (ha : a.attic = true) (hp : (s.tick t).passes (0x41101014 + 64 * i) a true = true) {base cnt : Nat}
    (hb : base = v.toNat / 2 ^ 16 % 2 ^ 14) (hc : cnt = min 16384 (v.toNat % 2 ^ 15)) :
    (s.windowMeets i base cnt = false → ¬ s.strands i base cnt → Ends (.instFltWrite t a i v) s fun s' =>
      OnlyRegs s t [F.VIM_INST_FLT_FLT_BASE i, F.VIM_INST_FLT_FLT_CNT i] s' ∧
      s'.rd (F.VIM_INST_FLT_FLT_BASE i) = base ∧ s'.rd (F.VIM_INST_FLT_FLT_CNT i) = cnt) ∧
    ((s.rd (F.VIM_INST_CFG_VALID i) ≠ 0 ∧ s.windowMeets i base cnt = true ∨ s.strands i base cnt) → Ends (.instFltWrite t a i v) s fun s' =>
      OnlyRegs s t [F.VIM_STAT_SHARE_REFUSED] s' ∧ s'.rd F.VIM_STAT_SHARE_REFUSED = 1) := by
  have hbase : bits v.toNat 29 16 = base := by rw [hb]; rfl
  have hcnt : clampNat (bits v.toNat 14 0) 0 16384 = cnt := by
    rw [hc, clampNat_eq _ _ _ (by omega)]; simp only [bits]; omega
  rw [Nat.mul_comm] at hp
  have hx : Ends (.instFltWrite t a i v) s fun s' =>
      (¬ (s.rd (F.VIM_INST_CFG_VALID i) ≠ 0 ∧ s.windowMeets i base cnt = true ∨ s.strands i base cnt) →
        s' = ((s.tick t).okay.wr (F.VIM_INST_FLT_FLT_BASE i) base).wr (F.VIM_INST_FLT_FLT_CNT i) cnt) ∧
      ((s.rd (F.VIM_INST_CFG_VALID i) ≠ 0 ∧ s.windowMeets i base cnt = true ∨ s.strands i base cnt) →
        s' = (s.tick t).okay.raise F.VIM_STAT_SHARE_REFUSED) := by
    refine ends_vimWrite (arm_instFltWrite ..) (decide_eq_true hi) hp (State.vimMay_attic ha _ i) ?_
    rw [hbase, hcnt]
    dsimp only
    have hany : ((List.range (s.rd (F.VIM_INST_FLT_FLT_CNT i))).any fun k =>
        s.flag (F.CANRAM_FLT0_VALID (s.rd (F.VIM_INST_FLT_FLT_BASE i) + k)) &&
          !(decide (base ≤ s.rd (F.VIM_INST_FLT_FLT_BASE i) + k) && decide (s.rd (F.VIM_INST_FLT_FLT_BASE i) + k < base + cnt))) = true ↔
        s.strands i base cnt := by
      rw [List.any_eq_true]
      exact exists_congr fun x => and_congr List.mem_range (by simp [imp_iff_not_or])
    have hcond : ((s.flag (F.VIM_INST_CFG_VALID i) && s.windowMeets i base cnt) || (List.range (s.rd (F.VIM_INST_FLT_FLT_CNT i))).any fun k =>
        s.flag (F.CANRAM_FLT0_VALID (s.rd (F.VIM_INST_FLT_FLT_BASE i) + k)) &&
          !(decide (base ≤ s.rd (F.VIM_INST_FLT_FLT_BASE i) + k) && decide (s.rd (F.VIM_INST_FLT_FLT_BASE i) + k < base + cnt))) = true ↔
        (s.rd (F.VIM_INST_CFG_VALID i) ≠ 0 ∧ s.windowMeets i base cnt = true ∨ s.strands i base cnt) := by
      rw [Bool.or_eq_true, Bool.and_eq_true, hany, State.flag_eq_true]
    exact ⟨fun h => if_neg fun h' => h (hcond.1 h'), fun h => if_pos (hcond.2 h)⟩
  refine ⟨fun hm hs => hx.mono fun s' h => ?_, fun h => hx.mono fun s' hh => ?_⟩
  · rw [h.1 (by rintro (⟨-, h'⟩ | h') <;> [exact absurd (hm.symm.trans h') (by simp); exact hs h'])]
    refine ⟨((OnlyRegs.tick s t _).okay.wr _ (by simp)).wr _ (by simp), ?_, State.rd_wr_lt _ (by simp only [F.VIM_INST_FLT_FLT_CNT]; omega)⟩
    exact (State.rd_wr_ne _ _ (by simp only [ne_eq, Fld.key, F.VIM_INST_FLT_FLT_CNT, F.VIM_INST_FLT_FLT_BASE]; omega)).trans
      (State.rd_wr_lt _ (by simp only [F.VIM_INST_FLT_FLT_BASE]; omega))
  · rw [hh.2 h]; exact onlyRegs_refused rfl

end

/-! ### The configuration of a pool queue -/

/-- The fields of a queue's configuration, END where the value is listed. -/
def State.queueSet (s : State) (q v : Nat) : State :=
  let n := ((s.wr (F.VIM_HWQ_CFG_VALID q) (bits v 31 31)).wr (F.VIM_HWQ_CFG_CAP q) (clampNat (bits v 17 0) 2 16383)).wr (F.VIM_HWQ_CFG_OWNER q)
    (bits v 28 23)
  if bits v 30 29 < 2 then n.wr (F.VIM_HWQ_CFG_END q) (bits v 30 29) else n

theorem State.queueSet_spec (s : State) (q v : Nat) (h : v / 2 ^ 29 % 4 < 2) (hv : v < 2 ^ 32) :
    (s.queueSet q v).rd (F.VIM_HWQ_CFG_VALID q) = v / 2 ^ 31 ∧ (s.queueSet q v).rd (F.VIM_HWQ_CFG_END q) = v / 2 ^ 29 % 4 ∧
    (s.queueSet q v).rd (F.VIM_HWQ_CFG_OWNER q) = v / 2 ^ 23 % 64 ∧ (s.queueSet q v).vim = s.vim ∧
    (s.queueSet q v).rd (F.VIM_HWQ_CFG_CAP q) = min 16383 (max 2 (v % 2 ^ 18)) := by
  have hend : bits v 30 29 = v / 2 ^ 29 % 4 := rfl
  have hown : bits v 28 23 = v / 2 ^ 23 % 64 := rfl
  have hcap : clampNat (bits v 17 0) 2 16383 = min 16383 (max 2 (v % 2 ^ 18)) := by
    rw [clampNat_eq _ _ _ (by omega)]; simp only [bits]; omega
  unfold State.queueSet
  rw [hend, hown, hcap, bits_31 hv, if_pos h]
  refine ⟨?_, State.rd_wr_lt _ (by simp only [F.VIM_HWQ_CFG_END]; omega), ?_, rfl, ?_⟩
  · rw [State.rd_wr_ne _ _ (by simp only [ne_eq, Fld.key, F.VIM_HWQ_CFG_VALID, F.VIM_HWQ_CFG_END]; omega),
      State.rd_wr_ne _ _ (by simp only [ne_eq, Fld.key, F.VIM_HWQ_CFG_VALID, F.VIM_HWQ_CFG_OWNER]; omega),
      State.rd_wr_ne _ _ (by simp only [ne_eq, Fld.key, F.VIM_HWQ_CFG_VALID, F.VIM_HWQ_CFG_CAP]; omega)]
    exact State.rd_wr_lt _ (by simp only [F.VIM_HWQ_CFG_VALID]; omega)
  · rw [State.rd_wr_ne _ _ (by simp only [ne_eq, Fld.key, F.VIM_HWQ_CFG_OWNER, F.VIM_HWQ_CFG_END]; omega)]
    exact State.rd_wr_lt _ (by simp only [F.VIM_HWQ_CFG_OWNER]; omega)
  · rw [State.rd_wr_ne _ _ (by simp only [ne_eq, Fld.key, F.VIM_HWQ_CFG_CAP, F.VIM_HWQ_CFG_END]; omega),
      State.rd_wr_ne _ _ (by simp only [ne_eq, Fld.key, F.VIM_HWQ_CFG_CAP, F.VIM_HWQ_CFG_OWNER]; omega)]
    exact State.rd_wr_lt _ (by simp only [F.VIM_HWQ_CFG_CAP]; omega)

theorem hwqCfgWrite_spec {v : Word} (hq : q < 384) (ha : a.attic = true) (hp : (s.tick t).passes (0x41120000 + 16 * q) a true = true) :
    (s.queueFill q = 0 → s.boundTo q = none → v.toNat / 2 ^ 29 % 4 < 2 → Ends (.hwqCfgWrite t a q v) s fun s' =>
      s'.rd (F.VIM_HWQ_CFG_VALID q) = v.toNat / 2 ^ 31 ∧ s'.rd (F.VIM_HWQ_CFG_END q) = v.toNat / 2 ^ 29 % 4 ∧
      s'.rd (F.VIM_HWQ_CFG_OWNER q) = v.toNat / 2 ^ 23 % 64 ∧ s'.vim = s.vim ∧
      s'.rd (F.VIM_HWQ_CFG_CAP q) = min 16383 (max 2 (v.toNat % 2 ^ 18))) ∧
    (s.queueFill q ≠ 0 → s.boundTo q = none → Ends (.hwqCfgWrite t a q v) s fun s' => OnlyRegs s t [] s') ∧
    (s.boundTo q ≠ none → (v.toNat / 2 ^ 29 % 4 ≠ s.rd (F.VIM_HWQ_CFG_END q) ∨ v.toNat / 2 ^ 23 % 64 ≠ s.rd (F.VIM_HWQ_CFG_OWNER q)) →
      Ends (.hwqCfgWrite t a q v) s fun s' => OnlyRegs s t [F.VIM_STAT_SHARE_REFUSED] s' ∧ s'.rd F.VIM_STAT_SHARE_REFUSED = 1) := by
  rw [Nat.mul_comm] at hp
  have hbound : (s.tick t).okay.boundTo q = s.boundTo q := rfl
  have hfill : (s.tick t).okay.queueFill q = s.queueFill q := rfl
  have hmay : ((s.tick t).vimMay a (bits v.toNat 28 23) && (s.tick t).vimMay a ((s.tick t).rd (F.VIM_HWQ_CFG_OWNER q))) = true := by
    rw [State.vimMay_attic ha, State.vimMay_attic ha]; rfl
  refine ⟨fun hf hb hw => ?_, fun hf hb => ?_, fun hb hm => ?_⟩ <;> refine ends_vimWrite (arm_hwqCfgWrite ..) (decide_eq_true hq) hp hmay ?_
  · dsimp only
    rw [hbound, hb, if_neg (by simp), hfill, hf, if_neg (by simp)]
    exact (s.tick t).okay.queueSet_spec q v.toNat hw v.isLt
  · dsimp only
    rw [hbound, hb, if_neg (by simp), hfill, if_pos hf]
    exact (OnlyRegs.tick s t _).okay
  · dsimp only
    have hmoves : (decide (bits v.toNat 30 29 ≠ s.rd (F.VIM_HWQ_CFG_END q)) || decide (bits v.toNat 28 23 ≠ s.rd (F.VIM_HWQ_CFG_OWNER q))) = true := by
      rw [Bool.or_eq_true, decide_eq_true_eq, decide_eq_true_eq]; exact hm
    rw [hbound]
    rw [if_pos ⟨hmoves, Option.isSome_iff_ne_none.2 hb⟩]
    exact onlyRegs_refused rfl

/-! ### PIDs -/

theorem State.pidEntry_congr (h : ∀ f : Fld, 0x41110000 * 32 ≤ f.key → s'.rd f = s.rd f) (pid : Nat) : s'.pidEntry pid = s.pidEntry pid := by
  unfold State.pidEntry State.flag
  refine congrArg (fun p => List.find? p _) (funext fun e => ?_)
  rw [h (F.VIM_MAP_VALID e) (by simp only [Fld.key, F.VIM_MAP_VALID]; omega), h (F.VIM_MAP_PID e) (by simp only [Fld.key, F.VIM_MAP_PID]; omega)]

/-- A look-up writes the core's MAPPED and INST alone. -/
theorem State.lookUpPid_only (s : State) (h : Nat) : RegsBut [F.VIM_HART_PID_MAPPED h, F.VIM_HART_PID_INST h] s (s.lookUpPid h) ∧ (s.lookUpPid h).vim = s.vim ∧
    (s.lookUpPid h).mem = s.mem := by
  obtain ⟨x, y, h⟩ : ∃ x y, s.lookUpPid h = (s.wr (F.VIM_HART_PID_MAPPED h) x).wr (F.VIM_HART_PID_INST h) y := ⟨_, _, rfl⟩
  rw [h]; exact ⟨((RegsBut.refl _ s).wr _ (by simp)).wr _ (by simp), rfl, rfl⟩

theorem State.rd_lookUpPid (s : State) (h : Nat) {x : Option Nat} (hx : x = ((s.pidEntry (s.rd (F.VIM_HART_PID_PID h))).map fun e => s.rd (F.VIM_MAP_INST e)).filter
      fun i => s.rd (F.VIM_INST_CFG_WORLD i) == s.rd (F.WORLD_HART_CUR h)) :
    (s.lookUpPid h).rd (F.VIM_HART_PID_MAPPED h) = bit x.isSome ∧ (s.lookUpPid h).rd (F.VIM_HART_PID_INST h) = x.getD 0 % 64 := by
  unfold State.lookUpPid; dsimp only; rw [← hx]
  refine ⟨?_, State.rd_wr_self ..⟩
  rw [State.rd_wr_ne _ _ (by simp only [ne_eq, Fld.key, F.VIM_HART_PID_MAPPED, F.VIM_HART_PID_INST]; omega)]
  exact State.rd_wr_lt _ (by cases x.isSome <;> simp [F.VIM_HART_PID_MAPPED, bit])

theorem hartPidWrite_spec {pid : Nat} (hh : h < 8) (hpid : pid < 2 ^ 20) (hp : (s.tick t).passes (0x41100040 + 4 * h) a true = true) :
    (s.pidEntry pid = none → Ends (.hartPidWrite t a h pid) s fun s' => s'.rd (F.VIM_HART_PID_PID h) = pid ∧
      s'.rd (F.VIM_HART_PID_MAPPED h) = 0 ∧ s'.rd (F.VIM_HART_PID_INST h) = 0 ∧ s'.vim = s.vim ∧ s'.mem = s.mem) ∧
    (∀ e i, i < 64 → s.pidEntry pid = some e → s.rd (F.VIM_MAP_INST e) = i → s.rd (F.VIM_INST_CFG_WORLD i) = s.rd (F.WORLD_HART_CUR h) →
      Ends (.hartPidWrite t a h pid) s fun s' => s'.rd (F.VIM_HART_PID_PID h) = pid ∧
        s'.rd (F.VIM_HART_PID_MAPPED h) = 1 ∧ s'.rd (F.VIM_HART_PID_INST h) = i) := by
  obtain ⟨n, hn⟩ : ∃ n, n = (s.tick t).okay.wr (F.VIM_HART_PID_PID h) pid := ⟨_, rfl⟩
  have hpd : n.rd (F.VIM_HART_PID_PID h) = pid := by rw [hn]; exact State.rd_wr_lt _ hpid
  have hne {f : Fld} (hf : (F.VIM_HART_PID_PID h).key ≠ f.key) : n.rd f = s.rd f := by rw [hn]; exact State.rd_wr_ne _ _ hf
  have hent : n.pidEntry pid = s.pidEntry pid := State.pidEntry_congr (s := s) (fun f hf => hne
    (by simp only [ne_eq, Fld.key, F.VIM_HART_PID_PID] at hf ⊢; omega)) pid
  obtain ⟨hvim, hmem⟩ : n.vim = s.vim ∧ n.mem = s.mem := by rw [hn]; exact ⟨rfl, rfl⟩
  obtain ⟨lrd, lvim, lmem⟩ := n.lookUpPid_only h
  have hkept : (n.lookUpPid h).rd (F.VIM_HART_PID_PID h) = pid := (lrd.rd (by
    simp [Fld.key, F.VIM_HART_PID_MAPPED, F.VIM_HART_PID_INST, F.VIM_HART_PID_PID])).trans hpd
  have hx : Ends (.hartPidWrite t a h pid) s fun s' => s' = n.lookUpPid h := by
    rw [Nat.mul_comm] at hp
    exact ends_unit_guarded (arm_hartPidWrite ..) (decide_eq_true hh) hp rfl (by rw [hn])
  refine ⟨fun he => hx.mono ?_, fun e i hi he hmi hw => hx.mono ?_⟩
  · rintro _ rfl
    obtain ⟨hm, hi⟩ := n.rd_lookUpPid h (x := none) (by rw [hpd, hent, he]; rfl)
    exact ⟨hkept, hm, hi, lvim.trans hvim, lmem.trans hmem⟩
  · rintro _ rfl
    have hmi' : n.rd (F.VIM_MAP_INST e) = i := (hne (by simp only [ne_eq, Fld.key, F.VIM_HART_PID_PID, F.VIM_MAP_INST]; omega)).trans hmi
    have hw' : (n.rd (F.VIM_INST_CFG_WORLD i) == n.rd (F.WORLD_HART_CUR h)) = true := by
      rw [hne (by simp only [ne_eq, Fld.key, F.VIM_HART_PID_PID, F.VIM_INST_CFG_WORLD]; omega),
        hne (by simp only [ne_eq, Fld.key, F.VIM_HART_PID_PID, F.WORLD_HART_CUR]; omega), hw]; exact beq_self_eq_true _
    obtain ⟨hm, hi'⟩ := n.rd_lookUpPid h (x := some i) (by rw [hpd, hent, he, Option.map_some, hmi', Option.filter_some, if_pos hw'])
    exact ⟨hkept, hm, hi'.trans (Nat.mod_eq_of_lt hi)⟩

/-- An entry of the PID map takes its word, and the cores whose PID it names look it up again. -/
def State.mapSet (s : State) (e v : Nat) : State :=
  let old := s.rd (F.VIM_MAP_PID e)
  let s := ((s.wr (F.VIM_MAP_VALID e) (bits v 31 31)).wr (F.VIM_MAP_INST e) (bits v 29 24)).wr (F.VIM_MAP_PID e) (bits v 19 0)
  (List.range 8).foldl (fun s h =>
    let p := s.rd (F.VIM_HART_PID_PID h)
    if p = old ∨ p = bits v 19 0 then s.lookUpPid h else s) s

theorem State.mapSet_spec (s : State) (e v : Nat) (hv : v < 2 ^ 32) : (s.mapSet e v).rd (F.VIM_MAP_VALID e) = v / 2 ^ 31 ∧
    (s.mapSet e v).rd (F.VIM_MAP_INST e) = v / 2 ^ 24 % 64 ∧ (s.mapSet e v).rd (F.VIM_MAP_PID e) = v % 2 ^ 20 ∧
    ∀ x, x ≠ e → (s.mapSet e v).rd (F.VIM_MAP_PID x) = s.rd (F.VIM_MAP_PID x) := by
  obtain ⟨n, hn⟩ : ∃ n, n = ((s.wr (F.VIM_MAP_VALID e) (bits v 31 31)).wr (F.VIM_MAP_INST e) (bits v 29 24)).wr (F.VIM_MAP_PID e) (bits v 19 0) := ⟨_, rfl⟩
  have hst : Stands (fun k => k < 0x41110000 * 32) n (s.mapSet e v) := by
    unfold State.mapSet; dsimp only; rw [← hn]
    refine Stands.foldl _ (fun s h hh => Stands.ite (fun f hf => (s.lookUpPid_only h).1.rd ?_) (.refl _ s)) n
    rw [List.mem_range] at hh
    simp [Fld.key, F.VIM_HART_PID_MAPPED, F.VIM_HART_PID_INST] at hf ⊢; omega
  have hvalid : n.rd (F.VIM_MAP_VALID e) = v / 2 ^ 31 := by
    rw [hn, State.rd_wr_ne _ _ (by simp only [ne_eq, Fld.key, F.VIM_MAP_VALID, F.VIM_MAP_PID]; omega),
      State.rd_wr_ne _ _ (by simp only [ne_eq, Fld.key, F.VIM_MAP_VALID, F.VIM_MAP_INST]; omega), bits_31 hv]
    exact State.rd_wr_lt _ (by simp only [F.VIM_MAP_VALID]; omega)
  have hinst : n.rd (F.VIM_MAP_INST e) = v / 2 ^ 24 % 64 := by
    rw [hn, State.rd_wr_ne _ _ (by simp only [ne_eq, Fld.key, F.VIM_MAP_INST, F.VIM_MAP_PID]; omega)]
    exact State.rd_wr_lt _ (by simp only [bits, F.VIM_MAP_INST]; omega)
  have hpid : n.rd (F.VIM_MAP_PID e) = v % 2 ^ 20 := by
    rw [hn]; exact (State.rd_wr_lt _ (by simp only [bits, F.VIM_MAP_PID]; omega)).trans (by simp [bits])
  have hother (x : Nat) (hx : x ≠ e) : n.rd (F.VIM_MAP_PID x) = s.rd (F.VIM_MAP_PID x) := by
    rw [hn, State.rd_wr_ne _ _ (by simp only [ne_eq, Fld.key, F.VIM_MAP_PID]; omega),
      State.rd_wr_ne _ _ (by simp only [ne_eq, Fld.key, F.VIM_MAP_INST, F.VIM_MAP_PID]; omega),
      State.rd_wr_ne _ _ (by simp only [ne_eq, Fld.key, F.VIM_MAP_VALID, F.VIM_MAP_PID]; omega)]
  exact ⟨(hst _ (by simp only [Fld.key, F.VIM_MAP_VALID]; omega)).trans hvalid, (hst _ (by simp only [Fld.key, F.VIM_MAP_INST]; omega)).trans hinst,
    (hst _ (by simp only [Fld.key, F.VIM_MAP_PID]; omega)).trans hpid,
    fun x hx => (hst _ (by simp only [Fld.key, F.VIM_MAP_PID]; omega)).trans (hother x hx)⟩

theorem mapEntryWrite_spec {v : Word} (he : e < 4096) (ha : a.attic = true) (hp : (s.tick t).passes (0x41110000 + 4 * e) a true = true) :
    ((s.pidEntry (v.toNat % 2 ^ 20) = none ∨ s.pidEntry (v.toNat % 2 ^ 20) = some e ∨ v.toNat < 2 ^ 31) → Ends (.mapEntryWrite t a e v) s fun s' =>
      s'.rd (F.VIM_MAP_VALID e) = v.toNat / 2 ^ 31 ∧ s'.rd (F.VIM_MAP_INST e) = v.toNat / 2 ^ 24 % 64 ∧
      s'.rd (F.VIM_MAP_PID e) = v.toNat % 2 ^ 20 ∧ ∀ x, x < 4096 → x ≠ e → s'.rd (F.VIM_MAP_PID x) = s.rd (F.VIM_MAP_PID x)) ∧
    (∀ k, s.pidEntry (v.toNat % 2 ^ 20) = some k → k ≠ e → 2 ^ 31 ≤ v.toNat → Ends (.mapEntryWrite t a e v) s fun s' =>
      OnlyRegs s t [F.VIM_STAT_MAP_DUP] s' ∧ s'.rd F.VIM_STAT_MAP_DUP = 1) := by
  have hmay : ((s.tick t).vimMay a (bits v.toNat 29 24) && (!(s.tick t).flag (F.VIM_MAP_VALID e) || (s.tick t).vimMay a ((s.tick t).rd (F.VIM_MAP_INST e)))) = true := by
    rw [State.vimMay_attic ha, State.vimMay_attic ha]; simp
  rw [Nat.mul_comm] at hp
  have hent : (s.tick t).okay.pidEntry (bits v.toNat 19 0) = s.pidEntry (v.toNat % 2 ^ 20) := by
    rw [show bits v.toNat 19 0 = v.toNat % 2 ^ 20 by simp [bits]]
    exact State.pidEntry_congr (s := s) (fun _ _ => rfl) _
  refine ⟨fun h => ?_, fun k hk hke hv => ?_⟩ <;> refine ends_vimWrite (arm_mapEntryWrite ..) (decide_eq_true he) hp hmay ?_
  · dsimp only
    obtain ⟨hv1, hv2, hv3, hv4⟩ := (s.tick t).okay.mapSet_spec e v.toNat v.isLt
    rw [hent, if_neg]
    · exact ⟨hv1, hv2, hv3, fun x _ hx => hv4 x hx⟩
    · rcases h with h | h | h
      · rw [h]; simp
      · rw [h]; simp
      · rw [testBit_31 v.isLt, decide_eq_false (by omega)]; split <;> simp
  · dsimp only
    rw [hent, hk]
    dsimp only
    rw [testBit_31 v.isLt, decide_eq_true hv, if_pos (by simpa using hke)]
    exact onlyRegs_refused rfl

/-! ### The configuration of an instance -/

/-- The fields of VIM_INST_CFG but VALID, written from the Attic. -/
theorem State.writeInstCfg_spec (s : State) {v : Nat} (ha : a.attic = true) (hi : i ≠ 0) :
    (s.writeInstCfg a i v).rd (F.VIM_INST_CFG_WORLD i) = v / 2 ^ 30 % 2 ∧ (s.writeInstCfg a i v).rd (F.VIM_INST_CFG_CPL_HWQ i) = v / 2 ^ 15 % 2 ^ 9 ∧
    (s.writeInstCfg a i v).rd (F.VIM_INST_CFG_WEIGHT i) = max 1 (v % 256) ∧
    RegsBut [F.VIM_INST_CFG_WORLD i, F.VIM_INST_CFG_CPL_HWQ i, F.VIM_INST_CFG_WEIGHT i] s (s.writeInstCfg a i v) ∧
    (s.writeInstCfg a i v).vim = s.vim ∧ (s.writeInstCfg a i v).mem = s.mem ∧ (s.writeInstCfg a i v).now = s.now := by
  have hw : bits v 7 0 = v % 256 := by simp [bits]
  unfold State.writeInstCfg
  rw [if_pos ⟨ha, hi⟩, hw]
  refine ⟨?_, ?_, ?_, (((RegsBut.refl _ s).wr _ (by simp)).wr _ (by simp)).wr _ (by simp), rfl, rfl, rfl⟩
  · rw [State.rd_wr_ne _ _ (by simp only [ne_eq, Fld.key, F.VIM_INST_CFG_WORLD, F.VIM_INST_CFG_WEIGHT]; omega),
      State.rd_wr_ne _ _ (by simp only [ne_eq, Fld.key, F.VIM_INST_CFG_WORLD, F.VIM_INST_CFG_CPL_HWQ]; omega)]
    exact State.rd_wr_lt _ (by simp only [bits, F.VIM_INST_CFG_WORLD]; omega)
  · rw [State.rd_wr_ne _ _ (by simp only [ne_eq, Fld.key, F.VIM_INST_CFG_CPL_HWQ, F.VIM_INST_CFG_WEIGHT]; omega)]
    exact State.rd_wr_lt _ (by simp only [bits, F.VIM_INST_CFG_CPL_HWQ]; omega)
  · exact State.rd_wr_lt _ (by simp only [F.VIM_INST_CFG_WEIGHT]; omega)

/-- The values of an instance that come into force. -/
def Inst.loaded (s : State) (i : Nat) (x : Inst) : Inst := { x with
  weight := s.rd (F.VIM_INST_CFG_WEIGHT i), limited := i != 0 && s.flag (F.VIM_INST_CIR_LIM_EN i), cir := s.rd (F.VIM_INST_CIR_CIR i),
  pir := max (s.rd (F.VIM_INST_CIR_CIR i)) (s.rd (F.VIM_INST_PIR_PIR i)), cbs := s.rd (F.VIM_INST_BURST_CBS i),
  pbs := s.rd (F.VIM_INST_BURST_PBS i) }

theorem State.loadInst_eq (s : State) (i : Nat) : s.loadInst i = (s.wr (F.VIM_INST_QSHARE_QSHARE_EFF i) (s.rd (F.VIM_INST_QSHARE_QSHARE i))).modInst i
    (Inst.loaded s i) := rfl

/-- The state with an instance configured and in force. -/
def State.instSet (s : State) (a : Attr) (i v : Nat) : State :=
  ((((s.writeInstCfg a i v).setF (F.VIM_INST_CFG_VALID i)).loadInst i).modInst i fun x => { x with state := .active, filled := s.now }).lastResult i 0

theorem State.instSet_spec (s : State) {v : Nat} (ha : a.attic = true) (hi : i ≠ 0) :
    ((s.instSet a i v).inst i).state = .active ∧ (s.instSet a i v).rd (F.VIM_INST_CFG_VALID i) = 1 ∧ (s.instSet a i v).mem = s.mem ∧
    (s.instSet a i v).rd (F.VIM_INST_CFG_WORLD i) = v / 2 ^ 30 % 2 ∧ (s.instSet a i v).rd (F.VIM_INST_CFG_CPL_HWQ i) = v / 2 ^ 15 % 2 ^ 9 ∧
    (s.instSet a i v).rd (F.VIM_INST_CFG_WEIGHT i) = max 1 (v % 256) ∧ (∀ x, x ≠ i → (s.instSet a i v).inst x = s.inst x) ∧
    (s.instSet a i v).rd (F.VIM_INST_QSHARE_QSHARE_EFF i) = s.rd (F.VIM_INST_QSHARE_QSHARE i) % 1024 := by
  obtain ⟨hw, hc, hg, hrd, hvim, hmem, -⟩ := s.writeInstCfg_spec (v := v) ha hi
  unfold State.instSet
  generalize s.writeInstCfg a i v = n at hw hc hg hrd hvim hmem
  rw [State.loadInst_eq]
  obtain ⟨m, hm⟩ : ∃ m, m = n.setF (F.VIM_INST_CFG_VALID i) := ⟨_, rfl⟩
  have hq : m.rd (F.VIM_INST_QSHARE_QSHARE i) = s.rd (F.VIM_INST_QSHARE_QSHARE i) := by
    rw [hm, State.rd_setF_ne _ (by simp only [ne_eq, Fld.key, F.VIM_INST_CFG_VALID, F.VIM_INST_QSHARE_QSHARE]; omega)]
    exact hrd.rd (by simp [Fld.key, F.VIM_INST_CFG_WORLD, F.VIM_INST_CFG_CPL_HWQ, F.VIM_INST_CFG_WEIGHT, F.VIM_INST_QSHARE_QSHARE]; omega)
  obtain ⟨hmvim, hmmem⟩ : m.vim = s.vim ∧ m.mem = s.mem := by rw [hm]; exact ⟨hvim, hmem⟩
  rw [← hm, hq]
  obtain ⟨r, hr⟩ : ∃ r, r = (((m.wr (F.VIM_INST_QSHARE_QSHARE_EFF i) (s.rd (F.VIM_INST_QSHARE_QSHARE i))).modInst i (Inst.loaded m i)).modInst i
      fun x => { x with state := .active, filled := s.now }).lastResult i 0 := ⟨_, rfl⟩
  have hrr : RegsBut [F.VIM_INST_CFG_VALID i, F.VIM_INST_QSHARE_QSHARE_EFF i, F.VIM_INST_STAT_LAST_RESULT i] n r := by
    rw [hr, hm]
    exact ((((RegsBut.refl _ n).wr _ (by simp)).wr _ (by simp)).of_regs (s'' := (((n.setF (F.VIM_INST_CFG_VALID i)).wr
      (F.VIM_INST_QSHARE_QSHARE_EFF i) (s.rd (F.VIM_INST_QSHARE_QSHARE i))).modInst i (Inst.loaded _ i)).modInst i
      fun x => { x with state := .active, filled := s.now }) rfl).wr 0 (by simp)
  have hvalid : r.rd (F.VIM_INST_CFG_VALID i) = 1 := by
    rw [hr, State.lastResult, State.rd_wr_ne _ _ (by simp only [ne_eq, Fld.key, F.VIM_INST_CFG_VALID, F.VIM_INST_STAT_LAST_RESULT]; omega)]
    rw [State.rd_modInst, State.rd_modInst, State.rd_wr_ne _ _ (by simp only [ne_eq, Fld.key, F.VIM_INST_CFG_VALID, F.VIM_INST_QSHARE_QSHARE_EFF]; omega), hm]
    exact State.rd_setF_self ..
  have heff : r.rd (F.VIM_INST_QSHARE_QSHARE_EFF i) = s.rd (F.VIM_INST_QSHARE_QSHARE i) % 1024 := by
    rw [hr, State.lastResult, State.rd_wr_ne _ _ (by simp only [ne_eq, Fld.key, F.VIM_INST_QSHARE_QSHARE_EFF, F.VIM_INST_STAT_LAST_RESULT]; omega)]
    rw [State.rd_modInst, State.rd_modInst]; exact State.rd_wr_self ..
  have hst : (r.inst i).state = .active := by
    rw [hr, State.lastResult, State.inst_congr (State.wr_vim ..), State.inst_modInst_self]
  have hot (x : Nat) (hx : x ≠ i) : r.inst x = s.inst x := by
    rw [hr, State.lastResult, State.inst_congr (State.wr_vim ..), State.inst_modInst_ne _ _ hx.symm, State.inst_modInst_ne _ _ hx.symm]
    exact State.inst_congr (s := s) hmvim x
  have hrm : r.mem = s.mem := by rw [hr]; exact hmmem
  rw [← hr]
  refine ⟨hst, hvalid, hrm, (hrr.rd ?_).trans hw, (hrr.rd ?_).trans hc, (hrr.rd ?_).trans hg, hot, heff⟩
  · simp [Fld.key, F.VIM_INST_CFG_VALID, F.VIM_INST_QSHARE_QSHARE_EFF, F.VIM_INST_STAT_LAST_RESULT, F.VIM_INST_CFG_WORLD]; omega
  · simp [Fld.key, F.VIM_INST_CFG_VALID, F.VIM_INST_QSHARE_QSHARE_EFF, F.VIM_INST_STAT_LAST_RESULT, F.VIM_INST_CFG_CPL_HWQ]; omega
  · simp [Fld.key, F.VIM_INST_CFG_VALID, F.VIM_INST_QSHARE_QSHARE_EFF, F.VIM_INST_STAT_LAST_RESULT, F.VIM_INST_CFG_WEIGHT]; omega

/-- What a write of VIM_INST_CFG with a queue that may be CPL_HWQ does (*Table: Instance states*), by the state and VALID. -/
def State.instWritten (s : State) (a : Attr) (i v : Nat) : InstState → Bool → State
  | .free, true =>
    if 512 < s.otherShares i + s.rd (F.VIM_INST_QSHARE_QSHARE i) ∨
        s.windowMeets i (s.rd (F.VIM_INST_FLT_FLT_BASE i)) (s.rd (F.VIM_INST_FLT_FLT_CNT i)) then
      s.raise F.VIM_STAT_SHARE_REFUSED
    else s.instSet a i v
  | .free, false => s.writeInstCfg a i v
  | .active, false =>
    if s.ownsNothing i then
      (((s.writeInstCfg a i v).clrF (F.VIM_INST_CFG_VALID i)).modInst i fun _ => Inst.init).lastResult i 0
    else s.lastResult i 1
  | _, true => s.writeInstCfg a i v
  | _, false => s.lastResult i 1

section
variable {v : Word} (hi : i < 64) (ha : a.attic = true) (hp : (s.tick t).passes (0x41101000 + 64 * i) a true = true) (h0 : i ≠ 0)
include hi ha hp

theorem instCfgWrite_badQueue (hc : s.cplOk i (v.toNat / 2 ^ 15 % 2 ^ 9) = false) : Ends (.instCfgWrite t a i v) s fun s' =>
    OnlyRegs s t [F.VIM_STAT_SHARE_REFUSED] s' ∧ s'.rd F.VIM_STAT_SHARE_REFUSED = 1 := by
  rw [Nat.mul_comm] at hp
  refine ends_vimWrite (arm_instCfgWrite ..) (decide_eq_true hi) hp (State.vimMay_attic ha _ i) ?_
  have hc' : (!(s.tick t).okay.cplOk i (bits v.toNat 23 15)) = true := by
    rw [show (s.tick t).okay.cplOk i (bits v.toNat 23 15) = false from hc]; rfl
  rw [if_pos hc']
  exact onlyRegs_refused rfl

include h0

/-- With a queue that may be CPL_HWQ the write goes by the instance's state and VALID. -/
theorem ends_instCfg (hc : s.cplOk i (v.toNat / 2 ^ 15 % 2 ^ 9) = true) {st : InstState} (hs : (s.inst i).state = st) {b : Bool}
    (hb : decide (2 ^ 31 ≤ v.toNat) = b) : Ends (.instCfgWrite t a i v) s fun s' => s' = (s.tick t).okay.instWritten a i v.toNat st b := by
  rw [Nat.mul_comm] at hp
  refine ends_vimWrite (arm_instCfgWrite ..) (decide_eq_true hi) hp (State.vimMay_attic ha _ i) ?_
  have hc' : ¬ (!(s.tick t).okay.cplOk i (bits v.toNat 23 15)) = true := by
    rw [show (s.tick t).okay.cplOk i (bits v.toNat 23 15) = true from hc]; simp
  rw [if_neg hc', if_neg h0, testBit_31 v.isLt, hb, show ((s.tick t).okay.inst i).state = st from hs]
  cases st <;> cases b <;> rfl

theorem instCfgWrite_spec (hc : s.cplOk i (v.toNat / 2 ^ 15 % 2 ^ 9) = true) {fits : Prop}
    (hf : fits ↔ s.otherShares i + s.rd (F.VIM_INST_QSHARE_QSHARE i) ≤ 512 ∧
      s.windowMeets i (s.rd (F.VIM_INST_FLT_FLT_BASE i)) (s.rd (F.VIM_INST_FLT_FLT_CNT i)) = false) :
    ((s.inst i).state = .free → 2 ^ 31 ≤ v.toNat → fits → Ends (.instCfgWrite t a i v) s fun s' =>
      (s'.inst i).state = .active ∧ s'.rd (F.VIM_INST_CFG_VALID i) = 1 ∧ s'.mem = s.mem ∧
      s'.rd (F.VIM_INST_CFG_WORLD i) = v.toNat / 2 ^ 30 % 2 ∧ s'.rd (F.VIM_INST_CFG_CPL_HWQ i) = v.toNat / 2 ^ 15 % 2 ^ 9 ∧
      s'.rd (F.VIM_INST_CFG_WEIGHT i) = max 1 (v.toNat % 256) ∧ (∀ x, x ≠ i → s'.inst x = s.inst x) ∧
      s'.rd (F.VIM_INST_QSHARE_QSHARE_EFF i) = s.rd (F.VIM_INST_QSHARE_QSHARE i) % 1024) ∧
    ((s.inst i).state = .free → 2 ^ 31 ≤ v.toNat → ¬ fits → Ends (.instCfgWrite t a i v) s fun s' =>
      OnlyRegs s t [F.VIM_STAT_SHARE_REFUSED] s' ∧ s'.rd F.VIM_STAT_SHARE_REFUSED = 1) ∧
    ((s.inst i).state = .active → v.toNat < 2 ^ 31 → s.ownsNothing i = true → Ends (.instCfgWrite t a i v) s fun s' =>
      (s'.inst i).state = .free ∧ s'.rd (F.VIM_INST_CFG_VALID i) = 0) ∧
    ((s.inst i).state = .active → v.toNat < 2 ^ 31 → s.ownsNothing i = false → Ends (.instCfgWrite t a i v) s fun s' =>
      OnlyRegs s t [F.VIM_INST_STAT_LAST_RESULT i] s' ∧ s'.rd (F.VIM_INST_STAT_LAST_RESULT i) = 1) := by
  have hbad : (512 < s.otherShares i + s.rd (F.VIM_INST_QSHARE_QSHARE i) ∨
      s.windowMeets i (s.rd (F.VIM_INST_FLT_FLT_BASE i)) (s.rd (F.VIM_INST_FLT_FLT_CNT i)) = true) ↔ ¬ fits := by
    rw [hf, not_and_or, not_le, Bool.not_eq_false]
  have hbad' : (512 < (s.tick t).okay.otherShares i + (s.tick t).okay.rd (F.VIM_INST_QSHARE_QSHARE i) ∨
      (s.tick t).okay.windowMeets i ((s.tick t).okay.rd (F.VIM_INST_FLT_FLT_BASE i)) ((s.tick t).okay.rd (F.VIM_INST_FLT_FLT_CNT i)) = true) ↔ ¬ fits := hbad
  refine ⟨fun hs hv hfit => (ends_instCfg hi ha hp h0 hc hs (decide_eq_true hv)).mono ?_,
    fun hs hv hfit => (ends_instCfg hi ha hp h0 hc hs (decide_eq_true hv)).mono ?_,
    fun hs hv ho => (ends_instCfg hi ha hp h0 hc hs (decide_eq_false (by omega))).mono ?_,
    fun hs hv ho => (ends_instCfg hi ha hp h0 hc hs (decide_eq_false (by omega))).mono ?_⟩ <;> rintro _ rfl
  · rw [State.instWritten, if_neg fun h => hbad'.1 h hfit]
    exact (s.tick t).okay.instSet_spec ha h0
  · rw [State.instWritten, if_pos (hbad'.2 hfit)]
    exact onlyRegs_refused rfl
  · have ho' : (s.tick t).okay.ownsNothing i = true := ho
    rw [State.instWritten, if_pos ho']
    refine ⟨?_, ?_⟩
    · rw [State.lastResult, State.inst_congr (State.wr_vim ..), State.inst_modInst_self]; rfl
    · rw [State.lastResult, State.rd_wr_ne _ _ (by simp only [ne_eq, Fld.key, F.VIM_INST_CFG_VALID, F.VIM_INST_STAT_LAST_RESULT]; omega), State.rd_modInst]
      exact State.rd_clrF_self ..
  · have ho' : ¬ (s.tick t).okay.ownsNothing i = true := Bool.eq_false_iff.1 ho
    rw [State.instWritten, if_neg ho']
    exact ⟨(OnlyRegs.tick s t _).okay.wr _ (by simp), State.rd_wr_self ..⟩

end

/-! ### The window of a pool queue -/

theorem State.settleShares_only (s : State) : RegsOnly s s.settleShares :=
  RegsOnly.foldl (fun s i => by split <;> [exact .wr s _ _; exact .refl s]) _ s

/-- OVERSHARE is all that a settlement of shares clears. -/
theorem State.rd_settleShares (s : State) {f : Fld} (h : ∀ i, (F.VIM_INST_STAT_OVERSHARE i).key ≠ f.key) : s.settleShares.rd f = s.rd f :=
  foldl_keeps (fun s : State => s.rd f) (fun s i => by split <;> [exact s.rd_clrF_ne (h i); rfl]) _ s

section
variable (hq : q < 384)
include hq

theorem hwqPush_begins {v : Word} (hw : s.windowMay a q = true) (hp : (s.tick t).passes (0x41120008 + 16 * q) a true = true)
    (hn : (s.pool q).pushing = none) (h0 : v.toNat % 4096 ≠ 0) : Ends (.hwqPush t a q v) s fun s' => s'.regs = s.regs ∧
      s'.pool q = { s.pool q with pushing := some (a.inst, v.toNat / 2 ^ 18 % 256, v.toNat % 4096, []) } ∧
      ∀ x, x ≠ q → s'.pool x = s.pool x := by
  refine ends_unit_guarded (arm_hwqPush ..) (decide_eq_true (by omega)) hp rfl ?_
  have hw' : ¬ (!(s.tick t).okay.windowMay a q) = true := by rw [show (s.tick t).okay.windowMay a q = true from hw]; simp
  have hn' : ((s.tick t).okay.pool q).pushing = none := hn
  have hlen : bits v.toNat 11 0 = v.toNat % 4096 := by simp [bits]
  rw [if_neg (not_le.2 hq), if_neg hw', hn']
  dsimp only
  rw [hlen, if_neg (by simpa using h0.symm)]
  exact ⟨rfl, State.pool_modPool_self .., fun x hx => State.pool_modPool_ne _ _ hx⟩

theorem hwqPush_offers {v : Word} {i j n : Nat} {ws : List Nat} (hw : s.windowMay a q = true) (hp : (s.tick t).passes (0x41120008 + 16 * q) a true = true)
    (hn : (s.pool q).pushing = some (i, j, n, ws)) (hl : ws.length + 1 = n) : Ends (.hwqPush t a q v) s fun s' =>
      s' = (s.tick t).okay.windowOffer q ⟨i, j, ws ++ [v.toNat]⟩ := by
  refine ends_unit_guarded (arm_hwqPush ..) (decide_eq_true (by omega)) hp rfl ?_
  have hw' : ¬ (!(s.tick t).okay.windowMay a q) = true := by rw [show (s.tick t).okay.windowMay a q = true from hw]; simp
  have hn' : ((s.tick t).okay.pool q).pushing = some (i, j, n, ws) := hn
  rw [if_neg (not_le.2 hq), if_neg hw', hn']
  dsimp only
  rw [if_pos (by rw [List.length_append]; exact hl)]

theorem State.windowOffer_ok (s : State) {en : Entry} (h : (s.modPool q fun y => { y with pushing := none }).admission q en.size = .ok) :
    (s.windowOffer q en).rd (F.VIM_HWQ_STAT_LAST_RES q) = 0 ∧ (s.windowOffer q en).mem = s.mem ∧
    (s.windowOffer q en).pool q = { s.pool q with pushing := none, entries := (s.pool q).entries ++ [en] } := by
  obtain ⟨m, hm⟩ : ∃ m, m = s.modPool q fun y => { y with pushing := none } := ⟨_, rfl⟩
  have hx : s.windowOffer q en = (m.poolPut q en).wr (F.VIM_HWQ_STAT_LAST_RES q) 0 := by
    unfold State.windowOffer; dsimp only; rw [← hm] at h ⊢
    unfold State.offer; rw [if_pos hq, h]; rfl
  have hmp : m.pool q = { s.pool q with pushing := none } := by rw [hm]; exact State.pool_modPool_self ..
  have hmm : m.mem = s.mem := by rw [hm]; rfl
  rw [hx]
  refine ⟨(State.rd_wr_self ..).trans (Nat.zero_mod _), hmm, ?_⟩
  have hput : ((m.poolPut q en).wr (F.VIM_HWQ_STAT_LAST_RES q) 0).pool q = { m.pool q with entries := (m.pool q).entries ++ [en] } :=
    m.pool_modPool_self q fun p => { p with entries := p.entries ++ [en] }
  rw [hput, hmp]

theorem State.windowOffer_full (s : State) {en : Entry} (h : (s.modPool q fun y => { y with pushing := none }).admission q en.size = .full) :
    (s.windowOffer q en).rd (F.VIM_HWQ_STAT_LAST_RES q) = 4 ∧ (s.windowOffer q en).pool q = { s.pool q with pushing := none } := by
  have hx : s.windowOffer q en = (s.modPool q fun y => { y with pushing := none }).wr (F.VIM_HWQ_STAT_LAST_RES q) 4 := by
    unfold State.windowOffer State.offer; dsimp only; rw [if_pos hq, h]; rfl
  rw [hx]
  exact ⟨State.rd_wr_lt _ (by simp [F.VIM_HWQ_STAT_LAST_RES]), s.pool_modPool_self q fun y => { y with pushing := none }⟩

theorem hwqPop_head {peek : Bool} {en : Entry} {es : List Entry} (hw : s.windowMay a q = true)
    (hp : (s.tick t).passes (0x4112000C + 16 * q + if peek then 0x8000 else 0) a false = true) (hb : (s.pool q).body = [])
    (he : (s.pool q).entries = en :: es) (hs : 0 < (s.tick t).settled (popAddr q) (es.length + 1)) : Ends (.hwqPop t a q peek) s fun s' =>
      s'.resp = ⟨0, headerWord en.inst en.status en.payload.length⟩ ∧ (peek = true → s'.vim = s.vim ∧ s'.regs = s.regs) ∧
      (peek = false → s'.pool q = { s.pool q with body := en.payload, bodyInst := en.inst, entries := es }) := by
  have hp' : (s.tick t).passes (rsAddr (popAddr q) peek) a false = true := by cases peek <;> exact hp
  have hw' : ¬ (!(s.tick t).okay.windowMay a q) = true := by rw [show (s.tick t).okay.windowMay a q = true from hw]; simp
  have hpop : (s.tick t).okay.popWord q = (headerWord en.inst en.status en.payload.length,
      { s.pool q with body := en.payload, bodyInst := en.inst, entries := es }) := by
    have hset : (s.tick t).okay.settled (popAddr q) (es.length + 1) ≠ 0 := Nat.ne_of_gt hs
    obtain ⟨p, hpq⟩ : ∃ p, p = s.pool q := ⟨_, rfl⟩
    rw [← hpq] at hb he ⊢
    have hpq' : (s.tick t).okay.pool q = p := hpq.symm
    unfold State.popWord; dsimp only
    rw [hpq', he, List.length_cons, if_neg (fun h => hset h.2), Pool.pop, hb, he]
  refine ends_unit_guarded_eq (arm_hwqPop ..) (decide_eq_true (by omega)) hp' rfl (x := (if peek then (s.tick t).okay else
    ((s.tick t).okay.modPool q fun _ => { s.pool q with body := en.payload, bodyInst := en.inst, entries := es }).settleShares).answer 0
      (headerWord en.inst en.status en.payload.length)) ?_ ?_
  · rw [if_neg (not_le.2 hq), if_neg hw', hpop]
  · cases peek
    · refine ⟨rfl, fun h => absurd h (by simp), fun _ => ?_⟩
      obtain ⟨r, hr⟩ := ((s.tick t).okay.modPool q fun _ => { s.pool q with body := en.payload, bodyInst := en.inst, entries := es }).settleShares_only
      rw [if_neg (by simp), hr]
      exact (s.tick t).okay.pool_modPool_self q fun _ => { s.pool q with body := en.payload, bodyInst := en.inst, entries := es }
    · exact ⟨rfl, fun _ => ⟨rfl, rfl⟩, fun h => absurd h (by simp)⟩

end

/-! ### The dispatcher -/

theorem State.readyHead_tick (s : State) (t q : Nat) : (s.tick t).readyHead q = s.readyHead q := rfl

theorem State.nextOf_tick (s : State) (t i : Nat) : (s.tick t).nextOf i = s.nextOf i := by
  unfold State.nextOf State.readyFor
  simp only [State.readyHead_tick]; rfl

@[simp] theorem Engine.port_modPort_self (x : Engine) (k : Nat) (f : Port → Port) : (x.modPort k f).port k = f (x.port k) := Tbl.getD_put_self ..

/-- The entry at the head of the chosen queue leaves the queue and enters its port. -/
theorem State.moveEntry_spec (s : State) {i q n j p : Nat} {en : Entry} {es : List Entry} (hx : s.nextOf i = some (q, n, j, p))
    (he : (s.pool q).entries = en :: es) : ((s.moveEntry i).pool q).entries = es ∧
      (((s.moveEntry i).eng j).port p).entries = ((s.eng j).port p).entries ++ [en] ∧ (s.moveEntry i).mem = s.mem := by
  obtain ⟨y, z, f, h, hy, hz⟩ : ∃ (y z : State) (f : Inst → Inst), s.moveEntry i = (z.modInst i f).settleShares ∧ (y.pool q = s.pool q ∧ y.eng j = s.eng j ∧ y.mem = s.mem) ∧
      z = (y.modPool q fun x => { x with entries := es }).modEng j fun x => x.modPort p fun y => { y with entries := y.entries ++ [en] } := by
    unfold State.moveEntry; rw [hx]; dsimp only; rw [he]
    refine ⟨_, _, _, rfl, ?_, rfl⟩
    split <;> exact ⟨rfl, rfl, rfl⟩
  obtain ⟨hyp, hye, hym⟩ := hy
  have hzp : (z.pool q).entries = es := by
    rw [hz]; exact congrArg Pool.entries (y.pool_modPool_self q fun x => { x with entries := es })
  have hze : (z.eng j).port p = { (s.eng j).port p with entries := ((s.eng j).port p).entries ++ [en] } := by
    rw [hz, State.eng_modEng_self, Engine.port_modPort_self]
    change { (y.eng j).port p with entries := ((y.eng j).port p).entries ++ [en] } = _
    rw [hye]
  have hzm : z.mem = s.mem := by rw [hz]; exact hym
  obtain ⟨r, hr⟩ := (z.modInst i f).settleShares_only
  rw [h, hr]
  exact ⟨hzp, congrArg Port.entries hze, hzm⟩

theorem dispatchEntry_first {n j p : Nat} {en : Entry} {es : List Entry} (hx : s.nextOf 0 = some (q, n, j, p)) (he : (s.pool q).entries = en :: es) :
    Ends (.dispatchEntry t) s fun s' => (s'.pool q).entries = es ∧ ((s'.eng j).port p).entries = ((s.eng j).port p).entries ++ [en] ∧ s'.mem = s.mem := by
  have hx' : (s.tick t).nextOf 0 = some (q, n, j, p) := (s.nextOf_tick t 0).trans hx
  refine ends_next_eq (arm_dispatchEntry ..) (x := (s.tick t).moveEntry 0) ?_ ((s.tick t).moveEntry_spec hx' he)
  rw [hx', Option.isSome_some, if_pos rfl]

theorem dispatchEntry_idle (h : ∀ x, x < 64 → s.nextOf x = none) : Ends (.dispatchEntry t) s fun s' => s' = s.tick t := by
  have hin (tr : Tier) : (List.range 64).any (fun i => i != 0 && ((s.tick t).nextIn tr i).isSome) = false := by
    rw [List.any_eq_false]
    intro x hx
    have hn : (s.tick t).nextOf x = none := (s.nextOf_tick t x).trans (h x (List.mem_range.1 hx))
    unfold State.nextIn; rw [hn]; simp
  refine ends_next_eq (arm_dispatchEntry ..) (x := s.tick t) ?_ rfl
  rw [s.nextOf_tick, h 0 (by omega), hin, hin]; rfl

/-! ### The round start -/

/-- A fold that visits an index once: what holds before the visit, and what the visit makes of it, stand at the others. -/
theorem foldl_visit {σ : Type} {g : σ → Nat → σ} {Pre Post : σ → Prop} {i : Nat} (hpre : ∀ s j, j ≠ i → Pre s → Pre (g s j))
    (hpost : ∀ s j, j ≠ i → Post s → Post (g s j)) (hi : ∀ s, Pre s → Post (g s i)) {l : List Nat} (hnd : l.Nodup) (hm : i ∈ l) {s : σ}
    (hs : Pre s) : Post (l.foldl g s) := by
  induction l generalizing s with
  | nil => exact nomatch hm
  | cons j l ih =>
    obtain ⟨hj, hl⟩ := List.nodup_cons.1 hnd
    by_cases hji : j = i
    · subst hji
      have keeps : ∀ (l : List Nat) (s : σ), j ∉ l → Post s → Post (l.foldl g s) := by
        intro l
        induction l with
        | nil => exact fun _ _ h => h
        | cons k l ihl =>
          intro s hk h
          obtain ⟨hkj, hkl⟩ := not_or.1 (mt List.mem_cons.2 hk)
          exact ihl _ hkl (hpost s k (Ne.symm hkj) h)
      exact keeps l _ hj (hi s hs)
    · exact ih hl ((List.mem_cons.1 hm).resolve_left (Ne.symm hji)) (hpre s j hji hs)

/-- The keys that a round start writes: QSHARE_EFF and OVERSHARE of instances. -/
def RoundKey (k : Nat) : Prop := ∃ j, k = (F.VIM_INST_QSHARE_QSHARE_EFF j).key ∨ k = (F.VIM_INST_STAT_OVERSHARE j).key

/-- An instance whose deficit and buckets keep within its new values (R330); `w` is its weight before. -/
def Inst.clipped (w : Nat) (x : Inst) : Inst := { x with
  deficit := if x.weight ≠ w then min x.deficit (256 * x.weight) else x.deficit
  committed := min x.committed (x.cbs * 8192000), peak := min x.peak (x.pbs * 8192000) }

/-- What the visit of instance i changes, `n` after, `s` before. -/
theorem State.roundInst_spec (s : State) (i : Nat) : RegsBut [F.VIM_INST_QSHARE_QSHARE_EFF i, F.VIM_INST_STAT_OVERSHARE i] s (s.roundInst i) ∧
    (s.roundInst i).rd (F.VIM_INST_QSHARE_QSHARE_EFF i) = s.rd (F.VIM_INST_QSHARE_QSHARE i) % 1024 ∧
    (∀ x, x ≠ i → (s.roundInst i).inst x = s.inst x) ∧
    (((s.roundInst i).inst i).weight = s.rd (F.VIM_INST_CFG_WEIGHT i) ∧ ((s.roundInst i).inst i).cir = s.rd (F.VIM_INST_CIR_CIR i) ∧
      ((s.roundInst i).inst i).pir = max (s.rd (F.VIM_INST_CIR_CIR i)) (s.rd (F.VIM_INST_PIR_PIR i))) ∧
    (s.roundInst i).vim.pools = s.vim.pools ∧ (s.roundInst i).vim.start = s.vim.start ∧ (s.roundInst i).mem = s.mem := by
  obtain ⟨m, n, g, h, hg, hm, hn⟩ : ∃ (m n : State) (g : Inst → Inst), (s.roundInst i = m ∨ s.roundInst i = m.setF (F.VIM_INST_STAT_OVERSHARE i)) ∧
      (∀ x, (g x).weight = x.weight ∧ (g x).cir = x.cir ∧ (g x).pir = x.pir) ∧ m = n.modInst i g ∧
      n = (s.modInst i fun x => x.fillTo s.now).loadInst i := by
    unfold State.roundInst
    refine ⟨_, _, Inst.clipped (s.inst i).weight, ?_, fun x => ⟨rfl, rfl, rfl⟩, rfl, rfl⟩
    dsimp only; split <;> [exact .inr rfl; exact .inl rfl]
  rw [State.loadInst_eq] at hn
  have hnrd : RegsBut [F.VIM_INST_QSHARE_QSHARE_EFF i] s n := by
    rw [hn]; exact (RegsBut.wr (RegsBut.refl _ s) _ (by simp)).of_regs rfl
  have hneff : n.rd (F.VIM_INST_QSHARE_QSHARE_EFF i) = s.rd (F.VIM_INST_QSHARE_QSHARE i) % 1024 := by
    rw [hn]; exact State.rd_wr_self ..
  have hnother (x : Nat) (hx : x ≠ i) : n.inst x = s.inst x := by
    rw [hn, State.inst_modInst_ne _ _ hx.symm, State.inst_congr (State.wr_vim ..), State.inst_modInst_ne _ _ hx.symm]
  have hnself : (n.inst i).weight = s.rd (F.VIM_INST_CFG_WEIGHT i) ∧ (n.inst i).cir = s.rd (F.VIM_INST_CIR_CIR i) ∧
      (n.inst i).pir = max (s.rd (F.VIM_INST_CIR_CIR i)) (s.rd (F.VIM_INST_PIR_PIR i)) := by
    rw [hn, State.inst_modInst_self]; exact ⟨rfl, rfl, rfl⟩
  have hnp : n.vim.pools = s.vim.pools ∧ n.vim.start = s.vim.start ∧ n.mem = s.mem := by rw [hn]; exact ⟨rfl, rfl, rfl⟩
  have hmrd (f : Fld) : m.rd f = n.rd f := by rw [hm]; rfl
  have hmother (x : Nat) (hx : x ≠ i) : m.inst x = s.inst x := by rw [hm, State.inst_modInst_ne _ _ hx.symm, hnother x hx]
  have hmself : (m.inst i).weight = (n.inst i).weight ∧ (m.inst i).cir = (n.inst i).cir ∧ (m.inst i).pir = (n.inst i).pir := by
    rw [hm, State.inst_modInst_self]; exact hg _
  have hmp : m.vim.pools = n.vim.pools ∧ m.vim.start = n.vim.start ∧ m.mem = n.mem := by rw [hm]; exact ⟨rfl, rfl, rfl⟩
  have hrm : RegsBut [F.VIM_INST_STAT_OVERSHARE i] m (s.roundInst i) ∧ (s.roundInst i).vim = m.vim ∧ (s.roundInst i).mem = m.mem := by
    rcases h with h | h <;> rw [h]
    · exact ⟨.refl _ m, rfl, rfl⟩
    · exact ⟨(RegsBut.refl _ m).wr _ (by simp), rfl, rfl⟩
  obtain ⟨rrd, rvim, rmem⟩ := hrm
  have hinst := State.inst_congr rvim
  refine ⟨fun f hf => ?_, ?_, fun x hx => (hinst x).trans (hmother x hx), ?_, ?_, ?_, ?_⟩
  · simp only [List.map_cons, List.map_nil, List.mem_cons, List.not_mem_nil, or_false, not_or] at hf
    exact (rrd f (by simpa using hf.2)).trans ((hmrd f).trans (hnrd f (by simpa using hf.1)))
  · exact (rrd.rd (by simp [Fld.key, F.VIM_INST_STAT_OVERSHARE, F.VIM_INST_QSHARE_QSHARE_EFF]; omega)).trans ((hmrd _).trans hneff)
  · rw [hinst, hmself.1, hmself.2.1, hmself.2.2]; exact hnself
  · rw [rvim, hmp.1, hnp.1]
  · rw [rvim, hmp.2.1, hnp.2.1]
  · rw [rmem, hmp.2.2, hnp.2.2]

/-- The visit of an instance that is VALID. -/
def State.roundVisit (s : State) (i : Nat) : State := if s.flag (F.VIM_INST_CFG_VALID i) then s.roundInst i else s

theorem State.roundVisit_stands (s : State) (i : Nat) : Stands RoundKey s (s.roundVisit i) := by
  refine Stands.ite (fun f hf => (s.roundInst_spec i).1.rd ?_) (.refl _ s)
  simpa [eq_comm] using ⟨fun e => hf ⟨i, .inl e⟩, fun e => hf ⟨i, .inr e⟩⟩

theorem State.roundVisit_other (s : State) {i x : Nat} (hx : x ≠ i) : (s.roundVisit i).inst x = s.inst x ∧
    (s.roundVisit i).rd (F.VIM_INST_QSHARE_QSHARE_EFF x) = s.rd (F.VIM_INST_QSHARE_QSHARE_EFF x) := by
  unfold State.roundVisit; split
  · obtain ⟨hrd, -, ho, -⟩ := s.roundInst_spec i
    exact ⟨ho x hx, hrd.rd (by simp [Fld.key, F.VIM_INST_QSHARE_QSHARE_EFF, F.VIM_INST_STAT_OVERSHARE]; omega)⟩
  · exact ⟨rfl, rfl⟩

theorem State.foldl_roundVisit (l : List Nat) (s : State) : (l.foldl State.roundVisit s).vim.pools = s.vim.pools ∧
    (l.foldl State.roundVisit s).vim.start = s.vim.start ∧ (l.foldl State.roundVisit s).mem = s.mem := by
  have hone (s : State) (i : Nat) : (s.roundVisit i).vim.pools = s.vim.pools ∧ (s.roundVisit i).vim.start = s.vim.start ∧ (s.roundVisit i).mem = s.mem := by
    unfold State.roundVisit; split
    · obtain ⟨-, -, -, -, hp, hs, hm⟩ := s.roundInst_spec i
      exact ⟨hp, hs, hm⟩
    · exact ⟨rfl, rfl, rfl⟩
  exact ⟨foldl_keeps (fun s : State => s.vim.pools) (fun s i => (hone s i).1) l s, foldl_keeps (fun s : State => s.vim.start) (fun s i => (hone s i).2.1) l s,
    foldl_keeps (fun s : State => s.mem) (fun s i => (hone s i).2.2) l s⟩

/-- The values of instance i that the registers of `s` hold are in force in `n`. -/
def InForce (s n : State) (i : Nat) : Prop := n.rd (F.VIM_INST_QSHARE_QSHARE_EFF i) = s.rd (F.VIM_INST_QSHARE_QSHARE i) % 1024 ∧
  (n.inst i).weight = s.rd (F.VIM_INST_CFG_WEIGHT i) ∧ (n.inst i).cir = s.rd (F.VIM_INST_CIR_CIR i) ∧
  (n.inst i).pir = max (s.rd (F.VIM_INST_CIR_CIR i)) (s.rd (F.VIM_INST_PIR_PIR i))

theorem State.foldl_roundVisit_inForce (s : State) (hi : i < 64) (hv : s.rd (F.VIM_INST_CFG_VALID i) ≠ 0) :
    InForce s ((List.range 64).foldl State.roundVisit s) i := by
  have hnot {f : Fld} (h₁ : ∀ j, f.key ≠ (F.VIM_INST_QSHARE_QSHARE_EFF j).key) (h₂ : ∀ j, f.key ≠ (F.VIM_INST_STAT_OVERSHARE j).key) : ¬ RoundKey f.key := by
    rintro ⟨j, h | h⟩ <;> [exact h₁ j h; exact h₂ j h]
  refine foldl_visit (Pre := Stands RoundKey s) (Post := fun n => InForce s n i) (fun n j _ h => h.trans (n.roundVisit_stands j)) (fun n j hj h => ?_) (fun n h => ?_)
    List.nodup_range (List.mem_range.2 hi) (.refl _ s)
  · obtain ⟨hin, heff⟩ := n.roundVisit_other (Ne.symm hj)
    obtain ⟨h1, h2, h3, h4⟩ := h
    exact ⟨heff.trans h1, by rw [hin]; exact h2, by rw [hin]; exact h3, by rw [hin]; exact h4⟩
  · have hval : n.flag (F.VIM_INST_CFG_VALID i) = true := by
      rw [State.flag_eq_true, h _ (hnot (fun j => by simp only [ne_eq, Fld.key, F.VIM_INST_CFG_VALID, F.VIM_INST_QSHARE_QSHARE_EFF]; omega)
        (fun j => by simp only [ne_eq, Fld.key, F.VIM_INST_CFG_VALID, F.VIM_INST_STAT_OVERSHARE]; omega))]
      exact hv
    obtain ⟨-, heff, -, ⟨hw, hc, hp⟩, -⟩ := n.roundInst_spec i
    rw [show n.roundVisit i = n.roundInst i from if_pos hval]
    rw [h _ (hnot (fun j => by simp only [ne_eq, Fld.key, F.VIM_INST_QSHARE_QSHARE, F.VIM_INST_QSHARE_QSHARE_EFF]; omega)
        (fun j => by simp only [ne_eq, Fld.key, F.VIM_INST_QSHARE_QSHARE, F.VIM_INST_STAT_OVERSHARE]; omega))] at heff
    rw [h _ (hnot (fun j => by simp only [ne_eq, Fld.key, F.VIM_INST_CFG_WEIGHT, F.VIM_INST_QSHARE_QSHARE_EFF]; omega)
        (fun j => by simp only [ne_eq, Fld.key, F.VIM_INST_CFG_WEIGHT, F.VIM_INST_STAT_OVERSHARE]; omega))] at hw
    have hcir := h (F.VIM_INST_CIR_CIR i) (hnot (fun j => by simp only [ne_eq, Fld.key, F.VIM_INST_CIR_CIR, F.VIM_INST_QSHARE_QSHARE_EFF]; omega)
        (fun j => by simp only [ne_eq, Fld.key, F.VIM_INST_CIR_CIR, F.VIM_INST_STAT_OVERSHARE]; omega))
    have hpir := h (F.VIM_INST_PIR_PIR i) (hnot (fun j => by simp only [ne_eq, Fld.key, F.VIM_INST_PIR_PIR, F.VIM_INST_QSHARE_QSHARE_EFF]; omega)
        (fun j => by simp only [ne_eq, Fld.key, F.VIM_INST_PIR_PIR, F.VIM_INST_STAT_OVERSHARE]; omega))
    exact ⟨heff, hw, hc.trans hcir, by rw [hp, hcir, hpir]⟩

/-- The turns of a new round (R330). -/
def State.nextRound (s : State) : State :=
  let start := s.vim.start % 63
  { s with vim := { s.vim with
    start := (start + 1) % 63, turns := (List.range 63).map fun k => (start + k) % 63 + 1, turn := none } }

theorem dispatchRoundStart_spec (hi : i < 64) : Ends (.dispatchRoundStart t) s fun s' => s'.vim.turn = none ∧ s'.vim.pools = s.vim.pools ∧ s'.mem = s.mem ∧
    s'.vim.turns = (List.range 63).map (fun x => (s.vim.start % 63 + x) % 63 + 1) ∧ s'.vim.start = (s.vim.start % 63 + 1) % 63 ∧
    (s.rd (F.VIM_INST_CFG_VALID i) ≠ 0 → InForce s s' i) := by
  obtain ⟨n, hn⟩ : ∃ n, n = (List.range 64).foldl State.roundVisit (s.tick t) := ⟨_, rfl⟩
  obtain ⟨hp, hs, hm⟩ := State.foldl_roundVisit (List.range 64) (s.tick t)
  have hf (hv : s.rd (F.VIM_INST_CFG_VALID i) ≠ 0) : InForce (s.tick t) n i := by rw [hn]; exact State.foldl_roundVisit_inForce _ hi hv
  rw [← hn] at hp hs hm
  obtain ⟨m, hm'⟩ : ∃ m, m = n.settleShares := ⟨_, rfl⟩
  have heff : m.rd (F.VIM_INST_QSHARE_QSHARE_EFF i) = n.rd (F.VIM_INST_QSHARE_QSHARE_EFF i) := by
    rw [hm']; exact n.rd_settleShares fun j => by simp only [ne_eq, Fld.key, F.VIM_INST_STAT_OVERSHARE, F.VIM_INST_QSHARE_QSHARE_EFF]; omega
  obtain ⟨hmv, hmm⟩ : m.vim = n.vim ∧ m.mem = n.mem := by obtain ⟨r, hr⟩ := n.settleShares_only; rw [hm', hr]; exact ⟨rfl, rfl⟩
  have hg : State.roundVisit = fun s i => if s.flag (F.VIM_INST_CFG_VALID i) then s.roundInst i else s := rfl
  refine ends_next_eq (arm_dispatchRoundStart ..) (x := m.nextRound) (by rw [hm', hn, hg, State.nextRound]) ?_
  have hst : m.vim.start = s.vim.start := by rw [hmv, hs]; rfl
  refine ⟨rfl, (congrArg VimSt.pools hmv).trans hp, hmm.trans hm, ?_, ?_, fun hv => ?_⟩
  · exact congrArg (fun k => (List.range 63).map fun x => (k % 63 + x) % 63 + 1) hst
  · exact congrArg (fun k => (k % 63 + 1) % 63) hst
  · obtain ⟨h1, h2, h3, h4⟩ := hf hv
    have hin : m.inst i = n.inst i := State.inst_congr hmv i
    rw [← hin] at h2 h3 h4
    exact ⟨heff.trans h1, h2, h3, h4⟩

/-- Settles O52: each write of the Attic takes effect within its rule's limits or is refused, a PID gives its instance, and an entry
goes through the window, its queue and the dispatcher. -/
theorem instanceConfiguration : Obligations.InstanceConfiguration := by
  intro s t h pid i j e k q n p a v peek ws en es hh hi he hq
  refine ⟨fun hpid hp => ⟨(hartPidWrite_spec hh hpid hp).1, (hartPidWrite_spec hh hpid hp).2 e i hi⟩,
    fun ⟨ha, hp⟩ => ⟨(mapEntryWrite_spec he ha hp).1, (mapEntryWrite_spec he ha hp).2 k⟩,
    fun h0 ⟨ha, hp⟩ => ⟨instCfgWrite_badQueue hi ha hp, fun hc => instCfgWrite_spec hi ha hp h0 hc Iff.rfl⟩,
    fun ⟨ha, hp⟩ => qshareWrite_spec hi ha hp rfl, fun _ => qshareWrite_denied hi, fun ⟨ha, hp⟩ => instFltWrite_spec hi ha hp rfl rfl,
    fun ⟨ha, hp⟩ => hwqCfgWrite_spec hq ha hp, fun hw hp => ⟨hwqPush_begins hq hw hp, fun hn hl => ⟨fun hv => ?_, fun hv => ?_⟩⟩,
    hwqPop_head hq, dispatchEntry_first, dispatchEntry_idle, dispatchRoundStart_spec hi⟩
  · refine (hwqPush_offers hq hw hp hn hl).mono ?_
    rintro _ rfl
    exact State.windowOffer_ok hq (s.tick t).okay (by rw [Entry.size, List.length_append]; subst hl; exact hv)
  · refine (hwqPush_offers hq hw hp hn hl).mono ?_
    rintro _ rfl
    exact State.windowOffer_full hq (s.tick t).okay (by rw [Entry.size, List.length_append]; subst hl; exact hv)

end Sys2Proof.Machine
end

section
/-! PROOFS. Gate lists, links, the database, preemption and recovery of the Hallway: O43 -/

namespace Sys2Proof.Machine


variable {s s' : State} {t p k i : Nat} {a : Attr}

/-! ### Gate-list changes -/

theorem gclChange_spec {v : Word} (hn : p < 22) (hp : (s.tick t).passes (0x40F00000 + 8192 * p) a true = true) : Ends (.gclChange t a p v) s fun s' =>
    s'.rd (F.HALL_GCL_CTL_GATE_EN p) = v.toNat / 2 ^ 31 ∧
    s'.rd (F.HALL_GCL_CTL_ADMIN_LEN p) = min 256 (max 1 (v.toNat / 2 ^ 16 % 512)) ∧
    s'.hall.change.find? p = some (changeInstant (s.rd64 (F.HALL_GCL_ADMIN_BASE_ADMIN_BASE p))
      (max 1 (s.rd (F.HALL_GCL_ADMIN_CYCLE_ADMIN_CYCLE p))) (s.tick t).tNow) ∧
    (∀ j, j ≠ p → s'.hall.change.find? j = s.hall.change.find? j) ∧ s'.mem = s.mem ∧
    s'.rd (F.HALL_GCL_CTL_OPER_LEN p) = s.rd (F.HALL_GCL_CTL_OPER_LEN p) := by
  have hlen : clampNat (bits v.toNat 24 16) 1 256 = min 256 (max 1 (v.toNat / 2 ^ 16 % 512)) := by
    rw [clampNat_eq _ _ _ (by omega)]; simp only [bits]; omega
  obtain ⟨n, hn'⟩ : ∃ n, n = ((s.tick t).okay.wr (F.HALL_GCL_CTL_GATE_EN p) (v.toNat / 2 ^ 31)).wr (F.HALL_GCL_CTL_ADMIN_LEN p)
    (min 256 (max 1 (v.toNat / 2 ^ 16 % 512))) := ⟨_, rfl⟩
  have hrd : RegsBut [F.HALL_GCL_CTL_GATE_EN p, F.HALL_GCL_CTL_ADMIN_LEN p] s n := by
    rw [hn']; exact (((RegsBut.refl _ s).of_regs (s'' := (s.tick t).okay) rfl).wr _ (by simp)).wr _ (by simp)
  have hne {f : Fld} (h : f.addr ≠ (F.HALL_GCL_CTL_GATE_EN p).addr) (hlo : f.lo < 32) : n.rd f = s.rd f := hrd.rd (by
    simp only [List.mem_cons, List.not_mem_nil, or_false, forall_eq_or_imp, forall_eq, ne_eq, Fld.key, F.HALL_GCL_CTL_GATE_EN, F.HALL_GCL_CTL_ADMIN_LEN] at h ⊢; omega)
  have hbase : n.rd64 (F.HALL_GCL_ADMIN_BASE_ADMIN_BASE p) = s.rd64 (F.HALL_GCL_ADMIN_BASE_ADMIN_BASE p) := by
    unfold State.rd64
    rw [hne (by simp only [ne_eq, F.HALL_GCL_ADMIN_BASE_ADMIN_BASE, F.HALL_GCL_CTL_GATE_EN]; omega) (by simp [F.HALL_GCL_ADMIN_BASE_ADMIN_BASE]),
      hne (by simp only [ne_eq, F.HALL_GCL_ADMIN_BASE_ADMIN_BASE, F.HALL_GCL_CTL_GATE_EN]; omega) (by simp [F.HALL_GCL_ADMIN_BASE_ADMIN_BASE])]
  have hcyc : n.rd (F.HALL_GCL_ADMIN_CYCLE_ADMIN_CYCLE p) = s.rd (F.HALL_GCL_ADMIN_CYCLE_ADMIN_CYCLE p) :=
    hne (by simp only [ne_eq, F.HALL_GCL_ADMIN_CYCLE_ADMIN_CYCLE, F.HALL_GCL_CTL_GATE_EN]; omega) (by simp [F.HALL_GCL_ADMIN_CYCLE_ADMIN_CYCLE])
  have hen : n.rd (F.HALL_GCL_CTL_GATE_EN p) = v.toNat / 2 ^ 31 := by
    rw [hn', State.rd_wr_ne _ _ (by simp only [ne_eq, Fld.key, F.HALL_GCL_CTL_GATE_EN, F.HALL_GCL_CTL_ADMIN_LEN]; omega)]
    exact State.rd_wr_lt _ (by have := v.isLt; simp only [F.HALL_GCL_CTL_GATE_EN]; omega)
  have hal : n.rd (F.HALL_GCL_CTL_ADMIN_LEN p) = min 256 (max 1 (v.toNat / 2 ^ 16 % 512)) := by
    rw [hn']; exact State.rd_wr_lt _ (lt_of_le_of_lt (min_le_left ..) (by simp [F.HALL_GCL_CTL_ADMIN_LEN]))
  obtain ⟨hh, hm, htn⟩ : n.hall = s.hall ∧ n.mem = s.mem ∧ n.tNow = (s.tick t).tNow := by rw [hn']; exact ⟨rfl, rfl, rfl⟩
  rw [Nat.mul_comm] at hp
  refine ends_unit_guarded_eq (arm_gclChange ..) (decide_eq_true hn) hp rfl (x := { n with hall := { n.hall with
    change := n.hall.change.insert p (changeInstant (n.rd64 (F.HALL_GCL_ADMIN_BASE_ADMIN_BASE p)) (max 1 (n.rd (F.HALL_GCL_ADMIN_CYCLE_ADMIN_CYCLE p))) n.tNow) } })
    (by rw [hlen, bits_31 v.isLt, ← hn']) ?_
  refine ⟨hen, hal, ?_, fun j hj => ?_, hm, ?_⟩
  · rw [← hbase, ← hcyc, ← htn]; exact Tbl.find?_insert_self ..
  · exact (Tbl.find?_insert_ne _ _ hj.symm).trans (by rw [hh])
  · exact hrd.rd (by simp [Fld.key, F.HALL_GCL_CTL_GATE_EN, F.HALL_GCL_CTL_ADMIN_LEN, F.HALL_GCL_CTL_OPER_LEN])

/-- An entry of the administrative list becomes the entry of the operational list. -/
def State.operEntry (p : Nat) (s : State) (e : Nat) : State :=
  (s.wr (F.HALL_GCL_OPR0_GATES p e) (s.rd (F.HALL_GCL_ADM0_GATES p e))).wr (F.HALL_GCL_OPR1_INTERVAL p e) (max 1 (s.rd (F.HALL_GCL_ADM1_INTERVAL p e)))

/-- The keys of an operational list of 256 entries. -/
def OperKey (p k : Nat) : Prop := (0x40F01800 + p * 8192) * 32 ≤ k ∧ k < (0x40F02000 + p * 8192) * 32

theorem State.operEntry_spec (s : State) {p e : Nat} (he : e < 256) : Stands (OperKey p) s (s.operEntry p e) ∧
    (s.operEntry p e).rd (F.HALL_GCL_OPR0_GATES p e) = s.rd (F.HALL_GCL_ADM0_GATES p e) % 256 ∧
    (s.operEntry p e).rd (F.HALL_GCL_OPR1_INTERVAL p e) = max 1 (s.rd (F.HALL_GCL_ADM1_INTERVAL p e)) % 2 ^ 32 ∧
    ∀ j, j ≠ e → (s.operEntry p e).rd (F.HALL_GCL_OPR0_GATES p j) = s.rd (F.HALL_GCL_OPR0_GATES p j) ∧
      (s.operEntry p e).rd (F.HALL_GCL_OPR1_INTERVAL p j) = s.rd (F.HALL_GCL_OPR1_INTERVAL p j) := by
  unfold State.operEntry
  refine ⟨(Stands.wr ?_ _ _).trans (Stands.wr ?_ _ _), ?_, State.rd_wr_self .., fun j hj => ⟨?_, ?_⟩⟩
  · simp only [OperKey, Fld.key, F.HALL_GCL_OPR0_GATES]; omega
  · simp only [OperKey, Fld.key, F.HALL_GCL_OPR1_INTERVAL]; omega
  · rw [State.rd_wr_ne _ _ (by simp only [ne_eq, Fld.key, F.HALL_GCL_OPR0_GATES, F.HALL_GCL_OPR1_INTERVAL]; omega)]
    exact State.rd_wr_self ..
  · rw [State.rd_wr_ne _ _ (by simp only [ne_eq, Fld.key, F.HALL_GCL_OPR0_GATES, F.HALL_GCL_OPR1_INTERVAL]; omega),
      State.rd_wr_ne _ _ (by simp only [ne_eq, Fld.key, F.HALL_GCL_OPR0_GATES]; omega)]
  · rw [State.rd_wr_ne _ _ (by simp only [ne_eq, Fld.key, F.HALL_GCL_OPR1_INTERVAL]; omega),
      State.rd_wr_ne _ _ (by simp only [ne_eq, Fld.key, F.HALL_GCL_OPR0_GATES, F.HALL_GCL_OPR1_INTERVAL]; omega)]

/-- Every entry of the administrative list stands in the operational list. -/
theorem State.foldl_operEntry (s : State) {p n : Nat} (hn : n ≤ 256) : Stands (OperKey p) s ((List.range n).foldl (State.operEntry p) s) ∧
    ∀ j, j < n → ((List.range n).foldl (State.operEntry p) s).rd (F.HALL_GCL_OPR0_GATES p j) = s.rd (F.HALL_GCL_ADM0_GATES p j) % 256 ∧
      ((List.range n).foldl (State.operEntry p) s).rd (F.HALL_GCL_OPR1_INTERVAL p j) = max 1 (s.rd (F.HALL_GCL_ADM1_INTERVAL p j)) % 2 ^ 32 := by
  induction n with
  | zero => exact ⟨.refl _ s, fun j hj => absurd hj (Nat.not_lt_zero j)⟩
  | succ n ih =>
    obtain ⟨hst, hj⟩ := ih (by omega)
    rw [List.range_succ, List.foldl_append]
    generalize (List.range n).foldl (State.operEntry p) s = m at hst hj
    obtain ⟨est, e0, e1, eo⟩ := m.operEntry_spec (p := p) (e := n) (by omega)
    refine ⟨hst.trans est, fun j hjn => ?_⟩
    by_cases h : j = n
    · subst h
      rw [hst _ (by simp only [OperKey, Fld.key, F.HALL_GCL_ADM0_GATES]; omega)] at e0
      rw [hst _ (by simp only [OperKey, Fld.key, F.HALL_GCL_ADM1_INTERVAL]; omega)] at e1
      exact ⟨e0, e1⟩
    · obtain ⟨h0, h1⟩ := eo j h
      obtain ⟨g0, g1⟩ := hj j (by omega)
      exact ⟨h0.trans g0, h1.trans g1⟩

theorem gclChangeInstant_due {c : Nat} (hn : p < 22) (hlen : s.rd (F.HALL_GCL_CTL_ADMIN_LEN p) ≤ 256) (hc : s.hall.change.find? p = some c)
    (hd : c ≤ (s.tick t).tNow) : Ends (.gclChangeInstant t p) s fun s' =>
      s'.rd (F.HALL_GCL_CTL_OPER_LEN p) = s.rd (F.HALL_GCL_CTL_ADMIN_LEN p) ∧
      s'.rd64 (F.HALL_GCL_OPER_BASE_OPER_BASE p) = c % 2 ^ 64 ∧ s'.hall.change.find? p = none ∧
      s'.rd (F.HALL_GCL_OPER_CYCLE_OPER_CYCLE p) = s.rd (F.HALL_GCL_ADMIN_CYCLE_ADMIN_CYCLE p) % 2 ^ 32 ∧
      ∀ j, j < s.rd (F.HALL_GCL_CTL_ADMIN_LEN p) →
        s'.rd (F.HALL_GCL_OPR0_GATES p j) = s.rd (F.HALL_GCL_ADM0_GATES p j) % 256 ∧
        s'.rd (F.HALL_GCL_OPR1_INTERVAL p j) = max 1 (s.rd (F.HALL_GCL_ADM1_INTERVAL p j)) % 2 ^ 32 := by
  obtain ⟨n, hn'⟩ : ∃ n, n = s.rd (F.HALL_GCL_CTL_ADMIN_LEN p) := ⟨_, rfl⟩
  obtain ⟨m, hm⟩ : ∃ m, m = ((s.tick t).wr (F.HALL_GCL_CTL_OPER_LEN p) n).wr64 (F.HALL_GCL_OPER_BASE_OPER_BASE p) c := ⟨_, rfl⟩
  have hmrd {f : Fld} (h₁ : f.key ≠ (F.HALL_GCL_CTL_OPER_LEN p).key) (h₂ : f.addr < (F.HALL_GCL_OPER_BASE_OPER_BASE p 0).addr ∨
      (F.HALL_GCL_OPER_BASE_OPER_BASE p 1).addr < f.addr) (hlo : f.lo < 32) : m.rd f = s.rd f := by
    simp only [F.HALL_GCL_OPER_BASE_OPER_BASE] at h₂
    rw [hm, State.rd_wr64_ne (by simp only [ne_eq, Fld.key, F.HALL_GCL_OPER_BASE_OPER_BASE]; omega) (by simp only [ne_eq, Fld.key, F.HALL_GCL_OPER_BASE_OPER_BASE]; omega)]
    exact State.rd_wr_ne _ _ (Ne.symm h₁)
  have hmlen : m.rd (F.HALL_GCL_CTL_OPER_LEN p) = n := by
    rw [hm, State.rd_wr64_ne (by simp only [ne_eq, Fld.key, F.HALL_GCL_OPER_BASE_OPER_BASE, F.HALL_GCL_CTL_OPER_LEN]; omega)
      (by simp only [ne_eq, Fld.key, F.HALL_GCL_OPER_BASE_OPER_BASE, F.HALL_GCL_CTL_OPER_LEN]; omega)]
    exact State.rd_wr_lt _ (by simp only [F.HALL_GCL_CTL_OPER_LEN]; omega)
  have hmbase : m.rd64 (F.HALL_GCL_OPER_BASE_OPER_BASE p) = c % 2 ^ 64 := by
    rw [hm]; exact State.rd64_wr64 rfl rfl (by simp only [ne_eq, Fld.key, F.HALL_GCL_OPER_BASE_OPER_BASE]; omega)
  have hmc : m.hall = s.hall := by rw [hm]; rfl
  obtain ⟨w, hw⟩ : ∃ w, w = m.wr (F.HALL_GCL_OPER_CYCLE_OPER_CYCLE p) (m.rd (F.HALL_GCL_ADMIN_CYCLE_ADMIN_CYCLE p)) := ⟨_, rfl⟩
  have hwrd {f : Fld} (h : (F.HALL_GCL_OPER_CYCLE_OPER_CYCLE p).key ≠ f.key) : w.rd f = m.rd f := by rw [hw]; exact State.rd_wr_ne _ _ h
  have hwc : w.rd (F.HALL_GCL_OPER_CYCLE_OPER_CYCLE p) = s.rd (F.HALL_GCL_ADMIN_CYCLE_ADMIN_CYCLE p) % 2 ^ 32 := by
    rw [hw, State.rd_wr_self, hmrd (by simp only [ne_eq, Fld.key, F.HALL_GCL_ADMIN_CYCLE_ADMIN_CYCLE, F.HALL_GCL_CTL_OPER_LEN]; omega)
      (by simp only [F.HALL_GCL_ADMIN_CYCLE_ADMIN_CYCLE, F.HALL_GCL_OPER_BASE_OPER_BASE]; omega) (by simp [F.HALL_GCL_ADMIN_CYCLE_ADMIN_CYCLE])]; rfl
  have hwh : w.hall = s.hall := by rw [hw]; exact hmc
  obtain ⟨hst, hlist⟩ := w.foldl_operEntry (p := p) (hn'.trans_le hlen)
  obtain ⟨x, hx⟩ : ∃ x, x = (List.range n).foldl (State.operEntry p) w := ⟨_, rfl⟩
  rw [← hx] at hst hlist
  have hadm0 (j : Nat) (_ : j < n) : w.rd (F.HALL_GCL_ADM0_GATES p j) = s.rd (F.HALL_GCL_ADM0_GATES p j) :=
    (hwrd (by simp only [ne_eq, Fld.key, F.HALL_GCL_OPER_CYCLE_OPER_CYCLE, F.HALL_GCL_ADM0_GATES]; omega)).trans
      (hmrd (by simp only [ne_eq, Fld.key, F.HALL_GCL_ADM0_GATES, F.HALL_GCL_CTL_OPER_LEN]; omega)
        (by simp only [F.HALL_GCL_ADM0_GATES, F.HALL_GCL_OPER_BASE_OPER_BASE]; omega) (by simp [F.HALL_GCL_ADM0_GATES]))
  have hadm1 (j : Nat) (_ : j < n) : w.rd (F.HALL_GCL_ADM1_INTERVAL p j) = s.rd (F.HALL_GCL_ADM1_INTERVAL p j) :=
    (hwrd (by simp only [ne_eq, Fld.key, F.HALL_GCL_OPER_CYCLE_OPER_CYCLE, F.HALL_GCL_ADM1_INTERVAL]; omega)).trans
      (hmrd (by simp only [ne_eq, Fld.key, F.HALL_GCL_ADM1_INTERVAL, F.HALL_GCL_CTL_OPER_LEN]; omega)
        (by simp only [F.HALL_GCL_ADM1_INTERVAL, F.HALL_GCL_OPER_BASE_OPER_BASE]; omega) (by simp [F.HALL_GCL_ADM1_INTERVAL]))
  have hop : State.operEntry p = fun s e => (s.wr (F.HALL_GCL_OPR0_GATES p e) (s.rd (F.HALL_GCL_ADM0_GATES p e))).wr (F.HALL_GCL_OPR1_INTERVAL p e)
    (max 1 (s.rd (F.HALL_GCL_ADM1_INTERVAL p e))) := rfl
  have hxh : x.hall = s.hall := by
    rw [hx]; exact (foldl_keeps (fun s : State => s.hall) (fun s e => (rfl : (s.operEntry p e).hall = s.hall)) _ w).trans hwh
  refine ends_unit (arm_gclChangeInstant ..) (decide_eq_true hn) (x := { x with hall := { x.hall with change := x.hall.change.erase p } }) ?_ ?_
  · rw [show (s.tick t).hall.change.find? p = some c from hc]
    dsimp only
    rw [if_neg (not_lt.2 hd), show (s.tick t).rd (F.HALL_GCL_CTL_ADMIN_LEN p) = n from hn'.symm, ← hm, ← hw, ← hop, ← hx]
  · refine ⟨?_, ?_, Tbl.find?_erase_self .., ?_, fun j hj => ?_⟩
    · rw [← hn']
      exact (hst _ (by simp only [OperKey, Fld.key, F.HALL_GCL_CTL_OPER_LEN]; omega)).trans
        ((hwrd (by simp only [ne_eq, Fld.key, F.HALL_GCL_OPER_CYCLE_OPER_CYCLE, F.HALL_GCL_CTL_OPER_LEN]; omega)).trans hmlen)
    · refine Eq.trans ?_ hmbase
      change x.rd64 _ = _
      unfold State.rd64
      rw [hst _ (by simp only [OperKey, Fld.key, F.HALL_GCL_OPER_BASE_OPER_BASE]; omega),
        hst _ (by simp only [OperKey, Fld.key, F.HALL_GCL_OPER_BASE_OPER_BASE]; omega),
        hwrd (by simp only [ne_eq, Fld.key, F.HALL_GCL_OPER_CYCLE_OPER_CYCLE, F.HALL_GCL_OPER_BASE_OPER_BASE]; omega),
        hwrd (by simp only [ne_eq, Fld.key, F.HALL_GCL_OPER_CYCLE_OPER_CYCLE, F.HALL_GCL_OPER_BASE_OPER_BASE]; omega)]
    · exact (hst _ (by simp only [OperKey, Fld.key, F.HALL_GCL_OPER_CYCLE_OPER_CYCLE]; omega)).trans hwc
    · rw [← hn'] at hj
      obtain ⟨h0, h1⟩ := hlist j hj
      rw [hadm0 j hj] at h0
      rw [hadm1 j hj] at h1
      exact ⟨h0, h1⟩

theorem gclChangeInstant_early {c : Nat} (hn : p < 22) (hc : s.hall.change.find? p = some c) (hd : (s.tick t).tNow < c) :
    Ends (.gclChangeInstant t p) s fun s' => s' = s.tick t := by
  refine ends_unit (arm_gclChangeInstant ..) (decide_eq_true hn) (x := s.tick t) ?_ rfl
  rw [show (s.tick t).hall.change.find? p = some c from hc]
  exact if_pos hd

/-! ### A flushed port -/

/-- A copy that goes leaves the queues, memory and the link states. -/
theorem State.hallDrop_kept (s : State) (id : Nat) : (s.hallDrop id).hall.queues = s.hall.queues ∧ (s.hallDrop id).mem = s.mem := by
  have hold (n : State) : n.holdTick.hall = n.hall ∧ n.holdTick.mem = n.mem := by
    unfold State.holdTick; dsimp only; split <;> [exact ⟨rfl, rfl⟩; (split <;> exact ⟨rfl, rfl⟩)]
  unfold State.hallDrop; split
  · exact ⟨rfl, rfl⟩
  · exact ⟨congrArg (·.queues) (hold _).1, (hold _).2⟩

/-- The first copy of a queue goes. -/
def State.flushOne (p tc : Nat) (s : State) (c : QCopy) : State := ((s.popQ p tc).hallDrop c.id).hallInc p 7

theorem State.flushOne_spec (s : State) (p tc : Nat) (c : QCopy) : (s.flushOne p tc c).hallQ p tc = (s.hallQ p tc).tail ∧
    (∀ m, m ≠ 8 * p + tc → (s.flushOne p tc c).hall.queues.getD [] m = s.hall.queues.getD [] m) ∧ (s.flushOne p tc c).mem = s.mem := by
  obtain ⟨hq, hm⟩ := (s.popQ p tc).hallDrop_kept c.id
  have hqs : (s.flushOne p tc c).hall.queues = s.hall.queues.put [] (8 * p + tc) (s.hallQ p tc).tail := hq
  refine ⟨?_, fun m h => ?_, hm⟩
  · rw [State.hallQ, hqs, Tbl.getD_put_self]
  · rw [hqs, Tbl.getD_put_ne _ _ _ (Ne.symm h)]

/-- As many copies as a queue holds go one by one. -/
theorem State.foldl_flushOne (l : List QCopy) (s : State) (p tc : Nat) (h : (s.hallQ p tc).length = l.length) :
    (l.foldl (State.flushOne p tc) s).hallQ p tc = [] ∧
    (∀ m, m ≠ 8 * p + tc → (l.foldl (State.flushOne p tc) s).hall.queues.getD [] m = s.hall.queues.getD [] m) ∧
    (l.foldl (State.flushOne p tc) s).mem = s.mem := by
  induction l generalizing s with
  | nil => exact ⟨List.eq_nil_of_length_eq_zero h, fun _ _ => rfl, rfl⟩
  | cons c l ih =>
    obtain ⟨hq, ho, hm⟩ := s.flushOne_spec p tc c
    obtain ⟨iq, io, im⟩ := ih (s.flushOne p tc c) (by rw [hq, List.length_tail, h, List.length_cons, Nat.add_sub_cancel])
    exact ⟨iq, fun m hne => (io m hne).trans (ho m hne), im.trans hm⟩

/-- The queue of one class is flushed. -/
def State.flushClass (p : Nat) (s : State) (tc : Nat) : State := (s.hallQ p tc).foldl (State.flushOne p tc) s

theorem State.foldl_flushClass (l : List Nat) (s : State) (p : Nat) : (∀ tc ∈ l, (l.foldl (State.flushClass p) s).hallQ p tc = []) ∧
    (∀ m, (∀ tc ∈ l, m ≠ 8 * p + tc) → (l.foldl (State.flushClass p) s).hall.queues.getD [] m = s.hall.queues.getD [] m) ∧
    (l.foldl (State.flushClass p) s).mem = s.mem := by
  have hone (s : State) (tc : Nat) := State.foldl_flushOne (s.hallQ p tc) s p tc rfl
  have keeps : ∀ (l : List Nat) (s : State) (tc : Nat), s.hallQ p tc = [] → (l.foldl (State.flushClass p) s).hallQ p tc = [] := by
    intro l
    induction l with
    | nil => exact fun _ _ h => h
    | cons k l ih =>
      intro s tc h
      refine ih _ tc ?_
      obtain ⟨hk, ho, -⟩ := hone s k
      by_cases hkt : tc = k
      · subst hkt; exact hk
      · exact (ho (8 * p + tc) (by omega)).trans h
  induction l generalizing s with
  | nil => exact ⟨fun _ h => (nomatch h), fun _ _ => rfl, rfl⟩
  | cons k l ih =>
    obtain ⟨hk, ho, hm⟩ := hone s k
    obtain ⟨iq, io, im⟩ := ih (s.flushClass p k)
    refine ⟨fun tc htc => ?_, fun m hne => ?_, im.trans hm⟩
    · rcases List.mem_cons.1 htc with rfl | htc
      · exact keeps l _ tc hk
      · exact iq tc htc
    · exact (io m fun tc htc => hne tc (List.mem_cons_of_mem k htc)).trans (ho m (hne k List.mem_cons_self))

theorem State.flushPort_spec (s : State) (p : Nat) : (∀ j, j < 8 → (s.flushPort p).hallQ p j = []) ∧
    (∀ m, m / 8 ≠ p → (s.flushPort p).hall.queues.getD [] m = s.hall.queues.getD [] m) ∧ (s.flushPort p).mem = s.mem := by
  obtain ⟨n, h, hq, hm⟩ : ∃ n : State, s.flushPort p = classes.foldl (State.flushClass p) n ∧ n.hall.queues = s.hall.queues ∧ n.mem = s.mem := by
    have hcl : State.flushClass p = fun s tc => (s.hallQ p tc).foldl (fun s c => ((s.popQ p tc).hallDrop c.id).hallInc p 7) s := rfl
    unfold State.flushPort; rw [hcl]
    refine ⟨_, rfl, ?_⟩
    split
    next x _ =>
      obtain ⟨hq, hm⟩ := ({ s with hall := { s.hall with rest := s.hall.rest.erase p } } : State).hallDrop_kept x.id
      exact ⟨hq, hm⟩
    · exact ⟨rfl, rfl⟩
  obtain ⟨cq, co, cm⟩ := State.foldl_flushClass classes n p
  have hcl (j : Nat) : j ∈ classes ↔ j < 8 := by simp only [classes, List.mem_cons, List.not_mem_nil, or_false]; omega
  rw [h]
  refine ⟨fun j hj => cq j ((hcl j).2 hj), fun m hm => ?_, cm.trans hm⟩
  rw [co m fun tc htc => by have := (hcl tc).1 htc; omega, hq]

theorem State.linkDown_spec (s : State) (hp : 8 ≤ p) : (s.linkDown p).link p = 2 ∧ (∀ j, j < 8 → (s.linkDown p).hallQ p j = []) ∧
    (∀ m, m / 8 ≠ p → (s.linkDown p).hall.queues.getD [] m = s.hall.queues.getD [] m) ∧ (s.linkDown p).mem = s.mem := by
  obtain ⟨hq, ho, hm⟩ := s.flushPort_spec p
  unfold State.linkDown
  generalize s.flushPort p = n at hq ho hm
  refine ⟨?_, hq, ho, hm⟩
  rw [State.link, if_neg (not_lt.2 hp)]
  exact State.rd_wr_lt n (f := F.HALL_PORT_STAT_LINK_STATE p) (by simp [F.HALL_PORT_STAT_LINK_STATE])

/-! ### Link states -/

theorem State.link_wr_self (s : State) {v : Nat} (hp : 8 ≤ p) (hv : v < 4) : (s.wr (F.HALL_PORT_STAT_LINK_STATE p) v).link p = v := by
  rw [State.link, if_neg (not_lt.2 hp)]; exact State.rd_wr_lt _ hv

theorem State.link_wr_ne (s : State) {j : Nat} (v : Nat) (h : j ≠ p) : (s.wr (F.HALL_PORT_STAT_LINK_STATE p) v).link j = s.link j := by
  unfold State.link
  rw [State.rd_wr_ne _ _ (by simp only [ne_eq, Fld.key, F.HALL_PORT_STAT_LINK_STATE]; omega)]

section
variable (hp : 8 ≤ p) (hp' : p < 24)
include hp hp'

theorem linkLost_hold (hl : s.link p = 0) (hh : s.rd (F.HALL_PORT_HOLD_LINK_HOLD p) ≠ 0) : Ends (.linkLost t p) s fun s' => s'.link p = 1 ∧
    s'.hall.down.find? p = some t ∧ s'.hall.queues = s.hall.queues ∧ s'.hall.frames = s.hall.frames := by
  have hl' : (s.tick t).link p = 0 := hl
  have hh' : ¬ (s.tick t).rd (F.HALL_PORT_HOLD_LINK_HOLD p) = 0 := hh
  refine ends_unit (arm_linkLost ..) (decide_eq_true ⟨hp, hp'⟩) ((if_pos hl').trans (if_neg hh')) ⟨?_, Tbl.find?_insert_self .., rfl, rfl⟩
  exact (s.tick t).link_wr_self hp (by omega)

theorem linkLost_down (hl : s.link p = 0) (hh : s.rd (F.HALL_PORT_HOLD_LINK_HOLD p) = 0) : Ends (.linkLost t p) s fun s' => s'.link p = 2 ∧
    ∀ j, j < 8 → s'.hallQ p j = [] := by
  have hl' : (s.tick t).link p = 0 := hl
  have hh' : (s.tick t).rd (F.HALL_PORT_HOLD_LINK_HOLD p) = 0 := hh
  obtain ⟨h1, h2, -⟩ := (s.tick t).linkDown_spec hp
  exact ends_unit (arm_linkLost ..) (decide_eq_true ⟨hp, hp'⟩) ((if_pos hl').trans (if_pos hh')) ⟨h1, h2⟩

/-- A port that comes up: what stands where no window has closed. -/
theorem linkUp_plain (h : ¬ ((s.tick t).link p = 1 ∧ (s.tick t).holdOver p = true)) : Ends (.linkUp t p) s fun s' => s'.link p = 0 ∧
    s'.hall.down.find? p = none ∧ s'.hall.queues = s.hall.queues ∧ s'.hall.frames = s.hall.frames ∧
    ∀ j, j ≠ p → 8 ≤ j → j < 24 → s'.link j = s.link j := by
  refine ends_unit (arm_linkUp ..) (decide_eq_true ⟨hp, hp'⟩) (x := { (s.tick t).wr (F.HALL_PORT_STAT_LINK_STATE p) 0 with
    hall := { s.hall with down := s.hall.down.erase p } }) ?_ ?_
  · rw [if_neg h]; rfl
  · exact ⟨(s.tick t).link_wr_self hp (by omega), Tbl.find?_erase_self .., rfl, rfl, fun j hj _ _ => (s.tick t).link_wr_ne 0 hj⟩

theorem linkUp_closed (hl : s.link p = 1) (hh : (s.tick t).holdOver p = true) : Ends (.linkUp t p) s fun s' => s'.link p = 0 ∧
    ∀ j, j < 8 → s'.hallQ p j = [] := by
  obtain ⟨-, hq, -⟩ := (s.tick t).linkDown_spec hp
  refine ends_unit (arm_linkUp ..) (decide_eq_true ⟨hp, hp'⟩) (x := { ((s.tick t).linkDown p).wr (F.HALL_PORT_STAT_LINK_STATE p) 0 with
    hall := { ((s.tick t).linkDown p).hall with down := ((s.tick t).linkDown p).hall.down.erase p } }) ?_ ?_
  · rw [if_pos ⟨show (s.tick t).link p = 1 from hl, hh⟩]; rfl
  · generalize (s.tick t).linkDown p = n at hq
    exact ⟨n.link_wr_self hp (by omega), hq⟩

theorem linkHoldExpiry_closed (hl : s.link p = 1) (hh : (s.tick t).holdOver p = true) : Ends (.linkHoldExpiry t p) s fun s' => s'.link p = 2 ∧
    (∀ j, j < 8 → s'.hallQ p j = []) ∧ (∀ m, m / 8 ≠ p → s'.hall.queues.getD [] m = s.hall.queues.getD [] m) ∧ s'.mem = s.mem := by
  have hl' : (s.tick t).link p = 1 := hl
  exact ends_unit (arm_linkHoldExpiry ..) (decide_eq_true ⟨hp, hp'⟩) (if_pos ⟨hl', hh⟩) ((s.tick t).linkDown_spec hp)

end

/-! ### The database -/

theorem FdbEntry.is_iff (e : FdbEntry) (v m : Nat) : e.is v m = true ↔ e.vid = v ∧ e.mac = m := by
  unfold FdbEntry.is; rw [Bool.and_eq_true, beq_iff_eq, beq_iff_eq]

/-- The database without the entry of a key. -/
def fdbWithout (l : List FdbEntry) (v m : Nat) : List FdbEntry := l.filter fun e => !e.is v m

theorem find?_fdbWithout_self (l : List FdbEntry) (v m : Nat) : (fdbWithout l v m).find? (·.is v m) = none := by
  rw [List.find?_eq_none]
  intro e he
  simpa using (List.mem_filter.1 he).2

theorem find?_fdbWithout_ne (l : List FdbEntry) {v m v' m' : Nat} (h : (v', m') ≠ (v, m)) : (fdbWithout l v m).find? (·.is v' m') = l.find? (·.is v' m') := by
  unfold fdbWithout
  rw [List.find?_filter]
  refine congrArg (fun p => List.find? p l) (funext fun e => ?_)
  cases hx : e.is v' m'
  · rw [decide_eq_false (by simp)]
  · obtain ⟨rfl, rfl⟩ := (e.is_iff _ _).1 hx
    have : e.is v m = false := Bool.eq_false_iff.2 fun hv => by
      obtain ⟨rfl, rfl⟩ := (e.is_iff _ _).1 hv; exact h rfl
    simp [this]

theorem State.fdbFind_fdbPut_self (s : State) (e : FdbEntry) : (s.fdbPut e).fdbFind e.vid e.mac = some e := by
  change List.find? _ (fdbWithout s.hall.fdb e.vid e.mac ++ [e]) = some e
  rw [List.find?_append, find?_fdbWithout_self]; simp [FdbEntry.is]

theorem State.fdbFind_fdbPut_ne (s : State) (e : FdbEntry) {v m : Nat} (h : (v, m) ≠ (e.vid, e.mac)) : (s.fdbPut e).fdbFind v m = s.fdbFind v m := by
  change List.find? _ (fdbWithout s.hall.fdb e.vid e.mac ++ [e]) = _
  rw [List.find?_append, find?_fdbWithout_ne _ h, List.find?_cons_of_neg, List.find?_nil, Option.or_none]; rfl
  intro he
  obtain ⟨rfl, rfl⟩ := (e.is_iff _ _).1 he
  exact h rfl

section
variable (hp : (s.tick t).passes 0x40E0010C a true = true)
include hp

/-- A database command of a clock without learning updates has its effect and its RESULT. -/
theorem ends_fdbCmd {c : Instr} {eff : State → Nat × State} {n : State} {r : Nat} {P : State → Prop} (hc : exec c s = .next ((s.tick t).fdbCmd a eff))
    (hl : (s.tick t).clk.learns = []) (he : eff (s.tick t).okay = (r, n)) (h : P (n.wr F.HALL_FDB_CMD_RESULT r)) : Ends c s P := by
  refine ends_guarded_eq (x := n.wr F.HALL_FDB_CMD_RESULT r) hc hp rfl ?_ h
  have hl' : (s.tick t).okay.clk.learns = [] := hl
  dsimp only
  rw [hl', List.filter_nil, he]; rfl

omit hp in
theorem rd_fdbResult (n : State) {r : Nat} (h : r < 32) : (n.wr F.HALL_FDB_CMD_RESULT r).rd F.HALL_FDB_CMD_RESULT = r := n.rd_wr_lt h

section
variable (hl : (s.tick t).clk.learns = [])
include hl

theorem fdbInsert_spec : (s.fdbFind s.fdbKey.1 s.fdbKey.2 ≠ none ∨ s.fdbRoom s.fdbKey.1 s.fdbKey.2 = true → Ends (.fdbInsert t a) s fun s' =>
      s'.rd F.HALL_FDB_CMD_RESULT = 0 ∧
      s'.fdbFind s.fdbKey.1 s.fdbKey.2 = some ⟨s.fdbKey.1, s.fdbKey.2, s.flag F.HALL_FDB_DATA_STATIC, s.rd F.HALL_FDB_DATA_PORT_MASK, t⟩ ∧
      ∀ v m, (v, m) ≠ s.fdbKey → s'.fdbFind v m = s.fdbFind v m) ∧
    (s.fdbFind s.fdbKey.1 s.fdbKey.2 = none → s.fdbRoom s.fdbKey.1 s.fdbKey.2 = false → Ends (.fdbInsert t a) s fun s' =>
      s'.rd F.HALL_FDB_CMD_RESULT = 2 ∧ s'.hall = s.hall) := by
  refine ⟨fun h => ?_, fun hf hr => ?_⟩
  · have h' : ((s.tick t).okay.fdbFind (s.tick t).okay.fdbKey.1 (s.tick t).okay.fdbKey.2).isSome = true ∨
        (s.tick t).okay.fdbRoom (s.tick t).okay.fdbKey.1 (s.tick t).okay.fdbKey.2 = true := h.imp_left Option.isSome_iff_ne_none.2
    exact ends_fdbCmd hp (arm_fdbInsert ..) hl (if_pos h')
     ⟨rd_fdbResult _ (by omega), (s.tick t).okay.fdbFind_fdbPut_self ⟨s.fdbKey.1, s.fdbKey.2, s.flag F.HALL_FDB_DATA_STATIC, s.rd F.HALL_FDB_DATA_PORT_MASK, t⟩,
      fun v m hvm => (s.tick t).okay.fdbFind_fdbPut_ne ⟨s.fdbKey.1, s.fdbKey.2, s.flag F.HALL_FDB_DATA_STATIC, s.rd F.HALL_FDB_DATA_PORT_MASK, t⟩ hvm⟩
  · have h' : ¬ (((s.tick t).okay.fdbFind (s.tick t).okay.fdbKey.1 (s.tick t).okay.fdbKey.2).isSome = true ∨
        (s.tick t).okay.fdbRoom (s.tick t).okay.fdbKey.1 (s.tick t).okay.fdbKey.2 = true) := by
      rintro (h | h)
      · exact Option.isSome_iff_ne_none.1 h hf
      · exact absurd (hr.symm.trans h) (by simp)
    exact ends_fdbCmd hp (arm_fdbInsert ..) hl (if_neg h') ⟨rd_fdbResult _ (by omega), rfl⟩

theorem fdbDelete_spec : (s.fdbFind s.fdbKey.1 s.fdbKey.2 ≠ none → Ends (.fdbDelete t a) s fun s' => s'.rd F.HALL_FDB_CMD_RESULT = 0 ∧
      s'.fdbFind s.fdbKey.1 s.fdbKey.2 = none ∧ ∀ v m, (v, m) ≠ s.fdbKey → s'.fdbFind v m = s.fdbFind v m) ∧
    (s.fdbFind s.fdbKey.1 s.fdbKey.2 = none → Ends (.fdbDelete t a) s fun s' => s'.rd F.HALL_FDB_CMD_RESULT = 1 ∧ s'.hall = s.hall) := by
  refine ⟨fun h => ?_, fun h => ?_⟩
  · have h' : ((s.tick t).okay.fdbFind (s.tick t).okay.fdbKey.1 (s.tick t).okay.fdbKey.2).isSome = true := Option.isSome_iff_ne_none.2 h
    exact ends_fdbCmd hp (arm_fdbDelete ..) hl (if_pos h') ⟨rd_fdbResult _ (by omega), find?_fdbWithout_self s.hall.fdb s.fdbKey.1 s.fdbKey.2, fun v m hvm => find?_fdbWithout_ne s.hall.fdb hvm⟩
  · have h' : ¬ ((s.tick t).okay.fdbFind (s.tick t).okay.fdbKey.1 (s.tick t).okay.fdbKey.2).isSome = true := fun h' => Option.isSome_iff_ne_none.1 h' h
    exact ends_fdbCmd hp (arm_fdbDelete ..) hl (if_neg h') ⟨rd_fdbResult _ (by omega), rfl⟩

theorem fdbLookUp_spec : (∀ e, s.fdbFind s.fdbKey.1 s.fdbKey.2 = some e → Ends (.fdbLookUp t a) s fun s' => s'.rd F.HALL_FDB_CMD_RESULT = 0 ∧
      s'.hall = s.hall ∧ s'.rd F.HALL_FDB_DATA_STATIC = (if e.static then 1 else 0) ∧ s'.rd F.HALL_FDB_DATA_PORT_MASK = e.mask % 2 ^ 24) ∧
    (s.fdbFind s.fdbKey.1 s.fdbKey.2 = none → Ends (.fdbLookUp t a) s fun s' => s'.rd F.HALL_FDB_CMD_RESULT = 1 ∧ s'.hall = s.hall ∧
      s'.rd F.HALL_FDB_DATA_PORT_MASK = s.rd F.HALL_FDB_DATA_PORT_MASK) := by
  refine ⟨fun e h => ?_, fun h => ?_⟩
  · have h' : (s.tick t).okay.fdbFind (s.tick t).okay.fdbKey.1 (s.tick t).okay.fdbKey.2 = some e := h
    refine ends_fdbCmd hp (arm_fdbLookUp ..) hl (n := ((s.tick t).okay.wr F.HALL_FDB_DATA_STATIC (bit e.static)).wr F.HALL_FDB_DATA_PORT_MASK e.mask)
      (r := 0) (by dsimp only; rw [h']) ⟨rd_fdbResult _ (by omega), rfl, ?_, ?_⟩
    · rw [State.rd_wr_ne _ _ (by decide)]
      refine (State.rd_wr_ne _ _ (by decide)).trans ((State.rd_wr_lt _ ?_).trans ?_) <;> cases e.static <;> decide
    · rw [State.rd_wr_ne _ _ (by decide)]; exact State.rd_wr_self ..
  · have h' : (s.tick t).okay.fdbFind (s.tick t).okay.fdbKey.1 (s.tick t).okay.fdbKey.2 = none := h
    exact ends_fdbCmd hp (arm_fdbLookUp ..) hl (n := (s.tick t).okay) (r := 1) (by dsimp only; rw [h'])
      ⟨rd_fdbResult _ (by omega), rfl, State.rd_wr_ne _ _ (by decide)⟩

end

/-- A learning update of the same clock to the same key comes after the look-up. -/
theorem fdbLookUp_learns (hl : (s.tick t).clk.learns = [(s.fdbKey.1, s.fdbKey.2, p, none)]) : Ends (.fdbLookUp t a) s fun s' =>
    s'.rd F.HALL_FDB_CMD_RESULT = 1 ∧
    (s.fdbRoom s.fdbKey.1 s.fdbKey.2 = true → s'.fdbFind s.fdbKey.1 s.fdbKey.2 = some ⟨s.fdbKey.1, s.fdbKey.2, false, 2 ^ p, t⟩) := by
  obtain ⟨n, hn⟩ : ∃ n, n = (s.tick t).okay.setFdb (fdbWithout s.hall.fdb s.fdbKey.1 s.fdbKey.2) := ⟨_, rfl⟩
  have hf : n.fdbFind s.fdbKey.1 s.fdbKey.2 = none := by rw [hn]; exact find?_fdbWithout_self ..
  have hkey : n.fdbKey = s.fdbKey := by rw [hn]; rfl
  have hnow : n.now = t := by rw [hn]; rfl
  have hroom (h : s.fdbRoom s.fdbKey.1 s.fdbKey.2 = true) : n.fdbRoom s.fdbKey.1 s.fdbKey.2 = true := by
    simp only [State.fdbRoom, Bool.and_eq_true, decide_eq_true_eq] at h ⊢
    have hd : List.Sublist n.hall.fdb s.hall.fdb := by rw [hn]; exact List.filter_sublist
    exact ⟨lt_of_le_of_lt hd.length_le h.1, lt_of_le_of_lt (hd.filter _).length_le h.2⟩
  refine ends_guarded_eq (x := (n.relearn s.fdbKey.1 s.fdbKey.2 p).wr F.HALL_FDB_CMD_RESULT 1) (arm_fdbLookUp ..) hp rfl ?_ ⟨rd_fdbResult _ (by omega), fun h => ?_⟩
  · have hl' : (s.tick t).okay.clk.learns = [(s.fdbKey.1, s.fdbKey.2, p, none)] := hl
    have hk : (s.tick t).okay.fdbKey = s.fdbKey := rfl
    rw [hk, hl']
    have hn' : n = (s.tick t).okay.setFdb ((s.tick t).okay.hall.fdb.filter (fun y => !y.is s.fdbKey.1 s.fdbKey.2) ++ (none : Option FdbEntry).toList) := by
      rw [hn, Option.toList_none, List.append_nil]; rfl
    clear hn hl hl' hk hroom
    generalize s.fdbKey = key at hn' hf hkey
    obtain ⟨v, m⟩ := key
    dsimp only at hn' hf ⊢
    rw [List.filter_cons_of_pos (by simp), List.filter_nil]
    dsimp only
    rw [← hn', hkey]
    dsimp only
    rw [hf]; rfl
  · have hr : n.relearn s.fdbKey.1 s.fdbKey.2 p = n.fdbPut ⟨s.fdbKey.1, s.fdbKey.2, false, 2 ^ p, t⟩ := by
      unfold State.relearn; rw [hf, hnow]; exact if_pos (hroom h)
    rw [hr]
    exact n.fdbFind_fdbPut_self ⟨s.fdbKey.1, s.fdbKey.2, false, 2 ^ p, t⟩

end

theorem fdbAgeOut_spec {vid mac : Nat} {e : FdbEntry} (he : s.fdbFind vid mac = some e) {gone : Prop}
    (hg : gone ↔ e.static = false ∧ e.hit + 1000000000 * s.rd F.HALL_CTL_AGE_S ≤ t) :
    (gone → Ends (.fdbAgeOut t vid mac) s fun s' => s'.fdbFind vid mac = none ∧ s'.regs = s.regs ∧
      ∀ v m, (v, m) ≠ (vid, mac) → s'.fdbFind v m = s.fdbFind v m) ∧
    (¬ gone → Ends (.fdbAgeOut t vid mac) s fun s' => s' = s.tick t) := by
  have he' : (s.tick t).fdbFind vid mac = some e := he
  have hc : (!e.static) = true ∧ (s.tick t).closed e.hit (secs ((s.tick t).rd F.HALL_CTL_AGE_S)) = true ↔ gone := by
    rw [hg, Bool.not_eq_true', State.closed, decide_eq_true_eq, secs, Nat.mul_comm]; rfl
  refine ⟨fun h => ends_next_eq (arm_fdbAgeOut ..) (x := (s.tick t).setFdb (fdbWithout s.hall.fdb vid mac)) ?_
    ⟨find?_fdbWithout_self .., rfl, fun v m hvm => find?_fdbWithout_ne _ hvm⟩, fun h => ends_next_eq (arm_fdbAgeOut ..) (x := s.tick t) ?_ rfl⟩
  · rw [he']; exact if_pos (hc.2 h)
  · rw [he']; exact if_neg fun h' => h (hc.1 h')

/-! ### Counters -/

theorem Tbl.find?_filter_key {α : Type} (m : Tbl α) (q : Nat → Bool) (k : Nat) : Tbl.find? (m.filter fun x : Nat × α => q x.1) k = if q k then m.find? k else none := by
  induction m with
  | nil => simp
  | cons x m ih =>
    obtain ⟨j, v⟩ := x
    rw [List.filter_cons]
    by_cases hjk : j = k
    · subst hjk
      cases hq : q j <;> simp [Tbl.find?, ih, hq]
    · cases hq : q j <;> simp [Tbl.find?, ih, hjk]

/-- The state with every counter of the Hallway cleared. -/
def State.hallCleared (s : State) : State := { s with regs := s.regs.filter fun x : Nat × Nat => !hallCounterKey x.1 }

theorem State.rd_hallCleared (s : State) (f : Fld) : s.hallCleared.rd f = if hallCounterKey f.key then f.reset else s.rd f := by
  unfold State.rd State.hallCleared
  rw [Tbl.find?_filter_key s.regs (fun k => !hallCounterKey k)]
  cases hallCounterKey f.key <;> rfl

theorem hallCounterKey_iff (key : Nat) : hallCounterKey key = true ↔ 0x40E00000 ≤ key / 32 ∧ key / 32 < 0x41000000 ∧
    (key / 32 - 0x40E00000 = 0x1C ∨ (0x10000 ≤ key / 32 - 0x40E00000 ∧ key / 32 - 0x40E00000 < 0x28000 ∧ 0x100 ≤ (key / 32 - 0x40E00000) % 0x1000 ∧
      (key / 32 - 0x40E00000) % 0x1000 < 0x140) ∨
      (0xA0000 ≤ key / 32 - 0x40E00000 ∧ key / 32 - 0x40E00000 < 0xA8000 ∧ 0x10 ≤ (key / 32 - 0x40E00000) % 0x20)) := by
  simp only [hallCounterKey, Bool.and_eq_true, Bool.or_eq_true, decide_eq_true_eq, beq_iff_eq]; omega

theorem cntClr_spec {v : Word} (hp : (s.tick t).passes 0x40E00000 a true = true) : Ends (.cntClr t a v) s fun s' =>
    (p < 24 → k < 16 → s'.rd (F.HALL_PORT_CNT_COUNT p k) = 0) ∧ s'.rd F.HALL_PARTIAL_CNT_PARTIAL = 0 ∧
    (i < 1024 → s'.rd (F.HALL_STREAM4_PARTIAL i) = 0 ∧ s'.rd (F.HALL_STREAM7_FRAMES i) = 0 ∧
      s'.rd (F.HALL_STREAM3_METER i) = s.rd (F.HALL_STREAM3_METER i)) ∧
    s'.rd F.HALL_TIE_CNT_TIES = s.rd F.HALL_TIE_CNT_TIES ∧ s'.rd F.HALL_BUF_MIN_MIN = s.cellsFree ∧
    s'.rd F.HALL_CTL_FWD_EN = v.toNat / 2 ^ 31 ∧ s'.rd F.HALL_CTL_AGE_S = max 10 (v.toNat % 4096) ∧ s'.hall = s.hall := by
  have hage : clampNat (bits v.toNat 11 0) 10 4095 = max 10 (v.toNat % 4096) := by
    rw [clampNat_eq _ _ _ (by omega)]; simp only [bits]; omega
  obtain ⟨n, hn⟩ : ∃ n, n = ((s.tick t).okay.hallCleared.wr F.HALL_BUF_MIN_MIN s.cellsFree).wr F.HALL_CTL_FWD_EN (v.toNat / 2 ^ 31) := ⟨_, rfl⟩
  obtain ⟨x, hx⟩ : ∃ x, x = n.wr F.HALL_CTL_AGE_S (max 10 (v.toNat % 4096)) := ⟨_, rfl⟩
  have hrd {f : Fld} (h : f.addr ≠ 0x40E00000) (h' : f.addr ≠ 0x40E00008) (hlo : f.lo < 32) : x.rd f = if hallCounterKey f.key then f.reset else s.rd f := by
    rw [hx, hn, State.rd_wr_ne _ _ (by simp only [ne_eq, Fld.key, F.HALL_CTL_AGE_S]; omega),
      State.rd_wr_ne _ _ (by simp only [ne_eq, Fld.key, F.HALL_CTL_FWD_EN]; omega), State.rd_wr_ne _ _ (by simp only [ne_eq, Fld.key, F.HALL_BUF_MIN_MIN]; omega),
      State.rd_hallCleared]; rfl
  have hmin : x.rd F.HALL_BUF_MIN_MIN = s.cellsFree := by
    have hle : s.cellsFree ≤ 98304 := Nat.sub_le ..
    rw [hx, hn, State.rd_wr_ne _ _ (by decide), State.rd_wr_ne _ _ (by decide)]
    exact State.rd_wr_lt _ (by simp only [F.HALL_BUF_MIN_MIN]; omega)
  have hfwd : x.rd F.HALL_CTL_FWD_EN = v.toNat / 2 ^ 31 := by
    rw [hx, hn, State.rd_wr_ne _ _ (by decide)]
    exact State.rd_wr_lt _ (by have := v.isLt; simp only [F.HALL_CTL_FWD_EN]; omega)
  have hagex : x.rd F.HALL_CTL_AGE_S = max 10 (v.toNat % 4096) := by
    rw [hx]; exact State.rd_wr_lt _ (by simp only [F.HALL_CTL_AGE_S]; omega)
  have hh : x.hall = s.hall := by rw [hx, hn]; rfl
  refine ends_guarded_eq (arm_cntClr ..) hp rfl (x := x) ?_ ⟨fun hp hk => ?_, ?_, fun hi => ⟨?_, ?_, ?_⟩, ?_, hmin, hfwd, hagex, hh⟩
  · dsimp only
    rw [hage, bits_31 v.isLt, hx, hn]; rfl
  · rw [hrd (by simp only [ne_eq, F.HALL_PORT_CNT_COUNT]; omega) (by simp only [ne_eq, F.HALL_PORT_CNT_COUNT]; omega) (by simp [F.HALL_PORT_CNT_COUNT])]
    exact if_pos ((hallCounterKey_iff _).2 (by simp only [Fld.key, F.HALL_PORT_CNT_COUNT]; omega))
  · rw [hrd (by decide) (by decide) (by decide)]; exact if_pos (by decide)
  · rw [hrd (by simp only [ne_eq, F.HALL_STREAM4_PARTIAL]; omega) (by simp only [ne_eq, F.HALL_STREAM4_PARTIAL]; omega) (by simp [F.HALL_STREAM4_PARTIAL])]
    exact if_pos ((hallCounterKey_iff _).2 (by simp only [Fld.key, F.HALL_STREAM4_PARTIAL]; omega))
  · rw [hrd (by simp only [ne_eq, F.HALL_STREAM7_FRAMES]; omega) (by simp only [ne_eq, F.HALL_STREAM7_FRAMES]; omega) (by simp [F.HALL_STREAM7_FRAMES])]
    exact if_pos ((hallCounterKey_iff _).2 (by simp only [Fld.key, F.HALL_STREAM7_FRAMES]; omega))
  · rw [hrd (by simp only [ne_eq, F.HALL_STREAM3_METER]; omega) (by simp only [ne_eq, F.HALL_STREAM3_METER]; omega) (by simp [F.HALL_STREAM3_METER])]
    exact if_neg fun h => absurd ((hallCounterKey_iff _).1 h) (by simp only [Fld.key, F.HALL_STREAM3_METER]; omega)
  · rw [hrd (by decide) (by decide) (by decide)]; exact if_neg (by decide)

/-! ### Preemption and recovery -/

theorem preemptVerify_spec (hp : 8 ≤ p) (hp' : p < 18) (hv : s.rd (F.HALL_PORT_STAT_VERIFY p) = 1) :
    (Ends (.preemptVerify t p true) s fun s' => OnlyRegs s t [F.HALL_PORT_STAT_VERIFY p, F.HALL_PORT_STAT_PREEMPT_ACTIVE p] s' ∧
      s'.rd (F.HALL_PORT_STAT_VERIFY p) = 2 ∧ s'.rd (F.HALL_PORT_STAT_PREEMPT_ACTIVE p) = 1) ∧
    (s.hall.tries.getD 0 p = 2 → Ends (.preemptVerify t p false) s fun s' =>
      s'.rd (F.HALL_PORT_STAT_VERIFY p) = 3 ∧ s'.rd (F.HALL_PORT_STAT_PREEMPT_ACTIVE p) = 0) ∧
    (s.hall.tries.getD 0 p < 2 → Ends (.preemptVerify t p false) s fun s' => s'.regs = s.regs ∧
      s'.hall.tries.getD 0 p = s.hall.tries.getD 0 p + 1) := by
  have hv' : ¬ (s.tick t).rd (F.HALL_PORT_STAT_VERIFY p) ≠ 1 := not_not.2 hv
  have hkey : (F.HALL_PORT_STAT_PREEMPT_ACTIVE p).key ≠ (F.HALL_PORT_STAT_VERIFY p).key := by
    simp only [ne_eq, Fld.key, F.HALL_PORT_STAT_PREEMPT_ACTIVE, F.HALL_PORT_STAT_VERIFY]; omega
  have htries : ((s.tick t).hall.tries.getD 0 p) = s.hall.tries.getD 0 p := rfl
  refine ⟨ends_unit (arm_preemptVerify ..) (decide_eq_true ⟨hp, hp'⟩) ((if_neg hv').trans (if_pos rfl)) ⟨((OnlyRegs.tick s t _).wr _ (by simp)).setF (by simp), ?_,
    State.rd_setF_self ..⟩, fun h => ?_, fun h => ?_⟩
  · exact (State.rd_setF_ne _ hkey).trans (State.rd_wr_lt _ (by simp [F.HALL_PORT_STAT_VERIFY]))
  · refine ends_unit (arm_preemptVerify ..) (decide_eq_true ⟨hp, hp'⟩) ((if_neg hv').trans ((if_neg Bool.false_ne_true).trans (if_neg (by omega))))
      ⟨?_, State.rd_clrF_self ..⟩
    exact (State.rd_clrF_ne _ hkey).trans (State.rd_wr_lt _ (by simp [F.HALL_PORT_STAT_VERIFY]))
  · have hn : (s.tick t).hall.tries.getD 0 p + 1 < 3 := by omega
    refine ends_unit (arm_preemptVerify ..) (decide_eq_true ⟨hp, hp'⟩) (x := { s.tick t with hall := { s.hall with
      tries := s.hall.tries.put 0 p (s.hall.tries.getD 0 p + 1) } }) ((if_neg hv').trans ((if_neg Bool.false_ne_true).trans (if_pos hn))) ⟨rfl, ?_⟩
    exact Tbl.getD_put_self s.hall.tries 0 (s.hall.tries.getD 0 p + 1) p

theorem frerRecovReset_spec {x : Recov} (hi : i < 1024) (hx : s.hall.recov.find? i = some x) {ended : Prop}
    (he : ended ↔ x.last + 1000000 * s.rd (F.HALL_STREAM3_RECOV_RESET i) ≤ t) :
    (ended → Ends (.frerRecovReset t i) s fun s' => s'.hall.recov.find? i = none ∧ s'.regs = s.regs ∧
      ∀ j, j ≠ i → s'.hall.recov.find? j = s.hall.recov.find? j) ∧
    (¬ ended → Ends (.frerRecovReset t i) s fun s' => s' = s.tick t) := by
  have hx' : (s.tick t).hall.recov.find? i = some x := hx
  have hc : (s.tick t).closed x.last (ms ((s.tick t).rd (F.HALL_STREAM3_RECOV_RESET i))) = true ↔ ended := by
    rw [he, State.closed, decide_eq_true_eq, ms, Nat.mul_comm]; rfl
  refine ⟨fun h => ends_unit (arm_frerRecovReset ..) (decide_eq_true hi) (x := { s.tick t with hall := { s.hall with recov := s.hall.recov.erase i } }) ?_
    ⟨Tbl.find?_erase_self .., rfl, fun j hj => Tbl.find?_erase_ne _ hj.symm⟩, fun h => ends_unit (arm_frerRecovReset ..) (decide_eq_true hi) (x := s.tick t) ?_ rfl⟩
  · rw [hx']; exact if_pos (hc.2 h)
  · rw [hx']; exact if_neg fun h' => h (hc.1 h')

/-- Settles O43: gate lists change at their instant, links hold and flush, a database command comes before the learning of its clock, and
the counters, preemption and recovery follow their rules. -/
theorem hallwayControl : Obligations.HallwayControl := by
  intro s t p k i c vid mac a v e x
  refine ⟨gclChange_spec, fun hp hl hc => ⟨gclChangeInstant_due hp hl hc, gclChangeInstant_early hp hc⟩,
    fun hp hp' hl => ⟨linkLost_hold hp hp' hl, linkLost_down hp hp' hl⟩,
    fun hp hp' hl => ⟨fun ho => linkUp_plain hp hp' (by simp [ho]), fun ho => ⟨linkUp_closed hp hp' hl ho, linkHoldExpiry_closed hp hp' hl ho⟩⟩,
    fun hp hp' hl => (linkUp_plain hp hp' fun h => ?_).mono fun s' ⟨h1, _, h3, h4, _⟩ => ⟨h1, h3, h4⟩,
    fun hp hl => ⟨(fdbInsert_spec hp hl).1, (fdbInsert_spec hp hl).2, (fdbDelete_spec hp hl).1, (fdbDelete_spec hp hl).2, (fdbLookUp_spec hp hl).1 e,
      (fdbLookUp_spec hp hl).2⟩, fdbLookUp_learns, fun he => fdbAgeOut_spec he Iff.rfl, cntClr_spec, preemptVerify_spec, fun hi hx => frerRecovReset_spec hi hx Iff.rfl⟩
  have h2 : s.link p = 1 := h.1
  omega

end Sys2Proof.Machine
end

section
/-! PROOFS. Setup: STORE, APPLY and reports: O60 -/

namespace Sys2Proof.Machine


variable {s s' : State} {t n v : Nat} {a : Attr} {m m' : SetupImage}

/-! ### The end of a command -/

/-- What a command that has ended with RESULT `x` leaves. -/
def SetupEnded (s : State) (x : Nat) (s' : State) : Prop := s'.rd F.SETUP_STAT_RESULT = x ∧ s'.rd F.SETUP_STAT_DONE = 1 ∧
  s'.rd F.SETUP_STAT_BUSY = 0 ∧ s'.setup.storing = none ∧ s'.setup.applying = false ∧ s'.mem = s.mem

theorem State.setupEnd_ended (s : State) {x : Nat} (hx : x < 16) : SetupEnded s x (s.setupEnd x) := by
  obtain ⟨n, hn⟩ : ∃ n, n = ((s.wr F.SETUP_STAT_RESULT x).raise F.SETUP_STAT_DONE).clrF F.SETUP_STAT_BUSY := ⟨_, rfl⟩
  have h1 : n.rd F.SETUP_STAT_RESULT = x := by
    rw [hn, State.rd_clrF_ne _ (by decide), State.rd_raise_ne _ (by decide)]; exact State.rd_wr_lt _ hx
  have h2 : n.rd F.SETUP_STAT_DONE = 1 := by rw [hn, State.rd_clrF_ne _ (by decide)]; exact State.rd_raise_bit _ rfl
  have h3 : n.rd F.SETUP_STAT_BUSY = 0 := by rw [hn]; exact State.rd_clrF_self ..
  have h4 : n.mem = s.mem := by rw [hn]; rfl
  unfold State.setupEnd; rw [← hn]; exact ⟨h1, h2, h3, rfl, rfl, h4⟩

theorem State.setupEnd_copies (s : State) (x : Nat) : (s.setupEnd x).setup = { s.setup with storing := none, applying := false } ∧ (s.setupEnd x).log = s.log ∧
    (s.setupEnd x).mem = s.mem := ⟨rfl, rfl, rfl⟩

theorem State.rd_setupEnd (s : State) (x : Nat) {f : Fld} (h : f.addr ≠ 0x41500000) (hlo : f.lo < 32) : (s.setupEnd x).rd f = s.rd f := by
  change (((s.wr F.SETUP_STAT_RESULT x).raise F.SETUP_STAT_DONE).clrF F.SETUP_STAT_BUSY).rd f = _
  rw [State.rd_clrF_ne _ (by simp only [ne_eq, Fld.key, F.SETUP_STAT_BUSY]; omega), State.rd_raise_ne _ (by simp only [ne_eq, Fld.key, F.SETUP_STAT_DONE]; omega),
    State.rd_wr_ne _ _ (by simp only [ne_eq, Fld.key, F.SETUP_STAT_RESULT]; omega)]

theorem SetupEnded.of_mem {x : Nat} {n : State} (h : SetupEnded n x s') (hm : n.mem = s.mem) : SetupEnded s x s' := by
  obtain ⟨h1, h2, h3, h4, h5, h6⟩ := h
  exact ⟨h1, h2, h3, h4, h5, h6.trans hm⟩

/-- A command that begins sets BUSY, and the loader's own state. -/
theorem State.onlyRegs_begun (s : State) (t : Nat) (u : SetupSt) : OnlyRegs { s with setup := u } t [F.SETUP_STAT_BUSY]
    { (s.tick t).okay.setF F.SETUP_STAT_BUSY with setup := u } :=
  ⟨rfl, fun f hf => s.rd_setF_ne (f := F.SETUP_STAT_BUSY) (g := f) fun e => hf (by simp [e])⟩

theorem State.rd_begun (s : State) (u : SetupSt) : State.rd { s.setF F.SETUP_STAT_BUSY with setup := u } F.SETUP_STAT_BUSY = 1 :=
  s.rd_setF_self F.SETUP_STAT_BUSY

theorem State.deny_setup (s : State) (a : Attr) (set addr : Nat) (w : Bool) : (s.deny a set addr w).setup = s.setup := by
  have hl (x : Viol) : (s.logViol x).setup = s.setup := by unfold State.logViol; split <;> rfl
  obtain ⟨n, hn⟩ : ∃ n, n = (s.logViol ⟨0x0E, a, set, w, addr⟩).inc F.WORLD_VIOL_CNT_DENIED := ⟨_, rfl⟩
  have hns : n.setup = s.setup := by rw [hn]; exact hl _
  unfold State.deny; dsimp only; rw [← hn]
  rw [State.answer_setup]
  split <;> split <;> exact hns

/-! ### STORE and APPLY -/

section
variable (hc : a.attic = true ∧ a.inst = 0 ∧ (s.tick t).passes 0x41500004 a true = true)
include hc

/-- A command of the Attic's instance 0 that the regions let pass goes by BUSY. -/
theorem ends_setupCmd {c : Instr} {eff : State → State} {P : State → Prop}
    (he : exec c s = .next ((s.tick t).guarded a 0x41500004 true a.attic0 fun s => s.setupCmd eff))
    (h : P ((s.tick t).okay.setupCmd eff)) : Ends c s P := by
  obtain ⟨ha, hi, hp⟩ := hc
  exact ends_guarded he hp (by rw [Attr.attic0, ha, hi]; rfl) h

theorem setup_busy {c : Instr} {eff : State → State} (he : exec c s = .next ((s.tick t).guarded a 0x41500004 true a.attic0 fun s => s.setupCmd eff))
    (hb : s.rd F.SETUP_STAT_BUSY ≠ 0) : Ends c s fun s' => OnlyRegs s t [F.SETUP_STAT_RESULT] s' ∧ s'.rd F.SETUP_STAT_RESULT = 1 := by
  have hb' : (s.tick t).okay.flag F.SETUP_STAT_BUSY = true := State.flag_eq_true.2 hb
  refine ends_setupCmd hc he ?_
  rw [State.setupCmd, if_pos hb']
  exact ⟨(OnlyRegs.tick s t _).okay.wr _ (by simp), State.rd_wr_lt _ (by decide)⟩

section
variable (hb : s.rd F.SETUP_STAT_BUSY = 0)
include hb

theorem ends_setupIdle {c : Instr} {eff : State → State} {P : State → Prop}
    (he : exec c s = .next ((s.tick t).guarded a 0x41500004 true a.attic0 fun s => s.setupCmd eff)) (h : P (eff (s.tick t).okay)) : Ends c s P := by
  have hb' : ¬ (s.tick t).okay.flag F.SETUP_STAT_BUSY = true := fun h => State.flag_eq_true.1 h hb
  refine ends_setupCmd hc he ?_
  rw [State.setupCmd, if_neg hb']; exact h

theorem setupApply_begins (hm : s.cyc.mode = .stop) : Ends (.setupApply t a) s fun s' => s'.setup = { s.setup with storing := s.setup.storing, applying := true } ∧
    OnlyRegs { s with setup := s'.setup } t [F.SETUP_STAT_BUSY] s' ∧ s'.rd F.SETUP_STAT_BUSY = 1 := by
  have hm' : ¬ (s.tick t).okay.cyc.mode ≠ .stop := not_not.2 hm
  refine ends_setupIdle hc hb (arm_setupApply ..) ?_
  rw [if_neg hm']
  exact ⟨rfl, State.onlyRegs_begun s t _, State.rd_begun ..⟩

theorem setupApply_notStop (hm : s.cyc.mode ≠ .stop) : Ends (.setupApply t a) s (SetupEnded s 7) := by
  have hm' : (s.tick t).okay.cyc.mode ≠ .stop := hm
  refine ends_setupIdle hc hb (arm_setupApply ..) ?_
  rw [if_pos hm']
  exact (s.tick t).okay.setupEnd_ended (by omega)

/-- The copies stand, and the command ends with RESULT `x`. -/
def SetupKept (s : State) (x : Nat) (s' : State) : Prop := SetupEnded s x s' ∧ s'.setup.copyA = s.setup.copyA ∧ s'.setup.copyB = s.setup.copyB

omit hc hb in
theorem State.setupEnd_kept {n : State} (hm : n.mem = s.mem) (hs : n.setup = s.setup) {x : Nat} (hx : x < 16) : SetupKept s x (n.setupEnd x) :=
  ⟨(n.setupEnd_ended hx).of_mem hm, (congrArg SetupSt.copyA hs :), (congrArg SetupSt.copyB hs :)⟩

theorem setupStore_blocked (hbl : s.blocked = true) : Ends (.setupStore t a) s (SetupKept s 4) := by
  have hbl' : (s.tick t).okay.blocked = true := hbl
  refine ends_setupIdle hc hb (arm_setupStore ..) ?_
  rw [if_pos hbl']
  exact State.setupEnd_kept rfl rfl (by omega)

theorem setupStore_unread (hbl : s.blocked = false) (hr : (s.tick t).reaches s.setupAddr (s.rd F.SETUP_LEN_LEN) false = false) :
    Ends (.setupStore t a) s (SetupKept s 2) := by
  have hbl' : ¬ (s.tick t).okay.blocked = true := Bool.eq_false_iff.1 hbl
  refine ends_setupIdle hc hb (arm_setupStore ..) ?_
  rw [if_neg hbl']
  obtain ⟨p, hp⟩ : ∃ p, (pagesOf s.setupAddr (s.rd F.SETUP_LEN_LEN)).find? (fun p => !(s.tick t).okay.passes p Attr.hubBlock false) = some p := by
    refine Option.isSome_iff_exists.1 (List.find?_isSome.2 ?_)
    obtain ⟨p, hp, hn⟩ := List.all_eq_false.1 hr
    exact ⟨p, hp, by rw [show (s.tick t).okay.passes p Attr.hubBlock false = (s.tick t).passes p Attr.hubBlock false from rfl]; simpa using hn⟩
  have hx : (s.tick t).okay.buffer (s.tick t).okay.setupAddr ((s.tick t).okay.rd F.SETUP_LEN_LEN) false (fun s => s.storeImage s.setupImageAt) (fun s => s.storeImage none) =
      State.setupEnd { (s.tick t).okay.deny Attr.hubBlock ((regionSet p).getD 3) p false with resp := (s.tick t).okay.resp } 2 := by
    unfold State.buffer
    rw [show (pagesOf (s.tick t).okay.setupAddr ((s.tick t).okay.rd F.SETUP_LEN_LEN)).find? (fun p => !(s.tick t).okay.passes p Attr.hubBlock false) = some p from hp]
    rfl
  rw [hx]
  refine State.setupEnd_kept ?_ ?_ (by omega)
  · exact ((s.tick t).okay.deny_frame Attr.hubBlock ((regionSet p).getD 3) p false).1
  · exact (s.tick t).okay.deny_setup ..

end

/-! ### The image in the buffer -/

omit hc in
/-- A part of a load is a load. -/
theorem State.slice_load (s : State) (x : Nat) {k o n : Nat} (h : o + n ≤ k) : slice (s.load x k) o n = s.load (x + o) n := by
  unfold slice State.load
  refine List.ext_getElem (by simp; omega) fun i h1 h2 => ?_
  simp [Nat.add_assoc]

end

/-- What the header of an image in the buffer says (*Table: Setup image*), with every reason for none. -/
theorem State.setupImageAt_spec (s : State) : (leNum (s.load s.setupAddr 6) ≠ 0x000131544553 → s.setupImageAt = none) ∧
    (s.rd F.SETUP_LEN_LEN ≠ 64 + leNum (s.load (s.setupAddr + 24) 4) + 3405 → s.setupImageAt = none) ∧
    ∀ x, s.setupImageAt = some x → x.formatOk = true ∧ x.cl = leNum (s.load (s.setupAddr + 6) 1) ∧
      x.mid = leNum (s.load (s.setupAddr + 8) 2) % 2 ^ 14 ∧ x.version = leNum (s.load (s.setupAddr + 12) 4) ∧
      x.floor = leNum (s.load (s.setupAddr + 16) 4) := by
  have hs (o n : Nat) (h : o + n ≤ 64) := s.slice_load s.setupAddr h
  unfold State.setupImageAt
  dsimp only
  rw [hs 0 6 (by omega), hs 24 4 (by omega), Nat.add_zero]
  refine ⟨fun h => if_pos (Or.inl fun e => h (by rw [e]; rfl)), fun h => if_pos (Or.inr (Or.inl h)), fun x h => ?_⟩
  · rw [hs 8 2 (by omega), hs 12 4 (by omega), hs 16 4 (by omega)] at h
    split at h
    · exact nomatch h
    · obtain ⟨l, -, rfl⟩ := Option.map_eq_some_iff.1 h
      refine ⟨rfl, ?_, rfl, rfl, rfl⟩
      simp [State.load, leNum]

/-! ### The checks of an image -/

/-- Check 1: the image and its records are well formed, and no field is named twice. -/
def WellFormed (x : SetupImage) : Prop := x.mid ≠ 0 ∧ x.records.all SetupRec.wf = true ∧ noRepeat (x.records.filterMap SetupRec.place) = true

/-- Check 3: a pin that is not revoked verifies a signature. -/
def State.signs (s : State) (x : SetupImage) : Prop := ∃ k, k ∈ x.pins ∧ k < 4 ∧ s.efuse.revoked.testBit k = false

theorem State.pinsOk_iff (s : State) (x : SetupImage) : s.pinsOk x.pins = true ↔ s.signs x := by
  unfold State.pinsOk State.signs; simp [List.any_eq_true]

theorem wellFormed_iff {x : SetupImage} (h : x.formatOk = true) :
    (!x.formatOk || x.mid == 0 || !x.records.all SetupRec.wf || !noRepeat (x.records.filterMap SetupRec.place)) = true ↔ ¬ WellFormed x := by
  unfold WellFormed
  rw [h]
  simp only [Bool.or_eq_true, Bool.not_eq_true', beq_iff_eq, Bool.not_true]
  constructor
  · rintro (((h | h) | h) | h) ⟨h1, h2, h3⟩ <;> simp_all
  · intro hn
    by_contra hc
    simp only [not_or, Bool.not_eq_false] at hc
    exact hn ⟨hc.1.1.2, hc.1.2, hc.2⟩

/-- Checks 1 to 4 in their order. -/
theorem State.imageFault_spec (s : State) {x : SetupImage} (h : x.formatOk = true) :
    (¬ WellFormed x → s.imageFault x = 2) ∧ (WellFormed x → ¬ x.cl ≤ s.rd F.SYSCTL_ID_CL → s.imageFault x = 3) ∧
    (WellFormed x → x.cl ≤ s.rd F.SYSCTL_ID_CL → ¬ s.signs x → s.imageFault x = 4) ∧
    (WellFormed x → x.cl ≤ s.rd F.SYSCTL_ID_CL → s.signs x → x.hashOk = false → s.imageFault x = 5) ∧
    (WellFormed x → x.cl ≤ s.rd F.SYSCTL_ID_CL → s.signs x → x.hashOk = true → s.imageFault x = 0) := by
  have hform := wellFormed_iff h
  have hpins : (!s.pinsOk x.pins) = true ↔ ¬ s.signs x := by rw [← s.pinsOk_iff x, Bool.not_eq_true', Bool.eq_false_iff]
  unfold State.imageFault
  refine ⟨fun hf => if_pos (hform.2 hf), fun hf hl => ?_, fun hf hl hp => ?_, fun hf hl hp hh => ?_, fun hf hl hp hh => ?_⟩ <;>
    rw [if_neg (fun h => hform.1 h hf)]
  · exact if_pos (not_le.1 hl)
  · rw [if_neg (not_lt.2 hl)]; exact if_pos (hpins.2 hp)
  · rw [if_neg (not_lt.2 hl), if_neg (fun h => hpins.1 h hp), hh]; rfl
  · rw [if_neg (not_lt.2 hl), if_neg (fun h => hpins.1 h hp), hh]; rfl

/-- The RESULT is the first check that fails, the last one against the image in use. -/
theorem State.imageResult_of_fault (s : State) {x : SetupImage} {r : Nat} (h : s.imageFault x = r) (h0 : r ≠ 0) : s.imageResult x = r := by
  unfold State.imageResult; dsimp only; rw [h]; exact if_pos h0

theorem State.imageResult_of_sound (s : State) {x : SetupImage} (h : s.imageFault x = 0) :
    (¬ (s.rd F.SETUP_STAT_SRC = 0 ∨ s.rd F.SETUP_FLOOR_VERSION_FLOOR ≤ x.version) → s.imageResult x = 6) ∧
    ((s.rd F.SETUP_STAT_SRC = 0 ∨ s.rd F.SETUP_FLOOR_VERSION_FLOOR ≤ x.version) → s.imageResult x = 0) := by
  unfold State.imageResult; dsimp only; rw [h, if_neg (not_not.2 rfl)]
  exact ⟨fun hv => if_pos ⟨fun h0 => hv (.inl h0), not_le.1 fun h0 => hv (.inr h0)⟩, fun hv => if_neg fun h0 => hv.elim h0.1 (not_le.2 h0.2)⟩

section
variable (hc : a.attic = true ∧ a.inst = 0 ∧ (s.tick t).passes 0x41500004 a true = true) (hb : s.rd F.SETUP_STAT_BUSY = 0)
include hc hb

/-- A STORE whose buffer the Attic may read is a STORE of the image there. -/
theorem setupStore_reads (hbl : s.blocked = false) (hr : (s.tick t).reaches s.setupAddr (s.rd F.SETUP_LEN_LEN) false = true) :
    Ends (.setupStore t a) s fun s' => s' = (s.tick t).okay.storeImage s.setupImageAt := by
  have hbl' : ¬ (s.tick t).okay.blocked = true := Bool.eq_false_iff.1 hbl
  refine ends_setupIdle hc hb (arm_setupStore ..) ?_
  have hr' : (s.tick t).okay.reaches (s.tick t).okay.setupAddr ((s.tick t).okay.rd F.SETUP_LEN_LEN) false = true := hr
  rw [if_neg hbl', State.buffer_of_reaches _ _ hr']
  rfl

omit hc hb in
/-- A STORE of an image that passes begins its write; of one that fails it ends with the RESULT, the copies as they stood. -/
theorem State.storeImage_spec (s : State) (t : Nat) : SetupKept s 2 ((s.tick t).okay.storeImage none) ∧
    ∀ x r, (s.tick t).okay.imageResult x = r → (r ≠ 0 → r < 16 → SetupKept s r ((s.tick t).okay.storeImage (some x))) ∧
      (r = 0 → ((s.tick t).okay.storeImage (some x)).setup = { s.setup with storing := some x, applying := false } ∧
        OnlyRegs { s with setup := ((s.tick t).okay.storeImage (some x)).setup } t [F.SETUP_STAT_BUSY] ((s.tick t).okay.storeImage (some x)) ∧
        ((s.tick t).okay.storeImage (some x)).rd F.SETUP_STAT_BUSY = 1) := by
  refine ⟨State.setupEnd_kept rfl rfl (by omega), fun x r hr => ⟨fun h0 hlt => ?_, fun h0 => ?_⟩⟩
  · unfold State.storeImage; dsimp only; rw [hr, if_pos h0]
    exact State.setupEnd_kept rfl rfl hlt
  · unfold State.storeImage; dsimp only; rw [hr, if_neg (not_not.2 h0)]
    exact ⟨rfl, State.onlyRegs_begun s t _, State.rd_begun ..⟩

end

/-! ### The end of a STORE -/

theorem storeComplete_spec (hm : s.setup.storing = some m) : Ends (.storeComplete t) s fun s' => SetupEnded s 0 s' ∧ s'.log = s.log ∧
    (s.rd F.SETUP_STAT_SRC = 1 → s'.setup.copyB = some m ∧ s'.setup.copyA = s.setup.copyA) ∧
    (s.rd F.SETUP_STAT_SRC ≠ 1 → s'.setup.copyA = some m ∧ s'.setup.copyB = s.setup.copyB) := by
  have hm' : (s.tick t).setup.storing = some m := hm
  refine ends_next_eq (arm_storeComplete ..) (x := ((s.tick t).putCopy m).setupEnd 0) (by rw [hm']) ?_
  unfold State.putCopy; rw [State.rd_tick]; split
  next h => exact ⟨(State.setupEnd_ended _ (by omega)).of_mem rfl, rfl, fun _ => ⟨rfl, rfl⟩, fun h' => absurd h h'⟩
  next h => exact ⟨(State.setupEnd_ended _ (by omega)).of_mem rfl, rfl, fun h' => absurd h' h, fun _ => ⟨rfl, rfl⟩⟩

theorem storeComplete_idle (hm : s.setup.storing = none) : Ends (.storeComplete t) s fun s' => s' = s.tick t := by
  have hm' : (s.tick t).setup.storing = none := hm
  exact ends_next_eq (arm_storeComplete ..) (x := s.tick t) (by rw [hm']) rfl

/-! ### The copy that APPLY takes -/

theorem State.chooseCopy_none (s : State) (hA : s.setup.copyA = none) (hB : s.setup.copyB = none) : s.chooseCopy = none ∧ s.chooseFault = 2 := by
  unfold State.chooseCopy State.chooseFault; rw [hA, hB]; exact ⟨rfl, rfl⟩

/-- Copy A is taken where it passes, and copy B is absent, fails, or is set aside for its VERSION. -/
theorem State.chooseCopy_A (s : State) (hA : s.setup.copyA = some m) (hf : s.imageFault m = 0) (hB : s.setup.copyB = none ∨
    (s.setup.copyB = some m' ∧ (s.imageFault m' ≠ 0 ∨ (m'.floor ≤ m.version ∧ m.floor ≤ m'.version ∧ m'.version ≤ m.version)))) :
    s.chooseCopy = some (1, m) := by
  unfold State.chooseCopy
  have ha : (some m).filter (fun m => s.imageFault m == 0) = some m := by rw [Option.filter_some, if_pos (by rw [hf]; rfl)]
  dsimp only
  rw [hA, ha]
  rcases hB with hB | ⟨hB, hfb | ⟨h1, h2, h3⟩⟩ <;> rw [hB]
  · rfl
  · rw [Option.filter_some, if_neg (by simpa using hfb)]
  · rw [Option.filter_some]
    by_cases hb : (s.imageFault m' == 0) = true
    · rw [if_pos hb]; dsimp only; rw [decide_eq_true h1, decide_eq_true h2]; exact if_pos h3
    · rw [if_neg hb]

/-! ### The lane group at its reset values -/

theorem State.rd_resetGroup (s : State) (f : Fld) (hlo : f.lo < 32) : s.resetGroup.rd f = if laneGroup f then f.reset else s.rd f := by
  have hg : laneGroup ⟨f.key / 32, f.key % 32, 0, 0⟩ = laneGroup f := by
    rw [show f.key / 32 = f.addr by simp only [Fld.key]; omega, show f.key % 32 = f.lo by simp only [Fld.key]; omega]; rfl
  unfold State.rd State.resetGroup
  rw [Tbl.find?_filter_key s.regs (fun k => !laneGroup ⟨k / 32, k % 32, 0, 0⟩), hg]
  cases laneGroup f <;> rfl

theorem laneGroup_profile {lo w r : Nat} (hn : n < 48) (hlo : 29 ≤ lo) : laneGroup ⟨0x4010000C + n * 256, lo, w, r⟩ = true := by
  have h1 : (0x4010000C + n * 256) % 0x100 = 0x0C := by omega
  have h2 : 0x40100000 ≤ 0x4010000C + n * 256 ∧ 0x4010000C + n * 256 < 0x40103000 := by omega
  simp [laneGroup, h1, hlo, h2]

theorem laneGroup_thresholds {lo w r : Nat} (hn : n < 16) : laneGroup ⟨0x4060000C + n * 16, lo, w, r⟩ = true := by
  have h1 : (0x4060000C + n * 16) % 16 = 12 := by omega
  have h2 : 0x40600000 ≤ 0x4060000C + n * 16 ∧ 0x4060000C + n * 16 < 0x40600100 := by omega
  simp [laneGroup, h1, h2]

theorem laneGroup_lock {w r : Nat} (hn : n < 8) : laneGroup ⟨0x40600400 + n * 4, 28, w, r⟩ = true := by
  have h2 : 0x40600400 ≤ 0x40600400 + n * 4 ∧ 0x40600400 + n * 4 < 0x40600420 := by omega
  simp [laneGroup, h2]

/-- The settings of the lane group that neither pass 2 nor the arm-blocks change: no channel PAIRED or VITAL, PAIR_OFFSET within P / 4, each
pin's thresholds apart, no supply locked, and no pair. -/
structure LaneQuiet (s : State) : Prop where
  paired : ∀ n, n < 48 → s.rd (F.CH_PROFILE_PAIRED n) = 0
  vital : ∀ n, n < 48 → s.rd (F.CH_PROFILE_CH_MODE n) = 0
  safe : ∀ n, n < 48 → s.rd (F.CH_PROFILE_SAFE_ON n) = 0
  offset : s.rd F.PAIR_CFG_PAIR_OFFSET ≤ s.rd F.LANEIF_CFG_PERIOD * 5 / 2
  apart : ∀ u, u < 16 → s.rd (F.UIO_PIN_THR_TH_LO u) + 2 ≤ s.rd (F.UIO_PIN_THR_TH_HI u)
  free : ∀ k, k < 8 → s.rd (F.UIO_SP_CTL_SP_LOCK k) = 0
  alone : s.rd F.PAIR_CFG_PAIR_EN = 0

/-- The reset values are quiet, with any PERIOD of at least 20. -/
theorem State.laneQuiet_reset (s : State) {x : State} (hx : ∀ f : Fld, F.LANEIF_CFG_PERIOD.key ≠ f.key → x.rd f = s.resetGroup.rd f)
    (hp : 20 ≤ x.rd F.LANEIF_CFG_PERIOD) : LaneQuiet x := by
  have hrd {f : Fld} (h : F.LANEIF_CFG_PERIOD.key ≠ f.key) (hlo : f.lo < 32) (hg : laneGroup f = true) : x.rd f = f.reset := by
    rw [hx f h, s.rd_resetGroup f hlo, if_pos hg]
  constructor
  case paired =>
    exact fun n hn => hrd (by simp only [ne_eq, Fld.key, F.LANEIF_CFG_PERIOD, F.CH_PROFILE_PAIRED]; omega) (by simp [F.CH_PROFILE_PAIRED]) (laneGroup_profile hn (by omega))
  case vital =>
    exact fun n hn => hrd (by simp only [ne_eq, Fld.key, F.LANEIF_CFG_PERIOD, F.CH_PROFILE_CH_MODE]; omega) (by simp [F.CH_PROFILE_CH_MODE]) (laneGroup_profile hn (by omega))
  case safe =>
    exact fun n hn => hrd (by simp only [ne_eq, Fld.key, F.LANEIF_CFG_PERIOD, F.CH_PROFILE_SAFE_ON]; omega) (by simp [F.CH_PROFILE_SAFE_ON]) (laneGroup_profile hn (by omega))
  case offset =>
    have ho : x.rd F.PAIR_CFG_PAIR_OFFSET = 40 := hrd (by decide) (by decide) (by decide)
    omega
  case apart =>
    intro u hu
    have h1 : x.rd (F.UIO_PIN_THR_TH_LO u) = 40 :=
      hrd (by simp only [ne_eq, Fld.key, F.LANEIF_CFG_PERIOD, F.UIO_PIN_THR_TH_LO]; omega) (by simp [F.UIO_PIN_THR_TH_LO]) (laneGroup_thresholds hu)
    have h2 : x.rd (F.UIO_PIN_THR_TH_HI u) = 70 :=
      hrd (by simp only [ne_eq, Fld.key, F.LANEIF_CFG_PERIOD, F.UIO_PIN_THR_TH_HI]; omega) (by simp [F.UIO_PIN_THR_TH_HI]) (laneGroup_thresholds hu)
    omega
  case free =>
    exact fun k hk => hrd (by simp only [ne_eq, Fld.key, F.LANEIF_CFG_PERIOD, F.UIO_SP_CTL_SP_LOCK]; omega) (by simp [F.UIO_SP_CTL_SP_LOCK]) (laneGroup_lock hk)
  case alone => exact hrd (by decide) (by decide) (by decide)

/-! ### The two passes over quiet settings -/

/-- A fold whose every step keeps its state keeps it. -/
theorem foldl_fixed {σ α : Type} {g : σ → α → σ} {x : σ} (l : List α) (h : ∀ y ∈ l, g x y = x) : l.foldl g x = x := by
  induction l with
  | nil => rfl
  | cons y l ih =>
    rw [List.foldl_cons, h y List.mem_cons_self]
    exact ih fun z hz => h z (List.mem_cons_of_mem y hz)

theorem Load.pass2_quiet (d : Load) (named : List (Nat × Fld)) (recs : List SetupRec) (h : LaneQuiet d.st) : d.pass2 named recs false = d := by
  have hchan (n : Nat) (hn : n ∈ List.range 48) : d.chanLimits named false n = d := by
    unfold Load.chanLimits
    dsimp only
    rw [if_neg Bool.false_ne_true, if_neg]
    intro hp
    exact State.flag_eq_true.1 hp.1 (h.paired n (List.mem_range.1 hn))
  have hoff : d.offsetLimit named = d := if_pos h.offset
  have hth (u : Nat) (hu : u ∈ List.range 16) : d.threshLimit named u = d := by
    unfold Load.threshLimit
    rw [max_eq_left (h.apart u (List.mem_range.1 hu))]
    exact if_pos rfl
  unfold Load.pass2
  dsimp only
  simp only [Bool.false_eq_true, if_false]
  rw [foldl_fixed (g := fun d n => Load.chanLimits d named false n) _ hchan, hoff, foldl_fixed (g := fun d u => Load.threshLimit d named u) _ hth]

/-- The state that quiet settings leave: nothing arm-blocked, VITAL_REFUSED as the reports say. -/
def Load.settled (d : Load) : State :=
  ((d.st.wr (F.SETUP_ARM_BLOCK_BLOCK 0) 0).wr (F.SETUP_ARM_BLOCK_BLOCK 1) 0).wr F.SETUP_STAT_VITAL_REFUSED (bit (d.reports.any fun r => r.refused))

/-- An image whose records leave quiet settings: its reports are placed in order. -/
theorem State.applyImage_quiet (s : State) {d : Load} (hd : m.records.zipIdx.foldl
      (fun (d : Load) x => d.record (SetupImage.named m) (SetupImage.pairEn m) false x) ⟨{ s with lane := { s.lane with vinSafe := [] } }, [], false⟩ = d)
    (h : LaneQuiet d.st) : s.applyImage m false = d.reports.foldl State.report d.settled := by
  have hb : (List.range 48).filter (fun n => (d.all && d.st.flag (F.CH_PROFILE_CH_MODE n)) || (d.st.flag (F.CH_PROFILE_PAIRED n) && !d.st.flag F.PAIR_CFG_PAIR_EN)) = [] := by
    refine List.filter_eq_nil_iff.2 fun n hn => ?_
    have h1 : d.st.flag (F.CH_PROFILE_CH_MODE n) = false := State.flag_eq_false.2 (h.vital n (List.mem_range.1 hn))
    have h2 : d.st.flag (F.CH_PROFILE_PAIRED n) = false := State.flag_eq_false.2 (h.paired n (List.mem_range.1 hn))
    rw [h1, h2]; simp
  unfold State.applyImage
  dsimp only
  rw [hd, d.pass2_quiet _ _ h, hb]
  rfl

/-! ### The end of an APPLY -/

theorem State.lockSupplies_quiet (s : State) (h : ∀ k, k < 8 → s.rd (F.UIO_SP_CTL_SP_LOCK k) = 0) : s.lockSupplies = s :=
  foldl_fixed _ fun k hk => if_neg fun hf => State.flag_eq_true.1 hf (h k (List.mem_range.1 hk))

/-- The pins' settings, the supplies and the pair follow, and the command ends. -/
def State.applied (s : State) (was : Bool) : State := ((s.keepPins.lockSupplies).pairReload was).setupEnd 0

theorem State.applied_spec (s : State) (was : Bool) (h : LaneQuiet s) : SetupEnded s 0 (s.applied was) ∧ (s.applied was).log = s.log ∧
    (s.applied was).setup.reports = s.setup.reports ∧ ∀ f : Fld, f.addr ≠ 0x41500000 ∨ (f = F.SETUP_STAT_VITAL_REFUSED) → f.lo < 32 → (s.applied was).rd f = s.rd f := by
  have hk : s.keepPins.lockSupplies = s.keepPins := s.keepPins.lockSupplies_quiet h.free
  have hon : s.keepPins.flag F.PAIR_CFG_PAIR_EN = false := State.flag_eq_false.2 h.alone
  obtain ⟨n, hn, hregs, hmem, hlog, hrep⟩ : ∃ n : State, s.applied was = n.setupEnd 0 ∧ n.regs = s.regs ∧ n.mem = s.mem ∧ n.log = s.log ∧
      n.setup.reports = s.setup.reports := by
    refine ⟨_, rfl, ?_⟩
    rw [hk]; unfold State.pairReload; dsimp only; rw [hon]
    cases was <;> exact ⟨rfl, rfl, rfl, rfl⟩
  rw [hn]
  refine ⟨(n.setupEnd_ended (by omega)).of_mem hmem, hlog, hrep, fun f hf hlo => ?_⟩
  rcases hf with hf | rfl
  · exact (n.rd_setupEnd 0 hf hlo).trans (State.rd_congr hregs f)
  · refine Eq.trans ?_ (State.rd_congr hregs _)
    change (((n.wr F.SETUP_STAT_RESULT 0).raise F.SETUP_STAT_DONE).clrF F.SETUP_STAT_BUSY).rd _ = _
    rw [State.rd_clrF_ne _ (by decide), State.rd_raise_ne _ (by decide), State.rd_wr_ne _ _ (by decide)]

theorem LaneQuiet.congr {x y : State} (h : LaneQuiet x) (hr : ∀ f : Fld, f.addr < 0x41000000 → f.lo < 32 → y.rd f = x.rd f) : LaneQuiet y := by
  constructor
  case paired => exact fun n hn => (hr _ (by simp only [F.CH_PROFILE_PAIRED]; omega) (by simp [F.CH_PROFILE_PAIRED])).trans (h.paired n hn)
  case vital => exact fun n hn => (hr _ (by simp only [F.CH_PROFILE_CH_MODE]; omega) (by simp [F.CH_PROFILE_CH_MODE])).trans (h.vital n hn)
  case safe => exact fun n hn => (hr _ (by simp only [F.CH_PROFILE_SAFE_ON]; omega) (by simp [F.CH_PROFILE_SAFE_ON])).trans (h.safe n hn)
  case offset => rw [hr _ (by decide) (by decide), hr _ (by decide) (by decide)]; exact h.offset
  case apart =>
    intro u hu
    rw [hr _ (by simp only [F.UIO_PIN_THR_TH_LO]; omega) (by simp [F.UIO_PIN_THR_TH_LO]), hr _ (by simp only [F.UIO_PIN_THR_TH_HI]; omega) (by simp [F.UIO_PIN_THR_TH_HI])]
    exact h.apart u hu
  case free => exact fun k hk => (hr _ (by simp only [F.UIO_SP_CTL_SP_LOCK]; omega) (by simp [F.UIO_SP_CTL_SP_LOCK])).trans (h.free k hk)
  case alone => exact (hr _ (by decide) (by decide)).trans h.alone

theorem Load.settled_spec (d : Load) : d.settled.rd F.SETUP_STAT_VITAL_REFUSED = bit (d.reports.any fun r => r.refused) ∧ d.settled.log = d.st.log ∧
    d.settled.setup = d.st.setup ∧ d.settled.mem = d.st.mem ∧ ∀ f : Fld, f.addr < 0x41000000 → f.lo < 32 → d.settled.rd f = d.st.rd f := by
  obtain ⟨b, hb⟩ : ∃ b, b = bit (d.reports.any fun r => r.refused) := ⟨_, rfl⟩
  have hlt : b < 2 := by rw [hb]; unfold bit; split <;> omega
  unfold Load.settled; rw [← hb]
  refine ⟨State.rd_wr_lt _ hlt, rfl, rfl, rfl, fun f hf hlo => ?_⟩
  rw [State.rd_wr_ne _ _ (by simp only [ne_eq, Fld.key, F.SETUP_STAT_VITAL_REFUSED]; omega),
    State.rd_wr_ne _ _ (by simp only [ne_eq, Fld.key, F.SETUP_ARM_BLOCK_BLOCK]; omega), State.rd_wr_ne _ _ (by simp only [ne_eq, Fld.key, F.SETUP_ARM_BLOCK_BLOCK]; omega)]

section
variable (ha : s.setup.applying = true)
include ha

theorem setupApplyComplete_notStop (hm : s.cyc.mode ≠ .stop) : Ends (.setupApplyComplete t) s (SetupEnded s 7) := by
  have ha' : ¬ (!(s.tick t).setup.applying) = true := by rw [show (s.tick t).setup.applying = true from ha]; simp
  have hm' : (s.tick t).cyc.mode ≠ .stop := hm
  exact ends_next_eq (arm_setupApplyComplete ..) (x := (s.tick t).setupEnd 7) (by rw [if_neg ha', if_pos hm']) ((s.tick t).setupEnd_ended (by omega))

variable (hm : s.cyc.mode = .stop)
include hm

theorem setupApplyComplete_noCopy (hA : s.setup.copyA = none) (hB : s.setup.copyB = none) : Ends (.setupApplyComplete t) s (SetupEnded s 2) := by
  have ha' : ¬ (!(s.tick t).setup.applying) = true := by rw [show (s.tick t).setup.applying = true from ha]; simp
  have hm' : ¬ (s.tick t).cyc.mode ≠ .stop := not_not.2 hm
  obtain ⟨hn, hf⟩ := (s.tick t).chooseCopy_none hA hB
  exact ends_next_eq (arm_setupApplyComplete ..) (x := (s.tick t).setupEnd 2) (by rw [if_neg ha', if_neg hm', hn, hf]) ((s.tick t).setupEnd_ended (by omega))

/-- An APPLY of the copy taken is the application of its records to the lane group at its reset values. -/
theorem ends_setupApply (hc : (s.tick t).chooseCopy = some (1, m)) : Ends (.setupApplyComplete t) s fun s' =>
    s' = ((s.tick t).resetGroup.applyImage m false).applied ((s.tick t).flag F.PAIR_CFG_PAIR_EN) := by
  have ha' : ¬ (!(s.tick t).setup.applying) = true := by rw [show (s.tick t).setup.applying = true from ha]; simp
  have hm' : ¬ (s.tick t).cyc.mode ≠ .stop := not_not.2 hm
  exact ends_next_eq (arm_setupApplyComplete ..) (x := ((s.tick t).resetGroup.applyImage m false).applied ((s.tick t).flag F.PAIR_CFG_PAIR_EN))
    (by rw [if_neg ha', if_neg hm', hc]; rfl) rfl

end

/-- The lane group at its reset values, with no VIN substitutes. -/
def State.regroup (s : State) : State := { s.resetGroup with lane := { s.lane with vinSafe := [] } }

theorem applied_empty (s : State) (was : Bool) (hr : m.records = []) : ∃ s', (s.resetGroup.applyImage m false).applied was = s' ∧ SetupEnded s 0 s' ∧
    s'.rd F.LANEIF_CFG_PERIOD = F.LANEIF_CFG_PERIOD.reset ∧ s'.log = s.log ∧ s'.rd F.SETUP_STAT_VITAL_REFUSED = 0 ∧
    ∀ n, n < 48 → s'.rd (F.CH_PROFILE_CH_MODE n) = 0 ∧ s'.rd (F.CH_PROFILE_SAFE_ON n) = 0 ∧ s'.rd (F.CH_FUSE_I_THR n 0) = s.rd (F.CH_FUSE_I_THR n 0) := by
  obtain ⟨x, hx⟩ : ∃ x, x = s.regroup := ⟨_, rfl⟩
  have hxrd (f : Fld) : x.rd f = s.resetGroup.rd f := by rw [hx]; rfl
  obtain ⟨hxm, hxl⟩ : x.mem = s.mem ∧ x.log = s.log := by rw [hx]; exact ⟨rfl, rfl⟩
  have hper : x.rd F.LANEIF_CFG_PERIOD = F.LANEIF_CFG_PERIOD.reset := by rw [hxrd, s.rd_resetGroup _ (by decide)]; exact if_pos (by decide)
  have hq : LaneQuiet x := s.laneQuiet_reset (fun f _ => hxrd f) (by rw [hper]; decide)
  have happ : s.resetGroup.applyImage m false = Load.settled ⟨x, [], false⟩ :=
    s.resetGroup.applyImage_quiet (d := ⟨x, [], false⟩) (by rw [hr, hx]; rfl) hq
  obtain ⟨h1, h2, h3, h4, h5⟩ := Load.settled_spec ⟨x, [], false⟩
  rw [happ]
  generalize Load.settled ⟨x, [], false⟩ = y at h1 h2 h3 h4 h5
  obtain ⟨e1, e2, -, e4⟩ := y.applied_spec was (hq.congr h5)
  refine ⟨_, rfl, e1.of_mem (h4.trans hxm), ?_, e2.trans (h2.trans hxl), ?_, fun n hn => ⟨?_, ?_, ?_⟩⟩
  · rw [e4 _ (.inl (by decide)) (by decide), h5 _ (by decide) (by decide)]; exact hper
  · rw [e4 _ (.inr rfl) (by decide)]; exact h1
  · rw [e4 _ (.inl (by simp only [ne_eq, F.CH_PROFILE_CH_MODE]; omega)) (by simp [F.CH_PROFILE_CH_MODE]),
      h5 _ (by simp only [F.CH_PROFILE_CH_MODE]; omega) (by simp [F.CH_PROFILE_CH_MODE])]; exact hq.vital n hn
  · rw [e4 _ (.inl (by simp only [ne_eq, F.CH_PROFILE_SAFE_ON]; omega)) (by simp [F.CH_PROFILE_SAFE_ON]),
      h5 _ (by simp only [F.CH_PROFILE_SAFE_ON]; omega) (by simp [F.CH_PROFILE_SAFE_ON])]; exact hq.safe n hn
  · rw [e4 _ (.inl (by simp only [ne_eq, F.CH_FUSE_I_THR]; omega)) (by simp [F.CH_FUSE_I_THR]),
      h5 _ (by simp only [F.CH_FUSE_I_THR]; omega) (by simp [F.CH_FUSE_I_THR])]
    dsimp only
    rw [hxrd, s.rd_resetGroup _ (by simp [F.CH_FUSE_I_THR])]
    refine if_neg fun h => ?_
    simp [laneGroup, F.CH_FUSE_I_THR] at h
    omega

/-! ### An image that names PERIOD -/

/-- The record that names PERIOD is taken by its own range; it is vital-bearing. -/
theorem record_period (d : Load) (named : List (Nat × Fld)) (v k : Nat) : d.record named false false (.field 12 10 0x200008 v, k) =
    if 20 ≤ v ∧ v ≤ 1000 then { d with st := d.st.wr F.LANEIF_CFG_PERIOD v }
    else { d.adjust named F.LANEIF_CFG_PERIOD true false v F.LANEIF_CFG_PERIOD.reset with all := true } := by
  have hf : setupField 12 10 0x200008 = some (F.LANEIF_CFG_PERIOD, 20, 1000) := rfl
  have hg : false = true ∨ laneGroup F.LANEIF_CFG_PERIOD = true := .inr rfl
  have ho : ownRange F.LANEIF_CFG_PERIOD (20, 1000) = (20, 1000) := rfl
  have hv : vitalBearing F.LANEIF_CFG_PERIOD false = true := rfl
  unfold Load.record
  dsimp only
  rw [hf]
  dsimp only
  rw [if_pos hg, Load.pass1]
  dsimp only
  rw [ho, if_pos hv]

/-- A report that has room stands last in the queue, and is recorded. -/
theorem State.report_room (s : State) {r : SetupReport} (h : s.setup.reports.length < 256) (hr : r.refused = true) (hi : r.index = 0) :
    (s.report r).setup.reports = s.setup.reports ++ [r] ∧ WroteOne s (s.report r) 0x11 1 6 0 0 ∧ (s.report r).mem = s.mem ∧ (s.report r).regs = s.regs := by
  obtain ⟨n, hn⟩ : ∃ n, n = ({ s with setup := { s.setup with reports := s.setup.reports ++ [r] } } : State).pushed 0x41500020 := ⟨_, rfl⟩
  obtain ⟨h1, h2, h3, h4⟩ : n.setup.reports = s.setup.reports ++ [r] ∧ n.log = s.log ∧ n.mem = s.mem ∧ n.regs = s.regs := by rw [hn]; exact ⟨rfl, rfl, rfl, rfl⟩
  have hx : s.report r = n.record 0x11 0x01 6 0 0 [0] := by
    unfold State.report; dsimp only; rw [if_pos h, ← hn, if_pos hr, if_pos hr, hi]
  rw [hx]
  exact ⟨h1, wroteOne_record h2 rfl, h3, h4⟩

section
variable (s : State) (was : Bool)

/-- What an APPLY leaves whose records set PERIOD to `p` and give reports `reps`. -/
theorem applyImage_period {p : Nat} {reps : List SetupReport} {all : Bool} (hp : 20 ≤ p ∧ p ≤ 1000)
    (hd : m.records.zipIdx.foldl (fun (d : Load) x => d.record (SetupImage.named m) (SetupImage.pairEn m) false x) ⟨s.regroup, [], false⟩ =
      ⟨s.regroup.wr F.LANEIF_CFG_PERIOD p, reps, all⟩) :
    ∃ y : State, s.resetGroup.applyImage m false = reps.foldl State.report y ∧ LaneQuiet y ∧ y.rd F.LANEIF_CFG_PERIOD = p ∧
      y.rd F.SETUP_STAT_VITAL_REFUSED = bit (reps.any fun r => r.refused) ∧ y.log = s.log ∧ y.setup = s.setup ∧ y.mem = s.mem := by
  obtain ⟨x, hx⟩ : ∃ x, x = s.regroup.wr F.LANEIF_CFG_PERIOD p := ⟨_, rfl⟩
  have hper : x.rd F.LANEIF_CFG_PERIOD = p := by rw [hx]; exact State.rd_wr_lt _ (by simp only [F.LANEIF_CFG_PERIOD]; omega)
  have hq : LaneQuiet x := s.laneQuiet_reset (fun f hf => by rw [hx, State.rd_wr_ne _ _ hf]; rfl) (by rw [hper]; exact hp.1)
  obtain ⟨hxm, hxl, hxs⟩ : x.mem = s.mem ∧ x.log = s.log ∧ x.setup = s.setup := by rw [hx]; exact ⟨rfl, rfl, rfl⟩
  rw [← hx] at hd
  obtain ⟨h1, h2, h3, h4, h5⟩ := Load.settled_spec ⟨x, reps, all⟩
  exact ⟨Load.settled ⟨x, reps, all⟩, s.resetGroup.applyImage_quiet hd hq, hq.congr h5, (h5 _ (by decide) (by decide)).trans hper, h1, h2.trans hxl, h3.trans hxs, h4.trans hxm⟩

variable (hr : m.records = [.field 12 10 0x200008 v])
include hr

/-- The one record of the image goes by PERIOD's range. -/
theorem foldl_record_period (d : Load) : m.records.zipIdx.foldl (fun (d : Load) x => d.record (SetupImage.named m) (SetupImage.pairEn m) false x) d =
    if 20 ≤ v ∧ v ≤ 1000 then { d with st := d.st.wr F.LANEIF_CFG_PERIOD v }
    else { d.adjust [(0, F.LANEIF_CFG_PERIOD)] F.LANEIF_CFG_PERIOD true false v F.LANEIF_CFG_PERIOD.reset with all := true } := by
  have hn : SetupImage.named m = [(0, F.LANEIF_CFG_PERIOD)] := by unfold SetupImage.named; rw [hr]; rfl
  have hp : SetupImage.pairEn m = false := by unfold SetupImage.pairEn; rw [hr]; rfl
  rw [hn, hp, hr]
  exact record_period d _ v 0

theorem applied_period (hv : 20 ≤ v ∧ v ≤ 1000) : ∃ s', (s.resetGroup.applyImage m false).applied was = s' ∧ SetupEnded s 0 s' ∧
    s'.rd F.LANEIF_CFG_PERIOD = v ∧ s'.log = s.log := by
  obtain ⟨y, hy, hq, hper, -, hl, -, hm⟩ := applyImage_period s (p := v) (reps := []) (all := false) hv ((foldl_record_period hr _).trans (if_pos hv))
  rw [hy, List.foldl_nil]
  obtain ⟨e1, e2, -, e4⟩ := y.applied_spec was hq
  exact ⟨_, rfl, e1.of_mem hm, (e4 _ (.inl (by decide)) (by decide)).trans hper, e2.trans hl⟩

theorem applied_period_refused (hv : v < 20 ∨ 1000 < v) (hroom : s.setup.reports.length < 256) : ∃ s', (s.resetGroup.applyImage m false).applied was = s' ∧
    SetupEnded s 0 s' ∧ s'.rd F.LANEIF_CFG_PERIOD = F.LANEIF_CFG_PERIOD.reset ∧ s'.rd F.SETUP_STAT_VITAL_REFUSED = 1 ∧
    s'.setup.reports = s.setup.reports ++ [⟨true, false, 12, 0, 0x200008, v, F.LANEIF_CFG_PERIOD.reset⟩] ∧ WroteOne s s' 0x11 1 6 0 0 := by
  obtain ⟨y, hy, hq, hper, hvr, hl, hs, hm⟩ := applyImage_period s (p := F.LANEIF_CFG_PERIOD.reset)
    (reps := [⟨true, false, 12, 0, 0x200008, v, F.LANEIF_CFG_PERIOD.reset⟩]) (all := true) (by decide) ((foldl_record_period hr _).trans ((if_neg (by omega)).trans rfl))
  rw [hy, List.foldl_cons, List.foldl_nil]
  obtain ⟨r1, ⟨q, q1, q2, q3, q4, q5, q6⟩, r3, r4⟩ := y.report_room (r := ⟨true, false, 12, 0, 0x200008, v, F.LANEIF_CFG_PERIOD.reset⟩) (by rw [hs]; exact hroom) rfl rfl
  generalize y.report ⟨true, false, 12, 0, 0x200008, v, F.LANEIF_CFG_PERIOD.reset⟩ = z at q6 r1 r3 r4
  obtain ⟨e1, e2, e3, e4⟩ := z.applied_spec was (hq.congr fun f _ _ => State.rd_congr r4 f)
  refine ⟨_, rfl, e1.of_mem (r3.trans hm), ?_, ?_, ?_, q, q1, q2, q3, q4, q5, ?_⟩
  · exact (e4 _ (.inl (by decide)) (by decide)).trans ((State.rd_congr r4 _).trans hper)
  · exact (e4 _ (.inr rfl) (by decide)).trans ((State.rd_congr r4 _).trans hvr)
  · rw [e3, r1, hs]
  · rw [e2, q6, hl]

end

/-! ### Reports -/

section
variable {peek : Bool} (hp : (s.tick t).passes (if peek then 0x41508020 else 0x41500020) a false = true)
include hp

theorem reportRead_none (hr : s.setup.reports = []) : Ends (.reportRead t a peek) s fun s' => s'.resp = ⟨0, 0⟩ ∧ OnlyRegs s t [] s' := by
  have hp' : (s.tick t).passes (rsAddr 0x41500020 peek) a false = true := by cases peek <;> exact hp
  have hr' : (s.tick t).okay.setup.reports = [] := hr
  exact ends_guarded_eq (arm_reportRead ..) hp' rfl (x := (s.tick t).okay.answer 0 0) (by rw [hr']) ⟨rfl, (OnlyRegs.tick s t _).okay.answer 0 0⟩

theorem reportRead_oldest {r : SetupReport} {rest : List SetupReport} (hr : s.setup.reports = r :: rest)
    (hs : (s.tick t).settled 0x41500020 (rest.length + 1) ≠ 0) : Ends (.reportRead t a peek) s fun s' => s'.resp = ⟨0, r.word⟩ ∧ s'.mem = s.mem ∧
      (peek = true → OnlyRegs s t [] s') ∧
      (peek = false → s'.setup.reports = rest ∧ s'.rd F.SETUP_REPORT_ADDR_ADDR = r.addr % 2 ^ 28 ∧
        s'.rd F.SETUP_REPORT_REQ_VALUE = r.req % 2 ^ 32 ∧ s'.rd F.SETUP_REPORT_LOADED_VALUE = r.loaded % 2 ^ 32) := by
  have hp' : (s.tick t).passes (rsAddr 0x41500020 peek) a false = true := by cases peek <;> exact hp
  have hr' : (s.tick t).okay.setup.reports = r :: rest := hr
  have hs' : ¬ (s.tick t).okay.settled 0x41500020 (rest.length + 1) = 0 := hs
  cases peek
  · refine ends_guarded_eq (arm_reportRead ..) hp' rfl (x := State.answer { (((s.tick t).okay.wr F.SETUP_REPORT_ADDR_ADDR r.addr).wr F.SETUP_REPORT_REQ_VALUE r.req).wr
      F.SETUP_REPORT_LOADED_VALUE r.loaded with setup := { s.setup with reports := rest } } 0 r.word) ?_ ⟨rfl, rfl, fun h => absurd h (by simp), fun _ => ⟨rfl, ?_, ?_, ?_⟩⟩
    · rw [hr']; dsimp only; rw [if_neg hs']; rfl
    · exact (State.rd_wr_ne _ _ (by decide)).trans ((State.rd_wr_ne _ _ (by decide)).trans (State.rd_wr_self ..))
    · exact (State.rd_wr_ne _ _ (by decide)).trans (State.rd_wr_self ..)
    · exact State.rd_wr_self ((((s.tick t).okay.wr F.SETUP_REPORT_ADDR_ADDR r.addr).wr F.SETUP_REPORT_REQ_VALUE r.req)) F.SETUP_REPORT_LOADED_VALUE r.loaded
  · exact ends_guarded_eq (arm_reportRead ..) hp' rfl (x := (s.tick t).okay.answer 0 r.word) (by rw [hr']; dsimp only; rw [if_neg hs']; rfl)
      ⟨rfl, rfl, fun _ => (OnlyRegs.tick s t _).okay.answer 0 _, fun h => absurd h (by simp)⟩

end

/-- Settles O60: the first check that an image fails is STORE's RESULT; APPLY reloads the lane group in STOP alone, PERIOD out of range
keeping its reset value with one report; a read takes the oldest report. -/
theorem setupImageCommands : Obligations.SetupImageCommands := by
  intro s t v n a m m' peek r rest
  dsimp only
  have happlied {P : State → Prop} (ha : s.setup.applying = true) (hm : s.cyc.mode = .stop) (hc : s.setup.copyA = some m ∧ s.imageFault m = 0 ∧
      (s.setup.copyB = none ∨ (s.setup.copyB = some m' ∧ (s.imageFault m' ≠ 0 ∨
        (m'.floor ≤ m.version ∧ m.floor ≤ m'.version ∧ m'.version ≤ m.version)))))
      (h : ∃ s', ((s.tick t).resetGroup.applyImage m false).applied ((s.tick t).flag F.PAIR_CFG_PAIR_EN) = s' ∧ P s') : Ends (.setupApplyComplete t) s P := by
    obtain ⟨hA, hf, hB⟩ := hc
    obtain ⟨s', hs', hP⟩ := h
    refine (ends_setupApply ha hm ((s.tick t).chooseCopy_A hA hf hB)).mono ?_
    rintro _ rfl
    rwa [hs']
  refine ⟨fun hc => ⟨fun hb => setupStore_blocked hc hb, fun hb => setupStore_unread hc hb, fun hb hbl hr => ?_,
    fun hb => ⟨setup_busy hc (arm_setupStore ..) hb, setup_busy hc (arm_setupApply ..) hb⟩, fun hb => setupApply_begins hc hb, fun hb => setupApply_notStop hc hb⟩,
    storeComplete_spec, storeComplete_idle, setupApplyComplete_notStop, fun ha hm => ⟨setupApplyComplete_noCopy ha hm, fun hc hr => ?_, fun hc hr => ⟨fun h1 h2 => ?_,
      fun hv hroom => ?_⟩⟩, fun hp => ⟨reportRead_none hp, reportRead_oldest hp⟩⟩
  · refine (setupStore_reads hc hb hbl hr).mono ?_
    rintro _ rfl
    obtain ⟨hmagic, hlen, hsome⟩ := s.setupImageAt_spec
    obtain ⟨hnone, himg⟩ := State.storeImage_spec s t
    refine ⟨fun h => by rw [hmagic h]; exact hnone, fun h => by rw [hlen h]; exact hnone, fun h => by rw [h]; exact hnone, fun x hx => ?_⟩
    obtain ⟨hfmt, hcl, hmid, hver, hfl⟩ := hsome x hx
    have hres := himg x
    have hfault := (s.tick t).okay.imageFault_spec hfmt
    obtain ⟨f2, f3, f4, f5, f0⟩ := hfault
    have hbad {k : Nat} (hk : (s.tick t).okay.imageFault x = k) (h0 : k ≠ 0) (hlt : k < 16) := (hres k (State.imageResult_of_fault _ hk h0)).1 h0 hlt
    rw [hx]
    refine ⟨hcl, hmid, hver, hfl, fun hf => hbad (f2 hf) (by omega) (by omega), fun hf hl => hbad (f3 hf hl) (by omega) (by omega),
      fun hf hl hs => hbad (f4 hf hl hs) (by omega) (by omega), fun hf hl hs hh => hbad (f5 hf hl hs hh) (by omega) (by omega), fun hf hl hs hh hv => ?_, fun hf hl hs hh hv => ?_⟩
    · exact (hres 6 (((s.tick t).okay.imageResult_of_sound (f0 hf hl hs hh)).1 hv)).1 (by omega) (by omega)
    · exact (hres 0 (((s.tick t).okay.imageResult_of_sound (f0 hf hl hs hh)).2 hv)).2 rfl
  · obtain ⟨s', hs', h1, h2, h3, h4, h5⟩ := applied_empty (s.tick t) ((s.tick t).flag F.PAIR_CFG_PAIR_EN) hr
    exact happlied ha hm hc ⟨s', hs', h1, h2, h3, h4, h5 n⟩
  · exact happlied ha hm hc (applied_period (s.tick t) _ hr ⟨h1, h2⟩)
  · exact happlied ha hm hc (applied_period_refused (s.tick t) _ hr hv hroom)

end Sys2Proof.Machine
end

section
/-! PROOFS. The recorder: commits, flushes and reading: O59 -/

namespace Sys2Proof.Machine


variable {s s' : State} {t : Nat} {a : Attr} {r q : Record} {l : List Record}

/-! ### Triggers and counters -/

/-- A trigger touches the flush under way and the pending one, and nothing else (R412). -/
theorem State.triggerFlush_eq (s : State) (c : FlushCause) :
    ∃ x y, s.triggerFlush c = { s with log := { s.log with flushing := x, pendFlush := y } } := by
  unfold State.triggerFlush
  split
  · exact ⟨s.log.flushing, s.log.pendFlush, rfl⟩
  · split
    · exact ⟨_, s.log.pendFlush, rfl⟩
    · split
      · exact ⟨_, s.log.pendFlush, rfl⟩
      · next f hf _ => exact ⟨some f, _, by rw [← hf]⟩

theorem State.flushShut_tick (may : ∀ p, s.pwr.seq = some p → ∀ b, p.flushBy = some b → t + 1 < b) (hp : s'.pwr = s.pwr) (hn : s'.now = t) :
    s'.flushShut = false := by
  unfold State.flushShut
  rw [hp]
  split
  · next p hseq =>
    cases hb : p.flushBy with
    | none => rfl
    | some b =>
      have := may p hseq b hb
      rw [Option.any_some, decide_eq_false_iff_not, hn]; omega
  · rfl

section
variable (hm : s.rd F.REC_STAT_MOUNTED ≠ 0) (hs : s.flushShut = false)
include hm hs

theorem State.triggerFlush_open : ¬ ((!s.flag F.REC_STAT_MOUNTED) = true ∨ s.flushShut = true) := by
  rw [State.flag_eq_true.2 hm, hs]; decide

theorem State.triggerFlush_starts (c : FlushCause) (h : s.log.flushing = none) :
    s.triggerFlush c = { s with log := { s.log with flushing := some ⟨c, s.now + 1⟩ } } := by
  unfold State.triggerFlush; rw [if_neg (State.triggerFlush_open hm hs), h]

theorem State.triggerFlush_pends (c : FlushCause) {f : FlushReq} (h : s.log.flushing = some f) (hf : f.start ≤ s.now) (hn : s.log.pendFlush = none) :
    s.triggerFlush c = { s with log := { s.log with pendFlush := some c } } := by
  unfold State.triggerFlush; rw [if_neg (State.triggerFlush_open hm hs), h]
  dsimp only
  rw [if_neg (Nat.not_lt.2 hf), hn]

theorem State.triggerFlush_isSome (c : FlushCause) : (s.triggerFlush c).log.flushing.isSome = true := by
  unfold State.triggerFlush
  rw [if_neg (State.triggerFlush_open hm hs)]
  split
  · rfl
  · next f hf =>
    split
    · rfl
    · exact (congrArg Option.isSome hf).trans rfl

end

theorem State.triggerFlush_keeps_isSome (s : State) (c : FlushCause) (h : s.log.flushing.isSome = true) : (s.triggerFlush c).log.flushing.isSome = true := by
  unfold State.triggerFlush
  split
  · exact h
  · split
    · rfl
    · split
      · rfl
      · exact h

theorem State.triggerFlush_unmounted (c : FlushCause) (h : s.rd F.REC_STAT_MOUNTED = 0) : s.triggerFlush c = s :=
  if_pos (Or.inl (by rw [State.flag_eq_false.2 h]; rfl))

/-! ### One commit -/

/-- What a commit leaves alone: memory, the ports, the rotating pointer and the count of ties. -/
def CommitKept (s s' : State) : Prop := s'.mem = s.mem ∧ s'.log.ports = s.log.ports ∧ s'.log.pointer = s.log.pointer ∧
  s'.rd F.REC_TIE_CNT_TIES = s.rd F.REC_TIE_CNT_TIES

theorem CommitKept.refl (s : State) : CommitKept s s := ⟨rfl, rfl, rfl, rfl⟩

theorem CommitKept.trans {s'' : State} (h : CommitKept s s') (h' : CommitKept s' s'') : CommitKept s s'' := by
  obtain ⟨h1, h2, h3, h4⟩ := h
  obtain ⟨k1, k2, k3, k4⟩ := h'
  exact ⟨k1.trans h1, k2.trans h2, k3.trans h3, k4.trans h4⟩

theorem CommitKept.wr (s : State) {f : Fld} (v : Nat) (h : f.key ≠ F.REC_TIE_CNT_TIES.key) : CommitKept s (s.wr f v) := ⟨rfl, rfl, rfl, s.rd_wr_ne v h⟩

theorem State.triggerFlush_kept (s : State) (c : FlushCause) : CommitKept s (s.triggerFlush c) := by
  obtain ⟨x, y, h⟩ := s.triggerFlush_eq c
  rw [h]; exact ⟨rfl, rfl, rfl, rfl⟩

theorem State.recStat_kept (s : State) : CommitKept s s.recStat := (CommitKept.wr s _ (by decide)).trans (CommitKept.wr _ _ (by decide))

theorem State.dropRecord_spec (s : State) (r : Record) : CommitKept s (s.dropRecord r) ∧ (s.dropRecord r).log.buf = s.log.buf ∧ (s.dropRecord r).log.summary = true ∧
    (s.dropRecord r).regs = (s.inc F.REC_CNT_DROPPED).regs := by
  have hk := CommitKept.wr s (f := F.REC_CNT_DROPPED) (satSucc F.REC_CNT_DROPPED.width (s.rd F.REC_CNT_DROPPED)) (by decide)
  obtain ⟨k1, k2, k3, k4⟩ := hk
  unfold State.dropRecord
  dsimp only
  split <;> exact ⟨⟨k1, k2, k3, k4⟩, rfl, rfl, rfl⟩

/-- A record that found its room takes its place at the end of the buffer with the next sequence number (R409, R413): `b` is what stays of
the buffer, and `k` records went. -/
def State.enter (s : State) (r : Record) (b : List Record) (k : Nat) : State :=
  let n := s.lastSeq + 1
  let s := if k = 0 then s else { s.incBy F.REC_CNT_DISPLACED k with log := { s.log with summary := true } }
  let s := { s with log := { s.log with buf := b ++ [{ r with seq := n, stamp := s.now, dirty := true }] } }
  (s.wr64 F.REC_SEQ_SEQ n).recStat

/-- The triggers that follow a commit (R411). -/
def State.afterCommit (s : State) (r : Record) : State :=
  let s := if s.rd F.REC_CFG_FLUSH_SEV ≤ r.sev then s.triggerFlush .severity else s
  if s.dirtyLimit ≤ s.dirtyBytes then s.triggerFlush .dirtyLimit else s

theorem State.afterCommit_eq (s : State) (r : Record) : ∃ x y, s.afterCommit r = { s with log := { s.log with flushing := x, pendFlush := y } } := by
  obtain ⟨m, hm⟩ : ∃ m, m = if s.rd F.REC_CFG_FLUSH_SEV ≤ r.sev then s.triggerFlush .severity else s := ⟨_, rfl⟩
  have h1 : ∃ x y, m = { s with log := { s.log with flushing := x, pendFlush := y } } := by
    rw [hm]; split
    · exact s.triggerFlush_eq _
    · exact ⟨s.log.flushing, s.log.pendFlush, rfl⟩
  unfold State.afterCommit
  rw [← hm]
  obtain ⟨x, y, hx⟩ := h1
  dsimp only
  split
  · obtain ⟨x', y', hx'⟩ := m.triggerFlush_eq .dirtyLimit
    exact ⟨x', y', by rw [hx', hx]⟩
  · exact ⟨x, y, hx⟩

theorem State.commitRecord_entered {b : List Record} {n k : Nat}
    (hd : displace r.size (displaceable r.sev) (reuse r.size s.log.buf (recsSize s.log.buf)) (recsSize (reuse r.size s.log.buf (recsSize s.log.buf))) = (b, n, k))
    (hfit : n + r.size ≤ 524288) : s.commitRecord r = (s.enter r b k).afterCommit r := by
  have hf : ¬ bufBytes < n + r.size := Nat.not_lt.2 hfit
  unfold State.commitRecord
  dsimp only
  rw [hd, if_neg hf]
  rfl

theorem State.commitRecord_dropped {b : List Record} {n k : Nat}
    (hd : displace r.size (displaceable r.sev) (reuse r.size s.log.buf (recsSize s.log.buf)) (recsSize (reuse r.size s.log.buf (recsSize s.log.buf))) = (b, n, k))
    (hfit : 524288 < n + r.size) : s.commitRecord r = s.dropRecord r := by
  have hf : bufBytes < n + r.size := hfit
  unfold State.commitRecord
  dsimp only
  rw [hd, if_pos hf]

theorem State.recStat_seq (p : State) (n : Nat) : (p.wr64 F.REC_SEQ_SEQ n).recStat.log = p.log ∧ (p.wr64 F.REC_SEQ_SEQ n).recStat.mem = p.mem ∧
    (p.wr64 F.REC_SEQ_SEQ n).recStat.now = p.now ∧ (p.wr64 F.REC_SEQ_SEQ n).recStat.pwr = p.pwr := ⟨rfl, rfl, rfl, rfl⟩

theorem State.enter_spec (s : State) (r : Record) (b : List Record) (k : Nat) : CommitKept s (s.enter r b k) ∧
    (s.enter r b k).log = { s.log with buf := b ++ [{ r with seq := s.lastSeq + 1, stamp := s.now, dirty := true }], summary := if k = 0 then s.log.summary else true } ∧
    (s.enter r b k).now = s.now ∧ (s.enter r b k).pwr = s.pwr ∧
    (s.enter r b k).rd64 F.REC_SEQ_SEQ = (s.lastSeq + 1) % 2 ^ 64 ∧ (s.enter r b k).rd F.REC_CNT_DROPPED = s.rd F.REC_CNT_DROPPED ∧
    (s.enter r b k).rd F.REC_CNT_DISPLACED = (if k = 0 then s.rd F.REC_CNT_DISPLACED else satAdd 16 (s.rd F.REC_CNT_DISPLACED) k) ∧
    (s.enter r b k).rd F.REC_STAT_MOUNTED = s.rd F.REC_STAT_MOUNTED ∧ (s.enter r b k).rd F.REC_CFG_FLUSH_SEV = s.rd F.REC_CFG_FLUSH_SEV := by
  obtain ⟨m, hm⟩ : ∃ m, m = if k = 0 then s else { s.incBy F.REC_CNT_DISPLACED k with log := { s.log with summary := true } } := ⟨_, rfl⟩
  have hsat : satAdd 16 (s.rd F.REC_CNT_DISPLACED) k < 2 ^ 16 := by unfold satAdd; split <;> omega
  have hlog : m.log = { s.log with summary := if k = 0 then s.log.summary else true } := by rw [hm]; split <;> rfl
  have hrest : m.mem = s.mem ∧ m.now = s.now ∧ m.pwr = s.pwr := by rw [hm]; split <;> exact ⟨rfl, rfl, rfl⟩
  have hrd {f : Fld} (h : F.REC_CNT_DISPLACED.key ≠ f.key) : m.rd f = s.rd f := by
    rw [hm]; split
    · rfl
    · exact s.rd_wr_ne (satAdd 16 (s.rd F.REC_CNT_DISPLACED) k) h
  have hdis : m.rd F.REC_CNT_DISPLACED = if k = 0 then s.rd F.REC_CNT_DISPLACED else satAdd 16 (s.rd F.REC_CNT_DISPLACED) k := by
    rw [hm]; split
    · rfl
    · exact State.rd_wr_lt s hsat
  obtain ⟨hmem, hnow, hpwr⟩ := hrest
  obtain ⟨p, hp⟩ : ∃ p : State, p = { m with log := { m.log with buf := b ++ [{ r with seq := s.lastSeq + 1, stamp := m.now, dirty := true }] } } := ⟨_, rfl⟩
  have he : s.enter r b k = (p.wr64 F.REC_SEQ_SEQ (s.lastSeq + 1)).recStat := by rw [hp, hm]; rfl
  have hprd (f : Fld) : p.rd f = m.rd f := by rw [hp]; rfl
  have hst (x : State) {f : Fld} (h1 : F.REC_STAT_DIRTY_KB.key ≠ f.key) (h2 : F.REC_STAT_BUF_FULL.key ≠ f.key) : x.recStat.rd f = x.rd f :=
    (State.rd_wr_ne _ _ h2).trans (State.rd_wr_ne _ _ h1)
  have hend {f : Fld} (h1 : F.REC_STAT_DIRTY_KB.key ≠ f.key) (h2 : F.REC_STAT_BUF_FULL.key ≠ f.key) (h3 : (F.REC_SEQ_SEQ 0).key ≠ f.key)
      (h4 : (F.REC_SEQ_SEQ 1).key ≠ f.key) : (s.enter r b k).rd f = m.rd f := by
    rw [he, hst _ h1 h2, State.rd_wr64_ne h3 h4, hprd]
  have hpl : p.log = { s.log with buf := b ++ [{ r with seq := s.lastSeq + 1, stamp := s.now, dirty := true }], summary := if k = 0 then s.log.summary else true } := by
    rw [hp, hlog, hnow]
  have hpm : p.mem = m.mem ∧ p.now = m.now ∧ p.pwr = m.pwr := by rw [hp]; exact ⟨rfl, rfl, rfl⟩
  obtain ⟨e1, e2, e3, e4⟩ := p.recStat_seq (s.lastSeq + 1)
  rw [← he] at e1 e2 e3 e4
  rw [hpl] at e1
  refine ⟨⟨e2.trans (hpm.1.trans hmem), by rw [e1], by rw [e1], ?_⟩, e1, e3.trans (hpm.2.1.trans hnow), e4.trans (hpm.2.2.trans hpwr), ?_, ?_, ?_, ?_, ?_⟩
  · exact (hend (by decide) (by decide) (by decide) (by decide)).trans (hrd (by decide))
  · rw [he, State.rd64, hst _ (by decide) (by decide), hst _ (by decide) (by decide)]
    exact State.rd64_wr64 rfl rfl (by decide)
  · exact (hend (by decide) (by decide) (by decide) (by decide)).trans (hrd (by decide))
  · exact (hend (by decide) (by decide) (by decide) (by decide)).trans hdis
  · exact (hend (by decide) (by decide) (by decide) (by decide)).trans (hrd (by decide))
  · exact (hend (by decide) (by decide) (by decide) (by decide)).trans (hrd (by decide))

theorem State.commitRecord_kept (s : State) (r : Record) : CommitKept s (s.commitRecord r) := by
  obtain ⟨⟨b, n, k⟩, hd⟩ : ∃ x, x = displace r.size (displaceable r.sev) (reuse r.size s.log.buf (recsSize s.log.buf)) (recsSize (reuse r.size s.log.buf (recsSize s.log.buf))) := ⟨_, rfl⟩
  replace hd := hd.symm
  by_cases hfit : n + r.size ≤ 524288
  · rw [State.commitRecord_entered hd hfit]
    obtain ⟨x, y, h⟩ := (s.enter r b k).afterCommit_eq r
    rw [h]
    exact (s.enter_spec r b k).1
  · rw [State.commitRecord_dropped hd (by omega)]
    exact (s.dropRecord_spec r).1

/-! ### The ports -/

/-- What waits at port `j`. -/
def State.port (s : State) (j : Nat) : List Record := s.log.ports.getD [] j

/-- One port gives one record, and the rotating pointer passes it (R409). -/
def commitPort (s : State) (c : Nat) : State :=
  match s.log.ports.getD [] c with
  | [] => s
  | r :: rest =>
    let s := { s with log := { s.log with ports := s.log.ports.put [] c rest, pointer := (c + 1) % 32 } }
    s.commitRecord r

theorem commitPort_nil {c : Nat} (h : s.port c = []) : commitPort s c = s := by
  unfold State.port at h
  unfold commitPort; rw [h]

/-- The state in which port `c` has given its record. -/
def State.given (s : State) (c : Nat) (rest : List Record) : State :=
  { s with log := { s.log with ports := s.log.ports.put [] c rest, pointer := (c + 1) % 32 } }

theorem commitPort_cons {c : Nat} {rest : List Record} (h : s.port c = r :: rest) : commitPort s c = (s.given c rest).commitRecord r := by
  unfold State.port at h
  unfold commitPort; rw [h]; rfl

theorem commitPort_spec (s : State) (c : Nat) : (commitPort s c).mem = s.mem ∧ (commitPort s c).rd F.REC_TIE_CNT_TIES = s.rd F.REC_TIE_CNT_TIES ∧
    (commitPort s c).port c = (s.port c).tail ∧ ∀ j, j ≠ c → (commitPort s c).port j = s.port j := by
  cases h : s.port c with
  | nil => rw [commitPort_nil h]; exact ⟨rfl, rfl, h, fun _ _ => rfl⟩
  | cons r rest =>
    obtain ⟨h1, h2, -, h4⟩ := (s.given c rest).commitRecord_kept r
    rw [commitPort_cons h]
    refine ⟨h1, h4, ?_, fun j hj => ?_⟩
    · rw [State.port, h2]; exact Tbl.getD_put_self ..
    · rw [State.port, h2]; exact Tbl.getD_put_ne _ _ _ (Ne.symm hj)

theorem foldl_commitPort {l : List Nat} (hn : l.Nodup) (s : State) : (l.foldl commitPort s).mem = s.mem ∧
    (l.foldl commitPort s).rd F.REC_TIE_CNT_TIES = s.rd F.REC_TIE_CNT_TIES ∧
    ∀ j, (l.foldl commitPort s).port j = if j ∈ l then (s.port j).tail else s.port j := by
  induction l generalizing s with
  | nil => exact ⟨rfl, rfl, fun j => (if_neg (List.not_mem_nil)).symm⟩
  | cons c l ih =>
    obtain ⟨hc, hn⟩ := List.nodup_cons.1 hn
    obtain ⟨h1, h2, h3, h4⟩ := commitPort_spec s c
    obtain ⟨k1, k2, k3⟩ := ih hn (commitPort s c)
    refine ⟨k1.trans h1, k2.trans h2, fun j => ?_⟩
    rw [List.foldl_cons, k3 j]
    by_cases hj : j = c
    · subst hj; rw [if_neg hc, if_pos (List.mem_cons_self ..), h3]
    · rw [h4 j hj]; simp [hj]

theorem mem_portsReady {c : Nat} : c ∈ s.portsReady ↔ c < 32 ∧ s.port c ≠ [] := by
  unfold State.portsReady State.port
  rw [List.mem_filter, List.mem_map]
  simp only [List.mem_range, Bool.not_eq_true', List.isEmpty_eq_false_iff]
  refine and_congr_left fun _ => ⟨fun ⟨k, _, h⟩ => by omega, fun h => ⟨(c + 32 - s.log.pointer % 32) % 32, by omega, by omega⟩⟩

theorem nodup_portsReady : s.portsReady.Nodup := by
  refine List.Nodup.filter _ (List.Nodup.map_on (fun x hx y hy h => ?_) List.nodup_range)
  rw [List.mem_range] at hx hy; omega

theorem length_portsReady : s.portsReady.length = ((List.range 32).filter fun j => !(s.port j).isEmpty).length := by
  refine List.Perm.length_eq ((List.perm_ext_iff_of_nodup nodup_portsReady (List.nodup_range.filter _)).2 fun c => ?_)
  rw [mem_portsReady, List.mem_filter, List.mem_range]
  simp

/-- RECORD_COMMIT, as the ports that hold a record give one each and the others count as ties. -/
theorem ends_recordCommit {P : State → Prop} (h : P (((s.tick t).portsReady.foldl commitPort (s.tick t)).incBy F.REC_TIE_CNT_TIES ((s.tick t).portsReady.length - 1))) :
    Ends (.recordCommit t) s P := by
  have he : exec (.recordCommit t) s = .next (((s.tick t).portsReady.foldl commitPort (s.tick t)).incBy F.REC_TIE_CNT_TIES ((s.tick t).portsReady.length - 1)) := rfl
  exact ends_next he h

theorem recordCommit_ports (s : State) (t : Nat) : Ends (.recordCommit t) s fun s' => s'.mem = s.mem ∧ (∀ j, j < 32 → s'.port j = (s.port j).tail) ∧
    s'.rd F.REC_TIE_CNT_TIES = satAdd 32 (s.rd F.REC_TIE_CNT_TIES) (((List.range 32).filter fun j => !(s.port j).isEmpty).length - 1) := by
  obtain ⟨h1, h2, h3⟩ := foldl_commitPort (s := s.tick t) nodup_portsReady
  refine ends_recordCommit ?_
  obtain ⟨k, hk⟩ : ∃ k, k = (s.tick t).portsReady.length := ⟨_, rfl⟩
  obtain ⟨n, hn⟩ : ∃ n, n = (s.tick t).portsReady.foldl commitPort (s.tick t) := ⟨_, rfl⟩
  rw [← hk, ← hn]
  rw [← hn] at h1 h2 h3
  have hk' : k = ((List.range 32).filter fun j => !(s.port j).isEmpty).length := hk.trans length_portsReady
  refine ⟨h1, fun j hj => (h3 j).trans ?_, ?_⟩
  · by_cases he : s.port j = []
    · rw [if_neg (fun hm => (mem_portsReady (s := s.tick t).1 hm).2 he)]; exact he.trans (by rw [he]; rfl)
    · rw [if_pos (mem_portsReady (s := s.tick t).2 ⟨hj, he⟩)]; rfl
  · rw [← hk', State.incBy, h2, State.rd_wr_lt]
    · rfl
    · unfold satAdd; split
      · assumption
      · exact Nat.sub_lt (by decide) (by decide)

/-- A single port that holds a record gives it, and the pointer passes it. -/
theorem ends_recordCommit_only {P : State → Prop} {c : Nat} {rest : List Record} (hc : c < 32) (ho : s.port c = r :: rest ∧ ∀ j, j < 32 → j ≠ c → s.port j = [])
    (h : P ((((s.tick t).given c rest).commitRecord r).incBy F.REC_TIE_CNT_TIES 0)) : Ends (.recordCommit t) s P := by
  obtain ⟨h1, h2⟩ := ho
  have hl : (s.tick t).portsReady = [c] := by
    refine List.perm_singleton.1 ((List.perm_ext_iff_of_nodup nodup_portsReady (List.nodup_singleton c)).2 fun j => ?_)
    rw [mem_portsReady, List.mem_singleton]
    refine ⟨fun ⟨hj, hne⟩ => by_contra fun he => hne (h2 j hj he), fun e => e ▸ ⟨hc, fun e => ?_⟩⟩
    exact List.cons_ne_nil r rest (h1.symm.trans e)
  refine ends_recordCommit ?_
  rw [hl, List.foldl_cons, List.foldl_nil, commitPort_cons (s := s.tick t) h1]
  exact h

/-! ### Room in the buffer -/

theorem foldl_size (l : List Record) (n : Nat) : l.foldl (fun n r => n + r.size) n = n + recsSize l := by
  induction l generalizing n with
  | nil => rfl
  | cons r l ih =>
    unfold recsSize
    rw [List.foldl_cons, List.foldl_cons, ih, ih (0 + r.size)]; omega

theorem recsSize_cons (r : Record) (l : List Record) : recsSize (r :: l) = r.size + recsSize l := by
  rw [recsSize, List.foldl_cons, foldl_size]; omega

theorem displaceSev_fits {k need n : Nat} (h : n + need ≤ 524288) : displaceSev k need l n = (l, n, 0) := by
  cases l with
  | nil => rfl
  | cons r l => exact if_pos h

/-- No record of severity `k` is there, so none is displaced. -/
theorem displaceSev_none {k need n : Nat} (h : ∀ x ∈ l, x.sev ≠ k) : displaceSev k need l n = (l, n, 0) := by
  induction l with
  | nil => rfl
  | cons r l ih =>
    obtain ⟨hr, hl⟩ := List.forall_mem_cons.1 h
    rw [displaceSev]
    split
    · rfl
    · rw [ih hl]

/-- Severities that displace nothing leave the buffer. -/
theorem displace_same {need n : Nat} {ks : List Nat} (h : ∀ k ∈ ks, displaceSev k need l n = (l, n, 0)) : displace need ks l n = (l, n, 0) := by
  induction ks with
  | nil => rfl
  | cons k ks ih =>
    obtain ⟨hk, hks⟩ := List.forall_mem_cons.1 h
    rw [displace, hk]; dsimp only; rw [ih hks]; rfl

/-- Nothing is reused where no record has been flushed. -/
theorem reuse_dirty {need n : Nat} (h : ∀ x ∈ l, x.dirty = true) : reuse need l n = l := by
  induction l with
  | nil => rfl
  | cons r l ih =>
    obtain ⟨hr, hl⟩ := List.forall_mem_cons.1 h
    rw [reuse]
    split
    · rfl
    · rw [ih hl]

theorem reuse_fits {need n : Nat} (h : n + need ≤ 524288) : reuse need l n = l := by
  cases l with
  | nil => rfl
  | cons r l => exact if_pos h

/-- The front record alone is displaced: the others are of higher severities than `v`, and without it there is room. -/
theorem displace_front {v need : Nat} (hq : q.sev ≤ v) (h7 : q.sev ≠ 7) (hv : v < 8) (hl : ∀ x ∈ l, v < x.sev)
    (hfull : 524288 < recsSize (q :: l) + need) (hfit : recsSize l + need ≤ 524288) :
    displace need (displaceable v) (q :: l) (recsSize (q :: l)) = (l, recsSize l, 1) := by
  have hq7 : q.sev < 7 := by omega
  have hlow {k : Nat} (hk : k < q.sev) : displaceSev k need (q :: l) (recsSize (q :: l)) = (q :: l, recsSize (q :: l), 0) :=
    displaceSev_none (List.forall_mem_cons.2 ⟨by omega, fun x hx => by have := hl x hx; omega⟩)
  have hat : displaceSev q.sev need (q :: l) (recsSize (q :: l)) = (l, recsSize l, 1) := by
    have hfull' : ¬ recsSize (q :: l) + need ≤ bufBytes := Nat.not_le.2 hfull
    rw [displaceSev, if_neg hfull', if_pos rfl]
    rw [recsSize_cons, Nat.add_sub_cancel_left, displaceSev_fits hfit]
  have hsplit : displaceable v = ((List.range q.sev).filter fun k => decide (k ≤ v)) ++
      q.sev :: ((List.range' (q.sev + 1) (6 - q.sev)).filter fun k => decide (k ≤ v)) := by
    have hr : List.range 7 = List.range q.sev ++ q.sev :: List.range' (q.sev + 1) (6 - q.sev) := by
      generalize q.sev = x at hq7
      interval_cases x <;> rfl
    rw [displaceable, hr, List.filter_append, List.filter_cons_of_pos (by simpa using hq)]
  have happ (ks ks' : List Nat) (h : ∀ k ∈ ks, displaceSev k need (q :: l) (recsSize (q :: l)) = (q :: l, recsSize (q :: l), 0)) :
      displace need (ks ++ ks') (q :: l) (recsSize (q :: l)) = displace need ks' (q :: l) (recsSize (q :: l)) := by
    induction ks with
    | nil => rfl
    | cons k ks ih =>
      obtain ⟨hk, hks⟩ := List.forall_mem_cons.1 h
      rw [List.cons_append, displace, hk]; dsimp only; rw [ih hks, Nat.zero_add]
  rw [hsplit, happ _ _ fun k hk => hlow (List.mem_range.1 (List.mem_of_mem_filter hk)), displace, hat]
  dsimp only
  rw [displace_same fun k _ => displaceSev_fits hfit]; rfl

/-! ### The commit of a single record -/

section
variable {c : Nat} {rest : List Record} (hc : c < 32) (ho : s.port c = r :: rest ∧ ∀ j, j < 32 → j ≠ c → s.port j = [])
include hc ho

/-- The record as it stands in the buffer. -/
def State.taken (s : State) (t : Nat) (r : Record) : Record := { r with seq := s.rd64 F.REC_SEQ_SEQ + 1, stamp := t, dirty := true }

/-- The single record enters: `b` stays of the buffer and `k` records went. -/
theorem ends_recordCommit_enter {b : List Record} {n k : Nat} {P : State → Prop}
    (hd : displace r.size (displaceable r.sev) (reuse r.size s.log.buf (recsSize s.log.buf)) (recsSize (reuse r.size s.log.buf (recsSize s.log.buf))) = (b, n, k))
    (hfit : n + r.size ≤ 524288)
    (h : ∀ s', s'.log.buf = b ++ [s.taken t r] → s'.log.summary = (if k = 0 then s.log.summary else true) → s'.log.pointer = (c + 1) % 32 →
      s'.rd64 F.REC_SEQ_SEQ = (s.rd64 F.REC_SEQ_SEQ + 1) % 2 ^ 64 → s'.rd F.REC_CNT_DROPPED = s.rd F.REC_CNT_DROPPED →
      s'.rd F.REC_CNT_DISPLACED = (if k = 0 then s.rd F.REC_CNT_DISPLACED else satAdd 16 (s.rd F.REC_CNT_DISPLACED) k) →
      (s.rd F.REC_STAT_MOUNTED ≠ 0 → (∀ p, s.pwr.seq = some p → ∀ b, p.flushBy = some b → t + 1 < b) → s.rd F.REC_CFG_FLUSH_SEV ≤ r.sev →
        s'.log.flushing.isSome = true) → P s') : Ends (.recordCommit t) s P := by
  refine ends_recordCommit_only hc ho ?_
  rw [State.commitRecord_entered (s := (s.tick t).given c rest) hd hfit]
  obtain ⟨-, hlog, hnow, hpwr, hseq, hdrop, hdis, hmo, hfs⟩ := ((s.tick t).given c rest).enter_spec r b k
  obtain ⟨m, hm⟩ : ∃ m, m = ((s.tick t).given c rest).enter r b k := ⟨_, rfl⟩
  rw [← hm] at hlog hnow hpwr hseq hdrop hdis hmo hfs ⊢
  obtain ⟨x, y, hx⟩ := m.afterCommit_eq r
  have hfl : s.rd F.REC_STAT_MOUNTED ≠ 0 → (∀ p, s.pwr.seq = some p → ∀ b, p.flushBy = some b → t + 1 < b) → s.rd F.REC_CFG_FLUSH_SEV ≤ r.sev →
      (m.afterCommit r).log.flushing.isSome = true := fun hmount hmay hsev => by
    have hsev' : m.rd F.REC_CFG_FLUSH_SEV ≤ r.sev := by rw [hfs]; exact hsev
    have h1 := State.triggerFlush_isSome (s := m) (by rw [hmo]; exact hmount) (State.flushShut_tick hmay hpwr hnow) .severity
    unfold State.afterCommit
    rw [if_pos hsev']
    dsimp only
    split
    · exact State.triggerFlush_keeps_isSome _ _ h1
    · exact h1
  rw [hx] at hfl ⊢
  have hrd {f : Fld} (hf : F.REC_TIE_CNT_TIES.key ≠ f.key) : State.rd (State.incBy { m with log := { m.log with flushing := x, pendFlush := y } } F.REC_TIE_CNT_TIES 0) f = m.rd f :=
    State.rd_incBy_ne (s := { m with log := { m.log with flushing := x, pendFlush := y } }) 0 hf
  refine h _ (congrArg LogSt.buf hlog :) (congrArg LogSt.summary hlog :) (congrArg LogSt.pointer hlog :) ?_ ((hrd (by decide)).trans hdrop) ((hrd (by decide)).trans hdis) hfl
  rw [State.rd64, hrd (by decide), hrd (by decide)]; exact hseq

theorem recordCommit_enters (hfit : recsSize s.log.buf + r.size ≤ 524288) : Ends (.recordCommit t) s fun s' => s'.log.buf = s.log.buf ++ [s.taken t r] ∧
    s'.rd64 F.REC_SEQ_SEQ = (s.rd64 F.REC_SEQ_SEQ + 1) % 2 ^ 64 ∧ s'.log.pointer = (c + 1) % 32 ∧ s'.rd F.REC_CNT_DROPPED = s.rd F.REC_CNT_DROPPED ∧
    (s.rd F.REC_STAT_MOUNTED ≠ 0 → (∀ p, s.pwr.seq = some p → ∀ b, p.flushBy = some b → t + 1 < b) → s.rd F.REC_CFG_FLUSH_SEV ≤ r.sev →
      s'.log.flushing.isSome = true) := by
  have hr := reuse_fits (l := s.log.buf) hfit
  refine ends_recordCommit_enter hc ho (b := s.log.buf) (n := recsSize s.log.buf) (k := 0) ?_ hfit
    fun s' h1 _ h3 h4 h5 _ h7 => ⟨h1, h4, h3, h5, h7⟩
  rw [hr]
  exact displace_same fun k _ => displaceSev_fits hfit

theorem recordCommit_displaces (hb : s.log.buf = q :: l) (hq : q.dirty = true) (hqs : q.sev ≤ r.sev) (h7 : q.sev ≠ 7) (hr8 : r.sev < 8)
    (hl : ∀ x, x ∈ l → x.dirty = true ∧ r.sev < x.sev) (hfull : 524288 < recsSize s.log.buf + r.size) (hfit : recsSize l + r.size ≤ 524288) :
    Ends (.recordCommit t) s fun s' => s'.log.buf = l ++ [s.taken t r] ∧ s'.log.summary = true ∧
      s'.rd F.REC_CNT_DISPLACED = satAdd 16 (s.rd F.REC_CNT_DISPLACED) 1 := by
  have hr : ∀ n, reuse r.size s.log.buf n = s.log.buf := fun n =>
    reuse_dirty (by rw [hb]; exact List.forall_mem_cons.2 ⟨hq, fun x hx => (hl x hx).1⟩)
  refine ends_recordCommit_enter hc ho (b := l) (n := recsSize l) (k := 1) ?_ hfit fun s' h1 h2 _ _ _ h6 _ => ⟨h1, h2, h6⟩
  rw [hr]
  rw [hb] at hfull ⊢
  exact displace_front hqs h7 hr8 (fun x hx => (hl x hx).2) hfull hfit

theorem recordCommit_drops (hfull : 524288 < recsSize s.log.buf + r.size) (hl : ∀ x, x ∈ s.log.buf → x.dirty = true ∧ (r.sev < x.sev ∨ x.sev = 7)) :
    Ends (.recordCommit t) s fun s' => s'.log.buf = s.log.buf ∧ s'.rd64 F.REC_SEQ_SEQ = s.rd64 F.REC_SEQ_SEQ ∧ s'.log.summary = true ∧
      s'.rd F.REC_CNT_DROPPED = satSucc 16 (s.rd F.REC_CNT_DROPPED) := by
  have hr : ∀ n, reuse r.size s.log.buf n = s.log.buf := fun n => reuse_dirty fun x hx => (hl x hx).1
  have hd : displace r.size (displaceable r.sev) (reuse r.size s.log.buf (recsSize s.log.buf)) (recsSize (reuse r.size s.log.buf (recsSize s.log.buf))) =
      (s.log.buf, recsSize s.log.buf, 0) := by
    rw [hr]
    refine displace_same fun k hk => displaceSev_none fun x hx => ?_
    obtain ⟨hk7, hkv⟩ := List.mem_filter.1 hk
    rw [List.mem_range] at hk7
    rw [decide_eq_true_eq] at hkv
    have := (hl x hx).2
    omega
  refine ends_recordCommit_only hc ho ?_
  rw [State.commitRecord_dropped (s := (s.tick t).given c rest) hd hfull]
  obtain ⟨-, h1, h2, h3⟩ := ((s.tick t).given c rest).dropRecord_spec r
  obtain ⟨m, hm⟩ : ∃ m, m = ((s.tick t).given c rest).dropRecord r := ⟨_, rfl⟩
  rw [← hm] at h1 h2 h3 ⊢
  have hrd (f : Fld) (hf : F.REC_TIE_CNT_TIES.key ≠ f.key) : (m.incBy F.REC_TIE_CNT_TIES 0).rd f = (((s.tick t).given c rest).inc F.REC_CNT_DROPPED).rd f :=
    (m.rd_wr_ne _ hf).trans (State.rd_congr h3 f)
  have hne {f : Fld} (hf : F.REC_CNT_DROPPED.key ≠ f.key) : (((s.tick t).given c rest).inc F.REC_CNT_DROPPED).rd f = s.rd f :=
    ((s.tick t).given c rest).rd_wr_ne _ hf
  refine ⟨h1, ?_, h2, (hrd _ (by decide)).trans ?_⟩
  · rw [State.rd64, hrd _ (by decide), hrd _ (by decide), hne (by decide), hne (by decide)]; rfl
  · rw [State.rd_inc_self]; exact Nat.mod_eq_of_lt satSucc_lt

end

/-! ### COMMIT -/

section
variable {kind n lenW : Nat}

/-- The words of a Parlour record (R410). -/
def recWords (lenW : Nat) : Nat := clampNat lenW 5 1024

theorem recWords_eq (lenW : Nat) : recWords lenW = min 1024 (max 5 lenW) := by
  rw [recWords, clampNat_eq _ _ _ (by decide)]; omega

/-- Where a writer's record lies. -/
def State.wrSource (s : State) (i : Nat) : Nat := s.log.wrAddr.getD 0 (2 * i) + 2 ^ 32 * (s.log.wrAddr.getD 0 (2 * i + 1) % 256)

/-- The severity that a writer gets (R410). -/
def State.wrSev (s : State) (a : Attr) (kind : Nat) : Nat := if a.attic then kind % 8 else min (kind % 8) (s.rd F.REC_CFG_PARLOUR_MAX)

/-- The record that a writer's COMMIT makes (R410). -/
def State.wrRecord (s : State) (a : Attr) (kind n lenW : Nat) : Record :=
  ⟨0, s.wrSev a kind, 0x1F, n % 256, s.tNow, sourceWord a.dom.code a.inst 0, 0, 0, 0, [], s.load (s.wrSource a.inst) (4 * recWords lenW - 16), s.now, true⟩

/-- A COMMIT leaves its result at the writer's register. -/
def State.wrEnds (s : State) (i x : Nat) : State := { s with log := { s.log with wrResult := s.log.wrResult.put 0 i x } }

theorem recCommit_written (hp : (s.tick t).passes 0x41400028 a true = true) (h1 : (s.tick t).passes (s.wrSource a.inst) a false = true)
    (h2 : (s.tick t).passes (s.wrSource a.inst + 4 * recWords lenW - 17) a false = true) :
    Ends (.recCommit t a kind n lenW) s fun s' => s'.regs = s.regs ∧ s'.mem = s.mem ∧
      ∃ x, x.cls = 0x1F ∧ x.sev = s.wrSev a kind ∧ x.kind = n % 256 ∧ x.time = (s.tick t).tNow ∧
        x.body = (List.range (4 * recWords lenW - 16)).map (fun j => (Memory.read s.mem (s.wrSource a.inst + j)).toNat) ∧
        s'.log = { s.log with ports := s.log.ports.put [] 0x1F (portInsert x (s.port 0x1F)),
                              wrResult := s.log.wrResult.put 0 a.inst (if s.wrSev a kind < kind % 8 then 9 else 0) } := by
  have n1 : ¬ (!(s.tick t).okay.passes (s.wrSource a.inst) a false) = true := by rw [show (s.tick t).okay.passes (s.wrSource a.inst) a false = true from h1]; decide
  have n2 : ¬ (!(s.tick t).okay.passes (s.wrSource a.inst + 4 * recWords lenW - 17) a false) = true := by
    rw [show (s.tick t).okay.passes (s.wrSource a.inst + 4 * recWords lenW - 17) a false = true from h2]; decide
  refine ends_guarded_eq (arm_recCommit ..) hp rfl
    (x := ((s.tick t).okay.toPort ((s.tick t).okay.wrRecord a kind n lenW)).wrEnds a.inst (if s.wrSev a kind < kind % 8 then 9 else 0))
    ((if_neg n1).trans (if_neg n2)) ?_
  exact ⟨rfl, rfl, _, rfl, rfl, rfl, rfl, rfl, rfl⟩

theorem State.deny_port (s : State) (a : Attr) (set addr : Nat) (w : Bool) : (s.deny a set addr w).port 0x1F = s.port 0x1F := by
  have hl (x : Viol) : (s.logViol x).log = s.log := by unfold State.logViol; split <;> rfl
  obtain ⟨n, hn⟩ : ∃ n, n = (s.logViol ⟨0x0E, a, set, w, addr⟩).inc F.WORLD_VIOL_CNT_DENIED := ⟨_, rfl⟩
  have hns : n.port 0x1F = s.port 0x1F := by
    have : n.log = s.log := by rw [hn]; exact hl _
    rw [State.port, this]; rfl
  have hrec (cls kind sev subj st : Nat) (vals : List Nat) (src : Nat) (h : cls ≠ 0x1F) (m : State) :
      (m.record cls kind sev subj st vals src).port 0x1F = m.port 0x1F := Tbl.getD_put_ne _ _ _ h
  unfold State.deny; dsimp only; rw [← hn]
  have hans (m : State) (x y : Nat) : (m.answer x y).port 0x1F = m.port 0x1F := rfl
  rw [hans]
  split <;> split
  · exact (hrec 0x0F _ _ _ _ _ _ (by decide) _).trans hns
  · exact hns
  · exact (hrec 0x0F _ _ _ _ _ _ (by decide) _).trans hns
  · exact hns

theorem recCommit_denied (hp : (s.tick t).passes 0x41400028 a true = true) (h1 : (s.tick t).passes (s.wrSource a.inst) a false = false) :
    Ends (.recCommit t a kind n lenW) s fun s' => s'.resp.status = 0x0E ∧ s'.log.wrResult.getD 0 a.inst = 0x0E ∧ s'.port 0x1F = s.port 0x1F := by
  have n1 : (!(s.tick t).okay.passes (s.wrSource a.inst) a false) = true := by rw [show (s.tick t).okay.passes (s.wrSource a.inst) a false = false from h1]; rfl
  refine ends_guarded_eq (arm_recCommit ..) hp rfl
    (x := ((s.tick t).okay.deny a ((regionSet (s.wrSource a.inst)).getD 3) (s.wrSource a.inst) false).wrEnds a.inst 0x0E) (if_pos n1) ?_
  obtain ⟨-, hr, -⟩ := (s.tick t).okay.deny_frame a ((regionSet (s.wrSource a.inst)).getD 3) (s.wrSource a.inst) false
  obtain ⟨n, hn⟩ : ∃ n, n = (s.tick t).okay.deny a ((regionSet (s.wrSource a.inst)).getD 3) (s.wrSource a.inst) false := ⟨_, rfl⟩
  have hport : n.port 0x1F = s.port 0x1F := by rw [hn]; exact (s.tick t).okay.deny_port ..
  rw [← hn] at hr ⊢
  exact ⟨congrArg Resp.status hr, Tbl.getD_put_self n.log.wrResult 0 0x0E a.inst, hport⟩

end

/-! ### Flush requests -/

/-- What a trigger that finds no flush under way leaves. -/
def FlushBegun (s : State) (t : Nat) (k : FlushCause) (s' : State) : Prop := s'.log.flushing = some ⟨k, t + 1⟩ ∧
  s'.log.buf = s.log.buf ∧ s'.log.blocks = s.log.blocks ∧ s'.regs = s.regs ∧ s'.mem = s.mem

theorem flushWindowTimer_starts {m : Nat} (hu : s.pwr.hubUp = true) (hl : s.log.lastEnd = some m) (ht : m + 60000000000 ≤ t)
    (hm : s.rd F.REC_STAT_MOUNTED ≠ 0) (hn : s.log.flushing = none)
    (may : ∀ p, s.pwr.seq = some p → ∀ b, p.flushBy = some b → t + 1 < b) : Ends (.flushWindowTimer t) s (FlushBegun s t .window) := by
  have he : exec (.flushWindowTimer t) s = .next (({ s.tick t with log := { s.log with lastEnd := some t } } : State).triggerFlush .window) := by
    have hc : (s.tick t).pwr.hubUp = true ∧ (s.tick t).closed m (secs 60) = true := ⟨hu, decide_eq_true ht⟩
    rw [arm_flushWindowTimer, execFlushWindowTimer]
    rw [show (s.tick t).log.lastEnd = some m from hl]
    dsimp only
    rw [if_pos hc]; rfl
  refine ends_next_eq he (State.triggerFlush_starts (s := { s.tick t with log := { s.log with lastEnd := some t } }) hm (State.flushShut_tick may rfl rfl) .window hn) ?_
  exact ⟨rfl, rfl, rfl, rfl, rfl⟩

theorem flushWindowTimer_early {m : Nat} (hl : s.log.lastEnd = some m) (ht : t < m + 60000000000) : Ends (.flushWindowTimer t) s fun s' => s' = s.tick t := by
  have he : exec (.flushWindowTimer t) s = .next (s.tick t) := by
    have hc : ¬ ((s.tick t).pwr.hubUp = true ∧ (s.tick t).closed m (secs 60) = true) := fun h => absurd (of_decide_eq_true h.2) (Nat.not_le.2 ht)
    rw [arm_flushWindowTimer, execFlushWindowTimer]
    rw [show (s.tick t).log.lastEnd = some m from hl]
    dsimp only
    rw [if_neg hc]
  exact ends_next he rfl

theorem flushWindowTimer_never (hl : s.log.lastEnd = none) : Ends (.flushWindowTimer t) s fun s' => s' = s.tick t := by
  have he : exec (.flushWindowTimer t) s = .next (s.tick t) := by
    rw [arm_flushWindowTimer, execFlushWindowTimer]
    rw [show (s.tick t).log.lastEnd = none from hl]
  exact ends_next he rfl

section
variable (hc : a.attic = true ∧ a.inst = 0 ∧ (s.tick t).passes 0x41400008 a true = true)
include hc

/-- A recorder command of the Attic's instance 0 that the regions let pass. -/
theorem ends_recCmd {c : Instr} {eff : State → State} {P : State → Prop}
    (he : exec c s = .next ((s.tick t).guarded a 0x41400008 true a.attic0 eff)) (h : P (eff (s.tick t).okay)) : Ends c s P := by
  obtain ⟨ha, hi, hp⟩ := hc
  exact ends_guarded he hp (by rw [Attr.attic0, ha, hi]; rfl) h

theorem ends_recCmd_eq {c : Instr} {eff : State → State} {x : State} {P : State → Prop}
    (he : exec c s = .next ((s.tick t).guarded a 0x41400008 true a.attic0 eff)) (hx : eff (s.tick t).okay = x) (h : P x) : Ends c s P :=
  ends_recCmd hc he (by rw [hx]; exact h)

theorem recFlush_starts (hm : s.rd F.REC_STAT_MOUNTED ≠ 0) (hn : s.log.flushing = none)
    (may : ∀ p, s.pwr.seq = some p → ∀ b, p.flushBy = some b → t + 1 < b) : Ends (.recFlush t a) s (FlushBegun s t .command) := by
  refine ends_recCmd hc (arm_recFlush ..) ?_
  rw [State.triggerFlush_starts (s := (s.tick t).okay) hm (State.flushShut_tick may rfl rfl) .command hn]
  exact ⟨rfl, rfl, rfl, rfl, rfl⟩

theorem recFlush_pends {f : FlushReq} (hm : s.rd F.REC_STAT_MOUNTED ≠ 0) (may : ∀ p, s.pwr.seq = some p → ∀ b, p.flushBy = some b → t + 1 < b)
    (hf : s.log.flushing = some f) (ht : f.start ≤ t) (hn : s.log.pendFlush = none) :
    Ends (.recFlush t a) s fun s' => s'.log = { s.log with pendFlush := some .command } := by
  refine ends_recCmd hc (arm_recFlush ..) ?_
  rw [State.triggerFlush_pends (s := (s.tick t).okay) hm (State.flushShut_tick may rfl rfl) .command hf ht hn]
  rfl

theorem recFlush_unmounted (hm : s.rd F.REC_STAT_MOUNTED = 0) : Ends (.recFlush t a) s fun s' => s'.log = s.log ∧ s'.regs = s.regs := by
  refine ends_recCmd hc (arm_recFlush ..) ?_
  rw [State.triggerFlush_unmounted (s := (s.tick t).okay) .command hm]
  exact ⟨rfl, rfl⟩

/-! ### READ -/

omit hc in
/-- The records that READ gives (R421). -/
def State.readOut (s : State) : List Record :=
  (takeFit (s.allRecords.filter fun r => decide (s.rd64 F.REC_RD_FROM_FROM ≤ r.seq) && decide (s.rd F.REC_RD_FILT_MIN_SEV ≤ r.sev))
    (s.rd F.REC_RD_LEN_RD_LEN)).1

omit hc in
/-- Where READ puts them. -/
def State.readDest (s : State) : Nat := s.rd (F.REC_RD_ADDR_ADDR 0) + 2 ^ 32 * (s.rd (F.REC_RD_ADDR_ADDR 1) % 256)

theorem recRead_delivers (hr : (s.tick t).reaches s.readDest (s.readOut.flatMap Record.bytes).length true = true) :
    Ends (.recRead t a) s fun s' => OnlyRegs { s with mem := s'.mem, log := s'.log } t [F.REC_RD_STAT_COUNT] s' ∧
      s'.rd F.REC_RD_STAT_COUNT = s.readOut.length % 2 ^ 20 ∧ s'.log = { s.log with readEnd := s'.log.readEnd } ∧
      (s.readOut = [] → s'.log.readEnd = s.rd64 F.REC_RD_FROM_FROM) ∧ (∀ l x, s.readOut = l ++ [x] → s'.log.readEnd = x.seq + 1) ∧
      (∀ j, j < (s.readOut.flatMap Record.bytes).length →
        Memory.read s'.mem (s.readDest + j) = BitVec.ofNat 8 ((s.readOut.flatMap Record.bytes).getD j 0)) ∧
      ∀ j, j < s.readDest ∨ s.readDest + (s.readOut.flatMap Record.bytes).length ≤ j → Memory.read s'.mem j = Memory.read s.mem j := by
  have hr' : (s.tick t).okay.reaches s.readDest (s.readOut.flatMap Record.bytes).length true = true := hr
  have hb := State.buffer_of_reaches (s := (s.tick t).okay)
    (fun x => { (x.store s.readDest (s.readOut.flatMap Record.bytes)).wr F.REC_RD_STAT_COUNT s.readOut.length with
      log := { x.log with readEnd := (s.readOut.getLast?.map fun r => r.seq + 1).getD (s.rd64 F.REC_RD_FROM_FROM) } })
    (fun x => { x.wr F.REC_RD_STAT_COUNT 0 with log := { x.log with readEnd := s.rd64 F.REC_RD_FROM_FROM } }) hr'
  refine ends_recCmd_eq hc (arm_recRead ..) hb ?_
  refine ⟨⟨rfl, fun f hf => ?_⟩, ?_, rfl, fun h => ?_, fun l x h => ?_, fun j hj => ?_, fun j hj => ?_⟩
  · exact ((s.tick t).okay.store s.readDest (s.readOut.flatMap Record.bytes)).rd_wr_ne _ fun e => hf (by simp [e])
  · exact ((s.tick t).okay.store s.readDest (s.readOut.flatMap Record.bytes)).rd_wr_self ..
  · dsimp only; rw [h]; rfl
  · dsimp only; rw [h, List.getLast?_concat]; rfl
  · exact Memory.read_writeRun_inside _ _ _ _ hj
  · exact Memory.read_writeRun_outside _ _ hj

theorem recRead_denied (hr : (s.tick t).reaches s.readDest (s.readOut.flatMap Record.bytes).length true = false) :
    Ends (.recRead t a) s fun s' => s'.mem = s.mem ∧ s'.rd F.REC_RD_STAT_COUNT = 0 ∧ s'.log.readEnd = s.rd64 F.REC_RD_FROM_FROM := by
  obtain ⟨p, hp⟩ : ∃ p, (pagesOf s.readDest (s.readOut.flatMap Record.bytes).length).find? (fun p => !(s.tick t).okay.passes p Attr.hubBlock true) = some p := by
    refine Option.isSome_iff_exists.1 (List.find?_isSome.2 ?_)
    obtain ⟨p, hp, hn⟩ := List.all_eq_false.1 hr
    exact ⟨p, hp, by rw [show (s.tick t).okay.passes p Attr.hubBlock true = (s.tick t).passes p Attr.hubBlock true from rfl]; simpa using hn⟩
  have hb (eff bad : State → State) : (s.tick t).okay.buffer s.readDest (s.readOut.flatMap Record.bytes).length true eff bad =
      bad { (s.tick t).okay.deny Attr.hubBlock ((regionSet p).getD 3) p true with resp := (s.tick t).okay.resp } := by
    unfold State.buffer; rw [hp]
  refine ends_recCmd_eq hc (arm_recRead ..) (hb _ _) ?_
  have hm := ((s.tick t).okay.deny_frame Attr.hubBlock ((regionSet p).getD 3) p true).1
  obtain ⟨n, hn⟩ : ∃ n : State, n = { (s.tick t).okay.deny Attr.hubBlock ((regionSet p).getD 3) p true with resp := (s.tick t).okay.resp } := ⟨_, rfl⟩
  have hm' : n.mem = s.mem := by rw [hn]; exact hm
  rw [← hn]
  exact ⟨hm', n.rd_wr_lt (f := F.REC_RD_STAT_COUNT) (v := 0) (by decide), rfl⟩

end

/-! ### Segments and the start of a flush -/

theorem segmentErase_ends {sev n : Nat} (hv : sev < 8) (h : (s.stream sev).erasing = some n) : Ends (.segmentEraseComplete t sev) s fun s' =>
    (s'.stream sev).reserve = some n ∧ (s'.stream sev).erasing = none ∧ s'.regs = s.regs ∧ ∀ j, j ≠ sev → s'.stream j = s.stream j := by
  have he : exec (.segmentEraseComplete t sev) s = .next ((s.tick t).modStream sev fun x => { x with reserve := some n, erasing := none }) := by
    rw [arm_segmentEraseComplete, execSegmentEraseComplete]
    rw [show ((s.tick t).stream sev).erasing = some n from h]
    exact if_pos (decide_eq_true hv)
  have hst (j : Nat) (f : LogStream → LogStream) : ((s.tick t).modStream sev f).stream j = if j = sev then f (s.stream sev) else s.stream j := by
    unfold State.stream State.modStream
    split
    · next e => subst e; exact congrArg (Option.getD · _) (Tbl.find?_insert_self ..)
    · next e => exact congrArg (Option.getD · _) (Tbl.find?_insert_ne _ _ (Ne.symm e))
  exact ends_next he ⟨by rw [hst, if_pos rfl], by rw [hst, if_pos rfl], rfl, fun j hj => by rw [hst, if_neg hj]⟩

theorem segmentErase_early {sev : Nat} (hv : sev < 8) (h : (s.stream sev).erasing = none) : Ends (.segmentEraseComplete t sev) s fun s' => s' = s.tick t := by
  have he : exec (.segmentEraseComplete t sev) s = .next (s.tick t) := by
    rw [arm_segmentEraseComplete, execSegmentEraseComplete]
    rw [show ((s.tick t).stream sev).erasing = none from h]
    exact if_pos (decide_eq_true hv)
  exact ends_next he rfl

section
variable {f : FlushReq} (hf : s.log.flushing = some f)
include hf

theorem flushStart_starts (ht : f.start ≤ t) : Ends (.flushStart t) s fun s' => OnlyRegs s t [F.REC_STAT_FLUSHING] s' ∧ s'.rd F.REC_STAT_FLUSHING = 1 := by
  have he : exec (.flushStart t) s = .next ((s.tick t).setF F.REC_STAT_FLUSHING) := by
    have hs : f.start ≤ (s.tick t).now := ht
    rw [arm_flushStart, execFlushStart]
    rw [show (s.tick t).log.flushing = some f from hf]
    dsimp only
    rw [if_pos hs]
  exact ends_next he ⟨(OnlyRegs.tick s t _).setF (by simp), State.rd_setF_self ..⟩

theorem flushStart_early (ht : t < f.start) : Ends (.flushStart t) s fun s' => s' = s.tick t := by
  have he : exec (.flushStart t) s = .next (s.tick t) := by
    have hs : ¬ f.start ≤ (s.tick t).now := Nat.not_le.2 ht
    rw [arm_flushStart, execFlushStart]
    rw [show (s.tick t).log.flushing = some f from hf]
    dsimp only
    rw [if_neg hs]
  exact ends_next he rfl

theorem flushComplete_early (ht : t < f.start) : Ends (.flushComplete t) s fun s' => s' = s.tick t := by
  have he : exec (.flushComplete t) s = .next (s.tick t) := by
    have hs : ¬ ((s.tick t).flag F.REC_STAT_FLUSHING = true ∧ f.start ≤ (s.tick t).now) := fun h => Nat.not_le.2 ht h.2
    rw [arm_flushComplete, execFlushComplete]
    rw [show (s.tick t).log.flushing = some f from hf]
    dsimp only
    rw [if_neg hs]
  exact ends_next he rfl

theorem ends_flushComplete {P : State → Prop} (ht : f.start ≤ t) (hr : s.rd F.REC_STAT_FLUSHING ≠ 0) (h : P ((s.tick t).flushEnd f)) :
    Ends (.flushComplete t) s P := by
  have he : exec (.flushComplete t) s = .next ((s.tick t).flushEnd f) := by
    have hs : (s.tick t).flag F.REC_STAT_FLUSHING = true ∧ f.start ≤ (s.tick t).now := ⟨State.flag_eq_true.2 hr, ht⟩
    rw [arm_flushComplete, execFlushComplete]
    rw [show (s.tick t).log.flushing = some f from hf]
    dsimp only
    rw [if_pos hs]
  exact ends_next he h

end

/-! ### The end of a flush -/

/-- What the last parts of a flush leave alone: the buffer, the blocks, the streams, the chain and the pending flush. -/
def FlushKept (s s' : State) : Prop := (s'.log.buf = s.log.buf ∧ s'.log.blocks = s.log.blocks ∧ s'.log.streams = s.log.streams) ∧
  (s'.log.chainIndex = s.log.chainIndex ∧ s'.log.chainKey = s.log.chainKey ∧ s'.log.pendFlush = s.log.pendFlush) ∧ s'.pwr = s.pwr ∧ s'.now = s.now

theorem FlushKept.refl (s : State) : FlushKept s s := ⟨⟨rfl, rfl, rfl⟩, ⟨rfl, rfl, rfl⟩, rfl, rfl⟩

theorem FlushKept.trans {s'' : State} (h : FlushKept s s') (h' : FlushKept s' s'') : FlushKept s s'' := by
  obtain ⟨⟨h1, h2, h3⟩, ⟨h4, h5, h6⟩, h7, h8⟩ := h
  obtain ⟨⟨k1, k2, k3⟩, ⟨k4, k5, k6⟩, k7, k8⟩ := h'
  exact ⟨⟨k1.trans h1, k2.trans h2, k3.trans h3⟩, ⟨k4.trans h4, k5.trans h5, k6.trans h6⟩, k7.trans h7, k8.trans h8⟩

theorem State.checkpoint_kept (s : State) : FlushKept s s.checkpoint := by
  unfold State.checkpoint
  split <;> exact ⟨⟨rfl, rfl, rfl⟩, ⟨rfl, rfl, rfl⟩, rfl, rfl⟩

/-- The summary record of what was dropped or reclaimed (R413). -/
def State.summarise (s : State) : State :=
  if s.log.summary then
    ({ s with log := { s.log with summary := false } }).record 0x00 0x02 5 0 0
      [s.word F.REC_CNT_DROPPED.addr, s.word F.REC_CNT2_RECLAIMED.addr]
  else s

theorem State.summarise_kept (s : State) : FlushKept s s.summarise := by
  unfold State.summarise
  split <;> exact ⟨⟨rfl, rfl, rfl⟩, ⟨rfl, rfl, rfl⟩, rfl, rfl⟩

theorem State.discardUe_none (h : s.log.ueSeqs = []) : s.discardUe = s := by
  have h0 : (s.log.buf.filter fun r => s.log.ueSeqs.contains r.seq) = [] := by rw [h]; exact List.filter_eq_nil_iff.2 fun _ _ => by simp
  have h1 : (s.log.buf.filter fun r => !s.log.ueSeqs.contains r.seq) = s.log.buf := by rw [h]; exact List.filter_eq_self.2 fun _ _ => rfl
  unfold State.discardUe
  dsimp only
  rw [h0]
  rw [if_pos List.length_nil, h1, show (s.log.summary || decide (0 < ([] : List Record).length)) = s.log.summary from Bool.or_false _, ← h]

/-- The streams whose segment is open get a replacement (R415). -/
def State.eraseAll (s : State) : State := (List.range 8).foldl (fun s v => if (s.stream v).opened.isSome then s.eraseReplacement v else s) s

/-- Streams that all have a reserve need no replacement. -/
theorem State.eraseAll_reserved (h : ∀ j, j < 8 → (s.stream j).reserve.isSome = true) : s.eraseAll = s := by
  refine foldl_fixed _ fun v hv => ?_
  have hr : (s.stream v).reserve.isSome = true ∨ (s.stream v).erasing.isSome = true := Or.inl (h v (List.mem_range.1 hv))
  unfold State.eraseReplacement
  rw [if_pos hr, ite_self]

/-- The recorder once the flush's body is done: a pending flush takes its turn (R412). -/
def State.flushLog (s : State) : LogSt :=
  { s.log with
    lastEnd := some s.now, pendFlush := none, flushing := if s.flushShut then none else s.log.pendFlush.map fun c => ⟨c, s.now + 1⟩ }

/-- The state once the flush's body is done. -/
def State.flushClosed (s : State) (f : FlushReq) : State :=
  let s := { s with log := s.flushLog }
  let s := s.wr F.REC_STAT_FLUSHING (bit s.log.flushing.isSome)
  let s := if f.cause = .sleepFail then s.wr F.CELLAR_STAT_PF_STEP 4 else s
  if f.cause = .service then (s.setF F.HEARTH_STAT_REMOVE_OK).unmountLog else s

theorem State.flushClosed_spec (s : State) (f : FlushReq) :
    ((s.flushClosed f).log.buf = s.log.buf ∧ (s.flushClosed f).log.blocks = s.log.blocks ∧ (s.flushClosed f).log.streams = s.log.streams) ∧
    ((s.flushClosed f).log.chainIndex = s.log.chainIndex ∧ (s.flushClosed f).log.chainKey = s.log.chainKey) ∧
    (s.flushClosed f).log.lastEnd = some s.now ∧ (s.flushClosed f).log.pendFlush = none ∧
    (f.cause ≠ .service → s.flushShut = false → (s.flushClosed f).log.flushing = s.log.pendFlush.map fun c => ⟨c, s.now + 1⟩) ∧
    (f.cause = .service → (s.flushClosed f).log.flushing = none ∧ (s.flushClosed f).rd F.HEARTH_STAT_REMOVE_OK = 1 ∧
      (s.flushClosed f).rd F.REC_STAT_MOUNTED = 0) ∧
    (f.cause = .sleepFail → (s.flushClosed f).rd F.CELLAR_STAT_PF_STEP = 4) := by
  obtain ⟨p, hp⟩ : ∃ p : State, p = State.wr { s with log := s.flushLog } F.REC_STAT_FLUSHING (bit s.flushLog.flushing.isSome) := ⟨_, rfl⟩
  have hl : p.log = s.flushLog := by rw [hp]; rfl
  obtain ⟨q, hq⟩ : ∃ q : State, q = if f.cause = .sleepFail then p.wr F.CELLAR_STAT_PF_STEP 4 else p := ⟨_, rfl⟩
  have hql : q.log = p.log := by rw [hq]; split <;> rfl
  have he : s.flushClosed f = if f.cause = .service then (q.setF F.HEARTH_STAT_REMOVE_OK).unmountLog else q := by rw [hq, hp]; rfl
  rw [hl] at hql
  have hlog : (s.flushClosed f).log = { s.flushLog with flushing := (s.flushClosed f).log.flushing } := by
    rw [he]
    split
    · exact congrArg (fun l : LogSt => { l with flushing := none, pendFlush := none }) hql
    · rw [hql]
  rw [hlog]
  refine ⟨⟨rfl, rfl, rfl⟩, ⟨rfl, rfl⟩, rfl, rfl, fun hc hs => ?_, fun hc => ?_, fun hc => ?_⟩
  · dsimp only; rw [he, if_neg hc, hql, State.flushLog, hs]; rfl
  · dsimp only; rw [he, if_pos hc]
    refine ⟨rfl, ?_, ?_⟩
    · refine (State.rd_clrF_ne (s := (q.setF F.HEARTH_STAT_REMOVE_OK).clrF F.REC_STAT_MOUNTED) (f := F.REC_STAT_FLUSHING) (by decide)).trans ?_
      rw [State.rd_clrF_ne _ (by decide)]
      exact q.rd_setF_self F.HEARTH_STAT_REMOVE_OK
    · refine (State.rd_clrF_ne (s := (q.setF F.HEARTH_STAT_REMOVE_OK).clrF F.REC_STAT_MOUNTED) (f := F.REC_STAT_FLUSHING) (by decide)).trans ?_
      exact State.rd_clrF_self ..
  · have hns : f.cause ≠ .service := by rw [hc]; decide
    rw [he, if_neg hns, hq, if_pos hc]
    exact State.rd_wr_lt _ (by decide)

/-! ### The blocks of a flush -/

/-- A record that the flush of `start` writes (R412). -/
def mine (start : Nat) (r : Record) : Bool := r.dirty && decide (r.stamp < start)

/-- The records of severity `v` are written. -/
def writeLevel (c : FlushCause) (start : Nat) (s : State) (v : Nat) : State :=
  let l := s.log.buf.filter fun r => mine start r && r.sev == v
  State.writeStream v c (2 * l.length + 2) l s

theorem State.writeOut_eq (s : State) (c : FlushCause) (start : Nat) : s.writeOut c start =
    State.recStat { (List.range 8).foldl (writeLevel c start) s with log := { ((List.range 8).foldl (writeLevel c start) s).log with
      buf := ((List.range 8).foldl (writeLevel c start) s).log.buf.map fun r => if mine start r then { r with dirty := false } else r } } := by
  have hg : writeLevel c start = fun (s : State) v => State.writeStream v c
      (2 * (s.log.buf.filter fun r => (r.dirty && decide (r.stamp < start)) && r.sev == v).length + 2)
      (s.log.buf.filter fun r => (r.dirty && decide (r.stamp < start)) && r.sev == v) s := rfl
  unfold State.writeOut
  rw [hg]
  dsimp only
  generalize (List.range 8).foldl _ s = x
  rfl

theorem writeStream_nil {v n : Nat} {c : FlushCause} : State.writeStream v c n [] s = s := by cases n <;> rfl

theorem writeLevel_none {c : FlushCause} {start v : Nat} (h : (s.log.buf.filter fun r => mine start r && r.sev == v) = []) : writeLevel c start s v = s := by
  unfold writeLevel
  dsimp only
  rw [h]
  exact writeStream_nil

section
variable {c : FlushCause} {v start : Nat} {g : Segment} (ho : (s.stream v).opened = some g) (h1 : 160 + q.size ≤ 65536) (h2 : g.used + (160 + q.size) ≤ 1048576)
include ho h1 h2

/-- A single record that the open segment has room for makes one block. -/
theorem writeLevel_one (h : (s.log.buf.filter fun r => mine start r && r.sev == v) = [q]) : writeLevel c start s v = s.writeBlock v c [q] := by
  have hfree : s.segFree v = 1048576 - g.used := by unfold State.segFree; rw [ho]; rfl
  have hfit : takeFit [q] (min 65536 (s.segFree v) - 160) = ([q], []) := by
    have hroom : q.size ≤ min 65536 (s.segFree v) - 160 := by rw [hfree]; omega
    rw [takeFit, if_pos hroom]; rfl
  unfold writeLevel
  dsimp only
  rw [h]
  change State.writeStream v c 4 [q] s = _
  rw [State.writeStream]
  · dsimp only
    rw [hfit]
    exact writeStream_nil
  · exact fun e => List.cons_ne_nil _ _ e

/-- What the block of a single record leaves (R417, R418). -/
def BlockWritten (s : State) (v : Nat) (q : Record) (g : Segment) (s' : State) : Prop :=
  (∃ b : Block, s'.log.blocks = s.log.blocks ++ [b] ∧ b.sev = v ∧ b.records = [q] ∧ b.chainIndex = s.log.chainIndex ∧
    b.segment = g.num ∧ b.len % 4096 = 0 ∧ 160 + q.size ≤ b.len ∧ b.hashPrev = (s.stream v).hash ∧
    b.tag = keyedN 11 (s.log.chainKey.getD 0) 32 b.head ∧ (s'.stream v).hash = Config.sha256 (b.head ++ b.tag)) ∧
  (s'.log.buf = s.log.buf ∧ s'.log.ueSeqs = s.log.ueSeqs ∧ s'.log.chainIndex = s.log.chainIndex + 1 ∧
    s'.log.chainKey = s.log.chainKey.map (fun k => Config.sha256 (leBytes 32 k)) ∧ s'.log.pendFlush = s.log.pendFlush) ∧
  (∀ j, (s'.stream j).reserve = (s.stream j).reserve) ∧ s'.pwr = s.pwr ∧ s'.now = s.now

end

theorem State.stream_modStream (s : State) (v j : Nat) (f : LogStream → LogStream) : (s.modStream v f).stream j = if j = v then f (s.stream v) else s.stream j := by
  unfold State.stream State.modStream
  split
  · next e => subst e; exact congrArg (Option.getD · _) (Tbl.find?_insert_self ..)
  · next e => exact congrArg (Option.getD · _) (Tbl.find?_insert_ne _ _ (Ne.symm e))

/-- The tag of a block under the chain key (R418). -/
def Block.tagged (b : Block) (k : Nat) : Block := { b with tag := keyedN 11 k 32 b.head }

/-- The segment and the erased range that a block names. -/
def State.eraseEntry (s : State) : Nat × Nat × Nat :=
  match s.log.pendErase with
  | x :: _ => (x.num, x.first, x.last)
  | [] => (0xFFFFFFFF, 0, 0)

/-- The block of a single record of severity `v` in segment `g` (R417). -/
def State.blockOf (s : State) (v : Nat) (c : FlushCause) (q : Record) (g : Segment) : Block :=
  Block.tagged ⟨v, s.blockFlags c, s.log.chainIndex, (s.stream v).blocks, q.seq, 1, ceilDiv (160 + recsSize [q]) 4096 * 4096, g.num, s.eraseEntry.1,
    s.eraseEntry.2.1, s.eraseEntry.2.2, s.rd F.SYSCTL_MID_MID, (s.stream v).hash, [q], []⟩ (s.log.chainKey.getD 0)

/-- A stream after a block of its own. -/
def LogStream.written (x : LogStream) (b : Block) : LogStream :=
  { x with hash := Config.sha256 (b.head ++ b.tag), blocks := x.blocks + 1,
           opened := x.opened.map fun y => { y with last := b.chainIndex, used := y.used + b.len } }

/-- The recorder after a block. -/
def LogSt.written (l : LogSt) (b : Block) : LogSt :=
  { l with blocks := l.blocks ++ [b], chainIndex := l.chainIndex + 1, pendErase := l.pendErase.tail,
           chainKey := l.chainKey.map fun k => Config.sha256 (leBytes 32 k) }

theorem State.writeBlock_eq (s : State) {v : Nat} (c : FlushCause) (q : Record) {g : Segment} (ho : (s.stream v).opened = some g) :
    s.writeBlock v c [q] = { s.modStream v (fun x => x.written (s.blockOf v c q g)) with
      log := (s.modStream v fun x => x.written (s.blockOf v c q g)).log.written (s.blockOf v c q g) } := by
  unfold State.writeBlock
  rw [ho]
  rfl

theorem State.writeBlock_written (s : State) {v : Nat} (c : FlushCause) (q : Record) {g : Segment} (ho : (s.stream v).opened = some g) :
    BlockWritten s v q g (s.writeBlock v c [q]) := by
  have hw := s.writeBlock_eq c q ho
  obtain ⟨b, hb⟩ : ∃ b, b = s.blockOf v c q g := ⟨_, rfl⟩
  have hfields : (b.sev = v ∧ b.records = [q] ∧ b.chainIndex = s.log.chainIndex ∧ b.segment = g.num) ∧
      b.len = ceilDiv (160 + recsSize [q]) 4096 * 4096 ∧ b.hashPrev = (s.stream v).hash ∧ b.tag = keyedN 11 (s.log.chainKey.getD 0) 32 b.head := by
    rw [hb]; exact ⟨⟨rfl, rfl, rfl, rfl⟩, rfl, rfl, rfl⟩
  rw [← hb] at hw
  obtain ⟨⟨b1, b2, b3, b4⟩, b5, b6, b7⟩ := hfields
  have hst (j : Nat) : (s.writeBlock v c [q]).stream j = (s.modStream v fun x => x.written b).stream j := by rw [hw]; rfl
  have hsize : recsSize [q] = q.size := by rw [recsSize_cons]; rfl
  have hlen : b.len % 4096 = 0 ∧ 160 + q.size ≤ b.len := by
    rw [b5, hsize, ceilDiv, if_neg (by decide)]; omega
  refine ⟨⟨b, by rw [hw]; rfl, b1, b2, b3, b4, hlen.1, hlen.2, b6, b7, ?_⟩, by rw [hw]; exact ⟨rfl, rfl, rfl, rfl, rfl⟩, fun j => ?_, by rw [hw]; rfl, by rw [hw]; rfl⟩
  · rw [hst, State.stream_modStream, if_pos rfl]; rfl
  · rw [hst, State.stream_modStream]; split
    · next e => subst e; rfl
    · rfl

/-- The records that a flush has written are dirty no longer. -/
theorem State.writeOut_written {c : FlushCause} {start : Nat} {g : Segment} (hb : (s.log.buf.filter fun r => r.dirty) = [q]) (hst : q.stamp < start) (hv : q.sev < 8)
    (ho : (s.stream q.sev).opened = some g) (h1 : 160 + q.size ≤ 65536) (h2 : g.used + (160 + q.size) ≤ 1048576) :
    ∃ w, BlockWritten s q.sev q g w ∧ s.writeOut c start = State.recStat { w with log := { w.log with
      buf := s.log.buf.map fun r => if mine start r then { r with dirty := false } else r } } := by
  have hfilter (v : Nat) : (s.log.buf.filter fun r => mine start r && r.sev == v) = if q.sev = v then [q] else [] := by
    have : (s.log.buf.filter fun r => mine start r && r.sev == v) = (s.log.buf.filter fun r => r.dirty).filter fun r => decide (r.stamp < start) && r.sev == v := by
      rw [List.filter_filter]
      exact List.filter_congr fun x _ => by unfold mine; cases x.dirty <;> simp
    rw [this, hb]
    split
    · next e => exact List.filter_cons_of_pos (by simp [hst, e])
    · next e => exact List.filter_cons_of_neg (by simp [e])
  have hw := s.writeBlock_written c q ho
  have hbuf : (s.writeBlock q.sev c [q]).log.buf = s.log.buf := hw.2.1.1
  have hfold : (List.range 8).foldl (writeLevel c start) s = s.writeBlock q.sev c [q] := by
    refine foldl_visit (Pre := fun x => x = s) (Post := fun x => x = s.writeBlock q.sev c [q]) (i := q.sev) ?_ ?_ ?_ List.nodup_range (List.mem_range.2 hv) rfl
    · rintro _ j hj rfl
      exact writeLevel_none (by rw [hfilter, if_neg (Ne.symm hj)])
    · rintro _ j hj rfl
      exact writeLevel_none (by rw [hbuf, hfilter, if_neg (Ne.symm hj)])
    · rintro _ rfl
      exact writeLevel_one ho h1 h2 (by rw [hfilter, if_pos rfl])
  refine ⟨_, hw, ?_⟩
  rw [State.writeOut_eq, hfold, hbuf]

theorem State.flushBody_eq (s : State) (f : FlushReq) : s.flushBody f =
    if f.cause.checkpoint then State.checkpoint (State.summarise (if f.cause = .powerFail then s.discardUe.writeOut f.cause f.start
      else (s.discardUe.writeOut f.cause f.start).eraseAll))
    else State.summarise (if f.cause = .powerFail then s.discardUe.writeOut f.cause f.start else (s.discardUe.writeOut f.cause f.start).eraseAll) := rfl

/-- After the blocks are written, the rest of the flush's body leaves buffer, blocks, streams and chain. -/
theorem State.flushBody_kept {f : FlushReq} {x : State} (hx : s.discardUe.writeOut f.cause f.start = x) (hr : ∀ j, j < 8 → (x.stream j).reserve.isSome = true) :
    FlushKept x (s.flushBody f) := by
  rw [State.flushBody_eq, hx, x.eraseAll_reserved hr, ite_self]
  split
  · exact x.summarise_kept.trans (State.checkpoint_kept _)
  · exact x.summarise_kept

section
variable {f : FlushReq} {g : Segment} (hb : (s.log.buf.filter fun r => r.dirty) = [q]) (hst : q.stamp < f.start) (hv : q.sev < 8)
  (ho : (s.stream q.sev).opened = some g) (h1 : 160 + q.size ≤ 65536) (h2 : g.used + (160 + q.size) ≤ 1048576)
  (hue : s.log.ueSeqs = []) (hres : ∀ j, j < 8 → (s.stream j).reserve.isSome = true)
include hb hst hv ho h1 h2 hue hres

/-- A flush of a single dirty record: one block, and a buffer with nothing dirty. -/
theorem State.flushBody_single : ∃ w, BlockWritten s q.sev q g w ∧ (s.flushBody f).pwr = s.pwr ∧ (s.flushBody f).now = s.now ∧
    (s.flushBody f).log.buf = s.log.buf.map (fun r => if mine f.start r then { r with dirty := false } else r) ∧
    (s.flushBody f).log.blocks = w.log.blocks ∧ (s.flushBody f).log.streams = w.log.streams ∧
    (s.flushBody f).log.chainIndex = w.log.chainIndex ∧ (s.flushBody f).log.chainKey = w.log.chainKey ∧
    (s.flushBody f).log.pendFlush = w.log.pendFlush := by
  obtain ⟨w, hw, he⟩ := s.writeOut_written (c := f.cause) hb hst hv ho h1 h2
  obtain ⟨x, hx⟩ : ∃ x, x = s.discardUe.writeOut f.cause f.start := ⟨_, rfl⟩
  have hxl : x.log = { w.log with buf := s.log.buf.map fun r => if mine f.start r then { r with dirty := false } else r } ∧ x.pwr = w.pwr ∧ x.now = w.now := by
    rw [hx, State.discardUe_none hue, he]; exact ⟨rfl, rfl, rfl⟩
  obtain ⟨hxl, hxp, hxn⟩ := hxl
  have hw' := hw
  obtain ⟨-, -, hwr, hwp, hwn⟩ := hw'
  have hsx (j : Nat) : x.stream j = w.stream j := by unfold State.stream; rw [hxl]
  obtain ⟨⟨k1, k2, k3⟩, ⟨k4, k5, k6⟩, k7, k8⟩ := s.flushBody_kept hx.symm fun j hj => by rw [hsx, hwr]; exact hres j hj
  rw [hxl] at k1 k2 k3 k4 k5 k6
  exact ⟨w, hw, k7.trans (hxp.trans hwp), k8.trans (hxn.trans hwn), k1, k2, k3, k4, k5, k6⟩

theorem flushComplete_single (hf : s.log.flushing = some f) (ht : f.start ≤ t) (hr : s.rd F.REC_STAT_FLUSHING ≠ 0) : Ends (.flushComplete t) s fun s' =>
    (∃ b, s'.log.blocks = s.log.blocks ++ [b] ∧ b.sev = q.sev ∧ b.records = [q] ∧ b.chainIndex = s.log.chainIndex ∧
      b.segment = g.num ∧ b.len % 4096 = 0 ∧ 160 + q.size ≤ b.len ∧ b.hashPrev = (s.stream q.sev).hash ∧
      b.tag = keyedN 11 (s.log.chainKey.getD 0) 32 b.head ∧ (s'.stream q.sev).hash = Config.sha256 (b.head ++ b.tag)) ∧
    (∀ x, x ∈ s'.log.buf → x.dirty = false) ∧ s'.log.buf.length = s.log.buf.length ∧ s'.log.lastEnd = some t ∧
    s'.log.chainIndex = s.log.chainIndex + 1 ∧ s'.log.pendFlush = none ∧
    s'.log.chainKey = s.log.chainKey.map (fun k => Config.sha256 (leBytes 32 k)) ∧
    (f.cause ≠ .service → (∀ p, s.pwr.seq = some p → ∀ b, p.flushBy = some b → t + 1 < b) → s'.log.flushing = s.log.pendFlush.map fun c => ⟨c, t + 1⟩) ∧
    (f.cause = .service → s'.log.flushing = none ∧ s'.rd F.HEARTH_STAT_REMOVE_OK = 1 ∧ s'.rd F.REC_STAT_MOUNTED = 0) ∧
    (f.cause = .sleepFail → s'.rd F.CELLAR_STAT_PF_STEP = 4) := by
  refine ends_flushComplete hf ht hr ?_
  obtain ⟨w, hw, hp, hn, hbuf, hbl, hstr, hci, hck, hpf⟩ := State.flushBody_single (s := s.tick t) (f := f) hb hst hv ho h1 h2 hue hres
  obtain ⟨⟨b, w1, w2, w3, w4, w5, w6, w7, w8, w9, w10⟩, ⟨-, -, w11, w12, w13⟩, -⟩ := hw
  obtain ⟨⟨e1, e2, e3⟩, ⟨e4, e5⟩, e6, e7, e8, e9, e10⟩ := ((s.tick t).flushBody f).flushClosed_spec f
  have he : (s.tick t).flushEnd f = ((s.tick t).flushBody f).flushClosed f := rfl
  rw [he]
  have hstream : (((s.tick t).flushBody f).flushClosed f).stream q.sev = w.stream q.sev := by unfold State.stream; rw [e3, hstr]
  refine ⟨⟨b, (e2.trans hbl).trans w1, w2, w3, w4, w5, w6, w7, w8, w9, by rw [hstream]; exact w10⟩, fun x hx => ?_, ?_, by rw [e6, hn]; rfl, (e4.trans hci).trans w11, e7,
    (e5.trans hck).trans w12, fun hc may => ?_, e9, e10⟩
  · rw [e1, hbuf, List.mem_map] at hx
    obtain ⟨r, hr, rfl⟩ := hx
    split
    · rfl
    · next hm =>
      by_contra hd
      have hrd : r.dirty = true := Bool.eq_true_of_not_eq_false hd
      have hrq : r ∈ s.log.buf.filter fun r => r.dirty := List.mem_filter.2 ⟨hr, hrd⟩
      rw [hb, List.mem_singleton] at hrq
      exact hm (by rw [hrq] at hrd ⊢; simp [mine, hrd, hst])
  · rw [e1, hbuf, List.length_map]; rfl
  · rw [e8 hc (State.flushShut_tick may hp hn), hpf, w13, hn]; rfl

end

/-- Settles O59: each port gives one record, displacement follows severity, a flush writes the dirty records in one block of their
stream and moves the chain on, READ delivers whole records. -/
theorem recorderCommitsAndFlushes : Obligations.RecorderCommitsAndFlushes := by
  intro s t c sev kind lenW n m a r q rest l f g hc hsev
  dsimp only
  refine ⟨recordCommit_ports s t, fun ho => recordCommit_enters hc ho, fun ho hb hq hqs h7 hr8 hl => recordCommit_displaces hc ho hb hq hqs h7 hr8 hl,
    fun ho => recordCommit_drops hc ho, fun hp => ⟨fun h1 h2 => ?_, fun h1 => recCommit_denied hp h1⟩,
    fun hu => ⟨fun hl ht hm hn may => flushWindowTimer_starts hu hl ht hm hn may, fun hl ht => flushWindowTimer_early hl ht⟩, flushWindowTimer_never,
    fun hcmd => ⟨fun hm hn may => recFlush_starts hcmd hm hn may, fun hm may hf ht hn => recFlush_pends hcmd hm may hf ht hn, fun hm => recFlush_unmounted hcmd (not_not.1 hm),
      fun hr => recRead_delivers hcmd hr, fun hr => recRead_denied hcmd hr⟩,
    fun hf => ⟨flushStart_starts hf, fun ht => ⟨flushStart_early hf ht, flushComplete_early hf ht⟩, fun ht hr hue hres hb hst hv ho h1 h2 =>
      flushComplete_single hb hst hv ho h1 h2 hue hres hf ht hr⟩, segmentErase_ends hsev, segmentErase_early hsev⟩
  have := recCommit_written (n := n) (kind := kind) (lenW := lenW) hp h1 (by rw [recWords_eq]; exact h2)
  rw [recWords_eq] at this
  exact this

end Sys2Proof.Machine
end

section
/-! PROOFS. The cartridge and the margin planner: O58 -/

namespace Sys2Proof.Machine


variable {s s' s'' : State} {t n : Nat} {a : Attr}

/-! ### Records of the planner -/

theorem mem_portInsert {r q : Record} {l : List Record} : q ∈ portInsert r l ↔ q = r ∨ q ∈ l := by
  induction l with
  | nil => simp [portInsert]
  | cons x l ih =>
    rw [portInsert]
    split
    · simp
    · rw [List.mem_cons, ih, List.mem_cons]; tauto

/-- A record of a kind, severity and subject waits at the planner's port. -/
def Noted (s : State) (kind sev subj : Nat) : Prop := ∃ q, q ∈ s.port 0x10 ∧ q.kind = kind ∧ q.sev = sev ∧ q.subj = subj

theorem State.port_toPort (s : State) (r : Record) : (s.toPort r).port r.cls = portInsert r (s.port r.cls) := Tbl.getD_put_self ..

theorem State.port_marginRecord (s : State) (kind sev subj : Nat) :
    ∃ r : Record, (r.kind = kind ∧ r.sev = sev ∧ r.subj = subj % 65536) ∧ (s.marginRecord kind sev subj).port 0x10 = portInsert r (s.port 0x10) :=
  ⟨_, ⟨rfl, rfl, rfl⟩, s.port_toPort _⟩

theorem State.marginRecord_noted (s : State) {kind sev subj : Nat} (h : subj < 65536) : Noted (s.marginRecord kind sev subj) kind sev subj := by
  obtain ⟨r, ⟨h1, h2, h3⟩, hp⟩ := s.port_marginRecord kind sev subj
  exact ⟨r, by rw [hp]; exact mem_portInsert.2 (Or.inl rfl), h1, h2, h3.trans (Nat.mod_eq_of_lt h)⟩

theorem State.mem_port_marginRecord (s : State) (kind sev subj : Nat) {q : Record} (h : q ∈ s.port 0x10) : q ∈ (s.marginRecord kind sev subj).port 0x10 := by
  obtain ⟨r, -, hp⟩ := s.port_marginRecord kind sev subj
  rw [hp]; exact mem_portInsert.2 (Or.inr h)

/-! ### A step of the margin measurement -/

/-- A step of a measurement: records at the planner's port stay, the bits of `seen` in `K` and the fields `fs` may change, and the two
latches stay set. -/
def MarginStep (K : Nat → Prop) (fs : List Fld) (s s' : State) : Prop :=
  (∀ q, q ∈ s.port 0x10 → q ∈ s'.port 0x10) ∧ (∀ k, ¬ K k → s'.hearth.seen.testBit k = s.hearth.seen.testBit k) ∧
  (s'.hearth.peak = s.hearth.peak ∧ s'.pwr = s.pwr) ∧ RegsBut (F.MARGIN_LANE_LOW :: F.MARGIN_STUD_HIGH :: fs) s s' ∧
  (s.rd F.MARGIN_LANE_LOW = 1 → s'.rd F.MARGIN_LANE_LOW = 1) ∧ (s.rd F.MARGIN_STUD_HIGH = 1 → s'.rd F.MARGIN_STUD_HIGH = 1)

namespace MarginStep

variable {K K' : Nat → Prop} {fs : List Fld} {f : Fld}

theorem refl (K : Nat → Prop) (fs : List Fld) (s : State) : MarginStep K fs s s :=
  ⟨fun _ h => h, fun _ _ => rfl, ⟨rfl, rfl⟩, RegsBut.refl _ s, fun h => h, fun h => h⟩

theorem trans (h : MarginStep K fs s s') (h' : MarginStep K fs s' s'') : MarginStep K fs s s'' := by
  obtain ⟨h1, h2, ⟨h3, h4⟩, h5, h6, h7⟩ := h
  obtain ⟨k1, k2, ⟨k3, k4⟩, k5, k6, k7⟩ := h'
  exact ⟨fun q hq => k1 q (h1 q hq), fun k hk => (k2 k hk).trans (h2 k hk), ⟨k3.trans h3, k4.trans h4⟩, fun g hg => (k5 g hg).trans (h5 g hg), fun e => k6 (h6 e), fun e => k7 (h7 e)⟩

theorem mono (h : MarginStep K fs s s') (hk : ∀ k, K k → K' k) {gs : List Fld} (hf : ∀ f ∈ fs, f ∈ gs) : MarginStep K' gs s s' := by
  obtain ⟨h1, h2, h3, h5, h6⟩ := h
  refine ⟨h1, fun k hk' => h2 k fun e => hk' (hk k e), h3, fun g hg => h5 g fun e => hg ?_, h6⟩
  obtain ⟨x, hx, hxk⟩ := List.mem_map.1 e
  refine List.mem_map.2 ⟨x, ?_, hxk⟩
  rcases List.mem_cons.1 hx with rfl | hx
  · exact List.mem_cons_self
  · rcases List.mem_cons.1 hx with rfl | hx
    · exact List.mem_cons_of_mem _ List.mem_cons_self
    · exact List.mem_cons_of_mem _ (List.mem_cons_of_mem _ (hf x hx))

theorem wr (s : State) (v : Nat) (hf : f ∈ fs) (h1 : f.key ≠ F.MARGIN_LANE_LOW.key) (h2 : f.key ≠ F.MARGIN_STUD_HIGH.key) : MarginStep K fs s (s.wr f v) :=
  ⟨fun _ h => h, fun _ _ => rfl, ⟨rfl, rfl⟩, (RegsBut.refl _ s).wr v (List.mem_map.2 ⟨f, List.mem_cons_of_mem _ (List.mem_cons_of_mem _ hf), rfl⟩),
    fun h => (s.rd_wr_ne v h1).trans h, fun h => (s.rd_wr_ne v h2).trans h⟩

theorem foldl {α : Type} {g : State → α → State} (l : List α) (h : ∀ x, ∀ y ∈ l, MarginStep K fs x (g x y)) (s : State) : MarginStep K fs s (l.foldl g s) := by
  induction l generalizing s with
  | nil => exact refl K fs s
  | cons y l ih => exact (h s y List.mem_cons_self).trans (ih (fun x z hz => h x z (List.mem_cons_of_mem _ hz)) _)

/-- What was noted stays noted. -/
theorem noted (h : MarginStep K fs s s') {kind sev subj : Nat} (hn : Noted s kind sev subj) : Noted s' kind sev subj := by
  obtain ⟨q, hq, hr⟩ := hn
  exact ⟨q, h.1 q hq, hr⟩

theorem rd (h : MarginStep K fs s s') {g : Fld} (hl : F.MARGIN_LANE_LOW.key ≠ g.key) (hh : F.MARGIN_STUD_HIGH.key ≠ g.key) (hg : ∀ f ∈ fs, f.key ≠ g.key) :
    s'.rd g = s.rd g :=
  h.2.2.2.1.rd fun f hf => by
    rcases List.mem_cons.1 hf with rfl | hf
    · exact hl
    · rcases List.mem_cons.1 hf with rfl | hf
      · exact hh
      · exact hg f hf

end MarginStep

/-- The ageing registers lie above the planner's. -/
theorem ne_age {f : Fld} (n : Nat) (h : f.key < 0x802000000) : f.key ≠ (F.CH_AGE_AGE_VALID n).key ∧ f.key ≠ (F.CH_AGE_DRIFT n).key := by
  constructor <;> refine Nat.ne_of_lt (Nat.lt_of_lt_of_le h ?_) <;> simp only [Fld.key, F.CH_AGE_AGE_VALID, F.CH_AGE_DRIFT] <;> omega

theorem RegsBut.age {fs : List Fld} (h : RegsBut fs s s') (hf : ∀ f ∈ fs, f.key < 0x802000000) (n : Nat) :
    s'.rd (F.CH_AGE_AGE_VALID n) = s.rd (F.CH_AGE_AGE_VALID n) ∧ s'.rd (F.CH_AGE_DRIFT n) = s.rd (F.CH_AGE_DRIFT n) :=
  ⟨h.rd fun f hx => (ne_age n (hf f hx)).1, h.rd fun f hx => (ne_age n (hf f hx)).2⟩

theorem MarginStep.age {K : Nat → Prop} {fs : List Fld} (h : MarginStep K fs s s') (hf : ∀ f ∈ fs, f.key < 0x802000000) (n : Nat) :
    s'.rd (F.CH_AGE_AGE_VALID n) = s.rd (F.CH_AGE_AGE_VALID n) ∧ s'.rd (F.CH_AGE_DRIFT n) = s.rd (F.CH_AGE_DRIFT n) :=
  h.2.2.2.1.age (List.forall_mem_cons.2 ⟨by decide, List.forall_mem_cons.2 ⟨by decide, hf⟩⟩) n

/-- The latch that a report sets with its record, if it has one. -/
def reportEff (o : Option Fld) (s : State) : State := match o with | none => s | some f => s.raise f

/-- What a latch may be. -/
def MarginLatch (o : Option Fld) : Prop := o = none ∨ o = some F.MARGIN_LANE_LOW ∨ o = some F.MARGIN_STUD_HIGH

theorem reportEff_step {o : Option Fld} (h : MarginLatch o) (K : Nat → Prop) (fs : List Fld) (s : State) : MarginStep K fs s (reportEff o s) ∧
    ∀ f, o = some f → (reportEff o s).rd f = 1 := by
  rcases h with rfl | rfl | rfl
  · exact ⟨MarginStep.refl K fs s, fun _ h => nomatch h⟩
  · refine ⟨⟨fun _ h => h, fun _ _ => rfl, ⟨rfl, rfl⟩, (RegsBut.refl _ s).raise (by simp), fun _ => s.rd_raise_bit rfl, fun h => (s.rd_raise_ne (by decide)).trans h⟩, ?_⟩
    rintro f ⟨⟩; exact s.rd_raise_bit rfl
  · refine ⟨⟨fun _ h => h, fun _ _ => rfl, ⟨rfl, rfl⟩, (RegsBut.refl _ s).raise (by simp), fun h => (s.rd_raise_ne (by decide)).trans h, fun _ => s.rd_raise_bit rfl⟩, ?_⟩
    rintro f ⟨⟩; exact s.rd_raise_bit rfl

theorem State.marginRecord_step (s : State) (K : Nat → Prop) (fs : List Fld) (kind sev subj : Nat) : MarginStep K fs s (s.marginRecord kind sev subj) :=
  ⟨fun _ h => s.mem_port_marginRecord kind sev subj h, fun _ _ => rfl, ⟨rfl, rfl⟩, RegsBut.refl _ s, fun h => h, fun h => h⟩

/-- A report is written as its condition begins, and touches its own bit of `seen` alone. -/
theorem State.marginReport_spec (s : State) (k : Nat) (on : Bool) (kind sev subj : Nat) {eff : State → State} {o : Option Fld}
    (he : eff = reportEff o) (ho : MarginLatch o) (fs : List Fld) : MarginStep (· = k) fs s (s.marginReport k on kind sev subj eff) ∧
    (on = true → s.hearth.seen.testBit k ≠ true → subj < 65536 → Noted (s.marginReport k on kind sev subj eff) kind sev subj ∧
      ∀ f, o = some f → (s.marginReport k on kind sev subj eff).rd f = 1) := by
  subst he
  obtain ⟨m, hm⟩ : ∃ m, m = s.modHearth fun h => { h with seen := if on then maskSet h.seen k else maskClr h.seen k } := ⟨_, rfl⟩
  have h0 : MarginStep (· = k) fs s m := by
    rw [hm]
    refine ⟨fun _ h => h, fun j hj => ?_, ⟨rfl, rfl⟩, RegsBut.refl _ s, fun h => h, fun h => h⟩
    change (if on = true then maskSet s.hearth.seen k else maskClr s.hearth.seen k).testBit j = _
    split
    · exact maskSet_other hj
    · rw [testBit_maskClr]; simp [show j ≠ k from hj]
  have hdef : s.marginReport k on kind sev subj (reportEff o) = if on = true ∧ (!s.hearth.seen.testBit k) = true then (reportEff o m).marginRecord kind sev subj else m := by
    rw [hm]; rfl
  obtain ⟨h1, h2⟩ := reportEff_step ho (· = k) fs m
  rw [hdef]
  split
  · next hc =>
    exact ⟨h0.trans (h1.trans (State.marginRecord_step ..)), fun _ _ hs => ⟨State.marginRecord_noted _ hs, h2⟩⟩
  · next hc =>
    refine ⟨h0, fun hon hn _ => absurd ⟨hon, ?_⟩ hc⟩
    simpa using hn

theorem State.laneMargin_spec (s : State) {l : Nat} (hl : l < 3) {f : Fld} (d : Nat) (fs : List Fld) (hf : f ∈ fs) (hw : f.width = 10)
    (h1 : f.key ≠ F.MARGIN_LANE_LOW.key) (h2 : f.key ≠ F.MARGIN_STUD_HIGH.key) : MarginStep (· = 1 + l) fs s (s.laneMargin l f d) ∧
    (s.laneMargin l f d).rd f = min (1667 - d) 1023 ∧
    (1567 < d → s.hearth.seen.testBit (1 + l) ≠ true → Noted (s.laneMargin l f d) 4 5 l ∧ (s.laneMargin l f d).rd F.MARGIN_LANE_LOW = 1) := by
  have he : (fun s : State => s.raise F.MARGIN_LANE_LOW) = reportEff (some F.MARGIN_LANE_LOW) := rfl
  obtain ⟨hst, hn⟩ := (s.wr f (min (1667 - d) 1023)).marginReport_spec (1 + l) (decide (1667 < d + 100)) 4 5 l he (Or.inr (Or.inl rfl)) []
  refine ⟨(MarginStep.wr s _ hf h1 h2).trans (hst.mono (fun _ h => h) (fun _ h => nomatch h)), ?_, fun hd hs => ?_⟩
  · exact (hst.rd (Ne.symm h1) (Ne.symm h2) (fun _ h => nomatch h)).trans (s.rd_wr_lt (by rw [hw]; omega))
  · obtain ⟨k1, k2⟩ := hn (decide_eq_true (by omega)) hs (by omega)
    exact ⟨k1, k2 _ rfl⟩

theorem State.studMargin_step (s : State) (i : Nat) {f : Fld} (r : Option Nat) (fs : List Fld) (hf : f ∈ fs)
    (h1 : f.key ≠ F.MARGIN_LANE_LOW.key) (h2 : f.key ≠ F.MARGIN_STUD_HIGH.key) : MarginStep (fun k => k = 4 + i ∨ k = 6 + i) fs s (s.studMargin i f r) := by
  cases r with
  | none => exact MarginStep.refl _ _ s
  | some r =>
    have he : (fun s : State => s.raise F.MARGIN_STUD_HIGH) = reportEff (some F.MARGIN_STUD_HIGH) := rfl
    obtain ⟨a1, -⟩ := (s.wr f (min r 32767)).marginReport_spec (4 + i) (decide (300 < r)) 6 4 (i + 1) (eff := id) (o := none) rfl (Or.inl rfl) fs
    obtain ⟨b1, -⟩ := ((s.wr f (min r 32767)).marginReport (4 + i) (decide (300 < r)) 6 4 (i + 1) id).marginReport_spec (6 + i) (decide (1000 ≤ r)) 6 5 (i + 1) he
      (Or.inr (Or.inr rfl)) fs
    exact (MarginStep.wr s _ hf h1 h2).trans ((a1.mono (fun _ h => Or.inl h) fun _ h => h).trans (b1.mono (fun _ h => Or.inr h) fun _ h => h))

/-- The reports of the first stud. -/
theorem State.studMargin_first (s : State) (r : Nat) : (s.studMargin 0 F.MARGIN_STUD_R_STUD1 (some r)).rd F.MARGIN_STUD_R_STUD1 = min r 32767 ∧
    (300 < r → s.hearth.seen.testBit 4 ≠ true → Noted (s.studMargin 0 F.MARGIN_STUD_R_STUD1 (some r)) 6 4 1) ∧
    (1000 ≤ r → s.hearth.seen.testBit 6 ≠ true → Noted (s.studMargin 0 F.MARGIN_STUD_R_STUD1 (some r)) 6 5 1 ∧
      (s.studMargin 0 F.MARGIN_STUD_R_STUD1 (some r)).rd F.MARGIN_STUD_HIGH = 1) := by
  have he : (fun s : State => s.raise F.MARGIN_STUD_HIGH) = reportEff (some F.MARGIN_STUD_HIGH) := rfl
  obtain ⟨m, hm⟩ : ∃ m, m = (s.wr F.MARGIN_STUD_R_STUD1 (min r 32767)).marginReport 4 (decide (300 < r)) 6 4 1 id := ⟨_, rfl⟩
  obtain ⟨a1, a2⟩ := (s.wr F.MARGIN_STUD_R_STUD1 (min r 32767)).marginReport_spec 4 (decide (300 < r)) 6 4 1 (eff := id) (o := none) rfl (Or.inl rfl) []
  obtain ⟨b1, b2⟩ := m.marginReport_spec 6 (decide (1000 ≤ r)) 6 5 1 he (Or.inr (Or.inr rfl)) []
  rw [← hm] at a1 a2
  have hdef : s.studMargin 0 F.MARGIN_STUD_R_STUD1 (some r) = m.marginReport 6 (decide (1000 ≤ r)) 6 5 1 fun s => s.raise F.MARGIN_STUD_HIGH := by rw [hm]; rfl
  rw [hdef]
  refine ⟨?_, fun hr hs => b1.noted (a2 (decide_eq_true hr) hs (by decide)).1, fun hr hs => ?_⟩
  · rw [b1.rd (by decide) (by decide) (fun _ h => nomatch h), a1.rd (by decide) (by decide) (fun _ h => nomatch h)]
    exact s.rd_wr_lt (by change _ < 2 ^ 15; omega)
  · have hs' : m.hearth.seen.testBit 6 ≠ true := by rw [a1.2.1 6 (by decide)]; exact hs
    obtain ⟨k1, k2⟩ := b2 (decide_eq_true hr) hs' (by decide)
    exact ⟨k1, k2 _ rfl⟩

theorem State.driftMargin_spec (s : State) (n : Nat) : MarginStep (· = 8 + n) [] s (s.driftMargin n) ∧
    (s.rd (F.CH_AGE_AGE_VALID n) ≠ 0 → s.rd (F.CH_AGE_DRIFT n) = 127 → s.hearth.seen.testBit (8 + n) ≠ true → n < 48 → Noted (s.driftMargin n) 5 5 n) := by
  obtain ⟨h1, h2⟩ := s.marginReport_spec (8 + n) (s.flag (F.CH_AGE_AGE_VALID n) && s.rd (F.CH_AGE_DRIFT n) == 127) 5 5 n (eff := id) (o := none) rfl (Or.inl rfl) []
  refine ⟨h1, fun hv hd hs hn => (h2 ?_ hs (by omega)).1⟩
  rw [State.flag_eq_true.2 hv, hd]; rfl

/-- The drifts of the 48 channels: one that reaches 127 is reported. -/
theorem State.drifts_spec (s : State) : MarginStep (8 ≤ ·) [] s ((List.range 48).foldl State.driftMargin s) ∧
    ∀ n, n < 48 → s.rd (F.CH_AGE_AGE_VALID n) ≠ 0 → s.rd (F.CH_AGE_DRIFT n) = 127 → s.hearth.seen.testBit (8 + n) ≠ true →
      Noted ((List.range 48).foldl State.driftMargin s) 5 5 n := by
  refine ⟨MarginStep.foldl _ (fun x y _ => (x.driftMargin_spec y).1.mono (fun k hk => by omega) fun _ h => h) s, fun n hn hv hd hs => ?_⟩
  refine foldl_visit (Pre := fun x => MarginStep (· ≠ 8 + n) [] s x) (Post := fun x => Noted x 5 5 n) (g := State.driftMargin) (i := n) (fun x j hj hx => ?_) (fun x j _ hx => ?_)
    (fun x hx => ?_) List.nodup_range (List.mem_range.2 hn) (MarginStep.refl _ _ s)
  · exact hx.trans ((x.driftMargin_spec j).1.mono (fun k hk => by omega) fun _ h => h)
  · exact (x.driftMargin_spec j).1.noted hx
  · refine (x.driftMargin_spec n).2 ?_ ?_ ?_ hn
    · rw [(hx.age (by decide) n).1]; exact hv
    · rw [(hx.age (by decide) n).2]; exact hd
    · rw [hx.2.1 _ (by simp)]; exact hs

/-! ### The plan in force -/

/-- The grace that a plan settles on. -/
def State.settledGrace (s : State) (ready : Bool) : Nat := if ready then s.hearth.want.1 else min s.hearth.want.1 (s.rd F.MARGIN_PLAN_GRACE_MS)

/-- The dirty limit that a plan settles on. -/
def State.settledDirty (s : State) (ready : Bool) : Nat := if ready then s.hearth.want.2 else min s.hearth.want.2 (s.rd F.MARGIN_PLAN_DIRTY_KB)

theorem State.settlePlan_spec (s : State) (b : Bool) :
    RegsBut [F.MARGIN_PLAN_GRACE_MS, F.MARGIN_PLAN_DIRTY_KB, F.PWRMGR_PF_CFG_GRACE_MS] s (s.settlePlan b) ∧
    ((s.settlePlan b).hearth = s.hearth ∧ (s.settlePlan b).pwr = s.pwr ∧
      ∃ x y, (s.settlePlan b).log = { s.log with flushing := x, pendFlush := y }) ∧
    ((s.settlePlan b).rd F.MARGIN_PLAN_GRACE_MS = s.settledGrace b % 2 ^ 13 ∧ (s.settlePlan b).rd F.MARGIN_PLAN_DIRTY_KB = s.settledDirty b % 2 ^ 10 ∧
      (s.settlePlan b).rd F.PWRMGR_PF_CFG_GRACE_MS =
        if (s.settlePlan b).rd F.PWRMGR_STAT_HOLDUP_READY = 0 then 0 else (s.settlePlan b).rd F.MARGIN_PLAN_GRACE_MS) ∧
    (s.rd F.REC_STAT_MOUNTED = 0 → (s.settlePlan b).log = s.log) := by
  obtain ⟨m, hm⟩ : ∃ m, m = (s.wr F.MARGIN_PLAN_GRACE_MS (s.settledGrace b)).wr F.MARGIN_PLAN_DIRTY_KB (s.settledDirty b) := ⟨_, rfl⟩
  have hmk : m.hearth = s.hearth ∧ m.pwr = s.pwr ∧ m.log = s.log := by rw [hm]; exact ⟨rfl, rfl, rfl⟩
  have hmr : RegsBut [F.MARGIN_PLAN_GRACE_MS, F.MARGIN_PLAN_DIRTY_KB, F.PWRMGR_PF_CFG_GRACE_MS] s m := by
    rw [hm]; exact ((RegsBut.refl _ s).wr _ (by simp)).wr _ (by simp)
  have hmg : m.rd F.MARGIN_PLAN_GRACE_MS = s.settledGrace b % 2 ^ 13 := by
    rw [hm, State.rd_wr_ne _ _ (by decide)]; exact s.rd_wr_self ..
  have hmd : m.rd F.MARGIN_PLAN_DIRTY_KB = s.settledDirty b % 2 ^ 10 := by rw [hm]; exact State.rd_wr_self ..
  obtain ⟨p, hp⟩ : ∃ p, p = m.graceInForce := ⟨_, rfl⟩
  have hpf : p.rd F.PWRMGR_PF_CFG_GRACE_MS = if m.rd F.PWRMGR_STAT_HOLDUP_READY = 0 then 0 else m.rd F.MARGIN_PLAN_GRACE_MS := by
    rw [hp, State.graceInForce]
    by_cases h : m.rd F.PWRMGR_STAT_HOLDUP_READY = 0
    · rw [if_pos h, State.flag_eq_false.2 h]; exact m.rd_wr_lt (v := 0) (by decide)
    · rw [if_neg h, State.flag_eq_true.2 h]; exact m.rd_wr_lt (by rw [if_pos rfl, hmg]; exact Nat.mod_lt _ (by decide))
  have hpne {f : Fld} (h : F.PWRMGR_PF_CFG_GRACE_MS.key ≠ f.key) : p.rd f = m.rd f := by rw [hp]; exact m.rd_wr_ne _ h
  have hpk : p.hearth = m.hearth ∧ p.pwr = m.pwr ∧ p.log = m.log := by rw [hp]; exact ⟨rfl, rfl, rfl⟩
  have hdef : s.settlePlan b = if p.dirtyLimit ≤ p.dirtyBytes then p.triggerFlush .dirtyLimit else p := by rw [hp, hm]; rfl
  have hend : ∃ x y, s.settlePlan b = { p with log := { p.log with flushing := x, pendFlush := y } } := by
    rw [hdef]; split
    · exact p.triggerFlush_eq _
    · exact ⟨p.log.flushing, p.log.pendFlush, rfl⟩
  have hun : s.rd F.REC_STAT_MOUNTED = 0 → (s.settlePlan b).log = s.log := fun h => by
    have h' : p.rd F.REC_STAT_MOUNTED = 0 := by rw [hpne (by decide)]; exact (hmr.rd (by decide)).trans h
    have hpl : p.log = s.log := hpk.2.2.trans hmk.2.2
    rw [hdef, State.triggerFlush_unmounted _ h', ite_self, hpl]
  obtain ⟨x, y, hx⟩ := hend
  have hrd (f : Fld) : (s.settlePlan b).rd f = p.rd f := by rw [hx]; rfl
  refine ⟨fun f hf => ?_, ⟨by rw [hx]; exact hpk.1.trans hmk.1, by rw [hx]; exact hpk.2.1.trans hmk.2.1, x, y, ?_⟩, ⟨?_, ?_, ?_⟩, hun⟩
  · rw [hrd, hpne fun e => hf (by simp [e]), hmr f hf]
  · rw [hx]; dsimp only; rw [hpk.2.2, hmk.2.2]
  · rw [hrd, hpne (by decide)]; exact hmg
  · rw [hrd, hpne (by decide)]; exact hmd
  · rw [hrd, hrd, hrd, hpne (f := F.PWRMGR_STAT_HOLDUP_READY) (by decide), hpne (f := F.MARGIN_PLAN_GRACE_MS) (by decide)]; exact hpf

theorem State.settlePlan_step (s : State) (b : Bool) (K : Nat → Prop) :
    MarginStep K [F.MARGIN_PLAN_GRACE_MS, F.MARGIN_PLAN_DIRTY_KB, F.PWRMGR_PF_CFG_GRACE_MS] s (s.settlePlan b) := by
  obtain ⟨hr, ⟨hh, hp, x, y, hl⟩, -⟩ := s.settlePlan_spec b
  refine ⟨fun q hq => ?_, fun k _ => by rw [hh], ⟨by rw [hh], hp⟩, fun f hf => hr f fun e => hf (List.mem_cons_of_mem _ (List.mem_cons_of_mem _ e)),
    fun h => (hr.rd (by decide)).trans h, fun h => (hr.rd (by decide)).trans h⟩
  unfold State.port; rw [hl]; exact hq

/-! ### The frequency limit -/

/-- A delay lets the hub run at `f` times 100 MHz (R397). -/
def FitsFreq (d f : Nat) : Prop := (d + 40) * (100 * f) ≤ 1000000

theorem freqFor_isNone (d : Nat) : (freqFor d).isNone = true ↔ ¬ FitsFreq d 12 := by
  unfold freqFor FitsFreq
  rw [Option.isNone_iff_eq_none, List.find?_eq_none]
  simp only [List.mem_cons, List.not_mem_nil, or_false, decide_eq_true_eq, forall_eq_or_imp, forall_eq]
  omega

theorem FitsFreq.mono {d f g : Nat} (h : FitsFreq d g) (hf : f ≤ g) : FitsFreq d f :=
  le_trans (Nat.mul_le_mul_left _ (Nat.mul_le_mul_left 100 hf)) h

/-- The frequency is the highest that fits (R397). -/
theorem freqFor_getD {d f : Nat} (h1 : 12 ≤ f) (h2 : f ≤ 16) (hf : FitsFreq d f ∨ f = 12) (hn : f = 16 ∨ ¬ FitsFreq d (f + 1)) : (freqFor d).getD 12 = f := by
  have hup {g : Nat} (hg : f < g) (h16 : g ≤ 16) : ¬ FitsFreq d g := fun h => by
    rcases hn with rfl | hn
    · omega
    · exact hn (h.mono hg)
  rcases Classical.em (FitsFreq d f) with hfit | hfit
  · have key (l l' : List Nat) (hl : ∀ g ∈ l, f < g ∧ g ≤ 16) : ((l ++ f :: l').find? fun f => decide ((d + 40) * (100 * f) ≤ 1000000)).getD 12 = f := by
      rw [List.find?_append, List.find?_eq_none.2 fun g hg => by rw [decide_eq_true_eq]; exact hup (hl g hg).1 (hl g hg).2, Option.none_or,
        List.find?_cons_of_pos (p := fun f => decide ((d + 40) * (100 * f) ≤ 1000000)) (decide_eq_true (show (d + 40) * (100 * f) ≤ 1000000 from hfit))]
      rfl
    unfold freqFor
    interval_cases f
    · exact key [16, 15, 14, 13] [] (by decide)
    · exact key [16, 15, 14] [12] (by decide)
    · exact key [16, 15] [13, 12] (by decide)
    · exact key [16] [14, 13, 12] (by decide)
    · exact key [] [15, 14, 13, 12] (by decide)
  · obtain rfl := hf.resolve_left hfit
    rw [Option.isNone_iff_eq_none.1 ((freqFor_isNone d).2 hfit)]; rfl

theorem State.setFreq_spec (s : State) (f : Nat) : RegsBut [F.MARGIN_PLAN_F_APP] s (s.setFreq f) ∧
    (s.setFreq f).hearth = { s.hearth with fWant := f } ∧ (s.setFreq f).pwr = s.pwr ∧ (s.setFreq f).log = s.log ∧
    (f < 512 → (s.setFreq f).rd F.MARGIN_PLAN_F_APP = if f < s.rd F.MARGIN_PLAN_F_APP ∨ s.pwr.state = .startup then f else s.rd F.MARGIN_PLAN_F_APP) := by
  have hdef : s.setFreq f = if f < s.rd F.MARGIN_PLAN_F_APP ∨ s.pwr.state = .startup then (s.modHearth fun h => { h with fWant := f }).wr F.MARGIN_PLAN_F_APP f
      else s.modHearth fun h => { h with fWant := f } := rfl
  rw [hdef]
  split
  · exact ⟨(RegsBut.refl _ s).wr f (by simp), rfl, rfl, rfl, fun h => State.rd_wr_lt _ h⟩
  · exact ⟨RegsBut.refl _ s, rfl, rfl, rfl, fun _ => rfl⟩

/-! ### The margin measurement -/

/-- The electronics' power and the hub's delay are taken, and the frequency limit with them. -/
def State.measured (s : State) (dHub pNow : Nat) : State :=
  ((((s.wr F.MARGIN_PWR_P_NOW (min pNow 65535)).modHearth fun h => { h with peak := max h.peak pNow }).wr F.MARGIN_DELAY_D_HUB (min dHub 65535))).setFreq
    ((freqFor dHub).getD 12)

theorem State.measured_spec (s : State) (dHub pNow : Nat) {f : Nat} (hf : (freqFor dHub).getD 12 = f) (h16 : f ≤ 16) :
    RegsBut [F.MARGIN_PWR_P_NOW, F.MARGIN_DELAY_D_HUB, F.MARGIN_PLAN_F_APP] s (s.measured dHub pNow) ∧
    ((s.measured dHub pNow).hearth.seen = s.hearth.seen ∧ (s.measured dHub pNow).hearth.peak = max s.hearth.peak pNow) ∧
    ((s.measured dHub pNow).rd F.MARGIN_PWR_P_NOW = min pNow 65535 ∧ (s.measured dHub pNow).rd F.MARGIN_DELAY_D_HUB = min dHub 65535 ∧
      (s.measured dHub pNow).rd F.MARGIN_PLAN_F_APP = if f < s.rd F.MARGIN_PLAN_F_APP ∨ s.pwr.state = .startup then f else s.rd F.MARGIN_PLAN_F_APP) := by
  obtain ⟨m, hm⟩ : ∃ m, m = (((s.wr F.MARGIN_PWR_P_NOW (min pNow 65535)).modHearth fun h => { h with peak := max h.peak pNow }).wr F.MARGIN_DELAY_D_HUB (min dHub 65535)) := ⟨_, rfl⟩
  have hmk : m.hearth = { s.hearth with peak := max s.hearth.peak pNow } ∧ m.pwr = s.pwr := by rw [hm]; exact ⟨rfl, rfl⟩
  have hmr : RegsBut [F.MARGIN_PWR_P_NOW, F.MARGIN_DELAY_D_HUB, F.MARGIN_PLAN_F_APP] s m := by
    rw [hm]; exact (((RegsBut.refl _ s).wr (f := F.MARGIN_PWR_P_NOW) _ (by simp)).of_regs rfl).wr _ (by simp)
  have hmp : m.rd F.MARGIN_PWR_P_NOW = min pNow 65535 := by
    rw [hm, State.rd_wr_ne _ _ (by decide)]; exact s.rd_wr_lt (f := F.MARGIN_PWR_P_NOW) (by change _ < 2 ^ 16; omega)
  have hmd : m.rd F.MARGIN_DELAY_D_HUB = min dHub 65535 := by rw [hm]; exact State.rd_wr_lt _ (by change _ < 2 ^ 16; omega)
  have hdef : s.measured dHub pNow = m.setFreq f := by rw [State.measured, hf, hm]
  obtain ⟨k1, k2, -, -, k5⟩ := m.setFreq_spec f
  rw [hdef]
  refine ⟨fun g hg => (k1 g fun e => hg (by simp_all)).trans (hmr g hg), by rw [k2, hmk.1]; exact ⟨rfl, rfl⟩, (k1.rd (by decide)).trans hmp, (k1.rd (by decide)).trans hmd, ?_⟩
  have hma : m.rd F.MARGIN_PLAN_F_APP = s.rd F.MARGIN_PLAN_F_APP := by rw [hm, State.rd_wr_ne _ _ (by decide)]; exact s.rd_wr_ne _ (by decide)
  rw [k5 (by omega), hma, hmk.2]

theorem State.accrue_spec (s : State) : RegsBut [F.MARGIN_STAT_SINCE_H] s s.accrue ∧ s.accrue.pwr = s.pwr ∧ s.accrue.log = s.log ∧ s.accrue.now = s.now ∧
    s.accrue.hearth = { s.hearth with
      acc := if (s.pwr.state == .run || s.pwr.state == .safe) = true then s.hearth.acc + (s.now - s.hearth.accAt) else s.hearth.acc, accAt := s.now } :=
  ⟨(RegsBut.refl _ s).wr _ (by simp), rfl, rfl, rfl, rfl⟩

section
variable {dHub dA dB dC pNow : Nat} {r : Nat} {stud2 : Option Nat} {f : Nat}

/-- The reports of a measurement, in their order. -/
def State.reports (s : State) (dHub dA dB dC r : Nat) (stud2 : Option Nat) : State :=
  let s := s.marginReport 0 (freqFor dHub).isNone 3 6 0 id
  let s := ((s.laneMargin 0 F.MARGIN_LANE_SLACK_A dA).laneMargin 1 F.MARGIN_LANE_SLACK_B dB).laneMargin 2 F.MARGIN_LANE_SLACK_C dC
  let s := (s.studMargin 0 F.MARGIN_STUD_R_STUD1 (some r)).studMargin 1 F.MARGIN_STUD_R_STUD2 stud2
  (List.range 48).foldl State.driftMargin s

/-- What the reports of a measurement leave, for the bits of `seen` and the drifts that it found. -/
def Reported (s : State) (dHub dA dB dC r n : Nat) (s' : State) : Prop :=
  (¬ FitsFreq dHub 12 → s.hearth.seen.testBit 0 ≠ true → Noted s' 3 6 0) ∧
  (s'.rd F.MARGIN_LANE_SLACK_A = min (1667 - dA) 1023 ∧ s'.rd F.MARGIN_LANE_SLACK_B = min (1667 - dB) 1023 ∧ s'.rd F.MARGIN_LANE_SLACK_C = min (1667 - dC) 1023) ∧
  (1567 < dA → s.hearth.seen.testBit 1 ≠ true → Noted s' 4 5 0 ∧ s'.rd F.MARGIN_LANE_LOW = 1) ∧
  (1567 < dB → s.hearth.seen.testBit 2 ≠ true → Noted s' 4 5 1 ∧ s'.rd F.MARGIN_LANE_LOW = 1) ∧
  (1567 < dC → s.hearth.seen.testBit 3 ≠ true → Noted s' 4 5 2 ∧ s'.rd F.MARGIN_LANE_LOW = 1) ∧
  s'.rd F.MARGIN_STUD_R_STUD1 = min r 32767 ∧ (300 < r → s.hearth.seen.testBit 4 ≠ true → Noted s' 6 4 1) ∧
  (1000 ≤ r → s.hearth.seen.testBit 6 ≠ true → Noted s' 6 5 1 ∧ s'.rd F.MARGIN_STUD_HIGH = 1) ∧
  (n < 48 → s.rd (F.CH_AGE_AGE_VALID n) ≠ 0 → s.rd (F.CH_AGE_DRIFT n) = 127 → s.hearth.seen.testBit (8 + n) ≠ true → Noted s' 5 5 n)

/-- What was reported stays so under a step that touches none of the slacks nor the stud. -/
theorem Reported.step {fs : List Fld} {K : Nat → Prop} {n : Nat} (h : Reported s dHub dA dB dC r n s') (hk : MarginStep K fs s' s'')
    (ha : ∀ f ∈ fs, f.key ≠ F.MARGIN_LANE_SLACK_A.key ∧ f.key ≠ F.MARGIN_LANE_SLACK_B.key ∧ f.key ≠ F.MARGIN_LANE_SLACK_C.key ∧ f.key ≠ F.MARGIN_STUD_R_STUD1.key) :
    Reported s dHub dA dB dC r n s'' := by
  obtain ⟨h1, ⟨h2, h3, h4⟩, h5, h6, h7, h8, h9, h10, h11⟩ := h
  obtain ⟨-, -, -, -, hl, hs⟩ := id hk
  refine ⟨fun x y => hk.noted (h1 x y), ⟨?_, ?_, ?_⟩, fun x y => ⟨hk.noted (h5 x y).1, hl (h5 x y).2⟩, fun x y => ⟨hk.noted (h6 x y).1, hl (h6 x y).2⟩,
    fun x y => ⟨hk.noted (h7 x y).1, hl (h7 x y).2⟩, ?_, fun x y => hk.noted (h9 x y), fun x y => ⟨hk.noted (h10 x y).1, hs (h10 x y).2⟩,
    fun hn x y z => hk.noted (h11 hn x y z)⟩
  · exact (hk.rd (by decide) (by decide) fun f hf => (ha f hf).1).trans h2
  · exact (hk.rd (by decide) (by decide) fun f hf => (ha f hf).2.1).trans h3
  · exact (hk.rd (by decide) (by decide) fun f hf => (ha f hf).2.2.1).trans h4
  · exact (hk.rd (by decide) (by decide) fun f hf => (ha f hf).2.2.2).trans h8

theorem State.reports_spec (s : State) (dHub dA dB dC r n : Nat) (stud2 : Option Nat) :
    Reported s dHub dA dB dC r n (s.reports dHub dA dB dC r stud2) ∧
    MarginStep (fun _ => True) [F.MARGIN_LANE_SLACK_A, F.MARGIN_LANE_SLACK_B, F.MARGIN_LANE_SLACK_C, F.MARGIN_STUD_R_STUD1, F.MARGIN_STUD_R_STUD2] s
      (s.reports dHub dA dB dC r stud2) := by
  obtain ⟨a, ha⟩ : ∃ a, a = s.marginReport 0 (freqFor dHub).isNone 3 6 0 id := ⟨_, rfl⟩
  obtain ⟨b, hb⟩ : ∃ b, b = a.laneMargin 0 F.MARGIN_LANE_SLACK_A dA := ⟨_, rfl⟩
  obtain ⟨c, hc⟩ : ∃ c, c = b.laneMargin 1 F.MARGIN_LANE_SLACK_B dB := ⟨_, rfl⟩
  obtain ⟨d, hd⟩ : ∃ d, d = c.laneMargin 2 F.MARGIN_LANE_SLACK_C dC := ⟨_, rfl⟩
  obtain ⟨e, he⟩ : ∃ e, e = d.studMargin 0 F.MARGIN_STUD_R_STUD1 (some r) := ⟨_, rfl⟩
  obtain ⟨f, hf⟩ : ∃ f, f = e.studMargin 1 F.MARGIN_STUD_R_STUD2 stud2 := ⟨_, rfl⟩
  have hdef : s.reports dHub dA dB dC r stud2 = (List.range 48).foldl State.driftMargin f := by rw [hf, he, hd, hc, hb, ha]; rfl
  obtain ⟨a1, a2⟩ := s.marginReport_spec 0 (freqFor dHub).isNone 3 6 0 (eff := id) (o := none) rfl (Or.inl rfl) []
  obtain ⟨b1, b2, b3⟩ := a.laneMargin_spec (l := 0) (by decide) (f := F.MARGIN_LANE_SLACK_A) dA [F.MARGIN_LANE_SLACK_A] (by simp) rfl (by decide) (by decide)
  obtain ⟨c1, c2, c3⟩ := b.laneMargin_spec (l := 1) (by decide) (f := F.MARGIN_LANE_SLACK_B) dB [F.MARGIN_LANE_SLACK_B] (by simp) rfl (by decide) (by decide)
  obtain ⟨d1, d2, d3⟩ := c.laneMargin_spec (l := 2) (by decide) (f := F.MARGIN_LANE_SLACK_C) dC [F.MARGIN_LANE_SLACK_C] (by simp) rfl (by decide) (by decide)
  have e1 := d.studMargin_step 0 (f := F.MARGIN_STUD_R_STUD1) (some r) [F.MARGIN_STUD_R_STUD1] (by simp) (by decide) (by decide)
  obtain ⟨e2, e3, e4⟩ := d.studMargin_first r
  have f1 := e.studMargin_step 1 (f := F.MARGIN_STUD_R_STUD2) stud2 [F.MARGIN_STUD_R_STUD2] (by simp) (by decide) (by decide)
  obtain ⟨g1, g2⟩ := f.drifts_spec
  rw [← ha] at a1 a2
  rw [← hb] at b1 b2 b3
  rw [← hc] at c1 c2 c3
  rw [← hd] at d1 d2 d3
  rw [← he] at e1 e2 e3 e4
  rw [← hf] at f1
  rw [hdef]
  generalize (List.range 48).foldl State.driftMargin f = z at g1 g2
  have w {K : Nat → Prop} {fs gs : List Fld} {x y : State} (h : MarginStep K fs x y) (hs : ∀ f ∈ fs, f ∈ gs) : MarginStep (fun _ => True) gs x y := h.mono (fun _ _ => trivial) hs
  have tf := w (gs := [F.MARGIN_STUD_R_STUD2]) g1 (by simp)
  have te := (w (gs := [F.MARGIN_STUD_R_STUD2]) f1 (by simp)).trans tf
  have td := (w (gs := [F.MARGIN_STUD_R_STUD1, F.MARGIN_STUD_R_STUD2]) e1 (by simp)).trans (w te (by simp))
  have tc := (w (gs := [F.MARGIN_LANE_SLACK_C, F.MARGIN_STUD_R_STUD1, F.MARGIN_STUD_R_STUD2]) d1 (by simp)).trans (w td (by simp))
  have tb := (w (gs := [F.MARGIN_LANE_SLACK_B, F.MARGIN_LANE_SLACK_C, F.MARGIN_STUD_R_STUD1, F.MARGIN_STUD_R_STUD2]) c1 (by simp)).trans (w tc (by simp))
  have ta := (w (gs := [F.MARGIN_LANE_SLACK_A, F.MARGIN_LANE_SLACK_B, F.MARGIN_LANE_SLACK_C, F.MARGIN_STUD_R_STUD1, F.MARGIN_STUD_R_STUD2]) b1 (by simp)).trans (w tb (by simp))
  have head := (w (gs := [F.MARGIN_LANE_SLACK_A, F.MARGIN_LANE_SLACK_B, F.MARGIN_LANE_SLACK_C, F.MARGIN_STUD_R_STUD1, F.MARGIN_STUD_R_STUD2]) a1 (by simp)).trans
    ((w b1 (by simp)).trans ((w c1 (by simp)).trans ((w d1 (by simp)).trans ((w e1 (by simp)).trans (w f1 (by simp))))))
  have sa {k : Nat} (h : 0 < k) : a.hearth.seen.testBit k = s.hearth.seen.testBit k := a1.2.1 k (by omega)
  have sb {k : Nat} (h : 1 < k) : b.hearth.seen.testBit k = s.hearth.seen.testBit k := (b1.2.1 k (by omega)).trans (sa (by omega))
  have sc {k : Nat} (h : 2 < k) : c.hearth.seen.testBit k = s.hearth.seen.testBit k := (c1.2.1 k (by omega)).trans (sb (by omega))
  have sd {k : Nat} (h : 3 < k) : d.hearth.seen.testBit k = s.hearth.seen.testBit k := (d1.2.1 k (by omega)).trans (sc (by omega))
  have sf {k : Nat} (h : 7 < k) : f.hearth.seen.testBit k = s.hearth.seen.testBit k :=
    (f1.2.1 k (by omega)).trans ((e1.2.1 k (by omega)).trans (sd (by omega)))
  refine ⟨⟨fun hd hs => ta.noted (a2 ((freqFor_isNone dHub).2 hd) hs (by decide)).1, ⟨?_, ?_, ?_⟩, fun h hs => ?_, fun h hs => ?_, fun h hs => ?_, ?_, fun h hs => ?_, fun h hs => ?_,
    fun hn hv hd hs => g2 n hn ?_ ?_ ?_⟩, head.trans (w g1 (by simp))⟩
  · exact (tb.rd (by decide) (by decide) (by decide)).trans b2
  · exact (tc.rd (by decide) (by decide) (by decide)).trans c2
  · exact (td.rd (by decide) (by decide) (by decide)).trans d2
  · obtain ⟨k1, k2⟩ := b3 h (by rw [sa (by decide)]; exact hs)
    exact ⟨tb.noted k1, tb.2.2.2.2.1 k2⟩
  · obtain ⟨k1, k2⟩ := c3 h (by rw [sb (by decide)]; exact hs)
    exact ⟨tc.noted k1, tc.2.2.2.2.1 k2⟩
  · obtain ⟨k1, k2⟩ := d3 h (by rw [sc (by decide)]; exact hs)
    exact ⟨td.noted k1, td.2.2.2.2.1 k2⟩
  · exact (te.rd (by decide) (by decide) (by decide)).trans e2
  · exact te.noted (e3 h (by rw [sd (by decide)]; exact hs))
  · obtain ⟨k1, k2⟩ := e4 h (by rw [sd (by decide)]; exact hs)
    exact ⟨te.noted k1, te.2.2.2.2.2 k2⟩
  · rw [(head.age (by decide) n).1]; exact hv
  · rw [(head.age (by decide) n).2]; exact hd
  · rw [sf (by omega)]; exact hs

theorem ends_marginMeasure (hu : s.pwr.hubUp = true) (hf : (freqFor dHub).getD 12 = f) (h16 : f ≤ 16) (n : Nat) : Ends (.marginMeasure t dHub dA dB dC (some r) stud2 pNow) s fun s' =>
    Reported s dHub dA dB dC r n s' ∧ s'.rd F.MARGIN_DELAY_D_HUB = min dHub 65535 ∧ s'.rd F.MARGIN_PWR_P_NOW = min pNow 65535 ∧
    s'.hearth.peak = max s.hearth.peak pNow ∧
    s'.rd F.MARGIN_PLAN_F_APP = if f < s.rd F.MARGIN_PLAN_F_APP ∨ s.pwr.state = .startup then f else s.rd F.MARGIN_PLAN_F_APP := by
  obtain ⟨x, hx⟩ : ∃ x, x = (s.tick t).accrue := ⟨_, rfl⟩
  obtain ⟨a1, a2, a3, -, a5⟩ := (s.tick t).accrue_spec
  obtain ⟨m, hm⟩ : ∃ m, m = x.measured dHub pNow := ⟨_, rfl⟩
  obtain ⟨b1, ⟨b2, b3⟩, ⟨b4, b5, b6⟩⟩ := x.measured_spec dHub pNow hf h16
  obtain ⟨z, hz⟩ : ∃ z, z = m.reports dHub dA dB dC r stud2 := ⟨_, rfl⟩
  obtain ⟨c1, c2⟩ := m.reports_spec dHub dA dB dC r n stud2
  have he : exec (.marginMeasure t dHub dA dB dC (some r) stud2 pNow) s =
      .next (if z.flag F.PWRMGR_STAT_HOLDUP_READY then z.settlePlan (z.holdTest (z.rd F.PWRMGR_BUS_V_HOLD)) else z) := by
    have hx' : (!x.pwr.hubUp) = false := by rw [hx, a2]; exact congrArg not hu
    rw [arm_marginMeasure, execMarginMeasure, ← hx]
    dsimp only
    rw [hx', hz, hm]
    unfold State.reports State.measured
    dsimp only
    rw [if_neg Bool.false_ne_true]
  rw [← hx] at a1 a2 a3 a5
  rw [← hm] at b1 b2 b3 b4 b5 b6
  rw [← hz] at c1 c2
  refine ends_next he ?_
  have last : MarginStep (fun _ => True) [F.MARGIN_PLAN_GRACE_MS, F.MARGIN_PLAN_DIRTY_KB, F.PWRMGR_PF_CFG_GRACE_MS] z
      (if z.flag F.PWRMGR_STAT_HOLDUP_READY then z.settlePlan (z.holdTest (z.rd F.PWRMGR_BUS_V_HOLD)) else z) := by
    split
    · exact z.settlePlan_step _ _
    · exact MarginStep.refl _ _ z
  have hseen : m.hearth.seen = s.hearth.seen := b2.trans (by rw [a5]; rfl)
  have hv := (b1.age (by decide) n).1.trans (a1.age (by decide) n).1
  have hd := (b1.age (by decide) n).2.trans (a1.age (by decide) n).2
  have hrep : Reported s dHub dA dB dC r n z := by
    unfold Reported at c1
    rw [hseen, hv, hd] at c1
    exact c1
  have hfix {g : Fld} (h1 : ∀ f ∈ [F.MARGIN_LANE_LOW, F.MARGIN_STUD_HIGH, F.MARGIN_LANE_SLACK_A, F.MARGIN_LANE_SLACK_B, F.MARGIN_LANE_SLACK_C, F.MARGIN_STUD_R_STUD1, F.MARGIN_STUD_R_STUD2,
      F.MARGIN_PLAN_GRACE_MS, F.MARGIN_PLAN_DIRTY_KB, F.PWRMGR_PF_CFG_GRACE_MS], f.key ≠ g.key) :
      State.rd (if z.flag F.PWRMGR_STAT_HOLDUP_READY then z.settlePlan (z.holdTest (z.rd F.PWRMGR_BUS_V_HOLD)) else z) g = m.rd g := by
    simp only [List.mem_cons, List.not_mem_nil, or_false, forall_eq_or_imp, forall_eq] at h1
    obtain ⟨k1, k2, k3, k4, k5, k6, k7, k8, k9, k10⟩ := h1
    exact (last.rd k1 k2 (by simp [k8, k9, k10])).trans (c2.rd k1 k2 (by simp [k3, k4, k5, k6, k7]))
  have hFx : x.rd F.MARGIN_PLAN_F_APP = s.rd F.MARGIN_PLAN_F_APP := a1.rd (by decide)
  refine ⟨hrep.step last (by decide), (hfix (by decide)).trans b5, (hfix (by decide)).trans b4, ?_, (hfix (by decide)).trans ?_⟩
  · rw [last.2.2.1.1, c2.2.2.1.1, b3, a5]; rfl
  · rw [b6, hFx, a2]; rfl

end

/-! ### Derating -/

theorem derateFld_key (j : Nat) : (derateFld j).key = 0x800800800 + 128 * (j / 4) + 8 * (j % 4) := by
  simp only [Fld.key, derateFld, F.MARGIN_DERATE_DERATE0]; omega

/-- The derating that a channel's drift asks for (R399). -/
def State.derateVal (s : State) (j : Nat) : Nat :=
  if s.flag (F.CH_AGE_AGE_VALID j) ∧ 0 < toSigned 8 (s.rd (F.CH_AGE_DRIFT j)) then derateOf (toSigned 8 (s.rd (F.CH_AGE_DRIFT j))).toNat else 0

theorem derateOf_le (d : Nat) : derateOf d ≤ 100 := by
  unfold derateOf
  cases h : List.find? (fun x => decide ((100 - x) * (100 - x) * (400 + d) ≤ 4000000)) (List.range 101) with
  | none => exact le_refl _
  | some x => exact Nat.le_of_lt_succ (List.mem_range.1 (List.mem_of_find?_eq_some h))

/-- DERATE is the least one that makes up for the drift. -/
theorem derateOf_least {d : Nat} (h : 0 < d) : 0 < derateOf d ∧ (100 - derateOf d) * (100 - derateOf d) * (400 + d) ≤ 4000000 ∧
    4000000 < (101 - derateOf d) * (101 - derateOf d) * (400 + d) := by
  obtain ⟨x, hx⟩ : ∃ x, List.find? (fun x => decide ((100 - x) * (100 - x) * (400 + d) ≤ 4000000)) (List.range 101) = some x :=
    Option.isSome_iff_exists.1 (List.find?_isSome.2 ⟨100, by decide, by simp⟩)
  have hd : derateOf d = x := by unfold derateOf; rw [hx]; rfl
  rw [hd]
  have hp : (100 - x) * (100 - x) * (400 + d) ≤ 4000000 := of_decide_eq_true (p := (100 - x) * (100 - x) * (400 + d) ≤ 4000000) (by have := List.find?_some hx; exact this)
  have hx100 : x < 101 := List.mem_range.1 (List.mem_of_find?_eq_some hx)
  have hpos : 0 < x := Nat.pos_of_ne_zero fun e => by subst e; omega
  refine ⟨hpos, hp, ?_⟩
  have hbefore := (List.find?_range_eq_some.1 hx).2.2 (x - 1) (by omega)
  rw [Bool.not_eq_true', decide_eq_false_iff_not, show 100 - (x - 1) = 101 - x from by omega] at hbefore
  omega

/-- The derating `x` that channel `j` gets, its drift being a byte (R399). -/
def Derated (s : State) (j x : Nat) : Prop :=
  (s.rd (F.CH_AGE_AGE_VALID j) = 0 ∨ s.rd (F.CH_AGE_DRIFT j) % 256 = 0 ∨ 128 ≤ s.rd (F.CH_AGE_DRIFT j) % 256 → x = 0) ∧
  (s.rd (F.CH_AGE_AGE_VALID j) ≠ 0 → 0 < s.rd (F.CH_AGE_DRIFT j) % 256 → s.rd (F.CH_AGE_DRIFT j) % 256 < 128 → 0 < x ∧ x ≤ 100 ∧
    (100 - x) * (100 - x) * (400 + s.rd (F.CH_AGE_DRIFT j) % 256) ≤ 4000000 ∧ 4000000 < (101 - x) * (101 - x) * (400 + s.rd (F.CH_AGE_DRIFT j) % 256))

theorem State.derated (s : State) (j : Nat) : Derated s j (s.derateVal j) := by
  unfold Derated
  generalize hy : s.rd (F.CH_AGE_DRIFT j) % 256 = y
  have hsigned : toSigned 8 (s.rd (F.CH_AGE_DRIFT j)) = if 128 ≤ y then (y : Int) - 256 else y := by
    unfold toSigned
    rw [show s.rd (F.CH_AGE_DRIFT j) % 2 ^ 8 = y from hy]; rfl
  unfold State.derateVal
  rw [hsigned]
  refine ⟨fun h => if_neg ?_, fun hv h0 h1 => ?_⟩
  · rintro ⟨hv, hd⟩
    rcases h with h | h | h
    · exact State.flag_eq_true.1 hv h
    · subst h; exact absurd hd (by decide)
    · rw [if_pos h] at hd; omega
  · have hcond : s.flag (F.CH_AGE_AGE_VALID j) = true ∧ 0 < if 128 ≤ y then (y : Int) - 256 else y := ⟨State.flag_eq_true.2 hv, by rw [if_neg (by omega)]; omega⟩
    rw [if_pos hcond, if_neg (by omega), Int.toNat_natCast]
    obtain ⟨k1, k2, k3⟩ := derateOf_least h0
    exact ⟨k1, derateOf_le y, k2, k3⟩

/-- What the derating of channels leaves alone. -/
def DerateKept (s s' : State) : Prop := (∀ f : Fld, f.key < 0x800800800 ∨ 0x800801000 ≤ f.key → s'.rd f = s.rd f) ∧
  s'.hearth = s.hearth ∧ s'.pwr = s.pwr ∧ s'.log = s.log

theorem DerateKept.age (h : DerateKept s s') (n : Nat) : s'.derateVal n = s.derateVal n := by
  have hv := h.1 (F.CH_AGE_AGE_VALID n) (Or.inr (by simp only [Fld.key, F.CH_AGE_AGE_VALID]; omega))
  have hd := h.1 (F.CH_AGE_DRIFT n) (Or.inr (by simp only [Fld.key, F.CH_AGE_DRIFT]; omega))
  unfold State.derateVal State.flag
  rw [hv, hd]

theorem State.derateChan_spec (s : State) {n : Nat} (hn : n < 48) : DerateKept s (s.derateChan n) ∧ (s.derateChan n).rd (derateFld n) = s.derateVal n ∧
    ∀ j, j ≠ n → (s.derateChan n).rd (derateFld j) = s.rd (derateFld j) := by
  have hdef : s.derateChan n = s.wr (derateFld n) (s.derateVal n) := rfl
  have hlt : s.derateVal n < 2 ^ (derateFld n).width := by
    change _ < 2 ^ 8
    unfold State.derateVal
    split
    · exact lt_of_le_of_lt (derateOf_le _) (by decide)
    · decide
  rw [hdef]
  refine ⟨⟨fun f hf => s.rd_wr_ne _ ?_, rfl, rfl, rfl⟩, s.rd_wr_lt hlt, fun j hj => s.rd_wr_ne _ ?_⟩
  · rw [derateFld_key]; omega
  · rw [derateFld_key, derateFld_key]; omega

theorem State.derates_spec (s : State) {k : Nat} (hk : k ≤ 48) : DerateKept s ((List.range k).foldl State.derateChan s) ∧
    ∀ j, j < k → ((List.range k).foldl State.derateChan s).rd (derateFld j) = s.derateVal j := by
  induction k with
  | zero => exact ⟨⟨fun _ _ => rfl, rfl, rfl, rfl⟩, fun j hj => absurd hj (Nat.not_lt_zero j)⟩
  | succ k ih =>
    obtain ⟨h1, h2⟩ := ih (by omega)
    rw [List.range_succ, List.foldl_append, List.foldl_cons, List.foldl_nil]
    generalize (List.range k).foldl State.derateChan s = x at h1 h2
    obtain ⟨⟨k1, k2, k3, k4⟩, k5, k6⟩ := x.derateChan_spec (n := k) (by omega)
    have hage := h1.age k
    obtain ⟨a1, a2, a3, a4⟩ := h1
    refine ⟨⟨fun f hf => (k1 f hf).trans (a1 f hf), k2.trans a2, k3.trans a3, k4.trans a4⟩, fun j hj => ?_⟩
    by_cases he : j = k
    · subst he; exact k5.trans hage
    · exact (k6 j he).trans (h2 j (by omega))

/-! ### A full plan -/

/-- A register outside the planner's, but for the grace of power-fail. -/
def OffPlan (f : Fld) : Prop := (f.key < 0x800800000 ∨ 0x800801000 ≤ f.key) ∧ f.key ≠ F.PWRMGR_PF_CFG_GRACE_MS.key

/-- What a plan leaves alone: the registers outside the planner's, the log's buffer and blocks, the power state, a test that runs. -/
def PlanKept (s s' : State) : Prop := (∀ f, OffPlan f → s'.rd f = s.rd f) ∧ s'.pwr = s.pwr ∧
  (s'.log.buf = s.log.buf ∧ s'.log.blocks = s.log.blocks ∧ s'.log.chainIndex = s.log.chainIndex) ∧
  (s'.hearth.testAt = s.hearth.testAt ∧ s'.hearth.vFull = s.hearth.vFull)

theorem PlanKept.trans (h : PlanKept s s') (h' : PlanKept s' s'') : PlanKept s s'' := by
  obtain ⟨h1, h2, ⟨h3, h4, h5⟩, h6, h7⟩ := h
  obtain ⟨k1, k2, ⟨k3, k4, k5⟩, k6, k7⟩ := h'
  exact ⟨fun f hf => (k1 f hf).trans (h1 f hf), k2.trans h2, ⟨k3.trans h3, k4.trans h4, k5.trans h5⟩, k6.trans h6, k7.trans h7⟩

theorem OffPlan.not_mem {f : Fld} (h : OffPlan f) {fs : List Fld} (hf : ∀ g ∈ fs, (0x800800000 ≤ g.key ∧ g.key < 0x800801000) ∨ g.key = F.PWRMGR_PF_CFG_GRACE_MS.key) : f.key ∉ fs.map Fld.key := by
  intro hm
  obtain ⟨g, hg, he⟩ := List.mem_map.1 hm
  obtain ⟨h1, h2⟩ := h
  rcases hf g hg with h3 | h3
  · omega
  · exact h2 (he ▸ h3)

/-- The power that a plan counts with once RUN and SAFE time is counted (R393), in 0.1 W. -/
def State.planPower (s : State) : Nat := if s.hearth.acc < secs 3600 then 460 else min s.hearth.peak 65535

/-- The energy that a plan may spend (R390, R393). -/
def State.planBudget (s : State) : Nat :=
  energyBudget (if s.authOk then s.rd F.HEARTH_MEAS_C_MEAS else 0) s.hearth.vFull (s.rd F.HEARTH_MEAS_ESR_MEAS) s.planPower

/-- The plan for that energy (R395). -/
def State.planFor (s : State) : Nat × Nat × Bool × Nat := planEnergy s.planBudget s.planPower (s.rd F.MARGIN_REQ_GRACE_REQ) (s.rd F.MARGIN_REQ_DIRTY_REQ)

/-- The registers and the planner's state once a plan is made, before it takes effect. -/
def State.writePlan (x : State) (p b : Nat) (r : Nat × Nat × Bool × Nat) : State :=
  let x := ((x.wr F.MARGIN_PWR_P_RUN p).wr F.MARGIN_ENERGY_E_USE (min 65535 (b / 720000000000000))).wr
    F.MARGIN_ENERGY_E_PLAN (min 65535 (r.2.2.2 / 900000000000000))
  let x := ((x.wr F.MARGIN_STAT_DEFICIT (bit r.2.2.1)).clrF F.MARGIN_STAT_PLANNING).clrF F.MARGIN_STAT_SINCE_H
  x.modHearth fun h => { h with acc := 0, peak := 0, ePlan := r.2.2.2, want := (r.1, r.2.1) }

theorem State.writePlan_spec (s : State) {p : Nat} (b : Nat) (r : Nat × Nat × Bool × Nat) (hp : p < 65536) :
    RegsBut [F.MARGIN_PWR_P_RUN, F.MARGIN_ENERGY_E_USE, F.MARGIN_ENERGY_E_PLAN, F.MARGIN_STAT_DEFICIT, F.MARGIN_STAT_PLANNING, F.MARGIN_STAT_SINCE_H] s (s.writePlan p b r) ∧
    ((s.writePlan p b r).pwr = s.pwr ∧ (s.writePlan p b r).log = s.log) ∧
    (s.writePlan p b r).hearth = { s.hearth with acc := 0, peak := 0, ePlan := r.2.2.2, want := (r.1, r.2.1) } ∧
    ((s.writePlan p b r).rd F.MARGIN_PWR_P_RUN = p ∧ (s.writePlan p b r).rd F.MARGIN_ENERGY_E_USE = min 65535 (b / 720000000000000) ∧
      (s.writePlan p b r).rd F.MARGIN_ENERGY_E_PLAN = min 65535 (r.2.2.2 / 900000000000000) ∧ (s.writePlan p b r).rd F.MARGIN_STAT_DEFICIT = bit r.2.2.1 ∧
      (s.writePlan p b r).rd F.MARGIN_STAT_PLANNING = 0) := by
  obtain ⟨x, hx⟩ : ∃ x, x = ((s.wr F.MARGIN_PWR_P_RUN p).wr F.MARGIN_ENERGY_E_USE (min 65535 (b / 720000000000000))).wr
    F.MARGIN_ENERGY_E_PLAN (min 65535 (r.2.2.2 / 900000000000000)) := ⟨_, rfl⟩
  obtain ⟨y, hy⟩ : ∃ y, y = ((x.wr F.MARGIN_STAT_DEFICIT (bit r.2.2.1)).clrF F.MARGIN_STAT_PLANNING).clrF F.MARGIN_STAT_SINCE_H := ⟨_, rfl⟩
  have hxk : x.pwr = s.pwr ∧ x.log = s.log ∧ x.hearth = s.hearth := by rw [hx]; exact ⟨rfl, rfl, rfl⟩
  have hyk : y.pwr = x.pwr ∧ y.log = x.log ∧ y.hearth = x.hearth := by rw [hy]; exact ⟨rfl, rfl, rfl⟩
  obtain ⟨k1, k2, k3⟩ := hxk
  obtain ⟨l1, l2, l3⟩ := hyk
  have h1 : x.rd F.MARGIN_PWR_P_RUN = p := by
    rw [hx, State.rd_wr_ne _ _ (by decide), State.rd_wr_ne _ _ (by decide)]; exact s.rd_wr_lt hp
  have h2 : x.rd F.MARGIN_ENERGY_E_USE = min 65535 (b / 720000000000000) := by
    rw [hx, State.rd_wr_ne _ _ (by decide)]; exact State.rd_wr_lt _ (by change _ < 2 ^ 16; omega)
  have h3 : x.rd F.MARGIN_ENERGY_E_PLAN = min 65535 (r.2.2.2 / 900000000000000) := by rw [hx]; exact State.rd_wr_lt _ (by change _ < 2 ^ 16; omega)
  have h4 : y.rd F.MARGIN_STAT_DEFICIT = bit r.2.2.1 := by
    rw [hy, State.rd_clrF_ne _ (by decide), State.rd_clrF_ne _ (by decide)]; exact State.rd_wr_lt _ (by cases r.2.2.1 <;> decide)
  have h5 : y.rd F.MARGIN_STAT_PLANNING = 0 := by rw [hy, State.rd_clrF_ne _ (by decide)]; exact State.rd_clrF_self ..
  have hyx {f : Fld} (a : F.MARGIN_STAT_DEFICIT.key ≠ f.key) (b : F.MARGIN_STAT_PLANNING.key ≠ f.key) (c : F.MARGIN_STAT_SINCE_H.key ≠ f.key) : y.rd f = x.rd f := by
    rw [hy, State.rd_clrF_ne _ c, State.rd_clrF_ne _ b]; exact x.rd_wr_ne _ a
  have hdef : s.writePlan p b r = y.modHearth fun h => { h with acc := 0, peak := 0, ePlan := r.2.2.2, want := (r.1, r.2.1) } := by rw [hy, hx]; rfl
  have hrd (f : Fld) : (s.writePlan p b r).rd f = y.rd f := by rw [hdef]; rfl
  refine ⟨fun f hf => ?_, by rw [hdef]; exact ⟨l1.trans k1, l2.trans k2⟩, ?_, (hrd _).trans ((hyx (by decide) (by decide) (by decide)).trans h1),
    (hrd _).trans ((hyx (by decide) (by decide) (by decide)).trans h2), (hrd _).trans ((hyx (by decide) (by decide) (by decide)).trans h3), (hrd _).trans h4, (hrd _).trans h5⟩
  · simp only [List.map_cons, List.map_nil, List.mem_cons, List.not_mem_nil, or_false, not_or] at hf
    obtain ⟨a1, a2, a3, a4, a5, a6⟩ := hf
    rw [hrd, hyx (Ne.symm a4) (Ne.symm a5) (Ne.symm a6), hx, State.rd_wr_ne _ _ (Ne.symm a3), State.rd_wr_ne _ _ (Ne.symm a2), State.rd_wr_ne _ _ (Ne.symm a1)]
  · rw [hdef, State.modHearth, l3, k3]

/-- The plan once it is in force: derated channels, and the frequency limit. -/
def State.planForce (x : State) : State :=
  let x := x.settlePlan (x.holdTest (x.rd F.PWRMGR_BUS_V_HOLD))
  let x := (List.range 48).foldl State.derateChan x
  x.setFreq ((freqFor (x.rd F.MARGIN_DELAY_D_HUB)).getD 12)

/-- The plan of a state whose RUN and SAFE time is counted, in force. -/
def State.planMade (x : State) : State :=
  if x.planFor.2.2.1 then ((x.writePlan x.planPower x.planBudget x.planFor).planForce).marginRecord 2 6 0
  else (x.writePlan x.planPower x.planBudget x.planFor).planForce

theorem State.fullPlan_eq (s : State) : s.fullPlan = s.accrue.planMade := by
  unfold State.fullPlan
  generalize s.accrue = x
  unfold State.planMade State.planForce State.writePlan State.planFor State.planBudget State.planPower
  dsimp only

/-- The plan that a state wants is in force as far as `ready` lets it (R394, R396). -/
def PlanInForce (x : State) (ready : Bool) (z : State) : Prop :=
  z.rd F.MARGIN_PLAN_GRACE_MS = x.settledGrace ready % 2 ^ 13 ∧ z.rd F.MARGIN_PLAN_DIRTY_KB = x.settledDirty ready % 2 ^ 10 ∧
  z.rd F.PWRMGR_PF_CFG_GRACE_MS = if z.rd F.PWRMGR_STAT_HOLDUP_READY = 0 then 0 else z.rd F.MARGIN_PLAN_GRACE_MS

theorem State.planForce_spec (x : State) : PlanInForce x (x.holdTest (x.rd F.PWRMGR_BUS_V_HOLD)) x.planForce ∧
    (∀ j, j < 48 → x.planForce.rd (derateFld j) = x.derateVal j) ∧
    (∀ f : Fld, f.key ∉ [F.MARGIN_PLAN_GRACE_MS, F.MARGIN_PLAN_DIRTY_KB, F.PWRMGR_PF_CFG_GRACE_MS, F.MARGIN_PLAN_F_APP].map Fld.key →
      f.key < 0x800800800 ∨ 0x800801000 ≤ f.key → x.planForce.rd f = x.rd f) ∧
    (∃ w, x.planForce.hearth = { x.hearth with fWant := w }) ∧ x.planForce.pwr = x.pwr ∧ ∃ u v, x.planForce.log = { x.log with flushing := u, pendFlush := v } := by
  obtain ⟨b, hb⟩ : ∃ b, b = x.holdTest (x.rd F.PWRMGR_BUS_V_HOLD) := ⟨_, rfl⟩
  obtain ⟨y, hy⟩ : ∃ y, y = x.settlePlan b := ⟨_, rfl⟩
  obtain ⟨z, hz⟩ : ∃ z, z = (List.range 48).foldl State.derateChan y := ⟨_, rfl⟩
  obtain ⟨a1, ⟨a2, a3, u, v, a4⟩, ⟨a5, a6, a7⟩, -⟩ := x.settlePlan_spec b
  obtain ⟨⟨b1, b2, b3, b4⟩, b5⟩ := y.derates_spec (k := 48) (le_refl _)
  obtain ⟨c1, c2, c3, c4, -⟩ := z.setFreq_spec ((freqFor (z.rd F.MARGIN_DELAY_D_HUB)).getD 12)
  have hdef : x.planForce = z.setFreq ((freqFor (z.rd F.MARGIN_DELAY_D_HUB)).getD 12) := by rw [hz, hy, hb]; rfl
  rw [← hy] at a1 a2 a3 a4 a5 a6 a7
  rw [← hz] at b1 b2 b3 b4 b5
  rw [hdef, ← hb]
  generalize (freqFor (z.rd F.MARGIN_DELAY_D_HUB)).getD 12 = g at c1 c2 c3 c4
  have hzy {f : Fld} (h : f.key < 0x800800800) (hf : F.MARGIN_PLAN_F_APP.key ≠ f.key) : (z.setFreq g).rd f = y.rd f :=
    (c1.rd (by simpa using hf)).trans (b1 f (Or.inl h))
  refine ⟨⟨(hzy (by decide) (by decide)).trans a5, (hzy (by decide) (by decide)).trans a6, ?_⟩, fun j hj => ?_, fun f hf hk => ?_, ⟨g, by rw [c2, b2, a2]⟩,
    c3.trans (b3.trans a3), u, v, c4.trans (b4.trans a4)⟩
  · rw [hzy (by decide) (by decide), hzy (by decide) (by decide), hzy (by decide) (by decide)]; exact a7
  · rw [c1.rd (by simp only [List.mem_singleton, forall_eq]; rw [derateFld_key]; simp only [Fld.key, F.MARGIN_PLAN_F_APP]; omega), b5 j hj]
    obtain ⟨hv, hd⟩ := a1.age (by decide) j
    unfold State.derateVal State.flag
    rw [hv, hd]
  · simp only [List.map_cons, List.map_nil, List.mem_cons, List.not_mem_nil, or_false, not_or] at hf
    obtain ⟨h1, h2, h3, h4⟩ := hf
    rw [c1.rd (by simpa using Ne.symm h4), b1 f hk, a1.rd (by simpa using ⟨Ne.symm h1, Ne.symm h2, Ne.symm h3⟩)]

theorem State.planPower_lt (x : State) : x.planPower < 65536 := by
  unfold State.planPower
  split <;> omega

theorem HearthSt.planned {h y z : HearthSt} {w e : Nat} {p : Nat × Nat} (h1 : y = { h with acc := 0, peak := 0, ePlan := e, want := p })
    (h2 : z = { y with fWant := w }) : z = { h with acc := 0, peak := 0, ePlan := e, want := p, fWant := w } := by
  subst h1; exact h2

theorem State.planMade_kept (x : State) : (x.planMade.rd F.MARGIN_PWR_P_RUN = x.planPower ∧ x.planMade.rd F.MARGIN_ENERGY_E_USE = min 65535 (x.planBudget / 720000000000000) ∧
      x.planMade.rd F.MARGIN_ENERGY_E_PLAN = min 65535 (x.planFor.2.2.2 / 900000000000000) ∧ x.planMade.rd F.MARGIN_STAT_DEFICIT = bit x.planFor.2.2.1 ∧
      x.planMade.rd F.MARGIN_STAT_PLANNING = 0) ∧
    (∃ w, x.planMade.hearth = { x.hearth with acc := 0, peak := 0, ePlan := x.planFor.2.2.2, want := (x.planFor.1, x.planFor.2.1), fWant := w }) ∧
    PlanInForce (x.writePlan x.planPower x.planBudget x.planFor)
      (State.holdTest (x.writePlan x.planPower x.planBudget x.planFor) (x.rd F.PWRMGR_BUS_V_HOLD)) x.planMade ∧
    (x.planFor.2.2.1 = true → Noted x.planMade 2 6 0) ∧ (∀ j, j < 48 → x.planMade.rd (derateFld j) = x.derateVal j) ∧ PlanKept x x.planMade := by
  obtain ⟨y, hy⟩ : ∃ y, y = x.writePlan x.planPower x.planBudget x.planFor := ⟨_, rfl⟩
  obtain ⟨a1, ⟨a2, a3⟩, a4, a5, a6, a7, a8, a9⟩ := x.writePlan_spec x.planBudget x.planFor x.planPower_lt
  obtain ⟨b1, b2, b3, ⟨w, b4⟩, b5, u, v, b6⟩ := y.planForce_spec
  obtain ⟨z, hz⟩ : ∃ z, z = y.planForce := ⟨_, rfl⟩
  have hdef : x.planMade = if x.planFor.2.2.1 then z.marginRecord 2 6 0 else z := by rw [hz, hy, State.planMade]
  rw [← hy] at a1 a2 a3 a4 a5 a6 a7 a8 a9 ⊢
  rw [← hz] at b1 b2 b3 b4 b5 b6
  have hvh : y.rd F.PWRMGR_BUS_V_HOLD = x.rd F.PWRMGR_BUS_V_HOLD := a1.rd (by decide)
  have hrd (f : Fld) : x.planMade.rd f = z.rd f := by rw [hdef]; split <;> rfl
  have hk : x.planMade.hearth = z.hearth ∧ x.planMade.pwr = z.pwr ∧ x.planMade.log.buf = z.log.buf ∧ x.planMade.log.blocks = z.log.blocks ∧
      x.planMade.log.chainIndex = z.log.chainIndex := by rw [hdef]; split <;> exact ⟨rfl, rfl, rfl, rfl, rfl⟩
  obtain ⟨k1, k2, k3, k4, k5⟩ := hk
  clear hz hy
  generalize x.planFor = r at a4 a7 a8 b1 hdef ⊢
  generalize x.planBudget = bud at a6 b1 ⊢
  rw [hvh] at b1
  refine ⟨⟨?_, ?_, ?_, ?_, ?_⟩, ⟨w, k1.trans (HearthSt.planned a4 b4)⟩, ?_, fun h => ?_, fun j hj => ?_, fun f hf => ?_, k2.trans (b5.trans a2), ⟨?_, ?_, ?_⟩, by rw [k1, b4, a4], by rw [k1, b4, a4]⟩
  · rw [hrd, b3 _ (by decide) (by decide)]; exact a5
  · rw [hrd, b3 _ (by decide) (by decide)]; exact a6
  · rw [hrd, b3 _ (by decide) (by decide)]; exact a7
  · rw [hrd, b3 _ (by decide) (by decide)]; exact a8
  · rw [hrd, b3 _ (by decide) (by decide)]; exact a9
  · unfold PlanInForce; rw [hrd, hrd, hrd, hrd]; exact b1
  · rw [hdef, if_pos h]; exact z.marginRecord_noted (by decide)
  · obtain ⟨hv, hd⟩ := a1.age (by decide) j
    rw [hrd, b2 j hj, State.derateVal, State.derateVal, State.flag, State.flag, hv, hd]
  · have hnot := fun fs => hf.not_mem (fs := fs)
    have hoff := hf.1
    rw [hrd, b3 f (hnot _ (by decide)) (by omega), a1 f (hnot _ (by decide))]
  · rw [k3, b6, a3]
  · rw [k4, b6, a3]
  · rw [k5, b6, a3]

/-! ### What a plan comes to -/

/-- The plan that a budget pays for (R395), of a fixed cost, the cost of a KB and of a millisecond. -/
def PlanResult (bud fix kb gr G D g d : Nat) : Prop :=
  (fix + kb * D + gr * G ≤ bud → g = G ∧ d = D) ∧
  (bud < fix + kb * D + gr * G → fix + kb * D ≤ bud → g = (bud - fix - kb * D) / gr ∧ d = D) ∧
  (bud < fix + kb * D → fix + kb * 16 ≤ bud → g = 0 ∧ d = max 16 ((bud - fix) / kb)) ∧
  (bud < fix + kb * D → bud < fix + kb * 16 → g = 0 ∧ d = 16)

/-- The plan that those costs allow: GRACE_MS, DIRTY_KB, DEFICIT and E_PLAN. -/
def planPick (bud fix kb gr G D : Nat) : Nat × Nat × Bool × Nat :=
  let out (grace dirty : Nat) (deficit : Bool) := (grace, dirty, deficit, fix + kb * dirty + gr * grace)
  if fix + kb * D + gr * G ≤ bud then out G D false
  else if fix + kb * D ≤ bud then out ((bud - fix - kb * D) / gr) D false
  else if fix + kb * 16 ≤ bud then out 0 (max 16 ((bud - fix) / kb)) false
  else out 0 16 true

theorem planEnergy_eq (bud p G D : Nat) : planEnergy bud p G D = planPick bud (p * 10301 * 9000000000) (p * 22500000000) (p * 900000000000) G D := by
  unfold planEnergy planPick
  dsimp only

theorem planPick_result {bud fix kb gr G D g d : Nat} (h : PlanResult bud fix kb gr G D g d) :
    planPick bud fix kb gr G D = (g, d, decide (bud < fix + kb * D ∧ bud < fix + kb * 16), fix + kb * d + gr * g) := by
  obtain ⟨h1, h2, h3, h4⟩ := h
  unfold planPick
  dsimp only
  split
  · next hA =>
    obtain ⟨rfl, rfl⟩ := h1 hA
    rw [decide_eq_false (by omega)]
  · next hA =>
    split
    · next hB =>
      obtain ⟨rfl, rfl⟩ := h2 (Nat.lt_of_not_le hA) hB
      rw [decide_eq_false (by omega)]
    · next hB =>
      split
      · next hC =>
        obtain ⟨rfl, rfl⟩ := h3 (Nat.lt_of_not_le hB) hC
        rw [decide_eq_false (by omega)]
      · next hC =>
        obtain ⟨rfl, rfl⟩ := h4 (Nat.lt_of_not_le hB) (Nat.lt_of_not_le hC)
        rw [decide_eq_true ⟨Nat.lt_of_not_le hB, Nat.lt_of_not_le hC⟩]

/-! ### The plan of a command -/

/-- The hold-up pays for `e` at the cell voltage `v` (R378). -/
def State.Enough (s : State) (e v : Nat) : Prop := s.rd F.HEARTH_STAT_AUTH = 2 ∧ 5 * e ≤ 18000000 * (s.rd F.HEARTH_MEAS_C_MEAS * (v * v - 36000000))

theorem State.holdTest_iff (s : State) (v : Nat) : s.holdTest v = true ↔ s.Enough s.hearth.ePlan v := by
  unfold State.holdTest State.Enough State.authOk
  rw [Bool.and_eq_true, beq_iff_eq, decide_eq_true_eq]

/-- What a plan that settles on `w` leaves, `ready` saying that the hold-up pays for it. -/
def Forced (s : State) (w : Nat × Nat) (ready : Prop) (s' : State) : Prop :=
  (ready → s'.rd F.MARGIN_PLAN_GRACE_MS = w.1 % 2 ^ 13 ∧ s'.rd F.MARGIN_PLAN_DIRTY_KB = w.2 % 2 ^ 10) ∧
  (¬ ready → s'.rd F.MARGIN_PLAN_GRACE_MS = min w.1 (s.rd F.MARGIN_PLAN_GRACE_MS) % 2 ^ 13 ∧
    s'.rd F.MARGIN_PLAN_DIRTY_KB = min w.2 (s.rd F.MARGIN_PLAN_DIRTY_KB) % 2 ^ 10) ∧
  s'.rd F.PWRMGR_PF_CFG_GRACE_MS = if s'.rd F.PWRMGR_STAT_HOLDUP_READY = 0 then 0 else s'.rd F.MARGIN_PLAN_GRACE_MS

theorem PlanInForce.forced {x z : State} {b : Bool} {ready : Prop} (h : PlanInForce x b z) (hb : b = true ↔ ready)
    (hg : x.rd F.MARGIN_PLAN_GRACE_MS = s.rd F.MARGIN_PLAN_GRACE_MS) (hd : x.rd F.MARGIN_PLAN_DIRTY_KB = s.rd F.MARGIN_PLAN_DIRTY_KB) : Forced s x.hearth.want ready z := by
  obtain ⟨h1, h2, h3⟩ := h
  unfold State.settledGrace at h1
  unfold State.settledDirty at h2
  rw [hg] at h1
  rw [hd] at h2
  refine ⟨fun hr => ?_, fun hr => ?_, h3⟩
  · have := hb.2 hr
    rw [if_pos this] at h1 h2
    exact ⟨h1, h2⟩
  · have : ¬ b = true := fun e => hr (hb.1 e)
    rw [if_neg this] at h1 h2
    exact ⟨h1, h2⟩

/-- What a full plan at power `p` and budget `bud` leaves. -/
def Planned (s : State) (p bud fix kb gr g d vh : Nat) (s' : State) : Prop :=
  s'.rd F.MARGIN_PWR_P_RUN = p ∧ s'.hearth.ePlan = fix + kb * d + gr * g ∧
  s'.hearth.want = (g, d) ∧ s'.rd F.MARGIN_ENERGY_E_USE = min 65535 (bud / 720000000000000) ∧
  s'.rd F.MARGIN_ENERGY_E_PLAN = min 65535 ((fix + kb * d + gr * g) / 900000000000000) ∧
  s'.rd F.MARGIN_STAT_DEFICIT = (if bud < fix + kb * s.rd F.MARGIN_REQ_DIRTY_REQ ∧ bud < fix + kb * 16 then 1 else 0) ∧
  s'.rd F.MARGIN_STAT_PLANNING = 0 ∧ s'.hearth.acc = 0 ∧ s'.hearth.peak = 0 ∧ Forced s (g, d) (s.Enough (fix + kb * d + gr * g) vh) s' ∧
  (bud < fix + kb * s.rd F.MARGIN_REQ_DIRTY_REQ → bud < fix + kb * 16 → Noted s' 2 6 0) ∧
  ∀ j, j < 48 → Derated s j (s'.rd (derateFld j))

theorem State.planMade_planned (x : State) {s : State} {fix kb gr g d : Nat}
    (hf : fix = x.planPower * 10301 * 9000000000) (hkb : kb = x.planPower * 22500000000) (hgr : gr = x.planPower * 900000000000)
    (hres : PlanResult x.planBudget fix kb gr (s.rd F.MARGIN_REQ_GRACE_REQ) (s.rd F.MARGIN_REQ_DIRTY_REQ) g d)
    (hx : ∀ f : Fld, f.key ≠ F.MARGIN_STAT_SINCE_H.key → f.key ≠ F.PWRMGR_BUS_V_BUS.key → f.key ≠ F.PWRMGR_BUS_V_HOLD.key → x.rd f = s.rd f) :
    Planned s x.planPower x.planBudget fix kb gr g d (x.rd F.PWRMGR_BUS_V_HOLD) x.planMade := by
  have hpick : x.planFor = (g, d, decide (x.planBudget < fix + kb * s.rd F.MARGIN_REQ_DIRTY_REQ ∧ x.planBudget < fix + kb * 16), fix + kb * d + gr * g) := by
    unfold State.planFor
    rw [planEnergy_eq, hx _ (by decide) (by decide) (by decide), hx _ (by decide) (by decide) (by decide), ← hf, ← hkb, ← hgr]
    exact planPick_result hres
  obtain ⟨⟨h1, h2, h3, h4, h5⟩, ⟨w, h6⟩, h7, h8, h9, -⟩ := x.planMade_kept
  obtain ⟨a1, -, a4, -⟩ := x.writePlan_spec x.planBudget x.planFor x.planPower_lt
  rw [hpick] at h3 h4 h6 h7 h8 a1 a4
  dsimp only at h3 h4 h6 h8 a4
  generalize x.writePlan x.planPower x.planBudget _ = y at h7 a1 a4
  have hready : y.holdTest (x.rd F.PWRMGR_BUS_V_HOLD) = true ↔ s.Enough (fix + kb * d + gr * g) (x.rd F.PWRMGR_BUS_V_HOLD) := by
    rw [State.holdTest_iff, a4]
    unfold State.Enough
    rw [a1.rd (by decide), a1.rd (by decide), hx _ (by decide) (by decide) (by decide), hx _ (by decide) (by decide) (by decide)]
  have hforced := h7.forced (s := s) hready ((a1.rd (by decide)).trans (hx _ (by decide) (by decide) (by decide)))
    ((a1.rd (by decide)).trans (hx _ (by decide) (by decide) (by decide)))
  rw [a4] at hforced
  refine ⟨h1, by rw [h6], by rw [h6], h2, h3, ?_, h5, by rw [h6], by rw [h6], hforced, fun hA hB => h8 (decide_eq_true ⟨hA, hB⟩), fun j hj => ?_⟩
  · rw [h4]
    split
    · next h => rw [decide_eq_true h]; rfl
    · next h => rw [decide_eq_false h]; rfl
  · suffices hs : x.derateVal j = s.derateVal j by rw [h9 j hj, hs]; exact s.derated j
    unfold State.derateVal State.flag
    rw [hx (F.CH_AGE_AGE_VALID j) ?_ ?_ ?_, hx (F.CH_AGE_DRIFT j) ?_ ?_ ?_]
    all_goals simp only [ne_eq, Fld.key, F.CH_AGE_AGE_VALID, F.CH_AGE_DRIFT, F.MARGIN_STAT_SINCE_H, F.PWRMGR_BUS_V_BUS, F.PWRMGR_BUS_V_HOLD]; omega

/-! ### RUN and SAFE time -/

/-- RUN and SAFE time up to instant `t` (R394). -/
def State.accAt (s : State) (t : Nat) : Nat :=
  if s.pwr.state = .run ∨ s.pwr.state = .safe then s.hearth.acc + (t - s.hearth.accAt) else s.hearth.acc

theorem State.accrue_hearth (s : State) : s.accrue.hearth = { s.hearth with acc := s.accAt s.now, accAt := s.now } := by
  obtain ⟨-, -, -, -, h⟩ := s.accrue_spec
  rw [h]
  unfold State.accAt
  simp only [Bool.or_eq_true, beq_iff_eq]

/-- The power that a plan at instant `t` counts with (R393). -/
def State.powerAt (s : State) (t : Nat) : Nat := if s.accAt t < 3600000000000 then 460 else min s.hearth.peak 65535

/-- The energy that a plan at instant `t` may spend (R390, R393). -/
def State.budgetAt (s : State) (t : Nat) : Nat :=
  (if s.rd F.HEARTH_STAT_AUTH = 2 then s.rd F.HEARTH_MEAS_C_MEAS else 0) * (s.hearth.vFull * s.hearth.vFull - 36000000) *
    (3600000 - s.powerAt t * s.rd F.HEARTH_MEAS_ESR_MEAS)

/-- The plan of a state whose RUN and SAFE time is counted up to `t`. -/
theorem State.planMade_at {x : State} {g d : Nat} (hh : x.hearth = { s.hearth with acc := s.accAt t, accAt := t })
    (hx : ∀ f : Fld, f.key ≠ F.MARGIN_STAT_SINCE_H.key → f.key ≠ F.PWRMGR_BUS_V_BUS.key → f.key ≠ F.PWRMGR_BUS_V_HOLD.key → x.rd f = s.rd f)
    (hres : PlanResult (s.budgetAt t) (s.powerAt t * 10301 * 9000000000) (s.powerAt t * 22500000000) (s.powerAt t * 900000000000) (s.rd F.MARGIN_REQ_GRACE_REQ)
      (s.rd F.MARGIN_REQ_DIRTY_REQ) g d) :
    Planned s (s.powerAt t) (s.budgetAt t) (s.powerAt t * 10301 * 9000000000) (s.powerAt t * 22500000000) (s.powerAt t * 900000000000) g d
      (x.rd F.PWRMGR_BUS_V_HOLD) x.planMade := by
  have hp : x.planPower = s.powerAt t := by unfold State.planPower State.powerAt; rw [hh]; rfl
  have hb : x.planBudget = s.budgetAt t := by
    unfold State.planBudget State.budgetAt State.authOk energyBudget
    rw [hp, hh, hx _ (by decide) (by decide) (by decide), hx _ (by decide) (by decide) (by decide), hx _ (by decide) (by decide) (by decide)]
    simp only [beq_iff_eq]
  have := x.planMade_planned (s := s) (g := g) (d := d) rfl rfl rfl (by rw [hp, hb]; exact hres) hx
  rw [hp, hb] at this
  exact this

theorem inPowerFail_iff : s.inPowerFail = true ↔ s.pwr.state = .powerFail ∨ s.pwr.pfInEntry = true := by
  unfold State.inPowerFail
  rw [Bool.or_eq_true, beq_iff_eq]

section
variable {x : Nat} (hc : a.attic = true ∧ a.inst = 0 ∧ (s.tick t).passes x a true = true)
include hc

/-- A command of the Attic's instance 0 that the regions let pass. -/
theorem ends_atticCmd {c : Instr} {eff : State → State} {P : State → Prop} (he : exec c s = .next ((s.tick t).guarded a x true a.attic0 eff)) (h : P (eff (s.tick t).okay)) :
    Ends c s P := by
  obtain ⟨ha, hi, hp⟩ := hc
  exact ends_guarded he hp (by rw [Attr.attic0, ha, hi]; rfl) h

end

theorem replan_planned {g d : Nat} (hc : a.attic = true ∧ a.inst = 0 ∧ (s.tick t).passes 0x40040004 a true = true)
    (hpf : ¬ (s.pwr.state = .powerFail ∨ s.pwr.pfInEntry = true))
    (hres : PlanResult (s.budgetAt t) (s.powerAt t * 10301 * 9000000000) (s.powerAt t * 22500000000) (s.powerAt t * 900000000000) (s.rd F.MARGIN_REQ_GRACE_REQ)
      (s.rd F.MARGIN_REQ_DIRTY_REQ) g d) :
    Ends (.replan t a) s (Planned s (s.powerAt t) (s.budgetAt t) (s.powerAt t * 10301 * 9000000000) (s.powerAt t * 22500000000) (s.powerAt t * 900000000000) g d
      (s.rd F.PWRMGR_BUS_V_HOLD)) := by
  have hn : ¬ (s.tick t).okay.inPowerFail = true := fun h => hpf (inPowerFail_iff.1 h)
  refine ends_atticCmd hc (arm_replan ..) ?_
  rw [if_neg hn, State.fullPlan_eq]
  obtain ⟨a1, -⟩ := (s.tick t).okay.accrue_spec
  have hv : (s.tick t).okay.accrue.rd F.PWRMGR_BUS_V_HOLD = s.rd F.PWRMGR_BUS_V_HOLD := a1.rd (by decide)
  have := State.planMade_at (s := s) (t := t) (x := (s.tick t).okay.accrue) (State.accrue_hearth _) (fun f h1 _ _ => a1 f (by simpa using h1)) hres
  rw [hv] at this
  exact this

/-! ### Test discharges -/

/-- May a test discharge begin (R392)? -/
def State.TestMay (s : State) (vBus vHold : Nat) : Prop := s.pwr.hubUp = true ∧ s.hearth.fitted = true ∧ s.hearth.testAt = none ∧
  ¬ (s.pwr.state = .powerFail ∨ s.pwr.pfInEntry = true) ∧ 15500 ≤ vHold ∧ 1800 ≤ vBus

theorem State.testMay_iff {vBus vHold : Nat} : s.testMay vBus vHold = true ↔ s.TestMay vBus vHold := by
  unfold State.testMay State.TestMay
  rw [← inPowerFail_iff]
  simp only [Bool.and_eq_true, Option.isNone_iff_eq_none, Bool.not_eq_true', decide_eq_true_eq, Bool.not_eq_true, and_assoc]

theorem State.volts_only (s : State) (t vBus vHold : Nat) : OnlyRegs s t [F.PWRMGR_BUS_V_BUS, F.PWRMGR_BUS_V_HOLD] ((s.tick t).volts vBus vHold) ∧
    ((s.tick t).volts vBus vHold).rd F.PWRMGR_BUS_V_BUS = min vBus 65535 ∧ ((s.tick t).volts vBus vHold).rd F.PWRMGR_BUS_V_HOLD = min vHold 65535 := by
  refine ⟨((OnlyRegs.tick s t _).wr _ (by simp)).wr _ (by simp), ?_, State.rd_wr_lt _ (by change _ < 2 ^ 16; omega)⟩
  exact (State.rd_wr_ne _ _ (by decide)).trans ((s.tick t).rd_wr_lt (by change _ < 2 ^ 16; omega))

/-- What a test discharge that begins leaves. -/
def TestBegun (s : State) (t : Nat) (plan : Bool) (s' : State) : Prop := s'.rd F.HEARTH_STAT_TESTING = 1 ∧ s'.rd F.PWRMGR_STAT_CHARGING = 0 ∧
  s'.hearth.testAt = some t ∧ s'.hearth.testPlan = plan ∧ s'.hearth.firstTest = false ∧ s'.log = s.log

theorem State.testBegin_begun (s : State) (plan : Bool) : TestBegun s s.now plan (s.testBegin plan) := by
  refine ⟨?_, State.rd_clrF_self (s.setF F.HEARTH_STAT_TESTING) F.PWRMGR_STAT_CHARGING, rfl, rfl, rfl, rfl⟩
  exact (State.rd_clrF_ne (s.setF F.HEARTH_STAT_TESTING) (f := F.PWRMGR_STAT_CHARGING) (by decide)).trans (s.rd_setF_self F.HEARTH_STAT_TESTING)

/-- The supply's readings alone. -/
def VoltsRead (s : State) (t vBus vHold : Nat) (s' : State) : Prop := OnlyRegs s t [F.PWRMGR_BUS_V_BUS, F.PWRMGR_BUS_V_HOLD] s' ∧
  s'.rd F.PWRMGR_BUS_V_BUS = min vBus 65535 ∧ s'.rd F.PWRMGR_BUS_V_HOLD = min vHold 65535

section
variable {vBus vHold : Nat}

theorem measure_spec (hc : a.attic = true ∧ a.inst = 0 ∧ (s.tick t).passes 0x40030004 a true = true) :
    (s.TestMay vBus vHold → Ends (.measure t a vBus vHold) s (TestBegun s t false)) ∧
    (¬ s.TestMay vBus vHold → Ends (.measure t a vBus vHold) s (VoltsRead s t vBus vHold)) := by
  have hm : (s.tick t).okay.testMay vBus vHold = true ↔ s.TestMay vBus vHold := State.testMay_iff (s := (s.tick t).okay)
  constructor <;> intro h <;> refine ends_atticCmd hc (arm_measure ..) ?_
  · rw [if_pos (hm.2 h)]
    exact State.testBegin_begun ((s.tick t).okay.volts vBus vHold) false
  · rw [if_neg fun e => h (hm.1 e)]
    obtain ⟨h1, h2, h3⟩ := s.volts_only t vBus vHold
    exact ⟨⟨h1.1, h1.2⟩, h2, h3⟩

theorem testDischargeStart_spec : (s.hearth.firstTest = true → s.TestMay vBus vHold → Ends (.testDischargeStart t vBus vHold) s (TestBegun s t false)) ∧
    (s.hearth.firstTest = false ∨ ¬ s.TestMay vBus vHold → Ends (.testDischargeStart t vBus vHold) s (VoltsRead s t vBus vHold)) := by
  have hm : ((s.tick t).volts vBus vHold).testMay vBus vHold = true ↔ s.TestMay vBus vHold := State.testMay_iff (s := (s.tick t).volts vBus vHold)
  have he : exec (.testDischargeStart t vBus vHold) s = .next (if s.hearth.firstTest = true ∧ ((s.tick t).volts vBus vHold).testMay vBus vHold = true then
    ((s.tick t).volts vBus vHold).testBegin false else (s.tick t).volts vBus vHold) := rfl
  refine ⟨fun h1 h2 => ends_next he ?_, fun h => ends_next he ?_⟩
  · rw [if_pos ⟨h1, hm.2 h2⟩]
    exact State.testBegin_begun ((s.tick t).volts vBus vHold) false
  · rw [if_neg fun e => h.elim (fun h => by rw [h] at e; exact nomatch e.1) fun h => h (hm.1 e.2)]
    exact s.volts_only t vBus vHold

/-- Once a day a test discharge begins, or the plan is made at once (R392, R394). -/
theorem planTimer_spec (htp : s.hearth.testPlan = false) (hu : s.pwr.hubUp = true) (hpf : ¬ (s.pwr.state = .powerFail ∨ s.pwr.pfInEntry = true))
    (hacc : 86400000000000 ≤ s.accAt t) :
    (s.TestMay vBus vHold → Ends (.planTimer t vBus vHold) s fun s' => s'.rd F.HEARTH_STAT_TESTING = 1 ∧ s'.hearth.testAt = some t ∧
      s'.hearth.testPlan = true ∧ s'.rd F.MARGIN_STAT_PLANNING = 1) ∧
    (¬ s.TestMay vBus vHold → ∀ g d, PlanResult (s.budgetAt t) (s.powerAt t * 10301 * 9000000000) (s.powerAt t * 22500000000) (s.powerAt t * 900000000000)
        (s.rd F.MARGIN_REQ_GRACE_REQ) (s.rd F.MARGIN_REQ_DIRTY_REQ) g d →
      Ends (.planTimer t vBus vHold) s (Planned s (s.powerAt t) (s.budgetAt t) (s.powerAt t * 10301 * 9000000000) (s.powerAt t * 22500000000)
        (s.powerAt t * 900000000000) g d (min vHold 65535))) := by
  obtain ⟨y, hy⟩ : ∃ y, y = ((s.tick t).volts vBus vHold).accrue := ⟨_, rfl⟩
  obtain ⟨a1, a2, -, a4, -⟩ := ((s.tick t).volts vBus vHold).accrue_spec
  have hyh : y.hearth = { s.hearth with acc := s.accAt t, accAt := t } := by rw [hy, State.accrue_hearth]; rfl
  obtain ⟨v1, -, v3⟩ := s.volts_only t vBus vHold
  rw [← hy] at a1 a2 a4
  have hyp : y.pwr = s.pwr := a2
  have hyn : y.now = t := a4
  have hm : y.testMay vBus vHold = true ↔ s.TestMay vBus vHold := by
    rw [State.testMay_iff]; unfold State.TestMay; rw [hyp, hyh]
  have hgo : ¬ (y.hearth.acc < secs 86400 ∨ y.hearth.testPlan = true ∨ (!y.pwr.hubUp) = true ∨ y.inPowerFail = true) := by
    rw [inPowerFail_iff, hyp, hyh, hu]
    dsimp only
    rw [htp]
    rintro (h | h | h | h)
    · exact Nat.not_le.2 h hacc
    · exact nomatch h
    · exact nomatch h
    · exact hpf h
  have he : exec (.planTimer t vBus vHold) s = .next (if y.testMay vBus vHold then (y.testBegin true).setF F.MARGIN_STAT_PLANNING else y.fullPlan) := by
    rw [arm_planTimer, execPlanTimer, ← hy]
    rw [if_neg hgo]
  refine ⟨fun h => ends_next he ?_, fun h g d hres => ends_next he ?_⟩
  · rw [if_pos (hm.2 h)]
    obtain ⟨b1, -, b3, b4, -⟩ := y.testBegin_begun true
    refine ⟨(State.rd_setF_ne _ (by decide)).trans b1, b3.trans (by rw [hyn]), b4, State.rd_setF_self _ F.MARGIN_STAT_PLANNING⟩
  · rw [if_neg fun e => h (hm.1 e), State.fullPlan_eq]
    obtain ⟨b1, -⟩ := y.accrue_spec
    have hxh : y.accrue.hearth = { s.hearth with acc := s.accAt t, accAt := t } := by
      have hacc' : y.accAt t = s.accAt t := by
        have h1 : y.hearth.acc = s.accAt t := by rw [hyh]
        have h2 : y.hearth.accAt = t := by rw [hyh]
        rw [State.accAt, h1, h2, Nat.sub_self, Nat.add_zero, ite_self]
      rw [State.accrue_hearth, hyn, hacc', hyh]
    have hx (f : Fld) (h1 : f.key ≠ F.MARGIN_STAT_SINCE_H.key) (h2 : f.key ≠ F.PWRMGR_BUS_V_BUS.key) (h3 : f.key ≠ F.PWRMGR_BUS_V_HOLD.key) : y.accrue.rd f = s.rd f := by
      rw [b1 f (by simpa using h1), a1 f (by simpa using h1)]
      exact v1.2 f (by simpa using ⟨h2, h3⟩)
    have hv : y.accrue.rd F.PWRMGR_BUS_V_HOLD = min vHold 65535 := (b1.rd (by decide)).trans ((a1.rd (by decide)).trans v3)
    have := State.planMade_at (s := s) (t := t) (x := y.accrue) hxh hx hres
    rw [hv] at this
    exact this

end

/-! ### The end of a test discharge -/

/-- What a step leaves of the state beside registers and records. -/
def HearthKept (s s' : State) : Prop := s'.hearth = s.hearth ∧ s'.pwr = s.pwr ∧ ∃ p, s'.log = { s.log with ports := p }

theorem State.eolCheck_spec (s : State) : RegsBut [F.HEARTH_STAT_EOL] s s.eolCheck ∧ HearthKept s s.eolCheck ∧
    (s.authOk = true → s.atEol = true → s.eolCheck.rd F.HEARTH_STAT_EOL ≠ 0) ∧
    (s.authOk = true → s.rd F.HEARTH_STAT_EOL = 0 → s.eolCheck.rd F.HEARTH_STAT_EOL = if s.atEol = true then 1 else 0) := by
  have h1 (x y z : Nat) : ((s.setF F.HEARTH_STAT_EOL).marginRecord x y z).rd F.HEARTH_STAT_EOL = 1 := s.rd_setF_self F.HEARTH_STAT_EOL
  unfold State.eolCheck
  split
  · next h =>
    refine ⟨(RegsBut.refl _ s).wr (f := F.HEARTH_STAT_EOL) 1 (by simp), ⟨rfl, rfl, _, rfl⟩, fun _ _ => by rw [h1]; decide, fun _ _ => ?_⟩
    rw [h1, if_pos h.2.1]
  · next h =>
    refine ⟨RegsBut.refl _ s, ⟨rfl, rfl, s.log.ports, rfl⟩, fun ha he h0 => h ⟨ha, he, by rw [State.flag_eq_false.2 h0]; rfl⟩, fun ha h0 => ?_⟩
    rw [h0, if_neg fun he => h ⟨ha, he, by rw [State.flag_eq_false.2 h0]; rfl⟩]

theorem State.fullPlan_kept (s : State) : PlanKept s s.fullPlan := by
  obtain ⟨a1, a2, a3, -⟩ := s.accrue_spec
  have hacc : PlanKept s s.accrue := ⟨fun f hf => a1 f (hf.not_mem (by decide)), a2, by rw [a3]; exact ⟨rfl, rfl, rfl⟩, by rw [State.accrue_hearth]; exact ⟨rfl, rfl⟩⟩
  rw [State.fullPlan_eq]
  exact hacc.trans s.accrue.planMade_kept.2.2.2.2.2

theorem testDischargeComplete_early {t0 stepUv fallUv : Nat} (h : s.hearth.testAt = some t0) (ht : t < t0 + 200000000) :
    Ends (.testDischargeComplete t stepUv fallUv) s fun s' => s' = s.tick t := by
  have hc : (!(s.tick t).closed t0 (ms 200)) = true := by
    rw [State.closed, decide_eq_false (show ¬ t0 + ms 200 ≤ (s.tick t).now from Nat.not_le.2 ht)]; rfl
  have he : exec (.testDischargeComplete t stepUv fallUv) s = .next (s.tick t) := by
    rw [arm_testDischargeComplete, execTestDischargeComplete]
    rw [show (s.tick t).hearth.testAt = some t0 from h]
    dsimp only
    rw [if_pos hc]
  exact ends_next he rfl

/-- The capacitance that a fall of `f` µV shows (R392). -/
def cOfFall (f : Nat) : Nat := if f = 0 then 65535 else min 65535 (400000000 / f)

theorem testDischargeComplete_done {t0 stepUv fallUv : Nat} (h : s.hearth.testAt = some t0) (ht : t0 + 200000000 ≤ t) :
    Ends (.testDischargeComplete t stepUv fallUv) s fun s' => s'.rd F.HEARTH_MEAS_ESR_MEAS = min 65535 (stepUv / 200) ∧
      s'.rd F.HEARTH_MEAS_C_MEAS = cOfFall fallUv ∧ s'.rd F.HEARTH_STAT_TESTING = 0 ∧ s'.hearth.testAt = none := by
  obtain ⟨x, hx⟩ : ∃ x, x = (((s.tick t).wr F.HEARTH_MEAS_ESR_MEAS (min 65535 (stepUv / 200))).wr F.HEARTH_MEAS_C_MEAS (cOfFall fallUv)).hearthAbort := ⟨_, rfl⟩
  obtain ⟨y, hy⟩ : ∃ y, y = if 1800 ≤ x.eolCheck.rd F.PWRMGR_BUS_V_BUS then x.eolCheck.setF F.PWRMGR_STAT_CHARGING else x.eolCheck := ⟨_, rfl⟩
  have hc : ¬ (!(s.tick t).closed t0 (ms 200)) = true := by
    rw [State.closed, decide_eq_true (show t0 + ms 200 ≤ (s.tick t).now from ht)]; decide
  have he : exec (.testDischargeComplete t stepUv fallUv) s = .next (if s.hearth.testPlan then y.fullPlan else y) := by
    rw [arm_testDischargeComplete, execTestDischargeComplete]
    rw [show (s.tick t).hearth.testAt = some t0 from h]
    dsimp only
    rw [if_neg hc, hy, hx]
    rfl
  have hcl : cOfFall fallUv < 65536 := by unfold cOfFall; split <;> omega
  have x1 : x.rd F.HEARTH_MEAS_ESR_MEAS = min 65535 (stepUv / 200) := by
    rw [hx]
    refine (State.rd_clrF_ne _ (f := F.MARGIN_STAT_PLANNING) (by decide)).trans ?_
    rw [State.rd_clrF_ne _ (by decide), State.rd_wr_ne _ _ (by decide)]
    exact State.rd_wr_lt _ (by change _ < 2 ^ 16; omega)
  have x2 : x.rd F.HEARTH_MEAS_C_MEAS = cOfFall fallUv := by
    rw [hx]
    refine (State.rd_clrF_ne _ (f := F.MARGIN_STAT_PLANNING) (by decide)).trans ?_
    rw [State.rd_clrF_ne _ (by decide)]
    exact State.rd_wr_lt _ hcl
  have x3 : x.rd F.HEARTH_STAT_TESTING = 0 := by
    rw [hx]
    refine (State.rd_clrF_ne _ (f := F.MARGIN_STAT_PLANNING) (by decide)).trans ?_
    exact State.rd_clrF_self ..
  have x4 : x.hearth.testAt = none := by rw [hx]; rfl
  obtain ⟨e1, ⟨e2, -⟩, -⟩ := x.eolCheck_spec
  have yk : RegsBut [F.PWRMGR_STAT_CHARGING] x.eolCheck y ∧ y.hearth = x.eolCheck.hearth := by
    rw [hy]; split
    · exact ⟨(RegsBut.refl _ _).wr _ (by simp), rfl⟩
    · exact ⟨RegsBut.refl _ _, rfl⟩
  obtain ⟨y1, y2⟩ := yk
  have hyx {f : Fld} (h1 : F.PWRMGR_STAT_CHARGING.key ≠ f.key) (h2 : F.HEARTH_STAT_EOL.key ≠ f.key) : y.rd f = x.rd f :=
    (y1.rd (by simpa using h1)).trans (e1.rd (by simpa using h2))
  have hend {f : Fld} (hf : OffPlan f) : State.rd (if s.hearth.testPlan then y.fullPlan else y) f = y.rd f := by
    split
    · exact y.fullPlan_kept.1 f hf
    · rfl
  refine ends_next he ⟨?_, ?_, ?_, ?_⟩
  · rw [hend ⟨by decide, by decide⟩, hyx (by decide) (by decide)]; exact x1
  · rw [hend ⟨by decide, by decide⟩, hyx (by decide) (by decide)]; exact x2
  · rw [hend ⟨by decide, by decide⟩, hyx (by decide) (by decide)]; exact x3
  · have hyt : y.hearth.testAt = none := by rw [y2, e2]; exact x4
    split
    · exact y.fullPlan_kept.2.2.2.1.trans hyt
    · exact hyt

/-! ### HOLDUP_READY -/

theorem State.setReady_spec (s : State) (b : Bool) : RegsBut [F.PWRMGR_STAT_HOLDUP_READY, F.MARGIN_PLAN_GRACE_MS, F.MARGIN_PLAN_DIRTY_KB, F.PWRMGR_PF_CFG_GRACE_MS] s (s.setReady b) ∧
    ((s.setReady b).hearth = s.hearth ∧ ∃ u v, (s.setReady b).log = { s.log with flushing := u, pendFlush := v }) ∧
    (s.setReady b).rd F.PWRMGR_STAT_HOLDUP_READY = bit b ∧ PlanInForce s b (s.setReady b) ∧ (s.rd F.REC_STAT_MOUNTED = 0 → (s.setReady b).log = s.log) := by
  obtain ⟨m, hm⟩ : ∃ m, m = s.wr F.PWRMGR_STAT_HOLDUP_READY (bit b) := ⟨_, rfl⟩
  have hmr : RegsBut [F.PWRMGR_STAT_HOLDUP_READY] s m := by rw [hm]; exact (RegsBut.refl _ s).wr _ (by simp)
  have hmk : m.hearth = s.hearth ∧ m.log = s.log := by rw [hm]; exact ⟨rfl, rfl⟩
  have hmb : m.rd F.PWRMGR_STAT_HOLDUP_READY = bit b := by rw [hm]; exact s.rd_wr_lt (by cases b <;> decide)
  have hdef : s.setReady b = m.settlePlan b := by rw [hm]; rfl
  obtain ⟨a1, ⟨a2, -, u, v, a4⟩, ⟨a5, a6, a7⟩, a8⟩ := m.settlePlan_spec b
  have hg : m.settledGrace b = s.settledGrace b := by unfold State.settledGrace; rw [hmk.1, hmr.rd (by decide)]
  have hd : m.settledDirty b = s.settledDirty b := by unfold State.settledDirty; rw [hmk.1, hmr.rd (by decide)]
  rw [hdef]
  rw [hg] at a5
  rw [hd] at a6
  refine ⟨fun f hf => ?_, ⟨a2.trans hmk.1, u, v, by rw [a4, hmk.2]⟩, (a1.rd (by decide)).trans hmb, ⟨a5, a6, a7⟩, fun h => (a8 ((hmr.rd (by decide)).trans h)).trans hmk.2⟩
  rw [List.map_cons, List.mem_cons, not_or] at hf
  rw [a1 f hf.2, hmr f (by simpa using hf.1)]

theorem holdupRetest_spec {vHold : Nat} (ha : s.pwr.state = .run ∨ s.pwr.state = .safe) (hr : s.rd F.PWRMGR_STAT_HOLDUP_READY = 0) :
    (s.Enough s.hearth.ePlan vHold → Ends (.holdupRetest t vHold) s fun s' => s'.rd F.PWRMGR_STAT_HOLDUP_READY = 1 ∧ Forced s s.hearth.want True s') ∧
    (¬ s.Enough s.hearth.ePlan vHold → Ends (.holdupRetest t vHold) s fun s' => s'.rd F.PWRMGR_STAT_HOLDUP_READY = 0 ∧ s'.rd F.PWRMGR_PF_CFG_GRACE_MS = 0) := by
  obtain ⟨x, hx⟩ : ∃ x, x = (s.tick t).wr F.PWRMGR_BUS_V_HOLD (min vHold 65535) := ⟨_, rfl⟩
  have hxr : RegsBut [F.PWRMGR_BUS_V_HOLD] s x := by rw [hx]; exact (RegsBut.refl _ (s.tick t)).wr _ (by simp)
  have hxk : x.hearth = s.hearth ∧ x.pwr = s.pwr := by rw [hx]; exact ⟨rfl, rfl⟩
  have hn : ¬ (x.flag F.PWRMGR_STAT_HOLDUP_READY = true ∨ (!(x.pwr.state == .run || x.pwr.state == .safe)) = true) := by
    rw [hxk.2, State.flag_eq_false.2 ((hxr.rd (by decide)).trans hr)]
    rcases ha with h | h <;> rw [h] <;> decide
  have he : exec (.holdupRetest t vHold) s = .next (if x.holdTest vHold then x.setReady true else x.setReady false) := by
    rw [arm_holdupRetest, execHoldupRetest, ← hx, if_neg hn]
  have htest : x.holdTest vHold = true ↔ s.Enough s.hearth.ePlan vHold := by
    rw [State.holdTest_iff, hxk.1]
    unfold State.Enough
    rw [hxr.rd (by decide), hxr.rd (by decide)]
  refine ⟨fun h => ends_next he ?_, fun h => ends_next he ?_⟩
  · rw [if_pos (htest.2 h)]
    obtain ⟨-, -, b3, b4, -⟩ := x.setReady_spec true
    have := b4.forced (s := s) (ready := True) (by simp) (hxr.rd (by decide)) (hxr.rd (by decide))
    rw [hxk.1] at this
    exact ⟨b3, this⟩
  · rw [if_neg fun e => h (htest.1 e)]
    obtain ⟨-, -, b3, ⟨-, -, b4⟩, -⟩ := x.setReady_spec false
    have b0 : (x.setReady false).rd F.PWRMGR_STAT_HOLDUP_READY = 0 := b3
    exact ⟨b0, by rw [b4, if_pos b0]⟩

/-! ### Flash refresh -/

theorem foldl_snd_sum (l : List (Nat × Nat)) (n : Nat) : l.foldl (fun n r => n + r.2) n = n + (l.map Prod.snd).sum := by
  induction l generalizing n with
  | nil => rfl
  | cons x l ih => rw [List.foldl_cons, ih, List.map_cons, List.sum_cons]; omega

/-- The least margin of a refresh is taken. -/
def State.marginMin (s : State) (o : Option Nat) : State := match o with | some m => s.wr F.HEARTH_FLASH_MARGIN_MIN (min m 255) | none => s

theorem flashRefresh_spec {wear m : Nat} {regions : List (Nat × Nat)} (ha : s.rd F.HEARTH_STAT_AUTH = 2) (h7 : 7 ∈ s.pwr.stagesDone) :
    Ends (.flashRefresh t wear regions) s fun s' => s'.rd F.HEARTH_FLASH_WEAR = min wear 255 ∧
      s'.rd F.HEARTH_FLASH_REFRESHED = satAdd 16 (s.rd F.HEARTH_FLASH_REFRESHED) ((regions.filter fun x => decide (x.1 < 25)).map Prod.snd).sum ∧
      ((regions.map Prod.fst).min? = some m → s'.rd F.HEARTH_FLASH_MARGIN_MIN = min m 255) ∧ (90 ≤ wear → s'.rd F.HEARTH_STAT_EOL ≠ 0) := by
  obtain ⟨n, hn⟩ : ∃ n, n = ((regions.filter fun x => decide (x.1 < 25)).map Prod.snd).sum := ⟨_, rfl⟩
  obtain ⟨x, hx⟩ : ∃ x, x = (s.tick t).wr F.HEARTH_FLASH_WEAR (min wear 255) := ⟨_, rfl⟩
  obtain ⟨y, hy⟩ : ∃ y, y = x.marginMin (regions.map Prod.fst).min? := ⟨_, rfl⟩
  obtain ⟨z, hz⟩ : ∃ z, z = y.incBy F.HEARTH_FLASH_REFRESHED n := ⟨_, rfl⟩
  have hgo : ¬ ((!(s.tick t).authOk) = true ∨ (!(s.tick t).pwr.stagesDone.contains 7) = true) := by
    rw [show (s.tick t).authOk = true from beq_iff_eq.2 ha, show (s.tick t).pwr.stagesDone.contains 7 = true from List.contains_iff_mem.2 h7]
    decide
  have he : exec (.flashRefresh t wear regions) s = .next z.eolCheck := by
    rw [arm_flashRefresh, execFlashRefresh]
    dsimp only
    rw [if_neg hgo, foldl_snd_sum, Nat.zero_add, hz, hy, hx, hn]
    rfl
  have hyr : RegsBut [F.HEARTH_FLASH_MARGIN_MIN] x y := by
    rw [hy]; unfold State.marginMin; split
    · exact (RegsBut.refl _ x).wr _ (by simp)
    · exact RegsBut.refl _ x
  have hzr : RegsBut [F.HEARTH_FLASH_REFRESHED] y z := by rw [hz]; exact (RegsBut.refl _ y).wr _ (by simp)
  have hxr : RegsBut [F.HEARTH_FLASH_WEAR] s x := by rw [hx]; exact (RegsBut.refl _ (s.tick t)).wr _ (by simp)
  have zw : z.rd F.HEARTH_FLASH_WEAR = min wear 255 := by
    rw [hzr.rd (by decide), hyr.rd (by decide), hx]; exact (s.tick t).rd_wr_lt (by change _ < 2 ^ 8; omega)
  have za : z.authOk = true := by
    unfold State.authOk
    rw [hzr.rd (by decide), hyr.rd (by decide), hxr.rd (by decide), ha]; rfl
  obtain ⟨e1, -, e3, -⟩ := z.eolCheck_spec
  refine ends_next he ⟨(e1.rd (by decide)).trans zw, (e1.rd (by decide)).trans ?_, fun hm => (e1.rd (by decide)).trans ?_, fun hw => e3 za ?_⟩
  · have hsat : satAdd 16 (y.rd F.HEARTH_FLASH_REFRESHED) n < 2 ^ 16 := by unfold satAdd; split <;> omega
    rw [hz, State.incBy]
    refine (y.rd_wr_lt hsat).trans ?_
    rw [hyr.rd (by decide), hxr.rd (by decide), hn]; rfl
  · rw [hzr.rd (by decide), hy, hm]
    exact x.rd_wr_lt (by change _ < 2 ^ 8; omega)
  · unfold State.atEol
    rw [decide_eq_true_eq, zw]; omega

/-! ### Fitting and removing a cartridge -/

theorem cartInsert_spec (hf : s.hearth.fitted = false) : Ends (.cartInsert t) s fun s' => s'.hearth = { s.hearth with fitted := true, swFrom := t + 50000000 } ∧
    (s.pwr.hubUp = true → OnlyRegs { s with hearth := s'.hearth } t [F.HEARTH_STAT_AUTH] s' ∧ s'.rd F.HEARTH_STAT_AUTH = 1) := by
  obtain ⟨x, hx⟩ : ∃ x : State, x = { s.tick t with hearth := { s.hearth with fitted := true, swFrom := t + 50000000 } } := ⟨_, rfl⟩
  have he : exec (.cartInsert t) s = .next (if s.pwr.hubUp then x.wr F.HEARTH_STAT_AUTH 1 else x) := by
    have hn : ¬ (s.tick t).hearth.fitted = true := by rw [show (s.tick t).hearth.fitted = false from hf]; decide
    rw [arm_cartInsert, execCartInsert, if_neg hn, hx]
    rfl
  refine ends_next he ?_
  by_cases hu : s.pwr.hubUp = true
  · rw [if_pos hu, hx]
    exact ⟨rfl, fun _ => ⟨⟨rfl, fun f hf => (s.tick t).rd_wr_ne (f := F.HEARTH_STAT_AUTH) 1 fun e => hf (by simp [e])⟩, (s.tick t).rd_wr_lt (f := F.HEARTH_STAT_AUTH) (v := 1) (by decide)⟩⟩
  · rw [if_neg hu, hx]
    exact ⟨rfl, fun h => absurd h hu⟩

theorem State.switchCount_spec (s : State) : HearthKept s s.switchCount := by
  unfold State.switchCount
  split
  · exact ⟨rfl, rfl, s.log.ports, rfl⟩
  · split
    · obtain ⟨h1, h2, p, h3⟩ := (s.inc F.HEARTH_LIFE_EVENTS).eolCheck_spec.2.1
      exact ⟨h1, h2, p, h3⟩
    · exact ⟨rfl, rfl, s.log.ports, rfl⟩

theorem RegsBut.clrF {fs : List Fld} {f : Fld} (h : RegsBut fs s s') (hf : f.key ∈ fs.map Fld.key) : RegsBut fs s (s'.clrF f) := h.wr 0 hf

theorem State.noCartridge_spec (s : State) : (s.noCartridge.hearth = s.hearth ∧ s.noCartridge.pwr = s.pwr ∧ s.noCartridge.log = s.log) ∧
    s.noCartridge.rd F.HEARTH_STAT_AUTH = 0 ∧ s.noCartridge.rd F.HEARTH_STAT_REMOVE_OK = 0 ∧ s.noCartridge.rd F.PWRMGR_STAT_CHARGING = 0 ∧
    s.noCartridge.rd F.REC_STAT_MOUNTED = s.rd F.REC_STAT_MOUNTED := by
  obtain ⟨x, hx⟩ : ∃ x, x = ((s.clrF F.HEARTH_STAT_AUTH).clrF F.HEARTH_STAT_REMOVE_OK).clrF F.HEARTH_STAT_EOL := ⟨_, rfl⟩
  obtain ⟨y, hy⟩ : ∃ y, y = (((((x.clrF (F.HEARTH_SERIAL_SERIAL 0)).clrF (F.HEARTH_SERIAL_SERIAL 1)).clrF F.HEARTH_MEAS_C_MEAS).clrF F.HEARTH_MEAS_ESR_MEAS).clrF
    F.HEARTH_LIFE_AGE_DAYS).clrF F.HEARTH_LIFE_EVENTS := ⟨_, rfl⟩
  have hdef : s.noCartridge = (y.clrF F.HEARTH_STAT_REFRESHING).clrF F.PWRMGR_STAT_CHARGING := by rw [hy, hx]; rfl
  have xk : x.hearth = s.hearth ∧ x.pwr = s.pwr ∧ x.log = s.log := by rw [hx]; exact ⟨rfl, rfl, rfl⟩
  have yk : y.hearth = x.hearth ∧ y.pwr = x.pwr ∧ y.log = x.log := by
    rw [hy]; simp only [State.clrF, State.wr_hearth, State.wr_pwr, State.wr_log, and_self]
  have yr : RegsBut [F.HEARTH_SERIAL_SERIAL 0, F.HEARTH_SERIAL_SERIAL 1, F.HEARTH_MEAS_C_MEAS, F.HEARTH_MEAS_ESR_MEAS, F.HEARTH_LIFE_AGE_DAYS, F.HEARTH_LIFE_EVENTS] x y := by
    rw [hy]
    exact ((((((RegsBut.refl _ x).clrF (by decide)).clrF (by decide)).clrF (by decide)).clrF (by decide)).clrF (by decide)).clrF (by decide)
  have hend {f : Fld} (h1 : F.HEARTH_STAT_REFRESHING.key ≠ f.key) (h2 : F.PWRMGR_STAT_CHARGING.key ≠ f.key) : s.noCartridge.rd f = y.rd f := by
    rw [hdef, State.rd_clrF_ne _ h2, State.rd_clrF_ne _ h1]
  refine ⟨?_, ?_, ?_, ?_, ?_⟩
  · rw [hdef]; exact ⟨yk.1.trans xk.1, yk.2.1.trans xk.2.1, yk.2.2.trans xk.2.2⟩
  · rw [hend (by decide) (by decide), yr.rd (by decide), hx, State.rd_clrF_ne _ (by decide), State.rd_clrF_ne _ (by decide)]; exact State.rd_clrF_self ..
  · rw [hend (by decide) (by decide), yr.rd (by decide), hx, State.rd_clrF_ne _ (by decide)]; exact State.rd_clrF_self ..
  · rw [hdef]; exact State.rd_clrF_self ..
  · rw [hend (by decide) (by decide), yr.rd (by decide), hx, State.rd_clrF_ne _ (by decide), State.rd_clrF_ne _ (by decide), State.rd_clrF_ne _ (by decide)]

theorem cartRemove_spec (hf : s.hearth.fitted = true) : Ends (.cartRemove t) s fun s' => s'.hearth.fitted = false ∧ s'.hearth.testAt = none ∧
    s'.rd F.HEARTH_STAT_AUTH = 0 ∧ s'.rd F.HEARTH_STAT_REMOVE_OK = 0 ∧ s'.rd F.PWRMGR_STAT_HOLDUP_READY = 0 ∧
    s'.rd F.PWRMGR_STAT_CHARGING = 0 ∧ s'.rd F.REC_STAT_MOUNTED = 0 ∧ s'.log.buf = s.log.buf ∧ s'.log.flushing = none ∧
    (¬ (s.pwr.state = .powerFail ∨ s.pwr.pfInEntry = true) → s'.rd F.PWRMGR_PF_CFG_GRACE_MS = 0) := by
  obtain ⟨x, hx⟩ : ∃ x, x = (s.tick t).switchCount := ⟨_, rfl⟩
  obtain ⟨x1, x2, p, x3⟩ := (s.tick t).switchCount_spec
  rw [← hx] at x1 x2 x3
  obtain ⟨y, hy⟩ : ∃ y, y = x.unmountLog.hearthAbort := ⟨_, rfl⟩
  have yk : y.hearth.testAt = none ∧ y.pwr = s.pwr ∧ y.log.buf = s.log.buf ∧ y.log.flushing = none := by
    rw [hy]; exact ⟨rfl, x2, (congrArg LogSt.buf x3 :), rfl⟩
  have ym : y.rd F.REC_STAT_MOUNTED = 0 := by
    rw [hy]
    refine (State.rd_clrF_ne _ (f := F.MARGIN_STAT_PLANNING) (by decide)).trans ?_
    rw [State.rd_clrF_ne _ (by decide)]
    refine (State.rd_clrF_ne _ (f := F.REC_STAT_FLUSHING) (by decide)).trans ?_
    exact State.rd_clrF_self ..
  obtain ⟨⟨c1, c2, c3⟩, c4, c5, c6, c7⟩ := y.noCartridge_spec
  obtain ⟨z, hz⟩ : ∃ z : State, z = y.noCartridge.modHearth fun h => { h with fitted := false } := ⟨_, rfl⟩
  have zk : z.hearth.fitted = false ∧ z.hearth.testAt = none ∧ z.pwr = s.pwr ∧ z.log = y.log := by
    rw [hz]; exact ⟨rfl, (congrArg HearthSt.testAt c1).trans yk.1, c2.trans yk.2.1, c3⟩
  have zr (f : Fld) : z.rd f = y.noCartridge.rd f := by rw [hz]; rfl
  obtain ⟨z1, z2, z3, z4⟩ := zk
  have he : exec (.cartRemove t) s = .next (if z.inPowerFail then z.clrF F.PWRMGR_STAT_HOLDUP_READY else z.setReady false) := by
    have hf' : (s.tick t).hearth.fitted = true := hf
    rw [arm_cartRemove, execCartRemove, if_pos hf', hz, hy, hx]
  refine ends_next he ?_
  obtain ⟨-, y2, y3, y4⟩ := yk
  split
  · next hp =>
    have hp' : s.pwr.state = .powerFail ∨ s.pwr.pfInEntry = true := by rw [inPowerFail_iff, z3] at hp; exact hp
    have hrd {f : Fld} (h : F.PWRMGR_STAT_HOLDUP_READY.key ≠ f.key) : (z.clrF F.PWRMGR_STAT_HOLDUP_READY).rd f = y.noCartridge.rd f := (State.rd_clrF_ne _ h).trans (zr f)
    exact ⟨z1, z2, (hrd (by decide)).trans c4, (hrd (by decide)).trans c5, State.rd_clrF_self .., (hrd (by decide)).trans c6, (hrd (by decide)).trans (c7.trans ym),
      (congrArg LogSt.buf z4).trans y3, (congrArg LogSt.flushing z4).trans y4, fun h => absurd hp' h⟩
  · next hp =>
    obtain ⟨r1, ⟨r2, -⟩, r4, ⟨-, -, r5⟩, r6⟩ := z.setReady_spec false
    have r4' : (z.setReady false).rd F.PWRMGR_STAT_HOLDUP_READY = 0 := r4
    have hl : (z.setReady false).log = y.log := (r6 ((zr _).trans (c7.trans ym))).trans z4
    refine ⟨by rw [r2]; exact z1, by rw [r2]; exact z2, (r1.rd (by decide)).trans ((zr _).trans c4), (r1.rd (by decide)).trans ((zr _).trans c5), r4',
      (r1.rd (by decide)).trans ((zr _).trans c6), (r1.rd (by decide)).trans ((zr _).trans (c7.trans ym)), by rw [hl]; exact y3, by rw [hl]; exact y4, fun _ => by rw [r5, if_pos r4']⟩

/-! ### Authentication -/

theorem State.chargeOn_spec (s : State) : RegsBut [F.PWRMGR_STAT_CHARGING] s s.chargeOn ∧ s.chargeOn.hearth = s.hearth ∧ s.chargeOn.pwr = s.pwr ∧ s.chargeOn.log = s.log := by
  unfold State.chargeOn
  split
  · exact ⟨(RegsBut.refl _ s).wr 1 (by simp), rfl, rfl, rfl⟩
  · exact ⟨RegsBut.refl _ s, rfl, rfl, rfl⟩

theorem State.writeHead_spec (s : State) : s.writeHead.regs = s.regs ∧ s.writeHead.hearth = s.hearth ∧ s.writeHead.pwr = s.pwr ∧
    ∃ c, s.writeHead.log = { s.log with chainHead := c } := by
  unfold State.writeHead
  split
  · exact ⟨rfl, rfl, rfl, _, rfl⟩
  · exact ⟨rfl, rfl, rfl, _, rfl⟩

theorem State.startChain_spec (s : State) : s.startChain.regs = s.regs ∧ s.startChain.hearth = s.hearth ∧ s.startChain.pwr = s.pwr ∧
    s.startChain.log.blocks = s.log.blocks ∧ s.startChain.log.chainIndex = 0 := by
  obtain ⟨k, hk⟩ : ∃ k, k = s.draw (2 ^ 256) := ⟨_, rfl⟩
  obtain ⟨x, hx⟩ : ∃ x : State, x = { k.2 with log := { k.2.log with chainKey := some k.1, chainStart := some k.1, chainIndex := 0 } } := ⟨_, rfl⟩
  have hxk : x.regs = s.regs ∧ x.hearth = s.hearth ∧ x.pwr = s.pwr ∧ x.log.blocks = s.log.blocks ∧ x.log.chainIndex = 0 := by rw [hx, hk]; exact ⟨rfl, rfl, rfl, rfl, rfl⟩
  obtain ⟨a1, a2, a3, c, a4⟩ := x.writeHead_spec
  have hdef : s.startChain = x.writeHead.record 0x00 0x03 4 0 0 [x.writeHead.word F.REC_CNT_DROPPED.addr] := by rw [hx, hk]; rfl
  obtain ⟨h1, h2, h3, h4, h5⟩ := hxk
  rw [hdef]
  exact ⟨a1.trans h1, a2.trans h2, a3.trans h3, (congrArg LogSt.blocks a4).trans h4, (congrArg LogSt.chainIndex a4).trans h5⟩

theorem State.mountLog_spec (s : State) (ours : Bool) : RegsBut [F.REC_STAT_MOUNTED] s (s.mountLog ours) ∧ (s.mountLog ours).rd F.REC_STAT_MOUNTED = 1 ∧
    ((s.mountLog ours).hearth = s.hearth ∧ (s.mountLog ours).pwr = s.pwr) ∧ (ours = false → (s.mountLog ours).log.blocks = [] ∧ (s.mountLog ours).log.chainIndex = 0) := by
  obtain ⟨x, hx⟩ : ∃ x : State, x = if ours then s.setF F.REC_STAT_MOUNTED
    else { s.setF F.REC_STAT_MOUNTED with log := { s.log with
      streams := (List.range 8).map fun v => (v, { LogStream.init with reserve := some v }), nextSeg := 8, blocks := [],
      pendErase := [], ring := [] } } := ⟨_, rfl⟩
  have hdef : s.mountLog ours = if ours = true ∧ x.log.chainKey.isSome = true then x else x.startChain := by rw [hx]; rfl
  have hxk : x.regs = (s.setF F.REC_STAT_MOUNTED).regs ∧ x.hearth = s.hearth ∧ x.pwr = s.pwr ∧ (ours = false → x.log.blocks = []) := by
    rw [hx]; cases ours
    · exact ⟨rfl, rfl, rfl, fun _ => rfl⟩
    · exact ⟨rfl, rfl, rfl, fun h => nomatch h⟩
  obtain ⟨h1, h2, h3, h4⟩ := hxk
  obtain ⟨a1, a2, a3, a4, a5⟩ := x.startChain_spec
  have hz : (s.mountLog ours).regs = (s.setF F.REC_STAT_MOUNTED).regs ∧ (s.mountLog ours).hearth = s.hearth ∧ (s.mountLog ours).pwr = s.pwr ∧
      (ours = false → (s.mountLog ours).log.blocks = [] ∧ (s.mountLog ours).log.chainIndex = 0) := by
    rw [hdef]; split
    · next h => exact ⟨h1, h2, h3, fun e => by rw [e] at h; exact nomatch h.1⟩
    · exact ⟨a1.trans h1, a2.trans h2, a3.trans h3, fun e => ⟨a4.trans (h4 e), a5⟩⟩
  obtain ⟨k1, k2, k3, k4⟩ := hz
  refine ⟨((RegsBut.refl _ s).wr (f := F.REC_STAT_MOUNTED) 1 (by simp)).of_regs k1, (State.rd_congr k1 _).trans (s.rd_setF_self F.REC_STAT_MOUNTED), ⟨k2, k3⟩, k4⟩

/-- The registers that a cartridge which authenticates fills. -/
def State.cartRead (s : State) (c : CartId) : State :=
  let s := ((s.wr F.HEARTH_STAT_AUTH 2).wr (F.HEARTH_SERIAL_SERIAL 0) c.serial).wr (F.HEARTH_SERIAL_SERIAL 1) (c.serial / 2 ^ 32)
  let s := ((s.wr F.HEARTH_MEAS_C_MEAS (min c.cMeas 65535)).wr F.HEARTH_MEAS_ESR_MEAS (min c.esr 65535)).wr F.HEARTH_LIFE_AGE_DAYS (min c.ageDays 8191)
  ((s.wr F.HEARTH_LIFE_EVENTS (min c.events 524287)).wr F.HEARTH_FLASH_WEAR (min c.wear 255)).clrF F.HEARTH_STAT_REMOVE_OK

theorem State.cartRead_spec (s : State) (c : CartId) : (s.cartRead c).rd F.HEARTH_STAT_AUTH = 2 ∧ (s.cartRead c).rd (F.HEARTH_SERIAL_SERIAL 0) = c.serial % 2 ^ 32 ∧
    (s.cartRead c).rd F.HEARTH_MEAS_C_MEAS = min c.cMeas 65535 ∧ (s.cartRead c).rd F.HEARTH_MEAS_ESR_MEAS = min c.esr 65535 ∧
    (s.cartRead c).rd F.HEARTH_LIFE_AGE_DAYS = min c.ageDays 8191 ∧ (s.cartRead c).rd F.HEARTH_LIFE_EVENTS = min c.events 524287 ∧
    (s.cartRead c).rd F.HEARTH_FLASH_WEAR = min c.wear 255 ∧ (s.cartRead c).rd F.HEARTH_STAT_EOL = s.rd F.HEARTH_STAT_EOL := by
  obtain ⟨x, hx⟩ : ∃ x, x = ((s.wr F.HEARTH_STAT_AUTH 2).wr (F.HEARTH_SERIAL_SERIAL 0) c.serial).wr (F.HEARTH_SERIAL_SERIAL 1) (c.serial / 2 ^ 32) := ⟨_, rfl⟩
  obtain ⟨y, hy⟩ : ∃ y, y = ((x.wr F.HEARTH_MEAS_C_MEAS (min c.cMeas 65535)).wr F.HEARTH_MEAS_ESR_MEAS (min c.esr 65535)).wr F.HEARTH_LIFE_AGE_DAYS (min c.ageDays 8191) := ⟨_, rfl⟩
  have hdef : s.cartRead c = ((y.wr F.HEARTH_LIFE_EVENTS (min c.events 524287)).wr F.HEARTH_FLASH_WEAR (min c.wear 255)).clrF F.HEARTH_STAT_REMOVE_OK := by rw [hy, hx]; rfl
  have hz {f : Fld} (h1 : F.HEARTH_LIFE_EVENTS.key ≠ f.key) (h2 : F.HEARTH_FLASH_WEAR.key ≠ f.key) (h3 : F.HEARTH_STAT_REMOVE_OK.key ≠ f.key) : (s.cartRead c).rd f = y.rd f := by
    rw [hdef, State.rd_clrF_ne _ h3, State.rd_wr_ne _ _ h2, State.rd_wr_ne _ _ h1]
  have hyx {f : Fld} (h1 : F.HEARTH_MEAS_C_MEAS.key ≠ f.key) (h2 : F.HEARTH_MEAS_ESR_MEAS.key ≠ f.key) (h3 : F.HEARTH_LIFE_AGE_DAYS.key ≠ f.key) : y.rd f = x.rd f := by
    rw [hy, State.rd_wr_ne _ _ h3, State.rd_wr_ne _ _ h2, State.rd_wr_ne _ _ h1]
  refine ⟨?_, ?_, ?_, ?_, ?_, ?_, ?_, ?_⟩
  · rw [hz (by decide) (by decide) (by decide), hyx (by decide) (by decide) (by decide), hx, State.rd_wr_ne _ _ (by decide), State.rd_wr_ne _ _ (by decide)]
    exact s.rd_wr_lt (by decide)
  · rw [hz (by decide) (by decide) (by decide), hyx (by decide) (by decide) (by decide), hx, State.rd_wr_ne _ _ (by decide)]
    exact State.rd_wr_self ..
  · rw [hz (by decide) (by decide) (by decide), hy, State.rd_wr_ne _ _ (by decide), State.rd_wr_ne _ _ (by decide)]
    exact x.rd_wr_lt (by change _ < 2 ^ 16; omega)
  · rw [hz (by decide) (by decide) (by decide), hy, State.rd_wr_ne _ _ (by decide)]
    exact State.rd_wr_lt _ (by change _ < 2 ^ 16; omega)
  · rw [hz (by decide) (by decide) (by decide), hy]
    exact State.rd_wr_lt _ (by change _ < 2 ^ 13; omega)
  · rw [hdef, State.rd_clrF_ne _ (by decide), State.rd_wr_ne _ _ (by decide)]
    exact y.rd_wr_lt (by change _ < 2 ^ 19; omega)
  · rw [hdef, State.rd_clrF_ne _ (by decide)]
    exact State.rd_wr_lt _ (by change _ < 2 ^ 8; omega)
  · rw [hz (by decide) (by decide) (by decide), hyx (by decide) (by decide) (by decide), hx, State.rd_wr_ne _ _ (by decide), State.rd_wr_ne _ _ (by decide)]
    exact s.rd_wr_ne _ (by decide)

section
variable {c : CartId} (ha : s.rd F.HEARTH_STAT_AUTH = 1)
include ha

theorem cartAuthenticate_fails (hc : c.ok = false) : Ends (.cartAuthenticate t c) s fun s' => s'.rd F.HEARTH_STAT_AUTH = 3 ∧
    s'.rd F.REC_STAT_MOUNTED = 0 ∧ s'.log.flushing = none ∧ s'.hearth = s.hearth ∧
    ∃ q, q ∈ s'.port 0x0F ∧ q.kind = 6 ∧ q.sev = 6 ∧ q.subj = 0 := by
  obtain ⟨x, hx⟩ : ∃ x, x = ((s.tick t).unmountLog.wr F.HEARTH_STAT_AUTH 3) := ⟨_, rfl⟩
  have hn : ¬ (s.tick t).rd F.HEARTH_STAT_AUTH ≠ 1 := not_not.2 ha
  have he : ∃ w, exec (.cartAuthenticate t c) s = .next ((x.record 0x0F 0x06 6 0 0 w).chargeOn) := by
    rw [arm_cartAuthenticate, execCartAuthenticate, if_neg hn, if_pos (by rw [hc]; rfl), hx]
    exact ⟨_, rfl⟩
  obtain ⟨w, he⟩ := he
  have hxf : x.hearth = s.hearth ∧ x.log.flushing = none := by rw [hx]; exact ⟨rfl, rfl⟩
  have hxm : x.rd F.REC_STAT_MOUNTED = 0 := by
    rw [hx, State.rd_wr_ne _ _ (by decide)]
    refine (State.rd_clrF_ne _ (f := F.REC_STAT_FLUSHING) (by decide)).trans ?_
    exact State.rd_clrF_self ..
  have hxa : x.rd F.HEARTH_STAT_AUTH = 3 := by rw [hx]; exact State.rd_wr_lt _ (by decide)
  obtain ⟨r, hr, hp⟩ : ∃ r : Record, (r.kind = 6 ∧ r.sev = 6 ∧ r.subj = 0) ∧ (x.record 0x0F 0x06 6 0 0 w).port 0x0F = portInsert r (x.port 0x0F) :=
    ⟨_, ⟨rfl, rfl, rfl⟩, x.port_toPort _⟩
  obtain ⟨c1, c2, -, c4⟩ := (x.record 0x0F 0x06 6 0 0 w).chargeOn_spec
  refine ends_next he ⟨(c1.rd (by decide)).trans hxa, (c1.rd (by decide)).trans hxm, (congrArg LogSt.flushing c4).trans hxf.2, c2.trans hxf.1, r, ?_, hr⟩
  unfold State.port
  rw [c4]
  change r ∈ (x.record 0x0F 0x06 6 0 0 w).port 0x0F
  rw [hp]
  exact mem_portInsert.2 (Or.inl rfl)

theorem cartAuthenticate_mounts (hc : c.ok = true) : Ends (.cartAuthenticate t c) s fun s' => s'.rd F.HEARTH_STAT_AUTH = 2 ∧
    s'.rd (F.HEARTH_SERIAL_SERIAL 0) = c.serial % 2 ^ 32 ∧ s'.rd F.REC_STAT_MOUNTED = 1 ∧
    s'.rd F.HEARTH_MEAS_C_MEAS = min c.cMeas 65535 ∧ s'.rd F.HEARTH_MEAS_ESR_MEAS = min c.esr 65535 ∧
    (c.ours = false → s'.log.blocks = [] ∧ s'.log.chainIndex = 0) ∧ (s.rd F.HEARTH_STAT_EOL = 0 →
      s'.rd F.HEARTH_STAT_EOL = if 5479 ≤ c.ageDays ∨ 500000 ≤ c.events ∨ c.cMeas < 2920 ∨ 2000 ≤ c.esr ∨ 90 ≤ c.wear then 1 else 0) := by
  obtain ⟨x, hx⟩ : ∃ x, x = (s.tick t).cartRead c := ⟨_, rfl⟩
  obtain ⟨y, hy⟩ : ∃ y, y = x.mountLog c.ours := ⟨_, rfl⟩
  obtain ⟨z, hz⟩ : ∃ z, z = y.eolCheck.chargeOn := ⟨_, rfl⟩
  have hn : ¬ (s.tick t).rd F.HEARTH_STAT_AUTH ≠ 1 := not_not.2 ha
  have hn' : ¬ (!c.ok) = true := by rw [hc]; decide
  have he : exec (.cartAuthenticate t c) s = .next (if z.pwr.state = .startup ∧ (!z.pwr.stagesDone.contains 4) = true then z else z.fullPlan) := by
    rw [arm_cartAuthenticate, execCartAuthenticate, if_neg hn, if_neg hn', hz, hy, hx]
    rfl
  obtain ⟨x1, x2, x3, x4, x5, x6, x7, x8⟩ := (s.tick t).cartRead_spec c
  rw [← hx] at x1 x2 x3 x4 x5 x6 x7 x8
  obtain ⟨y1, y2, -, y4⟩ := x.mountLog_spec c.ours
  rw [← hy] at y1 y2 y4
  obtain ⟨e1, ⟨-, -, p, e4⟩, -, e5⟩ := y.eolCheck_spec
  obtain ⟨c1, -, -, c4⟩ := y.eolCheck.chargeOn_spec
  rw [← hz] at c1 c4
  have zy {f : Fld} (h1 : F.PWRMGR_STAT_CHARGING.key ≠ f.key) (h2 : F.HEARTH_STAT_EOL.key ≠ f.key) : z.rd f = y.rd f :=
    (c1.rd (by simpa using h1)).trans (e1.rd (by simpa using h2))
  have hend {f : Fld} (hf : OffPlan f) : State.rd (if z.pwr.state = .startup ∧ (!z.pwr.stagesDone.contains 4) = true then z else z.fullPlan) f = z.rd f := by
    split
    · rfl
    · exact z.fullPlan_kept.1 f hf
  have hlog : (if z.pwr.state = .startup ∧ (!z.pwr.stagesDone.contains 4) = true then z else z.fullPlan).log.blocks = y.log.blocks ∧
      (if z.pwr.state = .startup ∧ (!z.pwr.stagesDone.contains 4) = true then z else z.fullPlan).log.chainIndex = y.log.chainIndex := by
    have hzl : z.log.blocks = y.log.blocks ∧ z.log.chainIndex = y.log.chainIndex := by rw [c4, e4]; exact ⟨rfl, rfl⟩
    split
    · exact hzl
    · obtain ⟨-, -, ⟨-, k2, k3⟩, -⟩ := z.fullPlan_kept
      exact ⟨k2.trans hzl.1, k3.trans hzl.2⟩
  have yx {f : Fld} (h : F.REC_STAT_MOUNTED.key ≠ f.key) : y.rd f = x.rd f := y1.rd (by simpa using h)
  have hauth : y.authOk = true := by unfold State.authOk; rw [yx (by decide), x1]; rfl
  have heol : y.atEol = true ↔ 5479 ≤ c.ageDays ∨ 500000 ≤ c.events ∨ c.cMeas < 2920 ∨ 2000 ≤ c.esr ∨ 90 ≤ c.wear := by
    unfold State.atEol
    rw [decide_eq_true_eq, yx (by decide), yx (by decide), yx (by decide), yx (by decide), yx (by decide), x3, x4, x5, x6, x7]
    omega
  refine ends_next he ⟨?_, ?_, ?_, ?_, ?_, fun h => ⟨hlog.1.trans (y4 h).1, hlog.2.trans (y4 h).2⟩, fun h0 => ?_⟩
  · rw [hend ⟨by decide, by decide⟩, zy (by decide) (by decide), yx (by decide)]; exact x1
  · rw [hend ⟨by decide, by decide⟩, zy (by decide) (by decide), yx (by decide)]; exact x2
  · rw [hend ⟨by decide, by decide⟩, zy (by decide) (by decide)]; exact y2
  · rw [hend ⟨by decide, by decide⟩, zy (by decide) (by decide), yx (by decide)]; exact x3
  · rw [hend ⟨by decide, by decide⟩, zy (by decide) (by decide), yx (by decide)]; exact x4
  · rw [hend ⟨by decide, by decide⟩, c1.rd (by decide), e5 hauth (by rw [yx (by decide), x8]; exact h0)]
    exact if_congr heol rfl rfl

end

theorem serviceFlush_starts (hc : a.attic = true ∧ a.inst = 0 ∧ (s.tick t).passes 0x40030004 a true = true) (hm : s.rd F.REC_STAT_MOUNTED ≠ 0)
    (hn : s.log.flushing = none) (hs : s.pwr.seq = none) : Ends (.serviceFlush t a) s fun s' => s'.log = { s.log with flushing := some ⟨.service, t + 1⟩ } ∧ s'.regs = s.regs := by
  refine ends_atticCmd hc (arm_serviceFlush ..) ?_
  have hshut : (s.tick t).okay.flushShut = false := by
    unfold State.flushShut; rw [show (s.tick t).okay.pwr.seq = none from hs]
  rw [State.triggerFlush_starts (s := (s.tick t).okay) hm hshut .service hn]
  exact ⟨rfl, rfl⟩

/-- Settles O58: authentication mounts the log or unmounts it, a test discharge measures C and ESR, a plan gives the grace and the dirty
limit that the budget pays for, HOLDUP_READY follows the test, and margins are reported as their conditions begin. -/
theorem hearthAndMargins : Obligations.HearthAndMargins := by
  intro s t t0 vBus vHold stepUv fallUv dHub dA dB dC r pNow wear m n f g d stud2 a c regions
  dsimp only
  refine ⟨cartInsert_spec, cartRemove_spec, fun ha => ⟨cartAuthenticate_fails ha, cartAuthenticate_mounts ha⟩, fun hc => ⟨serviceFlush_starts hc, measure_spec hc⟩,
    testDischargeStart_spec.1, testDischargeStart_spec.2, fun h => ⟨testDischargeComplete_done h, testDischargeComplete_early h⟩, fun hc hres hpf => ?_,
    fun htp hu hpf hacc => ⟨(planTimer_spec htp hu hpf hacc).1, fun hm hres => ?_⟩, holdupRetest_spec, fun hu h12 h16 hf hn => ?_, flashRefresh_spec⟩
  · exact replan_planned hc hpf hres
  · exact (planTimer_spec htp hu hpf hacc).2 hm g d hres
  · refine (ends_marginMeasure (dA := dA) (dB := dB) (dC := dC) (r := r) (stud2 := stud2) (pNow := pNow) hu (freqFor_getD h12 h16 hf hn) h16 n).mono fun s' h => ?_
    obtain ⟨⟨h1, ⟨h2, h3, h4⟩, h5, h6, h7, h8, h9, h10, h11⟩, h12, h13, h14, h15⟩ := h
    exact ⟨h12, h13, h14, h15, h1, h2, h3, h4, h5, h6, h7, h8, h9, h10, h11⟩

end Sys2Proof.Machine
end

section
/-! PROOFS. CAN transmission: O46 -/

namespace Sys2Proof.Machine


variable {s s' s'' : State} {t c r i n : Nat} {a : Attr}

/-! ### Words of message RAM -/

theorem State.memWord_congr {b : Nat} (h : ∀ k, k < 4 → Memory.read s'.mem (b + k) = Memory.read s.mem (b + k)) : s'.memWord b = s.memWord b := by
  unfold State.memWord
  simp only [List.range_succ, List.range_zero, List.nil_append, List.cons_append, List.foldl_cons, List.foldl_nil, h 0 (by decide), h 1 (by decide),
    h 2 (by decide), h 3 (by decide)]

theorem State.read_putWord_ne (s : State) (b w : Nat) {x : Nat} (h : x < b ∨ b + 4 ≤ x) : Memory.read (s.putWord b w).mem x = Memory.read s.mem x :=
  Memory.read_writeRun_outside _ _ h

theorem State.memWord_putWord_ne (s : State) (b w : Nat) {x : Nat} (h : x + 4 ≤ b ∨ b + 4 ≤ x) : (s.putWord b w).memWord x = s.memWord x :=
  State.memWord_congr fun k hk => s.read_putWord_ne b w (by omega)

theorem State.memWord_putWord_self (s : State) (b w : Nat) : (s.putWord b w).memWord b = w % 2 ^ 32 := by
  have hr (k : Nat) (hk : k < 4) : Memory.read (s.putWord b w).mem (b + k) = BitVec.ofNat 8 ((wordBytes w).getD k 0) := Memory.read_writeRun_inside _ _ _ _ hk
  unfold State.memWord
  simp only [List.range_succ, List.range_zero, List.nil_append, List.cons_append, List.foldl_cons, List.foldl_nil, hr 0 (by decide), hr 1 (by decide),
    hr 2 (by decide), hr 3 (by decide), wordBytes, List.getD_cons_zero, List.getD_cons_succ, BitVec.toNat_ofNat]
  omega

theorem State.memWord_lt (s : State) (b : Nat) : s.memWord b < 2 ^ 32 := by
  unfold State.memWord
  have h (k : Nat) := (Memory.read s.mem (b + k)).isLt
  simp only [List.range_succ, List.range_zero, List.nil_append, List.cons_append, List.foldl_cons, List.foldl_nil]
  have h0 := h 0; have h1 := h 1; have h2 := h 2; have h3 := h 3
  omega

/-- A state that differs from another in memory alone. -/
def MemOnly (s s' : State) : Prop := ∃ m, s' = { s with mem := m }

theorem MemOnly.trans (h : MemOnly s s') (h' : MemOnly s' s'') : MemOnly s s'' := by
  obtain ⟨_, rfl⟩ := h
  obtain ⟨_, rfl⟩ := h'
  exact ⟨_, rfl⟩

theorem State.putWord_memOnly (s : State) (b w : Nat) : MemOnly s (s.putWord b w) := ⟨_, rfl⟩

/-! ### The marks of an element -/

/-- STATUS, ERRORS and the stamp of the element at address `el` are written, and no other byte. -/
def Marked (s : State) (el status errs stamp : Nat) (s' : State) : Prop :=
  s'.memWord (el + 12) = s.memWord (el + 12) / 65536 * 65536 + status % 256 * 256 ∧ s'.memWord (el + 24) = min 255 errs ∧
  s'.memWord (el + 16) = stamp % 2 ^ 32 ∧ s'.memWord (el + 20) = stamp / 2 ^ 32 % 2 ^ 32 ∧
  ∀ b, b < el + 12 ∨ el + 28 ≤ b → Memory.read s'.mem b = Memory.read s.mem b

theorem State.marks (s : State) (r k status errs stamp : Nat) : Marked s (s.elemAddr r k) status errs stamp ((s.markElem r k status errs).stampElem r k stamp) := by
  obtain ⟨el, hel⟩ : ∃ el, el = s.elemAddr r k := ⟨_, rfl⟩
  obtain ⟨v, hv⟩ : ∃ v, v = s.memWord (el + 12) / 65536 * 65536 + status % 256 * 256 := ⟨_, rfl⟩
  have hdef : (s.markElem r k status errs).stampElem r k stamp =
      (((s.putWord (el + 12) v).putWord (el + 24) (min 255 errs)).putWord (el + 16) stamp).putWord (el + 20) (stamp / 2 ^ 32) := by rw [hv, hel]; rfl
  have hlt : v < 2 ^ 32 := by have := s.memWord_lt (el + 12); omega
  rw [hdef, ← hel]
  refine ⟨?_, ?_, ?_, State.memWord_putWord_self .., fun b hb => ?_⟩
  · rw [State.memWord_putWord_ne _ _ _ (by omega), State.memWord_putWord_ne _ _ _ (by omega), State.memWord_putWord_ne _ _ _ (by omega), State.memWord_putWord_self,
      Nat.mod_eq_of_lt hlt, hv]
  · rw [State.memWord_putWord_ne _ _ _ (by omega), State.memWord_putWord_ne _ _ _ (by omega), State.memWord_putWord_self]; omega
  · rw [State.memWord_putWord_ne _ _ _ (by omega), State.memWord_putWord_self]
  · rw [State.read_putWord_ne _ _ _ (by omega), State.read_putWord_ne _ _ _ (by omega), State.read_putWord_ne _ _ _ (by omega), State.read_putWord_ne _ _ _ (by omega)]

theorem State.marks_memOnly (s : State) (r k status errs stamp : Nat) : MemOnly s ((s.markElem r k status errs).stampElem r k stamp) :=
  ((s.putWord_memOnly _ _).trans (State.putWord_memOnly _ _ _)).trans ((State.putWord_memOnly _ _ _).trans (State.putWord_memOnly _ _ _))

theorem Marked.of_mem {el status errs stamp : Nat} (h : Marked s el status errs stamp s') (hm : s''.mem = s'.mem) : Marked s el status errs stamp s'' := by
  have hw (b : Nat) : s''.memWord b = s'.memWord b := State.memWord_congr fun k _ => by rw [hm]
  obtain ⟨h1, h2, h3, h4, h5⟩ := h
  exact ⟨(hw _).trans h1, (hw _).trans h2, (hw _).trans h3, (hw _).trans h4, fun b hb => by rw [hm]; exact h5 b hb⟩

/-! ### Completion of an element -/

/-- The keys that a completion of ring `r` touches: DONE, and the interrupts. -/
def CompKey (r k : Nat) : Prop := k = (F.CANRAM_RING3_DONE r).key ∨ k < 0x40001000 * 32

/-- What a completion in ring `r` leaves alone. -/
def CompKept (r : Nat) (s s' : State) : Prop := Stands (CompKey r) s s' ∧
  (s'.can.ctls = s.can.ctls ∧ s'.can.aborts = s.can.aborts ∧ ∀ j, j ≠ r → s'.can.skips.getD [] j = s.can.skips.getD [] j) ∧
  { s' with regs := s.regs, mem := s.mem, can := s.can } = s

namespace CompKept

theorem refl (r : Nat) (s : State) : CompKept r s s := ⟨Stands.refl _ s, ⟨rfl, rfl, fun _ _ => rfl⟩, rfl⟩

theorem trans (h : CompKept r s s') (h' : CompKept r s' s'') : CompKept r s s'' := by
  obtain ⟨h1, ⟨h2, h3, h4⟩, h5⟩ := h
  obtain ⟨k1, ⟨k2, k3, k4⟩, k5⟩ := h'
  refine ⟨h1.trans k1, ⟨k2.trans h2, k3.trans h3, fun j hj => (k4 j hj).trans (h4 j hj)⟩, ?_⟩
  rw [← h5]
  conv_rhs => rw [← k5]

theorem foldl {α : Type} {g : State → α → State} (l : List α) (h : ∀ s a, CompKept r s (g s a)) (s : State) : CompKept r s (l.foldl g s) := by
  induction l generalizing s with
  | nil => exact refl r s
  | cons a l ih => exact (h s a).trans (ih _)

theorem now (h : CompKept r s s') : s'.now = s.now := (congrArg State.now h.2.2 :)

theorem log (h : CompKept r s s') : s'.log = s.log := (congrArg State.log h.2.2 :)

theorem vim (h : CompKept r s s') : s'.vim = s.vim := (congrArg State.vim h.2.2 :)

theorem ctl (h : CompKept r s s') (k : Nat) : s'.ctl k = s.ctl k := by unfold State.ctl; rw [h.2.1.1]

/-- Registers of the message RAM but DONE stand. -/
theorem rd (h : CompKept r s s') {f : Fld} (h1 : 0x40001000 * 32 ≤ f.key) (h2 : f.key ≠ (F.CANRAM_RING3_DONE r).key) : s'.rd f = s.rd f :=
  h.1 f fun hk => hk.elim h2 (Nat.not_lt.2 h1)

end CompKept

theorem State.canIrq_kept (s : State) (h : i < 64) (r : Nat) : CompKept r s (s.canIrq i) :=
  ⟨Stands.wr (Or.inr (by simp only [Fld.key, F.SYSCTL_IPEND_PEND, ipCanRing]; omega)) s _, ⟨rfl, rfl, fun _ _ => rfl⟩, rfl⟩

/-- One element that a SAVE has completed is passed (R336). -/
def passSkip (r : Nat) (s : State) : State :=
  let l := s.can.skips.getD [] r
  let k := s.ringDone r
  if l.contains k then
    ({ s with can := { s.can with skips := s.can.skips.put [] r (l.filter fun j => j ≠ k) } }).wr
      (F.CANRAM_RING3_DONE r) (s.ringNext r k)
  else s

theorem passSkip_kept (s : State) (r : Nat) : CompKept r s (passSkip r s) := by
  unfold passSkip
  dsimp only
  split
  · refine ⟨(Stands.of_regs (s' := { s with can := _ }) rfl).trans (Stands.wr (Or.inl rfl) _ _), ⟨rfl, rfl, fun j hj => Tbl.getD_put_ne _ _ _ (Ne.symm hj)⟩, rfl⟩
  · exact CompKept.refl r s

theorem State.passSkips_kept (s : State) (r : Nat) : CompKept r s (s.passSkips r) :=
  CompKept.foldl (g := fun s _ => passSkip r s) _ (fun s _ => passSkip_kept s r) s

theorem State.passSkips_none (h : s.can.skips.getD [] r = []) : s.passSkips r = s := by
  unfold State.passSkips; rw [h]; rfl

/-- The element is marked and DONE advances. -/
def State.advanced (s : State) (r status stamp : Nat) : State :=
  let s := ((s.markElem r (s.ringDone r) status (s.can.errs.getD 0 r)).stampElem r (s.ringDone r) stamp).wr (F.CANRAM_RING3_DONE r) (s.ringNext r (s.ringDone r))
  { s with can := { s.can with errs := s.can.errs.erase r } }

theorem State.advanced_kept (s : State) (r status stamp : Nat) : CompKept r s (s.advanced r status stamp) := by
  obtain ⟨m, hm⟩ := s.marks_memOnly r (s.ringDone r) status (s.can.errs.getD 0 r) stamp
  have hdef : s.advanced r status stamp = { State.wr { s with mem := m } (F.CANRAM_RING3_DONE r) (s.ringNext r (s.ringDone r)) with
      can := { s.can with errs := s.can.errs.erase r } } := by
    unfold State.advanced; rw [hm]; rfl
  rw [hdef]
  exact ⟨fun f hf => s.rd_wr_ne _ fun e => hf (Or.inl e.symm), ⟨rfl, rfl, fun _ _ => rfl⟩, rfl⟩

theorem State.ringInst_kept (h : CompKept r s s') (j : Nat) : s'.ringInst j = s.ringInst j :=
  h.rd (by simp only [Fld.key, F.CANRAM_RING0_INST]; omega) (by simp only [ne_eq, Fld.key, F.CANRAM_RING0_INST, F.CANRAM_RING3_DONE]; omega)

theorem State.completeElem_eq (s : State) (r status stamp : Nat) : s.completeElem r status stamp =
    ((s.advanced r status stamp).passSkips r).canIrq (((s.advanced r status stamp)).ringInst r) := rfl

theorem State.completeElem_kept (s : State) (hi : s.ringInst r < 64) (status stamp : Nat) : CompKept r s (s.completeElem r status stamp) := by
  rw [State.completeElem_eq]
  have h := (s.advanced_kept r status stamp).trans (State.passSkips_kept _ r)
  exact h.trans (State.canIrq_kept _ (by rw [State.ringInst_kept (s.advanced_kept r status stamp)]; exact hi) r)

/-- Without skips a completion marks the element at DONE, and DONE goes to the next. -/
theorem State.completeElem_spec (s : State) (hi : s.ringInst r < 64) (hs : s.can.skips.getD [] r = []) (status stamp : Nat) :
    Marked s (s.elemAddr r (s.ringDone r)) status (s.can.errs.getD 0 r) stamp (s.completeElem r status stamp) ∧
    (s.completeElem r status stamp).ringDone r = s.ringNext r (s.ringDone r) % 2 ^ 16 ∧
    (s.completeElem r status stamp).can = { s.can with errs := s.can.errs.erase r } := by
  obtain ⟨x, hx⟩ : ∃ x, x = s.advanced r status stamp := ⟨_, rfl⟩
  have hxs : x.can.skips.getD [] r = [] := by rw [hx]; exact hs
  have hxi : x.ringInst r < 64 := by rw [hx, State.ringInst_kept (s.advanced_kept r status stamp)]; exact hi
  have hdef : s.completeElem r status stamp = x.canIrq (x.ringInst r) := by
    rw [State.completeElem_eq, ← hx, State.passSkips_none hxs]
  have hm : Marked s (s.elemAddr r (s.ringDone r)) status (s.can.errs.getD 0 r) stamp x := by
    rw [hx]; exact (s.marks r (s.ringDone r) status (s.can.errs.getD 0 r) stamp).of_mem rfl
  have hd : x.ringDone r = s.ringNext r (s.ringDone r) % 2 ^ 16 := by
    rw [hx]; exact State.rd_wr_self ((s.markElem r (s.ringDone r) status (s.can.errs.getD 0 r)).stampElem r (s.ringDone r) stamp) (F.CANRAM_RING3_DONE r) _
  have hc : x.can = { s.can with errs := s.can.errs.erase r } := by rw [hx]; rfl
  rw [hdef]
  refine ⟨hm.of_mem rfl, ?_, hc⟩
  rw [← hd]
  refine State.rd_wr_ne x _ ?_
  simp only [ne_eq, Fld.key, F.SYSCTL_IPEND_PEND, ipCanRing, F.CANRAM_RING3_DONE]
  omega

/-! ### Completion of a ring up to an index -/

/-- One element completes unless DONE stands at `k`. -/
def completeStep (r k status : Nat) (s : State) : State := if s.ringDone r = k then s else s.completeElem r status 0

theorem State.completeTo_eq (s : State) (r k status : Nat) : s.completeTo r k status =
    (List.range (s.ringDist r (s.ringDone r) k)).foldl (fun s _ => completeStep r k status s) s := rfl

theorem completeStep_kept (hi : s.ringInst r < 64) (k status : Nat) : CompKept r s (completeStep r k status s) := by
  unfold completeStep
  split
  · exact CompKept.refl r s
  · exact s.completeElem_kept hi status 0

theorem foldl_completeStep_kept {α : Type} (l : List α) (hi : s.ringInst r < 64) (k status : Nat) :
    CompKept r s (l.foldl (fun s _ => completeStep r k status s) s) := by
  induction l generalizing s with
  | nil => exact CompKept.refl r s
  | cons x l ih =>
    have h := completeStep_kept (s := s) hi k status
    exact h.trans (ih (by rw [State.ringInst_kept h]; exact hi))

theorem State.completeTo_kept (s : State) (hi : s.ringInst r < 64) (k status : Nat) : CompKept r s (s.completeTo r k status) := by
  rw [State.completeTo_eq]
  exact foldl_completeStep_kept _ hi k status

theorem CompKept.ring (h : CompKept r s s') (j k : Nat) : s'.elemAddr j k = s.elemAddr j k ∧ s'.ringNext j k = s.ringNext j k ∧ s'.ringPut j = s.ringPut j ∧
    (j ≠ r → s'.ringDone j = s.ringDone j) := by
  have hb : s'.rd (F.CANRAM_RING1_BASE j) = s.rd (F.CANRAM_RING1_BASE j) :=
    h.rd (by simp only [Fld.key, F.CANRAM_RING1_BASE]; omega) (by simp only [ne_eq, Fld.key, F.CANRAM_RING1_BASE, F.CANRAM_RING3_DONE]; omega)
  have hs : s'.rd (F.CANRAM_RING0_SLOT j) = s.rd (F.CANRAM_RING0_SLOT j) :=
    h.rd (by simp only [Fld.key, F.CANRAM_RING0_SLOT]; omega) (by simp only [ne_eq, Fld.key, F.CANRAM_RING0_SLOT, F.CANRAM_RING3_DONE]; omega)
  have hc : s'.rd (F.CANRAM_RING0_COUNT j) = s.rd (F.CANRAM_RING0_COUNT j) :=
    h.rd (by simp only [Fld.key, F.CANRAM_RING0_COUNT]; omega) (by simp only [ne_eq, Fld.key, F.CANRAM_RING0_COUNT, F.CANRAM_RING3_DONE]; omega)
  refine ⟨by unfold State.elemAddr State.ringSlot; rw [hb, hs], by unfold State.ringNext; rw [hc], ?_, fun hj => ?_⟩
  · exact h.rd (by simp only [Fld.key, F.CANRAM_RING2_PUT]; omega) (by simp only [ne_eq, Fld.key, F.CANRAM_RING2_PUT, F.CANRAM_RING3_DONE]; omega)
  · exact h.rd (by simp only [Fld.key, F.CANRAM_RING3_DONE]; omega) (by simp only [ne_eq, Fld.key, F.CANRAM_RING3_DONE]; omega)

/-- Before the distance is gone, the index has not come to its end. -/
theorem ring_not_there {n d p m : Nat} (hd : d < n) (hp : p < n) (hm : m < (p + n - d % n) % n) : (d + m) % n ≠ p := by
  rw [Nat.mod_eq_of_lt hd] at hm
  by_cases h : d ≤ p
  · rw [show p + n - d = p - d + n by omega, Nat.add_mod_right, Nat.mod_eq_of_lt (by omega)] at hm
    rw [Nat.mod_eq_of_lt (by omega)]; omega
  · rw [Nat.mod_eq_of_lt (by omega)] at hm
    by_cases h2 : d + m < n
    · rw [Nat.mod_eq_of_lt h2]; omega
    · rw [Nat.mod_eq_sub_mod (by omega), Nat.mod_eq_of_lt (by omega)]; omega

theorem ring_there {n d p : Nat} (hd : d < n) (hp : p < n) : (d + (p + n - d % n) % n) % n = p := by
  rw [Nat.mod_eq_of_lt hd]
  by_cases h : d ≤ p
  · rw [show p + n - d = p - d + n by omega, Nat.add_mod_right, Nat.mod_eq_of_lt (by omega : p - d < n), show d + (p - d) = p by omega, Nat.mod_eq_of_lt hp]
  · rw [Nat.mod_eq_of_lt (by omega : p + n - d < n), show d + (p + n - d) = p + n by omega, Nat.add_mod_right, Nat.mod_eq_of_lt hp]

/-- The elements of a ring do not overlap. -/
theorem State.elemAddr_apart (s : State) (r : Nat) {j k : Nat} (h : j ≠ k) : s.elemAddr r j + 32 ≤ s.elemAddr r k ∨ s.elemAddr r k + 32 ≤ s.elemAddr r j := by
  unfold State.elemAddr
  rcases Nat.lt_or_gt_of_ne h with h | h
  · left
    have : (j + 1) * (32 + s.ringSlot r) ≤ k * (32 + s.ringSlot r) := Nat.mul_le_mul_right _ h
    rw [Nat.succ_mul] at this; omega
  · right
    have : (k + 1) * (32 + s.ringSlot r) ≤ j * (32 + s.ringSlot r) := Nat.mul_le_mul_right _ h
    rw [Nat.succ_mul] at this; omega

/-- The indices of a ring fit, and no element of it was completed out of turn. -/
def State.RingFull (s : State) (r : Nat) : Prop := s.rd (F.CANRAM_RING0_COUNT r) < 2 ^ 16 ∧ s.ringPut r < s.rd (F.CANRAM_RING0_COUNT r) ∧
  s.ringDone r < s.rd (F.CANRAM_RING0_COUNT r) ∧ s.can.skips.getD [] r = []

/-- After `m` completions DONE is `m` further, and the first element carries the status. -/
theorem foldl_completeStep (hi : s.ringInst r < 64) (hf : s.RingFull r) {status m : Nat} (hs : status < 256) (hm : m ≤ s.ringDist r (s.ringDone r) (s.ringPut r)) :
    ∃ x, (List.range m).foldl (fun x _ => completeStep r (s.ringPut r) status x) s = x ∧ CompKept r s x ∧ x.can.skips.getD [] r = [] ∧
      x.ringDone r = (s.ringDone r + m) % s.rd (F.CANRAM_RING0_COUNT r) ∧
      (0 < m → x.memWord (s.elemAddr r (s.ringDone r) + 12) / 256 % 256 = status) := by
  obtain ⟨hc, hp, hd, hsk⟩ := hf
  have hdist : s.ringDist r (s.ringDone r) (s.ringPut r) =
      (s.ringPut r + s.rd (F.CANRAM_RING0_COUNT r) - s.ringDone r % s.rd (F.CANRAM_RING0_COUNT r)) % s.rd (F.CANRAM_RING0_COUNT r) := by
    unfold State.ringDist; dsimp only; rw [Nat.max_eq_right (by omega)]
  induction m with
  | zero => exact ⟨s, rfl, CompKept.refl r s, hsk, by rw [Nat.add_zero, Nat.mod_eq_of_lt hd], fun h => absurd h (Nat.lt_irrefl 0)⟩
  | succ m ih =>
    obtain ⟨x, hx, hk, hxs, hxd, hxm⟩ := ih (by omega)
    have hxi : x.ringInst r < 64 := by rw [State.ringInst_kept hk]; exact hi
    have hne : ¬ x.ringDone r = s.ringPut r := by rw [hxd]; exact ring_not_there hd hp (by rw [← hdist]; omega)
    obtain ⟨k1, k2, k3⟩ := x.completeElem_spec hxi hxs status 0
    obtain ⟨a1, a2, -⟩ := hk.ring r (x.ringDone r)
    refine ⟨x.completeElem r status 0, ?_, hk.trans (x.completeElem_kept hxi status 0), by rw [k3]; exact hxs, ?_, fun _ => ?_⟩
    · rw [List.range_succ, List.foldl_append, hx, List.foldl_cons, List.foldl_nil, completeStep, if_neg hne]
    · rw [k2, a2, State.ringNext, Nat.max_eq_right (by omega), hxd, Nat.mod_add_mod, Nat.add_assoc]
      exact Nat.mod_eq_of_lt (lt_trans (Nat.mod_lt _ (by omega)) hc)
    · obtain ⟨m1, -, -, -, m5⟩ := k1
      rw [a1, hxd] at m1 m5
      by_cases hm0 : m = 0
      · subst hm0
        simp only [Nat.add_zero, Nat.mod_eq_of_lt hd] at m1
        rw [m1]; omega
      · have hapart : (s.ringDone r + m) % s.rd (F.CANRAM_RING0_COUNT r) ≠ s.ringDone r := by
          have hmn : m < s.rd (F.CANRAM_RING0_COUNT r) := lt_trans (by omega) (lt_of_eq_of_lt hdist (Nat.mod_lt _ (by omega)))
          by_cases h2 : s.ringDone r + m < s.rd (F.CANRAM_RING0_COUNT r)
          · rw [Nat.mod_eq_of_lt h2]; omega
          · rw [Nat.mod_eq_sub_mod (by omega), Nat.mod_eq_of_lt (by omega)]; omega
        have h32 := s.elemAddr_apart r hapart
        rw [State.memWord_congr fun k hk4 => m5 _ (by omega)]
        exact hxm (by omega)

theorem completeTo_full (hi : s.ringInst r < 64) (hf : s.RingFull r) {status : Nat} (hs : status < 256) :
    (s.completeTo r (s.ringPut r) status).ringDone r = s.ringPut r ∧
    (s.ringDone r ≠ s.ringPut r → (s.completeTo r (s.ringPut r) status).memWord (s.elemAddr r (s.ringDone r) + 12) / 256 % 256 = status) := by
  obtain ⟨x, hx, -, -, hd, hm⟩ := foldl_completeStep hi hf hs (le_refl _)
  have hx' : s.completeTo r (s.ringPut r) status = x := hx
  obtain ⟨hc, hp, hd0, -⟩ := hf
  have hdist : s.ringDist r (s.ringDone r) (s.ringPut r) =
      (s.ringPut r + s.rd (F.CANRAM_RING0_COUNT r) - s.ringDone r % s.rd (F.CANRAM_RING0_COUNT r)) % s.rd (F.CANRAM_RING0_COUNT r) := by
    unfold State.ringDist; dsimp only; rw [Nat.max_eq_right (by omega)]
  rw [hx']
  refine ⟨by rw [hd, hdist]; exact ring_there hd0 hp, fun hne => hm (Nat.pos_of_ne_zero fun e => hne ?_)⟩
  have := ring_there hd0 hp
  rw [← hdist, e, Nat.add_zero, Nat.mod_eq_of_lt hd0] at this
  exact this

/-! ### ABORT -/

section
variable (hc : c < 12) (hp : (s.tick t).passes (canCmdAddr c) a true = true) (hr : r < 128)
include hc hp hr

theorem canAbort_ring (hv : s.servesTx c r = true) (hb : (s.ctl c).onBus ≠ some (.elem r)) (hf : s.RingFull r) (hi : s.ringInst r < 64) :
    Ends (.canAbort t a c r) s fun s' => s'.ringDone r = s.ringPut r ∧ s'.ringPut r = s.ringPut r ∧
      (s.ringDone r ≠ s.ringPut r → s'.memWord (s.elemAddr r (s.ringDone r) + 12) / 256 % 256 = 0x81) := by
  have h1 : r < 128 ∧ (s.tick t).okay.servesTx c r = true := ⟨hr, hv⟩
  have h2 : ¬ ((s.tick t).okay.ctl c).onBus = some (.elem r) := hb
  refine ends_canCmd (arm_canAbort ..) hc hp ?_
  rw [if_pos h1, if_neg h2]
  obtain ⟨a1, a2⟩ := completeTo_full (s := (s.tick t).okay) hi hf (status := 0x81) (by decide)
  exact ⟨a1, (((s.tick t).okay.completeTo_kept hi (s.ringPut r) 0x81).ring r 0).2.2.1, a2⟩

theorem canAbort_onBus (hv : s.servesTx c r = true) (hb : (s.ctl c).onBus = some (.elem r)) : Ends (.canAbort t a c r) s fun s' =>
    s'.regs = s.regs ∧ s'.mem = s.mem ∧ s'.can.aborts.find? r = some (s.ringPut r) := by
  have h1 : r < 128 ∧ (s.tick t).okay.servesTx c r = true := ⟨hr, hv⟩
  have h2 : ((s.tick t).okay.ctl c).onBus = some (.elem r) := hb
  refine ends_canCmd (arm_canAbort ..) hc hp ?_
  rw [if_pos h1, if_pos h2]
  exact ⟨rfl, rfl, Tbl.find?_insert_self ..⟩

omit hr in
theorem canAbort_refused (hv : s.servesTx c r = false) : Ends (.canAbort t a c r) s fun s' => OnlyRegs s t [F.CAN_STAT_CMD_REFUSED c] s' ∧
    s'.rd (F.CAN_STAT_CMD_REFUSED c) = 1 := by
  have h1 : ¬ (r < 128 ∧ (s.tick t).okay.servesTx c r = true) := fun h => Bool.eq_false_iff.1 hv h.2
  refine ends_canCmd (arm_canAbort ..) hc hp ?_
  rw [if_neg h1]
  exact ⟨(OnlyRegs.tick s t _).okay.raise (by simp), State.rd_raise_bit _ rfl⟩

end

/-! ### The fence -/

theorem State.inst_kept (h : CompKept r s s') (j : Nat) : s'.inst j = s.inst j := by unfold State.inst; rw [h.vim]

/-- The keys that the fence of instance `i` touches in TX ring `j`. -/
def FenceKey (i j k : Nat) : Prop := CompKey j k ∨ k = (F.CANRAM_RING4_DROPPED_CANCELLED j).key ∨ k = (F.VIM_INST_RESET_CNT_CANCELLED i).key

/-- What the fence of instance `i` leaves alone as it goes through ring `j`. -/
def FenceKept (i j : Nat) (s s' : State) : Prop := Stands (FenceKey i j) s s' ∧ (∀ k, k ≠ j → s'.can.skips.getD [] k = s.can.skips.getD [] k) ∧
  (s'.inst i).state = (s.inst i).state

namespace FenceKept
variable {j : Nat}

theorem refl (i j : Nat) (s : State) : FenceKept i j s s := ⟨Stands.refl _ s, fun _ _ => rfl, rfl⟩

theorem trans (h : FenceKept i j s s') (h' : FenceKept i j s' s'') : FenceKept i j s s'' := by
  obtain ⟨h1, h2, h3⟩ := h
  obtain ⟨k1, k2, k3⟩ := h'
  exact ⟨h1.trans k1, fun k hk => (k2 k hk).trans (h2 k hk), k3.trans h3⟩

theorem of_comp (h : CompKept j s s') : FenceKept i j s s' :=
  ⟨h.1.mono fun _ hk => Or.inl hk, h.2.1.2.2, congrArg Inst.state (State.inst_kept h i)⟩

theorem of_regs (h : s'.regs = s.regs) (hk : s'.can.skips = s.can.skips) (hv : (s'.inst i).state = (s.inst i).state) : FenceKept i j s s' :=
  ⟨Stands.of_regs h, fun k _ => by rw [hk], hv⟩

theorem wr {f : Fld} (hf : FenceKey i j f.key) (s : State) (v : Nat) : FenceKept i j s (s.wr f v) := ⟨Stands.wr hf s v, fun _ _ => rfl, rfl⟩

/-- The words of a ring's descriptor stand, but DONE of the ring at hand. -/
theorem ring (h : FenceKept i j s s') {k : Nat} (hk : k < 128) : s'.ringValid k = s.ringValid k ∧ s'.ringTx k = s.ringTx k ∧ s'.ringInst k = s.ringInst k ∧
    s'.rd (F.CANRAM_RING0_COUNT k) = s.rd (F.CANRAM_RING0_COUNT k) ∧ s'.ringPut k = s.ringPut k ∧ (k ≠ j → s'.ringDone k = s.ringDone k) := by
  have hrd (f : Fld) (h1 : ¬ FenceKey i j f.key) : s'.rd f = s.rd f := h.1 f h1
  unfold State.ringValid State.ringTx State.ringInst State.ringPut State.ringDone State.flag
  simp only [FenceKey, CompKey, Fld.key, F.CANRAM_RING3_DONE, F.CANRAM_RING4_DROPPED_CANCELLED, F.VIM_INST_RESET_CNT_CANCELLED] at hrd
  rw [hrd (F.CANRAM_RING0_VALID k) (by simp only [F.CANRAM_RING0_VALID]; omega), hrd (F.CANRAM_RING0_DIR k) (by simp only [F.CANRAM_RING0_DIR]; omega),
    hrd (F.CANRAM_RING0_INST k) (by simp only [F.CANRAM_RING0_INST]; omega), hrd (F.CANRAM_RING0_COUNT k) (by simp only [F.CANRAM_RING0_COUNT]; omega),
    hrd (F.CANRAM_RING2_PUT k) (by simp only [F.CANRAM_RING2_PUT]; omega)]
  exact ⟨rfl, rfl, rfl, rfl, rfl, fun hj => hrd (F.CANRAM_RING3_DONE k) (by simp only [F.CANRAM_RING3_DONE]; omega)⟩

end FenceKept

/-- The frame of ring `j` on its controller's bus is to be discarded. -/
def State.discardRing (s : State) (j : Nat) : State :=
  let c := s.rd (F.CANRAM_RING0_CTRL j)
  if (s.ctl c).onBus = some (.elem j) then s.modCtl c fun x => { x with discard := true } else s

theorem State.discardRing_frame (s : State) (j : Nat) : (s.discardRing j).regs = s.regs ∧ (s.discardRing j).can.skips = s.can.skips ∧ (s.discardRing j).vim = s.vim := by
  unfold State.discardRing
  dsimp only
  split <;> exact ⟨rfl, rfl, rfl⟩

theorem State.ring_congr (h : s'.regs = s.regs) (k : Nat) : s'.ringValid k = s.ringValid k ∧ s'.ringTx k = s.ringTx k ∧ s'.ringInst k = s.ringInst k ∧
    s'.rd (F.CANRAM_RING0_COUNT k) = s.rd (F.CANRAM_RING0_COUNT k) ∧ s'.ringPut k = s.ringPut k ∧ s'.ringDone k = s.ringDone k := by
  unfold State.ringValid State.ringTx State.ringInst State.ringPut State.ringDone State.flag
  simp only [State.rd_congr h, and_self]

/-- The fence's counts and marks after the elements of ring `j` are complete. -/
def State.fenceBooked (s : State) (i j n : Nat) : State :=
  let s := s.incBy (F.CANRAM_RING4_DROPPED_CANCELLED j) n
  let s := { s with can := { s.can with aborts := s.can.aborts.erase j } }
  (s.countCancelled i n).modInst i fun x => { x with txDone := x.txDone + n }

theorem State.fenceBooked_spec (s : State) (i j n : Nat) :
    Stands (fun k => k = (F.CANRAM_RING4_DROPPED_CANCELLED j).key ∨ k = (F.VIM_INST_RESET_CNT_CANCELLED i).key) s (s.fenceBooked i j n) ∧
    (s.fenceBooked i j n).can.skips = s.can.skips ∧ ((s.fenceBooked i j n).inst i).state = (s.inst i).state := by
  obtain ⟨x, hx⟩ : ∃ x, x = s.incBy (F.CANRAM_RING4_DROPPED_CANCELLED j) n := ⟨_, rfl⟩
  obtain ⟨y, hy⟩ : ∃ y, y = { x with can := { x.can with aborts := x.can.aborts.erase j } } := ⟨_, rfl⟩
  have h1 : Stands (fun k => k = (F.CANRAM_RING4_DROPPED_CANCELLED j).key ∨ k = (F.VIM_INST_RESET_CNT_CANCELLED i).key) s x := by
    rw [hx]; exact Stands.wr (Or.inl rfl) _ _
  have h2 : y.regs = x.regs ∧ y.can.skips = s.can.skips ∧ y.vim = s.vim := by rw [hy, hx]; exact ⟨rfl, rfl, rfl⟩
  have h4 : s.fenceBooked i j n = (y.countCancelled i n).modInst i fun x => { x with txDone := x.txDone + n } := by rw [hy, hx]; rfl
  obtain ⟨y1, y2, y3⟩ := h2
  rw [h4]
  refine ⟨(h1.trans (Stands.of_regs y1)).trans ((Stands.wr (s := y) (Or.inr rfl) _).trans (Stands.of_regs rfl)), y2, ?_⟩
  rw [State.inst_modInst_self]
  change (y.inst i).state = (s.inst i).state
  unfold State.inst
  rw [y3]

theorem State.fenceBooked_kept (s : State) (i j n : Nat) : FenceKept i j s (s.fenceBooked i j n) := by
  obtain ⟨h1, h2, h3⟩ := s.fenceBooked_spec i j n
  exact ⟨h1.mono fun _ hk => Or.inr hk, fun k _ => by rw [h2], h3⟩

theorem State.fenceRing_eq (s : State) (i j : Nat) : s.fenceRing i j = if s.ringValid j ∧ s.ringTx j ∧ s.ringInst j = i then
    ((s.discardRing j).completeTo j ((s.discardRing j).ringPut j) 0x02).fenceBooked i j (s.ringDist j (s.ringDone j) (s.ringPut j)) else s := rfl

theorem State.fenceRing_kept (s : State) {j : Nat} (hi : s.ringInst j < 64) : FenceKept i j s (s.fenceRing i j) := by
  obtain ⟨h1, h2, h3⟩ := s.discardRing_frame j
  rw [State.fenceRing_eq]
  split
  · have hk := (s.discardRing j).completeTo_kept (r := j) (by rw [(State.ring_congr h1 j).2.2.1]; exact hi) ((s.discardRing j).ringPut j) 0x02
    exact ((FenceKept.of_regs h1 h2 (by unfold State.inst; rw [h3])).trans (FenceKept.of_comp hk)).trans (State.fenceBooked_kept _ _ _ _)
  · exact FenceKept.refl i j s

/-- The fence completes a TX ring of its instance up to PUT. -/
theorem State.fenceRing_done (hv : s.ringValid r = true) (htx : s.ringTx r = true) (hri : s.ringInst r = i) (hf : s.RingFull r) (hi : i < 64) :
    (s.fenceRing i r).ringDone r = s.ringPut r := by
  obtain ⟨h1, h2, -⟩ := s.discardRing_frame r
  obtain ⟨-, -, e3, e4, e5, e6⟩ := State.ring_congr h1 r
  obtain ⟨f1, f2, f3, f4⟩ := hf
  have hfull : (s.discardRing r).RingFull r := ⟨by rw [e4]; exact f1, by rw [e4, e5]; exact f2, by rw [e4, e6]; exact f3, by rw [h2]; exact f4⟩
  obtain ⟨hd, -⟩ := completeTo_full (by rw [e3, hri]; exact hi) hfull (status := 0x02) (by decide)
  rw [State.fenceRing_eq, if_pos ⟨hv, htx, hri⟩]
  obtain ⟨x, hx⟩ : ∃ x, x = (s.discardRing r).completeTo r ((s.discardRing r).ringPut r) 0x02 := ⟨_, rfl⟩
  rw [← hx] at hd ⊢
  refine Eq.trans ?_ (hd.trans e5)
  refine (x.fenceBooked_spec i r _).1 _ ?_
  simp only [Fld.key, F.CANRAM_RING3_DONE, F.CANRAM_RING4_DROPPED_CANCELLED, F.VIM_INST_RESET_CNT_CANCELLED]
  omega

/-- Ring `r` as the fence of instance `i` finds it before its turn. -/
def FencePre (s : State) (i r : Nat) (x : State) : Prop := (∀ j, j < 128 → x.ringInst j < 64) ∧ (x.inst i).state = (s.inst i).state ∧
  x.ringValid r = s.ringValid r ∧ x.ringTx r = s.ringTx r ∧ x.ringInst r = s.ringInst r ∧
  x.rd (F.CANRAM_RING0_COUNT r) = s.rd (F.CANRAM_RING0_COUNT r) ∧ x.ringPut r = s.ringPut r

theorem FencePre.step {x : State} {j : Nat} (hj : j < 128) (hr : r < 128) (h : FencePre s i r x) : FencePre s i r (x.fenceRing i j) := by
  obtain ⟨h1, h2, h3, h4, h5, h6, h7⟩ := h
  have hk := x.fenceRing_kept (i := i) (h1 j hj)
  obtain ⟨k1, k2, k3, k4, k5, -⟩ := hk.ring hr
  exact ⟨fun l hl => by rw [(hk.ring hl).2.2.1]; exact h1 l hl, hk.2.2.trans h2, k1.trans h3, k2.trans h4, k3.trans h5, k4.trans h6, k5.trans h7⟩

/-- The fence's turn of ring `j`, which is one of the 128. -/
def fenceTurn (i : Nat) (x : State) (j : Nat) : State := if j < 128 then x.fenceRing i j else x

theorem fenceTurn_of_lt (x : State) {j : Nat} (hj : j < 128) : fenceTurn i x j = x.fenceRing i j := if_pos hj

theorem FencePre.turn {x : State} (hr : r < 128) (h : FencePre s i r x) (j : Nat) : FencePre s i r (fenceTurn i x j) := by
  unfold fenceTurn
  split
  · exact h.step ‹_› hr
  · exact h

/-- Another ring's turn leaves DONE and the skipped elements of ring `r`. -/
theorem FencePre.other {x : State} {j : Nat} (hr : r < 128) (h : FencePre s i r x) (hj : j ≠ r) :
    (fenceTurn i x j).ringDone r = x.ringDone r ∧ (fenceTurn i x j).can.skips.getD [] r = x.can.skips.getD [] r := by
  unfold fenceTurn
  split
  · next hlt =>
    have hk := x.fenceRing_kept (i := i) (h.1 j hlt)
    exact ⟨(hk.ring hr).2.2.2.2.2 (Ne.symm hj), hk.2.1 r (Ne.symm hj)⟩
  · exact ⟨rfl, rfl⟩

/-- After the fence ring `r` is complete up to PUT. -/
theorem foldl_fenceRing (hv : s.ringValid r = true) (htx : s.ringTx r = true) (hri : s.ringInst r = i) (hf : s.RingFull r) (hi : i < 64) (hr : r < 128)
    (hall : ∀ j, j < 128 → s.ringInst j < 64) : ∃ x, (List.range 128).foldl (fun s j => s.fenceRing i j) s = x ∧ x.ringDone r = s.ringPut r ∧
      (x.inst i).state = (s.inst i).state := by
  have hg : (List.range 128).foldl (fun s j => s.fenceRing i j) s = (List.range 128).foldl (fenceTurn i) s :=
    List.foldl_ext _ _ s fun x j hj => (fenceTurn_of_lt x (List.mem_range.1 hj)).symm
  refine ⟨_, rfl, ?_⟩
  rw [hg]
  have hpost := foldl_visit (g := fenceTurn i) (i := r) (Pre := fun x => FencePre s i r x ∧ x.ringDone r = s.ringDone r ∧ x.can.skips.getD [] r = s.can.skips.getD [] r)
    (Post := fun x => FencePre s i r x ∧ x.ringDone r = s.ringPut r)
    (fun x j hj hx => by
      obtain ⟨hx, h1, h2⟩ := hx
      obtain ⟨o1, o2⟩ := hx.other hr hj
      exact ⟨hx.turn hr j, o1.trans h1, o2.trans h2⟩)
    (fun x j hj hx => ⟨hx.1.turn hr j, (hx.1.other hr hj).1.trans hx.2⟩)
    (fun x hx => by
      obtain ⟨hx, h1, h2⟩ := hx
      refine ⟨hx.turn hr r, ?_⟩
      obtain ⟨-, -, e1, e2, e3, e4, e5⟩ := hx
      obtain ⟨f1, f2, f3, f4⟩ := hf
      rw [fenceTurn_of_lt x hr, ← e5]
      exact State.fenceRing_done (e1.trans hv) (e2.trans htx) (e3.trans hri)
        ⟨by rw [e4]; exact f1, by rw [e4, e5]; exact f2, by rw [e4, h1]; exact f3, h2.trans f4⟩ hi)
    List.nodup_range (List.mem_range.2 hr) (s := s) ⟨⟨hall, rfl, rfl, rfl, rfl, rfl, rfl⟩, rfl, rfl⟩
  exact ⟨hpost.2, hpost.1.2.1⟩

theorem canFence_ends (hi : i < 64) (ha : s.awaits i 0 = true) (hv : s.ringValid r = true) (htx : s.ringTx r = true) (hri : s.ringInst r = i)
    (hf : s.RingFull r) (hr : r < 128) (hall : ∀ j, j < 128 → s.ringInst j < 64) : Ends (.canFence t i) s fun s' => s'.ringDone r = s.ringPut r ∧
      (s'.inst i).drained.testBit 0 = true ∧ (s'.inst i).state = .resetting := by
  have ha' : (s.tick t).awaits i 0 = true := ha
  have hst : (s.inst i).state = .resetting := by
    simp only [State.awaits, Bool.and_eq_true, beq_iff_eq] at ha
    exact ha.1.1
  obtain ⟨x, hx, hd, hxs⟩ := foldl_fenceRing (s := s.tick t) hv htx hri hf hi hr hall
  refine ends_unit (x := x.markDrained i 0) (arm_canFence ..) (decide_eq_true hi) (by rw [if_pos ha', hx]) ?_
  refine ⟨hd, ?_, ?_⟩
  · rw [State.markDrained, State.inst_modInst_self]; exact testBit_maskSet_self _ 0
  · rw [State.markDrained, State.inst_modInst_self]; exact hxs.trans hst

/-! ### The ready element that wins -/

theorem arbKey_lt (xtd rtr : Bool) (id : Nat) : arbKey xtd rtr id < 2 ^ 32 := by
  have h1 := Nat.mod_lt (id / 2 ^ 18) (show 0 < 2048 by decide)
  have h2 := Nat.mod_lt id (show 0 < 2 ^ 18 by decide)
  have h3 := Nat.mod_lt id (show 0 < 2048 by decide)
  unfold arbKey
  cases xtd <;> cases rtr <;> simp only [bit, if_true, if_false, Bool.false_eq_true] <;> omega

theorem foldl_min_eq {l : List Nat} {a m : Nat} (hle : ∀ x ∈ l, m ≤ x) (ha : m ≤ a) (hm : m ∈ l ∨ a = m) : l.foldl min a = m := by
  induction l generalizing a with
  | nil => exact hm.resolve_left List.not_mem_nil
  | cons x l ih =>
    have hx := hle x (List.mem_cons_self ..)
    refine ih (fun y hy => hle y (List.mem_cons_of_mem _ hy)) (le_min ha hx) ?_
    rcases hm with hm | rfl
    · rcases List.mem_cons.1 hm with rfl | hm
      · exact Or.inr (Nat.min_eq_right ha)
      · exact Or.inl hm
    · exact Or.inr (Nat.min_eq_left hx)

/-- One requester alone is served, wherever the pointer stands. -/
theorem rotFirst_unique {n ptr k : Nat} {req : Nat → Bool} (hk : k < n) (hr : req k = true) (hu : ∀ j, req j = true → j = k) : rotFirst n ptr req = some k := by
  cases h : rotFirst n ptr req with
  | some j => rw [hu j (rotFirst_req h)]
  | none =>
    have hm : (ptr % n + (k + n - ptr % n % n) % n) % n = k := ring_there (Nat.mod_lt _ (by omega)) hk
    rw [Nat.mod_add_mod] at hm
    have hno := List.find?_eq_none.1 h k (List.mem_map.2 ⟨_, List.mem_range.2 (Nat.mod_lt _ (by omega)), hm⟩)
    exact absurd hr hno

theorem filter_eq_singleton {l : List Nat} {p : Nat → Bool} {k : Nat} (hl : l.Nodup) (hk : k ∈ l) (hp : ∀ j ∈ l, p j = true ↔ j = k) : l.filter p = [k] := by
  rw [List.filter_congr (q := fun j => decide (j = k)) fun j hj => by rw [Bool.eq_iff_iff, hp j hj, decide_eq_true_iff], List.filter_eq,
    List.count_eq_one_of_mem hl hk]
  rfl

/-- The arbitration key of the element at DONE of ring `j`. -/
def State.doneKey (s : State) (j : Nat) : Nat :=
  let h := s.txHead j (s.ringDone j)
  arbKey (h.1 && !h.2.2.2.2.1) h.2.1 h.2.2.1

theorem State.candidates_eq (s : State) (c : Nat) : s.candidates c = ((List.range 128).filter fun r => s.txReady c r).map (fun r => (r, s.doneKey r)) ++
    (if (s.ctl c).refDue.isSome then [(128, arbKey false false (s.rd (F.CAN_TT_CFG_REF_ID c)))] else []) := rfl

/-- The lowest key of the candidates, and those that have it. -/
def bestKey (cs : List (Nat × Nat)) : Nat := (cs.map (·.2)).foldl min (2 ^ 32)
def tiedBest (cs : List (Nat × Nat)) : List Nat := (cs.filter fun x => x.2 = bestKey cs).map (·.1)

theorem tiedBest_elem (hr : r < 128) (hrdy : s.txReady c r = true) (hd : (s.ctl c).refDue = none)
    (hk : ∀ j, j < 128 → s.txReady c j = true → j ≠ r → s.doneKey r < s.doneKey j) : tiedBest (s.candidates c) = [r] := by
  have hcs : s.candidates c = ((List.range 128).filter fun r => s.txReady c r).map (fun r => (r, s.doneKey r)) := by
    rw [State.candidates_eq, hd]; exact List.append_nil _
  have hle : ∀ j, j < 128 → s.txReady c j = true → s.doneKey r ≤ s.doneKey j := fun j hj hjr => by
    by_cases h : j = r
    · rw [h]
    · exact (hk j hj hjr h).le
  have hbest : bestKey (s.candidates c) = s.doneKey r := by
    unfold bestKey
    rw [hcs, List.map_map]
    refine foldl_min_eq (fun x hx => ?_) (arbKey_lt _ _ _).le (Or.inl (List.mem_map.2 ⟨r, List.mem_filter.2 ⟨List.mem_range.2 hr, hrdy⟩, rfl⟩))
    obtain ⟨j, hj, rfl⟩ := List.mem_map.1 hx
    obtain ⟨hj1, hj2⟩ := List.mem_filter.1 hj
    exact hle j (List.mem_range.1 hj1) hj2
  unfold tiedBest
  rw [hbest, hcs, List.filter_map, List.map_map, List.filter_filter]
  rw [filter_eq_singleton (k := r) List.nodup_range (List.mem_range.2 hr)]
  · rfl
  · intro j hj
    simp only [Function.comp_apply, Bool.and_eq_true, decide_eq_true_iff]
    exact ⟨fun h => by_contra fun hne => absurd h.1 (hk j (List.mem_range.1 hj) h.2 hne).ne', fun h => by rw [h]; exact ⟨rfl, hrdy⟩⟩

theorem tiedBest_ref (hno : ∀ j, j < 128 → s.txReady c j = false) (hd : (s.ctl c).refDue = some n) : tiedBest (s.candidates c) = [128] := by
  have hcs : s.candidates c = [(128, arbKey false false (s.rd (F.CAN_TT_CFG_REF_ID c)))] := by
    rw [State.candidates_eq, hd, List.filter_eq_nil_iff.2 fun j hj => by rw [hno j (List.mem_range.1 hj)]; decide]
    rfl
  have hbest : bestKey (s.candidates c) = arbKey false false (s.rd (F.CAN_TT_CFG_REF_ID c)) := by
    unfold bestKey
    rw [hcs, List.map_cons, List.map_nil]
    exact foldl_min_eq (fun x hx => (List.mem_singleton.1 hx).ge) (arbKey_lt _ _ _).le (Or.inl (List.mem_singleton.2 rfl))
  unfold tiedBest
  rw [hbest, hcs]
  simp only [List.filter_cons, decide_true, if_true, List.filter_nil, List.map_cons, List.map_nil]

/-! ### A transmission opportunity -/

/-- No opportunity comes to the controller. -/
def State.mute (s : State) (c : Nat) : Prop := !(s.ctl c).state.onLine ∨ (s.ctl c).onBus.isSome ∨ (s.ctl c).stopping ∨ s.flag (F.CAN_CTL_LISTEN c) ∨
  ((s.ctl c).state = .passive ∧ s.now < (s.ctl c).suspend)

theorem State.not_mute (hon : (s.ctl c).state = .active ∨ (s.ctl c).state = .passive) (hb : (s.ctl c).onBus = none) (hst : (s.ctl c).stopping = false)
    (hl : s.flag (F.CAN_CTL_LISTEN c) = false) (hsu : (s.ctl c).state = .passive → (s.ctl c).suspend ≤ s.now) : ¬ s.mute c := by
  rintro (h | h | h | h | ⟨h1, h2⟩)
  · rcases hon with e | e <;> rw [e] at h <;> exact absurd h (by decide)
  · rw [hb] at h; exact absurd h (by decide)
  · rw [hst] at h; exact absurd h (by decide)
  · rw [hl] at h; exact absurd h (by decide)
  · exact absurd (hsu h1) (by omega)

/-- Requester `k`'s frame goes on the bus. -/
def State.begins (s : State) (c k : Nat) : State :=
  let tx := if k = 128 then CanTx.ref ((s.ctl c).refDue.getD 0) else CanTx.elem k
  s.modCtl c fun x => { x with onBus := some tx, sof := s.now, discard := false, ptr := (k + 1) % 129 }

/-- The requester that the rotation picks from the tied ones begins. -/
def State.served (s : State) (c : Nat) (x : CanCtl) (tied : List Nat) : State :=
  match rotFirst 129 x.ptr fun k => tied.contains k with
  | none => s
  | some k =>
    let s := if 2 ≤ tied.length then s.inc (F.CAN_TIE_CNT_TIES c) else s
    let tx := if k = 128 then CanTx.ref (x.refDue.getD 0) else CanTx.elem k
    s.modCtl c fun x => { x with onBus := some tx, sof := s.now, discard := false, ptr := (k + 1) % 129 }

theorem State.purgeBad_none {m : Nat} (h : s.badFormat c r (s.ringDone r) = false) : s.purgeBad c r m = s := by
  cases m with
  | zero => rfl
  | succ m => exact if_neg fun hb => by rw [h] at hb; exact absurd hb.2 (by decide)

/-- One requester tied with itself alone: it goes on the bus, and nothing else changes. -/
theorem txOpportunity_begins {k : Nat} (hc : c < 12) (hm : ¬ (s.tick t).mute c) (hg : ∀ j, j < 128 → s.txReady c j = true → s.badFormat c j (s.ringDone j) = false)
    (hk : k < 129) (ht : tiedBest ((s.tick t).candidates c) = [k]) {P : State → Prop} (h : P ((s.tick t).begins c k)) : Ends (.txOpportunity t c) s P := by
  obtain ⟨u, hu⟩ : ∃ u, u = s.tick t := ⟨_, rfl⟩
  have hgood : ∀ j, j < 128 → u.txReady c j = true → u.badFormat c j (u.ringDone j) = false := by rw [hu]; exact hg
  have hfold : (List.range 128).foldl (fun s r => if s.txReady c r then s.purgeBad c r (s.rd (F.CANRAM_RING0_COUNT r)) else s) u = u :=
    foldl_fixed _ fun j hj => by
      split
      · exact State.purgeBad_none (hgood j (List.mem_range.1 hj) ‹_›)
      · rfl
  have hrot : rotFirst 129 (u.ctl c).ptr (fun j => [k].contains j) = some k :=
    rotFirst_unique hk (by simp) fun j hj => by simpa using hj
  refine ends_unit (x := u.begins c k) (arm_txOpportunity ..) (decide_eq_true hc) ?_ (by rw [hu]; exact h)
  rw [← hu] at hm ht ⊢
  refine (if_neg hm).trans ?_
  dsimp only
  rw [hfold]
  change u.served c (u.ctl c) (tiedBest (u.candidates c)) = _
  rw [ht, State.served, hrot]
  dsimp only
  rw [if_neg (show ¬ 2 ≤ [k].length from Nat.not_succ_le_self 1)]
  rfl

section
variable (hc : c < 12) (hon : (s.ctl c).state = .active ∨ (s.ctl c).state = .passive) (hb : (s.ctl c).onBus = none) (hst : (s.ctl c).stopping = false)
  (hl : s.flag (F.CAN_CTL_LISTEN c) = false) (hsu : (s.ctl c).state = .passive → (s.ctl c).suspend ≤ t)
include hc hon hb hst hl hsu

theorem txOpportunity_elem (hr : r < 128) (hrdy : s.txReady c r = true) (hd : (s.ctl c).refDue = none)
    (hall : ∀ j, j < 128 → s.txReady c j = true → s.badFormat c j (s.ringDone j) = false ∧ (j ≠ r → s.doneKey r < s.doneKey j)) :
    Ends (.txOpportunity t c) s fun s' => s'.regs = s.regs ∧ s'.mem = s.mem ∧ (∀ k, k ≠ c → s'.ctl k = s.ctl k) ∧
      s'.ctl c = { s.ctl c with onBus := some (.elem r), sof := t, discard := false, ptr := (r + 1) % 129 } := by
  have ht : tiedBest ((s.tick t).candidates c) = [r] := tiedBest_elem hr hrdy hd fun j hj hjr => (hall j hj hjr).2
  refine txOpportunity_begins hc (State.not_mute hon hb hst hl hsu) (fun j hj hjr => (hall j hj hjr).1) (by omega) ht ⟨rfl, rfl, fun k hk => ?_, ?_⟩
  · exact State.ctl_modCtl_ne _ _ hk
  · rw [State.begins, State.ctl_modCtl_self, if_neg (show r ≠ 128 by omega)]; rfl

theorem txOpportunity_ref (hno : ∀ j, j < 128 → s.txReady c j = false) (hd : (s.ctl c).refDue = some n) : Ends (.txOpportunity t c) s fun s' =>
    s'.regs = s.regs ∧ s'.ctl c = { s.ctl c with onBus := some (.ref n), sof := t, discard := false, ptr := 0 } := by
  have ht : tiedBest ((s.tick t).candidates c) = [128] := tiedBest_ref hno hd
  refine txOpportunity_begins hc (State.not_mute hon hb hst hl hsu) (fun j hj hjr => ?_) (by decide) ht ⟨rfl, ?_⟩
  · rw [hno j hj] at hjr; exact absurd hjr (by decide)
  · have hd' : ((s.tick t).ctl c).refDue = some n := hd
    rw [State.begins, State.ctl_modCtl_self, if_pos rfl, show ((s.tick t).ctl c).refDue.getD 0 = n by rw [hd']; rfl]; rfl

end

/-! ### The end of a frame -/

/-- Memory and the registers outside the CAN controllers' stand. -/
def RamSame (s s' : State) : Prop := Stands CanKey s s' ∧ s'.mem = s.mem

theorem RamSame.refl (s : State) : RamSame s s := ⟨Stands.refl _ s, rfl⟩

theorem RamSame.trans (h : RamSame s s') (h' : RamSame s' s'') : RamSame s s'' := ⟨h.1.trans h'.1, h'.2.trans h.2⟩

theorem RamSame.wr {f : Fld} (hf : CanKey f.key) (s : State) (v : Nat) : RamSame s (s.wr f v) := ⟨Stands.wr hf s v, rfl⟩

theorem RamSame.of_regs (hr : s'.regs = s.regs) (hm : s'.mem = s.mem) : RamSame s s' := ⟨Stands.of_regs hr, hm⟩

/-- The descriptors and elements of the rings are the same. -/
theorem RamSame.ring (h : RamSame s s') (r k : Nat) : s'.elemAddr r k = s.elemAddr r k ∧ s'.ringNext r k = s.ringNext r k ∧ s'.ringDone r = s.ringDone r ∧
    s'.ringInst r = s.ringInst r ∧ s'.rd (F.CANRAM_RING1_RETRY r) = s.rd (F.CANRAM_RING1_RETRY r) ∧ ∀ b, s'.memWord b = s.memWord b := by
  have hrd (f : Fld) (hf : 0x40C00000 * 32 ≤ f.key) : s'.rd f = s.rd f := h.1 f fun hk => absurd hk.2 (Nat.not_lt.2 hf)
  unfold State.elemAddr State.ringSlot State.ringNext State.ringDone State.ringInst
  rw [hrd (F.CANRAM_RING1_BASE r) (by simp only [Fld.key, F.CANRAM_RING1_BASE]; omega), hrd (F.CANRAM_RING0_SLOT r) (by simp only [Fld.key, F.CANRAM_RING0_SLOT]; omega),
    hrd (F.CANRAM_RING0_COUNT r) (by simp only [Fld.key, F.CANRAM_RING0_COUNT]; omega), hrd (F.CANRAM_RING3_DONE r) (by simp only [Fld.key, F.CANRAM_RING3_DONE]; omega),
    hrd (F.CANRAM_RING0_INST r) (by simp only [Fld.key, F.CANRAM_RING0_INST]; omega), hrd (F.CANRAM_RING1_RETRY r) (by simp only [Fld.key, F.CANRAM_RING1_RETRY]; omega)]
  exact ⟨rfl, rfl, rfl, rfl, rfl, fun b => State.memWord_congr fun _ _ => by rw [h.2]⟩

/-- The element at DONE of ring `r` has completed with a status and `e` errors. -/
def ElemDone (s s' : State) (r status e : Nat) : Prop :=
  let el := s.elemAddr r (s.ringDone r)
  s'.ringDone r = s.ringNext r (s.ringDone r) % 2 ^ 16 ∧
    s'.memWord (el + 12) / 256 % 256 = status ∧ s'.memWord (el + 12) / 65536 = s.memWord (el + 12) / 65536 ∧
    s'.memWord (el + 24) = min 255 e ∧ (∀ b, b < el + 12 ∨ el + 28 ≤ b → Memory.read s'.mem b = Memory.read s.mem b)

theorem ElemDone.same (h : ElemDone s s' r status e) (h' : RamSame s' s'') : ElemDone s s'' r status e := by
  obtain ⟨h1, h2, h3, h4, h5⟩ := h
  obtain ⟨-, -, k3, -, -, k6⟩ := h'.ring r 0
  exact ⟨k3.trans h1, by rw [k6]; exact h2, by rw [k6]; exact h3, by rw [k6]; exact h4, fun b hb => by rw [h'.2]; exact h5 b hb⟩

theorem ElemDone.of_same (h' : RamSame s s') (h : ElemDone s' s'' r status e) : ElemDone s s'' r status e := by
  obtain ⟨h1, h2, h3, h4, h5⟩ := h
  obtain ⟨-, -, k3, -, -, k6⟩ := h'.ring r 0
  obtain ⟨k1, k2, -⟩ := h'.ring r (s.ringDone r)
  rw [k3, k1] at h2 h3 h4 h5
  rw [k3, k2] at h1
  rw [k6] at h3
  exact ⟨h1, h2, h3, h4, fun b hb => by rw [← h'.2]; exact h5 b hb⟩

theorem elemDone_completeElem (hi : s.ringInst r < 64) (hs : s.can.skips.getD [] r = []) {status : Nat} (hst : status < 256) (stamp : Nat) :
    ElemDone s (s.completeElem r status stamp) r status (s.can.errs.getD 0 r) ∧
      (s.completeElem r status stamp).memWord (s.elemAddr r (s.ringDone r) + 16) = stamp % 2 ^ 32 ∧
      (s.completeElem r status stamp).memWord (s.elemAddr r (s.ringDone r) + 20) = stamp / 2 ^ 32 % 2 ^ 32 := by
  obtain ⟨⟨m1, m2, m3, m4, m5⟩, h2, -⟩ := s.completeElem_spec hi hs status stamp
  refine ⟨⟨h2, ?_, ?_, m2, m5⟩, m3, m4⟩ <;> omega

theorem State.settleAbort_none (h : s.can.aborts.find? r = none) : s.settleAbort r = s := by unfold State.settleAbort; rw [h]

/-- After the frame the controller is off the bus; only the controllers change. -/
theorem State.endFrame_spec (s : State) (c : Nat) : RamSame s (s.endFrame c) ∧ (s.endFrame c).regs = s.regs ∧ (s.endFrame c).log = s.log ∧
    (s.endFrame c).can = { s.can with ctls := (s.endFrame c).can.ctls } ∧ ((s.endFrame c).ctl c).onBus = none ∧
    ((s.endFrame c).ctl c).lastRef = (s.ctl c).lastRef ∧ ((s.endFrame c).ctl c).refDue = (s.ctl c).refDue := by
  have ho : (s.offBus c).ctl c = { s.ctl c with onBus := none, discard := false, stopping := false } := State.ctl_modCtl_self ..
  unfold State.endFrame
  split
  · rw [State.ctl_setCan_self, ho]
    exact ⟨RamSame.of_regs rfl rfl, rfl, rfl, rfl, rfl, rfl, rfl⟩
  · rw [ho]
    exact ⟨RamSame.of_regs rfl rfl, rfl, rfl, rfl, rfl, rfl, rfl⟩

theorem State.suspendTx_spec (s : State) (c n : Nat) : RamSame s (s.suspendTx c n) ∧ (s.suspendTx c n).regs = s.regs ∧ (s.suspendTx c n).log = s.log ∧
    (s.suspendTx c n).can = { s.can with ctls := (s.suspendTx c n).can.ctls } ∧
    ((s.suspendTx c n).ctl c).lastRef = (s.ctl c).lastRef ∧ ((s.suspendTx c n).ctl c).refDue = (s.ctl c).refDue := by
  refine ⟨RamSame.of_regs rfl rfl, rfl, rfl, rfl, ?_, ?_⟩ <;> · rw [State.suspendTx, State.ctl_modCtl_self]

/-- Of the controllers' bookkeeping only the controllers' own states differ. -/
def CtlsOnly (s s' : State) : Prop := s'.can = { s.can with ctls := s'.can.ctls }

theorem CtlsOnly.trans (h : CtlsOnly s s') (h' : CtlsOnly s' s'') : CtlsOnly s s'' := by
  unfold CtlsOnly at *
  rw [h', h]

theorem CtlsOnly.tables (h : CtlsOnly s s') : s'.can.errs = s.can.errs ∧ s'.can.aborts = s.can.aborts ∧ s'.can.skips = s.can.skips :=
  ⟨(congrArg CanSt.errs h :), (congrArg CanSt.aborts h :), (congrArg CanSt.skips h :)⟩

/-- The end of an own frame: suspension, then the controller off the bus. -/
theorem State.ended_spec (s : State) (c n : Nat) : RamSame s ((s.suspendTx c n).endFrame c) ∧ ((s.suspendTx c n).endFrame c).regs = s.regs ∧
    ((s.suspendTx c n).endFrame c).log = s.log ∧ CtlsOnly s ((s.suspendTx c n).endFrame c) ∧ (((s.suspendTx c n).endFrame c).ctl c).onBus = none ∧
    (((s.suspendTx c n).endFrame c).ctl c).lastRef = (s.ctl c).lastRef ∧ (((s.suspendTx c n).endFrame c).ctl c).refDue = (s.ctl c).refDue := by
  obtain ⟨a1, a2, a3, a4, a5, a6⟩ := s.suspendTx_spec c n
  obtain ⟨b1, b2, b3, b4, b5, b6, b7⟩ := (s.suspendTx c n).endFrame_spec c
  exact ⟨a1.trans b1, b2.trans a2, b3.trans a3, CtlsOnly.trans a4 b4, b5, b6.trans a5, b7.trans a6⟩

/-! ### TX_COMPLETE -/

/-- TX_SENT counts and TEC falls. -/
def State.sent (s : State) (c : Nat) : State := ((s.inc (F.CAN_CNT_TX_SENT c)).wr (F.CAN_STAT_TEC c) (s.rd (F.CAN_STAT_TEC c) - 1)).backToActive c

theorem State.backToActive_spec (s : State) (c : Nat) (hc : c < 12) : RamSame s (s.backToActive c) ∧ CtlsOnly s (s.backToActive c) ∧
    (∀ f : Fld, f.key ≠ (F.CAN_IRQ_ERR_ACTIVE c).key → (s.backToActive c).rd f = s.rd f) := by
  have hk : CanKey (F.CAN_IRQ_ERR_ACTIVE c).key := by simp only [CanKey, Fld.key, F.CAN_IRQ_ERR_ACTIVE]; omega
  unfold State.backToActive
  split
  · refine ⟨⟨(Stands.of_regs (s' := s.setCan c .active) rfl).trans (Stands.wr hk _ _), rfl⟩, rfl, fun f hf => ?_⟩
    rw [State.rd_raise_ne _ (Ne.symm hf)]; rfl
  · exact ⟨RamSame.refl s, rfl, fun _ _ => rfl⟩

theorem State.sent_spec (s : State) (hc : c < 12) : RamSame s (s.sent c) ∧ CtlsOnly s (s.sent c) ∧
    (s.sent c).rd (F.CAN_CNT_TX_SENT c) = min 65535 (s.rd (F.CAN_CNT_TX_SENT c) + 1) := by
  obtain ⟨x, hx⟩ : ∃ x, x = (s.inc (F.CAN_CNT_TX_SENT c)).wr (F.CAN_STAT_TEC c) (s.rd (F.CAN_STAT_TEC c) - 1) := ⟨_, rfl⟩
  have k1 : CanKey (F.CAN_CNT_TX_SENT c).key := by simp only [CanKey, Fld.key, F.CAN_CNT_TX_SENT]; omega
  have k2 : CanKey (F.CAN_STAT_TEC c).key := by simp only [CanKey, Fld.key, F.CAN_STAT_TEC]; omega
  have h1 : RamSame s x ∧ CtlsOnly s x := by rw [hx]; exact ⟨(RamSame.wr k1 _ _).trans (RamSame.wr k2 _ _), rfl⟩
  have h2 : x.rd (F.CAN_CNT_TX_SENT c) = min 65535 (s.rd (F.CAN_CNT_TX_SENT c) + 1) := by
    rw [hx, State.rd_wr_ne _ _ (by simp only [ne_eq, Fld.key, F.CAN_CNT_TX_SENT, F.CAN_STAT_TEC]; omega), State.rd_inc_min]; rfl
  obtain ⟨b1, b2, b3⟩ := x.backToActive_spec c hc
  have hdef : s.sent c = x.backToActive c := by rw [hx]; rfl
  rw [hdef]
  exact ⟨h1.1.trans b1, h1.2.trans b2, (b3 _ (by simp only [ne_eq, Fld.key, F.CAN_CNT_TX_SENT, F.CAN_IRQ_ERR_ACTIVE]; omega)).trans h2⟩

section
variable (hc : c < 12)
include hc

section
variable (hb : (s.ctl c).onBus = some (.elem r)) (hdis : (s.ctl c).discard = false) (ha : s.can.aborts.find? r = none) (hs : s.can.skips.getD [] r = [])
include hb hdis ha hs

theorem txComplete_elem (hi : s.ringInst r < 64) : Ends (.txComplete t c) s fun s' => ElemDone s s' r 0 (s.can.errs.getD 0 r) ∧
    s'.memWord (s.elemAddr r (s.ringDone r) + 16) = (s.ctl c).sof % 2 ^ 32 ∧
    s'.memWord (s.elemAddr r (s.ringDone r) + 20) = (s.ctl c).sof / 2 ^ 32 % 2 ^ 32 ∧ (s'.ctl c).onBus = none ∧
    s'.rd (F.CAN_CNT_TX_SENT c) = min 65535 (s.rd (F.CAN_CNT_TX_SENT c) + 1) := by
  have hb' : ((s.tick t).ctl c).onBus = some (.elem r) := hb
  have hdis' : ((s.tick t).ctl c).discard = false := hdis
  obtain ⟨p1, p2, p3⟩ := (s.tick t).sent_spec hc
  obtain ⟨p, hp⟩ : ∃ p, p = (s.tick t).sent c := ⟨_, rfl⟩
  rw [← hp] at p1 p2 p3
  obtain ⟨e1, e2, e3⟩ := p2.tables
  obtain ⟨-, -, r3, r4, -⟩ := p1.ring r 0
  obtain ⟨r1, -⟩ := p1.ring r ((s.tick t).ringDone r)
  have hpi : p.ringInst r < 64 := r4.trans_lt hi
  obtain ⟨d1, d2, d3⟩ := elemDone_completeElem hpi (by rw [e3]; exact hs) (status := 0) (by decide) (s.ctl c).sof
  have hk := p.completeElem_kept hpi 0 (s.ctl c).sof
  obtain ⟨q, hq⟩ : ∃ q, q = p.completeElem r 0 (s.ctl c).sof := ⟨_, rfl⟩
  rw [← hq] at d1 d2 d3 hk
  have hqa : q.settleAbort r = q := State.settleAbort_none (by rw [hk.2.1.2.1, e2]; exact ha)
  obtain ⟨f1, f2, -, -, f5, -⟩ := q.ended_spec c 11
  refine ends_unit (x := (q.suspendTx c 11).endFrame c) (arm_txComplete ..) (decide_eq_true hc) ?_ ?_
  · dsimp only
    rw [hb']
    dsimp only
    rw [if_neg (by rw [hdis']; decide), ← hqa, hq, hp]
    rfl
  · rw [e1] at d1
    rw [r3, r1] at d2 d3
    obtain ⟨-, -, -, -, -, f6⟩ := f1.ring r 0
    refine ⟨(d1.of_same p1).same f1, by rw [f6]; exact d2, by rw [f6]; exact d3, f5, ?_⟩
    rw [State.rd_congr f2, hk.rd (by simp only [Fld.key, F.CAN_CNT_TX_SENT]; omega) (by simp only [ne_eq, Fld.key, F.CAN_CNT_TX_SENT, F.CANRAM_RING3_DONE]; omega)]
    exact p3

/-! ### TX_ATTEMPT_ERROR -/

/-- One more error of the element of ring `r`. -/
def State.counted (s : State) (r n : Nat) : State := { s with can := { s.can with errs := s.can.errs.insert r n } }

omit hc hb hdis hs in
theorem State.spendRetry_kept (hretry : s.rd (F.CANRAM_RING1_RETRY r) = 255 ∨ s.can.errs.getD 0 r + 1 < s.rd (F.CANRAM_RING1_RETRY r)) :
    s.spendRetry c r = s.counted r (s.can.errs.getD 0 r + 1) := by
  have hno : ¬ ((s.counted r (s.can.errs.getD 0 r + 1)).rd (F.CANRAM_RING1_RETRY r) ≠ 255 ∧
      (s.counted r (s.can.errs.getD 0 r + 1)).rd (F.CANRAM_RING1_RETRY r) ≤ s.can.errs.getD 0 r + 1) := by
    rintro ⟨h1, h2⟩
    exact hretry.elim h1 fun h => absurd h2 (Nat.not_le.2 h)
  unfold State.spendRetry
  exact (if_neg hno).trans (State.settleAbort_none ha)

omit hs in
theorem txAttemptError_kept (hretry : s.rd (F.CANRAM_RING1_RETRY r) = 255 ∨ s.can.errs.getD 0 r + 1 < s.rd (F.CANRAM_RING1_RETRY r)) :
    Ends (.txAttemptError t c) s fun s' => (s'.mem = s.mem ∧ s'.ringDone r = s.ringDone r ∧ (s'.ctl c).onBus = none) ∧
      s'.can.errs.getD 0 r = s.can.errs.getD 0 r + 1 := by
  have hb' : ((s.tick t).ctl c).onBus = some (.elem r) := hb
  have hdis' : ((s.tick t).ctl c).discard = false := hdis
  obtain ⟨q, hq⟩ : ∃ q, q = (s.tick t).counted r (s.can.errs.getD 0 r + 1) := ⟨_, rfl⟩
  have hq' : (s.tick t).spendRetry c r = q := by rw [hq]; exact State.spendRetry_kept (s := s.tick t) ha hretry
  have hqs : q.regs = s.regs ∧ q.mem = s.mem ∧ q.can.errs = s.can.errs.insert r (s.can.errs.getD 0 r + 1) := by rw [hq]; exact ⟨rfl, rfl, rfl⟩
  obtain ⟨q1, q2, q3⟩ := hqs
  obtain ⟨f1, f2, -, f4, f5, -⟩ := q.ended_spec c 25
  refine ends_unit (x := (q.suspendTx c 25).endFrame c) (arm_txAttemptError ..) (decide_eq_true hc) ?_ ⟨⟨f1.2.trans q2, State.rd_congr (f2.trans q1) _, f5⟩, ?_⟩
  · dsimp only
    rw [hb']
    dsimp only
    rw [if_neg (by rw [hdis']; decide), hq']
  · rw [f4.tables.1, q3]; exact Tbl.getD_insert_self ..

/-- With a budget of 0 a failed element is reported (R265). -/
def State.reported (s : State) (c r : Nat) : State :=
  if s.rd (F.CANRAM_RING1_RETRY r) = 0 then
    (s.raise (F.CAN_IRQ_TX_FAIL c)).record 0x0B 0x02 3 c 0 [s.canStat c] (sourceWord 2 (s.ringInst r) 0)
  else s

omit hc hb hdis ha hs in
theorem State.exhaust_eq (s : State) : s.exhaust c r = ((s.completeElem r 0x80 0).settleAbort r).reported c r := by
  rfl

omit hb hdis in
/-- An exhausted element completes with FAILED; with a budget of 0 it is reported too. -/
theorem State.exhaust_spec (hi : s.ringInst r < 64) : ElemDone s (s.exhaust c r) r 0x80 (s.can.errs.getD 0 r) ∧
    (s.rd (F.CANRAM_RING1_RETRY r) = 0 → (s.exhaust c r).rd (F.CAN_IRQ_TX_FAIL c) = 1 ∧ WroteOne s (s.exhaust c r) 0x0B 2 3 c 0) ∧
    (s.rd (F.CANRAM_RING1_RETRY r) ≠ 0 → (s.exhaust c r).log = s.log) := by
  obtain ⟨q, hq⟩ : ∃ q, q = s.completeElem r 0x80 0 := ⟨_, rfl⟩
  obtain ⟨d1, -⟩ := elemDone_completeElem hi hs (status := 0x80) (by decide) 0
  have hk := s.completeElem_kept hi 0x80 0
  rw [← hq] at d1 hk
  have hqa : q.settleAbort r = q := State.settleAbort_none (by rw [hk.2.1.2.1]; exact ha)
  have hret : q.rd (F.CANRAM_RING1_RETRY r) = s.rd (F.CANRAM_RING1_RETRY r) :=
    hk.rd (by simp only [Fld.key, F.CANRAM_RING1_RETRY]; omega) (by simp only [ne_eq, Fld.key, F.CANRAM_RING1_RETRY, F.CANRAM_RING3_DONE]; omega)
  obtain ⟨z, hz⟩ : ∃ z, z = q.raise (F.CAN_IRQ_TX_FAIL c) := ⟨_, rfl⟩
  have hdef : s.exhaust c r = if q.rd (F.CANRAM_RING1_RETRY r) = 0 then z.record 0x0B 0x02 3 c 0 [q.canStat c] (sourceWord 2 (q.ringInst r) 0) else q := by
    rw [State.exhaust_eq, ← hq, hqa, State.reported, ← hz]
  have hzs : RamSame q z ∧ z.log = q.log ∧ z.rd (F.CAN_IRQ_TX_FAIL c) = 1 := by
    rw [hz]
    exact ⟨RamSame.wr (by simp only [CanKey, Fld.key, F.CAN_IRQ_TX_FAIL]; omega) _ _, rfl, State.rd_raise_bit _ rfl⟩
  obtain ⟨z1, z2, z3⟩ := hzs
  rw [hdef, hret]
  by_cases h0 : s.rd (F.CANRAM_RING1_RETRY r) = 0
  · rw [if_pos h0]
    exact ⟨d1.same (z1.trans (RamSame.of_regs rfl rfl)), fun _ => ⟨z3, wroteOne_record (s₁ := z) (z2.trans hk.log) rfl⟩, fun h => absurd h0 h⟩
  · rw [if_neg h0]
    exact ⟨d1, fun h => absurd h h0, fun _ => hk.log⟩

theorem txAttemptError_exhaust (hi : s.ringInst r < 64) (h255 : s.rd (F.CANRAM_RING1_RETRY r) ≠ 255)
    (hle : s.rd (F.CANRAM_RING1_RETRY r) ≤ s.can.errs.getD 0 r + 1) : Ends (.txAttemptError t c) s fun s' =>
    ElemDone s s' r 0x80 (s.can.errs.getD 0 r + 1) ∧ (s'.ctl c).onBus = none ∧
      (s.rd (F.CANRAM_RING1_RETRY r) = 0 → s'.rd (F.CAN_IRQ_TX_FAIL c) = 1 ∧ WroteOne s s' 0x0B 2 3 c 0) ∧
      (s.rd (F.CANRAM_RING1_RETRY r) ≠ 0 → s'.log = s.log) := by
  have hb' : ((s.tick t).ctl c).onBus = some (.elem r) := hb
  have hdis' : ((s.tick t).ctl c).discard = false := hdis
  obtain ⟨y, hy⟩ : ∃ y, y = (s.tick t).counted r (s.can.errs.getD 0 r + 1) := ⟨_, rfl⟩
  have hys : RamSame s y ∧ y.regs = s.regs ∧ y.log = s.log ∧ y.can = { s.can with errs := s.can.errs.insert r (s.can.errs.getD 0 r + 1) } := by
    rw [hy]; exact ⟨RamSame.of_regs rfl rfl, rfl, rfl, rfl⟩
  obtain ⟨y1, y2, y3, y4⟩ := hys
  have hyr : y.rd (F.CANRAM_RING1_RETRY r) = s.rd (F.CANRAM_RING1_RETRY r) := State.rd_congr y2 _
  have hyi : y.ringInst r < 64 := (State.rd_congr y2 _).trans_lt hi
  obtain ⟨d1, d2, d3⟩ := State.exhaust_spec (c := c) hc (by rw [y4]; exact ha) (by rw [y4]; exact hs) hyi
  obtain ⟨q, hq⟩ : ∃ q, q = y.exhaust c r := ⟨_, rfl⟩
  rw [← hq, hyr] at d2 d3
  rw [← hq, y4, Tbl.getD_insert_self] at d1
  have hsp : (s.tick t).spendRetry c r = q := by
    have h : (s.tick t).spendRetry c r = if y.rd (F.CANRAM_RING1_RETRY r) ≠ 255 ∧ y.rd (F.CANRAM_RING1_RETRY r) ≤ s.can.errs.getD 0 r + 1 then y.exhaust c r
      else y.settleAbort r := by rw [hy]; rfl
    rw [h, hyr, if_pos ⟨h255, hle⟩, hq]
  obtain ⟨f1, f2, f3, -, f5, -⟩ := q.ended_spec c 25
  refine ends_unit (x := (q.suspendTx c 25).endFrame c) (arm_txAttemptError ..) (decide_eq_true hc) ?_
    ⟨(d1.of_same y1).same f1, f5, fun h => ⟨(State.rd_congr f2 _).trans (d2 h).1, ?_⟩, fun h => f3.trans ((d3 h).trans y3)⟩
  · dsimp only
    rw [hb']
    dsimp only
    rw [if_neg (by rw [hdis']; decide), hsp]
  · obtain ⟨-, o, o1, o2, o3, o4, o5, o6⟩ := d2 h
    exact ⟨o, o1, o2, o3, o4, o5, by rw [f3, o6, y3]⟩

/-! ### ARBITRATION_LOST -/

omit hs in
theorem arbitrationLost_elem (toRef : Bool) : Ends (.arbitrationLost t c toRef) s fun s' =>
    (s'.mem = s.mem ∧ s'.ringDone r = s.ringDone r ∧ (s'.ctl c).onBus = none) ∧ s'.can.errs = s.can.errs ∧
      s'.rd (F.CAN_CNT_TX_ARB_LOST c) = min 65535 (s.rd (F.CAN_CNT_TX_ARB_LOST c) + 1) := by
  have hb' : ((s.tick t).ctl c).onBus = some (.elem r) := hb
  have hdis' : ((s.tick t).ctl c).discard = false := hdis
  obtain ⟨q, hq⟩ : ∃ q, q = (s.tick t).inc (F.CAN_CNT_TX_ARB_LOST c) := ⟨_, rfl⟩
  have hqs : RamSame s q ∧ q.can = s.can ∧ q.rd (F.CAN_CNT_TX_ARB_LOST c) = min 65535 (s.rd (F.CAN_CNT_TX_ARB_LOST c) + 1) := by
    rw [hq]
    exact ⟨RamSame.wr (s := s.tick t) (by simp only [CanKey, Fld.key, F.CAN_CNT_TX_ARB_LOST]; omega) _, rfl, State.rd_inc_min ..⟩
  obtain ⟨q1, q2, q3⟩ := hqs
  have hqa : q.settleAbort r = q := State.settleAbort_none (by rw [q2]; exact ha)
  obtain ⟨f1, f2, -, f4, f5, -⟩ := q.endFrame_spec c
  obtain ⟨-, -, r3, -⟩ := (q1.trans f1).ring r 0
  refine ends_unit (x := q.endFrame c) (arm_arbitrationLost ..) (decide_eq_true hc) ?_
    ⟨⟨f1.2.trans q1.2, r3, f5⟩, (CtlsOnly.tables f4).1.trans (congrArg CanSt.errs q2), (State.rd_congr f2 _).trans q3⟩
  dsimp only
  rw [hb']
  dsimp only
  rw [if_neg (by rw [hdis']; decide), ← hq, hqa]

end

section
variable (hb : (s.ctl c).onBus = some (.ref n))
include hb

theorem arbitrationLost_ref (toRef : Bool) : Ends (.arbitrationLost t c toRef) s fun s' => s'.mem = s.mem ∧ (s'.ctl c).onBus = none ∧
    (s'.ctl c).refDue = if toRef then none else (s.ctl c).refDue := by
  have hb' : ((s.tick t).ctl c).onBus = some (.ref n) := hb
  obtain ⟨q, hq⟩ : ∃ q, q = if toRef then ((s.tick t).inc (F.CAN_CNT_TX_ARB_LOST c)).modCtl c fun x => { x with refDue := none }
    else (s.tick t).inc (F.CAN_CNT_TX_ARB_LOST c) := ⟨_, rfl⟩
  have hqs : q.mem = s.mem ∧ (q.ctl c).refDue = if toRef then none else (s.ctl c).refDue := by
    rw [hq]
    cases toRef
    · exact ⟨rfl, rfl⟩
    · exact ⟨rfl, by rw [if_pos rfl, if_pos rfl, State.ctl_modCtl_self]⟩
  obtain ⟨f1, -, -, -, f5, -, f7⟩ := q.endFrame_spec c
  refine ends_unit (x := q.endFrame c) (arm_arbitrationLost ..) (decide_eq_true hc) ?_ ⟨f1.2.trans hqs.1, f5, f7.trans hqs.2⟩
  dsimp only
  rw [hb', hq]

/-- A reference message went out: the time master's registers say so (R271, R272). -/
def State.refSent (s : State) (c n sof : Nat) : State :=
  (((s.wr64 (F.CAN_TT_REF_REF_TS c) sof).wr (F.CAN_TT_STAT_CYCLE_CNT c) n).setF (F.CAN_TT_STAT_MASTER c)).raise (F.CAN_IRQ_REF c)

omit hb hc in
theorem State.refSent_spec (s : State) (n sof : Nat) : (s.refSent c n sof).mem = s.mem ∧ (s.refSent c n sof).rd64 (F.CAN_TT_REF_REF_TS c) = sof % 2 ^ 64 ∧
    (s.refSent c n sof).rd (F.CAN_TT_STAT_MASTER c) = 1 ∧ (s.refSent c n sof).rd (F.CAN_TT_STAT_CYCLE_CNT c) = n % 64 ∧
    (s.refSent c n sof).rd (F.CAN_IRQ_REF c) = 1 := by
  obtain ⟨x, hx⟩ : ∃ x, x = s.wr64 (F.CAN_TT_REF_REF_TS c) sof := ⟨_, rfl⟩
  have hx64 : x.rd64 (F.CAN_TT_REF_REF_TS c) = sof % 2 ^ 64 := by
    rw [hx]; exact State.rd64_wr64 rfl rfl (by simp only [ne_eq, Fld.key, F.CAN_TT_REF_REF_TS]; omega)
  have hxm : x.mem = s.mem := by rw [hx]; rfl
  have hdef : s.refSent c n sof = ((x.wr (F.CAN_TT_STAT_CYCLE_CNT c) n).setF (F.CAN_TT_STAT_MASTER c)).raise (F.CAN_IRQ_REF c) := by rw [hx]; rfl
  rw [hdef]
  have hts (j : Nat) (hj : j < 2) : (((x.wr (F.CAN_TT_STAT_CYCLE_CNT c) n).setF (F.CAN_TT_STAT_MASTER c)).raise (F.CAN_IRQ_REF c)).rd (F.CAN_TT_REF_REF_TS c j) =
      x.rd (F.CAN_TT_REF_REF_TS c j) := by
    rw [State.rd_raise_ne _ (by simp only [ne_eq, Fld.key, F.CAN_TT_REF_REF_TS, F.CAN_IRQ_REF]; omega),
      State.rd_setF_ne _ (by simp only [ne_eq, Fld.key, F.CAN_TT_REF_REF_TS, F.CAN_TT_STAT_MASTER]; omega),
      State.rd_wr_ne _ _ (by simp only [ne_eq, Fld.key, F.CAN_TT_REF_REF_TS, F.CAN_TT_STAT_CYCLE_CNT]; omega)]
  refine ⟨hxm, ?_, ?_, ?_, State.rd_raise_bit _ rfl⟩
  · rw [← hx64, State.rd64, State.rd64, hts 0 (by decide), hts 1 (by decide)]
  · rw [State.rd_raise_ne _ (by simp only [ne_eq, Fld.key, F.CAN_TT_STAT_MASTER, F.CAN_IRQ_REF]; omega), State.rd_setF_self]; rfl
  · rw [State.rd_raise_ne _ (by simp only [ne_eq, Fld.key, F.CAN_TT_STAT_CYCLE_CNT, F.CAN_IRQ_REF]; omega),
      State.rd_setF_ne _ (by simp only [ne_eq, Fld.key, F.CAN_TT_STAT_CYCLE_CNT, F.CAN_TT_STAT_MASTER]; omega), State.rd_wr_self]; rfl

theorem txComplete_ref : Ends (.txComplete t c) s fun s' => s'.mem = s.mem ∧ s'.rd64 (F.CAN_TT_REF_REF_TS c) = (s.ctl c).sof % 2 ^ 64 ∧
    s'.rd (F.CAN_TT_STAT_MASTER c) = 1 ∧ s'.rd (F.CAN_TT_STAT_CYCLE_CNT c) = n % 64 ∧ s'.rd (F.CAN_IRQ_REF c) = 1 ∧
    (s'.ctl c).lastRef = (s.ctl c).sof := by
  have hb' : ((s.tick t).ctl c).onBus = some (.ref n) := hb
  obtain ⟨p1, -, -⟩ := (s.tick t).sent_spec hc
  obtain ⟨p, hp⟩ : ∃ p, p = (s.tick t).sent c := ⟨_, rfl⟩
  rw [← hp] at p1
  obtain ⟨r1, r2, r3, r4, r5⟩ := p.refSent_spec (c := c) n (s.ctl c).sof
  obtain ⟨q, hq⟩ : ∃ q, q = p.refSent c n (s.ctl c).sof := ⟨_, rfl⟩
  rw [← hq] at r1 r2 r3 r4 r5
  obtain ⟨z, hz⟩ : ∃ z, z = q.modCtl c fun y => { y with lastRef := (s.ctl c).sof, refDue := if y.refDue = some n then none else y.refDue } := ⟨_, rfl⟩
  have hzs : z.regs = q.regs ∧ z.mem = q.mem ∧ (z.ctl c).lastRef = (s.ctl c).sof := by
    rw [hz]; exact ⟨rfl, rfl, by rw [State.ctl_modCtl_self]⟩
  obtain ⟨z1, z2, z3⟩ := hzs
  obtain ⟨f1, f2, -, -, -, f6, -⟩ := z.ended_spec c 11
  have hrd (f : Fld) : ((z.suspendTx c 11).endFrame c).rd f = q.rd f := State.rd_congr (f2.trans z1) f
  refine ends_unit (x := (z.suspendTx c 11).endFrame c) (arm_txComplete ..) (decide_eq_true hc) ?_
    ⟨f1.2.trans (z2.trans (r1.trans p1.2)), ?_, (hrd _).trans r3, (hrd _).trans r4, (hrd _).trans r5, f6.trans z3⟩
  · dsimp only
    rw [hb', hz, hq, hp]
    rfl
  · rw [State.rd64, hrd, hrd]; exact r2

end
end

/-- Settles O46: the opportunity goes to the one requester with the lowest key; a completion marks the element at DONE; the fence visits the
ring once, with the other rings' turns leaving it alone. -/
theorem canTransmission : Obligations.CanTransmission := by
  unfold Obligations.CanTransmission
  intro s t c r n i a toRef hc hr
  dsimp only
  refine ⟨fun hon hb hst hl hsu => ⟨fun hrdy hd hall => txOpportunity_elem hc hon hb hst hl hsu hr hrdy hd hall,
      fun hno hd => txOpportunity_ref hc hon hb hst hl hsu hno hd⟩,
    fun hb hdis hplain hi => ?_, fun hb => ⟨txComplete_ref hc hb, arbitrationLost_ref hc hb toRef⟩,
    fun hp => ⟨fun hv hb hf hi => canAbort_ring hc hp hr hv hb hf hi, fun hv hb => canAbort_onBus hc hp hr hv hb, fun hv => canAbort_refused hc hp hv⟩,
    fun hi ha hv htx hri hf hall => canFence_ends hi ha hv htx hri hf hr hall⟩
  obtain ⟨ha, hs⟩ := hplain
  exact ⟨txComplete_elem hc hb hdis ha hs hi, fun h255 hle => txAttemptError_exhaust hc hb hdis ha hs hi h255 hle,
    fun hretry => txAttemptError_kept hc hb hdis ha hretry, arbitrationLost_elem hc hb hdis ha toRef⟩

end Sys2Proof.Machine
end

section
/-! PROOFS. Where the fields of a register lie -/

namespace Sys2Proof.Machine


/-! ### Where a register's fields lie -/

/-- Every field of a register of the block lies at the register's address. -/
def RegBlock.AtBase (b : RegBlock) : Prop := ∀ d ∈ b.fields, ∀ i j, (d.fld i j).addr = b.base + i * b.si + j * b.sj

/-- The blocks below the CAN message RAM, and those from it on. -/
def lowBlocks : List RegBlock :=
  regBlocks400_0 ++ regBlocks400_1 ++ regBlocks401_0 ++ regBlocks402_0 ++ regBlocks403_0 ++ regBlocks403_1 ++ regBlocks404_0 ++ regBlocks405_0 ++ regBlocks405_1 ++ regBlocks406_0 ++ regBlocks407_0
def highBlocks : List RegBlock :=
  regBlocks40C_0 ++ regBlocks40E_0 ++ regBlocks40E_1 ++ regBlocks40F_0 ++ regBlocks410_0 ++ regBlocks410_1 ++ regBlocks410_2 ++ regBlocks411_0 ++ regBlocks411_1 ++ regBlocks412_0 ++ regBlocks413_0 ++ regBlocks414_0 ++ regBlocks415_0

theorem mem_low_or_high {b : RegBlock} (h : b ∈ regBlocks) : b ∈ lowBlocks ∨ b ∈ highBlocks := by
  have hs : regBlocks = lowBlocks ++ highBlocks := by
    unfold regBlocks lowBlocks highBlocks
    rw [← List.append_assoc, ← List.append_assoc, ← List.append_assoc, ← List.append_assoc, ← List.append_assoc, ← List.append_assoc, ← List.append_assoc, ← List.append_assoc, ← List.append_assoc, ← List.append_assoc, ← List.append_assoc, ← List.append_assoc]
  rw [hs] at h
  exact List.mem_append.1 h

/-- The blocks below message RAM end there. -/
theorem lowBlocks_end : ∀ b ∈ lowBlocks, b.base + b.ci * b.si + b.cj * b.sj < 0x40C00000 := by decide +kernel

theorem highBlocks_base : ∀ b ∈ highBlocks, 0x40C00000 ≤ b.base := by decide +kernel

theorem regBlocks40C_atBase : ∀ b ∈ regBlocks40C_0, b.AtBase := by
  unfold regBlocks40C_0 RegBlock.AtBase
  simp only [List.forall_mem_cons, List.not_mem_nil, false_imp_iff, implies_true, and_true, Nat.mul_zero, Nat.add_zero]
  and_intros <;> intro i j <;> rfl

theorem regBlocks40E_atBase : ∀ b ∈ regBlocks40E_0 ++ regBlocks40E_1, b.AtBase := by
  unfold regBlocks40E_0 regBlocks40E_1 RegBlock.AtBase
  simp only [List.forall_mem_append, List.forall_mem_cons, List.not_mem_nil, false_imp_iff, implies_true, and_true, true_and, Nat.mul_zero, Nat.add_zero]
  and_intros <;> intro i j <;> rfl

theorem regBlocks40F_atBase : ∀ b ∈ regBlocks40F_0, b.AtBase := by
  unfold regBlocks40F_0 RegBlock.AtBase
  simp only [List.forall_mem_cons, List.not_mem_nil, false_imp_iff, implies_true, and_true, true_and, Nat.mul_zero, Nat.add_zero]
  and_intros <;> intro i j <;> rfl

theorem regBlocks410_atBase : ∀ b ∈ regBlocks410_0 ++ regBlocks410_1 ++ regBlocks410_2, b.AtBase := by
  unfold regBlocks410_0 regBlocks410_1 regBlocks410_2 RegBlock.AtBase
  simp only [List.forall_mem_append, List.forall_mem_cons, List.not_mem_nil, false_imp_iff, implies_true, and_true, true_and, Nat.mul_zero, Nat.add_zero]
  and_intros <;> intro i j <;> rfl

theorem regBlocks411_atBase : ∀ b ∈ regBlocks411_0 ++ regBlocks411_1, b.AtBase := by
  unfold regBlocks411_0 regBlocks411_1 RegBlock.AtBase
  simp only [List.forall_mem_append, List.forall_mem_cons, List.not_mem_nil, false_imp_iff, implies_true, and_true, true_and, Nat.mul_zero, Nat.add_zero]
  and_intros <;> intro i j <;> rfl

theorem regBlocks412_415_atBase : ∀ b ∈ regBlocks412_0 ++ regBlocks413_0 ++ regBlocks414_0 ++ regBlocks415_0, b.AtBase := by
  unfold regBlocks412_0 regBlocks413_0 regBlocks414_0 regBlocks415_0 RegBlock.AtBase
  simp only [List.forall_mem_append, List.forall_mem_cons, List.not_mem_nil, false_imp_iff, implies_true, and_true, true_and, Nat.mul_zero, Nat.add_zero]
  and_intros <;> intro i j <;> rfl

theorem highBlocks_atBase : ∀ b ∈ highBlocks, b.AtBase := by
  have h : highBlocks = regBlocks40C_0 ++ (regBlocks40E_0 ++ regBlocks40E_1) ++ regBlocks40F_0 ++ (regBlocks410_0 ++ regBlocks410_1 ++ regBlocks410_2) ++
      (regBlocks411_0 ++ regBlocks411_1) ++ (regBlocks412_0 ++ regBlocks413_0 ++ regBlocks414_0 ++ regBlocks415_0) := by
    unfold highBlocks
    simp only [List.append_assoc]
  intro b hb
  rw [h] at hb
  rcases List.mem_append.1 hb with hb | hb
  · rcases List.mem_append.1 hb with hb | hb
    · rcases List.mem_append.1 hb with hb | hb
      · rcases List.mem_append.1 hb with hb | hb
        · exact (List.mem_append.1 hb).elim (regBlocks40C_atBase b) (regBlocks40E_atBase b)
        · exact regBlocks40F_atBase b hb
      · exact regBlocks410_atBase b hb
    · exact regBlocks411_atBase b hb
  · exact regBlocks412_415_atBase b hb

/-- The offset of a register's copy from its block's base. -/
theorem RegBlock.copyAt_addr {b : RegBlock} {off i j : Nat} (h : b.copyAt off = some (i, j)) : off = i * b.si + j * b.sj ∧ i < b.ci ∧ j < b.cj := by
  obtain ⟨⟨h0, -, hci, hcj⟩, hij⟩ := Option.ite_none_right_eq_some.1 h
  obtain ⟨hi, hj⟩ := Prod.mk.inj (Option.some.inj hij)
  rw [hi] at hci
  rw [hj] at hcj
  refine ⟨?_, hci, hcj⟩
  have hr : (if b.si = 0 then off else off % b.si) = j * b.sj := by
    rw [← hj]
    by_cases hs : b.sj = 0
    · rw [if_pos hs] at h0
      rw [hs, Nat.mul_zero]; exact h0
    · rw [if_neg hs] at h0
      rw [if_neg hs]; exact (Nat.div_mul_cancel (Nat.dvd_of_mod_eq_zero h0)).symm
  rw [← hr, ← hi]
  by_cases hs : b.si = 0
  · rw [if_pos hs, if_pos hs, hs, Nat.mul_zero, Nat.zero_add]
  · rw [if_neg hs, if_neg hs]; exact (Nat.div_add_mod' off b.si).symm

/-- The fields of a register from message RAM on lie there. -/
theorem regAt_high {addr i j : Nat} {b : RegBlock} (ha : 0x40C00000 ≤ addr) (h : regAt addr = some (b, i, j)) : ∀ d ∈ b.fields, 0x40C00000 ≤ (d.fld i j).addr := by
  unfold regAt at h
  obtain ⟨b', hb, hc⟩ := List.exists_of_findSome?_eq_some h
  split at hc
  · next hle =>
    obtain ⟨⟨i', j'⟩, hcopy, he⟩ := Option.map_eq_some_iff.1 hc
    obtain ⟨hbb, hij⟩ := Prod.mk.inj he
    obtain ⟨hii, hjj⟩ := Prod.mk.inj hij
    rw [hbb] at hb hle hcopy
    rw [hii, hjj] at hcopy
    obtain ⟨hoff, hi, hj⟩ := RegBlock.copyAt_addr hcopy
    rcases mem_low_or_high hb with hlow | hhigh
    · have h1 := lowBlocks_end _ hlow
      have h2 := Nat.mul_le_mul_right b.si hi.le
      have h3 := Nat.mul_le_mul_right b.sj hj.le
      omega
    · intro d hd
      rw [highBlocks_atBase _ hhigh d hd]
      exact le_trans (highBlocks_base _ hhigh) (by omega)
  · exact nomatch hc

/-- The word of a register from message RAM on is that of the fields there. -/
theorem State.word_high {s s' : State} {addr : Nat} (ha : 0x40C00000 ≤ addr) (h : ∀ f : Fld, 0x40C00000 * 32 ≤ f.key → s'.rd f = s.rd f) : s'.word addr = s.word addr := by
  unfold State.word
  cases hr : regAt addr with
  | none => rfl
  | some x =>
    obtain ⟨b, i, j⟩ := x
    refine List.foldl_ext _ _ 0 fun w d hd => ?_
    have hf : s'.rd (d.fld i j) = s.rd (d.fld i j) := h _ (by have := regAt_high ha hr d hd; simp only [Fld.key]; omega)
    rw [hf]

end Sys2Proof.Machine
end

section
/-! PROOFS. CAN reception: a frame and its filter -/

namespace Sys2Proof.Machine

variable {s s' s'' : State} {t c e r k w i : Nat} {a : Attr} {f : CanFrame} {v : Word}

/-! ### What a frame changes before its filter acts -/

/-- The keys that a received frame may write before its filter acts: REC, the interrupts and the time master's registers. -/
def RxKey (c k : Nat) : Prop := CanKey k ∧ (k / 32 = 0x40700004 + c * 65536 ∨ k / 32 = 0x40700028 + c * 65536 ∨
  k / 32 = 0x40700060 + c * 65536 ∨ k / 32 = 0x40700064 + c * 65536 ∨ k / 32 = 0x40700068 + c * 65536)

/-- What a frame leaves alone before its filter acts. -/
def RxKept (c : Nat) (s s' : State) : Prop := Stands (RxKey c) s s' ∧ s'.mem = s.mem ∧ s'.clk.olds = s.clk.olds ∧ s'.vim = s.vim ∧ s'.now = s.now

namespace RxKept

theorem refl (c : Nat) (s : State) : RxKept c s s := ⟨Stands.refl _ s, rfl, rfl, rfl, rfl⟩

theorem trans (h : RxKept c s s') (h' : RxKept c s' s'') : RxKept c s s'' := by
  obtain ⟨h1, h2, h3, h4, h5⟩ := h
  obtain ⟨k1, k2, k3, k4, k5⟩ := h'
  exact ⟨h1.trans k1, k2.trans h2, k3.trans h3, k4.trans h4, k5.trans h5⟩

theorem wr {g : Fld} (hg : RxKey c g.key) (s : State) (x : Nat) : RxKept c s (s.wr g x) := ⟨Stands.wr hg s x, rfl, rfl, rfl, rfl⟩

theorem raise {g : Fld} (hg : RxKey c g.key) (s : State) : RxKept c s (s.raise g) :=
  ⟨(Stands.wr hg s _).trans (Stands.of_regs rfl), rfl, rfl, rfl, rfl⟩

theorem modCtl (c : Nat) (s : State) (g : CanCtl → CanCtl) : RxKept c s (s.modCtl c g) := ⟨Stands.of_regs rfl, rfl, rfl, rfl, rfl⟩

theorem draw (c : Nat) (s : State) (n : Nat) : RxKept c s (s.draw n).2 := ⟨Stands.of_regs rfl, rfl, rfl, rfl, rfl⟩

end RxKept

section
variable (hc : c < 12)
include hc

theorem State.backToActive_rx (s : State) : RxKept c s (s.backToActive c) := by
  unfold State.backToActive
  split
  · exact (RxKept.modCtl c s _).trans (RxKept.raise (by simp only [RxKey, CanKey, Fld.key, F.CAN_IRQ_ERR_ACTIVE]; omega) _)
  · exact RxKept.refl c s

theorem State.recDown_rx (s : State) : RxKept c s (s.recDown c) := by
  have hk : RxKey c (F.CAN_STAT_REC c).key := by simp only [RxKey, CanKey, Fld.key, F.CAN_STAT_REC]; omega
  unfold State.recDown
  dsimp only
  split
  · exact ((RxKept.draw c s 9).trans (RxKept.wr hk _ _)).trans (State.backToActive_rx hc _)
  · exact (RxKept.wr hk _ _).trans (State.backToActive_rx hc _)

/-- The registers of a received reference message. -/
def State.refTaken (s : State) (c cnt : Nat) : State :=
  (((s.wr64 (F.CAN_TT_REF_REF_TS c) s.now).wr (F.CAN_TT_STAT_CYCLE_CNT c) cnt).clrF (F.CAN_TT_STAT_MASTER c)).raise (F.CAN_IRQ_REF c)

theorem State.refTaken_rx (s : State) (cnt : Nat) : RxKept c s (s.refTaken c cnt) := by
  have h0 : RxKey c (F.CAN_TT_REF_REF_TS c 0).key := by simp only [RxKey, CanKey, Fld.key, F.CAN_TT_REF_REF_TS]; omega
  have h1 : RxKey c (F.CAN_TT_REF_REF_TS c 1).key := by simp only [RxKey, CanKey, Fld.key, F.CAN_TT_REF_REF_TS]; omega
  have h2 : RxKey c (F.CAN_TT_STAT_CYCLE_CNT c).key := by simp only [RxKey, CanKey, Fld.key, F.CAN_TT_STAT_CYCLE_CNT]; omega
  have h3 : RxKey c (F.CAN_TT_STAT_MASTER c).key := by simp only [RxKey, CanKey, Fld.key, F.CAN_TT_STAT_MASTER]; omega
  have h4 : RxKey c (F.CAN_IRQ_REF c).key := by simp only [RxKey, CanKey, Fld.key, F.CAN_IRQ_REF]; omega
  exact ((((RxKept.wr h0 s _).trans (RxKept.wr h1 _ _)).trans (RxKept.wr h2 _ _)).trans (RxKept.wr h3 _ _)).trans (RxKept.raise h4 _)

theorem State.refRx_rx (s : State) (f : CanFrame) : RxKept c s (s.refRx c f) := by
  have hb : RxKey c (F.CAN_TT_STAT_BACKUP c).key := by simp only [RxKey, CanKey, Fld.key, F.CAN_TT_STAT_BACKUP]; omega
  obtain ⟨x, hx⟩ : ∃ x, x = s.refTaken c (f.data.getD 0 0 % 64) := ⟨_, rfl⟩
  have h1 : RxKept c s x := by rw [hx]; exact State.refTaken_rx hc s _
  unfold State.refRx
  dsimp only
  split
  · rw [← State.refTaken, ← hx]
    split
    · exact ((h1.trans (RxKept.modCtl c x _)).trans (RxKept.wr hb _ 1)).trans (RxKept.modCtl c _ _)
    · exact h1.trans (RxKept.modCtl c x _)
  · exact RxKept.refl c s

/-- The state that a received frame's filter finds. -/
def State.received (s : State) (c : Nat) (f : CanFrame) : State := ((s.inc (F.CAN_CNT_RX_VALID c)).recDown c).refRx c f

theorem State.received_spec (s : State) (f : CanFrame) : RxKept c (s.inc (F.CAN_CNT_RX_VALID c)) (s.received c f) :=
  (State.recDown_rx hc _).trans (State.refRx_rx hc _ f)

/-- Message RAM's registers are as before the frame. -/
theorem State.received_high (s : State) (f : CanFrame) : ∀ g : Fld, 0x40C00000 * 32 ≤ g.key → (s.received c f).rd g = s.rd g := fun g hg => by
  rw [(State.received_spec hc s f).1 g fun h => absurd h.1.2 (Nat.not_lt.2 hg)]
  exact State.rd_wr_ne s _ (by simp only [ne_eq, Fld.key, F.CAN_CNT_RX_VALID] at *; omega)

/-- So are the other registers of the controller that its filter uses. -/
theorem State.received_rd (s : State) (f : CanFrame) {g : Fld} (h1 : ¬ RxKey c g.key) (h2 : (F.CAN_CNT_RX_VALID c).key ≠ g.key) : (s.received c f).rd g = s.rd g :=
  ((State.received_spec hc s f).1 g h1).trans (State.rd_wr_ne s _ h2)

theorem State.received_fltWord (s : State) (f : CanFrame) (e : Nat) : (s.received c f).fltWord e = s.fltWord e := by
  unfold State.fltWord
  rw [State.word_high (addr := fltAddr e) (by unfold fltAddr; omega) (State.received_high hc s f), (State.received_spec hc s f).2.2.1]
  rfl

theorem State.received_filterHit (s : State) (f : CanFrame) : (s.received c f).filterHit c f = s.filterHit c f := by
  have hm (e : Nat) : (s.received c f).filterMatches e f = s.filterMatches e f := by
    unfold State.filterMatches
    rw [State.received_fltWord hc s f e, State.received_high hc s f (F.CANRAM_FLT1_ID1 e) (by simp only [Fld.key, F.CANRAM_FLT1_ID1]; omega),
      State.received_high hc s f (F.CANRAM_FLT2_ID2 e) (by simp only [Fld.key, F.CANRAM_FLT2_ID2]; omega)]
  have h1 : ¬ RxKey c (F.CAN_FLT_FLT_LEN c).key := by simp only [RxKey, Fld.key, F.CAN_FLT_FLT_LEN]; omega
  have h2 : ¬ RxKey c (F.CAN_FLT_FLT_BASE c).key := by simp only [RxKey, Fld.key, F.CAN_FLT_FLT_BASE]; omega
  unfold State.filterHit
  rw [State.received_rd hc s f h1 (by simp only [ne_eq, Fld.key, F.CAN_FLT_FLT_LEN, F.CAN_CNT_RX_VALID]; omega),
    State.received_rd hc s f h2 (by simp only [ne_eq, Fld.key, F.CAN_FLT_FLT_BASE, F.CAN_CNT_RX_VALID]; omega)]
  simp only [hm]

/-- A frame that the controller receives meets its filter. -/
theorem canFrameRx_ends (hon : (s.ctl c).state = .active ∨ (s.ctl c).state = .passive) (hf : s.fmtEnabled c f.fdf f.xlf = true) {P : State → Prop}
    (h : P (((s.tick t).received c f).filterAct c f)) : Ends (.canFrameRx t c f) s P := by
  have hst : ((s.tick t).ctl c).state = .active ∨ ((s.tick t).ctl c).state = .passive := hon
  have hon' : ¬ (!((s.tick t).ctl c).state.onLine) = true := by
    rcases hst with e | e <;> rw [e] <;> decide
  have hf' : ¬ (!(s.tick t).fmtEnabled c f.fdf f.xlf) = true := by
    rw [show (s.tick t).fmtEnabled c f.fdf f.xlf = true from hf]; decide
  refine ends_unit (x := ((s.tick t).received c f).filterAct c f) (arm_canFrameRx ..) (decide_eq_true hc) ?_ h
  rw [if_neg hon', if_neg hf']
  rfl

/-- Message RAM's registers and the rest, as the action finds them. -/
theorem State.hit_spec (s : State) (f : CanFrame) {p q : State} (hp : p = s.received c f) (hq : q = p.inc (F.CANRAM_FLT3_HITS e)) (he : e < 16384) :
    (∀ g : Fld, 0x40C40000 * 32 ≤ g.key → q.rd g = s.rd g) ∧ q.mem = s.mem ∧ q.vim = s.vim ∧ q.now = s.now ∧
    q.rd (F.CANRAM_FLT3_HITS e) = min (2 ^ 32 - 1) (s.rd (F.CANRAM_FLT3_HITS e) + 1) ∧
    q.rd (F.CAN_CNT_DROP_REJECTED c) = s.rd (F.CAN_CNT_DROP_REJECTED c) := by
  obtain ⟨-, k2, -, k4, k5⟩ := State.received_spec hc s f
  have hhigh := State.received_high hc s f
  have hrej : (s.received c f).rd (F.CAN_CNT_DROP_REJECTED c) = s.rd (F.CAN_CNT_DROP_REJECTED c) :=
    State.received_rd hc s f (by simp only [RxKey, Fld.key, F.CAN_CNT_DROP_REJECTED]; omega)
      (by simp only [ne_eq, Fld.key, F.CAN_CNT_DROP_REJECTED, F.CAN_CNT_RX_VALID]; omega)
  rw [← hp] at k2 k4 k5 hhigh hrej
  subst hq
  refine ⟨fun g hg => ?_, k2, k4, k5, ?_, ?_⟩
  · rw [State.rd_inc_ne _ (by simp only [ne_eq, Fld.key, F.CANRAM_FLT3_HITS] at *; omega), hhigh g (by omega)]
  · rw [State.rd_inc_min, hhigh _ (by simp only [Fld.key, F.CANRAM_FLT3_HITS]; omega)]; rfl
  · rw [State.rd_inc_ne _ (by simp only [ne_eq, Fld.key, F.CANRAM_FLT3_HITS, F.CAN_CNT_DROP_REJECTED]; omega)]
    exact hrej

/-! ### The element that a frame is stored in -/

omit hc in
theorem State.ringRegs_congr (h : ∀ g : Fld, 0x40C40000 * 32 ≤ g.key → s'.rd g = s.rd g) (r : Nat) : s'.ringValid r = s.ringValid r ∧ s'.ringTx r = s.ringTx r ∧
    s'.ringPut r = s.ringPut r ∧ s'.ringGet r = s.ringGet r ∧ s'.ringInst r = s.ringInst r ∧ s'.ringSlot r = s.ringSlot r ∧
    s'.rd (F.CANRAM_RING0_COUNT r) = s.rd (F.CANRAM_RING0_COUNT r) ∧ s'.rd (F.CANRAM_RING1_BASE r) = s.rd (F.CANRAM_RING1_BASE r) := by
  unfold State.ringValid State.ringTx State.ringPut State.ringGet State.ringInst State.ringSlot State.flag
  rw [h (F.CANRAM_RING0_VALID r) (by simp only [Fld.key, F.CANRAM_RING0_VALID]; omega), h (F.CANRAM_RING0_DIR r) (by simp only [Fld.key, F.CANRAM_RING0_DIR]; omega),
    h (F.CANRAM_RING2_PUT r) (by simp only [Fld.key, F.CANRAM_RING2_PUT]; omega), h (F.CANRAM_RING2_GET_RECLAIM r) (by simp only [Fld.key, F.CANRAM_RING2_GET_RECLAIM]; omega),
    h (F.CANRAM_RING0_INST r) (by simp only [Fld.key, F.CANRAM_RING0_INST]; omega), h (F.CANRAM_RING0_SLOT r) (by simp only [Fld.key, F.CANRAM_RING0_SLOT]; omega)]
  exact ⟨rfl, rfl, rfl, rfl, rfl, rfl, h _ (by simp only [Fld.key, F.CANRAM_RING0_COUNT]; omega), h _ (by simp only [Fld.key, F.CANRAM_RING1_BASE]; omega)⟩

omit hc in
/-- The tests of the owner use message RAM's descriptors, the pool's registers and the instances alone. -/
theorem State.admitOwner_congr (h : ∀ g : Fld, 0x40C40000 * 32 ≤ g.key → s'.rd g = s.rd g) (hv : s'.vim = s.vim) (i n : Nat) : s'.admitOwner i n = s.admitOwner i n := by
  have hheld (j : Nat) : s'.ringHeld j = s.ringHeld j := by
    obtain ⟨h1, -, h3, h4, -, -, h7, -⟩ := State.ringRegs_congr h j
    unfold State.ringHeld State.ringDist
    rw [h1, h3, h4, h7]
  have hwords (j : Nat) : s'.ringWords j = s.ringWords j := by unfold State.ringWords; rw [(State.ringRegs_congr h j).2.2.2.2.2.1]
  have hinst (j : Nat) : s'.ringInst j = s.ringInst j := (State.ringRegs_congr h j).2.2.2.2.1
  have howner (q : Nat) : s'.queueOwner q = s.queueOwner q := by
    unfold State.queueOwner
    rw [hinst, h (F.VIM_HWQ_CFG_OWNER q) (by simp only [Fld.key, F.VIM_HWQ_CFG_OWNER]; omega)]
  have hocc : s'.occ i = s.occ i := by unfold State.occ; simp only [hv, howner, hinst, hheld, hwords]
  unfold State.admitOwner State.shareWords State.flag
  rw [hocc, show s'.inst i = s.inst i by unfold State.inst; rw [hv], h (F.VIM_INST_STAT_OVERSHARE i) (by simp only [Fld.key, F.VIM_INST_STAT_OVERSHARE]; omega),
    h (F.VIM_INST_QSHARE_QSHARE_EFF i) (by simp only [Fld.key, F.VIM_INST_QSHARE_QSHARE_EFF]; omega)]

omit hc in
/-- The bytes of a list of words. -/
theorem getD_wordBytes (l : List Nat) (j : Nat) {k : Nat} (hk : k < 4) : ((l.map wordBytes).flatten).getD (4 * j + k) 0 = (wordBytes (l.getD j 0)).getD k 0 := by
  induction l generalizing j with
  | nil =>
    rw [List.map_nil, List.flatten_nil, List.getD_nil, List.getD_nil]
    interval_cases k <;> rfl
  | cons w l ih =>
    rw [List.map_cons, List.flatten_cons]
    cases j with
    | zero => rw [Nat.mul_zero, Nat.zero_add, List.getD_append _ _ _ _ (show k < (wordBytes w).length from hk), List.getD_cons_zero]
    | succ j =>
      rw [List.getD_append_right _ _ _ _ (show (wordBytes w).length ≤ 4 * (j + 1) + k by simp only [wordBytes, List.length_cons, List.length_nil]; omega),
        List.getD_cons_succ, ← ih j]
      congr 1
      simp only [wordBytes, List.length_cons, List.length_nil]
      omega

omit hc in
theorem length_wordBytes (l : List Nat) : ((l.map wordBytes).flatten).length = 4 * l.length := by
  induction l with
  | nil => rfl
  | cons w l ih =>
    rw [List.map_cons, List.flatten_cons, List.length_append, ih, List.length_cons]
    simp only [wordBytes, List.length_cons, List.length_nil]
    omega

omit hc in
/-- Words stored one after the other read back. -/
theorem State.memWord_store (s : State) (b : Nat) {l : List Nat} {j : Nat} (hj : j < l.length) (hw : l.getD j 0 < 2 ^ 32) :
    (s.store b (l.map wordBytes).flatten).memWord (b + 4 * j) = l.getD j 0 := by
  rw [← Nat.mod_eq_of_lt hw, ← s.memWord_putWord_self (b + 4 * j) (l.getD j 0)]
  refine State.memWord_congr fun k hk => ?_
  have h1 : Memory.read (s.store b (l.map wordBytes).flatten).mem (b + (4 * j + k)) = BitVec.ofNat 8 (((l.map wordBytes).flatten).getD (4 * j + k) 0) :=
    Memory.read_writeRun_inside _ _ _ _ (by rw [length_wordBytes]; omega)
  have h2 : Memory.read (s.putWord (b + 4 * j) (l.getD j 0)).mem (b + 4 * j + k) = BitVec.ofNat 8 ((wordBytes (l.getD j 0)).getD k 0) :=
    Memory.read_writeRun_inside _ _ _ _ hk
  rw [Nat.add_assoc, h1, getD_wordBytes l j hk, ← h2, Nat.add_assoc]

omit hc in
theorem rxHeader_length (f : CanFrame) (slot e n : Nat) : (rxHeader f c slot e n).length = 8 := rfl

omit hc in
/-- The words of a header fit. -/
theorem rxHeader_lt (f : CanFrame) (slot e n : Nat) {w : Nat} (hw : w ∈ rxHeader f c slot e n) : w < 2 ^ 32 := by
  have h1 := bit_le_one f.xtd; have h2 := bit_le_one f.rtr; have h3 := bit_le_one f.fdf; have h4 := bit_le_one f.brs; have h5 := bit_le_one f.esi
  have h6 := bit_le_one f.xlf; have h7 := bit_le_one f.sec; have h8 := bit_le_one (decide (slot < f.data.length))
  simp only [rxHeader, List.mem_cons, List.not_mem_nil, or_false] at hw
  rcases hw with rfl | rfl | rfl | rfl | rfl | rfl | rfl | rfl
  · omega
  · omega
  · split <;> omega
  all_goals omega

omit hc in
/-- A frame that is stored: the state with the element written, PUT moved and the interrupt of the ring's instance. -/
theorem State.storeRx_ok {q : State} (f : CanFrame) (e : Nat) (hv : q.ringValid r = true) (htx : q.ringTx r = false) (hroom : q.ringNext r (q.ringPut r) ≠ q.ringGet r)
    (hadm : q.admitOwner (q.ringInst r) (q.ringWords r) = .ok) : q.storeRx c r e f =
      ((((q.store (q.elemAddr r (q.ringPut r)) ((rxHeader f c (q.ringSlot r) e q.now).map wordBytes).flatten).store (q.elemAddr r (q.ringPut r) + 32)
        (f.data.take (q.ringSlot r))).wr (F.CANRAM_RING2_PUT r) (q.ringNext r (q.ringPut r))).canIrq (q.ringInst r)) := by
  unfold State.storeRx
  rw [hv, htx, if_neg (by decide), if_neg hroom]
  dsimp only
  rw [hadm]
  rfl

omit hc in
theorem State.storeRx_full {q : State} (f : CanFrame) (e : Nat) (hv : q.ringValid r = true) (htx : q.ringTx r = false) (hroom : q.ringNext r (q.ringPut r) = q.ringGet r) :
    q.storeRx c r e f = ((q.inc (F.CANRAM_RING4_DROPPED_CANCELLED r)).inc (F.CAN_CNT_DROP_RING_FULL c)).raise (F.CAN_IRQ_RING_FULL c) := by
  unfold State.storeRx
  rw [hv, htx, if_neg (by decide), if_pos hroom]

section
variable (hon : (s.ctl c).state = .active ∨ (s.ctl c).state = .passive) (hf : s.fmtEnabled c f.fdf f.xlf = true)
include hon hf

/-! ### The filter rejects the frame -/

theorem canFrameRx_default (hhit : (s.tick t).filterHit c f = none) (hdef : s.rd (F.CAN_FLT_DEF_DEF_ACTION c) = 0) : Ends (.canFrameRx t c f) s fun s' =>
    s'.mem = s.mem ∧ s'.rd (F.CAN_CNT_DROP_REJECTED c) = min 65535 (s.rd (F.CAN_CNT_DROP_REJECTED c) + 1) ∧
    s'.rd (F.CAN_CNT_RX_VALID c) = min 65535 (s.rd (F.CAN_CNT_RX_VALID c) + 1) := by
  have hp := State.received_spec hc (s.tick t) f
  have hh := State.received_filterHit hc (s.tick t) f
  have ha : ((s.tick t).received c f).rd (F.CAN_FLT_DEF_DEF_ACTION c) = 0 :=
    (State.received_rd hc (s.tick t) f (by simp only [RxKey, Fld.key, F.CAN_FLT_DEF_DEF_ACTION]; omega)
      (by simp only [ne_eq, Fld.key, F.CAN_FLT_DEF_DEF_ACTION, F.CAN_CNT_RX_VALID]; omega)).trans hdef
  have hd : ((s.tick t).received c f).rd (F.CAN_CNT_DROP_REJECTED c) = s.rd (F.CAN_CNT_DROP_REJECTED c) :=
    State.received_rd hc (s.tick t) f (by simp only [RxKey, Fld.key, F.CAN_CNT_DROP_REJECTED]; omega)
      (by simp only [ne_eq, Fld.key, F.CAN_CNT_DROP_REJECTED, F.CAN_CNT_RX_VALID]; omega)
  refine canFrameRx_ends hc hon hf ?_
  obtain ⟨p, hpd⟩ : ∃ p, p = (s.tick t).received c f := ⟨_, rfl⟩
  rw [← hpd] at hp hh ha hd ⊢
  have hact : p.filterAct c f = p.inc (F.CAN_CNT_DROP_REJECTED c) := by
    unfold State.filterAct
    rw [hh, hhit]
    dsimp only
    rw [ha, if_pos rfl, if_neg (show ¬ (0 = 2 ∨ 0 = 3) by decide), if_neg (show ¬ (0 = 1 ∨ 0 = 3) by decide)]
  rw [hact]
  obtain ⟨h1, h2, -⟩ := hp
  refine ⟨h2, by rw [State.rd_inc_min, hd]; rfl, ?_⟩
  rw [State.rd_inc_ne _ (by simp only [ne_eq, Fld.key, F.CAN_CNT_DROP_REJECTED, F.CAN_CNT_RX_VALID]; omega),
    h1 _ (by simp only [RxKey, Fld.key, F.CAN_CNT_RX_VALID]; omega), State.rd_inc_min]
  rfl

section
variable (hhit : (s.tick t).filterHit c f = some e)
include hhit

/-- The matching entry counts a hit; what it says is done. -/
theorem canFrameRx_hit {act : Nat} (hact : (s.tick t).fltWord e / 2 ^ 27 % 4 = act) (ha : act = 0 ∨ act = 1) {P : State → Prop}
    (h : ∀ q, (∃ p, p = (s.tick t).received c f ∧ q = p.inc (F.CANRAM_FLT3_HITS e)) →
      P (if act = 0 then q.inc (F.CAN_CNT_DROP_REJECTED c) else q.storeRx c ((s.tick t).fltWord e % 128) e f)) : Ends (.canFrameRx t c f) s P := by
  have hh := State.received_filterHit hc (s.tick t) f
  have hw := State.received_fltWord hc (s.tick t) f e
  refine canFrameRx_ends hc hon hf ?_
  have h := h _ ⟨_, rfl, rfl⟩
  obtain ⟨p, hpd⟩ : ∃ p, p = (s.tick t).received c f := ⟨_, rfl⟩
  rw [← hpd] at hh hw h ⊢
  have hb1 : bits (p.fltWord e) 28 27 = act := by rw [hw]; exact hact
  have hb2 : bits (p.fltWord e) 6 0 = (s.tick t).fltWord e % 128 := by rw [hw, bits, Nat.pow_zero, Nat.div_one]; rfl
  unfold State.filterAct
  rw [hh, hhit]
  dsimp only
  rw [hb1, hb2]
  rcases ha with rfl | rfl
  · exact h
  · exact h

theorem canFrameRx_reject (he : e < 16384) (hact : (s.tick t).fltWord e / 2 ^ 27 % 4 = 0) : Ends (.canFrameRx t c f) s fun s' => s'.mem = s.mem ∧
    s'.rd (F.CAN_CNT_DROP_REJECTED c) = min 65535 (s.rd (F.CAN_CNT_DROP_REJECTED c) + 1) ∧
    s'.rd (F.CANRAM_FLT3_HITS e) = min (2 ^ 32 - 1) (s.rd (F.CANRAM_FLT3_HITS e) + 1) := by
  refine canFrameRx_hit hc hon hf hhit hact (Or.inl rfl) fun q hq => ?_
  obtain ⟨p, hp, hq⟩ := hq
  obtain ⟨-, h2, -, -, h5, h6⟩ := State.hit_spec hc (s.tick t) f hp hq he
  rw [if_pos rfl]
  refine ⟨h2, ?_, ?_⟩
  · rw [State.rd_inc_min, h6]; rfl
  · rw [State.rd_inc_ne _ (by simp only [ne_eq, Fld.key, F.CANRAM_FLT3_HITS, F.CAN_CNT_DROP_REJECTED]; omega)]; exact h5

section
variable (he : e < 16384) (hact : (s.tick t).fltWord e / 2 ^ 27 % 4 = 1) (hring : (s.tick t).fltWord e % 128 = r) (hv : s.ringValid r = true) (htx : s.ringTx r = false)
include he hact hring hv htx

theorem canFrameRx_full (hroom : s.ringNext r (s.ringPut r) = s.ringGet r) : Ends (.canFrameRx t c f) s fun s' => s'.mem = s.mem ∧
    s'.ringPut r = s.ringPut r ∧ s'.rd (F.CAN_IRQ_RING_FULL c) = 1 ∧
    s'.rd (F.CANRAM_RING4_DROPPED_CANCELLED r) = min (2 ^ 32 - 1) (s.rd (F.CANRAM_RING4_DROPPED_CANCELLED r) + 1) := by
  refine canFrameRx_hit hc hon hf hhit hact (Or.inr rfl) fun q hq => ?_
  obtain ⟨p, hp, hq⟩ := hq
  obtain ⟨h1, h2, -⟩ := State.hit_spec hc (s.tick t) f hp hq he
  obtain ⟨g1, g2, g3, g4, -, -, g7, -⟩ := State.ringRegs_congr h1 r
  have hnext : q.ringNext r (q.ringPut r) = q.ringGet r := by
    rw [g3, g4, State.ringNext, g7]; exact hroom
  rw [if_neg (by decide), hring, State.storeRx_full f e (g1.trans hv) (g2.trans htx) hnext]
  refine ⟨h2, ?_, State.rd_raise_bit _ rfl, ?_⟩
  · refine Eq.trans ?_ g3
    rw [State.ringPut, State.rd_raise_ne _ (by simp only [ne_eq, Fld.key, F.CAN_IRQ_RING_FULL, F.CANRAM_RING2_PUT]; omega),
      State.rd_inc_ne _ (by simp only [ne_eq, Fld.key, F.CAN_CNT_DROP_RING_FULL, F.CANRAM_RING2_PUT]; omega),
      State.rd_inc_ne _ (by simp only [ne_eq, Fld.key, F.CANRAM_RING4_DROPPED_CANCELLED, F.CANRAM_RING2_PUT]; omega)]
    rfl
  · rw [State.rd_raise_ne _ (by simp only [ne_eq, Fld.key, F.CAN_IRQ_RING_FULL, F.CANRAM_RING4_DROPPED_CANCELLED]; omega),
      State.rd_inc_ne _ (by simp only [ne_eq, Fld.key, F.CAN_CNT_DROP_RING_FULL, F.CANRAM_RING4_DROPPED_CANCELLED]; omega), State.rd_inc_min,
      h1 _ (by simp only [Fld.key, F.CANRAM_RING4_DROPPED_CANCELLED]; omega)]
    rfl

theorem canFrameRx_stored (hroom : s.ringNext r (s.ringPut r) ≠ s.ringGet r) (hi : s.ringInst r < 64)
    (hadm : s.admitOwner (s.ringInst r) (s.ringWords r) = .ok) : Ends (.canFrameRx t c f) s fun s' =>
    s'.rd (F.CANRAM_FLT3_HITS e) = min (2 ^ 32 - 1) (s.rd (F.CANRAM_FLT3_HITS e) + 1) ∧
    s'.ringPut r = s.ringNext r (s.ringPut r) % 2 ^ 16 ∧ s'.ringGet r = s.ringGet r ∧
    (∀ j, j < 8 → s'.memWord (s.elemAddr r (s.ringPut r) + 4 * j) = (rxHeader f c (s.ringSlot r) e t).getD j 0) ∧
    (∀ j, j < s.ringSlot r → j < f.data.length → Memory.read s'.mem (s.elemAddr r (s.ringPut r) + 32 + j) = BitVec.ofNat 8 (f.data.getD j 0)) ∧
    ∀ b, b < s.elemAddr r (s.ringPut r) ∨ s.elemAddr r (s.ringPut r) + 32 + min (s.ringSlot r) f.data.length ≤ b →
      Memory.read s'.mem b = Memory.read s.mem b := by
  refine canFrameRx_hit hc hon hf hhit hact (Or.inr rfl) fun q hq => ?_
  obtain ⟨p, hp, hq⟩ := hq
  obtain ⟨h1, h2, h3, h4, h5, -⟩ := State.hit_spec hc (s.tick t) f hp hq he
  obtain ⟨g1, g2, g3, g4, g5, g6, g7, g8⟩ := State.ringRegs_congr h1 r
  have hnext (k : Nat) : q.ringNext r k = s.ringNext r k := by unfold State.ringNext; rw [g7]; rfl
  have hput : q.ringPut r = s.ringPut r := g3
  have hslot : q.ringSlot r = s.ringSlot r := g6
  have haddr (k : Nat) : q.elemAddr r k = s.elemAddr r k := by unfold State.elemAddr; rw [g8, g6]; rfl
  have hinst : q.ringInst r = s.ringInst r := g5
  have hget : q.ringGet r = s.ringGet r := g4
  have hwords : q.ringWords r = s.ringWords r := by unfold State.ringWords; rw [hslot]
  have hqadm : q.admitOwner (q.ringInst r) (q.ringWords r) = .ok := by
    rw [State.admitOwner_congr h1 h3, hinst, hwords]; exact hadm
  have hqr : q.ringNext r (q.ringPut r) ≠ q.ringGet r := by rw [hnext, hput, hget]; exact hroom
  rw [if_neg (by decide), hring, State.storeRx_ok f e (g1.trans hv) (g2.trans htx) hqr hqadm, haddr, hput, hslot, hinst, hnext]
  obtain ⟨el, hel⟩ : ∃ el, el = s.elemAddr r (s.ringPut r) := ⟨_, rfl⟩
  rw [← hel, show q.now = t from h4]
  obtain ⟨x, hx⟩ : ∃ x, x = q.store el ((rxHeader f c (s.ringSlot r) e t).map wordBytes).flatten := ⟨_, rfl⟩
  obtain ⟨y, hy⟩ : ∃ y, y = x.store (el + 32) (f.data.take (s.ringSlot r)) := ⟨_, rfl⟩
  have hlen : (f.data.take (s.ringSlot r)).length = min (s.ringSlot r) f.data.length := List.length_take
  have hxl : ((rxHeader f c (s.ringSlot r) e t).map wordBytes).flatten.length = 32 := by rw [length_wordBytes, rxHeader_length]
  have hxout (b : Nat) (hb : b < el ∨ el + 32 ≤ b) : Memory.read x.mem b = Memory.read s.mem b := by
    rw [hx]; exact (Memory.read_writeRun_outside _ _ (by rw [hxl]; exact hb)).trans (congrArg (Memory.read · b) h2)
  have hyout (b : Nat) (hb : b < el + 32 ∨ el + 32 + min (s.ringSlot r) f.data.length ≤ b) : Memory.read y.mem b = Memory.read x.mem b := by
    rw [hy]; exact Memory.read_writeRun_outside _ _ (by rw [hlen]; exact hb)
  have hyreg : y.regs = q.regs := by rw [hy, hx]; rfl
  rw [← hx, ← hy]
  have hend (g : Fld) (hg1 : 0x40001000 * 32 ≤ g.key) (hg2 : g.key ≠ (F.CANRAM_RING3_DONE r).key) (hg3 : (F.CANRAM_RING2_PUT r).key ≠ g.key) :
      ((y.wr (F.CANRAM_RING2_PUT r) (s.ringNext r (s.ringPut r))).canIrq (s.ringInst r)).rd g = q.rd g :=
    ((State.canIrq_kept _ hi r).rd hg1 hg2).trans ((State.rd_wr_ne y _ hg3).trans (State.rd_congr hyreg g))
  refine ⟨?_, ?_, ?_, fun j hj => ?_, fun j hj hjl => ?_, fun b hb => ?_⟩
  · exact (hend _ (by simp only [Fld.key, F.CANRAM_FLT3_HITS]; omega)
      (by simp only [ne_eq, Fld.key, F.CANRAM_FLT3_HITS, F.CANRAM_RING3_DONE]; omega)
      (by simp only [ne_eq, Fld.key, F.CANRAM_FLT3_HITS, F.CANRAM_RING2_PUT]; omega)).trans h5
  · exact ((State.canIrq_kept _ hi r).rd (by simp only [Fld.key, F.CANRAM_RING2_PUT]; omega)
      (by simp only [ne_eq, Fld.key, F.CANRAM_RING2_PUT, F.CANRAM_RING3_DONE]; omega)).trans (State.rd_wr_self ..)
  · exact (hend _ (by simp only [Fld.key, F.CANRAM_RING2_GET_RECLAIM]; omega)
      (by simp only [ne_eq, Fld.key, F.CANRAM_RING2_GET_RECLAIM, F.CANRAM_RING3_DONE]; omega)
      (by simp only [ne_eq, Fld.key, F.CANRAM_RING2_GET_RECLAIM, F.CANRAM_RING2_PUT]; omega)).trans g4
  · have hw : (rxHeader f c (s.ringSlot r) e t).getD j 0 < 2 ^ 32 := by
      refine rxHeader_lt f (s.ringSlot r) e t (c := c) ?_
      rw [List.getD_eq_getElem _ _ (by rw [rxHeader_length]; exact hj)]
      exact List.getElem_mem _
    have hword : x.memWord (el + 4 * j) = (rxHeader f c (s.ringSlot r) e t).getD j 0 := by
      rw [hx]; exact q.memWord_store el (by rw [rxHeader_length]; exact hj) hw
    exact (State.memWord_congr (s := x) fun k hk => hyout _ (by omega)).trans hword
  · have hin : Memory.read y.mem (el + 32 + j) = BitVec.ofNat 8 ((f.data.take (s.ringSlot r)).getD j 0) := by
      rw [hy]; exact Memory.read_writeRun_inside _ _ _ _ (by rw [hlen]; omega)
    refine hin.trans ?_
    rw [List.getD_eq_getElem?_getD, List.getElem?_take, if_pos hj, ← List.getD_eq_getElem?_getD]
  · exact (hyout b (by omega)).trans (hxout b (by omega))

end
end
end
end

end Sys2Proof.Machine
end

section
/-! PROOFS. CAN reception: rings and filter entries; O45 -/

namespace Sys2Proof.Machine

variable {s s' s'' : State} {t c e r k w i : Nat} {a : Attr} {f : CanFrame} {v : Word}

/-! ### Ring descriptors -/

/-- A value of word 0 of a descriptor names a sound ring on the base that stands (R257). -/
def SoundRing (s : State) (r v : Nat) : Prop := slotBytes (v / 2 ^ 16 % 16) ≠ 0 ∧ 2 ≤ v % 2 ^ 16 ∧ 0x41000 ≤ s.rd (F.CANRAM_RING1_BASE r) ∧
  s.rd (F.CANRAM_RING1_BASE r) % 32 = 0 ∧ s.rd (F.CANRAM_RING1_BASE r) + v % 2 ^ 16 * (32 + slotBytes (v / 2 ^ 16 % 16)) ≤ 0x100000

/-- Word 0's fields but VALID are written. -/
def State.ring0Fields (s : State) (r v : Nat) : State :=
  ((((s.wr (F.CANRAM_RING0_DIR r) (bits v 30 30)).wr (F.CANRAM_RING0_CTRL r) (bits v 29 26)).wr
    (F.CANRAM_RING0_INST r) (bits v 25 20)).wr (F.CANRAM_RING0_SLOT r) (bits v 19 16)).wr (F.CANRAM_RING0_COUNT r) (bits v 15 0)

/-- The fields of word 0 but VALID stand as `v` has them. -/
def Ring0Is (s : State) (r v : Nat) : Prop := s.rd (F.CANRAM_RING0_DIR r) = v / 2 ^ 30 % 2 ∧ s.rd (F.CANRAM_RING0_CTRL r) = v / 2 ^ 26 % 16 ∧
  s.rd (F.CANRAM_RING0_INST r) = v / 2 ^ 20 % 64 ∧ s.rd (F.CANRAM_RING0_SLOT r) = v / 2 ^ 16 % 16 ∧ s.rd (F.CANRAM_RING0_COUNT r) = v % 2 ^ 16

theorem State.ring0Fields_spec (s : State) (r v : Nat) : Ring0Is (s.ring0Fields r v) r v ∧
    (s.ring0Fields r v).rd (F.CANRAM_RING1_BASE r) = s.rd (F.CANRAM_RING1_BASE r) ∧ (s.ring0Fields r v).rd (F.CANRAM_RING0_VALID r) = s.rd (F.CANRAM_RING0_VALID r) := by
  unfold State.ring0Fields Ring0Is
  refine ⟨⟨?_, ?_, ?_, ?_, ?_⟩, ?_, ?_⟩ <;>
    simp (disch := (simp only [ne_eq, Fld.key, F.CANRAM_RING0_DIR, F.CANRAM_RING0_CTRL, F.CANRAM_RING0_INST, F.CANRAM_RING0_SLOT, F.CANRAM_RING0_COUNT,
      F.CANRAM_RING0_VALID, F.CANRAM_RING1_BASE]; omega)) only [State.rd_wr_ne, State.rd_wr_self]
  · exact Nat.mod_mod (v / 2 ^ 30) 2
  · exact Nat.mod_mod (v / 2 ^ 26) 16
  · exact Nat.mod_mod (v / 2 ^ 20) 64
  · exact Nat.mod_mod (v / 2 ^ 16) 16
  · rw [bits, pow_zero, Nat.div_one]; exact Nat.mod_mod v (2 ^ 16)

theorem State.ringOk_iff {x : State} {n : Nat} (h : Ring0Is x r n) (hb : x.rd (F.CANRAM_RING1_BASE r) = s.rd (F.CANRAM_RING1_BASE r)) :
    x.ringOk r = true ↔ SoundRing s r n := by
  obtain ⟨-, -, -, h4, h5⟩ := h
  unfold State.ringOk SoundRing State.ringSlot
  rw [h4, h5, hb]
  simp only [Bool.and_eq_true, decide_eq_true_iff, beq_iff_eq, and_assoc]

/-- The indices of a ring that becomes VALID. -/
theorem State.ringReset_spec (x : State) (r : Nat) : ((x.setF (F.CANRAM_RING0_VALID r)).ringReset r).mem = x.mem ∧
    (∀ n, Ring0Is x r n → Ring0Is ((x.setF (F.CANRAM_RING0_VALID r)).ringReset r) r n) ∧
    ((x.setF (F.CANRAM_RING0_VALID r)).ringReset r).rd (F.CANRAM_RING0_VALID r) = 1 ∧
    ((x.setF (F.CANRAM_RING0_VALID r)).ringReset r).ringPut r = 0 ∧ ((x.setF (F.CANRAM_RING0_VALID r)).ringReset r).ringGet r = 0 ∧
    ((x.setF (F.CANRAM_RING0_VALID r)).ringReset r).ringDone r = 0 := by
  obtain ⟨y, hy⟩ : ∃ y, y = { x.setF (F.CANRAM_RING0_VALID r) with can := { x.can with errs := x.can.errs.erase r, aborts := x.can.aborts.erase r, skips := x.can.skips.erase r } } :=
    ⟨_, rfl⟩
  have hdef : (x.setF (F.CANRAM_RING0_VALID r)).ringReset r = ((y.wr (F.CANRAM_RING2_PUT r) 0).wr (F.CANRAM_RING2_GET_RECLAIM r) 0).wr (F.CANRAM_RING3_DONE r) 0 := by
    rw [hy]; rfl
  have hyreg : y.regs = (x.setF (F.CANRAM_RING0_VALID r)).regs := by rw [hy]
  have hym : y.mem = x.mem := by rw [hy]; rfl
  have hend (g : Fld) (h1 : (F.CANRAM_RING2_PUT r).key ≠ g.key) (h2 : (F.CANRAM_RING2_GET_RECLAIM r).key ≠ g.key) (h3 : (F.CANRAM_RING3_DONE r).key ≠ g.key) :
      ((x.setF (F.CANRAM_RING0_VALID r)).ringReset r).rd g = (x.setF (F.CANRAM_RING0_VALID r)).rd g := by
    rw [hdef, State.rd_wr_ne _ _ h3, State.rd_wr_ne _ _ h2, State.rd_wr_ne _ _ h1, State.rd_congr hyreg]
  have hkept (g : Fld) (h1 : (F.CANRAM_RING0_VALID r).key ≠ g.key) (h2 : g.key < (F.CANRAM_RING2_GET_RECLAIM r).key) :
      ((x.setF (F.CANRAM_RING0_VALID r)).ringReset r).rd g = x.rd g := by
    rw [hend g (by simp only [ne_eq, Fld.key, F.CANRAM_RING2_PUT, F.CANRAM_RING2_GET_RECLAIM] at *; omega) (Ne.symm h2.ne)
      (by simp only [ne_eq, Fld.key, F.CANRAM_RING3_DONE, F.CANRAM_RING2_GET_RECLAIM] at *; omega), State.rd_setF_ne _ h1]
  refine ⟨by rw [hdef]; exact hym, fun n ⟨h1, h2, h3, h4, h5⟩ => ⟨?_, ?_, ?_, ?_, ?_⟩, ?_, ?_, ?_, ?_⟩
  · rw [hkept _ (by simp only [ne_eq, Fld.key, F.CANRAM_RING0_VALID, F.CANRAM_RING0_DIR]; omega) (by simp only [Fld.key, F.CANRAM_RING0_DIR, F.CANRAM_RING2_GET_RECLAIM]; omega)]
    exact h1
  · rw [hkept _ (by simp only [ne_eq, Fld.key, F.CANRAM_RING0_VALID, F.CANRAM_RING0_CTRL]; omega) (by simp only [Fld.key, F.CANRAM_RING0_CTRL, F.CANRAM_RING2_GET_RECLAIM]; omega)]
    exact h2
  · rw [hkept _ (by simp only [ne_eq, Fld.key, F.CANRAM_RING0_VALID, F.CANRAM_RING0_INST]; omega) (by simp only [Fld.key, F.CANRAM_RING0_INST, F.CANRAM_RING2_GET_RECLAIM]; omega)]
    exact h3
  · rw [hkept _ (by simp only [ne_eq, Fld.key, F.CANRAM_RING0_VALID, F.CANRAM_RING0_SLOT]; omega) (by simp only [Fld.key, F.CANRAM_RING0_SLOT, F.CANRAM_RING2_GET_RECLAIM]; omega)]
    exact h4
  · rw [hkept _ (by simp only [ne_eq, Fld.key, F.CANRAM_RING0_VALID, F.CANRAM_RING0_COUNT]; omega) (by simp only [Fld.key, F.CANRAM_RING0_COUNT, F.CANRAM_RING2_GET_RECLAIM]; omega)]
    exact h5
  · rw [hend _ (by simp only [ne_eq, Fld.key, F.CANRAM_RING2_PUT, F.CANRAM_RING0_VALID]; omega) (by simp only [ne_eq, Fld.key, F.CANRAM_RING2_GET_RECLAIM, F.CANRAM_RING0_VALID]; omega)
      (by simp only [ne_eq, Fld.key, F.CANRAM_RING3_DONE, F.CANRAM_RING0_VALID]; omega), State.rd_setF_self]
    rfl
  · rw [State.ringPut, hdef, State.rd_wr_ne _ _ (by simp only [ne_eq, Fld.key, F.CANRAM_RING3_DONE, F.CANRAM_RING2_PUT]; omega),
      State.rd_wr_ne _ _ (by simp only [ne_eq, Fld.key, F.CANRAM_RING2_GET_RECLAIM, F.CANRAM_RING2_PUT]; omega), State.rd_wr_self]
    rfl
  · rw [State.ringGet, hdef, State.rd_wr_ne _ _ (by simp only [ne_eq, Fld.key, F.CANRAM_RING3_DONE, F.CANRAM_RING2_GET_RECLAIM]; omega), State.rd_wr_self]
    rfl
  · rw [State.ringDone, hdef, State.rd_wr_self]; rfl

section
variable (hr : r < 128)
include hr

section
variable (hp : (s.tick t).passes (0x40C40000 + 32 * r) a true = true)
include hp

theorem ringDescWrite0_free (hv : s.ringValid r = false) : Ends (.ringDescWrite t a r 0 v) s fun s' => s'.mem = s.mem ∧ Ring0Is s' r v.toNat ∧
    (v.toNat.testBit 31 = true → SoundRing s r v.toNat → s'.rd (F.CANRAM_RING0_VALID r) = 1 ∧ s'.ringPut r = 0 ∧ s'.ringGet r = 0 ∧ s'.ringDone r = 0) ∧
    (¬ (v.toNat.testBit 31 = true ∧ SoundRing s r v.toNat) → s'.rd (F.CANRAM_RING0_VALID r) = 0) := by
  have hv' : ¬ (s.tick t).okay.ringValid r = true := fun h => Bool.false_ne_true (hv.symm.trans h)
  obtain ⟨h1, h2, h3⟩ := (s.tick t).okay.ring0Fields_spec r v.toNat
  obtain ⟨x, hx⟩ : ∃ x, x = (s.tick t).okay.ring0Fields r v.toNat := ⟨_, rfl⟩
  have hxm : x.mem = s.mem := by rw [hx]; rfl
  rw [← hx] at h1 h2 h3
  have hok := State.ringOk_iff (s := s) h1 h2
  refine ends_unit_guarded_eq (x := if v.toNat.testBit 31 ∧ x.ringOk r then (x.setF (F.CANRAM_RING0_VALID r)).ringReset r else x)
    (arm_ringDescWrite ..) (decide_eq_true ⟨hr, by decide⟩) hp rfl ?_ ?_
  · rw [if_neg hv', if_pos rfl, hx]; rfl
  · by_cases hs : v.toNat.testBit 31 = true ∧ SoundRing s r v.toNat
    · rw [if_pos ⟨hs.1, hok.2 hs.2⟩]
      obtain ⟨m1, m2, m3⟩ := x.ringReset_spec r
      exact ⟨m1.trans hxm, m2 _ h1, fun _ _ => m3, fun h => absurd hs h⟩
    · rw [if_neg fun h => hs ⟨h.1, hok.1 h.2⟩]
      refine ⟨hxm, h1, fun h h' => absurd ⟨h, h'⟩ hs, fun _ => h3.trans ?_⟩
      exact State.flag_eq_false.1 hv

theorem ringDescWrite0_valid (hv : s.ringValid r = true) (h31 : v.toNat.testBit 31 = true) : Ends (.ringDescWrite t a r 0 v) s fun s' =>
    s'.regs = s.regs ∧ s'.mem = s.mem := by
  have hv' : (s.tick t).okay.ringValid r = true := hv
  refine ends_unit_guarded_eq (x := (s.tick t).okay) (arm_ringDescWrite ..) (decide_eq_true ⟨hr, by decide⟩) hp rfl ?_ ⟨rfl, rfl⟩
  rw [if_pos hv', if_neg (by rw [h31]; decide)]

end

section
variable (hp : (s.tick t).passes (0x40C40000 + 32 * r + 4) a true = true)
include hp

theorem ringDescWrite1_free (hv : s.ringValid r = false) : Ends (.ringDescWrite t a r 1 v) s fun s' =>
    OnlyRegs s t [F.CANRAM_RING1_RETRY r, F.CANRAM_RING1_IRQ_EN r, F.CANRAM_RING1_BASE r] s' ∧
    s'.rd (F.CANRAM_RING1_RETRY r) = v.toNat / 2 ^ 24 ∧ s'.rd (F.CANRAM_RING1_BASE r) = v.toNat % 2 ^ 20 := by
  have hv' : ¬ (s.tick t).okay.ringValid r = true := fun h => Bool.false_ne_true (hv.symm.trans h)
  have hlt := v.isLt
  refine ends_unit_guarded_eq (arm_ringDescWrite ..) (decide_eq_true ⟨hr, by decide⟩) hp rfl (by rw [if_neg hv', if_neg (by decide)])
    ⟨(((OnlyRegs.tick s t _).okay.wr _ (by simp)).wr _ (by simp)).wr _ (by simp), ?_, ?_⟩
  · rw [State.rd_wr_ne _ _ (by simp only [ne_eq, Fld.key, F.CANRAM_RING1_BASE, F.CANRAM_RING1_RETRY]; omega),
      State.rd_wr_ne _ _ (by simp only [ne_eq, Fld.key, F.CANRAM_RING1_IRQ_EN, F.CANRAM_RING1_RETRY]; omega), State.rd_wr_self]
    refine (Nat.mod_mod (v.toNat / 2 ^ 24) (2 ^ 8)).trans (Nat.mod_eq_of_lt ?_)
    omega
  · rw [State.rd_wr_self, bits, pow_zero, Nat.div_one]
    exact Nat.mod_mod v.toNat (2 ^ 20)

theorem ringDescWrite1_valid (hv : s.ringValid r = true) : Ends (.ringDescWrite t a r 1 v) s fun s' => s'.regs = s.regs ∧ s'.mem = s.mem := by
  have hv' : (s.tick t).okay.ringValid r = true := hv
  refine ends_unit_guarded_eq (x := (s.tick t).okay) (arm_ringDescWrite ..) (decide_eq_true ⟨hr, by decide⟩) hp rfl ?_ ⟨rfl, rfl⟩
  rw [if_pos hv', if_neg (fun h => absurd h.1 (by decide))]

end
/-! ### The indices of a ring -/

section
variable (hp : (s.tick t).passes (0x40C40008 + 32 * r) a true = true)
include hp

/-- A command on word 2 of a descriptor. -/
theorem ends_ringWord2 {cmd : Instr} {g : State → State} {x : State} {P : State → Prop} (hcmd : exec cmd s = ringWord2 t a r g s) (hx : g (s.tick t).okay = x)
    (h : P x) : Ends cmd s P :=
  ends_unit_guarded_eq hcmd (decide_eq_true hr) hp rfl hx h

omit hr hp in
/-- The acknowledge index moves, and PUT, DONE and memory stand. -/
theorem State.ringAck_spec (s : State) (hr : r < 128) (hi : s.ringInst r < 64) (hk : k < 2 ^ 16) : (s.ringAck r k).ringGet r = k ∧ (s.ringAck r k).ringPut r = s.ringPut r ∧
    (s.ringAck r k).ringDone r = s.ringDone r ∧ (s.ringAck r k).mem = s.mem := by
  obtain ⟨x, hx⟩ : ∃ x, x = s.wr (F.CANRAM_RING2_GET_RECLAIM r) k := ⟨_, rfl⟩
  obtain ⟨y, hy⟩ : ∃ y, y = x.canIrq (s.ringInst r) := ⟨_, rfl⟩
  have hdef : s.ringAck r k = y.settleShares := by rw [hy, hx]; rfl
  have hirq := State.canIrq_kept x hi (r + 1)
  rw [← hy] at hirq
  have hym : y.mem = s.mem := by rw [hy, hx]; rfl
  have hend (g : Fld) (h1 : 0x40001000 * 32 ≤ g.key) (h2 : g.key < 0x41000000 * 32) (h3 : g.key ≠ (F.CANRAM_RING3_DONE (r + 1)).key) :
      (s.ringAck r k).rd g = x.rd g := by
    rw [hdef, State.rd_settleShares _ fun i => by simp only [ne_eq, Fld.key, F.VIM_INST_STAT_OVERSHARE] at *; omega]
    exact hirq.rd h1 h3
  refine ⟨?_, ?_, ?_, ?_⟩
  · refine (hend _ (by simp only [Fld.key, F.CANRAM_RING2_GET_RECLAIM]; omega) (by simp only [Fld.key, F.CANRAM_RING2_GET_RECLAIM]; omega)
      (by simp only [ne_eq, Fld.key, F.CANRAM_RING2_GET_RECLAIM, F.CANRAM_RING3_DONE]; omega)).trans ?_
    rw [hx, State.rd_wr_self]; exact Nat.mod_eq_of_lt hk
  · refine (hend _ (by simp only [Fld.key, F.CANRAM_RING2_PUT]; omega) (by simp only [Fld.key, F.CANRAM_RING2_PUT]; omega)
      (by simp only [ne_eq, Fld.key, F.CANRAM_RING2_PUT, F.CANRAM_RING3_DONE]; omega)).trans ?_
    rw [hx, State.rd_wr_ne _ _ (by simp only [ne_eq, Fld.key, F.CANRAM_RING2_PUT, F.CANRAM_RING2_GET_RECLAIM]; omega)]; rfl
  · refine (hend _ (by simp only [Fld.key, F.CANRAM_RING3_DONE]; omega) (by simp only [Fld.key, F.CANRAM_RING3_DONE]; omega)
      (by simp only [ne_eq, Fld.key, F.CANRAM_RING3_DONE]; omega)).trans ?_
    rw [hx, State.rd_wr_ne _ _ (by simp only [ne_eq, Fld.key, F.CANRAM_RING3_DONE, F.CANRAM_RING2_GET_RECLAIM]; omega)]; rfl
  · obtain ⟨m, hm⟩ := y.settleShares_only
    rw [hdef, hm]; exact hym

/-- An acknowledgement within what the ring holds is taken, another one is not. -/
theorem ends_ringAck {cmd : Instr} {last : State → Nat} {b : State → Prop} [∀ x, Decidable (b x)] (hv : b (s.tick t).okay) (hc : s.rd (F.CANRAM_RING0_COUNT r) < 2 ^ 16)
    (hi : s.ringInst r < 64) (hcmd : exec cmd s = ringWord2 t a r (fun s => if b s ∧ s.ackOk r k (last s) = true then s.ringAck r k else s) s)
    (hl : last (s.tick t).okay = last s) :
    (k < s.rd (F.CANRAM_RING0_COUNT r) → s.ringDist r (s.ringGet r) k ≤ s.ringDist r (s.ringGet r) (last s) → Ends cmd s fun s' =>
      s'.ringGet r = k ∧ s'.ringPut r = s.ringPut r ∧ s'.ringDone r = s.ringDone r ∧ s'.mem = s.mem) ∧
    ((s.rd (F.CANRAM_RING0_COUNT r) ≤ k ∨ s.ringDist r (s.ringGet r) (last s) < s.ringDist r (s.ringGet r) k) → Ends cmd s fun s' =>
      s'.regs = s.regs ∧ s'.mem = s.mem) := by
  have hack : (s.tick t).okay.ackOk r k (last (s.tick t).okay) = true ↔
      k < s.rd (F.CANRAM_RING0_COUNT r) ∧ s.ringDist r (s.ringGet r) k ≤ s.ringDist r (s.ringGet r) (last s) := by
    rw [hl]
    exact (Bool.and_eq_true _ _).to_iff.trans (and_congr decide_eq_true_iff decide_eq_true_iff)
  refine ⟨fun h1 h2 => ?_, fun h => ?_⟩
  · refine ends_ringWord2 hr hp (x := (s.tick t).okay.ringAck r k) hcmd (if_pos ⟨hv, hack.2 ⟨h1, h2⟩⟩) ?_
    exact (s.tick t).okay.ringAck_spec hr hi (lt_trans h1 hc)
  · refine ends_ringWord2 hr hp (x := (s.tick t).okay) hcmd (if_neg fun hh => ?_) ⟨rfl, rfl⟩
    obtain ⟨k1, k2⟩ := hack.1 hh.2
    omega

section
variable (hv : s.ringValid r = true)
include hv

theorem txPutWrite_taken (htx : s.ringTx r = true) (hc : s.rd (F.CANRAM_RING0_COUNT r) < 2 ^ 16) (hk : k < s.rd (F.CANRAM_RING0_COUNT r))
    (hroom : s.ringDist r (s.ringPut r) k ≤ s.rd (F.CANRAM_RING0_COUNT r) - 1 - s.ringHeld r)
    (hadm : s.admitOwner (s.ringInst r) (s.ringDist r (s.ringPut r) k * s.ringWords r) = .ok) : Ends (.txPutWrite t a r k) s fun s' =>
    OnlyRegs s t [F.CANRAM_RING2_PUT r] s' ∧ s'.ringPut r = k := by
  obtain ⟨u, hu⟩ : ∃ u, u = (s.tick t).okay := ⟨_, rfl⟩
  have hall : u.ringValid r = true ∧ u.ringTx r = true ∧ k < u.rd (F.CANRAM_RING0_COUNT r) ∧
      u.ringDist r (u.ringPut r) k ≤ u.rd (F.CANRAM_RING0_COUNT r) - 1 - u.ringHeld r := by rw [hu]; exact ⟨hv, htx, hk, hroom⟩
  have huadm : u.admitOwner (u.ringInst r) (u.ringDist r (u.ringPut r) k * u.ringWords r) = .ok := by
    rw [← hadm, State.admitOwner_congr (s := s) (by rw [hu]; exact fun _ _ => rfl) (by rw [hu]; rfl)]
    rw [hu]; rfl
  refine ends_ringWord2 hr hp (x := u.wr (F.CANRAM_RING2_PUT r) k) (arm_txPutWrite ..) ?_ ⟨?_, ?_⟩
  · rw [← hu, if_pos hall, huadm]
  · rw [hu]; exact (OnlyRegs.tick s t _).okay.wr _ (by simp)
  · exact (State.rd_wr_self ..).trans (Nat.mod_eq_of_lt (lt_trans hk hc))

omit hv in
theorem txPutWrite_still (h : s.rd (F.CANRAM_RING0_COUNT r) ≤ k ∨ s.rd (F.CANRAM_RING0_COUNT r) - 1 - s.ringHeld r < s.ringDist r (s.ringPut r) k) :
    Ends (.txPutWrite t a r k) s fun s' => s'.regs = s.regs ∧ s'.mem = s.mem := by
  obtain ⟨u, hu⟩ : ∃ u, u = (s.tick t).okay := ⟨_, rfl⟩
  have hno : ¬ (u.ringValid r = true ∧ u.ringTx r = true ∧ k < u.rd (F.CANRAM_RING0_COUNT r) ∧
      u.ringDist r (u.ringPut r) k ≤ u.rd (F.CANRAM_RING0_COUNT r) - 1 - u.ringHeld r) := by
    rw [hu]
    rintro ⟨-, -, h1, h2⟩
    exact h.elim (fun h => absurd h1 (Nat.not_lt.2 h)) fun h => absurd h2 (Nat.not_le.2 h)
  refine ends_ringWord2 hr hp (x := u) (arm_txPutWrite ..) ?_ (by rw [hu]; exact ⟨rfl, rfl⟩)
  rw [← hu, if_neg hno]

end
end
end

/-! ### Filter entries -/

theorem State.writeFilter_one (s : State) (e n : Nat) : s.writeFilter e 1 n =
    if s.flag (F.CANRAM_FLT0_VALID e) then s else s.wr (F.CANRAM_FLT1_ID1 e) (bits n 28 0) := rfl

theorem State.writeFilter_two (s : State) (e n : Nat) : s.writeFilter e 2 n =
    if s.flag (F.CANRAM_FLT0_VALID e) then s else s.wr (F.CANRAM_FLT2_ID2 e) (bits n 28 0) := rfl

section
variable (he : e < 16384) (hw4 : w < 4) (hp : (s.tick t).passes (0x40C00000 + 16 * e + 4 * w) a true = true)
include he hw4 hp

/-- A write that the entry's owner may make. -/
theorem filterWrite_attic (ha : a.attic = true) {P : State → Prop} (h : P ((s.tick t).okay.writeFilter e w v.toNat)) : Ends (.filterWrite t a e w v) s P := by
  have hm : ¬ (!(s.tick t).okay.mayFilter a e) = true := by
    unfold State.mayFilter; rw [ha, Bool.true_or]; decide
  have hz : ¬ ((!a.attic) = true ∧ ((s.tick t).okay.inst a.inst).state = .resetting) := by rw [ha]; exact fun h => absurd h.1 (by decide)
  exact ends_unit_guarded_eq (x := (s.tick t).okay.writeFilter e w v.toNat) (arm_filterWrite ..) (decide_eq_true ⟨he, hw4⟩) hp rfl
    ((if_neg hm).trans (if_neg hz)) h

theorem filterWrite_word0 (ha : a.attic = true) (hw : w = 0) : Ends (.filterWrite t a e w v) s fun s' =>
    s'.rd (F.CANRAM_FLT0_VALID e) = v.toNat / 2 ^ 31 ∧ s'.rd (F.CANRAM_FLT0_TYPE e) = v.toNat / 2 ^ 29 % 4 ∧
    s'.rd (F.CANRAM_FLT0_ACTION e) = v.toNat / 2 ^ 27 % 4 ∧ s'.rd (F.CANRAM_FLT0_XTD e) = v.toNat / 2 ^ 26 % 2 ∧
    s'.rd (F.CANRAM_FLT0_FMT e) = v.toNat / 2 ^ 24 % 4 ∧ s'.rd (F.CANRAM_FLT0_RING e) = v.toNat % 128 ∧
    s'.rd (F.CANRAM_FLT1_ID1 e) = s.rd (F.CANRAM_FLT1_ID1 e) := by
  refine filterWrite_attic he hw4 hp ha ?_
  subst hw
  obtain ⟨u, hu⟩ : ∃ u, u = (s.tick t).okay.updates (fltAddr e) ((s.tick t).okay.word (fltAddr e)) := ⟨_, rfl⟩
  have hreg (g : Fld) : u.rd g = s.rd g := by
    obtain ⟨x, hx⟩ := (s.tick t).okay.updates_eq (fltAddr e) ((s.tick t).okay.word (fltAddr e))
    rw [hu, hx]; rfl
  have hlt := v.isLt
  unfold State.writeFilter
  rw [← hu]
  refine ⟨?_, ?_, ?_, ?_, ?_, ?_, ?_⟩ <;>
    simp (disch := (simp only [ne_eq, Fld.key, F.CANRAM_FLT0_VALID, F.CANRAM_FLT0_TYPE, F.CANRAM_FLT0_ACTION, F.CANRAM_FLT0_XTD, F.CANRAM_FLT0_FMT, F.CANRAM_FLT0_RING,
      F.CANRAM_FLT1_ID1]; omega)) only [State.rd_wr_ne, State.rd_wr_self]
  · exact (Nat.mod_mod (v.toNat / 2 ^ 31) 2).trans (Nat.mod_eq_of_lt (by omega))
  · exact Nat.mod_mod (v.toNat / 2 ^ 29) 4
  · exact Nat.mod_mod (v.toNat / 2 ^ 27) 4
  · exact Nat.mod_mod (v.toNat / 2 ^ 26) 2
  · exact Nat.mod_mod (v.toNat / 2 ^ 24) 4
  · rw [bits, pow_zero, Nat.div_one]; exact Nat.mod_mod v.toNat 128
  · exact hreg _

theorem filterWrite_id1 (ha : a.attic = true) (hw : w = 1) (hv : s.flag (F.CANRAM_FLT0_VALID e) = false) : Ends (.filterWrite t a e w v) s fun s' =>
    OnlyRegs s t [F.CANRAM_FLT1_ID1 e] s' ∧ s'.rd (F.CANRAM_FLT1_ID1 e) = v.toNat % 2 ^ 29 := by
  have hv' : ¬ (s.tick t).okay.flag (F.CANRAM_FLT0_VALID e) = true := fun h => Bool.false_ne_true (hv.symm.trans h)
  refine filterWrite_attic he hw4 hp ha ?_
  subst hw
  rw [State.writeFilter_one, if_neg hv']
  refine ⟨(OnlyRegs.tick s t _).okay.wr _ (by simp), ?_⟩
  rw [State.rd_wr_self, bits, pow_zero, Nat.div_one]
  exact Nat.mod_mod v.toNat (2 ^ 29)

theorem filterWrite_locked (ha : a.attic = true) (hw : w = 1 ∨ w = 2) (hv : s.flag (F.CANRAM_FLT0_VALID e) = true) : Ends (.filterWrite t a e w v) s fun s' =>
    s'.regs = s.regs ∧ s'.mem = s.mem := by
  have hv' : (s.tick t).okay.flag (F.CANRAM_FLT0_VALID e) = true := hv
  refine filterWrite_attic he hw4 hp ha ?_
  rcases hw with rfl | rfl
  · rw [State.writeFilter_one, if_pos hv']; exact ⟨rfl, rfl⟩
  · rw [State.writeFilter_two, if_pos hv']; exact ⟨rfl, rfl⟩

theorem filterWrite_denied (hm : s.mayFilter a e = false) : Ends (.filterWrite t a e w v) s fun s' =>
    OnlyRegs s t ([F.VIM_INST_CNT_FLT_DENIED a.inst] ++ if a.inst = 0 then [F.VIM_CNT_MAP_MISS] else []) s' ∧
    s'.rd (F.VIM_INST_CNT_FLT_DENIED a.inst) = satSucc (F.VIM_INST_CNT_FLT_DENIED a.inst).width (s.rd (F.VIM_INST_CNT_FLT_DENIED a.inst)) := by
  have hm' : (!(s.tick t).okay.mayFilter a e) = true := by rw [show (s.tick t).okay.mayFilter a e = false from hm]; rfl
  refine ends_unit_guarded_eq (x := ((s.tick t).okay.inc (F.VIM_INST_CNT_FLT_DENIED a.inst)).noteMiss a) (arm_filterWrite ..) (decide_eq_true ⟨he, hw4⟩) hp rfl
    (if_pos hm') ?_
  have hself : ((s.tick t).okay.inc (F.VIM_INST_CNT_FLT_DENIED a.inst)).rd (F.VIM_INST_CNT_FLT_DENIED a.inst) =
      satSucc (F.VIM_INST_CNT_FLT_DENIED a.inst).width (s.rd (F.VIM_INST_CNT_FLT_DENIED a.inst)) :=
    (State.rd_inc_self ..).trans (Nat.mod_eq_of_lt (satSucc_lt ..))
  unfold State.noteMiss
  by_cases h : (!a.attic) = true ∧ a.inst = 0
  · rw [if_pos h]
    refine ⟨((OnlyRegs.tick s t _).okay.inc (by simp)).inc (by simp [h.2]), ?_⟩
    rw [State.rd_inc_ne _ (by simp only [ne_eq, Fld.key, F.VIM_CNT_MAP_MISS, F.VIM_INST_CNT_FLT_DENIED]; omega)]
    exact hself
  · rw [if_neg h]; exact ⟨(OnlyRegs.tick s t _).okay.inc (by simp), hself⟩

end

/-- Settles O45: before its filter acts a frame changes registers of its controller alone, so the filter finds what stood there. -/
theorem canReception : Obligations.CanReception := by
  unfold Obligations.CanReception
  intro s t c e r k w a f v hr
  dsimp only
  refine ⟨fun hc hon hf => ⟨fun hhit hdef => canFrameRx_default hc hon hf hhit hdef, fun hhit he hact => canFrameRx_reject hc hon hf hhit he hact,
      fun hhit he hact hring hv htx => ⟨fun hroom hi hadm => canFrameRx_stored hc hon hf hhit he hact hring hv htx hroom hi hadm,
        fun hroom => canFrameRx_full hc hon hf hhit he hact hring hv htx hroom⟩⟩,
    fun hp => ⟨fun hv => ?_, fun hv h31 => ringDescWrite0_valid hr hp hv h31⟩,
    fun hp => ⟨fun hv => ringDescWrite1_free hr hp hv, fun hv => ringDescWrite1_valid hr hp hv⟩,
    fun hp hv hcnt hi => ⟨fun htx => ?_, fun htx => ?_⟩,
    fun he hw4 hp => ⟨fun ha hw => filterWrite_word0 he hw4 hp ha hw, fun ha hw hv => filterWrite_id1 he hw4 hp ha hw hv,
      fun ha hw hv => filterWrite_locked he hw4 hp ha hw hv, fun hm _ => filterWrite_denied he hw4 hp hm⟩⟩
  · refine (ringDescWrite0_free hr hp hv).mono fun s' h => ?_
    obtain ⟨h1, ⟨h2, h3, h4, h5, h6⟩, h7, h8⟩ := h
    exact ⟨h1, h2, h3, h4, h5, h6, h7, h8⟩
  · exact ends_ringAck hr hp (last := fun s => s.ringPut r) (b := fun s => s.ringValid r = true ∧ (!s.ringTx r) = true) ⟨hv, by rw [show (s.tick t).okay.ringTx r = false from htx]; rfl⟩
      hcnt hi (by rw [arm_rxGetWrite]; simp only [and_assoc]; rfl) rfl
  · obtain ⟨h1, h2⟩ := ends_ringAck hr hp (last := fun s => s.ringDone r) (b := fun s => s.ringValid r = true ∧ s.ringTx r = true) ⟨hv, htx⟩
      hcnt hi (cmd := .reclaimWrite t a r k) (by rw [arm_reclaimWrite]; simp only [and_assoc]; rfl) rfl
    exact ⟨h1, h2, fun hk hroom hadm => txPutWrite_taken hr hp hv htx hcnt hk hroom hadm, fun h => txPutWrite_still hr hp h⟩

end Sys2Proof.Machine
end
